-- ==== Sys2Proof/Word.lean ====
section
/-! DEFINITION. The word and octet types of the block (R6, R8). -/

namespace Sys2Proof

/-- A register: 32 bits unless the manual states otherwise (R8). -/
abbrev Word := BitVec 32

/-- An octet. -/
abbrev Byte := BitVec 8

/-- An octet string, byte 0 first in memory (R5, R6). -/
abbrev Bytes := List Byte

/-- Sparse data by number: pairs in one canonical form (keys strictly rising, no pair that says what
an absent key already says). The operations are in Machine/Map.lean. -/
abbrev SMap (α : Type) := List (Nat × α)

end Sys2Proof
end

