-- ==== Sys2Proof/Types.lean ====
section
/-! DEFINITION. The data the manual names: register fields, instances, queue entries, policies,
objects, journal records and beads, jobs, meters, events, cards and signets. Commands carry some of
these, State holds them all. -/

namespace Sys2Proof.Machine

/-! ## Registers (R7, R8) -/

/-- A register field: the internal address of its register, its lowest bit, its width. -/
structure Fld where
  addr : Nat
  lo : Nat
  width : Nat
  deriving DecidableEq, Repr

/-- The access codes of R8. -/
inductive Access where
  | ro | rw | wo | w1c | w1s | rws | lock
  deriving DecidableEq, Repr

/-- A row of a register map: bits, access, reset value and the range its definition states;
`align` is the unit a value must be a multiple of. -/
structure FldSpec where
  hi : Nat
  lo : Nat
  acc : Access
  reset : Nat
  least : Nat
  most : Nat
  align : Nat
  deriving DecidableEq, Repr

/-- `count` registers of one layout, the first at `base`, `stride` apart. -/
structure RegRow where
  base : Nat
  count : Nat
  stride : Nat
  fields : List FldSpec
  deriving DecidableEq, Repr

/-- The world of an access: secure, or normal. -/
inductive World where
  | secure | normal
  deriving DecidableEq, Repr

/-! ## Time (R10, R12) -/

/-- The three time states of R12. -/
inductive TimeState where
  | unanchored | holdover | anchored
  deriving DecidableEq, Repr

/-- A release stamp: tick and time state of the cycle it was taken in (R16). -/
structure Stamp where
  tick : Nat
  state : TimeState
  minute : Nat
  deriving DecidableEq, Repr

/-! ## Status codes and completions (R108, R110) -/

/-- STATUS of a completion entry (R110; code 0x02 is not used). -/
inductive Status where
  | done | deniedPolicy | approvalExpired | usageExhausted | rateLimited | noSuchObject
  | badCommand | engineReject | tagMismatch | rngStalled | squashed | alarmAbort | deviceHalted
  | notActive | commitLost | bufferFault | tooLarge | timeUnknown
  deriving DecidableEq, Repr

/-- The code of a status (R110). -/
def Status.code : Status → Nat
  | .done => 0x00 | .deniedPolicy => 0x01 | .approvalExpired => 0x03 | .usageExhausted => 0x04
  | .rateLimited => 0x05 | .noSuchObject => 0x06 | .badCommand => 0x07 | .engineReject => 0x08
  | .tagMismatch => 0x09 | .rngStalled => 0x0A | .squashed => 0x0B | .alarmAbort => 0x0C
  | .deviceHalted => 0x0D | .notActive => 0x0E | .commitLost => 0x0F | .bufferFault => 0x10
  | .tooLarge => 0x11 | .timeUnknown => 0x12

/-- An error the device reports through AER (R38). -/
inductive AerError where
  | unsupportedOrAbort | poisoned | completionTimeout
  deriving DecidableEq, Repr

/-- The fields of a completion entry (R108). -/
structure Completion where
  tag : Nat
  status : Nat
  flags : Nat
  detail : Nat
  outputLen : Nat
  releaseTick : Nat
  result : Nat
  bead : Nat
  deriving DecidableEq, Repr

/-! ## Policies and objects (R94 to R98, R215) -/

/-- A policy record (R97); `reserved` holds EXPORT bits 7:2 and FLAGS bits 15:1 as carried. -/
structure Policy where
  opMask : Nat
  quorum : List Nat
  exportBits : Nat
  fwPolicy : Bool
  fwRule : Nat
  usageLimit : Nat
  notBefore : Nat
  notAfter : Nat
  label : Bytes
  reserved : Nat
  deriving DecidableEq, Repr

/-- A sealed object (R215): the header's fields and the stored encoding of R216 it seals. -/
structure Obj where
  handle : Nat
  type : Nat
  size : Nat
  svn : Nat
  enc : Bytes
  sealCount : Nat
  sealClasp : Nat
  highWater : Nat
  counter : Nat
  bead : Nat
  policy : Policy
  deriving DecidableEq, Repr

/-- STATE of a directory entry (R221); EMPTY slots and LINK slots are the table's layout. -/
inductive EntryState where
  | committed | pending | damaged
  deriving DecidableEq, Repr

/-- A directory entry (R221). -/
structure DirEntry where
  handle : Nat
  offset : Nat
  lines : Nat
  state : EntryState
  type : Nat
  pendInst : Nat
  pendGen : Nat
  pendJob : Nat
  deriving DecidableEq, Repr

/-! ## Strand records and beads (R180 to R183) -/

/-- The payloads of R181. -/
inductive RecBody where
  | objectCreate (o : Obj)
  | objectDestroy (handle : Nat)
  | policySet (handle : Nat) (p : Policy)
  | usageBlock (handle first last : Nat)
  | counterAdvance (handle step value : Nat)
  | odWrite (index sub typ : Nat) (value : Bytes) (session : Nat) (signet : Bytes)
  | checkpoint (bead : Nat) (manifest : Bytes)
  | claspStart (gen head : Nat)
  | rollbackAccepted (before presented : Nat) (signet : Bytes)
  deriving DecidableEq, Repr

/-- Where a record comes from: SOURCE of R180. -/
inductive RecSource where
  | instanceQueue | adminMailbox | session (slot : Nat) | secureFirmware | strandEngine
  deriving DecidableEq, Repr

/-- A strand record (R180); `job` names the Locket job that joined it, `reply` the number of the
dictionary response that waits for it; `dropped` marks a record its application dropped (R115), `durable`
one submitted with the durable flag (R68). -/
structure Rec where
  role : Nat
  source : RecSource
  tick : Nat
  inst : Nat
  owner : Nat
  tag : Nat
  body : RecBody
  job : Option Nat
  reply : Option Nat
  dropped : Bool := false
  durable : Bool := false
  deriving DecidableEq, Repr

/-- A bead (R183): its header fields and its records in join order; SEQ is the position. -/
structure Bead where
  num : Nat
  clasp : Nat
  svn : Nat
  sizeClosed : Bool
  firstOfClasp : Bool
  closeTick : Nat
  domain : Nat
  prevHash : Bytes
  recs : List Rec
  deriving DecidableEq, Repr

/-- An item a presented strand lists (R202): a manifest, a chunk of a segment, or a bead; each with
the octets of its tag as presented. -/
inductive StrandItem where
  | manifest (b svn clasp domain : Nat) (hashOfB : Bytes) (closeTick : Nat)
      (segments : List (Nat × Nat)) (tag : Bytes)
  | chunk (b svn clasp domain segment index count firstHash : Nat) (objs : List Obj) (od : List (Nat × Bytes)) (tag : Bytes)
  | bead (b : Bead) (tag : Bytes)
  | unreadable
  deriving DecidableEq, Repr

/-- The object dictionary roles (R9, R501). -/
inductive Role where
  | manager | officer | observer | secure
  deriving DecidableEq, Repr

/-- The code by which records carry a role (R180); OBSERVER, who never writes, has none there. -/
def Role.code : Role → Nat
  | .manager => 1 | .officer => 2 | .secure => 3 | .observer => 0

/-- The role of a code of MGP_OD_CTRL.ROLE or SESSION_ROLE (R509, R511). -/
def Role.ofCode : Nat → Role
  | 0 => .manager
  | 1 => .officer
  | 2 => .observer
  | _ => .secure

/-- A source of dictionary accesses (R505). -/
inductive OdSource where
  | admin | session (slot : Nat) | secureFirmware
  deriving DecidableEq, Repr

/-- The parts received of a write (R497): the entry as index × 256 + sub-index, TYPE code, TOTAL_LEN, the bytes so
far. -/
structure WriteParts where
  key : Nat
  typ : Nat
  total : Nat
  bytes : Bytes
  deriving DecidableEq, Repr

/-- What surrounds a dictionary access: its source, and for the admin mailbox the TAG, the flags and
the output of the submission entry (R42, R504); for an access submitted through the MGP_OD registers `outAddr` is the
address of its message, and `outCap` is not 0 (R506). `role` is the role it is made in. -/
structure OdReq where
  src : OdSource
  tag : Nat
  noIrq : Bool
  durable : Bool
  outAddr : Nat
  outCap : Nat
  role : Role := .manager
  deriving DecidableEq, Repr

/-! ## Host-visible writes -/

/-- What the block sends toward the host or its own interrupt lines, in the order sent. A request made for an
instance carries its PASID in a prefix, and its address is one under that PASID (R45); those of the mailbox and of the
rings carry none (R41, R171, R186). A completion is the 32-octet image of its entry (R51, R108). -/
inductive HostWrite where
  | read (inst pasid addr len : Nat)
  | output (inst pasid addr : Nat) (data : Bytes)
  | completion (inst pasid addr : Nat) (entry : Bytes)
  | adminRead (addr len : Nat)
  | adminOutput (addr : Nat) (data : Bytes)
  | adminCompletion (addr : Nat) (entry : Bytes)
  | msix (vector : Nat)
  | meter (addr : Nat) (data : Bytes)
  | journal (addr : Nat) (data : Bytes)
  | odResponse (src : OdSource) (result bead : Nat) (data : Bytes)
  | puesh (slot : Nat) (message : Bytes)
  deriving DecidableEq, Repr

/-- The outcome of a DMA read (R38): the data, or one of the failures. -/
inductive DmaResult where
  | data (b : Bytes)
  | urOrCa
  | poisoned
  | timeout
  deriving DecidableEq, Repr

/-- What a DMA read was made for (R38). -/
inductive DmaTarget where
  | fetch (inst : Nat)
  | adminFetch
  | adminInput (entry : Bytes)
  | input (job : Nat)
  | paramBlock (job : Nat)
  | discarded (inst : Nat)
  deriving DecidableEq, Repr

/-- What the host writes of the function's configuration beside its enables (R36, R44): the MSI-X function mask, Max
Payload Size and Max Read Request Size in octets, the completion timeout's range code. -/
structure HostConfig where
  fnMask : Bool
  maxPayload : Nat
  maxRead : Nat
  timeout : Nat
  deriving DecidableEq, Repr

/-! ## Jobs (R66, R70) -/

/-- The Locket states of R70, and a detached job of R58. -/
inductive Stage where
  | fetched | preparing | running | held | denying | releasing | detached
  deriving DecidableEq, Repr

/-- The confirmations of R66. -/
structure Confs where
  policy : Bool
  usage : Bool
  approval : Bool
  sealed : Bool
  durable : Bool
  deriving DecidableEq, Repr

/-- The refusals of R113. -/
inductive Refusal113 where
  | denied (detail : Nat)
  | timeUnknown
  | usageExhausted
  | approvalExpired
  deriving DecidableEq, Repr

/-- The engine classes of R161, and the derivation unit of R117. -/
inductive Engine where
  | big | lat | sym | rng | kdf | none
  deriving DecidableEq, Repr

/-- What the command's own rules make of a job before its engine starts: the outcome its engine will
give, the output, the records it joins, the object it creates, and the work: one step for each engine
class it uses in turn, with its engine time in nanoseconds (R161, R166); a step of class RNG is a later
draw (R62, R275). -/
structure Plan where
  status : Status
  detail : Nat
  output : Bytes
  recs : List RecBody
  newObj : Option Obj
  steps : List (Engine × Nat)
  deriving DecidableEq, Repr

/-- Where the search for an RSA key stands (R275): the prime found, the candidate, the round under way, 0 for the
finishing step. -/
structure RsaSearch where
  found : Option Nat
  cand : Nat
  round : Nat
  deriving DecidableEq, Repr

/-- A job entry of the Locket (R70, R106). `order` is its place in fetch order, `primary` its handle
as resolved, `unsealing` the handles whose unseal is awaited, `deps` the entries of the jobs it depends
on and that are not released (R75), `steps` the work still to do, `search` that of an RSA key generation, `unit` the engine and the core, lane or generator at work, `readySeq` the order in which it
became ready for its engine, `fwPosted` the tick its policy request was or would have been posted in, `fwSent`
whether it has been (R122), `destroyWait` the KEY_DESTROYs it waits for (R78), `tagFails` the objects whose unseal failed for it, the
event still to be recorded (R63, R355), `streamed` the octets of output its lane has written (R17, R304). -/
structure Job where
  inst : Nat
  gen : Nat
  entry : Bytes
  fetchTick : Nat
  order : Nat
  stage : Stage
  rateAdmitted : Bool
  refills : Nat
  waitLimit : Nat
  waitedTicks : Nat
  gran : Nat
  granWaited : Bool
  held : Bool
  splitHeld : Bool
  primary : Nat
  looked : Bool
  target : Option Obj
  second : Option Obj
  damaged : Bool
  unsealing : List Nat
  deps : List Nat
  squash : Bool
  destroyWait : List Nat
  tagFails : List Nat
  reads : Nat
  input : Option Bytes
  param : Option Bytes
  rnd : Option Bytes
  plan : Option Plan
  search : Option RsaSearch
  steps : List (Engine × Nat)
  need : Confs
  got : Confs
  durableBeads : List Nat
  quorum : Nat
  refused : List Refusal113
  fwPosted : Option Nat
  fwSent : Bool
  seqNo : Nat
  useNo : Option Nat
  drawTick : Nat
  stepTick : Nat
  unit : Option (Engine × Nat)
  readySeq : Nat
  started : Bool
  ended : Bool
  deadline : Bool
  busyNs : Nat
  joined : Option Nat
  forced : Option (Status × Nat)
  stamp : Option Stamp
  stampSeq : Nat
  status : Status
  detail : Nat
  output : Bytes
  streamed : Nat
  resultHandle : Nat
  deriving DecidableEq, Repr

/-- An entry of the record kept for reference handles (R76): one of the last 64 released creating
jobs. -/
structure Released where
  inst : Nat
  gen : Nat
  tag : Nat
  done : Bool
  handle : Nat
  creates : Bool
  order : Nat
  deriving DecidableEq, Repr

/-! ## Meters (R166 to R174) -/

/-- A class block of a meter record, the busy time kept in nanoseconds (R166). -/
structure ClassMeter where
  ops : Nat
  denied : Nat
  busyNs : Nat
  bytes : Nat
  deriving DecidableEq, Repr

/-- An open or closed meter record (R170); instance 0xFFFF is the device record (R169); `win` is the number, counted from
main reset, of the first window covered. -/
structure Meter where
  inst : Nat
  owner : Nat
  flags : Nat
  win : Nat
  windows : Nat
  start : Nat
  stop : Nat
  minute : Nat
  gen : Nat
  rateLimited : Nat
  other : Nat
  waitTicks : Nat
  classes : List ClassMeter
  deriving DecidableEq, Repr

/-! ## Events (R472) -/

/-- A record of the event recorder (R472). -/
structure EventRec where
  code : Nat
  severity : Nat
  isOpen : Bool
  unpowered : Bool
  short : Bool
  archived : Bool
  timeState : Nat
  seq : Nat
  windowStart : Nat
  minute : Nat
  count : Nat
  firstTick : Nat
  lastTick : Nat
  least : Nat
  most : Nat
  firstValue : Nat
  lastValue : Nat
  valueOr : Nat
  hist : List Nat
  surplusIn : Nat
  detail : Bytes
  deriving DecidableEq, Repr

/-! ## Parameters of the published algorithms -/

/-- What selects a signature of R131: SCHEME, HASH, the two MODE bits, SALT_LEN, and the key's type
and size. -/
structure SigParams where
  scheme : Nat
  hash : Nat
  prehashed : Bool
  det : Bool
  saltLen : Nat
  type : Nat
  size : Nat
  deriving DecidableEq, Repr

/-- A curve y² = x³ − 3x + b over the integers modulo p, with its base point and its order (R2, FIPS 186-5). -/
structure Curve where
  p : Nat
  b : Nat
  gx : Nat
  gy : Nat
  n : Nat
  deriving DecidableEq, Repr, Inhabited

/-- What selects a firmware lane job: the fields of SYM_Ln_CTRL (R310). -/
structure LaneParams where
  mode : Nat
  hash : Nat
  dec : Bool
  tagLen : Nat
  nonceLen : Nat
  deriving DecidableEq, Repr

/-! ## Signets, approvals and cards (R362 to R372) -/

/-- The states of CRD_STATUS.SIGNET (R377). -/
inductive SignetState where
  | none | isOpen | complete | expired | consumed
  deriving DecidableEq, Repr

/-- A signet (R365): the fields of its statement and the approvals it holds (R367). -/
structure Signet where
  state : SignetState
  action : Nat
  index : Nat
  sub : Nat
  quorum : Nat
  enrolee : Bool
  number : Nat
  openTick : Nat
  endTick : Nat
  nonce : Bytes
  valueHash : Bytes
  approvals : List (Nat × Bytes)
  enroleeSig : Option Bytes
  deriving DecidableEq, Repr

/-- A held owner approval (R372), `order` the position in which it came to be held. -/
structure Approval where
  owner : Nat
  cls : Nat
  approver : Nat
  handle : Nat
  notAfter : Nat
  ident : Nat
  order : Nat
  tag : Bytes
  deriving DecidableEq, Repr

/-! ## Dictionary (R500 to R503) -/

/-- RESULT codes (R503). -/
inductive OdResult where
  | ok | noEntry | access | role | type | range | wrongState | signet | exhausted | notActive
  | commitLost | busy | offset
  deriving DecidableEq, Repr

/-- The code of a result (R503). -/
def OdResult.code : OdResult → Nat
  | .ok => 0x00 | .noEntry => 0x01 | .access => 0x02 | .role => 0x03 | .type => 0x04 | .range => 0x05
  | .wrongState => 0x06 | .signet => 0x07 | .exhausted => 0x08 | .notActive => 0x09
  | .commitLost => 0x0A | .busy => 0x0B | .offset => 0x0D

/-- The dictionary access codes of R9. -/
inductive OdAccess where
  | ro | rw | wo | rws | rwq | rwl
  deriving DecidableEq, Repr

/-- The storage classes of R502. -/
inductive OdClass where
  | volatile | persistent | unitLocal | otp
  deriving DecidableEq, Repr

/-- Wire types of R500 with the bytes they take; octet strings hold up to `n` bytes. -/
inductive OdType where
  | u8 | u16 | u32 | u64 | i32 | bool | octet (n : Nat) | time64
  deriving DecidableEq, Repr

/-- A row of the dictionary: entries of indices `index` to `index + count − 1` and sub-indices `sub` to
`sub + subCount − 1`, with the type, access, storage class, default, range and the roles that may write
(R501). -/
structure OdRow where
  index : Nat
  sub : Nat
  count : Nat
  subCount : Nat
  type : OdType
  access : OdAccess
  cls : OdClass
  default : Nat
  least : Nat
  most : Nat
  writers : List Role
  deriving DecidableEq, Repr

/-- A dictionary response that waits for its release (R42, R505): its number, where it goes, whether
it needs the durable index, and what it will say; `kind` and `flags` are TYPE and FLAGS of its Puesh message
(R496). -/
structure Reply where
  num : Nat
  req : OdReq
  result : Option OdResult
  bead : Nat
  output : Bytes
  badDetail : Option Nat
  kind : Nat := 0x82
  flags : Nat := 0
  grant : Nat := 1
  again : Option Bytes := none
  deriving DecidableEq, Repr

/-! ## The Flallani link (R249, R250) -/

/-- What a HELLO announces (R250). -/
structure HelloData where
  serial : Nat
  svn : Nat
  position : Nat
  pairState : Nat
  role : Nat
  domain : Nat
  nonce : Bytes
  deriving DecidableEq, Repr

/-- What a sealed frame brings beside its message (R249, R251): its SEQ and its tag. -/
structure FrameHead where
  seq : Nat
  tag : Bytes
  deriving DecidableEq, Repr

/-- The payload of PAIR_OFFER, PAIR_REPLY or PAIR_DONE (R250): `kem` the encapsulation key or the
ciphertext, `point` the ephemeral point; fields a message does not have are empty. -/
structure PairMessage where
  sender : Nat
  receiver : Nat
  domain : Nat
  idKey : Bytes
  kem : Bytes
  point : Bytes
  officers : List Bytes
  installs : Nat
  sig : Bytes
  deriving DecidableEq, Repr

/-! ## Boot (R443) -/

/-- An image slot of the flash, or a recovery container: its 16 KiB header, the secure and the normal-world
image, and whether the reads completed. -/
structure BootImage where
  header : Bytes
  secure : Bytes
  normal : Bytes
  readable : Bool
  deriving DecidableEq, Repr

/-- What the boot ROM finds outside the block (R211, R443, R572): the straps STRAP_BOOT1:0, STRAP_PAIRID and
STRAP_PLCA2:0; the DIMMs as read and trained, each GiB and whether two a channel, nothing where they are mismatched
or training fails; the two slots; whether the checks of the two BBRAM areas hold. -/
structure BootInputs where
  strapBoot : Nat
  strapPair : Nat
  strapPlca : Nat
  dimms : Option (Nat × Bool)
  slotA : BootImage
  slotB : BootImage
  secretOk : Bool
  alarmOk : Bool
  deriving DecidableEq, Repr

end Sys2Proof.Machine
end

