-- ==== Sys2Proof/Syntax.lean ====
section
/-! DEFINITION. The commands of the block: one constructor for each row of the table of operations and
events. The rows give no operands; each constructor carries who or what the command concerns, the
value written, and the data that reaches the block from outside with it (log entry 1). -/

namespace Sys2Proof

open Sys2Proof.Machine

/-- A command: a write or read of a register or entry, a message, an edge on a pin, or an event the
manual names as one indivisible step. -/
inductive Instr where
  /-- PERST_N_ASSERT (R37). Conventional reset by PERST_N acts as RESET on every ENABLED or FAULTED instance, stops the admin mailbox and retrains the link. -/
  | perstNAssert
  /-- FUNCTION_LEVEL_RESET (R37). A Function Level Reset acts as RESET on every ENABLED or FAULTED instance and stops the admin mailbox. -/
  | functionLevelReset
  /-- BUS_MASTER_ENABLE_CLEAR (R37). Clearing Bus Master Enable resets active instances, stops the admin mailbox and drops pending upstream writes. -/
  | busMasterEnableClear
  /-- BUS_MASTER_ENABLE_SET (R188). Setting Bus Master Enable again resumes strand export, rewriting an interrupted bead in full, and resumes meter delivery. -/
  | busMasterEnableSet (pasidEn : Bool) (cfg : HostConfig)
  /-- DMA_READ_COMPLETE (R38). A DMA read made for a job or a submission fetch completes, or fails and ends the job BUFFER_FAULT or faults the instance. -/
  | dmaReadComplete (target : DmaTarget) (r : DmaResult)
  /-- ADMIN_MAILBOX_ENABLE (R41). Setting HST_AQ_CFG.ENABLE zeroes the pointers and phase and starts the admin mailbox. -/
  | adminMailboxEnable (depthLog2 : Nat)
  /-- ADMIN_MAILBOX_DISABLE (R41). Clearing HST_AQ_CFG.ENABLE stops fetching after the command in progress completes. -/
  | adminMailboxDisable
  /-- ADMIN_SQ_TAIL_WRITE (R42). A write of HST_AQ_SQ_TAIL makes admin entries eligible for fetch and execution in order. -/
  | adminSqTailWrite (tail : Nat)
  /-- OD_READ (R504). Admin mailbox command that reads an object dictionary entry in role MANAGER. -/
  | odRead (entry : Bytes)
  /-- OD_WRITE (R504). Admin mailbox command that writes an object dictionary entry, persistent writes becoming strand records. -/
  | odWrite (entry value : Bytes) (items : List StrandItem)
  /-- MSIX_VECTOR_UNMASK (R44). Unmasking a vector with its pending bit set sends one MSI-X message. -/
  | msixVectorUnmask (vector : Nat)
  /-- SQ_TAIL_WRITE (R48). A doorbell tail write makes submission entries eligible for fetch and wakes the device from NAP. -/
  | sqTailWrite (inst tail : Nat)
  /-- CQ_HEAD_WRITE (R49). A doorbell head write frees completion slots, letting waiting releases proceed. -/
  | cqHeadWrite (inst head : Nat)
  /-- SUBMISSION_FETCH (R83). The host port fetches up to 32 eligible entries of an instance once Locket job entries can be reserved below SPEC_DEPTH. -/
  | submissionFetch
  /-- INSTANCE_OWNER_WRITE (R54). A write of OWNER binds or unbinds an instance, opening or closing its meter record. -/
  | instanceOwnerWrite (q : OdReq) (inst : Nat) (value : Bytes)
  /-- INSTANCE_ENABLE (R55). CONTROL ENABLE enables a BOUND instance when its conditions hold, or holds it during a drain. -/
  | instanceEnable (q : OdReq) (inst : Nat)
  /-- INSTANCE_RESET (R58). CONTROL RESET is accepted in one cycle and treats each job of the instance by the stage it has reached. -/
  | instanceReset (q : OdReq) (inst : Nat)
  /-- INSTANCE_DRAIN_COMPLETE (R60). When the drain ends the generation increments and a held enable executes, releasing the admin completions. -/
  | instanceDrainComplete (inst : Nat)
  /-- CMD_TIMEOUT_EXPIRY (R62). A job still waiting for random numbers when its CMD_TIMEOUT expires ends RNG_STALLED. -/
  | cmdTimeoutExpiry (job : Nat)
  /-- RATE_BUCKET_ADMIT (R158). A job waiting on its class bucket is admitted once the bucket holds its cost. -/
  | rateBucketAdmit (job : Nat)
  /-- WAIT_LIMIT_EXPIRY (R159). A job not admitted after its WAIT_LIMIT-th counted refill ends RATE_LIMITED. -/
  | waitLimitExpiry (job : Nat)
  /-- LOCKET_ADMISSION (R85). A fetched job obtains its granules in strict round-robin order and enters PREPARING. -/
  | locketAdmission
  /-- DIRECTORY_LOOKUP_COMPLETE (R93). The directory lookup for a handle ends, finding the object or ending the job NO_SUCH_OBJECT. -/
  | directoryLookupComplete (job : Nat)
  /-- OBJECT_UNSEAL_COMPLETE (R355). An object's unseal ends, filling a setting or marking the entry DAMAGED on a tag failure. -/
  | objectUnsealComplete (job : Nat) (tagOk : Bool)
  /-- ENGINE_START (R162). A ready job is dispatched by deficit round robin to a free core or lane and its key is delivered over the key bus. -/
  | engineStart (cls : Engine) (badSetting : Option Nat) (shareable : List Nat)
  /-- ENGINE_WORK_END (R70). A job's engine work ends; its result is held, zeroed if refused, and the core or lane is cleared. -/
  | engineWorkEnd (job stallNs : Nat)
  /-- POLICY_HW_DECISION (R66). The policy unit decides a hardware policy and records POLICY or a refusal. -/
  | policyHwDecision (job : Nat)
  /-- POLICY_REQUEST_POST (R122). After the input read, the device posts a firmware policy request record to the ring when enabled and not full. -/
  | policyRequestPost (job : Nat)
  /-- POLICY_PERMIT (R122). LKT_POL_DECIDE with VERDICT PERMIT records POLICY for the named job, or is counted stale. -/
  | policyPermit (job seq : Nat)
  /-- POLICY_DENY (R122). LKT_POL_DECIDE with VERDICT DENY records a refusal for the named job, or is counted stale. -/
  | policyDeny (job seq : Nat)
  /-- POLICY_DECISION_TIMEOUT (R122). A job with no firmware decision TIMEOUT ticks after its request ends DENIED_POLICY detail 0x0108. -/
  | policyDecisionTimeout (job : Nat)
  /-- USAGE_BLOCK_CREATE (R194). A new usage reservation block record is created once the previous block is durable, and uses are reserved from it. -/
  | usageBlockCreate (handle : Nat)
  /-- APPROVAL_WAIT_EXPIRY (R374). A job whose approval count stays below quorum for APPROVAL_WAIT ticks ends APPROVAL_EXPIRED. -/
  | approvalWaitExpiry (job : Nat)
  /-- LANE_DEADLINE_EXPIRY (R307). A refused lane job is released at its lane deadline and its lane freed. -/
  | laneDeadlineExpiry (job stallNs : Nat)
  /-- RESULT_RELEASE (R16). A confirmed job is released: output DMA, completion entry, MSI-X, meter and event recorder under one stamp. -/
  | resultRelease (job : Nat)
  /-- LOCKET_PEAK_CLEAR (R89). Writing LKT_CTRL.PEAK_CLEAR clears the Locket peak counts. -/
  | locketPeakClear
  /-- KEY_GENERATE (R114). Command that generates a new key object under the owner's creation policy. -/
  | keyGenerate (job : Nat)
  /-- KEY_IMPORT (R116). Command that imports a wrapped key in one of three formats as a new object. -/
  | keyImport (job : Nat)
  /-- KEY_DERIVE (R117). Command that derives a child object from a DERIVE parent on the derivation unit. -/
  | keyDerive (job : Nat)
  /-- KEY_DESTROY (R119). Command that removes an object when its bead is sealed. -/
  | keyDestroy (job : Nat)
  /-- KEY_SET_POLICY (R105). Command that narrows an object's policy record. -/
  | keySetPolicy (job : Nat)
  /-- KEY_EXPORT_WRAPPED (R118). Command that exports an object by KWP or as a transfer blob. -/
  | keyExportWrapped (job : Nat)
  /-- KEY_DESCRIBE (R120). Command that returns an object's description and public output. -/
  | keyDescribe (job : Nat)
  /-- SIGN (R131). Command that signs a message or digest with an RSA, EC, EdDSA or ML-DSA object. -/
  | sign (job : Nat)
  /-- VERIFY (R133). Command that verifies a signature under a named or supplied public key. -/
  | verify (job : Nat)
  /-- ASYM_DECRYPT (R134). Command that decrypts an RSAES-OAEP ciphertext. -/
  | asymDecrypt (job : Nat)
  /-- ASYM_ENCRYPT (R135). Command that encrypts a message with RSAES-OAEP. -/
  | asymEncrypt (job : Nat)
  /-- AGREE (R136). Command that computes an ECDH or X25519/X448 shared secret. -/
  | agree (job : Nat)
  /-- ENCAPS (R137). Command that performs ML-KEM encapsulation. -/
  | encaps (job : Nat)
  /-- DECAPS (R138). Command that performs ML-KEM decapsulation. -/
  | decaps (job : Nat)
  /-- AEAD_SEAL (R140). Command that encrypts and authenticates data on a symmetric lane. -/
  | aeadSeal (job : Nat)
  /-- AEAD_OPEN (R141). Command that authenticates and decrypts data on a symmetric lane. -/
  | aeadOpen (job : Nat)
  /-- CIPHER (R142). Command that encrypts or decrypts with AES-CBC, CTR or XTS. -/
  | cipher (job : Nat)
  /-- MAC (R143). Command that generates or verifies a CMAC, GMAC or HMAC tag. -/
  | mac (job : Nat)
  /-- WRAP (R144). Command that wraps data with AES-KW or KWP. -/
  | wrap (job : Nat)
  /-- UNWRAP (R145). Command that unwraps data to the host or into a new object. -/
  | unwrap (job : Nat)
  /-- RANDOM (R146). Command that returns bytes from one DRBG generate call. -/
  | random (job : Nat)
  /-- HASH (R147). Command that computes a SHA-2, SHA-3 or SHAKE digest. -/
  | hash (job : Nat)
  /-- OWNER_APPROVE (R149). Command that verifies and holds an owner approval statement. -/
  | ownerApprove (job : Nat)
  /-- COUNTER_READ (R150). Command that reads, and optionally advances, a counter or usage high-water mark. -/
  | counterRead (job : Nat)
  /-- ATTEST_QUOTE (R152). Command that returns a signed attestation quote. -/
  | attestQuote (job : Nat)
  /-- TICK_INCREMENT (R28). The tick counter increments, closing the bead, refilling buckets, closing a minute window and raising the reseed request. -/
  | tickIncrement
  /-- BEAD_SEAL (R184). A closed bead is sealed under the pair seal key, committing its records and recording SEAL. -/
  | beadSeal
  /-- OVERLAY_RECORD_APPLY (R224). The store applies a sealed record from the change overlay by reseal or freeing and removes the handle. -/
  | overlayRecordApply
  /-- METER_RECORD_WRITE (R172). Closed meter records are written to the meter ring, then one MSI-X is sent on vector 3. -/
  | meterRecordWrite
  /-- METER_RING_ENABLE (R171). Setting HST_MTR_CFG.ENABLE zeroes HEAD and TAIL and starts delivery. -/
  | meterRingEnable (depthLog2 : Nat)
  /-- METER_RING_DISABLE (R173). Clearing HST_MTR_CFG.ENABLE stops delivery; unwritten records stay open flagged CARRIED. -/
  | meterRingDisable
  /-- METER_HEAD_WRITE (R174). A write of HST_MTR_HEAD frees ring space and re-offers a waiting SPLIT record. -/
  | meterHeadWrite (head : Nat)
  /-- JOURNAL_ITEM_WRITE (R187). A sealed bead or checkpoint item is written to the journal ring when free space holds it, advancing EXPORTED. -/
  | journalItemWrite
  /-- JOURNAL_EXPORT_ENABLE (R188). Setting HST_JNL_CFG.ENABLE zeroes WRITTEN and CONSUMED and restarts export. -/
  | journalExportEnable (sizeLog2 : Nat)
  /-- JOURNAL_EXPORT_DISABLE (R188). Clearing HST_JNL_CFG.ENABLE stops export. -/
  | journalExportDisable
  /-- JOURNAL_CONSUMED_WRITE (R188). A write of HST_JNL_CONSUMED frees ring space, or is discarded if out of range. -/
  | journalConsumedWrite (consumed : Nat)
  /-- JOURNAL_DURABLE_WRITE (R189). An accepted HST_JNL_DURABLE write advances the durable index and BBRAM head, recording DURABLE. -/
  | journalDurableWrite (bead : Nat)
  /-- CLASP_WRITE (R253). A write of HST_JNL_CLASP grants the clasp on a CLASP_WAIT unit or lapses an active unit's older clasp. -/
  | claspWrite (gen : Nat)
  /-- CLASP_LAPSE (R185). The clasp lapses L ticks after the last durable advance, withdrawing open records and ending waiting jobs. -/
  | claspLapse
  /-- CHECKPOINT_REQUEST (R197). A write of CHECKPOINT_REQUEST requests a checkpoint at the next close. -/
  | checkpointRequest (q : OdReq) (value : Bytes)
  /-- CKPT_REQ (R197). Secure firmware writing STR_CTRL.CKPT_REQ requests a checkpoint at the next close. -/
  | ckptReq
  /-- CHECKPOINT_COMPLETE (R201). When every changed segment and the manifest are exported, a CHECKPOINT record joins the open bead. -/
  | checkpointComplete
  /-- RESTORE_START (R203). A write of RESTORE_START presents a strand and begins loading and checking it. -/
  | restoreStart (q : OdReq) (value : Bytes)
  /-- RESTORE_LOAD_COMPLETE (R203). Loading ends, moving restore to CLASP_WAIT, REFUSED or FAILED. -/
  | restoreLoadComplete (items : List StrandItem)
  /-- ROLLBACK_ACCEPT (R203). A signet-backed write of ROLLBACK_ACCEPT sets the BBRAM head to the presented head. -/
  | rollbackAccept (q : OdReq) (value : Bytes)
  /-- LAZY_CHUNK_RESTORE (R232). The background restore cursor restores the next chunk with its overlay records. -/
  | lazyChunkRestore (ok : Bool)
  /-- RESIZE_CLEAR_COMPLETE (R226). The new directory table has been cleared and migration begins. -/
  | resizeClearComplete
  /-- RESIZE_BUCKET_MIGRATE (R227). One old directory bucket is migrated into two new buckets and the cursor advances. -/
  | resizeBucketMigrate
  /-- PATROL_SCRUB (R212). The patrol scrubber reads and corrects a DRAM line. -/
  | patrolScrub (corrected : Bool)
  /-- ECC_UNCORRECTABLE_ERROR (R240). An uncorrectable ECC error marks entries DAMAGED or blocks export and writes MEM_UNCORRECTABLE. -/
  | eccUncorrectableError (line : Nat)
  /-- PROTECTED_RANGE_COMMIT (R239). Writing MEM_PR_COMMIT.COMMIT commits the shadow ranges and increments the committed generation. -/
  | protectedRangeCommit
  /-- PROTECTED_RANGE_GEN_ACTIVE (R239). MEM_PR_GEN.ACTIVE takes the committed value once no older access remains. -/
  | protectedRangeGenActive
  /-- MIGRATE_FLOOR (R343). A write of MIGRATE_FLOOR starts the migration walk for objects below the floor. -/
  | migrateFloor (q : OdReq) (value : Bytes)
  /-- MIGRATE_WALK_STEP (R343). The migration walk places up to MIGRATE_RATE POLICY_SET records in a tick. -/
  | migrateWalkStep
  /-- OWNER_EPOCH (R351). A write of OWNER_EPOCH raises an owner's epoch when it holds no objects or instances. -/
  | ownerEpoch (q : OdReq) (owner : Nat) (value : Bytes)
  /-- DOMAIN_CREATE (R245). A write of DOMAIN_CREATE with two officer cards creates a pair domain. -/
  | domainCreate (q : OdReq) (value : Bytes)
  /-- DOMAIN_SEND (R247). A signet-backed write of DOMAIN_SEND starts sending the pair domain over the link. -/
  | domainSend (q : OdReq) (value : Bytes)
  /-- DOMAIN_ACCEPT (R245). A write of DOMAIN_ACCEPT arms the receiver to accept a pair domain. -/
  | domainAccept (q : OdReq) (value : Bytes)
  /-- DOMAIN_ACCEPT_EXPIRY (R245). The receiver's DOMAIN_ACCEPT arming lapses 300,000 ticks after it was written. -/
  | domainAcceptExpiry
  /-- HELLO (R251). Received HELLO message toward opening a Flallani session. -/
  | hello (h : HelloData)
  /-- CONFIRM (R251). Received CONFIRM message that opens the session or sets MISMATCH. -/
  | confirm (f : FrameHead) (nonces : Bytes)
  /-- HEAD_REQ (R259). Received request for the BBRAM head, answered with HEAD. -/
  | headReq (f : FrameHead)
  /-- HEAD (R259). Received BBRAM head, adopted when newer, possibly returning the standby to sleep. -/
  | head (f : FrameHead) (bead : Nat) (hash : Bytes) (gen : Nat) (visit : Bool)
  /-- VISIT_DONE (R259). Received report that a resync visit completed. -/
  | visitDone (f : FrameHead) (bead : Nat)
  /-- READY (R256). Received report of the partner's presented head in CLASP_WAIT. -/
  | ready (f : FrameHead) (head gen : Nat)
  /-- CLASP_PASS (R256). Received clasp pass that the partner accepts with g + 1 or refuses with CLASP_NAK. -/
  | claspPass (f : FrameHead) (gen final : Nat) (hash : Bytes)
  /-- CLASP_ACK (R255). Received acknowledgement that stops CLASP_PASS resends. -/
  | claspAck (f : FrameHead) (gen : Nat)
  /-- CLASP_NAK (R256). Received refusal of a CLASP_PASS with its reason. -/
  | claspNak (f : FrameHead) (reason : Nat)
  /-- KEEPALIVE (R251). Received keepalive carrying the partner's ROLE. -/
  | keepalive (f : FrameHead) (role : Nat)
  /-- PAIR_OFFER (R247). Received pairing offer checked by the receiver before an officer card. -/
  | pairOffer (m : PairMessage)
  /-- PAIR_REPLY (R247). Received pairing reply checked by the sender, then transport key computed. -/
  | pairReply (m : PairMessage)
  /-- PAIR_SECRET (R247). Received pair secret installed on the receiver under R246. -/
  | pairSecret (seq : Nat) (payload : Bytes)
  /-- PAIR_DONE (R247). Received confirmation that ends the pairing ceremony. -/
  | pairDone (m : PairMessage)
  /-- KEEPALIVE_SEND_TIMER (R251). Every 10 ticks while a session is UP each unit sends KEEPALIVE. -/
  | keepaliveSendTimer
  /-- FLALLANI_SESSION_TIMEOUT (R251). A session with no valid frame for 100 ticks goes DOWN. -/
  | flallaniSessionTimeout
  /-- HELLO_RETRY (R251). A unit without a session retries HELLO after 100 or 1,000 ticks. -/
  | helloRetry
  /-- HANDOVER (R255). A write of HANDOVER stops fetching and begins the planned handover. -/
  | handover (q : OdReq) (value : Bytes)
  /-- HANDOVER_COMPLETE (R255). When the Locket is empty and F is durable the unit becomes NOT_ACTIVE and sends CLASP_PASS. -/
  | handoverComplete
  /-- CLASP_PASS_RESEND (R255). An unacknowledged CLASP_PASS is resent every 10 ticks. -/
  | claspPassResend
  /-- APPEND_START (R256). A write of APPEND_START appends beads to the presented strand and sends READY. -/
  | appendStart (q : OdReq) (items : List StrandItem) (value : Bytes)
  /-- WAKE_PARTNER (R258). A write of WAKE_PARTNER sends a pulse on FLL_WAKE_OUT. -/
  | wakePartner (q : OdReq) (value : Bytes)
  /-- FLL_WAKE (R258). Secure firmware writing FLL_CTRL.WAKE sends a 10 µs pulse on FLL_WAKE_OUT. -/
  | fllWake
  /-- STAY_AWAKE (R259). A write of STAY_AWAKE keeps a woken standby awake. -/
  | stayAwake (q : OdReq) (value : Bytes)
  /-- RESYNC_VISIT_DUE (R259). RESYNC_INTERVAL ticks after the last visit, or after a miss, the active issues a resync wake pulse. -/
  | resyncVisitDue
  /-- VISIT_TIMEOUT (R259). A visit without VISIT_DONE within 2,000 ticks increments VISITS_MISSED and writes STANDBY_MISSED. -/
  | visitTimeout
  /-- SLP_WAKE_EDGE (R518). A rising edge of at least 1 µs on SLP_WAKE in SLEEP powers the main domain and starts a boot. -/
  | slpWakeEdge (b : BootInputs)
  /-- BGN_PROMOTE (R266). Writing a SPARE core's number to BGN_PROMOTE makes it ACTIVE. -/
  | bgnPromote (core : Nat)
  /-- BGN_HOLD (R266). Setting or clearing a BGN_HOLD bit moves a core to or from HELD after its running work. -/
  | bgnHold (core : Nat) (on : Bool)
  /-- BGN_FENCE (R266). Setting a BGN_FENCE bit fences a core after its running operation. -/
  | bgnFence (core : Nat)
  /-- BGN_CORE_CFG_WRITE (R280). Writing BGN_Cn_CFG on a held core sets the slot length and clears operand memory. -/
  | bgnCoreCfgWrite (core units : Nat)
  /-- MODADD (R271). Firmware modular addition on a held big-number core. -/
  | modadd (core param : Nat)
  /-- MODSUB (R271). Firmware modular subtraction on a held big-number core. -/
  | modsub (core param : Nat)
  /-- MODMUL (R271). Firmware modular multiplication on a held big-number core. -/
  | modmul (core param : Nat)
  /-- MODEXP (R271). Firmware modular exponentiation with a secret exponent on a held core. -/
  | modexp (core param : Nat)
  /-- MODEXP_PUB (R271). Firmware modular exponentiation with a public exponent on a held core. -/
  | modexpPub (core param : Nat)
  /-- MODINV (R271). Firmware modular inversion on a held big-number core. -/
  | modinv (core param : Nat)
  /-- RSA_CRT (R271). Firmware RSA CRT private operation from key-fed slots on a held core. -/
  | rsaCrt (core param : Nat)
  /-- MR_ROUND (R271). Firmware Miller-Rabin round on a held core. -/
  | mrRound (core param : Nat)
  /-- EC_SMUL (R271). Firmware elliptic-curve scalar multiplication on a held core. -/
  | ecSmul (core param : Nat)
  /-- EC_DSMUL (R271). Firmware elliptic-curve double scalar multiplication on a held core. -/
  | ecDsmul (core param : Nat)
  /-- EC_ADD (R271). Firmware elliptic-curve point addition on a held core. -/
  | ecAdd (core param : Nat)
  /-- ECDSA_SIGN (R271). Firmware ECDSA signature with the key-fed scalar on a held core. -/
  | ecdsaSign (core param : Nat)
  /-- ECDSA_VERIFY (R271). Firmware ECDSA verification on a held core. -/
  | ecdsaVerify (core param : Nat)
  /-- ED_SMUL (R271). Firmware Edwards base-point multiplication on a held core. -/
  | edSmul (core param : Nat)
  /-- XDH (R271). Firmware X25519 or X448 on a held core. -/
  | xdh (core param : Nat)
  /-- BGN_FW_OP_COMPLETE (R280). A firmware operation on a held big-number core ends, setting DONE or REJECT. -/
  | bgnFwOpComplete (core : Nat)
  /-- ATTEST_KEY_GEN_START (R277). BGN_AKEY_CTRL.START begins the per-boot attestation key search on eight held cores. -/
  | attestKeyGenStart
  /-- ATTEST_KEY_GEN_STOP (R279). BGN_AKEY_CTRL.STOP abandons an attestation key generation and sets FAILED. -/
  | attestKeyGenStop
  /-- ATTEST_KEY_GEN_COMPLETE (R440). The attestation key is delivered, its endorsement formed and BGN_AKEY_STATUS.DONE set. -/
  | attestKeyGenComplete
  /-- LAT_PROMOTE (R283). Writing the spare core's number to LAT_PROMOTE makes it ACTIVE. -/
  | latPromote (core : Nat)
  /-- LAT_HOLD (R283). Setting or clearing a LAT_HOLD bit moves a lattice core to or from HELD. -/
  | latHold (core : Nat) (on : Bool)
  /-- LAT_FENCE (R283). Setting a LAT_FENCE bit fences a lattice core after its running work. -/
  | latFence (core : Nat)
  /-- MLKEM_ENCAPS (R294). Firmware ML-KEM encapsulation on a held lattice core. -/
  | mlkemEncaps (core param : Nat)
  /-- MLDSA_VERIFY (R294). Firmware ML-DSA verification on a held lattice core. -/
  | mldsaVerify (core param : Nat)
  /-- NTT (R294). Firmware forward number-theoretic transform on a held lattice core. -/
  | ntt (core param : Nat)
  /-- INTT (R294). Firmware inverse number-theoretic transform on a held lattice core. -/
  | intt (core param : Nat)
  /-- PMUL (R294). Firmware pointwise polynomial multiplication on a held lattice core. -/
  | pmul (core param : Nat)
  /-- KECCAK (R294). Firmware SHA-3 or SHAKE computation on a held lattice core. -/
  | keccak (core param : Nat)
  /-- LAT_FW_OP_COMPLETE (R296). A firmware operation on a held lattice core ends, setting DONE or REJECT. -/
  | latFwOpComplete (core : Nat)
  /-- LANE_LOCK_ACQUIRE (R302). A processor write of a holder code to SYM_Ln_LOCK takes a free lane or places a PENDING code. -/
  | laneLockAcquire (lane code : Nat) (w : World)
  /-- LANE_LOCK_RELEASE (R302). A write of 0x0000 by the holder's world stops the lane job, zeroes the lane and frees it, or cancels a PENDING code. -/
  | laneLockRelease (lane : Nat) (w : World)
  /-- LANE_FW_JOB_START (R305). SYM_Ln_CMD.START starts a firmware job on a firmware-held lane. -/
  | laneFwJobStart (lane : Nat) (w : World)
  /-- LANE_KEY_CLEAR (R303). SYM_Ln_CMD.KEYCLR erases the lane's key register. -/
  | laneKeyClear (lane : Nat) (w : World)
  /-- LANE_FW_JOB_COMPLETE (R305). A firmware lane job ends, setting DONE, TAG_FAIL or ERR. -/
  | laneFwJobComplete (lane : Nat)
  /-- ENTROPY_WINDOW_END (R315). A source's 1,024-sample window ends without failure and is released into the pool. -/
  | entropyWindowEnd (src : Nat)
  /-- HEALTH_TEST_FAIL (R317). A repetition count or adaptive proportion failure discards the window and quarantines the source. -/
  | healthTestFail (src : Nat) (repetition : Bool)
  /-- STARTUP_TEST_PASS (R318). A source passes its 4,096-sample start-up test and becomes HEALTHY. -/
  | startupTestPass (src : Nat)
  /-- QUARANTINE_RETRY (R324). 64 ticks after a quarantine or failed attempt the source starts a fresh start-up test. -/
  | quarantineRetry (src : Nat)
  /-- DRBG_RESEED (R322). An instance reseeds from 1,024 pool samples once its generate call ends and samples are present. -/
  | drbgReseed (d : Nat)
  /-- DRBG_GENERATE (R323). A generate call is dispatched to the lowest free instance and returns its bytes. -/
  | drbgGenerate (busy : List Nat)
  /-- DRBG_INSTANCE_STALL (R328). While reseeding is stopped an instance stalls at 2^20 calls or 64 ticks after its last reseed. -/
  | drbgInstanceStall (d : Nat)
  /-- PORT_REFILL (R325). A firmware port buffer at 32 bytes or fewer is refilled by a 64-byte generate call. -/
  | portRefill (secure : Bool) (busy : List Nat)
  /-- RNG_S_DATA_READ (R325). A read of RNG_S_DATA consumes the next 4 bytes or sets UNDERRUN. -/
  | rngSDataRead
  /-- RNG_NS_DATA_READ (R325). A read of RNG_NS_DATA consumes the next 4 bytes or sets UNDERRUN. -/
  | rngNsDataRead
  /-- RNG_S_PR_REQUEST (R325). Writing RNG_S_CTRL.PR discards the secure buffer and makes its next refill prediction-resistant. -/
  | rngSPrRequest
  /-- RNG_NS_PR_REQUEST (R325). Writing RNG_NS_CTRL.PR discards the normal buffer and makes its next refill prediction-resistant. -/
  | rngNsPrRequest
  /-- RNG_TEST_SELECT (R331). A write of RNG_TEST places selected sources in TEST, uninstantiating the DRBGs, or clears the selection. -/
  | rngTestSelect (sel src : Nat)
  /-- RNG_RAW_DATA_READ (R333). A read of RNG_RAW_DATA returns 32 captured bits and clears VALID. -/
  | rngRawDataRead
  /-- HALLMARK_EXTEND (R340). Writing KLD_HM_EXT extends a hallmark with KLD_HM_DATA. -/
  | hallmarkExtend (reg : Nat)
  /-- FW_STORAGE_KEY_REQUEST (R356). Writing KLD_FW_CTRL starts derivation and delivery of a firmware storage key to a held lane. -/
  | fwStorageKeyRequest (lineage : Bool) (svn index lane : Nat)
  /-- FW_STORAGE_KEY_DONE (R356). The firmware storage key reaches the lane and KLD_FW_STATUS.DONE sets. -/
  | fwStorageKeyDone
  /-- CARD_INSERT (R359). PRES held high for 10 ms on an enabled port starts card activation. -/
  | cardInsert (port : Nat)
  /-- CARD_REMOVE (R362). A PRES fall deactivates the port and ends its session. -/
  | cardRemove (port : Nat)
  /-- ATR_TIMEOUT (R359). No ATR within 10 ms ends the session with error 0x01. -/
  | atrTimeout (port : Nat)
  /-- ATR_RECEIVED (R358). A received ATR is checked and PPS negotiated. -/
  | atrReceived (port : Nat) (t1 lrc : Bool) (ta1 : Option Nat)
  /-- SELECT_RESPONSE (R360). The card's answer to SELECT of the officer applet. -/
  | selectResponse (port sw : Nat)
  /-- GET_INFO_RESPONSE (R362). The card's public key is compared with enrolled officers, moving the port to PIN_WAIT, IDLE or ERROR. -/
  | getInfoResponse (port sw tries : Nat) (key : Bytes)
  /-- VERIFY_PIN_RESPONSE (R362). The card's answer to VERIFY_PIN sends SIGN_STATEMENT or ends in error. -/
  | verifyPinResponse (port sw : Nat)
  /-- SIGN_STATEMENT_RESPONSE (R362). The card's 96-byte signature is passed to a big-number core for verification. -/
  | signStatementResponse (port sw : Nat) (sig : Bytes)
  /-- CARD_SIGNATURE_VERIFIED (R366). An officer's signature verifies, counting toward the signet or triggering an armed zeroise. -/
  | cardSignatureVerified (port : Nat)
  /-- PIN_WRITE (R361). An officer session writes PIN_A or PIN_B, sent once in VERIFY_PIN. -/
  | pinWrite (q : OdReq) (port : Nat) (value : Bytes)
  /-- PIN_WAIT_TIMEOUT (R362). PIN_WAIT ticks elapse without a PIN and the port ends with error 0x09. -/
  | pinWaitTimeout (port : Nat)
  /-- SIGNING_TIMEOUT (R362). SIGNING not ended within 10,000 ticks of the PIN ends with error 0x09. -/
  | signingTimeout (port : Nat)
  /-- CARD_DEACTIVATE (R359). Writing CRD_Pp_CTRL.DEACT deactivates the port. -/
  | cardDeactivate (port : Nat)
  /-- SIGNET_OPEN (R365). A write of SIGNET_OPEN opens a signet and builds its statement. -/
  | signetOpen (q : OdReq) (value : Bytes)
  /-- SIGNET_CANCEL (R366). A write of SIGNET_CANCEL ends an OPEN or COMPLETE signet at once. -/
  | signetCancel (q : OdReq) (value : Bytes)
  /-- SIGNET_WINDOW_END (R366). At END_TICK an unconsumed signet becomes EXPIRED. -/
  | signetWindowEnd
  /-- ZEROISE_ARM (R370). An officer write of ZEROISE_ARM arms both ports for 600 ticks. -/
  | zeroiseArm (q : OdReq) (value : Bytes)
  /-- ZEROISE_ARM_EXPIRY (R370). The zeroise arming lapses after 600 ticks. -/
  | zeroiseArmExpiry
  /-- WSW (R380). Instruction that switches a core from the normal to the secure world. -/
  | wsw (core resume : Nat)
  /-- WRET (R380). Instruction that returns a core from the secure to the normal world. -/
  | wret (core : Nat)
  /-- SECURE_INTERRUPT_TAKEN (R385). A secure interrupt reaching a core in the normal world is taken at once with a world switch. -/
  | secureInterruptTaken (src resume : Nat)
  /-- WORLD_SLICE_EXPIRY (R385). A normal interrupt pending WLD_SLICE.US on a secure-world core raises source 3. -/
  | worldSliceExpiry (src : Nat)
  /-- INTERNAL_MASTER_ACCESS (R20). An internal master's access passes the Bezel, world region and scrambler range checks or faults. -/
  | internalMasterAccess (agent kind addr len core : Nat) (data : Bytes)
  /-- BEZEL_COMMIT (R397). Writing BZL_COMMIT copies the shadow table to active and increments the committed generation. -/
  | bezelCommit
  /-- BEZEL_GEN_ACTIVE (R397). BZL_GEN_ACTIVE takes the committed value once no older access remains. -/
  | bezelGenActive
  /-- BEZEL_MODE_WRITE (R394). The first write of BZL_MODE fixes SERVICE or BRINGUP until main reset. -/
  | bezelModeWrite (service : Bool)
  /-- WORLD_COMMIT (R402). Writing WLD_COMMIT commits the world windows. -/
  | worldCommit
  /-- WORLD_GEN_ACTIVE (R402). WLD_GEN_ACTIVE takes the committed value once no older access remains. -/
  | worldGenActive
  /-- L2_WAYS_WRITE (R382). Writing WLD_L2_WAYS starts flushing the ways that change world. -/
  | l2WaysWrite (mask : Nat)
  /-- L2_WAY_FLUSH_COMPLETE (R382). The way flush ends, BUSY falls and the new mask applies. -/
  | l2WayFlushComplete
  /-- COPY_DMA_START (R404). START on a copy DMA channel begins copying LEN bytes. -/
  | copyDmaStart (channel : Nat)
  /-- COPY_DMA_STOP (R404). STOP ends a copy DMA channel after the access in flight with ERR set. -/
  | copyDmaStop (channel : Nat)
  /-- COPY_DMA_COMPLETE (R404). The last write of a copy completes and DONE sets. -/
  | copyDmaComplete (channel : Nat)
  /-- LOOP_SAMPLE (R412). A 16 µs loop sample ends and each loop is judged passing or failing. -/
  | loopSample (readings : List Nat)
  /-- CLOCK_MONITOR_WINDOW (R415). A 10 µs frequency window ends and a clock is judged in or out of range. -/
  | clockMonitorWindow (c : Nat) (dev : Int)
  /-- CLOCK_SHORT_CYCLE (R415). A cycle shorter than 70 % of nominal raises the short-cycle alarm. -/
  | clockShortCycle (c : Nat)
  /-- XTAL_MONITOR_ARM (R414). The XTAL monitor arms 100 µs after POR_N rises. -/
  | xtalMonitorArm
  /-- FIRMWARE_ALARM_RAISE (R409). Secure firmware writing ALM_RAISE raises source 23 with the response written. -/
  | firmwareAlarmRaise (response : Nat)
  /-- PURGE_ERASURE_COMPLETE (R417). A PURGE erasure ends and ALARM_ABORT completions are written. -/
  | purgeErasureComplete
  /-- ZEROISE_ERASURE_COMPLETE (R417). Every store is erased after the zeroise line and DEVICE_STATE becomes ZEROISED. -/
  | zeroiseErasureComplete
  /-- HALT_CLEAR (R418). Writing ALM_CTRL.HALT_CLEAR leaves HALTED and releases held results, or is refused. -/
  | haltClear
  /-- BBRAM_PERIODIC_CHECK (R421). Every 1,000 ticks the whole of BBRAM is checked, a failure raising BBRAM_INTEGRITY. -/
  | bbramPeriodicCheck (secretBad alarmBad : Bool)
  /-- VBAT_MEASURE (R541). Every 1,000 ticks both cell voltages are measured into ALM_VBAT. -/
  | vbatMeasure (aMv bMv : Nat)
  /-- LOOPS_ARM (R413). A write of LOOPS_ARM arms the loops named if all read intact. -/
  | loopsArm (q : OdReq) (value : Bytes)
  /-- LOOPS_DISARM (R413). A signet-backed write of LOOPS_DISARM disarms the loops named. -/
  | loopsDisarm (q : OdReq) (value : Bytes)
  /-- RESPONSE_RAISE (R427). A write of RESPONSE_RAISE raises an alarm source's configured response. -/
  | responseRaise (q : OdReq) (src : Nat) (value : Bytes)
  /-- LIFECYCLE_NEXT (R434). A write of LIFECYCLE_NEXT performs its preparations and programs a life-cycle transition. -/
  | lifecycleNext (q : OdReq) (value : Bytes)
  /-- SIGNER_HASHES (R436). A write of SIGNER_HASHES programs an empty signer slot. -/
  | signerHashes (q : OdReq) (slot : Nat) (value : Bytes)
  /-- SIGNER_REVOKE (R436). A write of SIGNER_REVOKE revokes a valid signer slot. -/
  | signerRevoke (q : OdReq) (slot : Nat) (value : Bytes)
  /-- SVN_FLOOR (R436). A write of SVN_FLOOR raises the security version floor. -/
  | svnFloor (q : OdReq) (value : Bytes)
  /-- COSIG_REQUIRED (R436). A write of COSIG_REQUIRED programs the ML-DSA co-signature requirement. -/
  | cosigRequired (q : OdReq) (value : Bytes)
  /-- COMPAT_DISABLE (R436). A write of COMPAT_DISABLE programs the compat mode disable. -/
  | compatDisable (q : OdReq) (value : Bytes)
  /-- OTP_PROGRAM_COMPLETE (R431). An OTP programming window ends and its write's response is released. -/
  | otpProgramComplete
  /-- PROVISION_RUN (R441). A write of PROVISION_RUN in BLANK creates the device secret, wrap secret and identity key. -/
  | provisionRun (q : OdReq) (value : Bytes)
  /-- SIGNER0 (R441). A factory write of SIGNER0 programs signer slot 0 in BLANK. -/
  | signer0 (q : OdReq) (value : Bytes)
  /-- IDENTITY_CERT_WRITE (R441). A factory write of the identity certificate stores it in user NVM. -/
  | identityCertWrite (q : OdReq) (value : Bytes)
  /-- LCS_INIT_WRAP (R442). Writing LCS_INIT.WRAP draws a new BBRAM wrap secret and derives roots and keys. -/
  | lcsInitWrap
  /-- RECOVERY_GO (R447). Writing HST_RCV_CTRL.GO makes the boot ROM check a recovery container. -/
  | recoveryGo (readable : Bool)
  /-- DAP_READ (R448). A debug access port read is issued and checked as one access. -/
  | dapRead (addr size : Nat)
  /-- DAP_WRITE (R448). A debug access port write is issued once its last word is shifted in. -/
  | dapWrite (addr size : Nat) (data : Bytes)
  /-- IDCODE (R448). TAP instruction that reads the 32-bit IDCODE. -/
  | idcode
  /-- BYPASS (R448). TAP instruction that selects the 1-bit bypass register. -/
  | bypass
  /-- DEBUG_TOKEN (R450). A write of DEBUG_TOKEN checks a Rhabeoc token and opens a signet for it. -/
  | debugToken (q : OdReq) (value : Bytes)
  /-- POR_N_ASSERT (R553). POR_N low is a main reset. -/
  | porNAssert
  /-- POR_N_RELEASE (R446). POR_N rising starts the boot ROM sequence through to hand-over. -/
  | porNRelease (b : BootInputs)
  /-- SYS_RST_N_ASSERT (R570). SYS_RST_N held low for 1 µs is a main reset of the main domain. -/
  | sysRstNAssert
  /-- PPS_EDGE (R457). A TIM_PPS rising edge qualifies, is accepted as a second boundary, or is rejected. -/
  | ppsEdge (spacingNs subNs : Nat)
  /-- PPS_WINDOW_TIMEOUT (R457). No edge by E + 100 µs: the boundary tick is issued and the second counts as missed. -/
  | ppsWindowTimeout
  /-- HOLDOVER_ENTRY (R458). The 2,000th tick after the last accepted edge clears PPS_LOCK and enters HOLDOVER. -/
  | holdoverEntry
  /-- HOLDOVER_LOSS (R464). The 86,400,000th tick after the last edge discards the anchor. -/
  | holdoverLoss
  /-- NEXT_PULSE_TAI (R461). A write of NEXT_PULSE_TAI sets a pending time of day for the next accepted edge. -/
  | nextPulseTai (q : OdReq) (value : Bytes)
  /-- TOD_RESET (R462). A signet-backed write of TOD_RESET discards the anchor. -/
  | todReset (q : OdReq) (value : Bytes)
  /-- POWERED_HOUR_ELAPSED (R468). Each 3,600 s of powered time increments POWERED_HOURS in user NVM. -/
  | poweredHourElapsed
  /-- HST_TICK_LO_READ (R40). Reading HST_TICK_LO latches HST_TICK_HI. -/
  | hstTickLoRead
  /-- TIM_TICK_LO_READ (R470). Reading TIM_TICK_LO latches the tick, TAI and subsecond snapshot. -/
  | timTickLoRead
  /-- EVR_POST_S (R480). Secure firmware writing EVR_POST_S posts an event. -/
  | evrPostS (severity code : Nat)
  /-- EVR_POST_N (R480). Normal-world firmware writing EVR_POST_N posts an event. -/
  | evrPostN (severity code : Nat)
  /-- EVENT_ARCHIVE_WRITE (R478). A closed event record is written to the user NVM archive and marked ARCHIVED. -/
  | eventArchiveWrite
  /-- ARCHIVE_RELEASE (R478). A signet-backed write of ARCHIVE_RELEASE frees CRITICAL archive slots. -/
  | archiveRelease (q : OdReq) (value : Bytes)
  /-- NEXT_RECORD (R479). A read of NEXT_RECORD returns the next closed record and advances READ_FROM. -/
  | nextRecord (q : OdReq) (offset cap : Nat)
  /-- MGP_FRAME_RECEIVED (R489). An accepted frame is stored in the receive FIFO and a descriptor written, or dropped or truncated. -/
  | mgpFrameReceived (frame : Bytes) (fcsOk : Bool)
  /-- MGP_RXD_TAIL_WRITE (R490). Advancing MGP_RXD_TAIL consumes descriptors and frees their FIFO words. -/
  | mgpRxdTailWrite (tail : Nat)
  /-- MGP_TX_GO (R491). Writing MGP_TX_CTRL.GO transmits a frame at the next PLCA opportunity. -/
  | mgpTxGo
  /-- MGP_FRAME_SENT (R491). The transmitted frame's last byte is sent and TX_STATUS.DONE sets. -/
  | mgpFrameSent
  /-- READ (R497). Puesh message by which a station reads an object dictionary entry. -/
  | read (slot : Nat) (msg : Bytes)
  /-- WRITE (R497). Puesh message by which a station writes an object dictionary entry, possibly in parts. -/
  | write (slot : Nat) (msg : Bytes) (items : List StrandItem)
  /-- CLOSE (R495). Puesh message that closes the station's session. -/
  | close (slot : Nat) (msg : Bytes)
  /-- SECURE_OD_ACCESS (R506). Writing MGP_OD_CTRL.GO submits an object dictionary access for secure firmware or a session. -/
  | secureOdAccess (session role : Nat) (items : List StrandItem)
  /-- PUESH_IDLE_TIMEOUT (R495). A session with no valid record for IDLE_TIMEOUT ticks closes. -/
  | pueshIdleTimeout (slot : Nat)
  /-- SESSION_CLOSE_WRITE (R495). A write of a slot's CLOSE entry closes that session. -/
  | sessionCloseWrite (q : OdReq) (slot : Nat) (value : Bytes)
  /-- MGMT_KEY_GENERATE (R494). A write of MGMT_KEY_GENERATE makes a new management key and clears MGMT_CERT. -/
  | mgmtKeyGenerate (q : OdReq) (value : Bytes)
  /-- MGMT_CERT (R494). A write of MGMT_CERT installs the management certificate if it matches the key. -/
  | mgmtCert (q : OdReq) (value : Bytes)
  /-- NAP_REQUEST (R514). The host manager's NAP_REQUEST enters NAP or is refused with a code. -/
  | napRequest (q : OdReq) (value : Bytes)
  /-- PWR_REQ_NAP (R514). Secure firmware writing PWR_REQ.REQ 1 requests NAP. -/
  | pwrReqNap
  /-- AUTO_NAP_TIMER (R514). After AUTO_NAP_TICKS idle ticks an automatic NAP request is made. -/
  | autoNapTimer
  /-- NAP_MINUTE_PREWAKE (R516). NAP ends 100 µs before a minute increment. -/
  | napMinutePrewake
  /-- NAP_EXIT_COMPLETE (R516). A NAP exit completes within 80 µs and blocks restart. -/
  | napExitComplete
  /-- SLEEP_REQUEST (R517). The host manager's SLEEP_REQUEST starts the SLEEP entry sequence or is refused. -/
  | sleepRequest (q : OdReq) (value : Bytes)
  /-- PWR_REQ_SLEEP (R517). Secure firmware writing PWR_REQ.REQ 2 requests SLEEP. -/
  | pwrReqSleep
  /-- SLEEP_POWER_OFF (R517). At the end of the SLEEP sequence, or at 100 ms, GPIO0 falls and the main domain is unpowered. -/
  | sleepPowerOff (meters events : Nat) (b : BootInputs)
  /-- VDD_AON_LOSS (R554). VDD_AON leaving its window forces a main reset and the backup domain changes to the cells. -/
  | vddAonLoss (cellMv : Nat)
  /-- VDD_AON_RETURN (R519). VDD_AON returning drives GPIO0 high and the unit boots when POR_N rises. -/
  | vddAonReturn (b : BootInputs)
  /-- BACKUP_SUPPLY_RETURN (R557). After VDD_AON has held 100 µs in window the backup domain returns from the cells to VDD_AON. -/
  | backupSupplyReturn
  /-- GPIO_RISING_EDGE (R571). A rising edge on GPIO1 to GPIO7 held 100 ns raises its interrupt source. -/
  | gpioRisingEdge (n : Nat)
  /-- PWR_LOCK_WRITE (R522). Secure firmware writing PWR_LOCK sets or clears locks, executing a deferred request on release. -/
  | pwrLockWrite (locks : Nat)
  /-- NS_GATE_CLK_ON (R522). A normal-world PWR_NS_REQ CLK_ON request is executed or deferred under its lock. -/
  | nsGateClkOn (block : Nat)
  /-- NS_GATE_CLK_OFF (R522). A normal-world PWR_NS_REQ CLK_OFF request is executed or deferred under its lock. -/
  | nsGateClkOff (block : Nat)
  /-- NS_GATE_PWR_ON (R522). A normal-world PWR_NS_REQ PWR_ON request is executed or deferred under its lock. -/
  | nsGatePwrOn (block : Nat)
  /-- NS_GATE_PWR_OFF (R522). A normal-world PWR_NS_REQ PWR_OFF request is executed or deferred under its lock. -/
  | nsGatePwrOff (block : Nat)
  /-- PWR_DEFER_CANCEL (R522). Writing PWR_DEFER_CTRL.CANCEL cancels a deferred gating request. -/
  | pwrDeferCancel
  /-- PWR_GATE_WRITE (R520). A write of PWR_GATEb orders a block's clock or power off or on after its running job. -/
  | pwrGateWrite (w : World) (block : Nat) (clkOff pwrOff : Bool)
  /-- GATE_TRANSITION_COMPLETE (R520). A block's clock or power change completes. -/
  | gateTransitionComplete (block : Nat)
  /-- POLISH_SLOT (R532). INTERVAL ticks after the previous slot the polishing controller selects a core. -/
  | polishSlot (lattice : Bool)
  /-- POLISH_SEQUENCE_END (R534). A polishing sequence passes, returning the core to ACTIVE, or fails, fencing it and promoting a spare. -/
  | polishSequenceEnd (lattice : Bool) (failed : Option Nat)
  /-- REGISTER_WRITE (R8). A write to a register with no row of its own, taking effect under its access code or having none if out of range. -/
  | registerWrite (w : World) (addr value : Nat)
  /-- PERST_N_RELEASE (R414). PERST_N rising lets the link train and, once PLL_PCIE locks, arms the PLL_PCIE monitor. -/
  | perstNRelease
  /-- LINK_RATE_CHANGE (R414). The PCIe link trains, retrains or changes rate, changing LINK_RATE and the PLL_PCIE nominal, suspending its monitor for 20 µs and ending NAP. -/
  | linkRateChange (rate width : Nat)
  /-- SYS_RST_N_RELEASE (R570). SYS_RST_N rising ends the main reset it caused, starting the boot, and RST_OUT_N is released 1 ms later. -/
  | sysRstNRelease (b : BootInputs)
  /-- FLL_RX_SYNC_ACQUIRED (R264). The Flallani receiver gains 8b/10b alignment and FLL_STATUS.RX_SYNC becomes 1. -/
  | fllRxSyncAcquired
  /-- FLL_LOST_SYNC (R264). The Flallani receiver loses alignment, clearing RX_SYNC and setting FLL_ERR.LOST_SYNC. -/
  | fllLostSync
  /-- PLCA_BEACON (R509). A PLCA beacon is seen on the segment, or stops being seen, changing MGP_LINK. -/
  | plcaBeacon (seen : Bool)
  /-- CLIENT_HELLO (R495). A DTLS ClientHello takes the lowest free session slot with a cookie exchange, or beyond MAX_SESSIONS goes unanswered and is counted. -/
  | clientHello (peer : Bytes)
  /-- DTLS_HANDSHAKE_COMPLETE (R494). A station's handshake ends, its certificate is checked against the anchors, and the session becomes OPEN with a role and SESSION_NO. -/
  | dtlsHandshakeComplete (slot : Nat) (cert : Bytes)
  /-- DTLS_ALERT (R495). A close_notify or fatal alert from the station closes its session, losing its credits and response cache. -/
  | dtlsAlert (slot : Nat)
  /-- WFI (R520). A normal-world core executing WFI with a clock-off or power-off order pending for its block stops there. -/
  | wfi (core : Nat)
  deriving DecidableEq, Repr

end Sys2Proof
end

