-- ==== Sys2Proof/Decode.lean ====
section
/-! DEFINITION. The words of commands. The table of operations and events gives no row any bits, and no rule of the
manual spells a command as a word, so no word is a command. -/

namespace Sys2Proof

/-- The command a word spells by the table's bits: none, for no row has bits. -/
def decodeTableWord (_nbits _w : Nat) : Option Instr := none

end Sys2Proof
end

