-- ==== Sys2Proof/Config.lean ====
section
/-! DEFINITION. What an implementation fixes and what the manual leaves to published standards or
open: constants with no body. No proof can see a value of theirs, so every claim holds for all of
them. -/

namespace Sys2Proof.Config

open Sys2Proof.Machine

/-! ## Free values (log entry 3) -/

/-- The n-th value the manual leaves open; State counts the n (State.free). -/
opaque freeNat : Nat → Nat

/-- The n-th octet string of a given length the manual leaves open: DRBG output (R321), the value of
a noise source. -/
opaque freeBytes : (n len : Nat) → Bytes

/-- What a byte of DRAM reads as whose line the manual gives no contents: lines the object store controller lays out in a
way of its own, or has freed, and lines read after the scramble keys are erased. -/
opaque dramByte : (n addr : Nat) → Byte

/-! ## Published algorithms (R2), by the codes the manual gives them (log entry 4)

The manual names the standard of each and gives no algorithm of its own; these stand for them. -/

/-- SHA-256, SHA-384, SHA-512, SHA3-256, SHA3-384, SHA3-512, SHAKE128, SHAKE256 by the code of R124;
`len` octets of output. -/
opaque hash : (code len : Nat) → Bytes → Bytes

/-- SHA-512 (R340, R367). -/
def sha512 (m : Bytes) : Bytes := hash 0x03 64 m

/-- HMAC with the hash of the code given (FIPS 198-1). -/
opaque hmac : (code : Nat) → (key msg : Bytes) → Bytes

/-- AEAD of R139: ciphertext ‖ tag. Mode 1 GCM, 2 CCM, 3 ChaCha20-Poly1305. -/
opaque aeadSeal : (mode tagLen : Nat) → (key nonce aad plain : Bytes) → Bytes

/-- The opening of R141: the plaintext, or nothing when the tag does not compare equal. -/
opaque aeadOpen : (mode tagLen : Nat) → (key nonce aad sealed : Bytes) → Option Bytes

/-- CIPHER of R142: mode 1 CBC, 2 CTR, 3 XTS; `dec` for direction 1. -/
opaque cipher : (mode : Nat) → (dec : Bool) → (key iv data : Bytes) → Bytes

/-- CMAC, GMAC and HMAC tags of R143, before truncation. -/
opaque mac : (mode hash : Nat) → (key iv msg : Bytes) → Bytes

/-- AES-KW and AES-KWP of R144. -/
opaque wrap : (mode : Nat) → (key plain : Bytes) → Bytes

/-- Their inverses: nothing when the integrity check fails. -/
opaque unwrap : (mode : Nat) → (key wrapped : Bytes) → Option Bytes

/-- The curves P-256, P-384 and P-521 by the codes 1, 2 and 3 of R279: the manual names them and gives no constants. -/
opaque curve : Nat → Curve

/-- The primes the search of R275 keeps for a modulus of a size. -/
opaque rsaPrimes : (size : Nat) → (rnd : Bytes) → Nat × Nat

/-- The base of round `i` in the check of an imported prime (R275). -/
opaque mrBase : (p i : Nat) → Nat

/-- What the stored encoding of R216 holds after the key encoding, for EDDSA, XDH, MLKEM and MLDSA keys. -/
opaque keyRest : (type size : Nat) → (key : Bytes) → Bytes

/-- The public output of R94 of an ML-DSA key. -/
opaque mldsaPublic : (size : Nat) → (stored : Bytes) → Bytes

/-- Whether an Ed25519 or Ed448 public key decodes under RFC 8032 (R128). -/
opaque edKeyOk : (size : Nat) → (key : Bytes) → Bool

/-- Signatures of R131 by scheme, hash, prehash and determinism. -/
opaque sign : SigParams → (stored rnd ctx msg : Bytes) → Bytes

/-- Verification of R133 under a public encoding of R128. -/
opaque verify : SigParams → (pub ctx msg sig : Bytes) → Bool

/-- RSAES-OAEP decryption (R134): nothing on any decoding failure. -/
opaque oaepDecrypt : (hash size : Nat) → (stored label cipher : Bytes) → Option Bytes

/-- RSAES-OAEP encryption (R135). -/
opaque oaepEncrypt : (hash size : Nat) → (pub seed label msg : Bytes) → Bytes

/-- X25519 and X448 of RFC 7748: a private key and a public value (R136). -/
opaque xdh : (size : Nat) → (key peer : Bytes) → Bytes

/-- ENCAPS of R137: ciphertext ‖ shared secret. -/
opaque encaps : (size : Nat) → (pub msg : Bytes) → Bytes

/-- DECAPS of R138, the implicit-rejection key included. -/
opaque decaps : (size : Nat) → (stored cipher : Bytes) → Bytes

/-- Iterations an ML-DSA signing runs (R71, R166): fixed by key and message, not by the manual. -/
opaque mldsaIterations : (size : Nat) → (stored rnd msg : Bytes) → Nat

/-! ## The engines' own operations on octets, used by firmware commands -/

/-- What an elliptic-curve operation of R271 leaves in its result slots under a PARAM the rule gives no curve for it. -/
opaque curveOp : (op param : Nat) → (operands : List Nat) → Option (List Nat)

/-- ECDSA of a digest's value under a scalar, with the n-th nonce (R271). -/
opaque ecdsaSign : Curve → (digest key nonce : Nat) → Nat × Nat

/-- Whether (r, s) is an ECDSA signature of a digest's value under a point (R271). -/
opaque ecdsaVerify : Curve → (digest r s x y : Nat) → Bool

/-- A multiple of the base point of edwards25519 or edwards448, encoded (R271). -/
opaque edBase : (param k : Nat) → Nat

/-- The cycles of a firmware operation on numbers where R273 gives no figure for its length: a function of the operation,
its PARAM, LEN rounded up to 64, and a public exponent's bit length and count of ones (R272). -/
opaque bgnCycles : (op param len b w : Nat) → Nat

/-- Whether an object's usage-counter line has been spilled to DRAM when it is next used (R339). -/
opaque lineSpilled : (free handle : Nat) → Bool

/-- The polishing controllers' vector stores (R533): the stored encoding of the test key of a test, by cluster and
number. -/
opaque testKey : (lattice : Bool) → (test : Nat) → Bytes

/-- Lattice operations of R294 by operation and parameter code: nothing where it rejects. -/
opaque latticeOp : (op param : Nat) → (src aux : Bytes) → (len : Nat) → Option Bytes

/-! ## Facts of one device -/

/-- The SHA-512 of the boot ROM (R340). -/
opaque bootRomHash : Bytes

/-- The bytes of the boot ROM. -/
opaque bootRomByte : Nat → Byte

/-- Contents of the metal mask and fuses that no rule gives: the serial number (R453). -/
opaque fuseSerial : Nat

/-- Verification of an X.509 certificate chain against an anchor, or of a message signed under a
public key (R439, R444, R450, R493). -/
opaque verifyWith : (pub msg sig : Bytes) → Bool

/-- The public key a certificate or token carries. -/
opaque certKey : Bytes → Bytes

/-- The public half of Wyamund's endorsement key, part of the boot ROM (R439). -/
opaque endorsementKey : Bytes

/-- The public half of the Rhabeoc key, part of the boot ROM (R450). -/
opaque rhabeocKey : Bytes

/-- The PKCS #10 request of a management key (R494). -/
opaque csr : (key : Bytes) → Bytes

/-- Whether a management certificate's public key is that of the management key (R494). -/
opaque certMatches : (key cert : Bytes) → Bool

/-- Whether an anchor certificate is one the dictionary takes: DER, P-384, ecdsa-with-SHA384 (R509). -/
opaque anchorOk : Bytes → Bool

/-- Whether a station's certificate meets the conditions of R494 under an anchor, its dates apart. -/
opaque stationOk : (anchor cert : Bytes) → Bool

/-- The validity dates of a certificate, in TAI seconds (R494). -/
opaque certDates : Bytes → Nat × Nat

end Sys2Proof.Config
end

