-- ==== Sys2Proof/Machine/Bits.lean ====
section
/-! DEFINITION. Octet order, bit fields and saturating counts (R5, R6). -/

namespace Sys2Proof.Machine

/-- The `n` octets of `v`, least significant first (R6). -/
def le (n v : Nat) : Bytes := (List.range n).map (fun i => BitVec.ofNat 8 (v / 256 ^ i))

/-- The `n` octets of `v`, most significant first: the order of ladder contexts (R335) and of
big-number operands (R6). -/
def be (n v : Nat) : Bytes := (le n v).reverse

/-- The integer an octet string spells, least significant first. -/
def leNat : Bytes → Nat
  | [] => 0
  | b :: t => b.toNat + 256 * leNat t

/-- The integer an octet string spells, most significant first. -/
def beNat (b : Bytes) : Nat := leNat b.reverse

/-- Octets `off` to `off + len - 1`. -/
def slice (b : Bytes) (off len : Nat) : Bytes := (b.drop off).take len

/-- The little-endian field of `len` octets at `off`; octets beyond the end read as zero. -/
def fieldLE (b : Bytes) (off len : Nat) : Nat := leNat (slice b off len)

/-- `n` zero octets. -/
def zeros (n : Nat) : Bytes := List.replicate n 0#8

/-- The string cut or padded with zeros to `n` octets. -/
def padTo (n : Nat) (b : Bytes) : Bytes := b.take n ++ zeros (n - b.length)

/-- Padded with zeros to a multiple of 8 octets (R180, R187). -/
def pad8 (b : Bytes) : Bytes := b ++ zeros ((8 - b.length % 8) % 8)

/-- The least multiple of `m` not below `n`. -/
def roundUp (m n : Nat) : Nat := (n + m - 1) / m * m

/-- `n / d` rounded up. -/
def ceilDiv (n d : Nat) : Nat := (n + d - 1) / d

/-- The octets of ASCII letters given as numbers. -/
def ascii (l : List Nat) : Bytes := l.map (BitVec.ofNat 8)

/-- One more, stopping at the greatest 32-bit value: the saturating counts of the manual. -/
def sat32 (n : Nat) : Nat := if n < 0xFFFFFFFF then n + 1 else 0xFFFFFFFF

/-- One more, stopping at the greatest 16-bit value. -/
def sat16 (n : Nat) : Nat := if n < 0xFFFF then n + 1 else 0xFFFF

/-- Bit `i` of a number. -/
def nbit (v i : Nat) : Bool := (v / 2 ^ i) % 2 == 1

/-- Sets or clears bit `i` of a number. -/
def setNbit (v i : Nat) (on : Bool) : Nat :=
  if nbit v i == on then v else if on then v + 2 ^ i else v - 2 ^ i

/-- Whether an address lies in a span. -/
def inSpan (a lo hi : Nat) : Bool := decide (lo ≤ a) && decide (a < hi)

/-- 1 for true, 0 for false. -/
def b2n (b : Bool) : Nat := if b then 1 else 0

/-- The number of bits of `v` below `n` that are 1. -/
def popCount (n v : Nat) : Nat := ((List.range n).filter (nbit v)).length

/-- Reads bits [lo + w - 1 : lo] of a word. -/
def getBits (r : Word) (lo w : Nat) : Nat := (r.toNat / 2 ^ lo) % 2 ^ w

/-- Replaces bits [lo + w - 1 : lo] of a word by the low `w` bits of `v`. -/
def setBits (r : Word) (lo w v : Nat) : Word :=
  BitVec.ofNat 32
    (r.toNat % 2 ^ lo + (v % 2 ^ w) * 2 ^ lo + r.toNat / 2 ^ (lo + w) * 2 ^ (lo + w))

/-- Rotation left of a 64-bit word (R235). -/
def rotl64 (w : BitVec 64) (n : Nat) : BitVec 64 := w.rotateLeft n

end Sys2Proof.Machine
end

