-- ==== Sys2Proof/Machine/Map.lean ====
section
/-! DEFINITION. Sparse maps in canonical form: strictly rising keys, and no entry equal to what an
absent key reads as. Every table of State (instances, jobs, registers, dictionary values, directory
buckets) is one of these. -/

namespace Sys2Proof.Machine

/-- The value at key `k`; an absent key reads as `d k`. -/
def mget {α : Type} (d : Nat → α) (m : SMap α) (k : Nat) : α :=
  match m.find? (fun p => p.1 == k) with
  | some p => p.2
  | none => d k

/-- Puts the pair (k, v) before the first key above `k`. -/
def minsert {α : Type} (k : Nat) (v : α) : SMap α → SMap α
  | [] => [(k, v)]
  | p :: t => if k < p.1 then (k, v) :: p :: t else p :: minsert k v t

/-- The map without key `k`. -/
def merase {α : Type} (m : SMap α) (k : Nat) : SMap α := m.filter (fun p => !(p.1 == k))

/-- Writes `v` at `k`; writing what an absent key reads as removes the entry. -/
def mset {α : Type} [DecidableEq α] (d : Nat → α) (m : SMap α) (k : Nat) (v : α) : SMap α :=
  if v = d k then merase m k else minsert k v (merase m k)

/-- Applies `f` to the value at `k`. -/
def mmod {α : Type} [DecidableEq α] (d : Nat → α) (m : SMap α) (k : Nat) (f : α → α) : SMap α :=
  mset d m k (f (mget d m k))

/-- The keys whose listed value satisfies `p`. -/
def mkeys {α : Type} (m : SMap α) (p : Nat → α → Bool) : List Nat :=
  (m.filter (fun e => p e.1 e.2)).map (·.1)

/-- Canonical form: keys strictly rising, no entry equal to the absent value. -/
def mwf {α : Type} [DecidableEq α] (d : Nat → α) (m : SMap α) : Bool :=
  decide (m.Pairwise (fun a b => a.1 < b.1)) && m.all (fun e => !(decide (e.2 = d e.1)))

/-- Canonical form of a map whose absent keys read as nothing (an option that is `none`, an empty
list): keys strictly rising. -/
def mrising {α : Type} (m : SMap α) : Bool := decide (m.Pairwise (fun a b => a.1 < b.1))

end Sys2Proof.Machine
end

