-- ==== Sys2Proof/Machine/RegTable.lean ====
section
/-! DEFINITION. The register maps of the manual (R39 to R40, R41, R89, R121, R171, R186, R209, R242,
R264, R279, R295, R310, R333, R356, R377, R406, R407, R428, R447, R452, R470, R482, R511, R529, R538):
each field under the name the manual gives it, and the table of access codes, reset values and ranges. -/

namespace Sys2Proof.Machine

/-! Fields of the HST registers. -/
def Fld.HST_STATUS_ADMIN_READY : Fld := ⟨0x10c00000, 12, 1⟩
def Fld.HST_STATUS_ACTIVE : Fld := ⟨0x10c00000, 11, 1⟩
def Fld.HST_STATUS_RNG_READY : Fld := ⟨0x10c00000, 10, 1⟩
def Fld.HST_STATUS_TIME_STATE : Fld := ⟨0x10c00000, 8, 2⟩
def Fld.HST_STATUS_LIFECYCLE : Fld := ⟨0x10c00000, 4, 4⟩
def Fld.HST_STATUS_DEVICE_STATE : Fld := ⟨0x10c00000, 0, 4⟩
def Fld.HST_EVENT_AQ_FAULT : Fld := ⟨0x10c00004, 4, 1⟩
def Fld.HST_EVENT_INSTANCE_FAULT : Fld := ⟨0x10c00004, 3, 1⟩
def Fld.HST_EVENT_TIME_CHANGE : Fld := ⟨0x10c00004, 2, 1⟩
def Fld.HST_EVENT_DEVICE_CHANGE : Fld := ⟨0x10c00004, 1, 1⟩
def Fld.HST_EVENT_ALARM : Fld := ⟨0x10c00004, 0, 1⟩
def Fld.HST_TICK_LO_TICK : Fld := ⟨0x10c00010, 0, 32⟩
def Fld.HST_TICK_HI_TICK : Fld := ⟨0x10c00014, 0, 32⟩
def Fld.HST_FAULTEDk_FAULTED (n : Nat) : Fld := ⟨0x10c00100 + 0x4 * n, 0, 32⟩
def Fld.HST_AQ_SQ_BASE_LO_ADDR : Fld := ⟨0x10c01000, 0, 32⟩
def Fld.HST_AQ_SQ_BASE_HI_ADDR : Fld := ⟨0x10c01004, 0, 32⟩
def Fld.HST_AQ_CQ_BASE_LO_ADDR : Fld := ⟨0x10c01008, 0, 32⟩
def Fld.HST_AQ_CQ_BASE_HI_ADDR : Fld := ⟨0x10c0100c, 0, 32⟩
def Fld.HST_AQ_CFG_ENABLE : Fld := ⟨0x10c01010, 8, 1⟩
def Fld.HST_AQ_CFG_DEPTH_LOG2 : Fld := ⟨0x10c01010, 0, 4⟩
def Fld.HST_AQ_STATUS_FAULT : Fld := ⟨0x10c01014, 1, 1⟩
def Fld.HST_AQ_STATUS_RUNNING : Fld := ⟨0x10c01014, 0, 1⟩
def Fld.HST_AQ_SQ_TAIL_TAIL : Fld := ⟨0x10c01018, 0, 32⟩
def Fld.HST_AQ_CQ_HEAD_HEAD : Fld := ⟨0x10c0101c, 0, 32⟩
/-! Fields of the LKT registers. -/
def Fld.LKT_STATUS_HALT_HOLD : Fld := ⟨0x11300000, 2, 1⟩
def Fld.LKT_STATUS_GRAN_FULL : Fld := ⟨0x11300000, 1, 1⟩
def Fld.LKT_STATUS_JOBS_FULL : Fld := ⟨0x11300000, 0, 1⟩
def Fld.LKT_JOBS_IN_USE : Fld := ⟨0x11300004, 0, 13⟩
def Fld.LKT_GRANULES_IN_USE : Fld := ⟨0x11300008, 0, 15⟩
def Fld.LKT_PEAK_JOBS : Fld := ⟨0x1130000c, 16, 13⟩
def Fld.LKT_PEAK_GRANULES : Fld := ⟨0x1130000c, 0, 15⟩
def Fld.LKT_CTRL_PEAK_CLEAR : Fld := ⟨0x11300010, 0, 1⟩
def Fld.LKT_WASTE_LO_NS : Fld := ⟨0x11300014, 0, 32⟩
def Fld.LKT_WASTE_HI_NS : Fld := ⟨0x11300018, 0, 32⟩
def Fld.LKT_ADMIT_WAITS_COUNT : Fld := ⟨0x1130001c, 0, 32⟩
def Fld.LKT_POL_CFG_RING_EN : Fld := ⟨0x11300100, 31, 1⟩
def Fld.LKT_POL_CFG_TIMEOUT : Fld := ⟨0x11300100, 0, 16⟩
def Fld.LKT_POL_RING_BASE_ADDR : Fld := ⟨0x11300104, 0, 32⟩
def Fld.LKT_POL_RING_DEPTH_DEPTH_LOG2 : Fld := ⟨0x11300108, 0, 4⟩
def Fld.LKT_POL_HEAD_HEAD : Fld := ⟨0x1130010c, 0, 32⟩
def Fld.LKT_POL_TAIL_TAIL : Fld := ⟨0x11300110, 0, 32⟩
def Fld.LKT_POL_DECIDE_VERDICT : Fld := ⟨0x11300114, 30, 2⟩
def Fld.LKT_POL_DECIDE_SEQ : Fld := ⟨0x11300114, 16, 8⟩
def Fld.LKT_POL_DECIDE_JOB : Fld := ⟨0x11300114, 0, 12⟩
def Fld.LKT_POL_STATUS_STALE : Fld := ⟨0x11300118, 16, 16⟩
def Fld.LKT_POL_STATUS_PENDING : Fld := ⟨0x11300118, 0, 13⟩
/-! Fields of the HST registers. -/
def Fld.HST_MTR_BASE_LO_ADDR : Fld := ⟨0x10c00200, 0, 32⟩
def Fld.HST_MTR_BASE_HI_ADDR : Fld := ⟨0x10c00204, 0, 32⟩
def Fld.HST_MTR_CFG_ENABLE : Fld := ⟨0x10c00208, 8, 1⟩
def Fld.HST_MTR_CFG_DEPTH_LOG2 : Fld := ⟨0x10c00208, 0, 4⟩
def Fld.HST_MTR_STATUS_CARRYING : Fld := ⟨0x10c0020c, 1, 1⟩
def Fld.HST_MTR_STATUS_RUNNING : Fld := ⟨0x10c0020c, 0, 1⟩
def Fld.HST_MTR_HEAD_HEAD : Fld := ⟨0x10c00210, 0, 32⟩
def Fld.HST_MTR_TAIL_TAIL : Fld := ⟨0x10c00214, 0, 32⟩
def Fld.HST_MTR_CARRIES_COUNT : Fld := ⟨0x10c00218, 0, 32⟩
def Fld.HST_MTR_HOLDS_COUNT : Fld := ⟨0x10c0021c, 0, 32⟩
def Fld.HST_JNL_BASE_LO_ADDR : Fld := ⟨0x10c00300, 0, 32⟩
def Fld.HST_JNL_BASE_HI_ADDR : Fld := ⟨0x10c00304, 0, 32⟩
def Fld.HST_JNL_CFG_ENABLE : Fld := ⟨0x10c00308, 8, 1⟩
def Fld.HST_JNL_CFG_SIZE_LOG2 : Fld := ⟨0x10c00308, 0, 5⟩
def Fld.HST_JNL_STATUS_LAPSED : Fld := ⟨0x10c0030c, 3, 1⟩
def Fld.HST_JNL_STATUS_STAGING_FULL : Fld := ⟨0x10c0030c, 2, 1⟩
def Fld.HST_JNL_STATUS_RING_FULL : Fld := ⟨0x10c0030c, 1, 1⟩
def Fld.HST_JNL_STATUS_RUNNING : Fld := ⟨0x10c0030c, 0, 1⟩
def Fld.HST_JNL_WRITTEN_LO_BYTES : Fld := ⟨0x10c00310, 0, 32⟩
def Fld.HST_JNL_WRITTEN_HI_BYTES : Fld := ⟨0x10c00314, 0, 32⟩
def Fld.HST_JNL_CONSUMED_LO_BYTES : Fld := ⟨0x10c00318, 0, 32⟩
def Fld.HST_JNL_CONSUMED_HI_BYTES : Fld := ⟨0x10c0031c, 0, 32⟩
def Fld.HST_JNL_EXPORTED_LO_BEAD : Fld := ⟨0x10c00320, 0, 32⟩
def Fld.HST_JNL_EXPORTED_HI_BEAD : Fld := ⟨0x10c00324, 0, 32⟩
def Fld.HST_JNL_DURABLE_LO_BEAD : Fld := ⟨0x10c00328, 0, 32⟩
def Fld.HST_JNL_DURABLE_HI_BEAD : Fld := ⟨0x10c0032c, 0, 32⟩
def Fld.HST_JNL_CLASP_GEN : Fld := ⟨0x10c00330, 0, 32⟩
/-! Fields of the STR registers. -/
def Fld.STR_STATUS_RESTORE : Fld := ⟨0x10e00000, 12, 4⟩
def Fld.STR_STATUS_CKPT_PENDING : Fld := ⟨0x10e00000, 4, 1⟩
def Fld.STR_STATUS_CKPT_RUNNING : Fld := ⟨0x10e00000, 3, 1⟩
def Fld.STR_STATUS_STAGING_FULL : Fld := ⟨0x10e00000, 2, 1⟩
def Fld.STR_STATUS_SHADOW_FULL : Fld := ⟨0x10e00000, 1, 1⟩
def Fld.STR_STATUS_SEALING : Fld := ⟨0x10e00000, 0, 1⟩
def Fld.STR_OPEN_BYTES_BYTES : Fld := ⟨0x10e00004, 0, 23⟩
def Fld.STR_HEAD_LO_BEAD : Fld := ⟨0x10e00008, 0, 32⟩
def Fld.STR_HEAD_HI_BEAD : Fld := ⟨0x10e0000c, 0, 32⟩
def Fld.STR_CTRL_CKPT_REQ : Fld := ⟨0x10e00010, 0, 1⟩
/-! Fields of the MEM registers. -/
def Fld.MEM_STATUS_RESIZE : Fld := ⟨0x10f00000, 6, 2⟩
def Fld.MEM_STATUS_LAZY : Fld := ⟨0x10f00000, 5, 1⟩
def Fld.MEM_STATUS_UE_SEEN : Fld := ⟨0x10f00000, 4, 1⟩
def Fld.MEM_STATUS_CE_SEEN : Fld := ⟨0x10f00000, 3, 1⟩
def Fld.MEM_STATUS_CFG_ERROR : Fld := ⟨0x10f00000, 2, 1⟩
def Fld.MEM_STATUS_TRAINED : Fld := ⟨0x10f00000, 1, 1⟩
def Fld.MEM_STATUS_READY : Fld := ⟨0x10f00000, 0, 1⟩
def Fld.MEM_CFG_CAPACITY_GIB : Fld := ⟨0x10f00004, 16, 16⟩
def Fld.MEM_CFG_DIMM_GIB : Fld := ⟨0x10f00004, 8, 8⟩
def Fld.MEM_CFG_TWO_DPC : Fld := ⟨0x10f00004, 0, 1⟩
def Fld.MEM_DIR_CFG_K : Fld := ⟨0x10f00008, 5, 5⟩
def Fld.MEM_DIR_CFG_LOG2_BUCKETS : Fld := ⟨0x10f00008, 0, 5⟩
def Fld.MEM_DIR_CURSOR_CURSOR : Fld := ⟨0x10f0000c, 0, 32⟩
def Fld.MEM_DIR_ENTRIES_COUNT : Fld := ⟨0x10f00010, 0, 32⟩
def Fld.MEM_BW_FG_LOAD : Fld := ⟨0x10f00014, 8, 8⟩
def Fld.MEM_BW_BG_CAP : Fld := ⟨0x10f00014, 0, 8⟩
def Fld.MEM_SCR_CTRL_ACTIVE : Fld := ⟨0x10f00018, 1, 1⟩
def Fld.MEM_SCR_CTRL_BYPASS : Fld := ⟨0x10f00018, 0, 1⟩
def Fld.MEM_ECC_CE_COUNT : Fld := ⟨0x10f00020, 0, 32⟩
def Fld.MEM_ECC_UE_COUNT : Fld := ⟨0x10f00024, 0, 32⟩
def Fld.MEM_ERR_ADDR_LO_ADDR : Fld := ⟨0x10f00028, 0, 32⟩
def Fld.MEM_ERR_ADDR_HI_ADDR : Fld := ⟨0x10f0002c, 0, 8⟩
def Fld.MEM_SCRUB_ENABLE : Fld := ⟨0x10f00030, 0, 1⟩
def Fld.MEM_PR_COMMIT_COMMIT : Fld := ⟨0x10f00040, 0, 1⟩
def Fld.MEM_PR_GEN_COMMITTED : Fld := ⟨0x10f00044, 16, 16⟩
def Fld.MEM_PR_GEN_ACTIVE : Fld := ⟨0x10f00044, 0, 16⟩
def Fld.MEM_PRn_BASE_BASE (n : Nat) : Fld := ⟨0x10f00100 + 0x10 * n, 0, 26⟩
def Fld.MEM_PRn_LIMIT_LIMIT (n : Nat) : Fld := ⟨0x10f00104 + 0x10 * n, 0, 26⟩
def Fld.MEM_PRn_CTRL_LOCKED (n : Nat) : Fld := ⟨0x10f00108 + 0x10 * n, 2, 1⟩
def Fld.MEM_PRn_CTRL_FIXED (n : Nat) : Fld := ⟨0x10f00108 + 0x10 * n, 1, 1⟩
def Fld.MEM_PRn_CTRL_ENABLE (n : Nat) : Fld := ⟨0x10f00108 + 0x10 * n, 0, 1⟩
/-! Fields of the FLL registers. -/
def Fld.FLL_STATUS_LINK : Fld := ⟨0x10b00000, 5, 3⟩
def Fld.FLL_STATUS_SECRET : Fld := ⟨0x10b00000, 4, 1⟩
def Fld.FLL_STATUS_HB : Fld := ⟨0x10b00000, 3, 1⟩
def Fld.FLL_STATUS_RX_SYNC : Fld := ⟨0x10b00000, 2, 1⟩
def Fld.FLL_STATUS_POSITION : Fld := ⟨0x10b00000, 0, 1⟩
def Fld.FLL_CTRL_WAKE : Fld := ⟨0x10b00004, 1, 1⟩
def Fld.FLL_CTRL_LINK_EN : Fld := ⟨0x10b00004, 0, 1⟩
def Fld.FLL_ERR_SEQ_ERR : Fld := ⟨0x10b00008, 3, 1⟩
def Fld.FLL_ERR_TAG_ERR : Fld := ⟨0x10b00008, 2, 1⟩
def Fld.FLL_ERR_CODE_ERR : Fld := ⟨0x10b00008, 1, 1⟩
def Fld.FLL_ERR_LOST_SYNC : Fld := ⟨0x10b00008, 0, 1⟩
def Fld.FLL_TX_FRAMES_COUNT : Fld := ⟨0x10b0000c, 0, 32⟩
def Fld.FLL_RX_FRAMES_COUNT : Fld := ⟨0x10b00010, 0, 32⟩
def Fld.FLL_TAG_FAILS_COUNT : Fld := ⟨0x10b00014, 0, 32⟩
/-! Fields of the BGN registers. -/
def Fld.BGN_STATUS_ACTIVE : Fld := ⟨0x11000000, 8, 6⟩
def Fld.BGN_STATUS_SPARES : Fld := ⟨0x11000000, 4, 2⟩
def Fld.BGN_STATUS_READY : Fld := ⟨0x11000000, 0, 1⟩
def Fld.BGN_HOLD_LO_HOLD : Fld := ⟨0x11000008, 0, 32⟩
def Fld.BGN_HOLD_HI_HOLD : Fld := ⟨0x1100000c, 0, 2⟩
def Fld.BGN_FENCE_LO_FENCE : Fld := ⟨0x11000010, 0, 32⟩
def Fld.BGN_FENCE_HI_FENCE : Fld := ⟨0x11000014, 0, 2⟩
def Fld.BGN_PROMOTE_CORE : Fld := ⟨0x11000018, 0, 6⟩
def Fld.BGN_IRQ_EN : Fld := ⟨0x11000020, 0, 1⟩
def Fld.BGN_WIN_SEL_CORE : Fld := ⟨0x11000030, 0, 6⟩
def Fld.BGN_AKEY_CTRL_STOP : Fld := ⟨0x11000040, 1, 1⟩
def Fld.BGN_AKEY_CTRL_START : Fld := ⟨0x11000040, 0, 1⟩
def Fld.BGN_AKEY_MASK_LO_CORES : Fld := ⟨0x11000044, 0, 32⟩
def Fld.BGN_AKEY_MASK_HI_CORES : Fld := ⟨0x11000048, 0, 2⟩
def Fld.BGN_AKEY_DST_ADDR : Fld := ⟨0x1100004c, 0, 32⟩
def Fld.BGN_AKEY_STATUS_FAILED : Fld := ⟨0x11000050, 2, 1⟩
def Fld.BGN_AKEY_STATUS_DONE : Fld := ⟨0x11000050, 1, 1⟩
def Fld.BGN_AKEY_STATUS_BUSY : Fld := ⟨0x11000050, 0, 1⟩
def Fld.BGN_Cn_CFG_SLOT_UNITS (n : Nat) : Fld := ⟨0x11001000 + 0x40 * n, 0, 6⟩
def Fld.BGN_Cn_ARG0_A (n : Nat) : Fld := ⟨0x11001004 + 0x40 * n, 16, 10⟩
def Fld.BGN_Cn_ARG0_B (n : Nat) : Fld := ⟨0x11001004 + 0x40 * n, 0, 10⟩
def Fld.BGN_Cn_ARG1_M (n : Nat) : Fld := ⟨0x11001008 + 0x40 * n, 16, 10⟩
def Fld.BGN_Cn_ARG1_D (n : Nat) : Fld := ⟨0x11001008 + 0x40 * n, 0, 10⟩
def Fld.BGN_Cn_ARG2_C (n : Nat) : Fld := ⟨0x1100100c + 0x40 * n, 0, 10⟩
def Fld.BGN_Cn_LEN_BITS (n : Nat) : Fld := ⟨0x11001010 + 0x40 * n, 0, 14⟩
def Fld.BGN_Cn_CMD_PARAM (n : Nat) : Fld := ⟨0x11001014 + 0x40 * n, 8, 8⟩
def Fld.BGN_Cn_CMD_OP (n : Nat) : Fld := ⟨0x11001014 + 0x40 * n, 0, 8⟩
def Fld.BGN_Cn_STATUS_STATE (n : Nat) : Fld := ⟨0x11001018 + 0x40 * n, 28, 4⟩
def Fld.BGN_Cn_STATUS_ERR (n : Nat) : Fld := ⟨0x11001018 + 0x40 * n, 3, 1⟩
def Fld.BGN_Cn_STATUS_REJECT (n : Nat) : Fld := ⟨0x11001018 + 0x40 * n, 2, 1⟩
def Fld.BGN_Cn_STATUS_BUSY (n : Nat) : Fld := ⟨0x11001018 + 0x40 * n, 1, 1⟩
def Fld.BGN_Cn_STATUS_DONE (n : Nat) : Fld := ⟨0x11001018 + 0x40 * n, 0, 1⟩
def Fld.BGN_Cn_CYCLES_CYCLES (n : Nat) : Fld := ⟨0x1100101c + 0x40 * n, 0, 32⟩
def Fld.BGN_WINDOW_WORD (i : Nat) : Fld := ⟨0x11080000 + 4 * i, 0, 32⟩
/-! Fields of the LAT registers. -/
def Fld.LAT_STATUS_ACTIVE : Fld := ⟨0x11100000, 8, 4⟩
def Fld.LAT_STATUS_SPARES : Fld := ⟨0x11100000, 4, 1⟩
def Fld.LAT_STATUS_READY : Fld := ⟨0x11100000, 0, 1⟩
def Fld.LAT_HOLD_HOLD : Fld := ⟨0x11100008, 0, 9⟩
def Fld.LAT_FENCE_FENCE : Fld := ⟨0x11100010, 0, 9⟩
def Fld.LAT_PROMOTE_CORE : Fld := ⟨0x11100018, 0, 4⟩
def Fld.LAT_IRQ_EN : Fld := ⟨0x11100020, 0, 1⟩
def Fld.LAT_WIN_SEL_CORE : Fld := ⟨0x11100030, 0, 4⟩
def Fld.LAT_COSIG_FAILED : Fld := ⟨0x11100040, 2, 1⟩
def Fld.LAT_COSIG_CHECKED : Fld := ⟨0x11100040, 1, 1⟩
def Fld.LAT_COSIG_REQUIRED : Fld := ⟨0x11100040, 0, 1⟩
def Fld.LAT_Cn_SRC_LENGTH (n : Nat) : Fld := ⟨0x11101000 + 0x40 * n, 16, 16⟩
def Fld.LAT_Cn_SRC_OFFSET (n : Nat) : Fld := ⟨0x11101000 + 0x40 * n, 0, 16⟩
def Fld.LAT_Cn_DST_LENGTH (n : Nat) : Fld := ⟨0x11101004 + 0x40 * n, 16, 16⟩
def Fld.LAT_Cn_DST_OFFSET (n : Nat) : Fld := ⟨0x11101004 + 0x40 * n, 0, 16⟩
def Fld.LAT_Cn_AUX_LENGTH (n : Nat) : Fld := ⟨0x11101008 + 0x40 * n, 16, 16⟩
def Fld.LAT_Cn_AUX_OFFSET (n : Nat) : Fld := ⟨0x11101008 + 0x40 * n, 0, 16⟩
def Fld.LAT_Cn_CMD_PARAM (n : Nat) : Fld := ⟨0x1110100c + 0x40 * n, 8, 8⟩
def Fld.LAT_Cn_CMD_OP (n : Nat) : Fld := ⟨0x1110100c + 0x40 * n, 0, 8⟩
def Fld.LAT_Cn_STATUS_STATE (n : Nat) : Fld := ⟨0x11101010 + 0x40 * n, 28, 4⟩
def Fld.LAT_Cn_STATUS_ERR (n : Nat) : Fld := ⟨0x11101010 + 0x40 * n, 3, 1⟩
def Fld.LAT_Cn_STATUS_REJECT (n : Nat) : Fld := ⟨0x11101010 + 0x40 * n, 2, 1⟩
def Fld.LAT_Cn_STATUS_BUSY (n : Nat) : Fld := ⟨0x11101010 + 0x40 * n, 1, 1⟩
def Fld.LAT_Cn_STATUS_DONE (n : Nat) : Fld := ⟨0x11101010 + 0x40 * n, 0, 1⟩
def Fld.LAT_Cn_CYCLES_CYCLES (n : Nat) : Fld := ⟨0x11101014 + 0x40 * n, 0, 32⟩
def Fld.LAT_WINDOW_WORD (i : Nat) : Fld := ⟨0x11180000 + 4 * i, 0, 32⟩
/-! Fields of the SYM registers. -/
def Fld.SYM_STATUS_STRAND : Fld := ⟨0x11200000, 16, 5⟩
def Fld.SYM_STATUS_FW : Fld := ⟨0x11200000, 11, 5⟩
def Fld.SYM_STATUS_PIPE : Fld := ⟨0x11200000, 5, 6⟩
def Fld.SYM_STATUS_FREE : Fld := ⟨0x11200000, 0, 5⟩
def Fld.SYM_IRQ_NS_EN : Fld := ⟨0x11200004, 1, 1⟩
def Fld.SYM_IRQ_S_EN : Fld := ⟨0x11200004, 0, 1⟩
def Fld.SYM_LOCK_REFUSED_COUNT : Fld := ⟨0x11200008, 0, 32⟩
def Fld.SYM_ERR_FOREIGN : Fld := ⟨0x1120000c, 0, 1⟩
def Fld.SYM_Ln_LOCK_PENDING (n : Nat) : Fld := ⟨0x11201000 + 0x100 * n, 16, 16⟩
def Fld.SYM_Ln_LOCK_HOLDER (n : Nat) : Fld := ⟨0x11201000 + 0x100 * n, 0, 16⟩
def Fld.SYM_Ln_CTRL_HASH (n : Nat) : Fld := ⟨0x11201004 + 0x100 * n, 24, 4⟩
def Fld.SYM_Ln_CTRL_TAG_LEN (n : Nat) : Fld := ⟨0x11201004 + 0x100 * n, 16, 8⟩
def Fld.SYM_Ln_CTRL_NONCE_LEN (n : Nat) : Fld := ⟨0x11201004 + 0x100 * n, 12, 4⟩
def Fld.SYM_Ln_CTRL_KEYSRC (n : Nat) : Fld := ⟨0x11201004 + 0x100 * n, 10, 1⟩
def Fld.SYM_Ln_CTRL_DIR (n : Nat) : Fld := ⟨0x11201004 + 0x100 * n, 9, 1⟩
def Fld.SYM_Ln_CTRL_MODE (n : Nat) : Fld := ⟨0x11201004 + 0x100 * n, 0, 8⟩
def Fld.SYM_Ln_CMD_KEYCLR (n : Nat) : Fld := ⟨0x11201008 + 0x100 * n, 1, 1⟩
def Fld.SYM_Ln_CMD_START (n : Nat) : Fld := ⟨0x11201008 + 0x100 * n, 0, 1⟩
def Fld.SYM_Ln_STATUS_STATE (n : Nat) : Fld := ⟨0x1120100c + 0x100 * n, 28, 4⟩
def Fld.SYM_Ln_STATUS_STALLED (n : Nat) : Fld := ⟨0x1120100c + 0x100 * n, 6, 1⟩
def Fld.SYM_Ln_STATUS_KEY_LOADED (n : Nat) : Fld := ⟨0x1120100c + 0x100 * n, 5, 1⟩
def Fld.SYM_Ln_STATUS_ABORT (n : Nat) : Fld := ⟨0x1120100c + 0x100 * n, 4, 1⟩
def Fld.SYM_Ln_STATUS_ERR (n : Nat) : Fld := ⟨0x1120100c + 0x100 * n, 3, 1⟩
def Fld.SYM_Ln_STATUS_TAG_FAIL (n : Nat) : Fld := ⟨0x1120100c + 0x100 * n, 2, 1⟩
def Fld.SYM_Ln_STATUS_BUSY (n : Nat) : Fld := ⟨0x1120100c + 0x100 * n, 1, 1⟩
def Fld.SYM_Ln_STATUS_DONE (n : Nat) : Fld := ⟨0x1120100c + 0x100 * n, 0, 1⟩
def Fld.SYM_Ln_SRC_LO_ADDR (n : Nat) : Fld := ⟨0x11201010 + 0x100 * n, 0, 32⟩
def Fld.SYM_Ln_SRC_HI_ADDR (n : Nat) : Fld := ⟨0x11201014 + 0x100 * n, 0, 8⟩
def Fld.SYM_Ln_DST_LO_ADDR (n : Nat) : Fld := ⟨0x11201018 + 0x100 * n, 0, 32⟩
def Fld.SYM_Ln_DST_HI_ADDR (n : Nat) : Fld := ⟨0x1120101c + 0x100 * n, 0, 8⟩
def Fld.SYM_Ln_LEN_BYTES (n : Nat) : Fld := ⟨0x11201020 + 0x100 * n, 0, 25⟩
def Fld.SYM_Ln_AAD_LEN_BYTES (n : Nat) : Fld := ⟨0x11201024 + 0x100 * n, 0, 17⟩
def Fld.SYM_Ln_KEYLEN_BYTES (n : Nat) : Fld := ⟨0x11201028 + 0x100 * n, 0, 8⟩
def Fld.SYM_Ln_CYCLES_CYCLES (n : Nat) : Fld := ⟨0x1120102c + 0x100 * n, 0, 32⟩
def Fld.SYM_Ln_IV_WORD (n i : Nat) : Fld := ⟨0x11201040 + 0x100 * n + 4 * i, 0, 32⟩
def Fld.SYM_Ln_TAG_WORD (n i : Nat) : Fld := ⟨0x11201050 + 0x100 * n + 4 * i, 0, 32⟩
def Fld.SYM_Ln_KEY_WORD (n i : Nat) : Fld := ⟨0x11201080 + 0x100 * n + 4 * i, 0, 32⟩
/-! Fields of the RNG registers. -/
def Fld.RNG_STATUS_RETIRED : Fld := ⟨0x10500000, 16, 4⟩
def Fld.RNG_STATUS_QUARANTINED : Fld := ⟨0x10500000, 12, 4⟩
def Fld.RNG_STATUS_STARTUP : Fld := ⟨0x10500000, 8, 4⟩
def Fld.RNG_STATUS_STATE : Fld := ⟨0x10500000, 0, 3⟩
def Fld.RNG_DRBG_STATUS_BUSY : Fld := ⟨0x10500004, 8, 4⟩
def Fld.RNG_DRBG_STATUS_STALLED : Fld := ⟨0x10500004, 4, 4⟩
def Fld.RNG_DRBG_STATUS_INST : Fld := ⟨0x10500004, 0, 4⟩
def Fld.RNG_POOL_SAMPLES : Fld := ⟨0x10500008, 0, 15⟩
def Fld.RNG_FAILS_COUNT : Fld := ⟨0x1050000c, 0, 16⟩
def Fld.RNG_RCT_COUNT_COUNT : Fld := ⟨0x10500010, 0, 32⟩
def Fld.RNG_APT_COUNT_COUNT : Fld := ⟨0x10500014, 0, 32⟩
def Fld.RNG_RESEED_LO_COUNT : Fld := ⟨0x10500018, 0, 32⟩
def Fld.RNG_RESEED_HI_COUNT : Fld := ⟨0x1050001c, 0, 32⟩
def Fld.RNG_LAST_RESEED_TICK : Fld := ⟨0x10500020, 0, 32⟩
def Fld.RNG_S_DATA_DATA : Fld := ⟨0x10500030, 0, 32⟩
def Fld.RNG_S_STATUS_UNDERRUN : Fld := ⟨0x10500034, 8, 1⟩
def Fld.RNG_S_STATUS_AVAIL : Fld := ⟨0x10500034, 0, 7⟩
def Fld.RNG_S_CTRL_PR : Fld := ⟨0x10500038, 0, 1⟩
def Fld.RNG_NS_DATA_DATA : Fld := ⟨0x10500040, 0, 32⟩
def Fld.RNG_NS_STATUS_UNDERRUN : Fld := ⟨0x10500044, 8, 1⟩
def Fld.RNG_NS_STATUS_AVAIL : Fld := ⟨0x10500044, 0, 7⟩
def Fld.RNG_NS_CTRL_PR : Fld := ⟨0x10500048, 0, 1⟩
def Fld.RNG_TEST_SEL : Fld := ⟨0x10500050, 8, 2⟩
def Fld.RNG_TEST_SRC : Fld := ⟨0x10500050, 0, 4⟩
def Fld.RNG_TEST_PAT_LO_PAT : Fld := ⟨0x10500054, 0, 32⟩
def Fld.RNG_TEST_PAT_HI_PAT : Fld := ⟨0x10500058, 0, 32⟩
def Fld.RNG_RAW_SEL_VALID : Fld := ⟨0x1050005c, 31, 1⟩
def Fld.RNG_RAW_SEL_STAGE : Fld := ⟨0x1050005c, 2, 1⟩
def Fld.RNG_RAW_SEL_SRC : Fld := ⟨0x1050005c, 0, 2⟩
def Fld.RNG_RAW_DATA_DATA : Fld := ⟨0x10500060, 0, 32⟩
/-! Fields of the KLD registers. -/
def Fld.KLD_STATUS_SVN : Fld := ⟨0x10400000, 24, 8⟩
def Fld.KLD_STATUS_MIGRATING : Fld := ⟨0x10400000, 11, 1⟩
def Fld.KLD_STATUS_HM3_RUNTIME : Fld := ⟨0x10400000, 10, 1⟩
def Fld.KLD_STATUS_ROOT_FAIL : Fld := ⟨0x10400000, 9, 1⟩
def Fld.KLD_STATUS_PAIR_ROOT : Fld := ⟨0x10400000, 8, 1⟩
def Fld.KLD_STATUS_ROOTS_VALID : Fld := ⟨0x10400000, 0, 1⟩
def Fld.KLD_SETTINGS_SPEC : Fld := ⟨0x10400004, 16, 14⟩
def Fld.KLD_SETTINGS_FREE : Fld := ⟨0x10400004, 0, 14⟩
def Fld.KLD_PINNED_COUNT : Fld := ⟨0x10400008, 0, 9⟩
def Fld.KLD_INTEG_FAILS_COUNT : Fld := ⟨0x1040000c, 0, 32⟩
def Fld.KLD_REFUSED_COUNT : Fld := ⟨0x10400010, 0, 32⟩
def Fld.KLD_HM_SEL_REG : Fld := ⟨0x10400040, 0, 3⟩
def Fld.KLD_HM_EXT_REG : Fld := ⟨0x10400044, 0, 3⟩
def Fld.KLD_HM_DATA_WORD (i : Nat) : Fld := ⟨0x10400080 + 4 * i, 0, 32⟩
def Fld.KLD_HM_VALUE_WORD (i : Nat) : Fld := ⟨0x104000c0 + 4 * i, 0, 32⟩
def Fld.KLD_FW_CTRL_SRC : Fld := ⟨0x10400100, 31, 1⟩
def Fld.KLD_FW_CTRL_SVN : Fld := ⟨0x10400100, 16, 8⟩
def Fld.KLD_FW_CTRL_INDEX : Fld := ⟨0x10400100, 8, 8⟩
def Fld.KLD_FW_CTRL_LANE : Fld := ⟨0x10400100, 0, 4⟩
def Fld.KLD_FW_STATUS_REFUSED : Fld := ⟨0x10400104, 2, 1⟩
def Fld.KLD_FW_STATUS_DONE : Fld := ⟨0x10400104, 1, 1⟩
def Fld.KLD_FW_STATUS_BUSY : Fld := ⟨0x10400104, 0, 1⟩
/-! Fields of the CRD registers. -/
def Fld.CRD_STATUS_APPROVALS : Fld := ⟨0x10a00000, 8, 4⟩
def Fld.CRD_STATUS_SIGNET : Fld := ⟨0x10a00000, 2, 3⟩
def Fld.CRD_STATUS_PRES_B : Fld := ⟨0x10a00000, 1, 1⟩
def Fld.CRD_STATUS_PRES_A : Fld := ⟨0x10a00000, 0, 1⟩
def Fld.CRD_CFG_CLASS : Fld := ⟨0x10a00004, 2, 1⟩
def Fld.CRD_CFG_B_EN : Fld := ⟨0x10a00004, 1, 1⟩
def Fld.CRD_CFG_A_EN : Fld := ⟨0x10a00004, 0, 1⟩
def Fld.CRD_Pp_STATUS_STATE (n : Nat) : Fld := ⟨0x10a00010 + 0x10 * n, 28, 4⟩
def Fld.CRD_Pp_STATUS_PIN_TRIES (n : Nat) : Fld := ⟨0x10a00010 + 0x10 * n, 8, 4⟩
def Fld.CRD_Pp_STATUS_ERROR (n : Nat) : Fld := ⟨0x10a00010 + 0x10 * n, 0, 8⟩
def Fld.CRD_Pp_OFFICER_MATCH (n : Nat) : Fld := ⟨0x10a00014 + 0x10 * n, 7, 1⟩
def Fld.CRD_Pp_OFFICER_INDEX (n : Nat) : Fld := ⟨0x10a00014 + 0x10 * n, 0, 5⟩
def Fld.CRD_Pp_CTRL_DEACT (n : Nat) : Fld := ⟨0x10a00018 + 0x10 * n, 0, 1⟩
/-! Fields of the BZL registers. -/
def Fld.BZL_STATUS_FAULT : Fld := ⟨0x10000000, 2, 1⟩
def Fld.BZL_STATUS_DRAINING : Fld := ⟨0x10000000, 1, 1⟩
def Fld.BZL_STATUS_MODE : Fld := ⟨0x10000000, 0, 1⟩
def Fld.BZL_MODE_SERVICE : Fld := ⟨0x10000004, 0, 1⟩
def Fld.BZL_COMMIT_COMMIT : Fld := ⟨0x10000008, 0, 1⟩
def Fld.BZL_GEN_COMMITTED_GEN : Fld := ⟨0x1000000c, 0, 16⟩
def Fld.BZL_GEN_ACTIVE_GEN : Fld := ⟨0x10000010, 0, 16⟩
def Fld.BZL_VIEW_ACTIVE : Fld := ⟨0x10000014, 0, 1⟩
def Fld.BZL_CTRL_IRQ_EN : Fld := ⟨0x10000018, 0, 1⟩
def Fld.BZL_FAULT_ADDR_LO_ADDR : Fld := ⟨0x10000020, 0, 32⟩
def Fld.BZL_FAULT_ADDR_HI_ADDR : Fld := ⟨0x10000024, 0, 8⟩
def Fld.BZL_FAULT_INFO_VALID : Fld := ⟨0x10000028, 31, 1⟩
def Fld.BZL_FAULT_INFO_OVERFLOW : Fld := ⟨0x10000028, 30, 1⟩
def Fld.BZL_FAULT_INFO_KIND : Fld := ⟨0x10000028, 28, 2⟩
def Fld.BZL_FAULT_INFO_WRITE : Fld := ⟨0x10000028, 27, 1⟩
def Fld.BZL_FAULT_INFO_EXEC : Fld := ⟨0x10000028, 26, 1⟩
def Fld.BZL_FAULT_INFO_AGENT : Fld := ⟨0x10000028, 23, 3⟩
def Fld.BZL_FAULT_INFO_FACET : Fld := ⟨0x10000028, 20, 3⟩
def Fld.BZL_FAULT_INFO_REGION : Fld := ⟨0x10000028, 12, 8⟩
def Fld.BZL_FAULT_INFO_LENGTH : Fld := ⟨0x10000028, 0, 12⟩
def Fld.BZL_FAULT_GEN_GEN : Fld := ⟨0x1000002c, 0, 16⟩
def Fld.BZL_FAULTS_COUNT : Fld := ⟨0x10000030, 0, 32⟩
def Fld.BZL_LOCK_REFUSED_COUNT : Fld := ⟨0x10000034, 0, 32⟩
def Fld.BZL_DECERR_COUNT : Fld := ⟨0x10000038, 0, 32⟩
def Fld.BZL_RGNn_BASE_LO_ADDR (n : Nat) : Fld := ⟨0x10001000 + 0x40 * n, 12, 20⟩
def Fld.BZL_RGNn_BASE_HI_ADDR (n : Nat) : Fld := ⟨0x10001004 + 0x40 * n, 0, 8⟩
def Fld.BZL_RGNn_CTRL_SIZE_LOG2 (n : Nat) : Fld := ⟨0x10001008 + 0x40 * n, 8, 6⟩
def Fld.BZL_RGNn_CTRL_LOCK (n : Nat) : Fld := ⟨0x10001008 + 0x40 * n, 1, 1⟩
def Fld.BZL_RGNn_CTRL_ENABLE (n : Nat) : Fld := ⟨0x10001008 + 0x40 * n, 0, 1⟩
def Fld.BZL_RGNn_FACETf_X_N (n f : Nat) : Fld := ⟨0x10001020 + 0x40 * n + 4 * f, 17, 1⟩
def Fld.BZL_RGNn_FACETf_X_S (n f : Nat) : Fld := ⟨0x10001020 + 0x40 * n + 4 * f, 16, 1⟩
def Fld.BZL_RGNn_FACETf_DEVICE_N (n f : Nat) : Fld := ⟨0x10001020 + 0x40 * n + 4 * f, 14, 2⟩
def Fld.BZL_RGNn_FACETf_DEVICE_S (n f : Nat) : Fld := ⟨0x10001020 + 0x40 * n + 4 * f, 12, 2⟩
def Fld.BZL_RGNn_FACETf_DMA_N (n f : Nat) : Fld := ⟨0x10001020 + 0x40 * n + 4 * f, 10, 2⟩
def Fld.BZL_RGNn_FACETf_DMA_S (n f : Nat) : Fld := ⟨0x10001020 + 0x40 * n + 4 * f, 8, 2⟩
def Fld.BZL_RGNn_FACETf_DEBUG_N (n f : Nat) : Fld := ⟨0x10001020 + 0x40 * n + 4 * f, 6, 2⟩
def Fld.BZL_RGNn_FACETf_DEBUG_S (n f : Nat) : Fld := ⟨0x10001020 + 0x40 * n + 4 * f, 4, 2⟩
def Fld.BZL_RGNn_FACETf_CPU_N (n f : Nat) : Fld := ⟨0x10001020 + 0x40 * n + 4 * f, 2, 2⟩
def Fld.BZL_RGNn_FACETf_CPU_S (n f : Nat) : Fld := ⟨0x10001020 + 0x40 * n + 4 * f, 0, 2⟩
/-! Fields of the WLD registers. -/
def Fld.WLD_STATUS_COMPAT : Fld := ⟨0x10100000, 8, 1⟩
def Fld.WLD_STATUS_SECURE : Fld := ⟨0x10100000, 0, 4⟩
def Fld.WLD_SENTRY_LO_ADDR : Fld := ⟨0x10100004, 0, 32⟩
def Fld.WLD_SENTRY_HI_ADDR : Fld := ⟨0x10100008, 0, 8⟩
def Fld.WLD_SLICE_US : Fld := ⟨0x1010000c, 0, 16⟩
def Fld.WLD_L2_WAYS_BUSY : Fld := ⟨0x10100010, 16, 1⟩
def Fld.WLD_L2_WAYS_SECURE : Fld := ⟨0x10100010, 0, 16⟩
def Fld.WLD_IRQ_WORLD_SECURE : Fld := ⟨0x10100014, 0, 32⟩
def Fld.WLD_IRQ_CORE_LO_CORE : Fld := ⟨0x10100018, 0, 32⟩
def Fld.WLD_IRQ_CORE_HI_CORE : Fld := ⟨0x1010001c, 0, 32⟩
def Fld.WLD_IRQ_PEND_PEND : Fld := ⟨0x10100020, 0, 32⟩
def Fld.WLD_COMMIT_COMMIT : Fld := ⟨0x10100030, 0, 1⟩
def Fld.WLD_GEN_COMMITTED_GEN : Fld := ⟨0x10100034, 0, 16⟩
def Fld.WLD_GEN_ACTIVE_GEN : Fld := ⟨0x10100038, 0, 16⟩
def Fld.WLD_VIEW_ACTIVE : Fld := ⟨0x1010003c, 0, 1⟩
def Fld.WLD_FAULT_ADDR_LO_ADDR : Fld := ⟨0x10100040, 0, 32⟩
def Fld.WLD_FAULT_ADDR_HI_ADDR : Fld := ⟨0x10100044, 0, 8⟩
def Fld.WLD_FAULT_INFO_VALID : Fld := ⟨0x10100048, 31, 1⟩
def Fld.WLD_FAULT_INFO_OVERFLOW : Fld := ⟨0x10100048, 30, 1⟩
def Fld.WLD_FAULT_INFO_MEM : Fld := ⟨0x10100048, 27, 3⟩
def Fld.WLD_FAULT_INFO_WRITE : Fld := ⟨0x10100048, 26, 1⟩
def Fld.WLD_FAULT_INFO_AGENT : Fld := ⟨0x10100048, 23, 3⟩
def Fld.WLD_FAULT_INFO_WINDOW : Fld := ⟨0x10100048, 20, 3⟩
def Fld.WLD_FAULT_INFO_DEFAULT : Fld := ⟨0x10100048, 19, 1⟩
def Fld.WLD_FAULTS_COUNT : Fld := ⟨0x1010004c, 0, 32⟩
def Fld.WLD_SWITCHESc_COUNT (n : Nat) : Fld := ⟨0x10100050 + 0x4 * n, 0, 32⟩
def Fld.WLD_Mm_WINk_BASE_UNIT (m k : Nat) : Fld := ⟨0x10100100 + 0x80 * (m - 1) + 0x10 * k, 0, 26⟩
def Fld.WLD_Mm_WINk_LIMIT_UNIT (m k : Nat) : Fld := ⟨0x10100104 + 0x80 * (m - 1) + 0x10 * k, 0, 26⟩
def Fld.WLD_Mm_WINk_CTRL_LOCK (m k : Nat) : Fld := ⟨0x10100108 + 0x80 * (m - 1) + 0x10 * k, 3, 1⟩
def Fld.WLD_Mm_WINk_CTRL_ATTR (m k : Nat) : Fld := ⟨0x10100108 + 0x80 * (m - 1) + 0x10 * k, 1, 2⟩
def Fld.WLD_Mm_WINk_CTRL_ENABLE (m k : Nat) : Fld := ⟨0x10100108 + 0x80 * (m - 1) + 0x10 * k, 0, 1⟩
def Fld.WLD_DMAc_SRC_LO_ADDR (n : Nat) : Fld := ⟨0x10100400 + 0x40 * n, 0, 32⟩
def Fld.WLD_DMAc_SRC_HI_ADDR (n : Nat) : Fld := ⟨0x10100404 + 0x40 * n, 0, 8⟩
def Fld.WLD_DMAc_DST_LO_ADDR (n : Nat) : Fld := ⟨0x10100408 + 0x40 * n, 0, 32⟩
def Fld.WLD_DMAc_DST_HI_ADDR (n : Nat) : Fld := ⟨0x1010040c + 0x40 * n, 0, 8⟩
def Fld.WLD_DMAc_LEN_BYTES (n : Nat) : Fld := ⟨0x10100410 + 0x40 * n, 0, 25⟩
def Fld.WLD_DMAc_CTRL_STOP (n : Nat) : Fld := ⟨0x10100414 + 0x40 * n, 1, 1⟩
def Fld.WLD_DMAc_CTRL_START (n : Nat) : Fld := ⟨0x10100414 + 0x40 * n, 0, 1⟩
def Fld.WLD_DMAc_STATUS_ERR (n : Nat) : Fld := ⟨0x10100418 + 0x40 * n, 2, 1⟩
def Fld.WLD_DMAc_STATUS_DONE (n : Nat) : Fld := ⟨0x10100418 + 0x40 * n, 1, 1⟩
def Fld.WLD_DMAc_STATUS_BUSY (n : Nat) : Fld := ⟨0x10100418 + 0x40 * n, 0, 1⟩
/-! Fields of the ALM registers. -/
def Fld.ALM_BB_ADDR_WORD : Fld := ⟨0x10300070, 0, 10⟩
def Fld.ALM_BB_DATA_DATA : Fld := ⟨0x10300074, 0, 32⟩
def Fld.ALM_STATUS_ALARMN : Fld := ⟨0x10300000, 11, 1⟩
def Fld.ALM_STATUS_CLEAR_REFUSED : Fld := ⟨0x10300000, 10, 1⟩
def Fld.ALM_STATUS_ZEROISED : Fld := ⟨0x10300000, 9, 1⟩
def Fld.ALM_STATUS_PURGING : Fld := ⟨0x10300000, 8, 1⟩
def Fld.ALM_STATUS_HALTED : Fld := ⟨0x10300000, 7, 1⟩
def Fld.ALM_STATUS_THROTTLED : Fld := ⟨0x10300000, 6, 1⟩
def Fld.ALM_STATUS_LAST : Fld := ⟨0x10300000, 0, 3⟩
def Fld.ALM_CAUSE_CAUSE : Fld := ⟨0x10300004, 0, 32⟩
def Fld.ALM_ASSERTED_LEVEL : Fld := ⟨0x10300008, 0, 32⟩
def Fld.ALM_CTRL_HALT_CLEAR : Fld := ⟨0x1030000c, 0, 1⟩
def Fld.ALM_RAISE_RESPONSE : Fld := ⟨0x10300010, 0, 3⟩
def Fld.ALM_LOOP_STATUS_ARMED : Fld := ⟨0x10300014, 16, 8⟩
def Fld.ALM_LOOP_STATUS_STATE : Fld := ⟨0x10300014, 0, 16⟩
def Fld.ALM_LOOP_GLITCH_COUNT : Fld := ⟨0x10300018, 0, 32⟩
def Fld.ALM_CLK_STATUS_SHORT_SEEN : Fld := ⟨0x1030001c, 8, 4⟩
def Fld.ALM_CLK_STATUS_OUT_OF_RANGE : Fld := ⟨0x1030001c, 4, 4⟩
def Fld.ALM_CLK_STATUS_ARMED : Fld := ⟨0x1030001c, 0, 4⟩
def Fld.ALM_CLK_DEVc_DEV (n : Nat) : Fld := ⟨0x10300020 + 0x4 * n, 0, 16⟩
def Fld.ALM_RESPk_RESP (n : Nat) : Fld := ⟨0x10300040 + 0x4 * n, 0, 32⟩
def Fld.ALM_ALARMN_MIN : Fld := ⟨0x10300050, 0, 3⟩
def Fld.ALM_UNPOWERED_MOVED : Fld := ⟨0x10300054, 16, 5⟩
def Fld.ALM_UNPOWERED_OVERFLOW : Fld := ⟨0x10300054, 0, 16⟩
/-! Fields of the HST registers. -/
def Fld.HST_RCV_STATUS_REASON : Fld := ⟨0x10c00400, 8, 4⟩
def Fld.HST_RCV_STATUS_STATE : Fld := ⟨0x10c00400, 0, 3⟩
def Fld.HST_RCV_LEN_BYTES : Fld := ⟨0x10c00404, 0, 23⟩
def Fld.HST_RCV_CTRL_GO : Fld := ⟨0x10c00408, 0, 1⟩
def Fld.HST_IDHASH_WORD (i : Nat) : Fld := ⟨0x10c00420 + 4 * i, 0, 32⟩
/-! Fields of the LCS registers. -/
def Fld.LCS_STATUS_PENDING : Fld := ⟨0x10600000, 20, 4⟩
def Fld.LCS_STATUS_LIFECYCLE : Fld := ⟨0x10600000, 16, 4⟩
def Fld.LCS_STATUS_KILLED : Fld := ⟨0x10600000, 3, 1⟩
def Fld.LCS_STATUS_OTP_ERR : Fld := ⟨0x10600000, 2, 1⟩
def Fld.LCS_STATUS_OTP_BUSY : Fld := ⟨0x10600000, 1, 1⟩
def Fld.LCS_STATUS_WRAP_MISSING : Fld := ⟨0x10600000, 0, 1⟩
def Fld.LCS_DEBUG_BY_TOKEN : Fld := ⟨0x10600004, 4, 4⟩
def Fld.LCS_DEBUG_ENABLES : Fld := ⟨0x10600004, 0, 4⟩
def Fld.LCS_BOOT_IMAGE_SVN : Fld := ⟨0x10600008, 24, 8⟩
def Fld.LCS_BOOT_SVN_FLOOR : Fld := ⟨0x10600008, 16, 8⟩
def Fld.LCS_BOOT_SIGNER : Fld := ⟨0x10600008, 10, 2⟩
def Fld.LCS_BOOT_SLOT : Fld := ⟨0x10600008, 9, 1⟩
def Fld.LCS_BOOT_FALLBACK : Fld := ⟨0x10600008, 8, 1⟩
def Fld.LCS_BOOT_STRAP : Fld := ⟨0x10600008, 6, 2⟩
def Fld.LCS_BOOT_RECOVERY : Fld := ⟨0x10600008, 5, 1⟩
def Fld.LCS_BOOT_COMPAT : Fld := ⟨0x10600008, 4, 1⟩
def Fld.LCS_BOOT_SERVICE_REQ : Fld := ⟨0x10600008, 3, 1⟩
def Fld.LCS_FAIL_SLOT_B : Fld := ⟨0x1060000c, 4, 4⟩
def Fld.LCS_FAIL_SLOT_A : Fld := ⟨0x1060000c, 0, 4⟩
def Fld.LCS_INIT_DONE : Fld := ⟨0x10600010, 1, 1⟩
def Fld.LCS_INIT_WRAP : Fld := ⟨0x10600010, 0, 1⟩
/-! Fields of the TIM registers. -/
def Fld.TIM_STATUS_TOD_PENDING : Fld := ⟨0x10700000, 11, 1⟩
def Fld.TIM_STATUS_CANDIDATES : Fld := ⟨0x10700000, 8, 3⟩
def Fld.TIM_STATUS_PPS_LOCK : Fld := ⟨0x10700000, 2, 1⟩
def Fld.TIM_STATUS_STATE : Fld := ⟨0x10700000, 0, 2⟩
def Fld.TIM_TICK_LO_TICK : Fld := ⟨0x10700004, 0, 32⟩
def Fld.TIM_TICK_HI_TICK : Fld := ⟨0x10700008, 0, 32⟩
def Fld.TIM_TAI_LO_SEC : Fld := ⟨0x1070000c, 0, 32⟩
def Fld.TIM_TAI_HI_SEC : Fld := ⟨0x10700010, 0, 32⟩
def Fld.TIM_SUBSEC_TICK : Fld := ⟨0x10700014, 0, 10⟩
def Fld.TIM_PHASE_ERR_NS : Fld := ⟨0x10700018, 0, 32⟩
def Fld.TIM_PERIOD_NS : Fld := ⟨0x1070001c, 0, 32⟩
def Fld.TIM_SINCE_PPS_TICKS : Fld := ⟨0x10700020, 0, 32⟩
def Fld.TIM_ELAPSED_LO_NS : Fld := ⟨0x10700024, 0, 32⟩
def Fld.TIM_ELAPSED_HI_NS : Fld := ⟨0x10700028, 0, 32⟩
def Fld.TIM_PPS_ACCEPTED_COUNT : Fld := ⟨0x1070002c, 0, 32⟩
def Fld.TIM_PPS_REJECTED_COUNT : Fld := ⟨0x10700030, 0, 32⟩
def Fld.TIM_IRQ_MINUTE_EN : Fld := ⟨0x10700034, 1, 1⟩
def Fld.TIM_IRQ_STATE_EN : Fld := ⟨0x10700034, 0, 1⟩
def Fld.TIM_EVENT_MINUTE : Fld := ⟨0x10700038, 1, 1⟩
def Fld.TIM_EVENT_STATE : Fld := ⟨0x10700038, 0, 1⟩
/-! Fields of the EVR registers. -/
def Fld.EVR_STATUS_USED : Fld := ⟨0x10800000, 16, 12⟩
def Fld.EVR_STATUS_OPEN : Fld := ⟨0x10800000, 4, 12⟩
def Fld.EVR_STATUS_ARCHIVE_FULL : Fld := ⟨0x10800000, 3, 1⟩
def Fld.EVR_STATUS_ARCHIVING : Fld := ⟨0x10800000, 2, 1⟩
def Fld.EVR_SEQ_LO_SEQ : Fld := ⟨0x10800004, 0, 32⟩
def Fld.EVR_SEQ_HI_SEQ : Fld := ⟨0x10800008, 0, 32⟩
def Fld.EVR_DROPv_COUNT (n : Nat) : Fld := ⟨0x10800010 + 0x4 * n, 0, 32⟩
def Fld.EVR_SURPLUS_SEL_CODE : Fld := ⟨0x10800030, 0, 16⟩
def Fld.EVR_SURPLUS_COUNT : Fld := ⟨0x10800034, 0, 32⟩
def Fld.EVR_POST_S_LO_VALUE : Fld := ⟨0x10800040, 0, 32⟩
def Fld.EVR_POST_S_HI_VALUE : Fld := ⟨0x10800044, 0, 32⟩
def Fld.EVR_POST_S_SEVERITY : Fld := ⟨0x10800048, 16, 3⟩
def Fld.EVR_POST_S_CODE : Fld := ⟨0x10800048, 0, 16⟩
def Fld.EVR_POST_N_LO_VALUE : Fld := ⟨0x10800050, 0, 32⟩
def Fld.EVR_POST_N_HI_VALUE : Fld := ⟨0x10800054, 0, 32⟩
def Fld.EVR_POST_N_SEVERITY : Fld := ⟨0x10800058, 16, 3⟩
def Fld.EVR_POST_N_CODE : Fld := ⟨0x10800058, 0, 16⟩
def Fld.EVR_SLOT_SEL_SLOT : Fld := ⟨0x10800070, 0, 11⟩
def Fld.EVR_SLOT_WORD (i : Nat) : Fld := ⟨0x10800200 + 4 * i, 0, 32⟩
/-! Fields of the MGP registers. -/
def Fld.MGP_STATUS_OVERRUN : Fld := ⟨0x10900000, 8, 1⟩
def Fld.MGP_STATUS_RXD_FULL : Fld := ⟨0x10900000, 7, 1⟩
def Fld.MGP_STATUS_TX_BUSY : Fld := ⟨0x10900000, 6, 1⟩
def Fld.MGP_STATUS_COORDINATOR : Fld := ⟨0x10900000, 5, 1⟩
def Fld.MGP_STATUS_NODE_ID : Fld := ⟨0x10900000, 1, 3⟩
def Fld.MGP_STATUS_LINK : Fld := ⟨0x10900000, 0, 1⟩
def Fld.MGP_PLCA_TO_TIMER : Fld := ⟨0x10900004, 8, 8⟩
def Fld.MGP_PLCA_NODE_COUNT : Fld := ⟨0x10900004, 4, 4⟩
def Fld.MGP_PLCA_BURST : Fld := ⟨0x10900004, 0, 3⟩
def Fld.MGP_RXD_HEAD_HEAD : Fld := ⟨0x10900008, 0, 8⟩
def Fld.MGP_RXD_TAIL_TAIL : Fld := ⟨0x1090000c, 0, 8⟩
def Fld.MGP_IRQ_FRAME_EN : Fld := ⟨0x10900010, 0, 1⟩
def Fld.MGP_RX_FRAMES_COUNT : Fld := ⟨0x10900014, 0, 32⟩
def Fld.MGP_RX_DROPPED_COUNT : Fld := ⟨0x10900018, 0, 32⟩
def Fld.MGP_RX_TRUNC_COUNT : Fld := ⟨0x1090001c, 0, 32⟩
def Fld.MGP_RX_FCS_COUNT : Fld := ⟨0x10900020, 0, 32⟩
def Fld.MGP_TX_ADDR_ADDR : Fld := ⟨0x10900040, 0, 32⟩
def Fld.MGP_TX_LEN_BYTES : Fld := ⟨0x10900044, 0, 11⟩
def Fld.MGP_TX_CTRL_GO : Fld := ⟨0x10900048, 0, 1⟩
def Fld.MGP_TX_STATUS_ERR : Fld := ⟨0x1090004c, 2, 1⟩
def Fld.MGP_TX_STATUS_DONE : Fld := ⟨0x1090004c, 1, 1⟩
def Fld.MGP_TX_STATUS_BUSY : Fld := ⟨0x1090004c, 0, 1⟩
def Fld.MGP_OD_REQ_ADDR : Fld := ⟨0x10900100, 0, 32⟩
def Fld.MGP_OD_CTRL_SESSION : Fld := ⟨0x10900104, 16, 8⟩
def Fld.MGP_OD_CTRL_ROLE : Fld := ⟨0x10900104, 6, 2⟩
def Fld.MGP_OD_CTRL_GO : Fld := ⟨0x10900104, 0, 1⟩
def Fld.MGP_OD_STATUS_RESULT : Fld := ⟨0x10900108, 8, 8⟩
def Fld.MGP_OD_STATUS_DONE : Fld := ⟨0x10900108, 1, 1⟩
def Fld.MGP_OD_STATUS_BUSY : Fld := ⟨0x10900108, 0, 1⟩
def Fld.MGP_RXD_WORD (i : Nat) : Fld := ⟨0x10900800 + 4 * i, 0, 32⟩
def Fld.MGP_FIFO_WORD (i : Nat) : Fld := ⟨0x10910000 + 4 * i, 0, 32⟩
/-! Fields of the PWR registers. -/
def Fld.PWR_STATUS_NAP_REFUSE : Fld := ⟨0x10200000, 20, 4⟩
def Fld.PWR_STATUS_LAST_WAKE : Fld := ⟨0x10200000, 16, 2⟩
def Fld.PWR_STATUS_NAP_EXIT : Fld := ⟨0x10200000, 8, 4⟩
def Fld.PWR_STATUS_STATE : Fld := ⟨0x10200000, 0, 2⟩
def Fld.PWR_REQ_REQ : Fld := ⟨0x10200004, 0, 2⟩
def Fld.PWR_LOCK_LOCK : Fld := ⟨0x10200008, 0, 12⟩
def Fld.PWR_NS_REQ_GO : Fld := ⟨0x1020000c, 31, 1⟩
def Fld.PWR_NS_REQ_ACTION : Fld := ⟨0x1020000c, 4, 2⟩
def Fld.PWR_NS_REQ_BLOCK : Fld := ⟨0x1020000c, 0, 4⟩
def Fld.PWR_NS_STATUS_BLOCK : Fld := ⟨0x10200010, 4, 4⟩
def Fld.PWR_NS_STATUS_STATE : Fld := ⟨0x10200010, 0, 3⟩
def Fld.PWR_DEFER_CTRL_CANCEL : Fld := ⟨0x10200014, 0, 1⟩
def Fld.PWR_NAP_ENTRIES_COUNT : Fld := ⟨0x10200018, 0, 32⟩
def Fld.PWR_NAP_TICKS_LO_TICKS : Fld := ⟨0x1020001c, 0, 32⟩
def Fld.PWR_NAP_TICKS_HI_TICKS : Fld := ⟨0x10200020, 0, 32⟩
def Fld.PWR_GATEb_STATE (n : Nat) : Fld := ⟨0x10201000 + 0x1000 * n, 2, 2⟩
def Fld.PWR_GATEb_PWR_OFF (n : Nat) : Fld := ⟨0x10201000 + 0x1000 * n, 1, 1⟩
def Fld.PWR_GATEb_CLK_OFF (n : Nat) : Fld := ⟨0x10201000 + 0x1000 * n, 0, 1⟩
/-! Fields of the BGN registers. -/
def Fld.BGN_POL_CTRL_ENABLE : Fld := ⟨0x11000060, 31, 1⟩
def Fld.BGN_POL_CTRL_AUTO_PROMOTE : Fld := ⟨0x11000060, 30, 1⟩
def Fld.BGN_POL_CTRL_INTERVAL : Fld := ⟨0x11000060, 0, 22⟩
/-! Fields of the LAT registers. -/
def Fld.LAT_POL_CTRL_ENABLE : Fld := ⟨0x11100060, 31, 1⟩
def Fld.LAT_POL_CTRL_AUTO_PROMOTE : Fld := ⟨0x11100060, 30, 1⟩
def Fld.LAT_POL_CTRL_INTERVAL : Fld := ⟨0x11100060, 0, 22⟩
/-! Fields of the BGN registers. -/
def Fld.BGN_POL_STATUS_FAIL : Fld := ⟨0x11000064, 14, 1⟩
def Fld.BGN_POL_STATUS_LAST_FAIL : Fld := ⟨0x11000064, 8, 6⟩
def Fld.BGN_POL_STATUS_BUSY : Fld := ⟨0x11000064, 7, 1⟩
def Fld.BGN_POL_STATUS_CORE : Fld := ⟨0x11000064, 0, 6⟩
/-! Fields of the LAT registers. -/
def Fld.LAT_POL_STATUS_FAIL : Fld := ⟨0x11100064, 14, 1⟩
def Fld.LAT_POL_STATUS_LAST_FAIL : Fld := ⟨0x11100064, 8, 6⟩
def Fld.LAT_POL_STATUS_BUSY : Fld := ⟨0x11100064, 7, 1⟩
def Fld.LAT_POL_STATUS_CORE : Fld := ⟨0x11100064, 0, 6⟩
/-! Fields of the BGN registers. -/
def Fld.BGN_POL_PASSES_COUNT : Fld := ⟨0x11000068, 0, 32⟩
/-! Fields of the LAT registers. -/
def Fld.LAT_POL_PASSES_COUNT : Fld := ⟨0x11100068, 0, 32⟩
/-! Fields of the BGN registers. -/
def Fld.BGN_POL_FAILS_COUNT : Fld := ⟨0x1100006c, 0, 32⟩
/-! Fields of the LAT registers. -/
def Fld.LAT_POL_FAILS_COUNT : Fld := ⟨0x1110006c, 0, 32⟩
/-! Fields of the ALM registers. -/
def Fld.ALM_VBAT_B_MV : Fld := ⟨0x10300060, 16, 16⟩
def Fld.ALM_VBAT_A_MV : Fld := ⟨0x10300060, 0, 16⟩

/-- Register rows of HST, part 0: address, count, stride, fields. -/
def regRowsHst0 : List RegRow :=
  [/- HST_STATUS -/ ⟨0x10c00000, 1, 0x0, [⟨12, 12, .ro, 0x0, 0, 1, 1⟩, ⟨11, 11, .ro, 0x0, 0, 1, 1⟩, ⟨10, 10, .ro, 0x0, 0, 1, 1⟩, ⟨9, 8, .ro, 0x0, 0, 3, 1⟩, ⟨7, 4, .ro, 0x0, 0, 15, 1⟩, ⟨3, 0, .ro, 0x0, 0, 15, 1⟩]⟩,
   /- HST_EVENT -/ ⟨0x10c00004, 1, 0x0, [⟨4, 4, .w1c, 0x0, 0, 1, 1⟩, ⟨3, 3, .w1c, 0x0, 0, 1, 1⟩, ⟨2, 2, .w1c, 0x0, 0, 1, 1⟩, ⟨1, 1, .w1c, 0x0, 0, 1, 1⟩, ⟨0, 0, .w1c, 0x0, 0, 1, 1⟩]⟩,
   /- HST_TICK_LO -/ ⟨0x10c00010, 1, 0x0, [⟨31, 0, .ro, 0x0, 0, 4294967295, 1⟩]⟩,
   /- HST_TICK_HI -/ ⟨0x10c00014, 1, 0x0, [⟨31, 0, .ro, 0x0, 0, 4294967295, 1⟩]⟩,
   /- HST_FAULTEDk -/ ⟨0x10c00100, 32, 0x4, [⟨31, 0, .ro, 0x0, 0, 4294967295, 1⟩]⟩,
   /- HST_AQ_SQ_BASE_LO -/ ⟨0x10c01000, 1, 0x0, [⟨31, 0, .rw, 0x0, 0, 4294967295, 4096⟩]⟩,
   /- HST_AQ_SQ_BASE_HI -/ ⟨0x10c01004, 1, 0x0, [⟨31, 0, .rw, 0x0, 0, 4294967295, 1⟩]⟩,
   /- HST_AQ_CQ_BASE_LO -/ ⟨0x10c01008, 1, 0x0, [⟨31, 0, .rw, 0x0, 0, 4294967295, 4096⟩]⟩,
   /- HST_AQ_CQ_BASE_HI -/ ⟨0x10c0100c, 1, 0x0, [⟨31, 0, .rw, 0x0, 0, 4294967295, 1⟩]⟩,
   /- HST_AQ_CFG -/ ⟨0x10c01010, 1, 0x0, [⟨8, 8, .rw, 0x0, 0, 1, 1⟩, ⟨3, 0, .rw, 0x4, 4, 12, 1⟩]⟩,
   /- HST_AQ_STATUS -/ ⟨0x10c01014, 1, 0x0, [⟨1, 1, .ro, 0x0, 0, 1, 1⟩, ⟨0, 0, .ro, 0x0, 0, 1, 1⟩]⟩,
   /- HST_AQ_SQ_TAIL -/ ⟨0x10c01018, 1, 0x0, [⟨31, 0, .rw, 0x0, 0, 4294967295, 1⟩]⟩,
   /- HST_AQ_CQ_HEAD -/ ⟨0x10c0101c, 1, 0x0, [⟨31, 0, .rw, 0x0, 0, 4294967295, 1⟩]⟩]

/-- Register rows of LKT, part 0: address, count, stride, fields. -/
def regRowsLkt0 : List RegRow :=
  [/- LKT_STATUS -/ ⟨0x11300000, 1, 0x0, [⟨2, 2, .ro, 0x0, 0, 1, 1⟩, ⟨1, 1, .ro, 0x0, 0, 1, 1⟩, ⟨0, 0, .ro, 0x0, 0, 1, 1⟩]⟩,
   /- LKT_JOBS -/ ⟨0x11300004, 1, 0x0, [⟨12, 0, .ro, 0x0, 0, 8191, 1⟩]⟩,
   /- LKT_GRANULES -/ ⟨0x11300008, 1, 0x0, [⟨14, 0, .ro, 0x0, 0, 32767, 1⟩]⟩,
   /- LKT_PEAK -/ ⟨0x1130000c, 1, 0x0, [⟨28, 16, .ro, 0x0, 0, 8191, 1⟩, ⟨14, 0, .ro, 0x0, 0, 32767, 1⟩]⟩,
   /- LKT_CTRL -/ ⟨0x11300010, 1, 0x0, [⟨0, 0, .rws, 0x0, 0, 1, 1⟩]⟩,
   /- LKT_WASTE_LO -/ ⟨0x11300014, 1, 0x0, [⟨31, 0, .ro, 0x0, 0, 4294967295, 1⟩]⟩,
   /- LKT_WASTE_HI -/ ⟨0x11300018, 1, 0x0, [⟨31, 0, .ro, 0x0, 0, 4294967295, 1⟩]⟩,
   /- LKT_ADMIT_WAITS -/ ⟨0x1130001c, 1, 0x0, [⟨31, 0, .ro, 0x0, 0, 4294967295, 1⟩]⟩,
   /- LKT_POL_CFG -/ ⟨0x11300100, 1, 0x0, [⟨31, 31, .rws, 0x0, 0, 1, 1⟩, ⟨15, 0, .rws, 0x64, 1, 60000, 1⟩]⟩,
   /- LKT_POL_RING_BASE -/ ⟨0x11300104, 1, 0x0, [⟨31, 0, .rws, 0x0, 0, 4294967295, 256⟩]⟩,
   /- LKT_POL_RING_DEPTH -/ ⟨0x11300108, 1, 0x0, [⟨3, 0, .rws, 0x4, 4, 12, 1⟩]⟩,
   /- LKT_POL_HEAD -/ ⟨0x1130010c, 1, 0x0, [⟨31, 0, .ro, 0x0, 0, 4294967295, 1⟩]⟩,
   /- LKT_POL_TAIL -/ ⟨0x11300110, 1, 0x0, [⟨31, 0, .rws, 0x0, 0, 4294967295, 1⟩]⟩,
   /- LKT_POL_DECIDE -/ ⟨0x11300114, 1, 0x0, [⟨31, 30, .rws, 0x0, 0, 3, 1⟩, ⟨23, 16, .rws, 0x0, 0, 255, 1⟩, ⟨11, 0, .rws, 0x0, 0, 4095, 1⟩]⟩,
   /- LKT_POL_STATUS -/ ⟨0x11300118, 1, 0x0, [⟨31, 16, .ro, 0x0, 0, 65535, 1⟩, ⟨12, 0, .ro, 0x0, 0, 8191, 1⟩]⟩]

/-- Register rows of HST, part 1: address, count, stride, fields. -/
def regRowsHst1 : List RegRow :=
  [/- HST_MTR_BASE_LO -/ ⟨0x10c00200, 1, 0x0, [⟨31, 0, .rw, 0x0, 0, 4294967295, 4096⟩]⟩,
   /- HST_MTR_BASE_HI -/ ⟨0x10c00204, 1, 0x0, [⟨31, 0, .rw, 0x0, 0, 4294967295, 1⟩]⟩,
   /- HST_MTR_CFG -/ ⟨0x10c00208, 1, 0x0, [⟨8, 8, .rw, 0x0, 0, 1, 1⟩, ⟨3, 0, .rw, 0x8, 4, 15, 1⟩]⟩,
   /- HST_MTR_STATUS -/ ⟨0x10c0020c, 1, 0x0, [⟨1, 1, .ro, 0x0, 0, 1, 1⟩, ⟨0, 0, .ro, 0x0, 0, 1, 1⟩]⟩,
   /- HST_MTR_HEAD -/ ⟨0x10c00210, 1, 0x0, [⟨31, 0, .rw, 0x0, 0, 4294967295, 1⟩]⟩,
   /- HST_MTR_TAIL -/ ⟨0x10c00214, 1, 0x0, [⟨31, 0, .ro, 0x0, 0, 4294967295, 1⟩]⟩,
   /- HST_MTR_CARRIES -/ ⟨0x10c00218, 1, 0x0, [⟨31, 0, .ro, 0x0, 0, 4294967295, 1⟩]⟩,
   /- HST_MTR_HOLDS -/ ⟨0x10c0021c, 1, 0x0, [⟨31, 0, .ro, 0x0, 0, 4294967295, 1⟩]⟩,
   /- HST_JNL_BASE_LO -/ ⟨0x10c00300, 1, 0x0, [⟨31, 0, .rw, 0x0, 0, 4294967295, 4096⟩]⟩,
   /- HST_JNL_BASE_HI -/ ⟨0x10c00304, 1, 0x0, [⟨31, 0, .rw, 0x0, 0, 4294967295, 1⟩]⟩,
   /- HST_JNL_CFG -/ ⟨0x10c00308, 1, 0x0, [⟨8, 8, .rw, 0x0, 0, 1, 1⟩, ⟨4, 0, .rw, 0x1a, 26, 31, 1⟩]⟩,
   /- HST_JNL_STATUS -/ ⟨0x10c0030c, 1, 0x0, [⟨3, 3, .ro, 0x0, 0, 1, 1⟩, ⟨2, 2, .ro, 0x0, 0, 1, 1⟩, ⟨1, 1, .ro, 0x0, 0, 1, 1⟩, ⟨0, 0, .ro, 0x0, 0, 1, 1⟩]⟩,
   /- HST_JNL_WRITTEN_LO -/ ⟨0x10c00310, 1, 0x0, [⟨31, 0, .ro, 0x0, 0, 4294967295, 1⟩]⟩,
   /- HST_JNL_WRITTEN_HI -/ ⟨0x10c00314, 1, 0x0, [⟨31, 0, .ro, 0x0, 0, 4294967295, 1⟩]⟩,
   /- HST_JNL_CONSUMED_LO -/ ⟨0x10c00318, 1, 0x0, [⟨31, 0, .rw, 0x0, 0, 4294967295, 1⟩]⟩,
   /- HST_JNL_CONSUMED_HI -/ ⟨0x10c0031c, 1, 0x0, [⟨31, 0, .rw, 0x0, 0, 4294967295, 1⟩]⟩,
   /- HST_JNL_EXPORTED_LO -/ ⟨0x10c00320, 1, 0x0, [⟨31, 0, .ro, 0x0, 0, 4294967295, 1⟩]⟩,
   /- HST_JNL_EXPORTED_HI -/ ⟨0x10c00324, 1, 0x0, [⟨31, 0, .ro, 0x0, 0, 4294967295, 1⟩]⟩,
   /- HST_JNL_DURABLE_LO -/ ⟨0x10c00328, 1, 0x0, [⟨31, 0, .rw, 0x0, 0, 4294967295, 1⟩]⟩,
   /- HST_JNL_DURABLE_HI -/ ⟨0x10c0032c, 1, 0x0, [⟨31, 0, .rw, 0x0, 0, 4294967295, 1⟩]⟩,
   /- HST_JNL_CLASP -/ ⟨0x10c00330, 1, 0x0, [⟨31, 0, .rw, 0x0, 0, 4294967295, 1⟩]⟩]

/-- Register rows of STR, part 0: address, count, stride, fields. -/
def regRowsStr0 : List RegRow :=
  [/- STR_STATUS -/ ⟨0x10e00000, 1, 0x0, [⟨15, 12, .ro, 0x0, 0, 15, 1⟩, ⟨4, 4, .ro, 0x0, 0, 1, 1⟩, ⟨3, 3, .ro, 0x0, 0, 1, 1⟩, ⟨2, 2, .ro, 0x0, 0, 1, 1⟩, ⟨1, 1, .ro, 0x0, 0, 1, 1⟩, ⟨0, 0, .ro, 0x0, 0, 1, 1⟩]⟩,
   /- STR_OPEN_BYTES -/ ⟨0x10e00004, 1, 0x0, [⟨22, 0, .ro, 0x90, 0, 8388607, 1⟩]⟩,
   /- STR_HEAD_LO -/ ⟨0x10e00008, 1, 0x0, [⟨31, 0, .ro, 0x0, 0, 4294967295, 1⟩]⟩,
   /- STR_HEAD_HI -/ ⟨0x10e0000c, 1, 0x0, [⟨31, 0, .ro, 0x0, 0, 4294967295, 1⟩]⟩,
   /- STR_CTRL -/ ⟨0x10e00010, 1, 0x0, [⟨0, 0, .rws, 0x0, 0, 1, 1⟩]⟩]

/-- Register rows of MEM, part 0: address, count, stride, fields. -/
def regRowsMem0 : List RegRow :=
  [/- MEM_STATUS -/ ⟨0x10f00000, 1, 0x0, [⟨7, 6, .ro, 0x0, 0, 3, 1⟩, ⟨5, 5, .ro, 0x0, 0, 1, 1⟩, ⟨4, 4, .w1c, 0x0, 0, 1, 1⟩, ⟨3, 3, .w1c, 0x0, 0, 1, 1⟩, ⟨2, 2, .ro, 0x0, 0, 1, 1⟩, ⟨1, 1, .ro, 0x0, 0, 1, 1⟩, ⟨0, 0, .ro, 0x0, 0, 1, 1⟩]⟩,
   /- MEM_CFG -/ ⟨0x10f00004, 1, 0x0, [⟨31, 16, .ro, 0x0, 0, 65535, 1⟩, ⟨15, 8, .ro, 0x0, 0, 255, 1⟩, ⟨0, 0, .ro, 0x0, 0, 1, 1⟩]⟩,
   /- MEM_DIR_CFG -/ ⟨0x10f00008, 1, 0x0, [⟨9, 5, .ro, 0x0, 0, 31, 1⟩, ⟨4, 0, .ro, 0x10, 0, 31, 1⟩]⟩,
   /- MEM_DIR_CURSOR -/ ⟨0x10f0000c, 1, 0x0, [⟨31, 0, .ro, 0x0, 0, 4294967295, 1⟩]⟩,
   /- MEM_DIR_ENTRIES -/ ⟨0x10f00010, 1, 0x0, [⟨31, 0, .ro, 0x0, 0, 4294967295, 1⟩]⟩,
   /- MEM_BW -/ ⟨0x10f00014, 1, 0x0, [⟨15, 8, .ro, 0x0, 0, 255, 1⟩, ⟨7, 0, .ro, 0x3c, 0, 255, 1⟩]⟩,
   /- MEM_SCR_CTRL -/ ⟨0x10f00018, 1, 0x0, [⟨1, 1, .ro, 0x0, 0, 1, 1⟩, ⟨0, 0, .rws, 0x0, 0, 1, 1⟩]⟩,
   /- MEM_ECC_CE -/ ⟨0x10f00020, 1, 0x0, [⟨31, 0, .ro, 0x0, 0, 4294967295, 1⟩]⟩,
   /- MEM_ECC_UE -/ ⟨0x10f00024, 1, 0x0, [⟨31, 0, .ro, 0x0, 0, 4294967295, 1⟩]⟩,
   /- MEM_ERR_ADDR_LO -/ ⟨0x10f00028, 1, 0x0, [⟨31, 0, .ro, 0x0, 0, 4294967295, 1⟩]⟩,
   /- MEM_ERR_ADDR_HI -/ ⟨0x10f0002c, 1, 0x0, [⟨7, 0, .ro, 0x0, 0, 255, 1⟩]⟩,
   /- MEM_SCRUB -/ ⟨0x10f00030, 1, 0x0, [⟨0, 0, .rws, 0x1, 0, 1, 1⟩]⟩,
   /- MEM_PR_COMMIT -/ ⟨0x10f00040, 1, 0x0, [⟨0, 0, .rws, 0x0, 0, 1, 1⟩]⟩,
   /- MEM_PR_GEN -/ ⟨0x10f00044, 1, 0x0, [⟨31, 16, .ro, 0x0, 0, 65535, 1⟩, ⟨15, 0, .ro, 0x0, 0, 65535, 1⟩]⟩,
   /- MEM_PRn_BASE -/ ⟨0x10f00100, 8, 0x10, [⟨25, 0, .rws, 0x0, 0, 67108863, 1⟩]⟩,
   /- MEM_PRn_LIMIT -/ ⟨0x10f00104, 1, 0x10, [⟨25, 0, .rws, 0x3ffffff, 0, 67108863, 1⟩]⟩,
   /- MEM_PRn_LIMIT -/ ⟨0x10f00114, 7, 0x10, [⟨25, 0, .rws, 0x0, 0, 67108863, 1⟩]⟩,
   /- MEM_PRn_CTRL -/ ⟨0x10f00108, 1, 0x10, [⟨2, 2, .lock, 0x0, 0, 1, 1⟩, ⟨1, 1, .ro, 0x0, 0, 1, 1⟩, ⟨0, 0, .rws, 0x1, 0, 1, 1⟩]⟩,
   /- MEM_PRn_CTRL -/ ⟨0x10f00118, 7, 0x10, [⟨2, 2, .lock, 0x0, 0, 1, 1⟩, ⟨1, 1, .ro, 0x0, 0, 1, 1⟩, ⟨0, 0, .rws, 0x0, 0, 1, 1⟩]⟩]

/-- Register rows of FLL, part 0: address, count, stride, fields. -/
def regRowsFll0 : List RegRow :=
  [/- FLL_STATUS -/ ⟨0x10b00000, 1, 0x0, [⟨7, 5, .ro, 0x0, 0, 7, 1⟩, ⟨4, 4, .ro, 0x0, 0, 1, 1⟩, ⟨3, 3, .ro, 0x0, 0, 1, 1⟩, ⟨2, 2, .ro, 0x0, 0, 1, 1⟩, ⟨0, 0, .ro, 0x0, 0, 1, 1⟩]⟩,
   /- FLL_CTRL -/ ⟨0x10b00004, 1, 0x0, [⟨1, 1, .rws, 0x0, 0, 1, 1⟩, ⟨0, 0, .rws, 0x1, 0, 1, 1⟩]⟩,
   /- FLL_ERR -/ ⟨0x10b00008, 1, 0x0, [⟨3, 3, .w1c, 0x0, 0, 1, 1⟩, ⟨2, 2, .w1c, 0x0, 0, 1, 1⟩, ⟨1, 1, .w1c, 0x0, 0, 1, 1⟩, ⟨0, 0, .w1c, 0x0, 0, 1, 1⟩]⟩,
   /- FLL_TX_FRAMES -/ ⟨0x10b0000c, 1, 0x0, [⟨31, 0, .ro, 0x0, 0, 4294967295, 1⟩]⟩,
   /- FLL_RX_FRAMES -/ ⟨0x10b00010, 1, 0x0, [⟨31, 0, .ro, 0x0, 0, 4294967295, 1⟩]⟩,
   /- FLL_TAG_FAILS -/ ⟨0x10b00014, 1, 0x0, [⟨31, 0, .ro, 0x0, 0, 4294967295, 1⟩]⟩]

/-- Register rows of BGN, part 0: address, count, stride, fields. -/
def regRowsBgn0 : List RegRow :=
  [/- BGN_STATUS -/ ⟨0x11000000, 1, 0x0, [⟨13, 8, .ro, 0x20, 0, 63, 1⟩, ⟨5, 4, .ro, 0x2, 0, 3, 1⟩, ⟨0, 0, .ro, 0x0, 0, 1, 1⟩]⟩,
   /- BGN_HOLD_LO -/ ⟨0x11000008, 1, 0x0, [⟨31, 0, .rws, 0x0, 0, 4294967295, 1⟩]⟩,
   /- BGN_HOLD_HI -/ ⟨0x1100000c, 1, 0x0, [⟨1, 0, .rws, 0x0, 0, 3, 1⟩]⟩,
   /- BGN_FENCE_LO -/ ⟨0x11000010, 1, 0x0, [⟨31, 0, .w1s, 0x0, 0, 4294967295, 1⟩]⟩,
   /- BGN_FENCE_HI -/ ⟨0x11000014, 1, 0x0, [⟨1, 0, .w1s, 0x0, 0, 3, 1⟩]⟩,
   /- BGN_PROMOTE -/ ⟨0x11000018, 1, 0x0, [⟨5, 0, .rws, 0x0, 0, 63, 1⟩]⟩,
   /- BGN_IRQ -/ ⟨0x11000020, 1, 0x0, [⟨0, 0, .rws, 0x0, 0, 1, 1⟩]⟩,
   /- BGN_WIN_SEL -/ ⟨0x11000030, 1, 0x0, [⟨5, 0, .rws, 0x0, 0, 63, 1⟩]⟩,
   /- BGN_AKEY_CTRL -/ ⟨0x11000040, 1, 0x0, [⟨1, 1, .rws, 0x0, 0, 1, 1⟩, ⟨0, 0, .rws, 0x0, 0, 1, 1⟩]⟩,
   /- BGN_AKEY_MASK_LO -/ ⟨0x11000044, 1, 0x0, [⟨31, 0, .rws, 0x0, 0, 4294967295, 1⟩]⟩,
   /- BGN_AKEY_MASK_HI -/ ⟨0x11000048, 1, 0x0, [⟨1, 0, .rws, 0x0, 0, 3, 1⟩]⟩,
   /- BGN_AKEY_DST -/ ⟨0x1100004c, 1, 0x0, [⟨31, 0, .rws, 0x0, 0, 4294967295, 64⟩]⟩,
   /- BGN_AKEY_STATUS -/ ⟨0x11000050, 1, 0x0, [⟨2, 2, .w1c, 0x0, 0, 1, 1⟩, ⟨1, 1, .w1c, 0x0, 0, 1, 1⟩, ⟨0, 0, .ro, 0x0, 0, 1, 1⟩]⟩,
   /- BGN_Cn_CFG -/ ⟨0x11001000, 34, 0x40, [⟨5, 0, .rws, 0x10, 0, 63, 1⟩]⟩,
   /- BGN_Cn_ARG0 -/ ⟨0x11001004, 34, 0x40, [⟨25, 16, .rws, 0x0, 0, 1023, 1⟩, ⟨9, 0, .rws, 0x0, 0, 1023, 1⟩]⟩,
   /- BGN_Cn_ARG1 -/ ⟨0x11001008, 34, 0x40, [⟨25, 16, .rws, 0x0, 0, 1023, 1⟩, ⟨9, 0, .rws, 0x0, 0, 1023, 1⟩]⟩,
   /- BGN_Cn_ARG2 -/ ⟨0x1100100c, 34, 0x40, [⟨9, 0, .rws, 0x0, 0, 1023, 1⟩]⟩,
   /- BGN_Cn_LEN -/ ⟨0x11001010, 34, 0x40, [⟨13, 0, .rws, 0x800, 0, 16383, 1⟩]⟩,
   /- BGN_Cn_CMD -/ ⟨0x11001014, 34, 0x40, [⟨15, 8, .rws, 0x0, 0, 255, 1⟩, ⟨7, 0, .rws, 0x0, 0, 255, 1⟩]⟩,
   /- BGN_Cn_STATUS -/ ⟨0x11001018, 32, 0x40, [⟨31, 28, .ro, 0x1, 0, 15, 1⟩, ⟨3, 3, .w1c, 0x0, 0, 1, 1⟩, ⟨2, 2, .ro, 0x0, 0, 1, 1⟩, ⟨1, 1, .ro, 0x0, 0, 1, 1⟩, ⟨0, 0, .w1c, 0x0, 0, 1, 1⟩]⟩,
   /- BGN_Cn_STATUS -/ ⟨0x11001818, 2, 0x40, [⟨31, 28, .ro, 0x0, 0, 15, 1⟩, ⟨3, 3, .w1c, 0x0, 0, 1, 1⟩, ⟨2, 2, .ro, 0x0, 0, 1, 1⟩, ⟨1, 1, .ro, 0x0, 0, 1, 1⟩, ⟨0, 0, .w1c, 0x0, 0, 1, 1⟩]⟩,
   /- BGN_Cn_CYCLES -/ ⟨0x1100101c, 34, 0x40, [⟨31, 0, .ro, 0x0, 0, 4294967295, 1⟩]⟩,
   /- BGN_WINDOW -/ ⟨0x11080000, 8192, 0x4, [⟨31, 0, .rws, 0x0, 0, 4294967295, 1⟩]⟩]

/-- Register rows of LAT, part 0: address, count, stride, fields. -/
def regRowsLat0 : List RegRow :=
  [/- LAT_STATUS -/ ⟨0x11100000, 1, 0x0, [⟨11, 8, .ro, 0x8, 0, 15, 1⟩, ⟨4, 4, .ro, 0x1, 0, 1, 1⟩, ⟨0, 0, .ro, 0x0, 0, 1, 1⟩]⟩,
   /- LAT_HOLD -/ ⟨0x11100008, 1, 0x0, [⟨8, 0, .rws, 0x0, 0, 511, 1⟩]⟩,
   /- LAT_FENCE -/ ⟨0x11100010, 1, 0x0, [⟨8, 0, .w1s, 0x0, 0, 511, 1⟩]⟩,
   /- LAT_PROMOTE -/ ⟨0x11100018, 1, 0x0, [⟨3, 0, .rws, 0x0, 0, 15, 1⟩]⟩,
   /- LAT_IRQ -/ ⟨0x11100020, 1, 0x0, [⟨0, 0, .rws, 0x0, 0, 1, 1⟩]⟩,
   /- LAT_WIN_SEL -/ ⟨0x11100030, 1, 0x0, [⟨3, 0, .rws, 0x0, 0, 15, 1⟩]⟩,
   /- LAT_COSIG -/ ⟨0x11100040, 1, 0x0, [⟨2, 2, .ro, 0x0, 0, 1, 1⟩, ⟨1, 1, .ro, 0x0, 0, 1, 1⟩, ⟨0, 0, .ro, 0x0, 0, 1, 1⟩]⟩,
   /- LAT_Cn_SRC -/ ⟨0x11101000, 9, 0x40, [⟨31, 16, .rws, 0x0, 0, 57344, 1⟩, ⟨15, 0, .rws, 0x0, 0, 65535, 1⟩]⟩,
   /- LAT_Cn_DST -/ ⟨0x11101004, 9, 0x40, [⟨31, 16, .rws, 0x0, 0, 65535, 1⟩, ⟨15, 0, .rws, 0x0, 0, 65535, 1⟩]⟩,
   /- LAT_Cn_AUX -/ ⟨0x11101008, 9, 0x40, [⟨31, 16, .rws, 0x0, 0, 65535, 1⟩, ⟨15, 0, .rws, 0x0, 0, 65535, 1⟩]⟩,
   /- LAT_Cn_CMD -/ ⟨0x1110100c, 9, 0x40, [⟨15, 8, .rws, 0x0, 0, 255, 1⟩, ⟨7, 0, .rws, 0x0, 0, 255, 1⟩]⟩,
   /- LAT_Cn_STATUS -/ ⟨0x11101010, 8, 0x40, [⟨31, 28, .ro, 0x1, 0, 15, 1⟩, ⟨3, 3, .w1c, 0x0, 0, 1, 1⟩, ⟨2, 2, .ro, 0x0, 0, 1, 1⟩, ⟨1, 1, .ro, 0x0, 0, 1, 1⟩, ⟨0, 0, .w1c, 0x0, 0, 1, 1⟩]⟩,
   /- LAT_Cn_STATUS -/ ⟨0x11101210, 1, 0x40, [⟨31, 28, .ro, 0x0, 0, 15, 1⟩, ⟨3, 3, .w1c, 0x0, 0, 1, 1⟩, ⟨2, 2, .ro, 0x0, 0, 1, 1⟩, ⟨1, 1, .ro, 0x0, 0, 1, 1⟩, ⟨0, 0, .w1c, 0x0, 0, 1, 1⟩]⟩,
   /- LAT_Cn_CYCLES -/ ⟨0x11101014, 9, 0x40, [⟨31, 0, .ro, 0x0, 0, 4294967295, 1⟩]⟩,
   /- LAT_WINDOW -/ ⟨0x11180000, 16384, 0x4, [⟨31, 0, .rws, 0x0, 0, 4294967295, 1⟩]⟩]

/-- Register rows of SYM, part 0: address, count, stride, fields. -/
def regRowsSym0 : List RegRow :=
  [/- SYM_STATUS -/ ⟨0x11200000, 1, 0x0, [⟨20, 16, .ro, 0x0, 0, 31, 1⟩, ⟨15, 11, .ro, 0x0, 0, 31, 1⟩, ⟨10, 5, .ro, 0x0, 0, 63, 1⟩, ⟨4, 0, .ro, 0x10, 0, 31, 1⟩]⟩,
   /- SYM_IRQ -/ ⟨0x11200004, 1, 0x0, [⟨1, 1, .rw, 0x0, 0, 1, 1⟩, ⟨0, 0, .rws, 0x0, 0, 1, 1⟩]⟩,
   /- SYM_LOCK_REFUSED -/ ⟨0x11200008, 1, 0x0, [⟨31, 0, .ro, 0x0, 0, 4294967295, 1⟩]⟩,
   /- SYM_ERR -/ ⟨0x1120000c, 1, 0x0, [⟨0, 0, .w1c, 0x0, 0, 1, 1⟩]⟩,
   /- SYM_Ln_LOCK -/ ⟨0x11201000, 16, 0x100, [⟨31, 16, .ro, 0x0, 0, 65535, 1⟩, ⟨15, 0, .rw, 0x0, 0, 65535, 1⟩]⟩,
   /- SYM_Ln_CTRL -/ ⟨0x11201004, 16, 0x100, [⟨27, 24, .rw, 0x0, 0, 15, 1⟩, ⟨23, 16, .rw, 0x10, 0, 255, 1⟩, ⟨15, 12, .rw, 0xc, 0, 15, 1⟩, ⟨10, 10, .rw, 0x0, 0, 1, 1⟩, ⟨9, 9, .rw, 0x0, 0, 1, 1⟩, ⟨7, 0, .rw, 0x0, 0, 255, 1⟩]⟩,
   /- SYM_Ln_CMD -/ ⟨0x11201008, 16, 0x100, [⟨1, 1, .w1s, 0x0, 0, 1, 1⟩, ⟨0, 0, .w1s, 0x0, 0, 1, 1⟩]⟩,
   /- SYM_Ln_STATUS -/ ⟨0x1120100c, 16, 0x100, [⟨31, 28, .ro, 0x0, 0, 15, 1⟩, ⟨6, 6, .ro, 0x0, 0, 1, 1⟩, ⟨5, 5, .ro, 0x0, 0, 1, 1⟩, ⟨4, 4, .w1c, 0x0, 0, 1, 1⟩, ⟨3, 3, .w1c, 0x0, 0, 1, 1⟩, ⟨2, 2, .w1c, 0x0, 0, 1, 1⟩, ⟨1, 1, .ro, 0x0, 0, 1, 1⟩, ⟨0, 0, .w1c, 0x0, 0, 1, 1⟩]⟩,
   /- SYM_Ln_SRC_LO -/ ⟨0x11201010, 16, 0x100, [⟨31, 0, .rw, 0x0, 0, 4294967295, 1⟩]⟩,
   /- SYM_Ln_SRC_HI -/ ⟨0x11201014, 16, 0x100, [⟨7, 0, .rw, 0x0, 0, 255, 1⟩]⟩,
   /- SYM_Ln_DST_LO -/ ⟨0x11201018, 16, 0x100, [⟨31, 0, .rw, 0x0, 0, 4294967295, 1⟩]⟩,
   /- SYM_Ln_DST_HI -/ ⟨0x1120101c, 16, 0x100, [⟨7, 0, .rw, 0x0, 0, 255, 1⟩]⟩,
   /- SYM_Ln_LEN -/ ⟨0x11201020, 16, 0x100, [⟨24, 0, .rw, 0x0, 0, 16777216, 1⟩]⟩,
   /- SYM_Ln_AAD_LEN -/ ⟨0x11201024, 16, 0x100, [⟨16, 0, .rw, 0x0, 0, 65536, 1⟩]⟩,
   /- SYM_Ln_KEYLEN -/ ⟨0x11201028, 16, 0x100, [⟨7, 0, .rw, 0x20, 16, 128, 1⟩]⟩,
   /- SYM_Ln_CYCLES -/ ⟨0x1120102c, 16, 0x100, [⟨31, 0, .ro, 0x0, 0, 4294967295, 1⟩]⟩,
   /- SYM_Ln_IV -/ ⟨0x11201040, 16, 0x100, [⟨31, 0, .rw, 0x0, 0, 4294967295, 1⟩]⟩,
   /- SYM_Ln_IV -/ ⟨0x11201044, 16, 0x100, [⟨31, 0, .rw, 0x0, 0, 4294967295, 1⟩]⟩,
   /- SYM_Ln_IV -/ ⟨0x11201048, 16, 0x100, [⟨31, 0, .rw, 0x0, 0, 4294967295, 1⟩]⟩,
   /- SYM_Ln_IV -/ ⟨0x1120104c, 16, 0x100, [⟨31, 0, .rw, 0x0, 0, 4294967295, 1⟩]⟩,
   /- SYM_Ln_TAG -/ ⟨0x11201050, 16, 0x100, [⟨31, 0, .rw, 0x0, 0, 4294967295, 1⟩]⟩,
   /- SYM_Ln_TAG -/ ⟨0x11201054, 16, 0x100, [⟨31, 0, .rw, 0x0, 0, 4294967295, 1⟩]⟩,
   /- SYM_Ln_TAG -/ ⟨0x11201058, 16, 0x100, [⟨31, 0, .rw, 0x0, 0, 4294967295, 1⟩]⟩,
   /- SYM_Ln_TAG -/ ⟨0x1120105c, 16, 0x100, [⟨31, 0, .rw, 0x0, 0, 4294967295, 1⟩]⟩]

/-- Register rows of SYM, part 1: address, count, stride, fields. -/
def regRowsSym1 : List RegRow :=
  [/- SYM_Ln_KEY -/ ⟨0x11201080, 16, 0x100, [⟨31, 0, .wo, 0x0, 0, 4294967295, 1⟩]⟩,
   /- SYM_Ln_KEY -/ ⟨0x11201084, 16, 0x100, [⟨31, 0, .wo, 0x0, 0, 4294967295, 1⟩]⟩,
   /- SYM_Ln_KEY -/ ⟨0x11201088, 16, 0x100, [⟨31, 0, .wo, 0x0, 0, 4294967295, 1⟩]⟩,
   /- SYM_Ln_KEY -/ ⟨0x1120108c, 16, 0x100, [⟨31, 0, .wo, 0x0, 0, 4294967295, 1⟩]⟩,
   /- SYM_Ln_KEY -/ ⟨0x11201090, 16, 0x100, [⟨31, 0, .wo, 0x0, 0, 4294967295, 1⟩]⟩,
   /- SYM_Ln_KEY -/ ⟨0x11201094, 16, 0x100, [⟨31, 0, .wo, 0x0, 0, 4294967295, 1⟩]⟩,
   /- SYM_Ln_KEY -/ ⟨0x11201098, 16, 0x100, [⟨31, 0, .wo, 0x0, 0, 4294967295, 1⟩]⟩,
   /- SYM_Ln_KEY -/ ⟨0x1120109c, 16, 0x100, [⟨31, 0, .wo, 0x0, 0, 4294967295, 1⟩]⟩,
   /- SYM_Ln_KEY -/ ⟨0x112010a0, 16, 0x100, [⟨31, 0, .wo, 0x0, 0, 4294967295, 1⟩]⟩,
   /- SYM_Ln_KEY -/ ⟨0x112010a4, 16, 0x100, [⟨31, 0, .wo, 0x0, 0, 4294967295, 1⟩]⟩,
   /- SYM_Ln_KEY -/ ⟨0x112010a8, 16, 0x100, [⟨31, 0, .wo, 0x0, 0, 4294967295, 1⟩]⟩,
   /- SYM_Ln_KEY -/ ⟨0x112010ac, 16, 0x100, [⟨31, 0, .wo, 0x0, 0, 4294967295, 1⟩]⟩,
   /- SYM_Ln_KEY -/ ⟨0x112010b0, 16, 0x100, [⟨31, 0, .wo, 0x0, 0, 4294967295, 1⟩]⟩,
   /- SYM_Ln_KEY -/ ⟨0x112010b4, 16, 0x100, [⟨31, 0, .wo, 0x0, 0, 4294967295, 1⟩]⟩,
   /- SYM_Ln_KEY -/ ⟨0x112010b8, 16, 0x100, [⟨31, 0, .wo, 0x0, 0, 4294967295, 1⟩]⟩,
   /- SYM_Ln_KEY -/ ⟨0x112010bc, 16, 0x100, [⟨31, 0, .wo, 0x0, 0, 4294967295, 1⟩]⟩,
   /- SYM_Ln_KEY -/ ⟨0x112010c0, 16, 0x100, [⟨31, 0, .wo, 0x0, 0, 4294967295, 1⟩]⟩,
   /- SYM_Ln_KEY -/ ⟨0x112010c4, 16, 0x100, [⟨31, 0, .wo, 0x0, 0, 4294967295, 1⟩]⟩,
   /- SYM_Ln_KEY -/ ⟨0x112010c8, 16, 0x100, [⟨31, 0, .wo, 0x0, 0, 4294967295, 1⟩]⟩,
   /- SYM_Ln_KEY -/ ⟨0x112010cc, 16, 0x100, [⟨31, 0, .wo, 0x0, 0, 4294967295, 1⟩]⟩,
   /- SYM_Ln_KEY -/ ⟨0x112010d0, 16, 0x100, [⟨31, 0, .wo, 0x0, 0, 4294967295, 1⟩]⟩,
   /- SYM_Ln_KEY -/ ⟨0x112010d4, 16, 0x100, [⟨31, 0, .wo, 0x0, 0, 4294967295, 1⟩]⟩,
   /- SYM_Ln_KEY -/ ⟨0x112010d8, 16, 0x100, [⟨31, 0, .wo, 0x0, 0, 4294967295, 1⟩]⟩,
   /- SYM_Ln_KEY -/ ⟨0x112010dc, 16, 0x100, [⟨31, 0, .wo, 0x0, 0, 4294967295, 1⟩]⟩]

/-- Register rows of SYM, part 2: address, count, stride, fields. -/
def regRowsSym2 : List RegRow :=
  [/- SYM_Ln_KEY -/ ⟨0x112010e0, 16, 0x100, [⟨31, 0, .wo, 0x0, 0, 4294967295, 1⟩]⟩,
   /- SYM_Ln_KEY -/ ⟨0x112010e4, 16, 0x100, [⟨31, 0, .wo, 0x0, 0, 4294967295, 1⟩]⟩,
   /- SYM_Ln_KEY -/ ⟨0x112010e8, 16, 0x100, [⟨31, 0, .wo, 0x0, 0, 4294967295, 1⟩]⟩,
   /- SYM_Ln_KEY -/ ⟨0x112010ec, 16, 0x100, [⟨31, 0, .wo, 0x0, 0, 4294967295, 1⟩]⟩,
   /- SYM_Ln_KEY -/ ⟨0x112010f0, 16, 0x100, [⟨31, 0, .wo, 0x0, 0, 4294967295, 1⟩]⟩,
   /- SYM_Ln_KEY -/ ⟨0x112010f4, 16, 0x100, [⟨31, 0, .wo, 0x0, 0, 4294967295, 1⟩]⟩,
   /- SYM_Ln_KEY -/ ⟨0x112010f8, 16, 0x100, [⟨31, 0, .wo, 0x0, 0, 4294967295, 1⟩]⟩,
   /- SYM_Ln_KEY -/ ⟨0x112010fc, 16, 0x100, [⟨31, 0, .wo, 0x0, 0, 4294967295, 1⟩]⟩]

/-- Register rows of RNG, part 0: address, count, stride, fields. -/
def regRowsRng0 : List RegRow :=
  [/- RNG_STATUS -/ ⟨0x10500000, 1, 0x0, [⟨19, 16, .ro, 0x0, 0, 15, 1⟩, ⟨15, 12, .ro, 0x0, 0, 15, 1⟩, ⟨11, 8, .ro, 0xf, 0, 15, 1⟩, ⟨2, 0, .ro, 0x0, 0, 7, 1⟩]⟩,
   /- RNG_DRBG_STATUS -/ ⟨0x10500004, 1, 0x0, [⟨11, 8, .ro, 0x0, 0, 15, 1⟩, ⟨7, 4, .ro, 0x0, 0, 15, 1⟩, ⟨3, 0, .ro, 0x0, 0, 15, 1⟩]⟩,
   /- RNG_POOL -/ ⟨0x10500008, 1, 0x0, [⟨14, 0, .ro, 0x0, 0, 32767, 1⟩]⟩,
   /- RNG_FAILS -/ ⟨0x1050000c, 1, 0x0, [⟨15, 0, .ro, 0x0, 0, 65535, 1⟩]⟩,
   /- RNG_RCT_COUNT -/ ⟨0x10500010, 1, 0x0, [⟨31, 0, .ro, 0x0, 0, 4294967295, 1⟩]⟩,
   /- RNG_APT_COUNT -/ ⟨0x10500014, 1, 0x0, [⟨31, 0, .ro, 0x0, 0, 4294967295, 1⟩]⟩,
   /- RNG_RESEED_LO -/ ⟨0x10500018, 1, 0x0, [⟨31, 0, .ro, 0x0, 0, 4294967295, 1⟩]⟩,
   /- RNG_RESEED_HI -/ ⟨0x1050001c, 1, 0x0, [⟨31, 0, .ro, 0x0, 0, 4294967295, 1⟩]⟩,
   /- RNG_LAST_RESEED -/ ⟨0x10500020, 1, 0x0, [⟨31, 0, .ro, 0x0, 0, 4294967295, 1⟩]⟩,
   /- RNG_S_DATA -/ ⟨0x10500030, 1, 0x0, [⟨31, 0, .rws, 0x0, 0, 4294967295, 1⟩]⟩,
   /- RNG_S_STATUS -/ ⟨0x10500034, 1, 0x0, [⟨8, 8, .w1c, 0x0, 0, 1, 1⟩, ⟨6, 0, .ro, 0x0, 0, 127, 1⟩]⟩,
   /- RNG_S_CTRL -/ ⟨0x10500038, 1, 0x0, [⟨0, 0, .rws, 0x0, 0, 1, 1⟩]⟩,
   /- RNG_NS_DATA -/ ⟨0x10500040, 1, 0x0, [⟨31, 0, .ro, 0x0, 0, 4294967295, 1⟩]⟩,
   /- RNG_NS_STATUS -/ ⟨0x10500044, 1, 0x0, [⟨8, 8, .w1c, 0x0, 0, 1, 1⟩, ⟨6, 0, .ro, 0x0, 0, 127, 1⟩]⟩,
   /- RNG_NS_CTRL -/ ⟨0x10500048, 1, 0x0, [⟨0, 0, .rw, 0x0, 0, 1, 1⟩]⟩,
   /- RNG_TEST -/ ⟨0x10500050, 1, 0x0, [⟨9, 8, .rws, 0x0, 0, 3, 1⟩, ⟨3, 0, .rws, 0x0, 0, 15, 1⟩]⟩,
   /- RNG_TEST_PAT_LO -/ ⟨0x10500054, 1, 0x0, [⟨31, 0, .rws, 0x0, 0, 4294967295, 1⟩]⟩,
   /- RNG_TEST_PAT_HI -/ ⟨0x10500058, 1, 0x0, [⟨31, 0, .rws, 0x0, 0, 4294967295, 1⟩]⟩,
   /- RNG_RAW_SEL -/ ⟨0x1050005c, 1, 0x0, [⟨31, 31, .ro, 0x0, 0, 1, 1⟩, ⟨2, 2, .rws, 0x0, 0, 1, 1⟩, ⟨1, 0, .rws, 0x0, 0, 3, 1⟩]⟩,
   /- RNG_RAW_DATA -/ ⟨0x10500060, 1, 0x0, [⟨31, 0, .ro, 0x0, 0, 4294967295, 1⟩]⟩]

/-- Register rows of KLD, part 0: address, count, stride, fields. -/
def regRowsKld0 : List RegRow :=
  [/- KLD_STATUS -/ ⟨0x10400000, 1, 0x0, [⟨31, 24, .ro, 0x0, 0, 255, 1⟩, ⟨11, 11, .ro, 0x0, 0, 1, 1⟩, ⟨10, 10, .ro, 0x0, 0, 1, 1⟩, ⟨9, 9, .w1c, 0x0, 0, 1, 1⟩, ⟨8, 8, .ro, 0x0, 0, 1, 1⟩, ⟨0, 0, .ro, 0x0, 0, 1, 1⟩]⟩,
   /- KLD_SETTINGS -/ ⟨0x10400004, 1, 0x0, [⟨29, 16, .ro, 0x0, 0, 16383, 1⟩, ⟨13, 0, .ro, 0x1ff0, 0, 16383, 1⟩]⟩,
   /- KLD_PINNED -/ ⟨0x10400008, 1, 0x0, [⟨8, 0, .ro, 0x0, 0, 511, 1⟩]⟩,
   /- KLD_INTEG_FAILS -/ ⟨0x1040000c, 1, 0x0, [⟨31, 0, .ro, 0x0, 0, 4294967295, 1⟩]⟩,
   /- KLD_REFUSED -/ ⟨0x10400010, 1, 0x0, [⟨31, 0, .ro, 0x0, 0, 4294967295, 1⟩]⟩,
   /- KLD_HM_SEL -/ ⟨0x10400040, 1, 0x0, [⟨2, 0, .rw, 0x0, 0, 7, 1⟩]⟩,
   /- KLD_HM_EXT -/ ⟨0x10400044, 1, 0x0, [⟨2, 0, .rws, 0x0, 0, 7, 1⟩]⟩,
   /- KLD_HM_DATA -/ ⟨0x10400080, 16, 0x4, [⟨31, 0, .rws, 0x0, 0, 4294967295, 1⟩]⟩,
   /- KLD_HM_VALUE -/ ⟨0x104000c0, 16, 0x4, [⟨31, 0, .ro, 0x0, 0, 4294967295, 1⟩]⟩,
   /- KLD_FW_CTRL -/ ⟨0x10400100, 1, 0x0, [⟨31, 31, .rws, 0x0, 0, 1, 1⟩, ⟨23, 16, .rws, 0x0, 0, 255, 1⟩, ⟨15, 8, .rws, 0x0, 0, 255, 1⟩, ⟨3, 0, .rws, 0x0, 0, 15, 1⟩]⟩,
   /- KLD_FW_STATUS -/ ⟨0x10400104, 1, 0x0, [⟨2, 2, .w1c, 0x0, 0, 1, 1⟩, ⟨1, 1, .w1c, 0x0, 0, 1, 1⟩, ⟨0, 0, .ro, 0x0, 0, 1, 1⟩]⟩]

/-- Register rows of CRD, part 0: address, count, stride, fields. -/
def regRowsCrd0 : List RegRow :=
  [/- CRD_STATUS -/ ⟨0x10a00000, 1, 0x0, [⟨11, 8, .ro, 0x0, 0, 15, 1⟩, ⟨4, 2, .ro, 0x0, 0, 7, 1⟩, ⟨1, 1, .ro, 0x0, 0, 1, 1⟩, ⟨0, 0, .ro, 0x0, 0, 1, 1⟩]⟩,
   /- CRD_CFG -/ ⟨0x10a00004, 1, 0x0, [⟨2, 2, .rws, 0x0, 0, 1, 1⟩, ⟨1, 1, .rws, 0x1, 0, 1, 1⟩, ⟨0, 0, .rws, 0x1, 0, 1, 1⟩]⟩,
   /- CRD_Pp_STATUS -/ ⟨0x10a00010, 2, 0x10, [⟨31, 28, .ro, 0x0, 0, 15, 1⟩, ⟨11, 8, .ro, 0x0, 0, 15, 1⟩, ⟨7, 0, .ro, 0x0, 0, 255, 1⟩]⟩,
   /- CRD_Pp_OFFICER -/ ⟨0x10a00014, 2, 0x10, [⟨7, 7, .ro, 0x0, 0, 1, 1⟩, ⟨4, 0, .ro, 0x0, 0, 31, 1⟩]⟩,
   /- CRD_Pp_CTRL -/ ⟨0x10a00018, 2, 0x10, [⟨0, 0, .w1s, 0x0, 0, 1, 1⟩]⟩]

/-- Register rows of BZL, part 0: address, count, stride, fields. -/
def regRowsBzl0 : List RegRow :=
  [/- BZL_STATUS -/ ⟨0x10000000, 1, 0x0, [⟨2, 2, .ro, 0x0, 0, 1, 1⟩, ⟨1, 1, .ro, 0x0, 0, 1, 1⟩, ⟨0, 0, .ro, 0x0, 0, 1, 1⟩]⟩,
   /- BZL_MODE -/ ⟨0x10000004, 1, 0x0, [⟨0, 0, .lock, 0x0, 0, 1, 1⟩]⟩,
   /- BZL_COMMIT -/ ⟨0x10000008, 1, 0x0, [⟨0, 0, .rws, 0x0, 0, 1, 1⟩]⟩,
   /- BZL_GEN_COMMITTED -/ ⟨0x1000000c, 1, 0x0, [⟨15, 0, .ro, 0x0, 0, 65535, 1⟩]⟩,
   /- BZL_GEN_ACTIVE -/ ⟨0x10000010, 1, 0x0, [⟨15, 0, .ro, 0x0, 0, 65535, 1⟩]⟩,
   /- BZL_VIEW -/ ⟨0x10000014, 1, 0x0, [⟨0, 0, .rws, 0x0, 0, 1, 1⟩]⟩,
   /- BZL_CTRL -/ ⟨0x10000018, 1, 0x0, [⟨0, 0, .rws, 0x1, 0, 1, 1⟩]⟩,
   /- BZL_FAULT_ADDR_LO -/ ⟨0x10000020, 1, 0x0, [⟨31, 0, .ro, 0x0, 0, 4294967295, 1⟩]⟩,
   /- BZL_FAULT_ADDR_HI -/ ⟨0x10000024, 1, 0x0, [⟨7, 0, .ro, 0x0, 0, 255, 1⟩]⟩,
   /- BZL_FAULT_INFO -/ ⟨0x10000028, 1, 0x0, [⟨31, 31, .w1c, 0x0, 0, 1, 1⟩, ⟨30, 30, .ro, 0x0, 0, 1, 1⟩, ⟨29, 28, .ro, 0x0, 0, 3, 1⟩, ⟨27, 27, .ro, 0x0, 0, 1, 1⟩, ⟨26, 26, .ro, 0x0, 0, 1, 1⟩, ⟨25, 23, .ro, 0x0, 0, 7, 1⟩, ⟨22, 20, .ro, 0x0, 0, 7, 1⟩, ⟨19, 12, .ro, 0x0, 0, 255, 1⟩, ⟨11, 0, .ro, 0x0, 0, 4095, 1⟩]⟩,
   /- BZL_FAULT_GEN -/ ⟨0x1000002c, 1, 0x0, [⟨15, 0, .ro, 0x0, 0, 65535, 1⟩]⟩,
   /- BZL_FAULTS -/ ⟨0x10000030, 1, 0x0, [⟨31, 0, .ro, 0x0, 0, 4294967295, 1⟩]⟩,
   /- BZL_LOCK_REFUSED -/ ⟨0x10000034, 1, 0x0, [⟨31, 0, .ro, 0x0, 0, 4294967295, 1⟩]⟩,
   /- BZL_DECERR -/ ⟨0x10000038, 1, 0x0, [⟨31, 0, .ro, 0x0, 0, 4294967295, 1⟩]⟩,
   /- BZL_RGNn_BASE_LO -/ ⟨0x10001000, 256, 0x40, [⟨31, 12, .rws, 0x0, 0, 1048575, 1⟩]⟩,
   /- BZL_RGNn_BASE_HI -/ ⟨0x10001004, 256, 0x40, [⟨7, 0, .rws, 0x0, 0, 255, 1⟩]⟩,
   /- BZL_RGNn_CTRL -/ ⟨0x10001008, 255, 0x40, [⟨13, 8, .rws, 0xc, 12, 40, 1⟩, ⟨1, 1, .rws, 0x0, 0, 1, 1⟩, ⟨0, 0, .rws, 0x0, 0, 1, 1⟩]⟩,
   /- BZL_RGNn_CTRL -/ ⟨0x10004fc8, 1, 0x40, [⟨13, 8, .rws, 0x28, 12, 40, 1⟩, ⟨1, 1, .rws, 0x0, 0, 1, 1⟩, ⟨0, 0, .rws, 0x1, 0, 1, 1⟩]⟩,
   /- BZL_RGNn_FACETf -/ ⟨0x10001020, 255, 0x40, [⟨17, 17, .rws, 0x0, 0, 1, 1⟩, ⟨16, 16, .rws, 0x0, 0, 1, 1⟩, ⟨15, 14, .rws, 0x0, 0, 3, 1⟩, ⟨13, 12, .rws, 0x0, 0, 3, 1⟩, ⟨11, 10, .rws, 0x0, 0, 3, 1⟩, ⟨9, 8, .rws, 0x0, 0, 3, 1⟩, ⟨7, 6, .rws, 0x0, 0, 3, 1⟩, ⟨5, 4, .rws, 0x0, 0, 3, 1⟩, ⟨3, 2, .rws, 0x0, 0, 3, 1⟩, ⟨1, 0, .rws, 0x0, 0, 3, 1⟩]⟩,
   /- BZL_RGNn_FACETf -/ ⟨0x10004fe0, 1, 0x40, [⟨17, 17, .rws, 0x1, 0, 1, 1⟩, ⟨16, 16, .rws, 0x1, 0, 1, 1⟩, ⟨15, 14, .rws, 0x3, 0, 3, 1⟩, ⟨13, 12, .rws, 0x3, 0, 3, 1⟩, ⟨11, 10, .rws, 0x3, 0, 3, 1⟩, ⟨9, 8, .rws, 0x3, 0, 3, 1⟩, ⟨7, 6, .rws, 0x3, 0, 3, 1⟩, ⟨5, 4, .rws, 0x3, 0, 3, 1⟩, ⟨3, 2, .rws, 0x3, 0, 3, 1⟩, ⟨1, 0, .rws, 0x3, 0, 3, 1⟩]⟩,
   /- BZL_RGNn_FACETf -/ ⟨0x10001024, 255, 0x40, [⟨17, 17, .rws, 0x0, 0, 1, 1⟩, ⟨16, 16, .rws, 0x0, 0, 1, 1⟩, ⟨15, 14, .rws, 0x0, 0, 3, 1⟩, ⟨13, 12, .rws, 0x0, 0, 3, 1⟩, ⟨11, 10, .rws, 0x0, 0, 3, 1⟩, ⟨9, 8, .rws, 0x0, 0, 3, 1⟩, ⟨7, 6, .rws, 0x0, 0, 3, 1⟩, ⟨5, 4, .rws, 0x0, 0, 3, 1⟩, ⟨3, 2, .rws, 0x0, 0, 3, 1⟩, ⟨1, 0, .rws, 0x0, 0, 3, 1⟩]⟩,
   /- BZL_RGNn_FACETf -/ ⟨0x10004fe4, 1, 0x40, [⟨17, 17, .rws, 0x1, 0, 1, 1⟩, ⟨16, 16, .rws, 0x1, 0, 1, 1⟩, ⟨15, 14, .rws, 0x3, 0, 3, 1⟩, ⟨13, 12, .rws, 0x3, 0, 3, 1⟩, ⟨11, 10, .rws, 0x3, 0, 3, 1⟩, ⟨9, 8, .rws, 0x3, 0, 3, 1⟩, ⟨7, 6, .rws, 0x3, 0, 3, 1⟩, ⟨5, 4, .rws, 0x3, 0, 3, 1⟩, ⟨3, 2, .rws, 0x3, 0, 3, 1⟩, ⟨1, 0, .rws, 0x3, 0, 3, 1⟩]⟩,
   /- BZL_RGNn_FACETf -/ ⟨0x10001028, 255, 0x40, [⟨17, 17, .rws, 0x0, 0, 1, 1⟩, ⟨16, 16, .rws, 0x0, 0, 1, 1⟩, ⟨15, 14, .rws, 0x0, 0, 3, 1⟩, ⟨13, 12, .rws, 0x0, 0, 3, 1⟩, ⟨11, 10, .rws, 0x0, 0, 3, 1⟩, ⟨9, 8, .rws, 0x0, 0, 3, 1⟩, ⟨7, 6, .rws, 0x0, 0, 3, 1⟩, ⟨5, 4, .rws, 0x0, 0, 3, 1⟩, ⟨3, 2, .rws, 0x0, 0, 3, 1⟩, ⟨1, 0, .rws, 0x0, 0, 3, 1⟩]⟩,
   /- BZL_RGNn_FACETf -/ ⟨0x10004fe8, 1, 0x40, [⟨17, 17, .rws, 0x1, 0, 1, 1⟩, ⟨16, 16, .rws, 0x1, 0, 1, 1⟩, ⟨15, 14, .rws, 0x3, 0, 3, 1⟩, ⟨13, 12, .rws, 0x3, 0, 3, 1⟩, ⟨11, 10, .rws, 0x3, 0, 3, 1⟩, ⟨9, 8, .rws, 0x3, 0, 3, 1⟩, ⟨7, 6, .rws, 0x3, 0, 3, 1⟩, ⟨5, 4, .rws, 0x3, 0, 3, 1⟩, ⟨3, 2, .rws, 0x3, 0, 3, 1⟩, ⟨1, 0, .rws, 0x3, 0, 3, 1⟩]⟩]

/-- Register rows of BZL, part 1: address, count, stride, fields. -/
def regRowsBzl1 : List RegRow :=
  [/- BZL_RGNn_FACETf -/ ⟨0x1000102c, 255, 0x40, [⟨17, 17, .rws, 0x0, 0, 1, 1⟩, ⟨16, 16, .rws, 0x0, 0, 1, 1⟩, ⟨15, 14, .rws, 0x0, 0, 3, 1⟩, ⟨13, 12, .rws, 0x0, 0, 3, 1⟩, ⟨11, 10, .rws, 0x0, 0, 3, 1⟩, ⟨9, 8, .rws, 0x0, 0, 3, 1⟩, ⟨7, 6, .rws, 0x0, 0, 3, 1⟩, ⟨5, 4, .rws, 0x0, 0, 3, 1⟩, ⟨3, 2, .rws, 0x0, 0, 3, 1⟩, ⟨1, 0, .rws, 0x0, 0, 3, 1⟩]⟩,
   /- BZL_RGNn_FACETf -/ ⟨0x10004fec, 1, 0x40, [⟨17, 17, .rws, 0x1, 0, 1, 1⟩, ⟨16, 16, .rws, 0x1, 0, 1, 1⟩, ⟨15, 14, .rws, 0x3, 0, 3, 1⟩, ⟨13, 12, .rws, 0x3, 0, 3, 1⟩, ⟨11, 10, .rws, 0x3, 0, 3, 1⟩, ⟨9, 8, .rws, 0x3, 0, 3, 1⟩, ⟨7, 6, .rws, 0x3, 0, 3, 1⟩, ⟨5, 4, .rws, 0x3, 0, 3, 1⟩, ⟨3, 2, .rws, 0x3, 0, 3, 1⟩, ⟨1, 0, .rws, 0x3, 0, 3, 1⟩]⟩,
   /- BZL_RGNn_FACETf -/ ⟨0x10001030, 255, 0x40, [⟨17, 17, .rws, 0x0, 0, 1, 1⟩, ⟨16, 16, .rws, 0x0, 0, 1, 1⟩, ⟨15, 14, .rws, 0x0, 0, 3, 1⟩, ⟨13, 12, .rws, 0x0, 0, 3, 1⟩, ⟨11, 10, .rws, 0x0, 0, 3, 1⟩, ⟨9, 8, .rws, 0x0, 0, 3, 1⟩, ⟨7, 6, .rws, 0x0, 0, 3, 1⟩, ⟨5, 4, .rws, 0x0, 0, 3, 1⟩, ⟨3, 2, .rws, 0x0, 0, 3, 1⟩, ⟨1, 0, .rws, 0x0, 0, 3, 1⟩]⟩,
   /- BZL_RGNn_FACETf -/ ⟨0x10004ff0, 1, 0x40, [⟨17, 17, .rws, 0x1, 0, 1, 1⟩, ⟨16, 16, .rws, 0x1, 0, 1, 1⟩, ⟨15, 14, .rws, 0x3, 0, 3, 1⟩, ⟨13, 12, .rws, 0x3, 0, 3, 1⟩, ⟨11, 10, .rws, 0x3, 0, 3, 1⟩, ⟨9, 8, .rws, 0x3, 0, 3, 1⟩, ⟨7, 6, .rws, 0x3, 0, 3, 1⟩, ⟨5, 4, .rws, 0x3, 0, 3, 1⟩, ⟨3, 2, .rws, 0x3, 0, 3, 1⟩, ⟨1, 0, .rws, 0x3, 0, 3, 1⟩]⟩,
   /- BZL_RGNn_FACETf -/ ⟨0x10001034, 255, 0x40, [⟨17, 17, .rws, 0x0, 0, 1, 1⟩, ⟨16, 16, .rws, 0x0, 0, 1, 1⟩, ⟨15, 14, .rws, 0x0, 0, 3, 1⟩, ⟨13, 12, .rws, 0x0, 0, 3, 1⟩, ⟨11, 10, .rws, 0x0, 0, 3, 1⟩, ⟨9, 8, .rws, 0x0, 0, 3, 1⟩, ⟨7, 6, .rws, 0x0, 0, 3, 1⟩, ⟨5, 4, .rws, 0x0, 0, 3, 1⟩, ⟨3, 2, .rws, 0x0, 0, 3, 1⟩, ⟨1, 0, .rws, 0x0, 0, 3, 1⟩]⟩,
   /- BZL_RGNn_FACETf -/ ⟨0x10004ff4, 1, 0x40, [⟨17, 17, .rws, 0x1, 0, 1, 1⟩, ⟨16, 16, .rws, 0x1, 0, 1, 1⟩, ⟨15, 14, .rws, 0x3, 0, 3, 1⟩, ⟨13, 12, .rws, 0x3, 0, 3, 1⟩, ⟨11, 10, .rws, 0x3, 0, 3, 1⟩, ⟨9, 8, .rws, 0x3, 0, 3, 1⟩, ⟨7, 6, .rws, 0x3, 0, 3, 1⟩, ⟨5, 4, .rws, 0x3, 0, 3, 1⟩, ⟨3, 2, .rws, 0x3, 0, 3, 1⟩, ⟨1, 0, .rws, 0x3, 0, 3, 1⟩]⟩,
   /- BZL_RGNn_FACETf -/ ⟨0x10001038, 255, 0x40, [⟨17, 17, .rws, 0x0, 0, 1, 1⟩, ⟨16, 16, .rws, 0x0, 0, 1, 1⟩, ⟨15, 14, .rws, 0x0, 0, 3, 1⟩, ⟨13, 12, .rws, 0x0, 0, 3, 1⟩, ⟨11, 10, .rws, 0x0, 0, 3, 1⟩, ⟨9, 8, .rws, 0x0, 0, 3, 1⟩, ⟨7, 6, .rws, 0x0, 0, 3, 1⟩, ⟨5, 4, .rws, 0x0, 0, 3, 1⟩, ⟨3, 2, .rws, 0x0, 0, 3, 1⟩, ⟨1, 0, .rws, 0x0, 0, 3, 1⟩]⟩,
   /- BZL_RGNn_FACETf -/ ⟨0x10004ff8, 1, 0x40, [⟨17, 17, .rws, 0x1, 0, 1, 1⟩, ⟨16, 16, .rws, 0x1, 0, 1, 1⟩, ⟨15, 14, .rws, 0x3, 0, 3, 1⟩, ⟨13, 12, .rws, 0x3, 0, 3, 1⟩, ⟨11, 10, .rws, 0x3, 0, 3, 1⟩, ⟨9, 8, .rws, 0x3, 0, 3, 1⟩, ⟨7, 6, .rws, 0x3, 0, 3, 1⟩, ⟨5, 4, .rws, 0x3, 0, 3, 1⟩, ⟨3, 2, .rws, 0x3, 0, 3, 1⟩, ⟨1, 0, .rws, 0x3, 0, 3, 1⟩]⟩,
   /- BZL_RGNn_FACETf -/ ⟨0x1000103c, 255, 0x40, [⟨17, 17, .rws, 0x0, 0, 1, 1⟩, ⟨16, 16, .rws, 0x0, 0, 1, 1⟩, ⟨15, 14, .rws, 0x0, 0, 3, 1⟩, ⟨13, 12, .rws, 0x0, 0, 3, 1⟩, ⟨11, 10, .rws, 0x0, 0, 3, 1⟩, ⟨9, 8, .rws, 0x0, 0, 3, 1⟩, ⟨7, 6, .rws, 0x0, 0, 3, 1⟩, ⟨5, 4, .rws, 0x0, 0, 3, 1⟩, ⟨3, 2, .rws, 0x0, 0, 3, 1⟩, ⟨1, 0, .rws, 0x0, 0, 3, 1⟩]⟩,
   /- BZL_RGNn_FACETf -/ ⟨0x10004ffc, 1, 0x40, [⟨17, 17, .rws, 0x1, 0, 1, 1⟩, ⟨16, 16, .rws, 0x1, 0, 1, 1⟩, ⟨15, 14, .rws, 0x3, 0, 3, 1⟩, ⟨13, 12, .rws, 0x3, 0, 3, 1⟩, ⟨11, 10, .rws, 0x3, 0, 3, 1⟩, ⟨9, 8, .rws, 0x3, 0, 3, 1⟩, ⟨7, 6, .rws, 0x3, 0, 3, 1⟩, ⟨5, 4, .rws, 0x3, 0, 3, 1⟩, ⟨3, 2, .rws, 0x3, 0, 3, 1⟩, ⟨1, 0, .rws, 0x3, 0, 3, 1⟩]⟩]

/-- Register rows of WLD, part 0: address, count, stride, fields. -/
def regRowsWld0 : List RegRow :=
  [/- WLD_STATUS -/ ⟨0x10100000, 1, 0x0, [⟨8, 8, .ro, 0x0, 0, 1, 1⟩, ⟨3, 0, .ro, 0xf, 0, 15, 1⟩]⟩,
   /- WLD_SENTRY_LO -/ ⟨0x10100004, 1, 0x0, [⟨31, 0, .lock, 0x0, 0, 4294967295, 4⟩]⟩,
   /- WLD_SENTRY_HI -/ ⟨0x10100008, 1, 0x0, [⟨7, 0, .lock, 0x0, 0, 255, 1⟩]⟩,
   /- WLD_SLICE -/ ⟨0x1010000c, 1, 0x0, [⟨15, 0, .rws, 0x32, 0, 65535, 1⟩]⟩,
   /- WLD_L2_WAYS -/ ⟨0x10100010, 1, 0x0, [⟨16, 16, .ro, 0x0, 0, 1, 1⟩, ⟨15, 0, .rws, 0xf, 0, 65535, 1⟩]⟩,
   /- WLD_IRQ_WORLD -/ ⟨0x10100014, 1, 0x0, [⟨31, 0, .rws, 0x0, 0, 4294967295, 1⟩]⟩,
   /- WLD_IRQ_CORE_LO -/ ⟨0x10100018, 1, 0x0, [⟨31, 0, .rws, 0x0, 0, 4294967295, 1⟩]⟩,
   /- WLD_IRQ_CORE_HI -/ ⟨0x1010001c, 1, 0x0, [⟨31, 0, .rws, 0x0, 0, 4294967295, 1⟩]⟩,
   /- WLD_IRQ_PEND -/ ⟨0x10100020, 1, 0x0, [⟨31, 0, .ro, 0x0, 0, 4294967295, 1⟩]⟩,
   /- WLD_COMMIT -/ ⟨0x10100030, 1, 0x0, [⟨0, 0, .rws, 0x0, 0, 1, 1⟩]⟩,
   /- WLD_GEN_COMMITTED -/ ⟨0x10100034, 1, 0x0, [⟨15, 0, .ro, 0x0, 0, 65535, 1⟩]⟩,
   /- WLD_GEN_ACTIVE -/ ⟨0x10100038, 1, 0x0, [⟨15, 0, .ro, 0x0, 0, 65535, 1⟩]⟩,
   /- WLD_VIEW -/ ⟨0x1010003c, 1, 0x0, [⟨0, 0, .rws, 0x0, 0, 1, 1⟩]⟩,
   /- WLD_FAULT_ADDR_LO -/ ⟨0x10100040, 1, 0x0, [⟨31, 0, .ro, 0x0, 0, 4294967295, 1⟩]⟩,
   /- WLD_FAULT_ADDR_HI -/ ⟨0x10100044, 1, 0x0, [⟨7, 0, .ro, 0x0, 0, 255, 1⟩]⟩,
   /- WLD_FAULT_INFO -/ ⟨0x10100048, 1, 0x0, [⟨31, 31, .w1c, 0x0, 0, 1, 1⟩, ⟨30, 30, .ro, 0x0, 0, 1, 1⟩, ⟨29, 27, .ro, 0x0, 0, 7, 1⟩, ⟨26, 26, .ro, 0x0, 0, 1, 1⟩, ⟨25, 23, .ro, 0x0, 0, 7, 1⟩, ⟨22, 20, .ro, 0x0, 0, 7, 1⟩, ⟨19, 19, .ro, 0x0, 0, 1, 1⟩]⟩,
   /- WLD_FAULTS -/ ⟨0x1010004c, 1, 0x0, [⟨31, 0, .ro, 0x0, 0, 4294967295, 1⟩]⟩,
   /- WLD_SWITCHESc -/ ⟨0x10100050, 4, 0x4, [⟨31, 0, .ro, 0x0, 0, 4294967295, 1⟩]⟩,
   /- WLD_Mm_WINk_BASE -/ ⟨0x10100100, 32, 0x10, [⟨25, 0, .rws, 0x0, 0, 67108863, 1⟩]⟩,
   /- WLD_Mm_WINk_LIMIT -/ ⟨0x10100104, 32, 0x10, [⟨25, 0, .rws, 0x0, 0, 67108863, 1⟩]⟩,
   /- WLD_Mm_WINk_CTRL -/ ⟨0x10100108, 32, 0x10, [⟨3, 3, .rws, 0x0, 0, 1, 1⟩, ⟨2, 1, .rws, 0x0, 0, 2, 1⟩, ⟨0, 0, .rws, 0x0, 0, 1, 1⟩]⟩,
   /- WLD_DMAc_SRC_LO -/ ⟨0x10100400, 2, 0x40, [⟨31, 0, .rws, 0x0, 0, 4294967295, 1⟩]⟩,
   /- WLD_DMAc_SRC_LO -/ ⟨0x10100480, 2, 0x40, [⟨31, 0, .rw, 0x0, 0, 4294967295, 1⟩]⟩,
   /- WLD_DMAc_SRC_HI -/ ⟨0x10100404, 2, 0x40, [⟨7, 0, .rws, 0x0, 0, 255, 1⟩]⟩]

/-- Register rows of WLD, part 1: address, count, stride, fields. -/
def regRowsWld1 : List RegRow :=
  [/- WLD_DMAc_SRC_HI -/ ⟨0x10100484, 2, 0x40, [⟨7, 0, .rw, 0x0, 0, 255, 1⟩]⟩,
   /- WLD_DMAc_DST_LO -/ ⟨0x10100408, 2, 0x40, [⟨31, 0, .rws, 0x0, 0, 4294967295, 1⟩]⟩,
   /- WLD_DMAc_DST_LO -/ ⟨0x10100488, 2, 0x40, [⟨31, 0, .rw, 0x0, 0, 4294967295, 1⟩]⟩,
   /- WLD_DMAc_DST_HI -/ ⟨0x1010040c, 2, 0x40, [⟨7, 0, .rws, 0x0, 0, 255, 1⟩]⟩,
   /- WLD_DMAc_DST_HI -/ ⟨0x1010048c, 2, 0x40, [⟨7, 0, .rw, 0x0, 0, 255, 1⟩]⟩,
   /- WLD_DMAc_LEN -/ ⟨0x10100410, 2, 0x40, [⟨24, 0, .rws, 0x0, 1, 16777216, 1⟩]⟩,
   /- WLD_DMAc_LEN -/ ⟨0x10100490, 2, 0x40, [⟨24, 0, .rw, 0x0, 1, 16777216, 1⟩]⟩,
   /- WLD_DMAc_CTRL -/ ⟨0x10100414, 4, 0x40, [⟨1, 1, .w1s, 0x0, 0, 1, 1⟩, ⟨0, 0, .w1s, 0x0, 0, 1, 1⟩]⟩,
   /- WLD_DMAc_STATUS -/ ⟨0x10100418, 4, 0x40, [⟨2, 2, .w1c, 0x0, 0, 1, 1⟩, ⟨1, 1, .w1c, 0x0, 0, 1, 1⟩, ⟨0, 0, .ro, 0x0, 0, 1, 1⟩]⟩]

/-- Register rows of ALM, part 0: address, count, stride, fields. -/
def regRowsAlm0 : List RegRow :=
  [/- ALM_BB_ADDR -/ ⟨0x10300070, 1, 0x0, [⟨9, 0, .rws, 0x0, 0, 1023, 1⟩]⟩,
   /- ALM_BB_DATA -/ ⟨0x10300074, 1, 0x0, [⟨31, 0, .rws, 0x0, 0, 4294967295, 1⟩]⟩,
   /- ALM_STATUS -/ ⟨0x10300000, 1, 0x0, [⟨11, 11, .ro, 0x0, 0, 1, 1⟩, ⟨10, 10, .w1c, 0x0, 0, 1, 1⟩, ⟨9, 9, .ro, 0x0, 0, 1, 1⟩, ⟨8, 8, .ro, 0x0, 0, 1, 1⟩, ⟨7, 7, .ro, 0x0, 0, 1, 1⟩, ⟨6, 6, .ro, 0x0, 0, 1, 1⟩, ⟨2, 0, .ro, 0x0, 0, 7, 1⟩]⟩,
   /- ALM_CAUSE -/ ⟨0x10300004, 1, 0x0, [⟨31, 0, .w1c, 0x0, 0, 4294967295, 1⟩]⟩,
   /- ALM_ASSERTED -/ ⟨0x10300008, 1, 0x0, [⟨31, 0, .ro, 0x0, 0, 4294967295, 1⟩]⟩,
   /- ALM_CTRL -/ ⟨0x1030000c, 1, 0x0, [⟨0, 0, .rws, 0x0, 0, 1, 1⟩]⟩,
   /- ALM_RAISE -/ ⟨0x10300010, 1, 0x0, [⟨2, 0, .rws, 0x0, 0, 7, 1⟩]⟩,
   /- ALM_LOOP_STATUS -/ ⟨0x10300014, 1, 0x0, [⟨23, 16, .ro, 0x0, 0, 255, 1⟩, ⟨15, 0, .ro, 0x0, 0, 65535, 1⟩]⟩,
   /- ALM_LOOP_GLITCH -/ ⟨0x10300018, 1, 0x0, [⟨31, 0, .ro, 0x0, 0, 4294967295, 1⟩]⟩,
   /- ALM_CLK_STATUS -/ ⟨0x1030001c, 1, 0x0, [⟨11, 8, .w1c, 0x0, 0, 15, 1⟩, ⟨7, 4, .ro, 0x0, 0, 15, 1⟩, ⟨3, 0, .ro, 0x0, 0, 15, 1⟩]⟩,
   /- ALM_CLK_DEVc -/ ⟨0x10300020, 4, 0x4, [⟨15, 0, .ro, 0x0, 0, 65535, 1⟩]⟩,
   /- ALM_RESPk -/ ⟨0x10300040, 3, 0x4, [⟨31, 0, .ro, 0x0, 0, 4294967295, 1⟩]⟩,
   /- ALM_ALARMN -/ ⟨0x10300050, 1, 0x0, [⟨2, 0, .ro, 0x0, 0, 7, 1⟩]⟩,
   /- ALM_UNPOWERED -/ ⟨0x10300054, 1, 0x0, [⟨20, 16, .ro, 0x0, 0, 31, 1⟩, ⟨15, 0, .ro, 0x0, 0, 65535, 1⟩]⟩]

/-- Register rows of HST, part 2: address, count, stride, fields. -/
def regRowsHst2 : List RegRow :=
  [/- HST_RCV_STATUS -/ ⟨0x10c00400, 1, 0x0, [⟨11, 8, .ro, 0x0, 0, 15, 1⟩, ⟨2, 0, .ro, 0x0, 0, 7, 1⟩]⟩,
   /- HST_RCV_LEN -/ ⟨0x10c00404, 1, 0x0, [⟨22, 0, .rw, 0x0, 16384, 4194304, 1⟩]⟩,
   /- HST_RCV_CTRL -/ ⟨0x10c00408, 1, 0x0, [⟨0, 0, .w1s, 0x0, 0, 1, 1⟩]⟩,
   /- HST_IDHASH -/ ⟨0x10c00420, 8, 0x4, [⟨31, 0, .ro, 0x0, 0, 4294967295, 1⟩]⟩]

/-- Register rows of LCS, part 0: address, count, stride, fields. -/
def regRowsLcs0 : List RegRow :=
  [/- LCS_STATUS -/ ⟨0x10600000, 1, 0x0, [⟨23, 20, .ro, 0x0, 0, 15, 1⟩, ⟨19, 16, .ro, 0x0, 0, 15, 1⟩, ⟨3, 3, .ro, 0x0, 0, 1, 1⟩, ⟨2, 2, .w1c, 0x0, 0, 1, 1⟩, ⟨1, 1, .ro, 0x0, 0, 1, 1⟩, ⟨0, 0, .ro, 0x0, 0, 1, 1⟩]⟩,
   /- LCS_DEBUG -/ ⟨0x10600004, 1, 0x0, [⟨7, 4, .ro, 0x0, 0, 15, 1⟩, ⟨3, 0, .ro, 0x0, 0, 15, 1⟩]⟩,
   /- LCS_BOOT -/ ⟨0x10600008, 1, 0x0, [⟨31, 24, .ro, 0x0, 0, 255, 1⟩, ⟨23, 16, .ro, 0x0, 0, 255, 1⟩, ⟨11, 10, .ro, 0x0, 0, 3, 1⟩, ⟨9, 9, .ro, 0x0, 0, 1, 1⟩, ⟨8, 8, .ro, 0x0, 0, 1, 1⟩, ⟨7, 6, .ro, 0x0, 0, 3, 1⟩, ⟨5, 5, .ro, 0x0, 0, 1, 1⟩, ⟨4, 4, .ro, 0x0, 0, 1, 1⟩, ⟨3, 3, .ro, 0x0, 0, 1, 1⟩]⟩,
   /- LCS_FAIL -/ ⟨0x1060000c, 1, 0x0, [⟨7, 4, .ro, 0x0, 0, 15, 1⟩, ⟨3, 0, .ro, 0x0, 0, 15, 1⟩]⟩,
   /- LCS_INIT -/ ⟨0x10600010, 1, 0x0, [⟨1, 1, .w1c, 0x0, 0, 1, 1⟩, ⟨0, 0, .rws, 0x0, 0, 1, 1⟩]⟩]

/-- Register rows of TIM, part 0: address, count, stride, fields. -/
def regRowsTim0 : List RegRow :=
  [/- TIM_STATUS -/ ⟨0x10700000, 1, 0x0, [⟨11, 11, .ro, 0x0, 0, 1, 1⟩, ⟨10, 8, .ro, 0x0, 0, 7, 1⟩, ⟨2, 2, .ro, 0x0, 0, 1, 1⟩, ⟨1, 0, .ro, 0x0, 0, 3, 1⟩]⟩,
   /- TIM_TICK_LO -/ ⟨0x10700004, 1, 0x0, [⟨31, 0, .ro, 0x0, 0, 4294967295, 1⟩]⟩,
   /- TIM_TICK_HI -/ ⟨0x10700008, 1, 0x0, [⟨31, 0, .ro, 0x0, 0, 4294967295, 1⟩]⟩,
   /- TIM_TAI_LO -/ ⟨0x1070000c, 1, 0x0, [⟨31, 0, .ro, 0x0, 0, 4294967295, 1⟩]⟩,
   /- TIM_TAI_HI -/ ⟨0x10700010, 1, 0x0, [⟨31, 0, .ro, 0x0, 0, 4294967295, 1⟩]⟩,
   /- TIM_SUBSEC -/ ⟨0x10700014, 1, 0x0, [⟨9, 0, .ro, 0x0, 0, 1023, 1⟩]⟩,
   /- TIM_PHASE_ERR -/ ⟨0x10700018, 1, 0x0, [⟨31, 0, .ro, 0x0, 0, 4294967295, 1⟩]⟩,
   /- TIM_PERIOD -/ ⟨0x1070001c, 1, 0x0, [⟨31, 0, .ro, 0x3b9aca00, 0, 4294967295, 1⟩]⟩,
   /- TIM_SINCE_PPS -/ ⟨0x10700020, 1, 0x0, [⟨31, 0, .ro, 0x0, 0, 4294967295, 1⟩]⟩,
   /- TIM_ELAPSED_LO -/ ⟨0x10700024, 1, 0x0, [⟨31, 0, .ro, 0x0, 0, 4294967295, 1⟩]⟩,
   /- TIM_ELAPSED_HI -/ ⟨0x10700028, 1, 0x0, [⟨31, 0, .ro, 0x0, 0, 4294967295, 1⟩]⟩,
   /- TIM_PPS_ACCEPTED -/ ⟨0x1070002c, 1, 0x0, [⟨31, 0, .ro, 0x0, 0, 4294967295, 1⟩]⟩,
   /- TIM_PPS_REJECTED -/ ⟨0x10700030, 1, 0x0, [⟨31, 0, .ro, 0x0, 0, 4294967295, 1⟩]⟩,
   /- TIM_IRQ -/ ⟨0x10700034, 1, 0x0, [⟨1, 1, .rw, 0x0, 0, 1, 1⟩, ⟨0, 0, .rw, 0x0, 0, 1, 1⟩]⟩,
   /- TIM_EVENT -/ ⟨0x10700038, 1, 0x0, [⟨1, 1, .w1c, 0x0, 0, 1, 1⟩, ⟨0, 0, .w1c, 0x0, 0, 1, 1⟩]⟩]

/-- Register rows of EVR, part 0: address, count, stride, fields. -/
def regRowsEvr0 : List RegRow :=
  [/- EVR_STATUS -/ ⟨0x10800000, 1, 0x0, [⟨27, 16, .ro, 0x0, 0, 4095, 1⟩, ⟨15, 4, .ro, 0x0, 0, 4095, 1⟩, ⟨3, 3, .ro, 0x0, 0, 1, 1⟩, ⟨2, 2, .ro, 0x0, 0, 1, 1⟩]⟩,
   /- EVR_SEQ_LO -/ ⟨0x10800004, 1, 0x0, [⟨31, 0, .ro, 0x0, 0, 4294967295, 1⟩]⟩,
   /- EVR_SEQ_HI -/ ⟨0x10800008, 1, 0x0, [⟨31, 0, .ro, 0x0, 0, 4294967295, 1⟩]⟩,
   /- EVR_DROPv -/ ⟨0x10800010, 5, 0x4, [⟨31, 0, .ro, 0x0, 0, 4294967295, 1⟩]⟩,
   /- EVR_SURPLUS_SEL -/ ⟨0x10800030, 1, 0x0, [⟨15, 0, .rws, 0x0, 0, 65535, 1⟩]⟩,
   /- EVR_SURPLUS -/ ⟨0x10800034, 1, 0x0, [⟨31, 0, .ro, 0x0, 0, 4294967295, 1⟩]⟩,
   /- EVR_POST_S_LO -/ ⟨0x10800040, 1, 0x0, [⟨31, 0, .rws, 0x0, 0, 4294967295, 1⟩]⟩,
   /- EVR_POST_S_HI -/ ⟨0x10800044, 1, 0x0, [⟨31, 0, .rws, 0x0, 0, 4294967295, 1⟩]⟩,
   /- EVR_POST_S -/ ⟨0x10800048, 1, 0x0, [⟨18, 16, .rws, 0x0, 0, 7, 1⟩, ⟨15, 0, .rws, 0x0, 0, 65535, 1⟩]⟩,
   /- EVR_POST_N_LO -/ ⟨0x10800050, 1, 0x0, [⟨31, 0, .rw, 0x0, 0, 4294967295, 1⟩]⟩,
   /- EVR_POST_N_HI -/ ⟨0x10800054, 1, 0x0, [⟨31, 0, .rw, 0x0, 0, 4294967295, 1⟩]⟩,
   /- EVR_POST_N -/ ⟨0x10800058, 1, 0x0, [⟨18, 16, .rw, 0x0, 0, 7, 1⟩, ⟨15, 0, .rw, 0x0, 0, 65535, 1⟩]⟩,
   /- EVR_SLOT_SEL -/ ⟨0x10800070, 1, 0x0, [⟨10, 0, .rws, 0x0, 0, 2047, 1⟩]⟩,
   /- EVR_SLOT -/ ⟨0x10800200, 128, 0x4, [⟨31, 0, .rws, 0x0, 0, 4294967295, 1⟩]⟩]

/-- Register rows of MGP, part 0: address, count, stride, fields. -/
def regRowsMgp0 : List RegRow :=
  [/- MGP_STATUS -/ ⟨0x10900000, 1, 0x0, [⟨8, 8, .w1c, 0x0, 0, 1, 1⟩, ⟨7, 7, .ro, 0x0, 0, 1, 1⟩, ⟨6, 6, .ro, 0x0, 0, 1, 1⟩, ⟨5, 5, .ro, 0x0, 0, 1, 1⟩, ⟨3, 1, .ro, 0x0, 0, 7, 1⟩, ⟨0, 0, .ro, 0x0, 0, 1, 1⟩]⟩,
   /- MGP_PLCA -/ ⟨0x10900004, 1, 0x0, [⟨15, 8, .ro, 0x20, 0, 255, 1⟩, ⟨7, 4, .ro, 0x8, 0, 15, 1⟩, ⟨2, 0, .ro, 0x0, 0, 7, 1⟩]⟩,
   /- MGP_RXD_HEAD -/ ⟨0x10900008, 1, 0x0, [⟨7, 0, .ro, 0x0, 0, 255, 1⟩]⟩,
   /- MGP_RXD_TAIL -/ ⟨0x1090000c, 1, 0x0, [⟨7, 0, .rw, 0x0, 0, 255, 1⟩]⟩,
   /- MGP_IRQ -/ ⟨0x10900010, 1, 0x0, [⟨0, 0, .rw, 0x0, 0, 1, 1⟩]⟩,
   /- MGP_RX_FRAMES -/ ⟨0x10900014, 1, 0x0, [⟨31, 0, .ro, 0x0, 0, 4294967295, 1⟩]⟩,
   /- MGP_RX_DROPPED -/ ⟨0x10900018, 1, 0x0, [⟨31, 0, .ro, 0x0, 0, 4294967295, 1⟩]⟩,
   /- MGP_RX_TRUNC -/ ⟨0x1090001c, 1, 0x0, [⟨31, 0, .ro, 0x0, 0, 4294967295, 1⟩]⟩,
   /- MGP_RX_FCS -/ ⟨0x10900020, 1, 0x0, [⟨31, 0, .ro, 0x0, 0, 4294967295, 1⟩]⟩,
   /- MGP_TX_ADDR -/ ⟨0x10900040, 1, 0x0, [⟨31, 0, .rw, 0x0, 0, 4294967295, 1⟩]⟩,
   /- MGP_TX_LEN -/ ⟨0x10900044, 1, 0x0, [⟨10, 0, .rw, 0x0, 14, 1514, 1⟩]⟩,
   /- MGP_TX_CTRL -/ ⟨0x10900048, 1, 0x0, [⟨0, 0, .w1s, 0x0, 0, 1, 1⟩]⟩,
   /- MGP_TX_STATUS -/ ⟨0x1090004c, 1, 0x0, [⟨2, 2, .w1c, 0x0, 0, 1, 1⟩, ⟨1, 1, .w1c, 0x0, 0, 1, 1⟩, ⟨0, 0, .ro, 0x0, 0, 1, 1⟩]⟩,
   /- MGP_OD_REQ -/ ⟨0x10900100, 1, 0x0, [⟨31, 0, .rws, 0x0, 0, 4294967295, 64⟩]⟩,
   /- MGP_OD_CTRL -/ ⟨0x10900104, 1, 0x0, [⟨23, 16, .rws, 0xff, 0, 255, 1⟩, ⟨7, 6, .rws, 0x0, 0, 3, 1⟩, ⟨0, 0, .w1s, 0x0, 0, 1, 1⟩]⟩,
   /- MGP_OD_STATUS -/ ⟨0x10900108, 1, 0x0, [⟨15, 8, .ro, 0x0, 0, 255, 1⟩, ⟨1, 1, .w1c, 0x0, 0, 1, 1⟩, ⟨0, 0, .ro, 0x0, 0, 1, 1⟩]⟩,
   /- MGP_RXD -/ ⟨0x10900800, 256, 0x4, [⟨31, 0, .ro, 0x0, 0, 4294967295, 1⟩]⟩,
   /- MGP_FIFO -/ ⟨0x10910000, 16384, 0x4, [⟨31, 0, .ro, 0x0, 0, 4294967295, 1⟩]⟩]

/-- Register rows of PWR, part 0: address, count, stride, fields. -/
def regRowsPwr0 : List RegRow :=
  [/- PWR_STATUS -/ ⟨0x10200000, 1, 0x0, [⟨23, 20, .ro, 0x0, 0, 15, 1⟩, ⟨17, 16, .ro, 0x0, 0, 3, 1⟩, ⟨11, 8, .ro, 0x0, 0, 15, 1⟩, ⟨1, 0, .ro, 0x0, 0, 3, 1⟩]⟩,
   /- PWR_REQ -/ ⟨0x10200004, 1, 0x0, [⟨1, 0, .rws, 0x0, 0, 2, 1⟩]⟩,
   /- PWR_LOCK -/ ⟨0x10200008, 1, 0x0, [⟨11, 0, .rws, 0xfff, 0, 4095, 1⟩]⟩,
   /- PWR_NS_REQ -/ ⟨0x1020000c, 1, 0x0, [⟨31, 31, .w1s, 0x0, 0, 1, 1⟩, ⟨5, 4, .rw, 0x0, 0, 3, 1⟩, ⟨3, 0, .rw, 0x0, 0, 11, 1⟩]⟩,
   /- PWR_NS_STATUS -/ ⟨0x10200010, 1, 0x0, [⟨7, 4, .ro, 0x0, 0, 15, 1⟩, ⟨2, 0, .ro, 0x0, 0, 7, 1⟩]⟩,
   /- PWR_DEFER_CTRL -/ ⟨0x10200014, 1, 0x0, [⟨0, 0, .rws, 0x0, 0, 1, 1⟩]⟩,
   /- PWR_NAP_ENTRIES -/ ⟨0x10200018, 1, 0x0, [⟨31, 0, .ro, 0x0, 0, 4294967295, 1⟩]⟩,
   /- PWR_NAP_TICKS_LO -/ ⟨0x1020001c, 1, 0x0, [⟨31, 0, .ro, 0x0, 0, 4294967295, 1⟩]⟩,
   /- PWR_NAP_TICKS_HI -/ ⟨0x10200020, 1, 0x0, [⟨31, 0, .ro, 0x0, 0, 4294967295, 1⟩]⟩,
   /- PWR_GATEb -/ ⟨0x10201000, 12, 0x1000, [⟨3, 2, .ro, 0x0, 0, 3, 1⟩, ⟨1, 1, .rw, 0x0, 0, 1, 1⟩, ⟨0, 0, .rw, 0x0, 0, 1, 1⟩]⟩]

/-- Register rows of BGN, part 1: address, count, stride, fields. -/
def regRowsBgn1 : List RegRow :=
  [/- BGN_POL_CTRL -/ ⟨0x11000060, 1, 0x0, [⟨31, 31, .rws, 0x1, 0, 1, 1⟩, ⟨30, 30, .rws, 0x1, 0, 1, 1⟩, ⟨21, 0, .rws, 0xea60, 1000, 3600000, 1⟩]⟩]

/-- Register rows of LAT, part 1: address, count, stride, fields. -/
def regRowsLat1 : List RegRow :=
  [/- LAT_POL_CTRL -/ ⟨0x11100060, 1, 0x0, [⟨31, 31, .rws, 0x1, 0, 1, 1⟩, ⟨30, 30, .rws, 0x1, 0, 1, 1⟩, ⟨21, 0, .rws, 0xea60, 1000, 3600000, 1⟩]⟩]

/-- Register rows of BGN, part 2: address, count, stride, fields. -/
def regRowsBgn2 : List RegRow :=
  [/- BGN_POL_STATUS -/ ⟨0x11000064, 1, 0x0, [⟨14, 14, .w1c, 0x0, 0, 1, 1⟩, ⟨13, 8, .ro, 0x3f, 0, 63, 1⟩, ⟨7, 7, .ro, 0x0, 0, 1, 1⟩, ⟨5, 0, .ro, 0x0, 0, 63, 1⟩]⟩]

/-- Register rows of LAT, part 2: address, count, stride, fields. -/
def regRowsLat2 : List RegRow :=
  [/- LAT_POL_STATUS -/ ⟨0x11100064, 1, 0x0, [⟨14, 14, .w1c, 0x0, 0, 1, 1⟩, ⟨13, 8, .ro, 0x3f, 0, 63, 1⟩, ⟨7, 7, .ro, 0x0, 0, 1, 1⟩, ⟨5, 0, .ro, 0x0, 0, 63, 1⟩]⟩]

/-- Register rows of BGN, part 3: address, count, stride, fields. -/
def regRowsBgn3 : List RegRow :=
  [/- BGN_POL_PASSES -/ ⟨0x11000068, 1, 0x0, [⟨31, 0, .ro, 0x0, 0, 4294967295, 1⟩]⟩]

/-- Register rows of LAT, part 3: address, count, stride, fields. -/
def regRowsLat3 : List RegRow :=
  [/- LAT_POL_PASSES -/ ⟨0x11100068, 1, 0x0, [⟨31, 0, .ro, 0x0, 0, 4294967295, 1⟩]⟩]

/-- Register rows of BGN, part 4: address, count, stride, fields. -/
def regRowsBgn4 : List RegRow :=
  [/- BGN_POL_FAILS -/ ⟨0x1100006c, 1, 0x0, [⟨31, 0, .ro, 0x0, 0, 4294967295, 1⟩]⟩]

/-- Register rows of LAT, part 4: address, count, stride, fields. -/
def regRowsLat4 : List RegRow :=
  [/- LAT_POL_FAILS -/ ⟨0x1110006c, 1, 0x0, [⟨31, 0, .ro, 0x0, 0, 4294967295, 1⟩]⟩]

/-- Register rows of ALM, part 1: address, count, stride, fields. -/
def regRowsAlm1 : List RegRow :=
  [/- ALM_VBAT -/ ⟨0x10300060, 1, 0x0, [⟨31, 16, .ro, 0x0, 0, 65535, 1⟩, ⟨15, 0, .ro, 0x0, 0, 65535, 1⟩]⟩]

/-- Every register the manual defines in the internal address map. -/
def regTable : List RegRow :=
  regRowsHst0 ++
  regRowsLkt0 ++
  regRowsHst1 ++
  regRowsStr0 ++
  regRowsMem0 ++
  regRowsFll0 ++
  regRowsBgn0 ++
  regRowsLat0 ++
  regRowsSym0 ++
  regRowsSym1 ++
  regRowsSym2 ++
  regRowsRng0 ++
  regRowsKld0 ++
  regRowsCrd0 ++
  regRowsBzl0 ++
  regRowsBzl1 ++
  regRowsWld0 ++
  regRowsWld1 ++
  regRowsAlm0 ++
  regRowsHst2 ++
  regRowsLcs0 ++
  regRowsTim0 ++
  regRowsEvr0 ++
  regRowsMgp0 ++
  regRowsPwr0 ++
  regRowsBgn1 ++
  regRowsLat1 ++
  regRowsBgn2 ++
  regRowsLat2 ++
  regRowsBgn3 ++
  regRowsLat3 ++
  regRowsBgn4 ++
  regRowsLat4 ++
  regRowsAlm1

end Sys2Proof.Machine
end

