-- ==== Sys2Proof/Machine/State.lean ====
section
/-! DEFINITION. The state of the block: every register, table, queue, memory and pin the manual gives
it, as plain data, and the queue of commands that wait. INVENTORY.md lists each piece with its rule. -/

namespace Sys2Proof.Machine

/-- The states of an instance (R56). -/
inductive InstState where
  | unbound | bound | enabled | draining | enablePending | faulted
  deriving DecidableEq, Repr

/-- The context of one host instance (R46 to R62). Its configuration entries (R53) stand in the
dictionary; `sqTail`, `cqHead` are the doorbell page's pointers, `fetchPos` and `cqWrite` the device's
own positions, `fetchRead` the job entries reserved for a fetch read under way (R38, R83),
`readsOut` DMA reads issued whose data will be discarded (R58), `enableReplies` the responses of the ENABLEs
that wait, for a seal in BOUND or for the drain (R55, R57). -/
structure Inst where
  st : InstState
  gen : Nat
  sqTail : Nat
  cqHead : Nat
  fetchPos : Nat
  cqWrite : Nat
  phase : Bool
  sqError : Bool
  cqError : Bool
  faultCause : Nat
  dbDiscarded : Nat
  lost : Nat
  fetchRead : List Nat
  readsOut : Nat
  enableReplies : List Nat
  resetReplies : List Nat
  lastBead : Nat
  splitHold : Bool
  deriving DecidableEq, Repr

/-- An instance after main reset (R56: generation 1; the restore binds it later). -/
def Inst.init : Inst :=
  { st := .unbound, gen := 1, sqTail := 0, cqHead := 0, fetchPos := 0, cqWrite := 0, phase := true,
    sqError := false, cqError := false, faultCause := 0, dbDiscarded := 0, lost := 0, fetchRead := [],
    readsOut := 0, enableReplies := [], resetReplies := [], lastBead := 0,
    splitHold := false }

/-- What the scheduler holds for an instance: the values in force (R165), the ten bucket levels in
1/256 token (R157) and the deficits of the four engine classes (R162). -/
structure Sched where
  weight : Nat
  waitLimit : Nat
  rate : List Nat
  burst : List Nat
  level : List Nat
  deficit : List Nat
  deriving DecidableEq, Repr

/-- The scheduler's values at their defaults (R165). -/
def Sched.init : Sched :=
  { weight := 8, waitLimit := 200, rate := List.replicate 10 0xFFFFFFFF, burst := List.replicate 10 64,
    level := List.replicate 10 (64 * 256), deficit := [0, 0, 0, 0] }

/-- The PCIe endpoint (R36, R37, R44, R47): configuration bits with the programmed max payload and read request sizes
in bytes and the completion timeout's range code, the errors reported through AER, oldest first, link, MSI-X table and
pending bits, round-robin turns, and everything sent toward the host, oldest first. -/
structure HostPort where
  perstN : Bool
  bme : Bool
  pasidEn : Bool
  fnMask : Bool
  maxPayload : Nat
  maxRead : Nat
  ctoCode : Nat
  aer : List AerError
  msixTable : SMap Word
  msixPend : List Nat
  fetchTurn : Nat
  admitTurn : Nat
  linkRate : Nat
  linkWidth : Nat
  pciePll : Bool
  out : List HostWrite
  deriving DecidableEq, Repr

/-- The admin mailbox's own positions (R41, R42); its registers stand in the register map. -/
structure Admin where
  sqFetch : Nat
  cqWrite : Nat
  phase : Bool
  deriving DecidableEq, Repr

/-- The scheduler's shared part: quanta in force and round-robin positions by engine class
(R162, R165). -/
structure SchedShared where
  quanta : List Nat
  turn : List Nat
  deriving DecidableEq, Repr

/-- The Locket beside its jobs: last 64 creating jobs released (R76), reuse numbers of the job
entries (R122), the fetch and release orders, the waste meter (R89), and the instance last served with
granules, with the instance whose turn is held while its job needs more than are free (R85). -/
structure LocketShared where
  released : List Released
  seqNos : SMap Nat
  nextOrder : Nat
  nextStamp : Nat
  nextReady : Nat
  wasteNs : Nat
  granTurn : Nat
  granHeld : Option Nat
  deriving DecidableEq, Repr

/-- The meters (R166 to R174): open records by instance (0xFFFF the device record), those closed at a window's close and
still to be written, those an unbinding closed that wait for the window's close, the sub-microsecond remainders of
instances with no open record, records written since main reset. -/
structure Meters where
  openRecs : SMap (Option Meter)
  closing : List Meter
  waiting : List Meter
  rests : SMap (List Nat)
  split : List Meter
  firstSeen : List Nat
  written : Nat
  batch : Nat
  deriving DecidableEq, Repr

/-- The open minute window (R167), and its number from main reset. -/
structure MinuteWindow where
  no : Nat
  start : Nat
  minute : Nat
  stop : Nat
  anchored : Bool
  holdover : Bool
  deriving DecidableEq, Repr

/-- The time unit (R455 to R468). `spacings` are those of the last accepted edges in nanoseconds, newest
first, `qual` those of the qualification under way; `anchor` is (T_a, S_a); `boundaryTick` the last second boundary of the grid in use, `late` whether it came without an
edge, 100 µs after its time (R457), `bootHours` the whole
hours counted since main reset (R468). -/
structure TimeUnit where
  tick : Nat
  state : TimeState
  ppsLock : Bool
  candidates : Nat
  spacings : List Nat
  qual : List Nat
  sinceEdge : Nat
  everLocked : Bool
  anchor : Option (Nat × Nat)
  pendingTod : Option Nat
  lastTod : Nat
  boundaryTick : Nat
  late : Bool
  missed : Nat
  elapsedNs : Nat
  rejectedNs : Nat
  bootHours : Nat
  hours : Nat
  window : MinuteWindow
  deriving DecidableEq, Repr

/-- The event recorder (R472 to R479): its slots, the lifetime record number, surplus and fold counts
by code, records opened by code in the current hour, records in the staging area whose SRAM slot was taken, the
archive in user NVM by slot, READ_FROM and SURPLUS_SELECT by reader: session slots 0 to 7, 8 the mailbox, 9 secure
firmware. -/
structure Recorder where
  slots : SMap (Option EventRec)
  nextSeq : Nat
  surplus : SMap Nat
  folded : SMap Nat
  openedInHour : SMap Nat
  hour : Nat
  staged : List EventRec
  archive : SMap (Option EventRec)
  archiveFull : Bool
  readFrom : SMap Nat
  surplusSel : SMap Nat
  deriving DecidableEq, Repr

/-- ROLE of R252, with the codes of 0x5020:05. -/
inductive UnitRole where
  | candidate | active | handingOver | notActive
  deriving DecidableEq, Repr

/-- A checkpoint under way (R196 to R201): its boundary, the segments still to write and the next
chunk of the first, the chunk counts written, whether the manifest has been written, the state at the
boundary, and the handles whose state at the boundary stands in the shadow (R198). -/
structure Checkpoint where
  boundary : Nat
  closeTick : Nat
  segments : List Nat
  chunk : Nat
  counts : List (Nat × Nat)
  manifestWritten : Bool
  objs : List (Nat × Option Obj)
  settings : List (Nat × Option Bytes)
  deriving DecidableEq, Repr

/-- The strand engine (R177 to R201). `closed` holds beads closed and not yet sealed, oldest first;
`staged` the exported octets of sealed beads not wholly written, by number; `log` the hash and clasp
generation of every sealed or presented bead; `durableObj` the bead that holds an object's most recent
durable-mode creation or policy change (R68); `leaseTick` the tick the lease counts from, `lease` LEASE_TICKS in force (R263), `serialGap` what the
grant of the clasp adds to every owner's serials (R202); `finalBead`
is F of R255; `usageWrites` the USAGE_BLOCK values written, by bead (R194). -/
structure Strand where
  openBead : Bead
  closed : List Bead
  staged : SMap Bytes
  log : SMap (Bytes × Nat)
  head : Nat
  headHash : Bytes
  written : Nat
  consumed : Nat
  exported : Nat
  durable : Nat
  sinceNotice : Nat
  badBeads : List Nat
  badSegments : List Nat
  clasp : Option Nat
  lastClasp : Nat
  role : UnitRole
  leaseTick : Nat
  lease : Nat
  serialGap : Nat
  finalBead : Option Nat
  durableObj : SMap Nat
  usageWrites : List (Nat × Nat)
  usageBlock : Nat
  restoredBlock : Nat
  ckptRequested : Bool
  ckptRunning : Option Checkpoint
  ckptDue : Bool
  ckptChanged : List Nat
  ckptLast : Nat
  ckptUnsettled : List (Nat × Nat)
  segVersions : SMap (Nat × Nat)
  queued : List Rec
  headTick : Nat
  deriving DecidableEq, Repr

/-- Restore states of R203, with the codes of RESTORE_STATE. -/
inductive RestoreState where
  | empty | loading | refused | claspWait | lazy | complete | failed
  deriving DecidableEq, Repr

/-- Restore (R202 to R205, R231 to R233): the presented items, boundary bead, presented head, the
bead number and hash the chain continues from, chunks not yet restored, bead records of the replay
overlay, and whether a persistent state has been loaded. -/
structure Restore where
  state : RestoreState
  items : List StrandItem
  boundary : Nat
  presented : Nat
  presentedHash : Bytes
  chunks : List StrandItem
  replay : List Rec
  restored : Nat
  eager : Bool
  deriving DecidableEq, Repr

/-- What the device holds of an owner beside its dictionary entries: the next serial and count
committed (R104), the serial the next creation takes (R91, R338), both short of the gap of R202, evicted approvals (R372). -/
structure Owner where
  nextSerial : Nat
  count : Nat
  serial : Nat
  evicted : Nat
  deriving DecidableEq, Repr

/-- An owner with nothing committed (R104). -/
def Owner.init : Owner :=
  { nextSerial := 1, count := 0, serial := 1, evicted := 0 }

/-- Usage reservation of an object on this unit (R193 to R195): the current block, the next unused
use, uses returned, the bead of the newest block record, whether the restore gap is still due, the tag of its line (R339). -/
structure Usage where
  blockEnd : Nat
  next : Nat
  returned : List Nat
  blockBead : Option Nat
  pendingEnd : Option Nat
  gapDue : Bool
  tag : Bytes
  deriving DecidableEq, Repr

/-- Phases of a directory resize (R226). -/
inductive ResizePhase where
  | idle | clearing | migrating
  deriving DecidableEq, Repr

/-- A protected range (R238): first and last 4 KiB unit, and whether it is enforced. -/
structure ProtRange where
  base : Nat
  limit : Nat
  enable : Bool
  deriving DecidableEq, Repr

/-- The ranges at reset (R238). -/
def ProtRange.init : List ProtRange :=
  { base := 0, limit := 0x3FFFFFF, enable := true } :: List.replicate 7 { base := 0, limit := 0, enable := false }

/-- The object store (R210 to R240): installed memory, the directory tables by bucket, objects by
handle, records of sealed beads waiting in the change overlay, the protected ranges committed and active,
the scrubber's line, the address of the last uncorrectable line, the overflow pool lines of each bucket's chain (`links`,
`newLinks`), the lines of the controller's own areas that another master has written, each as the DIMMs held it before and
after, and the migration walk of R343: whether it runs, the hash it has
reached, the tick after which it may place more, and the records placed since main reset. -/
structure Store where
  capacityGiB : Nat
  dimmGiB : Nat
  twoDpc : Bool
  k : Nat
  table : SMap (List DirEntry)
  newTable : SMap (List DirEntry)
  links : SMap (List Nat)
  newLinks : SMap (List Nat)
  written : SMap (Option (Bytes × Bytes))
  phase : ResizePhase
  cursor : Nat
  objs : SMap (Option Obj)
  overlay : List (Nat × Rec)
  scrubLine : Nat
  errAddr : Nat
  ranges : List ProtRange
  rangesActive : List ProtRange
  walkHash : Nat
  walking : Bool
  walkTick : Nat
  migrated : Nat
  deriving DecidableEq, Repr

/-- States of a setting (R345). -/
inductive SettingState where
  | shared | speculative | pinned
  deriving DecidableEq, Repr

/-- A run of settings in the general pool (R344 to R348): an object's key (`handle` non-zero), a node of the ladder
named by label, variant, owner and security version, or a key pinned under a name of the model's (`label` from 0x100).
`dest` is DEST; `settings` the numbers of its settings in order; `head` the head's key field; `key` the stored encoding
its bodies are filled from; `tags` the integrity tags written with the fill. -/
structure Run where
  handle : Nat
  label : Nat
  variant : Nat
  owner : Nat
  svn : Nat
  dest : Nat
  state : SettingState
  inst : Nat
  job : Nat
  settings : List Nat
  lastUse : Nat
  head : Bytes
  key : Bytes
  tags : List Bytes
  deriving DecidableEq, Repr

/-- The root or ladder node that one of the settings 0 to 15 holds (R344). -/
structure RootSetting where
  label : Nat
  svn : Nat
  key : Bytes
  lastUse : Nat
  deriving DecidableEq, Repr

/-- The key ladder (R335 to R356): hallmarks, the kept ladder values Vd(s) and Vp(s), settings 0 to
15 by number, runs of the general pool, the scramble keys' presence, a firmware storage key request
under way, `cached` the objects whose HMAC states the derivation unit holds, newest first (R350), the
per-boot attestation key (R277). -/
structure Ladder where
  hm : List Bytes
  hmClosed : Bool
  svn : Nat
  vd : Option Bytes
  vp : Option Bytes
  roots : SMap (Option RootSetting)
  runs : List Run
  useClock : Nat
  hits : Nat
  misses : Nat
  scrambleTable : List Bytes
  cached : List Nat
  fwRequest : Option (Nat × Bytes)
  attest : Option Bytes
  available : Bool
  deriving DecidableEq, Repr

/-- A card port beside its registers (R358 to R362): whether its card is powered, F and D as negotiated,
whether VERIFY_PIN has been sent, the tick PIN_WAIT was entered and the PIN was written, the key the card
gave, what its signature is for (ACTION of R365), the statement it was sent and its signature awaiting
verification, and the instruction bytes sent in this activation. -/
structure CardPort where
  powered : Bool
  f : Nat
  d : Nat
  verifying : Bool
  waitTick : Nat
  pinTick : Nat
  key : Bytes
  action : Nat
  stmt : Bytes
  sig : Option Bytes
  sent : List Nat
  deriving DecidableEq, Repr

/-- A card port with no card. -/
def CardPort.init : CardPort :=
  { powered := false, f := 372, d := 1, verifying := false, waitTick := 0, pinTick := 0, key := [], action := 0,
    stmt := [], sig := none, sent := [] }

/-- Officers and owner approvals (R363 to R374): the signet, its numbers, the last record, the last approval of
each officer, the tick a zeroise was armed in, the cards of a domain creation that have signed (R245), the
ports, and the approvals held. -/
structure Officers where
  signet : Signet
  signetNo : Nat
  lastRecord : Bytes
  lastApproval : SMap Nat
  zeroiseArm : Option Nat
  creating : Option (List (Nat × Bytes))
  ports : SMap CardPort
  approvals : List Approval
  approvalOrder : Nat
  deriving DecidableEq, Repr

/-- The dictionary agent (R500 to R505): stored values of the volatile, persistent, unit-local and
OTP entries; responses waiting for their release; the next response number; by reader, the parts received of a write
(R497). -/
structure Agent where
  values : SMap (Option Bytes)
  replies : List Reply
  nextReply : Nat
  parts : SMap (Option WriteParts)
  deriving DecidableEq, Repr

/-- The BBRAM of the backup domain (R189, R421): the secret area and what other rules keep there; `paired` once a ceremony has shared the
domain (R245), `lost` once its contents have been lost and its checks fail (R542). -/
structure Backup where
  wrapSecret : Option Bytes
  pairSecret : Option Bytes
  domainId : Nat
  paired : Bool
  headBead : Nat
  headHash : Bytes
  headClasp : Nat
  lost : Bool
  deriving DecidableEq, Repr

/-- A signer slot (R436, R437): its 64 octets, empty while EMPTY; whether its check holds; its revocation. -/
structure SignerSlot where
  hash : Bytes
  checkOk : Bool
  revoked : Bool
  deriving DecidableEq, Repr

/-- What an OTP programming window writes (R436): an installation is of a pair secret and its DOMAIN_ID, with the officers
a creation enrols, none for a receipt (R246). -/
inductive OtpWrite where
  | lifeCycle (code : Nat)
  | signer (slot : Nat) (hash : Bytes)
  | revoke (slot : Nat)
  | svnFloor (value : Nat)
  | cosig
  | compat
  | provision (secret wrap identity : Bytes)
  | install (secret : Bytes) (domain : Nat) (officers : List Bytes)
  deriving DecidableEq, Repr

/-- States of a debug token (TOKEN_STATE, R454). -/
inductive TokenState where
  | none | waiting | accepted | refused
  deriving DecidableEq, Repr

/-- OTP and user NVM as the life-cycle rules name them (R429 to R442, R450): the three copies of the
life-cycle word, transitions used, the secret-kill fuse, the device secret and the stored identity key, the
limited-write settings (`floor` as the count of its bits, `installs` those consumed), the programming under
way with the response it owes, the identity working copy's wrap key (R438), whether the identity key is
loaded, the certificate, the header of the running image, the endorsement, the debug challenge nonce and
token, `opening` the enables a consumed token opens once its PURGE
has erased (R353), `cut` that a main reset cut a programming short (R432, R437). -/
structure Lcs where
  copies : List Nat
  steps : Nat
  killed : Bool
  deviceSecret : Option Bytes
  identity : Option Bytes
  slots : List SignerSlot
  floor : Nat
  cosig : Bool
  compat : Bool
  installs : Nat
  programming : Option (OtpWrite × Option Nat)
  idCopy : Bytes
  idLoaded : Bool
  cert : Bytes
  header : Bytes
  endorsement : Bytes
  nonce : Bytes
  token : Bytes
  tokenState : TokenState
  tokenRefusals : Nat
  running : Bool
  opening : Option Nat
  cut : Bool
  deriving DecidableEq, Repr

/-- An empty signer slot. -/
def SignerSlot.init : SignerSlot := { hash := [], checkOk := true, revoked := false }

/-- A part from the fab: BLANK, nothing made (R429, R436). -/
def Lcs.init : Lcs :=
  { copies := [0, 0, 0], steps := 0, killed := false, deviceSecret := none, identity := none,
    slots := List.replicate 4 SignerSlot.init, floor := 0, cosig := false, compat := false, installs := 0,
    programming := none, idCopy := [], idLoaded := false, cert := [], header := [], endorsement := [],
    nonce := [], token := [], tokenState := .none, tokenRefusals := 0, running := false,
    opening := none, cut := false }



/-! ### Engines -/

/-- A cluster of cores: the big-number cluster (R265 to R280) or the lattice cluster (R283 to R296).
`mem` is the operand or working memory by core × 16,384 + 32-bit word, `keyFed` what the key bus placed
in a core, `running` the firmware operation that runs on a held core, as (operation, parameter),
`stopped` those a HALT stopped, `polSlot` the tick of the last polishing slot, `promoted` the cores promoted since
(R532), `test` the known-answer test the POLISHING core is at (R533). -/
structure Cluster where
  mem : SMap Word
  keyFed : SMap Bytes
  running : SMap (Option (Nat × Nat))
  stopped : List Nat
  ops : Nat
  rejects : Nat
  polSlot : Nat
  promoted : List Nat
  test : Option Nat
  deriving DecidableEq, Repr

/-- A cluster whose memories are clear and whose cores run nothing. -/
def Cluster.init : Cluster :=
  { mem := [], keyFed := [], running := [], stopped := [], ops := 0, rejects := 0, polSlot := 0,
    promoted := [], test := none }

/-- A symmetric lane beside its registers (R301 to R308): its key register and whether it holds a key,
its buffer, the firmware job that runs, and one stopped by a HALT. -/
structure Lane where
  key : Bytes
  loaded : Bool
  buffer : Bytes
  running : Bool
  stopped : Bool
  deriving DecidableEq, Repr

/-- A lane with no key and nothing in its buffer. -/
def Lane.init : Lane := { key := [], loaded := false, buffer := [], running := false, stopped := false }

/-- States of a noise source (R324). -/
inductive SourceState where
  | startup | healthy | quarantined | retesting | retired | test
  deriving DecidableEq, Repr

/-- A noise source: its state, consecutive failed attempts, the tick it was quarantined in (R324). -/
structure Source where
  st : SourceState
  fails : Nat
  since : Nat
  deriving DecidableEq, Repr

/-- A source at main reset (R318). -/
def Source.init : Source := { st := .startup, fails := 0, since := 0 }

/-- A DRBG instance (R321 to R328): whether it is instantiated, whether it runs a call, calls since its
last reseed, the tick of that reseed, whether it is stalled, whether a scheduled reseed is due. -/
structure Drbg where
  inst : Bool
  calls : Nat
  last : Nat
  stalled : Bool
  due : Bool
  deriving DecidableEq, Repr

/-- An instance that does not exist yet. -/
def Drbg.init : Drbg := { inst := false, calls := 0, last := 0, stalled := false, due := false }

/-- The entropy source and DRBG (R313 to R334): the four sources, pool samples, the four instances,
whether reseeding is stopped, the two firmware ports' buffers, reseeds, counts, captured bits waiting. -/
structure Rng where
  sources : List Source
  pool : Nat
  drbgs : List Drbg
  stopped : Bool
  dead : Bool
  sBuf : Bytes
  nsBuf : Bytes
  reseeds : Nat
  lastTick : Nat
  healthFails : Nat
  stalledJobs : Nat
  faultTicks : Nat
  deriving DecidableEq, Repr

/-- The entropy source at main reset. -/
def Rng.init : Rng :=
  { sources := List.replicate 4 Source.init, pool := 0, drbgs := List.replicate 4 Drbg.init, stopped := false,
    dead := false, sBuf := [], nsBuf := [], reseeds := 0, lastTick := 0, healthFails := 0, stalledJobs := 0,
    faultTicks := 0 }

/-- The engines: the two clusters, the attestation key search under way, by its cores (R277), lane jobs
completed and stall time, the highest ML-DSA iteration count. -/
structure Engines where
  big : Cluster
  lat : Cluster
  akey : Option (List Nat)
  lanes : SMap Lane
  laneJobs : Nat
  laneMismatches : Nat
  stallNs : Nat
  iterMax : Nat
  deriving DecidableEq, Repr

/-- The engines at main reset. -/
def Engines.init : Engines :=
  { big := Cluster.init, lat := Cluster.init, akey := none, lanes := [], laneJobs := 0, laneMismatches := 0,
    stallNs := 0, iterMax := 0 }


/-! ### Alarms -/

/-- A record of the off-power log (R424). -/
structure UnpoweredRec where
  zeroised : Bool
  loops : Nat
  response : Nat
  seq : Nat
  deriving DecidableEq, Repr

/-- The alarm logic (R409 to R425): the alarm area of BBRAM (armed loops, configured responses with
their defaults unlisted, ALARMN_MIN, the off-power log and its overflow), whose `failing` loops failed
their last sample and whose `faulty` loops are confirmed, monitor windows outside and inside by clock,
the end of a THROTTLE, the strongest of HALT and PURGE since HALT was last cleared, whether the zeroise line is still erasing, counts and last ticks by source, the
life-cycle the boot ROM wrote there (R527). -/
structure Alarm where
  armed : Nat
  resp : SMap Nat
  alarmnMin : Nat
  log : List UnpoweredRec
  overflow : Nat
  logSeq : Nat
  failing : Nat
  faulty : Nat
  outside : SMap Nat
  inside : SMap Nat
  throttleEnd : Option Nat
  halt : Nat
  zeroising : Bool
  counts : SMap Nat
  lastTick : SMap Nat
  lifeCycle : Nat
  deriving DecidableEq, Repr

/-- The alarm logic of a new unit (R413): no loop armed, every response at its default. -/
def Alarm.init : Alarm :=
  { armed := 0, resp := [], alarmnMin := 2, log := [], overflow := 0, logSeq := 0, failing := 0, faulty := 0,
    outside := [], inside := [], throttleEnd := none, halt := 0, zeroising := false, counts := [], lastTick := [],
    lifeCycle := 0 }


/-! ### Power -/

/-- The power states of R513, with NAP and SLEEP on their way in and out; `held` is the main domain held in
main reset, or in the sequence that ends it (R518, R553, R570). -/
inductive PowerMode where
  | active | nap | leavingNap | enteringSleep | sleep | off | held
  deriving DecidableEq, Repr

/-- Power (R513 to R525): the power state; the tick a SLEEP request was accepted in and whether a wake
edge was latched since; the tick of the last fetch or mailbox command (R514); for each gateable block the
state ordered and not yet begun, and the state a change under way leads to (R520); GPIO0's level; ticks
spent in NAP; the pins POR_N and SYS_RST_N; whether VDD_AON is in window and whether the cells supply the backup
domain (R554, R557); the wake cause the always-on domain holds (R518, R519). -/
structure Power where
  mode : PowerMode
  sleepTick : Nat
  wakeLatched : Bool
  lastActive : Nat
  sleepNext : Bool
  orders : SMap (Option Nat)
  changing : SMap (Option Nat)
  mainEn : Bool
  napTicks : Nat
  porN : Bool
  sysRstN : Bool
  vddAon : Bool
  cells : Bool
  wake : Nat
  deriving DecidableEq, Repr

/-- Power after a main reset. -/
def Power.init : Power :=
  { mode := .held, sleepTick := 0, wakeLatched := false, lastActive := 0, sleepNext := false, orders := [],
    changing := [], mainEn := true, napTicks := 0, porN := false, sysRstN := true, vddAon := true, cells := false, wake := 0 }


/-! ### Worlds -/

/-- The exceptions this manual raises on a core: illegal instruction (R380), access fault (R391). -/
inductive CoreExc where
  | illegalInstruction | accessFault
  deriving DecidableEq, Repr

/-- A copy under way: source, destination and length as its channel's registers held them at START (R404). -/
structure DmaRun where
  src : Nat
  dst : Nat
  len : Nat
  deriving DecidableEq, Repr

/-- Cores, worlds and the two access checks beside their registers (R379 to R404): the active tables of the
Bezel and of the world windows, register by register; whether BZL_MODE has been written; addresses saved at a
world switch and where each core goes on, by core; a way mask that waits for its flush; the gating request
deferred under its lock (R522); cores halted by the debug access port; the last exception
raised on each core, with the world it is taken in (true secure); interrupt sources a slice notice has
been given for; the copy under way by channel; the TAP's
instruction register, DAP_ADDR and the status of DAP_DATA (R448); registers
of access code LOCK that have been written (R8); how the last access on the interconnect ended, 0 done, 1 an error
response (R22, the model's own field, log entry 1). -/
structure Worlds where
  bzl : SMap Word
  wld : SMap Word
  modeWritten : Bool
  resume : SMap Nat
  pcs : SMap Nat
  l2Mask : Option Nat
  deferred : Option (Nat × Nat)
  haltedCores : Nat
  exc : SMap (Option (CoreExc × Bool))
  sliced : List Nat
  dmaRuns : SMap (Option DmaRun)
  tapIr : Nat
  dapAddr : Nat
  dapStatus : Nat
  locked : List Nat
  answer : Nat
  deriving DecidableEq, Repr

/-- Worlds at main reset. -/
def Worlds.init : Worlds :=
  { bzl := [], wld := [], modeWritten := false, resume := [], pcs := [], l2Mask := none, deferred := none,
    haltedCores := 0, exc := [], sliced := [], dmaRuns := [],
    tapIr := 1, dapAddr := 0, dapStatus := 0, locked := [], answer := 0 }



/-! ### The Flallani link -/

/-- A frame of the link (R249): the 16-octet header, the payload as it travels, the tag, which a CLEAR frame has not. -/
structure LinkFrame where
  head : Bytes
  body : Bytes
  tag : Bytes
  deriving DecidableEq, Repr

/-- What leaves on the link, in the order sent: a frame, or a pulse on FLL_WAKE_OUT (R249, R258). -/
inductive LinkOut where
  | frame (f : LinkFrame)
  | wakePulse
  deriving DecidableEq, Repr

/-- A pairing ceremony under way (R245, R247): `sender`, the other unit's serial, the domain offered, the
stored ephemeral keys of ML-KEM-1024 and P-384, the offer received, the transport key, the officer keys offered,
whether an officer's card has answered. -/
structure Ceremony where
  sender : Bool
  other : Nat
  domain : Nat
  kem : Bytes
  ec : Bytes
  offer : Option PairMessage
  transport : Option Bytes
  officers : List Bytes
  carded : Bool
  deriving DecidableEq, Repr

/-- The link and the pair (R244 to R264): the HELLO sent and the last received of a session, the last HELLO's serial
number, the session's sequence numbers, tag failures and ticks, frames discarded for their SEQ, what the partner
reported, the visits (`visitBase` the tick RESYNC_INTERVAL counts from, `visitRetry` when one missed is due again), the
pass of the clasp, the tick a register write granted it in, the ceremony, the tick DOMAIN_ACCEPT was written in and
everything sent. -/
structure PairUnit where
  sent : Option HelloData
  got : Option HelloData
  partnerSerial : Nat
  rxSeq : Nat
  txSeq : Nat
  tagFails : Nat
  seqFails : Nat
  lastRx : Nat
  keepaliveDue : Nat
  helloDue : Nat
  partnerRole : Nat
  partnerReady : Option (Nat × Nat)
  partnerHead : Option (Nat × Bytes × Nat)
  stayAwake : Bool
  resync : Nat
  visitBase : Nat
  visitRetry : Option Nat
  visitPulse : Option Nat
  missed : Nat
  lastVisit : Nat
  pass : Option (Nat × Nat × Bytes)
  passDue : Nat
  grantTick : Option Nat
  accept : Option Nat
  ceremony : Option Ceremony
  discards : Nat
  out : List LinkOut
  deriving DecidableEq, Repr

/-- The link after a main reset (R263, R264). -/
def PairUnit.init : PairUnit :=
  { sent := none, got := none, partnerSerial := 0, rxSeq := 0, txSeq := 0, tagFails := 0, seqFails := 0, lastRx := 0,
    keepaliveDue := 0, helloDue := 0, partnerRole := 0, partnerReady := none, partnerHead := none, stayAwake := false,
    resync := 3600000, visitBase := 0, visitRetry := none, visitPulse := none, missed := 0,
    lastVisit := 0, pass := none, passDue := 0, grantTick := none, accept := none, ceremony := none, discards := 0, out := [] }


/-! ### The management port and the recorder -/

/-- A Puesh session slot (R495, R498, R499): state and role by their codes, the peer, SESSION_NO, when it
opened, the issuing anchor, credit violations, credits the station holds, the tick of its last valid record,
and the last 16 answered requests with their responses. -/
structure Session where
  st : Nat
  role : Nat
  peer : Bytes
  certHash : Bytes
  number : Nat
  opened : Nat
  flags : Nat
  anchor : Nat
  violations : Nat
  credits : Nat
  lastTick : Nat
  cache : List (Nat × Bytes)
  deriving DecidableEq, Repr

/-- A closed slot. -/
def Session.init : Session :=
  { st := 0, role := 0, peer := [], certHash := [], number := 0, opened := 0, flags := 0, anchor := 0,
    violations := 0, credits := 0, lastTick := 0, cache := [] }

/-- The management port (R487 to R495): the receive FIFO by word and the words used in it, the next word,
the descriptor ring, the frame in transmission, the sessions, the management key with the storage key it is
sealed under, its certificate request. -/
structure Mgp where
  fifo : SMap (BitVec 64)
  used : Nat
  next : Nat
  descs : SMap (BitVec 64)
  tx : Option Bytes
  sent : List Bytes
  sessions : SMap Session
  opened : Nat
  hellosRefused : Nat
  key : Option (Bytes × Bytes)
  strapPlca : Nat
  beacon : Bool
  deriving DecidableEq, Repr

/-- The management port at main reset. -/
def Mgp.init : Mgp :=
  { fifo := [], used := 0, next := 0, descs := [], tx := none, sent := [], sessions := [], opened := 0,
    hellosRefused := 0, key := none, strapPlca := 0, beacon := false }


/-- The state of the block. `pending` is the queue of commands that wait, first in, first out;
`free` counts the free values drawn so far (log entry 3) and `readValue` is what the last register read
returned (log entry 1): both are the model's own fields. -/
structure State where
  regs : SMap Word
  mem : List Host.Cell
  free : Nat
  readValue : Nat
  host : HostPort
  insts : SMap Inst
  scheds : SMap Sched
  share : SchedShared
  admin : Admin
  jobs : SMap (Option Job)
  locket : LocketShared
  meters : Meters
  time : TimeUnit
  evr : Recorder
  strand : Strand
  restore : Restore
  owners : SMap Owner
  usage : SMap (Option Usage)
  store : Store
  ladder : Ladder
  officers : Officers
  agent : Agent
  bb : Backup
  lcs : Lcs
  engines : Engines
  rng : Rng
  alarm : Alarm
  power : Power
  pair : PairUnit
  worlds : Worlds
  mgp : Mgp
  pending : List Instr
  deriving DecidableEq, Repr

/-! ### The machine right after reset -/

/-- The endpoint after a main reset: link down, no bus mastering, every vector masked (R36, R37, R44). -/
def HostPort.init : HostPort :=
  { perstN := false, bme := false, pasidEn := false, fnMask := false, maxPayload := 128, maxRead := 512, ctoCode := 0, aer := [],
    msixTable := [], msixPend := [], fetchTurn := 0,
    admitTurn := 0, linkRate := 0, linkWidth := 0, pciePll := false, out := [] }

/-- The mailbox's positions after a main reset. -/
def Admin.init : Admin := { sqFetch := 0, cqWrite := 0, phase := true }

/-- The quanta at their defaults (R165). -/
def SchedShared.init : SchedShared := { quanta := [8000, 4000, 10000, 1000], turn := [0, 0, 0, 0] }

/-- An empty Locket. -/
def LocketShared.init : LocketShared :=
  { released := [], seqNos := [], nextOrder := 0, nextStamp := 0, nextReady := 0, wasteNs := 0, granTurn := 0,
    granHeld := none }

/-- A class block with nothing counted. -/
def ClassMeter.empty : ClassMeter := { ops := 0, denied := 0, busyNs := 0, bytes := 0 }

/-- The instance number of the device record (R169). -/
def deviceMeter : Nat := 0xFFFF

/-- A record opened at `start` in a window, with the busy time below one microsecond it takes over (R166). -/
def Meter.fresh (inst owner start minute win gen flags : Nat) (rest : List Nat) : Meter :=
  { inst := inst, owner := owner, flags := flags, win := win, windows := 1, start := start, stop := start,
    minute := minute, gen := gen, rateLimited := 0, other := 0, waitTicks := 0,
    classes := (List.range 10).map (fun c => { ClassMeter.empty with busyNs := rest.getD c 0 }) }

/-- The device record of the first window is open, flagged DEVICE and FIRST (R169, R170). -/
def Meters.init : Meters :=
  { openRecs := [(deviceMeter, some (Meter.fresh deviceMeter 0 0 0 0 0 0x50 []))], closing := [], waiting := [], rests := [],
    split := [], firstSeen := [deviceMeter], written := 0, batch := 0 }

/-- The first minute window, of 60,000 ticks (R167). -/
def MinuteWindow.init : MinuteWindow := { no := 0, start := 0, minute := 0, stop := 60000, anchored := false, holdover := false }

/-- The time unit: UNANCHORED, tick 0 (R10, R464). -/
def TimeUnit.init : TimeUnit :=
  { tick := 0, state := .unanchored, ppsLock := false, candidates := 0, spacings := [], qual := [], sinceEdge := 0, everLocked := false,
    anchor := none, pendingTod := none, lastTod := 0, boundaryTick := 0, late := false, missed := 0, elapsedNs := 0, rejectedNs := 0,
    bootHours := 0, hours := 0, window := MinuteWindow.init }

/-- The recorder of a new unit: nothing recorded, nothing archived (R472, R478). -/
def Recorder.init : Recorder :=
  { slots := [], nextSeq := 0, surplus := [], folded := [], openedInHour := [], hour := 0, staged := [], archive := [], archiveFull := false,
    readFrom := [], surplusSel := [] }

/-- The strand engine without a clasp (R252). -/
def Strand.init : Strand :=
  { openBead := { num := 0, clasp := 0, svn := 0, sizeClosed := false, firstOfClasp := false, closeTick := 0, domain := 0,
                  prevHash := [], recs := [] },
    closed := [], staged := [], log := [], head := 0, headHash := [], written := 0, consumed := 0, exported := 0, durable := 0,
    sinceNotice := 0, badBeads := [], badSegments := [], clasp := none, lastClasp := 0, role := .candidate, leaseTick := 0, lease := 250,
    serialGap := 0, finalBead := none, durableObj := [], usageWrites := [], usageBlock := 64, restoredBlock := 64, ckptRequested := false,
    ckptRunning := none, ckptDue := false, ckptChanged := [], ckptLast := 0, ckptUnsettled := [], segVersions := [],
    queued := [], headTick := 0 }

/-- Restore EMPTY (R203). -/
def Restore.init : Restore :=
  { state := .empty, items := [], boundary := 0, presented := 0, presentedHash := [], chunks := [], replay := [],
    restored := 0, eager := false }

/-- An empty object store. -/
def Store.init : Store :=
  { capacityGiB := 0, dimmGiB := 0, twoDpc := false, k := 16, table := [], newTable := [], links := [], newLinks := [], written := [], phase := .idle, cursor := 0,
    objs := [], overlay := [], scrubLine := 0, errAddr := 0, ranges := ProtRange.init, rangesActive := ProtRange.init, walkHash := 0,
    walking := false, walkTick := 0, migrated := 0 }

/-- The ladder before hand-over: hallmarks zero, no roots (R340, R354). -/
def Ladder.init : Ladder :=
  { hm := List.replicate 8 (List.replicate 64 0#8), hmClosed := false, svn := 0, vd := none, vp := none, roots := [],
    runs := [], useClock := 0, hits := 0, misses := 0, scrambleTable := [], cached := [],
    fwRequest := none, attest := none, available := false }

/-- No signet (R365). -/
def Signet.init : Signet :=
  { state := .none, action := 0, index := 0, sub := 0, quorum := 0, enrolee := false, number := 0, openTick := 0, endTick := 0,
    nonce := [], valueHash := [], approvals := [], enroleeSig := none }

/-- No officer session. -/
def Officers.init : Officers :=
  { signet := Signet.init, signetNo := 0, lastRecord := [], lastApproval := [], zeroiseArm := none, creating := none,
    ports := [], approvals := [], approvalOrder := 0 }

/-- Every entry at its default. -/
def Agent.init : Agent := { values := [], replies := [], nextReply := 0, parts := [] }

/-- An erased BBRAM. -/
def Backup.init : Backup :=
  { wrapSecret := none, pairSecret := none, domainId := 0, paired := false, headBead := 0, headHash := [], headClasp := 0, lost := false }

/-- The machine right after reset: a part from the fab in BLANK, its main reset just ended, nothing booted
(R429, R446). Every register stands at the reset value of its field; values the manual does not give are
named in log entry 5. -/
def State.reset : State :=
  { regs := [], mem := [], free := 0, readValue := 0, host := HostPort.init, insts := [], scheds := [],
    share := SchedShared.init, admin := Admin.init, jobs := [], locket := LocketShared.init, meters := Meters.init,
    time := TimeUnit.init, evr := Recorder.init, strand := Strand.init, restore := Restore.init, owners := [], usage := [],
    store := Store.init, ladder := Ladder.init, officers := Officers.init, agent := Agent.init, bb := Backup.init,
    lcs := Lcs.init, engines := Engines.init, rng := Rng.init, alarm := Alarm.init, power := Power.init,
    pair := PairUnit.init, worlds := Worlds.init, mgp := Mgp.init, pending := [] }

/-- Who raises a fault: no command of this block. Every command the manual gives an effect answers a
next state, and no rule of the manual stops the block. -/
inductive Fault where
  deriving DecidableEq, Repr

/-- Reasons for having no meaning. `notModelled` is raised by an arm of exec whose command has no
meaning yet, and names it (safe: the model says nothing about that command). -/
inductive Refusal where
  | notModelled (mnemonic : String)
  deriving DecidableEq, Repr

end Sys2Proof.Machine
end

