-- ==== Sys2Proof/Machine/Ops.lean ====
section
/-! DEFINITION. The named operations every family uses: register fields, access to the tables of
State, free values, time, host-visible writes, interrupts and device state. -/

namespace Sys2Proof.Machine

/-! ## Registers (R7, R8) -/

/-- The row of the register map that holds address `a`. -/
def regRow (a : Nat) : Option RegRow :=
  regTable.find? (fun r =>
    r.base ≤ a && (a - r.base) / (if r.stride = 0 then 1 else r.stride) < r.count &&
      (a - r.base) % (if r.stride = 0 then 1 else r.stride) == 0)

/-- The value of the register at `a` after a main reset: the reset values of its fields. -/
def regReset (a : Nat) : Word :=
  match regRow a with
  | some r => r.fields.foldl (fun w f => setBits w f.lo (f.hi - f.lo + 1) f.reset) 0#32
  | none => 0#32

/-- The word the register at `a` holds. -/
def State.reg (s : State) (a : Nat) : Word := mget regReset s.regs a

/-- Writes the whole register at `a`. -/
def State.setReg (s : State) (a : Nat) (w : Word) : State :=
  { s with regs := mset regReset s.regs a w }

/-- The value of a register field. -/
def State.get (s : State) (f : Fld) : Nat := getBits (s.reg f.addr) f.lo f.width

/-- Sets a register field; the register's other bits stay. -/
def State.put (s : State) (f : Fld) (v : Nat) : State :=
  s.setReg f.addr (setBits (s.reg f.addr) f.lo f.width v)

/-- Whether a one-bit field is 1. -/
def State.bit (s : State) (f : Fld) : Bool := s.get f == 1

/-- Sets a one-bit field. -/
def State.putBit (s : State) (f : Fld) (b : Bool) : State := s.put f (b2n b)

/-- Counts one more in a saturating 32-bit field. -/
def State.count (s : State) (f : Fld) : State := s.put f (sat32 (s.get f))

/-- A 64-bit value held in a low and a high register. -/
def State.get64 (s : State) (lo hi : Fld) : Nat := s.get lo + 2 ^ 32 * s.get hi

/-! ## Memory (R34, R213; log entry 2) -/

/-- What a byte of memory reads as when nothing has written it (log entry 2). -/
def memDefault (_a : Nat) : Byte := 0#8

/-- The canonical form of memory: addresses strictly rising, no entry equal to what an unlisted address
reads as. -/
def Memory.wf (m : List Host.Cell) : Bool := mwf memDefault m

/-- The byte at an internal address. -/
def State.byte (s : State) (a : Nat) : Byte := mget memDefault s.mem a

/-- Writes the byte at an internal address. -/
def State.setByte (s : State) (a : Nat) (b : Byte) : State := { s with mem := mset memDefault s.mem a b }

/-- The `n` bytes from address `a`, lowest first. -/
def State.bytes (s : State) (a n : Nat) : Bytes := (List.range n).map (fun i => s.byte (a + i))

/-- Writes bytes from address `a` upward. -/
def State.setBytes (s : State) (a : Nat) : Bytes → State
  | [] => s
  | b :: t => (s.setByte a b).setBytes (a + 1) t

/-! ## Tables -/

/-- The instance `n`. -/
def State.inst (s : State) (n : Nat) : Inst := mget (fun _ => Inst.init) s.insts n

/-- Changes the instance `n`. -/
def State.modInst (s : State) (n : Nat) (f : Inst → Inst) : State :=
  { s with insts := mmod (fun _ => Inst.init) s.insts n f }

/-- What the scheduler holds for instance `n`. -/
def State.sched (s : State) (n : Nat) : Sched := mget (fun _ => Sched.init) s.scheds n

/-- Changes what the scheduler holds for instance `n`. -/
def State.modSched (s : State) (n : Nat) (f : Sched → Sched) : State :=
  { s with scheds := mmod (fun _ => Sched.init) s.scheds n f }

/-- The job in Locket job entry `j`; nothing when the entry is free. -/
def State.job (s : State) (j : Nat) : Option Job := mget (fun _ => none) s.jobs j

/-- Puts a job in entry `j`, or frees the entry. -/
def State.setJob (s : State) (j : Nat) (x : Option Job) : State :=
  { s with jobs := mset (fun _ => none) s.jobs j x }

/-- Changes the job in entry `j`, if there is one. -/
def State.modJob (s : State) (j : Nat) (f : Job → Job) : State :=
  match s.job j with
  | some x => s.setJob j (some (f x))
  | none => s

/-- The owner `n` beside its dictionary entries. -/
def State.owner (s : State) (n : Nat) : Owner := mget (fun _ => Owner.init) s.owners n

/-- Changes the owner `n`. -/
def State.modOwner (s : State) (n : Nat) (f : Owner → Owner) : State :=
  { s with owners := mmod (fun _ => Owner.init) s.owners n f }

/-- The object of a handle held in the object area. -/
def State.obj (s : State) (h : Nat) : Option Obj := mget (fun _ => none) s.store.objs h

/-- Stores or removes the object of a handle. -/
def State.setObj (s : State) (h : Nat) (o : Option Obj) : State :=
  { s with store := { s.store with objs := mset (fun _ => none) s.store.objs h o } }

/-- The jobs of the Locket with their entry numbers. -/
def State.jobList (s : State) : List (Nat × Job) :=
  s.jobs.filterMap (fun e => e.2.map (fun x => (e.1, x)))

/-- Puts a pair into a list ordered by `key`. -/
def insertBy {α : Type} (key : α → Nat × Nat) (x : α) : List α → List α
  | [] => [x]
  | y :: t =>
    if (key x).1 < (key y).1 || ((key x).1 == (key y).1 && (key x).2 < (key y).2) then x :: y :: t
    else y :: insertBy key x t

/-- A list ordered by a pair of numbers, equal keys in their old order. -/
def sortBy {α : Type} (key : α → Nat × Nat) (l : List α) : List α :=
  l.foldl (fun acc x => insertBy key x acc) []

/-- The jobs in order of instance number, then of fetch (R115). -/
def State.jobsInOrder (s : State) : List (Nat × Job) :=
  sortBy (fun e => (e.2.inst, e.2.order)) s.jobList

/-! ## Free values (log entry 3) -/

/-- Draws the next free number. -/
def State.freshNat (s : State) : Nat × State :=
  (Config.freeNat s.free, { s with free := s.free + 1 })

/-- Draws the next free octet string of length `n`. -/
def State.freshBytes (s : State) (n : Nat) : Bytes × State :=
  (Config.freeBytes s.free n, { s with free := s.free + 1 })

/-- One generate call of a DRBG for a consumer that is no pipeline job (R323): on the lowest-numbered instance that may
serve it. -/
def State.drawBytes (s : State) (n : Nat) : Bytes × State :=
  let l := s.rng.drbgs
  let free := (List.range l.length).find? (fun d => l[d]?.any (fun x => x.inst && !x.stalled && !x.due))
  let s := match free with
    | some d => { s with rng := { s.rng with drbgs := l.modify d (fun x => { x with calls := x.calls + 1 }) } }
    | none => s
  s.freshBytes n

/-! ## Dictionary values held by the agent -/

/-- The key of an entry: index × 256 + sub-index. -/
def odKey (index sub : Nat) : Nat := index * 256 + sub

/-- The stored value of an entry; nothing while it stands at its default. -/
def State.odStored (s : State) (index sub : Nat) : Option Bytes :=
  mget (fun _ => none) s.agent.values (odKey index sub)

/-- Stores a value of an entry, or returns it to its default. -/
def State.odStore (s : State) (index sub : Nat) (v : Option Bytes) : State :=
  { s with agent := { s.agent with values := mset (fun _ => none) s.agent.values (odKey index sub) v } }

/-- The number an integer entry holds, `d` by default. -/
def State.odNat (s : State) (index sub d : Nat) : Nat :=
  match s.odStored index sub with
  | some b => leNat b
  | none => d

/-- The octets an entry holds, empty by default. -/
def State.odBytes (s : State) (index sub : Nat) : Bytes := (s.odStored index sub).getD []

/-! ## Time (R10, R460) -/

/-- The TAI second of tick `t` under the held anchor (R460). -/
def taiOf (anchor : Nat × Nat) (t : Nat) : Nat :=
  (((anchor.2 : Int) * 1000 + (t : Int) - (anchor.1 : Int)) / 1000).toNat

/-- The TAI minute of tick `t`; 0 while UNANCHORED (R10, R460). -/
def State.minuteOf (s : State) (t : Nat) : Nat :=
  match s.time.anchor with
  | some a => taiOf a t / 60
  | none => 0

/-- The release stamp of this cycle (R16). -/
def State.now (s : State) : Stamp :=
  { tick := s.time.tick, state := s.time.state, minute := s.minuteOf s.time.tick }

/-- Code of a time state in TIM_STATUS and HST_STATUS. -/
def timeCode : TimeState → Nat
  | .unanchored => 0 | .holdover => 1 | .anchored => 2

/-- Code of a time state in records and quotes: 0 ANCHORED, 1 HOLDOVER, 2 UNANCHORED (R153, R472). -/
def timeCodeRec : TimeState → Nat
  | .anchored => 0 | .holdover => 1 | .unanchored => 2

/-! ## Toward the host -/

/-- Issues a write toward the host; while Bus Master Enable is 0 the device issues none (R37). -/
def State.emit (s : State) (w : HostWrite) : State :=
  if s.host.bme then { s with host := { s.host with out := s.host.out ++ [w] } } else s

/-- The pieces of `len` bytes, each of at most `n`: offset and length. -/
def pieces (n len : Nat) : List (Nat × Nat) :=
  (List.range (ceilDiv len n)).map (fun i => (n * i, min n (len - n * i)))

/-- The 32 octets of a completion entry (R108). -/
def Completion.bytes (c : Completion) : Bytes :=
  le 4 c.tag ++ le 1 c.status ++ le 1 c.flags ++ le 2 c.detail ++ le 4 c.outputLen ++ le 4 c.releaseTick ++
    le 8 c.result ++ le 8 c.bead

/-- Whether an MSI-X vector is masked, by its own mask bit or the function's (R44). -/
def State.vectorMasked (s : State) (v : Nat) : Bool :=
  s.host.fnMask || nbit (mget (fun i => if i % 4 = 3 then 1#32 else 0#32) s.host.msixTable (4 * v + 3)).toNat 0

/-- A message due on vector `v`: sent, or its pending bit set while the vector is masked (R44). -/
def State.msix (s : State) (v : Nat) : State :=
  if s.host.bme = false then s
  else if s.vectorMasked v then
    { s with host := { s.host with
        msixPend := if v ∈ s.host.msixPend then s.host.msixPend else insertBy (fun x => (x, 0)) v s.host.msixPend } }
  else s.emit (.msix v)

/-- Sets a bit of HST_EVENT; a bit rising signals vector 1 (R40). -/
def State.hostEvent (s : State) (f : Fld) : State :=
  if s.bit f then s else (s.putBit f true).msix 1

/-- POWERED_ELAPSED_NS: it counts in steps of 40 ns (R468). -/
def State.elapsed (s : State) : Nat := s.time.elapsedNs / 40 * 40

/-! ## Device state (R40) -/

/-- DEVICE_STATE codes of HST_STATUS. -/
def dsBooting : Nat := 0
/-- SERVING. -/
def dsServing : Nat := 1
/-- HALTED. -/
def dsHalted : Nat := 2
/-- ZEROISED. -/
def dsZeroised : Nat := 3
/-- NOT_ACTIVE. -/
def dsNotActive : Nat := 4
/-- RECOVERY. -/
def dsRecovery : Nat := 5
/-- INERT. -/
def dsInert : Nat := 6

/-- HST_STATUS.DEVICE_STATE. -/
def State.deviceState (s : State) : Nat := s.get .HST_STATUS_DEVICE_STATE

/-- Moves DEVICE_STATE; a change sets HST_EVENT.DEVICE_CHANGE. -/
def State.setDeviceState (s : State) (v : Nat) : State :=
  if s.deviceState = v then s
  else (s.put .HST_STATUS_DEVICE_STATE v).hostEvent .HST_EVENT_DEVICE_CHANGE

/-- Sets HST_STATUS.ACTIVE; a change sets HST_EVENT.DEVICE_CHANGE. -/
def State.setActive (s : State) (b : Bool) : State :=
  if s.bit .HST_STATUS_ACTIVE = b then s
  else (s.putBit .HST_STATUS_ACTIVE b).hostEvent .HST_EVENT_DEVICE_CHANGE

/-- Whether a HALT response holds the Locket (R88). -/
def State.halted (s : State) : Bool := s.bit .ALM_STATUS_HALTED

/-- Whether ZEROISE has struck: no completion is written (R88). -/
def State.zeroised (s : State) : Bool := s.bit .ALM_STATUS_ZEROISED

/-- NAP ends with the cause of R516: blocks restart. -/
def State.wakeNap (s : State) (cause : Nat) : State :=
  if s.power.mode == .nap then
    { (s.put .PWR_STATUS_STATE 2).put .PWR_STATUS_NAP_EXIT cause with power := { s.power with mode := .leavingNap } }
  else s

/-- Interrupt sources of the processor complex (R384) that are pending. -/
def State.raiseIrq (s : State) (n : Nat) : State :=
  (s.put .WLD_IRQ_PEND_PEND (setNbit (s.get .WLD_IRQ_PEND_PEND) n true)).wakeNap 2

/-- Clears a pending interrupt source. -/
def State.dropIrq (s : State) (n : Nat) : State :=
  s.put .WLD_IRQ_PEND_PEND (setNbit (s.get .WLD_IRQ_PEND_PEND) n false)

/-! ## Owners and instances in the dictionary (R53, R104) -/

/-- The owner an instance is bound to (0x2400 + n:03). -/
def State.boundOwner (s : State) (n : Nat) : Nat := s.odNat (0x2400 + n) 3 0

/-- The queue depth of an instance (0x2400 + n:07). -/
def State.depth (s : State) (n : Nat) : Nat := 2 ^ s.odNat (0x2400 + n) 7 4

/-- The PASID an instance's DMA requests carry (0x2400 + n:04, R45). -/
def State.pasid (s : State) (n : Nat) : Nat := s.odNat (0x2400 + n) 4 0

/-- The base of its submission queue (0x2400 + n:05). -/
def State.sqBase (s : State) (n : Nat) : Nat := s.odNat (0x2400 + n) 5 0

/-- The base of its completion queue (0x2400 + n:06). -/
def State.cqBase (s : State) (n : Nat) : Nat := s.odNat (0x2400 + n) 6 0

/-- Issues a DMA read made for an instance, in requests no longer than the programmed max read request size (R36,
R45). -/
def State.emitRead (s : State) (n addr len : Nat) : State :=
  (pieces s.host.maxRead len).foldl (fun s p => s.emit (.read n (s.pasid n) (addr + p.1) p.2)) s

/-- Writes an output of an instance, by writes no longer than the programmed max payload size (R32, R36, R45). -/
def State.emitOutput (s : State) (n addr : Nat) (data : Bytes) : State :=
  (pieces s.host.maxPayload data.length).foldl
    (fun s p => s.emit (.output n (s.pasid n) (addr + p.1) ((data.drop p.1).take p.2))) s

/-- Issues a DMA read of the admin mailbox (R36, R41). -/
def State.emitAdminRead (s : State) (addr len : Nat) : State :=
  (pieces s.host.maxRead len).foldl (fun s p => s.emit (.adminRead (addr + p.1) p.2)) s

/-- Writes an output of the admin mailbox (R36, R41). -/
def State.emitAdminOutput (s : State) (addr : Nat) (data : Bytes) : State :=
  (pieces s.host.maxPayload data.length).foldl
    (fun s p => s.emit (.adminOutput (addr + p.1) ((data.drop p.1).take p.2))) s

/-- The completion vector of an instance (0x2400 + n:08, R43). -/
def State.vector (s : State) (n : Nat) : Nat := s.odNat (0x2400 + n) 8 (16 + n)

/-- CMD_TIMEOUT of an instance. -/
def State.cmdTimeout (s : State) (n : Nat) : Nat := s.odNat (0x2400 + n) 9 100

/-- SPEC_DEPTH of an instance. -/
def State.specDepth (s : State) (n : Nat) : Nat := s.odNat (0x2400 + n) 0xA 64

/-- The code of an instance state (INST_STATUS.STATE). -/
def InstState.code : InstState → Nat
  | .unbound => 0 | .bound => 1 | .enabled => 2 | .draining => 3 | .enablePending => 4 | .faulted => 5

/-- Moves an instance to a state, keeping the FAULTED bits of R40. -/
def State.setInstState (s : State) (n : Nat) (st : InstState) : State :=
  let s := s.modInst n (fun i => { i with st := st })
  let f := Fld.HST_FAULTEDk_FAULTED (n / 32)
  s.put f (setNbit (s.get f) (n % 32) (st == .faulted))

end Sys2Proof.Machine
end

