-- ==== Sys2Proof/Machine/Events.lean ====
section
/-! DEFINITION. The event recorder: occurrences gathered into records by code, severity and minute
window (R472 to R481). -/

namespace Sys2Proof.Machine

/-- The record in recorder slot `k`. -/
def State.evSlot (s : State) (k : Nat) : Option EventRec := mget (fun _ => none) s.evr.slots k

/-- Puts a record in recorder slot `k`. -/
def State.setEvSlot (s : State) (k : Nat) (r : Option EventRec) : State :=
  { s with evr := { s.evr with slots := mset (fun _ => none) s.evr.slots k r } }

/-- The records held, with their slots. -/
def State.evList (s : State) : List (Nat × EventRec) :=
  s.evr.slots.filterMap (fun e => e.2.map (fun r => (e.1, r)))

/-- HIST bin of a value: the octet its highest set bit lies in (R473). -/
def histBin (v : Nat) : Nat := if v = 0 then 0 else Nat.log2 v / 8

/-- Adds one to bin `b` of a histogram. -/
def histAdd (h : List Nat) (b : Nat) : List Nat := h.set b (sat32 (h.getD b 0))

/-- A further occurrence joins its record (R472). -/
def EventRec.joinOcc (r : EventRec) (value tick state : Nat) : EventRec :=
  { r with timeState := max r.timeState state, count := sat32 r.count, lastTick := tick,
           least := min r.least value, most := max r.most value, lastValue := value,
           valueOr := r.valueOr ||| value, hist := histAdd r.hist (histBin value) }

/-- The slot a new record takes (R475): a free one; else that of the oldest record of equal or lower
severity that is closed, archived ones first; nothing when no slot qualifies. -/
def State.evTake (s : State) (severity : Nat) : Option Nat :=
  match (List.range 2048).find? (fun k => (s.evSlot k).isNone) with
  | some k => some k
  | none =>
    let ok := s.evList.filter (fun e => !e.2.isOpen && e.2.severity ≤ severity && e.2.severity < 4)
    let oldest (l : List (Nat × EventRec)) : Option Nat :=
      (sortBy (fun e => (e.2.seq, 0)) l).head?.map (·.1)
    match oldest (ok.filter (fun e => e.2.archived)) with
    | some k => some k
    | none => oldest ok

/-- Slot `k` is taken: a closed record not yet archived is still in the staging area, once there is one (R474, R478). -/
def State.evMake (s : State) (k : Nat) : State :=
  match s.evSlot k with
  | some r => if r.archived || !s.bit .MEM_STATUS_READY then s else { s with evr := { s.evr with staged := s.evr.staged ++ [r] } }
  | none => s

/-- The count of records the code opened in the current hour of R477. -/
def State.evOpened (s : State) (code : Nat) : Nat :=
  if s.evr.hour = s.time.tick / 3600000 then mget (fun _ => 0) s.evr.openedInHour code else 0

/-- Counts a record opened by the code in the current hour. -/
def State.evCountOpened (s : State) (code : Nat) : State :=
  let hour := s.time.tick / 3600000
  let m := if s.evr.hour = hour then s.evr.openedInHour else []
  { s with evr := { s.evr with hour := hour, openedInHour := mmod (fun _ => 0) m code (· + 1) } }

/-- An occurrence of an event code at a stamp (R472 to R477); `unpowered` marks the records of R476,
which are exempt from the hourly limit. -/
def State.eventAt (s : State) (tick : Nat) (code severity value : Nat) (detail : Bytes)
    (unpowered : Bool) : State :=
  let st := timeCodeRec s.time.state
  match s.evList.find? (fun e => e.2.isOpen && e.2.code == code && e.2.severity == severity) with
  | some (k, r) => s.setEvSlot k (some (r.joinOcc value tick st))
  | none =>
    if severity < 4 && !unpowered && s.evOpened code ≥ 4 then
      { s with evr := { s.evr with surplus := mmod (fun _ => 0) s.evr.surplus code sat32,
                                   folded := mmod (fun _ => 0) s.evr.folded code sat32 } }
    else
      match s.evTake severity with
      | none => s.count (.EVR_DROPv_COUNT severity)
      | some k =>
        let s := s.evMake k
        let r : EventRec :=
          { code := code, severity := severity, isOpen := true, unpowered := unpowered, short := false,
            archived := false, timeState := st, seq := s.evr.nextSeq, windowStart := s.time.window.start,
            minute := s.time.window.minute, count := 1, firstTick := tick, lastTick := tick,
            least := value, most := value, firstValue := value, lastValue := value, valueOr := value,
            hist := histAdd (List.replicate 8 0) (histBin value),
            surplusIn := mget (fun _ => 0) s.evr.folded code, detail := padTo 384 detail }
        let s := s.setEvSlot k (some r)
        let s := if severity < 4 && !unpowered then s.evCountOpened code else s
        { s with evr := { s.evr with nextSeq := s.evr.nextSeq + 1,
                                     folded := mset (fun _ => 0) s.evr.folded code 0 } }

/-- An occurrence decided in this cycle. -/
def State.event (s : State) (code severity value : Nat) (detail : Bytes) : State :=
  s.eventAt s.time.tick code severity value detail false

/-- Every open record closes at the end of its window (R474). -/
def State.closeEvents (s : State) (short : Bool) : State :=
  let close (r : EventRec) : EventRec := if r.isOpen then { r with isOpen := false, short := short } else r
  { s with evr := { s.evr with slots := s.evr.slots.map (fun e => (e.1, e.2.map close)) } }

/-- The 512 octets of a record (R472). -/
def EventRec.bytes (r : EventRec) : Bytes :=
  le 2 r.code ++ le 1 r.severity ++
  le 1 (b2n r.isOpen + 2 * b2n r.unpowered + 4 * b2n r.short + 8 * b2n r.archived) ++
  le 1 r.timeState ++ zeros 3 ++ le 8 r.seq ++ le 8 r.windowStart ++ le 4 r.minute ++ le 4 r.count ++
  le 8 r.firstTick ++ le 8 r.lastTick ++ le 8 r.least ++ le 8 r.most ++ le 8 r.firstValue ++
  le 8 r.lastValue ++ le 8 r.valueOr ++ (r.hist.map (le 4)).flatten ++ le 4 r.surplusIn ++ zeros 4 ++
  padTo 384 r.detail

/-! Severities (R472). -/

/-- INFO. -/
def sevInfo : Nat := 0
/-- NOTICE. -/
def sevNotice : Nat := 1
/-- WARNING. -/
def sevWarning : Nat := 2
/-- ALARM. -/
def sevAlarm : Nat := 3
/-- CRITICAL. -/
def sevCritical : Nat := 4

/-! ## The end of a signet (R364, R366) -/

/-- A signet's state changes. -/
def State.setSignet (s : State) (x : Signet) : State := { s with officers := { s.officers with signet := x } }

/-- Whether a signet has been opened and not ended. -/
def Signet.live (x : Signet) : Bool := x.state == .isOpen || x.state == .complete

/-- An event of the signet as a whole: its value, an officer index or port, is open (R376; log entry 31). -/
def State.signetEvent (s : State) (code severity : Nat) : State :=
  let (v, s) := s.freshNat
  s.event code severity (v % 32) []

/-- A new challenge nonce (R450). -/
def State.newNonce (s : State) : State :=
  let (n, s) := s.drawBytes 16
  { s with lcs := { s.lcs with nonce := n } }

/-- A debug token is refused: counted, shown, and the challenge drawn again (R450). -/
def State.tokenCounted (s : State) : State :=
  { s with lcs := { s.lcs with tokenRefusals := sat32 s.lcs.tokenRefusals, tokenState := .refused } }.newNonce

/-- A debug token is refused for a reason of R481: 1 nonce, 2 ENABLES, 3 time, 4 quorum. -/
def State.tokenRecorded (s : State) (reason : Nat) : State := (s.event 0x0901 sevWarning reason []).tokenCounted

/-- A live signet ends with an event record (R376); the token it was opened for did not reach its quorum (R450, R481). -/
def State.endSignet (s : State) (st : SignetState) (code severity : Nat) : State :=
  let x := s.officers.signet
  if x.live then
    let s := (s.setSignet { x with state := st }).signetEvent code severity
    if x.action = 2 then s.tokenRecorded 4 else s
  else s

/-- A signet is cancelled (R364, R366). -/
def State.cancelSignet (s : State) : State := s.endSignet .none 0x0605 sevWarning

/-! ## Puesh sessions and card ports, and their ends (R359, R377, R417, R495) -/

/-- The Puesh session in slot `n`. -/
def State.session (s : State) (n : Nat) : Session := mget (fun _ => Session.init) s.mgp.sessions n

/-- Changes it. -/
def State.setSession (s : State) (n : Nat) (x : Session) : State :=
  { s with mgp := { s.mgp with sessions := mset (fun _ => Session.init) s.mgp.sessions n x } }

/-- A Puesh session closes: its credits, its cache and the answers it waits for are lost (R495). -/
def State.closeSession (s : State) (n : Nat) : State :=
  if (s.session n).st = 0 then s
  else
    let s := s.setSession n { Session.init with number := (s.session n).number }
    let s := { s with agent := { s.agent with replies := s.agent.replies.filter (fun r => !(r.req.src == OdSource.session n && r.req.outCap == 0)) } }
    let s := { s with agent := { s.agent with parts := mset (fun _ => none) s.agent.parts n none } }
    { s with evr := { s.evr with readFrom := mset (fun _ => 0) s.evr.readFrom n 0, surplusSel := mset (fun _ => 0) s.evr.surplusSel n 0 } }

/-- Every Puesh session ends (R495, R517). -/
def State.endSessions (s : State) : State := (List.range 8).foldl State.closeSession s

/-- STATE codes of a port (R377). -/
def psEmpty : Nat := 0
/-- ACTIVATING. -/
def psActivating : Nat := 1
/-- IDENTIFIED. -/
def psIdentified : Nat := 2
/-- IDLE. -/
def psIdle : Nat := 3
/-- PIN_WAIT. -/
def psPinWait : Nat := 4
/-- SIGNING. -/
def psSigning : Nat := 5
/-- DONE. -/
def psDone : Nat := 6
/-- ERROR. -/
def psError : Nat := 7

/-- The port `p` beside its registers. -/
def State.port (s : State) (p : Nat) : CardPort := mget (fun _ => CardPort.init) s.officers.ports p

/-- Changes it. -/
def State.setPort (s : State) (p : Nat) (x : CardPort) : State :=
  { s with officers := { s.officers with ports := mset (fun _ => CardPort.init) s.officers.ports p x } }

/-- STATE of a port. -/
def State.portState (s : State) (p : Nat) : Nat := s.get (.CRD_Pp_STATUS_STATE p)

/-- Moves a port. -/
def State.setPortState (s : State) (p v : Nat) : State := s.put (.CRD_Pp_STATUS_STATE p) v

/-- Deactivation (R359): the card's power, what the port held of its session. -/
def State.deactivate (s : State) (p : Nat) : State := s.setPort p CardPort.init

/-- A session ends well. -/
def State.cardDone (s : State) (p : Nat) : State := (s.deactivate p).setPortState p psDone

/-- What a ZEROISE stops at once beside engines, export and sealing (R417): sessions and card ports. -/
def State.endAgents (s : State) : State :=
  [0, 1].foldl (fun s p => if s.portState p == psEmpty then s else s.cardDone p) s.endSessions

end Sys2Proof.Machine
end

