-- ==== Sys2Proof/Machine/Access.lean ====
section
/-! DEFINITION. The three checks every access of an internal master passes: the Bezel, the world region registers and
the range check (R20 to R22, R238, R386 to R403). -/

namespace Sys2Proof.Machine

/-! ## Life-cycle codes (R429) -/

/-- BLANK. -/
def lcBlank : Nat := 0
/-- PROVISION. -/
def lcProvision : Nat := 1
/-- FIELD. -/
def lcField : Nat := 2
/-- ANALYSIS. -/
def lcAnalysis : Nat := 3
/-- SCRAP, and every invalid code. -/
def lcScrap : Nat := 4

/-- The voted life-cycle state. -/
def State.lifeCycle (s : State) : Nat := s.get .HST_STATUS_LIFECYCLE

/-- First byte of the DRAM window (R213). -/
def dramBase : Nat := 0x4000000000

/-- Whether a lock holds a block to the secure world (R521). -/
def State.gateLocked (s : State) (b : Nat) : Bool := nbit (s.get .PWR_LOCK_LOCK) b

/-- Whether a protected range in force holds an address of the window (R238); none is checked in BLANK and
ANALYSIS. -/
def State.rangeHolds (s : State) (a : Nat) : Bool :=
  s.lifeCycle != lcBlank && s.lifeCycle != lcAnalysis && dramBase ≤ a &&
    s.store.rangesActive.any (fun r => r.enable && r.base ≤ (a - dramBase) / 4096 && (a - dramBase) / 4096 ≤ r.limit)

/-! ## Agents and accesses (R388, R390) -/

/-- Agent codes (R388): class and world. -/
def agCpuS : Nat := 0
/-- CPU_N. -/
def agCpuN : Nat := 1
/-- DEBUG_S. -/
def agDebugS : Nat := 2
/-- DEBUG_N. -/
def agDebugN : Nat := 3
/-- DMA_S. -/
def agDmaS : Nat := 4
/-- DMA_N. -/
def agDmaN : Nat := 5
/-- DEVICE_S. -/
def agDeviceS : Nat := 6
/-- DEVICE_N. -/
def agDeviceN : Nat := 7

/-- Whether an agent accesses in the secure world. -/
def agSecure (a : Nat) : Bool := a % 2 == 0

/-- Whether an agent is of the debug or DMA classes (R238, R388). -/
def agForeign (a : Nat) : Bool := a == agDebugS || a == agDebugN || a == agDmaS || a == agDmaN

/-- What an access does (R390). -/
def akRead : Nat := 0
/-- Write. -/
def akWrite : Nat := 1
/-- Instruction fetch. -/
def akExec : Nat := 2
/-- Atomic. -/
def akAtomic : Nat := 3

/-! ## The Bezel table (R389, R390, R393) -/

/-- A register of the active table (R397). -/
def State.bzlActive (s : State) (f : Fld) : Nat := getBits (mget regReset s.worlds.bzl f.addr) f.lo f.width

/-- SIZE_LOG2 of an active region. -/
def State.rgnLog (s : State) (n : Nat) : Nat := s.bzlActive (.BZL_RGNn_CTRL_SIZE_LOG2 n)

/-- Base of an active region, bits below its size taken as zero. -/
def State.rgnBase (s : State) (n : Nat) : Nat :=
  let b := s.bzlActive (.BZL_RGNn_BASE_LO_ADDR n) * 4096 + s.bzlActive (.BZL_RGNn_BASE_HI_ADDR n) * 2 ^ 32
  b / 2 ^ s.rgnLog n * 2 ^ s.rgnLog n

/-- Whether an active, enabled region contains an address. -/
def State.rgnHolds (s : State) (n a : Nat) : Bool :=
  s.bzlActive (.BZL_RGNn_CTRL_ENABLE n) == 1 && s.rgnBase n ≤ a && a < s.rgnBase n + 2 ^ s.rgnLog n

/-- Region and facet of an address (R389): the lowest-numbered enabled region that contains it. -/
def State.regionOf (s : State) (a : Nat) : Option (Nat × Nat) :=
  match (List.range 256).find? (fun n => s.rgnHolds n a) with
  | some n => some (n, (a - s.rgnBase n) / 2 ^ (s.rgnLog n - 3))
  | none => none

/-- The word of an active facet. -/
def State.facetWord (s : State) (n f : Nat) : Nat :=
  (mget regReset s.worlds.bzl (Fld.BZL_RGNn_FACETf_CPU_S n f).addr).toNat

/-- The permission test of a facet word (R390). -/
def facetPermits (w agent kind : Nat) : Bool :=
  let r := nbit w (2 * agent)
  let wr := nbit w (2 * agent + 1)
  match kind with
  | 0 => r
  | 1 => wr
  | 2 => r && nbit w (if agSecure agent then 16 else 17)
  | _ => r && wr

/-- Whether SERVICE is in force (R394). -/
def State.service (s : State) : Bool := s.bit .BZL_STATUS_MODE

/-- The Bezel's decision on an access (R389, R390, R393): nothing where it passes, else KIND (1 DENY,
2 STRADDLE, 3 NOREGION) with region and facet of the first byte. -/
def State.bezelCheck (s : State) (agent kind a len : Nat) : Option (Nat × Nat × Nat) :=
  match s.regionOf a with
  | none => some (3, 0, 0)
  | some (n, f) =>
    if s.service && s.regionOf (a + len - 1) != some (n, f) then some (2, n, f)
    else if facetPermits (s.facetWord n f) agent kind then none
    else some (1, n, f)

/-! ## World region registers (R401) -/

/-- The memory an address lies in (R386, R401): its code and base; nothing outside the memories. -/
def memoryOf (a : Nat) : Option (Nat × Nat) :=
  if a < 0x40000 then some (0, 0)
  else if 0x1000000 ≤ a && a < 0x1400000 then some (1, 0x1000000)
  else if 0x2000000 ≤ a && a < 0x2400000 then some (2, 0x2000000)
  else if 0x4000000 ≤ a && a < 0x4400000 then some (3, 0x4000000)
  else if 0x4000000000 ≤ a && a < 0x8000000000 then some (4, 0x4000000000)
  else none

/-- A field of an active world window. -/
def State.wldActive (s : State) (f : Fld) : Nat := getBits (mget regReset s.worlds.wld f.addr) f.lo f.width

/-- ATTR of an address (R401): 0 SECURE, 1 ANY, 2 NORMAL, and the window that gives it. -/
def State.worldAttr (s : State) (m base a : Nat) : Nat × Option Nat :=
  if m = 0 || (m = 3 && s.lifeCycle == lcField) then (0, none)
  else
    let u := (a - base) / 4096
    match (List.range 8).find? (fun k => s.wldActive (.WLD_Mm_WINk_CTRL_ENABLE m k) == 1 &&
        s.wldActive (.WLD_Mm_WINk_BASE_UNIT m k) ≤ u && u ≤ s.wldActive (.WLD_Mm_WINk_LIMIT_UNIT m k)) with
    | some k => (s.wldActive (.WLD_Mm_WINk_CTRL_ATTR m k), some k)
    | none => (if m = 2 then 1 else 0, none)

/-- Whether an ATTR passes an access of a world. -/
def attrPasses (attr : Nat) (secure : Bool) : Bool := attr == 1 || (attr == 0 && secure) || (attr == 2 && !secure)

/-- The world check of an access (R401): first and last bytes both pass; else the window of the byte refused. -/
def State.worldCheck (s : State) (agent a len : Nat) : Option (Nat × Option Nat) :=
  match memoryOf a with
  | none => none
  | some (m, base) =>
    let byte (x : Nat) : Option (Nat × Option Nat) :=
      let (attr, k) := s.worldAttr m base x
      if attrPasses attr (agSecure agent) then none else some (m, k)
    match byte a with
    | some r => some r
    | none => byte (a + len - 1)

/-! ## Fault records (R403) -/

/-- The registers of a fault record, in offset order, as the event's detail (R481). -/
def State.faultDetail (s : State) (regs : List Nat) : Bytes := (regs.map (fun a => le 4 (s.reg a).toNat)).flatten

/-- The Bezel records a refusal (R403). -/
def State.bezelFault (s : State) (agent kind a len k region facet : Nat) : State :=
  let s := s.count .BZL_FAULTS_COUNT
  let s :=
    if s.bit .BZL_FAULT_INFO_VALID then s.putBit .BZL_FAULT_INFO_OVERFLOW true
    else
      let s := (s.put .BZL_FAULT_ADDR_LO_ADDR (a % 2 ^ 32)).put .BZL_FAULT_ADDR_HI_ADDR (a / 2 ^ 32)
      let s := ((s.putBit .BZL_FAULT_INFO_VALID true).put .BZL_FAULT_INFO_KIND k).putBit .BZL_FAULT_INFO_WRITE (kind == akWrite || kind == akAtomic)
      let s := ((s.putBit .BZL_FAULT_INFO_EXEC (kind == akExec)).put .BZL_FAULT_INFO_AGENT agent).put .BZL_FAULT_INFO_FACET facet
      let s := (s.put .BZL_FAULT_INFO_REGION region).put .BZL_FAULT_INFO_LENGTH (len - 1)
      (s.put .BZL_FAULT_GEN_GEN (s.get .BZL_GEN_COMMITTED_GEN)).putBit .BZL_STATUS_FAULT true
  let s := s.event 0x0701 sevWarning a (s.faultDetail [0x10000020, 0x10000024, 0x10000028, 0x1000002C])
  if s.bit .BZL_CTRL_IRQ_EN then s.raiseIrq 2 else s

/-- The world region registers record a refusal (R403). -/
def State.worldFault (s : State) (agent kind a m : Nat) (win : Option Nat) : State :=
  let s := s.count .WLD_FAULTS_COUNT
  let s :=
    if s.bit .WLD_FAULT_INFO_VALID then s.putBit .WLD_FAULT_INFO_OVERFLOW true
    else
      let s := (s.put .WLD_FAULT_ADDR_LO_ADDR (a % 2 ^ 32)).put .WLD_FAULT_ADDR_HI_ADDR (a / 2 ^ 32)
      let s := ((s.putBit .WLD_FAULT_INFO_VALID true).put .WLD_FAULT_INFO_MEM m).putBit .WLD_FAULT_INFO_WRITE (kind == akWrite || kind == akAtomic)
      let s := (s.put .WLD_FAULT_INFO_AGENT agent).put .WLD_FAULT_INFO_WINDOW (win.getD 0)
      s.putBit .WLD_FAULT_INFO_DEFAULT win.isNone
  let s := s.event 0x0702 sevWarning a (s.faultDetail [0x10100040, 0x10100044, 0x10100048])
  s.raiseIrq 3

/-- The three checks in their order (R20, R21): whether the access passes; the first that refuses records it. A
locked gate page refuses normal-world CPU, DMA and debug writes whatever the facet word (R521). -/
def State.checkAccess (s : State) (agent kind a len : Nat) : Bool × State :=
  let gate := 0x10201000 ≤ a && a < 0x1020D000 && kind != akRead && kind != akExec && s.gateLocked ((a - 0x10201000) / 4096) &&
    (agent == agCpuN || agent == agDmaN || agent == agDebugN)
  let bz := match s.bezelCheck agent kind a len with
    | none => if gate then some (1, ((s.regionOf a).getD (0, 0)).1, ((s.regionOf a).getD (0, 0)).2) else none
    | some r => some r
  match bz with
  | some (k, r, f) => (false, s.bezelFault agent kind a len k r f)
  | none =>
    match s.worldCheck agent a len with
    | some (m, w) => (false, s.worldFault agent kind a m w)
    | none => (!(agForeign agent && (s.rangeHolds a || s.rangeHolds (a + len - 1))), s)

end Sys2Proof.Machine
end

