-- ==== Sys2Proof/Machine/Ladder.lean ====
section
/-! DEFINITION. The nodes of the key ladder (R335 to R342). -/

namespace Sys2Proof.Machine

/-- One node: a block of the counter-mode KDF with HMAC-SHA-512 (R335). -/
def kdfNode (k label ctx : Bytes) : Bytes :=
  Config.hmac 0x03 k (be 4 1 ++ label ++ [0#8] ++ ctx ++ be 4 0x200)

/-! The labels of R336. -/

/-- KYL0ROOT. -/
def lblRoot : Bytes := ascii [0x4B, 0x59, 0x4C, 0x30, 0x52, 0x4F, 0x4F, 0x54]
/-- KYL1LINE. -/
def lblLine : Bytes := ascii [0x4B, 0x59, 0x4C, 0x31, 0x4C, 0x49, 0x4E, 0x45]
/-- KYL1MEAS. -/
def lblMeas : Bytes := ascii [0x4B, 0x59, 0x4C, 0x31, 0x4D, 0x45, 0x41, 0x53]
/-- KYL2PAIR. -/
def lblPair : Bytes := ascii [0x4B, 0x59, 0x4C, 0x32, 0x50, 0x41, 0x49, 0x52]
/-- KYL3OWNR. -/
def lblOwner : Bytes := ascii [0x4B, 0x59, 0x4C, 0x33, 0x4F, 0x57, 0x4E, 0x52]
/-- KYL3SCRM. -/
def lblScramble : Bytes := ascii [0x4B, 0x59, 0x4C, 0x33, 0x53, 0x43, 0x52, 0x4D]
/-- KYL4SEAL. -/
def lblSeal : Bytes := ascii [0x4B, 0x59, 0x4C, 0x34, 0x53, 0x45, 0x41, 0x4C]
/-- KYL4CNTR. -/
def lblCounter : Bytes := ascii [0x4B, 0x59, 0x4C, 0x34, 0x43, 0x4E, 0x54, 0x52]
/-- KYL4APRV. -/
def lblApproval : Bytes := ascii [0x4B, 0x59, 0x4C, 0x34, 0x41, 0x50, 0x52, 0x56]
/-- KYL4EXPW. -/
def lblExport : Bytes := ascii [0x4B, 0x59, 0x4C, 0x34, 0x45, 0x58, 0x50, 0x57]

/-- The value of hallmark `x` (R340). -/
def State.hm (s : State) (x : Nat) : Bytes := s.ladder.hm.getD x (zeros 64)

/-- Extends hallmark `x` with 64 octets (R340). -/
def State.extendHm (s : State) (x : Nat) (d : Bytes) : State :=
  { s with ladder := { s.ladder with hm := s.ladder.hm.set x (Config.sha512 (s.hm x ++ padTo 64 d)) } }

/-- SHA-512 applied `n` times (R341). -/
def shaChain (v : Bytes) : Nat → Bytes
  | 0 => v
  | n + 1 => Config.sha512 (shaChain v n)

/-- The device root (L0), where the OTP device secret and the wrap secret exist and the ladder is
available (R336, R354). -/
def State.deviceRoot (s : State) : Option Bytes :=
  if s.ladder.available then
    match s.lcs.deviceSecret, s.bb.wrapSecret with
    | some d, some w => some (kdfNode d lblRoot ([0#8] ++ be 8 Config.fuseSerial ++ w))
    | _, _ => none
  else none

/-- The device ladder seed (R336). -/
def State.deviceSeed (s : State) : Option Bytes := s.deviceRoot.map (fun r => kdfNode r lblLine [0#8])

/-- The pair ladder seed (R336), absent without a pair secret (R342). -/
def State.pairSeed (s : State) : Option Bytes :=
  if s.ladder.available then
    s.bb.pairSecret.map (fun p => kdfNode p lblLine ([0#8] ++ be 8 s.bb.domainId))
  else none

/-- The security version s of the running firmware. -/
def State.svn (s : State) : Nat := s.ladder.svn

/-- V(t) from the kept V(s): s − t applications; nothing for t above s (R341). -/
def State.ladderV (s : State) (kept : Option Bytes) (t : Nat) : Option Bytes :=
  if t ≤ s.svn then kept.map (fun v => shaChain v (s.svn - t)) else none

/-- The seeds are computed and the kept values set, each where its parent secret exists (R341). -/
def State.computeSeeds (s : State) : State :=
  { s with ladder := { s.ladder with
      vd := s.deviceSeed.map (fun d => shaChain d (255 - s.svn)),
      vp := s.pairSeed.map (fun d => shaChain d (255 - s.svn)) } }

/-- The device lineage root at t (L1). -/
def State.lineageRoot (s : State) (t : Nat) : Option Bytes :=
  match s.deviceRoot, s.ladderV s.ladder.vd t with
  | some r, some v => some (kdfNode r lblLine ([1#8] ++ be 1 t ++ s.hm 1 ++ s.hm 3 ++ v))
  | _, _ => none

/-- The measured root (L1). -/
def State.measuredRoot (s : State) : Option Bytes :=
  s.deviceRoot.map (fun r => kdfNode r lblMeas
    ([1#8] ++ s.hm 0 ++ s.hm 1 ++ s.hm 2 ++ s.hm 3 ++ s.hm 4 ++ s.hm 5))

/-- The pair-domain root at t (L2). -/
def State.pairRoot (s : State) (t : Nat) : Option Bytes :=
  match s.bb.pairSecret, s.ladderV s.ladder.vp t with
  | some p, some v =>
    some (kdfNode p lblPair ([1#8] ++ be 8 s.bb.domainId ++ be 1 t ++ s.hm 1 ++ s.hm 3 ++ v))
  | _, _ => none

/-- The pair link key at t (L2). -/
def State.pairLinkKey (s : State) (t : Nat) : Option Bytes := (s.pairRoot t).map (fun r => kdfNode r lblPair [2#8])

/-- The epoch of an owner; that of owner 0 is always 0 (R337, R351). -/
def State.ownerEpoch (s : State) (n : Nat) : Nat := if n = 0 then 0 else s.odNat (0x4000 + n) 4 0

/-- The owner root of owner n at t (L3). -/
def State.ownerRoot (s : State) (n t : Nat) : Option Bytes :=
  (s.pairRoot t).map (fun r => kdfNode r lblOwner ([1#8] ++ be 2 n ++ be 4 (s.ownerEpoch n)))

/-- A scramble key (L3, R236). -/
def State.scrambleKey (s : State) (g : Nat) : Option Bytes :=
  (s.lineageRoot s.svn).map (fun r => (kdfNode r lblScramble ([1#8] ++ be 1 g)).take 32)

/-- The seal class key of owner n at t; the pair seal key is that of owner 0 (R184, R337). -/
def State.sealKey (s : State) (n t : Nat) : Option Bytes := (s.ownerRoot n t).map (fun r => kdfNode r lblSeal [1#8])

/-- The checkpoint seal key at t (R200, R337). -/
def State.checkpointKey (s : State) (t : Nat) : Option Bytes := (s.ownerRoot 0 t).map (fun r => kdfNode r lblSeal [2#8])

/-- The export-wrap class key of owner n, always at t = 0 (R337). -/
def State.exportKey (s : State) (n : Nat) : Option Bytes := (s.ownerRoot n 0).map (fun r => kdfNode r lblExport [1#8])

/-- The counter-MAC class key of owner n at t (R336). -/
def State.counterKey (s : State) (n t : Nat) : Option Bytes := (s.ownerRoot n t).map (fun r => kdfNode r lblCounter [1#8])

/-- The approval class key of owner n at t (R336). -/
def State.approvalKey (s : State) (n t : Nat) : Option Bytes := (s.ownerRoot n t).map (fun r => kdfNode r lblApproval [1#8])

/-! The policy unit's lines in DRAM (R339): their octets are the model's (log entry 82). -/

/-- The tag of a line: the first 16 octets of HMAC-SHA-512 under the class key; none without the key. -/
def lineTag (key : Option Bytes) (line : Bytes) : Option Bytes := key.map (fun k => (Config.hmac 0x03 k line).take 16)

/-- The octets of an approval's line. -/
def Approval.line (a : Approval) : Bytes := le 2 a.owner ++ le 1 a.cls ++ le 1 a.approver ++ le 8 a.handle ++ le 8 a.notAfter

/-- The tag an approval's line takes. -/
def State.approvalTag (s : State) (a : Approval) : Option Bytes := lineTag (s.approvalKey a.owner s.svn) a.line

/-- Whether the tag of an approval's line fails. -/
def State.approvalFails (s : State) (a : Approval) : Bool := (s.approvalTag a).getD [] != a.tag

/-- The octets of an object's usage-counter line: its block and the uses returned to it. -/
def Usage.line (u : Usage) (handle : Nat) : Bytes :=
  le 8 handle ++ le 8 u.blockEnd ++ le 8 u.next ++ (u.returned.map (le 8)).flatten

/-- The tag an object's usage-counter line takes. -/
def State.usageTag (s : State) (handle : Nat) (u : Usage) : Option Bytes :=
  lineTag (s.counterKey (handle / 2 ^ 52) s.svn) (u.line handle)

/-- The per-object key (R336, R337). -/
def State.objectKey (s : State) (o : Obj) : Option Bytes :=
  (s.sealKey (o.handle / 2 ^ 52) o.svn).map (fun k =>
    kdfNode k lblSeal ([0x10#8] ++ be 8 o.handle ++ be 8 o.bead ++ be 1 o.type ++ be 2 o.size))

/-- A firmware storage key: lineage at t, or measured (R336, R356). -/
def State.storageKey (s : State) (lineage : Bool) (t x : Nat) : Option Bytes :=
  if lineage then (s.lineageRoot t).map (fun r => kdfNode r lblLine ([3#8] ++ be 1 x))
  else s.measuredRoot.map (fun r => kdfNode r lblMeas ([2#8] ++ be 1 x))

/-- The derivation unit keeps the HMAC states of the 256 keys it used most recently (R350). -/
def State.cacheKey (s : State) (h : Nat) : State :=
  { s with ladder := { s.ladder with cached := (h :: s.ladder.cached.filter (· != h)).take 256 } }

end Sys2Proof.Machine
end

