-- ==== Sys2Proof/Machine/Store.lean ====
section
/-! DEFINITION. The object store: policy records and sealed objects as octets, the directory with its
growth, the change overlay, space, and the line scrambler (R97, R105, R215 to R228). -/

namespace Sys2Proof.Machine

/-! ## Policy records (R97 to R99, R105) -/

/-- The 64 octets of a policy record (R97). -/
def Policy.bytes (p : Policy) : Bytes :=
  le 4 p.opMask ++
  (List.range 5).map (fun i => BitVec.ofNat 8 (p.quorum.getD (2 * i) 0 + 16 * p.quorum.getD (2 * i + 1) 0)) ++
  le 1 (p.exportBits + 4 * (p.reserved % 64)) ++ le 2 (b2n p.fwPolicy + 2 * (p.reserved / 64)) ++
  le 4 p.fwRule ++ le 8 p.usageLimit ++ le 4 p.notBefore ++ le 4 p.notAfter ++ padTo 32 p.label

/-- The policy record in 64 octets (R97). -/
def Policy.ofBytes (b : Bytes) : Policy :=
  { opMask := fieldLE b 0 4,
    quorum := (List.range 10).map (fun c => (fieldLE b (4 + c / 2) 1) / 16 ^ (c % 2) % 16),
    exportBits := fieldLE b 9 1 % 4, fwPolicy := fieldLE b 10 2 % 2 == 1, fwRule := fieldLE b 12 4,
    usageLimit := fieldLE b 16 8, notBefore := fieldLE b 24 4, notAfter := fieldLE b 28 4,
    label := padTo 32 (slice b 32 32), reserved := fieldLE b 9 1 / 4 + 64 * (fieldLE b 10 2 / 2) }

/-- No limit on uses (R97). -/
def unlimited : Nat := 0xFFFFFFFFFFFFFFFF

/-- No upper bound of validity (R97). -/
def noNotAfter : Nat := 0xFFFFFFFF

/-- Whether the object is usage-limited (R100). -/
def Policy.limited (p : Policy) : Bool := p.usageLimit != unlimited

/-- Whether the policy has a validity window to test (R101). -/
def Policy.timed (p : Policy) : Bool := !(p.notBefore == 0 && p.notAfter == noNotAfter)

/-- The quorum of class `c`. -/
def Policy.quorumOf (p : Policy) (c : Nat) : Nat := p.quorum.getD c 0

/-- OP_MASK bits permitted for an object type (R98). -/
def opMaskFor (type : Nat) : Nat :=
  let common := 2 ^ 17 + 2 ^ 18 + 2 ^ 19
  let x := 2 ^ 16
  match type with
  | 0x01 => 2 ^ 0 + 2 ^ 1 + 2 ^ 2 + 2 ^ 3 + x + common
  | 0x02 => 2 ^ 0 + 2 ^ 1 + 2 ^ 4 + x + common
  | 0x03 => 2 ^ 0 + 2 ^ 1 + x + common
  | 0x04 => 2 ^ 4 + x + common
  | 0x05 => 2 ^ 5 + 2 ^ 6 + x + common
  | 0x06 => 2 ^ 0 + 2 ^ 1 + x + common
  | 0x07 => 2 ^ 7 + 2 ^ 8 + 2 ^ 9 + 2 ^ 10 + 2 ^ 11 + 2 ^ 12 + 2 ^ 13 + 2 ^ 14 + x + common
  | 0x08 => 2 ^ 11 + 2 ^ 12 + x + common
  | 0x09 => 2 ^ 7 + 2 ^ 8 + x + common
  | 0x0A => 2 ^ 15 + x + common
  | 0x0B => 2 ^ 20 + common
  | _ => 0

/-- Whether every bit of `a` is a bit of `b`. -/
def subBits (a b : Nat) : Bool := a &&& b == a

/-- The content checks of R98, R99 and R101 on a policy for an object of a type. -/
def Policy.valid (p : Policy) (type : Nat) : Bool :=
  subBits p.opMask (opMaskFor type) && p.quorum.all (· ≤ 8) && p.quorumOf 7 == 0 && p.quorumOf 9 == 0 &&
    (p.fwPolicy || p.fwRule == 0) && p.notBefore < p.notAfter

/-- Whether `n` is narrower than `p` (R105). -/
def Policy.narrower (n p : Policy) : Bool :=
  subBits n.opMask p.opMask && subBits n.exportBits p.exportBits &&
    (List.range 10).all (fun c => p.quorumOf c ≤ n.quorumOf c) && n.usageLimit ≤ p.usageLimit &&
    p.notBefore ≤ n.notBefore && n.notAfter ≤ p.notAfter && n.fwPolicy == p.fwPolicy && n.fwRule == p.fwRule

/-- The field-wise narrower of two policies, with the LABEL of the second (R115). -/
def Policy.narrow (p n : Policy) : Policy :=
  { n with opMask := p.opMask &&& n.opMask, exportBits := p.exportBits &&& n.exportBits,
           quorum := (List.range 10).map (fun c => max (p.quorumOf c) (n.quorumOf c)),
           usageLimit := min p.usageLimit n.usageLimit, notBefore := max p.notBefore n.notBefore,
           notAfter := min p.notAfter n.notAfter, fwPolicy := p.fwPolicy, fwRule := p.fwRule }

/-! ## Object types (R94, R216) -/

/-- Whether TYPE and SIZE are a pair of R94. -/
def typeSizeOk (type size : Nat) : Bool :=
  match type with
  | 0x01 => [2048, 3072, 4096, 6144, 8192].contains size
  | 0x02 => [256, 384, 521].contains size
  | 0x03 => [25519, 448].contains size
  | 0x04 => [25519, 448].contains size
  | 0x05 => [512, 768, 1024].contains size
  | 0x06 => [44, 65, 87].contains size
  | 0x07 => [128, 192, 256].contains size
  | 0x08 => 128 ≤ size && size ≤ 1024 && size % 64 == 0
  | 0x09 => size == 256
  | 0x0A => size == 256 || size == 512
  | 0x0B => size == 64
  | _ => false

/-- Octets of the public output of R94. -/
def publicLen (type size : Nat) : Nat :=
  match type with
  | 0x01 => size / 8
  | 0x02 => if size = 256 then 65 else if size = 384 then 97 else 133
  | 0x03 => if size = 25519 then 32 else 57
  | 0x04 => if size = 25519 then 32 else 56
  | 0x05 => if size = 512 then 800 else if size = 768 then 1184 else 1568
  | 0x06 => if size = 44 then 1312 else if size = 65 then 1952 else 2592
  | _ => 0

/-- Octets of the public encoding of R128. -/
def publicEncLen (type size : Nat) : Nat :=
  if type = 0x01 then size / 8 + 8 else publicLen type size

/-- Octets of the key encoding of R94. -/
def keyEncLen (type size : Nat) : Nat :=
  match type with
  | 0x01 => size / 8 + 8 + size / 8
  | 0x02 => if size = 256 then 32 else if size = 384 then 48 else 66
  | 0x03 => if size = 25519 then 32 else 57
  | 0x04 => if size = 25519 then 32 else 56
  | 0x05 => 64
  | 0x06 => 32
  | 0x0B => 8
  | _ => size / 8

/-- Octets of the stored encoding (R216). -/
def storedLen (type size : Nat) : Nat :=
  match type with
  | 0x01 => 9 * (size / 8) / 2 + 8
  | 0x02 => keyEncLen type size + publicLen type size
  | 0x03 => keyEncLen type size + publicLen type size
  | 0x04 => keyEncLen type size + publicLen type size
  | 0x05 => if size = 512 then 1696 else if size = 768 then 2464 else 3232
  | 0x06 => if size = 44 then 2592 else if size = 65 then 4064 else 4928
  | 0x0B => 0
  | _ => size / 8

/-- Octets of a sealed object (R216). -/
def sealedLen (type size : Nat) : Nat := 144 + storedLen type size

/-- Octets a sealed object occupies: whole lines of 64 (R215, R216). -/
def occupied (type size : Nat) : Nat := roundUp 64 (sealedLen type size)

/-- The owner of a handle (R91). -/
def ownerOf (handle : Nat) : Nat := handle / 2 ^ 52

/-- A handle from an owner and a serial (R91). -/
def mkHandle (owner serial : Nat) : Nat := owner * 2 ^ 52 + serial

/-- The first serial that is never assigned (R92). -/
def serialEnd : Nat := 0xFFFFF00000000

/-- Whether a handle field has the form of a reference (R76). -/
def isReference (handle : Nat) : Bool := handle / 2 ^ 32 == 0xFFFFFFFF

/-- The 128 clear octets of a sealed object (R215): the additional authenticated data. -/
def Obj.header (o : Obj) : Bytes :=
  ascii [0x4B, 0x59, 0x4F, 0x31] ++ le 1 1 ++ le 1 o.type ++ le 2 o.size ++ le 8 o.handle ++ le 1 o.svn ++
  zeros 3 ++ le 4 o.enc.length ++ le 8 o.sealCount ++ le 8 o.highWater ++ le 8 o.counter ++ le 8 o.bead ++
  le 4 o.sealClasp ++ zeros 4 ++ o.policy.bytes

/-- The sealed object as written to DRAM, beads and chunks (R215). -/
def State.sealObj (s : State) (o : Obj) : Bytes :=
  o.header ++ Config.aeadSeal 1 16 (((s.objectKey o).getD []).take 32) (le 8 o.sealCount ++ le 4 o.sealClasp)
    o.header o.enc

/-! ## The directory (R219 to R228) -/

/-- The directory hash of a handle (R219). -/
def dirHash (handle : Nat) : Nat :=
  let h : BitVec 64 := BitVec.ofNat 64 handle
  let h := h ^^^ (h >>> 30)
  let h := h * 0xA24B1F6FDA392B1B#64
  let h := h ^^^ (h >>> 27)
  let h := h * 0x6C8E9CF570932BD5#64
  let h := h ^^^ (h >>> 31)
  h.toNat

/-- The home bucket of a hash in a table of 2^k buckets (R220). -/
def homeBucket (h k : Nat) : Nat := h / 2 ^ (64 - k)

/-- The checkpoint segment of a handle (R196). -/
def segmentOf (handle : Nat) : Nat := dirHash handle / 2 ^ 52

/-- K: the largest table for the installed capacity (R220). -/
def State.dirMaxK (s : State) : Nat := Nat.log2 (s.store.capacityGiB * 2 ^ 30 / 32 / 64)

/-- Octets of the object area (R213). -/
def State.objectArea (s : State) : Nat :=
  let c := s.store.capacityGiB * 2 ^ 30
  c - 4 * 2 ^ 30 - c / 16

/-- Installed octets. -/
def State.capacity (s : State) : Nat := s.store.capacityGiB * 2 ^ 30

/-- First byte of the directory region (R213). -/
def dirBase : Nat := 0x4100000000

/-- First byte of the object area (R213). -/
def State.objectBase (s : State) : Nat := dirBase + s.capacity / 16

/-- The first byte of the table of 2^k buckets (R220). -/
def State.tableBase (s : State) (k : Nat) : Nat :=
  if (s.dirMaxK - k) % 2 = 0 then dirBase else dirBase + s.capacity / 32

/-- A bucket of a table; nothing listed is an empty bucket. -/
def bucket (t : SMap (List DirEntry)) (j : Nat) : List DirEntry := mget (fun _ => []) t j

/-- Writes a bucket of a table. -/
def setBucket (t : SMap (List DirEntry)) (j : Nat) (l : List DirEntry) : SMap (List DirEntry) :=
  mset (fun _ => []) t j l

/-- Whether a lookup of a hash uses the new table (R227). -/
def State.dirUsesNew (s : State) (h : Nat) : Bool :=
  s.store.phase == .migrating && homeBucket h s.store.k < s.store.cursor

/-- The bucket a lookup of a handle reads (R220, R227). -/
def State.dirBucket (s : State) (handle : Nat) : List DirEntry :=
  let h := dirHash handle
  if s.dirUsesNew h then bucket s.store.newTable (homeBucket h (s.store.k + 1))
  else bucket s.store.table (homeBucket h s.store.k)

/-- The entry of a handle (R222). -/
def State.dirFind (s : State) (handle : Nat) : Option DirEntry :=
  (s.dirBucket handle).find? (fun e => e.handle == handle)

/-- Overflow lines a bucket of `n` entries takes (R222): one for each entry beyond two. -/
def overflowOf (n : Nat) : Nat := n - 2

/-- Overflow pool lines in use (R222). -/
def Store.poolUsed (st : Store) : List Nat := ((st.links ++ st.newLinks).map (·.2)).flatten

/-- A free line of the overflow pool: the lowest (log entry 80). -/
def freeLine (used : List Nat) : Nat := ((List.range (used.length + 1)).find? (fun i => !used.contains i)).getD 0

/-- The pool lines of a chain that takes `n`: those it has, less or more (R222). -/
def fitLinks (used l : List Nat) (n : Nat) : List Nat :=
  (List.range (n - l.length)).foldl (fun l _ => l ++ [freeLine (used ++ l)]) (l.take n)

/-- Writes a bucket of the table in use, with its chain. -/
def Store.putOld (st : Store) (j : Nat) (l : List DirEntry) : Store :=
  let links := fitLinks st.poolUsed (mget (fun _ => []) st.links j) (overflowOf l.length)
  { st with table := setBucket st.table j l, links := mset (fun _ => []) st.links j links }

/-- Of the new table. -/
def Store.putNew (st : Store) (j : Nat) (l : List DirEntry) : Store :=
  let links := fitLinks st.poolUsed (mget (fun _ => []) st.newLinks j) (overflowOf l.length)
  { st with newTable := setBucket st.newTable j l, newLinks := mset (fun _ => []) st.newLinks j links }

/-- Applies a change to the bucket of a handle by its old home against the cursor (R228). -/
def State.dirApply (s : State) (handle : Nat) (f : List DirEntry → List DirEntry) : State :=
  let h := dirHash handle
  let old := homeBucket h s.store.k
  let new := homeBucket h (s.store.k + 1)
  let st := if s.dirUsesNew h then s.store else s.store.putOld old (f (bucket s.store.table old))
  { s with store := if st.phase == .migrating then st.putNew new (f (bucket st.newTable new)) else st }

/-- Adds an entry. -/
def State.dirInsert (s : State) (e : DirEntry) : State := s.dirApply e.handle (fun l => l ++ [e])

/-- Removes the entry of a handle. -/
def State.dirRemove (s : State) (handle : Nat) : State :=
  s.dirApply handle (fun l => l.filter (fun e => !(e.handle == handle)))

/-- Changes the entry of a handle. -/
def State.dirChange (s : State) (handle : Nat) (f : DirEntry → DirEntry) : State :=
  s.dirApply handle (fun l => l.map (fun e => if e.handle == handle then f e else e))

/-- Every entry, each once (R227). -/
def State.dirAll (s : State) : List DirEntry :=
  let mig := s.store.phase == .migrating
  let old := s.store.table.filter (fun b => !mig || s.store.cursor ≤ b.1)
  let new := if mig then s.store.newTable.filter (fun b => b.1 / 2 < s.store.cursor) else []
  (old.map (·.2)).flatten ++ (new.map (·.2)).flatten

/-- Committed and pending entries (R242). -/
def State.dirCount (s : State) : Nat := (s.dirAll.filter (fun e => e.state != .damaged)).length

/-- Overflow pool lines in use (R222, R243). -/
def State.overflowLines (s : State) : Nat := s.store.poolUsed.length

/-- Lines of the overflow pool (R220): C/64 octets. -/
def State.overflowPool (s : State) : Nat := s.store.capacityGiB * 2 ^ 30 / 64 / 64

/-- Octets of the object area that entries occupy. -/
def State.objectUsed (s : State) : Nat := (s.dirAll.map (fun e => e.lines * 64)).sum

/-- The line of the object area an entry's object begins at. -/
def State.entryLine (s : State) (e : DirEntry) : Nat := (dramBase + e.offset - s.objectBase) / 64

/-- Whether `n` lines of the object area from `a` hold no object. -/
def State.linesFree (s : State) (a n : Nat) : Bool :=
  decide (a + n ≤ s.objectArea / 64) && s.dirAll.all (fun e => decide (a + n ≤ s.entryLine e) || decide (s.entryLine e + e.lines ≤ a))

/-- Where an object of `n` lines is placed (R221): in free lines of the object area; which of them is the store's own, from
the free value `f` on (log entry 81). -/
def State.placeAt (s : State) (n f : Nat) : Nat :=
  let a := f % (s.objectArea / 64 + 1)
  let ends := s.dirAll.map (fun e => s.entryLine e + e.lines)
  let l := (a :: 0 :: ends).filter (fun x => s.linesFree x n)
  s.objectBase - dramBase + 64 * l.headD a

/-- A directory entry for an object, in lines of its own: PENDING for a job that creates it (R223), else COMMITTED. -/
def State.enter (s : State) (o : Obj) (state : EntryState) (inst gen job : Nat) : State :=
  let n := occupied o.type o.size / 64
  let (f, s) := s.freshNat
  s.dirInsert { handle := o.handle, offset := s.placeAt n f, lines := n, state := state,
                type := o.type, pendInst := inst, pendGen := gen % 65536, pendJob := job }

/-- Writes a PENDING entry for an object a job creates (R223). -/
def State.dirPending (s : State) (o : Obj) (inst gen job : Nat) : State := s.enter o .pending inst gen job

/-- Every entry of the bucket of a handle becomes DAMAGED (R240). -/
def State.damageBucket (s : State) (handle : Nat) : State :=
  s.dirApply handle (fun l => l.map (fun e => { e with state := .damaged }))

/-- The entry of a handle becomes DAMAGED (R240, R355). -/
def State.damage (s : State) (handle : Nat) : State :=
  s.dirChange handle (fun e => { e with state := .damaged })

/-- The new table's buckets from the old bucket `j`: each entry goes to the child chosen by bit 63 − k
of its hash (R227). -/
def splitBucket (k : Nat) (l : List DirEntry) : List DirEntry × List DirEntry :=
  (l.filter (fun e => !(nbit (dirHash e.handle) (63 - k))), l.filter (fun e => nbit (dirHash e.handle) (63 - k)))

/-- A resize begins when the entries exceed 2^k, k is below K and restore is COMPLETE (R226). -/
def State.resizeCheck (s : State) : State :=
  if s.store.phase == .idle && s.dirCount > 2 ^ s.store.k && s.store.k < s.dirMaxK &&
      s.restore.state == .complete then
    { s with store := { s.store with phase := .clearing, newTable := [], cursor := 0 } }
  else s

/-! ## The change overlay (R224) -/

/-- The state of an object after a record of it is applied. -/
def RecBody.applyTo (r : RecBody) (o : Option Obj) : Option Obj :=
  match r with
  | .objectCreate n => some n
  | .objectDestroy _ => none
  | .policySet _ p => o.map (fun x => { x with policy := x.policy.narrow p })
  | .usageBlock _ _ last => o.map (fun x => { x with highWater := last })
  | .counterAdvance _ _ v => o.map (fun x => { x with counter := v })
  | _ => o

/-- The handle a record names; 0 for records of no object. -/
def RecBody.handle : RecBody → Nat
  | .objectCreate o => o.handle
  | .objectDestroy h => h
  | .policySet h _ => h
  | .usageBlock h _ _ => h
  | .counterAdvance h _ _ => h
  | _ => 0

/-- The object after a list of records of it. -/
def applyRecs (handle : Nat) (o : Option Obj) (l : List Rec) : Option Obj :=
  l.foldl (fun o r => if r.body.handle == handle && handle != 0 && !r.dropped then r.body.applyTo o else o) o

/-- The committed state of a handle: the store's object with its overlay records (R224). -/
def State.committedObj (s : State) (handle : Nat) : Option Obj :=
  applyRecs handle (s.obj handle) (s.store.overlay.map (·.2))

/-- The state at seal of an object resealed in place (R217). -/
def State.reseal (s : State) (o : Obj) : Obj :=
  { o with sealCount := o.sealCount + 1, sealClasp := s.strand.clasp.getD s.strand.lastClasp, svn := s.svn }

end Sys2Proof.Machine
end

