-- ==== Sys2Proof/Machine/Dram.lean ====
section
/-! DEFINITION. The DRAM window as the DIMMs hold it: the lines the object store controller lays out, the scramble key
index of every request and the line scrambler, and the reads and writes of memory by every other master (R213, R215, R220 to
R222, R234 to R236, R241). -/

namespace Sys2Proof.Machine

/-! ## The line scrambler (R235) -/

/-- Rotation amounts of R235. -/
def scrambleRot : List (List Nat) := [[11, 29, 47, 5], [37, 19, 3, 53], [23, 41, 13, 59], [7, 31, 43, 17]]

/-- One pair of a round of the mix. -/
def scramblePair (k : List (BitVec 64)) (t : BitVec 64) (r i : Nat) (w : List (BitVec 64)) : List (BitVec 64) :=
  let a := w.getD (2 * i) 0#64
  let b := w.getD (2 * i + 1) 0#64
  let a' := a + (b ^^^ k.getD ((r + i) % 4) 0#64 ^^^ t)
  let b' := rotl64 b ((scrambleRot.getD r []).getD i 0) ^^^ a'
  (w.set (2 * i) a').set (2 * i + 1) b'

/-- One round of the mix: four pairs, then the words move down by one. -/
def scrambleRound (k : List (BitVec 64)) (t : BitVec 64) (w : List (BitVec 64)) (r : Nat) : List (BitVec 64) :=
  let w := (List.range 4).foldl (fun w i => scramblePair k t r i w) w
  w.drop 1 ++ w.take 1

/-- The mix of one line on its way to the DIMMs (R235): `t` is the line address bits [39:6]. -/
def scrambleLine (k : List (BitVec 64)) (t : Nat) (w : List (BitVec 64)) : List (BitVec 64) :=
  (List.range 4).foldl (scrambleRound k (BitVec.ofNat 64 (t % 2 ^ 34))) w

/-- Undoing one pair. -/
def unscramblePair (k : List (BitVec 64)) (t : BitVec 64) (r i : Nat) (w : List (BitVec 64)) : List (BitVec 64) :=
  let a' := w.getD (2 * i) 0#64
  let b' := w.getD (2 * i + 1) 0#64
  let b := (b' ^^^ a').rotateRight ((scrambleRot.getD r []).getD i 0)
  let a := a' - (b ^^^ k.getD ((r + i) % 4) 0#64 ^^^ t)
  (w.set (2 * i) a).set (2 * i + 1) b

/-- The unmix of one line read from the DIMMs. -/
def unscrambleLine (k : List (BitVec 64)) (t : Nat) (w : List (BitVec 64)) : List (BitVec 64) :=
  [3, 2, 1, 0].foldl (fun w r =>
    let w := w.drop 7 ++ w.take 7
    (List.range 4).foldl (fun w i => unscramblePair k (BitVec.ofNat 64 (t % 2 ^ 34)) r i w) w) w

/-! ## The key table (R234, R236) -/

/-- Whether lines are mixed on their way to the DIMMs (R236): in BLANK and ANALYSIS the scrambler is bypassed, whatever
BYPASS says. -/
def State.scrambling (s : State) : Bool := s.lifeCycle != lcBlank && s.lifeCycle != lcAnalysis

/-- The four words of entry `g` of the key table; an erased table holds zeros. -/
def State.keyWords (s : State) (g : Nat) : List (BitVec 64) :=
  let k := s.ladder.scrambleTable.getD g []
  (List.range 4).map (fun i => BitVec.ofNat 64 (fieldLE k (8 * i) 8))

/-- A line as little-endian words. -/
def lineWords (b : Bytes) : List (BitVec 64) := (List.range 8).map (fun i => BitVec.ofNat 64 (fieldLE b (8 * i) 8))

/-- The octets of a line of words. -/
def wordLine (w : List (BitVec 64)) : Bytes := (w.map (fun x => le 8 x.toNat)).flatten

/-- A line written under key index `g`, as it reaches the DIMMs (R234, R235). -/
def State.mixLine (s : State) (g line : Nat) (b : Bytes) : Bytes :=
  if s.scrambling then wordLine (scrambleLine (s.keyWords g) (line / 64) (lineWords b)) else b

/-- A line of the DIMMs read under key index `g`. -/
def State.unmixLine (s : State) (g line : Nat) (b : Bytes) : Bytes :=
  if s.scrambling then wordLine (unscrambleLine (s.keyWords g) (line / 64) (lineWords b)) else b

/-! ## The lines the controller lays out (R215, R220 to R222) -/

/-- The code of a STATE (R221). -/
def EntryState.code : EntryState → Nat
  | .committed => 1 | .pending => 2 | .damaged => 4

/-- The 32 octets of an entry. -/
def DirEntry.bytes (e : DirEntry) : Bytes :=
  le 8 e.handle ++ le 8 e.offset ++ le 2 e.lines ++ le 1 e.state.code ++ le 1 e.type ++ le 2 e.pendInst ++ le 2 e.pendGen ++
  le 2 e.pendJob ++ zeros 6

/-- A LINK entry to a line of the overflow pool; the fields it does not use are those of an entry of no creating record
(log entry 80). -/
def linkBytes (offset : Nat) : Bytes :=
  le 8 0 ++ le 8 offset ++ le 2 0 ++ le 1 3 ++ le 1 0 ++ le 2 0xFFFF ++ le 2 0 ++ le 2 0 ++ zeros 6

/-- First byte of the overflow pool (R220). -/
def State.poolBase (s : State) : Nat := dirBase + 3 * s.capacity / 64

/-- Line `i` of a bucket's chain, its home line 0: two entries, or one and a LINK to the next line (R221, R222). -/
def State.chainLine (s : State) (l : List DirEntry) (links : List Nat) (i : Nat) : Bytes :=
  let slot (k : Nat) : Bytes := ((l[k]?).map DirEntry.bytes).getD (zeros 32)
  match links[i]? with
  | some p => slot i ++ linkBytes (s.poolBase + 64 * p - dramBase)
  | none => slot i ++ slot (i + 1)

/-- The bucket whose chain holds a line of the overflow pool, and its place in that chain. -/
def poolOwner (m : SMap (List Nat)) (p : Nat) : Option (Nat × Nat) :=
  match m.find? (fun e => e.2.contains p) with
  | some e => some (e.1, e.2.findIdx (· == p) + 1)
  | none => none

/-- Whether a line lies in the table of 2^k buckets (R220). -/
def State.inTable (s : State) (k line : Nat) : Bool := s.tableBase k ≤ line && line < s.tableBase k + 64 * 2 ^ k

/-- A line of the directory region; nothing where no table or chain in use lies there. -/
def State.dirLine (s : State) (line : Nat) : Option Bytes :=
  let st := s.store
  let old (j i : Nat) : Bytes := s.chainLine (bucket st.table j) (mget (fun _ => []) st.links j) i
  let new (j i : Nat) : Bytes := s.chainLine (bucket st.newTable j) (mget (fun _ => []) st.newLinks j) i
  if s.inTable st.k line then some (old ((line - s.tableBase st.k) / 64) 0)
  else if st.phase == .migrating && s.inTable (st.k + 1) line then some (new ((line - s.tableBase (st.k + 1)) / 64) 0)
  else if line < s.poolBase then none
  else
    match poolOwner st.links ((line - s.poolBase) / 64), poolOwner st.newLinks ((line - s.poolBase) / 64) with
    | some (j, i), _ => some (old j i)
    | none, some (j, i) => some (new j i)
    | none, none => none

/-- The entry whose object a line of the object area holds. -/
def State.lineEntry (s : State) (line : Nat) : Option DirEntry :=
  s.dirAll.find? (fun e => dramBase + e.offset ≤ line && line < dramBase + e.offset + 64 * e.lines)

/-- A line of the controller's own areas, with the key index of its requests (R234): owner modulo 256 in the object area, 0
elsewhere. Nothing where the manual gives no contents: the staging areas, the checkpoint shadow and the overlay, whose
layout it leaves open, an object not yet committed, lines in no use (log entry 34). -/
def State.ownLine (s : State) (line : Nat) : Option (Nat × Bytes) :=
  if line < dirBase then none
  else if line < s.objectBase then (s.dirLine line).map (fun b => (0, b))
  else
    match s.lineEntry line with
    | none => none
    | some e =>
      if e.state != .committed then none
      else (s.obj e.handle).map (fun o => (ownerOf e.handle % 256, padTo 64 (slice (s.sealObj o) (line - dramBase - e.offset) 64)))

/-! ## What the DIMMs hold, and accesses by other masters (R213, R214, R234, R241) -/

/-- The firmware area of the DRAM window (R213). -/
def firmwareArea : Nat := 0x4092000000

/-- Whether an address lies in the installed part of the window. -/
def State.inDram (s : State) (a : Nat) : Bool := dramBase ≤ a && a < dramBase + s.capacity

/-- The bytes of a line whose contents are open. -/
def State.openLine (s : State) (line : Nat) : Bytes := (List.range 64).map (fun i => Config.dramByte s.free (line + i))

/-- A line of the controller's areas as it laid it out; after ZEROISE what the lines hold is noise (R241). -/
def State.laidLine (s : State) (line : Nat) : Bytes :=
  match s.ownLine line with
  | some (g, b) => if s.zeroised then s.openLine line else s.mixLine g line b
  | none => s.openLine line

/-- A line as the DIMMs hold it: in the firmware area what was last written there; elsewhere what the controller laid out,
or what another master has written since (log entry 34). -/
def State.dimmLine (s : State) (line : Nat) : Bytes :=
  if inSpan line firmwareArea dirBase then s.bytes line 64
  else
    match mget (fun _ => none) s.store.written line with
    | some (was, now) => if s.ownLine line = none || s.laidLine line = was then now else s.laidLine line
    | none => s.laidLine line

/-- The byte another master reads at an address: in DRAM under key index 0 (R234). -/
def State.loadByte (s : State) (a : Nat) : Byte :=
  if s.inDram a then (s.unmixLine 0 (a / 64 * 64) (s.dimmLine (a / 64 * 64))).getD (a % 64) 0#8 else s.byte a

/-- The bytes another master reads. -/
def State.load (s : State) (a n : Nat) : Bytes :=
  if s.inDram a then (List.range n).map (fun i => s.loadByte (a + i)) else s.bytes a n

/-- A whole line is written by another master, under key index 0. -/
def State.storeLine (s : State) (line : Nat) (b : Bytes) : State :=
  let x := s.mixLine 0 line b
  if inSpan line firmwareArea dirBase then s.setBytes line x
  else { s with store := { s.store with written := mset (fun _ => none) s.store.written line (some (s.laidLine line, x)) } }

/-- The lines an access of `n` bytes touches. -/
def linesOf (a n : Nat) : List Nat := (List.range ((a + n + 63) / 64 - a / 64)).map (fun i => (a / 64 + i) * 64)

/-- The bytes another master writes; of a line written in part the rest is read and mixed again. -/
def State.store' (s : State) (a : Nat) (d : Bytes) : State :=
  if s.inDram a then
    (linesOf a d.length).foldl (fun s line =>
      s.storeLine line ((List.range 64).map (fun i =>
        if a ≤ line + i && line + i < a + d.length then d.getD (line + i - a) 0#8 else s.loadByte (line + i)))) s
  else s.setBytes a d

/-- A write to memory by a block of the device, in the secure world (R388): checked as every other access, and written
where it passes; a refused one writes nothing (R21). -/
def State.deviceWrite (s : State) (a : Nat) (d : Bytes) : State :=
  let (ok, s) := s.checkAccess agDeviceS akWrite a d.length
  let m := ((memoryOf a).map (·.1)).getD 0
  if ok && m != 0 && (m != 4 || s.inDram a) then s.store' a d else s

end Sys2Proof.Machine
end

