-- ==== Sys2Proof/Machine/Meter.lean ====
section
/-! DEFINITION. Minute meters and the minute window (R166 to R176). -/

namespace Sys2Proof.Machine

/-- Flag bits of a meter record (R170). -/
def mfCarried : Nat := 0
/-- UNANCHORED. -/
def mfUnanchored : Nat := 1
/-- SHORT. -/
def mfShort : Nat := 2
/-- HOLDOVER. -/
def mfHoldover : Nat := 3
/-- DEVICE. -/
def mfDevice : Nat := 4
/-- PARTIAL. -/
def mfPartial : Nat := 5
/-- FIRST. -/
def mfFirst : Nat := 6
/-- SPLIT. -/
def mfSplit : Nat := 7

/-- The open record of an instance, or of the device. -/
def State.meter (s : State) (n : Nat) : Option Meter := mget (fun _ => none) s.meters.openRecs n

/-- Replaces the open record of an instance. -/
def State.setMeter (s : State) (n : Nat) (m : Option Meter) : State :=
  { s with meters := { s.meters with openRecs := mset (fun _ => none) s.meters.openRecs n m } }

/-- Takes over the busy time below one microsecond that an instance's last record left (R166). -/
def State.takeRest (s : State) (n : Nat) : List Nat × State :=
  (mget (fun _ => []) s.meters.rests n, { s with meters := { s.meters with rests := mset (fun _ => []) s.meters.rests n [] } })

/-- Opens the record of an instance for an owner; the first since main reset is flagged FIRST (R175). A carried record
that still stands goes on. -/
def State.openMeter (s : State) (n start owner flags : Nat) : State :=
  match s.meter n with
  | some old => s.setMeter n (some { old with owner := owner, gen := (s.inst n).gen, flags := old.flags ||| flags })
  | none =>
    let (rest, s) := s.takeRest n
    let first := !(s.meters.firstSeen.contains n)
    let fl := setNbit (setNbit flags mfFirst first) mfDevice (n == deviceMeter)
    let s := s.setMeter n (some (Meter.fresh n owner start s.time.window.minute s.time.window.no (s.inst n).gen fl rest))
    { s with meters := { s.meters with firstSeen := if first then s.meters.firstSeen ++ [n] else s.meters.firstSeen } }

/-- Whether a U32 field of the record has reached 0xF000_0000 (R174). -/
def Meter.full (m : Meter) : Bool :=
  m.rateLimited ≥ 0xF0000000 || m.other ≥ 0xF0000000 || m.waitTicks ≥ 0xF0000000 ||
    m.classes.any (fun c => c.ops ≥ 0xF0000000 || c.denied ≥ 0xF0000000 || c.busyNs / 1000 ≥ 0xF0000000)

/-- Whether nothing is counted in a record. -/
def Meter.idle (m : Meter) : Bool :=
  m.rateLimited == 0 && m.other == 0 && m.waitTicks == 0 &&
    m.classes.all (fun c => c.ops == 0 && c.denied == 0 && c.busyNs / 1000 == 0 && c.bytes == 0)

/-- The busy time below one microsecond of each class (R166). -/
def Meter.remainders (m : Meter) : List Nat := m.classes.map (fun c => c.busyNs % 1000)

/-- The flags the records of the open window take (R167); `stop` is where it ends. -/
def State.windowFlags (s : State) (stop : Nat) : Nat :=
  let w := s.time.window
  setNbit (setNbit (setNbit 0 mfUnanchored (!w.anchored)) mfShort (stop - w.start < 60000)) mfHoldover w.holdover

/-- A record as it closes at `stop`: WINDOWS and GENERATION are those of that moment (R168, R170). -/
def State.meterEnd (s : State) (m : Meter) (stop flags : Nat) : Meter :=
  { m with stop := stop, gen := if m.inst = deviceMeter then 0 else (s.inst m.inst).gen, flags := m.flags ||| flags,
           windows := min 255 (s.time.window.no + 1 - m.win) }

/-- An open record is taken from its instance, whose next record is to carry its remainders (R166). -/
def State.dropMeter (s : State) (m : Meter) : State :=
  let s := s.setMeter m.inst none
  { s with meters := { s.meters with rests := mset (fun _ => []) s.meters.rests m.inst m.remainders } }

/-- Closes the open record of an instance at `stop` and puts it with the closing records. -/
def State.closeMeter (s : State) (n stop flags : Nat) : State :=
  match s.meter n with
  | none => s
  | some m =>
    let t := s.dropMeter m
    { t with meters := { t.meters with closing := t.meters.closing ++ [s.meterEnd m stop flags] } }

/-- An unbinding closes the record of an instance (R168): it waits for the window's close, which gives it the window's
flags (R172). In the tick a window opens in, the unbinding is taken as in the cycle of the minute increment: the record
closed there ends at the boundary, and the one since opened is dropped unless it counts something (log entry 73). -/
def State.unbindMeter (s : State) (n : Nat) : State :=
  match s.meter n with
  | none => s
  | some m =>
    let now := s.time.tick
    let t := s.dropMeter m
    if now = s.time.window.start && m.start = now && m.idle then
      { t with meters := { t.meters with firstSeen := t.meters.firstSeen.filter (fun k => k != n || !nbit m.flags mfFirst) } }
    else
      let fl := setNbit 0 mfPartial (now != s.time.window.start)
      { t with meters := { t.meters with waiting := t.meters.waiting ++ [s.meterEnd m now fl] } }

/-- A binding opens the record of an instance, flagged PARTIAL (R168). -/
def State.bindMeter (s : State) (n owner : Nat) : State := s.openMeter n s.time.tick owner (setNbit 0 mfPartial true)

/-- The 256 octets of a record written at ring sequence number `seq` (R170). -/
def Meter.bytes (m : Meter) (seq : Nat) : Bytes :=
  le 2 1 ++ le 1 m.flags ++ le 1 m.windows ++ le 2 m.inst ++ le 2 m.owner ++ le 8 seq ++
  le 8 m.start ++ le 8 m.stop ++ le 4 m.minute ++ le 4 m.gen ++ le 4 m.rateLimited ++ le 4 m.other ++
  le 4 m.waitTicks ++ zeros 4 ++
  (m.classes.map (fun c => le 4 c.ops ++ le 4 c.denied ++ le 4 (c.busyNs / 1000) ++ le 8 c.bytes)).flatten

/-- Depth of the meter ring (R171). -/
def State.meterDepth (s : State) : Nat := 2 ^ s.get .HST_MTR_CFG_DEPTH_LOG2

/-- Whether the ring takes a record now (R172, R173). -/
def State.meterRoom (s : State) : Bool :=
  s.bit .HST_MTR_STATUS_RUNNING && s.host.bme &&
    (s.get .HST_MTR_TAIL_TAIL + 1) % s.meterDepth != s.get .HST_MTR_HEAD_HEAD

/-- The base of the meter ring (R171). -/
def State.meterBase (s : State) : Nat := s.get64 .HST_MTR_BASE_LO_ADDR .HST_MTR_BASE_HI_ADDR

/-- Writes one record at TAIL, by one posted write of 256 octets, and TAIL advances (R172). -/
def State.writeMeter (s : State) (m : Meter) : State :=
  let tail := s.get .HST_MTR_TAIL_TAIL
  let s := s.emit (.meter (s.meterBase + 256 * tail) (m.bytes s.meters.written))
  let s := s.put .HST_MTR_TAIL_TAIL ((tail + 1) % s.meterDepth)
  { s with meters := { s.meters with written := s.meters.written + 1, batch := s.meters.batch + 1 } }

/-- The message of a batch that has ended (R172). -/
def State.endBatch (s : State) : State :=
  if s.meters.closing.isEmpty && s.meters.batch != 0 then
    { s with meters := { s.meters with batch := 0 } }.msix 3
  else s

/-- A SPLIT record is offered at once (R174): written where the ring takes it, else it waits and its instance admits no
job. -/
def State.offerSplit (s : State) (m : Meter) : State :=
  if s.meters.split.isEmpty && s.meterRoom then (s.writeMeter m).endBatch
  else
    { s with meters := { s.meters with split := s.meters.split ++ [m] } }.modInst m.inst (fun i => { i with splitHold := true })

/-- A SPLIT close (R174): a new record opens for the rest of the window. SHORT is that of the window as planned (log entry
72). -/
def State.splitMeter (s : State) (n : Nat) : State :=
  match s.meter n with
  | none => s
  | some m =>
    if m.full && n != deviceMeter then
      let m' := s.meterEnd m s.time.tick (setNbit (s.windowFlags s.time.window.stop) mfSplit true)
      ((s.dropMeter m).openMeter n s.time.tick m.owner 0).offerSplit m'
    else s

/-- Changes the open record of an instance, then tests R174; a count opens a record where none is open (R168). -/
def State.modMeter (s : State) (n : Nat) (f : Meter → Meter) : State :=
  let s := if (s.meter n).isNone then s.openMeter n s.time.tick (if n = deviceMeter then 0 else s.boundOwner n) 0 else s
  match s.meter n with
  | some m => (s.setMeter n (some (f m))).splitMeter n
  | none => s

/-- Changes class block `c` of a record. -/
def Meter.modClass (m : Meter) (c : Nat) (f : ClassMeter → ClassMeter) : Meter :=
  { m with classes := m.classes.set c (f (m.classes.getD c ClassMeter.empty)) }

/-- Charges engine time of a job to the device's speculation-waste meter (R87, R169). -/
def State.chargeWaste (s : State) (cls ns : Nat) : State :=
  let s := s.modMeter deviceMeter (fun m => m.modClass cls (fun c => { c with ops := c.ops + 1, busyNs := c.busyNs + ns }))
  { s with locket := { s.locket with wasteNs := s.locket.wasteNs + ns } }

/-- Adds a job's outcome to the meters at its release stamp (R87, R166). -/
def State.meterOutcome (s : State) (n cls : Nat) (st : Status) (started : Bool) (ns bytes : Nat) : State :=
  match st with
  | .done | .engineReject | .tagMismatch =>
    s.modMeter n (fun m => m.modClass cls (fun c =>
      { c with ops := c.ops + 1, busyNs := c.busyNs + ns, bytes := c.bytes + bytes }))
  | .deniedPolicy | .usageExhausted | .approvalExpired | .timeUnknown =>
    let s := s.modMeter n (fun m => m.modClass cls (fun c => { c with denied := c.denied + 1 }))
    if started then s.chargeWaste cls ns else s
  | .rateLimited => s.modMeter n (fun m => { m with rateLimited := m.rateLimited + 1 })
  | .badCommand | .noSuchObject | .tooLarge | .bufferFault | .rngStalled | .deviceHalted =>
    s.modMeter n (fun m => { m with other := m.other + 1 })
  | .squashed | .alarmAbort | .commitLost | .notActive => if started then s.chargeWaste cls ns else s

/-- The counts of a closed record, in whole microseconds, beside those of a later one. -/
def ClassMeter.join (a b : ClassMeter) : ClassMeter :=
  { ops := a.ops + b.ops, denied := a.denied + b.denied, busyNs := a.busyNs / 1000 * 1000 + b.busyNs, bytes := a.bytes + b.bytes }

/-- A record the ring could not take stays open, flagged CARRIED, and takes in the counts of the record opened since, its
flags and its window (R173); it may split there (R174). -/
def State.carryMeter (s : State) (m : Meter) : State :=
  let fl := setNbit m.flags mfCarried true
  let s := match s.meter m.inst with
    | none =>
      let (rest, s) := s.takeRest m.inst
      let put (e : Nat × ClassMeter) : ClassMeter := { e.2 with busyNs := e.2.busyNs / 1000 * 1000 + rest.getD e.1 0 }
      s.setMeter m.inst (some { m with flags := fl, classes := ((List.range 10).zip m.classes).map put })
    | some o =>
      let base := if o.start < m.start then o else m
      s.setMeter m.inst (some
        { base with flags := fl ||| o.flags, owner := o.owner, gen := o.gen, rateLimited := m.rateLimited + o.rateLimited,
                    other := m.other + o.other, waitTicks := m.waitTicks + o.waitTicks,
                    classes := (m.classes.zip o.classes).map (fun (p : ClassMeter × ClassMeter) => p.1.join p.2) })
  (s.splitMeter m.inst).count .HST_MTR_CARRIES_COUNT

/-- The window that opens at tick `t` (R167): to the next TAI minute boundary while an anchor is
held, else to the next multiple of 60,000 ticks from main reset; never longer than 60,000. -/
def State.nextWindow (s : State) (t : Nat) : MinuteWindow :=
  match s.time.anchor with
  | some a =>
    let m := s.minuteOf t
    let bound := ((m + 1) * 60 * 1000 + a.1) - a.2 * 1000
    { no := s.time.window.no + 1, start := t, minute := m, stop := min bound (t + 60000), anchored := true,
      holdover := s.time.state == .holdover }
  | none =>
    { no := s.time.window.no + 1, start := t, minute := 0, stop := (t / 60000 + 1) * 60000, anchored := false, holdover := false }

/-- The minute window closes at tick `t`: its meter and event records close, every bound instance and
the device get a record in the new window (R28, R167, R168). -/
def State.closeMinute (s : State) (t : Nat) : State :=
  let fl := s.windowFlags t
  let mark (m : Meter) : Meter := { m with flags := m.flags ||| fl }
  let open' := s.meters.openRecs.filterMap (·.2)
  let s := open'.foldl (fun s m => s.closeMeter m.inst t fl) s
  let closing := sortBy (fun m => (m.start, m.inst)) (s.meters.closing ++ s.meters.waiting.map mark)
  let s := { s with meters := { s.meters with closing := closing, waiting := [], split := s.meters.split.map mark } }
  let s := s.closeEvents (decide (t - s.time.window.start < 60000))
  let s := { s with time := { s.time with window := s.nextWindow t } }
  let s := open'.foldl (fun s m =>
    if m.inst = deviceMeter || (s.inst m.inst).st != .unbound then s.openMeter m.inst t m.owner 0 else s) s
  let s := s.putBit .TIM_EVENT_MINUTE true
  if s.bit .TIM_IRQ_MINUTE_EN then s.raiseIrq 18 else s

/-- The minute window closes where the new tick begins one (R28). -/
def State.dueMinute (s : State) : State :=
  if s.time.tick ≥ s.time.window.stop then s.closeMinute s.time.tick else s

end Sys2Proof.Machine
end

