-- ==== Sys2Proof/Machine/Settings.lean ====
section
/-! DEFINITION. The settings: what each holds, how the pool is filled, and the deliveries over the key bus (R15, R80 to
R82, R344 to R349). -/

namespace Sys2Proof.Machine

/-! ## Destinations (R345, R349) -/

/-- DEST bits, from bit 56 of the attribute word. -/
def destSym : Nat := 1
/-- BIG. -/
def destBig : Nat := 2
/-- LAT. -/
def destLat : Nat := 4
/-- KDF. -/
def destKdf : Nat := 8

/-- The bit of the users an engine class stands for. -/
def engineDest : Engine → Nat
  | .sym => destSym
  | .big => destBig
  | .lat => destLat
  | .kdf => destKdf
  | _ => 0

/-- DEST of an object's key by its TYPE (R349). -/
def typeDest (type : Nat) : Nat :=
  match type with
  | 0x01 => destBig
  | 0x02 => destBig
  | 0x03 => destBig
  | 0x04 => destBig
  | 0x05 => destLat
  | 0x06 => destLat
  | 0x0A => destKdf
  | 0x0B => 0
  | _ => destSym

/-- LABEL codes of the nodes kept in the pool (R345): owner root. -/
def labOwner : Nat := 4
/-- Seal class key by VARIANT 1, checkpoint seal key by VARIANT 2. -/
def labSeal : Nat := 6
/-- Export-wrap class key. -/
def labExport : Nat := 9

/-- Names of the model's for the pinned runs that are no nodes (R348): the identity key. -/
def idLabel : Nat := 0x100
/-- The attestation key. -/
def attestLabel : Nat := 0x101

/-- A polishing controller's test key (R533). -/
def testLabel (lattice : Bool) : Nat := if lattice then 0x103 else 0x102

/-- DEST of a node (R349). -/
def nodeDest (label owner : Nat) : Nat :=
  if label = labExport || (label = labSeal && owner = 0) then destKdf + destSym else destKdf

/-- Whether a mask permits the destination of an engine class (R15). -/
def permits (dest : Nat) (e : Engine) : Bool := dest / engineDest e % 2 == 1

/-! ## Runs (R345 to R347) -/

/-- Run length in settings of an object key (R346); a COUNTER fills none. -/
def runLength (type size : Nat) : Nat :=
  match type with
  | 0x01 => match size with
    | 2048 => 15 | 3072 => 22 | 4096 => 29 | 6144 => 43 | _ => 57
  | 0x02 => if size = 521 then 3 else 2
  | 0x03 => 2
  | 0x04 => 2
  | 0x05 => match size with
    | 512 => 28 | 768 => 40 | _ => 52
  | 0x06 => match size with
    | 44 => 42 | 65 => 65 | _ => 78
  | 0x08 => if size ≤ 512 then 2 else 3
  | 0x0B => 0
  | _ => 2

/-- The part of a stored encoding the engines take (R346): an RSA key's seven values, an EC scalar, a seed or private
key, else all of it. -/
def privatePart (type size : Nat) (enc : Bytes) : Bytes :=
  match type with
  | 0x01 => enc.drop (size / 8 + 8)
  | 0x02 => enc.take (keyEncLen 2 size)
  | 0x03 => enc.take (keyEncLen 3 size)
  | 0x04 => enc.take (keyEncLen 4 size)
  | _ => enc

/-- The key field of an object's head setting (R346). -/
def Obj.headField (o : Obj) : Bytes :=
  le 8 o.handle ++ le 1 o.type ++ zeros 1 ++ le 2 o.size ++ le 4 (privatePart o.type o.size o.enc).length ++ le 8 o.bead ++
    le 8 o.sealCount ++ zeros 32

/-- Settings of a run. -/
def Run.len (r : Run) : Nat := r.settings.length

/-- TYPE and SIZE as the head gives them. -/
def Run.kind (r : Run) : Nat × Nat := (fieldLE r.head 8 1, fieldLE r.head 10 2)

/-- The key field of setting `i` of a run: a node, or the head and then the private part by 64 octets. -/
def Run.field (r : Run) (i : Nat) : Bytes :=
  if r.len = 1 then padTo 64 r.key
  else if i = 0 then r.head
  else padTo 64 (slice (privatePart r.kind.1 r.kind.2 r.key) (64 * (i - 1)) 64)

/-- The code of a STATE (R345). -/
def SettingState.code : SettingState → Nat
  | .shared => 1 | .speculative => 2 | .pinned => 3

/-- The attribute word of setting `i` of a run (R345). -/
def Run.attr (r : Run) (i : Nat) : Nat :=
  let node := r.len == 1
  let role := if node then 0 else if i = 0 then 1 else 2
  let place := if node then 0 else if i = 0 then r.len - 1 else i
  let link := if node then 0 else r.settings.getD ((i + 1) % r.len) 0
  let spec := if r.state = .speculative then r.inst else 0
  r.state.code * 2 ^ 62 + role * 2 ^ 60 + r.dest * 2 ^ 56 + r.svn * 2 ^ 48 + r.owner * 2 ^ 36 +
    (if node then r.label else 0) * 2 ^ 32 + (if node then r.variant else 0) * 2 ^ 30 + spec * 2 ^ 20 + place * 2 ^ 13 + link

/-- The tag key (R336). -/
def State.tagKey (s : State) : Option Bytes := s.deviceRoot.map (fun r => kdfNode r lblRoot [1#8])

/-- The integrity tags of a run's settings (R347). -/
def State.runTags (s : State) (r : Run) : List Bytes :=
  (List.range r.len).map (fun i =>
    (Config.hmac 0x03 (s.tagKey.getD []) (le 2 (r.settings.getD i 0) ++ le 8 (r.attr i) ++ r.field i)).take 8)

/-! ## The general pool (R344, R348) -/

/-- Settings of the general pool (R344). -/
def poolSize : Nat := 8176

/-- Settings taken by the runs held. -/
def State.settingsUsed (s : State) : Nat := (s.ladder.runs.map (·.len)).sum

/-- The lowest `n` free numbers from `c` on (log entry 83). -/
def freeSettings (used : List Nat) : Nat → Nat → Nat → List Nat
  | 0, _, _ => []
  | fuel + 1, c, n =>
    if n = 0 then []
    else if used.contains c then freeSettings used fuel (c + 1) n
    else c :: freeSettings used fuel (c + 1) (n - 1)

/-- Evicts shared runs and nodes, least recently used first, until `need` settings are free or none is left
(R348); `fuel` bounds the number of evictions. -/
def evictRuns (need : Nat) : Nat → List Run → List Run
  | 0, runs => runs
  | fuel + 1, runs =>
    if poolSize - (runs.map (·.len)).sum ≥ need then runs
    else
      match (sortBy (fun r => (r.lastUse, 0)) (runs.filter (fun r => r.state == .shared))).head? with
      | none => runs
      | some v => evictRuns need fuel (runs.filter (fun r => !(r == v)))

/-- Fills a run of `n` settings in one cycle, or none of it when the pool cannot give them (R346, R348). -/
def State.fillRun (s : State) (r : Run) (n : Nat) : State × Bool :=
  let runs := evictRuns n s.ladder.runs.length s.ladder.runs
  if poolSize - (runs.map (·.len)).sum ≥ n then
    let used := (runs.map (·.settings)).flatten
    let r := { r with settings := freeSettings used (used.length + n) 16 n, lastUse := s.ladder.useClock }
    let r := { r with tags := s.runTags r }
    ({ s with ladder := { s.ladder with runs := r :: runs, useClock := s.ladder.useClock + 1 } }, true)
  else (s, false)

/-- Settings that are PINNED; at most 256 are (R348). -/
def State.pinnedUsed (s : State) : Nat := ((s.ladder.runs.filter (fun r => r.state == .pinned)).map (·.len)).sum

/-- The run a job of an instance fills with an object's key (R80, R82). -/
def Obj.specRun (o : Obj) (inst job : Nat) : Run :=
  { handle := o.handle, label := 0, variant := 0, owner := ownerOf o.handle, svn := o.svn, dest := typeDest o.type,
    state := .speculative, inst := inst, job := job, settings := [], lastUse := 0, head := o.headField, key := o.enc,
    tags := [] }

/-- The run of an object that a job of an instance may use: a shared one, or a speculative one of the
same instance (R80). -/
def State.findRun (s : State) (handle inst : Nat) : Option Run :=
  s.ladder.runs.find? (fun r => r.handle == handle && handle != 0 &&
    (r.state == .shared || r.state == .pinned || (r.state == .speculative && r.inst == inst)))

/-- The runs that satisfy `p` are used now. -/
def State.touchRuns (s : State) (p : Run → Bool) : State :=
  { s with ladder := { s.ladder with
      runs := s.ladder.runs.map (fun r => if p r then { r with lastUse := s.ladder.useClock } else r),
      useClock := s.ladder.useClock + 1 } }

/-- Erases the runs that satisfy `p`. -/
def State.eraseRuns (s : State) (p : Run → Bool) : State :=
  { s with ladder := { s.ladder with runs := s.ladder.runs.filter (fun r => !p r) } }

/-- A run becomes shared; its tags are written anew. -/
def State.shared (s : State) (r : Run) : Run :=
  let r := { r with state := .shared }
  { r with tags := s.runTags r }

/-- Speculative runs of a job become shared, or are erased when a shared run of the object exists
(R81). -/
def State.shareRuns (s : State) (job : Nat) : State :=
  let has (h : Nat) : Bool := s.ladder.runs.any (fun r => r.handle == h && r.state == .shared)
  let runs := s.ladder.runs.filterMap (fun r =>
    if r.state == .speculative && r.job == job then
      if has r.handle then none else some (s.shared r)
    else some r)
  { s with ladder := { s.ladder with runs := runs } }

/-- Erases the speculative runs a job filled (R74, R81). -/
def State.eraseSpeculative (s : State) (job : Nat) : State :=
  s.eraseRuns (fun r => r.state == .speculative && r.job == job)

/-! ## Roots and nodes (R344, R347, R348) -/

/-- The setting a root goes to (R344): its own, or among 5 to 15 the one that holds it, a free one, or the least recently
used. -/
def State.rootPlace (s : State) (label svn : Nat) : Nat :=
  if label = 0 then 0
  else if label = 2 then 2
  else if svn = s.svn then (if label = 1 then 1 else 3)
  else
    let at' (n : Nat) : Option RootSetting := mget (fun _ => none) s.ladder.roots n
    let l := (List.range 11).map (· + 5)
    match l.find? (fun n => (at' n).any (fun r => r.label == label && r.svn == svn)), l.find? (fun n => (at' n).isNone) with
    | some n, _ => n
    | none, some n => n
    | none, none => ((sortBy (fun n => (((at' n).map (·.lastUse)).getD 0, n)) l).head?).getD 5

/-- A root is used: it is in its setting from then on (R347, R348). -/
def State.useRoot (s : State) (label svn : Nat) (key : Option Bytes) : State :=
  match key with
  | none => s
  | some k =>
    let r : RootSetting := { label := label, svn := svn, key := k, lastUse := s.ladder.useClock }
    { s with ladder := { s.ladder with roots := mset (fun _ => none) s.ladder.roots (s.rootPlace label svn) (some r),
                                       useClock := s.ladder.useClock + 1 } }

/-- The roots at s, each where it can be derived (R341, R344). -/
def State.fillRoots (s : State) : State :=
  (((s.useRoot 0 0 s.deviceRoot).useRoot 1 s.svn (s.lineageRoot s.svn)).useRoot 2 0 s.measuredRoot).useRoot 3 s.svn (s.pairRoot s.svn)

/-- A node of the pool is used: held from then on, where its settings can be had (log entry 83). Those of owner 0 are
pinned (R348). -/
def State.useNode (s : State) (label variant owner svn : Nat) (key : Option Bytes) : State :=
  let same (r : Run) : Bool := r.handle == 0 && r.label == label && r.variant == variant && r.owner == owner && r.svn == svn
  match key with
  | none => s
  | some k =>
    if s.ladder.runs.any same then s.touchRuns same
    else if owner = 0 && s.pinnedUsed ≥ 256 then s
    else
      (s.fillRun { handle := 0, label := label, variant := variant, owner := owner, svn := svn, dest := nodeDest label owner,
                   state := if owner = 0 then .pinned else .shared, inst := 0, job := 0, settings := [], lastUse := 0,
                   head := [], key := k, tags := [] } 1).1

/-- The nodes above an owner's class keys (R336). -/
def State.useOwner (s : State) (owner svn : Nat) : State :=
  (s.useRoot 3 svn (s.pairRoot svn)).useNode labOwner 1 owner svn (s.ownerRoot owner svn)

/-- The nodes a per-object key is derived from. -/
def State.useSeal (s : State) (owner svn : Nat) : State :=
  (s.useOwner owner svn).useNode labSeal 1 owner svn (s.sealKey owner svn)

/-- The nodes the strand engine seals a checkpoint item with. -/
def State.useCheckpoint (s : State) (svn : Nat) : State :=
  (s.useOwner 0 svn).useNode labSeal 2 0 svn (s.checkpointKey svn)

/-- The nodes a transfer blob of an owner is wrapped with (R118). -/
def State.useExport (s : State) (owner : Nat) : State :=
  (s.useOwner owner 0).useNode labExport 1 owner 0 (s.exportKey owner)

end Sys2Proof.Machine
end

