-- ==== Sys2Proof/Machine/Strand.lean ====
section
/-! DEFINITION. The strand: records and beads as octets, joining the open bead, closing, withdrawing,
and the dictionary responses that wait for a bead (R42, R177 to R185, R504, R505). -/

namespace Sys2Proof.Machine

/-! ## Records (R180, R181) -/

/-- TYPE of a record (R181). -/
def RecBody.code : RecBody → Nat
  | .objectCreate _ => 0x0001
  | .objectDestroy _ => 0x0002
  | .policySet _ _ => 0x0003
  | .usageBlock _ _ _ => 0x0004
  | .counterAdvance _ _ _ => 0x0005
  | .odWrite _ _ _ _ _ _ => 0x0006
  | .checkpoint _ _ => 0x0007
  | .claspStart _ _ => 0x0008
  | .rollbackAccepted _ _ _ => 0x0009

/-- CLEAR records are carried in the clear part of a bead (R181). -/
def RecBody.clear : RecBody → Bool
  | .odWrite _ _ _ _ _ _ => true
  | .checkpoint _ _ => true
  | .claspStart _ _ => true
  | .rollbackAccepted _ _ _ => true
  | _ => false

/-- The payload of a record (R181). -/
def State.payload (s : State) : RecBody → Bytes
  | .objectCreate o =>
    le 8 o.handle ++ le 1 o.type ++ zeros 1 ++ le 2 o.size ++ le 4 (144 + o.enc.length) ++ s.sealObj o
  | .objectDestroy h => le 8 h
  | .policySet h p => le 8 h ++ p.bytes
  | .usageBlock h a b => le 8 h ++ le 8 a ++ le 8 b
  | .counterAdvance h st v => le 8 h ++ le 8 st ++ le 8 v
  | .odWrite i sub t v ses sig =>
    le 2 i ++ le 1 sub ++ le 1 t ++ le 4 v.length ++ le 4 ses ++ zeros 4 ++ padTo 32 sig ++ v
  | .checkpoint b m => le 8 b ++ padTo 64 m
  | .claspStart g h => le 4 g ++ zeros 4 ++ le 8 h
  | .rollbackAccepted b p sig => le 8 b ++ le 8 p ++ padTo 32 sig

/-- Octets of a payload before padding (R181, R216). -/
def RecBody.payloadLen : RecBody → Nat
  | .objectCreate o => 16 + 144 + o.enc.length
  | .objectDestroy _ => 8
  | .policySet _ _ => 72
  | .usageBlock _ _ _ => 24
  | .counterAdvance _ _ _ => 24
  | .odWrite _ _ _ v _ _ => 48 + v.length
  | .checkpoint _ _ => 72
  | .claspStart _ _ => 16
  | .rollbackAccepted _ _ _ => 48

/-- LENGTH of a record: header and payload, a multiple of 8 (R180). -/
def Rec.size (r : Rec) : Nat := 32 + roundUp 8 r.body.payloadLen

/-- SOURCE of a record (R180). -/
def RecSource.code : RecSource → Nat
  | .instanceQueue => 0 | .adminMailbox => 1 | .session _ => 2 | .secureFirmware => 3 | .strandEngine => 4

/-- The octets of a record at position `seq` (R180). -/
def State.recBytes (s : State) (r : Rec) (seq : Nat) : Bytes :=
  le 2 r.body.code ++ le 1 r.role ++ le 1 r.source.code ++ le 4 r.size ++ le 8 r.tick ++ le 2 r.inst ++
  le 2 r.owner ++ le 4 r.tag ++ le 4 seq ++ zeros 4 ++ pad8 (s.payload r.body)

/-- A record of the strand engine's own (R177). -/
def deviceRec (body : RecBody) : Rec :=
  { role := 4, source := .strandEngine, tick := 0, inst := 0xFFFF, owner := 0, tag := 0, body := body,
    job := none, reply := none }

/-! ## Beads (R182 to R184) -/

/-- Exported size of a bead (R183). -/
def Bead.size (b : Bead) : Nat := 144 + (b.recs.map Rec.size).sum

/-- The limit a bead closes at (R182). -/
def beadLimit : Nat := 4194304

/-- Position and record. -/
def Bead.numbered (b : Bead) : List (Nat × Rec) := (List.range b.recs.length).zip b.recs

/-- The 128-octet header (R183). -/
def Bead.header (b : Bead) (clear secret : Nat) : Bytes :=
  ascii [0x4B, 0x59, 0x42, 0x31] ++ le 1 1 ++ le 1 (b2n b.sizeClosed + 2 * b2n b.firstOfClasp) ++ le 1 b.svn ++
  zeros 1 ++ le 8 b.num ++ le 4 b.clasp ++ le 4 b.recs.length ++ le 8 b.closeTick ++ le 4 clear ++ le 4 secret ++
  le 8 b.domain ++ padTo 64 b.prevHash ++ le 4 b.clasp ++ le 8 b.num ++ zeros 4

/-- A bead as exported (R183, R184): header, clear records, encrypted records, tag. -/
def State.beadBytes (s : State) (b : Bead) : Bytes :=
  let enc (c : Bool) : Bytes :=
    ((b.numbered.filter (fun e => e.2.body.clear == c)).map (fun e => s.recBytes e.2 e.1)).flatten
  let clear := enc true
  let secret := enc false
  let aad := b.header clear.length secret.length ++ clear
  aad ++ Config.aeadSeal 1 16 (((s.sealKey 0 b.svn).getD []).take 32) (le 4 b.clasp ++ le 8 b.num) aad secret

/-- An empty bead numbered `n`. -/
def Bead.empty (n : Nat) : Bead :=
  { num := n, clasp := 0, svn := 0, sizeClosed := false, firstOfClasp := false, closeTick := 0, domain := 0,
    prevHash := [], recs := [] }

/-- Whether a valid clasp is held: one granted whose lease has not ended (R185). -/
def State.holdsClasp (s : State) : Bool := s.strand.clasp.isSome && s.time.tick < s.strand.leaseTick + s.strand.lease

/-- Whether the tick of the lapse has come and the lapse itself is still to be handled: no release stamp is taken in it
(R11, R262). -/
def State.leaseOver (s : State) : Bool := s.strand.clasp.isSome && !s.holdsClasp

/-- Records of beads closed and not yet sealed. -/
def State.closedRecs (s : State) : List Rec := (s.strand.closed.map (·.recs)).flatten

/-- Every record joined and not yet sealed, in order. -/
def State.unsealedRecs (s : State) : List Rec := s.closedRecs ++ s.strand.openBead.recs

/-- What the application of a record in SEQ order makes of it (R115, R151): a record whose object an
earlier record destroyed, of this bead or of one before (log entry 77), is dropped; an advance takes its value, or is
dropped past 2^64 − 1. -/
def State.fixRec (s : State) (before : List Rec) (r : Rec) : Rec :=
  let h := r.body.handle
  if h = 0 then r
  else
    match r.body, applyRecs h (s.committedObj h) before with
    | .objectCreate _, _ => r
    | .counterAdvance _ st _, some o =>
      if o.counter + st < 2 ^ 64 then { r with body := .counterAdvance h st (o.counter + st) }
      else { r with body := .counterAdvance h st o.counter, dropped := true }
    | _, some _ => r
    | _, none => { r with dropped := true }

/-- The records of a bead fixed at its close, in SEQ order. -/
def State.fixRecs (s : State) (before l : List Rec) : List Rec :=
  l.foldl (fun acc r => acc ++ [s.fixRec (before ++ acc) r]) []

/-- Whether records join: a clasp is held, no final bead has closed and the unit is not zeroised (R185, R207, R255). -/
def State.strandOpen (s : State) : Bool := s.holdsClasp && s.strand.finalBead.isNone && !s.zeroised

/-- A checkpoint begins at a close, its boundary the newest bead sealed (R197). -/
def State.beginCheckpoint (s : State) : State :=
  if (s.strand.ckptRequested || s.strand.ckptDue) && s.strand.ckptRunning.isNone && s.strandOpen &&
      s.restore.state == .complete then
    let c : Checkpoint :=
      { boundary := s.strand.head, closeTick := s.strand.headTick, segments := (sortBy (fun n => (n, 0)) s.strand.ckptChanged),
        chunk := 0, counts := [], manifestWritten := false, objs := [], settings := [] }
    { s with strand := { s.strand with
        ckptRequested := false, ckptDue := false, ckptRunning := some c, ckptChanged := [] } }
  else s

/-- The open bead closes and the next opens (R182), and a checkpoint that is due begins (R197); `sized` when the size
limit closed it. -/
def State.closeBead (s : State) (sized : Bool) : State :=
  match s.strand.clasp with
  | none => s
  | some g =>
    let b := { s.strand.openBead with
      clasp := g, svn := s.svn, sizeClosed := sized, closeTick := s.time.tick, domain := s.bb.domainId,
      recs := s.fixRecs s.closedRecs s.strand.openBead.recs }
    { s with strand := { s.strand with closed := s.strand.closed ++ [b], openBead := Bead.empty (b.num + 1) } }.beginCheckpoint

/-- An OBJECT_CREATE carries the number of the bead it joins (R215). -/
def RecBody.atBead (r : RecBody) (n : Nat) : RecBody :=
  match r with
  | .objectCreate o => .objectCreate { o with bead := n }
  | r => r

/-- A record joins the open bead, which closes first when the record would carry it past 4 MiB (R182).
Answers the number of the bead joined. -/
def State.joinRec (s : State) (r : Rec) : Nat × State :=
  let s := if s.strand.openBead.size + r.size > beadLimit then s.closeBead true else s
  let b := s.strand.openBead
  let r := { r with tick := s.time.tick, body := r.body.atBead b.num }
  (b.num, { s with strand := { s.strand with openBead := { b with recs := b.recs ++ [r] } } })

/-! ## The dictionary as records leave it (R505) -/

/-- Whether a record is an OD_WRITE of an entry. -/
def Rec.writes (r : Rec) (index sub : Nat) : Bool :=
  match r.body with
  | .odWrite i b _ _ _ _ => i == index && b == sub && !r.dropped
  | _ => false

/-- The value an OD_WRITE record carries. -/
def Rec.value (r : Rec) : Bytes :=
  match r.body with
  | .odWrite _ _ _ v _ _ => v
  | _ => []

/-- Whether a record unbinds an instance, which returns an entry to its default (R54, R165). -/
def Rec.unbinds (r : Rec) (index sub : Nat) : Bool :=
  match r.body with
  | .odWrite i 3 _ v _ _ =>
    0x2400 ≤ i && i < 0x2800 && leNat v == 0 && !r.dropped &&
      ((index == i && 4 ≤ sub && sub ≤ 10) || index == i + 0x1000)
  | _ => false

/-- The value of an entry with the unsealed records of one source, or of all sources, applied. -/
def State.odAfter (s : State) (p : Rec → Bool) (index sub : Nat) : Option Bytes :=
  match (s.unsealedRecs.filter (fun r => (r.writes index sub || r.unbinds index sub) && p r)).getLast? with
  | some r => if r.writes index sub then some r.value else none
  | none => s.odStored index sub

/-- The value of an entry with every unsealed write applied. -/
def State.odLatest (s : State) (index sub : Nat) : Option Bytes := s.odAfter (fun _ => true) index sub

/-- The number an entry holds with every unsealed write applied. -/
def State.odLatestNat (s : State) (index sub d : Nat) : Nat := ((s.odLatest index sub).map leNat).getD d

/-! ## Responses (R42, R504, R505) -/

/-- STATUS and DETAIL of a mailbox completion from a result (R504). -/
def OdResult.completion : OdResult → Nat × Nat
  | .ok => (Status.done.code, 0)
  | .notActive => (Status.notActive.code, 0)
  | .commitLost => (Status.commitLost.code, 0)
  | r => (Status.deniedPolicy.code, 0x0180 + r.code)

/-- Writes the mailbox completion of a response (R42, R108). -/
def State.adminComplete (s : State) (r : Reply) (res : OdResult) : State :=
  let depth := 2 ^ s.get .HST_AQ_CFG_DEPTH_LOG2
  let st := s.now
  let (status, detail) := match r.badDetail with
    | some d =>
      if d / 256 = 0x11 then (Status.tooLarge.code, d)
      else if d / 256 = 0x10 then (Status.bufferFault.code, d) else (Status.badCommand.code, d)
    | none => res.completion
  let out := if status = 0 then r.output else []
  let committed := r.bead != 0 && status == 0
  let durable := committed && r.bead ≤ s.strand.durable
  let c : Completion :=
    { tag := r.req.tag, status := status,
      flags := b2n s.admin.phase + 2 * b2n committed + 4 * b2n durable +
        (match st.state with | .anchored => 0 | .holdover => 8 | .unanchored => 16),
      detail := detail, outputLen := out.length, releaseTick := st.tick % 2 ^ 32, result := 0,
      bead := if committed then r.bead else 0 }
  let s := if out.isEmpty then s else s.emitAdminOutput r.req.outAddr out
  let s := s.emit (.adminCompletion (s.get64 .HST_AQ_CQ_BASE_LO_ADDR .HST_AQ_CQ_BASE_HI_ADDR + 32 * s.admin.cqWrite) c.bytes)
  let s := if r.req.noIrq then s else s.msix 0
  let w := (s.admin.cqWrite + 1) % depth
  { s with admin := { s.admin with cqWrite := w, phase := if w = 0 then !s.admin.phase else s.admin.phase } }

/-- Writes the completions at the head of the mailbox's queue whose release has come, in submission
order, while a completion slot is free (R42, R52); `fuel` bounds how many. -/
def flushAdmin : Nat → State → State
  | 0, s => s
  | fuel + 1, s =>
    match s.agent.replies.find? (fun r => r.req.src == .admin) with
    | none => s
    | some r =>
      match r.result with
      | none => s
      | some res =>
        let depth := 2 ^ s.get .HST_AQ_CFG_DEPTH_LOG2
        if !(s.bit .HST_AQ_STATUS_RUNNING) || (s.admin.cqWrite + 1) % depth == s.get .HST_AQ_CQ_HEAD_HEAD then s
        else
          let s := { s with agent := { s.agent with replies := s.agent.replies.filter (fun x => x.num != r.num) } }
          flushAdmin fuel (s.adminComplete r res)

/-- The Puesh message of a response (R496, R497); it returns the credit of its request (R498). -/
def Reply.message (r : Reply) : Bytes :=
  let res := le 1 (r.result.getD .ok).code
  let body := match r.kind with
    | 0x81 => res ++ (if r.output.isEmpty then zeros 7 else r.output)
    | 0x82 => res ++ zeros 3 ++ le 8 r.bead
    | _ => res ++ zeros 7
  r.again.getD (le 1 1 ++ le 1 r.kind ++ le 1 r.flags ++ le 1 r.grant ++ le 4 r.req.tag ++ le 4 body.length ++ zeros 4 ++ body)

/-- Hands over one response of a session or of secure firmware: a message placed in secure SRAM (R506), or
sent to the station and kept among the last 16 answered (R499). -/
def State.sendReply (s : State) (r : Reply) : State :=
  let m := r.message
  if r.req.outCap != 0 then
    (((s.deviceWrite r.req.outAddr m).put .MGP_OD_STATUS_RESULT (r.result.getD .ok).code).putBit .MGP_OD_STATUS_BUSY
      (s.agent.replies.any (fun x => x.req.src != .admin && x.req.outCap != 0))).putBit .MGP_OD_STATUS_DONE true
  else
    match r.req.src with
    | .session n =>
      let x := s.session n
      if x.st != 2 then s
      else
        let s := s.setSession n { x with credits := x.credits + r.grant, cache := if r.grant = 0 || r.again.isSome then x.cache else ((r.req.tag, m) :: x.cache).take 16 }
        { s with host := { s.host with out := s.host.out ++ [.puesh n m] } }
    | src =>
      { s with host := { s.host with out := s.host.out ++ [.odResponse src (r.result.getD .ok).code r.bead r.output] } }

/-- The responses of sessions and of secure firmware whose release has come: each source is answered in the
order of its accesses (R499). -/
def readyReplies : List Reply → List OdSource → List Reply
  | [], _ => []
  | r :: t, held =>
    if r.req.src == .admin then readyReplies t held
    else if held.contains r.req.src then readyReplies t held
    else if r.result.isSome then r :: readyReplies t held
    else readyReplies t (r.req.src :: held)

/-- Sends every response whose release has come: those of sessions and of secure firmware in each source's
order, those of the mailbox in submission order. -/
def State.flushReplies (s : State) : State :=
  let ready := readyReplies s.agent.replies []
  let keep := s.agent.replies.filter (fun r => !ready.any (fun x => x.num == r.num))
  let s := { s with agent := { s.agent with replies := keep } }
  let s := ready.foldl State.sendReply s
  flushAdmin s.agent.replies.length s

/-- Queues a response; `result` none when its release is still to come. Answers its number. -/
def State.addReply (s : State) (q : OdReq) (result : Option OdResult) (output : Bytes)
    (bad : Option Nat) : Nat × State :=
  let n := s.agent.nextReply
  let r : Reply := { num := n, req := q, result := result, bead := 0, output := output, badDetail := bad }
  (n, { s with agent := { s.agent with replies := s.agent.replies ++ [r], nextReply := n + 1 } })

/-- Settles the response `n` with a result and a bead number. -/
def State.answer (s : State) (n : Nat) (res : OdResult) (bead : Nat) : State :=
  let f (r : Reply) : Reply := if r.num == n then { r with result := some res, bead := bead } else r
  { s with agent := { s.agent with replies := s.agent.replies.map f } }

/-- The responses whose record's bead is known: set at the seal, released there or at durable
acknowledgement (R42). -/
def State.sealReplies (s : State) (b : Bead) : State :=
  b.recs.foldl (fun s r =>
    match r.reply with
    | none => s
    | some n =>
      let settleReply (x : Reply) : Reply :=
        if x.num == n then { x with bead := b.num, result := if x.req.durable then none else some .ok } else x
      { s with agent := { s.agent with replies := s.agent.replies.map settleReply } }) s

/-- Durable acknowledgement releases the responses of durable writes (R42). -/
def State.durableReplies (s : State) : State :=
  let f (x : Reply) : Reply :=
    if x.result.isNone && x.bead != 0 && x.bead ≤ s.strand.durable then { x with result := some .ok } else x
  { s with agent := { s.agent with replies := s.agent.replies.map f } }

/-! ## Withdrawal (R58, R88, R185, R223, R505) -/

/-- Frees what an unsealed creation holds in the directory (R223). -/
def State.freePending (s : State) (handle : Nat) : State := s.dirRemove handle

/-- The ENABLEs that wait for an instance end with the wrong-state error (R55, R57). -/
def State.refuseEnables (s : State) (n : Nat) : State :=
  ((s.inst n).enableReplies.foldl (fun s r => s.answer r .wrongState 0) s).modInst n (fun i => { i with enableReplies := [] })

/-- An instance follows its binding after an OWNER record is withdrawn, and its meter record with it (R168, R505). -/
def State.rebind (s : State) (n : Nat) : State :=
  let o := s.odLatestNat (0x2400 + n) 3 0
  let i := s.inst n
  if i.st == .bound && o == 0 then ((s.refuseEnables n).setInstState n .unbound).unbindMeter n
  else if i.st == .unbound && o != 0 then (s.setInstState n .bound).bindMeter n o
  else s

/-- What the withdrawal of one record undoes: a PENDING entry, a usage block under way, a dictionary
write, whose response is COMMIT_LOST. -/
def State.undoRec (s : State) (r : Rec) : State :=
  let s := match r.body with
    | .objectCreate o => s.freePending o.handle
    | .usageBlock h _ _ =>
      let clear (u : Usage) : Usage := { u with pendingEnd := none, blockBead := none }
      { s with usage := mmod (fun _ => none) s.usage h (fun u => u.map clear) }
    | .odWrite i 3 _ _ _ _ => if 0x2400 ≤ i && i < 0x2800 then s.rebind (i - 0x2400) else s
    | _ => s
  match r.reply with
  | some n => s.answer n .commitLost 0
  | none => s

/-- Withdraws the records of the open bead that satisfy `p`. -/
def State.withdrawOpen (s : State) (p : Rec → Bool) : State :=
  let gone := s.strand.openBead.recs.filter p
  let b := { s.strand.openBead with recs := s.strand.openBead.recs.filter (fun r => !p r) }
  gone.foldl State.undoRec { s with strand := { s.strand with openBead := b } }

/-- Withdraws every record not sealed: those of the open bead and of beads closed and never to be
sealed (R185, R207). -/
def State.withdrawAll (s : State) : State :=
  let gone := s.closedRecs
  let s := { s with strand := { s.strand with closed := [] } }
  (gone.foldl State.undoRec s).withdrawOpen (fun _ => true)

/-! ## Restore and the clasp -/

/-- Octets staged (R192, R208). -/
def State.stagingBytes (s : State) : Nat := (s.strand.staged.map (fun e => e.2.length)).sum

/-- Whether mutating admissions are held for staging (R192). -/
def State.stagingFull (s : State) : Bool := s.stagingBytes > 2 ^ 30 - 2 ^ 23

/-- Octets in the checkpoint shadow (R198, R213). -/
def State.shadowBytes (s : State) : Nat :=
  match s.strand.ckptRunning with
  | none => 0
  | some c => (c.objs.map (fun e => match e.2 with
      | some o => occupied o.type o.size
      | none => 64)).sum + (c.settings.map (fun e => 8 + (e.2.getD []).length)).sum

/-- Whether the shadow is full (R198). -/
def State.shadowFull (s : State) : Bool := s.shadowBytes ≥ 2 ^ 30

/-- Sends a journal notice on vector 2; the beads exported since are counted anew (R43, R188). -/
def State.journalNotice (s : State) : State := { s with strand := { s.strand with sinceNotice := 0 } }.msix 2

/-- NEXT_SERIAL of an owner: what its sealed creations leave, raised by the gap of every grant (R92, R104, R202). -/
def State.committedSerial (s : State) (owner : Nat) : Nat := min ((s.owner owner).nextSerial + s.strand.serialGap) serialEnd

/-- The settings entry of an owner's NEXT_SERIAL. -/
def serialKey (owner : Nat) : Nat := odKey (0x4000 + owner) 0x14

/-- The serial an owner's next creation takes (R91, R92, R202). -/
def State.nextSerial (s : State) (owner : Nat) : Nat :=
  min ((s.owner owner).serial + s.strand.serialGap) serialEnd

/-- The hash and clasp generation recorded for a bead. -/
def State.beadLog (s : State) (n : Nat) : Bytes × Nat := mget (fun _ => ([], 0)) s.strand.log n

/-- DEVICE_STATE follows the unit's own conditions (R40, R203, R252): the strongest that holds. -/
def State.refreshDeviceState (s : State) : State :=
  if s.deviceState = dsBooting || s.deviceState = dsRecovery || s.deviceState = dsInert then s
  else if s.zeroised && !s.alarm.zeroising then s.setDeviceState dsZeroised
  else if s.halted then s.setDeviceState dsHalted
  else if s.strand.role == .notActive then s.setDeviceState dsNotActive
  else if s.restore.state == .lazy || s.restore.state == .complete then s.setDeviceState dsServing
  else s.setDeviceState dsHalted

end Sys2Proof.Machine
end

