-- ==== Sys2Proof/Machine/Entry.lean ====
section
/-! DEFINITION. Submission entries: their fields (R106), operation classes (R96), confirmations needed
(R66), and the checks of R112 that an entry, its object and its parameter block undergo. -/

namespace Sys2Proof.Machine

/-! ## Fields of an entry (R106) -/

/-- OPCODE. -/
def Job.op (j : Job) : Nat := fieldLE j.entry 0 2
/-- FLAGS. -/
def Job.flags (j : Job) : Nat := fieldLE j.entry 2 1
/-- BARRIER (R79). -/
def Job.barrier (j : Job) : Bool := nbit j.flags 0
/-- DURABLE (R66, R69). -/
def Job.durable (j : Job) : Bool := nbit j.flags 1
/-- NO_INTERRUPT (R16). -/
def Job.noIrq (j : Job) : Bool := nbit j.flags 2
/-- TAG. -/
def Job.tag (j : Job) : Nat := fieldLE j.entry 4 4
/-- PRIMARY as submitted. -/
def Job.primaryField (j : Job) : Nat := fieldLE j.entry 8 8
/-- SECONDARY. -/
def Job.secondary (j : Job) : Nat := fieldLE j.entry 16 8
/-- INPUT_ADDR. -/
def Job.inputAddr (j : Job) : Nat := fieldLE j.entry 24 8
/-- INPUT_LEN. -/
def Job.inputLen (j : Job) : Nat := fieldLE j.entry 32 4
/-- OUTPUT_CAP. -/
def Job.outputCap (j : Job) : Nat := fieldLE j.entry 36 4
/-- OUTPUT_ADDR. -/
def Job.outputAddr (j : Job) : Nat := fieldLE j.entry 40 8
/-- PB_ADDR. -/
def Job.pbAddr (j : Job) : Nat := fieldLE j.entry 48 8
/-- A field of `n` octets at entry byte `off`. -/
def Job.inl (j : Job) (off n : Nat) : Nat := fieldLE j.entry off n
/-- POLICY in entry bytes 64 to 127 (R114). -/
def Job.policy (j : Job) : Policy := Policy.ofBytes (slice j.entry 64 64)

/-! Opcodes (R109). -/

/-- KEY_GENERATE. -/
def opKeyGenerate : Nat := 0x0101
/-- KEY_IMPORT. -/
def opKeyImport : Nat := 0x0102
/-- KEY_DERIVE. -/
def opKeyDerive : Nat := 0x0103
/-- KEY_DESTROY. -/
def opKeyDestroy : Nat := 0x0104
/-- KEY_SET_POLICY. -/
def opKeySetPolicy : Nat := 0x0105
/-- KEY_EXPORT_WRAPPED. -/
def opKeyExport : Nat := 0x0106
/-- KEY_DESCRIBE. -/
def opKeyDescribe : Nat := 0x0107
/-- SIGN. -/
def opSign : Nat := 0x0201
/-- VERIFY. -/
def opVerify : Nat := 0x0202
/-- ASYM_DECRYPT. -/
def opAsymDecrypt : Nat := 0x0203
/-- ASYM_ENCRYPT. -/
def opAsymEncrypt : Nat := 0x0204
/-- AGREE. -/
def opAgree : Nat := 0x0205
/-- ENCAPS. -/
def opEncaps : Nat := 0x0206
/-- DECAPS. -/
def opDecaps : Nat := 0x0207
/-- AEAD_SEAL. -/
def opAeadSeal : Nat := 0x0301
/-- AEAD_OPEN. -/
def opAeadOpen : Nat := 0x0302
/-- CIPHER. -/
def opCipher : Nat := 0x0303
/-- MAC. -/
def opMac : Nat := 0x0304
/-- WRAP. -/
def opWrap : Nat := 0x0305
/-- UNWRAP. -/
def opUnwrap : Nat := 0x0306
/-- RANDOM. -/
def opRandom : Nat := 0x0401
/-- HASH. -/
def opHash : Nat := 0x0402
/-- OWNER_APPROVE. -/
def opOwnerApprove : Nat := 0x0501
/-- COUNTER_READ. -/
def opCounterRead : Nat := 0x0502
/-- ATTEST_QUOTE. -/
def opAttest : Nat := 0x0601

/-- The opcodes of an instance queue (R109). -/
def instanceOpcodes : List Nat :=
  [0x0101, 0x0102, 0x0103, 0x0104, 0x0105, 0x0106, 0x0107, 0x0201, 0x0202, 0x0203, 0x0204, 0x0205, 0x0206,
   0x0207, 0x0301, 0x0302, 0x0303, 0x0304, 0x0305, 0x0306, 0x0401, 0x0402, 0x0501, 0x0502, 0x0601]

/-- The operation class of an opcode (R96). -/
def opClass (op : Nat) : Nat :=
  if op = opSign then 0
  else if op = opVerify then 1
  else if op = opAsymDecrypt || op = opAgree || op = opDecaps then 2
  else if op = opAsymEncrypt || op = opEncaps then 3
  else if op = opAeadSeal || op = opAeadOpen || op = opCipher then 4
  else if op = opMac then 5
  else if op = opWrap || op = opUnwrap || op = opKeyExport then 6
  else if op = opKeyGenerate || op = opKeyImport || op = opKeyDerive then 7
  else if op = opKeyDestroy || op = opKeySetPolicy || op = opKeyDescribe || op = opCounterRead then 8
  else 9

/-- The class of a job. -/
def Job.cls (j : Job) : Nat := opClass j.op

/-- An UNWRAP that creates an object (R145). -/
def Job.unwrapCreates (j : Job) : Bool := j.op == opUnwrap && j.inl 57 1 == 1

/-- A job that creates an object. -/
def Job.creates (j : Job) : Bool :=
  j.op == opKeyGenerate || j.op == opKeyImport || j.op == opKeyDerive || j.unwrapCreates

/-- A COUNTER_READ that advances the counter (R151). -/
def Job.advances (j : Job) : Bool := j.op == opCounterRead && nbit (j.inl 56 1) 0

/-- A mutating command (R109). -/
def Job.mutating (j : Job) : Bool :=
  j.creates || j.op == opKeyDestroy || j.op == opKeySetPolicy || j.advances

/-- Whether the durable flag is set on a command that R66 has await DURABLE. -/
def Job.awaitsDurable (j : Job) : Bool := j.durable && j.op != opOwnerApprove && j.op != opAttest

/-- Whether the job is of the creating commands a reference handle may name (R76). -/
def Job.referable (j : Job) : Bool :=
  j.op == opKeyGenerate || j.op == opKeyImport || j.op == opKeyDerive || j.op == opUnwrap

/-- TYPE of the object a job creates (R114, R144). -/
def Job.newType (j : Job) : Nat := if j.op == opUnwrap then j.inl 58 1 else j.inl 56 1

/-- SIZE of the object a job creates. -/
def Job.newSize (j : Job) : Nat := if j.op == opUnwrap then j.inl 60 2 else j.inl 58 2

/-- KEY_LEN of VERIFY, ASYM_ENCRYPT and ENCAPS (R128, R133). -/
def Job.keyLen (j : Job) : Nat := j.inl 66 2

/-- Whether the command takes its public key by handle or in the input (R128). -/
def Job.publicKeyOp (j : Job) : Bool := j.op == opVerify || j.op == opAsymEncrypt || j.op == opEncaps

/-- The OP_MASK bit of the operation (R98), if its policy has one. -/
def Job.maskBit (j : Job) : Option Nat :=
  if j.op = opSign then some 0
  else if j.op = opVerify then some 1
  else if j.op = opAsymDecrypt then some 2
  else if j.op = opAsymEncrypt then some 3
  else if j.op = opAgree then some 4
  else if j.op = opEncaps then some 5
  else if j.op = opDecaps then some 6
  else if j.op = opAeadSeal then some 7
  else if j.op = opAeadOpen then some 8
  else if j.op = opCipher then (if j.inl 57 1 = 0 then some 9 else some 10)
  else if j.op = opMac then (if j.inl 58 1 = 0 then some 11 else some 12)
  else if j.op = opWrap then some 13
  else if j.op = opUnwrap then some 14
  else if j.op = opKeyDerive then some 15
  else if j.op = opKeyExport then some 16
  else if j.op = opKeySetPolicy then some 17
  else if j.op = opKeyDestroy then some 18
  else if j.op = opKeyDescribe then some 19
  else none

/-! ## Hashes (R124) -/

/-- Digest length by code; 0 where the command gives it. -/
def digestLen (hash : Nat) : Nat :=
  match hash with
  | 0x01 => 32 | 0x02 => 48 | 0x03 => 64 | 0x11 => 32 | 0x12 => 48 | 0x13 => 64 | _ => 0

/-- SHA-2, computed on a lane. -/
def isSha2 (hash : Nat) : Bool := hash == 1 || hash == 2 || hash == 3

/-- SHA-3 with fixed digests. -/
def isSha3 (hash : Nat) : Bool := hash == 0x11 || hash == 0x12 || hash == 0x13

/-- SHAKE128 and SHAKE256. -/
def isShake (hash : Nat) : Bool := hash == 0x21 || hash == 0x22

/-- 16 MiB. -/
def mib16 : Nat := 16777216

/-! ## Step 1 of R112 -/

/-- INLINE bytes an opcode uses, as (offset, length); the others are reserved (R114, R123), and so are the bytes of a WRAP
that R144 lists as 0 (log entry 79). -/
def usedInline (op : Nat) : List (Nat × Nat) :=
  if op = opKeyGenerate || op = opKeyDerive then [(56, 1), (58, 2), (64, 64)]
  else if op = opKeyImport then [(56, 1), (58, 2), (60, 1), (64, 64)]
  else if op = opKeySetPolicy then [(64, 64)]
  else if op = opKeyExport then [(56, 1)]
  else if op = opSign then [(56, 3), (60, 4)]
  else if op = opVerify then [(56, 3), (60, 4), (64, 5), (70, 2)]
  else if op = opAsymDecrypt then [(56, 2), (62, 2)]
  else if op = opAsymEncrypt then [(56, 2), (62, 2), (66, 3), (70, 2)]
  else if op = opEncaps then [(66, 3), (70, 2)]
  else if op = opAeadSeal || op = opAeadOpen then [(56, 21)]
  else if op = opCipher then [(56, 2), (64, 16)]
  else if op = opMac then [(56, 4), (64, 12)]
  else if op = opWrap then [(56, 1)]
  else if op = opUnwrap then [(56, 3), (60, 2), (64, 64)]
  else if op = opRandom then [(56, 1)]
  else if op = opHash then [(56, 1), (60, 4)]
  else if op = opCounterRead then [(56, 1), (64, 8)]
  else if op = opAttest then [(56, 1), (64, 64)]
  else []

/-- Whether every INLINE byte the opcode leaves reserved is zero, reserved bits of a byte in use
included. -/
def Job.reservedOk (j : Job) : Bool :=
  let used := usedInline j.op
  (List.range 72).all (fun i =>
    used.any (fun u => u.1 ≤ 56 + i && 56 + i < u.1 + u.2) || j.inl (56 + i) 1 == 0) &&
  (if j.op = opSign || j.op = opVerify then j.inl 58 1 < 4 else true) &&
  (if j.op = opRandom || j.op = opCounterRead then j.inl 56 1 < 2 else true)

/-- Whether the entry carries a policy record (R114, R144). -/
def Job.carriesPolicy (j : Job) : Bool :=
  j.op == opKeyGenerate || j.op == opKeyImport || j.op == opKeyDerive || j.op == opKeySetPolicy || j.unwrapCreates

/-- Whether the command defines a parameter block (R107, R127). -/
def Job.takesBlock (j : Job) : Bool :=
  j.op == opSign || j.op == opVerify || j.op == opAsymDecrypt || j.op == opAsymEncrypt

/-- Addresses that must be 0 are 0 (R106, R107). -/
def Job.addressesOk (j : Job) : Bool :=
  (j.inputLen != 0 || j.inputAddr == 0) && (j.outputCap != 0 || j.outputAddr == 0) &&
    (j.takesBlock || j.pbAddr == 0)

/-- What a command takes in a handle field. -/
inductive HandleRule where
  | zero | some | any
  deriving DecidableEq, Repr

/-- PRIMARY by command (R114, R128, R149, R152). -/
def Job.primaryRule (j : Job) : HandleRule :=
  if j.op = opKeyGenerate || j.op = opKeyImport || j.op = opRandom || j.op = opHash then .zero
  else if j.op = opOwnerApprove || j.op = opAttest then .any
  else if j.publicKeyOp then (if j.keyLen = 0 then .some else .zero)
  else .some

/-- SECONDARY by command (R114, R116, R118). -/
def Job.secondaryRule (j : Job) : HandleRule :=
  if j.op = opKeyImport then
    (if j.inl 60 1 = 1 || j.inl 60 1 = 3 then .some else if j.inl 60 1 = 2 then .zero else .any)
  else if j.op = opKeyExport then (if j.inl 56 1 = 1 then .some else .zero)
  else .zero

/-- Whether a handle field follows its rule. -/
def HandleRule.ok (r : HandleRule) (h : Nat) : Bool :=
  match r with
  | .zero => h == 0
  | .some => h != 0
  | .any => true

/-- The first check of step 1 that fails, as its detail (R112). Reference handles are accepted in the
primary handle only (R76). -/
def Job.formatFault (j : Job) : Option Nat :=
  if j.flags ≥ 8 || j.inl 3 1 != 0 then some 0x0701
  else if !(instanceOpcodes.contains j.op) then some 0x0702
  else if !j.reservedOk || (j.carriesPolicy && j.policy.reserved != 0) || !j.addressesOk then some 0x0701
  else if !(j.primaryRule.ok j.primaryField) || !(j.secondaryRule.ok j.secondary) || isReference j.secondary then
    some 0x0703
  else none

/-! ## Step 6 of R112 -/

/-- Whether an object type can serve a command at all (R123). -/
def Job.typeServes (j : Job) (o : Obj) : Bool :=
  let t := o.type
  if j.op = opKeyDerive then t == 0x0A
  else if j.op = opKeyExport then t != 0x0B
  else if j.op = opSign || j.op = opVerify then t == 0x01 || t == 0x02 || t == 0x03 || t == 0x06
  else if j.op = opAsymDecrypt || j.op = opAsymEncrypt then t == 0x01
  else if j.op = opAgree then t == 0x02 || t == 0x04
  else if j.op = opEncaps || j.op = opDecaps then t == 0x05
  else if j.op = opAeadSeal || j.op = opAeadOpen then t == 0x07 || t == 0x09
  else if j.op = opCipher || j.op = opWrap || j.op = opUnwrap then t == 0x07
  else if j.op = opMac then t == 0x07 || t == 0x08
  else if j.op = opCounterRead then t == 0x0B || o.policy.limited
  else true

/-- Whether the type of SECONDARY is the one its command takes (R116, R118). -/
def Job.secondaryServes (j : Job) (o : Obj) : Bool :=
  if j.op = opKeyImport then (if j.inl 60 1 = 1 then o.type == 0x07 else o.type == 0x05)
  else if j.op = opKeyExport then o.type == 0x07
  else true

/-- SCHEME, HASH, MODE, SALT_LEN and CTX_LEN against type and size (R130, R131). -/
def schemeOk (scheme hash mode salt ctx type size : Nat) : Bool :=
  let pre := nbit mode 0
  let det := nbit mode 1
  match scheme with
  | 0x01 => type == 1 && isSha2 hash && !det && salt == 0 && ctx == 0
  | 0x02 => type == 1 && isSha2 hash && !det && salt ≤ digestLen hash && ctx == 0
  | 0x10 => type == 2 && (isSha2 hash || isSha3 hash) && salt == 0 && ctx == 0
  | 0x20 => type == 3 && hash == 0 && !pre && !det && salt == 0 && (if size = 448 then ctx ≤ 255 else ctx == 0)
  | 0x21 => type == 3 && size == 25519 && hash == 0 && !pre && !det && salt == 0 && 1 ≤ ctx && ctx ≤ 255
  | 0x22 => type == 3 && hash == 0 && !det && salt == 0 && ctx ≤ 255
  | 0x30 => type == 6 && hash == 0 && !pre && salt == 0 && ctx ≤ 255
  | 0x31 => type == 6 && (isSha2 hash || isSha3 hash || isShake hash) && salt == 0 && ctx ≤ 255
  | _ => false

/-- Signature length of a key (R131). -/
def sigLen (type size : Nat) : Nat :=
  match type with
  | 0x01 => size / 8
  | 0x02 => if size = 256 then 64 else if size = 384 then 96 else 132
  | 0x03 => if size = 25519 then 64 else 114
  | 0x06 => if size = 44 then 2420 else if size = 65 then 3309 else 4627
  | _ => 0

/-- The length of a digest given with PREHASHED (R131, R132). -/
def prehashLen (scheme hash : Nat) : Nat :=
  if scheme = 0x22 then 64
  else if hash = 0x21 then 32
  else if hash = 0x22 then 64
  else digestLen hash

/-- The type and size of the key a job works with: the object's, or those of the key in the input. -/
def Job.keyKind (j : Job) (o : Option Obj) : Nat × Nat :=
  match o with
  | some x => (x.type, x.size)
  | none => (j.inl 68 1, j.inl 70 2)

/-- KEY_TYPE and KEY_SIZE (R128, R133, R135, R137). -/
def Job.keyFieldsOk (j : Job) : Bool :=
  if j.keyLen = 0 then j.inl 68 1 == 0 && j.inl 70 2 == 0
  else
    typeSizeOk (j.inl 68 1) (j.inl 70 2) &&
      (if j.op = opAsymEncrypt then j.inl 68 1 == 1 else if j.op = opEncaps then j.inl 68 1 == 5 else true)

/-- Inline parameters of a command against its object (R114 to R152): true when in range. -/
def Job.paramsOk (j : Job) (o : Option Obj) : Bool :=
  let (t, z) := j.keyKind o
  if j.op = opKeyGenerate then typeSizeOk j.newType j.newSize && j.policy.valid j.newType
  else if j.op = opKeyImport then
    1 ≤ j.inl 60 1 && j.inl 60 1 ≤ 3 && typeSizeOk j.newType j.newSize &&
      ((j.inl 60 1 == 2 && (slice j.entry 64 64).all (· == 0#8)) || j.policy.valid j.newType)
  else if j.op = opKeyDerive then
    7 ≤ j.newType && j.newType ≤ 0x0A && typeSizeOk j.newType j.newSize && j.policy.valid j.newType
  else if j.op = opKeySetPolicy then j.policy.valid t
  else if j.op = opKeyExport then j.inl 56 1 == 1 || j.inl 56 1 == 2
  else if j.op = opSign then schemeOk (j.inl 56 1) (j.inl 57 1) (j.inl 58 1) (j.inl 60 2) (j.inl 62 2) t z
  else if j.op = opVerify then
    j.keyFieldsOk && schemeOk (j.inl 56 1) (j.inl 57 1) (j.inl 58 1) (j.inl 60 2) (j.inl 62 2) t z
  else if j.op = opAsymDecrypt then j.inl 56 1 == 3 && isSha2 (j.inl 57 1) && j.inl 62 2 ≤ 1024
  else if j.op = opAsymEncrypt then
    j.keyFieldsOk && j.inl 56 1 == 3 && isSha2 (j.inl 57 1) && j.inl 62 2 ≤ 1024
  else if j.op = opEncaps then j.keyFieldsOk
  else if j.op = opAeadSeal || j.op = opAeadOpen then
    let tag := j.inl 57 1
    let non := j.inl 58 1
    let gen := j.inl 59 1
    (match j.inl 56 1 with
     | 1 => t == 7 && 12 ≤ tag && tag ≤ 16 && non == 12
     | 2 => t == 7 && [4, 6, 8, 10, 12, 14, 16].contains tag && 7 ≤ non && non ≤ 13
     | 3 => t == 9 && tag == 16 && non == 12
     | _ => false) &&
    (gen == 0 || (gen == 1 && j.op == opAeadSeal && j.inl 56 1 != 2)) && j.inl 60 4 ≤ 65536 &&
    (slice j.entry (64 + if gen = 0 then non else 0) (13 - if gen = 0 then non else 0)).all (· == 0#8)
  else if j.op = opCipher then
    1 ≤ j.inl 56 1 && j.inl 56 1 ≤ 3 && j.inl 57 1 ≤ 1 && (j.inl 56 1 != 3 || z == 256)
  else if j.op = opMac then
    let tag := j.inl 59 1
    j.inl 58 1 ≤ 1 &&
    (match j.inl 56 1 with
     | 1 => t == 7 && j.inl 57 1 == 0 && 8 ≤ tag && tag ≤ 16 && (slice j.entry 64 12).all (· == 0#8)
     | 2 => t == 7 && j.inl 57 1 == 0 && 12 ≤ tag && tag ≤ 16
     | 3 => t == 8 && isSha2 (j.inl 57 1) && 16 ≤ tag && tag ≤ digestLen (j.inl 57 1) &&
       (slice j.entry 64 12).all (· == 0#8)
     | _ => false)
  else if j.op = opWrap then j.inl 56 1 == 1 || j.inl 56 1 == 2
  else if j.op = opUnwrap then
    (j.inl 56 1 == 1 || j.inl 56 1 == 2) &&
    (if j.inl 57 1 = 0 then
      j.inl 58 1 == 0 && j.inl 60 2 == 0 && (slice j.entry 64 64).all (· == 0#8)
    else j.inl 57 1 == 1 && 7 ≤ j.newType && j.newType ≤ 0x0A && typeSizeOk j.newType j.newSize &&
      j.policy.valid j.newType)
  else if j.op = opHash then
    let h := j.inl 56 1
    (isSha2 h || isSha3 h || isShake h) &&
    (if isShake h then 1 ≤ j.inl 60 4 && j.inl 60 4 ≤ 65536 else j.inl 60 4 == 0)
  else if j.op = opRandom then j.outputCap != 0
  else if j.op = opCounterRead then
    if j.advances then t == 0x0B && 1 ≤ j.inl 64 8 && j.inl 64 8 ≤ 0xFFFFFFFF else j.inl 64 8 == 0
  else if j.op = opAttest then
    j.inl 56 1 ≤ 64 && (slice j.entry (64 + j.inl 56 1) (64 - j.inl 56 1)).all (· == 0#8)
  else true

/-! ## Step 7 of R112 (R125) -/

/-- INPUT_LEN limits of a command: least, most, and whether the length is one it permits; the largest
output; and whether length fields are right. -/
structure Limits where
  least : Nat
  most : Nat
  lenOk : Bool
  outMax : Nat
  deriving DecidableEq, Repr

/-- Message limits of R132. -/
def messageRange (scheme hash mode : Nat) : Nat × Nat :=
  if nbit mode 0 then (prehashLen scheme hash, prehashLen scheme hash)
  else if scheme = 0x20 || scheme = 0x21 then (0, 16384)
  else (0, mib16)

/-- Limits by command (R114, R130 to R152, R306). -/
def Job.limits (j : Job) (o : Option Obj) : Limits :=
  let (t, z) := j.keyKind o
  let n := j.inputLen
  let none : Limits := { least := 0, most := 0, lenOk := true, outMax := 0 }
  if j.op = opKeyGenerate then { none with outMax := publicLen j.newType j.newSize }
  else if j.op = opKeyImport then { none with least := 16, most := 8192, outMax := publicLen j.newType j.newSize }
  else if j.op = opKeyDerive then { none with least := 8, most := 1024 }
  else if j.op = opKeyExport then
    { none with outMax := if j.inl 56 1 = 1 then roundUp 8 (keyEncLen t z) + 8 else 120 + keyEncLen t z }
  else if j.op = opKeyDescribe then { none with outMax := 128 + publicLen t z }
  else if j.op = opSign then
    let (a, b) := messageRange (j.inl 56 1) (j.inl 57 1) (j.inl 58 1)
    { none with least := a, most := b, outMax := sigLen t z }
  else if j.op = opVerify then
    let (a, b) := messageRange (j.inl 56 1) (j.inl 57 1) (j.inl 58 1)
    let pre := j.keyLen + j.inl 64 2
    { none with
      least := pre + a, most := pre + b
      lenOk := j.inl 64 2 == sigLen t z && (j.keyLen == 0 || j.keyLen == publicEncLen t z) }
  else if j.op = opAsymDecrypt then
    { none with least := z / 8, most := z / 8, outMax := z / 8 - 2 * digestLen (j.inl 57 1) - 2 }
  else if j.op = opAsymEncrypt then
    { none with
      least := j.keyLen, most := j.keyLen + (z / 8 - 2 * digestLen (j.inl 57 1) - 2)
      lenOk := j.keyLen == 0 || j.keyLen == publicEncLen t z, outMax := z / 8 }
  else if j.op = opAgree then
    let out := if t = 2 then (if z = 256 then 32 else if z = 384 then 48 else 66) else publicLen t z
    { none with least := publicLen t z, most := publicLen t z, outMax := out }
  else if j.op = opEncaps then
    let ct := if z = 512 then 768 else if z = 768 then 1088 else 1568
    { none with
      least := j.keyLen, most := j.keyLen, lenOk := j.keyLen == 0 || j.keyLen == publicEncLen t z
      outMax := ct + 32 }
  else if j.op = opDecaps then
    let ct := if z = 512 then 768 else if z = 768 then 1088 else 1568
    { none with least := ct, most := ct, outMax := 32 }
  else if j.op = opAeadSeal then
    { none with
      least := j.inl 60 4, most := j.inl 60 4 + mib16
      lenOk := j.inl 56 1 != 2 || n - j.inl 60 4 < 2 ^ (8 * (15 - j.inl 58 1))
      outMax := (if j.inl 59 1 = 1 then j.inl 58 1 else 0) + (n - j.inl 60 4) + j.inl 57 1 }
  else if j.op = opAeadOpen then
    let pre := j.inl 60 4 + j.inl 57 1
    { none with
      least := pre, most := pre + 262144, outMax := n - pre
      lenOk := j.inl 56 1 != 2 || n - pre < 2 ^ (8 * (15 - j.inl 58 1)) }
  else if j.op = opCipher then
    match j.inl 56 1 with
    | 1 => { none with least := 16, most := mib16, lenOk := n % 16 == 0, outMax := n }
    | 2 => { none with least := 1, most := mib16, outMax := n }
    | _ => { none with least := 16, most := mib16, outMax := n }
  else if j.op = opMac then
    if j.inl 58 1 = 0 then { none with most := mib16, outMax := j.inl 59 1 }
    else { none with least := j.inl 59 1, most := mib16 + j.inl 59 1 }
  else if j.op = opWrap then
    if j.inl 56 1 = 1 then { none with least := 16, most := 4096, lenOk := n % 8 == 0, outMax := n + 8 }
    else { none with least := 1, most := 4096, outMax := max 16 (roundUp 8 n + 8) }
  else if j.op = opUnwrap then
    let out := if j.inl 57 1 = 0 then n - 8 else 0
    if j.inl 56 1 = 1 then { none with least := 24, most := 4104, lenOk := n % 8 == 0, outMax := out }
    else { none with least := 16, most := 4104, lenOk := n % 8 == 0, outMax := out }
  else if j.op = opHash then
    let h := j.inl 56 1
    { none with most := mib16, outMax := if isShake h then j.inl 60 4 else digestLen h }
  else if j.op = opRandom then { none with outMax := j.outputCap }
  else if j.op = opOwnerApprove then { none with most := j.inputLen, lenOk := j.inputLen != 0 }
  else if j.op = opCounterRead then { none with outMax := 16 }
  else if j.op = opAttest then { none with outMax := 1408 }
  else none

/-- The check of step 7 that fails, as status and detail. -/
def Job.limitFault (j : Job) (o : Option Obj) : Option (Status × Nat) :=
  let l := j.limits o
  if j.inputLen > l.most then some (.tooLarge, 0x1101)
  else if j.inputLen < l.least || !l.lenOk then some (.badCommand, 0x0705)
  else if j.outputCap < l.outMax then some (.tooLarge, 0x1102)
  else none

/-! ## Step 8 of R112 (R107, R127) -/

/-- The length of the string the parameter block carries. -/
def Job.stringLen (j : Job) : Nat := if j.takesBlock then j.inl 62 2 else 0

/-- The length of the block to read: 0 when there is none. -/
def Job.blockLen (j : Job) : Nat := if j.stringLen = 0 then 0 else 8 + roundUp 8 j.stringLen

/-- The fault of a block address before any read (R127). -/
def Job.blockAddrFault (j : Job) : Bool := j.takesBlock && ((j.stringLen == 0) != (j.pbAddr == 0))

/-- Whether a block read is well formed (R107, R127). -/
def Job.blockOk (j : Job) (b : Bytes) : Bool :=
  fieldLE b 0 2 == 1 && fieldLE b 2 2 == 0 && fieldLE b 4 4 == j.blockLen &&
    (slice b (8 + j.stringLen) (j.blockLen - 8 - j.stringLen)).all (· == 0#8)

/-- The context string or label of a job. -/
def Job.string (j : Job) : Bytes :=
  match j.param with
  | some b => slice b 8 j.stringLen
  | none => []

/-! ## Granules (R17, R35, R84) -/

/-- Commands a symmetric lane serves, whose output never occupies granules (R17). -/
def Job.laneServed (j : Job) : Bool :=
  j.op == opAeadSeal || j.op == opAeadOpen || j.op == opCipher || j.op == opMac || j.op == opWrap ||
    j.op == opUnwrap || j.op == opKeyExport || (j.op == opHash && isSha2 (j.inl 56 1))

/-- The largest output an operation can produce, before its object is resolved (R35). -/
def Job.largestOutput (j : Job) : Nat :=
  if j.op = opKeyGenerate || j.op = opKeyImport then publicLen j.newType j.newSize
  else if j.op = opKeyDescribe then 2720
  else if j.op = opSign then 4627
  else if j.op = opAsymDecrypt || j.op = opAsymEncrypt then 1024
  else if j.op = opAgree then 66
  else if j.op = opEncaps then 1600
  else if j.op = opDecaps then 32
  else if j.op = opRandom then j.outputCap
  else if j.op = opHash then (if isShake (j.inl 56 1) then j.inl 60 4 else digestLen (j.inl 56 1))
  else if j.op = opCounterRead then 16
  else if j.op = opAttest then 1408
  else 0

/-- Granules a job needs: of 512 octets, for the smaller of OUTPUT_CAP and its largest output. -/
def Job.granules (j : Job) : Nat :=
  if j.laneServed then 0 else ceilDiv (min j.outputCap j.largestOutput) 512

/-- The maximum output is beyond 64 KiB (R84, R146). -/
def Job.beyondGranules (j : Job) : Bool := !j.laneServed && min j.outputCap j.largestOutput > 65536

/-! ## Confirmations (R66) -/

/-- Whether the command's confirmations rest on the object it names. -/
def Job.onObject (j : Job) : Bool :=
  j.primaryField != 0 && j.op != opOwnerApprove && j.op != opAttest

/-- The quorum of a job (R99, R104, R145, R373); `create` is the owner's CREATE_QUORUM. -/
def Job.quorumFor (j : Job) (target : Option Obj) (create : Nat) : Nat :=
  let q (c : Nat) : Nat := (target.map (fun o => o.policy.quorumOf c)).getD 0
  if j.op = opKeyGenerate || j.op = opKeyImport then create
  else if j.op = opKeyDerive || j.unwrapCreates then max (q 6) create
  else if j.op = opKeyDescribe || j.op = opCounterRead then 0
  else if j.onObject then q j.cls
  else 0

/-- The confirmations other than DURABLE that a job needs (R66). -/
def Job.needsOf (j : Job) (target : Option Obj) (create : Nat) : Confs :=
  let limited := (target.map (fun o => o.policy.limited)).getD false
  { policy := j.onObject || j.creates,
    usage := j.onObject && limited && !(j.op == opKeyDestroy || j.op == opKeySetPolicy || j.op == opKeyDescribe ||
      j.op == opCounterRead),
    approval := j.quorumFor target create != 0,
    sealed := j.mutating, durable := false }

/-! ## Tokens (R156) -/

/-- What a job debits its class bucket. -/
def Job.cost (j : Job) : Nat :=
  let per (n : Nat) : Nat := ceilDiv n 4096
  if j.cls = 4 || j.cls = 5 || j.op = opHash then max 1 (per j.inputLen)
  else if j.op = opRandom then per j.outputCap
  else 1

end Sys2Proof.Machine
end

