-- ==== Sys2Proof/Machine/Numbers.lean ====
section
/-! DEFINITION. Arithmetic of the big-number engine on numbers: powers, inverses, Miller–Rabin rounds, the
Chinese-remainder form of RSA, points of the curves of R2 (R95, R216, R271, R275). -/

namespace Sys2Proof.Machine

/-- a^b mod m by the bits of b, highest first. -/
def powMod (a b m : Nat) : Nat :=
  (List.range (Nat.log2 b + 1)).foldr (fun i acc => if nbit b i then acc * acc % m * a % m else acc * acc % m) (1 % m)

/-- The inverse of `a` modulo `m`, where there is one. -/
def modInv (a m : Nat) : Nat := (Nat.gcdA a m % (m : Int)).toNat

/-- The times a number halves before it is odd, up to `fuel`. -/
def twos : Nat → Nat → Nat
  | 0, _ => 0
  | fuel + 1, n => if n % 2 = 0 then twos fuel (n / 2) + 1 else 0

/-- Whether one of the next `r` squares of `x` is a − 1. -/
def mrSquares (a : Nat) : Nat → Nat → Bool
  | 0, _ => false
  | r + 1, x => x == a - 1 || mrSquares a r (x * x % a)

/-- One Miller–Rabin round of an odd `a` with base `b` (FIPS 186-5). -/
def millerRabin (a b : Nat) : Bool :=
  let r := twos (Nat.log2 a + 1) (a - 1)
  let x := powMod b ((a - 1) / 2 ^ r) a
  x == 1 || mrSquares a r x

/-- The eight rounds RSA_KEY_CHECK makes of a prime (R275); their bases are the device's (log entry 66). -/
def primeOk (p : Nat) : Bool :=
  p % 2 == 1 && 5 ≤ p && (List.range 8).all (fun i => millerRabin p (2 + Config.mrBase p i % (p - 3)))

/-! ## RSA keys (R95, R216, R275) -/

/-- The stored encoding of an RSA key from n's octets, e and the primes: n ‖ e ‖ p ‖ q ‖ dp ‖ dq ‖ qinv ‖ R² mod p ‖
R² mod q, where R is 2^(4k) for a modulus of k octets (R216). -/
def rsaStored (k e p q : Nat) : Bytes :=
  let h := k / 2
  let d := modInv e (Nat.lcm (p - 1) (q - 1))
  be k (p * q) ++ be 8 e ++ be h p ++ be h q ++ be h (d % (p - 1)) ++ be h (d % (q - 1)) ++ be h (modInv q p) ++
    be h (2 ^ (8 * k) % p) ++ be h (2 ^ (8 * k) % q)

/-- The checks RSA_KEY_CHECK makes of an imported key (R95, R275). -/
def rsaKeyOk (n e p q : Nat) : Bool :=
  primeOk p && primeOk q && n == p * q && e % 2 == 1 && 3 ≤ e && e < 2 ^ 64 &&
    Nat.gcd e (Nat.lcm (p - 1) (q - 1)) == 1

/-- Whether a public modulus of `size` bits and exponent pass the checks of R128. -/
def rsaPublicOk (size n e : Nat) : Bool := n % 2 == 1 && nbit n (size - 1) && e % 2 == 1 && 3 ≤ e && e < 2 ^ 64

/-- a^d mod pq from the primes, the two exponents and the coefficient (R271). -/
def rsaCrt (a p q dp dq qinv : Nat) : Nat :=
  let m1 := powMod (a % p) dp p
  let m2 := powMod (a % q) dq q
  m2 + q * (qinv * (m1 + p - m2 % p) % p)

/-! ## Curves of the form y² = x³ − 3x + b (R2, R271) -/

/-- Whether (x, y) is a point of the curve, which is then not the identity. -/
def Curve.holds (c : Curve) (x y : Nat) : Bool :=
  x < c.p && y < c.p && y * y % c.p == (x * x * x + (c.p - 3) * x + c.b) % c.p

/-- The sum of two points in affine coordinates; none stands for the identity. -/
def Curve.add (c : Curve) : Option (Nat × Nat) → Option (Nat × Nat) → Option (Nat × Nat)
  | none, q => q
  | p, none => p
  | some (x1, y1), some (x2, y2) =>
    if x1 == x2 && (y1 + y2) % c.p == 0 then none
    else
      let l := if x1 == x2 then (3 * x1 * x1 + (c.p - 3)) * modInv (2 * y1) c.p % c.p
        else (y2 + c.p - y1) * modInv ((x2 + c.p - x1) % c.p) c.p % c.p
      let x := (l * l + 2 * c.p - x1 - x2) % c.p
      some (x, (l * (x1 + c.p - x) + c.p - y1) % c.p)

/-- k times a point, by the bits of k, highest first. -/
def Curve.mul (c : Curve) (k : Nat) (p : Option (Nat × Nat)) : Option (Nat × Nat) :=
  (List.range (Nat.log2 k + 1)).foldr (fun i acc => let d := c.add acc acc; if nbit k i then c.add d p else d) none

/-- The curve of an EC object's SIZE (R94). -/
def ecCurve (size : Nat) : Curve := Config.curve (if size = 256 then 1 else if size = 384 then 2 else 3)

/-- Octets of a coordinate or a scalar of an EC object (R94). -/
def ecLen (size : Nat) : Nat := if size = 256 then 32 else if size = 384 then 48 else 66

/-- The octets of an uncompressed point (R94). -/
def pointBytes (size : Nat) (pt : Option (Nat × Nat)) : Bytes :=
  let (x, y) := pt.getD (0, 0)
  be 1 0x04 ++ be (ecLen size) x ++ be (ecLen size) y

/-- The point an uncompressed encoding gives, where it lies on the curve (R128, R136). -/
def pointOf (size : Nat) (b : Bytes) : Option (Nat × Nat) :=
  let n := ecLen size
  let x := beNat (slice b 1 n)
  let y := beNat (slice b (1 + n) n)
  if b.length == 1 + 2 * n && beNat (b.take 1) == 0x04 && (ecCurve size).holds x y then some (x, y) else none

/-- Whether an ECDSA signature r ‖ s has both halves from 1 to the order less 1 (R133). -/
def ecdsaRange (size : Nat) (sig : Bytes) : Bool :=
  let r := beNat (sig.take (ecLen size))
  let t := beNat (sig.drop (ecLen size))
  let n := (ecCurve size).n
  0 < r && r < n && 0 < t && t < n

end Sys2Proof.Machine
end

