-- ==== Sys2Proof/Machine/PublicKey.lean ====
section
/-! DEFINITION. Key encodings and public outputs as they are cut from the stored encoding, what a key generation and
an import make, the checks of a public key (R94, R95, R128, R133, R216, R275, R286). -/

namespace Sys2Proof.Machine

/-- The key encoding of R94 in the stored encoding of R216, which begins with it. -/
def keyEncOf (type size : Nat) (enc : Bytes) : Bytes := padTo (keyEncLen type size) enc

/-- The public output of R94 in a stored encoding: n, the stored point or public key, the encapsulation key inside the
decapsulation key of FIPS 203; that of an ML-DSA key is computed (log entry 4). -/
def publicOf (type size : Nat) (enc : Bytes) : Bytes :=
  padTo (publicLen type size)
    (match type with
    | 0x01 => enc
    | 0x05 => enc.drop (64 + (if size = 512 then 768 else if size = 768 then 1152 else 1536))
    | 0x06 => Config.mldsaPublic size enc
    | _ => enc.drop (keyEncLen type size))

/-- The public encoding of R128 of a stored encoding: an RSA key's exponent follows its modulus. -/
def publicEncOf (type size : Nat) (enc : Bytes) : Bytes :=
  if type = 1 then publicOf 1 size enc ++ padTo 8 (slice enc (size / 8) 8) else publicOf type size enc

/-- What the stored encoding of a key of types 2 to 6 holds after its key encoding (R216): a point computed from the
scalar, or what the published standard makes of the seed. -/
def keyRest (type size : Nat) (key : Bytes) : Bytes :=
  if type = 2 then pointBytes size ((ecCurve size).mul (beNat key) (some ((ecCurve size).gx, (ecCurve size).gy)))
  else Config.keyRest type size key

/-- The private part of a generated key from its draw: an EC scalar by FIPS 186-5 with 64 extra random bits (R271), the
draw itself for the other types (R126, R287). -/
def drawnKey (type size : Nat) (rnd : Bytes) : Bytes :=
  if type = 2 then be (ecLen size) (beNat rnd % ((ecCurve size).n - 1) + 1) else padTo (keyEncLen type size) rnd

/-- The stored encoding a key generation makes from its random octets: an RSA key has e = 65537 and the primes its
search keeps (R95, R275). -/
def genKey (type size : Nat) (rnd : Bytes) : Bytes :=
  if type = 1 then
    let (p, q) := Config.rsaPrimes size rnd
    rsaStored (size / 8) 65537 p q
  else if type = 0x0B then []
  else
    let key := drawnKey type size rnd
    padTo (storedLen type size) (key ++ (if 7 ≤ type then [] else keyRest type size key))

/-- The stored encoding of an imported key encoding, or nothing when its consistency checks fail (R95, R116, R275, R286):
an RSA key's by RSA_KEY_CHECK, an EC scalar's from 1 to the order less 1 (log entry 67); the other types have none. -/
def storedOf (type size : Nat) (key : Bytes) : Option Bytes :=
  if key.length != keyEncLen type size then none
  else if type = 1 then
    let k := size / 8
    let p := beNat (slice key (k + 8) (k / 2))
    let q := beNat (slice key (k + 8 + k / 2) (k / 2))
    let e := beNat (slice key k 8)
    if rsaKeyOk (beNat (key.take k)) e p q then some (rsaStored k e p q) else none
  else if type = 2 && !(0 < beNat key && beNat key < (ecCurve size).n) then none
  else if type = 0x0B then some []
  else some (padTo (storedLen type size) (key ++ (if 7 ≤ type then [] else keyRest type size key)))

/-- The modulus check of FIPS 203 (R128): every 12-bit value of an encapsulation key but its last 32 octets is below
3,329. -/
def kemModulusOk (pub : Bytes) : Bool :=
  (List.range ((pub.length - 32) / 3)).all (fun i =>
    let v := leNat (slice pub (3 * i) 3)
    v % 4096 < 3329 && v / 4096 < 3329)

/-- Whether a public key in the input passes the checks of R128; an Ed25519 or Ed448 key must decode (RFC 8032), an
ML-DSA key is checked for length only. -/
def publicKeyOk (type size : Nat) (pub : Bytes) : Bool :=
  match type with
  | 0x01 => rsaPublicOk size (beNat (pub.take (size / 8))) (beNat (slice pub (size / 8) 8))
  | 0x02 => (pointOf size pub).isSome
  | 0x03 => Config.edKeyOk size pub
  | 0x05 => kemModulusOk pub
  | _ => pub.length == publicLen type size

/-- Whether a signature verifies (R133): an ECDSA r or s out of range is invalid. -/
def sigValid (p : SigParams) (pub ctx msg sig : Bytes) : Bool :=
  (p.scheme != 0x10 || ecdsaRange p.size sig) && Config.verify p pub ctx msg sig

/-- Whether an RSA operand of octets is below the modulus that leads a public or stored encoding (R268). -/
def belowModulus (size : Nat) (enc v : Bytes) : Bool := beNat v < beNat (enc.take (size / 8))

end Sys2Proof.Machine
end

