-- ==== Sys2Proof/Machine/Locket.lean ====
section
/-! DEFINITION. The life of a job in the Locket: outcomes, approvals, usage reservation, joining the
open bead, the release stamp and what follows from it, instance reset (R58, R63 to R88, R113, R193,
R373, R374, R578). -/

namespace Sys2Proof.Machine

/-! ## Small facts about jobs -/

/-- Detail of a squash, refusal or failure that has none. -/
def noDetail : Nat := 0

/-- Whether a bead is sealed. -/
def State.sealedBead (s : State) (b : Nat) : Bool := b ≤ s.strand.head

/-- Whether a job's records are in a sealed bead (COMMITTED of R108). -/
def State.committed (s : State) (j : Job) : Bool :=
  match j.joined with
  | some b => s.sealedBead b
  | none => false

/-- Job entries reserved: jobs held and entries kept for fetch reads under way (R83, R89). -/
def State.jobsInUse (s : State) : Nat :=
  s.jobList.length + (s.insts.map (fun e => e.2.fetchRead.length)).sum

/-- Granules allocated (R89). -/
def State.granulesInUse (s : State) : Nat := (s.jobList.map (fun e => e.2.gran)).sum

/-- LKT_PEAK follows the counts (R89). -/
def State.notePeaks (s : State) : State :=
  let s := s.put .LKT_PEAK_JOBS (max (s.get .LKT_PEAK_JOBS) s.jobsInUse)
  s.put .LKT_PEAK_GRANULES (max (s.get .LKT_PEAK_GRANULES) s.granulesInUse)

/-- Whether a job is still to be released and belongs to its instance's current generation. -/
def Job.live (j : Job) : Bool := j.stage != .detached

/-- Jobs of an instance whose release has not begun, detached ones not counted (R83). -/
def State.instJobs (s : State) (n : Nat) : List (Nat × Job) :=
  s.jobsInOrder.filter (fun e => e.2.inst == n && e.2.live)

/-- The state of an object as a job of an instance sees it: committed, then the unsealed records of its
own instance (R18, R75, R224). -/
def State.viewObj (s : State) (n handle : Nat) : Option Obj :=
  applyRecs handle (s.committedObj handle) (s.unsealedRecs.filter (fun r => r.inst == n))

/-- Whether the directory presents a handle to an instance (R223). -/
def State.presents (s : State) (n handle : Nat) : Option DirEntry :=
  match s.dirFind handle with
  | some e =>
    if e.state == .pending && !(e.pendInst == n && e.pendGen == (s.inst n).gen % 65536) then none else some e
  | none => none

/-- Whether a handle's owner field is the instance's owner's (R93). -/
def State.ownHandle (s : State) (n handle : Nat) : Bool := handle == 0 || ownerOf handle == s.boundOwner n

/-! ## Approvals (R148, R371 to R374) -/

/-- An approver's slot: the type octet and the public encoding (R371). -/
def State.approver (s : State) (owner a : Nat) : Bytes := s.odBytes (0x4000 + owner) (0x20 + a)

/-- Octets of the signature an approver's key type makes (R148). -/
def approvalSigLen (type : Nat) : Nat :=
  match type with
  | 1 => 512 | 2 => 96 | _ => 3309

/-- Whether an approval matches a job (R373). -/
def Job.approvalMatches (j : Job) (owner : Nat) (a : Approval) : Bool :=
  let own := a.owner == owner
  if j.op == opKeyGenerate || j.op == opKeyImport then own && a.cls == 7 && a.handle == 0
  else if j.op == opKeyDerive || j.unwrapCreates then
    own && ((a.cls == 6 && a.handle == j.primary) || (a.cls == 7 && a.handle == 0))
  else own && a.cls == j.cls && a.handle == j.primary

/-- The distinct elements of a list of numbers. -/
def distinct (l : List Nat) : List Nat := l.foldl (fun acc x => if acc.contains x then acc else acc ++ [x]) []

/-- The count of approvals for a job in this cycle (R373). -/
def State.approvalCount (s : State) (j : Job) : Nat :=
  if s.time.state == .unanchored then 0
  else
    let m := s.minuteOf s.time.tick
    (distinct ((s.officers.approvals.filter (fun a =>
      j.approvalMatches (s.boundOwner j.inst) a && a.notAfter > m && !s.approvalFails a)).map (·.approver))).length

/-- The approval lines that satisfy `p` are read: those whose tags fail are no longer held, each with its event (R339). -/
def State.readApprovals (s : State) (p : Approval → Bool) : State :=
  let bad (a : Approval) : Bool := p a && s.approvalFails a
  (s.officers.approvals.filter bad).foldl (fun s a => s.event 0x0502 sevWarning a.handle [])
    { s with officers := { s.officers with approvals := s.officers.approvals.filter (fun a => !bad a) } }

/-- Whether a job's count meets an approval line whose tag fails. -/
def State.approvalsFail (s : State) (j : Job) : Bool :=
  s.officers.approvals.any (fun a => j.approvalMatches (s.boundOwner j.inst) a && s.approvalFails a)

/-- A job's count reads the lines that match it. -/
def State.readFor (s : State) (j : Job) : State := s.readApprovals (j.approvalMatches (s.boundOwner j.inst))

/-- CREATE_QUORUM of an owner (R104). -/
def State.createQuorum (s : State) (o : Nat) : Nat := s.odNat (0x4000 + o) 0x11 0

/-- Approvals held beyond what fits one owner (R372). -/
def maxApprovals : Nat := 4096

/-- Holds an approval (R372): a matching one is replaced with the higher NOT_AFTER; a further one
beyond 4,096 evicts the lowest NOT_AFTER held before it, among equals the one held longest. Its line is tagged (R339). -/
def State.holdApproval (s : State) (a : Approval) : State :=
  let same (x : Approval) : Bool :=
    x.owner == a.owner && x.cls == a.cls && x.approver == a.approver && x.handle == a.handle
  let s := s.readApprovals same
  let tagged (x : Approval) : Approval := { x with tag := (s.approvalTag x).getD [] }
  let ap := s.officers.approvals
  match ap.find? same with
  | some x =>
    if x == { a with order := x.order, tag := x.tag } then s
    else
      let upd (y : Approval) : Approval :=
        if same y then tagged { a with order := y.order, notAfter := max y.notAfter a.notAfter } else y
      { s with officers := { s.officers with approvals := ap.map upd } }
  | none =>
    let own := ap.filter (fun x => x.owner == a.owner)
    let victim := if own.length < maxApprovals then none
      else (sortBy (fun (x : Approval) => (x.notAfter, x.order)) own).head?
    let kept := match victim with
      | some v => ap.filter (fun x => !(x == v))
      | none => ap
    let s := { s with officers := { s.officers with
      approvals := kept ++ [tagged { a with order := s.officers.approvalOrder }]
      approvalOrder := s.officers.approvalOrder + 1 } }
    let s := match victim with
      | some v => (s.modOwner a.owner (fun o => { o with evicted := sat32 o.evicted })).event 0x060A sevNotice v.approver []
      | none => s
    s.event 0x0609 sevInfo a.approver []

/-! ## Usage reservation (R193 to R195) -/

/-- The usage block held for an object; an object of the restored state is due the gap of R195. -/
def State.usageOf (s : State) (o : Obj) : Usage :=
  (mget (fun _ => none) s.usage o.handle).getD
    { blockEnd := o.highWater, next := o.highWater, returned := [], blockBead := none, pendingEnd := none,
      gapDue := o.bead ≤ s.restore.presented, tag := [] }

/-- Records the usage block held for an object, its line tagged (R339). -/
def State.setUsage (s : State) (handle : Nat) (u : Usage) : State :=
  { s with usage := mset (fun _ => none) s.usage handle (some { u with tag := (s.usageTag handle u).getD [] }) }

/-- Whether an object's usage-counter line is read back from DRAM with a tag that fails; whether it was spilled is open. -/
def State.usageFails (s : State) (handle : Nat) : Bool :=
  match mget (fun _ => none) s.usage handle with
  | some u => (s.usageTag handle u).getD [] != u.tag && Config.lineSpilled s.free handle
  | none => false

/-- An object's usage-counter line is read: one whose tag fails abandons its current block (R339). -/
def State.readUsage (s : State) (handle : Nat) : State :=
  if s.usageFails handle then
    let s := (mget (fun _ => none) s.usage handle).elim s
      (fun u => s.setUsage handle { u with next := u.blockEnd, returned := [] })
    s.event 0x0502 sevWarning handle []
  else s

/-- The next use of the current block below the limit: one returned, or the next unreserved. -/
def Usage.take (u : Usage) (limit : Nat) : Option (Nat × Usage) :=
  match (sortBy (fun x => (x, 0)) u.returned).filter (· < limit) with
  | x :: _ => some (x, { u with returned := u.returned.filter (fun y => !(y == x)) })
  | [] => if u.next < u.blockEnd && u.next < limit then some (u.next, { u with next := u.next + 1 }) else none

/-- The policy in force for an object's reservations: the committed one, else that resolved. -/
def State.usagePolicy (s : State) (o : Obj) : Policy := ((s.committedObj o.handle).getD o).policy

/-- What USAGE does for a job now: a use reserved from a sealed block, exhaustion, or a wait for a
block (R100, R193). -/
inductive UsageStep where
  | reserved (n : Nat) (u : Usage)
  | exhausted
  | wait
  deriving DecidableEq, Repr

/-- The usage step of a job on an object. -/
def State.usageStep (s : State) (o : Obj) : UsageStep :=
  let u := s.usageOf o
  let limit := (s.usagePolicy o).usageLimit
  match u.take limit with
  | some (n, u') => .reserved n u'
  | none =>
    let hw := ((s.committedObj o.handle).getD o).highWater
    if max hw u.blockEnd ≥ limit && u.pendingEnd.isNone then .exhausted else .wait

/-! ## Refusals (R67, R71, R74, R113) -/

/-- Frees what a job's creation holds before its record joins (R223). -/
def State.freeCreation (s : State) (j : Job) : State :=
  match j.plan.bind (·.newObj), j.joined with
  | some o, none => if (s.dirFind o.handle).any (fun e => e.state == .pending) then s.freePending o.handle else s
  | _, _ => s

/-- The lane `n` beside its registers. -/
def State.lane (s : State) (n : Nat) : Lane := mget (fun _ => Lane.init) s.engines.lanes n

/-- Changes it; KEY_LOADED and BUSY follow. -/
def State.setLane (s : State) (n : Nat) (l : Lane) : State :=
  let s := { s with engines := { s.engines with lanes := mset (fun _ => Lane.init) s.engines.lanes n l } }
  (s.putBit (.SYM_Ln_STATUS_KEY_LOADED n) l.loaded).putBit (.SYM_Ln_STATUS_BUSY n) l.running

/-- A refused job's lane stops at the refusal: its buffer is zeroed, a stall ends, and the lane stays held, idle (R72,
R307, R312). -/
def State.stopLane (s : State) (j : Job) : State :=
  match j.unit with
  | some (.sym, n) => (s.setLane n Lane.init).putBit (.SYM_Ln_STATUS_STALLED n) false
  | _ => s

/-- Records a refusal of a job (R67); none is recorded once its records have joined (R578). -/
def State.refuse (s : State) (id : Nat) (r : Refusal113) : State :=
  match s.job id with
  | none => s
  | some j =>
    if j.joined.isSome || j.stamp.isSome || j.refused.contains r then s
    else
      let st := if j.stage == .running || j.stage == .held then .denying else j.stage
      (((s.modJob id (fun j => { j with refused := j.refused ++ [r], stage := st })).eraseSpeculative id).freeCreation j).stopLane j

/-- The status and detail of the refusals recorded, by the precedence of R113; the detail of
DENIED_POLICY is that of the first recorded (R241). -/
def refusalStatus (l : List Refusal113) : Option (Status × Nat) :=
  let denied := l.filterMap (fun r => match r with | .denied d => some d | _ => none)
  match denied with
  | d :: _ => some (.deniedPolicy, d)
  | [] =>
    if l.contains .timeUnknown then some (.timeUnknown, noDetail)
    else if l.contains .usageExhausted then some (.usageExhausted, noDetail)
    else if l.contains .approvalExpired then some (.approvalExpired, noDetail)
    else none

/-- The time and approval tests of R101 and R374 at a cycle: the refusals they record. They are PRIMARY's: of SECONDARY
only OP_MASK is tested (log entry 62). -/
def State.stampTests (s : State) (j : Job) : List Refusal113 :=
  let un := s.time.state == .unanchored
  let m := s.minuteOf s.time.tick
  let window := match j.target with
    | some o =>
      if j.need.policy && o.policy.timed then
        if un then [Refusal113.timeUnknown]
        else if o.policy.notBefore ≤ m && m < o.policy.notAfter then [] else [Refusal113.denied 0x0102]
      else []
    | none => []
  let approval :=
    if j.quorum = 0 then []
    else if un then [Refusal113.timeUnknown]
    else if s.approvalCount j < j.quorum then [Refusal113.approvalExpired] else []
  window ++ approval

/-! ## Outputs decided at the release stamp -/

/-- The 128-octet description of an object (R120). -/
def Obj.description (o : Obj) : Bytes :=
  le 8 o.handle ++ le 1 o.type ++ zeros 1 ++ le 2 o.size ++ le 8 o.highWater ++ le 8 o.bead ++ zeros 4 ++
    o.policy.bytes ++ zeros 32

/-- The public output of R94. -/
def Obj.publicOut (o : Obj) : Bytes :=
  publicOf o.type o.size o.enc

/-- The public encoding of R128. -/
def Obj.publicEnc (o : Obj) : Bytes :=
  publicEncOf o.type o.size o.enc

/-- The object as committed at the stamp; the one resolved when it is gone (R115, R120). -/
def State.objAtStamp (s : State) (j : Job) : Option Obj :=
  match s.committedObj j.primary with
  | some o => some o
  | none => j.target

/-- The 896-octet body of a quote (R153). -/
def State.quoteBody (s : State) (j : Job) (key : Bytes) : Bytes :=
  let st := s.now
  let o := if j.primary = 0 then none else s.objAtStamp j
  ascii [0x4B, 0x4E, 0x51, 0x31] ++ le 1 1 ++ le 1 (timeCodeRec st.state) ++
  le 1 (s.get .HST_STATUS_LIFECYCLE) ++ le 1 s.svn ++ le 8 Config.fuseSerial ++ le 8 st.tick ++
  le 8 (match s.time.anchor with | some a => taiOf a st.tick | none => 0) ++ le 8 s.elapsed ++
  le 2 j.inst ++ le 2 (s.boundOwner j.inst) ++ le 4 (s.strand.clasp.getD 0) ++ le 8 s.strand.head ++
  le 1 (j.inl 56 1) ++ zeros 7 ++ padTo 64 (slice j.entry 64 (j.inl 56 1)) ++
  ((List.range 8).map (fun x => padTo 64 (s.hm x))).flatten ++
  (match o with | some x => x.description | none => zeros 128) ++
  (match o with
    | some x => if x.publicOut.isEmpty then zeros 64 else padTo 64 (Config.sha512 x.publicOut)
    | none => zeros 64) ++
  padTo 64 (Config.sha512 (publicEncOf 1 4096 key))

/-- The signature parameters of a quote (R154): RSASSA-PSS, SHA-512, 64-byte salt. -/
def quoteParams : SigParams :=
  { scheme := 0x02, hash := 0x03, prehashed := false, det := false, saltLen := 64, type := 1, size := 4096 }

/-- The output of a DONE job: made at the stamp where the manual says so (R120, R150, R153), else that
of its engine work. -/
def State.outputAtStamp (s : State) (j : Job) : Bytes :=
  if j.op = opKeyDescribe then
    match s.objAtStamp j with
    | some o => o.description ++ o.publicOut
    | none => []
  else if j.op = opCounterRead && !j.advances then
    match s.objAtStamp j with
    | some o =>
      if o.type = 0x0B then le 8 o.counter ++ le 8 unlimited else le 8 o.highWater ++ le 8 o.policy.usageLimit
    | none => []
  else if j.op = opAttest then
    match s.ladder.attest with
    | some k =>
      let body := s.quoteBody j k
      body ++ padTo 512 (Config.sign quoteParams k (j.rnd.getD []) [] body)
    | none => []
  else j.output

/-- The outcome of OWNER_APPROVE at its release stamp (R149), for a statement whose signature holds. -/
def State.approveAtStamp (s : State) (j : Job) : Status × Nat :=
  let na := fieldLE (j.input.getD []) 12 4
  let m := s.minuteOf s.time.tick
  if s.time.state == .unanchored then (.timeUnknown, noDetail)
  else if na ≤ m then (.approvalExpired, noDetail)
  else if na > m + 1440 then (.badCommand, 0x0705)
  else (.done, noDetail)

/-- The approval a statement makes (R148, R372). -/
def Job.approval (j : Job) : Approval :=
  let b := j.input.getD []
  { owner := fieldLE b 8 2, cls := fieldLE b 10 1, approver := fieldLE b 11 1, handle := fieldLE b 16 8,
    notAfter := fieldLE b 12 4, ident := fieldLE b 24 8, order := 0, tag := [] }

/-! ## Joining the open bead (R578) -/

/-- Whether every confirmation but SEAL and DURABLE is recorded. -/
def Job.checked (j : Job) : Bool :=
  (!j.need.policy || j.got.policy) && (!j.need.usage || j.got.usage) && (!j.need.approval || j.got.approval)

/-- Whether the engine outcome of a mutating job changes state: only DONE does. -/
def Job.planDone (j : Job) : Bool := (j.plan.map (fun p => p.status == .done)).getD false

/-- Whether a job's records may join now (R578): a dependent job's no earlier than those of the jobs it
depends on, and an advance of a counter no earlier than those of the instance's advances of it fetched before (R151). -/
def State.canJoin (s : State) (j : Job) : Bool :=
  j.mutating && j.joined.isNone && j.stamp.isNone && j.ended && j.checked && j.planDone && j.refused.isEmpty &&
    j.forced.isNone && !j.squash && s.strandOpen &&
    j.deps.all (fun d => match s.job d with | some x => x.joined.isSome || !x.mutating | none => true) &&
    !(j.advances && s.jobList.any (fun e => e.2.inst == j.inst && e.2.gen == j.gen && e.2.order < j.order && e.2.live &&
      e.2.advances && e.2.primary == j.primary && e.2.joined.isNone && e.2.stamp.isNone))

/-- Makes the tests of R578 and, where none refuses, joins the job's records. -/
def State.joinJob (s : State) (id : Nat) (j : Job) : State :=
  match s.stampTests j with
  | r :: rest => (r :: rest).foldl (fun s x => s.refuse id x) s
  | [] =>
    let recs := (j.plan.map (·.recs)).getD []
    let mk (b : RecBody) : Rec :=
      { role := 0, source := .instanceQueue, tick := s.time.tick, inst := j.inst, owner := s.boundOwner j.inst,
        tag := j.tag, body := b, job := some id, reply := none, durable := j.durable }
    recs.foldl (fun s b =>
      let (n, s) := s.joinRec (mk b)
      s.modJob id (fun j => { j with joined := some n })) s

/-! ## The release stamp (R16, R71 to R77, R113) -/

/-- What a job ends with as things stand: a squash governs, but for an alarm (R77, R88); then an end
forced by an event; then refusals (R113); then the outcome of its engine. -/
def State.outcome (s : State) (j : Job) : Status × Nat :=
  match j.squash, j.forced with
  | _, some (.alarmAbort, d) => (.alarmAbort, d)
  | true, _ => (.squashed, noDetail)
  | false, some f => f
  | false, none =>
    match refusalStatus j.refused with
    | some r => r
    | none =>
      match j.plan with
      | none => (.engineReject, noDetail)
      | some p =>
        if p.status == .done && j.op == opOwnerApprove then s.approveAtStamp j else (p.status, p.detail)

/-- Whether every confirmation needed is recorded; SEAL and DURABLE are awaited only by a job whose
engine outcome is DONE (log entry 12). -/
def State.confirmed (s : State) (j : Job) : Bool :=
  j.checked && (!j.need.sealed || !j.planDone || j.got.sealed) &&
    (!j.mutating || !j.planDone || !j.need.durable || j.got.durable) &&
    j.durableBeads.all (fun b => b ≤ s.strand.durable)

/-- Whether a job awaits SEAL: it needs the seal of its records, joined or still to join, which has not come (R66,
R255). -/
def Job.awaitsSeal (j : Job) : Bool :=
  j.live && j.stamp.isNone && j.mutating && !j.got.sealed && j.refused.isEmpty && !j.squash && j.forced.isNone &&
    (j.plan.isNone || j.planDone)

/-- What a lapse makes of one job (R88, R185, R257): COMMIT_LOST where it awaits SEAL, its records joined or still to
join, or DURABLE; else NOT_ACTIVE. -/
def State.lapseJob (s : State) (j : Job) : Job :=
  if j.stamp.isSome || j.forced.isSome || !j.live then j
  else
    let waits := j.joined.isSome || j.awaitsSeal || (j.mutating && j.durable) || j.durableBeads.any (fun b => s.strand.durable < b)
    let kept := (j.joined.map (fun b => s.sealedBead b)).getD false
    { j with forced := some (if waits then (.commitLost, noDetail) else (.notActive, noDetail)),
             joined := if kept then j.joined else none }

/-- Whether a job takes its release stamp in this cycle. -/
def State.canStamp (s : State) (j : Job) : Bool :=
  !s.halted && !s.zeroised && j.stamp.isNone &&
    (j.stage == .preparing || j.stage == .running || j.stage == .held || j.stage == .denying ||
      (j.stage == .fetched && j.forced.isSome)) &&
    !s.leaseOver && (!j.started || j.ended || (j.unit.isNone && (j.squash || j.forced.isSome))) && j.deps.isEmpty &&
    (j.squash || j.forced.isSome || (j.ended && (!j.refused.isEmpty || s.confirmed j)))

/-- Whether a job holds a lane (R301). -/
def Job.onLane (j : Job) : Bool := (j.unit.map (fun u => u.1 == .sym)).getD false

/-- Adds a released creating job to the record of the last 64 (R76). -/
def State.noteReleased (s : State) (j : Job) (st : Status) : State :=
  if j.referable then
    let r : Released :=
      { inst := j.inst, gen := j.gen, tag := j.tag, done := st == .done, handle := j.resultHandle,
        creates := j.creates, order := j.order }
    let mine := s.locket.released.filter (fun x => x.inst == j.inst && x.gen == j.gen)
    let others := s.locket.released.filter (fun x => !(x.inst == j.inst && x.gen == j.gen))
    { s with locket := { s.locket with released := others ++ (mine ++ [r]).drop ((mine.length + 1) - 64) } }
  else s

/-- What the release of a job with a status and a result handle means to one that depends on it or waits for it (R76 to
R78): a reference to it that is still to be resolved names its result. -/
def Job.afterRelease (j : Job) (id : Nat) (st : Status) (result : Nat) : Job :=
  let j := if j.deps.contains id then
      { j with deps := j.deps.filter (fun d => !(d == id)), squash := j.squash || st != .done,
               primary := if isReference j.primary && st == .done then result else j.primary }
    else j
  if j.destroyWait.contains id then
    { j with destroyWait := j.destroyWait.filter (fun d => !(d == id)),
             forced := if st == .done && j.forced.isNone then some (.noSuchObject, noDetail) else j.forced }
  else j

/-- The speculative settings of the jobs squashed are erased (R81). -/
def State.eraseSquashed (s : State) : State :=
  (s.jobList.filter (fun e => e.2.squash && e.2.stamp.isNone)).foldl (fun s e => s.eraseSpeculative e.1) s

/-- A use returned by a refused job (R113, R193). -/
def State.returnUse (s : State) (j : Job) : State :=
  match j.useNo, j.target with
  | some n, some o =>
    let s := s.readUsage o.handle
    let u := s.usageOf o
    s.setUsage o.handle { u with returned := u.returned ++ [n] }
  | _, _ => s

/-- The release stamp of a job is taken with an outcome: meters, settings, records kept and the jobs
that depend on it follow in that cycle. -/
def State.stampWith (s : State) (id : Nat) (j : Job) (st : Status) (detail : Nat) : State :=
  let out := if st == .done then s.outputAtStamp j else []
  let result := if st == .done && j.creates then j.resultHandle else 0
  let seq := s.locket.nextStamp
  let s := s.setJob id (some { j with stage := .releasing, stamp := some s.now, stampSeq := seq, status := st,
                                      detail := detail, output := out, resultHandle := result,
                                      unit := if j.onLane then j.unit else none })
  let s := { s with locket := { s.locket with nextStamp := seq + 1 } }
  let s := s.meterOutcome j.inst j.cls st j.started j.busyNs (j.inputLen + out.length)
  let s := if st == .done then s.shareRuns id else (s.eraseSpeculative id).freeCreation j
  let s := if (refusalStatus j.refused).isSome && !j.squash then s.returnUse j else s
  let s := if st == .done && j.op == opOwnerApprove then s.holdApproval j.approval else s
  let s := s.noteReleased { j with resultHandle := result } st
  let s := j.tagFails.foldl (fun s h => s.event 0x0503 sevCritical h []) s
  let after := fun (x : Job) => x.afterRelease id st result
  let s := { s with jobs := s.jobs.map (fun (e : Nat × Option Job) => (e.1, e.2.map after)) }
  s.eraseSquashed

/-- Takes the release stamp of a job (R16): the tests of R101 and R374 are made in this cycle for a job
whose records have not joined. -/
def State.takeStamp (s : State) (id : Nat) (j : Job) : State :=
  let s := if j.quorum = 0 then s else s.readFor j
  let tests := if j.joined.isSome || j.squash || j.forced.isSome then [] else s.stampTests j
  let j := { j with refused := j.refused ++ tests.filter (fun r => !(j.refused.contains r)) }
  let (st, d) := s.outcome j
  s.stampWith id j st d

/-- Ends a job before engine work with a status (R65, R93, R112): at once, but for a dependent job, which is held until
the jobs it depends on have been released, and ends SQUASHED if one ended other than DONE (R64, R77). -/
def State.endEarly (s : State) (id : Nat) (st : Status) (detail : Nat) : State :=
  match s.job id with
  | some j =>
    if j.stamp.isSome then s
    else
      let j := { j with need := ⟨false, false, false, false, false⟩, unsealing := [] }
      if s.leaseOver then s.setJob id (some (s.lapseJob j))
      else if j.deps.isEmpty then s.stampWith id j st detail
      else s.setJob id (some { j with forced := some (j.forced.getD (st, detail)) })
  | none => s

/-! ## Output that streams from a lane (R17, R142, R304) -/

/-- Octets of a lane's buffer (R304). -/
def laneBuffer : Nat := 262144

/-- Whether a job's output streams through its lane's buffer (R304). -/
def Job.streams (j : Job) : Bool := j.op == opAeadSeal || j.op == opCipher

/-- Octets a streaming job puts out while its input enters: all but the tag (R299). -/
def Job.dataLen (j : Job) : Nat := j.output.length - (if j.op = opAeadSeal then j.inl 57 1 else 0)

/-- Whether a running streaming job may write what its lane holds: nothing it waits for is open (R17, R64). -/
def State.mayStream (s : State) (j : Job) : Bool :=
  j.streams && j.onLane && j.stage == .running && j.planDone && j.refused.isEmpty && !j.squash && j.forced.isNone &&
    j.deps.isEmpty && s.confirmed j && !s.halted && !s.zeroised

/-- Whether a job's lane stands stalled (R304). -/
def State.laneStalled (s : State) (j : Job) : Bool :=
  match j.unit with
  | some (.sym, n) => s.bit (.SYM_Ln_STATUS_STALLED n)
  | _ => false

/-- Writes a streaming job's output from where it stands up to octet `upto`. -/
def State.writeStream (s : State) (id : Nat) (j : Job) (upto : Nat) : State :=
  (s.emitOutput j.inst (j.outputAddr + j.streamed) (slice j.output j.streamed (upto - j.streamed))).modJob id
    (fun j => { j with streamed := max j.streamed upto })

/-- A lane stalls with a full buffer that its job may not yet write (R304). -/
def State.stallLane (s : State) (j : Job) : State :=
  match j.unit with
  | some (.sym, n) => (s.setLane n { s.lane n with buffer := j.output.take laneBuffer }).putBit (.SYM_Ln_STATUS_STALLED n) true
  | _ => s

/-- A stalled lane resumes in the cycle of its job's last confirmation: what it held is written (R304, R312). -/
def State.resumeLane (s : State) (id : Nat) (j : Job) : State :=
  match j.unit with
  | some (.sym, n) =>
    ((s.writeStream id j laneBuffer).setLane n { s.lane n with buffer := [] }).putBit (.SYM_Ln_STATUS_STALLED n) false
  | _ => s

/-- The next thing that comes about for one job without a further event. -/
def State.settleJob (s : State) (id : Nat) (j : Job) : Option State :=
  if j.stage == .releasing || j.stage == .detached then none
  else if s.canStamp j && (j.squash || j.forced.isSome) then some (s.takeStamp id j)
  else if j.looked && j.need.approval && !j.got.approval && s.approvalsFail j then some (s.readFor j)
  else if j.looked && j.need.usage && !j.got.usage && (j.target.map (fun o => s.usageFails o.handle)).getD false then
    j.target.map (fun o => s.readUsage o.handle)
  else if j.looked && j.need.approval && !j.got.approval && s.approvalCount j ≥ j.quorum then
    some (s.modJob id (fun j => { j with got := { j.got with approval := true } }))
  else if j.looked && j.need.usage && !j.got.usage && !(j.refused.contains .usageExhausted) &&
      (j.target.map (fun o => s.usageStep o != .wait)).getD false then
    match j.target with
    | none => none
    | some o =>
      match s.usageStep o with
      | .reserved n u =>
        some ((s.setUsage o.handle u).modJob id (fun j => { j with useNo := some n, got := { j.got with usage := true } }))
      | .exhausted => some (s.refuse id .usageExhausted)
      | .wait => none
  else if s.laneStalled j && s.mayStream j then some (s.resumeLane id j)
  else if s.canJoin j then some (s.joinJob id j)
  else if s.canStamp j then some (s.takeStamp id j)
  else none

/-- The first job, by instance and then fetch order (R115), for which something comes about. -/
def settleFirst (s : State) : List (Nat × Job) → Option State
  | [] => none
  | e :: rest =>
    match s.settleJob e.1 e.2 with
    | some s' => some s'
    | none => settleFirst s rest

/-- Everything that comes about in this cycle, one thing at a time. -/
def settleLoop : Nat → State → State
  | 0, s => s
  | fuel + 1, s =>
    match settleFirst s s.jobsInOrder with
    | some s' => settleLoop fuel s'
    | none => s

/-- The Locket after an event: confirmations recorded, records joined, stamps taken. Each job takes at
most ten such steps. -/
def State.settle (s : State) : State := settleLoop (10 * s.jobs.length + 10) s

/-- Forces the end of a job, released no earlier than the end of its own engine work (R185, R257). -/
def State.force (s : State) (id : Nat) (st : Status) (detail : Nat) : State :=
  s.modJob id (fun j => if j.stamp.isSome || j.forced.isSome then j else { j with forced := some (st, detail) })

/-! ## Instance reset (R58 to R61) -/

/-- What a RESET does to one job of the instance, by the stage it has reached (R58). -/
def State.resetJob (s : State) (id : Nat) (j : Job) : State :=
  let lost := match j.joined with
    | some b => s.sealedBead b || s.strand.closed.any (fun c => c.num == b)
    | none => false
  let s := if lost then s.modInst j.inst (fun i => { i with lost := sat32 i.lost }) else s
  let s := (s.eraseSpeculative id).freeCreation j
  let s := if j.stamp.isNone then j.tagFails.foldl (fun s h => s.event 0x0503 sevCritical h []) s else s
  let s := s.modInst j.inst (fun i => { i with readsOut := i.readsOut + j.reads })
  if j.started && !j.ended && j.stamp.isNone then
    s.setJob id (some { j with stage := .detached, joined := none, output := [], gran := 0, reads := 0,
                               deps := [], destroyWait := [] })
  else
    let s := if j.started && j.stamp.isNone then s.chargeWaste j.cls j.busyNs else s
    s.setJob id none

/-- A RESET accepted for an instance (R58): fetching stops, its records in the open bead are withdrawn,
each job is treated by its stage. -/
def State.resetInstance (s : State) (n : Nat) : State :=
  let s := s.setInstState n .draining
  let s := s.withdrawOpen (fun r => r.inst == n && r.job.isSome)
  let s := (s.instJobs n).foldl (fun s e => s.resetJob e.1 e.2) s
  s.modInst n (fun i => { i with readsOut := i.readsOut + (if i.fetchRead.isEmpty then 0 else 1), fetchRead := [] })

/-- The drain of an instance is complete (R60). -/
def State.drained (s : State) (n : Nat) : Bool :=
  (s.inst n).readsOut == 0 && (s.instJobs n).isEmpty

end Sys2Proof.Machine
end

