-- ==== Sys2Proof/Machine/Engines.lean ====
section
/-! DEFINITION. The engines: states of the cores and their memories, lanes and their locks, which jobs
are ready, deficit round robin, nominal times, draws (R162, R265 to R274, R283 to R291, R299 to R308,
R321 to R328, R350). -/

namespace Sys2Proof.Machine

/-! ## Core states (R266, R283) -/

/-- Core state codes of BGN_Cn_STATUS and LAT_Cn_STATUS. -/
def csSpare : Nat := 0
/-- ACTIVE. -/
def csActive : Nat := 1
/-- HELD. -/
def csHeld : Nat := 2
/-- POLISHING. -/
def csPolishing : Nat := 3
/-- FENCED. -/
def csFenced : Nat := 4

/-- The two clusters of cores. -/
inductive ClusterId where
  | big | lat
  deriving DecidableEq, Repr

/-- Physical cores of a cluster (R265, R283). -/
def ClusterId.cores : ClusterId → Nat
  | .big => 34
  | .lat => 9

/-- The engine class of a cluster. -/
def ClusterId.engine : ClusterId → Engine
  | .big => .big
  | .lat => .lat

/-- STATE of a core. -/
def ClusterId.stateFld (k : ClusterId) (n : Nat) : Fld :=
  match k with
  | .big => .BGN_Cn_STATUS_STATE n
  | .lat => .LAT_Cn_STATUS_STATE n

/-- BUSY of a core. -/
def ClusterId.busyFld (k : ClusterId) (n : Nat) : Fld :=
  match k with
  | .big => .BGN_Cn_STATUS_BUSY n
  | .lat => .LAT_Cn_STATUS_BUSY n

/-- DONE of a core. -/
def ClusterId.doneFld (k : ClusterId) (n : Nat) : Fld :=
  match k with
  | .big => .BGN_Cn_STATUS_DONE n
  | .lat => .LAT_Cn_STATUS_DONE n

/-- REJECT of a core. -/
def ClusterId.rejectFld (k : ClusterId) (n : Nat) : Fld :=
  match k with
  | .big => .BGN_Cn_STATUS_REJECT n
  | .lat => .LAT_Cn_STATUS_REJECT n

/-- ERR of a core. -/
def ClusterId.errFld (k : ClusterId) (n : Nat) : Fld :=
  match k with
  | .big => .BGN_Cn_STATUS_ERR n
  | .lat => .LAT_Cn_STATUS_ERR n

/-- CYCLES of a core. -/
def ClusterId.cyclesFld (k : ClusterId) (n : Nat) : Fld :=
  match k with
  | .big => .BGN_Cn_CYCLES_CYCLES n
  | .lat => .LAT_Cn_CYCLES_CYCLES n

/-- EN of the cluster's interrupt register. -/
def ClusterId.irqFld (k : ClusterId) : Fld :=
  match k with
  | .big => .BGN_IRQ_EN
  | .lat => .LAT_IRQ_EN

/-- The interrupt source of a cluster (R384). -/
def ClusterId.irqSource : ClusterId → Nat
  | .big => 5
  | .lat => 6

/-- The cluster's memories and firmware operations. -/
def State.cluster (s : State) (k : ClusterId) : Cluster :=
  match k with
  | .big => s.engines.big
  | .lat => s.engines.lat

/-- Replaces them. -/
def State.setCluster (s : State) (k : ClusterId) (c : Cluster) : State :=
  match k with
  | .big => { s with engines := { s.engines with big := c } }
  | .lat => { s with engines := { s.engines with lat := c } }

/-- STATE of core `n` of a cluster. -/
def State.coreState (s : State) (k : ClusterId) (n : Nat) : Nat := s.get (k.stateFld n)

/-- The HOLD bit of a core. -/
def State.holdBit (s : State) (k : ClusterId) (n : Nat) : Bool :=
  match k with
  | .big => if n < 32 then nbit (s.get .BGN_HOLD_LO_HOLD) n else nbit (s.get .BGN_HOLD_HI_HOLD) (n - 32)
  | .lat => nbit (s.get .LAT_HOLD_HOLD) n

/-- The FENCE bit of a core. -/
def State.fenceBit (s : State) (k : ClusterId) (n : Nat) : Bool :=
  match k with
  | .big => if n < 32 then nbit (s.get .BGN_FENCE_LO_FENCE) n else nbit (s.get .BGN_FENCE_HI_FENCE) (n - 32)
  | .lat => nbit (s.get .LAT_FENCE_FENCE) n

/-- Jobs at work on a unit of an engine class. -/
def State.jobsOn (s : State) (e : Engine) (n : Nat) : List (Nat × Job) :=
  s.jobList.filter (fun x => x.2.unit == some (e, n))

/-- Whether a core runs nothing: no job and no firmware operation. -/
def State.coreIdle (s : State) (k : ClusterId) (n : Nat) : Bool :=
  (s.jobsOn k.engine n).isEmpty && (mget (fun _ => none) (s.cluster k).running n).isNone

/-- A core clears its whole memory, key-fed part included (R269, R284). -/
def State.clearCore (s : State) (k : ClusterId) (n : Nat) : State :=
  let c := s.cluster k
  s.setCluster k { c with mem := c.mem.filter (fun e => !(e.1 / 16384 == n)), keyFed := mset (fun _ => []) c.keyFed n [] }

/-- The counts of BGN_STATUS and LAT_STATUS follow the cores' states. -/
def State.showCluster (s : State) (k : ClusterId) : State :=
  let count (v : Nat) : Nat := ((List.range k.cores).filter (fun n => s.coreState k n == v)).length
  match k with
  | .big => (s.put .BGN_STATUS_ACTIVE (count csActive)).put .BGN_STATUS_SPARES (count csSpare)
  | .lat => (s.put .LAT_STATUS_ACTIVE (count csActive)).put .LAT_STATUS_SPARES (count csSpare)

/-- Moves a core to a state; its memory is cleared on every change (R269, R284). -/
def State.moveCore (s : State) (k : ClusterId) (n v : Nat) : State :=
  ((s.put (k.stateFld n) v).clearCore k n).showCluster k

/-! ## The key-fed slots (R269, R270) -/

/-- L of a pipeline operation in units of 256 bits (R270). -/
def slotUnits (type size : Nat) : Nat :=
  if type = 1 then size / 256
  else if type = 2 then (if size = 256 then 1 else if size = 384 then 2 else 3)
  else if size = 25519 then 1 else 2

/-- The values of the key-fed slots from slot N − 8 on, cut from a stored encoding (R216, R270). -/
def fedValues (type size : Nat) (enc : Bytes) : List Nat :=
  if enc.isEmpty then []
  else if type = 1 then
    let h := size / 16
    (List.range 7).map (fun i => beNat (slice enc (2 * h + 8 + h * i) h))
  else if type = 2 then [beNat (enc.take (keyEncLen 2 size))]
  else [leNat (enc.take (keyEncLen type size))]

/-- A core is set to the L of an operation, which clears its memory, and its key-fed slots are loaded (R269, R270). -/
def State.loadKey (s : State) (n type size : Nat) (enc : Bytes) : State :=
  let u := slotUnits type size
  let s := (s.put (.BGN_Cn_CFG_SLOT_UNITS n) u).clearCore .big n
  s.setCluster .big { s.engines.big with
    keyFed := mset (fun _ => []) s.engines.big.keyFed n ((fedValues type size enc).map (le (32 * u))).flatten }

/-! ## Known-answer tests (R533) -/

/-- A test: whether it takes a test key over the key bus, the TYPE and SIZE it works with, its time. -/
structure KnownTest where
  fed : Bool
  type : Nat
  size : Nat
  ns : Nat
  deriving DecidableEq, Repr

/-- The tests of a cluster's polishing sequence in order (R533): RSA-2048 CRT and public, ECDSA P-256 sign and verify,
Ed25519 sign, X25519, MR_ROUND; ML-KEM-768 key generation, encapsulation and two decapsulations, ML-DSA-65 key generation,
signing and verification, SHA3-256. -/
def ClusterId.tests : ClusterId → List KnownTest
  | .big => [⟨true, 1, 2048, 76000⟩, ⟨false, 1, 2048, 5000⟩, ⟨true, 2, 256, 27000⟩, ⟨false, 2, 256, 45000⟩,
      ⟨true, 3, 25519, 22100⟩, ⟨true, 4, 25519, 20000⟩, ⟨false, 1, 2048, 38000⟩]
  | .lat => [⟨false, 5, 768, 4000⟩, ⟨false, 5, 768, 3500⟩, ⟨true, 5, 768, 5000⟩, ⟨true, 5, 768, 5000⟩,
      ⟨false, 6, 65, 12000⟩, ⟨true, 6, 65, 12700⟩, ⟨false, 6, 65, 9100⟩, ⟨false, 0, 0, 100⟩]

/-- Whether a cluster is the lattice one. -/
def ClusterId.isLat : ClusterId → Bool
  | .big => false
  | .lat => true

/-- The test under way. -/
def State.setTest (s : State) (k : ClusterId) (t : Option Nat) : State := s.setCluster k { s.cluster k with test := t }

/-- A test is over: its setting is erased, the core's memory is clear (R533). -/
def State.quitTest (s : State) (k : ClusterId) (n : Nat) : State :=
  if (s.cluster k).test.isNone then s
  else
    let s := s.eraseRuns (fun r => r.handle == 0 && r.label == testLabel k.isLat)
    ((s.clearCore k n).setTest k none).putBit (k.busyFld n) false

/-- Test `i` begins (R533): its key fills a setting, DEST BIG or LAT only, and goes to the core over the key bus (R15). -/
def State.startTest (s : State) (k : ClusterId) (n i : Nat) : State :=
  match k.tests[i]? with
  | none => s
  | some t =>
    let s := (s.setTest k (some i)).putBit (k.busyFld n) true
    let key := if t.fed then Config.testKey k.isLat i else []
    let dest := engineDest k.engine
    let head := le 8 0 ++ le 1 t.type ++ zeros 1 ++ le 2 t.size ++ le 4 (privatePart t.type t.size key).length ++ zeros 48
    let r : Run :=
      { handle := 0, label := testLabel k.isLat, variant := 0, owner := 0, svn := s.svn, dest := dest, state := .shared,
        inst := 0, job := 0, settings := [], lastUse := 0, head := head, key := key, tags := [] }
    let (s, held) := if t.fed then s.fillRun r (runLength t.type t.size) else (s, false)
    let key := if held && permits r.dest k.engine then key else []
    match k with
    | .big => s.loadKey n t.type t.size key
    | .lat => s.setCluster .lat { s.engines.lat with keyFed := mset (fun _ => []) s.engines.lat.keyFed n key }

/-- Test `i` has ended after `ns` cycles, and the next begins (R533, R534). -/
def State.nextTest (s : State) (k : ClusterId) (n i ns : Nat) : State :=
  (((s.quitTest k n).put (k.cyclesFld n) ns).putBit (k.rejectFld n) false).startTest k n (i + 1)

/-- A core POLISHING leaves its sequence (R539). -/
def State.quitPolish (s : State) (k : ClusterId) (n : Nat) : State :=
  if s.coreState k n == csPolishing then s.quitTest k n else s

/-- A core enters POLISHING: the sequence begins. -/
def State.startPolish (s : State) (k : ClusterId) (n : Nat) : State := (s.moveCore k n csPolishing).startTest k n 0

/-! ## Following HOLD, FENCE and polishing -/

/-- BUSY of a cluster's polishing controller. -/
def ClusterId.polBusyFld : ClusterId → Fld
  | .big => .BGN_POL_STATUS_BUSY
  | .lat => .LAT_POL_STATUS_BUSY

/-- CORE of a cluster's polishing controller. -/
def ClusterId.polCoreFld : ClusterId → Fld
  | .big => .BGN_POL_STATUS_CORE
  | .lat => .LAT_POL_STATUS_CORE

/-- Whether the polishing controller has selected a core. -/
def State.polSelected (s : State) (k : ClusterId) (n : Nat) : Bool := s.bit k.polBusyFld && s.get k.polCoreFld == n

/-- The controller has no core any more, if it was this one. -/
def State.polLeave (s : State) (k : ClusterId) (n : Nat) : State :=
  if s.polSelected k n then s.putBit k.polBusyFld false else s

/-- A core follows its HOLD and FENCE bits, and its selection for polishing, once what it runs has ended (R266,
R532, R539). -/
def State.updateCore (s : State) (k : ClusterId) (n : Nat) : State :=
  let st := s.coreState k n
  if !s.coreIdle k n then s
  else if s.fenceBit k n && (st == csActive || st == csHeld || st == csPolishing) then
    ((s.quitPolish k n).moveCore k n csFenced).polLeave k n
  else if s.holdBit k n && st == csActive then (s.moveCore k n csHeld).polLeave k n
  else if !s.holdBit k n && st == csHeld then s.moveCore k n csActive
  else if st == csActive && s.polSelected k n && !s.halted then s.startPolish k n
  else s

/-- Every core follows its bits. -/
def State.updateCores (s : State) (k : ClusterId) : State :=
  (List.range k.cores).foldl (fun s n => s.updateCore k n) s

/-- A spare is promoted (R266); a number that is not a SPARE core's is ignored. -/
def State.promote (s : State) (k : ClusterId) (n : Nat) : State :=
  if n < k.cores && s.coreState k n == csSpare then
    let s := s.moveCore k n csActive
    let c := s.cluster k
    (s.setCluster k { c with promoted := insertBy (fun x => (x, 0)) n c.promoted }).updateCore k n
  else s

/-- A condition of a held core sets; an interrupt follows where enabled (R279, R295). -/
def State.coreIrq (s : State) (k : ClusterId) : State :=
  if s.bit k.irqFld then s.raiseIrq k.irqSource else s

/-- A write is refused: ERR (R280, R296). -/
def State.coreErr (s : State) (k : ClusterId) (n : Nat) : State :=
  (s.putBit (k.errFld n) true).coreIrq k

/-! ## Slots of operand memory (R267, R268) -/

/-- L of a core in bits. -/
def State.slotBits (s : State) (n : Nat) : Nat := 256 * s.get (.BGN_Cn_CFG_SLOT_UNITS n)

/-- N of a core. -/
def State.slotCount (s : State) (n : Nat) : Nat := 262144 / s.slotBits n

/-- The value of `words` 32-bit words from word `w` of a core's memory. -/
def State.memNat (s : State) (k : ClusterId) (n w words : Nat) : Nat :=
  (List.range words).foldr (fun i acc => (mget (fun _ => 0#32) (s.cluster k).mem (n * 16384 + w + i)).toNat + 2 ^ 32 * acc) 0

/-- Writes `words` 32-bit words. -/
def State.setMemNat (s : State) (k : ClusterId) (n w words v : Nat) : State :=
  let c := s.cluster k
  let m := (List.range words).foldl (fun m i =>
    mset (fun _ => 0#32) m (n * 16384 + w + i) (BitVec.ofNat 32 (v / 2 ^ (32 * i)))) c.mem
  s.setCluster k { c with mem := m }

/-- The value of slot `i` of a big-number core (R268); the last eight are key-fed (R267, R269). -/
def State.slot (s : State) (n i : Nat) : Nat :=
  let bytes := s.slotBits n / 8
  if i < s.slotCount n - 8 then s.memNat .big n (i * s.slotBits n / 32) (s.slotBits n / 32)
  else leNat (slice (mget (fun _ => []) s.engines.big.keyFed n) ((i - (s.slotCount n - 8)) * bytes) bytes)

/-- Writes slot `i`. -/
def State.setSlot (s : State) (n i v : Nat) : State :=
  s.setMemNat .big n (i * s.slotBits n / 32) (s.slotBits n / 32) v

/-- Octets of a lattice core's working memory. -/
def State.latBytes (s : State) (n off len : Nat) : Bytes :=
  slice (le (4 * (len / 4 + 2)) (s.memNat .lat n (off / 4) (len / 4 + 2))) (off % 4) len

/-- Writes octets to a lattice core's working memory; offset and length are multiples of 8 (R295). -/
def State.setLatBytes (s : State) (n off : Nat) (b : Bytes) : State :=
  s.setMemNat .lat n (off / 4) (ceilDiv b.length 4) (leNat b)

/-! ## Lanes (R301 to R308) -/

/-- Holder codes of R301. -/
def hcFree : Nat := 0
/-- Secure firmware. -/
def hcSecure : Nat := 0xF000
/-- Normal-world firmware. -/
def hcNormal : Nat := 0xF001
/-- The strand engine. -/
def hcStrand : Nat := 0xF0FF

/-- HOLDER of lane `n`. -/
def State.holder (s : State) (n : Nat) : Nat := s.get (.SYM_Ln_LOCK_HOLDER n)

/-- Whether a lane is held by firmware. -/
def fwHolder (h : Nat) : Bool := h == hcSecure || h == hcNormal

/-- Counts of SYM_STATUS follow the holders. -/
def State.showLanes (s : State) : State :=
  let count (p : Nat → Bool) : Nat := ((List.range 16).filter (fun n => p (s.holder n))).length
  let s := s.put .SYM_STATUS_FREE (count (· == hcFree))
  let s := s.put .SYM_STATUS_FW (count fwHolder)
  let s := s.put .SYM_STATUS_STRAND (count (· == hcStrand))
  s.put .SYM_STATUS_PIPE (count (fun h => 1 ≤ h && h ≤ 0x400))

/-- Sets HOLDER; STATE follows it (R301, R310). -/
def State.setHolder (s : State) (n h : Nat) : State :=
  let st := if h = hcFree then 0 else if fwHolder h then 2 else if h = hcStrand then 3 else 1
  ((s.put (.SYM_Ln_LOCK_HOLDER n) h).put (.SYM_Ln_STATUS_STATE n) st).showLanes

/-- Zeroes the IV and tag registers of a lane. -/
def State.zeroIvTag (s : State) (n : Nat) : State :=
  (List.range 4).foldl (fun s i => (s.put (.SYM_Ln_IV_WORD n i) 0).put (.SYM_Ln_TAG_WORD n i) 0) s

/-- A pipeline job's end on its lane: key, buffer, IV and tag are zeroed (R303, R310). -/
def State.wipeLane (s : State) (n : Nat) : State :=
  ((s.setLane n Lane.init).zeroIvTag n).putBit (.SYM_Ln_STATUS_STALLED n) false

/-- The pipeline's hold of a lane ends: a PENDING code takes it, else it is free (R302). -/
def State.freeLane (s : State) (n : Nat) : State :=
  let p := s.get (.SYM_Ln_LOCK_PENDING n)
  ((s.wipeLane n).put (.SYM_Ln_LOCK_PENDING n) 0).setHolder n p

/-- Lanes whose job is gone are freed: one of an instance that was reset (R58), or aborted. -/
def State.sweepLanes (s : State) : State :=
  (List.range 16).foldl (fun s n =>
    if 1 ≤ s.holder n && s.holder n ≤ 0x400 && (s.jobsOn .sym n).isEmpty then s.freeLane n else s) s

/-- Lanes the strand engine needs (R301; log entry 86): two while a strand is loading, one while a checkpoint's items are
sealed. -/
def State.strandLanesDue (s : State) : Nat :=
  if s.restore.state == .loading then 2
  else if s.strand.ckptRunning.any (fun c => !c.manifestWritten) then 1 else 0

/-- Lanes the strand engine holds. -/
def State.strandLanes (s : State) : List Nat := (List.range 16).filter (fun n => s.holder n == hcStrand)

/-- The strand engine's work begins on a lane, or is repeated there after a PURGE (R308): the checkpoint seal key arrives over
the key bus (R349). -/
def State.startStrandLane (s : State) (n : Nat) : State :=
  (s.setHolder n hcStrand).setLane n
    { key := (s.checkpointKey s.svn).getD [], loaded := true, buffer := [], running := true, stopped := false }

/-- The strand engine takes free lanes and gives up those it has done with; after ZEROISE it keeps what it holds (R301,
R302, R308). -/
def State.useStrandLanes (s : State) : State :=
  if s.zeroised || s.halted then s
  else
    let held := s.strandLanes
    let due := s.strandLanesDue
    let free := (List.range 16).filter (fun n => s.holder n == hcFree)
    let s := (held.drop due).foldl (fun s n => s.freeLane n) s
    let idle := (held.take due).filter (fun n => !(s.lane n).running)
    (idle ++ free.take (due - held.length)).foldl (fun s n => s.startStrandLane n) s

/-- The octets of a register window of `words` words. -/
def State.windowBytes (s : State) (f : Nat → Fld) (words : Nat) : Bytes :=
  ((List.range words).map (fun i => le 4 (s.get (f i)))).flatten

/-! ## Nominal times in nanoseconds -/

/-- RSA private operation (R273). -/
def rsaPrivNs (size : Nat) : Nat :=
  match size with
  | 2048 => 76000 | 3072 => 230000 | 4096 => 516000 | 6144 => 1550000 | _ => 3900000

/-- RSA public operation for an exponent of `b` bits with `w` ones (R273). -/
def rsaPubNs (size b w : Nat) : Nat :=
  let t := match size with
    | 2048 => 5000 | 3072 => 10000 | 4096 => 16000 | 6144 => 36000 | _ => 64000
  ceilDiv (t * (b + w - 2)) 17

/-- MR_ROUND on a prime of size/2 bits (R273). -/
def mrNs (size : Nat) : Nat :=
  match size with
  | 2048 => 38000 | 3072 => 115000 | 4096 => 258000 | 6144 => 775000 | _ => 1950000

/-- RSA_KEY_CHECK (R273). -/
def keyCheckNs (size : Nat) : Nat :=
  match size with
  | 2048 => 650000 | 3072 => 1900000 | 4096 => 4200000 | 6144 => 12500000 | _ => 31500000

/-- Key generation or import check of a curve key (R273). -/
def curveKeyNs (type size : Nat) : Nat :=
  if type = 2 then (if size = 256 then 25000 else if size = 384 then 65000 else 140000)
  else if type = 3 then (if size = 25519 then 20000 else 70000)
  else (if size = 25519 then 20000 else 75000)

/-- Signing with a curve key, `n` message octets (R273). -/
def curveSignNs (type size n : Nat) : Nat :=
  if type = 2 then (if size = 256 then 27000 else if size = 384 then 70000 else 150000)
  else if size = 25519 then 22000 + n else 80000 + ceilDiv (12 * n) 10

/-- Verifying with a curve key (R273). -/
def curveVerifyNs (type size n : Nat) : Nat :=
  if type = 2 then (if size = 256 then 45000 else if size = 384 then 115000 else 250000)
  else if size = 25519 then 48000 + ceilDiv n 2 else 170000 + ceilDiv (6 * n) 10

/-- Absorption of `n` octets at rate `r` (R290). -/
def absorbNs (n r : Nat) : Nat := (n / r + 1) * 48

/-- The rate of a Keccak function by the code of R124 (R291). -/
def keccakRate (code : Nat) : Nat :=
  match code with
  | 0x11 => 136 | 0x12 => 104 | 0x13 => 72 | 0x21 => 168 | _ => 136

/-- A SHA-3 or SHAKE computation (R291). -/
def keccakNs (code n out : Nat) : Nat :=
  absorbNs n (keccakRate code) + (ceilDiv out (keccakRate code) - 1) * 48

/-- ML-KEM key generation, encapsulation and decapsulation by `which` 0, 1, 2 (R288). -/
def mlkemNs (size which : Nat) : Nat :=
  let l := match size with
    | 512 => [3000, 2500, 3500] | 768 => [4000, 3500, 5000] | _ => [6000, 5000, 7000]
  l.getD which 0

/-- ML-DSA key generation (R288). -/
def mldsaKeyNs (size : Nat) : Nat := if size = 44 then 8000 else if size = 65 then 12000 else 17000

/-- ML-DSA verification without absorption (R288). -/
def mldsaVerifyNs (size : Nat) : Nat := if size = 44 then 6000 else if size = 65 then 9000 else 14000

/-- ML-DSA signing with `n` iterations, without absorption (R288). -/
def mldsaSignNs (size n : Nat) : Nat :=
  if size = 44 then 3200 + 2800 * n else if size = 65 then 4600 + 4000 * n else 6400 + 5600 * n

/-- The mean ML-DSA signing time, without absorption (R288): n of 4.25, 5.1 and 3.85. -/
def mldsaMeanNs (size : Nat) : Nat := if size = 44 then 15100 else if size = 65 then 25000 else 27960

/-- Input at 12.8 Gbit/s, rounded up (R162). -/
def inputNs (n : Nat) : Nat := ceilDiv (5 * n) 8

/-- T of R299 by lane mode: `n` input octets, `w` wrapped octets, `hash` for HMAC and hash. -/
def laneNs (mode hash n w : Nat) : Nat :=
  match mode with
  | 0x01 => inputNs n
  | 0x02 => inputNs n
  | 0x03 => inputNs n + 20
  | 0x04 => inputNs n + 40
  | 0x05 => inputNs n + 60
  | 0x06 => inputNs n + 40
  | 0x07 => inputNs n + 20
  | 0x08 => inputNs n + 40
  | 0x09 => inputNs n + (if hash = 1 then 120 else 240)
  | 0x0A => 60 * (w / 8 - 1)
  | 0x0B => if w = 16 then 10 else 60 * (w / 8 - 1)
  | _ => inputNs n + (if hash = 1 then 40 else 80)

/-- A generate call of `n` octets (R162, R322): 8 Gbit/s, and 1,200 ns for prediction resistance. -/
def drawNs (n : Nat) (pr : Bool) : Nat := n + (if pr then 1200 else 0)

/-- KEY_DERIVE (R117, R350): blocks of output, each of (m + 1) × 40 ns; `msg` octets of one block's
message; `cached` whether the parent's HMAC states are. -/
def deriveNs (size msg : Nat) (cached : Bool) : Nat :=
  let m := ceilDiv (msg + 17) 128
  ceilDiv size 512 * ((m + 1) * 40) + (if cached then 0 else 80)

/-! ## Draws (R126, R287) -/

/-- Octets of a job's first draw; 0 when it draws nothing (R126, R275, R287). -/
def Job.drawLen (j : Job) : Nat :=
  let size := (j.target.map (·.size)).getD 0
  let det := nbit (j.inl 58 1) 1
  if j.op = opKeyGenerate then
    match j.newType with
    | 0x01 => j.newSize / 16
    | 0x02 => if j.newSize = 256 then 40 else if j.newSize = 384 then 56 else 74
    | 0x05 => 64
    | 0x0B => 0
    | t => keyEncLen t j.newSize
  else if j.op = opSign then
    match j.inl 56 1 with
    | 0x02 => j.inl 60 2
    | 0x10 => if det then 0 else if size = 256 then 40 else if size = 384 then 56 else 74
    | 0x30 => if det then 0 else 32
    | 0x31 => if det then 0 else 32
    | _ => 0
  else if j.op = opAsymEncrypt then digestLen (j.inl 57 1)
  else if j.op = opEncaps then 32
  else if j.op = opAeadSeal then (if j.inl 59 1 = 1 then 12 else 0)
  else if j.op = opRandom then j.outputCap
  else if j.op = opAttest then 64
  else if j.op = opKeyExport then (if j.inl 56 1 = 2 then 12 else 0)
  else 0

/-- The random octets an ML-DSA signing takes: its draw, or 32 zero octets (R131). -/
def Job.sigRnd (j : Job) : Bytes := j.rnd.getD (zeros 32)

/-- Iterations an ML-DSA signing runs, before the limit of R289. -/
def Job.iterations (j : Job) : Nat :=
  Config.mldsaIterations (j.keyKind j.target).2 ((j.target.map (·.enc)).getD []) j.sigRnd (j.string ++ j.input.getD [])

/-- Whether the generate call needs prediction resistance (R146). -/
def Job.predRes (j : Job) : Bool := j.op == opRandom && nbit (j.inl 56 1) 0

/-! ## Readiness (R75, R78, R79, R161) -/

/-- Whether every operand of a job is present and nothing holds it in PREPARING. -/
def Job.prepared (j : Job) : Bool :=
  j.looked && j.unsealing.isEmpty && j.reads == 0 && (j.inputLen == 0 || j.input.isSome) &&
    (j.blockLen == 0 || j.param.isSome) && j.destroyWait.isEmpty && !j.squash && j.forced.isNone && j.stamp.isNone

/-- Whether barriers permit a job to start (R79). -/
def State.barrierOpen (s : State) (j : Job) : Bool :=
  s.jobList.all (fun e => e.2.inst != j.inst || e.2.gen != j.gen || e.2.order ≥ j.order || !e.2.live ||
    (!j.barrier && !e.2.barrier))

/-- Whether the jobs a job depends on can supply what it needs: their own rules have run (R75). -/
def State.depsReady (s : State) (j : Job) : Bool :=
  j.deps.all (fun d => match s.job d with
    | some x => x.ended || x.stamp.isSome
    | none => true)

/-- Whether a job may start (R75, R78, R79). -/
def State.mayStart (s : State) (j : Job) : Bool :=
  j.prepared && s.barrierOpen j && s.depsReady j && !s.halted && !s.zeroised

/-- Whether a job's own command can be worked out: everything it takes is present. -/
def State.readyToPlan (s : State) (j : Job) : Bool :=
  j.stage == .preparing && j.plan.isNone && s.mayStart j && (j.drawLen == 0 || j.rnd.isSome)

/-- Whether a job waits for random numbers (R62): its first draw, or a later one. -/
def State.waitsDraw (s : State) (j : Job) : Bool :=
  (j.stage == .preparing && j.plan.isNone && s.mayStart j && j.drawLen != 0 && j.rnd.isNone) ||
    ((j.stage == .running || j.stage == .denying) && !j.ended && j.unit.isNone && !s.halted &&
      (j.steps.head?.map (fun x => x.1 == .rng)).getD false)

/-- Whether the pool holds a reseed's samples beyond those that scheduled reseeds are to take first (R322). -/
def State.poolSpare (s : State) : Bool := s.rng.pool ≥ 1024 * (1 + (s.rng.drbgs.filter (·.due)).length)

/-- Whether a job is ready for an engine (R161). A draw with prediction resistance waits while reseeding is
stopped or the pool is short (R322, R328); a quote's waits for the attestation key (R154). -/
def State.readyFor (s : State) (e : Engine) (j : Job) : Bool :=
  if e = .rng then
    s.waitsDraw j && !(j.op == opAttest && s.ladder.attest.isNone) &&
      !(j.plan.isNone && j.predRes && (s.rng.stopped || !s.poolSpare))
  else
    j.plan.isSome && !j.ended && j.unit.isNone && (j.steps.head?.map (fun x => x.1 == e)).getD false &&
      !s.halted && !s.zeroised &&
      (if j.started then (j.stage == .running || j.stage == .denying) && !j.squash && j.forced.isNone && j.unsealing.isEmpty
       else j.stage == .preparing && s.mayStart j)

/-- Whether a job is an ML-DSA verification on a lattice core (R284). -/
def Job.mldsaVerify (j : Job) : Bool := j.op == opVerify && (j.keyKind j.target).1 == 6

/-- time(j) of R162. -/
def State.chargedNs (_s : State) (e : Engine) (j : Job) : Nat :=
  match e with
  | .sym => inputNs j.inputLen
  | .rng =>
    if j.plan.isNone then drawNs j.drawLen j.predRes else (j.steps.head?.map (·.2)).getD 0
  | .lat =>
    let t := (j.steps.head?.map (·.2)).getD 0
    if j.op = opSign && (j.keyKind j.target).1 = 6 then
      let size := (j.keyKind j.target).2
      t - mldsaSignNs size (min 1000 j.iterations) + mldsaMeanNs size
    else t
  | _ => (j.steps.head?.map (·.2)).getD 0

/-! ## Deficit round robin (R162) -/

/-- The place of an engine class in the deficit and quantum lists. -/
def Engine.place : Engine → Nat
  | .big => 0 | .lat => 1 | .sym => 2 | .rng => 3 | _ => 4

/-- The first ready job of each instance, in fetch order. -/
def State.readyJobs (s : State) (e : Engine) : List (Nat × Job) :=
  let l := s.jobsInOrder.filter (fun x => s.readyFor e x.2)
  l.filter (fun x => (l.find? (fun y => y.2.inst == x.2.inst)).map (·.1) == some x.1)

/-- What each instance with a ready job offers: its job, its turns from the instance served last, how
many quanta its job still needs. -/
structure Offer where
  job : Nat
  inst : Nat
  turns : Nat
  pos : Nat
  ns : Nat
  deriving DecidableEq, Repr

/-- The offers for an engine class; the instance now served needs no further quantum while its deficit
covers its next job. -/
def State.offers (s : State) (e : Engine) : List Offer :=
  let cur := s.share.turn.getD e.place 0
  (s.readyJobs e).map (fun x =>
    let i := x.2.inst
    let t := s.chargedNs e x.2
    let d := (s.sched i).deficit.getD e.place 0
    let wq := (s.sched i).weight * s.share.quanta.getD e.place 1
    let again := i == cur && t ≤ d
    { job := x.1, inst := i, ns := t,
      turns := if again then 0 else max 1 (ceilDiv (t - d) wq),
      pos := if again then 0 else (i + 1024 - cur - 1) % 1024 + 1 })

/-- Dispatch of the offer whose turn comes first: deficits rise by the quanta of the rounds gone by, the
job's time is taken from its instance's, and those of instances left with no ready job are 0 at once. -/
def State.applyOffer (s : State) (e : Engine) (l : List Offer) (o : Offer) : State :=
  let p := e.place
  let active (n : Nat) : Bool := l.any (fun x => x.inst == n)
  let last := !(s.jobList.any (fun x => x.1 != o.job && x.2.inst == o.inst && s.readyFor e x.2))
  let wq (n : Nat) : Nat := (s.sched n).weight * s.share.quanta.getD p 1
  let sc := s.scheds.map (fun x => if active x.1 then x else (x.1, { x.2 with deficit := x.2.deficit.set p 0 }))
  let sc := sc.filter (fun x => !(decide (x.2 = Sched.init)))
  let s := { s with scheds := sc, share := { s.share with turn := s.share.turn.set p o.inst } }
  l.foldl (fun s x =>
    let d := (s.sched x.inst).deficit.getD p 0
    let k := if x.inst == o.inst then o.turns else if x.pos < o.pos then o.turns else o.turns - 1
    let d := if x.inst != o.inst then d + k * wq x.inst else if last then 0 else d + k * wq x.inst - o.ns
    s.modSched x.inst (fun c => { c with deficit := c.deficit.set p d })) s

/-- The ready job whose turn it is, with the state after its dispatch is charged. Jobs of the derivation
unit are served in the order they become ready (R117). -/
def State.pick (s : State) (e : Engine) : Option (Nat × State) :=
  if e = .kdf then
    match (sortBy (fun (x : Nat × Job) => (x.2.readySeq, 0)) (s.jobList.filter (fun x => s.readyFor e x.2))).head? with
    | some x => some (x.1, s)
    | none => none
  else
    let l := s.offers e
    match (sortBy (fun (o : Offer) => (o.turns, o.pos)) l).head? with
    | some o => some (o.job, s.applyOffer e l o)
    | none => none

/-! ## Free units -/

/-- The lowest-numbered unit offered to a job; `shareable` the lattice cores whose verify job has run
its issue interval (R284).  A block whose
clock or power is off, or ordered off, offers nothing (R520). -/
def State.freeUnit (s : State) (e : Engine) (j : Job) (shareable : List Nat) : Option Nat :=
  let on (b : Nat) : Bool := s.get (.PWR_GATEb_STATE b) == 0 && (mget (fun _ => none) s.power.orders b).isNone
  match e with
  | .big => (List.range 34).find? (fun n => on 0 && s.coreState .big n == csActive && s.coreIdle .big n)
  | .lat => (List.range 9).find? (fun n => on 1 && s.coreState .lat n == csActive &&
      (s.coreIdle .lat n || (j.mldsaVerify && shareable.contains n && (s.jobsOn .lat n).length == 1 &&
        (s.jobsOn .lat n).all (fun x => x.2.mldsaVerify))))
  | .sym => (List.range 16).find? (fun n => on (2 + n / 8) && s.holder n == hcFree && s.get (.SYM_Ln_LOCK_PENDING n) == 0)
  | .kdf => if (s.jobsOn .kdf 0).isEmpty then some 0 else none
  | _ => none

/-! ## Keys for the units (R15, R349) -/

/-- The object whose private part a step of a job on an engine class takes: the wrapping key of an export or import, else
PRIMARY's, on the units its TYPE's keys go to. -/
def Job.stepObj (j : Job) (e : Engine) : Option Obj :=
  let o := if j.op == opKeyExport || j.op == opKeyImport then j.second
    else if j.op == opOwnerApprove || j.op == opAttest || j.publicKeyOp then none
    else j.target
  match o with
  | some x => if permits (typeDest x.type) e then some x else none
  | none => none

/-- Whether a step of a job is wrapped or opened under the owner's export-wrap class key (R349). -/
def Job.exportStep (j : Job) (e : Engine) : Bool :=
  e == .sym && ((j.op == opKeyExport && j.inl 56 1 == 2) || (j.op == opKeyImport && j.inl 60 1 == 2))

/-- The run a step of a job on an engine class reads: a pinned one, a node, an object's. -/
def State.stepRun (s : State) (j : Job) (e : Engine) : Option Run :=
  if j.op == opAttest then
    (if e = .big then s.ladder.runs.find? (fun r => r.handle == 0 && r.label == attestLabel) else none)
  else if j.exportStep e then
    s.ladder.runs.find? (fun r => r.handle == 0 && r.label == labExport && r.owner == s.boundOwner j.inst)
  else (j.stepObj e).bind (fun o => s.findRun o.handle j.inst)

/-- The handle whose key a step takes. -/
def State.stepHandle (_s : State) (j : Job) (e : Engine) : Nat := ((j.stepObj e).map (·.handle)).getD 0

/-- Whether a step has no run to read though its object was unsealed for it: the run was replaced since (R348). A job
refused, squashed or damaged reads none (R74, R81, R240). -/
def State.runLost (s : State) (j : Job) (e : Engine) : Bool :=
  (j.stepObj e).isSome && (s.stepRun j e).isNone && j.refused.isEmpty && !j.squash && j.forced.isNone && !j.damaged

/-- Whether the condition of R349 on a unit holds beside the mask: what it is delivered to runs this job and is not
BUSY. -/
def State.unitTakes (s : State) (e : Engine) (n : Nat) : Bool :=
  match e with
  | .big => !s.bit (.BGN_Cn_STATUS_BUSY n)
  | .lat => (s.jobsOn .lat n).isEmpty
  | .sym => !(s.lane n).running
  | _ => true

/-- A step's key over the key bus (R15, R349): of its run, where its mask permits the unit; a delivery that would break a
condition is refused and counted. A job whose settings a refusal erased had its key before (R81). -/
def State.deliver (s : State) (j : Job) (e : Engine) (n : Nat) : Bytes × State :=
  let s := if j.exportStep e then s.useExport (s.boundOwner j.inst) else s
  match s.stepRun j e with
  | some r =>
    if permits r.dest e && s.unitTakes e n then (r.key, s.touchRuns (· == r)) else ([], s.count .KLD_REFUSED_COUNT)
  | none => (if j.damaged then [] else ((j.stepObj e).map (·.enc)).getD [], s)

/-- TYPE and SIZE of the key a job's big-number operation works with: of its object or input, of the key it makes or
imports, of the approver, of the attestation key. -/
def State.bigKind (s : State) (j : Job) : Nat × Nat :=
  if j.op = opKeyGenerate || j.op = opKeyImport then (j.newType, j.newSize)
  else if j.op = opAttest then (1, 4096)
  else if j.op = opOwnerApprove then
    (if fieldLE (s.approver (s.boundOwner j.inst) (fieldLE (j.input.getD []) 11 1)) 0 1 = 1 then (1, 4096) else (2, 384))
  else j.keyKind j.target

/-- A core is set to the L of a job's operation and its key-fed slots are loaded. -/
def State.loadCore (s : State) (n : Nat) (j : Job) (enc : Bytes) : State :=
  let (t, z) := s.bigKind j
  s.loadKey n t z enc

/-- A job takes a unit: the key is delivered, a lane takes its instance's holder code (R15, R301, R349). -/
def State.occupy (s : State) (id : Nat) (j : Job) (e : Engine) (n : Nat) : State :=
  let (key, s) := s.deliver j e n
  let s := s.setJob id (some { j with unit := some (e, n), started := true, stepTick := s.time.tick,
                                      stage := if j.stage == .preparing then
                                        (if j.refused.isEmpty then .running else .denying) else j.stage })
  match e with
  | .big => (s.loadCore n j key).putBit (.BGN_Cn_STATUS_BUSY n) true
  | .lat => (s.putBit (.LAT_Cn_STATUS_BUSY n) true).setCluster .lat { s.engines.lat with keyFed := mset (fun _ => []) s.engines.lat.keyFed n key }
  | .sym => (s.setHolder n (j.inst + 1)).setLane n { key := key, loaded := !key.isEmpty, buffer := [], running := true, stopped := false }
  | _ => s

/-- A unit a job has done with: a core clears its memory and follows its bits (R266, R269). -/
def State.leaveCore (s : State) (e : Engine) (n : Nat) : State :=
  match e with
  | .big => ((s.putBit (.BGN_Cn_STATUS_BUSY n) false).clearCore .big n).updateCore .big n
  | .lat => if (s.jobsOn .lat n).isEmpty then ((s.putBit (.LAT_Cn_STATUS_BUSY n) false).clearCore .lat n).updateCore .lat n else s
  | _ => s

end Sys2Proof.Machine
end

