-- ==== Sys2Proof/Machine/Alarm.lean ====
section
/-! DEFINITION. Alarms and their responses (R409 to R427): which response an alarm gets, its record, and
what NOTE, THROTTLE, HALT, PURGE and ZEROISE do to the block. -/

namespace Sys2Proof.Machine

/-! ## Sources and configured responses (R409) -/

/-- Responses by rank (R417). -/
def rNote : Nat := 0
/-- THROTTLE. -/
def rThrottle : Nat := 1
/-- HALT. -/
def rHalt : Nat := 2
/-- PURGE. -/
def rPurge : Nat := 3
/-- ZEROISE. -/
def rZeroise : Nat := 4

/-- Responses a source permits (R409). -/
def permitted (src : Nat) : List Nat :=
  if src < 8 then [3, 4]
  else if src < 12 then [2, 3, 4]
  else if src < 16 then [0, 1, 2, 3, 4]
  else match src with
    | 16 => [0] | 17 => [2] | 18 => [0, 1, 2] | 19 => [2, 3, 4] | 20 => [4] | 21 => [4] | 22 => [3] | 23 => [2, 3, 4]
    | _ => []

/-- The default response of a source (R409). -/
def defaultResp (src : Nat) : Nat :=
  if src < 8 then 4
  else if src < 12 then 3
  else if src < 16 then 2
  else match src with
    | 16 => 0 | 17 => 2 | 18 => 0 | 19 => 3 | 20 => 4 | 21 => 4 | 22 => 3
    | _ => 0

/-- The configured response of a source (R427). -/
def State.respOf (s : State) (src : Nat) : Nat := mget defaultResp s.alarm.resp src

/-- A mask with the bits of a list of sources. -/
def maskOf (l : List Nat) : Nat := l.foldl (fun m i => setNbit m i true) 0

/-- The greatest of a list of numbers. -/
def maxOf (l : List Nat) : Nat := l.foldl max 0

/-! ## What the registers show -/

/-- The response now in force (R425): a THROTTLE, a HALT, a PURGE until HALT is cleared, a ZEROISE. -/
def State.inForce (s : State) : Nat :=
  if s.zeroised then rZeroise
  else if s.bit .ALM_STATUS_PURGING then rPurge
  else if s.halted then max rHalt s.alarm.halt
  else if s.bit .ALM_STATUS_THROTTLED then rThrottle
  else rNote

/-- ALARM_N is driven low (R425). -/
def State.showAlarmN (s : State) : State :=
  let low := (s.inForce ≥ s.alarm.alarmnMin && s.inForce > 0) || s.alarm.log.any (·.zeroised)
  s.putBit .ALM_STATUS_ALARMN low

/-- The registers that present the BBRAM alarm area and the loops (R428). -/
def State.showAlarm (s : State) : State :=
  let resp (k : Nat) : Nat := (List.range 8).foldr (fun i acc => s.respOf (8 * k + i) % 8 + 16 * acc) 0
  let s := s.put .ALM_LOOP_STATUS_ARMED s.alarm.armed
  let s := s.put .ALM_ALARMN_MIN s.alarm.alarmnMin
  let s := (List.range 3).foldl (fun s k => s.put (.ALM_RESPk_RESP k) (resp k)) s
  s.showAlarmN

/-- Sets or clears the asserted bit of a level source. -/
def State.assertLevel (s : State) (src : Nat) (on : Bool) : State :=
  s.put .ALM_ASSERTED_LEVEL (setNbit (s.get .ALM_ASSERTED_LEVEL) src on)

/-- A clock monitor arms or is disarmed (R414, R428): its windows start anew, and a disarmed monitor asserts
nothing. -/
def State.armMonitor (s : State) (c : Nat) (on : Bool) : State :=
  let s := s.put .ALM_CLK_STATUS_ARMED (setNbit (s.get .ALM_CLK_STATUS_ARMED) c on)
  let s := s.put .ALM_CLK_STATUS_OUT_OF_RANGE (setNbit (s.get .ALM_CLK_STATUS_OUT_OF_RANGE) c false)
  let s := (s.put (.ALM_CLK_DEVc_DEV c) 0).assertLevel (8 + c) false
  { s with alarm := { s.alarm with outside := mset (fun _ => 0) s.alarm.outside c 0, inside := mset (fun _ => 0) s.alarm.inside c 0 } }

/-! ## Responses (R88, R282, R298, R308, R417) -/

/-- THROTTLE: admission stops until the increment that ends the next whole tick (R417). `atInc` when
decided in the cycle of an increment. -/
def State.throttle (s : State) (atInc : Bool) : State :=
  let e := s.time.tick + (if atInc then 1 else 2)
  let e := match s.alarm.throttleEnd with
    | some x => max x e
    | none => e
  { s.putBit .ALM_STATUS_THROTTLED true with alarm := { s.alarm with throttleEnd := some e } }

/-- The step a job is at is interrupted: the part of its time that has run, which the manual leaves open, adds to the
job's engine time (R87, log entry 64). -/
def State.interrupt (s : State) (id : Nat) (j : Job) : State :=
  match j.unit, j.steps with
  | some _, (_, t) :: _ =>
    let (v, s) := s.freshNat
    s.modJob id (fun j => { j with busyNs := j.busyNs + v % (t + 1) })
  | _, _ => s

/-- A HALT stops an engine's work on a job: the job will end ALARM_ABORT, and detached work has ended, its time charged
in that cycle (R87, R88). -/
def State.haltJob (s : State) (id : Nat) (j : Job) : State :=
  if !j.started || j.ended || j.stamp.isSome then s
  else
    let s := s.interrupt id j
    if j.live then s.modJob id (fun j => { j with forced := some (.alarmAbort, 0x0C01), ended := true })
    else (s.chargeWaste j.cls (((s.job id).map (·.busyNs)).getD 0)).modJob id (fun j => { j with ended := true })

/-- A copy DMA channel ends (R404): DONE, or ERR for a refusal, STOP or an alarm; its source is raised. -/
def State.dmaEnd (s : State) (c : Nat) (ok : Bool) : State :=
  let s := { s with worlds := { s.worlds with dmaRuns := mset (fun _ => none) s.worlds.dmaRuns c none } }
  let s := (s.putBit (.WLD_DMAc_STATUS_BUSY c) false).putBit (if ok then .WLD_DMAc_STATUS_DONE c else .WLD_DMAc_STATUS_ERR c) true
  s.raiseIrq (21 + c)

/-- HALT: engines, pipeline draws and copy DMA stop, the Locket releases nothing (R417). -/
def State.haltNow (s : State) : State :=
  let s := { s.putBit .ALM_STATUS_HALTED true with alarm := { s.alarm with halt := max rHalt s.alarm.halt } }
  let s := s.jobsInOrder.foldl (fun s e => s.haltJob e.1 e.2) s
  let stop (c : Cluster) : Cluster :=
    { c with stopped := distinct (c.stopped ++ mkeys c.running (fun _ v => v.isSome)) }
  let s := { s with engines := { s.engines with big := stop s.engines.big, lat := stop s.engines.lat } }
  let stopLane (e : Nat × Lane) : Nat × Lane := (e.1, { e.2 with stopped := e.2.stopped || e.2.running })
  let s := { s with engines := { s.engines with
    lanes := s.engines.lanes.map stopLane } }
  let s := (List.range 4).foldl (fun s c =>
    if s.bit (.WLD_DMAc_STATUS_BUSY c) then
      s.dmaEnd c false
    else s) s
  let s := (s.quitPolish .big (s.get .BGN_POL_STATUS_CORE)).quitPolish .lat (s.get .LAT_POL_STATUS_CORE)
  s.refreshDeviceState

/-- PURGE: HALT, and every job of the Locket is to end ALARM_ABORT; records of aborted jobs leave the
open bead at once (R88). -/
def State.purgeNow (s : State) : State :=
  let s := s.haltNow.putBit .ALM_STATUS_PURGING true
  let s := { s with alarm := { s.alarm with halt := rPurge } }
  let s := s.withdrawOpen (fun r => r.job.isSome)
  let open' := s.strand.openBead.num
  let purge (j : Job) : Job :=
    if j.live then
      { j with forced := some (.alarmAbort, 0x0C02), ended := true, output := [],
               joined := if j.joined = some open' then none else j.joined }
    else j
  let s := { s with jobs := s.jobs.map (fun (e : Nat × Option Job) => (e.1, e.2.map purge)) }
  if s.engines.akey.isSome then
    ({ s with engines := { s.engines with akey := none } }.putBit .BGN_AKEY_STATUS_BUSY false).putBit .BGN_AKEY_STATUS_FAILED true
  else s

/-- ZEROISE: HALT, records not sealed are withdrawn (R207), the hardware zeroise line starts to erase (R417), and the
scramble keys are gone in this cycle (R236). -/
def State.zeroiseNow (s : State) : State :=
  let s := s.haltNow.putBit .ALM_STATUS_ZEROISED true
  let s := (s.putBit .ALM_STATUS_PURGING false).withdrawAll.endAgents
  let unjoin (j : Job) : Job := { j with joined := j.joined.filter s.sealedBead }
  let s := { s with jobs := s.jobs.map (fun (e : Nat × Option Job) => (e.1, e.2.map unjoin)) }
  { s with alarm := { s.alarm with zeroising := true }, ladder := { s.ladder with scrambleTable := [] } }

/-- Applies a response. -/
def State.applyResponse (s : State) (r : Nat) (atInc : Bool) : State :=
  match r with
  | 1 => if s.halted then s else s.throttle atInc
  | 2 => s.haltNow
  | 3 => s.purgeNow
  | 4 => s.zeroiseNow
  | _ => s

/-! ## Deciding an alarm (R410, R419, R420) -/

/-- Event code of a response (R420). -/
def alarmCode (r : Nat) : Nat := 0x0201 + r

/-- Severity of a response's record (R420). -/
def alarmSeverity (r : Nat) : Nat :=
  match r with
  | 0 => sevNotice | 1 => sevWarning | 2 => sevAlarm | 3 => sevAlarm | _ => sevCritical

/-- Alarms decided in one cycle, with the response each is to get: one record with every cause, the
strongest response, counts and last ticks by source. -/
def State.alarms (s : State) (l : List (Nat × Nat)) (atInc : Bool) : State :=
  if l.isEmpty || s.lifeCycle ≥ lcScrap then s
  else
    let srcs := l.map (·.1)
    let mask := maskOf srcs
    let r := maxOf (l.map (·.2))
    let t := s.time.tick
    let al := srcs.foldl (fun (a : Alarm) i =>
      { a with counts := mmod (fun _ => 0) a.counts i sat32, lastTick := mset (fun _ => 0) a.lastTick i t }) s.alarm
    let s := { s with alarm := al }
    let s := s.put .ALM_CAUSE_CAUSE (s.get .ALM_CAUSE_CAUSE ||| mask)
    if s.zeroised || s.lifeCycle == lcBlank || s.lifeCycle == lcAnalysis then
      s.event 0x0206 (if r = rZeroise then sevCritical else sevWarning) mask []
    else
      let s := s.event (alarmCode r) (alarmSeverity r) mask []
      let s := s.put .ALM_STATUS_LAST r
      let s := if r ≥ rThrottle then s.wakeNap 5 else s
      let s := if r = rNote then s else (s.hostEvent .HST_EVENT_ALARM).raiseIrq 1
      (s.applyResponse r atInc).showAlarmN

/-- Alarm sources decided in one cycle at their configured responses. -/
def State.alarm' (s : State) (srcs : List Nat) : State := s.alarms (srcs.map (fun i => (i, s.respOf i))) false

/-! ## Erasures (R34, R417) -/

/-- What PURGE and ZEROISE both erase: lanes, operand and working memories, settings 0 to 8,191. -/
def State.eraseEngines (s : State) : State :=
  let s := (List.range 34).foldl (fun s n => s.clearCore .big n) s
  let s := (List.range 9).foldl (fun s n => s.clearCore .lat n) s
  let fwErr (k : ClusterId) (s : State) : State :=
    let ns := mkeys (s.cluster k).running (fun _ v => v.isSome)
    let s := s.setCluster k { s.cluster k with running := [], stopped := [] }
    let s := ns.foldl (fun s n => (s.putBit (k.busyFld n) false).coreErr k n) s
    (List.range k.cores).foldl (fun s n => s.updateCore k n) s
  let s := fwErr .lat (fwErr .big s)
  let s := (List.range 16).foldl (fun s n =>
    let l := s.lane n
    let s := s.wipeLane n
    if l.running && fwHolder (s.holder n) || s.holder n == hcStrand && l.running then s.putBit (.SYM_Ln_STATUS_ABORT n) true else s) s
  { s with ladder := { s.ladder with runs := [], roots := [], attest := none },
           lcs := { s.lcs with idLoaded := false, endorsement := [] } }

/-- Firmware operations a HALT stopped end with ERR, their result slot zeroed; lanes set ABORT (R282,
R298, R308). -/
def State.clearStopped (s : State) : State :=
  let core (k : ClusterId) (s : State) : State :=
    (s.cluster k).stopped.foldl (fun s n =>
      let s := match k with
        | .big => s.setSlot n (s.get (.BGN_Cn_ARG1_D n)) 0
        | .lat => s
      let c := s.cluster k
      let s := s.setCluster k { c with running := mset (fun _ => none) c.running n none, stopped := c.stopped.filter (· != n) }
      ((s.putBit (k.busyFld n) false).coreErr k n).updateCore k n) s
  let s := core .lat (core .big s)
  (List.range 16).foldl (fun s n =>
    let l := s.lane n
    if l.stopped then
      let s := s.putBit (.SYM_Ln_STATUS_ABORT n) true
      let s := s.setLane n { l with stopped := false, running := false, buffer := [] }
      if s.holder n == hcSecure && s.bit .SYM_IRQ_S_EN then s.raiseIrq 7
      else if s.holder n == hcNormal && s.bit .SYM_IRQ_NS_EN then s.raiseIrq 8 else s
    else s) s

end Sys2Proof.Machine
end

