-- ==== Sys2Proof/Machine/HostPort.lean ====
section
/-! DEFINITION. The host port: resets, Bus Master Enable, the admin mailbox's registers, MSI-X,
doorbells, submission fetch and DMA reads (R37, R38, R41 to R52, R83, R85, R164). -/

namespace Sys2Proof.Machine

/-! ## The endpoint's fixed properties (R36) -/

/-- What the endpoint announces in its configuration space, and the link it trains to. -/
structure Endpoint where
  vendorId : Nat
  deviceId : Nat
  classCode : Nat
  functions : Nat
  bar0Log2 : Nat
  bar2Log2 : Nat
  msixVectors : Nat
  pasidWidth : Nat
  outstanding : Nat
  maxPayload : Nat
  maxRead : Nat
  linkRates : List Nat
  linkWidths : List Nat
  aer : Bool
  ecrc : Bool
  aspmL1 : Bool
  serial : Nat
  deriving DecidableEq, Repr

/-- The properties of R36: BAR0 of 1 MiB and BAR2 of 4 MiB, 10-bit tags with 768 requests outstanding, link rates by
the codes of 0x2000:01, the Device Serial Number capability. -/
def endpoint : Endpoint :=
  { vendorId := 0x1D9C, deviceId := 0x0880, classCode := 0x108000, functions := 1, bar0Log2 := 20, bar2Log2 := 22,
    msixVectors := 2048, pasidWidth := 20, outstanding := 768, maxPayload := 512, maxRead := 4096,
    linkRates := [1, 2, 3, 4, 5], linkWidths := [1, 2, 4, 8], aer := true, ecrc := false, aspmL1 := true,
    serial := Config.fuseSerial }

/-- Whether a programmed payload or read request size is one the base specification encodes and the device supports:
128 bytes doubled, up to `most` (R36; log entry 54). -/
def sizeSupported (most n : Nat) : Bool := n ≤ most && [128, 256, 512, 1024, 2048, 4096].contains n

/-- The completion timeout codes of ranges A and B, and the default one (R36; log entry 54). -/
def timeoutCodes : List Nat := [0, 1, 2, 5, 6]

/-- A failed read is reported through AER (R38). -/
def State.reportAer (s : State) (r : DmaResult) : State :=
  let add (e : AerError) : State := { s with host := { s.host with aer := s.host.aer ++ [e] } }
  match r with
  | .data _ => s
  | .urOrCa => add .unsupportedOrAbort
  | .poisoned => add .poisoned
  | .timeout => add .completionTimeout

/-- Sends the messages that are pending and no longer masked (R44). -/
def State.sendPending (s : State) : State :=
  if s.host.bme = false then s
  else
    let due := s.host.msixPend.filter (fun v => !s.vectorMasked v)
    due.foldl (fun s v => s.emit (.msix v))
      { s with host := { s.host with msixPend := s.host.msixPend.filter s.vectorMasked } }

/-! ## Resets of the link (R37) -/

/-- Instances in ENABLED or FAULTED. -/
def State.activeInsts (s : State) : List Nat :=
  mkeys s.insts (fun _ i => i.st == .enabled || i.st == .faulted)

/-- A RESET written to every instance that is ENABLED or FAULTED (R37). -/
def State.resetActive (s : State) : State := (s.activeInsts.foldl State.resetInstance s).sweepLanes

/-- The admin mailbox stops; admin completions not yet written are never written (R37). -/
def State.stopMailbox (s : State) : State :=
  let s := (s.putBit .HST_AQ_CFG_ENABLE false).putBit .HST_AQ_STATUS_RUNNING false
  { s with agent := { s.agent with replies := s.agent.replies.filter (fun r => r.req.src != .admin) } }

/-- Configuration space returns to its reset values: PCI Express Base's own rule for both resets
(log entry 20). -/
def State.resetConfig (s : State) : State :=
  { s with host := { s.host with bme := false, pasidEn := false, fnMask := false, maxPayload := 128,
                                 maxRead := 512, ctoCode := 0, msixTable := [], msixPend := [] } }

/-- PERST_N_ASSERT (R37): conventional reset of the endpoint; the link is down until it trains again. -/
def execPerstNAssert (s : State) : Host.Outcome State Fault Refusal :=
  let s := ((((s.wakeNap 7).resetActive).stopMailbox).resetConfig).armMonitor 3 false
  .next { s with host := { s.host with perstN := false, linkRate := 0, linkWidth := 0, pciePll := false } }

/-- FUNCTION_LEVEL_RESET (R37). -/
def execFunctionLevelReset (s : State) : Host.Outcome State Fault Refusal :=
  .next (((s.wakeNap 7).resetActive).stopMailbox).resetConfig

/-- BUS_MASTER_ENABLE_CLEAR (R37): meter records that cannot be delivered stay open, carried (R173). -/
def execBusMasterEnableClear (s : State) : Host.Outcome State Fault Refusal :=
  let s := ((s.wakeNap 7).resetActive).stopMailbox
  let closing := s.meters.closing
  let s := closing.foldl State.carryMeter { s with meters := { s.meters with closing := [] } }
  .next { s with host := { s.host with bme := false } }

/-- BUS_MASTER_ENABLE_SET (R36, R37, R44, R188): the other configuration fields stand as the host has programmed them;
a size or timeout the device does not support leaves its field as it was. A pending message whose vector is now unmasked
is sent. -/
def execBusMasterEnableSet (pasidEn : Bool) (cfg : HostConfig) (s : State) :
    Host.Outcome State Fault Refusal :=
  if s.host.perstN then
    let h := s.host
    .next { s with host := { h with
      bme := true, pasidEn := pasidEn, fnMask := cfg.fnMask,
      maxPayload := if sizeSupported endpoint.maxPayload cfg.maxPayload then cfg.maxPayload else h.maxPayload,
      maxRead := if sizeSupported endpoint.maxRead cfg.maxRead then cfg.maxRead else h.maxRead,
      ctoCode := if timeoutCodes.contains cfg.timeout then cfg.timeout else h.ctoCode } }.sendPending
  else .next s

/-! ## The admin mailbox's registers (R41, R42) -/

/-- ADMIN_MAILBOX_ENABLE (R41): pointers and positions to zero, the first pass's phase 1. A setting while RUNNING has
not yet fallen after a disable has no effect (log entry 55). -/
def execAdminMailboxEnable (depthLog2 : Nat) (s : State) : Host.Outcome State Fault Refusal :=
  let s := s.wakeNap 1
  if !s.bit .HST_STATUS_ADMIN_READY || s.bit .HST_AQ_CFG_ENABLE || s.bit .HST_AQ_STATUS_RUNNING || depthLog2 < 4 || depthLog2 > 12 then .next s
  else
    let s := (s.put .HST_AQ_CFG_DEPTH_LOG2 depthLog2).putBit .HST_AQ_CFG_ENABLE true
    let s := (s.putBit .HST_AQ_STATUS_RUNNING true).putBit .HST_AQ_STATUS_FAULT false
    let s := (s.put .HST_AQ_SQ_TAIL_TAIL 0).put .HST_AQ_CQ_HEAD_HEAD 0
    .next { s with admin := { sqFetch := 0, cqWrite := 0, phase := true } }

/-- ADMIN_MAILBOX_DISABLE (R41): fetching stops; RUNNING falls once every command in progress has its
completion. -/
def execAdminMailboxDisable (s : State) : Host.Outcome State Fault Refusal :=
  let s := s.wakeNap 1
  let s := s.putBit .HST_AQ_CFG_ENABLE false
  if s.agent.replies.any (fun r => r.req.src == .admin) then .next s
  else .next (s.putBit .HST_AQ_STATUS_RUNNING false)

/-- ADMIN_SQ_TAIL_WRITE (R42): entries up to the tail become eligible; a tail outside the ring has no
effect (R8). It is taken while RUNNING is 1, although R41 names the pointer registers writable only while RUNNING is 0:
R42 has the mailbox run by it (log entry 55). -/
def execAdminSqTailWrite (tail : Nat) (s : State) : Host.Outcome State Fault Refusal :=
  let s := s.wakeNap 1
  if tail < 2 ^ s.get .HST_AQ_CFG_DEPTH_LOG2 then .next (s.put .HST_AQ_SQ_TAIL_TAIL tail) else .next s

/-- Whether the next admin entry may be fetched (R41, R42). -/
def State.adminEligible (s : State) : Bool :=
  s.power.mode == .active && s.bit .HST_AQ_STATUS_RUNNING && s.bit .HST_AQ_CFG_ENABLE && !s.bit .HST_AQ_STATUS_FAULT && s.host.bme &&
    s.admin.sqFetch != s.get .HST_AQ_SQ_TAIL_TAIL

/-- The read of the next admin entry (R41, R106). -/
def State.fetchAdmin (s : State) : State :=
  s.emitAdminRead (s.get64 .HST_AQ_SQ_BASE_LO_ADDR .HST_AQ_SQ_BASE_HI_ADDR + 128 * s.admin.sqFetch) 128

/-- The read of an admin command's input (R106). -/
def State.readAdminInput (s : State) (entry : Bytes) : State := s.emitAdminRead (fieldLE entry 24 8) (fieldLE entry 32 4)

/-- One admin entry has been fetched, and its command executed (R514). -/
def State.adminAdvance (s : State) : State :=
  let s := s.fetchAdmin
  { s with power := { s.power with lastActive := s.time.tick }, admin := { s.admin with sqFetch := (s.admin.sqFetch + 1) % 2 ^ s.get .HST_AQ_CFG_DEPTH_LOG2 } }

/-- RUNNING falls after a disable, or a failed fetch, once no completion is outstanding (R41; log entry 55). -/
def State.settleMailbox (s : State) : State :=
  if (!s.bit .HST_AQ_CFG_ENABLE || s.bit .HST_AQ_STATUS_FAULT) && s.bit .HST_AQ_STATUS_RUNNING && !s.agent.replies.any (fun r => r.req.src == .admin)
  then s.putBit .HST_AQ_STATUS_RUNNING false else s

/-- What surrounds an admin command's access: fields of its entry (R106). -/
def adminReq (entry : Bytes) : OdReq :=
  { src := .admin, tag := fieldLE entry 4 4, noIrq := nbit (fieldLE entry 2 1) 2,
    durable := nbit (fieldLE entry 2 1) 1, outAddr := fieldLE entry 40 8, outCap := fieldLE entry 36 4 }

/-- The completion of an admin command that ends without an access, with a detail (R42, R112, R504). -/
def State.adminEnd (s : State) (entry : Bytes) (detail : Nat) : State :=
  let (_, s) := s.addReply (adminReq entry) (some .ok) [] (some detail)
  s.flushReplies.settleMailbox

/-- The next admin command ends without an access, with a detail. -/
def State.adminBad (s : State) (entry : Bytes) (detail : Nat) : State := s.adminAdvance.adminEnd entry detail

/-! ## MSI-X (R44) -/

/-- MSIX_VECTOR_UNMASK (R44): one message is sent for a pending vector. -/
def execMsixVectorUnmask (vector : Nat) (s : State) : Host.Outcome State Fault Refusal :=
  let s := s.wakeNap 1
  if vector ≥ 2048 then .next s
  else
    let t := mset (fun i => if i % 4 = 3 then 1#32 else 0#32) s.host.msixTable (4 * vector + 3) 0#32
    .next { s with host := { s.host with msixTable := t } }.sendPending

/-! ## Doorbells (R47 to R49) -/

/-- A discarded doorbell access (R49). -/
def State.discardDoorbell (s : State) (n : Nat) : State :=
  s.modInst n (fun i => { i with dbDiscarded := sat32 i.dbDiscarded })


/-- A tail written to an instance's doorbell page (R48, R49). -/
def State.tailWrite (s : State) (inst tail : Nat) : State :=
  if (s.inst inst).st != .enabled || s.zeroised then s.discardDoorbell inst
  else if tail ≥ s.depth inst then (s.discardDoorbell inst).modInst inst (fun i => { i with sqError := true })
  else s.modInst inst (fun i => { i with sqTail := tail })

/-- A head written to an instance's doorbell page (R49, R52). -/
def State.headWrite (s : State) (inst head : Nat) : State :=
  if (s.inst inst).st != .enabled || s.zeroised then s.discardDoorbell inst
  else
    let d := s.depth inst
    let i := s.inst inst
    let written := (i.cqWrite + d - i.cqHead) % d
    let freed := (head + d - i.cqHead) % d
    if head ≥ d || freed > written then (s.discardDoorbell inst).modInst inst (fun i => { i with cqError := true })
    else s.modInst inst (fun i => { i with cqHead := head })

/-- SQ_TAIL_WRITE (R48, R49). -/
def execSqTailWrite (inst tail : Nat) (s : State) : Host.Outcome State Fault Refusal :=
  if inst ≥ 1024 then .next (s.wakeNap 1) else .next ((s.wakeNap 1).tailWrite inst tail)

/-- CQ_HEAD_WRITE (R49, R52). -/
def execCqHeadWrite (inst head : Nat) (s : State) : Host.Outcome State Fault Refusal :=
  if inst ≥ 1024 then .next (s.wakeNap 1) else .next ((s.wakeNap 1).headWrite inst head)

/-- INST_STATUS of an instance (R47). -/
def State.instStatus (s : State) (n : Nat) : Nat :=
  let i := s.inst n
  i.gen % 65536 * 65536 + 2048 * b2n i.cqError + 1024 * b2n i.sqError + 512 * b2n (s.deviceState != dsServing) + i.st.code

/-- The word a doorbell page reads at an offset (R47). -/
def State.doorbellWord (s : State) (n off : Nat) : Nat :=
  match off with
  | 0x000 => (s.inst n).sqTail
  | 0x004 => (s.inst n).cqHead
  | 0x008 => s.instStatus n
  | _ => 0

/-- Whether an access of a doorbell page has a size and alignment it may have (R47). -/
def doorbellOk (off len : Nat) : Bool := (len = 4 && off % 4 = 0) || (len = 8 && off = 0)

/-- A write of an instance's doorbell page: of 64 bits it acts as a tail write followed by a head write; of another size
or alignment it is discarded and counted (R47). -/
def State.doorbellWrite (s : State) (n off : Nat) (d : Bytes) : State :=
  if !doorbellOk off d.length then s.discardDoorbell n
  else if d.length = 8 then (s.tailWrite n (fieldLE d 0 4)).headWrite n (fieldLE d 4 4)
  else if off = 0 then s.tailWrite n (leNat d)
  else if off = 4 then s.headWrite n (leNat d)
  else s

/-- A read of an instance's doorbell page (R47): the bytes it returns; one of another size or alignment returns zeros,
and is counted. -/
def State.doorbellRead (s : State) (n off len : Nat) : Bytes × State :=
  if !doorbellOk off len then (zeros len, s.discardDoorbell n)
  else if len = 8 then (le 4 (s.doorbellWord n 0) ++ le 4 (s.doorbellWord n 4), s)
  else (le 4 (s.doorbellWord n off), s)

/-! ## Submission fetch (R48, R83, R85, R164) -/

/-- Eligible entries of an instance (R48). -/
def State.eligible (s : State) (n : Nat) : Nat :=
  let d := s.depth n
  ((s.inst n).sqTail + d - (s.inst n).fetchPos) % d

/-- Whether fetching goes on for the unit as a whole: HANDING_OVER, ZEROISE, NAP and SLEEP stop it (R255,
R417, R516, R517). -/
def State.fetching (s : State) : Bool :=
  s.host.bme && !s.zeroised && s.strand.role != .handingOver && s.deviceState != dsBooting && s.power.mode == .active

/-- Whether an instance has entries to fetch now: ENABLED, below SPEC_DEPTH, no fetch read under way. -/
def State.wantsFetch (s : State) (n : Nat) : Bool :=
  (s.inst n).st == .enabled && s.eligible n != 0 && (s.inst n).fetchRead.isEmpty &&
    (s.instJobs n).length < s.specDepth n

/-- Free Locket job entries, lowest first. -/
def State.freeEntries (s : State) : List Nat :=
  (List.range 4096).filter (fun j => (s.job j).isNone && s.insts.all (fun e => !(e.2.fetchRead.contains j)))

/-- The first element of a list of instance numbers in round-robin order after `last`. -/
def nextAfter (last : Nat) (l : List Nat) : Option Nat :=
  (sortBy (fun n => (if n > last then 0 else 1, n)) l).head?

/-- SUBMISSION_FETCH (R83, R85, R164): the next instance in turn with eligible entries; a read of up to
32 entries, shortened to the job entries that can be reserved. -/
def execSubmissionFetch (s : State) : Host.Outcome State Fault Refusal :=
  if !s.fetching then .next s
  else
    match nextAfter s.host.fetchTurn (mkeys s.insts (fun n _ => s.wantsFetch n)) with
    | none => .next s
    | some n =>
      let room := s.specDepth n - (s.instJobs n).length
      let slots := (s.freeEntries).take (min 32 (min room (s.eligible n)))
      if slots.isEmpty then .next s
      else
        let d := s.depth n
        let p := (s.inst n).fetchPos
        let first := min slots.length (d - p)
        let s := (s.emitRead n (s.sqBase n + 128 * p) (128 * first)).emitRead n (s.sqBase n) (128 * (slots.length - first))
        let s := s.modInst n (fun i => { i with fetchRead := slots })
        .next { s with host := { s.host with fetchTurn := n }, power := { s.power with lastActive := s.time.tick } }.notePeaks

/-- A job as it stands after its fetch (R70). -/
def State.fetchedJob (s : State) (n id : Nat) (entry : Bytes) (order : Nat) : Job :=
  { inst := n, gen := (s.inst n).gen, entry := entry, fetchTick := s.time.tick, order := order, stage := .fetched,
    rateAdmitted := false, refills := 0, waitLimit := s.odNat (0x3400 + n) 2 200, waitedTicks := 0, gran := 0,
    granWaited := false, held := false, splitHeld := false, primary := fieldLE entry 8 8, looked := false, target := none,
    second := none, damaged := false, unsealing := [], deps := [], squash := false, destroyWait := [], tagFails := [], reads := 0,
    input := none, param := none, rnd := none, plan := none, search := none, steps := [], need := ⟨false, false, false, false, false⟩,
    got := ⟨false, false, false, false, false⟩, durableBeads := [], quorum := 0, refused := [], fwPosted := none, fwSent := false,
    seqNo := mget (fun _ => 0) s.locket.seqNos id, useNo := none, drawTick := s.time.tick, stepTick := 0, unit := none, readySeq := 0, started := false,
    ended := false, deadline := false, busyNs := 0, joined := none, forced := none, stamp := none, stampSeq := 0,
    status := .done, detail := 0, output := [], streamed := 0, resultHandle := 0 }

/-- The job with its fence: a non-mutating one with the durable flag needs DURABLE for the newest bead sealed before
its fetch that holds a record of its instance (R69). -/
def State.newJob (s : State) (n id : Nat) (entry : Bytes) (order : Nat) : Job :=
  let j := s.fetchedJob n id entry order
  if j.awaitsDurable && !j.mutating && (s.inst n).lastBead != 0 then { j with durableBeads := [(s.inst n).lastBead] } else j

/-- One fetched entry becomes a job in entry `id`. The state of the device decides first, then the
format of the entry (R57, R112; log entry 21). -/
def State.takeEntry (s : State) (n id : Nat) (entry : Bytes) : State :=
  let seqs := mmod (fun _ => 0) s.locket.seqNos id (fun x => (x + 1) % 256)
  let s := { s with locket := { s.locket with nextOrder := s.locket.nextOrder + 1, seqNos := seqs } }
  let j := s.newJob n id entry (s.locket.nextOrder - 1)
  let s := s.setJob id (some j)
  if s.halted || s.restore.state == .failed || s.strand.role == .candidate then s.endEarly id .deviceHalted noDetail
  else if s.strand.role == .notActive then s.endEarly id .notActive noDetail
  else
    match j.formatFault with
    | some d => s.endEarly id .badCommand d
    | none => s

/-- A submission fetch read completes (R38, R50): each entry is fetched once. -/
def State.fetchDone (s : State) (n : Nat) (b : Bytes) : State :=
  let slots := (s.inst n).fetchRead
  let s := s.modInst n (fun i => { i with fetchRead := [], fetchPos := (i.fetchPos + slots.length) % s.depth n })
  ((List.range slots.length).zip slots).foldl (fun s p => s.takeEntry n p.2 (padTo 128 (slice b (128 * p.1) 128))) s

/-- A failed submission fetch: the instance is FAULTED (R38, R56). -/
def State.fetchFailed (s : State) (n cause : Nat) : State :=
  let s := (s.modInst n (fun i => { i with fetchRead := [], faultCause := cause })).setInstState n .faulted
  s.hostEvent .HST_EVENT_INSTANCE_FAULT

/-- The checks of steps 5 to 7 that OWNER_APPROVE makes on its statement (R149). -/
def State.approvalFault (s : State) (j : Job) (b : Bytes) : Option (Status × Nat) :=
  let o := s.boundOwner j.inst
  let cls := fieldLE b 10 1
  let h := fieldLE b 16 8
  let ap := s.approver o (fieldLE b 11 1)
  if cls != 7 && h != 0 && !(s.ownHandle j.inst h && (s.presents j.inst h).isSome) then some (.noSuchObject, noDetail)
  else if fieldLE b 8 2 != o || cls ≥ 9 || (cls == 7) != (h == 0) || fieldLE b 11 1 ≥ 8 || ap.isEmpty ||
      j.primaryField != h then some (.badCommand, 0x0705)
  else if j.inputLen != 64 + approvalSigLen (fieldLE ap 0 1) ||
      b.take 8 != ascii [0x4B, 0x4E, 0x41, 0x50, 0x52, 0x56, 0x30, 0x31] || !((slice b 32 32).all (· == 0#8)) then
    some (.badCommand, 0x0705)
  else none

/-- A read made for a job's input or parameter block ends (R38, R107, R112). -/
def State.jobRead (s : State) (id : Nat) (param : Bool) (r : DmaResult) : State :=
  match s.job id with
  | none => s
  | some j =>
    if j.reads = 0 then s
    else
      match r with
      | .data b =>
        let s := s.setJob id (some (if param then { j with param := some (padTo j.blockLen b), reads := j.reads - 1 }
                                    else { j with input := some (padTo j.inputLen b), reads := j.reads - 1 }))
        if param then (if j.blockOk (padTo j.blockLen b) then s else s.endEarly id .badCommand 0x0707)
        else if j.op == opOwnerApprove then
          match s.approvalFault j (padTo j.inputLen b) with
          | some (st, d) => s.endEarly id st d
          | none => s
        else s
      | _ => (s.reportAer r).endEarly id .bufferFault (if param then 0x1002 else 0x1001)

/-- FAULT_CAUSE of a failed fetch (R53). -/
def DmaResult.cause : DmaResult → Nat
  | .data _ => 0
  | .urOrCa => 1
  | .poisoned => 2
  | .timeout => 3

/-- DMA_READ_COMPLETE (R38, R41, R60): a read that was not issued has no completion. -/
def execDmaReadComplete (target : DmaTarget) (r : DmaResult) (s : State) : Host.Outcome State Fault Refusal :=
  match target with
  | .fetch n =>
    if (s.inst n).fetchRead.isEmpty then .next s
    else
      match r with
      | .data b => .next (s.fetchDone n b).settle.notePeaks
      | _ => .next ((s.reportAer r).fetchFailed n r.cause)
  | .adminFetch =>
    if !s.adminEligible then .next s
    else
      match r with
      | .data b =>
        let e := padTo 128 b
        if fieldLE e 0 2 = 0x0F01 || fieldLE e 0 2 = 0x0F02 then .next s
        else .next (s.adminBad e (if fieldLE e 2 1 ≥ 8 || fieldLE e 3 1 != 0 then 0x0701 else 0x0702))
      | _ => .next (((s.fetchAdmin.reportAer r).putBit .HST_AQ_STATUS_FAULT true).hostEvent .HST_EVENT_AQ_FAULT).settleMailbox
  | .adminInput e =>
    if !s.adminEligible then .next s
    else
      match r with
      | .data _ => .next s
      | _ => .next (((s.adminAdvance.readAdminInput e).reportAer r).adminEnd e 0x1001)
  | .input id => .next (s.jobRead id false r).settle
  | .paramBlock id => .next (s.jobRead id true r).settle
  | .discarded n =>
    if (s.inst n).readsOut = 0 then .next s
    else .next ((s.reportAer r).modInst n (fun i => { i with readsOut := i.readsOut - 1 }))

end Sys2Proof.Machine
end

