-- ==== Sys2Proof/Machine/Instances.lean ====
section
/-! DEFINITION. Instances: binding, CONTROL, the drain, the command timeout (R53 to R62). -/

namespace Sys2Proof.Machine

/-- The index of instance `n` in the dictionary (R53). -/
def instIndex (n : Nat) : Nat := 0x2400 + n

/-- Whether a record was written by an access's source; a session that opened in a slot used before is a new source
(R505). -/
def State.wrote (s : State) (src : OdSource) (r : Rec) : Bool :=
  match src, r.source with
  | .admin, .adminMailbox => true
  | .session k, .session m =>
    k == m && (match r.body with
      | .odWrite _ _ _ _ number _ => number == (s.session k).number
      | _ => false)
  | .secureFirmware, .secureFirmware => true
  | _, _ => false

/-- The number an entry holds as its source sees it (R505). -/
def State.odSeen (s : State) (src : OdSource) (index sub d : Nat) : Nat :=
  ((s.odAfter (s.wrote src) index sub).map leNat).getD d

/-! ## OWNER (R54) -/

/-- Whether a write of OWNER is accepted in the instance's state (R54). -/
def State.ownerAccepted (s : State) (src : OdSource) (n v : Nat) : Bool :=
  let st := (s.inst n).st
  if v = 0 then st == .unbound || st == .bound
  else st == .unbound && s.odSeen src (0x4000 + v) 1 0 == 1

/-- What a write of OWNER does at once (R54, R56, R168): the instance is bound or unbound, its meter
record opens or closes. An ENABLE that waits in BOUND is refused when the instance is unbound, since its PASID and bases
return to 0 (log entry 56). -/
def State.ownerEffect (s : State) (n v : Nat) : State :=
  if v = 0 then
    if (s.inst n).st == .bound then
      let s := (s.refuseEnables n).setInstState n .unbound
      let s := s.modSched n (fun _ => Sched.init)
      s.unbindMeter n
    else s
  else (s.setInstState n .bound).bindMeter n v

/-! ## CONTROL (R55 to R58) -/

/-- Whether the first two conditions of R55 hold. -/
def State.enableOk (s : State) (n : Nat) : Bool :=
  let v (sub : Nat) : Nat := s.odLatestNat (instIndex n) sub 0
  v 4 != 0 && v 5 != 0 && v 6 != 0 && s.host.pasidEn && s.host.bme

/-- Whether every bead holding a record of the instance's configuration is sealed (R55). -/
def State.configSealed (s : State) (n : Nat) : Bool :=
  s.unsealedRecs.all (fun r => match r.body with
    | .odWrite i _ _ _ _ _ => i != instIndex n
    | _ => true)

/-- The instance becomes ENABLED (R55, R157): pointers, positions and error bits at their starts, every
bucket full. FAULT_CAUSE keeps the last cause (log entry 57). -/
def State.enableInst (s : State) (n : Nat) : State :=
  let start (i : Inst) : Inst :=
    { i with sqTail := 0, cqHead := 0, fetchPos := 0, cqWrite := 0, phase := true, sqError := false, cqError := false }
  let s := (s.modInst n start).setInstState n .enabled
  s.modSched n (fun c => { c with level := c.burst.map (· * 256) })

/-- The ENABLEs that wait in BOUND execute (R55, R57): refused, held for the seal of the configuration, or done. -/
def State.tryEnables (s : State) (n : Nat) : State :=
  if !s.enableOk n then s.refuseEnables n
  else if !s.configSealed n then s
  else
    ((s.inst n).enableReplies.foldl (fun s r => s.answer r .ok 0) (s.enableInst n)).modInst n
      (fun i => { i with enableReplies := [] })

/-- An ENABLE joins those that wait. -/
def State.holdEnable (s : State) (n reply : Nat) : State :=
  s.modInst n (fun i => { i with enableReplies := i.enableReplies ++ [reply] })

/-- The generation after a reset: 1 to 0xFFFF_FFFF, wrapping to 1 (R53). -/
def nextGen (g : Nat) : Nat := if g ≥ 0xFFFFFFFF then 1 else g + 1

/-- A CONTROL write of ENABLE (R55, R56); `reply` is its response. A second one in BOUND is tested as the first was, and
waits with it. -/
def State.controlEnable (s : State) (n reply : Nat) : State :=
  match (s.inst n).st with
  | .bound => if s.enableOk n then (s.holdEnable n reply).tryEnables n else s.answer reply .wrongState 0
  | .draining => (s.holdEnable n reply).setInstState n .enablePending
  | _ => s.answer reply .ok 0

/-- A CONTROL write of RESET (R56, R58); a held enable is cancelled (R57). -/
def State.controlReset (s : State) (n reply : Nat) : State :=
  let wait (s : State) : State := s.modInst n (fun i => { i with resetReplies := i.resetReplies ++ [reply] })
  match (s.inst n).st with
  | .bound => ((s.refuseEnables n).modInst n (fun i => { i with gen := nextGen i.gen })).answer reply .ok 0
  | .enabled => wait (s.resetInstance n).sweepLanes
  | .faulted => wait (s.resetInstance n).sweepLanes
  | .enablePending => wait ((s.refuseEnables n).setInstState n .draining)
  | _ => s.answer reply .ok 0

/-- Enables held for a seal execute once their instance's configuration is sealed (R55). -/
def State.heldEnables (s : State) : State :=
  (mkeys s.insts (fun _ i => i.st == .bound && !i.enableReplies.isEmpty)).foldl State.tryEnables s

/-- INSTANCE_DRAIN_COMPLETE (R57, R60): the generation rises, a held enable executes, the responses of
the RESETs and of the enable are released. -/
def execInstanceDrainComplete (inst : Nat) (s : State) : Host.Outcome State Fault Refusal :=
  let i := s.inst inst
  if !(i.st == .draining || i.st == .enablePending) || !s.drained inst then .next s
  else
    let s := i.resetReplies.foldl (fun s r => s.answer r .ok 0) s
    let s := s.modInst inst (fun i => { i with gen := nextGen i.gen, resetReplies := [] })
    let s := s.setInstState inst .bound
    let s := if i.st == .enablePending then s.tryEnables inst else s
    .next s.flushReplies.settleMailbox

/-! ## CMD_TIMEOUT (R62) -/

/-- CMD_TIMEOUT_EXPIRY: a job still waiting for random numbers CMD_TIMEOUT ticks after its fetch, or
after the draw before, the ticks its own steps ran not counted (log entry 65), ends RNG_STALLED. -/
def execCmdTimeoutExpiry (job : Nat) (s : State) : Host.Outcome State Fault Refusal :=
  match s.job job with
  | none => .next s
  | some j =>
    if s.waitsDraw j && s.time.tick ≥ j.drawTick + s.cmdTimeout j.inst then
      let s := { s with rng := { s.rng with stalledJobs := sat32 s.rng.stalledJobs } }
      let s := s.setJob job (some { j with forced := some (.rngStalled, noDetail), ended := true, steps := [] })
      .next s.settle.notePeaks
    else .next s

end Sys2Proof.Machine
end

