-- ==== Sys2Proof/Machine/Items.lean ====
section
/-! DEFINITION. Checkpoint items as octets, and whether the unit opens an item of a presented strand (R196, R200, R244;
log entry 22). -/

namespace Sys2Proof.Machine

/-- The octets of an object in a chunk: its directory entry without a place, then the sealed object. -/
def State.chunkEntry (s : State) (o : Obj) : Bytes :=
  le 8 o.handle ++ zeros 8 ++ le 2 (occupied o.type o.size / 64) ++ le 1 1 ++ le 1 o.type ++ le 2 0xFFFF ++ zeros 10 ++
    s.sealObj o

/-- The octets of a setting in a chunk. -/
def settingEntry (key : Nat) (v : Bytes) : Bytes := le 4 key ++ le 4 v.length ++ v

/-- A checkpoint item: header, body encrypted under the checkpoint variant of the pair seal key, tag. -/
def State.sealItem (s : State) (svn : Nat) (header nonce body : Bytes) : Bytes :=
  header ++ Config.aeadSeal 1 16 (((s.checkpointKey svn).getD []).take 32) nonce header body

/-- The header of a segment chunk (R200), with the DOMAIN_ID R244 asks for at octet 48 (log entry 22). -/
def chunkHeader (b svn clasp domain seg index count len firstHash : Nat) : Bytes :=
  ascii [0x4B, 0x59, 0x43, 0x31] ++ le 1 1 ++ le 1 svn ++ le 2 seg ++ le 8 b ++ le 2 index ++ le 2 count ++ le 4 len ++
    le 8 b ++ le 2 seg ++ le 2 index ++ le 4 clasp ++ le 8 firstHash ++ le 8 domain ++ zeros 8

/-- The header of a manifest (R200, R244). -/
def manifestHeader (b svn clasp domain : Nat) : Bytes :=
  ascii [0x4B, 0x59, 0x4D, 0x31] ++ le 1 1 ++ le 1 svn ++ le 2 0x1001 ++ le 8 b ++ zeros 4 ++ le 4 65624 ++
    le 8 b ++ le 2 0xFFFF ++ le 2 0xFFFF ++ le 4 clasp ++ zeros 8 ++ le 8 domain ++ zeros 8

/-- The body of a manifest: the hash and close tick of bead B, then each segment's version and chunk count. -/
def manifestBody (hashOfB : Bytes) (closeTick : Nat) (segs : List (Nat × Nat)) : Bytes :=
  padTo 64 hashOfB ++ le 8 closeTick ++ (segs.map (fun e => le 8 e.1 ++ le 4 e.2 ++ zeros 4)).flatten

/-- The nonce of an item: B, segment, chunk. -/
def itemNonce (b seg index : Nat) : Bytes := le 8 b ++ le 2 seg ++ le 2 index

/-- The tag an item of a presented strand is to carry. -/
def State.itemTag (s : State) : StrandItem → Bytes
  | .manifest b svn clasp dom hashOfB closeTick segs _ =>
    let body := manifestBody hashOfB closeTick segs
    let x := s.sealItem svn (manifestHeader b svn clasp dom) (itemNonce b 0xFFFF 0xFFFF) body
    x.drop (x.length - 16)
  | .chunk b svn clasp dom seg index count first objs od _ =>
    let body := (objs.map s.chunkEntry).flatten ++ (od.map (fun e => settingEntry e.1 e.2)).flatten
    let x := s.sealItem svn (chunkHeader b svn clasp dom seg index count body.length first) (itemNonce b seg index) body
    x.drop (x.length - 16)
  | .bead b _ =>
    let x := s.beadBytes b
    x.drop (x.length - 16)
  | .unreadable => []

/-- The tag an item carries. -/
def StrandItem.tag : StrandItem → Bytes
  | .manifest _ _ _ _ _ _ _ t => t
  | .chunk _ _ _ _ _ _ _ _ _ _ t => t
  | .bead _ t => t
  | .unreadable => []

/-- The security version an item is sealed at. -/
def StrandItem.svn : StrandItem → Nat
  | .manifest _ v _ _ _ _ _ _ => v
  | .chunk _ v _ _ _ _ _ _ _ _ _ => v
  | .bead b _ => b.svn
  | .unreadable => 256

/-- The DOMAIN_ID an item carries (R183, R244). -/
def StrandItem.domain : StrandItem → Nat
  | .manifest _ _ _ d _ _ _ _ => d
  | .chunk _ _ _ d _ _ _ _ _ _ _ => d
  | .bead b _ => b.domain
  | .unreadable => 0

/-- Whether the unit opens an item (R244): it can be read, keys can be derived at its version, it
carries the unit's DOMAIN_ID, and its tag holds. -/
def State.opensItem (s : State) (x : StrandItem) : Bool :=
  x != .unreadable && x.svn ≤ s.svn && x.tag == s.itemTag x && x.domain == s.bb.domainId

end Sys2Proof.Machine
end

