-- ==== Sys2Proof/Machine/Restore.lean ====
section
/-! DEFINITION. Restoring the object store from chunks and bead records, lazily or on demand (R205,
R231, R232). -/

namespace Sys2Proof.Machine

/-- An object enters the store as committed (R223). -/
def State.placeObj (s : State) (o : Obj) : State :=
  (s.setObj o.handle (some o)).enter o .committed 0xFFFF 0 0

/-- The hash a chunk begins at, and its objects. -/
def StrandItem.chunkStart : StrandItem → Nat
  | .chunk _ _ _ _ _ _ _ h _ _ _ => h
  | _ => 0

/-- The objects of a chunk. -/
def StrandItem.chunkObjs : StrandItem → List Obj
  | .chunk _ _ _ _ _ _ _ _ objs _ _ => objs
  | _ => []

/-- The settings of a chunk. -/
def StrandItem.settings : StrandItem → List (Nat × Bytes)
  | .chunk _ _ _ _ _ _ _ _ _ od _ => od
  | _ => []

/-- Handles the replayed records create. -/
def replayCreates (l : List Rec) : List Nat :=
  l.filterMap (fun r => match r.body with
    | .objectCreate o => some o.handle
    | _ => none)

/-- Restores the objects whose hash lies in [lo, hi): those of the chunk, and those the replayed beads
created, each with the replayed records of it (R232). -/
def State.restoreRange (s : State) (lo hi : Nat) (objs : List Obj) : State :=
  let rep := s.restore.replay
  let hs := distinct (objs.map (·.handle) ++ (replayCreates rep).filter (fun h => lo ≤ dirHash h && dirHash h < hi))
  hs.foldl (fun s h =>
    match applyRecs h (objs.find? (fun o => o.handle == h)) rep with
    | some o => s.placeObj o
    | none => s) s

/-- The hashes at which the object chunks of the presented checkpoint begin: the range of each runs to the start of the
next, that of the first from 0 (R200, R232). -/
def State.chunkStarts (s : State) : List Nat :=
  let l := s.restore.items.filterMap (fun x => if x.chunkObjs.isEmpty then none else some x.chunkStart)
  sortBy (fun h => (h, 0)) l

/-- The chunks not yet restored, in hash order; those of the settings segment come last (R232). -/
def State.chunksLeft (s : State) : List StrandItem :=
  sortBy (fun c => (b2n c.chunkObjs.isEmpty, c.chunkStart)) s.restore.chunks

/-- Where no object chunk was presented, the objects the replayed beads created are placed with the grant (R203). -/
def State.placeUncovered (s : State) : State := if s.chunkStarts.isEmpty then s.restoreRange 0 (2 ^ 64) [] else s

/-- A restore state is shown, and the device state follows it (R40, R203). -/
def State.setRestore (s : State) (st : RestoreState) : State :=
  { s with restore := { s.restore with state := st } }.refreshDeviceState.useStrandLanes

/-- A chunk that fails: restore is FAILED, and every command not yet released ends DEVICE_HALTED (R203). -/
def State.restoreFails (s : State) : State :=
  let s := (s.event 0x0402 sevCritical 0 []).setRestore .failed
  let halt (j : Job) : Job :=
    if j.stamp.isNone && j.forced.isNone && j.live then { j with forced := some (.deviceHalted, noDetail) } else j
  { s with jobs := s.jobs.map (fun (e : Nat × Option Job) => (e.1, e.2.map halt)) }.settle.notePeaks

/-- MIGRATE_FLOOR (R343). -/
def State.migrateFloor (s : State) : Nat := s.odNat 0xB040 8 0

/-- The migration walk starts at the lowest hash (R343). -/
def State.startWalk (s : State) : State := { s with store := { s.store with walking := true, walkHash := 0 } }

/-- Restore is complete once no chunk is left (R203); a migration floor starts the walk (R343). -/
def State.restoreDone (s : State) : State :=
  if s.restore.state == .lazy && s.restore.chunks.isEmpty then
    let s := { s with restore := { s.restore with state := .complete, replay := [] } }.resizeCheck
    if s.migrateFloor != 0 then s.startWalk else s
  else s

/-- Restores one chunk, with the replayed records of its range; a chunk of the settings segment, whose settings were
taken at the grant, is only marked restored. -/
def State.restoreChunk (s : State) (c : StrandItem) : State :=
  let starts := s.chunkStarts
  let lo := if starts.head? == some c.chunkStart then 0 else c.chunkStart
  let hi := ((starts.filter (fun h => c.chunkStart < h)).head?).getD (2 ^ 64)
  let s := if c.chunkObjs.isEmpty then s else s.restoreRange lo hi c.chunkObjs
  { s with restore := { s.restore with chunks := s.restore.chunks.filter (fun x => !(x == c)), restored := s.restore.restored + 1 } }

/-- Reads, checks and restores one chunk; one that does not open fails the restore (R203, R244). -/
def State.restoreItem (s : State) (c : StrandItem) : State :=
  if s.opensItem c then (s.restoreChunk c).restoreDone.refreshDeviceState else s.restoreFails

/-- The chunk still to be restored that covers a handle (R205). -/
def State.chunkOf (s : State) (handle : Nat) : Option StrandItem :=
  let starts := s.chunkStarts
  let mine := match (starts.filter (fun h => h ≤ dirHash handle)).getLast? with
    | some h => some h
    | none => starts.head?
  match mine with
  | some h => s.restore.chunks.find? (fun c => c.chunkStart == h && !c.chunkObjs.isEmpty)
  | none => none

/-- A lookup that reaches an unrestored range restores its chunk first (R205). -/
def State.restoreFor (s : State) (handle : Nat) : State :=
  if s.restore.state == .lazy then
    match s.chunkOf handle with
    | some c => s.restoreItem c
    | none => s
  else s

end Sys2Proof.Machine
end

