-- ==== Sys2Proof/Machine/Admission.lean ====
section
/-! DEFINITION. A job from its fetch to its operands: rate buckets, Locket admission, reference handles,
directory lookup, unseal (R65, R75 to R80, R84, R85, R93, R112, R156 to R159, R225, R374). -/

namespace Sys2Proof.Machine

/-! ## Rate buckets (R156 to R159) -/

/-- RATE in force for a job's class; 0xFFFF_FFFF is unlimited. -/
def State.rateOf (s : State) (j : Job) : Nat := (s.sched j.inst).rate.getD j.cls 0

/-- Whether a job's bucket is unlimited (R157). -/
def State.unlimitedRate (s : State) (j : Job) : Bool := s.rateOf j == 0xFFFFFFFF

/-- Whether the bucket holds a job's cost. -/
def State.bucketHolds (s : State) (j : Job) : Bool :=
  s.unlimitedRate j || j.cost * 256 ≤ (s.sched j.inst).level.getD j.cls 0

/-- Whether a job waits on its class bucket (R158). -/
def Job.waitsRate (j : Job) : Bool := j.stage == .fetched && !j.rateAdmitted && j.stamp.isNone && j.forced.isNone

/-- Whether an earlier-fetched job of the same instance and class waits. -/
def State.behindInClass (s : State) (j : Job) : Bool :=
  s.jobList.any (fun e => e.2.inst == j.inst && e.2.cls == j.cls && e.2.waitsRate && e.2.order < j.order)

/-- Whether a job is refused at step 2 whatever the bucket holds (R159); an unlimited bucket refuses nothing (R157; log
entry 63). -/
def State.rateNever (s : State) (j : Job) : Bool :=
  !s.unlimitedRate j && (j.cost > (s.sched j.inst).burst.getD j.cls 0 || s.rateOf j == 0)

/-- Whether a job passes step 2 now, but for THROTTLE. -/
def State.ratePasses (s : State) (j : Job) : Bool :=
  !s.rateNever j && s.bucketHolds j && !s.behindInClass j

/-- Whether admission at step 2 is stopped (R417). -/
def State.throttled (s : State) : Bool := s.bit .ALM_STATUS_THROTTLED || s.halted || s.zeroised

/-- The ticks a job waited on its bucket go to the record open at its admission or refusal (R166). -/
def State.chargeWait (s : State) (j : Job) : State :=
  if j.waitedTicks = 0 then s
  else s.modMeter j.inst (fun m => { m with waitTicks := m.waitTicks + j.waitedTicks })

/-- RATE_BUCKET_ADMIT (R158): the bucket is debited by the job's cost. -/
def execRateBucketAdmit (job : Nat) (s : State) : Host.Outcome State Fault Refusal :=
  match s.job job with
  | none => .next s
  | some j =>
    if j.waitsRate && !s.throttled && s.ratePasses j then
      let s := s.setJob job (some { j with rateAdmitted := true })
      let s := s.chargeWait j
      if s.unlimitedRate j then .next s
      else .next (s.modSched j.inst (fun c =>
        { c with level := c.level.set j.cls (c.level.getD j.cls 0 - j.cost * 256) }))
    else .next s

/-- WAIT_LIMIT_EXPIRY (R159): RATE_LIMITED at once, or after the WAIT_LIMIT-th counted refill. -/
def execWaitLimitExpiry (job : Nat) (s : State) : Host.Outcome State Fault Refusal :=
  match s.job job with
  | none => .next s
  | some j =>
    if j.waitsRate && (s.rateNever j || (j.refills ≥ j.waitLimit && !s.bucketHolds j)) then
      .next ((s.chargeWait j).endEarly job .rateLimited noDetail).settle
    else .next s

/-! ## Reference handles (R76) -/

/-- What a reference handle resolves to. -/
inductive RefTarget where
  | nothing
  | inLocket (job : Nat)
  | released (r : Released)
  deriving DecidableEq, Repr

/-- The most recently fetched job with the tag among those a reference may name. -/
def State.resolveRef (s : State) (j : Job) (tag : Nat) : RefTarget :=
  let held := s.jobList.filter (fun e => e.2.inst == j.inst && e.2.gen == j.gen && e.2.referable && e.2.tag == tag &&
    e.2.order < j.order && e.2.stamp.isNone && e.2.live)
  let gone := s.locket.released.filter (fun r => r.inst == j.inst && r.gen == j.gen && r.tag == tag && r.order < j.order)
  let newest := (sortBy (fun e => (e.2.order, 0)) held).getLast?
  let last := (sortBy (fun r => (r.order, 0)) gone).getLast?
  match newest, last with
  | some e, some r => if r.order > e.2.order then .released r else .inLocket e.1
  | some e, none => .inLocket e.1
  | none, some r => .released r
  | none, none => .nothing

/-! ## Checks on the object (R112, steps 6 to 8) -/

/-- What the checks of steps 6 to 8 give once the objects are known; an output beyond the granules a job may occupy is
step 7's (R84, R112). -/
def Job.objectFault (j : Job) (o second : Option Obj) : Option (Status × Nat) :=
  if (o.map (fun x => !j.typeServes x)).getD false || (second.map (fun x => !j.secondaryServes x)).getD false then
    some (.badCommand, 0x0704)
  else if !j.paramsOk o then some (.badCommand, 0x0705)
  else if j.beyondGranules then some (.tooLarge, 0x1103)
  else
    match j.limitFault o with
    | some f => some f
    | none => if j.blockAddrFault then some (.badCommand, 0x0707) else none

/-- The reads a job's input and parameter block take. -/
def Job.readsNeeded (j : Job) : Nat := b2n (j.inputLen != 0) + b2n (j.blockLen != 0)

/-- The job's confirmations are settled and its reads issued: its operands are known. -/
def State.operandsKnown (s : State) (id : Nat) (j : Job) (o second : Option Obj) : State :=
  match j.objectFault o second with
  | some (st, d) => s.endEarly id st d
  | none =>
    let cq := s.createQuorum (s.boundOwner j.inst)
    let fresh := ((o.toList ++ second.toList).map (fun x => mget (fun _ => 0) s.strand.durableObj x.handle)).filter
      (fun b => b > s.strand.durable)
    let need := j.needsOf o cq
    let quorum := j.quorumFor o cq
    let j := { j with looked := true, target := o, second := second, need := { need with durable := j.awaitsDurable },
                      quorum := quorum, reads := j.readsNeeded, durableBeads := j.durableBeads ++ fresh }
    let s := s.setJob id (some j)
    let s := (s.emitRead j.inst j.inputAddr j.inputLen).emitRead j.inst j.pbAddr j.blockLen
    let s := if quorum = 0 then s else s.readFor j
    if quorum != 0 && s.approvalCount j < quorum && s.odNat (0x4000 + s.boundOwner j.inst) 0x18 0 == 0 then
      s.refuse id .approvalExpired
    else s

/-! ## Admission (R84, R85, R112, R225) -/

/-- Whether a job names a handle that a lookup must resolve. -/
def Job.namesObject (j : Job) : Bool := j.primaryField != 0 || j.secondary != 0

/-- Creations admitted whose space the store holds back (R225). -/
def State.reserving (s : State) : List Job :=
  (s.jobList.map (·.2)).filter (fun j => j.creates && j.stage != .fetched && j.stamp.isNone && j.live &&
    j.refused.isEmpty && !j.squash && j.forced.isNone && (s.dirFind j.resultHandle).isNone)

/-- Whether the store has room for one more object of a type and size (R225). -/
def State.roomFor (s : State) (type size : Nat) : Bool :=
  let res := s.reserving
  let bytes := (res.map (fun j => occupied j.newType j.newSize)).sum
  let full := s.store.k == s.dirMaxK && s.dirAll.length + res.length ≥ 3 * 2 ^ s.dirMaxK / 2
  !full && s.objectUsed + bytes + occupied type size ≤ s.objectArea &&
    s.overflowLines < s.overflowPool

/-- Whether a job waits for Locket admission. -/
def Job.waitsLocket (j : Job) : Bool := j.stage == .fetched && j.rateAdmitted && j.stamp.isNone && j.forced.isNone

/-- The job of an instance next to be admitted, in fetch order. -/
def State.nextAdmission (s : State) (n : Nat) : Option (Nat × Job) :=
  s.jobsInOrder.find? (fun e => e.2.inst == n && e.2.waitsLocket)

/-- Whether admission of a job is held for the ring or the staging area (R174, R192, R198). -/
def State.admissionHeld (s : State) (j : Job) : Bool :=
  (s.inst j.inst).splitHold || (j.mutating && (s.stagingFull || s.shadowFull))

/-- A job held for the staging area or the checkpoint shadow is counted once, and so is one held by a SPLIT record of its
instance, each in its own counter (R174, R192, R198). -/
def State.noteHolds (s : State) : State :=
  s.jobList.foldl (fun s e =>
    let j := e.2
    if !j.waitsLocket then s
    else
      let lag := j.mutating && (s.stagingFull || s.shadowFull) && !j.held
      let split := (s.inst j.inst).splitHold && !j.splitHeld
      let s := if lag || split then s.setJob e.1 (some { j with held := j.held || lag, splitHeld := j.splitHeld || split }) else s
      let s := if lag then s.odStore 0x5000 0xB (some (le 4 (sat32 (s.odNat 0x5000 0xB 0)))) else s
      if split then s.odStore 0x3010 5 (some (le 4 (sat32 (s.odNat 0x3010 5 0)))) else s) s

/-- What admission finds before a job takes granules: an end, or the job with its handle resolved and
its dependency on the job it refers to. -/
def State.admitChecks (s : State) (j : Job) : Option (Status × Nat) × Job :=
  if !((isReference j.primaryField || s.ownHandle j.inst j.primaryField) && s.ownHandle j.inst j.secondary) then
    (some (.noSuchObject, noDetail), j)
  else if j.beyondGranules then (some ((j.objectFault none none).getD (.tooLarge, 0x1103)), j)
  else if isReference j.primaryField then
    match s.resolveRef j (j.primaryField % 2 ^ 32) with
    | .nothing => (some (.badCommand, 0x0706), j)
    | .released r =>
      if !r.creates then (some (.badCommand, 0x0706), j)
      else if r.done then (none, { j with primary := r.handle }) else (some (.squashed, noDetail), j)
    | .inLocket d =>
      if ((s.job d).map (fun x => x.creates)).getD false then (none, { j with deps := [d] })
      else (some (.badCommand, 0x0706), j)
  else (none, j)

/-- Whether an instance's next admission waits, and nothing but granules can hold it. -/
def State.admits (s : State) (n : Nat) : Bool :=
  match s.nextAdmission n with
  | some e => !s.admissionHeld e.2
  | none => false

/-- Whether the granules free cover what an instance's next admission needs; a job that ends at admission needs none. -/
def State.granulesFit (s : State) (n : Nat) : Bool :=
  match s.nextAdmission n with
  | some e => (s.admitChecks e.2).1.isSome || s.granulesInUse + e.2.granules ≤ 16384
  | none => true

/-- Whether an instance's next admission needs granules. -/
def State.takesGranules (s : State) (n : Nat) : Bool :=
  match s.nextAdmission n with
  | some e => (s.admitChecks e.2).1.isNone && e.2.granules != 0
  | none => false

/-- The instance whose next job is admitted (R85): in turn after the one last served. While freed granules are held for
one, no other is granted any, and a job that needs none goes on. -/
def State.admissionTurn (s : State) : Option Nat :=
  let l := (distinct (s.jobList.map (fun e => e.2.inst))).filter s.admits
  match s.locket.granHeld with
  | some h =>
    if l.contains h then
      (if s.granulesFit h then some h else nextAfter s.locket.granTurn (l.filter (fun n => n != h && !s.takesGranules n)))
    else nextAfter s.locket.granTurn l
  | none => nextAfter s.locket.granTurn l

/-- A job's turn has come and the granules it needs are not free: they are held for it, and its wait is counted once
(R85, R89). -/
def State.holdGranules (s : State) (n id : Nat) (j : Job) : State :=
  let s := { s with locket := { s.locket with granHeld := some n } }
  if j.granWaited then s
  else (s.setJob id (some { j with granWaited := true })).count .LKT_ADMIT_WAITS_COUNT

/-- A job obtains its granules and enters PREPARING; a creation the store has no room for is refused (R70, R225). -/
def State.admitJob (s : State) (n id : Nat) (j : Job) : State :=
  let held := if s.locket.granHeld = some n then none else s.locket.granHeld
  let s := { s with locket := { s.locket with granTurn := n, granHeld := held } }
  let full := j.creates && !s.roomFor j.newType j.newSize
  let j := { j with stage := .preparing, gran := j.granules }
  let s := s.setJob id (some j)
  let s := if j.namesObject then s else s.operandsKnown id j none none
  if full then s.refuse id (.denied 0x0105) else s

/-- LOCKET_ADMISSION (R84, R85): the job whose turn it is obtains its granules and enters PREPARING;
while it needs more than are free, none are granted to another. -/
def execLocketAdmission (s : State) : Host.Outcome State Fault Refusal :=
  let s := s.noteHolds
  if s.halted || s.zeroised then .next s
  else
    match s.admissionTurn with
    | none => .next s
    | some n =>
      match s.nextAdmission n with
      | none => .next s
      | some (id, j) =>
        match s.admitChecks j with
        | (some (st, d), _) => .next (s.endEarly id st d).settle
        | (none, j') =>
          if s.granulesFit n then .next (s.admitJob n id j').settle.notePeaks else .next (s.holdGranules n id j)

/-! ## Directory lookup (R75, R78, R93, R205, R222 to R224) -/

/-- Earlier unreleased jobs of a job's instance and generation. -/
def State.earlier (s : State) (j : Job) : List (Nat × Job) :=
  s.jobsInOrder.filter (fun e => e.2.inst == j.inst && e.2.gen == j.gen && e.2.order < j.order && e.2.stamp.isNone && e.2.live)

/-- The handle a job's PRIMARY names as things stand: a reference names what its creator makes, 0 while that has no
handle (R76). -/
def State.handleOf (s : State) (j : Job) : Nat :=
  if isReference j.primary then
    match s.resolveRef j (j.primary % 2 ^ 32) with
    | .inLocket d => ((s.job d).map (·.resultHandle)).getD 0
    | .released r => r.handle
    | .nothing => 0
  else j.primary

/-- The jobs a job depends on by the handles it names (R75): the creator of one, and those that change
the policy of one. -/
def State.depsOf (s : State) (j : Job) (handles : List Nat) : List Nat :=
  ((s.earlier j).filter (fun e =>
    (e.2.creates && e.2.resultHandle != 0 && handles.contains e.2.resultHandle) ||
      (e.2.op == opKeySetPolicy && handles.contains (s.handleOf e.2)))).map (·.1)

/-- The earlier KEY_DESTROYs a job waits for (R78). -/
def State.destroysOf (s : State) (j : Job) (handles : List Nat) : List Nat :=
  ((s.earlier j).filter (fun e => e.2.op == opKeyDestroy && handles.contains (s.handleOf e.2))).map (·.1)

/-- Whether a command takes the private or public part of its object, so that the object is unsealed. -/
def Job.takesKey (j : Job) (o : Obj) : Bool :=
  o.type != 0x0B && !(j.op == opKeyDestroy || j.op == opKeySetPolicy || j.op == opKeyDescribe ||
    j.op == opCounterRead || j.op == opAttest || j.op == opOwnerApprove)

/-- Objects that no setting holds for the job, to be unsealed (R80). -/
def State.missing (s : State) (j : Job) (os : List Obj) : List Nat :=
  (os.filter (fun o => j.takesKey o && (s.findRun o.handle j.inst).isNone)).map (·.handle)

/-- The handles a job names, resolved. -/
def Job.handles (j : Job) : List Nat := [j.primary, j.secondary].filter (· != 0)

/-- An object as the earlier jobs of the instance will commit it (R75): with their unsealed records, the
object one of them creates, the policies they set. -/
def State.depView (s : State) (j : Job) (h : Nat) : Option Obj :=
  (s.earlier j).foldl (fun o e =>
    if e.2.joined.isSome then o
    else if e.2.creates && e.2.resultHandle == h then e.2.plan.bind (·.newObj)
    else if e.2.op == opKeySetPolicy && s.handleOf e.2 == h then
      o.map (fun x => { x with policy := x.policy.narrow e.2.policy })
    else o) (s.viewObj j.inst h)

/-- The directory gives what a job's handles name (R93): an object that is not there, or no longer, ends it. -/
def State.found (s : State) (id : Nat) (j : Job) : State :=
  let hs := j.handles
  let s := hs.foldl (fun s h => s.restoreFor h) s
  if s.restore.state == .failed then s
  else
  let entries := hs.map (fun h => s.presents j.inst h)
  let dmg := entries.any (fun e => e.any (fun x => x.state == .damaged))
  let view (h : Nat) : Option Obj := if h = 0 then none else s.depView j h
  let o := view j.primary
  let o2 := view j.secondary
  if entries.any Option.isNone || (j.primaryField != 0 && j.primary == 0) ||
      (!dmg && hs.any (fun h => (view h).isNone)) then s.endEarly id .noSuchObject noDetail
  else
    let os := o.toList ++ o2.toList
    let miss := s.missing j os
    let keyed := os.filter (fun x => j.takesKey x)
    let s := { s with ladder := { s.ladder with hits := s.ladder.hits + (keyed.length - miss.length),
                                                misses := s.ladder.misses + miss.length } }
    s.operandsKnown id { j with damaged := dmg, unsealing := if dmg then [] else miss } o o2

/-- The lookup of a job whose handle is resolved: its dependencies are noted, and it goes on once no KEY_DESTROY of an
object it names is to be released (R75, R78). -/
def State.lookup (s : State) (id : Nat) (j : Job) : State :=
  let hs := j.handles
  let j := { j with deps := distinct (j.deps ++ s.depsOf j hs), destroyWait := s.destroysOf j hs }
  let s := s.setJob id (some j)
  if j.destroyWait.isEmpty then s.found id j else s

/-- DIRECTORY_LOOKUP_COMPLETE (R93, R112): a job that refers to a creation waits for its handle, and one that names an
object whose KEY_DESTROY is not released waits for that. -/
def execDirectoryLookupComplete (job : Nat) (s : State) : Host.Outcome State Fault Refusal :=
  match s.job job with
  | none => .next s
  | some j =>
    if j.stage != .preparing || j.looked || !j.namesObject || j.stamp.isSome || j.squash || j.forced.isSome ||
        !j.destroyWait.isEmpty then .next s
    else if isReference j.primary then
      match j.deps with
      | d :: _ =>
        match s.job d with
        | some x =>
          if x.ended && x.resultHandle != 0 then
            .next ((s.lookup job { j with primary := x.resultHandle }).settle)
          else .next s
        | none => .next s
      | [] => .next s
    else .next ((s.lookup job j).settle)

/-! ## Unseal (R80, R348, R355) -/

/-- OBJECT_UNSEAL_COMPLETE (R80, R355): the next object awaited fills a speculative setting, or, its tag
failing, leaves the entry DAMAGED; the event is recorded with the job's release stamp (R63; log entry 64). A job already
refused, whose settings R81 erases, takes its key without a setting. -/
def execObjectUnsealComplete (job : Nat) (tagOk : Bool) (s : State) : Host.Outcome State Fault Refusal :=
  match s.job job with
  | none => .next s
  | some j =>
    match j.unsealing with
    | [] => .next s
    | h :: rest =>
      if tagOk then
        let o := if h == j.primary then j.target else j.second
        match o with
        | none => .next (s.setJob job (some { j with unsealing := rest }))
        | some x =>
          if !j.refused.isEmpty || j.squash || j.forced.isSome then .next (s.setJob job (some { j with unsealing := rest }))
          else
          if (s.findRun h j.inst).isSome then .next (s.setJob job (some { j with unsealing := rest }))
          else
            let (s, ok) := (s.useSeal (ownerOf h) x.svn).fillRun (x.specRun j.inst job) (runLength x.type x.size)
            .next (if ok then s.setJob job (some { j with unsealing := rest }) else s)
      else
        .next ((s.damage h).setJob job (some { j with unsealing := rest, damaged := true, tagFails := j.tagFails ++ [h] }))

end Sys2Proof.Machine
end

