-- ==== Sys2Proof/Machine/Operations.lean ====
section
/-! DEFINITION. The commands of an instance queue: what each makes of its operands, on which engines and
in what time (R114 to R154, R270 to R275, R288, R299). A command's meaning is worked out once its
operands are present; its engine work then runs, and its outcome and output come about when that
ends. -/

namespace Sys2Proof.Machine

/-! ## Shared pieces of plans -/

/-- A plan with no output, no records and no object. -/
def Plan.plain (st : Status) (steps : List (Engine × Nat)) : Plan :=
  { status := st, detail := noDetail, output := [], recs := [], newObj := none, steps := steps }

/-- A DONE plan with an output. -/
def Plan.out (b : Bytes) (steps : List (Engine × Nat)) : Plan := { Plan.plain .done steps with output := b }

/-- A plan whose engine gives an output, or ends with a status for want of one. -/
def Plan.orElse (o : Option Bytes) (bad : Status) (steps : List (Engine × Nat)) : Plan :=
  match o with
  | some b => Plan.out b steps
  | none => Plan.plain bad steps

/-- The input of a job. -/
def Job.inp (j : Job) : Bytes := j.input.getD []

/-- The stored encoding of the object a job works with. -/
def Job.enc (j : Job) : Bytes := (j.target.map (·.enc)).getD []

/-- TYPE and SIZE of it. -/
def Job.tz (j : Job) : Nat × Nat := j.keyKind j.target

/-- The public encoding a VERIFY, ASYM_ENCRYPT or ENCAPS works with (R128). -/
def Job.pubKey (j : Job) : Bytes :=
  match j.target with
  | some o => o.publicEnc
  | none => j.inp.take j.keyLen

/-- Whether that key passes the checks of R128; an object's has passed them. -/
def Job.pubOk (j : Job) : Bool :=
  j.target.isSome || publicKeyOk j.tz.1 j.tz.2 j.pubKey

/-- A message digested before the signing core starts (R132, R291, R299). -/
def digestStep (hash n : Nat) : List (Engine × Nat) :=
  if isSha2 hash then [(.sym, laneNs 0x0C hash n 0)] else [(.lat, keccakNs hash n (digestLen hash))]

/-- Octets of a formatted message beside the message itself (R290). -/
def formattedLen (hash ctx n : Nat) : Nat :=
  64 + 2 + ctx + (if hash = 0 then n else 11 + prehashLen 0x31 hash)

/-- The steps before and at the signing or verifying engine; `last` is its time without a message's own
part. -/
def Job.sigSteps (j : Job) (n : Nat) (core : Nat → Engine × Nat) : List (Engine × Nat) :=
  let scheme := j.inl 56 1
  let hash := j.inl 57 1
  let size := j.tz.2
  let pre := nbit (j.inl 58 1) 0
  let fixed := if scheme = 0x22 then (if size = 25519 then 0x03 else 0x22) else hash
  if scheme = 0x20 || scheme = 0x21 then [core n]
  else if scheme = 0x30 then
    let (e, t) := core 0
    [(e, t + absorbNs (formattedLen 0 (j.inl 62 2) n) 136)]
  else if scheme = 0x31 then
    let (e, t) := core 0
    let t := t + absorbNs (formattedLen hash (j.inl 62 2) n) 136
    if pre then [(e, t)]
    else if isSha2 hash then digestStep hash n ++ [(e, t)]
    else [(e, t + keccakNs hash n (prehashLen 0x31 hash))]
  else (if pre then [] else digestStep fixed n) ++ [core (if scheme = 0x22 then 64 else 0)]

/-- The parameters of a signature (R130). -/
def Job.sigParams (j : Job) : SigParams :=
  { scheme := j.inl 56 1, hash := j.inl 57 1, prehashed := nbit (j.inl 58 1) 0, det := nbit (j.inl 58 1) 1,
    saltLen := j.inl 60 2, type := j.tz.1, size := j.tz.2 }

/-- RSA public time for the exponent of a public encoding (R273). -/
def rsaPublicNs (size : Nat) (pub : Bytes) : Nat :=
  let e := beNat (slice pub (size / 8) 8)
  rsaPubNs size (Nat.log2 e + 1) (popCount 64 e)

/-- The key encoding of an object (R94, R216). -/
def Obj.keyEnc (o : Obj) : Bytes :=
  if o.type = 0x0B then be 8 o.counter
  else keyEncOf o.type o.size o.enc

/-- A new object as a creating job makes it (R215): its handle and bead come with its record. -/
def State.newObj (s : State) (type size : Nat) (enc : Bytes) (counter : Nat) (p : Policy) : Obj :=
  { handle := 0, type := type, size := size, svn := s.svn, enc := enc, sealCount := 1,
    sealClasp := s.strand.clasp.getD s.strand.lastClasp, highWater := 0, counter := counter, bead := 0, policy := p }

/-- The plan of a job that creates an object. -/
def State.createPlan (s : State) (type size : Nat) (enc : Bytes) (counter : Nat) (p : Policy) (pub : Bool)
    (steps : List (Engine × Nat)) : Plan :=
  let o := s.newObj type size enc counter p
  { Plan.plain .done steps with output := if pub then o.publicOut else [], newObj := some o }

/-- The engine that makes or checks a key of a type, and its time (R273, R288). -/
def keySteps (type size : Nat) : List (Engine × Nat) :=
  match type with
  | 0x02 => [(.big, curveKeyNs type size)]
  | 0x03 => [(.big, curveKeyNs type size)]
  | 0x04 => [(.big, curveKeyNs type size)]
  | 0x05 => [(.lat, mlkemNs size 0)]
  | 0x06 => [(.lat, mldsaKeyNs size)]
  | _ => []

/-- What a plan becomes when the object's unseal failed (R355): ENGINE_REJECT at the nominal time. -/
def Job.orDamaged (j : Job) (p : Plan) : Plan :=
  if j.damaged && (j.target.map j.takesKey).getD false then Plan.plain .engineReject p.steps else p

/-! ## Working a plan out -/

/-- The work is planned. A job with no engine work has ended at once (R578). -/
def State.setPlan (s : State) (id : Nat) (j : Job) (p : Plan) : State :=
  let n := s.locket.nextReady
  let s := { s with locket := { s.locket with nextReady := n + 1 } }
  let none := p.steps.isEmpty
  s.setJob id (some { j with plan := some p, steps := p.steps, readySeq := n, output := p.output, ended := none,
                             stage := if none then (if j.refused.isEmpty then .held else .denying) else j.stage })

/-- Allocates the new object's handle and enters it in the directory, uncommitted (R91, R223); its key
fills a speculative setting (R82). Nothing is created by a job refused, squashed or whose owner's serials
are exhausted. -/
def State.createObject (s : State) (id : Nat) : State :=
  match s.job id with
  | none => s
  | some j =>
    match j.plan with
    | none => s
    | some p =>
      match p.newObj with
      | none => s
      | some o =>
        let ow := s.boundOwner j.inst
        let serial := s.nextSerial ow
        if !j.refused.isEmpty || j.squash || j.forced.isSome then s
        else if serial ≥ serialEnd then s.refuse id (.denied 0x0109)
        else
          let o := { o with handle := mkHandle ow serial }
          let s := s.modOwner ow (fun x => { x with serial := x.serial + 1 })
          let s := s.setJob id (some { j with resultHandle := o.handle,
                                              plan := some { p with newObj := some o, recs := [.objectCreate o] } })
          let s := (s.dirPending o j.inst j.gen id).resizeCheck
          if o.type = 0x0B then s else (s.fillRun (o.specRun j.inst id) (runLength o.type o.size)).1

/-- What a job's end of engine work brings: a new object, or the refusal its engine found (R116). -/
def State.workEnded (s : State) (id : Nat) : State :=
  match s.job id with
  | none => s
  | some j =>
    match j.plan.map (fun (p : Plan) => (p.status, p.detail)) with
    | some (.deniedPolicy, d) => s.refuse id (.denied d)
    | some (.done, _) => s.createObject id
    | _ => s

/-- Works out the plan of a job whose operands are all present, for the opcode given. -/
def State.runPlan (s : State) (id op : Nat) (mk : State → Job → Plan) : State :=
  match s.job id with
  | none => s
  | some j =>
    if j.op == op && s.readyToPlan j then
      let s := s.setPlan id j (j.orDamaged (mk s j))
      if ((s.job id).map (·.ended)).getD false then (s.workEnded id).settle else s
    else s

/-! ## Key life (R114 to R120) -/

/-- The candidate a draw gives for a prime of a modulus of `size` bits (R275). -/
def rsaCandidate (size : Nat) (rnd : Bytes) : Nat :=
  let h := size / 2
  3 * 2 ^ (h - 2) + beNat rnd % 2 ^ (h - 2) / 2 * 2 + 1

/-- Whether the finishing step discards q (R275): the primes are too near, or d is too small. -/
def rsaDiscards (size p q : Nat) : Bool :=
  max p q - min p q ≤ 2 ^ (size / 2 - 100) || modInv 65537 (Nat.lcm (p - 1) (q - 1)) ≤ 2 ^ (size / 2)

/-- The step a search is at ends (R275): the next round or the finish follows, or a draw for another candidate, or the key
is found. The bases of the rounds are open (log entry 3). -/
def State.searchStep (s : State) (j : Job) : Job × State :=
  match j.search with
  | none => (j, s)
  | some x =>
    let size := j.newSize
    let t := mrNs size
    let now := j.steps.take 1
    let again (found : Option Nat) : Job :=
      { j with search := some { found := found, cand := 0, round := 1 }, steps := now ++ [(.rng, drawNs (size / 16) false), (.big, t)] }
    if x.round = 0 then
      let p := x.found.getD 0
      if rsaDiscards size p x.cand then (again x.found, s)
      else
        let plan := s.createPlan 0x01 size (rsaStored (size / 8) 65537 p x.cand) 0 j.policy true []
        ({ j with search := none, plan := some plan, output := plan.output }, s)
    else
      let base := 2 + Config.freeNat s.free % (x.cand - 3)
      let passed := millerRabin x.cand base && (x.round != 1 || x.cand % 65537 != 1)
      let s := { s with free := s.free + 1 }
      if !passed then (again x.found, s)
      else if x.round < 8 then ({ j with search := some { x with round := x.round + 1 }, steps := now ++ [(.big, t)] }, s)
      else if x.found.isNone then (again (some x.cand), s)
      else ({ j with search := some { x with round := 0 }, steps := now ++ [(.big, 2 * t)] }, s)

/-- KEY_GENERATE's plan (R114, R126, R150, R275, R287): the key follows from the draw; that of an RSA key from the search,
which begins with a first round. -/
def planKeyGenerate (s : State) (j : Job) : Plan :=
  let (t, z) := (j.newType, j.newSize)
  if t = 0x01 then s.createPlan t z [] 0 j.policy true [(.big, mrNs z)]
  else s.createPlan t z (genKey t z (j.rnd.getD [])) 0 j.policy true (keySteps t z)

/-- KEY_GENERATE. -/
def execKeyGenerate (job : Nat) (s : State) : Host.Outcome State Fault Refusal :=
  let begins := ((s.job job).map (fun j => j.op == opKeyGenerate && j.newType == 0x01 && s.readyToPlan j)).getD false
  let s := s.runPlan job opKeyGenerate planKeyGenerate
  .next (if begins then
      s.modJob job (fun j => { j with search := some { found := none, cand := rsaCandidate j.newSize (j.rnd.getD []), round := 1 } })
    else s)

/-- The key-encryption key of FORMAT 0x03 (R116). -/
def hybridKek (secret : Bytes) (type size : Nat) : Bytes :=
  (Config.hmac 0x03 secret (be 4 1 ++ ascii [0x4B, 0x4E, 0x58, 0x48, 0x59, 0x42, 0x52, 0x44] ++ [0#8] ++ be 1 type ++
    be 2 size ++ be 4 0x100)).take 32

/-- Octets of an ML-KEM ciphertext. -/
def kemCipherLen (size : Nat) : Nat := if size = 512 then 768 else if size = 768 then 1088 else 1568

/-- An import whose key encoding has been opened: the consistency checks of its type, or the failure of
its wrapping. -/
def State.importPlan (s : State) (j : Job) (key : Option Bytes) (p : Policy) (steps : List (Engine × Nat)) : Plan :=
  let (t, z) := (j.newType, j.newSize)
  let check := if t = 0x01 then [(Engine.big, keyCheckNs z)] else keySteps t z
  match key with
  | none => Plan.plain .tagMismatch steps
  | some k =>
    match storedOf t z k with
    | none => Plan.plain .engineReject (steps ++ check)
    | some enc => s.createPlan t z enc (if t = 0x0B then beNat k else 0) p true (steps ++ check)

/-- The key encoding of a transfer blob of R118 for the instance's owner, with the blob's policy. -/
def State.openBlob (s : State) (owner : Nat) (b : Bytes) : Option (Bytes × Policy) :=
  let len := fieldLE b 20 4
  if slice b 0 5 == ascii [0x4B, 0x59, 0x58, 0x31, 0x01] && fieldLE b 16 2 == owner && b.length == 120 + len then
    (Config.aeadOpen 1 16 (((s.exportKey owner).getD []).take 32) (slice b 24 12) (b.take 104) (b.drop 104)).map
      (fun k => (k, Policy.ofBytes (slice b 40 64)))
  else none

/-- KEY_IMPORT's plan (R116). A POLICY not narrower than the blob's ends DENIED_POLICY, detail 0x0106 (log entry 76). -/
def planKeyImport (s : State) (j : Job) : Plan :=
  let n := j.inputLen
  let sec := (j.second.map (·.enc)).getD []
  match j.inl 60 1 with
  | 1 => s.importPlan j (Config.unwrap 2 sec j.inp) j.policy [(.sym, laneNs 0x0B 0 n n)]
  | 2 =>
    let steps := [(Engine.sym, laneNs 0x04 0 n 0)]
    match s.openBlob (s.boundOwner j.inst) j.inp with
    | none => Plan.plain .tagMismatch steps
    | some (k, bp) =>
      let own := (slice j.entry 64 64).all (· == 0#8)
      if fieldLE j.inp 5 1 != j.newType || fieldLE j.inp 6 2 != j.newSize then Plan.plain .engineReject steps
      else if own then s.importPlan j (some k) bp steps
      else if j.policy.narrower bp then s.importPlan j (some k) j.policy steps
      else { Plan.plain .deniedPolicy steps with detail := 0x0106 }
  | _ =>
    let z2 := (j.second.map (·.size)).getD 0
    let ct := kemCipherLen z2
    let kek := hybridKek (Config.decaps z2 sec (j.inp.take ct)) j.newType j.newSize
    s.importPlan j (Config.unwrap 2 kek (j.inp.drop ct)) j.policy
      [(.lat, mlkemNs z2 2), (.sym, laneNs 0x0B 0 (n - ct) (n - ct))]

/-- KEY_IMPORT. -/
def execKeyImport (job : Nat) (s : State) : Host.Outcome State Fault Refusal :=
  .next (s.runPlan job opKeyImport planKeyImport)

/-- The message of block `i` of a derivation (R117). -/
def deriveMsg (i owner type size : Nat) (label context : Bytes) : Bytes :=
  be 4 i ++ label ++ [0#8] ++ be 2 owner ++ be 1 type ++ be 2 size ++ context ++ be 4 size

/-- KEY_DERIVE's plan (R117): on the derivation unit; the parent's HMAC states are cached when its key
was used most recently (log entry 5). -/
def planKeyDerive (s : State) (j : Job) : Plan :=
  let (t, z) := (j.newType, j.newSize)
  let msg (i : Nat) : Bytes := deriveMsg i (s.boundOwner j.inst) t z (j.inp.take 8) (j.inp.drop 8)
  let key := (((List.range (ceilDiv z 512)).map (fun i => Config.hmac 0x03 j.enc (msg (i + 1)))).flatten).take (z / 8)
  s.createPlan t z (padTo (z / 8) key) 0 j.policy false
    [(.kdf, deriveNs z (msg 1).length (s.ladder.cached.contains j.primary))]

/-- KEY_DERIVE. The parent's states are cached from then on (R350). -/
def execKeyDerive (job : Nat) (s : State) : Host.Outcome State Fault Refusal :=
  let s' := s.runPlan job opKeyDerive planKeyDerive
  match s.job job with
  | some j =>
    if j.op == opKeyDerive && s.readyToPlan j then .next (s'.cacheKey j.primary) else .next s'
  | none => .next s'

/-- KEY_DESTROY (R119): its record joins; the object goes when the bead is sealed. -/
def execKeyDestroy (job : Nat) (s : State) : Host.Outcome State Fault Refusal :=
  .next (s.runPlan job opKeyDestroy (fun _ j => { Plan.plain .done [] with recs := [.objectDestroy j.primary] }))

/-- KEY_SET_POLICY (R105). -/
def execKeySetPolicy (job : Nat) (s : State) : Host.Outcome State Fault Refusal :=
  .next (s.runPlan job opKeySetPolicy (fun _ j => { Plan.plain .done [] with recs := [.policySet j.primary j.policy] }))

/-- Octets KWP makes of `n` (R144). -/
def kwpLen (n : Nat) : Nat := max 16 (roundUp 8 n + 8)

/-- KEY_EXPORT_WRAPPED's plan (R118). -/
def planKeyExport (s : State) (j : Job) : Plan :=
  match j.target with
  | none => Plan.plain .engineReject []
  | some o =>
    let key := o.keyEnc
    if j.inl 56 1 = 1 then
      let w := kwpLen key.length
      Plan.out (padTo w (Config.wrap 2 ((j.second.map (·.enc)).getD []) key)) [(.sym, laneNs 0x0B 0 0 w)]
    else
      let owner := ownerOf o.handle
      let nonce := padTo 12 (j.rnd.getD [])
      let head := ascii [0x4B, 0x59, 0x58, 0x31, 0x01] ++ le 1 o.type ++ le 2 o.size ++ le 8 o.handle ++ le 2 owner ++
        zeros 2 ++ le 4 key.length ++ nonce ++ zeros 4 ++ o.policy.bytes
      Plan.out (head ++ padTo (key.length + 16)
        (Config.aeadSeal 1 16 (((s.exportKey owner).getD []).take 32) nonce head key)) [(.sym, laneNs 0x04 0 key.length 0)]

/-- KEY_EXPORT_WRAPPED. -/
def execKeyExportWrapped (job : Nat) (s : State) : Host.Outcome State Fault Refusal :=
  .next (s.runPlan job opKeyExport planKeyExport)

/-- KEY_DESCRIBE (R120): no engine work; its output is made at the release stamp. -/
def execKeyDescribe (job : Nat) (s : State) : Host.Outcome State Fault Refusal :=
  .next (s.runPlan job opKeyDescribe (fun _ _ => Plan.plain .done []))

/-! ## Signatures (R130 to R133) -/

/-- SIGN's plan. -/
def planSign (_s : State) (j : Job) : Plan :=
  let (t, z) := j.tz
  let n := j.inputLen
  let out := padTo (sigLen t z) (Config.sign j.sigParams j.enc (if t = 6 then j.sigRnd else j.rnd.getD []) j.string j.inp)
  let core (m : Nat) : Engine × Nat :=
    if t = 1 then (.big, rsaPrivNs z) else if t = 6 then (.lat, mldsaSignNs z (min 1000 j.iterations))
    else (.big, curveSignNs t z m)
  let steps := j.sigSteps n core
  if t = 6 && j.iterations > 1000 then Plan.plain .engineReject steps else Plan.out out steps

/-- SIGN. -/
def execSign (job : Nat) (s : State) : Host.Outcome State Fault Refusal := .next (s.runPlan job opSign planSign)

/-- VERIFY's plan (R133): key ‖ signature ‖ message. An RSA signature not below n is rejected by the operation (R268,
R272). -/
def planVerify (_s : State) (j : Job) : Plan :=
  let (t, z) := j.tz
  let sigN := j.inl 64 2
  let sig := slice j.inp j.keyLen sigN
  let msg := j.inp.drop (j.keyLen + sigN)
  let core (m : Nat) : Engine × Nat :=
    if t = 1 then (.big, rsaPublicNs z j.pubKey) else if t = 6 then (.lat, mldsaVerifyNs z) else (.big, curveVerifyNs t z m)
  let steps := j.sigSteps (j.inputLen - j.keyLen - sigN) core
  if !j.pubOk then Plan.plain .engineReject steps
  else if t = 1 && !belowModulus z j.pubKey sig then Plan.plain .engineReject steps
  else if sigValid j.sigParams j.pubKey j.string msg sig then Plan.plain .done steps
  else Plan.plain .tagMismatch steps

/-- VERIFY. -/
def execVerify (job : Nat) (s : State) : Host.Outcome State Fault Refusal := .next (s.runPlan job opVerify planVerify)

/-! ## RSA encryption, agreement and encapsulation (R134 to R138) -/

/-- ASYM_DECRYPT: a ciphertext not below n, or one that does not decode, ends ENGINE_REJECT (R134). -/
def execAsymDecrypt (job : Nat) (s : State) : Host.Outcome State Fault Refusal :=
  .next (s.runPlan job opAsymDecrypt (fun _ j =>
    let z := j.tz.2
    let plain := if belowModulus z j.enc j.inp then Config.oaepDecrypt (j.inl 57 1) z j.enc j.string j.inp else none
    Plan.orElse (plain.map (fun b => b.take (z / 8 - 2 * digestLen (j.inl 57 1) - 2))) .engineReject [(.big, rsaPrivNs z)]))

/-- ASYM_ENCRYPT. -/
def execAsymEncrypt (job : Nat) (s : State) : Host.Outcome State Fault Refusal :=
  .next (s.runPlan job opAsymEncrypt (fun _ j =>
    let z := j.tz.2
    let steps := [(Engine.big, rsaPublicNs z j.pubKey)]
    if !j.pubOk then Plan.plain .engineReject steps
    else Plan.out (padTo (z / 8) (Config.oaepEncrypt (j.inl 57 1) z j.pubKey (j.rnd.getD []) j.string (j.inp.drop j.keyLen))) steps))

/-- The shared secret of an agreement (R136): nothing for a peer point that is not on the curve or for an X25519 or X448
result of all zeros. -/
def sharedSecret (type size : Nat) (stored peer : Bytes) : Option Bytes :=
  if type = 2 then
    (pointOf size peer).map (fun p =>
      be (ecLen size) (((ecCurve size).mul (beNat (keyEncOf 2 size stored)) (some p)).getD (0, 0)).1)
  else
    let r := padTo (keyEncLen type size) (Config.xdh size (keyEncOf type size stored) peer)
    if r.all (· == 0#8) then none else some r

/-- AGREE. -/
def execAgree (job : Nat) (s : State) : Host.Outcome State Fault Refusal :=
  .next (s.runPlan job opAgree (fun _ j =>
    let (t, z) := j.tz
    Plan.orElse (sharedSecret t z j.enc j.inp) .engineReject [(.big, curveKeyNs t z)]))

/-- ENCAPS. -/
def execEncaps (job : Nat) (s : State) : Host.Outcome State Fault Refusal :=
  .next (s.runPlan job opEncaps (fun _ j =>
    let z := j.tz.2
    let steps := [(Engine.lat, mlkemNs z 1)]
    if !j.pubOk then Plan.plain .engineReject steps
    else Plan.out (padTo (kemCipherLen z + 32) (Config.encaps z j.pubKey (j.rnd.getD []))) steps))

/-- DECAPS: implicit rejection ends DONE. -/
def execDecaps (job : Nat) (s : State) : Host.Outcome State Fault Refusal :=
  .next (s.runPlan job opDecaps (fun _ j =>
    Plan.out (padTo 32 (Config.decaps j.tz.2 j.enc j.inp)) [(.lat, mlkemNs j.tz.2 2)]))

/-! ## Bulk encryption, authentication and wrapping (R139 to R145) -/

/-- The lane mode of an AEAD mode (R299). -/
def aeadLane (mode : Nat) : Nat := if mode = 1 then 0x04 else if mode = 2 then 0x05 else 0x06

/-- The nonce of an AEAD job: supplied, or drawn (R139). -/
def Job.nonce (j : Job) : Bytes :=
  if j.inl 59 1 = 1 then padTo 12 (j.rnd.getD []) else slice j.entry 64 (j.inl 58 1)

/-- AEAD_SEAL. -/
def execAeadSeal (job : Nat) (s : State) : Host.Outcome State Fault Refusal :=
  .next (s.runPlan job opAeadSeal (fun _ j =>
    let aad := j.inp.take (j.inl 60 4)
    let p := j.inp.drop (j.inl 60 4)
    Plan.out ((if j.inl 59 1 = 1 then j.nonce else []) ++
      padTo (p.length + j.inl 57 1) (Config.aeadSeal (j.inl 56 1) (j.inl 57 1) j.enc j.nonce aad p))
      [(.sym, laneNs (aeadLane (j.inl 56 1)) 0 j.inputLen 0)]))

/-- AEAD_OPEN: a failed tag gives no output. -/
def execAeadOpen (job : Nat) (s : State) : Host.Outcome State Fault Refusal :=
  .next (s.runPlan job opAeadOpen (fun _ j =>
    let aad := j.inp.take (j.inl 60 4)
    let c := j.inp.drop (j.inl 60 4)
    Plan.orElse ((Config.aeadOpen (j.inl 56 1) (j.inl 57 1) j.enc j.nonce aad c).map (padTo (c.length - j.inl 57 1)))
      .tagMismatch [(.sym, laneNs (aeadLane (j.inl 56 1)) 0 j.inputLen 0)]))

/-- CIPHER: equal halves of an XTS key end ENGINE_REJECT. -/
def execCipher (job : Nat) (s : State) : Host.Outcome State Fault Refusal :=
  .next (s.runPlan job opCipher (fun _ j =>
    let m := j.inl 56 1
    let steps := [(Engine.sym, laneNs m 0 j.inputLen 0)]
    if m = 3 && j.enc.take 16 == j.enc.drop 16 then Plan.plain .engineReject steps
    else Plan.out (padTo j.inputLen (Config.cipher m (j.inl 57 1 == 1) j.enc (slice j.entry 64 16) j.inp)) steps))

/-- MAC: generation outputs the leftmost octets; verification compares them with the end of the input. -/
def execMac (job : Nat) (s : State) : Host.Outcome State Fault Refusal :=
  .next (s.runPlan job opMac (fun _ j =>
    let m := j.inl 56 1
    let len := j.inl 59 1
    let gen := j.inl 58 1 == 0
    let msg := if gen then j.inp else j.inp.take (j.inputLen - len)
    let tag := padTo len (Config.mac m (j.inl 57 1) j.enc (slice j.entry 64 12) msg)
    let steps := [(Engine.sym, laneNs (if m = 1 then 0x07 else if m = 2 then 0x08 else 0x09) (j.inl 57 1) j.inputLen 0)]
    if gen then Plan.out tag steps
    else if tag == j.inp.drop (j.inputLen - len) then Plan.plain .done steps else Plan.plain .tagMismatch steps))

/-- WRAP. -/
def execWrap (job : Nat) (s : State) : Host.Outcome State Fault Refusal :=
  .next (s.runPlan job opWrap (fun _ j =>
    let m := j.inl 56 1
    let w := if m = 1 then j.inputLen + 8 else kwpLen j.inputLen
    Plan.out (padTo w (Config.wrap m j.enc j.inp)) [(.sym, laneNs (if m = 1 then 0x0A else 0x0B) 0 j.inputLen w)]))

/-- UNWRAP: to the host, or into a new object (R145). -/
def execUnwrap (job : Nat) (s : State) : Host.Outcome State Fault Refusal :=
  .next (s.runPlan job opUnwrap (fun s j =>
    let m := j.inl 56 1
    let steps := [(Engine.sym, laneNs (if m = 1 then 0x0A else 0x0B) 0 j.inputLen j.inputLen)]
    match Config.unwrap m j.enc j.inp with
    | none => Plan.plain .tagMismatch steps
    | some k =>
      if !j.unwrapCreates then Plan.out (k.take (j.inputLen - 8)) steps
      else
        match storedOf j.newType j.newSize k with
        | none => Plan.plain .engineReject steps
        | some e => s.createPlan j.newType j.newSize e 0 j.policy false steps))

/-! ## Random numbers and hashing (R146, R147) -/

/-- RANDOM: exactly OUTPUT_CAP octets of one generate call. -/
def execRandom (job : Nat) (s : State) : Host.Outcome State Fault Refusal :=
  .next (s.runPlan job opRandom (fun _ j => Plan.out (padTo j.outputCap (j.rnd.getD [])) []))

/-- HASH. -/
def execHash (job : Nat) (s : State) : Host.Outcome State Fault Refusal :=
  .next (s.runPlan job opHash (fun _ j =>
    let h := j.inl 56 1
    let len := if isShake h then j.inl 60 4 else digestLen h
    Plan.out (padTo len (Config.hash h len j.inp))
      (if isSha2 h then [(.sym, laneNs 0x0C h j.inputLen 0)] else [(.lat, keccakNs h j.inputLen len)])))

/-! ## Approvals, counters and quotes (R148 to R154) -/

/-- The signature parameters and the verify step of an approver key's type (R148, R149). -/
def approvalScheme (type : Nat) (pub : Bytes) : SigParams × List (Engine × Nat) :=
  let base : SigParams :=
    { scheme := 0x02, hash := 0x03, prehashed := false, det := false, saltLen := 64, type := 1, size := 4096 }
  match type with
  | 1 => (base, [(.big, rsaPublicNs 4096 pub)])
  | 2 => ({ base with scheme := 0x10, hash := 0x02, saltLen := 0, type := 2, size := 384 }, [(.big, curveVerifyNs 2 384 0)])
  | _ => ({ base with scheme := 0x30, hash := 0, saltLen := 0, type := 6, size := 65 },
      [(.lat, mldsaVerifyNs 65 + absorbNs (formattedLen 0 0 64) 136)])

/-- OWNER_APPROVE's plan: the signature over the 64-octet statement under the approver's key. -/
def planOwnerApprove (s : State) (j : Job) : Plan :=
  let ap := s.approver (s.boundOwner j.inst) (fieldLE j.inp 11 1)
  let (p, steps) := approvalScheme (fieldLE ap 0 1) (ap.drop 1)
  if sigValid p (ap.drop 1) [] (j.inp.take 64) (j.inp.drop 64) then Plan.plain .done steps
  else Plan.plain .tagMismatch steps

/-- OWNER_APPROVE: its statement has been checked with its input's arrival; the approval is held from the
release stamp. -/
def execOwnerApprove (job : Nat) (s : State) : Host.Outcome State Fault Refusal :=
  .next (s.runPlan job opOwnerApprove planOwnerApprove)

/-- COUNTER_READ: no engine work; an advance is a record whose value is fixed when its bead closes
(R151). -/
def execCounterRead (job : Nat) (s : State) : Host.Outcome State Fault Refusal :=
  .next (s.runPlan job opCounterRead (fun _ j =>
    if j.advances then { Plan.plain .done [] with recs := [.counterAdvance j.primary (j.inl 64 8) 0] }
    else Plan.plain .done []))

/-- ATTEST_QUOTE: the time of an RSA-4096 signature; the body is that of the release stamp (R153). -/
def execAttestQuote (job : Nat) (s : State) : Host.Outcome State Fault Refusal :=
  .next (s.runPlan job opAttest (fun _ _ => Plan.plain .done [(.big, rsaPrivNs 4096)]))

end Sys2Proof.Machine
end

