-- ==== Sys2Proof/Machine/Pipeline.lean ====
section
/-! DEFINITION. The Locket pipeline: engine start and end, policy decisions in hardware and by secure
firmware, usage blocks, approval waits, release (R16, R63 to R74, R87, R103 to R105, R121, R122, R162,
R193 to R195, R302, R307, R347, R374). -/

namespace Sys2Proof.Machine

/-! ## Engine start (R161 to R163, R347, R349) -/

/-- A job whose key no setting holds goes on as a setting miss: its object is unsealed again (R347, R348). -/
def State.missAgain (s : State) (id : Nat) (h : Nat) : State :=
  ({ s with ladder := { s.ladder with misses := s.ladder.misses + 1 } }).modJob id (fun j => { j with unsealing := [h] })

/-- A setting read fails its integrity tag (R347): a root's failure halts the device; a run is erased and the job goes on
as a setting miss, or, for a node, derives it again. -/
def State.settingFailed (s : State) (id : Nat) (r : Run) (setting : Nat) : State :=
  let s := s.count .KLD_INTEG_FAILS_COUNT
  if setting < 16 then
    let s := { s with ladder := { s.ladder with roots := mset (fun _ => none) s.ladder.roots setting none } }
    (s.putBit .KLD_STATUS_ROOT_FAIL true).alarm' [17]
  else
    let s := (s.eraseRuns (· == r)).alarm' [16]
    if r.handle = 0 then s else s.missAgain id r.handle

/-- Whether reading a run meets a setting whose tag fails: one of its own, or a root that is filled. -/
def State.meetsBad (s : State) (r : Run) (k : Nat) : Bool :=
  if k < 16 then (mget (fun _ => none) s.ladder.roots k).isSome else r.settings.contains k

/-- ENGINE_START: the ready job whose turn it is goes to the lowest-numbered free unit of its class, its
key delivered; `badSetting` is the setting whose tag fails when it is read, if one does. A job whose run was replaced since
its lookup has missed (R348). -/
def execEngineStart (cls : Engine) (badSetting : Option Nat) (shareable : List Nat) (s : State) :
    Host.Outcome State Fault Refusal :=
  if cls = .rng || cls = .none then .next s
  else
    match s.pick cls with
    | none => .next s
    | some (id, s') =>
      match s'.job id with
      | none => .next s
      | some j =>
        match s'.freeUnit cls j shareable with
        | none => .next s
        | some n =>
          match s.stepRun j cls, badSetting with
          | some r, some k => .next (if s.meetsBad r k then s.settingFailed id r k else s'.occupy id j cls n)
          | none, _ => .next (if s.runLost j cls then s.missAgain id (s.stepHandle j cls) else s'.occupy id j cls n)
          | some _, none => .next (s'.occupy id j cls n)

/-! ## The end of engine work (R70, R87, R269, R303) -/

/-- REJECT and CYCLES of a core after an operation of the pipeline (R272, R279, R295). -/
def State.showWork (s : State) (e : Engine) (n t : Nat) (reject : Bool) : State :=
  match e with
  | .big => (s.putBit (.BGN_Cn_STATUS_REJECT n) reject).put (.BGN_Cn_CYCLES_CYCLES n) t
  | .lat => (s.putBit (.LAT_Cn_STATUS_REJECT n) reject).put (.LAT_Cn_CYCLES_CYCLES n) t
  | .sym => s.put (.SYM_Ln_CYCLES_CYCLES n) t
  | _ => s

/-- Counts a completed operation of an engine. -/
def State.countWork (s : State) (e : Engine) (reject mismatch : Bool) (iters : Nat) (stallNs : Nat) : State :=
  match e with
  | .big => s.setCluster .big { s.engines.big with ops := s.engines.big.ops + 1, rejects := s.engines.big.rejects + b2n reject }
  | .lat =>
    let s := s.setCluster .lat { s.engines.lat with ops := s.engines.lat.ops + 1, rejects := s.engines.lat.rejects + b2n reject }
    { s with engines := { s.engines with iterMax := max s.engines.iterMax iters } }
  | .sym =>
    let g := s.engines
    let n := g.laneMismatches + b2n mismatch
    { s with engines := { g with laneJobs := g.laneJobs + 1, laneMismatches := n, stallNs := g.stallNs + stallNs } }
  | _ => s

/-- The unit is given up at the end of a step: a core is cleared; a lane is wiped, and freed unless it
still holds the job's output. -/
def State.leaveUnit (s : State) (e : Engine) (n : Nat) (last : Bool) : State :=
  match e with
  | .sym => if last then s.wipeLane n else s.freeLane n
  | _ => s.leaveCore e n

/-- The running step of a job ends after its time: the next step follows, or the job's work has ended. -/
def State.endStep (s : State) (id : Nat) (j : Job) (stallNs : Nat) : State :=
  match j.unit, j.steps with
  | some (e, n), (_, t) :: rest =>
    let gone := j.stage == .detached
    let last := rest.isEmpty || j.squash || j.forced.isSome || gone
    let keep := e == .sym && last && !gone
    let busy := j.busyNs + t + stallNs
    let reject := last && ((j.plan.map (fun p => p.status == .engineReject)).getD false)
    let mismatch := last && ((j.plan.map (fun p => p.status == .tagMismatch)).getD false)
    let iters := if j.op = opSign && j.tz.1 = 6 && e = .lat then min 1000 j.iterations else 0
    let j' := { j with unit := if keep then j.unit else none, busyNs := busy, steps := rest, ended := last,
                       drawTick := j.drawTick + (s.time.tick - j.stepTick),
                       stage := if last && j.stage == .running then .held else j.stage }
    let s := ((s.setJob id (some j')).countWork e reject mismatch iters stallNs).showWork e n ((t + stallNs) % 2 ^ 32) reject
    let s := s.leaveUnit e n keep
    if gone then (s.chargeWaste j.cls busy).setJob id none
    else if last then s.workEnded id else s
  | _, _ => s

/-- ENGINE_WORK_END: the work of a job, or one step of it, ends. A refused job on a lane ends by its lane
deadline instead. A streaming job with more output than its lane's buffer holds stalls there while it may not write;
one that may has written all but its tag (R17, R304). `stallNs` is the time its lane stalled (R300). -/
def execEngineWorkEnd (job stallNs : Nat) (s : State) : Host.Outcome State Fault Refusal :=
  match s.job job with
  | none => .next s
  | some j =>
    if j.ended || s.halted || (j.onLane && j.stage == .denying) then .next s
    else if s.mayStream j then
      let s := s.writeStream job j j.dataLen
      .next ((s.endStep job { j with streamed := max j.streamed j.dataLen } stallNs).settle.notePeaks)
    else if j.streams && j.onLane && j.stage == .running && !j.squash && j.forced.isNone && j.dataLen > laneBuffer then
      .next (s.stallLane j)
    else
      let (j, s) := s.searchStep j
      .next ((s.endStep job j (if j.onLane then stallNs else 0)).settle.notePeaks)

/-- LANE_DEADLINE_EXPIRY (R72, R307): a refused job's lane time, with what it had stalled, is over. -/
def execLaneDeadlineExpiry (job stallNs : Nat) (s : State) : Host.Outcome State Fault Refusal :=
  match s.job job with
  | none => .next s
  | some j =>
    if j.ended || s.halted || !j.onLane || j.stage != .denying then .next s
    else .next ((s.endStep job { j with deadline := true } stallNs).settle.notePeaks)

/-! ## Policy decisions (R66, R97 to R105, R144, R145) -/

/-- Creations of an owner not yet sealed (R104): records joined, and jobs permitted that have not
joined. -/
def State.creating (s : State) (owner : Nat) : Nat :=
  (s.unsealedRecs.filter (fun r => match r.body with
    | .objectCreate o => ownerOf o.handle == owner && !r.dropped
    | _ => false)).length +
  ((s.jobList.map (·.2)).filter (fun j => j.creates && j.got.policy && j.joined.isNone && j.stamp.isNone && j.live &&
    j.refused.isEmpty && !j.squash && j.forced.isNone && s.boundOwner j.inst == owner)).length

/-- OBJECT_COUNT of an owner with its creations under way would exceed its limit. -/
def State.overLimit (s : State) (owner : Nat) : Bool :=
  (s.owner owner).count + s.creating owner + 1 > s.odNat (0x4000 + owner) 0x12 0xFFFFFFFF

/-- Whether a policy's OP_MASK permits an operation bit. -/
def Policy.permits (p : Policy) (bit : Nat) : Bool := nbit p.opMask bit

/-- The OP_MASK bit a job needs in its primary object's policy (R98, R150). -/
def Job.primaryBit (j : Job) : Option Nat :=
  if j.op = opCounterRead then (if (j.target.map (·.type)).getD 0 = 0x0B then some 20 else some 19) else j.maskBit

/-- The bit it needs in its secondary's (R116, R118). -/
def Job.secondaryBit (j : Job) : Option Nat :=
  if j.op = opKeyImport then (if j.inl 60 1 = 1 then some 14 else if j.inl 60 1 = 3 then some 6 else none)
  else if j.op = opKeyExport && j.inl 56 1 = 1 then some 13 else none

/-- Whether an object, where there is one, permits a bit, where there is one. -/
def permitsBit (o : Option Obj) (bit : Option Nat) : Bool :=
  match o, bit with
  | some x, some b => x.policy.permits b
  | _, _ => true

/-- The device's own checks of a job's policy: the detail of the first that fails (R111). -/
def State.policyFault (s : State) (j : Job) : Option Nat :=
  let owner := s.boundOwner j.inst
  if !permitsBit j.target j.primaryBit || !permitsBit j.second j.secondaryBit then some 0x0101
  else if j.op == opKeyExport && (j.target.map (fun o => o.policy.limited ||
      !(nbit o.policy.exportBits (if j.inl 56 1 = 1 then 1 else 0)))).getD false then some 0x0103
  else if j.op == opKeySetPolicy && !((j.target.map (fun o => j.policy.narrower o.policy)).getD true) then some 0x0106
  else if j.creates then
    if !nbit (s.odNat (0x4000 + owner) 0x10 0) j.newType then some 0x0104
    else if s.nextSerial owner ≥ serialEnd then some 0x0109
    else if s.overLimit owner then some 0x0105 else none
  else none

/-- Whether a job's POLICY is still open: asked for, and neither recorded nor refused. -/
def Job.policyOpen (j : Job) : Bool :=
  j.looked && j.need.policy && !j.got.policy && j.stamp.isNone && !j.squash && j.forced.isNone && j.live &&
    j.refused.all (fun r => match r with
      | .denied _ => false
      | _ => true)

/-- Whether secure firmware decides a job's policy (R103). -/
def Job.fwDecided (j : Job) : Bool := j.onObject && (j.target.map (fun o => o.policy.fwPolicy)).getD false

/-- POLICY is recorded. -/
def State.permit (s : State) (id : Nat) : State :=
  s.modJob id (fun j => { j with got := { j.got with policy := true } })

/-- POLICY_HW_DECISION: the policy unit permits or refuses. A firmware-decided policy that passes the
device's own checks goes on to POLICY_REQUEST_POST. -/
def execPolicyHwDecision (job : Nat) (s : State) : Host.Outcome State Fault Refusal :=
  match s.job job with
  | none => .next s
  | some j =>
    if !j.policyOpen then .next s
    else
      match s.policyFault j with
      | some d => .next (s.refuse job (.denied d)).settle.notePeaks
      | none => if j.fwDecided then .next s else .next (s.permit job).settle.notePeaks

/-! ## Firmware policy decisions (R103, R121, R122) -/

/-- The 256-octet request record (R122). -/
def State.policyRecord (s : State) (id : Nat) (j : Job) : Bytes :=
  padTo 256 (le 2 id ++ le 1 j.seqNo ++ le 1 j.cls ++ le 2 j.op ++ le 2 j.inst ++ le 2 (s.boundOwner j.inst) ++ zeros 2 ++
    le 4 ((j.target.map (fun o => o.policy.fwRule)).getD 0) ++ le 8 j.primary ++ le 4 j.inputLen ++
    le 4 (s.time.tick % 2 ^ 32) ++ slice j.entry 56 72 ++ padTo 64 (j.inp.take 64))

/-- Records of the request ring. -/
def State.polDepth (s : State) : Nat := 2 ^ s.get .LKT_POL_RING_DEPTH_DEPTH_LOG2

/-- Whether the ring takes a record: enabled, and not full. Both indices wrap at the depth, and depth − 1 records fill it
(log entry 75). -/
def State.polRoom (s : State) : Bool :=
  s.bit .LKT_POL_CFG_RING_EN && (s.get .LKT_POL_HEAD_HEAD + 1) % s.polDepth != s.get .LKT_POL_TAIL_TAIL % s.polDepth

/-- The secure interrupt of the ring: raised while HEAD differs from TAIL (R121). -/
def State.polIrq (s : State) : State :=
  if s.get .LKT_POL_HEAD_HEAD != s.get .LKT_POL_TAIL_TAIL then s.raiseIrq 0 else s.dropIrq 0

/-- POLICY_REQUEST_POST: the request of a firmware-decided policy, its input read, is due; it is written
where the ring takes it, and waits otherwise. -/
def execPolicyRequestPost (job : Nat) (s : State) : Host.Outcome State Fault Refusal :=
  match s.job job with
  | none => .next s
  | some j =>
    if !j.policyOpen || !j.fwDecided || j.fwSent || j.reads != 0 then .next s
    else
      match s.policyFault j, (s.stampTests j).find? (fun r => r == .denied 0x0102 || r == .timeUnknown) with
      | some d, _ => .next (s.refuse job (.denied d)).settle.notePeaks
      | none, some r => .next (s.refuse job r).settle.notePeaks
      | none, none =>
        let j := { j with fwPosted := some (j.fwPosted.getD s.time.tick) }
        let s := s.setJob job (some j)
        if !s.polRoom then .next s
        else
          let h := s.get .LKT_POL_HEAD_HEAD
          let s := s.deviceWrite (s.get .LKT_POL_RING_BASE_ADDR + 256 * h) (s.policyRecord job j)
          let s := s.put .LKT_POL_HEAD_HEAD ((h + 1) % s.polDepth)
          .next (s.setJob job (some { j with fwSent := true })).polIrq

/-- Whether a decision names a job awaiting one. -/
def Job.awaits (j : Job) (seq : Nat) : Bool := j.policyOpen && j.fwSent && j.seqNo == seq

/-- A decision ignored (R122). -/
def State.stalePolicy (s : State) : State := s.put .LKT_POL_STATUS_STALE (sat16 (s.get .LKT_POL_STATUS_STALE))

/-- POLICY_PERMIT (R122). -/
def execPolicyPermit (job seq : Nat) (s : State) : Host.Outcome State Fault Refusal :=
  if ((s.job job).map (fun j => j.awaits seq)).getD false then .next (s.permit job).settle.notePeaks
  else .next s.stalePolicy

/-- POLICY_DENY (R122). -/
def execPolicyDeny (job seq : Nat) (s : State) : Host.Outcome State Fault Refusal :=
  if ((s.job job).map (fun j => j.awaits seq)).getD false then .next (s.refuse job (.denied 0x0107)).settle.notePeaks
  else .next s.stalePolicy

/-- POLICY_DECISION_TIMEOUT (R122): TIMEOUT ticks after the request, posted or due. -/
def execPolicyDecisionTimeout (job : Nat) (s : State) : Host.Outcome State Fault Refusal :=
  match s.job job with
  | none => .next s
  | some j =>
    match j.fwPosted with
    | none => .next s
    | some t =>
      if j.policyOpen && s.time.tick ≥ t + s.get .LKT_POL_CFG_TIMEOUT then
        .next (s.refuse job (.denied 0x0108)).settle.notePeaks
      else .next s

/-! ## Usage blocks (R193 to R195) -/

/-- Whether a job waits for a new usage block of an object. -/
def State.usageWanted (s : State) (h : Nat) : Bool :=
  s.jobList.any (fun e => e.2.looked && e.2.need.usage && !e.2.got.usage && e.2.stamp.isNone && e.2.primary == h &&
    !(e.2.refused.contains .usageExhausted) &&
    (e.2.target.map (fun o => decide (s.usageStep o = .wait))).getD false)

/-- USAGE_BLOCK_CREATE: a block record joins once the object's previous one is durable. The first block
after a restore begins one block of the restored size above the restored mark (R195); where that leaves no use below the limit, the
uses are exhausted. -/
def execUsageBlockCreate (handle : Nat) (s : State) : Host.Outcome State Fault Refusal :=
  match s.committedObj handle with
  | none => .next s
  | some o =>
    let u := s.usageOf o
    let blocked := match u.blockBead with
      | some b => decide (b > s.strand.durable)
      | none => false
    if !s.usageWanted handle || blocked || u.pendingEnd.isSome || !s.strandOpen then .next s
    else
      let b := s.strand.usageBlock
      let start := max u.blockEnd o.highWater + (if u.gapDue then s.strand.restoredBlock else 0)
      let limit := o.policy.usageLimit
      if start ≥ limit then
        .next (s.setUsage handle { u with blockEnd := start, next := start, gapDue := false }).settle.notePeaks
      else
        let fin := min (start + b) limit
        let r := { deviceRec (.usageBlock handle start fin) with owner := ownerOf handle }
        let (n, s) := s.joinRec r
        .next (s.setUsage handle { u with pendingEnd := some fin, blockBead := some n, gapDue := false })

/-! ## Approval waits (R374) -/

/-- APPROVAL_WAIT_EXPIRY: the count stayed below the quorum for APPROVAL_WAIT ticks from the fetch. -/
def execApprovalWaitExpiry (job : Nat) (s : State) : Host.Outcome State Fault Refusal :=
  match s.job job with
  | none => .next s
  | some j =>
    let w := s.odNat (0x4000 + s.boundOwner j.inst) 0x18 0
    if j.looked && j.need.approval && !j.got.approval && j.stamp.isNone && w != 0 && s.time.tick ≥ j.fetchTick + w then
      .next (s.refuse job .approvalExpired).settle.notePeaks
    else .next s

/-! ## Release (R16, R50 to R52, R108) -/

/-- The completion entry of a released job (R108). -/
def State.completionOf (s : State) (j : Job) : Completion :=
  let st := j.stamp.getD s.now
  let committed := s.committed j
  let bead := if committed then j.joined.getD 0 else 0
  { tag := j.tag, status := j.status.code,
    flags := b2n (s.inst j.inst).phase + 2 * b2n committed + 4 * b2n (committed && bead ≤ s.strand.durable) +
      (match st.state with | .anchored => 0 | .holdover => 8 | .unanchored => 16),
    detail := j.detail, outputLen := j.output.length, releaseTick := st.tick % 2 ^ 32, result := j.resultHandle,
    bead := bead }

/-- Whether the release of a job may begin: it is the instance's oldest, a completion slot is free (R50,
R52), and no HALT holds it: the completions of a PURGE are written when its erasure ends (R88). -/
def State.mayRelease (s : State) (id : Nat) (j : Job) : Bool :=
  j.stage == .releasing && (!s.halted || j.status == .deviceHalted || (j.status == .alarmAbort && j.detail == 0x0C02)) && !s.zeroised &&
    (s.instJobs j.inst).all (fun e => e.1 == id || e.2.stage != .releasing || j.stampSeq < e.2.stampSeq) &&
    ((s.inst j.inst).cqWrite + 1) % s.depth j.inst != (s.inst j.inst).cqHead

/-- RESULT_RELEASE: output, completion, message; the job entry, its granules and its lane are free. -/
def execResultRelease (job : Nat) (s : State) : Host.Outcome State Fault Refusal :=
  match s.job job with
  | none => .next s
  | some j =>
    if !s.mayRelease job j then .next s
    else
      let i := s.inst j.inst
      let s := s.emitOutput j.inst (j.outputAddr + j.streamed) (j.output.drop j.streamed)
      let s := s.emit (.completion j.inst (s.pasid j.inst) (s.cqBase j.inst + 32 * i.cqWrite) (s.completionOf j).bytes)
      let s := if j.noIrq then s else s.msix (s.vector j.inst)
      let w := (i.cqWrite + 1) % s.depth j.inst
      let s := s.modInst j.inst (fun i => { i with cqWrite := w, phase := if w = 0 then !i.phase else i.phase })
      let s := s.setJob job none
      match j.unit with
      | some (.sym, n) => .next (s.freeLane n)
      | _ => .next s

/-- LOCKET_PEAK_CLEAR (R89). -/
def execLocketPeakClear (s : State) : Host.Outcome State Fault Refusal :=
  .next ((s.put .LKT_PEAK_JOBS 0).put .LKT_PEAK_GRANULES 0)

end Sys2Proof.Machine
end

