-- ==== Sys2Proof/Machine/Entropy.lean ====
section
/-! DEFINITION. The entropy source and DRBG: sources and their tests, the pool, instances, reseeding,
generate calls, the firmware ports, test mode (R313 to R333). -/

namespace Sys2Proof.Machine

/-! ## Sources and the state of the unit (R319, R324, R326, R327, R331) -/

/-- Source `n`. -/
def State.source (s : State) (n : Nat) : Source := s.rng.sources.getD n Source.init

/-- Changes the unit. -/
def State.setRng (s : State) (r : Rng) : State := { s with rng := r }

/-- Sources that satisfy `p`. -/
def State.sourcesWith (s : State) (p : SourceState → Bool) : List Nat :=
  (List.range 4).filter (fun n => p (s.source n).st)

/-- Whether a source state is unhealthy (R326). -/
def SourceState.unhealthy : SourceState → Bool
  | .quarantined => true
  | .retesting => true
  | .retired => true
  | _ => false

/-- How many sources are unhealthy. -/
def State.unhealthy (s : State) : Nat := (s.sourcesWith SourceState.unhealthy).length

/-- How many are RETIRED. -/
def State.retired (s : State) : Nat := (s.sourcesWith (· == .retired)).length

/-- Whether the instances exist. -/
def State.drbgReady (s : State) : Bool := s.rng.drbgs.any (·.inst)

/-- STATE of RNG_STATUS: 0 WARMING, 1 READY, 2 FAULT, 3 DEAD, 4 TEST. -/
def State.rngState (s : State) : Nat :=
  if !(s.sourcesWith (· == .test)).isEmpty then 4
  else if s.rng.dead then 3
  else if !s.drbgReady then 0
  else if s.rng.stopped then 2 else 1

/-- The registers show the unit's state (R333); HST_STATUS.RNG_READY is 1 while instances exist and no
source is in TEST (R319, R331). -/
def State.showRng (s : State) : State :=
  let r := s.rng
  let bits (p : Drbg → Bool) : Nat := maskOf ((List.range 4).filter (fun d => p (r.drbgs.getD d Drbg.init)))
  let s := s.put .RNG_STATUS_STATE s.rngState
  let s := s.put .RNG_STATUS_STARTUP (maskOf (s.sourcesWith (fun t => t == .startup || t == .retesting)))
  let s := s.put .RNG_STATUS_QUARANTINED (maskOf (s.sourcesWith (fun t => t == .quarantined || t == .retesting)))
  let s := s.put .RNG_STATUS_RETIRED (maskOf (s.sourcesWith (· == .retired)))
  let s := (s.put .RNG_DRBG_STATUS_INST (bits (·.inst))).put .RNG_DRBG_STATUS_STALLED (bits (·.stalled))
  let s := s.put .RNG_POOL_SAMPLES r.pool
  let s := s.put .RNG_FAILS_COUNT ((List.range 4).foldr (fun n acc => (s.source n).fails + 16 * acc) 0)
  let s := s.put .RNG_LAST_RESEED_TICK r.lastTick
  let s := (s.put .RNG_S_STATUS_AVAIL r.sBuf.length).put .RNG_NS_STATUS_AVAIL r.nsBuf.length
  s.putBit .HST_STATUS_RNG_READY (s.drbgReady && (s.rngState == 1 || s.rngState == 2 || s.rngState == 3))

/-- Samples of an instantiation, and of a reseed (R314, R319). -/
def reseedSamples : Nat := 1024

/-- All four instances are instantiated (R319); the debug challenge's nonce is drawn (R450). -/
def State.instantiate (s : State) : State :=
  let (nonce, s) := s.freshBytes 16
  let s := if s.lcs.nonce.isEmpty then { s with lcs := { s.lcs with nonce := nonce } } else s
  let d : Drbg := { inst := true, calls := 0, last := s.time.tick, stalled := false, due := false }
  s.setRng { s.rng with pool := s.rng.pool - 4 * (reseedSamples + 512), drbgs := List.replicate 4 d, stopped := false }

/-- No instance exists. -/
def State.uninstantiate (s : State) : State :=
  s.setRng { s.rng with drbgs := List.replicate 4 Drbg.init, stopped := false }

/-- The counts are evaluated after a change of the sources; `before` is the unhealthy count before it. -/
def State.evalRng (s : State) (before : Nat) (atInc : Bool) : State :=
  let n := s.unhealthy
  let s := if n > before && n ≥ 2 then s.alarms [(18, s.respOf 18)] atInc else s
  let s := if s.retired ≥ 2 then s.setRng { s.rng with dead := true } else s
  let s := if s.drbgReady && n ≥ 2 then s.setRng { s.rng with stopped := true } else s
  let s := if !s.drbgReady && !s.rng.dead && !s.zeroised && (s.sourcesWith (· == .test)).isEmpty &&
      (s.sourcesWith (· == .healthy)).length ≥ 3 then s.instantiate else s
  s.showRng

/-- Moves a source. -/
def State.setSource (s : State) (n : Nat) (x : Source) : State :=
  s.setRng { s.rng with sources := s.rng.sources.set n x }

/-- The pool's capacity (R315). -/
def poolMax : Nat := 16384

/-- A window's samples are released into the pool, or discarded whole when they do not fit (R315). -/
def State.release (s : State) (windows : Nat) : State :=
  let add (p : Nat) : Nat := if p + 1024 ≤ poolMax then p + 1024 else p
  s.setRng { s.rng with pool := (List.range windows).foldl (fun p _ => add p) s.rng.pool }

/-- ENTROPY_WINDOW_END (R315). -/
def execEntropyWindowEnd (src : Nat) (s : State) : Host.Outcome State Fault Refusal :=
  if src < 4 && (s.source src).st == .healthy then .next (s.release 1).showRng else .next s

/-- A failure of a test counts. -/
def State.countFail (s : State) (repetition : Bool) : State :=
  let s := s.count (if repetition then .RNG_RCT_COUNT_COUNT else .RNG_APT_COUNT_COUNT)
  s.setRng { s.rng with healthFails := sat32 s.rng.healthFails }

/-- HEALTH_TEST_FAIL (R316, R317, R324): `repetition` names the test: a run of 81 identical samples, or 825 occurrences of
a window's first sample. In the states the table of R324 moves nowhere the failure only counts (log entry 87). -/
def execHealthTestFail (src : Nat) (repetition : Bool) (s : State) : Host.Outcome State Fault Refusal :=
  let x := s.source src
  if src ≥ 4 then .next s
  else if !(x.st == .startup || x.st == .healthy || x.st == .retesting) then .next (s.countFail repetition)
  else
    let before := s.unhealthy
    let s := s.countFail repetition
    let fails := if x.st == .retesting then x.fails + 1 else x.fails
    let detail := [BitVec.ofNat 8 src, BitVec.ofNat 8 (if repetition then 0 else 1)]
    if fails ≥ 8 then
      .next (((s.setSource src { st := .retired, fails := 8, since := s.time.tick }).event 0x0302 sevAlarm src detail).evalRng before false)
    else
      .next (((s.setSource src { st := .quarantined, fails := fails, since := s.time.tick }).event 0x0301 sevNotice src detail).evalRng before false)

/-- STARTUP_TEST_PASS (R318, R319, R324). -/
def execStartupTestPass (src : Nat) (s : State) : Host.Outcome State Fault Refusal :=
  let x := s.source src
  if src ≥ 4 || !(x.st == .startup || x.st == .retesting) then .next s
  else
    let before := s.unhealthy
    .next (((s.setSource src { st := .healthy, fails := 0, since := x.since }).release 4).evalRng before false)

/-- QUARANTINE_RETRY (R324). -/
def execQuarantineRetry (src : Nat) (s : State) : Host.Outcome State Fault Refusal :=
  let x := s.source src
  if src < 4 && x.st == .quarantined && s.time.tick ≥ x.since + 64 then
    .next (s.setSource src { x with st := .retesting }).showRng
  else .next s

/-! ## Reseeding and generate calls (R321 to R323, R328) -/

/-- Instance `d`. -/
def State.drbg (s : State) (d : Nat) : Drbg := s.rng.drbgs.getD d Drbg.init

/-- Changes instance `d`. -/
def State.setDrbg (s : State) (d : Nat) (x : Drbg) : State :=
  s.setRng { s.rng with drbgs := s.rng.drbgs.set d x }

/-- One reseed of an instance from the pool. -/
def State.reseed (s : State) (d : Nat) : State :=
  let s := s.setDrbg d { s.drbg d with calls := 0, last := s.time.tick, stalled := false, due := false }
  s.setRng { s.rng with pool := s.rng.pool - reseedSamples, reseeds := s.rng.reseeds + 1 }

/-- DRBG_RESEED (R322): a scheduled reseed, due since a tick increment. -/
def execDrbgReseed (d : Nat) (s : State) : Host.Outcome State Fault Refusal :=
  let x := s.drbg d
  if d < 4 && x.inst && x.due && !s.rng.stopped && s.rng.pool ≥ reseedSamples then
    let s := s.reseed d
    .next (s.setRng { s.rng with lastTick := s.time.tick }).showRng
  else .next s

/-- The lowest-numbered instance neither busy nor stalled nor waiting for its reseed (R322, R323). -/
def State.freeDrbg (s : State) (busy : List Nat) : Option Nat :=
  (List.range 4).find? (fun d =>
    let x := s.drbg d
    x.inst && !x.stalled && !x.due && !(busy.contains d) && (!s.rng.stopped || x.calls < 2 ^ 20))

/-- One generate call of `len` octets on an instance, reseeded first for prediction resistance. -/
def State.generate (s : State) (d len : Nat) (pr : Bool) : Bytes × State :=
  let s := if pr then s.reseed d else s
  let s := s.setDrbg d { s.drbg d with calls := (s.drbg d).calls + 1 }
  s.freshBytes len

/-- Whether a firmware port is to be refilled (R325). -/
def State.portWants (s : State) (secure : Bool) : Bool :=
  (if secure then s.rng.sBuf else s.rng.nsBuf).length ≤ 32

/-- PR of a port. -/
def portPr (secure : Bool) : Fld := if secure then .RNG_S_CTRL_PR else .RNG_NS_CTRL_PR

/-- Whether a port's refill can be dispatched now (R322, R325, R328). -/
def State.portReady (s : State) (secure : Bool) (busy : List Nat) : Bool :=
  s.portWants secure && s.drbgReady && (s.freeDrbg busy).isSome &&
    (!s.bit (portPr secure) || (!s.rng.stopped && s.poolSpare))

/-- PORT_REFILL (R325): a 64-octet call fills what the buffer lacks. -/
def execPortRefill (secure : Bool) (busy : List Nat) (s : State) : Host.Outcome State Fault Refusal :=
  match s.freeDrbg busy with
  | none => .next s
  | some d =>
    if !s.portReady secure busy then .next s
    else
      let (b, s) := s.generate d 64 (s.bit (portPr secure))
      let s := s.putBit (portPr secure) false
      if secure then .next (s.setRng { s.rng with sBuf := (s.rng.sBuf ++ b).take 64 }).showRng
      else .next (s.setRng { s.rng with nsBuf := (s.rng.nsBuf ++ b).take 64 }).showRng

/-- Whether a job's whole work is its draw: RANDOM, and the generation of a symmetric key. -/
def Job.drawnOnly (j : Job) : Bool := j.op == opRandom || (j.op == opKeyGenerate && 7 ≤ j.newType && j.newType ≤ 0x0A)

/-- DRBG_GENERATE (R323): a pipeline draw, once no port refill can go first. `busy` are the instances that
run a call.DEDUCED (log entry 95): a draw that only feeds another engine's work is no engine time of the job. -/
def execDrbgGenerate (busy : List Nat) (s : State) : Host.Outcome State Fault Refusal :=
  match s.freeDrbg busy, s.pick .rng with
  | some d, some (id, s') =>
    match s'.job id with
    | none => .next s
    | some j =>
      if s.portReady true busy || s.portReady false busy then .next s
      else
        let first := j.plan.isNone
        let (b, s') := s'.generate d (if first then j.drawLen else j.newSize / 16) (first && j.predRes)
        if first then
          let only := j.drawnOnly
          .next (s'.setJob id (some { j with rnd := some b, drawTick := s.time.tick, started := only,
                                             busyNs := if only then drawNs j.drawLen j.predRes else 0 })).showRng
        else .next (s'.setJob id (some { j with
            steps := j.steps.drop 1, drawTick := s.time.tick,
            search := j.search.map (fun x => { x with cand := rsaCandidate j.newSize b }) })).showRng
  | _, _ => .next s

/-- DRBG_INSTANCE_STALL (R328). -/
def execDrbgInstanceStall (d : Nat) (s : State) : Host.Outcome State Fault Refusal :=
  let x := s.drbg d
  if d < 4 && x.inst && s.rng.stopped && !x.stalled && (x.calls ≥ 2 ^ 20 || s.time.tick ≥ x.last + 64) then
    .next (s.setDrbg d { x with stalled := true, due := false }).showRng
  else .next s

/-! ## Firmware ports (R325) -/

/-- A read of a port's data register: the next 4 octets, never returned again, or zero and UNDERRUN. -/
def State.portRead (s : State) (secure : Bool) : State :=
  let buf := if secure then s.rng.sBuf else s.rng.nsBuf
  if buf.length < 4 then
    { s.putBit (if secure then .RNG_S_STATUS_UNDERRUN else .RNG_NS_STATUS_UNDERRUN) true with readValue := 0 }
  else
    let s := { s with readValue := leNat (buf.take 4) }
    (s.setRng (if secure then { s.rng with sBuf := buf.drop 4 } else { s.rng with nsBuf := buf.drop 4 })).showRng

/-- RNG_S_DATA_READ. -/
def execRngSDataRead (s : State) : Host.Outcome State Fault Refusal := .next (s.portRead true)

/-- RNG_NS_DATA_READ. -/
def execRngNsDataRead (s : State) : Host.Outcome State Fault Refusal := .next (s.portRead false)

/-- A write of 1 to a port's PR: its octets are discarded, its next refill is prediction-resistant. -/
def State.portRequest (s : State) (secure : Bool) : State :=
  let s := s.putBit (portPr secure) true
  (s.setRng (if secure then { s.rng with sBuf := [] } else { s.rng with nsBuf := [] })).showRng

/-- RNG_S_PR_REQUEST. -/
def execRngSPrRequest (s : State) : Host.Outcome State Fault Refusal := .next (s.portRequest true)

/-- RNG_NS_PR_REQUEST. -/
def execRngNsPrRequest (s : State) : Host.Outcome State Fault Refusal := .next (s.portRequest false)

/-! ## Test pattern and raw capture (R330 to R332) -/

/-- Whether the life-cycle lets RNG_TEST be used (R332). -/
def State.rngTestOpen (s : State) : Bool := s.lifeCycle == lcBlank || s.lifeCycle == lcProvision

/-- RNG_TEST_SELECT: a write of RNG_TEST. -/
def execRngTestSelect (sel src : Nat) (s : State) : Host.Outcome State Fault Refusal :=
  if !s.rngTestOpen || sel > 3 || src > 15 then .next s
  else
    let before := s.unhealthy
    let s := (s.put .RNG_TEST_SEL sel).put .RNG_TEST_SRC src
    let move (n : Nat) (x : Source) : Source :=
      if sel != 0 && nbit src n then (if x.st == .retired then x else { x with st := .test })
      else if x.st == .test then { x with st := .startup } else x
    let s := s.setRng { s.rng with sources := (List.range 4).map (fun n => move n (s.source n)) }
    let s := if (s.sourcesWith (· == .test)).isEmpty then s else s.uninstantiate
    .next (s.evalRng before false)

/-- The LFSR of R330 after `n` steps: its lowest bit leaves, and the sum of its taps enters at the top (log entry 88). -/
def lfsrAfter (x : Nat) : Nat → Nat
  | 0 => x
  | n + 1 =>
    let y := lfsrAfter x n
    y / 2 + (b2n (nbit y 0) + b2n (nbit y 1) + b2n (nbit y 3) + b2n (nbit y 4)) % 2 * 2 ^ 63

/-- Raw bit `i` of a test sequence (R330): the LFSR's, or the pattern's, bit 0 first. -/
def testBit (sel pat i : Nat) : Bool :=
  if sel = 1 then nbit (lfsrAfter (if pat = 0 then 1 else pat) i) 0 else nbit pat (i % 64)

/-- 32 bits, or samples where STAGE is 1, of a test sequence from raw bit `i`, oldest at bit 0 (R313, R333). -/
def testWord (sel pat stage i : Nat) : Nat :=
  maskOf ((List.range 32).filter (fun n =>
    if stage = 0 then testBit sel pat (i + n)
    else testBit sel pat (i + 2 * n) != testBit sel pat (i + 2 * n + 1)))

/-- What RNG_RAW_DATA shows of a source in TEST: of a test sequence from a place that time has left open, else the source's
own bits, a free value. -/
def State.rawWord (s : State) : Nat × State :=
  let (v, s) := s.freshNat
  let sel := s.get .RNG_TEST_SEL
  let pat := s.get .RNG_TEST_PAT_LO_PAT + 2 ^ 32 * s.get .RNG_TEST_PAT_HI_PAT
  (if sel = 1 || sel = 2 then testWord sel pat (s.get .RNG_RAW_SEL_STAGE) v else v % 2 ^ 32, s)

/-- RNG_RAW_DATA_READ: 32 captured bits of a source in TEST; otherwise zero (R332). -/
def execRngRawDataRead (s : State) : Host.Outcome State Fault Refusal :=
  if s.rngTestOpen && (s.source (s.get .RNG_RAW_SEL_SRC)).st == .test then
    let (v, s) := s.rawWord
    .next { s.putBit .RNG_RAW_SEL_VALID false with readValue := v }
  else .next { s with readValue := 0 }

/-! ## What a tick increment does here (R322, R324, R326) -/

/-- The reseed request of R28, the recovery of R326, the counts of R334. -/
def State.rngTick (s : State) : State :=
  let s := if s.rngState == 2 || s.rngState == 3 then s.setRng { s.rng with faultTicks := s.rng.faultTicks + 1 } else s
  let back := s.rng.stopped && !s.rng.dead && s.unhealthy ≤ 1
  let s := if back then (s.setRng { s.rng with stopped := false }).event 0x0303 sevNotice s.unhealthy [] else s
  let due (d : Drbg) : Drbg := if d.inst then { d with due := true, stalled := false } else d
  let s := if s.rng.stopped then s else s.setRng { s.rng with drbgs := s.rng.drbgs.map due }
  let s := if (s.source (s.get .RNG_RAW_SEL_SRC)).st == .test then s.putBit .RNG_RAW_SEL_VALID true else s
  s.showRng

end Sys2Proof.Machine
end

