-- ==== Sys2Proof/Machine/Cores.lean ====
section
/-! DEFINITION. The clusters as secure firmware works them: promotion, hold and fence, slot lengths, the
operations on held cores, the attestation key search (R265 to R298). -/

namespace Sys2Proof.Machine

/-! ## Core states (R266, R283) -/

/-- BGN_PROMOTE. -/
def execBgnPromote (core : Nat) (s : State) : Host.Outcome State Fault Refusal := .next (s.promote .big core)

/-- LAT_PROMOTE. -/
def execLatPromote (core : Nat) (s : State) : Host.Outcome State Fault Refusal := .next (s.promote .lat core)

/-- Sets or clears the HOLD bit of a core. -/
def State.setHold (s : State) (k : ClusterId) (n : Nat) (on : Bool) : State :=
  match k with
  | .big =>
    if n < 32 then s.put .BGN_HOLD_LO_HOLD (setNbit (s.get .BGN_HOLD_LO_HOLD) n on)
    else s.put .BGN_HOLD_HI_HOLD (setNbit (s.get .BGN_HOLD_HI_HOLD) (n - 32) on)
  | .lat => s.put .LAT_HOLD_HOLD (setNbit (s.get .LAT_HOLD_HOLD) n on)

/-- Sets the FENCE bit of a core. -/
def State.setFence (s : State) (k : ClusterId) (n : Nat) : State :=
  match k with
  | .big =>
    if n < 32 then s.put .BGN_FENCE_LO_FENCE (setNbit (s.get .BGN_FENCE_LO_FENCE) n true)
    else s.put .BGN_FENCE_HI_FENCE (setNbit (s.get .BGN_FENCE_HI_FENCE) (n - 32) true)
  | .lat => s.put .LAT_FENCE_FENCE (setNbit (s.get .LAT_FENCE_FENCE) n true)

/-- BGN_HOLD: a bit set or cleared; the core follows once what it runs has ended. -/
def execBgnHold (core : Nat) (on : Bool) (s : State) : Host.Outcome State Fault Refusal :=
  if core < 34 then .next ((s.setHold .big core on).updateCore .big core) else .next s

/-- LAT_HOLD. -/
def execLatHold (core : Nat) (on : Bool) (s : State) : Host.Outcome State Fault Refusal :=
  if core < 9 then .next ((s.setHold .lat core on).updateCore .lat core) else .next s

/-- BGN_FENCE. -/
def execBgnFence (core : Nat) (s : State) : Host.Outcome State Fault Refusal :=
  if core < 34 then .next ((s.setFence .big core).updateCore .big core) else .next s

/-- LAT_FENCE. -/
def execLatFence (core : Nat) (s : State) : Host.Outcome State Fault Refusal :=
  if core < 9 then .next ((s.setFence .lat core).updateCore .lat core) else .next s

/-! ## Writes to a core's registers (R280, R296) -/

/-- Whether secure firmware may operate a core: HELD and not BUSY. -/
def State.coreOpen (s : State) (k : ClusterId) (n : Nat) : Bool :=
  n < k.cores && s.coreState k n == csHeld && !s.bit (k.busyFld n)

/-- BGN_CORE_CFG_WRITE: sets the slot length and clears operand memory; a length outside 1 to 32 units has
no effect (R8). -/
def execBgnCoreCfgWrite (core units : Nat) (s : State) : Host.Outcome State Fault Refusal :=
  if core ≥ 34 || units = 0 || units > 32 then .next s
  else if s.coreOpen .big core then .next ((s.put (.BGN_Cn_CFG_SLOT_UNITS core) units).clearCore .big core)
  else .next (s.coreErr .big core)

/-! ## Big-number operations (R271, R272) -/

/-- Operations with a second result slot. -/
def bgnPair (op : Nat) : Bool := op == 0x10 || op == 0x11 || op == 0x12 || op == 0x13

/-- Whether a slot number, and the slot after it for a pair, may be the result. -/
def State.resultSlotOk (s : State) (n d : Nat) (pair : Bool) : Bool := d + b2n pair < s.slotCount n - 8

/-- Slots an operation reads, beyond single A and B. -/
def bgnReads (op a b m c : Nat) : List Nat :=
  if op = 0x10 then [a, a + 1] ++ (if c = 1 then [] else [b])
  else if op = 0x11 then [a, a + 1, b, c]
  else if op = 0x12 then [a, a + 1, b, b + 1]
  else if op = 0x14 then [a, b, b + 1, c, c + 1]
  else if op = 0x13 then [a]
  else if op = 0x18 then [b]
  else [a, b, m]

/-- A write of CMD (R280): refused with ERR, or the operation runs. -/
def State.bgnStart (s : State) (n op param : Nat) : State :=
  if n ≥ 34 then s
  else
    let a := s.get (.BGN_Cn_ARG0_A n)
    let b := s.get (.BGN_Cn_ARG0_B n)
    let m := s.get (.BGN_Cn_ARG1_M n)
    let d := s.get (.BGN_Cn_ARG1_D n)
    let c := s.get (.BGN_Cn_ARG2_C n)
    let len := s.get (.BGN_Cn_LEN_BITS n)
    if s.coreOpen .big n && (bgnReads op a b m c).all (· < s.slotCount n) && s.resultSlotOk n d (bgnPair op) &&
        64 ≤ len && len ≤ s.slotBits n then
      let s := ((s.put (.BGN_Cn_CMD_OP n) op).put (.BGN_Cn_CMD_PARAM n) param).putBit (.BGN_Cn_STATUS_BUSY n) true
      let cl := s.engines.big
      s.setCluster .big { cl with running := mset (fun _ => none) cl.running n (some (op, param)) }
    else s.coreErr .big n

/-- Whether PARAM names one of the curves P-256, P-384 and P-521 (R279). -/
def shortCurve (param : Nat) : Bool := 1 ≤ param && param ≤ 3

/-- A point as two result slots; the identity, which has no affine form, leaves `free` in them (log entry 66). -/
def pointSlots (free : Nat) (p : Option (Nat × Nat)) : List Nat :=
  match p with
  | some (x, y) => [x, y]
  | none => [free, free]

/-- A curve operation of R271 on one of the three short curves: its operands as read from their slots, nothing where it
rejects. -/
def curveResult (op : Nat) (c : Curve) (free : Nat) (l : List Nat) : Option (List Nat) :=
  let v (i : Nat) : Nat := l.getD i 0
  let on := c.holds (v 0) (v 1)
  match op with
  | 0x10 => if on && 0 < v 2 && v 2 < c.n then some (pointSlots free (c.mul (v 2) (some (v 0, v 1)))) else none
  | 0x11 =>
    if on then some (pointSlots free (c.add (c.mul (v 2) (some (c.gx, c.gy))) (c.mul (v 3) (some (v 0, v 1))))) else none
  | 0x12 => if on && c.holds (v 2) (v 3) then some (pointSlots free (c.add (some (v 0, v 1)) (some (v 2, v 3)))) else none
  | 0x13 =>
    let (r, t) := Config.ecdsaSign c (v 0) (v 1) free
    if v 0 < 2 ^ 512 then some [r, t] else none
  | _ =>
    if !c.holds (v 3) (v 4) then none
    else
      let ok := 0 < v 1 && v 1 < c.n && 0 < v 2 && v 2 < c.n && Config.ecdsaVerify c (v 0) (v 1) (v 2) (v 3) (v 4)
      some [b2n ok]

/-- X25519 or X448 of a scalar and a u-coordinate, nothing for a result of zero (R271). -/
def xdhResult (param k u : Nat) : Option (List Nat) :=
  let (size, len) := if param = 6 then (25519, 32) else (448, 56)
  let r := leNat (padTo len (Config.xdh size (le len k) (le len u)))
  if r = 0 then none else some [r]

/-- What an operation leaves in its result slots: nothing where it rejects (R271). -/
def State.bgnResult (s : State) (n op param : Nat) : Option (List Nat) :=
  let cut (v : Nat) : Nat := v % 2 ^ s.get (.BGN_Cn_LEN_BITS n)
  let rd (i : Nat) : Nat := cut (s.slot n i)
  let fed (i : Nat) : Nat := s.slot n (s.slotCount n - 8 + i)
  let free := Config.freeNat s.free
  let ia := s.get (.BGN_Cn_ARG0_A n)
  let ib := s.get (.BGN_Cn_ARG0_B n)
  let ic := s.get (.BGN_Cn_ARG2_C n)
  let a := rd ia
  let b := rd ib
  let m := rd (s.get (.BGN_Cn_ARG1_M n))
  let k := if ic = 1 then fed 0 else b
  let onCurve (l : List Nat) : Option (List Nat) :=
    if shortCurve param then curveResult op (Config.curve param) free l else Config.curveOp op param l
  match op with
  | 0x01 => if a < m && b < m then some [(a + b) % m] else none
  | 0x02 => if a < m && b < m then some [(a + m - b) % m] else none
  | 0x03 => if m % 2 = 1 && a < m && b < m then some [a * b % m] else none
  | 0x04 => if m % 2 = 1 && a < m then some [powMod a b m] else none
  | 0x05 =>
    let e := b % 2 ^ 64
    if m % 2 = 1 && a < m && e % 2 = 1 && 3 ≤ e then some [powMod a e m] else none
  | 0x06 => if Nat.gcd a m = 1 then some [modInv a m] else none
  | 0x07 =>
    if a < m then some [if fed 0 * fed 1 = 0 then cut free else rsaCrt a (fed 0) (fed 1) (fed 2) (fed 3) (fed 4)] else none
  | 0x08 =>
    if 2 ≤ b && b + 2 ≤ a then some [if a % 2 = 1 then b2n (millerRabin a b) else free % 2] else none
  | 0x10 => onCurve [a, rd (ia + 1), k]
  | 0x11 => onCurve [a, rd (ia + 1), b, rd ic]
  | 0x12 => onCurve [a, rd (ia + 1), b, rd (ib + 1)]
  | 0x13 => onCurve [a, fed 0]
  | 0x14 => onCurve [a, b, rd (ib + 1), rd ic, rd (ic + 1)]
  | 0x18 => some [Config.edBase param b]
  | _ => if param = 6 || param = 7 then xdhResult param k a else Config.curveOp op param [a, k]

/-- Cycles of an operation (R272, R273): a function of the operation, its PARAM, LEN rounded up to 64 and, for
MODEXP_PUB, the exponent's bit length and ones. -/
def bgnCycles (op param bits e : Nat) : Nat :=
  let len := roundUp 64 bits
  let b := if op = 0x05 then Nat.log2 e + 1 else 0
  let w := if op = 0x05 then popCount 64 e else 0
  if len = 2048 && (op = 0x01 || op = 0x02) then 60
  else if len = 2048 && op = 0x03 then 80
  else if len = 2048 && op = 0x06 then 250000
  else if len = 2048 && op = 0x04 then 258000
  else if op = 0x05 && [2048, 3072, 4096, 6144, 8192].contains len then rsaPubNs len b w
  else if op = 0x07 && [2048, 3072, 4096, 6144, 8192].contains len then rsaPrivNs len
  else if op = 0x08 && [1024, 1536, 2048, 3072, 4096].contains len then mrNs (2 * len)
  else if op = 0x12 && param = 1 then 1000
  else if op = 0x13 && shortCurve param then curveSignNs 2 ([256, 384, 521].getD (param - 1) 0) 0
  else if op = 0x14 && shortCurve param then curveVerifyNs 2 ([256, 384, 521].getD (param - 1) 0) 0
  else if op = 0x1C && param = 6 then 20000
  else if op = 0x1C && param = 7 then 75000
  else Config.bgnCycles op param len b w

/-- BGN_FW_OP_COMPLETE: the result slots take the result, or zero with REJECT. -/
def execBgnFwOpComplete (core : Nat) (s : State) : Host.Outcome State Fault Refusal :=
  match mget (fun _ => none) s.engines.big.running core with
  | none => .next s
  | some (op, param) =>
    if op > 0xFF || s.engines.big.stopped.contains core then .next s
    else
      let d := s.get (.BGN_Cn_ARG1_D core)
      let res := s.bgnResult core op param
      let out := res.getD []
      let bits := s.get (.BGN_Cn_LEN_BITS core)
      let cyc := bgnCycles op param bits (s.slot core (s.get (.BGN_Cn_ARG0_B core)) % 2 ^ min bits 64) % 2 ^ 32
      let s := { s with free := s.free + 1 }
      let s := s.setSlot core d (out.getD 0 0)
      let s := if bgnPair op then s.setSlot core (d + 1) (out.getD 1 0) else s
      let c := s.engines.big
      let s := s.setCluster .big { c with running := mset (fun _ => none) c.running core none,
                                          ops := c.ops + 1, rejects := c.rejects + b2n res.isNone }
      let s := ((s.putBit (.BGN_Cn_STATUS_BUSY core) false).putBit (.BGN_Cn_STATUS_DONE core) true).putBit
        (.BGN_Cn_STATUS_REJECT core) res.isNone
      .next (((s.put (.BGN_Cn_CYCLES_CYCLES core) cyc).coreIrq .big).updateCore .big core)

/-- MODADD. -/
def execModadd (core param : Nat) (s : State) : Host.Outcome State Fault Refusal := .next (s.bgnStart core 0x01 param)
/-- MODSUB. -/
def execModsub (core param : Nat) (s : State) : Host.Outcome State Fault Refusal := .next (s.bgnStart core 0x02 param)
/-- MODMUL. -/
def execModmul (core param : Nat) (s : State) : Host.Outcome State Fault Refusal := .next (s.bgnStart core 0x03 param)
/-- MODEXP. -/
def execModexp (core param : Nat) (s : State) : Host.Outcome State Fault Refusal := .next (s.bgnStart core 0x04 param)
/-- MODEXP_PUB. -/
def execModexpPub (core param : Nat) (s : State) : Host.Outcome State Fault Refusal := .next (s.bgnStart core 0x05 param)
/-- MODINV. -/
def execModinv (core param : Nat) (s : State) : Host.Outcome State Fault Refusal := .next (s.bgnStart core 0x06 param)
/-- RSA_CRT. -/
def execRsaCrt (core param : Nat) (s : State) : Host.Outcome State Fault Refusal := .next (s.bgnStart core 0x07 param)
/-- MR_ROUND. -/
def execMrRound (core param : Nat) (s : State) : Host.Outcome State Fault Refusal := .next (s.bgnStart core 0x08 param)
/-- EC_SMUL. -/
def execEcSmul (core param : Nat) (s : State) : Host.Outcome State Fault Refusal := .next (s.bgnStart core 0x10 param)
/-- EC_DSMUL. -/
def execEcDsmul (core param : Nat) (s : State) : Host.Outcome State Fault Refusal := .next (s.bgnStart core 0x11 param)
/-- EC_ADD. -/
def execEcAdd (core param : Nat) (s : State) : Host.Outcome State Fault Refusal := .next (s.bgnStart core 0x12 param)
/-- ECDSA_SIGN. -/
def execEcdsaSign (core param : Nat) (s : State) : Host.Outcome State Fault Refusal := .next (s.bgnStart core 0x13 param)
/-- ECDSA_VERIFY. -/
def execEcdsaVerify (core param : Nat) (s : State) : Host.Outcome State Fault Refusal := .next (s.bgnStart core 0x14 param)
/-- ED_SMUL. -/
def execEdSmul (core param : Nat) (s : State) : Host.Outcome State Fault Refusal := .next (s.bgnStart core 0x18 param)
/-- XDH. -/
def execXdh (core param : Nat) (s : State) : Host.Outcome State Fault Refusal := .next (s.bgnStart core 0x1C param)

/-! ## The attestation key search (R277, R279, R282) -/

/-- The operation a core runs while it searches for the attestation key. -/
def akeyOp : Nat := 0x100

/-- Cores named by BGN_AKEY_MASK. -/
def State.akeyCores (s : State) : List Nat :=
  (List.range 34).filter (fun n =>
    if n < 32 then nbit (s.get .BGN_AKEY_MASK_LO_CORES) n else nbit (s.get .BGN_AKEY_MASK_HI_CORES) (n - 32))

/-- The cores of a search are busy with it, or free of it. -/
def State.akeyBusy (s : State) (cores : List Nat) (on : Bool) : State :=
  cores.foldl (fun s n =>
    let c := s.engines.big
    let s := s.setCluster .big { c with running := mset (fun _ => none) c.running n (if on then some (akeyOp, 0) else none) }
    let s := s.putBit (.BGN_Cn_STATUS_BUSY n) on
    if on then s else s.updateCore .big n) s

/-- ATTEST_KEY_GEN_START: exactly eight held, idle cores, or FAILED. -/
def execAttestKeyGenStart (s : State) : Host.Outcome State Fault Refusal :=
  let cores := s.akeyCores
  if cores.length == 8 && cores.all (s.coreOpen .big) && s.engines.akey.isNone && s.rngState == 1 then
    .next ((({ s with engines := { s.engines with akey := some cores } }).akeyBusy cores true).putBit .BGN_AKEY_STATUS_BUSY true)
  else .next (s.putBit .BGN_AKEY_STATUS_FAILED true)

/-- ATTEST_KEY_GEN_STOP: the search is abandoned. -/
def execAttestKeyGenStop (s : State) : Host.Outcome State Fault Refusal :=
  match s.engines.akey with
  | none => .next s
  | some cores =>
    let s := { s with engines := { s.engines with akey := none } }.akeyBusy cores false
    .next ((s.putBit .BGN_AKEY_STATUS_BUSY false).putBit .BGN_AKEY_STATUS_FAILED true)

/-! ## Lattice operations (R294 to R296) -/

/-- The end of the work region (R284, R296). -/
def latWork : Nat := 0xE000

/-- SIZE of an ML-KEM parameter set by its code (R285). -/
def kemSize (param : Nat) : Nat := if param = 1 then 512 else if param = 2 then 768 else 1024

/-- Octets an operation reads from SRC and AUX and writes at DST, by its own definition (R294). -/
def latSizes (op param srcLen dstLen auxLen : Nat) : Nat × Nat × Nat :=
  let poly := if param ≥ 0x11 then 1024 else 512
  match op with
  | 0x20 => (poly, 0, poly)
  | 0x21 => (poly, 0, poly)
  | 0x22 => (poly, poly, poly)
  | 0x02 => (srcLen, 0, kemCipherLen (kemSize param) + 32)
  | 0x0A => (srcLen, auxLen, dstLen)
  | _ => (srcLen, 0, dstLen)

/-- A write of LAT_Cn_CMD (R296). -/
def State.latStart (s : State) (n op param : Nat) : State :=
  if n ≥ 9 then s
  else
    let (a, b, c) := latSizes op param (s.get (.LAT_Cn_SRC_LENGTH n)) (s.get (.LAT_Cn_DST_LENGTH n)) (s.get (.LAT_Cn_AUX_LENGTH n))
    if s.coreOpen .lat n && s.get (.LAT_Cn_SRC_OFFSET n) + a ≤ latWork && s.get (.LAT_Cn_AUX_OFFSET n) + b ≤ latWork &&
        s.get (.LAT_Cn_DST_OFFSET n) + c ≤ latWork then
      let s := ((s.put (.LAT_Cn_CMD_OP n) op).put (.LAT_Cn_CMD_PARAM n) param).putBit (.LAT_Cn_STATUS_BUSY n) true
      let cl := s.engines.lat
      s.setCluster .lat { cl with running := mset (fun _ => none) cl.running n (some (op, param)) }
    else s.coreErr .lat n

/-- Whether every coefficient of a polynomial is below q (R294). -/
def coefficientsOk (param : Nat) (b : Bytes) : Bool :=
  let w := if param ≥ 0x11 then 4 else 2
  let q := if param ≥ 0x11 then 8380417 else 3329
  (List.range 256).all (fun i => fieldLE b (w * i) w < q)

/-- What an operation writes at DST: nothing where it rejects. -/
def latResult (op param len : Nat) (src aux : Bytes) : Option Bytes :=
  let poly := op == 0x20 || op == 0x21 || op == 0x22
  if poly && !(coefficientsOk param src && (op != 0x22 || coefficientsOk param aux)) then none
  else if op = 0x30 then
    (if isSha3 param || isShake param then some (padTo len (Config.hash param len src)) else none)
  else if op = 0x0A then some (le len (b2n (Config.latticeOp op param src aux len).isSome))
  else if op = 0x02 then
    (if 1 ≤ param && param ≤ 3 then
      let size := kemSize param
      let pub := src.take (publicLen 5 size)
      if kemModulusOk pub then some (padTo len (Config.encaps size pub (slice src (publicLen 5 size) 32))) else none
    else (Config.latticeOp op param src aux len).map (padTo len))
  else some (padTo len ((Config.latticeOp op param src aux len).getD []))

/-- Cycles of a lattice operation at 1.0 GHz (R288, R290, R291, R294). -/
def latCycles (op param srcLen dstLen : Nat) : Nat :=
  match op with
  | 0x20 => 400
  | 0x21 => 400
  | 0x22 => 150
  | 0x02 => mlkemNs (kemSize param) 1
  | 0x0A => mldsaVerifyNs (if param = 0x11 then 44 else if param = 0x12 then 65 else 87) + absorbNs (64 + srcLen) 136
  | _ => keccakNs param srcLen dstLen

/-- LAT_FW_OP_COMPLETE. -/
def execLatFwOpComplete (core : Nat) (s : State) : Host.Outcome State Fault Refusal :=
  match mget (fun _ => none) s.engines.lat.running core with
  | none => .next s
  | some (op, param) =>
    if s.engines.lat.stopped.contains core then .next s
    else
      let (a, b, c) := latSizes op param (s.get (.LAT_Cn_SRC_LENGTH core)) (s.get (.LAT_Cn_DST_LENGTH core)) (s.get (.LAT_Cn_AUX_LENGTH core))
      let res := latResult op param c (s.latBytes core (s.get (.LAT_Cn_SRC_OFFSET core)) a)
        (s.latBytes core (s.get (.LAT_Cn_AUX_OFFSET core)) b)
      let s := s.setLatBytes core (s.get (.LAT_Cn_DST_OFFSET core)) (res.getD (zeros c))
      let cl := s.engines.lat
      let s := s.setCluster .lat { cl with running := mset (fun _ => none) cl.running core none,
                                           ops := cl.ops + 1, rejects := cl.rejects + b2n res.isNone }
      let s := ((s.putBit (.LAT_Cn_STATUS_BUSY core) false).putBit (.LAT_Cn_STATUS_DONE core) true).putBit
        (.LAT_Cn_STATUS_REJECT core) res.isNone
      .next (((s.put (.LAT_Cn_CYCLES_CYCLES core) (latCycles op param a c)).coreIrq .lat).updateCore .lat core)

/-- MLKEM_ENCAPS. -/
def execMlkemEncaps (core param : Nat) (s : State) : Host.Outcome State Fault Refusal := .next (s.latStart core 0x02 param)
/-- MLDSA_VERIFY. -/
def execMldsaVerify (core param : Nat) (s : State) : Host.Outcome State Fault Refusal := .next (s.latStart core 0x0A param)
/-- NTT. -/
def execNtt (core param : Nat) (s : State) : Host.Outcome State Fault Refusal := .next (s.latStart core 0x20 param)
/-- INTT. -/
def execIntt (core param : Nat) (s : State) : Host.Outcome State Fault Refusal := .next (s.latStart core 0x21 param)
/-- PMUL. -/
def execPmul (core param : Nat) (s : State) : Host.Outcome State Fault Refusal := .next (s.latStart core 0x22 param)
/-- KECCAK. -/
def execKeccak (core param : Nat) (s : State) : Host.Outcome State Fault Refusal := .next (s.latStart core 0x30 param)

end Sys2Proof.Machine
end

