-- ==== Sys2Proof/Machine/OdTable.lean ====
section
/-! DEFINITION. The object dictionary (R507): every entry of the tables of R53, R90, R104, R165, R208,
R243, R263, R281, R297, R311, R334, R351, R357, R378, R408, R427, R441, R454, R471, R483, R508, R509 and
R525, with its type, access, storage class, default and range. Octet strings give their lengths as range. -/

namespace Sys2Proof.Machine

/-- Rows of the dictionary, part 0. CREATE_TYPES takes any U16: bits 0 and 12 to 15 are stored and permit nothing (R104; log
entry 78). -/
def odTable0 : List OdRow :=
  [⟨0x2400, 0x01, 1024, 1, .u8, .ro, .volatile, 0, 0, 255, []⟩,
   ⟨0x2400, 0x02, 1024, 1, .u8, .wo, .volatile, 0, 1, 2, [.manager, .secure]⟩,
   ⟨0x2400, 0x03, 1024, 1, .u16, .rw, .persistent, 0, 0, 4095, [.manager, .secure]⟩,
   ⟨0x2400, 0x04, 1024, 1, .u32, .rw, .persistent, 0, 1, 1048575, [.manager, .secure]⟩,
   ⟨0x2400, 0x05, 1024, 1, .u64, .rw, .persistent, 0, 0, 18446744073709551615, [.manager, .secure]⟩,
   ⟨0x2400, 0x06, 1024, 1, .u64, .rw, .persistent, 0, 0, 18446744073709551615, [.manager, .secure]⟩,
   ⟨0x2400, 0x07, 1024, 1, .u8, .rw, .persistent, 4, 4, 16, [.manager, .secure]⟩,
   ⟨0x2400, 0x08, 1024, 1, .u16, .rw, .persistent, 16, 16, 2047, [.manager, .secure]⟩,
   ⟨0x2400, 0x09, 1024, 1, .u16, .rw, .persistent, 100, 1, 60000, [.manager, .secure]⟩,
   ⟨0x2400, 0x0A, 1024, 1, .u16, .rw, .persistent, 64, 1, 256, [.manager, .secure]⟩,
   ⟨0x2400, 0x0B, 1024, 1, .u32, .ro, .volatile, 1, 0, 4294967295, []⟩,
   ⟨0x2400, 0x0C, 1024, 1, .u32, .ro, .volatile, 0, 0, 4294967295, []⟩,
   ⟨0x2400, 0x0D, 1024, 1, .u8, .ro, .volatile, 0, 0, 255, []⟩,
   ⟨0x2400, 0x0E, 1024, 1, .u32, .ro, .volatile, 0, 0, 4294967295, []⟩,
   ⟨0x2400, 0x0F, 1024, 1, .u32, .ro, .volatile, 0, 0, 4294967295, []⟩,
   ⟨0x1020, 0x01, 1, 1, .u16, .ro, .volatile, 0, 0, 65535, []⟩,
   ⟨0x1020, 0x02, 1, 1, .u16, .ro, .volatile, 0, 0, 65535, []⟩,
   ⟨0x1020, 0x03, 1, 1, .u16, .ro, .volatile, 0, 0, 65535, []⟩,
   ⟨0x1020, 0x04, 1, 1, .u16, .ro, .volatile, 0, 0, 65535, []⟩,
   ⟨0x1020, 0x05, 1, 1, .u64, .ro, .volatile, 0, 0, 18446744073709551615, []⟩,
   ⟨0x1020, 0x06, 1, 1, .u32, .ro, .volatile, 0, 0, 4294967295, []⟩,
   ⟨0x4000, 0x10, 4096, 1, .u16, .rw, .persistent, 0, 0, 65535, [.manager, .secure]⟩,
   ⟨0x4000, 0x11, 4096, 1, .u8, .rw, .persistent, 0, 0, 8, [.manager, .secure]⟩,
   ⟨0x4000, 0x12, 4096, 1, .u32, .rw, .persistent, 4294967295, 1, 4294967295, [.manager, .secure]⟩,
   ⟨0x4000, 0x13, 4096, 1, .u32, .ro, .volatile, 0, 0, 4294967295, []⟩]

/-- Rows of the dictionary, part 1. -/
def odTable1 : List OdRow :=
  [⟨0x4000, 0x14, 4096, 1, .u64, .ro, .volatile, 1, 0, 18446744073709551615, []⟩,
   ⟨0x3000, 0x01, 1, 1, .u32, .rw, .persistent, 8000, 250, 1000000, [.manager, .secure]⟩,
   ⟨0x3000, 0x02, 1, 1, .u32, .rw, .persistent, 4000, 250, 1000000, [.manager, .secure]⟩,
   ⟨0x3000, 0x03, 1, 1, .u32, .rw, .persistent, 10000, 250, 1000000, [.manager, .secure]⟩,
   ⟨0x3000, 0x04, 1, 1, .u32, .rw, .persistent, 1000, 250, 1000000, [.manager, .secure]⟩,
   ⟨0x3010, 0x01, 1, 1, .u64, .ro, .volatile, 0, 0, 18446744073709551615, []⟩,
   ⟨0x3010, 0x02, 1, 1, .u32, .ro, .volatile, 0, 0, 4294967295, []⟩,
   ⟨0x3010, 0x03, 1, 1, .u64, .ro, .volatile, 0, 0, 18446744073709551615, []⟩,
   ⟨0x3010, 0x04, 1, 1, .u16, .ro, .volatile, 0, 0, 65535, []⟩,
   ⟨0x3010, 0x05, 1, 1, .u32, .ro, .volatile, 0, 0, 4294967295, []⟩,
   ⟨0x3400, 0x01, 1024, 1, .u8, .rw, .persistent, 8, 1, 64, [.manager, .secure]⟩,
   ⟨0x3400, 0x02, 1024, 1, .u16, .rw, .persistent, 200, 0, 60000, [.manager, .secure]⟩,
   ⟨0x3400, 0x10, 1024, 10, .u32, .rw, .persistent, 4294967295, 0, 4294967295, [.manager, .secure]⟩,
   ⟨0x3400, 0x20, 1024, 10, .u32, .rw, .persistent, 64, 1, 4294967295, [.manager, .secure]⟩,
   ⟨0x3400, 0x30, 1024, 10, .u32, .ro, .volatile, 0, 0, 4294967295, []⟩,
   ⟨0x3400, 0x40, 1024, 1, .u16, .ro, .volatile, 0, 0, 65535, []⟩,
   ⟨0x5000, 0x01, 1, 1, .u64, .ro, .volatile, 0, 0, 18446744073709551615, []⟩,
   ⟨0x5000, 0x02, 1, 1, .u64, .ro, .volatile, 0, 0, 18446744073709551615, []⟩,
   ⟨0x5000, 0x03, 1, 1, .u64, .ro, .volatile, 0, 0, 18446744073709551615, []⟩,
   ⟨0x5000, 0x04, 1, 1, .u64, .ro, .volatile, 0, 0, 18446744073709551615, []⟩,
   ⟨0x5000, 0x05, 1, 1, .u64, .ro, .volatile, 0, 0, 18446744073709551615, []⟩,
   ⟨0x5000, 0x06, 1, 1, .u8, .wo, .volatile, 0, 1, 1, [.manager, .secure]⟩,
   ⟨0x5000, 0x07, 1, 1, .u32, .ro, .volatile, 0, 0, 4294967295, []⟩,
   ⟨0x5000, 0x08, 1, 1, .u32, .rw, .persistent, 64, 1, 65536, [.manager, .secure]⟩,
   ⟨0x5000, 0x09, 1, 1, .u16, .rw, .persistent, 1, 1, 1024, [.manager, .secure]⟩]

/-- Rows of the dictionary, part 2. -/
def odTable2 : List OdRow :=
  [⟨0x5000, 0x0A, 1, 1, .u32, .ro, .volatile, 0, 0, 4294967295, []⟩,
   ⟨0x5000, 0x0B, 1, 1, .u32, .ro, .volatile, 0, 0, 4294967295, []⟩,
   ⟨0x5000, 0x0C, 1, 1, .u32, .ro, .volatile, 0, 0, 4294967295, []⟩,
   ⟨0x5010, 0x01, 1, 1, .u8, .ro, .volatile, 0, 0, 255, []⟩,
   ⟨0x5010, 0x02, 1, 1, .u64, .rw, .volatile, 0, 0, 18446744073709551615, [.manager, .secure]⟩,
   ⟨0x5010, 0x03, 1, 1, .u32, .rw, .volatile, 0, 0, 4294967295, [.manager, .secure]⟩,
   ⟨0x5010, 0x04, 1, 1, .u8, .wo, .volatile, 0, 1, 1, [.manager, .secure]⟩,
   ⟨0x5010, 0x05, 1, 1, .u32, .ro, .volatile, 0, 0, 4294967295, []⟩,
   ⟨0x5010, 0x06, 1, 1, .u8, .rwq, .volatile, 0, 1, 1, [.manager, .officer, .secure]⟩,
   ⟨0x1030, 0x01, 1, 1, .u64, .ro, .volatile, 0, 0, 18446744073709551615, []⟩,
   ⟨0x1030, 0x02, 1, 1, .u32, .ro, .volatile, 65536, 0, 4294967295, []⟩,
   ⟨0x1030, 0x03, 1, 1, .u32, .ro, .volatile, 0, 0, 4294967295, []⟩,
   ⟨0x1030, 0x04, 1, 1, .u32, .ro, .volatile, 0, 0, 4294967295, []⟩,
   ⟨0x1030, 0x05, 1, 1, .u8, .ro, .volatile, 0, 0, 255, []⟩,
   ⟨0x1030, 0x06, 1, 1, .u32, .ro, .volatile, 0, 0, 4294967295, []⟩,
   ⟨0x1030, 0x07, 1, 1, .u32, .ro, .volatile, 0, 0, 4294967295, []⟩,
   ⟨0x1030, 0x08, 1, 1, .u64, .ro, .volatile, 0, 0, 18446744073709551615, []⟩,
   ⟨0x1030, 0x09, 1, 1, .u32, .ro, .volatile, 0, 0, 4294967295, []⟩,
   ⟨0x1030, 0x0A, 1, 1, .u32, .ro, .volatile, 0, 0, 4294967295, []⟩,
   ⟨0x1030, 0x0B, 1, 1, .u32, .ro, .volatile, 0, 0, 4294967295, []⟩,
   ⟨0x1030, 0x0C, 1, 1, .u8, .ro, .volatile, 0, 0, 255, []⟩,
   ⟨0x5020, 0x01, 1, 1, .u8, .ro, .volatile, 0, 0, 255, []⟩,
   ⟨0x5020, 0x02, 1, 1, .u64, .ro, .volatile, 0, 0, 18446744073709551615, []⟩,
   ⟨0x5020, 0x03, 1, 1, .u8, .ro, .volatile, 0, 0, 255, []⟩,
   ⟨0x5020, 0x04, 1, 1, .u64, .ro, .volatile, 0, 0, 18446744073709551615, []⟩]

/-- Rows of the dictionary, part 3. -/
def odTable3 : List OdRow :=
  [⟨0x5020, 0x05, 1, 1, .u8, .ro, .volatile, 0, 0, 255, []⟩,
   ⟨0x5020, 0x06, 1, 1, .u32, .ro, .volatile, 0, 0, 4294967295, []⟩,
   ⟨0x5020, 0x07, 1, 1, .u16, .rw, .persistent, 250, 50, 1000, [.manager, .secure]⟩,
   ⟨0x5020, 0x08, 1, 1, .u32, .rw, .persistent, 3600000, 60000, 86400000, [.manager, .secure]⟩,
   ⟨0x5020, 0x09, 1, 1, .u64, .ro, .volatile, 0, 0, 18446744073709551615, []⟩,
   ⟨0x5020, 0x0A, 1, 1, .u32, .ro, .volatile, 0, 0, 4294967295, []⟩,
   ⟨0x5020, 0x0B, 1, 1, .u8, .ro, .volatile, 0, 0, 255, []⟩,
   ⟨0x5020, 0x0C, 1, 1, .u64, .ro, .volatile, 0, 0, 18446744073709551615, []⟩,
   ⟨0x5020, 0x0D, 1, 1, .u8, .wo, .volatile, 0, 1, 1, [.manager, .secure]⟩,
   ⟨0x5020, 0x0E, 1, 1, .u8, .wo, .volatile, 0, 1, 1, [.manager, .secure]⟩,
   ⟨0x5020, 0x0F, 1, 1, .u8, .wo, .volatile, 0, 1, 1, [.manager, .secure]⟩,
   ⟨0x5020, 0x10, 1, 1, .u8, .wo, .volatile, 0, 1, 1, [.manager, .secure]⟩,
   ⟨0x5020, 0x11, 1, 1, .u64, .rwq, .volatile, 0, 0, 18446744073709551615, [.manager, .officer, .secure]⟩,
   ⟨0x5020, 0x12, 1, 1, .u8, .wo, .volatile, 0, 1, 1, [.manager, .secure]⟩,
   ⟨0x5020, 0x13, 1, 1, .u8, .ro, .volatile, 16, 0, 255, []⟩,
   ⟨0x5020, 0x14, 1, 1, .u64, .rw, .volatile, 0, 0, 18446744073709551615, [.manager, .secure]⟩,
   ⟨0x5020, 0x15, 1, 1, .u32, .rw, .volatile, 0, 1, 4294967295, [.manager, .secure]⟩,
   ⟨0x5020, 0x16, 1, 1, .u8, .wo, .volatile, 0, 1, 1, [.manager, .secure]⟩,
   ⟨0x5020, 0x17, 1, 1, .u32, .ro, .volatile, 0, 0, 4294967295, []⟩,
   ⟨0xB000, 0x01, 1, 1, .u8, .ro, .volatile, 32, 0, 255, []⟩,
   ⟨0xB000, 0x02, 1, 1, .u8, .ro, .volatile, 2, 0, 255, []⟩,
   ⟨0xB000, 0x03, 1, 1, .u64, .ro, .volatile, 0, 0, 18446744073709551615, []⟩,
   ⟨0xB000, 0x04, 1, 1, .u64, .ro, .volatile, 0, 0, 18446744073709551615, []⟩,
   ⟨0xB000, 0x05, 1, 1, .u64, .ro, .volatile, 0, 0, 18446744073709551615, []⟩,
   ⟨0xB000, 0x06, 1, 1, .u64, .ro, .volatile, 0, 0, 18446744073709551615, []⟩]

/-- Rows of the dictionary, part 4. -/
def odTable4 : List OdRow :=
  [⟨0xB010, 0x01, 1, 1, .u8, .ro, .volatile, 8, 0, 255, []⟩,
   ⟨0xB010, 0x02, 1, 1, .u8, .ro, .volatile, 1, 0, 255, []⟩,
   ⟨0xB010, 0x03, 1, 1, .u16, .ro, .volatile, 0, 0, 65535, []⟩,
   ⟨0xB010, 0x04, 1, 1, .u16, .ro, .volatile, 0, 0, 65535, []⟩,
   ⟨0xB010, 0x05, 1, 1, .u64, .ro, .volatile, 0, 0, 18446744073709551615, []⟩,
   ⟨0xB010, 0x06, 1, 1, .u64, .ro, .volatile, 0, 0, 18446744073709551615, []⟩,
   ⟨0xB010, 0x07, 1, 1, .u16, .ro, .volatile, 0, 0, 65535, []⟩,
   ⟨0xB010, 0x08, 1, 1, .bool, .ro, .volatile, 0, 0, 1, []⟩,
   ⟨0xB020, 0x01, 1, 1, .u8, .ro, .volatile, 16, 0, 255, []⟩,
   ⟨0xB020, 0x02, 1, 1, .u16, .ro, .volatile, 0, 0, 65535, []⟩,
   ⟨0xB020, 0x03, 1, 1, .u64, .ro, .volatile, 0, 0, 18446744073709551615, []⟩,
   ⟨0xB020, 0x04, 1, 1, .u64, .ro, .volatile, 0, 0, 18446744073709551615, []⟩,
   ⟨0xB020, 0x05, 1, 1, .u64, .ro, .volatile, 0, 0, 18446744073709551615, []⟩,
   ⟨0xB020, 0x06, 1, 1, .u32, .ro, .volatile, 0, 0, 4294967295, []⟩,
   ⟨0xB030, 0x01, 1, 1, .u8, .ro, .volatile, 0, 0, 255, []⟩,
   ⟨0xB030, 0x02, 1, 1, .u8, .ro, .volatile, 0, 0, 255, []⟩,
   ⟨0xB030, 0x03, 1, 1, .u8, .ro, .volatile, 0, 0, 255, []⟩,
   ⟨0xB030, 0x04, 1, 1, .u64, .ro, .volatile, 0, 0, 18446744073709551615, []⟩,
   ⟨0xB030, 0x05, 1, 1, .u64, .ro, .volatile, 0, 0, 18446744073709551615, []⟩,
   ⟨0xB030, 0x06, 1, 1, .u32, .ro, .volatile, 0, 0, 4294967295, []⟩,
   ⟨0xB030, 0x07, 1, 1, .u32, .ro, .volatile, 0, 0, 4294967295, []⟩,
   ⟨0xB030, 0x08, 1, 1, .u64, .ro, .volatile, 0, 0, 18446744073709551615, []⟩,
   ⟨0x4000, 0x04, 4096, 1, .u32, .rw, .persistent, 0, 0, 4294967295, [.manager, .secure]⟩,
   ⟨0xB040, 0x01, 1, 1, .u16, .ro, .volatile, 8176, 0, 65535, []⟩,
   ⟨0xB040, 0x02, 1, 1, .u16, .ro, .volatile, 0, 0, 65535, []⟩]

/-- Rows of the dictionary, part 5. -/
def odTable5 : List OdRow :=
  [⟨0xB040, 0x03, 1, 1, .u16, .ro, .volatile, 0, 0, 65535, []⟩,
   ⟨0xB040, 0x04, 1, 1, .u64, .ro, .volatile, 0, 0, 18446744073709551615, []⟩,
   ⟨0xB040, 0x05, 1, 1, .u64, .ro, .volatile, 0, 0, 18446744073709551615, []⟩,
   ⟨0xB040, 0x06, 1, 1, .u32, .ro, .volatile, 0, 0, 4294967295, []⟩,
   ⟨0xB040, 0x07, 1, 1, .u8, .ro, .volatile, 0, 0, 255, []⟩,
   ⟨0xB040, 0x08, 1, 1, .u8, .rw, .persistent, 0, 0, 255, [.manager, .secure]⟩,
   ⟨0xB040, 0x09, 1, 1, .u16, .rw, .persistent, 4096, 1, 32768, [.manager, .secure]⟩,
   ⟨0xB040, 0x0A, 1, 1, .u8, .ro, .volatile, 0, 0, 255, []⟩,
   ⟨0xB040, 0x0B, 1, 1, .u64, .ro, .volatile, 0, 0, 18446744073709551615, []⟩,
   ⟨0x1100, 0x01, 1, 1, .u8, .ro, .volatile, 0, 0, 255, []⟩,
   ⟨0x1100, 0x02, 1, 1, (.octet 69), .wo, .volatile, 0, 0, 69, [.manager, .officer, .secure]⟩,
   ⟨0x1100, 0x03, 1, 1, .u8, .wo, .volatile, 0, 1, 1, [.manager, .secure]⟩,
   ⟨0x1100, 0x04, 1, 1, .u64, .ro, .volatile, 0, 0, 18446744073709551615, []⟩,
   ⟨0x1100, 0x05, 1, 1, .u64, .ro, .volatile, 0, 0, 18446744073709551615, []⟩,
   ⟨0x1100, 0x06, 1, 1, .u8, .ro, .volatile, 0, 0, 255, []⟩,
   ⟨0x1100, 0x07, 1, 1, .u8, .rwq, .persistent, 2, 2, 8, [.manager, .officer, .secure]⟩,
   ⟨0x1100, 0x08, 1, 1, .u32, .rwq, .persistent, 300000, 60000, 3600000, [.manager, .officer, .secure]⟩,
   ⟨0x1100, 0x09, 1, 1, .u16, .rw, .persistent, 60000, 10000, 60000, [.manager, .secure]⟩,
   ⟨0x1100, 0x0A, 1, 1, (.octet 1088), .ro, .volatile, 0, 0, 1088, []⟩,
   ⟨0x1100, 0x0B, 1, 1, (.octet 16), .wo, .volatile, 0, 4, 16, [.officer]⟩,
   ⟨0x1100, 0x0C, 1, 1, (.octet 16), .wo, .volatile, 0, 4, 16, [.officer]⟩,
   ⟨0x1100, 0x0D, 1, 1, .u8, .ro, .volatile, 0, 0, 255, []⟩,
   ⟨0x1100, 0x0E, 1, 1, .u8, .wo, .volatile, 0, 1, 1, [.officer]⟩,
   ⟨0x1110, 0x01, 32, 1, (.octet 97), .rwq, .persistent, 0, 0, 97, [.manager, .officer, .secure]⟩,
   ⟨0x1110, 0x02, 32, 1, .u8, .ro, .volatile, 0, 0, 255, []⟩]

/-- Rows of the dictionary, part 6. -/
def odTable6 : List OdRow :=
  [⟨0x1110, 0x03, 32, 1, .u64, .ro, .volatile, 0, 0, 18446744073709551615, []⟩,
   ⟨0x4000, 0x18, 4096, 1, .u16, .rw, .persistent, 0, 0, 60000, [.manager, .secure]⟩,
   ⟨0x4000, 0x19, 4096, 1, .u16, .ro, .volatile, 0, 0, 65535, []⟩,
   ⟨0x4000, 0x1A, 4096, 1, .u32, .ro, .volatile, 0, 0, 4294967295, []⟩,
   ⟨0x4000, 0x20, 4096, 8, (.octet 1953), .rw, .persistent, 0, 0, 1953, [.manager]⟩,
   ⟨0x1040, 0x01, 1, 1, .u8, .ro, .volatile, 0, 0, 255, []⟩,
   ⟨0x1040, 0x02, 1, 1, .u16, .ro, .volatile, 0, 0, 65535, []⟩,
   ⟨0x1040, 0x03, 1, 1, .u32, .ro, .volatile, 0, 0, 4294967295, []⟩,
   ⟨0x1040, 0x04, 1, 1, .u32, .ro, .volatile, 0, 0, 4294967295, []⟩,
   ⟨0x1040, 0x05, 1, 1, .bool, .ro, .volatile, 0, 0, 1, []⟩,
   ⟨0x1040, 0x06, 1, 1, .u16, .ro, .volatile, 15, 0, 65535, []⟩,
   ⟨0x7000, 0x01, 1, 1, .u8, .ro, .volatile, 0, 0, 255, []⟩,
   ⟨0x7000, 0x02, 1, 1, .u32, .ro, .volatile, 0, 0, 4294967295, []⟩,
   ⟨0x7000, 0x03, 1, 1, .u8, .rw, .unitLocal, 0, 0, 255, [.manager, .secure]⟩,
   ⟨0x7000, 0x04, 1, 1, .u8, .rwq, .unitLocal, 0, 0, 255, [.manager, .officer, .secure]⟩,
   ⟨0x7000, 0x05, 1, 1, .u8, .rwq, .unitLocal, 2, 1, 4, [.manager, .officer, .secure]⟩,
   ⟨0x7000, 0x06, 1, 1, .u8, .ro, .volatile, 0, 0, 255, []⟩,
   ⟨0x7000, 0x07, 1, 1, .u16, .ro, .volatile, 0, 0, 65535, []⟩,
   ⟨0x7000, 0x08, 1, 1, .u16, .ro, .volatile, 0, 0, 65535, []⟩,
   ⟨0x7010, 0x01, 24, 1, .u8, .rwq, .unitLocal, 0, 0, 4, [.manager, .officer, .secure]⟩,
   ⟨0x7010, 0x02, 24, 1, .u8, .rw, .unitLocal, 0, 0, 4, [.manager, .secure]⟩,
   ⟨0x7010, 0x03, 24, 1, .u32, .ro, .volatile, 0, 0, 4294967295, []⟩,
   ⟨0x7010, 0x04, 24, 1, .u64, .ro, .volatile, 0, 0, 18446744073709551615, []⟩,
   ⟨0x1010, 0x01, 1, 1, .u64, .ro, .volatile, 0, 0, 18446744073709551615, []⟩,
   ⟨0x1010, 0x02, 1, 1, (.octet 1056), .ro, .volatile, 0, 0, 1056, []⟩]

/-- Rows of the dictionary, part 7. -/
def odTable7 : List OdRow :=
  [⟨0x1010, 0x03, 1, 1, (.octet 1448), .ro, .volatile, 0, 0, 1448, []⟩,
   ⟨0x1010, 0x04, 1, 1, (.octet 1056), .wo, .volatile, 0, 0, 1056, [.manager]⟩,
   ⟨0x9000, 0x01, 1, 1, .u8, .ro, .volatile, 0, 0, 255, []⟩,
   ⟨0x9000, 0x02, 1, 1, .u8, .rwl, .otp, 0, 1, 4, [.manager, .officer, .secure]⟩,
   ⟨0x9000, 0xFF, 1, 1, .u8, .ro, .volatile, 4, 0, 255, []⟩,
   ⟨0x9010, 0x01, 4, 1, (.octet 64), .rwl, .otp, 0, 64, 64, [.manager, .officer, .secure]⟩,
   ⟨0x9010, 0x02, 4, 1, .u8, .rwl, .otp, 0, 1, 1, [.manager, .officer, .secure]⟩,
   ⟨0x9010, 0x03, 4, 1, .u8, .ro, .volatile, 0, 0, 255, []⟩,
   ⟨0x9010, 0xFF, 4, 1, .u8, .ro, .volatile, 2, 0, 255, []⟩,
   ⟨0x9020, 0x01, 1, 1, .u8, .rwl, .otp, 0, 0, 255, [.manager, .officer, .secure]⟩,
   ⟨0x9020, 0xFF, 1, 1, .u8, .ro, .volatile, 255, 0, 255, []⟩,
   ⟨0x9021, 0x01, 1, 1, .bool, .rwl, .otp, 0, 0, 1, [.manager, .officer, .secure]⟩,
   ⟨0x9021, 0xFF, 1, 1, .u8, .ro, .volatile, 1, 0, 255, []⟩,
   ⟨0x9022, 0x01, 1, 1, .bool, .rwl, .otp, 0, 0, 1, [.manager, .officer, .secure]⟩,
   ⟨0x9022, 0xFF, 1, 1, .u8, .ro, .volatile, 1, 0, 255, []⟩,
   ⟨0x9023, 0xFF, 1, 1, .u8, .ro, .volatile, 16, 0, 255, []⟩,
   ⟨0x9030, 0x01, 1, 1, (.octet 32), .ro, .volatile, 0, 0, 32, []⟩,
   ⟨0x9030, 0x02, 1, 1, (.octet 576), .wo, .volatile, 0, 0, 576, [.manager, .officer]⟩,
   ⟨0x9030, 0x03, 1, 1, .u8, .ro, .volatile, 0, 0, 255, []⟩,
   ⟨0x9030, 0x04, 1, 1, .u8, .ro, .volatile, 0, 0, 255, []⟩,
   ⟨0x9030, 0x05, 1, 1, .u32, .ro, .volatile, 0, 0, 4294967295, []⟩,
   ⟨0x9040, 0x01, 1, 1, .u32, .ro, .volatile, 0, 0, 4294967295, []⟩,
   ⟨0x9040, 0x02, 1, 1, .u32, .ro, .volatile, 0, 0, 4294967295, []⟩,
   ⟨0x6001, 0x01, 1, 1, .u64, .ro, .volatile, 0, 0, 18446744073709551615, []⟩,
   ⟨0x6001, 0x02, 1, 1, .u32, .ro, .volatile, 0, 0, 4294967295, []⟩,
   ⟨0x6002, 0x01, 1, 1, .u64, .ro, .volatile, 0, 0, 18446744073709551615, []⟩,
   ⟨0x6002, 0x02, 1, 1, .u8, .ro, .volatile, 0, 0, 255, []⟩]

/-- Rows of the dictionary, part 8. -/
def odTable8 : List OdRow :=
  [⟨0x6002, 0x03, 1, 1, .u64, .ro, .volatile, 0, 0, 18446744073709551615, []⟩,
   ⟨0x6002, 0x04, 1, 1, .u32, .ro, .volatile, 0, 0, 4294967295, []⟩,
   ⟨0x6002, 0x05, 1, 1, .bool, .ro, .volatile, 0, 0, 1, []⟩,
   ⟨0x6002, 0x06, 1, 1, .u32, .ro, .volatile, 0, 0, 4294967295, []⟩,
   ⟨0x6002, 0x07, 1, 1, .u32, .ro, .volatile, 0, 0, 4294967295, []⟩,
   ⟨0x6010, 0x01, 1, 1, .u64, .rw, .volatile, 0, 0, 18446744073709551615, [.manager, .secure]⟩,
   ⟨0x6010, 0x02, 1, 1, .u8, .rwq, .volatile, 0, 1, 1, [.manager, .officer, .secure]⟩,
   ⟨0x6011, 0x01, 1, 1, .i32, .rw, .persistent, 37, 0, 4294967295, [.manager, .secure]⟩,
   ⟨0x6020, 0x01, 1, 1, .u16, .ro, .volatile, 0, 0, 65535, []⟩,
   ⟨0x6020, 0x02, 1, 5, .u32, .ro, .volatile, 0, 0, 4294967295, []⟩,
   ⟨0x6020, 0x07, 1, 1, .u64, .ro, .volatile, 0, 0, 18446744073709551615, []⟩,
   ⟨0x6022, 0x01, 1, 1, .u16, .rw, .volatile, 0, 0, 65535, [.manager, .secure]⟩,
   ⟨0x6022, 0x02, 1, 1, .u32, .ro, .volatile, 0, 0, 4294967295, []⟩,
   ⟨0x6030, 0x01, 1, 1, .u64, .rw, .volatile, 0, 0, 18446744073709551615, [.manager, .secure]⟩,
   ⟨0x6030, 0x02, 1, 1, (.octet 512), .ro, .volatile, 0, 0, 512, []⟩,
   ⟨0x6031, 0x01, 1, 1, .u16, .ro, .volatile, 0, 0, 65535, []⟩,
   ⟨0x6031, 0x02, 1, 1, .bool, .ro, .volatile, 0, 0, 1, []⟩,
   ⟨0x6031, 0x03, 1, 1, .u64, .rwq, .volatile, 0, 0, 18446744073709551615, [.manager, .officer, .secure]⟩,
   ⟨0x1000, 0x01, 1, 1, .u32, .ro, .volatile, 0, 0, 4294967295, []⟩,
   ⟨0x1000, 0x02, 1, 1, .u32, .ro, .volatile, 0, 0, 4294967295, []⟩,
   ⟨0x1000, 0x03, 1, 1, .u64, .ro, .volatile, 0, 0, 18446744073709551615, []⟩,
   ⟨0x2000, 0x01, 1, 1, .u8, .ro, .volatile, 0, 0, 255, []⟩,
   ⟨0x2000, 0x02, 1, 1, .u8, .ro, .volatile, 0, 0, 255, []⟩,
   ⟨0x4000, 0x01, 4096, 1, .u8, .rw, .persistent, 0, 0, 1, [.manager, .secure]⟩,
   ⟨0x4000, 0x02, 4096, 1, .u16, .ro, .volatile, 0, 0, 65535, []⟩]

/-- Rows of the dictionary, part 9. -/
def odTable9 : List OdRow :=
  [⟨0xA000, 0x01, 1, 1, .u8, .rw, .unitLocal, 255, 0, 255, [.manager, .secure]⟩,
   ⟨0xA000, 0x02, 1, 1, .u8, .rw, .unitLocal, 8, 1, 8, [.manager, .secure]⟩,
   ⟨0xA000, 0x03, 1, 1, .u8, .rw, .unitLocal, 32, 1, 255, [.manager, .secure]⟩,
   ⟨0xA000, 0x04, 1, 1, .u8, .rw, .unitLocal, 0, 0, 4, [.manager, .secure]⟩,
   ⟨0xA000, 0x05, 1, 1, .u8, .ro, .volatile, 0, 0, 255, []⟩,
   ⟨0xA000, 0x06, 1, 1, (.octet 6), .ro, .volatile, 0, 0, 6, []⟩,
   ⟨0xA000, 0x07, 1, 1, (.octet 16), .ro, .volatile, 0, 0, 16, []⟩,
   ⟨0xA000, 0x08, 1, 5, .u32, .ro, .volatile, 0, 0, 4294967295, []⟩,
   ⟨0xA010, 0x01, 1, 1, .u8, .ro, .volatile, 0, 0, 255, []⟩,
   ⟨0xA010, 0x02, 1, 1, .u8, .rw, .unitLocal, 8, 1, 8, [.manager, .secure]⟩,
   ⟨0xA010, 0x03, 1, 1, .u32, .rw, .unitLocal, 300000, 10000, 3600000, [.manager, .secure]⟩,
   ⟨0xA010, 0x04, 1, 1, .u32, .ro, .volatile, 0, 0, 4294967295, []⟩,
   ⟨0xA020, 0x01, 8, 1, .u8, .ro, .volatile, 0, 0, 255, []⟩,
   ⟨0xA020, 0x02, 8, 1, .u8, .ro, .volatile, 0, 0, 255, []⟩,
   ⟨0xA020, 0x03, 8, 1, (.octet 16), .ro, .volatile, 0, 0, 16, []⟩,
   ⟨0xA020, 0x04, 8, 1, (.octet 32), .ro, .volatile, 0, 0, 32, []⟩,
   ⟨0xA020, 0x05, 8, 1, .u32, .ro, .volatile, 0, 0, 4294967295, []⟩,
   ⟨0xA020, 0x06, 8, 1, .time64, .ro, .volatile, 0, 0, 18446744073709551615, []⟩,
   ⟨0xA020, 0x07, 8, 1, .u8, .ro, .volatile, 0, 0, 255, []⟩,
   ⟨0xA020, 0x08, 8, 1, .u8, .wo, .volatile, 0, 1, 1, [.manager, .secure]⟩,
   ⟨0xA020, 0x09, 8, 1, .u8, .ro, .volatile, 0, 0, 255, []⟩,
   ⟨0xA030, 0x01, 1, 1, .u8, .wo, .unitLocal, 0, 1, 1, [.manager, .secure]⟩,
   ⟨0xA030, 0x02, 1, 1, (.octet 1024), .ro, .volatile, 0, 0, 1024, []⟩,
   ⟨0xA030, 0x03, 1, 1, (.octet 2048), .rw, .unitLocal, 0, 0, 2048, [.manager, .secure]⟩,
   ⟨0xA030, 0x04, 1, 1, .u8, .ro, .volatile, 0, 0, 255, []⟩]

/-- Rows of the dictionary, part 10. -/
def odTable10 : List OdRow :=
  [⟨0xA040, 0x01, 4, 1, (.octet 2048), .rwq, .unitLocal, 0, 0, 2048, [.manager, .officer, .secure]⟩,
   ⟨0xA040, 0x02, 4, 1, .u8, .rwq, .unitLocal, 2, 0, 2, [.manager, .officer, .secure]⟩,
   ⟨0x8000, 0x01, 1, 1, .u8, .ro, .volatile, 0, 0, 255, []⟩,
   ⟨0x8000, 0x02, 1, 1, .u8, .wo, .volatile, 0, 1, 1, [.manager, .secure]⟩,
   ⟨0x8000, 0x03, 1, 1, .u8, .wo, .volatile, 0, 1, 1, [.manager, .secure]⟩,
   ⟨0x8000, 0x04, 1, 1, .u8, .ro, .volatile, 0, 0, 255, []⟩,
   ⟨0x8000, 0x05, 1, 1, .u32, .ro, .volatile, 0, 0, 4294967295, []⟩,
   ⟨0x8000, 0x06, 1, 1, .u64, .ro, .volatile, 0, 0, 18446744073709551615, []⟩,
   ⟨0x8000, 0x07, 1, 1, .u8, .ro, .volatile, 0, 0, 255, []⟩,
   ⟨0x8000, 0x08, 1, 1, .u16, .rw, .unitLocal, 0, 0, 60000, [.manager, .secure]⟩,
   ⟨0x8010, 0x01, 12, 1, .u8, .ro, .volatile, 0, 0, 255, []⟩,
   ⟨0x8010, 0x02, 12, 1, .bool, .ro, .volatile, 1, 0, 1, []⟩,
   ⟨0xF000, 0x01, 1, 1, .u8, .wo, .volatile, 0, 1, 1, [.manager, .secure]⟩,
   ⟨0xF000, 0x02, 1, 1, (.octet 64), .wo, .volatile, 0, 64, 64, [.manager, .secure]⟩,
   ⟨0xF000, 0x03, 1, 1, (.octet 1056), .wo, .volatile, 0, 0, 1056, [.manager, .secure]⟩,
   ⟨0xF000, 0x04, 1, 1, (.octet 520), .ro, .volatile, 0, 0, 520, []⟩]

/-- The dictionary. -/
def odTable : List OdRow :=
  odTable0 ++ odTable1 ++ odTable2 ++ odTable3 ++ odTable4 ++ odTable5 ++ odTable6 ++ odTable7 ++ odTable8 ++ odTable9 ++ odTable10

/-- The row of an entry; nothing where the dictionary defines none (R507). -/
def odRow (index sub : Nat) : Option OdRow :=
  odTable.find? (fun r => r.index ≤ index && index < r.index + r.count && r.sub ≤ sub && sub < r.sub + r.subCount)

/-- Whether an entry is of a storage class (R502). -/
def odIs (cls : OdClass) (index sub : Nat) : Bool := ((odRow index sub).map (fun r => r.cls == cls)).getD false

end Sys2Proof.Machine
end

