-- ==== Sys2Proof/Machine/StrandOps.lean ====
section
/-! DEFINITION. The strand at work: sealing, the change overlay, the journal ring, the durable index, the
clasp, checkpoints and restore (R182 to R205, R217, R224, R252 to R257). -/

namespace Sys2Proof.Machine

/-! ## Status (R186, R209) -/

/-- A status bit follows a condition; its rise sends a journal notice (R188). -/
def State.riseNotice (s : State) (f : Fld) (on : Bool) : State :=
  if on && !s.bit f then (s.putBit f true).journalNotice else s.putBit f on

/-- STAGING_FULL and LAPSED follow the staging area and the clasp (R185, R188, R192). -/
def State.showStrand (s : State) : State :=
  (s.riseNotice .HST_JNL_STATUS_STAGING_FULL s.stagingFull).riseNotice .HST_JNL_STATUS_LAPSED (!s.holdsClasp)

/-! ## Checkpoint items (R196, R199, R200; log entry 22) -/

/-- The handles of a segment in hash order, at the boundary of a checkpoint. -/
def State.segmentObjs (s : State) (c : Checkpoint) (seg : Nat) : List Obj :=
  let hs := distinct ((s.dirAll.map (·.handle)) ++ c.objs.map (·.1))
  let mine := sortBy (fun h => (dirHash h, 0)) (hs.filter (fun h => segmentOf h == seg))
  mine.filterMap (fun h =>
    match c.objs.find? (fun e => e.1 == h) with
    | some e => e.2
    | none => s.committedObj h)

/-- The settings at the boundary of a checkpoint: every persistent entry with a value, and the next serial
of each owner (R92, R104). -/
def State.segmentSettings (s : State) (c : Checkpoint) : List (Nat × Bytes) :=
  let now := s.agent.values.filterMap (fun e =>
    if odIs .persistent (e.1 / 256) (e.1 % 256) && !(c.settings.any (fun x => x.1 == e.1)) then e.2.map (fun v => (e.1, v))
    else none)
  let kept := c.settings.filterMap (fun e => e.2.map (fun v => (e.1, v)))
  let serials := ((List.range 4096).drop 1).filterMap (fun n =>
    if c.settings.any (fun x => x.1 == serialKey n) then none else some (serialKey n, le 8 (s.committedSerial n)))
  sortBy (fun e => (e.1, 0)) (now ++ kept ++ serials)

/-- Entries gathered into chunk bodies of at most 32 KiB, each with the first hash in it. -/
def gatherChunks (l : List (Nat × Bytes)) : List (Nat × Bytes) :=
  l.foldl (fun acc e =>
    match acc.reverse with
    | [] => [e]
    | last :: before =>
      if last.2.length + e.2.length ≤ 32768 then before.reverse ++ [(last.1, last.2 ++ e.2)] else acc ++ [e]) []

/-- The chunks of a segment at the boundary of a checkpoint. -/
def State.segmentChunks (s : State) (c : Checkpoint) (seg : Nat) : List (Nat × Bytes) :=
  if seg = 4096 then gatherChunks ((s.segmentSettings c).map (fun e => (0, settingEntry e.1 e.2)))
  else gatherChunks ((s.segmentObjs c seg).map (fun o => (dirHash o.handle, s.chunkEntry o)))

/-- The version and chunk count of every segment once a checkpoint is complete. -/
def State.segmentTable (s : State) (c : Checkpoint) : List (Nat × Nat) :=
  (List.range 4097).map (fun g =>
    match c.counts.find? (fun e => e.1 == g) with
    | some e => (c.boundary, e.2)
    | none => mget (fun _ => (0, 0)) s.strand.segVersions g)

/-- The manifest item of a checkpoint. -/
def State.manifestItem (s : State) (c : Checkpoint) : Bytes :=
  s.sealItem s.svn (manifestHeader c.boundary s.svn (s.strand.clasp.getD s.strand.lastClasp) s.bb.domainId) (itemNonce c.boundary 0xFFFF 0xFFFF)
    (manifestBody (s.beadLog c.boundary).1 c.closeTick (s.segmentTable c))

/-! ## The journal ring (R186 to R189) -/

/-- What the ring is to take next: a bead, else a checkpoint item (R187). -/
inductive NextItem where
  | bead (n : Nat) (octets : Bytes)
  | chunk (octets : Bytes) (last : Bool)
  | manifest (octets : Bytes)
  deriving DecidableEq, Repr

/-- The octets of an item. -/
def NextItem.octets : NextItem → Bytes
  | .bead _ b => b
  | .chunk b _ => b
  | .manifest b => b

/-- Whether an item is a bead. -/
def NextItem.isBead : NextItem → Bool
  | .bead _ _ => true
  | _ => false

/-- A checkpoint past the segments that hold no entry. -/
def State.skipEmpty (s : State) (c : Checkpoint) : Checkpoint :=
  let isEmpty (g : Nat) : Bool := (s.segmentChunks c g).isEmpty
  { c with segments := c.segments.filter (fun g => !isEmpty g),
           counts := c.counts ++ (c.segments.filter isEmpty).map (fun g => (g, 0)) }

/-- The next item. -/
def State.nextItem (s : State) : Option NextItem :=
  match s.strand.staged with
  | (n, b) :: _ => some (.bead n b)
  | [] =>
    match s.strand.ckptRunning with
    | none => none
    | some c =>
      let c := s.skipEmpty c
      match c.segments with
      | g :: _ =>
        let l := s.segmentChunks c g
        let e := l.getD c.chunk (0, [])
        let h := chunkHeader c.boundary s.svn (s.strand.clasp.getD s.strand.lastClasp) s.bb.domainId g c.chunk l.length e.2.length e.1
        some (.chunk (s.sealItem s.svn h (itemNonce c.boundary g c.chunk) e.2) (c.chunk + 1 == l.length))
      | [] => if c.manifestWritten then none else some (.manifest (s.manifestItem c))

/-- Octets of ring space an item takes, and the ring's size and free space. -/
def State.ringFree (s : State) : Nat := 2 ^ s.get .HST_JNL_CFG_SIZE_LOG2 - (s.strand.written - s.strand.consumed)

/-- Whether the next item is one that an uncorrectable line holds: it is not exported (R240). -/
def State.nextBad (s : State) : Bool :=
  match s.strand.staged, s.strand.ckptRunning with
  | (n, _) :: _, _ => s.strand.badBeads.contains n
  | [], some c => (((s.skipEmpty c).segments.head?).map (fun g => s.strand.badSegments.contains g)).getD false
  | [], none => false

/-- Whether export goes on (R37, R188, R207, R240). -/
def State.exporting (s : State) : Bool :=
  s.bit .HST_JNL_STATUS_RUNNING && s.host.bme && !s.zeroised && !s.nextBad

/-- RING_FULL follows the next item (R186), and the strand engine's lanes what is to be sealed (R301). -/
def State.showRing (s : State) : State :=
  let full := match s.nextItem with
    | some i => s.bit .HST_JNL_STATUS_RUNNING && s.ringFree < (pad8 i.octets).length
    | none => false
  (s.riseNotice .HST_JNL_STATUS_RING_FULL full).useStrandLanes

/-! ## The close at a tick increment (R28, R182, R197, R255) -/

/-- The close of a tick increment (R182): during a handover the first at which no job awaits SEAL closes the
final bead (R255). -/
def State.closeAtTick (s : State) : State :=
  if !s.strandOpen then s
  else
    let final := s.strand.role == .handingOver && !(s.jobList.any (fun e => e.2.awaitsSeal))
    let n := s.strand.openBead.num
    let s := (s.closeBead false).showRing
    if final then { s with strand := { s.strand with finalBead := some n } } else s

/-! ## What a seal changes (R54, R184, R194, R223, R224) -/

/-- Whether a write of a setting returns the entry of a key to its default: one that unbinds an instance those of its
binding (R54, R165), one of OWNER_EPOCH the owner's approver slots (R371). -/
def odClears (index sub : Nat) (v : Bytes) (k : Nat) : Bool :=
  if sub = 3 && 0x2400 ≤ index && index < 0x2800 && leNat v == 0 then
    k / 256 == index + 0x1000 || (k / 256 == index && 4 ≤ k % 256 && k % 256 ≤ 10)
  else sub == 4 && 0x4000 ≤ index && index < 0x5000 && k / 256 == index && 0x20 ≤ k % 256 && k % 256 < 0x28

/-- A setting takes a value, and the entries it clears lose theirs; one of the officer set cancels a signet OPEN
(R364). -/
def State.applyOd (s : State) (index sub : Nat) (v : Bytes) : State :=
  let s := s.odStore index sub (some v)
  let s := { s with agent := { s.agent with values := s.agent.values.filter (fun e => !odClears index sub v e.1) } }
  if sub = 4 && 0x4000 ≤ index && index < 0x5000 then
    let n := index - 0x4000
    let s := s.eraseRuns (fun r => r.handle == 0 && r.owner == n && n != 0)
    { s with officers := { s.officers with approvals := s.officers.approvals.filter (fun a => a.owner != n) } }
  else if index = 0xB040 && sub = 8 then s.startWalk
  else if ((0x1110 ≤ index && index < 0x1130 && sub = 1) || (index = 0x1100 && sub = 7)) && s.officers.signet.state == .isOpen then
    s.cancelSignet
  else s

/-- Notes that a segment changed, and keeps for a checkpoint under way what an entry held at its boundary
(R196, R198). -/
def State.noteChange (s : State) (segment : Nat) (keep : Checkpoint → Checkpoint) : State :=
  let ch := s.strand.ckptChanged
  let run := match s.strand.ckptRunning with
    | some c => some (if c.segments.contains segment then keep c else c)
    | none => none
  { s with strand := { s.strand with
      ckptChanged := if ch.contains segment then ch else ch ++ [segment], ckptRunning := run } }

/-- A record of an object is about to change the committed state. -/
def State.noteObjChange (s : State) (h : Nat) : State :=
  let before := s.committedObj h
  s.noteChange (segmentOf h) (fun c =>
    if c.objs.any (fun e => e.1 == h) then c else { c with objs := c.objs ++ [(h, before)] })

/-- A record is about to change a setting that now holds `before`. -/
def State.noteSetting (s : State) (key : Nat) (before : Option Bytes) : State :=
  s.noteChange 4096 (fun c =>
    if c.settings.any (fun e => e.1 == key) then c else { c with settings := c.settings ++ [(key, before)] })

/-- A record of a setting is about to change it. -/
def State.noteOdChange (s : State) (key : Nat) : State := s.noteSetting key (mget (fun _ => none) s.agent.values key)

/-- A creation is about to raise an owner's NEXT_SERIAL. -/
def State.noteSerial (s : State) (owner : Nat) : State := s.noteSetting (serialKey owner) (some (le 8 (s.committedSerial owner)))

/-- A change of an object enters the overlay (R224). -/
def State.overlayAdd (s : State) (b : Nat) (r : Rec) : State :=
  { s with store := { s.store with overlay := s.store.overlay ++ [(b, r)] } }

/-- What the seal of one record commits. -/
def State.sealBody (s : State) (b : Nat) (r : Rec) : State :=
  match r.body with
  | .objectCreate o =>
    let s := s.useSeal (ownerOf o.handle) o.svn
    let s := ((s.noteSerial (ownerOf o.handle)).noteObjChange o.handle).setObj o.handle (some o)
    let s := s.dirChange o.handle (fun e => { e with state := .committed, pendInst := 0xFFFF, pendGen := 0, pendJob := 0 })
    let serial := o.handle % 2 ^ 52 + 1 - s.strand.serialGap
    let s := s.modOwner (ownerOf o.handle) (fun w => { w with count := w.count + 1, nextSerial := max w.nextSerial serial })
    { s with strand := { s.strand with durableObj := mset (fun _ => 0) s.strand.durableObj o.handle (if r.durable then b else 0) } }
  | .objectDestroy h =>
    let s := ((s.noteObjChange h).overlayAdd b r).modOwner (ownerOf h) (fun w => { w with count := w.count - 1 })
    let s := s.eraseRuns (fun x => x.handle == h && h != 0)
    { s with usage := mset (fun _ => none) s.usage h none,
             strand := { s.strand with durableObj := mset (fun _ => 0) s.strand.durableObj h 0 } }
  | .policySet h _ =>
    let s := (s.noteObjChange h).overlayAdd b r
    if r.source = .strandEngine then s
    else { s with strand := { s.strand with durableObj := mset (fun _ => 0) s.strand.durableObj h (if r.durable then b else 0) } }
  | .usageBlock h first last =>
    let s := (s.noteObjChange h).overlayAdd b r
    let next (u : Usage) : Usage := { u with blockEnd := last, next := first, pendingEnd := none, blockBead := some b }
    ((mget (fun _ => none) s.usage h).map next).elim s (s.setUsage h)
  | .counterAdvance h _ _ => (s.noteObjChange h).overlayAdd b r
  | .odWrite i sub _ v _ _ =>
    if odIs .persistent i sub then
      let keys := odKey i sub :: (s.agent.values.map (·.1)).filter (odClears i sub v)
      let s := (keys.foldl State.noteOdChange s).applyOd i sub v
      if i = 0x5000 && sub = 8 then
        { s with strand := { s.strand with usageWrites := s.strand.usageWrites ++ [(b, leNat v)] } }
      else s
    else s
  | .checkpoint bound _ => { s with strand := { s.strand with ckptUnsettled := s.strand.ckptUnsettled ++ [(b, bound)] } }
  | .claspStart _ _ => s
  | .rollbackAccepted _ _ _ => s

/-- What a job whose record was dropped ends with (R115, R151). -/
def Rec.dropOutcome (r : Rec) : Status × Nat :=
  match r.body with
  | .counterAdvance _ _ v => if v = 0 then (.noSuchObject, noDetail) else (.badCommand, 0x0705)
  | _ => (.noSuchObject, noDetail)

/-- SEAL is recorded for the job of a record; a counter's new value is its output (R150). -/
def State.sealJob (s : State) (b : Nat) (r : Rec) : State :=
  match r.job with
  | none => s
  | some id =>
    s.modJob id (fun j =>
      if j.joined != some b then j
      else if r.dropped then { j with joined := none, forced := some r.dropOutcome }
      else
        let out := match r.body with
          | .counterAdvance _ _ v => le 8 v ++ le 8 unlimited
          | _ => j.output
        { j with got := { j.got with sealed := true }, output := out })

/-- One record of a sealed bead. -/
def State.sealRec (b : Nat) (s : State) (r : Rec) : State :=
  let s := if r.dropped then s else s.sealBody b r
  let s := if r.inst < 1024 then s.modInst r.inst (fun i => { i with lastBead := b }) else s
  s.sealJob b r

/-- A bead is sealed: it joins the chain and waits in the staging area to be written (R183, R184, R192). -/
def State.stageBead (s : State) (b : Bead) : State :=
  let b := { b with prevHash := s.strand.headHash }
  let octets := s.beadBytes b
  let hash := Config.sha512 octets
  { s with strand := { s.strand with
      head := b.num, headHash := hash, headTick := b.closeTick,
      staged := mset (fun _ => []) s.strand.staged b.num octets,
      log := mset (fun _ => ([], 0)) s.strand.log b.num (hash, b.clasp) } }

/-- A bead whose number is a multiple of 65,536 makes a checkpoint due, or is counted as skipped while one
runs (R197). -/
def State.noteDue (s : State) (n : Nat) : State :=
  if n % 65536 != 0 then s
  else if s.strand.ckptRunning.isSome then s.odStore 0x5000 7 (some (le 4 (sat32 (s.odNat 0x5000 7 0))))
  else { s with strand := { s.strand with ckptDue := true } }

/-- BEAD_SEAL (R184): the oldest closed bead is sealed while a clasp is held; in NAP the 64th in the on-chip buffer
ends NAP (R516). -/
def execBeadSeal (s : State) : Host.Outcome State Fault Refusal :=
  match s.strand.closed with
  | [] => .next s
  | b :: rest =>
    if !s.holdsClasp || s.zeroised then .next s
    else
      let s := { s with strand := { s.strand with closed := rest } }
      let s := ((s.useSeal 0 s.svn).stageBead b).noteDue b.num
      let s := b.recs.foldl (State.sealRec b.num) s
      let s := ((s.sealReplies b).resizeCheck).heldEnables
      let s := if s.strand.staged.length ≥ 64 then s.wakeNap 8 else s
      .next s.settle.flushReplies.settleMailbox.notePeaks.showStrand.showRing

/-- OVERLAY_RECORD_APPLY (R217, R224): the store applies the oldest record of the overlay, by reseal or by
freeing the entry. -/
def execOverlayRecordApply (s : State) : Host.Outcome State Fault Refusal :=
  match s.store.overlay with
  | [] => .next s
  | (_, r) :: rest =>
    let h := r.body.handle
    let s := s.restoreFor h
    let s := { s with store := { s.store with overlay := rest } }
    match r.body.applyTo (s.obj h) with
    | some o => .next (s.setObj h (some (s.reseal o)))
    | none => .next ((s.setObj h none).dirRemove h)

/-! ## Writing the ring (R187 to R189) -/

/-- A bead has been exported: a notice every NOTICE_EVERY beads (R188). -/
def State.noteExport (s : State) (n : Nat) : State :=
  let k := s.strand.sinceNotice + 1
  let s := { s with strand := { s.strand with
    exported := n, staged := mset (fun _ => []) s.strand.staged n [], sinceNotice := k } }
  if k ≥ s.odNat 0x5000 9 1 then s.journalNotice else s

/-- The writes of an item's octets to the journal ring, from byte position WRITTEN on; past the ring's end they go on at
its base (R36, R186, R187). -/
def State.journalWrites (s : State) (b : Bytes) : List HostWrite :=
  let base := s.get64 .HST_JNL_BASE_LO_ADDR .HST_JNL_BASE_HI_ADDR
  let pos := s.strand.written % 2 ^ s.get .HST_JNL_CFG_SIZE_LOG2
  let head := b.take (2 ^ s.get .HST_JNL_CFG_SIZE_LOG2 - pos)
  let run (addr : Nat) (b : Bytes) : List HostWrite :=
    (pieces s.host.maxPayload b.length).map (fun p => .journal (addr + p.1) ((b.drop p.1).take p.2))
  run (base + pos) head ++ run base (b.drop head.length)

/-- What is recorded once an item is written. -/
def State.itemWritten (s : State) : NextItem → State
  | .bead n _ => s.noteExport n
  | .chunk _ last =>
    match s.strand.ckptRunning with
    | none => s
    | some c =>
      let c := s.skipEmpty c
      let c := if last then
          { c with segments := c.segments.drop 1, counts := c.counts ++ (c.segments.take 1).map (fun g => (g, c.chunk + 1)), chunk := 0 }
        else { c with chunk := c.chunk + 1 }
      { s with strand := { s.strand with ckptRunning := some c } }
  | .manifest _ =>
    match s.strand.ckptRunning with
    | none => s
    | some c => { s with strand := { s.strand with ckptRunning := some { s.skipEmpty c with manifestWritten := true } } }

/-- JOURNAL_ITEM_WRITE (R187): the next item is written whole where the ring has room for it. -/
def execJournalItemWrite (s : State) : Host.Outcome State Fault Refusal :=
  match s.nextItem with
  | none => .next s
  | some i =>
    let b := pad8 i.octets
    if !s.exporting || s.ringFree < b.length then .next s.showRing
    else
      let s := (s.journalWrites b).foldl (fun s w => s.emit w) s
      let s := { s with strand := { s.strand with written := s.strand.written + b.length } }
      let s := if i.isBead then s else s.useCheckpoint s.svn
      .next (s.itemWritten i).showRing.showStrand

/-- JOURNAL_EXPORT_ENABLE (R188): the positions start at zero, and export with the oldest bead not wholly
written. -/
def execJournalExportEnable (sizeLog2 : Nat) (s : State) : Host.Outcome State Fault Refusal :=
  let s := s.wakeNap 1
  if s.bit .HST_JNL_CFG_ENABLE || sizeLog2 < 26 || sizeLog2 > 31 then .next s
  else
    let s := ((s.put .HST_JNL_CFG_SIZE_LOG2 sizeLog2).putBit .HST_JNL_CFG_ENABLE true).putBit .HST_JNL_STATUS_RUNNING true
    .next { s with strand := { s.strand with written := 0, consumed := 0 } }.showRing

/-- JOURNAL_EXPORT_DISABLE (R188). -/
def execJournalExportDisable (s : State) : Host.Outcome State Fault Refusal :=
  let s := s.wakeNap 1
  .next (((s.putBit .HST_JNL_CFG_ENABLE false).putBit .HST_JNL_STATUS_RUNNING false).putBit .HST_JNL_STATUS_RING_FULL false)

/-- JOURNAL_CONSUMED_WRITE (R188): a value below the current one or above WRITTEN is discarded. -/
def execJournalConsumedWrite (consumed : Nat) (s : State) : Host.Outcome State Fault Refusal :=
  let s := s.wakeNap 1
  let s := s.put .HST_JNL_CONSUMED_HI_BYTES (consumed / 2 ^ 32)
  if consumed < s.strand.consumed || consumed > s.strand.written then .next s
  else .next { s with strand := { s.strand with consumed := consumed } }.showRing

/-! ## The durable index (R68, R69, R189, R194, R201) -/

/-- What the durable index covers: DURABLE of jobs, a usable checkpoint, a written USAGE_BLOCK. -/
def State.durableReached (s : State) (n : Nat) : State :=
  let mark (j : Job) : Job :=
    if (j.joined.map (fun b => decide (b ≤ n))).getD false && j.got.sealed then { j with got := { j.got with durable := true } } else j
  let s := { s with jobs := s.jobs.map (fun (e : Nat × Option Job) => (e.1, e.2.map mark)) }
  let usable := s.strand.ckptUnsettled.filter (fun e => e.1 ≤ n)
  let blocks := s.strand.usageWrites.filter (fun e => e.1 ≤ n)
  { s with strand := { s.strand with
      ckptLast := ((usable.getLast?).map (·.2)).getD s.strand.ckptLast
      ckptUnsettled := s.strand.ckptUnsettled.filter (fun e => n < e.1)
      usageBlock := ((blocks.getLast?).map (·.2)).getD s.strand.usageBlock
      usageWrites := s.strand.usageWrites.filter (fun e => n < e.1) } }

/-- JOURNAL_DURABLE_WRITE (R189): an accepted value advances the index, the BBRAM head and the lease; one that comes
in the cycle the lease ends leaves the lapse standing (R207). -/
def execJournalDurableWrite (bead : Nat) (s : State) : Host.Outcome State Fault Refusal :=
  let s := (s.wakeNap 1).put .HST_JNL_DURABLE_HI_BEAD (bead / 2 ^ 32)
  if bead ≤ s.strand.durable || bead > s.strand.exported then
    .next (s.odStore 0x5000 0xC (some (le 4 (sat32 (s.odNat 0x5000 0xC 0)))))
  else
    let (hash, gen) := s.beadLog bead
    let lease := if s.holdsClasp then s.time.tick else s.strand.leaseTick
    let s := { s with strand := { s.strand with durable := bead, leaseTick := lease },
                      bb := { s.bb with headBead := bead, headHash := hash.take 32, headClasp := gen } }
    .next ((s.durableReached bead).durableReplies.settle.flushReplies.settleMailbox.notePeaks)

/-! ## The clasp (R185, R202, R252, R253, R257) -/

/-- Durable dictionary writes sealed and not covered answer COMMIT_LOST (R505). -/
def State.loseReplies (s : State) : State :=
  let f (x : Reply) : Reply := if x.result.isNone && x.bead != 0 then { x with result := some .commitLost } else x
  { s with agent := { s.agent with replies := s.agent.replies.map f } }

/-- The clasp lapses (R185): every record not sealed is withdrawn, the jobs that wait end, the unit is
NOT_ACTIVE; a lapse ends NAP with code 2 (R528). -/
def State.lapseClasp (s : State) : State :=
  let s := { s with jobs := s.jobs.map (fun (e : Nat × Option Job) => (e.1, e.2.map s.lapseJob)) }
  let s := { s with strand := { s.strand with clasp := none, role := .notActive, ckptRunning := none } }
  let s := s.withdrawAll.loseReplies
  let s := ((s.setActive false).putBit .FLL_STATUS_HB false).wakeNap 2
  (s.refreshDeviceState.heldEnables.settle.flushReplies.settleMailbox.notePeaks).showStrand.showRing

/-- CLASP_LAPSE (R185): L ticks after the tick the durable index last advanced in. -/
def execClaspLapse (s : State) : Host.Outcome State Fault Refusal :=
  if s.strand.clasp.isSome && !s.holdsClasp then .next s.lapseClasp else .next s

/-- The newest clasp generation of the presented strand (R253). -/
def State.presentedClasp (s : State) : Nat :=
  (s.restore.items.map (fun x => match x with
    | .manifest _ _ c _ _ _ _ _ => c
    | .chunk _ _ c _ _ _ _ _ _ _ _ => c
    | .bead b _ => b.clasp
    | .unreadable => 0)).foldl max 0

/-- The settings a presented strand restores: those of its settings segment, then its OD_WRITE records in
order. -/
def State.restoreSettings (s : State) : State :=
  let od := (s.restore.items.map StrandItem.settings).flatten
  let s := od.foldl (fun s e =>
    let n := e.1 / 256 - 0x4000
    if e.1 % 256 = 0x14 && 0x4000 ≤ e.1 / 256 && e.1 / 256 < 0x5000 then
      s.modOwner n (fun w => { w with nextSerial := leNat e.2, serial := leNat e.2 })
    else s.odStore (e.1 / 256) (e.1 % 256) (some e.2)) s
  s.restore.replay.foldl (fun s r =>
    match r.body with
    | .odWrite i sub _ v _ _ => if odIs .persistent i sub && !r.dropped then s.applyOd i sub v else s
    | _ => s) s

/-- Every handle of the presented strand with the object the strand leaves it. -/
def State.presentedObjs (s : State) : List Obj :=
  let objs := (s.restore.items.map StrandItem.chunkObjs).flatten
  let hs := distinct (objs.map (·.handle) ++ replayCreates s.restore.replay)
  hs.filterMap (fun h => applyRecs h (objs.find? (fun o => o.handle == h)) s.restore.replay)

/-- What one replayed record does to the next serials of owners: a creation raises its owner's, a CLASP_START that of
every owner by 2^32 (R92, R202). -/
def State.replaySerial (s : State) (r : Rec) : State :=
  match r.body with
  | .objectCreate o =>
    let n := o.handle % 2 ^ 52 + 1 - s.strand.serialGap
    if r.dropped then s
    else s.modOwner (ownerOf o.handle) (fun w => { w with nextSerial := max w.nextSerial n, serial := max w.nextSerial n })
  | .claspStart _ _ => { s with strand := { s.strand with serialGap := s.strand.serialGap + 2 ^ 32 } }
  | _ => s

/-- The counts and next serials of owners in the restored state (R92, R104, R202). -/
def State.restoreOwners (s : State) : State :=
  let s := s.restore.replay.foldl State.replaySerial { s with strand := { s.strand with serialGap := 0 } }
  s.presentedObjs.foldl (fun s o => s.modOwner (ownerOf o.handle) (fun w => { w with count := w.count + 1 })) s

/-- The instances the restored settings bind (R203). -/
def State.restoreBindings (s : State) : State :=
  (s.agent.values.filter (fun e => e.1 % 256 == 3 && 0x2400 ≤ e.1 / 256 && e.1 / 256 < 0x2800)).foldl (fun s e =>
    let n := e.1 / 256 - 0x2400
    if s.boundOwner n = 0 then s else (s.setInstState n .bound).bindMeter n (s.boundOwner n)) s

/-- The values of the scheduler entries of one instance in force (R165). -/
def State.schedOf (s : State) (n : Nat) (c : Sched) : Sched :=
  let e := 0x3400 + n
  let burst := (List.range 10).map (fun k => s.odNat e (0x20 + k) 64)
  { c with weight := s.odNat e 1 8, waitLimit := s.odNat e 2 200,
           rate := (List.range 10).map (fun k => s.odNat e (0x10 + k) 0xFFFFFFFF), burst := burst,
           level := (c.level.zip burst).map (fun p => min p.1 (p.2 * 256)) }

/-- Written weights, rates, bursts, quanta, LEASE_TICKS and RESYNC_INTERVAL take effect (R165, R263). -/
def State.takeSettings (s : State) : State :=
  let named := (s.agent.values.map (fun e => e.1 / 256)).filter (fun i => 0x3400 ≤ i && i < 0x3800)
  let ns := distinct (named.map (fun i => i - 0x3400) ++ s.scheds.map (·.1))
  let s := ns.foldl (fun s n => s.modSched n (s.schedOf n)) s
  let quanta := [s.odNat 0x3000 1 8000, s.odNat 0x3000 2 4000, s.odNat 0x3000 3 10000, s.odNat 0x3000 4 1000]
  { s with share := { s.share with quanta := quanta },
           strand := { s.strand with lease := s.odNat 0x5020 7 250 },
           pair := { s.pair with resync := s.odNat 0x5020 8 3600000 } }

/-- Whether every presented chunk of the settings segment opens: the settings are needed with the grant (R203). -/
def State.settingsGood (s : State) : Bool :=
  s.restore.items.all (fun x => match x with
    | .chunk _ _ _ _ g _ _ _ _ _ _ => g != 4096 || s.opensItem x
    | _ => true)

/-- The clasp of a generation is granted (R202, R252): the first bead's number and first record, the serial
gap, the restored settings and bindings; service begins. -/
def State.grantClasp (s : State) (gen : Nat) : State :=
  let s := (s.restoreSettings.restoreOwners).takeSettings
  let first := { deviceRec (.claspStart gen s.restore.presented) with tick := s.time.tick }
  let queued := s.strand.queued.map (fun r => { r with tick := s.time.tick })
  let b := { Bead.empty (s.restore.presented + 0x100001) with firstOfClasp := true, recs := first :: queued }
  let s := { s with strand := { s.strand with
    clasp := some gen, lastClasp := gen, role := .active, leaseTick := s.time.tick, openBead := b, closed := [], queued := [],
    head := s.restore.presented, headHash := s.restore.presentedHash, serialGap := s.strand.serialGap + 2 ^ 32,
    usageBlock := s.odNat 0x5000 8 64, restoredBlock := s.odNat 0x5000 8 64,
    ckptChanged := if s.strand.ckptChanged.contains 4096 then s.strand.ckptChanged else s.strand.ckptChanged ++ [4096] } }
  let s := s.restoreBindings
  let s := { s with restore := { s.restore with state := .lazy },
                    pair := { s.pair with visitBase := s.time.tick, visitRetry := none } }
  let s := if s.restore.eager then s else s.placeUncovered
  let s := if s.settingsGood then s.restoreDone else s.restoreFails
  ((s.setActive true).refreshDeviceState).showStrand

/-- A write of HST_JNL_CLASP discarded (R253). -/
def State.discardClasp (s : State) : State := { s with pair := { s.pair with discards := sat32 s.pair.discards } }

/-- CLASP_WRITE (R185, R253): a grant in CLASP_WAIT, a lapse on the unit that holds an older clasp. -/
def execClaspWrite (gen : Nat) (s : State) : Host.Outcome State Fault Refusal :=
  let s := s.wakeNap 1
  if s.restore.state == .claspWait && s.strand.role == .candidate then
    if gen > s.presentedClasp && gen > s.bb.headClasp then
      let s := (s.put .HST_JNL_CLASP_GEN gen).grantClasp gen
      .next { s with pair := { s.pair with grantTick := some s.time.tick } }
    else .next s.discardClasp
  else
    match s.strand.clasp with
    | some g => if gen > g then .next ((s.put .HST_JNL_CLASP_GEN gen).lapseClasp) else .next s.discardClasp
    | none => .next s.discardClasp

/-! ## Checkpoint commands (R197, R201) -/

/-- A checkpoint is requested (R197). -/
def State.requestCheckpoint (s : State) : State := { s with strand := { s.strand with ckptRequested := true } }

/-- CKPT_REQ (R197). -/
def execCkptReq (s : State) : Host.Outcome State Fault Refusal := .next s.requestCheckpoint

/-- CHECKPOINT_COMPLETE (R201): the CHECKPOINT record joins the open bead. -/
def execCheckpointComplete (s : State) : Host.Outcome State Fault Refusal :=
  match s.strand.ckptRunning with
  | none => .next s
  | some c =>
    if !c.segments.isEmpty || !c.manifestWritten || !s.strandOpen then .next s
    else
      let r := deviceRec (.checkpoint c.boundary (Config.sha512 (s.manifestItem c)))
      let (_, s) := s.joinRec r
      let table := c.counts.foldl (fun m e => mset (fun _ => (0, 0)) m e.1 (c.boundary, e.2)) s.strand.segVersions
      .next { s with strand := { s.strand with ckptRunning := none, segVersions := table } }

/-! ## Restore (R202 to R204, R231, R233, R244, R260) -/

/-- The beads of a presented strand. -/
def itemBeads (l : List StrandItem) : List Bead :=
  l.filterMap (fun x => match x with
    | .bead b _ => some b
    | _ => none)

/-- Whether the beads form a chain from a hash (R203). -/
def State.chained (s : State) : Bytes → List Bead → Bool
  | _, [] => true
  | prev, b :: rest => padTo 64 b.prevHash == padTo 64 prev && s.chained (Config.sha512 (s.beadBytes b)) rest

/-- The manifest of a presented strand: boundary, hash of its bead, and segments. -/
def itemManifest (l : List StrandItem) : Option (Nat × Bytes × List (Nat × Nat)) :=
  match l with
  | .manifest b _ _ _ h _ segs _ :: _ => some (b, h, segs)
  | _ => none

/-- Whether an item is a bead. -/
def StrandItem.isBead : StrandItem → Bool
  | .bead _ _ => true
  | _ => false

/-- The version, segment and index of a chunk. -/
def StrandItem.chunkId : StrandItem → Option (Nat × Nat × Nat)
  | .chunk b _ _ _ g i _ _ _ _ _ => some (b, g, i)
  | _ => none

/-- The chunks a manifest names, by segment and then by index (R202). -/
def namedChunks (segs : List (Nat × Nat)) : List (Option (Nat × Nat × Nat)) :=
  (((List.range segs.length).zip segs).map (fun e => (List.range e.2.2).map (fun i => some (e.2.1, e.1, i)))).flatten

/-- Whether items stand in the order of R202: those a manifest names, then beads alone. -/
def orderedItems (l : List StrandItem) (segs : List (Nat × Nat)) : Bool :=
  let want := namedChunks segs
  ((l.take want.length).map StrandItem.chunkId) == want && (l.drop want.length).all StrandItem.isBead

/-- Whether a presented strand passes the checks of LOADING (R202, R203): its manifest and beads open, the chunks listed
are those the manifest names, the beads form a chain. A chunk is opened when it is restored. -/
def State.strandGood (s : State) (l : List StrandItem) : Bool :=
  let checked := l.filter (fun x => x.chunkId.isNone)
  checked.all s.opensItem &&
    (match itemManifest l with
      | some (_, h, segs) => orderedItems (l.drop 1) segs && s.chained h (itemBeads l)
      | none => l.all StrandItem.isBead && s.chained [] (itemBeads l))

/-- The head a presented strand is checked against: the unit's own, or the partner's where the session
shows a higher one (R204, R260). -/
def State.checkHead (s : State) : Nat × Bytes :=
  match s.pair.partnerHead with
  | some (b, h, _) => if s.get .FLL_STATUS_LINK == 2 && b > s.bb.headBead then (b, h) else (s.bb.headBead, s.bb.headHash)
  | none => (s.bb.headBead, s.bb.headHash)

/-- Whether a presented strand meets the head (R204). -/
def State.meetsHead (s : State) (l : List StrandItem) (boundary presented : Nat) : Bool :=
  let (b, h) := s.checkHead
  if presented < b then false
  else if b = boundary then ((itemManifest l).map (fun m => (padTo 64 m.2.1).take 32 == padTo 32 h)).getD (b == 0)
  else if b > boundary then
    (itemBeads l).any (fun x => x.num == b && (Config.sha512 (s.beadBytes x)).take 32 == padTo 32 h)
  else true

/-- Octets of the chunk bodies presented (R231). -/
def State.bodyBytes (s : State) (l : List StrandItem) : Nat :=
  (l.map (fun x => match x with
    | .chunk _ _ _ _ _ _ _ _ objs od _ =>
      (objs.map (fun o => (s.chunkEntry o).length)).sum + (od.map (fun e => 8 + e.2.length)).sum
    | _ => 0)).sum

/-- log2 of the least power of two not below `n`. -/
def log2Up (n : Nat) : Nat := if n ≤ 1 then 0 else Nat.log2 (n - 1) + 1

/-- Handles the replay overlay can hold (R233). -/
def replayMax : Nat := 2097152

/-- The segments records of replayed beads change, the settings among them where a setting is written or a serial drawn
(R196). -/
def changedSegments (l : List Rec) : List Nat :=
  l.filterMap (fun r =>
    if r.body.handle != 0 then some (segmentOf r.body.handle)
    else match r.body with
      | .odWrite .. => some 4096
      | _ => none) ++ (if (replayCreates l).isEmpty then [] else [4096])

/-- Handles a list of records touches (R233). -/
def touchedHandles (l : List Rec) : Nat := (distinct ((l.map (fun r => r.body.handle)).filter (· != 0))).length

/-- A strand is loaded (R203, R231, R233): items, table size, replay overlay; one that touches more handles than the
overlay holds is restored at once. -/
def State.loadStrand (s : State) (l : List StrandItem) : State :=
  let beads := itemBeads l
  let boundary := ((itemManifest l).map (·.1)).getD 0
  let last := beads.getLast?
  let replay := (beads.map (·.recs)).flatten
  let touched := touchedHandles replay
  let k := max 16 (min (s.dirMaxK) (log2Up (ceilDiv (s.bodyBytes l) 256)))
  let chunks := l.filter (fun x => x.chunkId.isSome)
  let hash := match last with
    | some b => Config.sha512 (s.beadBytes b)
    | none => ((itemManifest l).map (·.2.1)).getD []
  let log := beads.foldl (fun m b => mset (fun _ => ([], 0)) m b.num (Config.sha512 (s.beadBytes b), b.clasp)) s.strand.log
  let changed := distinct (changedSegments replay)
  let versions := match itemManifest l with
    | some (_, _, segs) => ((List.range segs.length).zip segs).foldl (fun m e => mset (fun _ => (0, 0)) m e.1 e.2) []
    | none => []
  let s := { s with
    strand := { s.strand with log := log, ckptChanged := changed, segVersions := versions }
    store := { s.store with k := k, table := [], newTable := [], links := [], newLinks := [], phase := .idle, cursor := 0 }
    restore := { s.restore with items := l, boundary := boundary, presented := (last.map (·.num)).getD boundary,
                                presentedHash := hash, chunks := chunks, replay := replay, restored := 0, eager := false } }
  if touched > replayMax then
    let s := s.placeUncovered
    let s := chunks.foldl (fun s c => if s.restore.state == .failed then s else s.restoreItem c) s
    { s with restore := { s.restore with eager := true } }
  else s

/-- RESTORE_START's effect (R203): an empty strand is decided at once, any other is loaded. -/
def State.restoreStart (s : State) : State :=
  let count := s.odNat 0x5010 3 0
  if count != 0 then s.setRestore .loading
  else if s.bb.headBead = 0 then s.setRestore .claspWait
  else (s.event 0x0401 sevCritical 0 []).setRestore .refused

/-- RESTORE_LOAD_COMPLETE (R203, R204): the items as read; their checks decide. -/
def execRestoreLoadComplete (items : List StrandItem) (s : State) : Host.Outcome State Fault Refusal :=
  if s.restore.state != .loading then .next s
  else if items.length != s.odNat 0x5010 3 0 || !s.strandGood items then
    .next ((s.event 0x0402 sevCritical 0 []).setRestore .failed)
  else
    let s := s.loadStrand items
    if s.restore.state == .failed then .next s
    else if s.meetsHead items s.restore.boundary s.restore.presented then .next (s.setRestore .claspWait)
    else .next ((s.event 0x0401 sevCritical s.restore.presented []).setRestore .refused)

/-- ROLLBACK_ACCEPT's effect (R203): the BBRAM head becomes the presented head, and the record is queued. -/
def State.rollbackAccept (s : State) (signet : Bytes) : State :=
  let r := { deviceRec (.rollbackAccepted s.bb.headBead s.restore.presented signet) with tick := s.time.tick }
  let s := { s with
    strand := { s.strand with queued := s.strand.queued ++ [r] }
    bb := { s.bb with headBead := s.restore.presented, headHash := s.restore.presentedHash.take 32,
                      headClasp := (s.beadLog s.restore.presented).2 } }
  s.setRestore .claspWait

end Sys2Proof.Machine
end

