-- ==== Sys2Proof/Machine/MeterRing.lean ====
section
/-! DEFINITION. The meter ring: delivery of closed records, its enable, disable and head (R171 to R174). -/

namespace Sys2Proof.Machine

/-- Writes the SPLIT records waiting while the ring takes them (R174); an instance with none left admits
again. -/
def State.offerSplits (s : State) : State :=
  s.meters.split.foldl (fun s m =>
    if s.meterRoom then
      let s := s.writeMeter m
      let rest := s.meters.split.drop 1
      let s := { s with meters := { s.meters with split := rest } }
      if rest.any (fun x => x.inst == m.inst) then s else s.modInst m.inst (fun i => { i with splitHold := false })
    else s) s

/-- METER_RECORD_WRITE (R172, R173): SPLIT records are offered, then the next closing record is written, or
stays open, carried, where the ring does not take it. -/
def execMeterRecordWrite (s : State) : Host.Outcome State Fault Refusal :=
  let s := s.offerSplits
  match s.meters.closing with
  | [] => .next s.endBatch
  | m :: rest =>
    let s := { s with meters := { s.meters with closing := rest } }
    let s := if s.meterRoom then s.writeMeter m else s.carryMeter m
    .next s.endBatch

/-- METER_RING_ENABLE (R171): head and tail start at zero. -/
def execMeterRingEnable (depthLog2 : Nat) (s : State) : Host.Outcome State Fault Refusal :=
  let s := s.wakeNap 1
  if s.bit .HST_MTR_CFG_ENABLE || depthLog2 < 4 || depthLog2 > 15 then .next s
  else
    let s := (s.put .HST_MTR_CFG_DEPTH_LOG2 depthLog2).putBit .HST_MTR_CFG_ENABLE true
    .next (((s.putBit .HST_MTR_STATUS_RUNNING true).put .HST_MTR_HEAD_HEAD 0).put .HST_MTR_TAIL_TAIL 0)

/-- METER_RING_DISABLE (R173): records of a batch not yet written stay open, carried. -/
def execMeterRingDisable (s : State) : Host.Outcome State Fault Refusal :=
  let s := s.wakeNap 1
  let s := (s.putBit .HST_MTR_CFG_ENABLE false).putBit .HST_MTR_STATUS_RUNNING false
  let closing := s.meters.closing
  .next (closing.foldl State.carryMeter { s with meters := { s.meters with closing := [] } }).endBatch

/-- METER_HEAD_WRITE (R171, R174): a value at or above the depth, or that would free records not written, is
discarded; an advance offers the SPLIT records again. -/
def execMeterHeadWrite (head : Nat) (s : State) : Host.Outcome State Fault Refusal :=
  let s := s.wakeNap 1
  let d := s.meterDepth
  let h := s.get .HST_MTR_HEAD_HEAD
  let held := (s.get .HST_MTR_TAIL_TAIL + d - h) % d
  if head ≥ d || (head + d - h) % d > held then .next s
  else .next ((s.put .HST_MTR_HEAD_HEAD head).offerSplits.endBatch)

end Sys2Proof.Machine
end

