-- ==== Sys2Proof/Machine/StoreOps.lean ====
section
/-! DEFINITION. The object store at work: background restore, growth of the directory, scrubbing, damaged
lines, protected ranges (R203, R212, R213, R226, R227, R232, R238 to R240). -/

namespace Sys2Proof.Machine

/-! ## Background restore (R203, R232) -/

/-- LAZY_CHUNK_RESTORE (R203, R232): the next chunk in hash order, read and checked. -/
def execLazyChunkRestore (ok : Bool) (s : State) : Host.Outcome State Fault Refusal :=
  if s.restore.state != .lazy then .next s
  else if !ok then .next s.restoreFails
  else
    match s.chunksLeft with
    | [] => .next s.restoreDone.refreshDeviceState
    | c :: _ => .next (s.restoreItem c)

/-! ## Growing the directory (R226, R227) -/

/-- RESIZE_CLEAR_COMPLETE (R226). -/
def execResizeClearComplete (s : State) : Host.Outcome State Fault Refusal :=
  if s.store.phase != .clearing || s.zeroised then .next s
  else .next { s with store := { s.store with phase := .migrating, newTable := [], newLinks := [], cursor := 0 } }

/-- RESIZE_BUCKET_MIGRATE (R227): the bucket at the cursor is rewritten into its two children; after the last
the old table is freed (R226). -/
def execResizeBucketMigrate (s : State) : Host.Outcome State Fault Refusal :=
  if s.store.phase != .migrating || s.zeroised then .next s
  else
    let j := s.store.cursor
    let (a, b) := splitBucket s.store.k (bucket s.store.table j)
    let st := (s.store.putNew (2 * j) a).putNew (2 * j + 1) b
    if j + 1 < 2 ^ s.store.k then .next { s with store := { st with cursor := j + 1 } }
    else
      .next { s with store := { st with k := s.store.k + 1, table := st.newTable, links := st.newLinks, newTable := [],
                                        newLinks := [], phase := .idle, cursor := 0 } }.resizeCheck

/-! ## Scrubbing and damaged lines (R212, R240) -/

/-- PATROL_SCRUB (R212): the next line is read, and corrected where it held an error. -/
def execPatrolScrub (corrected : Bool) (s : State) : Host.Outcome State Fault Refusal :=
  if !s.bit .MEM_SCRUB_ENABLE then .next s
  else
    let next := (s.store.scrubLine + 1) % (s.capacity / 64)
    let s := { s with store := { s.store with scrubLine := next } }
    .next (if corrected then (s.putBit .MEM_STATUS_CE_SEEN true).count .MEM_ECC_CE_COUNT else s)

/-- The entries of one bucket of a table become DAMAGED. -/
def damageAll (t : SMap (List DirEntry)) (j : Nat) : SMap (List DirEntry) :=
  setBucket t j ((bucket t j).map (fun e => { e with state := .damaged }))

/-- The entries of the bucket a directory line belongs to become DAMAGED, a line of its chain included (R240). -/
def State.damageDirLine (s : State) (line : Nat) : State :=
  let st := s.store
  let old (j : Nat) : State := { s with store := { st with table := damageAll st.table j } }
  let new (j : Nat) : State := { s with store := { st with newTable := damageAll st.newTable j } }
  if s.inTable st.k line then old ((line - s.tableBase st.k) / 64)
  else if st.phase == .migrating && s.inTable (st.k + 1) line then new ((line - s.tableBase (st.k + 1)) / 64)
  else if line < s.poolBase then s
  else
    match poolOwner st.links ((line - s.poolBase) / 64), poolOwner st.newLinks ((line - s.poolBase) / 64) with
    | some (j, _), _ => old j
    | none, some (j, _) => new j
    | none, none => s

/-- A bead of the staging area, or a checkpoint item with an entry in the shadow, will not be exported (R240): which of them
the line holds is open, as their places are (log entry 34). -/
def State.damageStaged (s : State) (shadow : Bool) : State :=
  let pick (l : List Nat) (v : Nat) : List Nat := (l.drop (v % l.length)).take 1
  let (v, s) := s.freshNat
  if shadow then
    let segs := (s.strand.ckptRunning.map (fun (c : Checkpoint) =>
      c.objs.map (fun e => segmentOf e.1) ++ c.settings.map (fun _ => 4096))).getD []
    { s with strand := { s.strand with badSegments := s.strand.badSegments ++ pick segs v } }
  else { s with strand := { s.strand with badBeads := s.strand.badBeads ++ pick (s.strand.staged.map (·.1)) v } }

/-- ECC_UNCORRECTABLE_ERROR (R240): what the line held is damaged, or never exported. -/
def execEccUncorrectableError (line : Nat) (s : State) : Host.Outcome State Fault Refusal :=
  if line < dramBase || line ≥ dramBase + s.capacity then .next s
  else
    let line := line / 64 * 64
    let s := (s.putBit .MEM_STATUS_UE_SEEN true).count .MEM_ECC_UE_COUNT
    let s := { s with store := { s.store with errAddr := line } }
    let s := s.event 0x0501 sevCritical line []
    if line < dramBase + 0x80000000 then
      .next (s.damageStaged (dramBase + 0x40000000 ≤ line))
    else if line < dirBase then .next s
    else if line < s.objectBase then .next (s.damageDirLine line)
    else
      match s.lineEntry line with
      | some e => .next (s.damage e.handle)
      | none => .next s

/-! ## Protected ranges (R238, R239) -/

/-- The shadow copy of range `n` (R239). -/
def State.shadowRange (s : State) (n : Nat) : ProtRange :=
  { base := s.get (.MEM_PRn_BASE_BASE n), limit := s.get (.MEM_PRn_LIMIT_LIMIT n), enable := s.bit (.MEM_PRn_CTRL_ENABLE n) }

/-- PROTECTED_RANGE_COMMIT (R239). -/
def execProtectedRangeCommit (s : State) : Host.Outcome State Fault Refusal :=
  let s := s.put .MEM_PR_GEN_COMMITTED (s.get .MEM_PR_GEN_COMMITTED + 1)
  .next { s with store := { s.store with ranges := (List.range 8).map s.shadowRange } }

/-- PROTECTED_RANGE_GEN_ACTIVE (R239). -/
def execProtectedRangeGenActive (s : State) : Host.Outcome State Fault Refusal :=
  let s := s.put .MEM_PR_GEN_ACTIVE (s.get .MEM_PR_GEN_COMMITTED)
  .next { s with store := { s.store with rangesActive := s.store.ranges } }

end Sys2Proof.Machine
end

