-- ==== Sys2Proof/Machine/Keys.lean ====
section
/-! DEFINITION. Hallmarks, firmware storage keys and the migration walk (R340, R343, R349, R356). -/

namespace Sys2Proof.Machine

/-! ## Hallmarks (R340, R356) -/

/-- The octets of KLD_HM_DATA. -/
def State.hmData (s : State) : Bytes := s.windowBytes .KLD_HM_DATA_WORD 16

/-- HALLMARK_EXTEND (R340, R356): after the hand-over only HM6 and HM7 are extended. -/
def execHallmarkExtend (reg : Nat) (s : State) : Host.Outcome State Fault Refusal :=
  if reg < 8 && (reg ≥ 6 || !s.ladder.hmClosed) then .next (s.extendHm reg s.hmData) else .next s

/-! ## Firmware storage keys (R349, R356) -/

/-- DEST of a firmware storage key (R349). -/
def storageDest : Nat := destSym

/-- Whether a lane may receive a firmware storage key: its mask permits lanes, and the lane is held at 0xF000 and not
BUSY. -/
def State.laneTakesKey (s : State) (n : Nat) : Bool :=
  permits storageDest .sym && s.holder n == hcSecure && !(s.lane n).running

/-- A delivery refused: counted, the destination unchanged. -/
def State.refuseKey (s : State) : State :=
  let s := (s.putBit .KLD_FW_STATUS_BUSY false).putBit .KLD_FW_STATUS_REFUSED true
  { s with ladder := { s.ladder with fwRequest := none } }.count .KLD_REFUSED_COUNT

/-- FW_STORAGE_KEY_REQUEST (R356): a write of KLD_FW_CTRL starts the derivation. -/
def execFwStorageKeyRequest (lineage : Bool) (svn index lane : Nat) (s : State) : Host.Outcome State Fault Refusal :=
  if s.bit .KLD_FW_STATUS_BUSY then .next s
  else
    let s := (s.putBit .KLD_FW_CTRL_SRC lineage).put .KLD_FW_CTRL_SVN svn
    let s := (s.put .KLD_FW_CTRL_INDEX index).put .KLD_FW_CTRL_LANE lane
    if !s.laneTakesKey (lane % 16) || (lineage && svn % 256 > s.svn) then .next s.refuseKey
    else
      match s.storageKey lineage (svn % 256) (index % 256) with
      | none => .next s.refuseKey
      | some k =>
        let s := if lineage then s.useRoot 1 (svn % 256) (s.lineageRoot (svn % 256)) else s.useRoot 2 0 s.measuredRoot
        let s := { s with ladder := { s.ladder with fwRequest := some (lane % 16, k) } }
        .next (s.putBit .KLD_FW_STATUS_BUSY true)

/-- FW_STORAGE_KEY_DONE (R349, R356): the key is delivered to the lane, where the conditions still hold. -/
def execFwStorageKeyDone (s : State) : Host.Outcome State Fault Refusal :=
  match s.ladder.fwRequest with
  | none => .next s
  | some (n, k) =>
    if !s.laneTakesKey n then .next s.refuseKey
    else
      let s := { s with ladder := { s.ladder with fwRequest := none } }
      let s := s.setLane n { s.lane n with key := k, loaded := true }
      .next ((s.putBit .KLD_FW_STATUS_BUSY false).putBit .KLD_FW_STATUS_DONE true)

/-! ## Migration (R343) -/

/-- The committed objects a walk has still to consider, in hash order. -/
def State.walkAhead (s : State) : List Nat :=
  let hs := (s.dirAll.filter (fun e => e.state == .committed)).map (·.handle)
  sortBy (fun h => (dirHash h, 0)) (hs.filter (fun h => s.store.walkHash ≤ dirHash h))

/-- Whether the walk places a record for a handle: the object is below the floor and has no unsealed record. -/
def State.walkTakes (s : State) (h : Nat) : Bool :=
  !(s.unsealedRecs.any (fun r => r.body.handle == h)) &&
    ((s.committedObj h).map (fun o => decide (o.svn < s.migrateFloor))).getD false

/-- Places the record that reseals an object. -/
def State.walkPlace (s : State) (h : Nat) : State :=
  match s.committedObj h with
  | none => s
  | some o =>
    let (_, s) := s.joinRec { deviceRec (.policySet h o.policy) with owner := ownerOf h }
    { s with store := { s.store with migrated := s.store.migrated + 1, walkHash := dirHash h + 1 } }

/-- MIGRATE_WALK_STEP (R343): the records of one tick, at most MIGRATE_RATE; the walk ends when no object is
left. -/
def execMigrateWalkStep (s : State) : Host.Outcome State Fault Refusal :=
  if !s.store.walking || !s.strandOpen || s.time.tick < s.store.walkTick then .next s
  else
    let take := s.walkAhead.filter s.walkTakes
    let rate := s.odNat 0xB040 9 4096
    let s := (take.take rate).foldl State.walkPlace s
    let s := { s with store := { s.store with walkTick := s.time.tick + 1 } }
    if take.length ≤ rate then
      .next ({ s with store := { s.store with walking := false } }.event 0x0406 sevInfo s.store.migrated [])
    else .next s

/-- The rule of a write of OWNER_EPOCH beside its range (R351): the owner holds nothing. -/
def State.ownerIdle (s : State) (n : Nat) : Bool :=
  (s.owner n).count == 0 && s.creating n == 0 &&
    s.insts.all (fun e => e.2.st == .unbound || s.odLatestNat (0x2400 + e.1) 3 0 != n)

end Sys2Proof.Machine
end

