-- ==== Sys2Proof/Machine/Officers.lean ====
section
/-! DEFINITION. Custodian cards, officers, signets and the armed zeroise (R358 to R370, R375, R376). -/

namespace Sys2Proof.Machine

/-! ## The officers in force (R363, R364) -/

/-- A setting of the presented strand as loaded, from the chunks the unit opens. -/
def State.presentedOd (s : State) (index sub : Nat) : Option Bytes :=
  let od := (s.restore.items.map (fun x => if s.opensItem x then x.settings else [])).flatten
  let base := (od.find? (fun e => e.1 == odKey index sub)).map (·.2)
  match (s.restore.replay.filter (fun r => r.writes index sub)).getLast? with
  | some r => some r.value
  | none => base

/-- A setting in force: committed, or, before the clasp is granted, that of the presented strand (R364). -/
def State.inForceOd (s : State) (index sub : Nat) : Option Bytes :=
  if s.strand.role == .candidate then s.presentedOd index sub else s.odStored index sub

/-- The number a setting in force holds. -/
def State.inForceNat (s : State) (index sub d : Nat) : Nat := ((s.inForceOd index sub).map leNat).getD d

/-- The key of officer `k`; empty when the slot is. -/
def State.officerKey (s : State) (k : Nat) : Bytes := (s.inForceOd (0x1110 + k) 1).getD []

/-- The officer whose key this is. -/
def State.officerOf (s : State) (key : Bytes) : Option Nat :=
  (List.range 32).find? (fun k => s.officerKey k == key && !key.isEmpty)

/-- Officers enrolled, with every unsealed write applied where `latest`. -/
def State.enrolled (s : State) (latest : Bool) : List Nat :=
  (List.range 32).filter (fun k =>
    !(if latest then (s.odLatest (0x1110 + k) 1).getD [] else s.officerKey k).isEmpty)

/-- OFFICER_QUORUM. -/
def State.officerQuorum (s : State) : Nat := s.inForceNat 0x1100 7 2

/-- SIGNET_WINDOW. -/
def State.signetWindow (s : State) : Nat := s.inForceNat 0x1100 8 300000

/-! ## Statements and signets (R365 to R368) -/

/-- The 144-octet statement (R365). -/
def State.statement (s : State) (x : Signet) : Bytes :=
  ascii [0x4B, 0x4E, 0x53, 0x49, 0x47, 0x4E, 0x54, 0x31] ++ le 8 Config.fuseSerial ++ le 8 s.bb.domainId ++
  le 2 x.action ++ le 2 x.index ++ le 1 x.sub ++ le 1 x.quorum ++ le 1 (b2n x.enrolee) ++ zeros 1 ++ le 8 x.number ++
  le 8 x.openTick ++ le 8 x.endTick ++ padTo 16 x.nonce ++ padTo 64 x.valueHash ++ zeros 8

/-- The signet record (R367). -/
def State.signetRecord (s : State) (x : Signet) : Bytes :=
  s.statement x ++ le 1 x.approvals.length ++ zeros 7 ++
    (x.approvals.map (fun a => le 1 a.1 ++ zeros 7 ++ padTo 96 a.2)).flatten ++
    (match x.enroleeSig with
      | some g => le 1 0xFF ++ zeros 7 ++ padTo 96 g
      | none => [])

/-! ## The ports (R359, R362) -/

/-- A session ends with an error: deactivation and an event record (R362, R376). -/
def State.cardError (s : State) (p code : Nat) : State :=
  let s := ((s.deactivate p).setPortState p psError).put (.CRD_Pp_STATUS_ERROR p) code
  if code = 5 then s.event 0x0607 sevCritical p [] else s.event 0x0606 sevWarning p []

/-- Whether a card ceremony runs: a domain creation, or a domain acceptance whose offer has been checked
(R245, R247). -/
def State.cardCeremony (s : State) : Bool :=
  s.officers.creating.isSome || (s.pair.ceremony.map (fun (c : Ceremony) => !c.sender && !c.carded)).getD false

/-- What the next card to reach PIN_WAIT signs for: an armed zeroise first (R370), a ceremony, the signet. -/
def State.nextAction (s : State) : Nat :=
  if s.officers.zeroiseArm.isSome then 5
  else if s.officers.creating.isSome then 3
  else if s.cardCeremony then 4
  else s.officers.signet.action

/-- A port enters PIN_WAIT. -/
def State.toPinWait (s : State) (p : Nat) : State :=
  let x := { s.port p with waitTick := s.time.tick, verifying := false, action := s.nextAction }
  (s.setPort p x).setPortState p psPinWait

/-- Ports whose card waits in IDLE enter PIN_WAIT (R362, R375). -/
def State.idleToPinWait (s : State) : State :=
  [0, 1].foldl (fun s p => if s.portState p = psIdle then s.toPinWait p else s) s

/-- Whether a card is that of the enrolee of the signet OPEN (R363; log entry 23). -/
def State.isEnrolee (s : State) (key : Bytes) : Bool :=
  let x := s.officers.signet
  x.state == .isOpen && x.enrolee && padTo 64 (Config.sha512 key) == padTo 64 x.valueHash

/-- Where an identified card goes (R362). -/
def State.identify (s : State) (p : Nat) (key : Bytes) : State :=
  let wanted := s.officers.signet.state == .isOpen || s.officers.zeroiseArm.isSome
  let s := s.setPortState p psIdentified
  match s.officerOf key with
  | some k =>
    let s := (s.put (.CRD_Pp_OFFICER_INDEX p) k).putBit (.CRD_Pp_OFFICER_MATCH p) true
    if s.cardCeremony || wanted then s.toPinWait p else s.setPortState p psIdle
  | none =>
    let s := (s.put (.CRD_Pp_OFFICER_INDEX p) 0).putBit (.CRD_Pp_OFFICER_MATCH p) false
    if s.cardCeremony || s.isEnrolee key then s.toPinWait p else s.cardError p 6

/-- PRES of a port. -/
def presFld (p : Nat) : Fld := if p = 0 then .CRD_STATUS_PRES_A else .CRD_STATUS_PRES_B

/-- Whether a port is enabled. -/
def State.portEnabled (s : State) (p : Nat) : Bool := s.bit (if p = 0 then .CRD_CFG_A_EN else .CRD_CFG_B_EN)

/-- CARD_INSERT (R359). -/
def execCardInsert (port : Nat) (s : State) : Host.Outcome State Fault Refusal :=
  if port > 1 then .next s
  else
    let s := s.putBit (presFld port) true
    if s.portState port != psEmpty || !s.portEnabled port || s.zeroised || s.get (.PWR_GATEb_STATE 5) != 0 then .next s
    else
      let s := (s.setPort port { CardPort.init with powered := true }).put (.CRD_Pp_STATUS_ERROR port) 0
      .next (s.setPortState port psActivating)

/-- CARD_REMOVE (R362): the port is EMPTY; error 0x0A unless the session had ended. -/
def execCardRemove (port : Nat) (s : State) : Host.Outcome State Fault Refusal :=
  if port > 1 then .next s
  else
    let st := s.portState port
    let s := s.putBit (presFld port) false
    if st = psEmpty then .next s
    else
      let s := if st = psDone || st = psError then s.deactivate port else s.cardError port 0x0A
      .next (s.setPortState port psEmpty)

/-- ATR_TIMEOUT (R359). -/
def execAtrTimeout (port : Nat) (s : State) : Host.Outcome State Fault Refusal :=
  if port < 2 && s.portState port = psActivating && (s.port port).sent.isEmpty then .next (s.cardError port 1) else .next s

/-- F and D chosen from TA1 (R358): the highest of what the device supports up to the Fi and Di that TA1's codes stand for
in ISO/IEC 7816-3 (log entry 37). -/
def chooseFd (ta1 : Option Nat) : Nat × Nat :=
  match ta1 with
  | none => (372, 1)
  | some v =>
    let f := if [2, 3, 4, 5, 6, 9, 10, 11, 12, 13].contains (v / 16) then 512 else 372
    let d := match v % 16 with
      | 2 => 2 | 3 => 4 | 4 => 8 | 5 => 16 | 6 => 16 | 7 => 16 | 8 => 8 | 9 => 16 | _ => 1
    (f, d)

/-- ATR_RECEIVED (R358): only T=1 with LRC is accepted; SELECT is sent. -/
def execAtrReceived (port : Nat) (t1 lrc : Bool) (ta1 : Option Nat) (s : State) : Host.Outcome State Fault Refusal :=
  if port < 2 && s.portState port = psActivating && (s.port port).sent.isEmpty then
    if t1 && lrc then
      let (f, d) := chooseFd ta1
      .next (s.setPort port { s.port port with f := f, d := d, sent := [0xA4] })
    else .next (s.cardError port 2)
  else .next s

/-- SELECT_RESPONSE (R360): GET_INFO is sent. -/
def execSelectResponse (port sw : Nat) (s : State) : Host.Outcome State Fault Refusal :=
  if port < 2 && s.portState port = psActivating && (s.port port).sent == [0xA4] then
    if sw = 0x9000 then .next (s.setPort port { s.port port with sent := [0xA4, 0xCA] }) else .next (s.cardError port 3)
  else .next s

/-- GET_INFO_RESPONSE (R360, R362): the key is compared with every enrolled officer's. -/
def execGetInfoResponse (port sw tries : Nat) (key : Bytes) (s : State) : Host.Outcome State Fault Refusal :=
  if port < 2 && s.portState port = psActivating && (s.port port).sent == [0xA4, 0xCA] then
    if sw = 0x9000 && key.length = 97 then
      let s := (s.put (.CRD_Pp_STATUS_PIN_TRIES port) tries).setPort port { s.port port with key := key }
      .next (s.identify port key)
    else .next (s.cardError port 3)
  else .next s

/-- A PIN written while the port is in PIN_WAIT is sent once in VERIFY_PIN and erased; else it is discarded
(R361). -/
def State.pinWrite (s : State) (port : Nat) : State :=
  let x := s.port port
  if s.portState port = psPinWait && !x.verifying then
    s.setPort port { x with verifying := true, pinTick := s.time.tick, sent := x.sent ++ [0x20] }
  else s

/-- What a card is asked to sign: the signet, or a statement made for a ceremony or a zeroise (R365, R369;
log entry 24). -/
def State.cardStatement (s : State) (action : Nat) : Bytes × State :=
  if action ≤ 2 then (s.statement s.officers.signet, s)
  else
    let (nonce, s) := s.drawBytes 16
    let x : Signet :=
      { state := .isOpen, action := action, index := 0, sub := 0, quorum := if action = 3 then 2 else 1, enrolee := false,
        number := s.officers.signetNo, openTick := s.time.tick, endTick := s.time.tick + s.signetWindow, nonce := nonce,
        valueHash := [], approvals := [], enroleeSig := none }
    (s.statement x, s)

/-- VERIFY_PIN_RESPONSE (R360, R362). -/
def execVerifyPinResponse (port sw : Nat) (s : State) : Host.Outcome State Fault Refusal :=
  if port < 2 && s.portState port = psPinWait && (s.port port).verifying then
    if sw = 0x9000 then
      let (m, s) := s.cardStatement (s.port port).action
      let x := s.port port
      .next ((s.setPort port { x with verifying := false, stmt := m, sent := x.sent ++ [0x2A] }).setPortState port psSigning)
    else if sw / 16 = 0x63C then .next ((s.put (.CRD_Pp_STATUS_PIN_TRIES port) (sw % 16)).cardError port 4)
    else if sw = 0x6983 then .next ((s.put (.CRD_Pp_STATUS_PIN_TRIES port) 0).cardError port 5)
    else .next (s.cardError port 4)
  else .next s

/-- SIGN_STATEMENT_RESPONSE (R360, R362): 96 octets go to a big-number core for verification. -/
def execSignStatementResponse (port sw : Nat) (sig : Bytes) (s : State) : Host.Outcome State Fault Refusal :=
  if port < 2 && s.portState port = psSigning && (s.port port).sig.isNone then
    if sw = 0x9000 && sig.length = 96 then .next (s.setPort port { s.port port with sig := some sig })
    else .next (s.cardError port 7)
  else .next s

/-- ECDSA P-384 over SHA-384 (R360). -/
def cardParams : SigParams :=
  { scheme := 0x10, hash := 0x02, prehashed := false, det := false, saltLen := 0, type := 2, size := 384 }

/-- The signet becomes COMPLETE when the count reaches QUORUM, and, where one is required, the enrolee has
signed (R363, R366); `who` is the officer, or the enrolee's port, whose signature came last (R376). -/
def State.completeSignet (s : State) (who : Nat) : State :=
  let x := s.officers.signet
  if x.state == .isOpen && x.approvals.length ≥ x.quorum && (!x.enrolee || x.enroleeSig.isSome) then
    let x := { x with state := .complete }
    let s := s.setSignet x
    { s with officers := { s.officers with lastRecord := s.signetRecord x } }.event 0x0602 sevNotice who []
  else s

/-- An approval of the signet by officer `k` (R366). -/
def State.countApproval (s : State) (k : Nat) (sig : Bytes) : State :=
  let x := s.officers.signet
  let s := s.setSignet { x with approvals := x.approvals ++ [(k, sig)] }
  let s := { s with officers := { s.officers with lastApproval := mset (fun _ => 0) s.officers.lastApproval k s.time.tick } }
  s.completeSignet k

/-- A verified signature of a card at a port does what it was for: the signet's count, a ceremony, or the
officer zeroise (R245, R366, R370). -/
def State.cardVerified (s : State) (p : Nat) (x : CardPort) (sig : Bytes) : State :=
  let k := s.officerOf x.key
  match x.action with
  | 5 =>
    match k with
    | some k => (((s.cardDone p).event 0x0608 sevCritical k []).alarm' [21])
    | none => s.cardError p 6
  | 3 =>
    match s.officers.creating with
    | none => s.cardDone p
    | some l =>
      if l.any (fun e => e.2 == x.key) then
        { (s.cardError p 8) with officers := { (s.cardError p 8).officers with creating := none } }
      else { (s.cardDone p) with officers := { (s.cardDone p).officers with creating := some (l ++ [(p, x.key)]) } }
  | 4 =>
    match s.pair.ceremony with
    | none => s.cardDone p
    | some c =>
      if c.officers.contains x.key then { (s.cardDone p) with pair := { s.pair with ceremony := some { c with carded := true } } }
      else s.cardError p 6
  | _ =>
    let g := s.officers.signet
    if g.state != .isOpen || s.time.tick ≥ g.endTick || x.stmt != s.statement g then s.cardDone p
    else
      match k with
      | some k => if g.approvals.any (fun a => a.1 == k) then s.cardError p 8 else (s.cardDone p).countApproval k sig
      | none =>
        if s.isEnrolee x.key then ((s.cardDone p).setSignet { g with enroleeSig := some sig }).completeSignet p
        else s.cardError p 6

/-- PIN_WAIT_TIMEOUT (R362). -/
def execPinWaitTimeout (port : Nat) (s : State) : Host.Outcome State Fault Refusal :=
  if port < 2 && s.portState port = psPinWait && s.time.tick ≥ (s.port port).waitTick + s.inForceNat 0x1100 9 60000 then
    .next (s.cardError port 9)
  else .next s

/-- SIGNING_TIMEOUT (R362). -/
def execSigningTimeout (port : Nat) (s : State) : Host.Outcome State Fault Refusal :=
  if port < 2 && s.portState port = psSigning && s.time.tick ≥ (s.port port).pinTick + 10000 then .next (s.cardError port 9)
  else .next s

/-- CARD_DEACTIVATE (R359): the session ends; no error code is given for it (log entry 25). -/
def execCardDeactivate (port : Nat) (s : State) : Host.Outcome State Fault Refusal :=
  if port > 1 || s.portState port = psEmpty || s.portState port = psError then .next s else .next (s.cardDone port)

/-! ## Opening and ending a signet (R365, R366) -/

/-- A signet opens (R365); cards in IDLE are asked for their PIN. -/
def State.openSignet (s : State) (action index sub quorum : Nat) (enrolee : Bool) (valueHash : Bytes) : State :=
  let (nonce, s) := s.drawBytes 16
  let n := s.officers.signetNo + 1
  let x : Signet :=
    { state := .isOpen, action := action, index := index, sub := sub, quorum := quorum, enrolee := enrolee, number := n,
      openTick := s.time.tick, endTick := s.time.tick + s.signetWindow, nonce := nonce, valueHash := valueHash,
      approvals := [], enroleeSig := none }
  let s := { s.setSignet x with officers := { (s.setSignet x).officers with signetNo := n } }
  (s.signetEvent 0x0601 sevNotice).idleToPinWait

/-- Whether an entry is written only under a signet: an RWQ entry, or a limited-write setting, which needs
one beside its own rules (R368, R369, R435). -/
def signetEntry (index sub : Nat) : Bool :=
  ((odRow index sub).map (fun r => r.access == .rwq || r.access == .rwl)).getD false

/-- The rule of a SIGNET_OPEN write (R365). -/
def State.signetOpenRule (s : State) (v : Bytes) : Option OdResult :=
  if v.length != 69 || fieldLE v 0 2 != 1 || !signetEntry (fieldLE v 2 2) (fieldLE v 4 1) then some .range
  else if s.officers.signet.live || !s.bit .HST_STATUS_RNG_READY then some .wrongState
  else none

/-- Its effect. -/
def State.signetOpenEffect (s : State) (v : Bytes) : State :=
  let index := fieldLE v 2 2
  let hash := slice v 5 64
  let enrolee := 0x1110 ≤ index && index < 0x1130 && fieldLE v 4 1 == 1 && hash != padTo 64 (Config.sha512 [])
  s.openSignet 1 index (fieldLE v 4 1) s.officerQuorum enrolee hash

/-- SIGNET_WINDOW_END (R366). -/
def execSignetWindowEnd (s : State) : Host.Outcome State Fault Refusal :=
  if s.time.tick ≥ s.officers.signet.endTick then .next (s.endSignet .expired 0x0604 sevWarning) else .next s

/-- Whether a COMPLETE signet covers a write (R368). -/
def State.signetCovers (s : State) (index sub : Nat) (v : Bytes) : Bool :=
  let x := s.officers.signet
  x.state == .complete && x.action == 1 && x.index == index && x.sub == sub && s.time.tick < x.endTick &&
    padTo 64 x.valueHash == padTo 64 (Config.sha512 v)

/-- The signet is consumed by the write it covers; answers what the strand record carries of it (R368). -/
def State.consumeSignet (s : State) : Bytes × State :=
  let x := s.officers.signet
  ((Config.sha512 s.officers.lastRecord).take 32, (s.setSignet { x with state := .consumed }).signetEvent 0x0603 sevNotice)

/-- ZEROISE_ARM's effect (R370). -/
def State.armZeroise (s : State) : State :=
  { s with officers := { s.officers with zeroiseArm := some s.time.tick } }.idleToPinWait

/-- ZEROISE_ARM_EXPIRY (R370): 600 ticks after the write. -/
def execZeroiseArmExpiry (s : State) : Host.Outcome State Fault Refusal :=
  match s.officers.zeroiseArm with
  | none => .next s
  | some t => if s.time.tick ≥ t + 600 then .next { s with officers := { s.officers with zeroiseArm := none } } else .next s

/-! ## Writes of the officer set (R363) -/

/-- The rule of an OFFICER_KEY write. -/
def State.officerKeyRule (s : State) (k : Nat) (v : Bytes) : Option OdResult :=
  let others := (s.enrolled true).filter (· != k)
  let used := others.any (fun o => (s.odLatest (0x1110 + o) 1).getD [] == v)
  if !v.isEmpty && (v.length != 97 || !(publicKeyOk 2 384 v)) then some .range
  else if v.isEmpty && others.length < s.odLatestNat 0x1100 7 2 then some .wrongState
  else if !v.isEmpty && (used || (s.odLatest (0x1110 + k) 1).getD [] == v) then some .wrongState
  else none

/-- The rule of an OFFICER_QUORUM write. -/
def State.officerQuorumRule (s : State) (v : Nat) : Option OdResult :=
  if v > (s.enrolled true).length then some .wrongState else none

/-- What an approver slot accepts (R371). -/
def State.approverRule (s : State) (owner a : Nat) (v : Bytes) : Option OdResult :=
  let t := fieldLE v 0 1
  let ok := match t with
    | 1 => v.length == 521 && publicKeyOk 1 4096 (v.drop 1)
    | 2 => v.length == 98 && publicKeyOk 2 384 (v.drop 1)
    | 6 => v.length == 1953 && publicKeyOk 6 65 (v.drop 1)
    | _ => false
  if !ok then some .range
  else if !((s.odLatest (0x4000 + owner) (0x20 + a)).getD []).isEmpty || (s.owner owner).count != 0 || s.creating owner != 0 then
    some .wrongState
  else none

end Sys2Proof.Machine
end

