-- ==== Sys2Proof/Machine/Identity.lean ====
section
/-! DEFINITION. The device's identity, the HM3 word and the seeds of the ladder (R340, R341, R353, R438 to R440,
R442). -/

namespace Sys2Proof.Machine

/-! ## The security configuration word (R340) -/

/-- The HM3 word of the enables, the mode and the life-cycle in force. -/
def State.hm3Word (s : State) : Nat :=
  s.lifeCycle + 16 * s.get .LCS_DEBUG_ENABLES + 256 * s.get .LCS_BOOT_COMPAT + 512 * s.get .BZL_STATUS_MODE

/-- HM3 is extended with the word. -/
def State.extendHm3 (s : State) : State := s.extendHm 3 (le 4 s.hm3Word ++ zeros 60)

/-! ## An OTP programming window (R431, R436, R453) -/

/-- LCS_STATUS and the entries of OTP show what it holds (R453). -/
def State.showOtp (s : State) : State :=
  let s := (s.putBit .LCS_STATUS_KILLED s.lcs.killed).put .LCS_BOOT_SVN_FLOOR s.lcs.floor
  let s := s.putBit .LAT_COSIG_REQUIRED s.lcs.cosig
  s.putBit .LCS_STATUS_OTP_BUSY s.lcs.programming.isSome

/-- A programming begins; `reply` is the response it owes, if any (R502). -/
def State.startOtp (s : State) (w : OtpWrite) (reply : Option Nat) : State :=
  let s := { s with lcs := { s.lcs with programming := some (w, reply) } }
  let s := match w with
    | .lifeCycle code => s.put .LCS_STATUS_PENDING code
    | _ => s
  s.showOtp

/-! ## The identity key (R438) -/

/-- RSASSA-PSS, SHA-512, MGF1-SHA-512, a 64-octet salt (R250, R439). -/
def idParams : SigParams :=
  { scheme := 0x02, hash := 0x03, prehashed := false, det := false, saltLen := 64, type := 1, size := 4096 }

/-- The identity wrap key (R336). -/
def State.idWrapKey (s : State) : Option Bytes :=
  s.deviceRoot.map (fun r => kdfNode r lblRoot ([2#8] ++ be 1 (s.get .LCS_DEBUG_ENABLES % 4)))

/-- The public half, n ‖ e (R439). -/
def State.idPublic (s : State) : Bytes :=
  match s.lcs.identity with
  | some k => publicEncOf 1 4096 k
  | none => zeros 520

/-- A pinned run of an RSA-4096 key, its DEST BIG only (R277, R348, R438). -/
def State.pinRun (s : State) (label : Nat) (key : Bytes) : State :=
  let s := s.eraseRuns (fun x => x.label == label && x.handle == 0)
  let head := le 8 0 ++ le 1 1 ++ zeros 1 ++ le 2 4096 ++ le 4 (privatePart 1 4096 key).length ++ zeros 48
  (s.fillRun { handle := 0, label := label, variant := 0, owner := 0, svn := s.svn, dest := destBig, state := .pinned,
               inst := 0, job := 0, settings := [], lastUse := 0, head := head, key := key, tags := [] } (runLength 1 4096)).1

/-- The identity key is loaded: from its working copy where that opens, else over the hardware path, which is
closed while a secure enable is open, and a new copy is sealed (R438). -/
def State.loadIdentity (s : State) : State :=
  match s.lcs.identity, s.idWrapKey with
  | some k, some w =>
    if s.lcs.killed then s
    else if s.lcs.idCopy == w || s.get .LCS_DEBUG_ENABLES % 4 = 0 then
      { s.pinRun idLabel k with lcs := { s.lcs with idCopy := w, idLoaded := true } }
    else s
  | _, _ => s

/-- The identity key where it is loaded; after a PURGE it is loaded again at its first use (R278, R438). -/
def State.withIdentity (s : State) : Option Bytes × State :=
  let s := if s.lcs.idLoaded then s else s.loadIdentity
  (if s.lcs.idLoaded then s.lcs.identity else none, s)

/-- A signature with the identity key, of 512 octets, over a message. -/
def State.idSign (s : State) (m : Bytes) : Option Bytes × State :=
  let (k, s) := s.withIdentity
  match k with
  | none => (none, s)
  | some k =>
    let (salt, s) := s.drawBytes 64
    (some (padTo 512 (Config.sign idParams k salt [] m)), s)

/-- A signature of another unit under its identity key. -/
def idVerify (pub m sig : Bytes) : Bool := Config.verify idParams pub [] m sig

/-- Whether the peer's certificate names a serial number and a key, and is endorsed (R439). -/
def State.peerEndorsed (s : State) (serial : Nat) (key : Bytes) : Bool :=
  let c := s.odBytes 0x1010 4
  c.length == 1056 && c.take 5 == ascii [0x4B, 0x4E, 0x49, 0x44, 1] && fieldLE c 8 8 == serial && slice c 24 520 == padTo 520 key &&
    Config.verifyWith Config.endorsementKey (c.take 544) (c.drop 544)

/-! ## Roots (R341, R442) -/

/-- KLD_STATUS shows which roots can be reached. -/
def State.showRoots (s : State) : State :=
  let s := s.putBit .KLD_STATUS_ROOTS_VALID s.deviceRoot.isSome
  let s := s.putBit .KLD_STATUS_PAIR_ROOT (s.pairRoot s.svn).isSome
  (s.putBit .FLL_STATUS_SECRET s.bb.pairSecret.isSome).putBit .LCS_STATUS_WRAP_MISSING s.bb.wrapSecret.isNone

/-- Scramble keys are loaded, and memory is ready (R236, R442). -/
def State.loadScramble (s : State) : State :=
  let ok := (s.lineageRoot s.svn).isSome || s.lifeCycle == lcBlank || s.lifeCycle == lcAnalysis
  { s.putBit .MEM_STATUS_READY ok with ladder := { s.ladder with scrambleTable := ((List.range 256).filterMap s.scrambleKey) } }

/-- A new pair secret's seed and Vp(s) (R341). -/
def State.computePairSeed (s : State) : State :=
  { s with ladder := { s.ladder with vp := s.pairSeed.map (fun d => shaChain d (255 - s.svn)) } }.fillRoots.showRoots

/-- LCS_INIT_WRAP (R442): a new wrap secret, the roots, the scramble keys, the identity key. -/
def execLcsInitWrap (s : State) : Host.Outcome State Fault Refusal :=
  if s.bb.wrapSecret.isSome || !s.bit .HST_STATUS_RNG_READY || s.zeroised || (s.lifeCycle != lcProvision && s.lifeCycle != lcField) then .next s
  else
    let (w, s) := s.drawBytes 32
    let s := { s with bb := { s.bb with wrapSecret := some w } }
    let s := { s with ladder := { s.ladder with vd := s.deviceSeed.map (fun d => shaChain d (255 - s.svn)) } }
    .next ((s.fillRoots.showRoots.loadScramble.loadIdentity).putBit .LCS_INIT_DONE true)

/-! ## The attestation key (R277, R278, R440) -/

/-- The endorsement's body (R440). -/
def State.endorsementBody (s : State) (pub nonce : Bytes) : Bytes :=
  ascii [0x4B, 0x4E, 0x41, 0x45] ++ le 1 1 ++ le 1 s.lifeCycle ++ le 1 s.svn ++ zeros 1 ++ le 8 Config.fuseSerial ++
  padTo 16 nonce ++ ((List.range 6).map s.hm).flatten ++ padTo 520 pub

/-- ATTEST_KEY_GEN_COMPLETE (R277, R440): the search ends with a new key; its endorsement is signed before
DONE is set. -/
def execAttestKeyGenComplete (s : State) : Host.Outcome State Fault Refusal :=
  match s.engines.akey with
  | none => .next s
  | some cores =>
    let s := { s with engines := { s.engines with akey := none } }.akeyBusy cores false
    let (rnd, s) := s.freshBytes 64
    let key := genKey 1 4096 rnd
    let pub := publicEncOf 1 4096 key
    let s := s.pinRun attestLabel key
    let s := s.deviceWrite (s.get .BGN_AKEY_DST_ADDR) (pub.take 512)
    let (nonce, s) := s.drawBytes 16
    let body := s.endorsementBody pub nonce
    let (sig, s) := s.idSign body
    let s := match sig with
      | some g => { s with lcs := { s.lcs with endorsement := body ++ g }, ladder := { s.ladder with attest := some key } }
      | none => s
    .next ((s.putBit .BGN_AKEY_STATUS_BUSY false).putBit .BGN_AKEY_STATUS_DONE true)

end Sys2Proof.Machine
end

