-- ==== Sys2Proof/Machine/Power.lean ====
section
/-! DEFINITION. NAP, SLEEP and the gates (R512 to R528). -/

namespace Sys2Proof.Machine

/-! ## NAP (R514 to R516) -/

/-- A persistent write awaits its seal or its durable acknowledgement (R514). -/
def State.persistentWaits (s : State) : Bool :=
  s.agent.replies.any (fun r => r.result.isNone) ||
    s.unsealedRecs.any (fun r => match r.body with
      | .odWrite i b _ _ _ _ => odIs .persistent i b
      | _ => false)

/-- The conditions that refuse NAP, by code (R514). -/
def State.napBars (s : State) : List (Nat × Bool) :=
  let busyCore (k : ClusterId) : Bool := (List.range k.cores).any (fun n =>
    s.coreState k n == csHeld || s.coreState k n == csPolishing || s.bit (k.busyFld n) || !(s.jobsOn k.engine n).isEmpty)
  [(1, s.jobsInUse != 0),
   (2, busyCore .big || busyCore .lat || (List.range 16).any (fun n => s.holder n != hcFree)),
   (3, s.restore.state == .loading || s.restore.state == .lazy || s.store.phase != .idle ||
      s.strand.ckptRunning.isSome || s.store.walking),
   (4, s.lcs.programming.isSome),
   (5, s.inForce ≥ rHalt),
   (6, s.worlds.haltedCores != 0),
   (7, [0, 1].any (fun p => !([psEmpty, psIdle, psDone, psError].contains (s.portState p)))),
   (8, (List.range 4).any (fun c => s.bit (.WLD_DMAc_STATUS_BUSY c)) || s.bit .MGP_TX_STATUS_BUSY),
   (9, s.persistentWaits)]

/-- A NAP request (R513, R514): NAP, or the code that refuses it; `auto` for the automatic request, whose
refusal is not recorded. -/
def State.requestNap (s : State) (auto : Bool) : State :=
  if s.power.mode != .active then s
  else
    match s.napBars.find? (fun b => b.2) with
    | some (code, _) => if auto then s else s.put .PWR_STATUS_NAP_REFUSE code
    | none =>
      let s := (s.put .PWR_STATUS_STATE 1).count .PWR_NAP_ENTRIES_COUNT
      { s with power := { s.power with mode := .nap } }.armMonitor 2 false

/-- PWR_REQ_NAP (R514). -/
def execPwrReqNap (s : State) : Host.Outcome State Fault Refusal := .next (s.requestNap false)

/-- AUTO_NAP_TIMER (R514): AUTO_NAP_TICKS ticks without a fetch or a mailbox command. -/
def execAutoNapTimer (s : State) : Host.Outcome State Fault Refusal :=
  let n := s.odNat 0x8000 8 0
  if n != 0 && s.time.tick ≥ s.power.lastActive + n then .next (s.requestNap true) else .next s

/-- NAP_MINUTE_PREWAKE (R516): 100 µs before a minute increment, in its last tick. -/
def execNapMinutePrewake (s : State) : Host.Outcome State Fault Refusal :=
  if s.time.tick + 1 ≥ s.time.window.stop then .next (s.wakeNap 3) else .next s

/-! ## SLEEP (R517) -/

/-- Whether a SLEEP request is refused (R517). -/
def State.sleepBarred (s : State) : Bool :=
  s.strand.role == .active || s.strand.role == .handingOver || s.lcs.programming.isSome

/-- The SLEEP sequence is entered (R517): fetching stops and sessions end. From NAP the unit leaves NAP first (R513); no
code of R516 names this exit (log entry 38). -/
def State.beginSleep (s : State) : State :=
  if s.power.mode == .enteringSleep || s.power.mode == .sleep || s.power.mode == .off then s
  else if s.power.mode == .nap || s.power.mode == .leavingNap then
    { s with power := { s.power with mode := .leavingNap, sleepNext := true } }.put .PWR_STATUS_STATE 2
  else
    let s := s.endSessions
    { s with power := { s.power with mode := .enteringSleep, sleepTick := s.time.tick } }.put .PWR_STATUS_STATE 3

/-- NAP_EXIT_COMPLETE (R513, R516): the blocks have restarted; a SLEEP request that ended NAP is taken next, unless SLEEP
is barred by now. -/
def execNapExitComplete (s : State) : Host.Outcome State Fault Refusal :=
  if s.power.mode == .leavingNap then
    let next := s.power.sleepNext && !s.sleepBarred
    let s := { s with power := { s.power with mode := .active, sleepNext := false } }.put .PWR_STATUS_STATE 0
    .next (if next then (s.armMonitor 2 true).beginSleep else s.armMonitor 2 true)
  else .next s

/-- PWR_REQ_SLEEP (R517). -/
def execPwrReqSleep (s : State) : Host.Outcome State Fault Refusal :=
  if s.sleepBarred then .next s else .next s.beginSleep

/-! ## Gates (R520 to R522) -/

/-- Whether a gateable block is on, as to its clock and its power (R520). -/
def State.gateOn (s : State) (b : Nat) : Bool := s.get (.PWR_GATEb_STATE b) == 0

/-- Whether work runs on a block, after which an order takes effect (R520). -/
def State.blockBusy (s : State) (b : Nat) : Bool :=
  let cluster (k : ClusterId) : Bool := (List.range k.cores).any (fun n => s.bit (k.busyFld n) || !(s.jobsOn k.engine n).isEmpty)
  let lanes (l : List Nat) : Bool := l.any (fun n => (s.lane n).running || !(s.jobsOn .sym n).isEmpty)
  match b with
  | 0 => cluster .big
  | 1 => cluster .lat
  | 2 => lanes (List.range 8)
  | 3 => lanes ((List.range 8).map (· + 8))
  | 4 => s.bit (.WLD_DMAc_STATUS_BUSY 2) || s.bit (.WLD_DMAc_STATUS_BUSY 3)
  | 7 => s.bit .MGP_TX_STATUS_BUSY
  | _ => false

/-- The state that CLK_OFF and PWR_OFF order of a block: 0 on, 1 clock off, 2 power off (R520, R529). -/
def State.gateOrdered (s : State) (b : Nat) : Nat :=
  if s.bit (.PWR_GATEb_PWR_OFF b) then 2 else if s.bit (.PWR_GATEb_CLK_OFF b) then 1 else 0

/-- The change of a block begins (R520): both card ports are deactivated first. -/
def State.gateBegin (s : State) (b target : Nat) : State :=
  let s := if b = 5 && target != 0 then [0, 1].foldl (fun s p => if s.portState p = psEmpty then s else s.cardDone p) s else s
  let s := { s with power := { s.power with orders := mset (fun _ => none) s.power.orders b none,
                                            changing := mset (fun _ => none) s.power.changing b (some target) } }
  s.put (.PWR_GATEb_STATE b) 3

/-- An order of a block: it begins at once, after the work that runs on the block, or, for an application
core, at its next WFI in the normal world (R520). -/
def State.gateOrder (s : State) (b : Nat) : State :=
  let target := s.gateOrdered b
  let wait := target != 0 && (s.blockBusy b || (8 ≤ b && b ≤ 10))
  if wait then { s with power := { s.power with orders := mset (fun _ => none) s.power.orders b (some target) } }
  else s.gateBegin b target

/-- Orders whose blocks have ended their work begin (R520). -/
def State.gateSweep (s : State) : State :=
  (List.range 12).foldl (fun s b =>
    match mget (fun _ => none) s.power.orders b with
    | some target => if s.blockBusy b || (8 ≤ b && b ≤ 10) then s else s.gateBegin b target
    | none => s) s

/-- Writes CLK_OFF and PWR_OFF of a block and orders the change. -/
def State.gateWrite (s : State) (b : Nat) (clkOff pwrOff : Bool) : State :=
  ((s.putBit (.PWR_GATEb_CLK_OFF b) clkOff).putBit (.PWR_GATEb_PWR_OFF b) pwrOff).gateOrder b

/-- A normal-world write of a locked block's page is refused with BEZEL_DENY and recorded (R403, R521). -/
def State.gateDenied (s : State) (b : Nat) : State :=
  let a := 0x10201000 + 0x1000 * b
  let p := (s.regionOf a).getD (0, 0)
  s.bezelFault agCpuN akWrite a 4 1 p.1 p.2

/-- PWR_GATE_WRITE (R520, R521). -/
def execPwrGateWrite (w : World) (block : Nat) (clkOff pwrOff : Bool) (s : State) : Host.Outcome State Fault Refusal :=
  if block > 11 then .next s
  else if w == .normal && s.gateLocked block then .next (s.gateDenied block)
  else .next (s.gateWrite block clkOff pwrOff)

/-- GATE_TRANSITION_COMPLETE (R520). -/
def execGateTransitionComplete (block : Nat) (s : State) : Host.Outcome State Fault Refusal :=
  match mget (fun _ => none) s.power.changing block with
  | none => .next s.gateSweep
  | some target =>
    let s := { s with power := { s.power with changing := mset (fun _ => none) s.power.changing block none } }
    .next (s.put (.PWR_GATEb_STATE block) target)

/-- A gating request executed (R520, R522): ACTION 0 CLK_ON, 1 CLK_OFF, 2 PWR_ON, 3 PWR_OFF. -/
def State.gateAction (s : State) (b action : Nat) : State :=
  match action with
  | 0 => s.gateWrite b false (s.bit (.PWR_GATEb_PWR_OFF b))
  | 1 => s.gateWrite b true (s.bit (.PWR_GATEb_PWR_OFF b))
  | 2 => s.gateWrite b (s.bit (.PWR_GATEb_CLK_OFF b)) false
  | _ => s.gateWrite b true true

/-- A normal-world request (R522): executed, deferred under its lock, or refused while one is deferred. -/
def State.nsGate (s : State) (b action : Nat) : State :=
  if b > 11 then s
  else
    let s := (s.put .PWR_NS_REQ_BLOCK b).put .PWR_NS_REQ_ACTION action
    let s := s.put .PWR_NS_STATUS_BLOCK b
    if s.worlds.deferred.isSome then s.put .PWR_NS_STATUS_STATE 3
    else if s.gateLocked b then ({ s with worlds := { s.worlds with deferred := some (b, action) } }.put .PWR_NS_STATUS_STATE 1).raiseIrq 9
    else ((s.gateAction b action).put .PWR_NS_STATUS_STATE 2).raiseIrq 10

/-- NS_GATE_CLK_ON (R522). -/
def execNsGateClkOn (block : Nat) (s : State) : Host.Outcome State Fault Refusal := .next (s.nsGate block 0)
/-- NS_GATE_CLK_OFF (R522). -/
def execNsGateClkOff (block : Nat) (s : State) : Host.Outcome State Fault Refusal := .next (s.nsGate block 1)
/-- NS_GATE_PWR_ON (R522). -/
def execNsGatePwrOn (block : Nat) (s : State) : Host.Outcome State Fault Refusal := .next (s.nsGate block 2)
/-- NS_GATE_PWR_OFF (R522). -/
def execNsGatePwrOff (block : Nat) (s : State) : Host.Outcome State Fault Refusal := .next (s.nsGate block 3)

/-- PWR_LOCK_WRITE (R521, R522): a lock released executes the request deferred under it. -/
def execPwrLockWrite (locks : Nat) (s : State) : Host.Outcome State Fault Refusal :=
  let s := s.put .PWR_LOCK_LOCK locks
  match s.worlds.deferred with
  | none => .next s
  | some (b, action) =>
    if s.gateLocked b then .next s
    else
      let s := { s with worlds := { s.worlds with deferred := none } }
      .next (((s.gateAction b action).put .PWR_NS_STATUS_STATE 2).raiseIrq 10)

/-- PWR_DEFER_CANCEL (R522). -/
def execPwrDeferCancel (s : State) : Host.Outcome State Fault Refusal :=
  match s.worlds.deferred with
  | none => .next s
  | some _ => .next (({ s with worlds := { s.worlds with deferred := none } }.put .PWR_NS_STATUS_STATE 4).raiseIrq 10)

/-- WFI (R520): a normal-world core with an order pending for its block stops there. -/
def execWfi (core : Nat) (s : State) : Host.Outcome State Fault Refusal :=
  if core > 3 || core = 0 then .next s
  else
    match mget (fun _ => none) s.power.orders (core + 7) with
    | some target => if nbit (s.get .WLD_STATUS_SECURE) core then .next s else .next (s.gateBegin (core + 7) target)
    | none => .next s

end Sys2Proof.Machine
end

