-- ==== Sys2Proof/Machine/AlarmOps.lean ====
section
/-! DEFINITION. The sources of alarms, the ends of erasures, and the clearing of HALT (R409 to R427, R541). -/

namespace Sys2Proof.Machine

/-! ## The enclosure loops (R411 to R413, R423, R424) -/

/-- Whether the main domain runs, so that a confirmed loop gets the main domain's response. -/
def State.mainRuns (s : State) : Bool :=
  !(s.power.mode == .sleep || s.power.mode == .off || s.power.mode == .held)

/-- STATE of loop `n` in ALM_LOOP_STATUS from the eight readings of a sample, each a mask of the B ends: bit 0 low
when driven, bit 1 high when not driven (R411, R428). -/
def loopState (readings : List Nat) (n : Nat) : Nat :=
  let low := !nbit (readings.getD n 0) n
  let high := (List.range 8).any (fun p => p != n && nbit (readings.getD p 0) n)
  b2n low + 2 * b2n high

/-- The loops a predicate holds of, as a mask. -/
def loopMask (p : Nat → Bool) : Nat := maskOf ((List.range 8).filter p)

/-- What a sample makes of the loops: those failing it; those confirmed faulty, by two failing samples in a row;
and the count of loops whose single failing sample is now followed by a passing one (R412). -/
structure LoopJudged where
  failing : Nat
  faulty : Nat
  glitches : Nat
  deriving DecidableEq, Repr

/-- Judges a sample. -/
def Alarm.judge (a : Alarm) (readings : List Nat) : LoopJudged :=
  let fails (n : Nat) : Bool := loopState readings n != 0
  { failing := loopMask fails,
    faulty := loopMask (fun n => fails n && (nbit a.failing n || nbit a.faulty n)),
    glitches := ((List.range 8).filter (fun n => !fails n && nbit a.failing n && !nbit a.faulty n)).length }

/-- The off-power log takes a record, or counts what it has no room for (R424). -/
def Alarm.logUnpowered (a : Alarm) (loops response : Nat) (zeroised : Bool) : Alarm :=
  if a.log.length < 16 then
    { a with log := a.log ++ [{ zeroised := zeroised, loops := loops, response := response, seq := a.logSeq }], logSeq := a.logSeq + 1 }
  else { a with overflow := sat16 a.overflow }

/-- Loops confirmed while the main domain is off (R423, R424, R527): a record, and the zeroise line where a loop's
response is ZEROISE. -/
def State.unpoweredAlarm (s : State) (loops : List Nat) : State :=
  let r := maxOf (loops.map s.respOf)
  let silent := s.alarm.lifeCycle != lcProvision && s.alarm.lifeCycle != lcField
  let drive := r == rZeroise && !silent
  let s := { s with alarm := s.alarm.logUnpowered (maskOf loops) (if drive then rZeroise else rPurge) drive }
  if drive then { s with bb := Backup.init } else s

/-- Every armed loop confirmed faulty is asserted (R409). -/
def State.assertLoops (s : State) : State :=
  (List.range 8).foldl (fun s n => s.assertLevel n (nbit s.alarm.armed n && nbit s.alarm.faulty n)) s

/-- LOOP_SAMPLE (R412): `readings` are the B ends read in the eight phases. -/
def execLoopSample (readings : List Nat) (s : State) : Host.Outcome State Fault Refusal :=
  let j := s.alarm.judge readings
  let new := (List.range 8).filter (fun n => nbit j.faulty n && !nbit s.alarm.faulty n && nbit s.alarm.armed n)
  let s := { s with alarm := { s.alarm with failing := j.failing, faulty := j.faulty } }
  if s.mainRuns && s.lifeCycle < lcScrap then
    let show1 (n acc : Nat) : Nat := loopState readings n + 4 * acc
    let s := s.put .ALM_LOOP_STATUS_STATE ((List.range 8).foldr show1 0)
    let s := s.put .ALM_LOOP_GLITCH_COUNT (min 0xFFFFFFFF (s.get .ALM_LOOP_GLITCH_COUNT + j.glitches))
    .next (s.assertLoops.alarm' new)
  else if new.isEmpty then .next s
  else .next (s.unpoweredAlarm new)

/-! Arming and disarming (R413). -/

/-- The rule of a LOOPS_ARM write: every loop named reads intact. -/
def State.loopsArmRule (s : State) (mask : Nat) : Option OdResult :=
  if (List.range 8).any (fun n => nbit mask n && (s.get .ALM_LOOP_STATUS_STATE / 4 ^ n) % 4 != 0) then some .wrongState else none

/-- Loops are armed or disarmed. -/
def State.setArmed (s : State) (armed : Nat) : State :=
  { s with alarm := { s.alarm with armed := armed } }.assertLoops.showAlarm

/-- LOOPS_ARM's effect. -/
def State.loopsArm (s : State) (mask : Nat) : State := s.setArmed (s.alarm.armed ||| mask)

/-- LOOPS_DISARM's effect. -/
def State.loopsDisarm (s : State) (mask : Nat) : State := s.setArmed (loopMask (fun n => nbit s.alarm.armed n && !nbit mask n))

/-! Configured responses (R427). -/

/-- The rule of a RESPONSE write, which a signet covers. -/
def responseRule (src v : Nat) : Option OdResult := if (permitted src).contains v then none else some .range

/-- The rule of a RESPONSE_RAISE write. -/
def State.responseRaiseRule (s : State) (src v : Nat) : Option OdResult :=
  if !(permitted src).contains v then some .range else if v ≤ s.respOf src then some .wrongState else none

/-- A source's response is configured. -/
def State.setResponse (s : State) (src v : Nat) : State :=
  { s with alarm := { s.alarm with resp := mset defaultResp s.alarm.resp src v } }.showAlarm

/-- ALARMN_MIN is configured. -/
def State.setAlarmnMin (s : State) (v : Nat) : State := { s with alarm := { s.alarm with alarmnMin := v } }.showAlarm

/-! ## Clock monitors (R414, R415) -/

/-- Whether a monitor is armed. -/
def State.monitorArmed (s : State) (c : Nat) : Bool := nbit (s.get .ALM_CLK_STATUS_ARMED) c

/-- XTAL_MONITOR_ARM (R414): 100 µs after POR_N rose. -/
def execXtalMonitorArm (s : State) : Host.Outcome State Fault Refusal :=
  if s.mainRuns && s.deviceState != dsInert then .next (s.armMonitor 0 true) else .next s

/-- CLOCK_MONITOR_WINDOW (R415): a window of clock `c` ends with a deviation in units of 0.01 %; two windows in a
row outside ±3 % put it out of range, two inside bring it back. -/
def execClockMonitorWindow (c : Nat) (dev : Int) (s : State) : Host.Outcome State Fault Refusal :=
  if c > 3 || !s.monitorArmed c then .next s
  else
    let s := s.put (.ALM_CLK_DEVc_DEV c) (dev % 65536).toNat
    let count (m : SMap Nat) (on : Bool) : SMap Nat := if on then mmod (fun _ => 0) m c (· + 1) else mset (fun _ => 0) m c 0
    let out := dev > 300 || dev < -300
    let s := { s with alarm := { s.alarm with outside := count s.alarm.outside out, inside := count s.alarm.inside (!out) } }
    let bad := nbit (s.get .ALM_CLK_STATUS_OUT_OF_RANGE) c
    let range (s : State) (on : Bool) : State :=
      (s.put .ALM_CLK_STATUS_OUT_OF_RANGE (setNbit (s.get .ALM_CLK_STATUS_OUT_OF_RANGE) c on)).assertLevel (8 + c) on
    if !bad && mget (fun _ => 0) s.alarm.outside c ≥ 2 then .next ((range s true).alarm' [8 + c])
    else if bad && mget (fun _ => 0) s.alarm.inside c ≥ 2 then .next (range s false)
    else .next s

/-- CLOCK_SHORT_CYCLE (R415). -/
def execClockShortCycle (c : Nat) (s : State) : Host.Outcome State Fault Refusal :=
  if c > 3 || !s.monitorArmed c then .next s
  else
    let s := s.put .ALM_CLK_STATUS_SHORT_SEEN (setNbit (s.get .ALM_CLK_STATUS_SHORT_SEEN) c true)
    .next (s.alarm' [12 + c])

/-- FIRMWARE_ALARM_RAISE (R409, R428): source 23 with the response written; other values are ignored. -/
def execFirmwareAlarmRaise (response : Nat) (s : State) : Host.Outcome State Fault Refusal :=
  if 2 ≤ response && response ≤ 4 then .next (s.alarms [(23, response)] false) else .next s

/-! ## The ends of erasures (R88, R375, R417) -/

/-- A job a PURGE aborted takes its stamp in the cycle the erasure ended; a release under way becomes
ALARM_ABORT with no output. -/
def State.purgeJob (s : State) (id : Nat) (j : Job) : State :=
  let s := match j.unit with
    | some (e, n) => s.leaveUnit e n false
    | none => s
  if j.stage == .detached then s.setJob id none
  else if j.stamp.isSome then
    s.setJob id (some { j with unit := none, status := .alarmAbort, detail := 0x0C02, output := [], resultHandle := 0, stamp := some s.now })
  else s.stampWith id { j with unit := none } .alarmAbort 0x0C02

/-- Enables open by a token until the next main reset (R449, R450). -/
def State.openEnables (s : State) (e : Nat) : State :=
  (s.put .LCS_DEBUG_ENABLES (s.get .LCS_DEBUG_ENABLES ||| e)).put .LCS_DEBUG_BY_TOKEN (s.get .LCS_DEBUG_BY_TOKEN ||| e)

/-- After the PURGE of a token that opens a secure enable (R353): HM3 is extended with the new word, the clasp
lapses, the unit is NOT_ACTIVE; a migration walk stops (R355). -/
def State.openSecure (s : State) : State :=
  match s.lcs.opening with
  | none => s
  | some e =>
    let s := { s with lcs := { s.lcs with opening := none }, store := { s.store with walking := false } }
    let s := ((s.openEnables e).extendHm3).putBit .KLD_STATUS_HM3_RUNTIME true
    let s := s.lapseClasp
    { s with strand := { s.strand with role := .notActive } }.refreshDeviceState.showRoots

/-- PURGE_ERASURE_COMPLETE (R88, R417): the completions follow as RESULT_RELEASE. -/
def execPurgeErasureComplete (s : State) : Host.Outcome State Fault Refusal :=
  if !s.bit .ALM_STATUS_PURGING || s.zeroised then .next s
  else
    let s := s.eraseEngines
    let s := s.jobsInOrder.foldl (fun s e => s.purgeJob e.1 e.2) s
    let s := { s with ladder := { s.ladder with fwRequest := none } }.putBit .KLD_FW_STATUS_BUSY false
    let due (d : Drbg) : Drbg := { d with due := d.inst && !s.rng.stopped }
    let s := s.setRng { s.rng with drbgs := s.rng.drbgs.map due }
    .next (((s.sweepLanes.putBit .ALM_STATUS_PURGING false).showRoots.openSecure).showAlarmN)

/-- What the hardware zeroise line erases beside the memories of PURGE (R236, R329, R375, R417): the BBRAM secret
area, the scramble keys, the DRBG states, PIN buffers, signets and approvals. -/
def State.zeroiseStores (s : State) : State :=
  let s := { s.eraseEngines with bb := Backup.init, jobs := [] }
  let s := { s with officers := { s.officers with signet := Signet.init, zeroiseArm := none, creating := none, approvals := [], lastRecord := [] } }
  let s := { s with ladder := { s.ladder with fwRequest := none, available := false } }
  (s.putBit .KLD_FW_STATUS_BUSY false).uninstantiate

/-- ZEROISE_ERASURE_COMPLETE (R417): no completion is written; DEVICE_STATE is ZEROISED. -/
def execZeroiseErasureComplete (s : State) : Host.Outcome State Fault Refusal :=
  if !s.alarm.zeroising then .next s
  else
    let s := s.zeroiseStores.sweepLanes.putBit .FLL_STATUS_HB false
    let s := { s with alarm := { s.alarm with zeroising := false } }
    .next ((s.showRng.showRoots.refreshDeviceState).showAlarmN)

/-! ## Clearing HALT (R418) -/

/-- Level sources at a response of HALT or above are asserted. -/
def State.levelHolds (s : State) : Bool :=
  (List.range 12).any (fun src => nbit (s.get .ALM_ASSERTED_LEVEL) src && s.respOf src ≥ rHalt)

/-- A job a HALT stopped leaves its engine (R88). -/
def State.leaveStopped (s : State) (id : Nat) (j : Job) : State :=
  match j.unit with
  | some (e, n) =>
    if j.stage == .detached && j.ended then (s.setJob id none).leaveUnit e n false
    else if j.forced.isSome && j.stamp.isNone then
      (s.setJob id (some { j with unit := none })).leaveUnit e n false
    else s
  | none => s

/-- HALT ends in this cycle: held results take their stamps, stopped work ends ALARM_ABORT (R88, R282, R298,
R308, R418, R539). -/
def State.clearHalt (s : State) : State :=
  let s := { s.putBit .ALM_STATUS_HALTED false with alarm := { s.alarm with halt := 0 } }
  let s := s.clearStopped
  let s := s.jobsInOrder.foldl (fun s e => s.leaveStopped e.1 e.2) s
  let pol (k : ClusterId) (s : State) : State :=
    let n := s.get k.polCoreFld
    if s.coreState k n == csPolishing then
      (s.moveCore k n csActive).putBit k.polBusyFld false
    else s
  let update (k : ClusterId) (s : State) : State := (List.range k.cores).foldl (fun s n => s.updateCore k n) s
  let s := update .lat (pol .lat (update .big (pol .big s)))
  (s.refreshDeviceState.settle.sweepLanes).showAlarmN

/-- HALT_CLEAR (R418). -/
def execHaltClear (s : State) : Host.Outcome State Fault Refusal :=
  if s.zeroised || s.bit .ALM_STATUS_PURGING || s.levelHolds then .next (s.putBit .ALM_STATUS_CLEAR_REFUSED true)
  else if !s.halted then .next s
  else .next s.clearHalt

/-! ## BBRAM and the cells (R421, R541) -/

/-- A BBRAM check has failed (R421): the alarm area, where it is the one, is rewritten with every loop armed and every
response at its default. -/
def State.bbramFails (s : State) (alarmArea : Bool) : State :=
  let s := if alarmArea then
      { s with alarm := { s.alarm with armed := 0xFF, resp := [], alarmnMin := 2, log := [], overflow := 0, logSeq := 0 } }.assertLoops.showAlarm
    else s
  s.alarm' [20]

/-- BBRAM_PERIODIC_CHECK (R421): the areas whose checks fail; the contents of a BBRAM whose supplies were lost fail
theirs. -/
def execBbramPeriodicCheck (secretBad alarmBad : Bool) (s : State) : Host.Outcome State Fault Refusal :=
  if !s.mainRuns then .next s
  else if secretBad || alarmBad || s.bb.lost then .next (s.bbramFails (alarmBad || s.bb.lost))
  else .next s

/-- VBAT_MEASURE (R541): the cell voltages in millivolts. -/
def execVbatMeasure (aMv bMv : Nat) (s : State) : Host.Outcome State Fault Refusal :=
  if s.mainRuns then .next ((s.put .ALM_VBAT_A_MV aMv).put .ALM_VBAT_B_MV bMv) else .next s

/-! ## Polishing (R531 to R539) -/

/-- POL_CTRL.ENABLE of a cluster. -/
def ClusterId.polEnableFld : ClusterId → Fld
  | .big => .BGN_POL_CTRL_ENABLE
  | .lat => .LAT_POL_CTRL_ENABLE
/-- POL_CTRL.AUTO_PROMOTE. -/
def ClusterId.polAutoFld : ClusterId → Fld
  | .big => .BGN_POL_CTRL_AUTO_PROMOTE
  | .lat => .LAT_POL_CTRL_AUTO_PROMOTE
/-- POL_CTRL.INTERVAL. -/
def ClusterId.polIntervalFld : ClusterId → Fld
  | .big => .BGN_POL_CTRL_INTERVAL
  | .lat => .LAT_POL_CTRL_INTERVAL
/-- POL_STATUS.FAIL. -/
def ClusterId.polFailFld : ClusterId → Fld
  | .big => .BGN_POL_STATUS_FAIL
  | .lat => .LAT_POL_STATUS_FAIL
/-- POL_STATUS.LAST_FAIL. -/
def ClusterId.polLastFailFld : ClusterId → Fld
  | .big => .BGN_POL_STATUS_LAST_FAIL
  | .lat => .LAT_POL_STATUS_LAST_FAIL
/-- POL_PASSES. -/
def ClusterId.polPassesFld : ClusterId → Fld
  | .big => .BGN_POL_PASSES_COUNT
  | .lat => .LAT_POL_PASSES_COUNT
/-- POL_FAILS. -/
def ClusterId.polFailsFld : ClusterId → Fld
  | .big => .BGN_POL_FAILS_COUNT
  | .lat => .LAT_POL_FAILS_COUNT

/-- The cluster a row names. -/
def clusterOf (lattice : Bool) : ClusterId := if lattice then .lat else .big

/-- The core a slot selects (R532, R539): the lowest promoted since the previous slot, else the next ACTIVE one
after the core last selected. -/
def State.polPick (s : State) (k : ClusterId) : Option Nat :=
  let ok (n : Nat) : Bool := s.coreState k n == csActive && !(k == .big && (s.engines.akey.getD []).contains n)
  match (s.cluster k).promoted.find? ok with
  | some n => some n
  | none => nextAfter (s.get k.polCoreFld) ((List.range k.cores).filter ok)

/-- POLISH_SLOT (R532): a slot opens INTERVAL ticks after the previous one. -/
def execPolishSlot (lattice : Bool) (s : State) : Host.Outcome State Fault Refusal :=
  let k := clusterOf lattice
  let c := s.cluster k
  if !s.bit k.polEnableFld || s.time.tick < c.polSlot + s.get k.polIntervalFld || s.power.mode != .active ||
      s.bit k.polBusyFld || s.halted then .next s
  else
    let pick := s.polPick k
    let s := s.setCluster k { c with polSlot := s.time.tick, promoted := [] }
    match pick with
    | none => .next s
    | some n => .next (((s.put k.polCoreFld n).putBit k.polBusyFld true).updateCore k n)

/-- The lowest-numbered spare. -/
def State.lowestSpare (s : State) (k : ClusterId) : Option Nat := (List.range k.cores).find? (fun n => s.coreState k n == csSpare)

/-- A polishing test has failed (R534): the core is FENCED in that cycle, and a spare follows where automatic
promotion is on. -/
def State.polishFail (s : State) (k : ClusterId) (n : Nat) : State :=
  let s := s.moveCore k n csFenced
  let s := ((s.put k.polLastFailFld n).count k.polFailsFld).putBit k.polFailFld true
  let s := s.raiseIrq k.irqSource
  match s.bit k.polAutoFld, s.lowestSpare k with
  | true, some m => s.promote k m
  | _, _ => s

/-- The tests from number `i` on, `left` of them, each passing after its nominal time (R533). -/
def State.passTests (s : State) (k : ClusterId) (n : Nat) : Nat → Nat → State
  | _, 0 => s
  | i, left + 1 => (s.nextTest k n i (((k.tests[i]?).map (·.ns)).getD 0)).passTests k n (i + 1) left

/-- POLISH_SEQUENCE_END (R533, R534): the tests have run in their order. `failed` is the first that fails: an output, REJECT
or its cycle count differs; with none the sequence passes. -/
def execPolishSequenceEnd (lattice : Bool) (failed : Option Nat) (s : State) : Host.Outcome State Fault Refusal :=
  let k := clusterOf lattice
  let n := s.get k.polCoreFld
  if s.coreState k n != csPolishing || s.halted then .next s
  else
    match failed with
    | none =>
      let s := (s.passTests k n 0 k.tests.length).putBit k.polBusyFld false
      .next (((s.moveCore k n csActive).count k.polPassesFld).updateCore k n)
    | some i =>
      let s := s.passTests k n 0 (min i (k.tests.length - 1))
      let s := (s.put (k.cyclesFld n) (Config.freeNat s.free % 2 ^ 32)).putBit (k.rejectFld n) (Config.freeNat (s.free + 1) % 2 == 1)
      .next (({ s with free := s.free + 2 }.quitTest k n).putBit k.polBusyFld false |>.polishFail k n)

end Sys2Proof.Machine
end

