-- ==== Sys2Proof/Machine/Bezel.lean ====
section
/-! DEFINITION. Commits of the Bezel table and the world windows (R397, R398, R402), cores and their worlds (R380 to
R385), the L2 ways. -/

namespace Sys2Proof.Machine

/-! ## Commits (R397, R398, R402) -/

/-- The registers of a span, as they stand. -/
def State.regSpan (s : State) (lo hi : Nat) : SMap Word := s.regs.filter (fun e => lo ≤ e.1 && e.1 < hi)

/-- BEZEL_COMMIT (R397, R398): the shadow becomes the active table; ignored and counted while an older
generation remains. -/
def execBezelCommit (s : State) : Host.Outcome State Fault Refusal :=
  if s.get .BZL_GEN_ACTIVE_GEN != s.get .BZL_GEN_COMMITTED_GEN then .next (s.count .BZL_LOCK_REFUSED_COUNT)
  else
    let s := s.put .BZL_GEN_COMMITTED_GEN ((s.get .BZL_GEN_COMMITTED_GEN + 1) % 65536)
    .next ({ s with worlds := { s.worlds with bzl := s.regSpan 0x10001000 0x10005000 } }.putBit .BZL_STATUS_DRAINING true)

/-- BEZEL_GEN_ACTIVE (R397). -/
def execBezelGenActive (s : State) : Host.Outcome State Fault Refusal :=
  .next ((s.put .BZL_GEN_ACTIVE_GEN (s.get .BZL_GEN_COMMITTED_GEN)).putBit .BZL_STATUS_DRAINING false)

/-- Whether BZL_MODE may be written (R394). -/
def State.modeOpen (s : State) : Bool :=
  !s.worlds.modeWritten && s.lifeCycle != lcBlank && s.lifeCycle != lcAnalysis &&
    !(s.bit .LCS_BOOT_RECOVERY && s.deviceState == dsRecovery)

/-- The first write of BZL_MODE decides until main reset. -/
def State.writeMode (s : State) (on : Bool) : State :=
  if s.modeOpen then
    ({ s with worlds := { s.worlds with modeWritten := true } }.putBit .BZL_MODE_SERVICE on).putBit .BZL_STATUS_MODE on
  else s

/-- BEZEL_MODE_WRITE (R394). -/
def execBezelModeWrite (service : Bool) (s : State) : Host.Outcome State Fault Refusal := .next (s.writeMode service)

/-- WORLD_COMMIT (R402). -/
def execWorldCommit (s : State) : Host.Outcome State Fault Refusal :=
  if s.get .WLD_GEN_ACTIVE_GEN != s.get .WLD_GEN_COMMITTED_GEN then .next (s.count .BZL_LOCK_REFUSED_COUNT)
  else
    let s := s.put .WLD_GEN_COMMITTED_GEN ((s.get .WLD_GEN_COMMITTED_GEN + 1) % 65536)
    .next { s with worlds := { s.worlds with wld := s.regSpan 0x10100100 0x10100300 } }

/-- WORLD_GEN_ACTIVE (R402). -/
def execWorldGenActive (s : State) : Host.Outcome State Fault Refusal :=
  .next (s.put .WLD_GEN_ACTIVE_GEN (s.get .WLD_GEN_COMMITTED_GEN))

/-! ## Cores and their worlds (R380 to R385) -/

/-- Whether a core runs in the secure world. -/
def State.coreSecure (s : State) (c : Nat) : Bool := nbit (s.get .WLD_STATUS_SECURE) c

/-- A core changes world (R381): it goes on at `pc`. -/
def State.switchWorld (s : State) (c : Nat) (secure : Bool) (pc : Nat) : State :=
  let s := s.put .WLD_STATUS_SECURE (setNbit (s.get .WLD_STATUS_SECURE) c secure)
  let s := s.put (.WLD_SWITCHESc_COUNT c) (s.get (.WLD_SWITCHESc_COUNT c) + 1)
  { s with worlds := { s.worlds with pcs := mset (fun _ => 0) s.worlds.pcs c pc } }

/-- The secure entry vector. -/
def State.sentry (s : State) : Nat := s.get64 .WLD_SENTRY_LO_ADDR .WLD_SENTRY_HI_ADDR

/-- Entry to the secure world: the return address is saved (R380). -/
def State.enterSecure (s : State) (c resume : Nat) : State :=
  let s := { s with worlds := { s.worlds with resume := mset (fun _ => 0) s.worlds.resume c resume } }
  s.switchWorld c true s.sentry

/-- An exception is raised on a core, in its current world (R380, R391); its handler is the core's own, by the
RISC-V privileged architecture (log entry 30). -/
def State.coreException (s : State) (c : Nat) (e : CoreExc) : State :=
  { s with worlds := { s.worlds with exc := mset (fun _ => none) s.worlds.exc c (some (e, s.coreSecure c)) } }

/-- WSW (R380): from the normal world only; in the secure world an illegal-instruction exception. -/
def execWsw (core resume : Nat) (s : State) : Host.Outcome State Fault Refusal :=
  if core > 3 then .next s
  else if s.coreSecure core then .next (s.coreException core .illegalInstruction)
  else .next (s.enterSecure core resume)

/-- The core a source is delivered to (R384). -/
def State.irqCore (s : State) (src : Nat) : Nat :=
  let w := if src < 16 then s.get .WLD_IRQ_CORE_LO_CORE else s.get .WLD_IRQ_CORE_HI_CORE
  w / 4 ^ (src % 16) % 4

/-- Whether a source is of the secure world. -/
def State.irqSecure (s : State) (src : Nat) : Bool := nbit (s.get .WLD_IRQ_WORLD_SECURE) src

/-- The normal-world sources delivered to a core. -/
def State.normalOf (s : State) (c : Nat) : List Nat := (List.range 32).filter (fun i => !s.irqSecure i && s.irqCore i == c)

/-- The normal interrupts that stayed pending on a core are taken in the normal world (R385; log entry 8): their slice
episodes end. -/
def State.takeNormal (s : State) (c : Nat) : State :=
  let l := s.normalOf c
  let s := { s with worlds := { s.worlds with sliced := s.worlds.sliced.filter (fun i => !l.contains i) } }
  s.put .WLD_IRQ_PEND_PEND (l.foldl (fun v i => setNbit v i false) (s.get .WLD_IRQ_PEND_PEND))

/-- A core returns to the normal world: it takes the interrupts that waited (R385), and gating requests that waited for it
take effect (R520, R528). -/
def State.leaveSecure (s : State) (c : Nat) : State :=
  let s := (s.switchWorld c false (mget (fun _ => 0) s.worlds.resume c)).takeNormal c
  match mget (fun _ => none) s.power.orders (c + 7) with
  | some t => if c = 0 then s else s.gateBegin (c + 7) t
  | none => s

/-- WRET (R380). -/
def execWret (core : Nat) (s : State) : Host.Outcome State Fault Refusal :=
  if core > 3 then .next s
  else if s.coreSecure core then .next (s.leaveSecure core)
  else .next (s.coreException core .illegalInstruction)

/-- SECURE_INTERRUPT_TAKEN (R380, R385): a pending secure source on a core in the normal world; taken, it is
no longer pending. -/
def execSecureInterruptTaken (src resume : Nat) (s : State) : Host.Outcome State Fault Refusal :=
  let c := s.irqCore src
  if src < 32 && nbit (s.get .WLD_IRQ_PEND_PEND) src && s.irqSecure src && !s.coreSecure c then
    .next ((s.put .WLD_IRQ_PEND_PEND (setNbit (s.get .WLD_IRQ_PEND_PEND) src false)).enterSecure c resume)
  else .next s

/-- WORLD_SLICE_EXPIRY (R385): a normal source pending on a core in the secure world raises source 3 once for
the episode. -/
def execWorldSliceExpiry (src : Nat) (s : State) : Host.Outcome State Fault Refusal :=
  if src < 32 && nbit (s.get .WLD_IRQ_PEND_PEND) src && !s.irqSecure src && s.coreSecure (s.irqCore src) &&
      s.get .WLD_SLICE_US != 0 && !s.worlds.sliced.contains src then
    .next ({ s with worlds := { s.worlds with sliced := src :: s.worlds.sliced } }.raiseIrq 3)
  else .next s

/-- L2_WAYS_WRITE (R382): at least two ways in each world; the new mask applies at the end of the flush. -/
def execL2WaysWrite (mask : Nat) (s : State) : Host.Outcome State Fault Refusal :=
  let n := popCount 16 mask
  if n < 2 || n > 14 || mask ≥ 65536 || s.bit .WLD_L2_WAYS_BUSY then .next s
  else if mask = s.get .WLD_L2_WAYS_SECURE then .next s
  else .next ({ s with worlds := { s.worlds with l2Mask := some mask } }.putBit .WLD_L2_WAYS_BUSY true)

/-- L2_WAY_FLUSH_COMPLETE (R382). -/
def execL2WayFlushComplete (s : State) : Host.Outcome State Fault Refusal :=
  match s.worlds.l2Mask with
  | none => .next s
  | some m => .next (({ s with worlds := { s.worlds with l2Mask := none } }.put .WLD_L2_WAYS_SECURE m).putBit .WLD_L2_WAYS_BUSY false)

end Sys2Proof.Machine
end

