-- ==== Sys2Proof/Machine/Pair.lean ====
section
/-! DEFINITION. The pair domain, the Flallani link, the clasp passed and the standby's visits (R244 to R264). -/

namespace Sys2Proof.Machine

/-! ## What the unit says of itself (R245, R250, R263) -/

/-- Changes the link's own state. -/
def State.modPair (s : State) (f : PairUnit → PairUnit) : State := { s with pair := f s.pair }

/-- PAIR_STATE: 0 NONE, 1 SOLO, 2 PAIRED. -/
def State.pairState (s : State) : Nat := if s.bb.pairSecret.isNone then 0 else if s.bb.paired then 2 else 1

/-- The code of a role (R263). -/
def UnitRole.code : UnitRole → Nat
  | .candidate => 0 | .active => 1 | .handingOver => 2 | .notActive => 3

/-- LINK_STATE codes (R263). -/
def lkDown : Nat := 0
/-- HELLO. -/
def lkHello : Nat := 1
/-- UP. -/
def lkUp : Nat := 2
/-- MISMATCH. -/
def lkMismatch : Nat := 3
/-- POSITION_CLASH. -/
def lkClash : Nat := 4

/-- LINK_STATE. -/
def State.link (s : State) : Nat := s.get .FLL_STATUS_LINK

/-- Whether a session is UP. -/
def State.linkUp (s : State) : Bool := s.link == lkUp

/-- Whether the link's transmitter and receiver work (R264, R520). -/
def State.linkOn (s : State) : Bool := s.bit .FLL_CTRL_LINK_EN && s.gateOn 6

/-- INSTALLS_LEFT (R246). -/
def State.installsLeft (s : State) : Nat := 16 - s.lcs.installs

/-- Whether both HELLOs have passed with different positions. -/
def State.met (s : State) : Bool :=
  match s.pair.sent, s.pair.got with
  | some a, some b => a.position != b.position
  | _, _ => false

/-- Whether both HELLOs agree, so that frames can be sealed. -/
def State.agreed (s : State) : Bool :=
  match s.pair.sent, s.pair.got with
  | some a, some b => a.position != b.position && a.domain == b.domain && s.bb.pairSecret.isSome
  | _, _ => false

/-- The session key (R251). -/
def State.sessionKey (s : State) : Option Bytes :=
  match s.pair.sent, s.pair.got with
  | some a, some b =>
    let (n0, n1) := if a.position = 0 then (a.nonce, b.nonce) else (b.nonce, a.nonce)
    (s.pairLinkKey (min a.svn b.svn)).map (fun k =>
      (Config.hmac 0x03 k (ascii [0x4B, 0x4E, 0x46, 0x4C, 0x53, 0x45, 0x53, 0x53] ++ n0 ++ n1)).take 32)
  | _, _ => none

/-- Both session nonces, position 0 first (R250). -/
def State.sessionNonces (s : State) : Bytes :=
  match s.pair.sent, s.pair.got with
  | some a, some b => if a.position = 0 then a.nonce ++ b.nonce else b.nonce ++ a.nonce
  | _, _ => []

/-! ## Frames and messages (R249, R250) -/

/-- The header of a frame: TYPE, FROM, FLAGS with CLEAR, LENGTH of the payload, SEQ. -/
def frameHead (type position : Nat) (clear : Bool) (len seq : Nat) : Bytes :=
  le 1 type ++ le 1 position ++ le 1 clear.toNat ++ zeros 1 ++ le 2 len ++ zeros 2 ++ le 8 seq

/-- The nonce of a frame under a session key: FROM, three zero octets, SEQ. -/
def frameNonce (position seq : Nat) : Bytes := le 1 position ++ zeros 3 ++ le 8 seq

/-- A frame sealed with AES-256-GCM, its header the additional authenticated data. -/
def sealFrame (key nonce : Bytes) (type position seq : Nat) (payload : Bytes) : LinkFrame :=
  let head := frameHead type position false payload.length seq
  let x := Config.aeadSeal 1 16 key nonce head payload
  { head := head, body := x.take payload.length, tag := x.drop payload.length }

/-- The unit's position (R248). -/
def State.position (s : State) : Nat := s.get .FLL_STATUS_POSITION

/-- Payload of HELLO. -/
def HelloData.body (h : HelloData) : Bytes :=
  le 8 h.serial ++ le 1 h.svn ++ le 1 h.position ++ le 1 h.pairState ++ le 1 h.role ++ zeros 4 ++ le 8 h.domain ++ padTo 16 h.nonce

/-- Of HEAD. -/
def headBody (bead : Nat) (hash : Bytes) (gen : Nat) (visit : Bool) : Bytes :=
  le 8 bead ++ padTo 32 hash ++ le 4 gen ++ le 1 visit.toNat ++ zeros 3

/-- Of VISIT_DONE. -/
def visitDoneBody (bead : Nat) : Bytes := le 8 bead

/-- Of READY. -/
def readyBody (head gen : Nat) : Bytes := le 8 head ++ le 4 gen ++ zeros 4

/-- Of CLASP_PASS. -/
def claspPassBody (gen final : Nat) (hash : Bytes) : Bytes := le 4 gen ++ zeros 4 ++ le 8 final ++ padTo 64 hash

/-- Of CLASP_ACK. -/
def claspAckBody (gen : Nat) : Bytes := le 4 gen ++ zeros 4

/-- Of CLASP_NAK. -/
def claspNakBody (reason : Nat) : Bytes := le 1 reason ++ zeros 7

/-- Of KEEPALIVE. -/
def keepaliveBody (role : Nat) : Bytes := le 1 role ++ zeros 7

/-- The signed part of PAIR_OFFER. -/
def PairMessage.offerBody (m : PairMessage) : Bytes :=
  le 8 m.sender ++ le 8 m.receiver ++ le 8 m.domain ++ padTo 520 m.idKey ++ padTo 1568 m.kem ++ padTo 97 m.point ++
  le 1 m.officers.length ++ (m.officers.map (padTo 97)).flatten

/-- Of PAIR_REPLY. -/
def PairMessage.replyBody (m : PairMessage) : Bytes :=
  le 8 m.receiver ++ padTo 520 m.idKey ++ padTo 1568 m.kem ++ padTo 97 m.point

/-- Of PAIR_DONE. -/
def PairMessage.doneBody (m : PairMessage) : Bytes := le 8 m.receiver ++ le 8 m.domain ++ le 1 m.installs ++ zeros 7

/-! ## Sending (R249, R264) -/

/-- A frame is sent: FLL_TX_FRAMES counts it. -/
def State.sendLink (s : State) (f : LinkFrame) : State :=
  if s.linkOn then
    (s.modPair (fun p => { p with out := p.out ++ [.frame f] })).put .FLL_TX_FRAMES_COUNT (s.get .FLL_TX_FRAMES_COUNT + 1)
  else s

/-- A frame accepted: FLL_RX_FRAMES counts it. -/
def State.countRx (s : State) : State := s.put .FLL_RX_FRAMES_COUNT (s.get .FLL_RX_FRAMES_COUNT + 1)

/-- A CLEAR frame is sent; its SEQ is 0 (log entry 68). -/
def State.sendClear (s : State) (type : Nat) (payload : Bytes) : State :=
  s.sendLink { head := frameHead type s.position true payload.length 0, body := payload, tag := [] }

/-- A sealed frame of the session takes the next SEQ. -/
def State.sendSealed (s : State) (type : Nat) (payload : Bytes) : State :=
  match s.sessionKey with
  | some k =>
    if s.linkOn then
      let n := s.pair.txSeq + 1
      (s.modPair (fun p => { p with txSeq := n })).sendLink (sealFrame k (frameNonce s.position n) type s.position n payload)
    else s
  | none => s

/-- A pulse of 10 µs on FLL_WAKE_OUT (R258). -/
def State.wakePulse (s : State) : State := s.modPair (fun p => { p with out := p.out ++ [.wakePulse] })

/-- HELLO is sent (R250, R251): it waits for RNG_READY; the nonce is drawn for it. -/
def State.sendHello (s : State) : State :=
  if s.bit .HST_STATUS_RNG_READY && s.linkOn then
    let (nonce, s) := s.drawBytes 16
    let h : HelloData :=
      { serial := Config.fuseSerial, svn := s.svn, position := s.position, pairState := s.pairState,
        role := s.strand.role.code, domain := s.bb.domainId, nonce := nonce }
    let s := (s.modPair (fun p => { p with sent := some h, helloDue := s.time.tick + 100 })).sendClear 0x01 h.body
    if s.link = lkDown then s.put .FLL_STATUS_LINK lkHello else s
  else s

/-! ## Sessions (R251) -/

/-- A session ends; the link shows `code`, and HELLO is due after `wait` ticks. A ceremony ends with the session it runs
over (log entry 69). -/
def State.closeLink (s : State) (code wait : Nat) : State :=
  let p := s.pair
  let p := { p with sent := none, got := none, rxSeq := 0, txSeq := 0, ceremony := none }
  let p := { p with tagFails := 0, partnerReady := none, helloDue := s.time.tick + wait }
  { s with pair := p, ladder := { s.ladder with roots := mset (fun _ => none) s.ladder.roots 4 none } }.put .FLL_STATUS_LINK code

/-- Setting 4 takes the pair link key of the session (R251, R344). -/
def State.useLinkKey (s : State) (t : Nat) : State :=
  let s := s.useRoot 3 t (s.pairRoot t)
  let r := (s.pairLinkKey t).map (fun k => ({ label := 3, svn := t, key := k, lastUse := s.ladder.useClock } : RootSetting))
  { s with ladder := { s.ladder with roots := mset (fun _ => none) s.ladder.roots 4 r } }

/-- A session opens: its frames are numbered from 1, and CONFIRM is sent (R249, R251). -/
def State.openLink (s : State) : State :=
  match s.pair.sent, s.pair.got with
  | some a, some b =>
    if a.position = b.position then s.closeLink lkClash 100
    else if s.agreed then
      ((s.useLinkKey (min a.svn b.svn)).modPair (fun p => { p with lastRx := s.time.tick, rxSeq := 0, txSeq := 0 })).sendSealed 0x02 s.sessionNonces
    else s
  | _, _ => s

/-- HELLO (R250, R251, R263). -/
def execHello (h : HelloData) (s : State) : Host.Outcome State Fault Refusal :=
  if !s.linkOn then .next s
  else
    let s := s.countRx.modPair (fun p => { p with partnerRole := h.role, partnerSerial := h.serial })
    if s.linkUp then .next s else .next (s.modPair (fun p => { p with got := some h })).openLink

/-- HELLO_RETRY (R251): without a session, at its due tick. -/
def execHelloRetry (s : State) : Host.Outcome State Fault Refusal :=
  if s.linkUp || s.time.tick < s.pair.helloDue then .next s else .next s.sendHello.openLink

/-- A frame failed its tag (R264). -/
def State.noteTag (s : State) : State := (s.putBit .FLL_ERR_TAG_ERR true).count .FLL_TAG_FAILS_COUNT

/-- Sixteen tag failures close a session (R251). -/
def State.tagFailed (s : State) : State :=
  let s := s.noteTag
  let n := s.pair.tagFails + 1
  if n ≥ 16 then s.closeLink lkDown 100 else s.modPair (fun p => { p with tagFails := n })

/-- Whether a received frame's tag is that of its header and payload under the session key (R249, R251). -/
def State.tagOk (s : State) (type : Nat) (payload : Bytes) (f : FrameHead) : Bool :=
  match s.sessionKey with
  | some k => (sealFrame k (frameNonce (1 - s.position) f.seq) type (1 - s.position) f.seq payload).tag == f.tag
  | none => false

/-- A frame is discarded for its SEQ and counted (R251, R264). -/
def State.seqFailed (s : State) : State :=
  (s.putBit .FLL_ERR_SEQ_ERR true).modPair (fun p => { p with seqFails := p.seqFails + 1 })

/-- A sealed frame is received (R249, R251): one whose SEQ is not above the last, or whose tag fails, is
discarded and counted. -/
def State.frame (s : State) (type : Nat) (payload : Bytes) (f : FrameHead) : Bool × State :=
  if !s.linkOn || !s.agreed then (false, s)
  else if f.seq ≤ s.pair.rxSeq then (false, s.seqFailed)
  else if !s.tagOk type payload f then (false, s.tagFailed)
  else (true, (s.modPair (fun p => { p with rxSeq := f.seq, lastRx := s.time.tick })).countRx)

/-- A frame of a session that is UP. -/
def State.upFrame (s : State) (type : Nat) (payload : Bytes) (f : FrameHead) : Bool × State :=
  if s.linkUp then s.frame type payload f else (false, s)

/-- CONFIRM (R251): the session is UP, and a unit not active asks for the head (R259); a tag that fails is a
MISMATCH. -/
def execConfirm (f : FrameHead) (nonces : Bytes) (s : State) : Host.Outcome State Fault Refusal :=
  if s.linkUp || !s.linkOn || !s.agreed then .next s
  else if f.seq ≤ s.pair.rxSeq then .next s.seqFailed
  else if !s.tagOk 0x02 nonces f || nonces != s.sessionNonces then
    let partner := (s.pair.got.map (fun (h : HelloData) => h.serial)).getD 0
    .next ((s.noteTag.closeLink lkMismatch 1000).event 0x0404 sevWarning partner [])
  else
    let (ok, s) := s.frame 0x02 nonces f
    if !ok then .next s
    else
      let s := (s.modPair (fun p => { p with keepaliveDue := s.time.tick + 10 })).put .FLL_STATUS_LINK lkUp
      if s.strand.role == .candidate then .next (s.sendSealed 0x03 []) else .next s

/-- KEEPALIVE (R250, R251). -/
def execKeepalive (f : FrameHead) (role : Nat) (s : State) : Host.Outcome State Fault Refusal :=
  let (ok, s) := s.upFrame 0x0A (keepaliveBody role) f
  if ok then .next (s.modPair (fun p => { p with partnerRole := role })) else .next s

/-- KEEPALIVE_SEND_TIMER (R251): every 10 ticks of a session that is UP. -/
def execKeepaliveSendTimer (s : State) : Host.Outcome State Fault Refusal :=
  if s.linkUp && s.time.tick ≥ s.pair.keepaliveDue then
    .next ((s.modPair (fun p => { p with keepaliveDue := s.time.tick + 10 })).sendSealed 0x0A (keepaliveBody s.strand.role.code))
  else .next s

/-- FLALLANI_SESSION_TIMEOUT (R251): 100 ticks without a valid frame. -/
def execFlallaniSessionTimeout (s : State) : Host.Outcome State Fault Refusal :=
  if s.linkUp && s.time.tick ≥ s.pair.lastRx + 100 then .next (s.closeLink lkDown 100) else .next s

/-- FLL_RX_SYNC_ACQUIRED (R264). -/
def execFllRxSyncAcquired (s : State) : Host.Outcome State Fault Refusal := .next (s.putBit .FLL_STATUS_RX_SYNC true)

/-- FLL_LOST_SYNC (R264). -/
def execFllLostSync (s : State) : Host.Outcome State Fault Refusal :=
  .next ((s.putBit .FLL_STATUS_RX_SYNC false).putBit .FLL_ERR_LOST_SYNC true)

/-! ## Heads and visits (R258 to R260) -/

/-- Whether a visit's pulse was issued within the preceding 2,000 ticks (R259). -/
def State.visiting (s : State) : Bool :=
  (s.strand.role == .active) && (s.pair.visitPulse.map (fun t => decide (s.time.tick ≤ t + 2000))).getD false

/-- HEAD_REQ (R259). -/
def execHeadReq (f : FrameHead) (s : State) : Host.Outcome State Fault Refusal :=
  let (ok, s) := s.upFrame 0x03 [] f
  if ok then .next (s.sendSealed 0x04 (headBody s.bb.headBead s.bb.headHash s.bb.headClasp s.visiting)) else .next s

/-- Whether a restore entry has been written (R259). -/
def State.restoreWritten (s : State) : Bool :=
  (s.odStored 0x5010 2).isSome || (s.odStored 0x5010 3).isSome || s.restore.state != .empty

/-- HEAD (R259): a newer head is adopted; a visited standby reports and returns to SLEEP. -/
def execHead (f : FrameHead) (bead : Nat) (hash : Bytes) (gen : Nat) (visit : Bool) (s : State) : Host.Outcome State Fault Refusal :=
  let (ok, s) := s.upFrame 0x04 (headBody bead hash gen visit) f
  if !ok then .next s
  else
    let s := s.modPair (fun p => { p with partnerHead := some (bead, hash, gen) })
    let s := if bead > s.bb.headBead && s.strand.role == .candidate then
        { s with bb := { s.bb with headBead := bead, headHash := hash, headClasp := gen } }
      else s
    if visit && !s.restoreWritten && !s.pair.stayAwake && s.strand.role == .candidate then
      .next (s.sendSealed 0x05 (visitDoneBody s.bb.headBead)).beginSleep
    else .next s

/-- VISIT_DONE (R259). -/
def execVisitDone (f : FrameHead) (bead : Nat) (s : State) : Host.Outcome State Fault Refusal :=
  let (ok, s) := s.upFrame 0x05 (visitDoneBody bead) f
  if ok && s.pair.visitPulse.isSome then
    let t := s.time.tick
    .next (s.modPair (fun p => { p with missed := 0, lastVisit := t, visitBase := t, visitRetry := none, visitPulse := none }))
  else .next s

/-- The tick the next visit is due in: RESYNC_INTERVAL, as it is in force, after the last visit or the grant; after a
miss, when it is retried (R259, R263). -/
def PairUnit.visitDue (p : PairUnit) : Nat := p.visitRetry.getD (p.visitBase + p.resync)

/-- RESYNC_VISIT_DUE (R259, R262): postponed while handing over or while the partner is awake. -/
def execResyncVisitDue (s : State) : Host.Outcome State Fault Refusal :=
  if s.strand.role == .active && s.time.tick ≥ s.pair.visitDue && s.pair.visitPulse.isNone && !s.linkUp then
    .next (s.modPair (fun p => { p with visitPulse := some s.time.tick })).wakePulse
  else .next s

/-- VISIT_TIMEOUT (R259): 2,000 ticks without VISIT_DONE; the third miss in a row is CRITICAL. -/
def execVisitTimeout (s : State) : Host.Outcome State Fault Refusal :=
  match s.pair.visitPulse with
  | none => .next s
  | some t =>
    if s.time.tick < t + 2000 then .next s
    else
      let n := sat32 s.pair.missed
      let s := s.modPair (fun p => { p with missed := n, visitPulse := none, visitRetry := some (s.time.tick + 60000) })
      .next (s.event 0x0405 (if n = 3 then sevCritical else sevWarning) n [])

/-- FLL_WAKE (R258, R264). -/
def execFllWake (s : State) : Host.Outcome State Fault Refusal := .next s.wakePulse

/-! ## Handover (R252, R255, R256) -/

/-- The rule of HANDOVER (R255, R262): ACTIVE under a lease that stands, UP, and READY received. -/
def State.handoverOk (s : State) : Bool :=
  s.strand.role == .active && s.holdsClasp && s.linkUp && s.pair.partnerReady.isSome

/-- HANDOVER's effect: fetching stops. -/
def State.handover (s : State) : State := { s with strand := { s.strand with role := .handingOver } }

/-- CLASP_PASS is sent, and due again after 10 ticks (R255). -/
def State.sendPass (s : State) : State :=
  match s.pair.pass with
  | none => s
  | some (g, f, h) =>
    (s.modPair (fun p => { p with passDue := s.time.tick + 10 })).sendSealed 0x07 (claspPassBody g f h)

/-- HANDOVER_COMPLETE (R252, R255): the Locket is empty and the durable index covers F; after ZEROISE no pass is sent
(R262). -/
def execHandoverComplete (s : State) : Host.Outcome State Fault Refusal :=
  match s.strand.finalBead, s.strand.clasp with
  | some f, some g =>
    if s.strand.role == .handingOver && !s.zeroised && s.holdsClasp && s.jobs.isEmpty && f ≤ s.strand.durable && f ≤ s.strand.head then
      let hash := padTo 64 (s.beadLog f).1
      let s := { s with strand := { s.strand with clasp := none, role := .notActive, closed := [], ckptRunning := none } }
      let s := (s.setActive false).putBit .FLL_STATUS_HB false
      .next ((s.modPair (fun p => { p with pass := some (g, f, hash) })).sendPass.refreshDeviceState.showStrand.showRing)
    else .next s
  | _, _ => .next s

/-- CLASP_PASS_RESEND (R255). -/
def execClaspPassResend (s : State) : Host.Outcome State Fault Refusal :=
  if s.pair.pass.isSome && s.time.tick ≥ s.pair.passDue then .next s.sendPass else .next s

/-- CLASP_ACK (R255). -/
def execClaspAck (f : FrameHead) (gen : Nat) (s : State) : Host.Outcome State Fault Refusal :=
  let (ok, s) := s.upFrame 0x08 (claspAckBody gen) f
  if ok then .next (s.modPair (fun p => { p with pass := none })) else .next s

/-- CLASP_NAK (R250, R255): the pass goes on until it is acknowledged. -/
def execClaspNak (f : FrameHead) (reason : Nat) (s : State) : Host.Outcome State Fault Refusal :=
  .next (s.upFrame 0x09 (claspNakBody reason) f).2

/-- READY (R256). -/
def execReady (f : FrameHead) (head gen : Nat) (s : State) : Host.Outcome State Fault Refusal :=
  let (ok, s) := s.upFrame 0x06 (readyBody head gen) f
  if ok then .next (s.modPair (fun p => { p with partnerReady := some (head, gen) })) else .next s

/-- Why a CLASP_PASS is refused (R250, R256, R262); 0 when it is accepted. A pass in the tick of a grant by a register
write meets that write in its cycle (log entry 70). -/
def State.passReason (s : State) (g f : Nat) (hash : Bytes) : Nat :=
  if s.strand.role == .active && s.pair.grantTick == some s.time.tick then 4
  else if s.restore.state != .claspWait || s.strand.role != .candidate then 1
  else if s.restore.presented != f then 2
  else if padTo 64 s.restore.presentedHash != padTo 64 hash then 3
  else if s.presentedClasp != g then 4
  else 0

/-- CLASP_PASS (R256): the partner takes g + 1, or answers why not. -/
def execClaspPass (f : FrameHead) (gen final : Nat) (hash : Bytes) (s : State) : Host.Outcome State Fault Refusal :=
  let (ok, s) := s.upFrame 0x07 (claspPassBody gen final hash) f
  if !ok then .next s
  else
    let r := s.passReason gen final hash
    if r = 0 then .next ((s.grantClasp (gen + 1)).sendSealed 0x08 (claspAckBody (gen + 1)))
    else .next (s.sendSealed 0x09 (claspNakBody r))

/-- APPEND_START's effect (R256): beads only, in order after the presented head; a failing append is
discarded and recorded. -/
def State.appendStart (s : State) (items : List StrandItem) : State :=
  let beads := itemBeads items
  let replay := s.restore.replay ++ (beads.map (·.recs)).flatten
  let ok := items.length == s.odNat 0x5020 0x15 0 && beads.length == items.length && items.all s.opensItem &&
    s.chained s.restore.presentedHash beads && touchedHandles replay ≤ replayMax
  match ok, beads.getLast? with
  | true, some b =>
    let log := beads.foldl (fun m b => mset (fun _ => ([], 0)) m b.num (Config.sha512 (s.beadBytes b), b.clasp)) s.strand.log
    let changed := distinct (s.strand.ckptChanged ++ changedSegments (beads.map (·.recs)).flatten)
    let s := { s with
      strand := { s.strand with log := log, ckptChanged := changed }
      restore := { s.restore with items := s.restore.items ++ items, presented := b.num,
                                  presentedHash := Config.sha512 (s.beadBytes b), replay := replay } }
    if s.linkUp then s.sendSealed 0x06 (readyBody s.restore.presented s.presentedClasp) else s
  | _, _ => s.event 0x0402 sevWarning 0 []

/-! ## Pairing ceremonies (R245 to R247) -/

/-- Whether the partner can be spoken to for a ceremony: a session is UP, or the partner, which has no domain
and so cannot open one, has exchanged HELLO (log entry 26). -/
def State.reaches (s : State) : Bool :=
  s.linkUp || (s.met && (s.pairState == 0 || (s.pair.got.map (fun (h : HelloData) => h.pairState == 0)).getD false))

/-- A check fails: the ceremony ends and is recorded with the message's TYPE (R247). No message carries the failure to
the other unit, whose ceremony ends as log entry 69 says. -/
def State.pairFail (s : State) (type : Nat) : State :=
  (s.modPair (fun p => { p with ceremony := none })).event 0x0403 sevWarning type []

/-- The transport key (R247). -/
def transportKey (shared x : Bytes) (sender receiver : Nat) : Bytes :=
  (Config.hmac 0x03 (shared ++ padTo 48 x) (ascii [0x4B, 0x4E, 0x50, 0x41, 0x49, 0x52, 0x54, 0x4B] ++ le 8 sender ++ le 8 receiver)).take 32

/-- The rule of DOMAIN_CREATE (R245, R246). -/
def State.domainCreateRule (s : State) : Option OdResult :=
  if s.installsLeft = 0 then some .exhausted
  else if s.bb.pairSecret.isSome || s.lifeCycle != lcField || !s.bit .HST_STATUS_RNG_READY || s.officers.creating.isSome ||
      s.lcs.programming.isSome then some .wrongState
  else none

/-- Its effect: two cards are awaited. -/
def State.domainCreateEffect (s : State) : State :=
  { s with officers := { s.officers with creating := some [] } }.idleToPinWait

/-- An installation is complete (R246, R341): its count has been programmed, and BBRAM takes the secret, from which the
pair seed is derived; a unit zeroised in the meantime has lost the install. -/
def State.installPair (s : State) (secret : Bytes) (domain : Nat) (paired : Bool) : State :=
  if s.zeroised then s
  else { s with bb := { s.bb with pairSecret := some secret, domainId := domain, paired := paired } }.computePairSeed

/-- A record of the device's own that enrols an officer or sets the quorum (R245, R363). -/
def enrolRec (index sub type : Nat) (v : Bytes) : Rec := deviceRec (.odWrite index sub type v 0 [])

/-- Both cards of a DOMAIN_CREATE have signed (R245, R246): the domain is drawn and its installation begins. -/
def State.finishCreate (s : State) : State :=
  match s.officers.creating with
  | none => s
  | some l =>
    match l.find? (fun e => e.1 == 0), l.find? (fun e => e.1 == 1) with
    | some (_, a), some (_, b) =>
      let s := { s with officers := { s.officers with creating := none } }
      if s.domainCreateRule.isSome then s
      else
        let (secret, s) := s.drawBytes 32
        let (id, s) := s.drawBytes 8
        s.startOtp (.install secret (leNat id) [a, b]) none
    | _, _ => s

/-- A created domain is installed (R245, R363): the two officers are enrolled by records of the first bead sealed after
the clasp is granted. -/
def State.installCreated (s : State) (secret : Bytes) (domain : Nat) (officers : List Bytes) : State :=
  let s := s.installPair secret domain false
  let cards := ((List.range officers.length).zip officers).map (fun e => enrolRec (0x1110 + e.1) 1 0x07 e.2)
  let recs := cards ++ [enrolRec 0x1100 7 0x01 [2#8]]
  { s with strand := { s.strand with queued := s.strand.queued ++ recs } }

/-- The rule of DOMAIN_SEND (R245); one written while a ceremony runs begins anew (log entry 69). -/
def State.domainSendOk (s : State) : Bool :=
  s.bb.pairSecret.isSome && s.reaches && s.bit .HST_STATUS_RNG_READY

/-- Its effect (R247): PAIR_OFFER, with the keys of the officers who signed the signet consumed. -/
def State.domainSendEffect (s : State) (receiver : Nat) : State :=
  let officers := s.officers.signet.approvals.map (fun a => s.officerKey a.1)
  let (r1, s) := s.drawBytes 64
  let (r2, s) := s.drawBytes 64
  let kem := genKey 5 1024 r1
  let ec := genKey 2 384 r2
  let m : PairMessage :=
    { sender := Config.fuseSerial, receiver := receiver, domain := s.bb.domainId, idKey := s.idPublic,
      kem := publicOf 5 1024 kem, point := publicOf 2 384 ec, officers := officers, installs := 0, sig := [] }
  let (sig, s) := s.idSign m.offerBody
  match sig with
  | none => s.pairFail 0x10
  | some g =>
    let c : Ceremony :=
      { sender := true, other := receiver, domain := s.bb.domainId, kem := kem, ec := ec, offer := none, transport := none,
        officers := officers, carded := false }
    (s.modPair (fun p => { p with ceremony := some c })).sendClear 0x10 (m.offerBody ++ g)

/-- The rule of DOMAIN_ACCEPT (R245, R246). -/
def State.domainAcceptRule (s : State) : Option OdResult :=
  if s.installsLeft = 0 then some .exhausted
  else if s.bb.pairSecret.isSome || s.lcs.programming.isSome then some .wrongState
  else none

/-- Its effect: the receiver is armed. -/
def State.domainAcceptEffect (s : State) : State := s.modPair (fun p => { p with accept := some s.time.tick })

/-- DOMAIN_ACCEPT_EXPIRY (R245): 300,000 ticks after the write; a ceremony that still waits for its card ends. -/
def execDomainAcceptExpiry (s : State) : Host.Outcome State Fault Refusal :=
  match s.pair.accept with
  | none => .next s
  | some t =>
    if s.time.tick < t + 300000 then .next s
    else
      let keep := s.pair.ceremony.filter (fun (c : Ceremony) => c.sender || c.carded)
      .next (s.modPair (fun p => { p with accept := none, ceremony := keep }))

/-- PAIR_OFFER (R247): the receiver checks identity, signature and its own serial, and waits for a card; an offer begins a
ceremony anew (log entry 69). -/
def execPairOffer (m : PairMessage) (s : State) : Host.Outcome State Fault Refusal :=
  if !s.linkOn then .next s
  else
    let s := s.countRx
    if s.pair.accept.isNone || !s.reaches || s.bb.pairSecret.isSome || s.lcs.programming.isSome then .next s
    else if m.receiver != Config.fuseSerial || !s.peerEndorsed m.sender m.idKey || !idVerify m.idKey m.offerBody m.sig then
      .next (s.pairFail 0x10)
    else
      let (r, s) := s.drawBytes 64
      let c : Ceremony :=
        { sender := false, other := m.sender, domain := m.domain, kem := [], ec := genKey 2 384 r, offer := some m,
          transport := none, officers := m.officers, carded := false }
      .next (s.modPair (fun p => { p with ceremony := some c })).idleToPinWait

/-- An officer's card has answered at the receiver: PAIR_REPLY is sent and the transport key made (R247). -/
def State.pairReply (s : State) : State :=
  match s.pair.ceremony with
  | none => s
  | some c =>
    match c.offer with
    | none => s
    | some o =>
      let (r, s) := s.drawBytes 32
      let ct := Config.encaps 1024 (padTo 1568 o.kem) r
      match sharedSecret 2 384 c.ec o.point with
      | none => s.pairFail 0x10
      | some x =>
        let m : PairMessage :=
          { sender := c.other, receiver := Config.fuseSerial, domain := 0, idKey := s.idPublic, kem := ct.take 1568,
            point := publicOf 2 384 c.ec, officers := [], installs := 0, sig := [] }
        let (sig, s) := s.idSign m.replyBody
        match sig with
        | none => s.pairFail 0x11
        | some g =>
          let key := transportKey (ct.drop 1568) x c.other Config.fuseSerial
          (s.modPair (fun p => { p with ceremony := some { c with transport := some key, carded := true } })).sendClear 0x11
            (m.replyBody ++ g)

/-- PAIR_REPLY (R247): the sender checks it in the same way and sends PAIR_SECRET. -/
def execPairReply (m : PairMessage) (s : State) : Host.Outcome State Fault Refusal :=
  if !s.linkOn then .next s
  else
    let s := s.countRx
    match s.pair.ceremony with
    | none => .next s
    | some c =>
      if !c.sender || c.transport.isSome then .next s
      else if m.receiver != c.other || !s.peerEndorsed m.receiver m.idKey || !idVerify m.idKey m.replyBody m.sig then
        .next (s.pairFail 0x11)
      else
        match sharedSecret 2 384 c.ec m.point, s.bb.pairSecret with
        | some x, some secret =>
          let key := transportKey (Config.decaps 1024 c.kem (padTo 1568 m.kem)) x Config.fuseSerial c.other
          let n := s.pair.txSeq + 1
          let f := sealFrame key (zeros 12) 0x12 s.position n (padTo 32 secret ++ le 8 s.bb.domainId)
          .next ((s.modPair (fun p => { p with txSeq := n, ceremony := some { c with transport := some key } })).sendLink f)
        | _, _ => .next (s.pairFail 0x11)

/-- PAIR_SECRET (R247), its payload with the tag after it: the receiver begins the installation. -/
def execPairSecret (seq : Nat) (payload : Bytes) (s : State) : Host.Outcome State Fault Refusal :=
  if !s.linkOn then .next s
  else
    match s.pair.ceremony with
    | none => .next s
    | some c =>
      match c.sender, c.transport with
      | false, some key =>
        if seq ≤ s.pair.rxSeq then .next s.seqFailed
        else
          match Config.aeadOpen 1 16 key (zeros 12) (frameHead 0x12 (1 - s.position) false 40 seq) payload with
          | none => .next (s.noteTag.pairFail 0x12)
          | some plain =>
            let s := (s.modPair (fun p => { p with rxSeq := seq })).countRx
            if s.installsLeft = 0 || s.bb.pairSecret.isSome || s.lcs.programming.isSome || fieldLE plain 32 8 != c.domain then
              .next (s.pairFail 0x12)
            else .next (s.startOtp (.install (plain.take 32) (fieldLE plain 32 8) []) none)
      | _, _ => .next s

/-- The received domain is installed (R246, R247): PAIR_DONE is sent, and a unit that cannot sign it fails there. -/
def State.installReceived (s : State) (secret : Bytes) (domain : Nat) : State :=
  let s := s.installPair secret domain true
  match s.pair.ceremony with
  | none => s
  | some c =>
    let m : PairMessage :=
      { sender := c.other, receiver := Config.fuseSerial, domain := domain, idKey := [], kem := [], point := [],
        officers := [], installs := s.installsLeft, sig := [] }
    let (sig, s) := s.idSign m.doneBody
    match sig with
    | none => s.pairFail 0x13
    | some g => (s.modPair (fun p => { p with ceremony := none, accept := none })).sendClear 0x13 (m.doneBody ++ g)

/-- PAIR_DONE (R245, R247): PAIRED on the sender. -/
def execPairDone (m : PairMessage) (s : State) : Host.Outcome State Fault Refusal :=
  if !s.linkOn then .next s
  else
    let s := s.countRx
    match s.pair.ceremony with
    | none => .next s
    | some c =>
      if !c.sender || c.transport.isNone then .next s
      else if m.receiver != c.other || m.domain != c.domain ||
          !idVerify (slice (s.odBytes 0x1010 4) 24 520) m.doneBody m.sig then
        .next (s.pairFail 0x13)
      else .next { (s.modPair (fun p => { p with ceremony := none })) with bb := { s.bb with paired := true } }

end Sys2Proof.Machine
end

