-- ==== Sys2Proof/Machine/LifeCycle.lean ====
section
/-! DEFINITION. The life-cycle, its OTP settings and their programming, debug tokens, and what an officer's
verified signature completes (R245, R366, R429 to R442, R449, R450, R452). -/

namespace Sys2Proof.Machine

/-! ## The life-cycle word (R429 to R432) -/

/-- The OTP value of a life-cycle code. -/
def lcWord (code : Nat) : Nat := 2 ^ (4 * min code 4) - 1

/-- The code of an OTP value; nothing where it is none of the five. -/
def lcOf (word : Nat) : Option Nat := (List.range 5).find? (fun c => lcWord c == word)

/-- The boot ROM's vote of the three copies (R432): nothing is an invalid code. -/
def lcVote (copies : List Nat) : Option Nat :=
  if copies.all (fun w => (lcOf w).isSome) then
    (List.range 5).find? (fun c => (copies.filter (· == lcWord c)).length ≥ 2)
  else none

/-- The bits of a copy still to be programmed toward a word, highest first (R431). -/
def bitsToward (word copy : Nat) : List Nat :=
  ((List.range 16).reverse).filter (fun i => nbit word i && !nbit copy i)

/-- Every bit a transition programs, as (copy, bit), in order. -/
def transitionBits (word : Nat) (copies : List Nat) : List (Nat × Nat) :=
  ((List.range copies.length).map (fun k => (bitsToward word (copies.getD k 0)).map (fun i => (k, i)))).flatten

/-- Programs bits of the copies. -/
def programBits (copies : List Nat) (l : List (Nat × Nat)) : List Nat :=
  l.foldl (fun cs b => cs.set b.1 (setNbit (cs.getD b.1 0) b.2 true)) copies

/-! ## Signer slots (R436, R437) -/

/-- The states of a signer slot: 0 EMPTY, 1 VALID, 2 REVOKED. -/
def SignerSlot.state (x : SignerSlot) : Nat :=
  if x.hash.isEmpty then 0 else if x.revoked || !x.checkOk then 2 else 1

/-- Signer slot `k`. -/
def Lcs.slot (l : Lcs) (k : Nat) : SignerSlot := l.slots.getD k SignerSlot.init

/-- Whether a slot holds an ML-DSA hash. -/
def SignerSlot.hasMldsa (x : SignerSlot) : Bool := (x.hash.drop 32).any (· != 0#8)

/-! ## Programming OTP (R431, R436, R437) -/

/-- What a programming leaves when its window ends. -/
def Lcs.complete (l : Lcs) : OtpWrite → Lcs
  | .lifeCycle code => { l with copies := List.replicate 3 (lcWord code), steps := l.steps + 1 }
  | .signer k h => { l with slots := l.slots.set k { hash := h, checkOk := true, revoked := false } }
  | .revoke k => { l with slots := l.slots.set k { l.slot k with revoked := true } }
  | .svnFloor v => { l with floor := v }
  | .cosig => { l with cosig := true }
  | .compat => { l with compat := true }
  | .provision secret _ identity => { l with deviceSecret := some secret, identity := some identity }
  | .install _ _ _ => { l with installs := l.installs + 1 }

/-- Bits a programming writes. -/
def Lcs.otpBits (l : Lcs) : OtpWrite → Nat
  | .lifeCycle code => (transitionBits (lcWord code) l.copies).length
  | .signer _ _ => 528
  | .svnFloor v => v - l.floor
  | .provision _ _ _ => 4352
  | .install _ _ _ => 1
  | _ => 3

/-- What a programming leaves that a main reset cuts short after `n` bits (R431, R432, R437). -/
def Lcs.cutShort (l : Lcs) (w : OtpWrite) (n : Nat) : Lcs :=
  if n = 0 then l
  else if n ≥ l.otpBits w then l.complete w
  else
    match w with
    | .lifeCycle code => { l with copies := programBits l.copies ((transitionBits (lcWord code) l.copies).take n) }
    | .signer k h => { l with slots := l.slots.set k { hash := h, checkOk := false, revoked := false } }
    | .svnFloor _ => { l with floor := l.floor + n }
    | .provision secret _ _ => if n ≥ 256 then { l with deviceSecret := some secret } else l
    | _ => l.complete w

/-- A main reset ends a programming: how many bits were programmed is open (log entry 32). -/
def State.cutOtp (s : State) : State :=
  match s.lcs.programming with
  | none => s
  | some (w, _) =>
    let (f, s) := s.freshNat
    let l := s.lcs.cutShort w (f % (s.lcs.otpBits w + 1))
    { s with lcs := { l with programming := none, cut := true } }

/-- What follows a programming window: an installation's count is programmed before BBRAM is written (R246). -/
def State.afterOtp (s : State) : OtpWrite → State
  | .install secret domain officers =>
    if officers.isEmpty then s.installReceived secret domain else s.installCreated secret domain officers
  | _ => s

/-- OTP_PROGRAM_COMPLETE (R246, R431, R436). -/
def execOtpProgramComplete (s : State) : Host.Outcome State Fault Refusal :=
  match s.lcs.programming with
  | none => .next s
  | some (w, n) =>
    let s := ({ s with lcs := { s.lcs.complete w with programming := none } }.showOtp).afterOtp w
    match n with
    | some n => .next (((s.answer n .ok 0).flushReplies).settleMailbox)
    | none => .next s

/-! ### The rules of the limited-write settings (R430, R434, R436) -/

/-- A refused limited write sets OTP_ERR (R453). -/
def State.otpRefused (s : State) : State := s.putBit .LCS_STATUS_OTP_ERR true

/-- The transitions of R430. -/
def lcTransitions : List (Nat × Nat) := [(0, 1), (1, 2), (2, 3), (3, 4), (2, 4)]

/-- The rule of LIFECYCLE_NEXT (R434). -/
def State.lifecycleNextOk (s : State) (code : Nat) : Bool :=
  lcTransitions.contains (s.lifeCycle, code) && s.lcs.programming.isNone && s.get .LCS_STATUS_PENDING == s.lifeCycle && s.lcs.steps < 4 &&
    (match code with
      | 1 => s.lcs.deviceSecret.isSome && s.bb.wrapSecret.isSome && s.lcs.identity.isSome && (s.lcs.slot 0).state == 1
      | 2 => s.lcs.slots.any (fun x => x.state == 1) && s.get .RNG_TEST_SEL == 0
      | _ => true)

/-- The user NVM is erased (R434): its memory, the identity working copy and certificate, the event archive,
POWERED_HOURS, unit-local settings and records, the management key. -/
def State.eraseNvm (s : State) : State :=
  let s := { s with mem := s.mem.filter (fun c => !(0x4000000 ≤ c.1 && c.1 < 0x4400000)) }
  let s := { s with lcs := { s.lcs with idCopy := [], cert := [] }, evr := { s.evr with archive := [], archiveFull := false, staged := [] } }
  let s := { s with time := { s.time with hours := 0 }, strand := { s.strand with queued := [] }, mgp := { s.mgp with key := none } }
  let keep (e : Nat × Option Bytes) : Bool := !odIs .unitLocal (e.1 / 256) (e.1 % 256)
  { s with agent := { s.agent with values := s.agent.values.filter keep } }

/-- What LIFECYCLE_NEXT does before its code is programmed (R434): toward ANALYSIS and SCRAP, ZEROISE, the
secret-kill fuse, the erasure of user NVM. -/
def State.prepare (s : State) (code : Nat) : State :=
  if code < lcAnalysis then s
  else
    let s := if s.zeroised then s else s.zeroiseNow
    let s := { s with lcs := { s.lcs with killed := true, deviceSecret := none, identity := none } }
    s.eraseNvm.showAlarmN

/-- LIFECYCLE_NEXT's effect. -/
def State.lifecycleNext (s : State) (code reply : Nat) : State := (s.prepare code).startOtp (.lifeCycle code) (some reply)

/-- The rule of a limited write and what it programs; nothing where its row does not permit it (R436, R441). -/
def State.limitedWrite (s : State) (index sub : Nat) (v : Bytes) : Option OtpWrite :=
  let k := index - 0x9010
  let x := s.lcs.slot k
  let n := leNat v
  if s.lcs.programming.isSome then none
  else if index = 0x9000 && sub = 2 then (if s.lifecycleNextOk n then some (.lifeCycle n) else none)
  else if 0x9010 ≤ index && index < 0x9014 then
    match sub with
    | 1 => if k != 0 && x.state == 0 then some (.signer k (padTo 64 v)) else none
    | 2 =>
      let other := (List.range 4).any (fun o => o != k && (s.lcs.slot o).state == 1)
      if x.state == 1 && other then some (.revoke k) else none
    | _ => none
  else if index = 0x9020 && sub = 1 then (if s.lcs.floor ≤ n && n ≤ s.svn then some (.svnFloor n) else none)
  else if index = 0x9021 && sub = 1 then
    let mldsa := s.lcs.running && (s.lcs.slot (s.get .LCS_BOOT_SIGNER)).hasMldsa
    if n = 1 && !s.lcs.cosig && mldsa && s.bit .LAT_COSIG_CHECKED then some .cosig else none
  else if index = 0x9022 && sub = 1 then
    if n = 1 && !s.lcs.compat && s.lcs.running && !s.bit .LCS_BOOT_COMPAT then some .compat else none
  else none

/-! ### Making an identity (R441) -/

/-- PROVISION_RUN is taken in BLANK, while the DRBGs are ready, on a part with no secret yet. -/
def State.provisionOk (s : State) : Bool :=
  s.lifeCycle == lcBlank && s.bit .HST_STATUS_RNG_READY && s.lcs.programming.isNone && s.lcs.deviceSecret.isNone

/-- PROVISION_RUN's effect: the wrap secret stands in BBRAM, the device secret and the identity key are programmed. -/
def State.provisionRun (s : State) (reply : Nat) : State :=
  let (secret, s) := s.drawBytes 32
  let (wrap, s) := s.drawBytes 32
  let (rnd, s) := s.drawBytes 64
  let s := { s with bb := { s.bb with wrapSecret := some wrap } }.putBit .LCS_STATUS_WRAP_MISSING false
  s.startOtp (.provision secret wrap (genKey 1 4096 rnd)) (some reply)

/-- SIGNER0 is taken in BLANK, slot 0 being EMPTY. -/
def State.signer0Ok (s : State) : Bool :=
  s.lifeCycle == lcBlank && s.lcs.programming.isNone && (s.lcs.slot 0).state == 0

/-! ## Debug tokens (R450) -/

/-- The challenge. -/
def State.debugChallenge (s : State) : Bytes :=
  le 8 Config.fuseSerial ++ padTo 16 s.lcs.nonce ++ le 1 s.lifeCycle ++ le 1 (s.get .LCS_DEBUG_ENABLES) ++ zeros 6

/-- A token is refused with a reason (R450, R481); 0 is the refusal that raises DEBUG_ATTEMPT. -/
def State.tokenRefuse (s : State) (reason : Nat) : State :=
  if reason = 0 then (s.alarm' [19]).tokenCounted else s.tokenRecorded reason

/-- Whether the minute is still below a token's NOT_AFTER. -/
def State.tokenInTime (s : State) (v : Bytes) : Bool :=
  s.time.state != .unanchored && s.minuteOf s.time.tick < fieldLE v 32 4

/-- Whether a token carries the current nonce. -/
def State.tokenNonceOk (s : State) (v : Bytes) : Bool := !s.lcs.nonce.isEmpty && slice v 16 16 == padTo 16 s.lcs.nonce

/-- Why a token is refused: 0 signature, form or serial; 1 nonce; 2 ENABLES; 3 time. -/
def State.tokenFault (s : State) (v : Bytes) : Option Nat :=
  let formOk := v.length == 576 && v.take 5 == ascii [0x4B, 0x4E, 0x44, 0x54, 1]
  if !formOk || !Config.verifyWith Config.rhabeocKey (v.take 64) (v.drop 64) || fieldLE v 8 8 != Config.fuseSerial then some 0
  else if !s.tokenNonceOk v then some 1
  else if fieldLE v 5 1 = 0 || fieldLE v 5 1 ≥ 16 then some 2
  else if !s.tokenInTime v then some 3
  else none

/-- DEBUG_TOKEN written: what it answers, and the state it leaves. -/
def State.debugToken (s : State) (v : Bytes) : Option OdResult × State :=
  if s.lifeCycle != lcField || s.officers.signet.live || !s.bit .HST_STATUS_RNG_READY then (some .wrongState, s)
  else
    match s.tokenFault v with
    | some r => (some .wrongState, s.tokenRefuse r)
    | none =>
      let s := { s with lcs := { s.lcs with token := v, tokenState := .waiting } }
      (none, s.openSignet 2 0 0 (max 2 s.officerQuorum) false (Config.sha512 v))

/-- A COMPLETE signet of a token: the token is consumed, or refused (R450). -/
def State.consumeToken (s : State) : State :=
  let x := s.officers.signet
  if x.state == .complete && x.action == 2 then
    let v := s.lcs.token
    let e := fieldLE v 5 1 % 16
    let s := s.consumeSignet.2
    if !s.tokenNonceOk v || !s.tokenInTime v then s.tokenRefuse (if s.tokenNonceOk v then 3 else 1)
    else
      let s := { s with lcs := { s.lcs with tokenState := .accepted } }.newNonce
      if e % 4 = 0 then s.openEnables e
      else { s with lcs := { s.lcs with opening := some e } }.alarm' [22]
  else s

/-! ## A card's signature is verified (R245, R247, R362, R366) -/

/-- CARD_SIGNATURE_VERIFIED: a big-number core has checked the signature a card returned. -/
def execCardSignatureVerified (port : Nat) (s : State) : Host.Outcome State Fault Refusal :=
  let x := s.port port
  match x.sig with
  | none => .next s
  | some g =>
    if port > 1 || s.portState port != psSigning then .next s
    else if !Config.verify cardParams x.key [] x.stmt g then .next (s.cardError port 7)
    else
      let s := (s.cardVerified port x g).finishCreate
      let s := match s.pair.ceremony with
        | some c => if !c.sender && c.carded && c.transport.isNone then s.pairReply else s
        | none => s
      .next s.consumeToken

end Sys2Proof.Machine
end

