-- ==== Sys2Proof/Machine/MgmtPort.lean ====
section
/-! DEFINITION. The management port: PLCA, the receive FIFO and its descriptors, the transmitter, sessions and their
handshake, the management key (R484 to R495, R509 to R511). -/

namespace Sys2Proof.Machine

/-! ## Addresses and PLCA (R485, R486) -/

/-- The MAC address (R486). -/
def macAddress : Bytes := [0x02#8, 0x57#8] ++ be 4 (Config.fuseSerial % 2 ^ 32)

/-- The link-local address (R486): fe80::/64 and the modified EUI-64 of the MAC address. -/
def linkLocal : Bytes :=
  [0xFE#8, 0x80#8] ++ zeros 6 ++ [0x00#8, 0x57#8] ++ (macAddress.drop 2).take 1 ++ [0xFF#8, 0xFE#8] ++ macAddress.drop 3

/-- The PLCA node (R485). -/
def State.nodeId (s : State) : Nat :=
  let n := s.odNat 0xA000 1 0xFF
  if n = 0xFF then s.mgp.strapPlca else n

/-- Whether the port has clock and power (R520). -/
def State.mgpOn (s : State) : Bool := s.mainRuns && s.gateOn 7

/-- MGP_LINK: a beacon seen, or sent by the coordinator (R485, R509). -/
def State.mgpLink (s : State) : Bool := s.mgpOn && (s.nodeId == 0 || s.mgp.beacon)

/-- MGP_STATUS and MGP_PLCA show the settings (R485, R511). -/
def State.showPlca (s : State) : State :=
  let s := (s.put .MGP_STATUS_NODE_ID s.nodeId).putBit .MGP_STATUS_COORDINATOR (s.nodeId == 0)
  let s := s.putBit .MGP_STATUS_LINK s.mgpLink
  let s := (s.put .MGP_PLCA_TO_TIMER (s.odNat 0xA000 3 32)).put .MGP_PLCA_NODE_COUNT (s.odNat 0xA000 2 8)
  s.put .MGP_PLCA_BURST (s.odNat 0xA000 4 0)

/-- PLCA_BEACON (R509). -/
def execPlcaBeacon (seen : Bool) (s : State) : Host.Outcome State Fault Refusal :=
  .next { s with mgp := { s.mgp with beacon := seen } }.showPlca

/-! ## Receiving (R484, R487 to R490) -/

/-- Whether the port accepts a destination: its own address, all nodes, or its solicited-node address (R484). -/
def acceptsDest (d : Bytes) : Bool :=
  d == macAddress || d == [0x33#8, 0x33#8, 0#8, 0#8, 0#8, 1#8] || d == [0x33#8, 0x33#8, 0xFF#8] ++ macAddress.drop 3

/-- Whether the MAC drops a frame, given without its FCS: too short, for others, or VLAN-tagged (R484). -/
def macDrops (f : Bytes) : Bool :=
  f.length < 60 || !acceptsDest (f.take 6) || slice f 12 2 == [0x81#8, 0x00#8]

/-- Descriptors not consumed (R489). -/
def State.rxdHeld (s : State) : Nat := (s.get .MGP_RXD_HEAD_HEAD + 256 - s.get .MGP_RXD_TAIL_TAIL) % 256

/-- MGP_STATUS.RXD_FULL. -/
def State.showRxd (s : State) : State := s.putBit .MGP_STATUS_RXD_FULL (s.rxdHeld == 128)

/-- A descriptor (R488). -/
def descriptor (tick : Nat) (multicast fcsError truncated : Bool) (length start : Nat) : BitVec 64 :=
  let last := if length = 0 then 0 else if length % 8 = 0 then 8 else length % 8
  BitVec.ofNat 64 (tick % 65536 * 2 ^ 48 + b2n multicast * 2 ^ 34 + b2n fcsError * 2 ^ 33 + b2n truncated * 2 ^ 32 +
    last * 2 ^ 28 + length * 2 ^ 16 + start % 8192)

/-- The words of the FIFO that `n` bytes take. -/
def fifoWords (n : Nat) : Nat := (n + 7) / 8

/-- A frame is stored from the next word on, as far as `n` of its bytes (R487). -/
def Mgp.store (m : Mgp) (f : Bytes) (n : Nat) : Mgp :=
  let put (x : SMap (BitVec 64)) (i : Nat) : SMap (BitVec 64) :=
    mset (fun _ => 0#64) x ((m.next + i) % 8192) (BitVec.ofNat 64 (leNat (slice (f.take n) (8 * i) 8)))
  let k := fifoWords n
  { m with fifo := (List.range k).foldl put m.fifo, used := m.used + k, next := (m.next + k) % 8192 }

/-- MGP_FRAME_RECEIVED (R484, R487 to R490): a frame without its FCS, and whether that matched. -/
def execMgpFrameReceived (frame : Bytes) (fcsOk : Bool) (s : State) : Host.Outcome State Fault Refusal :=
  if !s.mgpOn then .next s
  else if macDrops frame then .next (s.count .MGP_RX_DROPPED_COUNT)
  else if s.rxdHeld = 128 then .next ((s.count .MGP_RX_DROPPED_COUNT).putBit .MGP_STATUS_OVERRUN true)
  else
    let wanted := min frame.length 1514
    let n := min wanted (8 * (8192 - s.mgp.used))
    let full := n < wanted
    let head := s.get .MGP_RXD_HEAD_HEAD
    let multicast := ((frame.head?.map (fun b => b.toNat % 2)).getD 0) == 1
    let d := descriptor s.time.tick multicast (!fcsOk) (full || frame.length > 1514) n s.mgp.next
    let s := { s with mgp := { s.mgp.store frame n with descs := mset (fun _ => 0#64) s.mgp.descs (head % 128) d } }
    let s := if full then (s.count .MGP_RX_TRUNC_COUNT).putBit .MGP_STATUS_OVERRUN true else s
    let s := if fcsOk then s else s.count .MGP_RX_FCS_COUNT
    let s := (s.put .MGP_RXD_HEAD_HEAD (head + 1)).put .MGP_RX_FRAMES_COUNT (s.get .MGP_RX_FRAMES_COUNT + 1)
    let s := s.showRxd
    if s.bit .MGP_IRQ_FRAME_EN then .next (s.raiseIrq 17) else .next s

/-- The words of the frames whose descriptors are numbered from `first`, `n` of them. -/
def Mgp.freed (m : Mgp) (first n : Nat) : Nat :=
  ((List.range n).map (fun i => fifoWords ((mget (fun _ => 0#64) m.descs ((first + i) % 128)).toNat / 2 ^ 16 % 2 ^ 11))).sum

/-- MGP_RXD_TAIL_WRITE (R490): a tail that would pass the head is discarded. -/
def execMgpRxdTailWrite (tail : Nat) (s : State) : Host.Outcome State Fault Refusal :=
  let t := s.get .MGP_RXD_TAIL_TAIL
  let n := (tail + 256 - t) % 256
  if tail > 255 || n > s.rxdHeld then .next s
  else
    let m := s.mgp
    .next (({ s with mgp := { m with used := m.used - m.freed t n } }.put .MGP_RXD_TAIL_TAIL tail).showRxd)

/-- The word a 64-bit read of the FIFO or the descriptor ring returns (R488). -/
def State.mgpWindow (s : State) (a : Nat) : Nat :=
  if a < 0x10910000 then (mget (fun _ => 0#64) s.mgp.descs ((a - 0x10900800) / 8 % 128)).toNat
  else (mget (fun _ => 0#64) s.mgp.fifo ((a - 0x10910000) / 8 % 8192)).toNat

/-! ## Sending (R491) -/

/-- MGP_TX_GO (R491): the frame is read by DEVICE_S and padded to 60 bytes; a refused read sets ERR. -/
def execMgpTxGo (s : State) : Host.Outcome State Fault Refusal :=
  let n := s.get .MGP_TX_LEN_BYTES
  if s.bit .MGP_TX_STATUS_BUSY || !s.mgpOn || n < 14 then .next s
  else
    let a := s.get .MGP_TX_ADDR_ADDR
    let (ok, s) := s.checkAccess agDeviceS akRead a n
    if !ok then .next (s.putBit .MGP_TX_STATUS_ERR true)
    else
      let f := s.bytes a n
      let s := { s with mgp := { s.mgp with tx := some (f ++ zeros (60 - f.length)) } }
      .next ((s.putBit .MGP_TX_STATUS_BUSY true).putBit .MGP_STATUS_TX_BUSY true)

/-- One bit of the FCS of IEEE 802.3. -/
def crcBit (c : BitVec 32) : BitVec 32 := if c.getLsbD 0 then (c >>> 1) ^^^ 0xEDB88320#32 else c >>> 1

/-- The FCS of a frame. -/
def fcs (f : Bytes) : Bytes :=
  let step (c : BitVec 32) (b : Byte) : BitVec 32 := Nat.repeat crcBit 8 (c ^^^ b.setWidth 32)
  le 4 ((f.foldl step 0xFFFFFFFF#32) ^^^ 0xFFFFFFFF#32).toNat

/-- MGP_FRAME_SENT (R485, R491): the last byte has been sent; a segment without a coordinator carries nothing. -/
def execMgpFrameSent (s : State) : Host.Outcome State Fault Refusal :=
  match s.mgp.tx with
  | none => .next s
  | some f =>
    if !s.mgpLink then .next s
    else
      let s := { s with mgp := { s.mgp with tx := none, sent := s.mgp.sent ++ [f ++ fcs f] } }
      let s := (s.putBit .MGP_TX_STATUS_BUSY false).putBit .MGP_STATUS_TX_BUSY false
      .next (s.putBit .MGP_TX_STATUS_DONE true).gateSweep

/-! ## The management key (R494) -/

/-- The lineage firmware storage key the management key is sealed under. -/
def State.mgmtWrap (s : State) : Option Bytes := s.storageKey true 0 0x4D

/-- The management key, where its sealed record opens. -/
def State.mgmtKey (s : State) : Option Bytes :=
  match s.mgp.key, s.mgmtWrap with
  | some (k, w), some w' => if w == w' then some k else none
  | _, _ => none

/-- MGMT_CERT, while its key is there. -/
def State.mgmtCert (s : State) : Bytes := if s.mgmtKey.isSome then s.odBytes 0xA030 3 else []

/-- The rule of MGMT_KEY_GENERATE: the storage key is there to seal it, and the DRBGs to draw it. -/
def State.mgmtKeyOk (s : State) : Bool := s.mgmtWrap.isSome && s.bit .HST_STATUS_RNG_READY

/-- MGMT_KEY_GENERATE's effect: a new key, and MGMT_CERT cleared. -/
def State.mgmtKeyMake (s : State) : State :=
  let (r, s) := s.drawBytes 64
  let s := s.odStore 0xA030 3 none
  match s.mgmtWrap with
  | some w => { s with mgp := { s.mgp with key := some (genKey 2 384 r, w) } }
  | none => s

/-- The rule of MGMT_CERT: a certificate of the management key, or nothing. -/
def State.mgmtCertOk (s : State) (v : Bytes) : Bool :=
  v.isEmpty || (match s.mgmtKey with
    | some k => Config.certMatches (publicOf 2 384 k) v
    | none => false)

/-! ## Sessions (R493 to R495) -/

/-- A TIME64 of this cycle (R500). -/
def State.time64 (s : State) : Nat :=
  timeCodeRec s.time.state * 2 ^ 62 + (match s.time.anchor with
    | some a => (((a.2 : Int) * 1000 + (s.time.tick : Int) - (a.1 : Int))).toNat % 2 ^ 62
    | none => s.time.tick % 2 ^ 62)

/-- MAX_SESSIONS. -/
def State.maxSessions (s : State) : Nat := s.odNat 0xA010 2 8

/-- Whether sessions may open (R320, R494). -/
def State.sessionsOpen (s : State) : Bool :=
  s.mgpOn && !s.zeroised && s.power.mode != .enteringSleep && s.mgmtKey.isSome && !s.mgmtCert.isEmpty && s.bit .HST_STATUS_RNG_READY

/-- CLIENT_HELLO (R493, R495): with its cookie it takes the lowest free slot; beyond MAX_SESSIONS it is counted. -/
def execClientHello (peer : Bytes) (s : State) : Host.Outcome State Fault Refusal :=
  if !s.sessionsOpen then .next s
  else
    match (List.range s.maxSessions).find? (fun n => (s.session n).st == 0) with
    | none => .next { s with mgp := { s.mgp with hellosRefused := sat32 s.mgp.hellosRefused } }
    | some n =>
      .next (s.setSession n { Session.init with st := 1, peer := padTo 16 peer, number := (s.session n).number, lastTick := s.time.tick })

/-- The anchors that issue a station's certificate, lowest first (R494). -/
def State.issuers (s : State) (cert : Bytes) : List Nat :=
  (List.range 4).filter (fun a => !(s.odBytes (0xA040 + a) 1).isEmpty && Config.stationOk (s.odBytes (0xA040 + a) 1) cert)

/-- The TAI second; 0 when UNANCHORED (R460). -/
def State.taiNow (s : State) : Nat := (s.time.anchor.map (fun a => taiOf a s.time.tick)).getD 0

/-- Whether a certificate's dates hold; not checked when UNANCHORED (R494). -/
def State.datesOk (s : State) (cert : Bytes) : Bool :=
  let d := Config.certDates cert
  s.time.state == .unanchored || (d.1 ≤ s.taiNow && s.taiNow ≤ d.2)

/-- DTLS_HANDSHAKE_COMPLETE (R493 to R495): a certificate refused ends the handshake. -/
def execDtlsHandshakeComplete (slot : Nat) (cert : Bytes) (s : State) : Host.Outcome State Fault Refusal :=
  let x := s.session slot
  if x.st != 1 || slot > 7 then .next s
  else
    match s.sessionsOpen && s.datesOk cert, s.issuers cert with
    | true, a :: _ =>
      let n := s.mgp.opened + 1
      let s := { s with mgp := { s.mgp with opened := n } }
      .next (s.setSession slot
        { x with st := 2, role := s.odNat (0xA040 + a) 2 2, certHash := (Config.sha512 cert).take 32, number := n,
                 opened := s.time64, flags := b2n (s.time.state == .unanchored), anchor := a, credits := 4, lastTick := s.time.tick })
    | _, _ => .next (s.closeSession slot)

/-- DTLS_ALERT (R495): close_notify or a fatal alert. -/
def execDtlsAlert (slot : Nat) (s : State) : Host.Outcome State Fault Refusal := .next (s.closeSession slot)

/-- PUESH_IDLE_TIMEOUT (R495). -/
def execPueshIdleTimeout (slot : Nat) (s : State) : Host.Outcome State Fault Refusal :=
  if (s.session slot).st != 0 && s.time.tick ≥ (s.session slot).lastTick + s.odNat 0xA010 3 300000 then .next (s.closeSession slot)
  else .next s

/-- The sessions whose certificate an anchor issued close when it changes (R495). -/
def State.anchorChanged (s : State) (a : Nat) : State :=
  (List.range 8).foldl (fun s n => if (s.session n).st == 2 && (s.session n).anchor == a then s.closeSession n else s) s

/-- A lower MAX_SESSIONS closes the slots above it (R495). -/
def State.limitSessions (s : State) : State :=
  (List.range 8).foldl (fun s n => if n ≥ s.maxSessions then s.closeSession n else s) s

end Sys2Proof.Machine
end

