-- ==== Sys2Proof/Machine/Boot.lean ====
section
/-! DEFINITION. Main reset, the boot ROM's sequence, recovery boot, and the supply and reset pins (R443 to R447, R451,
R517 to R519, R553 to R557, R570, R571). -/

namespace Sys2Proof.Machine

/-! ## What survives a main reset -/

/-- User NVM. -/
def inNvm (a : Nat) : Bool := 0x4000000 ≤ a && a < 0x4400000

/-- The alarm area of BBRAM and what the backup domain's sampler holds (R413, R421). -/
def Alarm.kept (a : Alarm) : Alarm :=
  { Alarm.init with armed := a.armed, resp := a.resp, alarmnMin := a.alarmnMin, log := a.log, overflow := a.overflow, logSeq := a.logSeq,
                    failing := a.failing, faulty := a.faulty, lifeCycle := a.lifeCycle }

/-- OTP and user NVM of the life-cycle block. -/
def Lcs.kept (l : Lcs) : Lcs :=
  { l with idLoaded := false, header := [], endorsement := [], nonce := [], token := [], tokenState := .none, tokenRefusals := 0,
           running := false, opening := none }

/-- The records of unit-local and OTP writes that wait for a clasp in user NVM (R502). -/
def State.keptQueue (s : State) : List Rec :=
  s.strand.queued.filter (fun r => match r.body with
    | .odWrite i b _ _ _ _ => odIs .unitLocal i b || odIs .otp i b
    | _ => false)

/-- A main reset: every register at its reset value, every memory of the main domain lost; BBRAM, OTP, user NVM, the
always-on domain and the pins stay (R34, R179, R464, R478, R502, R524). -/
def State.mainReset (s : State) : State :=
  let s := s.cutOtp
  let pres (f : Fld) (t : State) : State := t.putBit f (s.bit f)
  let t : State :=
    { State.reset with
      mem := s.mem.filter (fun c => inNvm c.1), free := s.free, readValue := s.readValue, pending := s.pending,
      bb := s.bb, lcs := s.lcs.kept, alarm := s.alarm.kept,
      evr := { Recorder.init with nextSeq := (s.evr.archive.filterMap (fun e => e.2.map (fun r => r.seq + 1))).foldl max 0, archive := s.evr.archive, archiveFull := s.evr.archiveFull },
      time := { TimeUnit.init with hours := s.time.hours },
      mgp := { Mgp.init with key := s.mgp.key },
      agent := { Agent.init with values := s.agent.values.filter (fun e => odIs .unitLocal (e.1 / 256) (e.1 % 256)) },
      strand := { Strand.init with queued := s.keptQueue },
      host := { HostPort.init with perstN := s.host.perstN },
      power := { Power.init with mode := s.power.mode, wakeLatched := s.power.wakeLatched, mainEn := s.power.mainEn, porN := s.power.porN,
                                 sysRstN := s.power.sysRstN, vddAon := s.power.vddAon, cells := s.power.cells, wake := s.power.wake } }
  (pres .CRD_STATUS_PRES_A (pres .CRD_STATUS_PRES_B t)).showAlarm

/-! ## Images (R443, R444) -/

/-- A field of a header. -/
def hdr (h : Bytes) (off len : Nat) : Nat := fieldLE h off len

/-- ML-DSA-87, pure, empty context (R293, R443). -/
def mldsa87 : SigParams :=
  { scheme := 0x30, hash := 0, prehashed := false, det := false, saltLen := 0, type := 6, size := 87 }

/-- SHA-512 of a signer's RSA key, first 32 octets. -/
def half (b : Bytes) : Bytes := (Config.sha512 b).take 32

/-- The checks of R444, in order, with their codes; `recovery` for a container, which has no normal-world image
(R447). -/
def State.imageChecks (s : State) (m : BootImage) (recovery : Bool) : List (Nat × Bool) :=
  let h := padTo 16384 m.header
  let sOff := hdr h 16 4
  let sLen := hdr h 20 4
  let nOff := hdr h 24 4
  let nLen := hdr h 28 4
  let sEntry := hdr h 32 8
  let nEntry := hdr h 40 8
  let flags := hdr h 5 1
  let cosig := nbit flags 2
  let slot := s.lcs.slot (hdr h 7 1)
  let zero (off len : Nat) : Bool := (slice h off len).all (· == 0#8)
  [(1, h.take 5 == ascii [0x4B, 0x4E, 0x49, 0x4D, 1] && flags < 8 && zero 52 12 && zero 8443 7941),
   (9, sOff % 4096 == 0 && 0x4000 ≤ sOff && 4096 ≤ sLen && sLen ≤ 3 * 2 ^ 20 && sOff + sLen ≤ 2 ^ 25 &&
      nOff % 4096 == 0 && nLen ≤ 2 ^ 22 && nOff + nLen ≤ 2 ^ 25 && 0x1000000 ≤ sEntry && sEntry < 0x1400000 &&
      (nLen == 0 || (0x2000000 ≤ nEntry && nEntry < 0x2400000)) && (!recovery || nLen == 0)),
   (2, hdr h 7 1 < 4 && slot.state == 1),
   (3, half (slice h 192 520) == slot.hash.take 32),
   (4, Config.verify idParams (slice h 192 520) [] (h.take 3304) (slice h 3304 512)),
   (5, !s.lcs.cosig || (cosig && slot.hasMldsa)),
   (6, !cosig || (half (slice h 712 2592) == slot.hash.drop 32 && Config.verify mldsa87 (slice h 712 2592) [] (h.take 3304) (slice h 3816 4627))),
   (7, s.lcs.floor ≤ hdr h 6 1),
   (0xA, !nbit flags 1 || !s.lcs.compat),
   (8, Config.sha512 (padTo sLen m.secure) == slice h 64 64 &&
      (if nLen = 0 then zero 128 64 else Config.sha512 (padTo nLen m.normal) == slice h 128 64)),
   (0xB, m.readable)]

/-- The code of the first check that fails. -/
def State.imageFault (s : State) (m : BootImage) (recovery : Bool) : Option Nat :=
  ((s.imageChecks m recovery).find? (fun c => !c.2)).map (·.1)

/-- LAT_COSIG after a slot's checks: the co-signature was verified, or failed (R293). -/
def State.noteCosig (s : State) (m : BootImage) (fault : Option Nat) : State :=
  let cosig := nbit (hdr m.header 5 1) 2
  let reached := match fault with
    | some c => c == 6 || c == 7 || c == 0xA || c == 8 || c == 0xB
    | none => true
  if cosig && reached then
    (if fault == some 6 then s.putBit .LAT_COSIG_FAILED true else s.putBit .LAT_COSIG_CHECKED true)
  else s

/-! ## Hand-over (R446 steps 6 to 8) -/

/-- A record of the off-power log (R424). -/
def UnpoweredRec.bytes (r : UnpoweredRec) : Bytes :=
  le 1 (3 + 4 * b2n r.zeroised) ++ le 1 r.loops ++ le 1 r.response ++ zeros 1 ++ le 2 r.seq ++ zeros 10

/-- The off-power log moves into the recorder and is emptied (R424, R476). -/
def State.moveLog (s : State) : State :=
  let l := s.alarm.log
  let detail (z : Bool) : Bytes := ((l.filter (fun r => r.zeroised == z)).map UnpoweredRec.bytes).flatten
  let s := l.foldl (fun s r =>
    s.eventAt s.time.tick 0x0207 (if r.zeroised then sevCritical else sevWarning) r.loops (detail r.zeroised) true) s
  let s := (s.put .ALM_UNPOWERED_MOVED l.length).put .ALM_UNPOWERED_OVERFLOW s.alarm.overflow
  { s with alarm := { s.alarm with log := [], overflow := 0, logSeq := 0 } }.showAlarmN

/-- The boot ROM's workspace: the top 1 MiB of secure SRAM (R446). -/
def workspaceBase : Nat := 0x1300000

/-- Where the hand-over record stands. -/
def handOverBase : Nat := 0x13FF000

/-- The hand-over record (R446). -/
def State.handOverRecord (s : State) (h : Bytes) : Bytes :=
  h.take 192 ++ le 4 (s.reg Fld.LCS_BOOT_SIGNER.addr).toNat ++ le 4 (s.reg Fld.LCS_FAIL_SLOT_A.addr).toNat ++ slice h 40 8

/-- HM1 to HM5 (R340). -/
def State.measure (s : State) (h : Bytes) (secure normal : Bytes) : State :=
  let k := hdr h 7 1
  let s := s.extendHm 1 (le 1 k ++ zeros 31 ++ (s.lcs.slot k).hash.take 32)
  let s := s.extendHm 2 (le 1 (hdr h 6 1) ++ zeros 63)
  let s := s.extendHm3
  let s := (s.extendHm 4 (Config.sha512 secure)).extendHm 5 (Config.sha512 normal)
  { s with ladder := { s.ladder with hmClosed := true } }

/-- An accepted image is loaded, measured and started (R446 steps 6 to 8). -/
def State.handOver (s : State) (m : BootImage) (slotB fallback : Bool) : State :=
  let h := padTo 16384 m.header
  let secure := padTo (hdr h 20 4) m.secure
  let normal := padTo (hdr h 28 4) m.normal
  let flags := hdr h 5 1
  let s := (s.setBytes 0x1000000 secure).setBytes 0x2000000 normal
  let s := (s.put .LCS_BOOT_IMAGE_SVN (hdr h 6 1)).put .LCS_BOOT_SIGNER (hdr h 7 1)
  let s := (s.putBit .LCS_BOOT_SLOT slotB).putBit .LCS_BOOT_FALLBACK fallback
  let s := (s.putBit .LCS_BOOT_COMPAT (nbit flags 1)).putBit .LCS_BOOT_SERVICE_REQ (nbit flags 0)
  let s := { s with lcs := { s.lcs with header := h, running := true }, ladder := { s.ladder with svn := hdr h 6 1 } }
  let s := s.put .KLD_STATUS_SVN (hdr h 6 1)
  let s := (s.put .WLD_SENTRY_LO_ADDR (hdr h 32 4)).put .WLD_SENTRY_HI_ADDR (hdr h 36 4)
  let s := if nbit flags 0 && !s.bit .LCS_BOOT_RECOVERY then s.writeMode true else s
  let s := s.measure h secure normal
  let keys := (s.lifeCycle == lcProvision || s.lifeCycle == lcField) && s.lcs.deviceSecret.isSome && !s.lcs.killed && !s.zeroised
  let s := { s with ladder := { s.ladder with available := keys } }.computeSeeds.fillRoots.showRoots.loadScramble.loadIdentity
  let s := { s with mem := s.mem.filter (fun c => !(workspaceBase ≤ c.1 && c.1 < 0x1400000)) }
  let s := s.setBytes handOverBase (s.handOverRecord h)
  let s := s.put .WLD_STATUS_SECURE (setNbit (s.get .WLD_STATUS_SECURE) 0 true)
  let s := { s with worlds := { s.worlds with pcs := mset (fun _ => 0) s.worlds.pcs 0 (hdr h 32 8),
                                              locked := [Fld.WLD_SENTRY_LO_ADDR.addr, Fld.WLD_SENTRY_HI_ADDR.addr] } }
  let s := s.moveLog.putBit .HST_STATUS_ADMIN_READY true
  (s.put .HST_STATUS_DEVICE_STATE dsHalted).hostEvent .HST_EVENT_DEVICE_CHANGE |>.refreshDeviceState

/-! ## The sequence (R445, R446) -/

/-- Step 2: the vote, the straps and what the life-cycle opens; nothing after it in SCRAP (R429, R451, R572). -/
def State.bootOtp (s : State) (b : BootInputs) : State :=
  let code := (lcVote s.lcs.copies).getD lcScrap
  let s := ((s.put .HST_STATUS_LIFECYCLE code).put .LCS_STATUS_LIFECYCLE code).put .LCS_STATUS_PENDING code
  let open4 := code == lcBlank || code == lcProvision || code == lcAnalysis
  let s := s.put .LCS_DEBUG_ENABLES (if open4 then 15 else 0)
  let s := (s.put .LCS_BOOT_STRAP b.strapBoot).put .FLL_STATUS_POSITION b.strapPair
  let s := { s with mgp := { s.mgp with strapPlca := b.strapPlca % 8 }, alarm := { s.alarm with lifeCycle := code } }
  let s := s.showPlca
  let id := if s.lcs.identity.isSome then (Config.sha512 s.idPublic).take 32 else zeros 32
  let s := (List.range 8).foldl (fun s i => s.put (.HST_IDHASH_WORD i) (fieldLE id (4 * i) 4)) s
  let s := s.putBit .LCS_STATUS_OTP_ERR s.lcs.cut
  { s with lcs := { s.lcs with cut := false } }.showOtp

/-- Step 3: HM0, and the whole BBRAM checked; a ZEROISE decided here has erased before the boot goes on (R421, R446,
R542). -/
def State.bootBbram (s : State) (b : BootInputs) : State :=
  let s := s.extendHm 0 (padTo 64 Config.bootRomHash)
  if (b.secretOk && b.alarmOk && !s.bb.lost) then s.showAlarm
  else
    let s := s.bbramFails (!b.alarmOk || s.bb.lost)
    let s := { s with bb := { s.bb with lost := false } }
    if s.alarm.zeroising then
      let s := s.zeroiseStores
      { s with alarm := { s.alarm with zeroising := false } }
    else s

/-- Whether a DIMM configuration is one of R210. -/
def dimmsOk (d : Nat × Bool) : Bool := d.1 == 16 || d.1 == 32 || d.1 == 64

/-- Step 4: memory is sized and trained (R210, R211). -/
def State.bootMemory (s : State) (gib : Nat) (two : Bool) : State :=
  let c := gib * (if two then 4 else 2)
  let s := { s with store := { s.store with capacityGiB := c, dimmGiB := gib, twoDpc := two } }
  let s := (s.put .MEM_CFG_CAPACITY_GIB c).put .MEM_CFG_DIMM_GIB gib
  let s := (s.putBit .MEM_CFG_TWO_DPC two).putBit .MEM_STATUS_TRAINED true
  (s.put .MEM_DIR_CFG_K s.dirMaxK).armMonitor 2 true

/-- Recovery boot is entered (R447). -/
def State.enterRecovery (s : State) : State :=
  let s := (s.putBit .LCS_BOOT_RECOVERY true).put .HST_RCV_STATUS_STATE 1
  s.setDeviceState dsRecovery

/-- A slot is tried (R444): its code in LCS_FAIL. -/
def State.trySlot (s : State) (m : BootImage) (slotB : Bool) : Option Nat × State :=
  let f := s.imageFault m false
  let s := s.noteCosig m f
  (f, s.put (if slotB then .LCS_FAIL_SLOT_B else .LCS_FAIL_SLOT_A) (f.getD 0))

/-- Step 5 and what follows (R445, R446). -/
def State.bootImages (s : State) (b : BootInputs) : State :=
  if b.strapBoot % 4 = 2 then s.enterRecovery
  else
    let bFirst := if b.strapBoot % 4 = 1 then true else hdr b.slotB.header 48 4 > hdr b.slotA.header 48 4
    let (m1, m2) := if bFirst then (b.slotB, b.slotA) else (b.slotA, b.slotB)
    let (f1, s) := s.trySlot m1 bFirst
    if f1.isNone then s.handOver m1 bFirst false
    else
      let (f2, s) := s.trySlot m2 (!bFirst)
      if f2.isNone then s.handOver m2 (!bFirst) true else s.enterRecovery

/-- The boot ROM's sequence from the end of main reset (R446). -/
def State.boot (s : State) (b : BootInputs) : State :=
  let s := s.mainReset
  let s := { s with power := { s.power with mode := .active, mainEn := true, wakeLatched := false } }
  let s := (s.put .PWR_STATUS_LAST_WAKE s.power.wake).armMonitor 1 true
  let s := s.bootOtp b
  if s.lifeCycle = lcScrap then s.setDeviceState dsInert
  else
    let s := s.bootBbram b
    let s := if s.host.perstN then { s with host := { s.host with pciePll := true } }.armMonitor 3 true else s
    match b.dimms with
    | none => s.putBit .MEM_STATUS_CFG_ERROR true
    | some d => if dimmsOk d then (s.bootMemory d.1 d.2).bootImages b else s.putBit .MEM_STATUS_CFG_ERROR true

/-- The main domain leaves main reset once nothing holds it there (R518, R519, R553, R570). -/
def State.tryBoot (s : State) (b : BootInputs) : State :=
  if s.power.mode == .held && s.power.porN && s.power.sysRstN && s.power.vddAon && s.power.mainEn then s.boot b else s

/-- The main domain is held in main reset. -/
def State.hold (s : State) (wake : Option Nat) : State :=
  let s := { s with power := { s.power with mode := .held, wake := wake.getD s.power.wake } }
  s.mainReset

/-! ## Reset pins and supplies -/

/-- POR_N_ASSERT (R513, R553): a main reset in every power state but OFF. -/
def execPorNAssert (s : State) : Host.Outcome State Fault Refusal :=
  let up := s.power.mode != .off
  let waking := s.power.mode == .held
  let s := { s with power := { s.power with porN := false } }
  if up then .next (s.hold (if waking then none else some 1)) else .next s

/-- POR_N_RELEASE (R446): the boot ROM's sequence through to hand-over. A unit held asleep by POR_N powers its main
domain. -/
def execPorNRelease (b : BootInputs) (s : State) : Host.Outcome State Fault Refusal :=
  if s.power.porN then .next s
  else
    let s := { s with power := { s.power with porN := true, mainEn := s.power.mainEn || s.power.mode == PowerMode.held } }
    .next (s.tryBoot b)

/-- SYS_RST_N_ASSERT (R570). -/
def execSysRstNAssert (s : State) : Host.Outcome State Fault Refusal :=
  let up := s.power.mode != .off && s.power.mode != .sleep
  let s := { s with power := { s.power with sysRstN := false } }
  if up then .next (s.hold (if s.power.mode == .held then none else some 1)) else .next s

/-- SYS_RST_N_RELEASE (R570). -/
def execSysRstNRelease (b : BootInputs) (s : State) : Host.Outcome State Fault Refusal :=
  if s.power.sysRstN then .next s
  else .next ({ s with power := { s.power with sysRstN := true } }.tryBoot b)

/-- A wake: GPIO0 rises, and the main domain is held until POR_N is high (R518). -/
def State.wake (s : State) (b : BootInputs) : State :=
  { s with power := { s.power with mode := .held, mainEn := true, wakeLatched := false, wake := 2 } }.tryBoot b

/-- SLP_WAKE_EDGE (R518): in SLEEP it powers the main domain; one that comes after a SLEEP request has been accepted
is latched; in any other state it has no effect. -/
def execSlpWakeEdge (b : BootInputs) (s : State) : Host.Outcome State Fault Refusal :=
  match s.power.mode with
  | .sleep => .next (s.wake b)
  | .held => if s.power.mainEn then .next s else .next (s.wake b)
  | .enteringSleep => .next { s with power := { s.power with wakeLatched := true } }
  | _ => .next s

/-- VDD_AON_LOSS (R513, R542, R554, R557): OFF; `cellMv` is the higher cell, below 2.0 V of which BBRAM is lost. -/
def execVddAonLoss (cellMv : Nat) (s : State) : Host.Outcome State Fault Refusal :=
  let s := { s with power := { Power.init with porN := s.power.porN, sysRstN := s.power.sysRstN } }
  let s := { s with power := { s.power with mode := .off, vddAon := false, cells := true, mainEn := false } }.mainReset
  if cellMv ≥ 2000 then .next s else .next { s with bb := { Backup.init with lost := true } }

/-- VDD_AON_RETURN (R519): GPIO0 is driven high, and the unit boots when POR_N is high. -/
def execVddAonReturn (b : BootInputs) (s : State) : Host.Outcome State Fault Refusal :=
  if s.power.vddAon then .next s
  else .next ({ s with power := { s.power with vddAon := true, mainEn := true, mode := .held, wake := 0 } }.tryBoot b)

/-- BACKUP_SUPPLY_RETURN (R557): 100 µs after VDD_AON came back. -/
def execBackupSupplyReturn (s : State) : Host.Outcome State Fault Refusal :=
  if s.power.vddAon then .next { s with power := { s.power with cells := false } } else .next s

/-- RST_OUT_N is high from 1 ms after main reset ends (R570). -/
def State.rstOutN (s : State) : Bool := s.mainRuns && s.elapsed ≥ 1000000

/-- GPIO_RISING_EDGE (R571). -/
def execGpioRisingEdge (n : Nat) (s : State) : Host.Outcome State Fault Refusal :=
  if 1 ≤ n && n ≤ 7 && s.mainRuns then .next (s.raiseIrq (24 + n)) else .next s

/-- PERST_N_RELEASE (R414): the link may train; its PLL locks and its monitor arms. -/
def execPerstNRelease (s : State) : Host.Outcome State Fault Refusal :=
  if s.host.perstN then .next s
  else
    let s := { s with host := { s.host with perstN := true } }
    if s.mainRuns then .next ({ s with host := { s.host with pciePll := true } }.armMonitor 3 true) else .next s

/-- LINK_RATE_CHANGE (R36, R414, R516): the link trains, retrains or changes to a rate and width of the endpoint; the
windows of its monitor start anew 20 µs later. -/
def execLinkRateChange (rate width : Nat) (s : State) : Host.Outcome State Fault Refusal :=
  if !s.host.perstN || !s.mainRuns || !endpoint.linkRates.contains rate || !endpoint.linkWidths.contains width then .next s
  else
    let s := s.wakeNap 7
    let s := { s with host := { s.host with linkRate := rate, linkWidth := width } }
    if s.host.pciePll then .next (s.armMonitor 3 true) else .next s

/-! ## Recovery (R447) -/

/-- RECOVERY_GO: the container in shared SRAM is checked; an accepted one is copied and started. -/
def execRecoveryGo (readable : Bool) (s : State) : Host.Outcome State Fault Refusal :=
  if s.deviceState != dsRecovery then .next s
  else
    let s := s.wakeNap 1
    let len := s.get .HST_RCV_LEN_BYTES
    let h := padTo 16384 (s.bytes 0x2000000 (min len 16384))
    let off := hdr h 16 4
    let sec := s.bytes (0x2000000 + off) (min (hdr h 20 4) (len - off))
    let m : BootImage := { header := h, secure := sec, normal := [], readable := readable }
    match s.imageFault m true with
    | some c => .next (((s.noteCosig m (some c)).put .HST_RCV_STATUS_REASON c).put .HST_RCV_STATUS_STATE 3)
    | none =>
      let s := (s.noteCosig m none).put .HST_RCV_STATUS_STATE 4
      .next (s.handOver m true false)

end Sys2Proof.Machine
end

