-- ==== Sys2Proof/Machine/Lanes.lean ====
section
/-! DEFINITION. Symmetric lanes held by firmware (R299 to R308). -/

namespace Sys2Proof.Machine

/-- The holder code of a world's firmware (R301). -/
def worldCode : World → Nat
  | .secure => hcSecure
  | .normal => hcNormal

/-- A write by a world reaches a lane of the other world's firmware: FOREIGN (R302). -/
def State.noteForeign (s : State) (n : Nat) (w : World) : State :=
  if fwHolder (s.holder n) && s.holder n != worldCode w then s.putBit .SYM_ERR_FOREIGN true else s

/-- A lock write ignored (R302). -/
def State.refuseLock (s : State) : State := s.count .SYM_LOCK_REFUSED_COUNT

/-- LANE_LOCK_ACQUIRE (R302): the world's own code takes a free lane, or waits behind the pipeline. -/
def execLaneLockAcquire (lane code : Nat) (w : World) (s : State) : Host.Outcome State Fault Refusal :=
  if lane > 15 then .next s
  else if code != worldCode w then .next (s.noteForeign lane w).refuseLock
  else if s.holder lane = hcFree then .next (s.setHolder lane code)
  else if 1 ≤ s.holder lane && s.holder lane ≤ 0x400 && s.get (.SYM_Ln_LOCK_PENDING lane) = 0 then
    .next (s.put (.SYM_Ln_LOCK_PENDING lane) code)
  else .next (s.noteForeign lane w).refuseLock

/-- An event bit of a lane's status rises: the interrupt of its holder (R310). -/
def State.laneIrq (s : State) (n : Nat) : State :=
  if s.holder n = hcSecure && s.bit .SYM_IRQ_S_EN then s.raiseIrq 7
  else if s.holder n = hcNormal && s.bit .SYM_IRQ_NS_EN then s.raiseIrq 8
  else s

/-- LANE_LOCK_RELEASE (R302): the holder's world stops its job and frees the lane; the world of a pending code
cancels it; every other release is ignored. -/
def execLaneLockRelease (lane : Nat) (w : World) (s : State) : Host.Outcome State Fault Refusal :=
  if lane > 15 then .next s
  else if s.holder lane = worldCode w then
    let s := if (s.lane lane).running then ((s.putBit (.SYM_Ln_STATUS_ABORT lane) true).laneIrq lane) else s
    let s := (s.putBit (.SYM_Ln_STATUS_BUSY lane) false).putBit (.SYM_Ln_STATUS_KEY_LOADED lane) false
    .next ((s.wipeLane lane).setHolder lane hcFree)
  else if s.get (.SYM_Ln_LOCK_PENDING lane) = worldCode w then .next (s.put (.SYM_Ln_LOCK_PENDING lane) 0)
  else .next (s.noteForeign lane w)

/-- A write to a lane's registers by a world (R302): whether it takes effect; one that reaches a lane of the
other world's firmware sets FOREIGN. -/
def State.laneWrite (s : State) (n : Nat) (w : World) : Bool × State :=
  if s.holder n = worldCode w then (true, s)
  else (false, s.noteForeign n w)

/-- LANE_KEY_CLEAR (R303). -/
def execLaneKeyClear (lane : Nat) (w : World) (s : State) : Host.Outcome State Fault Refusal :=
  if lane > 15 then .next s
  else
    let (ok, s) := s.laneWrite lane w
    if ok then .next ((s.setLane lane { s.lane lane with key := [], loaded := false }).putBit (.SYM_Ln_STATUS_KEY_LOADED lane) false)
    else .next s

/-- What SYM_Ln_CTRL selects. -/
def State.laneParams (s : State) (n : Nat) : LaneParams :=
  { mode := s.get (.SYM_Ln_CTRL_MODE n), hash := s.get (.SYM_Ln_CTRL_HASH n), dec := s.bit (.SYM_Ln_CTRL_DIR n),
    tagLen := s.get (.SYM_Ln_CTRL_TAG_LEN n), nonceLen := s.get (.SYM_Ln_CTRL_NONCE_LEN n) }

/-- Whether a firmware job keeps the limits of its mode (R140, R142 to R144, R299, R306, R310). -/
def State.laneLimits (s : State) (n : Nat) : Bool :=
  let p := s.laneParams n
  let len := s.get (.SYM_Ln_LEN_BYTES n)
  let aad := s.get (.SYM_Ln_AAD_LEN_BYTES n)
  let k := s.get (.SYM_Ln_KEYLEN_BYTES n)
  let aes := k == 16 || k == 24 || k == 32
  let held := !p.dec || len ≤ laneBuffer
  match p.mode with
  | 0x01 => aes && aad == 0 && 16 ≤ len && len % 16 == 0
  | 0x02 => aes && aad == 0 && 1 ≤ len
  | 0x03 => k == 32 && aad == 0 && 16 ≤ len && slice (s.lane n).key 0 16 != slice (s.lane n).key 16 16
  | 0x04 => aes && held && p.nonceLen == 12 && 12 ≤ p.tagLen && p.tagLen ≤ 16
  | 0x05 => aes && held && 7 ≤ p.nonceLen && p.nonceLen ≤ 13 && [4, 6, 8, 10, 12, 14, 16].contains p.tagLen && len < 2 ^ (8 * (15 - p.nonceLen))
  | 0x06 => k == 32 && held && p.nonceLen == 12 && p.tagLen == 16
  | 0x07 => aes && aad == 0 && 8 ≤ p.tagLen && p.tagLen ≤ 16
  | 0x08 => aes && p.nonceLen == 12 && 12 ≤ p.tagLen && p.tagLen ≤ 16
  | 0x09 => 16 ≤ k && k ≤ 128 && isSha2 p.hash && 16 ≤ p.tagLen && p.tagLen ≤ digestLen p.hash
  | 0x0A => aes && (if p.dec then 24 ≤ len && len ≤ 4104 else 16 ≤ len && len ≤ 4096) && len % 8 == 0
  | 0x0B => aes && (if p.dec then 16 ≤ len && len ≤ 4104 && len % 8 == 0 else 1 ≤ len && len ≤ 4096)
  | 0x0C => isSha2 p.hash && aad == 0
  | _ => false

/-- The wrapped length W of a firmware job of KW or KWP (R299). -/
def wrappedLen (mode : Nat) (dec : Bool) (n : Nat) : Nat :=
  if dec then n else if mode = 0x0B then kwpLen n else n + 8

/-- What a firmware job of a mode puts out, and whether its integrity check held (R139 to R144, R299, R305). `iv` and `tag`
are SYM_Ln_IV and the expected tag. -/
def fwLaneJob (p : LaneParams) (key iv tag aad data : Bytes) : Bytes × Bool :=
  let opened (o : Option Bytes) : Bytes × Bool := (o.getD [], o.isSome)
  if p.mode ≤ 0x03 then (padTo data.length (Config.cipher p.mode p.dec key iv data), true)
  else if p.mode ≤ 0x06 then
    let nonce := iv.take p.nonceLen
    if p.dec then opened ((Config.aeadOpen (p.mode - 3) p.tagLen key nonce aad (data ++ tag)).map (padTo data.length))
    else (padTo (data.length + p.tagLen) (Config.aeadSeal (p.mode - 3) p.tagLen key nonce aad data), true)
  else if p.mode ≤ 0x09 then
    let t := padTo p.tagLen (Config.mac (p.mode - 6) p.hash key (iv.take 12) (aad ++ data))
    if p.dec then ([], t == tag) else (t, true)
  else if p.mode ≤ 0x0B then
    (if p.dec then opened (Config.unwrap (p.mode - 9) key data)
      else (padTo (wrappedLen p.mode false data.length) (Config.wrap (p.mode - 9) key data), true))
  else (padTo (digestLen p.hash) (Config.hash p.hash (digestLen p.hash) data), true)

/-- A firmware job is refused (R305, R306, R310). -/
def State.laneErr (s : State) (n : Nat) : State :=
  let s := s.setLane n { s.lane n with running := false, buffer := [] }
  ((s.putBit (.SYM_Ln_STATUS_BUSY n) false).putBit (.SYM_Ln_STATUS_ERR n) true).laneIrq n

/-- LANE_FW_JOB_START (R303, R305, R306, R310). -/
def execLaneFwJobStart (lane : Nat) (w : World) (s : State) : Host.Outcome State Fault Refusal :=
  if lane > 15 then .next s
  else
    let (ok, s) := s.laneWrite lane w
    if !ok then .next s
    else
      let l := s.lane lane
      let p := s.laneParams lane
      if l.running then .next ((s.putBit (.SYM_Ln_STATUS_ERR lane) true).laneIrq lane)
      else if (!l.loaded && p.mode != 0x0C) || !s.laneLimits lane || s.halted || s.zeroised || !s.gateOn (2 + lane / 8) then .next (s.laneErr lane)
      else .next ((s.setLane lane { l with running := true }).putBit (.SYM_Ln_STATUS_BUSY lane) true)

/-- LANE_FW_JOB_COMPLETE (R305, R306): the source is read and the output written as a master of the holder's
world; a refused access ends the job with ERR, a failed check with TAG_FAIL and no plaintext. -/
def execLaneFwJobComplete (lane : Nat) (s : State) : Host.Outcome State Fault Refusal :=
  if lane > 15 || !(s.lane lane).running || !fwHolder (s.holder lane) || s.halted then .next s
  else
    let l := s.lane lane
    let p := s.laneParams lane
    let agent := if s.holder lane = hcSecure then agDeviceS else agDeviceN
    let src := s.get64 (.SYM_Ln_SRC_LO_ADDR lane) (.SYM_Ln_SRC_HI_ADDR lane)
    let dst := s.get64 (.SYM_Ln_DST_LO_ADDR lane) (.SYM_Ln_DST_HI_ADDR lane)
    let aadLen := s.get (.SYM_Ln_AAD_LEN_BYTES lane)
    let n := aadLen + s.get (.SYM_Ln_LEN_BYTES lane)
    let (okR, s) := if n = 0 then (true, s) else s.checkAccess agent akRead src n
    if !okR then .next (s.laneErr lane)
    else
      let input := s.load src n
      let iv := s.windowBytes (.SYM_Ln_IV_WORD lane) 4
      let tag := (s.windowBytes (.SYM_Ln_TAG_WORD lane) 4).take p.tagLen
      let (out, good) := fwLaneJob p (l.key.take (s.get (.SYM_Ln_KEYLEN_BYTES lane))) iv tag (input.take aadLen) (input.drop aadLen)
      let s := s.put (.SYM_Ln_CYCLES_CYCLES lane) (laneNs p.mode p.hash n (wrappedLen p.mode p.dec n))
      let out := if good then out else []
      let (okW, s) := if out.isEmpty then (true, s) else s.checkAccess agent akWrite dst out.length
      if !okW then .next (s.laneErr lane)
      else
        let s := (s.store' dst out).setLane lane { l with running := false, buffer := [] }
        let s := s.putBit (.SYM_Ln_STATUS_BUSY lane) false
        let s := if good then s.putBit (.SYM_Ln_STATUS_DONE lane) true
          else (s.putBit (.SYM_Ln_STATUS_TAG_FAIL lane) true).putBit (.SYM_Ln_STATUS_DONE lane) true
        .next (s.laneIrq lane)

end Sys2Proof.Machine
end

