-- ==== Sys2Proof/Machine/Time.lean ====
section
/-! DEFINITION. The tick increment, the pulse, the time of day and the time states (R10, R28, R455 to R471). -/

namespace Sys2Proof.Machine

/-! ## What the registers show -/

/-- TIM_STATUS follows the time unit (R470). -/
def State.showTime (s : State) : State :=
  let t := s.time
  let s := (s.put .TIM_STATUS_CANDIDATES t.candidates).putBit .TIM_STATUS_PPS_LOCK t.ppsLock
  (s.putBit .TIM_STATUS_TOD_PENDING t.pendingTod.isSome).put .TIM_SINCE_PPS_TICKS (min t.sinceEdge 0xFFFFFFFF)

/-- The time unit changes. -/
def State.modTime (s : State) (f : TimeUnit → TimeUnit) : State := { s with time := f s.time }

/-- The time state changes (R464): TIME_CHANGE, TIM_EVENT.STATE, and source 18 where enabled. -/
def State.setTimeState (s : State) (st : TimeState) : State :=
  if s.time.state == st then s
  else
    let s := s.modTime (fun t => { t with state := st })
    let s := (s.put .TIM_STATUS_STATE (timeCode st)).put .HST_STATUS_TIME_STATE (timeCode st)
    let s := (s.hostEvent .HST_EVENT_TIME_CHANGE).putBit .TIM_EVENT_STATE true
    if s.bit .TIM_IRQ_STATE_EN then s.raiseIrq 18 else s

/-- P in nanoseconds: that of the locked grid, or 1,000 ticks of 25,000 XTAL cycles before any lock (R457, R458). -/
def State.period (s : State) : Nat := if s.time.everLocked then s.get .TIM_PERIOD_NS else 1000000000

/-- When tick `k` of a second occurs, from the second's start, rounded to a whole nanosecond (R457, R458). -/
def State.tickAt (s : State) (k : Nat) : Nat := (k * s.period + 500) / 1000

/-- The mean of a list of spacings, to the nearest nanosecond. -/
def meanNs (l : List Nat) : Nat := if l.isEmpty then 1000000000 else (l.sum + l.length / 2) / l.length

/-- TIM_SUBSEC.TICK: ticks since the last second boundary of the grid in use. -/
def State.subsec (s : State) : Nat := (s.time.tick - s.time.boundaryTick) % 1000

/-! ## The tick increment (R28) -/

/-- Every bucket's level rises by its RATE, at most to BURST × 256 (R157). -/
def Sched.refill (c : Sched) : Sched :=
  let up (p : Nat × Nat × Nat) : Nat := min (p.1 + p.2.1) (p.2.2 * 256)
  { c with level := (c.level.zip (c.rate.zip c.burst)).map up }

/-- A job that waits on its bucket has seen one more refill, which counts unless THROTTLE is still in force (R159,
R417). A tick in which THROTTLE alone holds the job is one it waited for its bucket's admission (log entry 74). -/
def Job.waitTick (j : Job) (counted : Bool) : Job :=
  if j.waitsRate then { j with waitedTicks := j.waitedTicks + 1, refills := j.refills + b2n counted } else j

/-- THROTTLE ends at the increment that ends the next whole tick (R417). -/
def State.throttleTick (s : State) : State :=
  match s.alarm.throttleEnd with
  | some e =>
    if s.time.tick ≥ e then
      ({ s with alarm := { s.alarm with throttleEnd := none } }.putBit .ALM_STATUS_THROTTLED false).showAlarmN
    else s
  | none => s

/-- The first part of an increment (R28): the open bead closes, the counter increments after a tick of `ns`, the
buckets are refilled. -/
def State.tickFirst (s : State) (ns : Nat) : State :=
  let was := s.strand.ckptRunning.isSome
  let s := s.closeAtTick
  let s := if s.strand.ckptRunning.isSome && !was then s.wakeNap 4 else s
  let s := s.modTime (fun t => { t with tick := t.tick + 1, sinceEdge := t.sinceEdge + 1, elapsedNs := t.elapsedNs + ns })
  let s := if s.power.mode == .nap then { s with power := { s.power with napTicks := s.power.napTicks + 1 } } else s
  let s := s.takeSettings
  let refill (e : Nat × Sched) : Nat × Sched := (e.1, e.2.refill)
  let s := { s with scheds := s.scheds.map refill }
  let s := s.throttleTick
  let counted := !s.bit .ALM_STATUS_THROTTLED
  { s with jobs := s.jobs.map (fun (e : Nat × Option Job) => (e.1, e.2.map (fun j => j.waitTick counted))) }

/-- The rest (R28): the minute window closes where the new tick begins one, the reseed request, and what follows the
count. -/
def State.tickLast (s : State) : State :=
  let s := s.dueMinute.rngTick
  let s := if s.holdsClasp && !s.zeroised then s.putBit .FLL_STATUS_HB (!s.bit .FLL_STATUS_HB) else s
  let s := s.heldEnables.gateSweep
  (s.settle.flushReplies.settleMailbox.notePeaks).showStrand.showTime

/-- The boundary tick of a second that ends at this increment. -/
def State.boundary (s : State) (late : Bool) : State :=
  s.modTime (fun t => { t with boundaryTick := t.tick, late := late })

/-- TICK_INCREMENT (R27, R28, R457, R458): a tick that no pulse decides. While the grid is locked the 1,000th tick of
a second is the edge's or the window's end, never this one. -/
def execTickIncrement (s : State) : Host.Outcome State Fault Refusal :=
  if !s.mainRuns then .next s
  else
    let k := s.time.tick - s.time.boundaryTick
    if s.time.ppsLock && k ≥ 999 then .next s
    else
      let ns := s.tickAt (k + 1) - s.tickAt k - (if s.time.late && k = 0 then 100000 else 0)
      let s := s.tickFirst ns
      let s := if !s.time.ppsLock && s.time.tick ≥ s.time.boundaryTick + 1000 then s.boundary false else s
      .next s.tickLast

/-! ## Discarding the anchor (R466) -/

/-- The anchor is discarded: UNANCHORED, and the open window closes in this tick. -/
def State.discardAnchor (s : State) : State :=
  if s.time.state == .unanchored then s
  else
    let h := s.time.sinceEdge
    let s := s.modTime (fun t => { t with anchor := none, pendingTod := none })
    let s := s.setTimeState .unanchored
    let s := if s.time.window.start < s.time.tick then s.closeMinute s.time.tick
      else s.modTime (fun t => { t with window := s.nextWindow t.tick })
    (s.event 0x0103 sevWarning h []).showTime

/-- HOLDOVER_LOSS (R464): the 86,400,000th tick after the last accepted edge. -/
def execHoldoverLoss (s : State) : Host.Outcome State Fault Refusal :=
  if s.time.state == .holdover && s.time.sinceEdge ≥ 86400000 then .next s.discardAnchor else .next s

/-- HOLDOVER_ENTRY (R458, R464): the 2,000th tick after the last accepted edge. -/
def execHoldoverEntry (s : State) : Host.Outcome State Fault Refusal :=
  if !s.time.ppsLock || s.time.sinceEdge < 2000 then .next s
  else
    let h := s.time.sinceEdge
    let s := s.modTime (fun t => { t with ppsLock := false, candidates := 0, qual := [], pendingTod := none })
    if s.time.state == .anchored then
      let s := s.modTime (fun t => { t with window := { t.window with holdover := true } })
      .next ((s.setTimeState .holdover).event 0x0102 sevWarning h []).showTime
    else .next s.showTime

/-! ## The pulse (R456, R457, R461, R464, R465, R467) -/

/-- An edge is accepted: P follows the last spacings, `since` nanoseconds after the accepted edge before (log entry 19). -/
def State.acceptEdge (s : State) (since : Nat) (phase : Int) : State :=
  let n := s.time.missed + 1
  let l := (List.replicate (min n 7) (since / n) ++ s.time.spacings).take 7
  let s := s.modTime (fun t => { t with spacings := l, missed := 0, sinceEdge := 0, rejectedNs := 0 })
  let s := (s.put .TIM_PERIOD_NS (meanNs l)).put .TIM_PHASE_ERR_NS (phase % 2 ^ 32).toNat
  s.put .TIM_PPS_ACCEPTED_COUNT (s.get .TIM_PPS_ACCEPTED_COUNT + 1)

/-- A pending time of day is applied at an accepted edge (R461, R464): the open window closes in that tick. -/
def State.applyTod (s : State) : State :=
  match s.time.pendingTod with
  | none => s
  | some v =>
    let s := s.modTime (fun t => { t with anchor := some (t.tick, v), pendingTod := none, lastTod := v })
    let s := (s.setTimeState .anchored).closeMinute s.time.tick
    s.event 0x0101 sevNotice v []

/-- The distance of this moment from the nearest second boundary under the held anchor in nanoseconds, and that
boundary's TAI second (R465). -/
def State.anchorError (s : State) (a : Nat × Nat) (subNs : Nat) : Int × Nat :=
  let d := s.time.tick - a.1
  let off := s.tickAt (d % 1000) + subNs
  if 2 * off > s.period then ((off : Int) - s.period, a.2 + d / 1000 + 1) else ((off : Int), a.2 + d / 1000)

/-- The window at a re-anchoring (R467): cut to where the next minute begins under the new anchor. -/
def State.cutWindow (s : State) (minute : Nat) : State :=
  match s.time.anchor with
  | none => s
  | some a =>
    let b := ((minute + 1) * 60 * 1000 + a.1) - a.2 * 1000
    s.modTime (fun t => { t with window := { t.window with stop := min b (t.window.start + 60000) } })

/-- Qualification completes in HOLDOVER (R465): the new anchor, or none where the bound is not met; what is recorded in
this cycle belongs to the window that opens in it (R11). -/
def State.reAnchor (s : State) (h : Nat) (e : Int) (second : Nat) : State :=
  if h ≤ 8000000 && e.natAbs ≤ h * 50 + 1000000 then
    let m := s.time.window.minute
    let s := s.modTime (fun t => { t with anchor := some (t.tick, second) })
    (((s.setTimeState .anchored).cutWindow m).dueMinute).event 0x0104 sevNotice e.natAbs []
  else s.discardAnchor.event 0x0105 sevWarning e.natAbs []

/-- The fourth qualifying edge (R456, R464): the counter increments at the edge, the first second boundary of the
locked grid. -/
def State.lock (s : State) (subNs : Nat) (qual : List Nat) : State :=
  let h := s.time.sinceEdge + 1
  let held := s.time.anchor.map (fun a => s.anchorError a subNs)
  let s := s.tickFirst subNs
  let s := (s.modTime (fun t => { t with ppsLock := true, candidates := 4, spacings := qual, qual := [], everLocked := true,
                                          missed := 0, sinceEdge := 0, rejectedNs := 0 })).boundary false
  let s := s.put .TIM_PERIOD_NS (meanNs qual)
  let s := match s.time.state, held with
    | .holdover, some (e, second) => if h ≥ 86400000 then s.discardAnchor else s.reAnchor h e second
    | _, _ => s
  s.tickLast

/-- PPS_EDGE (R456, R457): a rising edge, `spacingNs` after the rising edge before it and `subNs` after the last tick
increment. -/
def execPpsEdge (spacingNs subNs : Nat) (s : State) : Host.Outcome State Fault Refusal :=
  if !s.mainRuns then .next s
  else if !s.time.ppsLock then
    let good := s.time.candidates ≥ 1 && 999900000 ≤ spacingNs && spacingNs ≤ 1000100000
    let n := if good then s.time.candidates + 1 else 1
    let qual := if good then spacingNs :: s.time.qual else []
    if n ≥ 4 then .next (s.lock subNs qual)
    else .next (s.modTime (fun t => { t with candidates := n, qual := qual })).showTime
  else
    let p := s.period
    let k := s.time.tick - s.time.boundaryTick
    let pos := s.tickAt k + subNs + (if s.time.late && k = 0 then 100000 else 0)
    let phase : Int := (pos : Int) - p
    if k ≥ 999 && phase.natAbs ≤ 100000 then
      let s := (s.tickFirst subNs).acceptEdge (s.time.rejectedNs + spacingNs) phase
      let s := (s.boundary false).applyTod
      .next s.tickLast
    else
      let s := s.modTime (fun t => { t with rejectedNs := t.rejectedNs + spacingNs })
      .next ((s.count .TIM_PPS_REJECTED_COUNT).event 0x0106 sevInfo phase.natAbs [])

/-- PPS_WINDOW_TIMEOUT (R457, R461): no edge by E + 100 µs; what it records belongs to the new window where the tick opens
one (R11). -/
def execPpsWindowTimeout (s : State) : Host.Outcome State Fault Refusal :=
  if !s.mainRuns || !s.time.ppsLock || s.time.tick < s.time.boundaryTick + 999 then .next s
  else
    let s := (s.tickFirst (s.period - s.tickAt 999 + 100000)).boundary true
    let s := (s.modTime (fun t => { t with missed := t.missed + 1 })).dueMinute
    let s := s.event 0x0107 sevInfo s.time.tick []
    let s := s.odStore 0x6002 6 (some (le 4 (sat32 (s.odNat 0x6002 6 0))))
    let s := match s.time.pendingTod with
      | some v => (s.modTime (fun t => { t with pendingTod := none })).event 0x010A sevNotice v []
      | none => s
    .next s.tickLast

/-! ## The time of day (R461, R462) -/

/-- The rule of a NEXT_PULSE_TAI write. -/
def State.nextPulseRule (s : State) (v : Nat) : Option OdResult :=
  match s.time.anchor with
  | some a => if v = taiOf a s.time.tick + 1 then none else some .wrongState
  | none =>
    if s.time.ppsLock && 100 ≤ s.subsec && s.subsec ≤ 899 && s.time.pendingTod.isNone then none else some .wrongState

/-- An accepted write. `detail` names its writer (R481). -/
def State.nextPulse (s : State) (v : Nat) (detail : Bytes) : State :=
  let s := if s.time.anchor.isNone then (s.modTime (fun t => { t with pendingTod := some v, lastTod := v })).showTime else s
  s.event 0x0108 sevInfo v detail

/-- A refused one: TOD_CONFLICT where a time of day is held. -/
def State.todConflict (s : State) (v : Nat) (detail : Bytes) : State :=
  if s.time.anchor.isSome then s.event 0x0109 sevWarning v detail else s

/-! ## Powered time and the snapshots (R40, R468, R470) -/

/-- POWERED_HOUR_ELAPSED (R468). -/
def execPoweredHourElapsed (s : State) : Host.Outcome State Fault Refusal :=
  if s.mainRuns && s.elapsed ≥ (s.time.bootHours + 1) * 3600000000000 then
    .next (s.modTime (fun t => { t with bootHours := t.bootHours + 1, hours := t.hours + 1 }))
  else .next s

/-- The TAI second of the last boundary; 0 when UNANCHORED (R470). -/
def State.taiSecond (s : State) : Nat :=
  match s.time.anchor with
  | some a => taiOf a s.time.tick
  | none => 0

/-- HST_TICK_LO_READ (R40). -/
def execHstTickLoRead (s : State) : Host.Outcome State Fault Refusal :=
  .next { s.put .HST_TICK_HI_TICK (s.time.tick / 2 ^ 32) with readValue := s.time.tick % 2 ^ 32 }

/-- TIM_TICK_LO_READ (R470): one snapshot. -/
def execTimTickLoRead (s : State) : Host.Outcome State Fault Refusal :=
  let s := s.put .TIM_TICK_HI_TICK (s.time.tick / 2 ^ 32)
  let s := (s.put .TIM_TAI_LO_SEC s.taiSecond).put .TIM_TAI_HI_SEC (s.taiSecond / 2 ^ 32)
  .next { s.put .TIM_SUBSEC_TICK s.subsec with readValue := s.time.tick % 2 ^ 32 }

end Sys2Proof.Machine
end

