-- ==== Sys2Proof/Machine/Recorder.lean ====
section
/-! DEFINITION. The event recorder's archive, its readers and firmware's own events (R478 to R480). -/

namespace Sys2Proof.Machine

/-! ## The archive (R478) -/

/-- The record in archive slot `k` of user NVM. -/
def State.archSlot (s : State) (k : Nat) : Option EventRec := mget (fun _ => none) s.evr.archive k

/-- The records archived, with their slots. -/
def State.archList (s : State) : List (Nat × EventRec) :=
  s.evr.archive.filterMap (fun e => e.2.map (fun r => (e.1, r)))

/-- The slot the next record enters: a free one, else that of the oldest record below CRITICAL. -/
def State.archTake (s : State) : Option Nat :=
  match (List.range 2048).find? (fun k => (s.archSlot k).isNone) with
  | some k => some k
  | none => ((sortBy (fun e => (e.2.seq, 0)) (s.archList.filter (fun e => e.2.severity < sevCritical))).head?).map (·.1)

/-- The closed records that wait for the archive, in SEQ order. -/
def State.archWaits (s : State) : List EventRec :=
  sortBy (fun r => (r.seq, 0)) (s.evr.staged ++ (s.evList.map (·.2)).filter (fun r => !r.isOpen && !r.archived))

/-- Whether records are passed to user NVM: DRAM is up, the unit is not in NAP, and a slot takes them (R478, R515). -/
def State.archiving (s : State) : Bool :=
  s.bit .MEM_STATUS_READY && s.power.mode != .nap && !s.archWaits.isEmpty && s.archTake.isSome

/-- EVR_STATUS.ARCHIVE_FULL follows the archive. -/
def State.showArchive (s : State) : State :=
  let full := s.archTake.isNone
  { s with evr := { s.evr with archiveFull := full } }.putBit .EVR_STATUS_ARCHIVE_FULL full

/-- ARCHIVED is set in SRAM. -/
def State.markArchived (s : State) (seq : Nat) : State :=
  match s.evList.find? (fun e => e.2.seq == seq) with
  | some (k, r) => s.setEvSlot k (some { r with archived := true })
  | none => { s with evr := { s.evr with staged := s.evr.staged.filter (fun r => r.seq != seq) } }

/-- The first waiting record is written to its slot of user NVM. -/
def State.archiveOne (s : State) : State :=
  if !s.archiving then s
  else
    match s.archWaits, s.archTake with
    | r :: _, some k =>
      let s := s.markArchived r.seq
      let s := { s with evr := { s.evr with archive := mset (fun _ => none) s.evr.archive k (some r) } }
      (s.setBytes (0x4300000 + 512 * k) r.bytes).showArchive
    | _, _ => s

/-- EVENT_ARCHIVE_WRITE (R478). -/
def execEventArchiveWrite (s : State) : Host.Outcome State Fault Refusal := .next s.archiveOne

/-- A write of ARCHIVE_RELEASE frees the CRITICAL slots up to a SEQ (R478). -/
def State.archiveRelease (s : State) (seq : Nat) : State :=
  let gone := s.archList.filter (fun e => e.2.severity == sevCritical && e.2.seq ≤ seq)
  let free (m : SMap (Option EventRec)) (e : Nat × EventRec) : SMap (Option EventRec) := mset (fun _ => none) m e.1 none
  { s with evr := { s.evr with archive := gone.foldl free s.evr.archive } }.showArchive

/-! ## Readers (R479) -/

/-- The number of a reader: a session slot, 8 the mailbox, 9 secure firmware. -/
def OdSource.reader : OdSource → Nat
  | .session n => n
  | .admin => 8
  | .secureFirmware => 9

/-- READ_FROM of a reader. -/
def State.readFrom (s : State) (reader : Nat) : Nat := mget (fun _ => 0) s.evr.readFrom reader

/-- A read of NEXT_RECORD: the closed record with the lowest SEQ at or above READ_FROM, in SRAM or in the archive,
and READ_FROM after it; nothing where there is none (R479). -/
def State.nextRecord (s : State) (reader : Nat) : Bytes × State :=
  let held := (s.evList.map (·.2)).filter (fun r => !r.isOpen) ++ s.archList.map (·.2)
  match sortBy (fun r => (r.seq, 0)) (held.filter (fun r => s.readFrom reader ≤ r.seq)) with
  | [] => ([], s)
  | r :: _ => (r.bytes, { s with evr := { s.evr with readFrom := mset (fun _ => 0) s.evr.readFrom reader (r.seq + 1) } })

/-! ## Firmware's events (R480) -/

/-- EVR_POST_S: secure firmware posts an event of codes 0xF000 to 0xFEFF. -/
def execEvrPostS (severity code : Nat) (s : State) : Host.Outcome State Fault Refusal :=
  let s := (s.put .EVR_POST_S_SEVERITY severity)
  if 0xF000 ≤ code && code ≤ 0xFEFF && severity ≤ sevCritical then
    .next (s.event code severity (s.get64 .EVR_POST_S_LO_VALUE .EVR_POST_S_HI_VALUE) [])
  else .next s

/-- EVR_POST_N: normal-world firmware posts an event of codes 0xFF00 to 0xFFFF, at INFO to WARNING. -/
def execEvrPostN (severity code : Nat) (s : State) : Host.Outcome State Fault Refusal :=
  let s := (s.put .EVR_POST_N_SEVERITY severity)
  if 0xFF00 ≤ code && code ≤ 0xFFFF && severity ≤ sevWarning then
    .next (s.event code severity (s.get64 .EVR_POST_N_LO_VALUE .EVR_POST_N_HI_VALUE) [])
  else .next s

end Sys2Proof.Machine
end

