-- ==== Sys2Proof/Machine/Sleep.lean ====
section
/-! DEFINITION. The end of a SLEEP entry (R517). -/

namespace Sys2Proof.Machine

/-- Archives closed records, at most `fuel` of them. -/
def archiveSome : Nat → State → State
  | 0, s => s
  | n + 1, s => archiveSome n s.archiveOne

/-- Offers closed meter records to their ring, at most `fuel` of them. -/
def offerMeters : Nat → State → State
  | 0, s => s
  | n + 1, s =>
    match s.meters.closing with
    | [] => s
    | m :: rest =>
      let s := { s with meters := { s.meters with closing := rest } }
      offerMeters n (if s.meterRoom then s.writeMeter m else s.carryMeter m).endBatch

/-- SLEEP_POWER_OFF (R517, R518): the minute window and the event records close, the meter records are offered and the
closed event records archived, as many as 100 ms leave time for; GPIO0 falls, and a latched edge wakes the unit. -/
def execSleepPowerOff (meters events : Nat) (b : BootInputs) (s : State) : Host.Outcome State Fault Refusal :=
  if s.power.mode != .enteringSleep then .next s
  else
    let s := archiveSome events (offerMeters meters (s.closeMinute s.time.tick))
    let latched := s.power.wakeLatched
    let s := { s with power := { s.power with mode := .sleep, mainEn := false, wakeLatched := false } }.mainReset
    if latched then .next (s.wake b) else .next s

end Sys2Proof.Machine
end

