-- ==== Sys2Proof/Machine/RegRead.lean ====
section
/-! DEFINITION. What a read of a control register returns (R8, R40, R89, R121, R171, R186, R209, R242, R279, R295,
R333, R356, R377, R397, R406, R407, R422, R470, R482, R511, R529). Most registers hold what they show; the fields
below follow other parts of the state. -/

namespace Sys2Proof.Machine

/-! ## Codes -/

/-- The code of a restore state (0x5010:01). -/
def RestoreState.code : RestoreState → Nat
  | .empty => 0 | .loading => 1 | .refused => 2 | .claspWait => 3 | .lazy => 4 | .complete => 5 | .failed => 6

/-- The code of a signet's state (CRD_STATUS.SIGNET). -/
def SignetState.code : SignetState → Nat
  | .none => 0 | .isOpen => 1 | .complete => 2 | .expired => 3 | .consumed => 4

/-- The code of a token's state (0x9030:04). -/
def TokenState.code : TokenState → Nat
  | .none => 0 | .waiting => 1 | .accepted => 2 | .refused => 3

/-- The code of a directory resize (MEM_STATUS.RESIZE). -/
def ResizePhase.code : ResizePhase → Nat
  | .idle => 0 | .clearing => 1 | .migrating => 2

/-! ## Fields that follow the state -/

/-- Settings of the general pool in a state (R345). -/
def State.settingsIn (s : State) (p : SettingState) : Nat :=
  ((s.ladder.runs.filter (fun r => r.state == p)).map (·.len)).sum

/-- Approvals of the current signet (R366). -/
def State.approvals (s : State) : Nat := s.officers.signet.approvals.length

/-- Octets of the open bead as it would be exported (R209). -/
def State.openBytes (s : State) : Nat := min 0x400000 (max 144 s.strand.openBead.size)

/-- Whether any open meter record is flagged CARRIED (R171). -/
def State.carrying (s : State) : Bool :=
  s.meters.openRecs.any (fun e => (e.2.map (fun (m : Meter) => nbit m.flags mfCarried)).getD false)

/-- Whether a job waits for granules (R89). -/
def State.granulesWaited (s : State) : Bool := s.jobList.any (fun e => e.2.granWaited && e.2.waitsLocket)

/-- The fields whose value follows other parts of the state. -/
def derived : List (Fld × (State → Nat)) :=
  [(.HST_TICK_LO_TICK, fun s => s.time.tick),
   (.LKT_STATUS_HALT_HOLD, fun s => b2n s.halted),
   (.LKT_STATUS_GRAN_FULL, fun s => b2n s.granulesWaited),
   (.LKT_STATUS_JOBS_FULL, fun s => b2n (decide (s.jobsInUse ≥ 4096))),
   (.LKT_JOBS_IN_USE, fun s => s.jobsInUse),
   (.LKT_GRANULES_IN_USE, fun s => s.granulesInUse),
   (.LKT_WASTE_LO_NS, fun s => s.locket.wasteNs),
   (.LKT_POL_STATUS_PENDING, fun s => (s.jobList.filter (fun e => e.2.policyOpen && e.2.fwPosted.isSome)).length),
   (.HST_MTR_STATUS_CARRYING, fun s => b2n s.carrying),
   (.HST_MTR_HOLDS_COUNT, fun s => s.odNat 0x3010 5 0),
   (.HST_JNL_WRITTEN_LO_BYTES, fun s => s.strand.written),
   (.HST_JNL_CONSUMED_LO_BYTES, fun s => s.strand.consumed),
   (.HST_JNL_CONSUMED_HI_BYTES, fun s => s.strand.consumed / 2 ^ 32),
   (.HST_JNL_EXPORTED_LO_BEAD, fun s => s.strand.exported),
   (.HST_JNL_DURABLE_LO_BEAD, fun s => s.strand.durable),
   (.HST_JNL_DURABLE_HI_BEAD, fun s => s.strand.durable / 2 ^ 32),
   (.STR_STATUS_RESTORE, fun s => s.restore.state.code),
   (.STR_STATUS_CKPT_PENDING, fun s => b2n s.strand.ckptRequested),
   (.STR_STATUS_CKPT_RUNNING, fun s => b2n s.strand.ckptRunning.isSome),
   (.STR_STATUS_STAGING_FULL, fun s => b2n s.stagingFull),
   (.STR_STATUS_SHADOW_FULL, fun s => b2n s.shadowFull),
   (.STR_STATUS_SEALING, fun s => b2n s.holdsClasp),
   (.STR_OPEN_BYTES_BYTES, fun s => s.openBytes),
   (.STR_HEAD_LO_BEAD, fun s => s.strand.head),
   (.MEM_STATUS_RESIZE, fun s => s.store.phase.code),
   (.MEM_STATUS_LAZY, fun s => b2n (s.restore.state == .lazy)),
   (.MEM_DIR_CFG_LOG2_BUCKETS, fun s => s.store.k),
   (.MEM_DIR_CURSOR_CURSOR, fun s => s.store.cursor),
   (.MEM_DIR_ENTRIES_COUNT, fun s => s.dirCount),
   (.MEM_ERR_ADDR_LO_ADDR, fun s => s.store.errAddr),
   (.MEM_SCR_CTRL_ACTIVE, fun s => b2n (s.scrambling && !s.ladder.scrambleTable.isEmpty)),
   (.MEM_PRn_CTRL_FIXED 0, fun s => b2n (s.lifeCycle == lcProvision || s.lifeCycle == lcField)),
   (.BGN_STATUS_READY, fun s => b2n (s.power.mode != .held)),
   (.LAT_STATUS_READY, fun s => b2n (s.power.mode != .held)),
   (.RNG_RESEED_LO_COUNT, fun s => s.rng.reseeds),
   (.KLD_STATUS_MIGRATING, fun s => b2n s.store.walking),
   (.KLD_SETTINGS_SPEC, fun s => s.settingsIn .speculative),
   (.KLD_SETTINGS_FREE, fun s => poolSize - s.settingsUsed),
   (.KLD_PINNED_COUNT, fun s => s.settingsIn .pinned),
   (.CRD_STATUS_APPROVALS, fun s => s.approvals),
   (.CRD_STATUS_SIGNET, fun s => s.officers.signet.state.code),
   (.WLD_STATUS_COMPAT, fun s => s.get .LCS_BOOT_COMPAT),
   (.TIM_TICK_LO_TICK, fun s => s.time.tick),
   (.TIM_ELAPSED_LO_NS, fun s => s.elapsed),
   (.EVR_STATUS_USED, fun s => s.evList.length),
   (.EVR_STATUS_OPEN, fun s => (s.evList.filter (fun e => e.2.isOpen)).length),
   (.EVR_STATUS_ARCHIVING, fun s => b2n s.archiving),
   (.EVR_SEQ_LO_SEQ, fun s => s.evr.nextSeq),
   (.EVR_SURPLUS_COUNT, fun s => mget (fun _ => 0) s.evr.surplus (s.get .EVR_SURPLUS_SEL_CODE)),
   (.MGP_STATUS_LINK, fun s => b2n s.mgpLink),
   (.PWR_NAP_TICKS_LO_TICKS, fun s => s.power.napTicks)]

/-- The low words whose read latches a high word: what it then shows. -/
def latched : List (Nat × Fld × (State → Nat)) :=
  [(0x10C00010, .HST_TICK_HI_TICK, fun s => s.time.tick),
   (0x11300014, .LKT_WASTE_HI_NS, fun s => s.locket.wasteNs),
   (0x10C00310, .HST_JNL_WRITTEN_HI_BYTES, fun s => s.strand.written),
   (0x10C00320, .HST_JNL_EXPORTED_HI_BEAD, fun s => s.strand.exported),
   (0x10E00008, .STR_HEAD_HI_BEAD, fun s => s.strand.head),
   (0x10F00028, .MEM_ERR_ADDR_HI_ADDR, fun s => s.store.errAddr),
   (0x10500018, .RNG_RESEED_HI_COUNT, fun s => s.rng.reseeds),
   (0x10700024, .TIM_ELAPSED_HI_NS, fun s => s.elapsed),
   (0x10800004, .EVR_SEQ_HI_SEQ, fun s => s.evr.nextSeq),
   (0x1020001C, .PWR_NAP_TICKS_HI_TICKS, fun s => s.power.napTicks)]

/-- The word of a register with the fields that follow the state. -/
def State.readWord (s : State) (a : Nat) : Word :=
  (derived.filter (fun e => e.1.addr == a)).foldl (fun w e => setBits w e.1.lo e.1.width (e.2 s)) (s.reg a)

/-- A read of a low word latches its high word. -/
def State.latch (s : State) (a : Nat) : State :=
  (latched.filter (fun e => e.1 == a)).foldl (fun s e => s.put e.2.1 (e.2.2 s / 2 ^ 32)) s

/-- What a register's fields let a world see: write-only fields and triggers read zero, RWS fields read zero in the
normal world (R8). -/
def maskFor (w : World) (r : RegRow) (v : Word) : Word :=
  r.fields.foldl (fun v f =>
    if f.acc == .wo || (f.acc == .rws && w == .normal) then setBits v f.lo (f.hi - f.lo + 1) 0 else v) v

/-! ## Windows -/

/-- The core an operand or working-memory window shows, and whether its memory is open to firmware (R280, R296). -/
def State.windowCore (s : State) (k : ClusterId) : Nat × Bool :=
  let n := match k with
    | .big => s.get .BGN_WIN_SEL_CORE
    | .lat => s.get .LAT_WIN_SEL_CORE
  (n, s.coreOpen k n)

/-- Whether word `i` of a core's memory is out of the window's reach: the key-fed slots, and the lattice core's key
memory (R269, R295). -/
def State.keyFedWord (s : State) (k : ClusterId) (n i : Nat) : Bool :=
  match k with
  | .big => decide (4 * i ≥ (s.slotCount n - 8) * (s.slotBits n / 8))
  | .lat => decide (4 * i ≥ latWork)

/-- A word read through a window. -/
def State.windowRead (s : State) (k : ClusterId) (i : Nat) : Nat :=
  let (n, isOpen) := s.windowCore k
  if !isOpen || s.keyFedWord k n i then 0 else (mget (fun _ => 0#32) (s.cluster k).mem (n * 16384 + i)).toNat

/-- A word written through a window. -/
def State.windowWrite (s : State) (k : ClusterId) (i v : Nat) : State :=
  let (n, isOpen) := s.windowCore k
  if !isOpen || s.keyFedWord k n i then s else s.setMemNat k n i 1 v

/-- A word of the record that EVR_SLOT_SEL selects; zero where the slot is free. -/
def State.slotWord (s : State) (i : Nat) : Nat :=
  match s.evSlot (s.get .EVR_SLOT_SEL_SLOT) with
  | some r => fieldLE r.bytes (4 * i) 4
  | none => 0

/-- Whether ALM_BB_DATA shows the selected word (R422): `token` for DEBUG_S under a secure enable opened by a token. -/
def State.bbReadable (s : State) (debug token : Bool) : Bool :=
  let secret := decide (s.get .ALM_BB_ADDR_WORD < 896)
  if s.lifeCycle == lcBlank || s.lifeCycle == lcProvision then true
  else if s.lifeCycle == lcField then !secret && (!debug || token)
  else if s.lifeCycle == lcAnalysis then !secret
  else false

/-- The fields of RNG_TEST and RNG_RAW_SEL read zero outside BLANK and PROVISION (R332). -/
def rngTestRegs : List Nat := [0x10500050, 0x10500054, 0x10500058, 0x1050005C]

/-- A sub-word or wider read of the management port's windows returns zero (R488). -/
def inMgpWindow (a : Nat) : Bool := inSpan a 0x10900800 0x10900C00 || inSpan a 0x10910000 0x10920000

/-- A read of MEM_BW: the foreground load of the last 1,024 controller cycles is a free value, and the cap follows it
(R229). -/
def State.readBw (s : State) : Nat × State :=
  let (n, s) := s.freshNat
  let load := n % 101
  (load * 256 + (if load > 50 then 10 else 60), s)

/-- A read of ALM_BB_DATA: the octets BBRAM keeps its contents in have no layout in the manual, so a word that the
table of R422 lets be read is a free value (log entry 3). -/
def State.readBb (s : State) (debug : Bool) : Nat × State :=
  if s.bbReadable debug (s.lcs.tokenState == .accepted) then
    let (n, s) := s.freshNat
    (n % 2 ^ 32, s)
  else (0, s)

/-- RNG_RAW_SEL: VALID is a free value while the source it names is in TEST, for bits arrive with time. -/
def State.readRawSel (s : State) : Nat × State :=
  let w := (s.reg 0x1050005C).toNat % 2 ^ 31
  if (s.source (s.get .RNG_RAW_SEL_SRC)).st == .test then
    let (n, s) := s.freshNat
    (w + n % 2 * 2 ^ 31, s)
  else (w, s)

/-- RNG_DRBG_STATUS: BUSY is a free value, as calls end with time; only an instantiated instance is ever busy. -/
def State.readDrbg (s : State) : Nat × State :=
  let (n, s) := s.freshNat
  let inst := s.get .RNG_DRBG_STATUS_INST
  let busy := (List.range 4).foldl (fun v d => setNbit v d (nbit n d && nbit inst d)) 0
  ((setBits (s.readWord 0x10500004) 8 4 busy).toNat, s)

/-- The lane whose registers hold an address. -/
def laneOf (a : Nat) : Option (Nat × Nat) :=
  if inSpan a 0x11201000 0x11202000 then some ((a - 0x11201000) / 0x100, (a - 0x11201000) % 0x100) else none

/-- What a lane hides of a register (R302, R310): 0 nothing; 1 all but STATE; 2 all of it. A lane held by the pipeline
or the strand engine shows its lock and STATE only; the registers a holder programs are read by its world only. -/
def State.laneHides (s : State) (w : World) (a : Nat) : Nat :=
  match laneOf a with
  | some (n, off) =>
    let h := s.holder n
    if off == 0 then 0
    else if h == hcFree || fwHolder h then (if off == 0x0C || off == 0x2C || h == worldCode w then 0 else 2)
    else if off == 0x0C then 1
    else 2
  | none => 0

/-! ## Reads -/

/-- A 32-bit read of the register at `a` in a world: its value and the state it leaves. `debug` for the debug access
port. -/
def State.readReg (s : State) (w : World) (debug : Bool) (a : Nat) : Nat × State :=
  let secure := w == .secure
  let zeroNs (p : Nat × State) : Nat × State := if secure then p else (0, s)
  if inSpan a 0x10000000 0x10100000 && !secure then (0, s)
  else if a = 0x10500030 then
    if secure then ((s.portRead true).readValue, s.portRead true) else (0, s)
  else if a = 0x10500040 then ((s.portRead false).readValue, s.portRead false)
  else if rngTestRegs.contains a && !s.rngTestOpen then (0, s)
  else if a = 0x1050005C then zeroNs s.readRawSel
  else if a = 0x10500060 then
    if s.rngTestOpen && (s.source (s.get .RNG_RAW_SEL_SRC)).st == .test then
      let (v, s) := s.rawWord
      (v, s.putBit .RNG_RAW_SEL_VALID false)
    else (0, s)
  else if a = 0x10500004 then s.readDrbg
  else if a = 0x10F00014 then s.readBw
  else if a = 0x10300074 then zeroNs (s.readBb debug)
  else if a = 0x10700004 then
    let s := s.put .TIM_TICK_HI_TICK (s.time.tick / 2 ^ 32)
    let s := (s.put .TIM_TAI_LO_SEC s.taiSecond).put .TIM_TAI_HI_SEC (s.taiSecond / 2 ^ 32)
    (s.time.tick % 2 ^ 32, s.put .TIM_SUBSEC_TICK s.subsec)
  else if a = 0x10100020 && !secure then ((s.reg a).toNat &&& ((2 ^ 32 - 1) ^^^ s.get .WLD_IRQ_WORLD_SECURE), s)
  else if inMgpWindow a then (0, s)
  else if inSpan a 0x11080000 0x11088000 then zeroNs (s.windowRead .big ((a - 0x11080000) / 4), s)
  else if inSpan a 0x11180000 0x11190000 then zeroNs (s.windowRead .lat ((a - 0x11180000) / 4), s)
  else if inSpan a 0x10800200 0x10800400 then zeroNs (s.slotWord ((a - 0x10800200) / 4), s)
  else if inSpan a 0x104000C0 0x10400100 then (fieldLE (s.hm (s.get .KLD_HM_SEL_REG)) (a - 0x104000C0) 4, s)
  else if inSpan a 0x10400080 0x104000C0 then (0, s)
  else if inSpan a 0x10001000 0x10005000 && s.bit .BZL_VIEW_ACTIVE then zeroNs ((mget regReset s.worlds.bzl a).toNat, s)
  else if inSpan a 0x10100100 0x10100300 && s.bit .WLD_VIEW_ACTIVE then zeroNs ((mget regReset s.worlds.wld a).toNat, s)
  else
    match regRow a with
    | none => (0, s)
    | some r =>
      let v := maskFor w r (s.readWord a)
      match s.laneHides w a with
      | 0 => (v.toNat, s.latch a)
      | 1 => (v.toNat / 2 ^ 28 * 2 ^ 28, s)
      | _ => (0, s)

end Sys2Proof.Machine
end

