-- ==== Sys2Proof/Machine/OdRead.lean ====
section
/-! DEFINITION. What a read of a dictionary entry returns (R500, R505, R507 and the tables of every chapter). -/

namespace Sys2Proof.Machine

/-! ## Types -/

/-- The type code of a wire type (R500). -/
def OdType.code : OdType → Nat
  | .u8 => 1 | .u16 => 2 | .u32 => 3 | .u64 => 4 | .i32 => 5 | .bool => 6 | .octet _ => 7 | .time64 => 9

/-- The bytes a value of a fixed type takes. -/
def OdType.width : OdType → Nat
  | .u8 => 1 | .u16 => 2 | .u32 => 4 | .u64 => 8 | .i32 => 4 | .bool => 1 | .octet _ => 0 | .time64 => 8

/-- Whether a type is an octet string. -/
def OdType.isOctets : OdType → Bool
  | .octet _ => true
  | _ => false

/-- Whether a value has the encoding of a type (R500). -/
def OdType.encodes (t : OdType) (v : Bytes) : Bool :=
  match t with
  | .octet n => decide (v.length ≤ n)
  | .bool => v.length == 1 && decide (leNat v ≤ 1)
  | t => v.length == t.width

/-! ## Counts -/

/-- A mask of the cores of a cluster in a state. -/
def State.coreMask (s : State) (k : ClusterId) (st : Nat) : Nat :=
  (List.range k.cores).foldl (fun v n => setNbit v n (s.coreState k n == st)) 0

/-- The number of cores of a cluster in a state. -/
def State.coreCount (s : State) (k : ClusterId) (st : Nat) : Nat :=
  ((List.range k.cores).filter (fun n => s.coreState k n == st)).length

/-- Instances bound to an owner (0x4000 + n:02). -/
def State.instancesBound (s : State) (n : Nat) : Nat :=
  (s.insts.filter (fun e => e.2.st != .unbound && s.odLatestNat (0x2400 + e.1) 3 0 == n)).length

/-- Objects held in DAMAGED entries (0x1030:0B). -/
def State.damagedCount (s : State) : Nat := (s.dirAll.filter (fun e => e.state == .damaged)).length

/-- A mask of the alarm sources decided since main reset (0x7000:02). -/
def State.causesSeen (s : State) : Nat :=
  (List.range 24).foldl (fun v n => setNbit v n (mget (fun _ => 0) s.alarm.counts n != 0)) 0

/-- ALARM_STATE (0x7000:01): the strongest that holds. -/
def State.alarmState (s : State) : Nat :=
  if s.zeroised then 4 else if s.bit .ALM_STATUS_PURGING then 3 else if s.halted then 2
  else b2n (s.bit .ALM_STATUS_THROTTLED)

/-- UNCERTAINTY_US (0x6002:04): H/20 in HOLDOVER, H the ticks since the last accepted edge. -/
def State.uncertainty (s : State) : Nat :=
  match s.time.state with
  | .anchored => 1
  | .holdover => s.time.sinceEdge / 20
  | .unanchored => 0xFFFFFFFF

/-- Lanes offered to the scheduler (0xB020:01): not held by firmware or the strand engine, and none pending. -/
def State.lanesOffered (s : State) : Nat :=
  ((List.range 16).filter (fun n => !(fwHolder (s.holder n) || s.holder n == hcStrand) && s.get (.SYM_Ln_LOCK_PENDING n) == 0)).length

/-- A mask of the lanes held by firmware (0xB020:02). -/
def State.lanesHeld (s : State) : Nat := (List.range 16).foldl (fun v n => setNbit v n (fwHolder (s.holder n))) 0

/-! ## Read-only integers, by group -/

/-- Status, identity, Locket, store, Bezel, host link: 0x1000 to 0x2000. -/
def State.odStatus (s : State) (i b : Nat) : Nat :=
  match i, b with
  | 0x1000, 1 => (s.readWord 0x10C00000).toNat
  | 0x1000, 2 => s.hm3Word
  | 0x1000, 3 => fieldLE s.lcs.header 8 8
  | 0x1010, 1 => Config.fuseSerial
  | 0x1020, 1 => s.jobsInUse
  | 0x1020, 2 => s.granulesInUse
  | 0x1020, 3 => s.get .LKT_PEAK_JOBS
  | 0x1020, 4 => s.get .LKT_PEAK_GRANULES
  | 0x1020, 5 => s.locket.wasteNs
  | 0x1020, 6 => s.get .LKT_ADMIT_WAITS_COUNT
  | 0x1030, 1 => s.capacity
  | 0x1030, 2 => 2 ^ s.store.k
  | 0x1030, 3 => s.dirCount
  | 0x1030, 4 => 3 * 2 ^ s.dirMaxK / 2
  | 0x1030, 5 => s.store.phase.code
  | 0x1030, 6 => s.store.cursor
  | 0x1030, 7 => s.overflowLines
  | 0x1030, 8 => s.objectArea - s.objectUsed
  | 0x1030, 9 => s.get .MEM_ECC_CE_COUNT
  | 0x1030, 10 => s.get .MEM_ECC_UE_COUNT
  | 0x1030, 11 => s.damagedCount
  | 0x1040, 1 => s.get .BZL_STATUS_MODE
  | 0x1040, 2 => s.get .BZL_GEN_ACTIVE_GEN
  | 0x1040, 3 => s.get .BZL_FAULTS_COUNT
  | 0x1040, 4 => s.get .WLD_FAULTS_COUNT
  | 0x1040, 5 => s.get .LCS_BOOT_COMPAT
  | 0x1040, 6 => s.get .WLD_L2_WAYS_SECURE
  | 0x2000, 1 => s.host.linkRate
  | 0x2000, 2 => s.host.linkWidth
  | _, _ => 0

/-- Signets and officers: 0x1100, 0x1110 + k. -/
def State.odOfficer (s : State) (i b : Nat) : Nat :=
  let x := s.officers.signet
  if i = 0x1100 then
    match b with
    | 1 => x.state.code
    | 4 => s.officers.signetNo
    | 5 => x.endTick
    | 6 => s.approvals
    | 13 => (s.enrolled false).length
    | _ => 0
  else
    match b with
    | 2 => b2n (!(s.officerKey (i - 0x1110)).isEmpty)
    | 3 => mget (fun _ => 0) s.officers.lastApproval (i - 0x1110)
    | _ => 0

/-- An instance: 0x2400 + n. -/
def State.odInstance (s : State) (i b : Nat) : Nat :=
  let n := i - 0x2400
  let x := s.inst n
  match b with
  | 1 => x.st.code
  | 11 => x.gen
  | 12 => x.fetchPos
  | 13 => x.faultCause
  | 14 => x.dbDiscarded
  | 15 => x.lost
  | _ => 0

/-- Meter status and scheduling: 0x3010, 0x3400 + n. -/
def State.odSched (s : State) (i b : Nat) : Nat :=
  if i = 0x3010 then
    match b with
    | 1 => s.time.window.start
    | 2 => s.time.window.minute
    | 3 => s.meters.written
    | 4 => (s.meters.openRecs.filter (fun e => (e.2.map (fun (m : Meter) => decide (m.flags / mfCarried % 2 = 1))).getD false)).length
    | _ => s.odNat 0x3010 5 0
  else
    let n := i - 0x3400
    if b = 0x40 then ((s.instJobs n).filter (fun e => e.2.waitsRate)).length
    else ((s.sched n).level.getD (b - 0x30) 0) / 256

/-- An owner: 0x4000 + n. -/
def State.odOwner (s : State) (i b : Nat) : Nat :=
  let n := i - 0x4000
  match b with
  | 2 => s.instancesBound n
  | 0x13 => (s.owner n).count
  | 0x14 => s.committedSerial n
  | 0x19 => (s.officers.approvals.filter (fun a => a.owner == n)).length
  | 0x1A => (s.owner n).evicted
  | _ => 0

/-- Strand, restore and pairing: 0x5000, 0x5010, 0x5020. -/
def State.odStrand (s : State) (i b : Nat) : Nat :=
  match i, b with
  | 0x5000, 1 => s.strand.head
  | 0x5000, 2 => s.strand.exported
  | 0x5000, 3 => s.strand.durable
  | 0x5000, 4 => s.bb.headBead
  | 0x5000, 5 => s.strand.ckptLast
  | 0x5000, 10 => s.stagingBytes
  | 0x5000, b => s.odNat 0x5000 b 0
  | 0x5010, 1 => s.restore.state.code
  | 0x5010, 5 => s.restore.restored
  | 0x5020, 1 => s.pairState
  | 0x5020, 2 => s.bb.domainId
  | 0x5020, 3 => s.get .FLL_STATUS_POSITION
  | 0x5020, 4 => s.pair.partnerSerial
  | 0x5020, 5 => s.strand.role.code
  | 0x5020, 6 => s.strand.clasp.getD s.strand.lastClasp
  | 0x5020, 9 => s.pair.lastVisit
  | 0x5020, 10 => s.pair.missed
  | 0x5020, 11 => s.link
  | 0x5020, 12 => (s.pair.partnerHead.map (fun h => h.1)).getD 0
  | 0x5020, 19 => s.installsLeft
  | 0x5020, 23 => s.pair.discards
  | _, _ => 0

/-- Time and the recorder: 0x6001 to 0x6031; `r` the reader. -/
def State.odTime (s : State) (r i b : Nat) : Nat :=
  match i, b with
  | 0x6001, 1 => s.elapsed
  | 0x6001, 2 => s.time.hours
  | 0x6002, 1 => s.time.tick
  | 0x6002, 2 => timeCodeRec s.time.state
  | 0x6002, 3 => s.taiSecond
  | 0x6002, 4 => s.uncertainty
  | 0x6002, 5 => s.get .TIM_STATUS_PPS_LOCK
  | 0x6002, 6 => s.odNat 0x6002 6 0
  | 0x6002, 7 => s.get .TIM_PPS_REJECTED_COUNT
  | 0x6010, 1 => s.time.pendingTod.getD s.time.lastTod
  | 0x6020, 1 => s.evList.length
  | 0x6020, 7 => s.evr.nextSeq
  | 0x6020, b => s.get (.EVR_DROPv_COUNT (b - 2))
  | 0x6022, 1 => mget (fun _ => 0) s.evr.surplusSel r
  | 0x6022, 2 => mget (fun _ => 0) s.evr.surplus (mget (fun _ => 0) s.evr.surplusSel r)
  | 0x6030, 1 => s.readFrom r
  | 0x6031, 1 => s.archList.length
  | 0x6031, 2 => b2n s.evr.archiveFull
  | _, _ => 0

/-- Alarms and power: 0x7000, 0x7010 + s, 0x8000, 0x8010 + b. -/
def State.odAlarm (s : State) (i b : Nat) : Nat :=
  match i, b with
  | 0x7000, 1 => s.alarmState
  | 0x7000, 2 => s.causesSeen
  | 0x7000, 5 => s.alarm.alarmnMin
  | 0x7000, 6 => s.alarm.armed
  | 0x7000, 7 => s.get .ALM_UNPOWERED_OVERFLOW
  | 0x7000, 8 => s.get .ALM_LOOP_STATUS_STATE
  | 0x8000, 1 => s.get .PWR_STATUS_STATE
  | 0x8000, 4 => s.get .PWR_STATUS_LAST_WAKE
  | 0x8000, 5 => s.get .PWR_NAP_ENTRIES_COUNT
  | 0x8000, 6 => s.power.napTicks
  | 0x8000, 7 => s.get .PWR_STATUS_NAP_REFUSE
  | i, 1 => if i < 0x8000 then s.respOf (i - 0x7010) else s.get (.PWR_GATEb_STATE (i - 0x8010))
  | i, 2 => b2n (s.gateLocked (i - 0x8010))
  | i, 3 => mget (fun _ => 0) s.alarm.counts (i - 0x7010)
  | i, 4 => mget (fun _ => 0) s.alarm.lastTick (i - 0x7010)
  | _, _ => 0

/-- Limited writes left in a signer slot (0x9010 + k:FF). -/
def SignerSlot.writesLeft (x : SignerSlot) : Nat := 2 - x.state

/-- Life-cycle and limited settings: 0x9000 to 0x9040. -/
def State.odLife (s : State) (i b : Nat) : Nat :=
  match i, b with
  | 0x9000, 1 => s.lifeCycle
  | 0x9000, 0xFF => 4 - s.lcs.steps
  | 0x9020, 1 => s.lcs.floor
  | 0x9020, 0xFF => 255 - s.lcs.floor
  | 0x9021, 1 => b2n s.lcs.cosig
  | 0x9022, 1 => b2n s.lcs.compat
  | 0x9021, 0xFF => 1 - b2n s.lcs.cosig
  | 0x9022, 0xFF => 1 - b2n s.lcs.compat
  | 0x9023, 0xFF => s.installsLeft
  | 0x9030, 3 => s.get .LCS_DEBUG_ENABLES
  | 0x9030, 4 => s.lcs.tokenState.code
  | 0x9030, 5 => s.lcs.tokenRefusals
  | 0x9040, 1 => (s.readWord 0x10600008).toNat
  | 0x9040, 2 => (s.readWord 0x1060000C).toNat
  | i, 3 => (s.lcs.slot (i - 0x9010)).state
  | i, 0xFF => (s.lcs.slot (i - 0x9010)).writesLeft
  | _, _ => 0

/-- The management port: 0xA000 to 0xA030. -/
def State.odPort (s : State) (i b : Nat) : Nat :=
  match i, b with
  | 0xA000, 5 => b2n s.mgpLink
  | 0xA000, 8 => s.get .MGP_RX_FRAMES_COUNT
  | 0xA000, 9 => s.get .MGP_RX_DROPPED_COUNT
  | 0xA000, 10 => s.get .MGP_RX_TRUNC_COUNT
  | 0xA000, 11 => s.get .MGP_RX_FCS_COUNT
  | 0xA000, 12 => s.mgp.sent.length % 2 ^ 32
  | 0xA010, 1 => ((List.range 8).filter (fun n => (s.session n).st != 0)).length
  | 0xA010, 4 => s.mgp.hellosRefused
  | 0xA030, 4 => b2n s.mgmtKey.isSome
  | i, 1 => (s.session (i - 0xA020)).st
  | i, 2 => (s.session (i - 0xA020)).role
  | i, 5 => (s.session (i - 0xA020)).number
  | i, 6 => (s.session (i - 0xA020)).opened
  | i, 7 => (s.session (i - 0xA020)).flags
  | i, 9 => (s.session (i - 0xA020)).violations
  | _, _ => 0

/-- Engines and settings: 0xB000 to 0xB040. -/
def State.odEngine (s : State) (i b : Nat) : Nat :=
  match i, b with
  | 0xB000, 1 => s.coreCount .big csActive
  | 0xB000, 2 => s.coreCount .big csSpare
  | 0xB000, 3 => s.coreMask .big csFenced
  | 0xB000, 4 => s.coreMask .big csHeld
  | 0xB000, 5 => s.engines.big.ops
  | 0xB000, 6 => s.engines.big.rejects
  | 0xB010, 1 => s.coreCount .lat csActive
  | 0xB010, 2 => s.coreCount .lat csSpare
  | 0xB010, 3 => s.coreMask .lat csFenced
  | 0xB010, 4 => s.coreMask .lat csHeld
  | 0xB010, 5 => s.engines.lat.ops
  | 0xB010, 6 => s.engines.lat.rejects
  | 0xB010, 7 => s.engines.iterMax
  | 0xB010, 8 => s.get .LAT_COSIG_REQUIRED
  | 0xB020, 1 => s.lanesOffered
  | 0xB020, 2 => s.lanesHeld
  | 0xB020, 3 => s.engines.laneJobs
  | 0xB020, 4 => s.engines.laneMismatches
  | 0xB020, 5 => s.engines.stallNs
  | 0xB020, 6 => s.get .SYM_LOCK_REFUSED_COUNT
  | 0xB030, 1 => s.rngState
  | 0xB030, 2 => s.get .RNG_STATUS_QUARANTINED
  | 0xB030, 3 => s.get .RNG_STATUS_RETIRED
  | 0xB030, 4 => s.rng.reseeds
  | 0xB030, 5 => s.rng.lastTick
  | 0xB030, 6 => s.rng.healthFails
  | 0xB030, 7 => s.rng.stalledJobs
  | 0xB030, 8 => s.rng.faultTicks
  | 0xB040, 1 => poolSize - s.settingsUsed
  | 0xB040, 2 => s.settingsIn .speculative
  | 0xB040, 3 => s.settingsIn .pinned
  | 0xB040, 4 => s.ladder.hits
  | 0xB040, 5 => s.ladder.misses
  | 0xB040, 6 => s.get .KLD_INTEG_FAILS_COUNT
  | 0xB040, 7 => s.svn
  | 0xB040, 10 => b2n s.store.walking
  | 0xB040, 11 => s.store.migrated
  | _, _ => 0

/-- The number a computed entry reads as; `r` the reader. -/
def State.odComputed (s : State) (r i b : Nat) : Nat :=
  if i < 0x1100 || i = 0x2000 then s.odStatus i b
  else if i < 0x2000 then s.odOfficer i b
  else if i < 0x3000 then s.odInstance i b
  else if i < 0x4000 then s.odSched i b
  else if i < 0x5000 then s.odOwner i b
  else if i < 0x6000 then s.odStrand i b
  else if i < 0x7000 then s.odTime r i b
  else if i < 0x9000 then s.odAlarm i b
  else if i < 0xA000 then s.odLife i b
  else if i < 0xB000 then s.odPort i b
  else s.odEngine i b

/-! ## Octet strings and open values -/

/-- The octets of a read-only string, and of what a writable one keeps outside the dictionary's values. -/
def State.odString (s : State) (i b : Nat) : Option Bytes :=
  match i, b with
  | 0x1010, 2 => some s.lcs.cert
  | 0x1010, 3 => some s.lcs.endorsement
  | 0x1100, 10 => some s.officers.lastRecord
  | 0x9030, 1 => some s.debugChallenge
  | 0xA000, 6 => some macAddress
  | 0xA000, 7 => some linkLocal
  | 0xA030, 2 => some (match s.mgmtKey with
      | some k => Config.csr k
      | none => [])
  | 0xA030, 3 => some s.mgmtCert
  | 0xF000, 4 => some (if s.lifeCycle = lcBlank && s.lcs.identity.isSome then s.idPublic else [])
  | i, 1 => if 0x9010 ≤ i && i < 0x9014 then some (s.lcs.slot (i - 0x9010)).hash else none
  | i, 3 => if 0xA020 ≤ i && i < 0xA028 then some (s.session (i - 0xA020)).peer else none
  | i, 4 => if 0xA020 ≤ i && i < 0xA028 then some (s.session (i - 0xA020)).certHash else none
  | _, _ => none

/-- Writable entries for which the manual states no value read (log entry 3). -/
def odUnstated (i b : Nat) : Bool :=
  (i == 0x7000 && (b == 3 || b == 4)) || (inSpan i 0x7010 0x7028 && b == 2) || (i == 0x6010 && b == 2) ||
    (i == 0x6031 && b == 3) || (i == 0x9000 && b == 2) || (inSpan i 0x9010 0x9014 && b == 2)

/-- Writable entries that show a part of the state and not the value written. -/
def odShown (i b : Nat) : Bool :=
  (i == 0x7000 && b == 5) || (inSpan i 0x7010 0x7028 && b == 1) || (i == 0x6010 && b == 1) || (i == 0x6022 && b == 1) ||
    (i == 0x6030 && b == 1) || (inSpan i 0x9020 0x9023 && b == 1)

/-- The number a stored entry holds by default: VECTOR of instance n is 16 + n (R53), the state of owner 0 is 1
(R508). -/
def OdRow.start (r : OdRow) (i b : Nat) : Nat :=
  if inSpan i 0x2400 0x2800 && b == 8 then 16 + (i - 0x2400) else if i == 0x4000 && b == 1 then 1 else r.default

/-! ## The read -/

/-- The value an entry reads as for one of its sources, and the state the read leaves (R479, R505). -/
def State.odValue (s : State) (src : OdSource) (row : OdRow) (i b : Nat) : Bytes × State :=
  if row.access == .wo then ([], s)
  else if i = 0x6030 && b = 2 then s.nextRecord src.reader
  else if i = 0x1030 && b = 12 then
    let (n, s) := s.freshNat
    (le 1 (n % 101), s)
  else if odUnstated i b then
    let (n, s) := s.freshNat
    (le row.type.width n, s)
  else
    match s.odString i b with
    | some v => (v, s)
    | none =>
      let computed := row.access == .ro || odShown i b
      if computed then (le row.type.width (s.odComputed src.reader i b), s)
      else
        match s.odAfter (s.wrote src) i b with
        | some v => (v, s)
        | none => (if row.type.isOctets then [] else le row.type.width (row.start i b), s)

/-- The output of a read (R497, R504): TYPE code, TOTAL_LEN, and the value's bytes from an offset, at most `cap`. -/
def readOutput (t : OdType) (v : Bytes) (offset cap : Nat) : Bytes :=
  le 1 t.code ++ zeros 2 ++ le 4 v.length ++ slice v offset cap

/-- A read of an entry (R501, R503): its result, its output, and the state it leaves. -/
def State.odRead (s : State) (q : OdReq) (i b offset cap : Nat) : OdResult × Bytes × State :=
  match odRow i b with
  | none => (.noEntry, [], s)
  | some row =>
    if row.access == .rws && q.role != .secure then (.role, [], s)
    else
      let (v, s) := s.odValue q.src row i b
      (.ok, readOutput row.type v offset cap, s)

end Sys2Proof.Machine
end

