-- ==== Sys2Proof/Machine/Dictionary.lean ====
section
/-! DEFINITION. Writes of the dictionary: the checks of R503 in their order, what a write of each storage class does
(R502, R505), and the commands that name one entry. -/

namespace Sys2Proof.Machine

/-! ## Who writes -/

/-- SOURCE of a record (R180). -/
def OdSource.source : OdSource → RecSource
  | .admin => .adminMailbox
  | .session n => .session n
  | .secureFirmware => .secureFirmware

/-- The Puesh session number of a source; 0 for the others (R181, R481). -/
def State.sessionNo (s : State) : OdSource → Nat
  | .session n => (s.session n).number
  | _ => 0

/-- The TAG a record carries: that of the mailbox's entry (R180). -/
def OdReq.recTag (q : OdReq) : Nat := if q.src == .admin then q.tag else 0

/-- The detail of an event about a write (R481): role, source, session, error. OBSERVER has no code among the roles
of R180: its octet is a free value (log entry 3). -/
def State.writeDetail (s : State) (q : OdReq) (error : Nat) : Bytes × State :=
  let (role, s) := if q.role == .observer then s.freshNat else (q.role.code, s)
  (le 1 role ++ le 1 q.src.source.code ++ le 4 (s.sessionNo q.src) ++ le 1 error, s)

/-! ## The checks (R501, R503) -/

/-- The anchor entries of 0xA040 + a. -/
def anchorEntry (i : Nat) : Bool := inSpan i 0xA040 0xA044

/-- Whether a write of an entry is an RWQ write with a signet (R369, R435, R501). -/
def State.needsSignet (s : State) (row : OdRow) (i : Nat) : Bool :=
  match row.access with
  | .rwq => !(anchorEntry i && (s.enrolled false).isEmpty)
  | .rwl => s.lifeCycle == lcField
  | _ => false

/-- Whether a role may write an entry (R435, R501). -/
def State.mayWrite (s : State) (row : OdRow) (i : Nat) (role : Role) : Bool :=
  match row.access with
  | .rwq => if s.needsSignet row i then role != .observer else role == .manager || role == .secure
  | .rwl => if s.lifeCycle == lcField then role != .observer else role == .secure
  | .rws => role == .secure
  | _ => row.writers.contains role

/-- Ranges that a least and a greatest value do not state. -/
def State.rangeRule (s : State) (q : OdReq) (i b : Nat) (v : Bytes) : Bool :=
  let n := leNat v
  if inSpan i 0x2400 0x2800 && (b == 5 || b == 6) then n % 4096 == 0
  else if (i == 0x5010 && b == 2) || (i == 0x5020 && b == 0x14) then n % 8 == 0
  else if i == 0xA000 && b == 1 then decide (n ≤ 7) || n == 255
  else if i == 0x6011 && b == 1 then decide (n ≤ 1000) || decide (2 ^ 32 - 1000 ≤ n)
  else if inSpan i 0x4000 0x5000 && b == 0x10 then n % 2 == 0 && decide (n < 4096)
  else if inSpan i 0x4000 0x5000 && b == 4 then decide (n > s.odSeen q.src i 4 0)
  else if i == 0xB040 && b == 8 then decide (n ≤ s.svn)
  else if i == 0x9020 && b == 1 then decide (s.lcs.floor ≤ n) && decide (n ≤ s.svn)
  else if anchorEntry i && b == 1 then v.isEmpty || Config.anchorOk v
  else true

/-- Whether a value lies in its entry's range. -/
def State.inRange (s : State) (q : OdReq) (row : OdRow) (i b : Nat) (v : Bytes) : Bool :=
  let n := if row.type.isOctets then v.length else leNat v
  decide (row.least ≤ n) && decide (n ≤ row.most) && s.rangeRule q i b v

/-- `ok`, or the wrong-state error. -/
def orWrongState (ok : Bool) : Option OdResult := if ok then none else some .wrongState

/-- The rules of restore and pairing entries (R54, R203, R245, R247, R255, R256). -/
def State.strandRule (s : State) (i b n : Nat) : Option OdResult :=
  if i = 0x5010 then
    match b with
    | 2 => orWrongState (s.restore.state == .empty)
    | 3 => orWrongState (s.restore.state == .empty)
    | 4 => orWrongState (s.restore.state == .empty && s.bb.pairSecret.isSome)
    | 6 => orWrongState (s.restore.state == .refused)
    | _ => none
  else if i = 0x5020 then
    match b with
    | 13 => orWrongState s.handoverOk
    | 14 => orWrongState (s.strand.role == .active || s.strand.role == .handingOver)
    | 16 => s.domainCreateRule
    | 17 => orWrongState s.domainSendOk
    | 18 => s.domainAcceptRule
    | 22 => orWrongState (s.restore.state == .claspWait)
    | _ => none
  else if i = 0x6010 && b = 1 then s.nextPulseRule n
  else none

/-- The rules of signet, officer and alarm entries (R364, R365, R409, R410, R427). -/
def State.officerRule (s : State) (i b : Nat) (v : Bytes) : Option OdResult :=
  let n := leNat v
  if i = 0x1100 then
    match b with
    | 2 => s.signetOpenRule v
    | 7 => s.officerQuorumRule n
    | _ => none
  else if inSpan i 0x1110 0x1130 then s.officerKeyRule (i - 0x1110) v
  else if i = 0x7000 && b = 3 then s.loopsArmRule n
  else if inSpan i 0x7010 0x7028 then
    if b = 1 then responseRule (i - 0x7010) n else s.responseRaiseRule (i - 0x7010) n
  else none

/-- Whether a limited-write setting has no write left (R436). -/
def State.otpExhausted (s : State) (i b : Nat) : Bool :=
  (i == 0x9000 && b == 2 && decide (s.lcs.steps ≥ 4)) ||
    (inSpan i 0x9010 0x9014 && (s.lcs.slot (i - 0x9010)).state == 2) || (i == 0x9020 && s.lcs.floor == 255) ||
    (i == 0x9021 && s.lcs.cosig) || (i == 0x9022 && s.lcs.compat)

/-- Whether a write programs OTP, and so is refused while a programming runs (R452). -/
def programsOtp (row : OdRow) (i b : Nat) : Bool := row.access == .rwl || (i == 0xF000 && (b == 1 || b == 2))

/-- The rules of life-cycle, factory, port and power entries (R434, R436, R441, R494, R517). -/
def State.deviceRule (s : State) (i b : Nat) (v : Bytes) : Option OdResult :=
  if inSpan i 0x9000 0x9023 then orWrongState (s.limitedWrite i b v).isSome
  else if i = 0xF000 then
    match b with
    | 1 => orWrongState s.provisionOk
    | 2 => orWrongState s.signer0Ok
    | _ => orWrongState (s.lifeCycle == lcBlank)
  else if i = 0xA030 then
    if b = 1 then orWrongState s.mgmtKeyOk else orWrongState (s.mgmtCertOk v)
  else if i = 0x8000 && b = 3 then orWrongState (!s.sleepBarred)
  else none

/-- An entry's own rule: the result with which it refuses a value, if it does. -/
def State.odRule (s : State) (q : OdReq) (i b : Nat) (v : Bytes) : Option OdResult :=
  let n := leNat v
  if inSpan i 0x2400 0x2800 then
    match b with
    | 2 => none
    | 3 => orWrongState (s.ownerAccepted q.src (i - 0x2400) n)
    | _ => orWrongState ((s.inst (i - 0x2400)).st == .bound)
  else if inSpan i 0x4000 0x5000 then
    match b with
    | 1 => orWrongState (n != 0 || s.ownerIdle (i - 0x4000))
    | 4 => orWrongState (s.ownerIdle (i - 0x4000))
    | b => if inSpan b 0x20 0x28 then s.approverRule (i - 0x4000) (b - 0x20) v else none
  else if inSpan i 0x5000 0x7000 then s.strandRule i b n
  else if i < 0x8000 then s.officerRule i b v
  else s.deviceRule i b v

/-- The result of a write by the checks of R503 after NO_ENTRY, in their order; nothing where all pass. -/
def State.writeFault (s : State) (q : OdReq) (row : OdRow) (i b typ : Nat) (v : Bytes) : Option OdResult :=
  let rule := s.odRule q i b v
  let bars : List (OdResult × Bool) :=
    [(.access, row.access == .ro || (i == 0x4000 && (b == 1 || b == 4))),
     (.role, !s.mayWrite row i q.role),
     (.type, typ != row.type.code || !row.type.encodes v),
     (.range, !s.inRange q row i b v || rule == some .range),
     (.signet, s.needsSignet row i && !s.signetCovers i b v),
     (.exhausted, s.otpExhausted i b || rule == some .exhausted),
     (.busy, programsOtp row i b && s.lcs.programming.isSome),
     (.notActive, row.cls == .persistent && !s.holdsClasp),
     (.wrongState, s.zeroised || rule == some .wrongState ||
       (row.cls == .persistent && (s.strand.role == .handingOver || !s.strandOpen)) ||
       (row.cls == .unitLocal && !s.strandOpen && decide (s.strand.queued.length ≥ 64)))]
  (bars.find? (fun e => e.2)).map (·.1)

/-! ## Records (R181, R206, R502) -/

/-- The OD_WRITE record of a write. -/
def State.writeRec (s : State) (q : OdReq) (i b typ : Nat) (v sig : Bytes) (reply : Option Nat) : Rec :=
  { role := q.role.code, source := q.src.source, tick := s.time.tick, inst := 0xFFFF, owner := 0, tag := q.recTag,
    body := .odWrite i b typ v (s.sessionNo q.src) sig, job := none, reply := reply, durable := q.durable }

/-- A record of a unit-local or OTP write joins the open bead, or waits for one (R502). -/
def State.queueRec (s : State) (r : Rec) : State :=
  if s.strandOpen then (s.joinRec r).2 else { s with strand := { s.strand with queued := s.strand.queued ++ [r] } }

/-- A write that is refused changes nothing, and is reported (R206, R461, R481). -/
def State.refuseWrite (s : State) (q : OdReq) (i b : Nat) (v : Bytes) (e : OdResult) : State :=
  let (detail, s) := s.writeDetail q e.code
  let s := s.event 0x0801 sevWarning (odKey i b) detail
  let s := if i = 0x6010 && b = 1 && e == .wrongState then s.todConflict (leNat v) detail else s
  let otp := ((odRow i b).map (fun r => programsOtp r i b)).getD false
  let s := if otp && (e == .exhausted || e == .busy || e == .wrongState) then s.otpRefused else s
  (s.addReply q (some e) [] none).2

/-! ## Effects (R505) -/

/-- Restore, pairing and strand entries. -/
def State.strandWrite (s : State) (i b : Nat) (v sig : Bytes) (items : List StrandItem) : State :=
  match i, b with
  | 0x5000, _ => s.requestCheckpoint
  | 0x5010, 4 => (if s.linkUp then s.sendSealed 0x03 [] else s).restoreStart
  | 0x5010, 6 => (s.odStore i b (some v)).rollbackAccept sig
  | 0x5020, 13 => s.handover
  | 0x5020, 14 => s.wakePulse
  | 0x5020, 15 => s.modPair (fun p => { p with stayAwake := true })
  | 0x5020, 16 => s.domainCreateEffect
  | 0x5020, 17 => (s.odStore i b (some v)).domainSendEffect (leNat v)
  | 0x5020, 18 => s.domainAcceptEffect
  | 0x5020, 22 => s.appendStart items
  | i, b => s.odStore i b (some v)

/-- Time and recorder entries; each reader has its own READ_FROM and SURPLUS_SELECT (R461, R479). -/
def State.timeWrite (s : State) (q : OdReq) (i b : Nat) (v : Bytes) : State :=
  let n := leNat v
  let r := q.src.reader
  match i with
  | 0x6010 =>
    if b = 1 then
      let (detail, s) := s.writeDetail q 0
      s.nextPulse n detail
    else s.discardAnchor
  | 0x6022 => { s with evr := { s.evr with surplusSel := mset (fun _ => 0) s.evr.surplusSel r n } }
  | 0x6030 => { s with evr := { s.evr with readFrom := mset (fun _ => 0) s.evr.readFrom r n } }
  | _ => s.archiveRelease n

/-- Signet and card entries (R361, R365, R366, R370). -/
def State.signetWrite (s : State) (b : Nat) (v : Bytes) : State :=
  match b with
  | 2 => s.signetOpenEffect v
  | 3 => if s.officers.signet.live then s.cancelSignet else s
  | 11 => s.pinWrite 0
  | 12 => s.pinWrite 1
  | _ => s.armZeroise

/-- What a write of a volatile entry does; a debug token and a NAP request may still be refused by their own checks
(R450, R514). -/
def State.volatileWrite (s : State) (q : OdReq) (i b : Nat) (v sig : Bytes) (items : List StrandItem) : Option OdResult × State :=
  if inSpan i 0x5000 0x6000 then (none, s.strandWrite i b v sig items)
  else if inSpan i 0x6000 0x7000 then (none, s.timeWrite q i b v)
  else if i = 0x1100 then (none, s.signetWrite b v)
  else if i = 0x9030 then s.debugToken v
  else if i = 0x8000 then
    if b = 3 then (none, s.beginSleep)
    else
      let s := s.requestNap false
      (if s.power.mode == .nap then none else some .wrongState, s)
  else if inSpan i 0xA020 0xA028 then (none, s.closeSession (i - 0xA020))
  else if i = 0xF000 then (none, { s with lcs := { s.lcs with cert := v } })
  else (none, s.odStore i b (some v))

/-- What a write of a unit-local entry does at once. -/
def State.localWrite (s : State) (i b : Nat) (v : Bytes) : State :=
  let n := leNat v
  if i = 0x7000 then
    match b with
    | 3 => s.loopsArm n
    | 4 => s.loopsDisarm n
    | _ => s.setAlarmnMin n
  else if inSpan i 0x7010 0x7028 then s.setResponse (i - 0x7010) n
  else if i = 0xA030 && b = 1 then s.mgmtKeyMake
  else
    let s := s.odStore i b (some v)
    if i = 0xA000 then s.showPlca
    else if i = 0xA010 && b = 2 then s.limitSessions
    else if anchorEntry i then s.anchorChanged (i - 0xA040)
    else s

/-- A write that passes every check is executed: its signet is consumed first, and its response is due at once, at
the end of the programming, or at the seal (R502, R503, R505). -/
def State.executeWrite (s : State) (q : OdReq) (row : OdRow) (i b typ : Nat) (v : Bytes) (items : List StrandItem) : State :=
  let (sig, s) := if s.needsSignet row i then s.consumeSignet else ([], s)
  let n := s.agent.nextReply
  match row.cls with
  | .persistent =>
    let s := (s.addReply q none [] none).2
    let s := (s.joinRec (s.writeRec q i b typ v sig (some n))).2
    if inSpan i 0x2400 0x2800 && b = 3 then s.ownerEffect (i - 0x2400) (leNat v) else s
  | .unitLocal =>
    let s := (s.localWrite i b v).queueRec (s.writeRec q i b typ v sig none)
    (s.addReply q (some .ok) [] none).2
  | .otp =>
    let s := (s.addReply q none [] none).2.queueRec (s.writeRec q i b typ v sig none)
    match s.limitedWrite i b v with
    | some (.lifeCycle code) => s.lifecycleNext code n
    | some w => s.startOtp w (some n)
    | none => s
  | .volatile =>
    if inSpan i 0x2400 0x2800 then
      let s := (s.addReply q none [] none).2
      if leNat v = 1 then s.controlEnable (i - 0x2400) n else s.controlReset (i - 0x2400) n
    else if i = 0xF000 && b = 1 then (s.addReply q none [] none).2.provisionRun n
    else if i = 0xF000 && b = 2 then (s.addReply q none [] none).2.startOtp (.signer 0 (padTo 64 v)) (some n)
    else
      match s.volatileWrite q i b v sig items with
      | (some e, s) => s.refuseWrite q i b v e
      | (none, s) => (s.addReply q (some .ok) [] none).2

/-- Responses whose release has come are handed over. -/
def State.respond (s : State) : State := s.flushReplies.settleMailbox

/-- A write of an entry by a source, of a value of a type code (R503, R505). -/
def State.odWrite (s : State) (q : OdReq) (i b typ : Nat) (v : Bytes) (items : List StrandItem) : State :=
  match odRow i b with
  | none => (s.refuseWrite q i b v .noEntry).respond
  | some row =>
    match s.writeFault q row i b typ v with
    | some e => (s.refuseWrite q i b v e).respond
    | none => (s.executeWrite q row i b typ v items).respond

/-- A write of a value carried with the entry's own type code. -/
def State.odSet (s : State) (q : OdReq) (i b : Nat) (v : Bytes) (items : List StrandItem) : State :=
  s.odWrite q i b (((odRow i b).map (fun r => r.type.code)).getD 0) v items

/-! ## The mailbox's two commands (R42, R504) -/

/-- Why an admin entry's command ends without an access: the detail of the first check of R112 that fails. -/
def adminFault (entry : Bytes) (read : Bool) : Option Nat :=
  let e := padTo 128 entry
  let f (off n : Nat) : Nat := fieldLE e off n
  let inlineOk := if read then f 59 1 == 0 && f 62 66 == 0 else f 60 68 == 0
  let addressesOk := f 48 8 == 0 && (f 32 4 != 0 || f 24 8 == 0) && (f 36 4 != 0 || f 40 8 == 0)
  if f 2 1 ≥ 8 || f 3 1 != 0 then some 0x0701
  else if !inlineOk || !addressesOk then some 0x0701
  else if f 8 8 != 0 || f 16 8 != 0 then some 0x0703
  else if f 32 4 > (if read then 0 else 4096) then some 0x1101
  else if read && f 36 4 < 7 then some 0x1102
  else none

/-- A read of an entry by a source: its response is due at once. -/
def State.odFetch (s : State) (q : OdReq) (i b offset cap : Nat) : State :=
  let (res, out, s) := s.odRead q i b offset cap
  let r : Reply := { num := s.agent.nextReply, req := q, result := some res, bead := 0, output := out, badDetail := none, kind := 0x81 }
  { s with agent := { s.agent with replies := s.agent.replies ++ [r], nextReply := s.agent.nextReply + 1 } }.respond

/-- OD_READ (R42, R504): the next mailbox entry, as fetched. -/
def execOdRead (entry : Bytes) (s : State) : Host.Outcome State Fault Refusal :=
  let e := padTo 128 entry
  if !s.adminEligible || fieldLE e 0 2 != 0x0F01 then .next s
  else
    match adminFault e true with
    | some d => .next (s.adminBad e d)
    | none => .next (s.adminAdvance.odFetch (adminReq e) (fieldLE e 56 2) (fieldLE e 58 1) (fieldLE e 60 2) (fieldLE e 36 4 - 7))

/-- OD_WRITE (R42, R504): the next mailbox entry, with its input as read; `items` the beads a write of APPEND_START
finds presented. While ZEROISED the mailbox serves OD_READ only (R417). -/
def execOdWrite (entry value : Bytes) (items : List StrandItem) (s : State) : Host.Outcome State Fault Refusal :=
  let e := padTo 128 entry
  if !s.adminEligible || fieldLE e 0 2 != 0x0F02 then .next s
  else if s.zeroised then .next (s.adminBad e (if fieldLE e 2 1 ≥ 8 || fieldLE e 3 1 != 0 then 0x0701 else 0x0702))
  else
    match adminFault e false with
    | some d => .next (s.adminBad e d)
    | none =>
      .next ((s.adminAdvance.readAdminInput e).odWrite (adminReq e) (fieldLE e 56 2) (fieldLE e 58 1) (fieldLE e 59 1) (padTo (fieldLE e 32 4) value) items)

/-! ## Commands that name one entry

Each is a write of its entry by the source `q` names, as the agent executes it. -/

/-- INSTANCE_OWNER_WRITE (R54): OWNER of an instance. -/
def execInstanceOwnerWrite (q : OdReq) (inst : Nat) (value : Bytes) (s : State) : Host.Outcome State Fault Refusal :=
  .next (s.odSet q (instIndex inst) 3 value [])

/-- INSTANCE_ENABLE (R55, R56): ENABLE written to CONTROL. -/
def execInstanceEnable (q : OdReq) (inst : Nat) (s : State) : Host.Outcome State Fault Refusal :=
  .next (s.odSet q (instIndex inst) 2 (le 1 1) [])

/-- INSTANCE_RESET (R56, R58): RESET written to CONTROL. -/
def execInstanceReset (q : OdReq) (inst : Nat) (s : State) : Host.Outcome State Fault Refusal :=
  .next (s.odSet q (instIndex inst) 2 (le 1 2) [])

/-- CHECKPOINT_REQUEST (R197). -/
def execCheckpointRequest (q : OdReq) (value : Bytes) (s : State) : Host.Outcome State Fault Refusal :=
  .next (s.odSet q 0x5000 6 value [])

/-- RESTORE_START (R202, R203, R260). -/
def execRestoreStart (q : OdReq) (value : Bytes) (s : State) : Host.Outcome State Fault Refusal :=
  .next (s.odSet q 0x5010 4 value [])

/-- ROLLBACK_ACCEPT (R203). -/
def execRollbackAccept (q : OdReq) (value : Bytes) (s : State) : Host.Outcome State Fault Refusal :=
  .next (s.odSet q 0x5010 6 value [])

/-- MIGRATE_FLOOR (R343). -/
def execMigrateFloor (q : OdReq) (value : Bytes) (s : State) : Host.Outcome State Fault Refusal :=
  .next (s.odSet q 0xB040 8 value [])

/-- OWNER_EPOCH (R351). -/
def execOwnerEpoch (q : OdReq) (owner : Nat) (value : Bytes) (s : State) : Host.Outcome State Fault Refusal :=
  .next (s.odSet q (0x4000 + owner) 4 value [])

/-- DOMAIN_CREATE (R245). -/
def execDomainCreate (q : OdReq) (value : Bytes) (s : State) : Host.Outcome State Fault Refusal :=
  .next (s.odSet q 0x5020 0x10 value [])

/-- DOMAIN_SEND (R245, R247). -/
def execDomainSend (q : OdReq) (value : Bytes) (s : State) : Host.Outcome State Fault Refusal :=
  .next (s.odSet q 0x5020 0x11 value [])

/-- DOMAIN_ACCEPT (R245). -/
def execDomainAccept (q : OdReq) (value : Bytes) (s : State) : Host.Outcome State Fault Refusal :=
  .next (s.odSet q 0x5020 0x12 value [])

/-- HANDOVER (R255). -/
def execHandover (q : OdReq) (value : Bytes) (s : State) : Host.Outcome State Fault Refusal :=
  .next (s.odSet q 0x5020 0xd value [])

/-- APPEND_START (R256): `items` the beads presented. -/
def execAppendStart (q : OdReq) (items : List StrandItem) (value : Bytes) (s : State) : Host.Outcome State Fault Refusal :=
  .next (s.odSet q 0x5020 0x16 value items)

/-- WAKE_PARTNER (R258). -/
def execWakePartner (q : OdReq) (value : Bytes) (s : State) : Host.Outcome State Fault Refusal :=
  .next (s.odSet q 0x5020 0xe value [])

/-- STAY_AWAKE (R259). -/
def execStayAwake (q : OdReq) (value : Bytes) (s : State) : Host.Outcome State Fault Refusal :=
  .next (s.odSet q 0x5020 0xf value [])

/-- PIN_WRITE (R361): PIN_A or PIN_B. -/
def execPinWrite (q : OdReq) (port : Nat) (value : Bytes) (s : State) : Host.Outcome State Fault Refusal :=
  .next (s.odSet q 0x1100 (if port = 0 then 0xB else 0xC) value [])

/-- SIGNET_OPEN (R365). -/
def execSignetOpen (q : OdReq) (value : Bytes) (s : State) : Host.Outcome State Fault Refusal :=
  .next (s.odSet q 0x1100 2 value [])

/-- SIGNET_CANCEL (R366). -/
def execSignetCancel (q : OdReq) (value : Bytes) (s : State) : Host.Outcome State Fault Refusal :=
  .next (s.odSet q 0x1100 3 value [])

/-- ZEROISE_ARM (R370). -/
def execZeroiseArm (q : OdReq) (value : Bytes) (s : State) : Host.Outcome State Fault Refusal :=
  .next (s.odSet q 0x1100 0xe value [])

/-- LOOPS_ARM (R413, R427). -/
def execLoopsArm (q : OdReq) (value : Bytes) (s : State) : Host.Outcome State Fault Refusal :=
  .next (s.odSet q 0x7000 3 value [])

/-- LOOPS_DISARM (R413, R427). -/
def execLoopsDisarm (q : OdReq) (value : Bytes) (s : State) : Host.Outcome State Fault Refusal :=
  .next (s.odSet q 0x7000 4 value [])

/-- RESPONSE_RAISE (R427). -/
def execResponseRaise (q : OdReq) (src : Nat) (value : Bytes) (s : State) : Host.Outcome State Fault Refusal :=
  .next (s.odSet q (0x7010 + src) 2 value [])

/-- LIFECYCLE_NEXT (R434). -/
def execLifecycleNext (q : OdReq) (value : Bytes) (s : State) : Host.Outcome State Fault Refusal :=
  .next (s.odSet q 0x9000 2 value [])

/-- SIGNER_HASHES (R436). -/
def execSignerHashes (q : OdReq) (slot : Nat) (value : Bytes) (s : State) : Host.Outcome State Fault Refusal :=
  .next (s.odSet q (0x9010 + slot) 1 value [])

/-- SIGNER_REVOKE (R436). -/
def execSignerRevoke (q : OdReq) (slot : Nat) (value : Bytes) (s : State) : Host.Outcome State Fault Refusal :=
  .next (s.odSet q (0x9010 + slot) 2 value [])

/-- SVN_FLOOR (R436). -/
def execSvnFloor (q : OdReq) (value : Bytes) (s : State) : Host.Outcome State Fault Refusal :=
  .next (s.odSet q 0x9020 1 value [])

/-- COSIG_REQUIRED (R436). -/
def execCosigRequired (q : OdReq) (value : Bytes) (s : State) : Host.Outcome State Fault Refusal :=
  .next (s.odSet q 0x9021 1 value [])

/-- COMPAT_DISABLE (R436). -/
def execCompatDisable (q : OdReq) (value : Bytes) (s : State) : Host.Outcome State Fault Refusal :=
  .next (s.odSet q 0x9022 1 value [])

/-- PROVISION_RUN (R441). -/
def execProvisionRun (q : OdReq) (value : Bytes) (s : State) : Host.Outcome State Fault Refusal :=
  .next (s.odSet q 0xF000 1 value [])

/-- SIGNER0 (R436, R441). -/
def execSigner0 (q : OdReq) (value : Bytes) (s : State) : Host.Outcome State Fault Refusal :=
  .next (s.odSet q 0xF000 2 value [])

/-- IDENTITY_CERT_WRITE (R441). -/
def execIdentityCertWrite (q : OdReq) (value : Bytes) (s : State) : Host.Outcome State Fault Refusal :=
  .next (s.odSet q 0xF000 3 value [])

/-- DEBUG_TOKEN (R450). -/
def execDebugToken (q : OdReq) (value : Bytes) (s : State) : Host.Outcome State Fault Refusal :=
  .next (s.odSet q 0x9030 2 value [])

/-- NEXT_PULSE_TAI (R461). -/
def execNextPulseTai (q : OdReq) (value : Bytes) (s : State) : Host.Outcome State Fault Refusal :=
  .next (s.odSet q 0x6010 1 value [])

/-- TOD_RESET (R467). -/
def execTodReset (q : OdReq) (value : Bytes) (s : State) : Host.Outcome State Fault Refusal :=
  .next (s.odSet q 0x6010 2 value [])

/-- ARCHIVE_RELEASE (R478). -/
def execArchiveRelease (q : OdReq) (value : Bytes) (s : State) : Host.Outcome State Fault Refusal :=
  .next (s.odSet q 0x6031 3 value [])

/-- SESSION_CLOSE_WRITE (R495). -/
def execSessionCloseWrite (q : OdReq) (slot : Nat) (value : Bytes) (s : State) : Host.Outcome State Fault Refusal :=
  .next (s.odSet q (0xA020 + slot) 8 value [])

/-- MGMT_KEY_GENERATE (R494). -/
def execMgmtKeyGenerate (q : OdReq) (value : Bytes) (s : State) : Host.Outcome State Fault Refusal :=
  .next (s.odSet q 0xA030 1 value [])

/-- MGMT_CERT (R494). -/
def execMgmtCert (q : OdReq) (value : Bytes) (s : State) : Host.Outcome State Fault Refusal :=
  .next (s.odSet q 0xA030 3 value [])

/-- NAP_REQUEST (R514). -/
def execNapRequest (q : OdReq) (value : Bytes) (s : State) : Host.Outcome State Fault Refusal :=
  .next (s.odSet q 0x8000 2 value [])

/-- SLEEP_REQUEST (R517). -/
def execSleepRequest (q : OdReq) (value : Bytes) (s : State) : Host.Outcome State Fault Refusal :=
  .next (s.odSet q 0x8000 3 value [])

/-- NEXT_RECORD (R479): a read of the entry by a source. -/
def execNextRecord (q : OdReq) (offset cap : Nat) (s : State) : Host.Outcome State Fault Refusal :=
  .next (s.odFetch q 0x6030 2 offset cap)

end Sys2Proof.Machine
end

