-- ==== Sys2Proof/Machine/Puesh.lean ====
section
/-! DEFINITION. Puesh messages (R495 to R499), and the accesses that secure firmware submits (R506). -/

namespace Sys2Proof.Machine

/-! ## Messages (R496, R497) -/

/-- The TYPE of a message. -/
def msgType (m : Bytes) : Nat := fieldLE m 1 1

/-- Whether a message has the form of its type: header fields, lengths, reserved fields zero. -/
def msgOk (m : Bytes) : Bool :=
  let n := fieldLE m 8 4
  let t := msgType m
  let body := m.drop 16
  decide (16 ≤ m.length) && fieldLE m 0 1 == 1 && decide (fieldLE m 2 1 < 4) && fieldLE m 3 1 == 0 && fieldLE m 12 4 == 0 &&
    decide (n ≤ 1414) && m.length == 16 + n &&
    ((t == 1 && n == 8 && fieldLE body 3 1 == 0) || (t == 2 && decide (8 ≤ n)) || (t == 3 && n == 0))

/-- Queues a response of a kind, ready to go. -/
def State.queueReply (s : State) (q : OdReq) (kind flags grant : Nat) (res : OdResult) (again : Option Bytes) : State :=
  let r : Reply := { num := s.agent.nextReply, req := q, result := some res, bead := 0, output := [], badDetail := none,
                     kind := kind, flags := flags, grant := grant, again := again }
  { s with agent := { s.agent with replies := s.agent.replies ++ [r], nextReply := s.agent.nextReply + 1 } }

/-- The parts a reader has received of a write. -/
def State.parts (s : State) (reader : Nat) : Option WriteParts := mget (fun _ => none) s.agent.parts reader

/-- Changes them. -/
def State.setParts (s : State) (reader : Nat) (x : Option WriteParts) : State :=
  { s with agent := { s.agent with parts := mset (fun _ => none) s.agent.parts reader x } }

/-- The parts held once one more has come; nothing where it is out of sequence (R497). -/
def WriteParts.next (held : Option WriteParts) (key typ total offset : Nat) (part : Bytes) : Option WriteParts :=
  if offset = 0 then some { key := key, typ := typ, total := total, bytes := part }
  else
    match held with
    | some h =>
      if h.key = key && h.typ = typ && h.total = total && h.bytes.length = offset then some { h with bytes := h.bytes ++ part }
      else none
    | none => none

/-- A WRITE message's body: a part of a value, the last of which executes the write (R497). -/
def State.writePart (s : State) (q : OdReq) (body : Bytes) (items : List StrandItem) : State :=
  let i := fieldLE body 0 2
  let b := fieldLE body 2 1
  let r := q.src.reader
  match WriteParts.next (s.parts r) (odKey i b) (fieldLE body 3 1) (fieldLE body 4 2) (fieldLE body 6 2) (body.drop 8) with
  | none => ((s.setParts r none).refuseWrite q i b [] .offset).respond
  | some h =>
    if h.total > 4096 || h.bytes.length > h.total then ((s.setParts r none).refuseWrite q i b h.bytes .type).respond
    else if h.bytes.length = h.total then (s.setParts r none).odWrite q i b h.typ h.bytes items
    else ((s.setParts r (some h)).queueReply q 0x82 2 1 .ok none).respond

/-- A READ or WRITE message is executed; one of a wrong form is answered by ERROR. -/
def State.runMessage (s : State) (q : OdReq) (m : Bytes) (items : List StrandItem) : State :=
  let body := m.drop 16
  if !msgOk m || msgType m == 3 then (s.queueReply q 0x8F 0 1 .type none).respond
  else if msgType m = 1 then
    s.odFetch q (fieldLE body 0 2) (fieldLE body 2 1) (fieldLE body 4 2) (min (fieldLE body 6 2) 1406)
  else s.writePart { q with durable := nbit (fieldLE m 2 1) 0 } body items

/-! ## Sessions (R495, R498, R499) -/

/-- What surrounds a session's request. -/
def State.sessionReq (s : State) (n : Nat) (m : Bytes) : OdReq :=
  { src := .session n, tag := fieldLE m 4 4, noIrq := false, durable := false, outAddr := 0, outCap := 0,
    role := Role.ofCode (s.session n).role }

/-- IDLE_TIMEOUT (0xA010:03). -/
def State.idleTimeout (s : State) : Nat := s.odNat 0xA010 3 300000

/-- Whether a session takes messages: open, and not in the tick its idle timeout ends (R510). -/
def State.sessionLive (s : State) (n : Nat) : Bool :=
  decide (n < 8) && (s.session n).st == 2 && !s.zeroised && decide (s.time.tick < (s.session n).lastTick + s.idleTimeout)

/-- A request without a credit is discarded and counted; the sixteenth closes the session (R498). -/
def State.creditViolation (s : State) (n : Nat) : State :=
  let x := s.session n
  let s := s.setSession n { x with violations := x.violations + 1 }
  if x.violations + 1 ≥ 16 then s.closeSession n else s

/-- A READ or WRITE with its credit: executed, or answered again from the cache (R498, R499). -/
def State.creditedRequest (s : State) (n : Nat) (m : Bytes) (items : List StrandItem) : State :=
  let x := s.session n
  if x.credits = 0 then s.creditViolation n
  else
    let s := s.setSession n { x with credits := x.credits - 1 }
    let q := s.sessionReq n m
    match x.cache.find? (fun e => e.1 == q.tag) with
    | some e => (s.queueReply q (msgType m + 0x80) 0 1 .ok (some e.2)).respond
    | none => s.runMessage q m items

/-- A message of a session that takes no credit: CLOSE, or one of no type the manual gives. -/
def State.plainMessage (s : State) (n : Nat) (m : Bytes) : State :=
  if msgOk m then s.closeSession n else (s.queueReply (s.sessionReq n m) 0x8F 0 0 .type none).respond

/-- A message arrives in a session's record. -/
def State.message (s : State) (n : Nat) (m : Bytes) (items : List StrandItem) : State :=
  if !s.sessionLive n then s
  else
    let s := s.setSession n { s.session n with lastTick := s.time.tick }
    if msgType m = 1 || msgType m = 2 then s.creditedRequest n m items else s.plainMessage n m

/-- READ (R497): a message of TYPE 0x01, or of a type the manual does not give, which is answered by ERROR. -/
def execRead (slot : Nat) (msg : Bytes) (s : State) : Host.Outcome State Fault Refusal :=
  if msgType msg = 2 || msgType msg = 3 then .next s else .next (s.message slot msg [])

/-- WRITE (R497): a message of TYPE 0x02; `items` the beads a write of APPEND_START finds presented. -/
def execWrite (slot : Nat) (msg : Bytes) (items : List StrandItem) (s : State) : Host.Outcome State Fault Refusal :=
  if msgType msg = 2 then .next (s.message slot msg items) else .next s

/-- CLOSE (R495): a message of TYPE 0x03. -/
def execClose (slot : Nat) (msg : Bytes) (s : State) : Host.Outcome State Fault Refusal :=
  if msgType msg = 3 then .next (s.message slot msg []) else .next s

/-! ## Secure firmware (R506) -/

/-- The access MGP_OD_CTRL submits: ROLE SECURE and SESSION 0xFF are firmware's own, any other is made for the session
in its role. -/
def State.firmwareReq (s : State) (session role : Nat) (m : Bytes) (addr : Nat) : OdReq :=
  let own := role = 3 || session = 0xFF
  { src := if own then .secureFirmware else .session session, tag := fieldLE m 4 4, noIrq := false, durable := false,
    outAddr := addr, outCap := 1, role := if own then Role.ofCode role else Role.ofCode (s.session session).role }

/-- SECURE_OD_ACCESS: a write of MGP_OD_CTRL with GO. The message is read from secure SRAM as DEVICE_S; the response
takes its place. -/
def execSecureOdAccess (session role : Nat) (items : List StrandItem) (s : State) : Host.Outcome State Fault Refusal :=
  let addr := s.get .MGP_OD_REQ_ADDR
  if (session > 7 && session != 0xFF) || role > 3 then .next s
  else
    let s := (s.put .MGP_OD_CTRL_SESSION session).put .MGP_OD_CTRL_ROLE role
    if addr < 0x1000000 || addr + 1430 > 0x1400000 then .next s
    else if role != 3 && session != 0xFF && (s.session session).st != 2 then .next s
    else
      let m := s.bytes addr (16 + min 1414 (fieldLE (s.bytes addr 16) 8 4))
      let (ok, s) := s.checkAccess agDeviceS akRead addr m.length
      if !ok then .next s
      else .next ((s.putBit .MGP_OD_STATUS_BUSY true).runMessage (s.firmwareReq session role m addr) m items)

end Sys2Proof.Machine
end

