-- ==== Sys2Proof/Machine/RegWrite.lean ====
section
/-! DEFINITION. What a write of a control register does (R7, R8): the access codes over the register table, and the
registers whose write acts (R41, R89, R121, R171, R186, R242, R264, R279, R295, R302, R310, R333, R356, R377, R406,
R407, R428, R447, R482, R511, R529). -/

namespace Sys2Proof.Machine

/-! ## Access codes (R8) -/

/-- Whether a world's write can change a field. -/
def FldSpec.opens (f : FldSpec) (w : World) : Bool :=
  match f.acc with
  | .ro => false
  | .rws => w == .secure
  | _ => true

/-- What a written word carries in a field. -/
def FldSpec.of (f : FldSpec) (v : Word) : Nat := getBits v f.lo (f.hi - f.lo + 1)

/-- Whether a value is inside the range a field's definition states. -/
def FldSpec.admits (f : FldSpec) (x : Nat) : Bool := f.least ≤ x && x ≤ f.most && x % f.align == 0

/-- Whether every field the write can change is given a value its definition admits; clearing and setting bits have no
range. -/
def RegRow.admits (r : RegRow) (w : World) (v : Word) : Bool :=
  r.fields.all (fun f => !f.opens w || f.acc == .w1c || f.acc == .w1s || f.admits (f.of v))

/-- The word a register holds after a write: reserved bits keep zero, bits written 1 clear, triggers are not kept, and
a LOCK field written before stays. -/
def RegRow.merge (r : RegRow) (w : World) (isLocked : Bool) (old v : Word) : Word :=
  r.fields.foldl (fun o f =>
    let n := f.hi - f.lo + 1
    let x := f.of v
    if !f.opens w then o
    else
      match f.acc with
      | .w1c => setBits o f.lo n (getBits o f.lo n &&& (2 ^ n - 1 - x))
      | .rw => setBits o f.lo n x
      | .rws => setBits o f.lo n x
      | .lock => if isLocked then o else setBits o f.lo n x
      | _ => o) old

/-- Whether a register has a LOCK field. -/
def RegRow.locks (r : RegRow) : Bool := r.fields.any (fun f => f.acc == .lock)

/-- The write of a register that only holds what it is given. -/
def State.regStore (s : State) (w : World) (a v : Nat) : State :=
  match regRow a with
  | none => s
  | some r =>
    let x := BitVec.ofNat 32 v
    if !r.admits w x then s
    else
      let s' := s.setReg a (r.merge w (s.worlds.locked.contains a) (s.reg a) x)
      if r.locks && !s.worlds.locked.contains a then
        { s' with worlds := { s'.worlds with locked := a :: s'.worlds.locked } }
      else s'

/-- The state a command answers. -/
def nextOf (s : State) (o : Host.Outcome State Fault Refusal) : State :=
  match o with
  | .next t => t
  | .fault _ => s
  | .refused _ => s

/-- A write of a trigger: it acts where the world may write and the bit is 1. -/
def trigger (ok : Bool) (s t : State) : State := if ok then t else s

/-! ## The host port (R40, R41, R171, R186, R427) -/

/-- A write of a word of the MSI-X table (R44): unmasking sends a pending message. -/
def State.msixWrite (s : State) (i v : Nat) : State :=
  let put (x : Nat) : State := { s with host := { s.host with
    msixTable := mset (fun i => if i % 4 = 3 then 1#32 else 0#32) s.host.msixTable i (BitVec.ofNat 32 x) } }
  if i % 4 = 3 then (if v % 2 = 1 then put 1 else nextOf s (execMsixVectorUnmask (i / 4) s)) else put v

/-- HST_AQ_CFG (R41). -/
def State.aqCfg (s : State) (v : Nat) : State :=
  let d := v % 16
  if d < 4 || d > 12 then s
  else if nbit v 8 then
    (if s.bit .HST_AQ_CFG_ENABLE then s else nextOf s (execAdminMailboxEnable d s))
  else
    let s := if s.bit .HST_AQ_CFG_ENABLE then nextOf s (execAdminMailboxDisable s) else s
    if s.bit .HST_AQ_STATUS_RUNNING then s else s.put .HST_AQ_CFG_DEPTH_LOG2 d

/-- HST_MTR_CFG (R171). -/
def State.mtrCfg (s : State) (v : Nat) : State :=
  let d := v % 16
  if d < 4 || d > 15 then s
  else if nbit v 8 then
    (if s.bit .HST_MTR_CFG_ENABLE then s else nextOf s (execMeterRingEnable d s))
  else
    let s := if s.bit .HST_MTR_CFG_ENABLE then nextOf s (execMeterRingDisable s) else s
    if s.bit .HST_MTR_STATUS_RUNNING then s else s.put .HST_MTR_CFG_DEPTH_LOG2 d

/-- HST_JNL_CFG (R186). -/
def State.jnlCfg (s : State) (v : Nat) : State :=
  let d := v % 32
  if d < 26 then s
  else if nbit v 8 then
    (if s.bit .HST_JNL_CFG_ENABLE || s.bit .HST_JNL_STATUS_RUNNING then s else nextOf s (execJournalExportEnable d s))
  else
    let s := if s.bit .HST_JNL_CFG_ENABLE then nextOf s (execJournalExportDisable s) else s
    if s.bit .HST_JNL_STATUS_RUNNING then s else s.put .HST_JNL_CFG_SIZE_LOG2 d

/-- HST registers. -/
def State.writeHst (s : State) (w : World) (a v : Nat) : State :=
  if inSpan a 0x10C01000 0x10C01010 then (if s.bit .HST_AQ_STATUS_RUNNING then s else s.regStore w a v)
  else if a = 0x10C01010 then s.aqCfg v
  else if a = 0x10C01018 then nextOf s (execAdminSqTailWrite v s)
  else if a = 0x10C0101C then
    (if v < 2 ^ s.get .HST_AQ_CFG_DEPTH_LOG2 then (s.put .HST_AQ_CQ_HEAD_HEAD v).flushReplies.settleMailbox else s)
  else if inSpan a 0x10C00200 0x10C00208 then (if s.bit .HST_MTR_STATUS_RUNNING then s else s.regStore w a v)
  else if a = 0x10C00208 then s.mtrCfg v
  else if a = 0x10C00210 then nextOf s (execMeterHeadWrite v s)
  else if inSpan a 0x10C00300 0x10C00308 then (if s.bit .HST_JNL_STATUS_RUNNING then s else s.regStore w a v)
  else if a = 0x10C00308 then s.jnlCfg v
  else if a = 0x10C00318 then
    nextOf s (execJournalConsumedWrite ((s.reg 0x10C0031C).toNat * 2 ^ 32 + v % 2 ^ 32) s)
  else if a = 0x10C00328 then
    nextOf s (execJournalDurableWrite ((s.reg 0x10C0032C).toNat * 2 ^ 32 + v % 2 ^ 32) s)
  else if a = 0x10C00330 then nextOf s (execClaspWrite v s)
  else if a = 0x10C00408 then trigger (nbit v 0) s (nextOf s (execRecoveryGo true s))
  else s.regStore w a v

/-! ## Locket, strand, store, link (R89, R121, R209, R242, R264) -/

/-- LKT_POL_DECIDE (R121, R122): verdicts 0b01 and 0b10 act. -/
def State.policyDecide (s : State) (v : Nat) : State :=
  let job := v % 4096
  let seq := v / 65536 % 256
  match v / 2 ^ 30 % 4 with
  | 1 => nextOf s (execPolicyPermit job seq s)
  | 2 => nextOf s (execPolicyDeny job seq s)
  | _ => s

/-- LKT registers. -/
def State.writeLkt (s : State) (w : World) (a v : Nat) : State :=
  let sec := w == .secure
  if a = 0x11300010 then trigger (sec && nbit v 0) s (nextOf s (execLocketPeakClear s))
  else if a = 0x11300104 || a = 0x11300108 then (if s.bit .LKT_POL_CFG_RING_EN then s else s.regStore w a v)
  else if a = 0x11300110 then (s.regStore w a v).polIrq
  else if a = 0x11300114 then trigger sec s (s.policyDecide v)
  else s.regStore w a v

/-- STR registers. -/
def State.writeStr (s : State) (w : World) (a v : Nat) : State :=
  if a = 0x10E00010 then trigger (w == .secure && nbit v 0) s (nextOf s (execCkptReq s)) else s.regStore w a v

/-- MEM registers: a range LOCKED, or FIXED by the life-cycle state, ignores its shadow writes. -/
def State.writeMem (s : State) (w : World) (a v : Nat) : State :=
  if a = 0x10F00040 then trigger (w == .secure && nbit v 0) s (nextOf s (execProtectedRangeCommit s))
  else if inSpan a 0x10F00100 0x10F00180 then
    let n := (a - 0x10F00100) / 16
    let fixed := n = 0 && (s.lifeCycle == lcProvision || s.lifeCycle == lcField)
    if s.bit (.MEM_PRn_CTRL_LOCKED n) || fixed then s else s.regStore w a v
  else s.regStore w a v

/-- FLL registers. -/
def State.writeFll (s : State) (w : World) (a v : Nat) : State :=
  if a = 0x10B00004 then
    (if w == .secure then
      let s := s.putBit .FLL_CTRL_LINK_EN (nbit v 0)
      trigger (nbit v 1) s (nextOf s (execFllWake s))
    else s)
  else s.regStore w a v

/-! ## The clusters (R266, R277, R279, R280, R295, R296) -/

/-- Bits that a write of a set-bits register sets. -/
def State.setOnes (s : State) (f : Fld) (v : Nat) : State :=
  s.put f ((s.reg f.addr) ||| BitVec.ofNat 32 v).toNat

/-- The operation codes marked F in R271. -/
def bgnFirmwareOps : List Nat := [0x01, 0x02, 0x03, 0x04, 0x05, 0x06, 0x07, 0x08, 0x10, 0x11, 0x12, 0x13, 0x14, 0x18, 0x1C]

/-- The operation codes marked F in R294. -/
def latFirmwareOps : List Nat := [0x02, 0x0A, 0x20, 0x21, 0x22, 0x30]

/-- A big-number core's registers (R280): a write refused sets ERR. -/
def State.writeBgnCore (s : State) (n off v : Nat) (w : World) (a : Nat) : State :=
  let slotOk (x : Nat) : Bool := x % 1024 < s.slotCount n
  let keep (ok : Bool) : State := if s.coreOpen .big n && ok then s.regStore w a v else s.coreErr .big n
  match off with
  | 0x00 => nextOf s (execBgnCoreCfgWrite n (v % 64) s)
  | 0x04 => keep (slotOk v && slotOk (v / 65536))
  | 0x08 => keep (slotOk (v / 65536) && s.resultSlotOk n (v % 1024) false)
  | 0x0C => keep (slotOk v)
  | 0x10 => keep (64 ≤ v % 16384 && v % 16384 ≤ s.slotBits n)
  | 0x14 => if bgnFirmwareOps.contains (v % 256) then s.bgnStart n (v % 256) (v / 256 % 256) else s.coreErr .big n
  | _ => s

/-- BGN registers. -/
def State.writeBgn (s : State) (w : World) (a v : Nat) : State :=
  let sec := w == .secure
  if a = 0x11000008 || a = 0x1100000C then (s.regStore w a v).updateCores .big
  else if a = 0x11000010 then (s.setOnes .BGN_FENCE_LO_FENCE v).updateCores .big
  else if a = 0x11000014 then (s.setOnes .BGN_FENCE_HI_FENCE (v % 4)).updateCores .big
  else if a = 0x11000018 then trigger sec s (nextOf s (execBgnPromote (v % 64) s))
  else if a = 0x11000040 then
    let s := trigger (sec && nbit v 0) s (nextOf s (execAttestKeyGenStart s))
    trigger (sec && nbit v 1) s (nextOf s (execAttestKeyGenStop s))
  else if inSpan a 0x11001000 0x11001880 && (a - 0x11001000) % 64 < 0x18 then
    trigger sec s (s.writeBgnCore ((a - 0x11001000) / 64) ((a - 0x11001000) % 64) v w a)
  else if inSpan a 0x11080000 0x11088000 then trigger sec s (s.windowWrite .big ((a - 0x11080000) / 4) v)
  else s.regStore w a v

/-- A lattice core's registers (R295, R296): offsets and lengths are multiples of 8, and a range that reaches beyond
0xDFFF is refused with ERR. -/
def State.writeLatCore (s : State) (n off v : Nat) (w : World) (a : Nat) : State :=
  match off with
  | 0x0C => if latFirmwareOps.contains (v % 256) then s.latStart n (v % 256) (v / 256 % 256) else s.coreErr .lat n
  | _ =>
    if !s.coreOpen .lat n || v % 65536 + v / 65536 % 65536 > latWork then s.coreErr .lat n
    else if v % 8 = 0 && v / 65536 % 8 = 0 then s.regStore w a v
    else s

/-- LAT registers. -/
def State.writeLat (s : State) (w : World) (a v : Nat) : State :=
  let sec := w == .secure
  if a = 0x11100008 then (s.regStore w a v).updateCores .lat
  else if a = 0x11100010 then (s.setOnes .LAT_FENCE_FENCE (v % 512)).updateCores .lat
  else if a = 0x11100018 then trigger sec s (nextOf s (execLatPromote (v % 16) s))
  else if inSpan a 0x11101000 0x11101240 && (a - 0x11101000) % 64 < 0x10 then
    trigger sec s (s.writeLatCore ((a - 0x11101000) / 64) ((a - 0x11101000) % 64) v w a)
  else if inSpan a 0x11180000 0x11190000 then trigger sec s (s.windowWrite .lat ((a - 0x11180000) / 4) v)
  else s.regStore w a v

/-! ## Lanes (R301 to R303, R310) -/

/-- A word of a lane's key window: taken while KEYSRC is 0. -/
def State.laneKeyWord (s : State) (n i v : Nat) : State :=
  if s.bit (.SYM_Ln_CTRL_KEYSRC n) then s
  else
    let k := padTo 128 (s.lane n).key
    let k := k.take (4 * i) ++ le 4 v ++ k.drop (4 * i + 4)
    (s.setLane n { s.lane n with key := k, loaded := true }).putBit (.SYM_Ln_STATUS_KEY_LOADED n) true

/-- SYM_Ln_CMD: KEYCLR, then START. -/
def State.laneCmd (s : State) (n v : Nat) (w : World) : State :=
  let s := if nbit v 1 then nextOf s (execLaneKeyClear n w s) else s
  if nbit v 0 then nextOf s (execLaneFwJobStart n w s) else s

/-- The registers of a lane. -/
def State.writeLane (s : State) (n off v : Nat) (w : World) (a : Nat) : State :=
  if off = 0 then
    (if v % 65536 = 0 then nextOf s (execLaneLockRelease n w s) else nextOf s (execLaneLockAcquire n (v % 65536) w s))
  else if off = 0x08 then s.laneCmd n v w
  else if off = 0x0C && s.holder n = hcFree then s.regStore w a v
  else
    let (ok, s) := s.laneWrite n w
    if !ok then s
    else if inSpan off 0x80 0x100 then s.laneKeyWord n ((off - 0x80) / 4) v
    else s.regStore w a v

/-- SYM registers; SYM_IRQ.NS_EN takes normal-world writes only. -/
def State.writeSym (s : State) (w : World) (a v : Nat) : State :=
  if a = 0x11200004 then
    (if w == .secure then s.putBit .SYM_IRQ_S_EN (nbit v 0) else s.putBit .SYM_IRQ_NS_EN (nbit v 1))
  else
    match laneOf a with
    | some (n, off) => s.writeLane n off v w a
    | none => s.regStore w a v

/-! ## Random numbers, keys, cards (R332, R333, R356, R377) -/

/-- RNG registers: the test registers are open in BLANK and PROVISION only, and RNG_RAW_SEL takes a source in TEST. -/
def State.writeRng (s : State) (w : World) (a v : Nat) : State :=
  let sec := w == .secure
  if a = 0x10500030 || a = 0x10500040 || a = 0x10500060 then s
  else if a = 0x10500038 then trigger (sec && nbit v 0) s (nextOf s (execRngSPrRequest s))
  else if a = 0x10500048 then trigger (nbit v 0) s (nextOf s (execRngNsPrRequest s))
  else if a = 0x10500050 then trigger sec s (nextOf s (execRngTestSelect (v / 256 % 4) (v % 16) s))
  else if a = 0x1050005C then trigger (s.rngTestOpen && (s.source (v % 4)).st == .test) s (s.regStore w a v)
  else if rngTestRegs.contains a then trigger s.rngTestOpen s (s.regStore w a v)
  else s.regStore w a v

/-- KLD registers. -/
def State.writeKld (s : State) (w : World) (a v : Nat) : State :=
  let sec := w == .secure
  if a = 0x10400044 then trigger sec s (nextOf s (execHallmarkExtend (v % 8) s))
  else if a = 0x10400100 then
    trigger sec s (nextOf s (execFwStorageKeyRequest (nbit v 31) (v / 65536 % 256) (v / 256 % 256) (v % 16) s))
  else s.regStore w a v

/-- CRD_CFG: a port disabled is deactivated (R359). -/
def State.crdCfg (s : State) (w : World) (a v : Nat) : State :=
  let t := s.regStore w a v
  [0, 1].foldl (fun t p => if s.portEnabled p && !t.portEnabled p then nextOf t (execCardDeactivate p t) else t) t

/-- CRD registers. -/
def State.writeCrd (s : State) (w : World) (a v : Nat) : State :=
  if a = 0x10A00004 then s.crdCfg w a v
  else
  if a = 0x10A00018 then trigger (nbit v 0) s (nextOf s (execCardDeactivate 0 s))
  else if a = 0x10A00028 then trigger (nbit v 0) s (nextOf s (execCardDeactivate 1 s))
  else s.regStore w a v

/-! ## The Bezel and the worlds (R394, R397, R398, R406, R407) -/

/-- BZL registers: a region committed with LOCK set ignores its shadow writes, and each is counted. -/
def State.writeBzl (s : State) (w : World) (a v : Nat) : State :=
  let sec := w == .secure
  if a = 0x10000004 then s.writeMode (nbit v 0)
  else if a = 0x10000008 then trigger (sec && nbit v 0) s (nextOf s (execBezelCommit s))
  else if a = 0x10000028 then
    (if nbit v 31 then
      ((s.putBit .BZL_FAULT_INFO_VALID false).putBit .BZL_FAULT_INFO_OVERFLOW false).putBit .BZL_STATUS_FAULT false
    else s)
  else if inSpan a 0x10001000 0x10005000 then
    (if s.bzlActive (.BZL_RGNn_CTRL_LOCK ((a - 0x10001000) / 64)) = 1 then trigger sec s (s.count .BZL_LOCK_REFUSED_COUNT)
    else s.regStore w a v)
  else s.regStore w a v

/-- The sources whose world secure firmware sets (R384): 16 to 20 and 25 to 31. -/
def assignable : Nat := 0xFE1F0000

/-- WLD registers. -/
def State.writeWld (s : State) (w : World) (a v : Nat) : State :=
  let sec := w == .secure
  if a = 0x10100004 then trigger (v % 4 == 0) s (s.regStore w a v)
  else if a = 0x10100010 then trigger sec s (nextOf s (execL2WaysWrite (v % 65536) s))
  else if a = 0x10100014 then
    trigger sec s (s.put .WLD_IRQ_WORLD_SECURE
      ((s.get .WLD_IRQ_WORLD_SECURE &&& (2 ^ 32 - 1 - assignable)) ||| (v &&& assignable)))
  else if a = 0x10100030 then trigger (sec && nbit v 0) s (nextOf s (execWorldCommit s))
  else if a = 0x10100048 then
    (if nbit v 31 then (s.putBit .WLD_FAULT_INFO_VALID false).putBit .WLD_FAULT_INFO_OVERFLOW false else s)
  else if inSpan a 0x10100100 0x10100300 then
    let i := (a - 0x10100100) / 16
    if s.wldActive (.WLD_Mm_WINk_CTRL_LOCK (i / 8 + 1) (i % 8)) = 1 then trigger sec s (s.count .BZL_LOCK_REFUSED_COUNT)
    else s.regStore w a v
  else s.regStore w a v

/-! ## Alarms, life cycle, events, management port, power (R422, R428, R447, R482, R511, R529) -/

/-- ALM registers. -/
def State.writeAlm (s : State) (w : World) (a v : Nat) : State :=
  let sec := w == .secure
  if a = 0x1030000C then trigger (sec && nbit v 0) s (nextOf s (execHaltClear s))
  else if a = 0x10300010 then trigger (sec && 2 ≤ v % 8 && v % 8 ≤ 4) s (nextOf s (execFirmwareAlarmRaise (v % 8) s))
  else if a = 0x10300074 then s
  else s.regStore w a v

/-- LCS registers. -/
def State.writeLcs (s : State) (w : World) (a v : Nat) : State :=
  if a = 0x10600010 then
    let s := if nbit v 1 then s.putBit .LCS_INIT_DONE false else s
    trigger (w == .secure && nbit v 0) s (nextOf s (execLcsInitWrap s))
  else s.regStore w a v

/-- EVR registers; writes to EVR_SLOT have no effect. -/
def State.writeEvr (s : State) (w : World) (a v : Nat) : State :=
  if a = 0x10800048 then trigger (w == .secure) s (nextOf s (execEvrPostS (v / 65536 % 8) (v % 65536) s))
  else if a = 0x10800058 then nextOf s (execEvrPostN (v / 65536 % 8) (v % 65536) s)
  else if inSpan a 0x10800200 0x10800400 then s
  else s.regStore w a v

/-- MGP registers; an access that carries a strand file's items has a command of its own. -/
def State.writeMgp (s : State) (w : World) (a v : Nat) : State :=
  if a = 0x1090000C then nextOf s (execMgpRxdTailWrite (v % 256) s)
  else if a = 0x10900048 then trigger (nbit v 0) s (nextOf s (execMgpTxGo s))
  else if a = 0x10900104 && 7 < v / 65536 % 256 && v / 65536 % 256 < 0xFF then s
  else if a = 0x10900104 then
    let s := s.regStore w a v
    trigger (w == .secure && nbit v 0) s (nextOf s (execSecureOdAccess (v / 65536 % 256) (v / 64 % 4) [] s))
  else s.regStore w a v

/-- PWR_NS_REQ.GO submits the request that ACTION and BLOCK name (R522). -/
def State.nsGo (s : State) : State :=
  let b := s.get .PWR_NS_REQ_BLOCK
  match s.get .PWR_NS_REQ_ACTION with
  | 0 => nextOf s (execNsGateClkOn b s)
  | 1 => nextOf s (execNsGateClkOff b s)
  | 2 => nextOf s (execNsGatePwrOn b s)
  | _ => nextOf s (execNsGatePwrOff b s)

/-- PWR registers. -/
def State.writePwr (s : State) (w : World) (a v : Nat) : State :=
  let sec := w == .secure
  if a = 0x10200004 then
    (match v % 4 with
    | 1 => trigger sec s (nextOf s (execPwrReqNap s))
    | 2 => trigger sec s (nextOf s (execPwrReqSleep s))
    | _ => s)
  else if a = 0x10200008 then trigger sec s (nextOf s (execPwrLockWrite (v % 4096) s))
  else if a = 0x1020000C then
    (if v % 16 > 11 then s
    else
      let s := s.regStore w a v
      trigger (nbit v 31) s s.nsGo)
  else if a = 0x10200014 then trigger (sec && nbit v 0) s (nextOf s (execPwrDeferCancel s))
  else if inSpan a 0x10201000 0x1020D000 && a % 0x1000 = 0 then
    nextOf s (execPwrGateWrite w ((a - 0x10201000) / 0x1000) (nbit v 0) (nbit v 1) s)
  else s.regStore w a v

/-! ## Any register -/

/-- A 32-bit write of the register at `a` by a world. -/
def State.writeReg (s : State) (w : World) (a v : Nat) : State :=
  match a / 0x100000 with
  | 0x100 => s.writeBzl w a v
  | 0x101 => s.writeWld w a v
  | 0x102 => s.writePwr w a v
  | 0x103 => s.writeAlm w a v
  | 0x104 => s.writeKld w a v
  | 0x105 => s.writeRng w a v
  | 0x106 => s.writeLcs w a v
  | 0x108 => s.writeEvr w a v
  | 0x109 => s.writeMgp w a v
  | 0x10A => s.writeCrd w a v
  | 0x10B => s.writeFll w a v
  | 0x10C => s.writeHst w a v
  | 0x10E => s.writeStr w a v
  | 0x10F => s.writeMem w a v
  | 0x110 => s.writeBgn w a v
  | 0x111 => s.writeLat w a v
  | 0x112 => s.writeSym w a v
  | 0x113 => s.writeLkt w a v
  | _ => s.regStore w a v

/-- REGISTER_WRITE (R7, R8): the write has the effect its access code gives, or none. A write of the host port's
registers is activity that ends NAP (R516); the words from 0x10C1_0000 are the MSI-X table of BAR0 (log entry 33). -/
def execRegisterWrite (w : World) (addr value : Nat) (s : State) : Host.Outcome State Fault Refusal :=
  let v := value % 2 ^ 32
  if inSpan addr 0x10C10000 0x10C18000 && addr % 4 = 0 then .next ((s.wakeNap 1).msixWrite ((addr - 0x10C10000) / 4) v)
  else if inSpan addr 0x10C00000 0x10C02000 then .next ((s.wakeNap 1).writeReg w addr v)
  else .next (s.writeReg w addr v)

end Sys2Proof.Machine
end

