-- ==== Sys2Proof/Machine/Bus.lean ====
section
/-! DEFINITION. Accesses on the interconnect (R20 to R23, R386 to R391): what stands at an address, an access by an
internal master, the copy DMA (R404) and the debug access port (R448, R449). -/

namespace Sys2Proof.Machine

/-! ## The address map (R386, R387, R213, R214) -/

/-- What stands at an address: the boot ROM; memory that firmware uses; DRAM the object store controller lays out; a
register; an unused offset of the HST block's first 8 KiB; nothing. -/
inductive Target where
  | rom | ram | structures | register | exempt | unmapped
  deriving DecidableEq, Repr

/-- What stands at an address. -/
def State.targetOf (s : State) (a : Nat) : Target :=
  if a < 0x40000 then .rom
  else if inSpan a 0x1000000 0x1400000 || inSpan a 0x2000000 0x2400000 || inSpan a 0x4000000 0x4400000 then .ram
  else if inSpan a 0x10000000 0x11400000 then
    if (regRow (a / 4 * 4)).isSome then .register
    else if inSpan a 0x10C00000 0x10C02000 then .exempt
    else .unmapped
  else if inSpan a dramBase (dramBase + s.capacity) then
    if inSpan a firmwareArea dirBase then .ram else .structures
  else .unmapped

/-- The world an agent accesses in. -/
def agWorld (agent : Nat) : World := if agSecure agent then .secure else .normal

/-- What an access of `len` bytes meets: one thing, or nothing where its last byte lies in another. -/
def State.spanTarget (s : State) (a len : Nat) : Target :=
  if s.targetOf (a + len - 1) == s.targetOf a then s.targetOf a else .unmapped

/-- The bytes a permitted read returns: nothing for an error response (R387). A register is read whole, by an aligned
32-bit access, and the receive windows by aligned 64-bit accesses; what another access of a register returns is a free
value (log entry 34). DRAM is read through the scrambler (R235). -/
def State.readAt (s : State) (agent a len : Nat) : Option Bytes × State :=
  match s.spanTarget a len with
  | .rom => (some ((List.range len).map (fun i => Config.bootRomByte (a + i))), s)
  | .ram => (some (s.load a len), s)
  | .structures => (some (s.load a len), s)
  | .register =>
    if inMgpWindow a then
      (some (if len = 8 && a % 8 = 0 then le 8 (s.mgpWindow a) else zeros len), s)
    else if len = 4 && a % 4 = 0 then
      let (v, s) := s.readReg (agWorld agent) (agent == agDebugS || agent == agDebugN) a
      (some (le 4 v), s)
    else
      let (b, s) := s.freshBytes len
      (some b, s)
  | .exempt => (some (zeros len), s)
  | .unmapped => (none, s.count .BZL_DECERR_COUNT)

/-- A permitted write, and whether it met a target. A register takes an aligned 32-bit write only; the boot ROM takes none
(log entry 34). DRAM is written through the scrambler (R235). -/
def State.writeAt (s : State) (agent a : Nat) (d : Bytes) : Bool × State :=
  match s.spanTarget a d.length with
  | .rom => (true, s)
  | .ram => (true, s.store' a d)
  | .structures => (true, s.store' a d)
  | .register => (true, if d.length = 4 && a % 4 = 0 then s.writeReg (agWorld agent) a (leNat d) else s)
  | .exempt => (true, s)
  | .unmapped => (false, s.count .BZL_DECERR_COUNT)

/-- How an access ends for its master. -/
def State.ended (s : State) (value answer : Nat) : State :=
  { s with readValue := value, worlds := { s.worlds with answer := answer } }

/-- A permitted access: a read or an instruction fetch, a write, or an atomic exchange. -/
def State.transact (s : State) (agent kind a len : Nat) (data : Bytes) : State :=
  let d := padTo len (data.take len)
  if kind = akWrite then
    let (ok, s) := s.writeAt agent a d
    s.ended s.readValue (b2n !ok)
  else
    let (b, s) := s.readAt agent a len
    match b with
    | none => s.ended s.readValue 1
    | some b => (if kind = akAtomic then (s.writeAt agent a d).2 else s).ended (leNat b) 0

/-! ## Internal masters (R20, R21, R388, R391) -/

/-- The answer to a refused access (R391): an access fault on a core, a copy channel stopped, the alarm for the debug
port, an error response for every other master. -/
def State.refusedAccess (s : State) (agent core : Nat) : State :=
  let s := s.ended s.readValue 1
  if agent = agCpuS || agent = agCpuN then s.coreException core .accessFault
  else if agent = agDebugS || agent = agDebugN then s.alarm' [19]
  else if (agent = agDmaS && core < 2 || agent = agDmaN && 2 ≤ core && core < 4) && s.bit (.WLD_DMAc_STATUS_BUSY core) then
    s.dmaEnd core false
  else s

/-- The word of the MSI-X table at an index, and of the pending bit array (R39, R44). -/
def State.msixWord (s : State) (off : Nat) : Nat :=
  if off < 0x18000 then (mget (fun i => if i % 4 = 3 then 1#32 else 0#32) s.host.msixTable ((off - 0x10000) / 4)).toNat
  else
    let v := 8 * (off - 0x18000)
    ((s.host.msixPend.filter (fun x => v ≤ x && x < v + 32)).map (fun x => 2 ^ (x - v))).sum

/-- Where the model numbers the host's accesses through BAR2: above the 40 bits of internal address space, since R386
gives the doorbell pages no internal address (log entry 58). -/
def bar2Base : Nat := 2 ^ 40

/-- An access of the host to what BAR0 presents beyond the HST block's first 8 KiB: the MSI-X table and its pending
bits by aligned 32-bit and 64-bit accesses; elsewhere reads return zero and writes have no effect (R39). -/
def State.bar0Access (s : State) (write : Bool) (off len : Nat) (d : Bytes) : State :=
  let words := (List.range (len / 4)).map (fun i => off + 4 * i)
  if !((len = 4 || len = 8) && off % len = 0 && inSpan off 0x10000 0x18100) then (if write then s else s.ended 0 0)
  else if write then
    (words.foldl (fun s o => if o < 0x18000 then s.msixWrite ((o - 0x10000) / 4) (fieldLE d (o - off) 4) else s) s)
  else s.ended (leNat ((words.map (fun o => le 4 (s.msixWord o))).flatten)) 0

/-- An access of the host through BAR2: the doorbell pages (R47); in recovery boot, shared SRAM, checked as DMA_N
(R23, R447). -/
def State.bar2Access (s : State) (kind off len : Nat) (d : Bytes) : State :=
  if s.deviceState == dsRecovery then
    let (ok, s) := s.checkAccess agDmaN kind (0x2000000 + off) len
    if ok then s.transact agDmaN kind (0x2000000 + off) len d else s.refusedAccess agDmaN 4
  else if kind = akWrite then s.doorbellWrite (off / 0x1000) (off % 0x1000) (padTo len (d.take len))
  else
    let (b, s) := s.doorbellRead (off / 0x1000) (off % 0x1000) len
    s.ended (leNat b) 0

/-- A write of the host through BAR0 or BAR2 ends NAP; reads are answered in NAP (R515, R516). -/
def State.hostWakes (s : State) (kind : Nat) : State := if kind = akRead then s else s.wakeNap 1

/-- What an inert unit presents in BAR0 (R451): HST_STATUS and HST_IDHASH. -/
def inertShows (a len : Nat) : Bool :=
  (a = Fld.HST_STATUS_LIFECYCLE.addr && len = 4) || (inSpan a 0x10C00420 0x10C00440 && a + len ≤ 0x10C00440)

/-- INTERNAL_MASTER_ACCESS: an access by an agent passes the three checks and reaches its target, or is refused. A core
accesses in its current world; `core` is the core, or the channel of a copy DMA access, and an access of DMA_N that
names no channel is the host's through BAR0 or BAR2 (R23), which reads or writes (log entry 58). -/
def execInternalMasterAccess (agent kind addr len core : Nat) (data : Bytes) (s : State) :
    Host.Outcome State Fault Refusal :=
  let host := agent = agDmaN && core > 3
  if agent > 7 || kind > 3 || len = 0 || len > 4096 || (agent < 2 && core > 3) then .next s
  else if host && kind < 2 && s.deviceState == dsInert && !inertShows addr len then
    .next (if kind = akWrite then s else s.ended 0 0)
  else if host && kind < 2 && inSpan addr 0x10C02000 0x10D00000 then
    .next ((s.hostWakes kind).bar0Access (kind == akWrite) (addr - 0x10C00000) len data)
  else if host && kind < 2 && inSpan addr bar2Base (bar2Base + 0x400000) then
    .next ((s.hostWakes kind).bar2Access kind (addr - bar2Base) len data)
  else if addr + len > 2 ^ 40 then .next s
  else
    let s := if host then s.hostWakes kind else s
    let agent := if agent < 2 then (if s.coreSecure core then agCpuS else agCpuN) else agent
    let (ok, s) := s.checkAccess agent kind addr len
    if ok then .next (s.transact agent kind addr len data) else .next (s.refusedAccess agent core)

/-! ## Copy DMA (R404) -/

/-- The 256-byte pieces of a copy: offset and length. -/
def dmaPieces (len : Nat) : List (Nat × Nat) := pieces 256 len

/-- The agent of a channel (R388, R404). -/
def dmaAgent (c : Nat) : Nat := if c < 2 then agDmaS else agDmaN

/-- Copies pieces in order, each read before it is written, up to the first access refused or answered by an error. -/
def State.dmaCopy (agent src dst : Nat) : State → List (Nat × Nat) → Bool × State
  | s, [] => (true, s)
  | s, (o, n) :: t =>
    let (okR, s) := s.checkAccess agent akRead (src + o) n
    if !okR then (false, s)
    else
      match s.readAt agent (src + o) n with
      | (none, s) => (false, s)
      | (some b, s) =>
        let (okW, s) := s.checkAccess agent akWrite (dst + o) n
        if !okW then (false, s)
        else
          let (met, s) := s.writeAt agent (dst + o) b
          if met then State.dmaCopy agent src dst s t else (false, s)

/-- The result of a copy whose source and destination overlap is undefined: free bytes stand at the destination. -/
def State.dmaOverlap (s : State) (r : DmaRun) : State :=
  if r.src < r.dst + r.len && r.dst < r.src + r.len && s.spanTarget r.dst r.len == .ram then
    let (b, s) := s.freshBytes r.len
    s.store' r.dst b
  else s

/-- COPY_DMA_START: ignored while BUSY, with the channels' block gated off (R520), and without a length of 1 to
16,777,216. A copy of which an access would be refused stops there with ERR. -/
def execCopyDmaStart (channel : Nat) (s : State) : Host.Outcome State Fault Refusal :=
  let r : DmaRun :=
    { src := s.get64 (.WLD_DMAc_SRC_LO_ADDR channel) (.WLD_DMAc_SRC_HI_ADDR channel),
      dst := s.get64 (.WLD_DMAc_DST_LO_ADDR channel) (.WLD_DMAc_DST_HI_ADDR channel),
      len := s.get (.WLD_DMAc_LEN_BYTES channel) }
  let agent := dmaAgent channel
  if channel > 3 || s.bit (.WLD_DMAc_STATUS_BUSY channel) || (channel ≥ 2 && !s.gateOn 4) || r.len = 0 then .next s
  else if (dmaPieces r.len).all (fun p => (s.checkAccess agent akRead (r.src + p.1) p.2).1 &&
      (s.checkAccess agent akWrite (r.dst + p.1) p.2).1) then
    .next ({ s with worlds := { s.worlds with
      dmaRuns := mset (fun _ => none) s.worlds.dmaRuns channel (some r) } }.putBit (.WLD_DMAc_STATUS_BUSY channel) true)
  else .next ((State.dmaCopy agent r.src r.dst s (dmaPieces r.len)).2.dmaEnd channel false)

/-- COPY_DMA_STOP: the channel ends after the access in flight; how many pieces it has copied is a free value. -/
def execCopyDmaStop (channel : Nat) (s : State) : Host.Outcome State Fault Refusal :=
  match mget (fun _ => none) s.worlds.dmaRuns channel with
  | none => .next s
  | some r =>
    let ps := dmaPieces r.len
    let (k, s) := s.freshNat
    .next ((State.dmaCopy (dmaAgent channel) r.src r.dst s (ps.take (k % (ps.length + 1)))).2.dmaEnd channel false)

/-- COPY_DMA_COMPLETE: the last write completes and DONE sets; each access is checked when it is made (R22). -/
def execCopyDmaComplete (channel : Nat) (s : State) : Host.Outcome State Fault Refusal :=
  match mget (fun _ => none) s.worlds.dmaRuns channel with
  | none => .next s
  | some r =>
    let (ok, s) := State.dmaCopy (dmaAgent channel) r.src r.dst s (dmaPieces r.len)
    .next ((s.dmaOverlap r).dmaEnd channel ok)

/-! ## The debug access port (R448, R449) -/

/-- The lengths a DAP access may have. -/
def dapSizes : List Nat := [1, 2, 4, 8, 64, 256, 1024, 4096]

/-- The agent of a DAP access: DEBUG_S where a secure enable permits it, DEBUG_N where a normal one does. -/
def State.dapAgent (s : State) (write : Bool) : Option Nat :=
  let e := s.get .LCS_DEBUG_ENABLES
  if nbit e 0 || (!write && nbit e 1) then some agDebugS
  else if nbit e 2 || (!write && nbit e 3) then some agDebugN
  else none

/-- A DAP access: the port holds its address, and DAP_DATA its status. -/
def State.dapAccess (s : State) (write : Bool) (addr size : Nat) (data : Bytes) : State :=
  let s := s.wakeNap 6
  if s.lifeCycle == lcScrap then { s with worlds := { s.worlds with tapIr := 31 } }
  else if !dapSizes.contains size || addr ≥ 2 ^ 40 then s
  else
    let status (s : State) (v : Nat) : State := { s with worlds := { s.worlds with dapStatus := v } }
    let s := { s with worlds := { s.worlds with tapIr := 9, dapAddr := addr } }
    let kind := if write then akWrite else akRead
    match s.dapAgent write with
    | none => (status s 2).alarm' [19]
    | some agent =>
      let (ok, s) := s.checkAccess agent kind addr size
      if ok then
        let s := s.transact agent kind addr size data
        status s (if s.worlds.answer = 0 then 0 else 3)
      else status (s.refusedAccess agent 0) 3

/-- DAP_READ. -/
def execDapRead (addr size : Nat) (s : State) : Host.Outcome State Fault Refusal := .next (s.dapAccess false addr size [])

/-- DAP_WRITE: issued as one access once its last word is in. -/
def execDapWrite (addr size : Nat) (data : Bytes) (s : State) : Host.Outcome State Fault Refusal :=
  .next (s.dapAccess true addr size data)

/-- IDCODE. -/
def execIdcode (s : State) : Host.Outcome State Fault Refusal :=
  .next { s with readValue := 0x10880A5B, worlds := { s.worlds with tapIr := 1 } }

/-- BYPASS. -/
def execBypass (s : State) : Host.Outcome State Fault Refusal :=
  .next { s with worlds := { s.worlds with tapIr := 31 } }

end Sys2Proof.Machine
end

