-- ==== Sys2Proof/Machine/Dispatch.lean ====
section
/-! DEFINITION. One arm for each command. -/

namespace Sys2Proof.Machine

def exec (i : Instr) (s : State) : Host.Outcome State Fault Refusal :=
  match i with
  | .perstNAssert => Sys2Proof.Machine.execPerstNAssert s
  | .functionLevelReset => Sys2Proof.Machine.execFunctionLevelReset s
  | .busMasterEnableClear => Sys2Proof.Machine.execBusMasterEnableClear s
  | .busMasterEnableSet pasidEn cfg => Sys2Proof.Machine.execBusMasterEnableSet pasidEn cfg s
  | .dmaReadComplete target r => Sys2Proof.Machine.execDmaReadComplete target r s
  | .adminMailboxEnable depthLog2 => Sys2Proof.Machine.execAdminMailboxEnable depthLog2 s
  | .adminMailboxDisable => Sys2Proof.Machine.execAdminMailboxDisable s
  | .adminSqTailWrite tail => Sys2Proof.Machine.execAdminSqTailWrite tail s
  | .odRead entry => Sys2Proof.Machine.execOdRead entry s
  | .odWrite entry value items => Sys2Proof.Machine.execOdWrite entry value items s
  | .msixVectorUnmask vector => Sys2Proof.Machine.execMsixVectorUnmask vector s
  | .sqTailWrite inst tail => Sys2Proof.Machine.execSqTailWrite inst tail s
  | .cqHeadWrite inst head => Sys2Proof.Machine.execCqHeadWrite inst head s
  | .submissionFetch => Sys2Proof.Machine.execSubmissionFetch s
  | .instanceOwnerWrite q inst value => Sys2Proof.Machine.execInstanceOwnerWrite q inst value s
  | .instanceEnable q inst => Sys2Proof.Machine.execInstanceEnable q inst s
  | .instanceReset q inst => Sys2Proof.Machine.execInstanceReset q inst s
  | .instanceDrainComplete inst => Sys2Proof.Machine.execInstanceDrainComplete inst s
  | .cmdTimeoutExpiry job => Sys2Proof.Machine.execCmdTimeoutExpiry job s
  | .rateBucketAdmit job => Sys2Proof.Machine.execRateBucketAdmit job s
  | .waitLimitExpiry job => Sys2Proof.Machine.execWaitLimitExpiry job s
  | .locketAdmission => Sys2Proof.Machine.execLocketAdmission s
  | .directoryLookupComplete job => Sys2Proof.Machine.execDirectoryLookupComplete job s
  | .objectUnsealComplete job tagOk => Sys2Proof.Machine.execObjectUnsealComplete job tagOk s
  | .engineStart cls badSetting shareable => Sys2Proof.Machine.execEngineStart cls badSetting shareable s
  | .engineWorkEnd job stallNs => Sys2Proof.Machine.execEngineWorkEnd job stallNs s
  | .policyHwDecision job => Sys2Proof.Machine.execPolicyHwDecision job s
  | .policyRequestPost job => Sys2Proof.Machine.execPolicyRequestPost job s
  | .policyPermit job seq => Sys2Proof.Machine.execPolicyPermit job seq s
  | .policyDeny job seq => Sys2Proof.Machine.execPolicyDeny job seq s
  | .policyDecisionTimeout job => Sys2Proof.Machine.execPolicyDecisionTimeout job s
  | .usageBlockCreate handle => Sys2Proof.Machine.execUsageBlockCreate handle s
  | .approvalWaitExpiry job => Sys2Proof.Machine.execApprovalWaitExpiry job s
  | .laneDeadlineExpiry job stallNs => Sys2Proof.Machine.execLaneDeadlineExpiry job stallNs s
  | .resultRelease job => Sys2Proof.Machine.execResultRelease job s
  | .locketPeakClear => Sys2Proof.Machine.execLocketPeakClear s
  | .keyGenerate job => Sys2Proof.Machine.execKeyGenerate job s
  | .keyImport job => Sys2Proof.Machine.execKeyImport job s
  | .keyDerive job => Sys2Proof.Machine.execKeyDerive job s
  | .keyDestroy job => Sys2Proof.Machine.execKeyDestroy job s
  | .keySetPolicy job => Sys2Proof.Machine.execKeySetPolicy job s
  | .keyExportWrapped job => Sys2Proof.Machine.execKeyExportWrapped job s
  | .keyDescribe job => Sys2Proof.Machine.execKeyDescribe job s
  | .sign job => Sys2Proof.Machine.execSign job s
  | .verify job => Sys2Proof.Machine.execVerify job s
  | .asymDecrypt job => Sys2Proof.Machine.execAsymDecrypt job s
  | .asymEncrypt job => Sys2Proof.Machine.execAsymEncrypt job s
  | .agree job => Sys2Proof.Machine.execAgree job s
  | .encaps job => Sys2Proof.Machine.execEncaps job s
  | .decaps job => Sys2Proof.Machine.execDecaps job s
  | .aeadSeal job => Sys2Proof.Machine.execAeadSeal job s
  | .aeadOpen job => Sys2Proof.Machine.execAeadOpen job s
  | .cipher job => Sys2Proof.Machine.execCipher job s
  | .mac job => Sys2Proof.Machine.execMac job s
  | .wrap job => Sys2Proof.Machine.execWrap job s
  | .unwrap job => Sys2Proof.Machine.execUnwrap job s
  | .random job => Sys2Proof.Machine.execRandom job s
  | .hash job => Sys2Proof.Machine.execHash job s
  | .ownerApprove job => Sys2Proof.Machine.execOwnerApprove job s
  | .counterRead job => Sys2Proof.Machine.execCounterRead job s
  | .attestQuote job => Sys2Proof.Machine.execAttestQuote job s
  | .tickIncrement => Sys2Proof.Machine.execTickIncrement s
  | .beadSeal => Sys2Proof.Machine.execBeadSeal s
  | .overlayRecordApply => Sys2Proof.Machine.execOverlayRecordApply s
  | .meterRecordWrite => Sys2Proof.Machine.execMeterRecordWrite s
  | .meterRingEnable depthLog2 => Sys2Proof.Machine.execMeterRingEnable depthLog2 s
  | .meterRingDisable => Sys2Proof.Machine.execMeterRingDisable s
  | .meterHeadWrite head => Sys2Proof.Machine.execMeterHeadWrite head s
  | .journalItemWrite => Sys2Proof.Machine.execJournalItemWrite s
  | .journalExportEnable sizeLog2 => Sys2Proof.Machine.execJournalExportEnable sizeLog2 s
  | .journalExportDisable => Sys2Proof.Machine.execJournalExportDisable s
  | .journalConsumedWrite consumed => Sys2Proof.Machine.execJournalConsumedWrite consumed s
  | .journalDurableWrite bead => Sys2Proof.Machine.execJournalDurableWrite bead s
  | .claspWrite gen => Sys2Proof.Machine.execClaspWrite gen s
  | .claspLapse => Sys2Proof.Machine.execClaspLapse s
  | .checkpointRequest q value => Sys2Proof.Machine.execCheckpointRequest q value s
  | .ckptReq => Sys2Proof.Machine.execCkptReq s
  | .checkpointComplete => Sys2Proof.Machine.execCheckpointComplete s
  | .restoreStart q value => Sys2Proof.Machine.execRestoreStart q value s
  | .restoreLoadComplete items => Sys2Proof.Machine.execRestoreLoadComplete items s
  | .rollbackAccept q value => Sys2Proof.Machine.execRollbackAccept q value s
  | .lazyChunkRestore ok => Sys2Proof.Machine.execLazyChunkRestore ok s
  | .resizeClearComplete => Sys2Proof.Machine.execResizeClearComplete s
  | .resizeBucketMigrate => Sys2Proof.Machine.execResizeBucketMigrate s
  | .patrolScrub corrected => Sys2Proof.Machine.execPatrolScrub corrected s
  | .eccUncorrectableError line => Sys2Proof.Machine.execEccUncorrectableError line s
  | .protectedRangeCommit => Sys2Proof.Machine.execProtectedRangeCommit s
  | .protectedRangeGenActive => Sys2Proof.Machine.execProtectedRangeGenActive s
  | .migrateFloor q value => Sys2Proof.Machine.execMigrateFloor q value s
  | .migrateWalkStep => Sys2Proof.Machine.execMigrateWalkStep s
  | .ownerEpoch q owner value => Sys2Proof.Machine.execOwnerEpoch q owner value s
  | .domainCreate q value => Sys2Proof.Machine.execDomainCreate q value s
  | .domainSend q value => Sys2Proof.Machine.execDomainSend q value s
  | .domainAccept q value => Sys2Proof.Machine.execDomainAccept q value s
  | .domainAcceptExpiry => Sys2Proof.Machine.execDomainAcceptExpiry s
  | .hello h => Sys2Proof.Machine.execHello h s
  | .confirm f nonces => Sys2Proof.Machine.execConfirm f nonces s
  | .headReq f => Sys2Proof.Machine.execHeadReq f s
  | .head f bead hash gen visit => Sys2Proof.Machine.execHead f bead hash gen visit s
  | .visitDone f bead => Sys2Proof.Machine.execVisitDone f bead s
  | .ready f head gen => Sys2Proof.Machine.execReady f head gen s
  | .claspPass f gen final hash => Sys2Proof.Machine.execClaspPass f gen final hash s
  | .claspAck f gen => Sys2Proof.Machine.execClaspAck f gen s
  | .claspNak f reason => Sys2Proof.Machine.execClaspNak f reason s
  | .keepalive f role => Sys2Proof.Machine.execKeepalive f role s
  | .pairOffer m => Sys2Proof.Machine.execPairOffer m s
  | .pairReply m => Sys2Proof.Machine.execPairReply m s
  | .pairSecret seq payload => Sys2Proof.Machine.execPairSecret seq payload s
  | .pairDone m => Sys2Proof.Machine.execPairDone m s
  | .keepaliveSendTimer => Sys2Proof.Machine.execKeepaliveSendTimer s
  | .flallaniSessionTimeout => Sys2Proof.Machine.execFlallaniSessionTimeout s
  | .helloRetry => Sys2Proof.Machine.execHelloRetry s
  | .handover q value => Sys2Proof.Machine.execHandover q value s
  | .handoverComplete => Sys2Proof.Machine.execHandoverComplete s
  | .claspPassResend => Sys2Proof.Machine.execClaspPassResend s
  | .appendStart q items value => Sys2Proof.Machine.execAppendStart q items value s
  | .wakePartner q value => Sys2Proof.Machine.execWakePartner q value s
  | .fllWake => Sys2Proof.Machine.execFllWake s
  | .stayAwake q value => Sys2Proof.Machine.execStayAwake q value s
  | .resyncVisitDue => Sys2Proof.Machine.execResyncVisitDue s
  | .visitTimeout => Sys2Proof.Machine.execVisitTimeout s
  | .slpWakeEdge b => Sys2Proof.Machine.execSlpWakeEdge b s
  | .bgnPromote core => Sys2Proof.Machine.execBgnPromote core s
  | .bgnHold core on => Sys2Proof.Machine.execBgnHold core on s
  | .bgnFence core => Sys2Proof.Machine.execBgnFence core s
  | .bgnCoreCfgWrite core units => Sys2Proof.Machine.execBgnCoreCfgWrite core units s
  | .modadd core param => Sys2Proof.Machine.execModadd core param s
  | .modsub core param => Sys2Proof.Machine.execModsub core param s
  | .modmul core param => Sys2Proof.Machine.execModmul core param s
  | .modexp core param => Sys2Proof.Machine.execModexp core param s
  | .modexpPub core param => Sys2Proof.Machine.execModexpPub core param s
  | .modinv core param => Sys2Proof.Machine.execModinv core param s
  | .rsaCrt core param => Sys2Proof.Machine.execRsaCrt core param s
  | .mrRound core param => Sys2Proof.Machine.execMrRound core param s
  | .ecSmul core param => Sys2Proof.Machine.execEcSmul core param s
  | .ecDsmul core param => Sys2Proof.Machine.execEcDsmul core param s
  | .ecAdd core param => Sys2Proof.Machine.execEcAdd core param s
  | .ecdsaSign core param => Sys2Proof.Machine.execEcdsaSign core param s
  | .ecdsaVerify core param => Sys2Proof.Machine.execEcdsaVerify core param s
  | .edSmul core param => Sys2Proof.Machine.execEdSmul core param s
  | .xdh core param => Sys2Proof.Machine.execXdh core param s
  | .bgnFwOpComplete core => Sys2Proof.Machine.execBgnFwOpComplete core s
  | .attestKeyGenStart => Sys2Proof.Machine.execAttestKeyGenStart s
  | .attestKeyGenStop => Sys2Proof.Machine.execAttestKeyGenStop s
  | .attestKeyGenComplete => Sys2Proof.Machine.execAttestKeyGenComplete s
  | .latPromote core => Sys2Proof.Machine.execLatPromote core s
  | .latHold core on => Sys2Proof.Machine.execLatHold core on s
  | .latFence core => Sys2Proof.Machine.execLatFence core s
  | .mlkemEncaps core param => Sys2Proof.Machine.execMlkemEncaps core param s
  | .mldsaVerify core param => Sys2Proof.Machine.execMldsaVerify core param s
  | .ntt core param => Sys2Proof.Machine.execNtt core param s
  | .intt core param => Sys2Proof.Machine.execIntt core param s
  | .pmul core param => Sys2Proof.Machine.execPmul core param s
  | .keccak core param => Sys2Proof.Machine.execKeccak core param s
  | .latFwOpComplete core => Sys2Proof.Machine.execLatFwOpComplete core s
  | .laneLockAcquire lane code w => Sys2Proof.Machine.execLaneLockAcquire lane code w s
  | .laneLockRelease lane w => Sys2Proof.Machine.execLaneLockRelease lane w s
  | .laneFwJobStart lane w => Sys2Proof.Machine.execLaneFwJobStart lane w s
  | .laneKeyClear lane w => Sys2Proof.Machine.execLaneKeyClear lane w s
  | .laneFwJobComplete lane => Sys2Proof.Machine.execLaneFwJobComplete lane s
  | .entropyWindowEnd src => Sys2Proof.Machine.execEntropyWindowEnd src s
  | .healthTestFail src repetition => Sys2Proof.Machine.execHealthTestFail src repetition s
  | .startupTestPass src => Sys2Proof.Machine.execStartupTestPass src s
  | .quarantineRetry src => Sys2Proof.Machine.execQuarantineRetry src s
  | .drbgReseed d => Sys2Proof.Machine.execDrbgReseed d s
  | .drbgGenerate busy => Sys2Proof.Machine.execDrbgGenerate busy s
  | .drbgInstanceStall d => Sys2Proof.Machine.execDrbgInstanceStall d s
  | .portRefill secure busy => Sys2Proof.Machine.execPortRefill secure busy s
  | .rngSDataRead => Sys2Proof.Machine.execRngSDataRead s
  | .rngNsDataRead => Sys2Proof.Machine.execRngNsDataRead s
  | .rngSPrRequest => Sys2Proof.Machine.execRngSPrRequest s
  | .rngNsPrRequest => Sys2Proof.Machine.execRngNsPrRequest s
  | .rngTestSelect sel src => Sys2Proof.Machine.execRngTestSelect sel src s
  | .rngRawDataRead => Sys2Proof.Machine.execRngRawDataRead s
  | .hallmarkExtend reg => Sys2Proof.Machine.execHallmarkExtend reg s
  | .fwStorageKeyRequest lineage svn index lane => Sys2Proof.Machine.execFwStorageKeyRequest lineage svn index lane s
  | .fwStorageKeyDone => Sys2Proof.Machine.execFwStorageKeyDone s
  | .cardInsert port => Sys2Proof.Machine.execCardInsert port s
  | .cardRemove port => Sys2Proof.Machine.execCardRemove port s
  | .atrTimeout port => Sys2Proof.Machine.execAtrTimeout port s
  | .atrReceived port t1 lrc ta1 => Sys2Proof.Machine.execAtrReceived port t1 lrc ta1 s
  | .selectResponse port sw => Sys2Proof.Machine.execSelectResponse port sw s
  | .getInfoResponse port sw tries key => Sys2Proof.Machine.execGetInfoResponse port sw tries key s
  | .verifyPinResponse port sw => Sys2Proof.Machine.execVerifyPinResponse port sw s
  | .signStatementResponse port sw sig => Sys2Proof.Machine.execSignStatementResponse port sw sig s
  | .cardSignatureVerified port => Sys2Proof.Machine.execCardSignatureVerified port s
  | .pinWrite q port value => Sys2Proof.Machine.execPinWrite q port value s
  | .pinWaitTimeout port => Sys2Proof.Machine.execPinWaitTimeout port s
  | .signingTimeout port => Sys2Proof.Machine.execSigningTimeout port s
  | .cardDeactivate port => Sys2Proof.Machine.execCardDeactivate port s
  | .signetOpen q value => Sys2Proof.Machine.execSignetOpen q value s
  | .signetCancel q value => Sys2Proof.Machine.execSignetCancel q value s
  | .signetWindowEnd => Sys2Proof.Machine.execSignetWindowEnd s
  | .zeroiseArm q value => Sys2Proof.Machine.execZeroiseArm q value s
  | .zeroiseArmExpiry => Sys2Proof.Machine.execZeroiseArmExpiry s
  | .wsw core resume => Sys2Proof.Machine.execWsw core resume s
  | .wret core => Sys2Proof.Machine.execWret core s
  | .secureInterruptTaken src resume => Sys2Proof.Machine.execSecureInterruptTaken src resume s
  | .worldSliceExpiry src => Sys2Proof.Machine.execWorldSliceExpiry src s
  | .internalMasterAccess agent kind addr len core data => Sys2Proof.Machine.execInternalMasterAccess agent kind addr len core data s
  | .bezelCommit => Sys2Proof.Machine.execBezelCommit s
  | .bezelGenActive => Sys2Proof.Machine.execBezelGenActive s
  | .bezelModeWrite service => Sys2Proof.Machine.execBezelModeWrite service s
  | .worldCommit => Sys2Proof.Machine.execWorldCommit s
  | .worldGenActive => Sys2Proof.Machine.execWorldGenActive s
  | .l2WaysWrite mask => Sys2Proof.Machine.execL2WaysWrite mask s
  | .l2WayFlushComplete => Sys2Proof.Machine.execL2WayFlushComplete s
  | .copyDmaStart channel => Sys2Proof.Machine.execCopyDmaStart channel s
  | .copyDmaStop channel => Sys2Proof.Machine.execCopyDmaStop channel s
  | .copyDmaComplete channel => Sys2Proof.Machine.execCopyDmaComplete channel s
  | .loopSample readings => Sys2Proof.Machine.execLoopSample readings s
  | .clockMonitorWindow c dev => Sys2Proof.Machine.execClockMonitorWindow c dev s
  | .clockShortCycle c => Sys2Proof.Machine.execClockShortCycle c s
  | .xtalMonitorArm => Sys2Proof.Machine.execXtalMonitorArm s
  | .firmwareAlarmRaise response => Sys2Proof.Machine.execFirmwareAlarmRaise response s
  | .purgeErasureComplete => Sys2Proof.Machine.execPurgeErasureComplete s
  | .zeroiseErasureComplete => Sys2Proof.Machine.execZeroiseErasureComplete s
  | .haltClear => Sys2Proof.Machine.execHaltClear s
  | .bbramPeriodicCheck secretBad alarmBad => Sys2Proof.Machine.execBbramPeriodicCheck secretBad alarmBad s
  | .vbatMeasure aMv bMv => Sys2Proof.Machine.execVbatMeasure aMv bMv s
  | .loopsArm q value => Sys2Proof.Machine.execLoopsArm q value s
  | .loopsDisarm q value => Sys2Proof.Machine.execLoopsDisarm q value s
  | .responseRaise q src value => Sys2Proof.Machine.execResponseRaise q src value s
  | .lifecycleNext q value => Sys2Proof.Machine.execLifecycleNext q value s
  | .signerHashes q slot value => Sys2Proof.Machine.execSignerHashes q slot value s
  | .signerRevoke q slot value => Sys2Proof.Machine.execSignerRevoke q slot value s
  | .svnFloor q value => Sys2Proof.Machine.execSvnFloor q value s
  | .cosigRequired q value => Sys2Proof.Machine.execCosigRequired q value s
  | .compatDisable q value => Sys2Proof.Machine.execCompatDisable q value s
  | .otpProgramComplete => Sys2Proof.Machine.execOtpProgramComplete s
  | .provisionRun q value => Sys2Proof.Machine.execProvisionRun q value s
  | .signer0 q value => Sys2Proof.Machine.execSigner0 q value s
  | .identityCertWrite q value => Sys2Proof.Machine.execIdentityCertWrite q value s
  | .lcsInitWrap => Sys2Proof.Machine.execLcsInitWrap s
  | .recoveryGo readable => Sys2Proof.Machine.execRecoveryGo readable s
  | .dapRead addr size => Sys2Proof.Machine.execDapRead addr size s
  | .dapWrite addr size data => Sys2Proof.Machine.execDapWrite addr size data s
  | .idcode => Sys2Proof.Machine.execIdcode s
  | .bypass => Sys2Proof.Machine.execBypass s
  | .debugToken q value => Sys2Proof.Machine.execDebugToken q value s
  | .porNAssert => Sys2Proof.Machine.execPorNAssert s
  | .porNRelease b => Sys2Proof.Machine.execPorNRelease b s
  | .sysRstNAssert => Sys2Proof.Machine.execSysRstNAssert s
  | .ppsEdge spacingNs subNs => Sys2Proof.Machine.execPpsEdge spacingNs subNs s
  | .ppsWindowTimeout => Sys2Proof.Machine.execPpsWindowTimeout s
  | .holdoverEntry => Sys2Proof.Machine.execHoldoverEntry s
  | .holdoverLoss => Sys2Proof.Machine.execHoldoverLoss s
  | .nextPulseTai q value => Sys2Proof.Machine.execNextPulseTai q value s
  | .todReset q value => Sys2Proof.Machine.execTodReset q value s
  | .poweredHourElapsed => Sys2Proof.Machine.execPoweredHourElapsed s
  | .hstTickLoRead => Sys2Proof.Machine.execHstTickLoRead s
  | .timTickLoRead => Sys2Proof.Machine.execTimTickLoRead s
  | .evrPostS severity code => Sys2Proof.Machine.execEvrPostS severity code s
  | .evrPostN severity code => Sys2Proof.Machine.execEvrPostN severity code s
  | .eventArchiveWrite => Sys2Proof.Machine.execEventArchiveWrite s
  | .archiveRelease q value => Sys2Proof.Machine.execArchiveRelease q value s
  | .nextRecord q offset cap => Sys2Proof.Machine.execNextRecord q offset cap s
  | .mgpFrameReceived frame fcsOk => Sys2Proof.Machine.execMgpFrameReceived frame fcsOk s
  | .mgpRxdTailWrite tail => Sys2Proof.Machine.execMgpRxdTailWrite tail s
  | .mgpTxGo => Sys2Proof.Machine.execMgpTxGo s
  | .mgpFrameSent => Sys2Proof.Machine.execMgpFrameSent s
  | .read slot msg => Sys2Proof.Machine.execRead slot msg s
  | .write slot msg items => Sys2Proof.Machine.execWrite slot msg items s
  | .close slot msg => Sys2Proof.Machine.execClose slot msg s
  | .secureOdAccess session role items => Sys2Proof.Machine.execSecureOdAccess session role items s
  | .pueshIdleTimeout slot => Sys2Proof.Machine.execPueshIdleTimeout slot s
  | .sessionCloseWrite q slot value => Sys2Proof.Machine.execSessionCloseWrite q slot value s
  | .mgmtKeyGenerate q value => Sys2Proof.Machine.execMgmtKeyGenerate q value s
  | .mgmtCert q value => Sys2Proof.Machine.execMgmtCert q value s
  | .napRequest q value => Sys2Proof.Machine.execNapRequest q value s
  | .pwrReqNap => Sys2Proof.Machine.execPwrReqNap s
  | .autoNapTimer => Sys2Proof.Machine.execAutoNapTimer s
  | .napMinutePrewake => Sys2Proof.Machine.execNapMinutePrewake s
  | .napExitComplete => Sys2Proof.Machine.execNapExitComplete s
  | .sleepRequest q value => Sys2Proof.Machine.execSleepRequest q value s
  | .pwrReqSleep => Sys2Proof.Machine.execPwrReqSleep s
  | .sleepPowerOff meters events b => Sys2Proof.Machine.execSleepPowerOff meters events b s
  | .vddAonLoss cellMv => Sys2Proof.Machine.execVddAonLoss cellMv s
  | .vddAonReturn b => Sys2Proof.Machine.execVddAonReturn b s
  | .backupSupplyReturn => Sys2Proof.Machine.execBackupSupplyReturn s
  | .gpioRisingEdge n => Sys2Proof.Machine.execGpioRisingEdge n s
  | .pwrLockWrite locks => Sys2Proof.Machine.execPwrLockWrite locks s
  | .nsGateClkOn block => Sys2Proof.Machine.execNsGateClkOn block s
  | .nsGateClkOff block => Sys2Proof.Machine.execNsGateClkOff block s
  | .nsGatePwrOn block => Sys2Proof.Machine.execNsGatePwrOn block s
  | .nsGatePwrOff block => Sys2Proof.Machine.execNsGatePwrOff block s
  | .pwrDeferCancel => Sys2Proof.Machine.execPwrDeferCancel s
  | .pwrGateWrite w block clkOff pwrOff => Sys2Proof.Machine.execPwrGateWrite w block clkOff pwrOff s
  | .gateTransitionComplete block => Sys2Proof.Machine.execGateTransitionComplete block s
  | .polishSlot lattice => Sys2Proof.Machine.execPolishSlot lattice s
  | .polishSequenceEnd lattice failed => Sys2Proof.Machine.execPolishSequenceEnd lattice failed s
  | .registerWrite w addr value => Sys2Proof.Machine.execRegisterWrite w addr value s
  | .perstNRelease => Sys2Proof.Machine.execPerstNRelease s
  | .linkRateChange rate width => Sys2Proof.Machine.execLinkRateChange rate width s
  | .sysRstNRelease b => Sys2Proof.Machine.execSysRstNRelease b s
  | .fllRxSyncAcquired => Sys2Proof.Machine.execFllRxSyncAcquired s
  | .fllLostSync => Sys2Proof.Machine.execFllLostSync s
  | .plcaBeacon seen => Sys2Proof.Machine.execPlcaBeacon seen s
  | .clientHello peer => Sys2Proof.Machine.execClientHello peer s
  | .dtlsHandshakeComplete slot cert => Sys2Proof.Machine.execDtlsHandshakeComplete slot cert s
  | .dtlsAlert slot => Sys2Proof.Machine.execDtlsAlert slot s
  | .wfi core => Sys2Proof.Machine.execWfi core s

end Sys2Proof.Machine
end

