-- ==== Sys2Proof/Safety.lean ====
section
/-! DEFINITION. What a safe state and a safe run of the block are, in the terms the statements use. -/

namespace Sys2Proof.Machine

/-- The form every state keeps: memory is listed by rising address, and no listed byte is what an unlisted one reads
as, so that equal memories are equal data. -/
def State.Inv (s : State) : Prop := Memory.wf s.mem = true

/-- A run of `n` steps that never stops and keeps the form. -/
def SafeFor : Nat → State → Prop
  | 0, s => s.Inv
  | n + 1, s => s.Inv ∧ ∃ t, step s = .next t ∧ SafeFor n t

/-- The command `c` answers a next state, and `P` holds of it. -/
def Answers (c : Instr) (s : State) (P : State → Prop) : Prop := ∃ t, exec c s = .next t ∧ P t

/-- The command answers what the state `t` becomes once every job that can go on has gone on and the peaks are noted
(R70, R89), and `P` holds of `t`, the state with the command's own effect. -/
def Settles (c : Instr) (s : State) (P : State → Prop) : Prop := ∃ t, exec c s = .next t.settle.notePeaks ∧ P t

/-- The command answers what the state `t` becomes once the responses whose release has come are handed over (R42,
R505), and `P` holds of `t`, the state with the command's own effect. -/
def Responds (c : Instr) (s : State) (P : State → Prop) : Prop := ∃ t, exec c s = .next t.respond ∧ P t

/-- Whether a write of value `v` to entry `i`:`b` passes every check of R503. -/
def State.passes (s : State) (q : OdReq) (i b : Nat) (v : Bytes) : Bool :=
  (odRow i b).any (fun row => (s.writeFault q row i b row.type.code v).isNone)

/-- The first check of R503 that a write of value `v` to entry `i`:`b` fails, if it fails one. -/
def State.failsWith (s : State) (q : OdReq) (i b : Nat) (v : Bytes) : Option OdResult :=
  match odRow i b with
  | none => some .noEntry
  | some row => s.writeFault q row i b row.type.code v

/-- The signature and the state with which a write of entry `i`:`b` goes on once its signet, where it needs one, is
consumed (R369, R501). -/
def State.paid (s : State) (i b : Nat) : Bytes × State :=
  if (odRow i b).any (fun row => s.needsSignet row i) then s.consumeSignet else ([], s)

/-- The response of request `q` as it is taken, numbered `n`, its result still to come (R42). -/
def OdReq.reply (q : OdReq) (n : Nat) : Reply :=
  { num := n, req := q, result := none, bead := 0, output := [], badDetail := none }

/-- A response once those numbered in `l` have been answered with `res` (R57). -/
def Reply.answered (l : List Nat) (res : OdResult) (r : Reply) : Reply :=
  if r.num ∈ l then { r with result := some res, bead := 0 } else r

/-- What an accepted limited write goes on to: the programming its value names, whose end answers as response `n`
(R431, R436); a life-cycle step is prepared first (R434). -/
def State.programs (s : State) (n i b : Nat) (v : Bytes) : State :=
  match s.limitedWrite i b v with
  | some (.lifeCycle code) => s.lifecycleNext code n
  | some w => s.startOtp w n
  | none => s

/-- What a command of an instance queue leaves once its work is planned as `p`: work with no engine step has ended at
once (R578). -/
def State.planned (s : State) (id : Nat) (j : Job) (p : Plan) : State :=
  if (j.orDamaged p).steps.isEmpty then ((s.setPlan id j (j.orDamaged p)).workEnded id).settle
  else s.setPlan id j (j.orDamaged p)

/-- The pieces a state is made of. -/
inductive Part where
  | regs | mem | free | readValue | host | insts | scheds | share | admin | jobs | locket | meters | time | evr | strand | restore | owners | usage | store | ladder | officers | agent | bb | lcs | engines | rng | alarm | power | pair | worlds | mgp | pending
  deriving DecidableEq, Repr

/-- Whether a piece is the same in two states. -/
def Part.same (s t : State) : Part → Prop
  | .regs => t.regs = s.regs
  | .mem => t.mem = s.mem
  | .free => t.free = s.free
  | .readValue => t.readValue = s.readValue
  | .host => t.host = s.host
  | .insts => t.insts = s.insts
  | .scheds => t.scheds = s.scheds
  | .share => t.share = s.share
  | .admin => t.admin = s.admin
  | .jobs => t.jobs = s.jobs
  | .locket => t.locket = s.locket
  | .meters => t.meters = s.meters
  | .time => t.time = s.time
  | .evr => t.evr = s.evr
  | .strand => t.strand = s.strand
  | .restore => t.restore = s.restore
  | .owners => t.owners = s.owners
  | .usage => t.usage = s.usage
  | .store => t.store = s.store
  | .ladder => t.ladder = s.ladder
  | .officers => t.officers = s.officers
  | .agent => t.agent = s.agent
  | .bb => t.bb = s.bb
  | .lcs => t.lcs = s.lcs
  | .engines => t.engines = s.engines
  | .rng => t.rng = s.rng
  | .alarm => t.alarm = s.alarm
  | .power => t.power = s.power
  | .pair => t.pair = s.pair
  | .worlds => t.worlds = s.worlds
  | .mgp => t.mgp = s.mgp
  | .pending => t.pending = s.pending

/-- Only the pieces listed have changed. -/
def Only (l : List Part) (s t : State) : Prop := ∀ p, p ∉ l → p.same s t

/-- The pieces listed are as they were. -/
def Kept (l : List Part) (s t : State) : Prop := ∀ p ∈ l, p.same s t

/-- Only registers have changed, and of them only those at the addresses listed. -/
def OnlyRegs (l : List Nat) (s t : State) : Prop :=
  t = { s with regs := t.regs } ∧ ∀ a, a ∉ l → t.reg a = s.reg a

/-- Every register reads as before but those at the addresses listed. -/
def RegsBut (l : List Nat) (s t : State) : Prop := ∀ a, a ∉ l → t.reg a = s.reg a

/-- Only instances have changed, and of them only instance `n`. -/
def OnlyInst (n : Nat) (s t : State) : Prop := t = { s with insts := t.insts } ∧ ∀ m, m ≠ n → t.inst m = s.inst m

end Sys2Proof.Machine
end

