-- ==== Sys2Proof/WellFormed.lean ====
section
/-! DEFINITION. Which commands can reach the block: numbers of cores, lanes, ports, jobs, instances and channels the
block has, values that fit the register or field they are written to (R7, R8, R46, R89, R265, R283, R310, R377). A
command that is not well formed has an answer all the same; no rule of the manual speaks of one. -/

namespace Sys2Proof

open Sys2Proof.Machine

/-- An access's surroundings: numbers that fit their fields (R106, R493). -/
def Machine.OdReq.wellFormed (q : OdReq) : Bool := decide (q.tag < 2 ^ 32) && decide (q.outAddr < 2 ^ 64) && decide (q.outCap < 2 ^ 32)

/-- A frame of the link: its sequence number fits 64 bits (R250). -/
def Machine.FrameHead.wellFormed (f : FrameHead) : Bool := decide (f.seq < 2 ^ 64) && f.tag.length == 16

/-- A HELLO frame: position 0 or 1, a nonce of 16 bytes (R250). -/
def Machine.HelloData.wellFormed (h : HelloData) : Bool := decide (h.position < 2) && h.nonce.length == 16

/-- A configuration the host writes: the sizes PCI Express has, a timeout code of its field (R36). -/
def Machine.HostConfig.wellFormed (c : HostConfig) : Bool :=
  decide (c.maxPayload < 4097) && decide (c.maxRead < 4097) && decide (c.timeout < 16)

/-- Whether a command's operands fit the block. -/
def WellFormed (i : Instr) : Bool :=
  match i with
  | .perstNAssert => true
  | .functionLevelReset => true
  | .busMasterEnableClear => true
  | .busMasterEnableSet _ cfg => cfg.wellFormed
  | .dmaReadComplete _ _ => true
  | .adminMailboxEnable depthLog2 => decide (depthLog2 < 16)
  | .adminMailboxDisable => true
  | .adminSqTailWrite tail => decide (tail < 2 ^ 32)
  | .odRead entry => entry.length == 128
  | .odWrite entry value _ => entry.length == 128 && decide (value.length ≤ 16384)
  | .msixVectorUnmask vector => decide (vector < 2048)
  | .sqTailWrite inst tail => decide (inst < 1024) && decide (tail < 2 ^ 32)
  | .cqHeadWrite inst head => decide (inst < 1024) && decide (head < 2 ^ 32)
  | .submissionFetch => true
  | .instanceOwnerWrite q inst value => q.wellFormed && decide (inst < 1024) && decide (value.length ≤ 16384)
  | .instanceEnable q inst => q.wellFormed && decide (inst < 1024)
  | .instanceReset q inst => q.wellFormed && decide (inst < 1024)
  | .instanceDrainComplete inst => decide (inst < 1024)
  | .cmdTimeoutExpiry job => decide (job < 4096)
  | .rateBucketAdmit job => decide (job < 4096)
  | .waitLimitExpiry job => decide (job < 4096)
  | .locketAdmission => true
  | .directoryLookupComplete job => decide (job < 4096)
  | .objectUnsealComplete job _ => decide (job < 4096)
  | .engineStart _ _ _ => true
  | .engineWorkEnd job _ => decide (job < 4096)
  | .policyHwDecision job => decide (job < 4096)
  | .policyRequestPost job => decide (job < 4096)
  | .policyPermit job seq => decide (job < 4096) && decide (seq < 256)
  | .policyDeny job seq => decide (job < 4096) && decide (seq < 256)
  | .policyDecisionTimeout job => decide (job < 4096)
  | .usageBlockCreate handle => decide (handle < 2 ^ 64)
  | .approvalWaitExpiry job => decide (job < 4096)
  | .laneDeadlineExpiry job _ => decide (job < 4096)
  | .resultRelease job => decide (job < 4096)
  | .locketPeakClear => true
  | .keyGenerate job => decide (job < 4096)
  | .keyImport job => decide (job < 4096)
  | .keyDerive job => decide (job < 4096)
  | .keyDestroy job => decide (job < 4096)
  | .keySetPolicy job => decide (job < 4096)
  | .keyExportWrapped job => decide (job < 4096)
  | .keyDescribe job => decide (job < 4096)
  | .sign job => decide (job < 4096)
  | .verify job => decide (job < 4096)
  | .asymDecrypt job => decide (job < 4096)
  | .asymEncrypt job => decide (job < 4096)
  | .agree job => decide (job < 4096)
  | .encaps job => decide (job < 4096)
  | .decaps job => decide (job < 4096)
  | .aeadSeal job => decide (job < 4096)
  | .aeadOpen job => decide (job < 4096)
  | .cipher job => decide (job < 4096)
  | .mac job => decide (job < 4096)
  | .wrap job => decide (job < 4096)
  | .unwrap job => decide (job < 4096)
  | .random job => decide (job < 4096)
  | .hash job => decide (job < 4096)
  | .ownerApprove job => decide (job < 4096)
  | .counterRead job => decide (job < 4096)
  | .attestQuote job => decide (job < 4096)
  | .tickIncrement => true
  | .beadSeal => true
  | .overlayRecordApply => true
  | .meterRecordWrite => true
  | .meterRingEnable depthLog2 => decide (depthLog2 < 16)
  | .meterRingDisable => true
  | .meterHeadWrite head => decide (head < 2 ^ 32)
  | .journalItemWrite => true
  | .journalExportEnable sizeLog2 => decide (sizeLog2 < 32)
  | .journalExportDisable => true
  | .journalConsumedWrite consumed => decide (consumed < 2 ^ 64)
  | .journalDurableWrite bead => decide (bead < 2 ^ 64)
  | .claspWrite gen => decide (gen < 2 ^ 32)
  | .claspLapse => true
  | .checkpointRequest q value => q.wellFormed && decide (value.length ≤ 16384)
  | .ckptReq => true
  | .checkpointComplete => true
  | .restoreStart q value => q.wellFormed && decide (value.length ≤ 16384)
  | .restoreLoadComplete _ => true
  | .rollbackAccept q value => q.wellFormed && decide (value.length ≤ 16384)
  | .lazyChunkRestore _ => true
  | .resizeClearComplete => true
  | .resizeBucketMigrate => true
  | .patrolScrub _ => true
  | .eccUncorrectableError line => decide (line < 2 ^ 40)
  | .protectedRangeCommit => true
  | .protectedRangeGenActive => true
  | .migrateFloor q value => q.wellFormed && decide (value.length ≤ 16384)
  | .migrateWalkStep => true
  | .ownerEpoch q owner value => q.wellFormed && decide (owner < 2 ^ 16) && decide (value.length ≤ 16384)
  | .domainCreate q value => q.wellFormed && decide (value.length ≤ 16384)
  | .domainSend q value => q.wellFormed && decide (value.length ≤ 16384)
  | .domainAccept q value => q.wellFormed && decide (value.length ≤ 16384)
  | .domainAcceptExpiry => true
  | .hello h => h.wellFormed
  | .confirm f nonces => f.wellFormed && nonces.length == 32
  | .headReq f => f.wellFormed
  | .head f bead hash gen _ => f.wellFormed && decide (bead < 2 ^ 64) && hash.length == 32 && decide (gen < 2 ^ 32)
  | .visitDone f bead => f.wellFormed && decide (bead < 2 ^ 64)
  | .ready f head gen => f.wellFormed && decide (head < 2 ^ 64) && decide (gen < 2 ^ 32)
  | .claspPass f gen final hash => f.wellFormed && decide (gen < 2 ^ 32) && decide (final < 2 ^ 64) && hash.length == 64
  | .claspAck f gen => f.wellFormed && decide (gen < 2 ^ 32)
  | .claspNak f reason => f.wellFormed && decide (reason < 256)
  | .keepalive f role => f.wellFormed && decide (role < 256)
  | .pairOffer _ => true
  | .pairReply _ => true
  | .pairSecret seq _ => decide (seq < 2 ^ 64)
  | .pairDone _ => true
  | .keepaliveSendTimer => true
  | .flallaniSessionTimeout => true
  | .helloRetry => true
  | .handover q value => q.wellFormed && decide (value.length ≤ 16384)
  | .handoverComplete => true
  | .claspPassResend => true
  | .appendStart q _ value => q.wellFormed && decide (value.length ≤ 16384)
  | .wakePartner q value => q.wellFormed && decide (value.length ≤ 16384)
  | .fllWake => true
  | .stayAwake q value => q.wellFormed && decide (value.length ≤ 16384)
  | .resyncVisitDue => true
  | .visitTimeout => true
  | .slpWakeEdge _ => true
  | .bgnPromote core => decide (core < 34)
  | .bgnHold core _ => decide (core < 34)
  | .bgnFence core => decide (core < 34)
  | .bgnCoreCfgWrite core units => decide (core < 34) && decide (units < 64)
  | .modadd core param => decide (core < 34) && decide (param < 256)
  | .modsub core param => decide (core < 34) && decide (param < 256)
  | .modmul core param => decide (core < 34) && decide (param < 256)
  | .modexp core param => decide (core < 34) && decide (param < 256)
  | .modexpPub core param => decide (core < 34) && decide (param < 256)
  | .modinv core param => decide (core < 34) && decide (param < 256)
  | .rsaCrt core param => decide (core < 34) && decide (param < 256)
  | .mrRound core param => decide (core < 34) && decide (param < 256)
  | .ecSmul core param => decide (core < 34) && decide (param < 256)
  | .ecDsmul core param => decide (core < 34) && decide (param < 256)
  | .ecAdd core param => decide (core < 34) && decide (param < 256)
  | .ecdsaSign core param => decide (core < 34) && decide (param < 256)
  | .ecdsaVerify core param => decide (core < 34) && decide (param < 256)
  | .edSmul core param => decide (core < 34) && decide (param < 256)
  | .xdh core param => decide (core < 34) && decide (param < 256)
  | .bgnFwOpComplete core => decide (core < 34)
  | .attestKeyGenStart => true
  | .attestKeyGenStop => true
  | .attestKeyGenComplete => true
  | .latPromote core => decide (core < 9)
  | .latHold core _ => decide (core < 9)
  | .latFence core => decide (core < 9)
  | .mlkemEncaps core param => decide (core < 9) && decide (param < 256)
  | .mldsaVerify core param => decide (core < 9) && decide (param < 256)
  | .ntt core param => decide (core < 9) && decide (param < 256)
  | .intt core param => decide (core < 9) && decide (param < 256)
  | .pmul core param => decide (core < 9) && decide (param < 256)
  | .keccak core param => decide (core < 9) && decide (param < 256)
  | .latFwOpComplete core => decide (core < 9)
  | .laneLockAcquire lane code _ => decide (lane < 16) && decide (code < 2 ^ 16)
  | .laneLockRelease lane _ => decide (lane < 16)
  | .laneFwJobStart lane _ => decide (lane < 16)
  | .laneKeyClear lane _ => decide (lane < 16)
  | .laneFwJobComplete lane => decide (lane < 16)
  | .entropyWindowEnd src => decide (src < 4)
  | .healthTestFail src _ => decide (src < 4)
  | .startupTestPass src => decide (src < 4)
  | .quarantineRetry src => decide (src < 4)
  | .drbgReseed d => decide (d < 4)
  | .drbgGenerate _ => true
  | .drbgInstanceStall d => decide (d < 4)
  | .portRefill _ _ => true
  | .rngSDataRead => true
  | .rngNsDataRead => true
  | .rngSPrRequest => true
  | .rngNsPrRequest => true
  | .rngTestSelect sel src => decide (sel < 4) && decide (src < 16)
  | .rngRawDataRead => true
  | .hallmarkExtend reg => decide (reg < 8)
  | .fwStorageKeyRequest _ svn index lane => decide (svn < 256) && decide (index < 256) && decide (lane < 16)
  | .fwStorageKeyDone => true
  | .cardInsert port => decide (port < 2)
  | .cardRemove port => decide (port < 2)
  | .atrTimeout port => decide (port < 2)
  | .atrReceived port _ _ _ => decide (port < 2)
  | .selectResponse port sw => decide (port < 2) && decide (sw < 2 ^ 16)
  | .getInfoResponse port sw tries _ => decide (port < 2) && decide (sw < 2 ^ 16) && decide (tries < 16)
  | .verifyPinResponse port sw => decide (port < 2) && decide (sw < 2 ^ 16)
  | .signStatementResponse port sw _ => decide (port < 2) && decide (sw < 2 ^ 16)
  | .cardSignatureVerified port => decide (port < 2)
  | .pinWrite q port value => q.wellFormed && decide (port < 2) && decide (value.length ≤ 16384)
  | .pinWaitTimeout port => decide (port < 2)
  | .signingTimeout port => decide (port < 2)
  | .cardDeactivate port => decide (port < 2)
  | .signetOpen q value => q.wellFormed && decide (value.length ≤ 16384)
  | .signetCancel q value => q.wellFormed && decide (value.length ≤ 16384)
  | .signetWindowEnd => true
  | .zeroiseArm q value => q.wellFormed && decide (value.length ≤ 16384)
  | .zeroiseArmExpiry => true
  | .wsw core resume => decide (core < 4) && decide (resume < 2 ^ 40)
  | .wret core => decide (core < 4)
  | .secureInterruptTaken src resume => decide (src < 32) && decide (resume < 2 ^ 40)
  | .worldSliceExpiry src => decide (src < 32)
  | .internalMasterAccess agent kind addr len core _ => decide (agent < 8) && decide (kind < 4) && decide (addr < 2 ^ 40 + 2 ^ 22) && decide (len < 4097) && decide (core < 16)
  | .bezelCommit => true
  | .bezelGenActive => true
  | .bezelModeWrite _ => true
  | .worldCommit => true
  | .worldGenActive => true
  | .l2WaysWrite mask => decide (mask < 2 ^ 16)
  | .l2WayFlushComplete => true
  | .copyDmaStart channel => decide (channel < 4)
  | .copyDmaStop channel => decide (channel < 4)
  | .copyDmaComplete channel => decide (channel < 4)
  | .loopSample _ => true
  | .clockMonitorWindow c _ => decide (c < 4)
  | .clockShortCycle c => decide (c < 4)
  | .xtalMonitorArm => true
  | .firmwareAlarmRaise response => decide (response < 8)
  | .purgeErasureComplete => true
  | .zeroiseErasureComplete => true
  | .haltClear => true
  | .bbramPeriodicCheck _ _ => true
  | .vbatMeasure aMv bMv => decide (aMv < 2 ^ 16) && decide (bMv < 2 ^ 16)
  | .loopsArm q value => q.wellFormed && decide (value.length ≤ 16384)
  | .loopsDisarm q value => q.wellFormed && decide (value.length ≤ 16384)
  | .responseRaise q src value => q.wellFormed && decide (src < 32) && decide (value.length ≤ 16384)
  | .lifecycleNext q value => q.wellFormed && decide (value.length ≤ 16384)
  | .signerHashes q slot value => q.wellFormed && decide (slot < 4) && decide (value.length ≤ 16384)
  | .signerRevoke q slot value => q.wellFormed && decide (slot < 4) && decide (value.length ≤ 16384)
  | .svnFloor q value => q.wellFormed && decide (value.length ≤ 16384)
  | .cosigRequired q value => q.wellFormed && decide (value.length ≤ 16384)
  | .compatDisable q value => q.wellFormed && decide (value.length ≤ 16384)
  | .otpProgramComplete => true
  | .provisionRun q value => q.wellFormed && decide (value.length ≤ 16384)
  | .signer0 q value => q.wellFormed && decide (value.length ≤ 16384)
  | .identityCertWrite q value => q.wellFormed && decide (value.length ≤ 16384)
  | .lcsInitWrap => true
  | .recoveryGo _ => true
  | .dapRead addr size => decide (addr < 2 ^ 40) && decide (size < 4097)
  | .dapWrite addr size _ => decide (addr < 2 ^ 40) && decide (size < 4097)
  | .idcode => true
  | .bypass => true
  | .debugToken q value => q.wellFormed && decide (value.length ≤ 16384)
  | .porNAssert => true
  | .porNRelease _ => true
  | .sysRstNAssert => true
  | .ppsEdge _ _ => true
  | .ppsWindowTimeout => true
  | .holdoverEntry => true
  | .holdoverLoss => true
  | .nextPulseTai q value => q.wellFormed && decide (value.length ≤ 16384)
  | .todReset q value => q.wellFormed && decide (value.length ≤ 16384)
  | .poweredHourElapsed => true
  | .hstTickLoRead => true
  | .timTickLoRead => true
  | .evrPostS severity code => decide (severity < 8) && decide (code < 2 ^ 16)
  | .evrPostN severity code => decide (severity < 8) && decide (code < 2 ^ 16)
  | .eventArchiveWrite => true
  | .archiveRelease q value => q.wellFormed && decide (value.length ≤ 16384)
  | .nextRecord q offset cap => q.wellFormed && decide (offset < 2 ^ 32) && decide (cap < 2 ^ 32)
  | .mgpFrameReceived _ _ => true
  | .mgpRxdTailWrite tail => decide (tail < 2 ^ 32)
  | .mgpTxGo => true
  | .mgpFrameSent => true
  | .read slot _ => decide (slot < 8)
  | .write slot _ _ => decide (slot < 8)
  | .close slot _ => decide (slot < 8)
  | .secureOdAccess session role _ => decide (session < 256) && decide (role < 256)
  | .pueshIdleTimeout slot => decide (slot < 8)
  | .sessionCloseWrite q slot value => q.wellFormed && decide (slot < 8) && decide (value.length ≤ 16384)
  | .mgmtKeyGenerate q value => q.wellFormed && decide (value.length ≤ 16384)
  | .mgmtCert q value => q.wellFormed && decide (value.length ≤ 16384)
  | .napRequest q value => q.wellFormed && decide (value.length ≤ 16384)
  | .pwrReqNap => true
  | .autoNapTimer => true
  | .napMinutePrewake => true
  | .napExitComplete => true
  | .sleepRequest q value => q.wellFormed && decide (value.length ≤ 16384)
  | .pwrReqSleep => true
  | .sleepPowerOff _ _ _ => true
  | .vddAonLoss cellMv => decide (cellMv < 2 ^ 16)
  | .vddAonReturn _ => true
  | .backupSupplyReturn => true
  | .gpioRisingEdge n => decide (n < 8)
  | .pwrLockWrite locks => decide (locks < 4096)
  | .nsGateClkOn block => decide (block < 12)
  | .nsGateClkOff block => decide (block < 12)
  | .nsGatePwrOn block => decide (block < 12)
  | .nsGatePwrOff block => decide (block < 12)
  | .pwrDeferCancel => true
  | .pwrGateWrite _ block _ _ => decide (block < 12)
  | .gateTransitionComplete block => decide (block < 12)
  | .polishSlot _ => true
  | .polishSequenceEnd l f => f.all (fun i => i < if l then 8 else 7)
  | .registerWrite _ addr value => decide (addr < 2 ^ 40) && decide (value < 2 ^ 32)
  | .perstNRelease => true
  | .linkRateChange rate width => decide (rate < 33) && decide (width < 9)
  | .sysRstNRelease _ => true
  | .fllRxSyncAcquired => true
  | .fllLostSync => true
  | .plcaBeacon _ => true
  | .clientHello _ => true
  | .dtlsHandshakeComplete slot _ => decide (slot < 8)
  | .dtlsAlert slot => decide (slot < 8)
  | .wfi core => decide (core < 4)

end Sys2Proof
end

