-- ==== Sys2Proof/Certificates/Slice0/Obligations.lean ====
section
/-! DEFINITION. What the provers prove of the model: one definition for each statement of OBLIGATIONS.json. A statement
of a command's effect says that the command answers a next state, what that state holds, and what it leaves. -/

open Sys2Proof Sys2Proof.Machine

/-- In every state PERST_N_ASSERT, FUNCTION_LEVEL_RESET and BUS_MASTER_ENABLE_CLEAR wake the unit from NAP, write
RESET to every instance that is ENABLED or FAULTED, free the lanes of the jobs gone, and stop the admin mailbox:
HST_AQ_CFG.ENABLE and HST_AQ_STATUS.RUNNING are 0, no admin completion is left to write, and Bus Master Enable
is 0. PERST_N also takes the link down and disarms the monitor of the link clock, and it and the Function Level
Reset leave the configuration registers and the MSI-X table at their reset values. BUS_MASTER_ENABLE_CLEAR
carries every record that waits to be written and keeps the rest of the configuration. BUS_MASTER_ENABLE_SET
with PERST_N high takes what the host wrote of its configuration, a value the function does not support leaving
that field as it was, and sends one message for each vector left pending that is no longer masked; with PERST_N
low it changes nothing. Log entries 20 and 54 name what is the model's choice or reading here. The closing
clauses say of each of the 4 commands named there, for every state and all operands, that it answers a next
state and which pieces of State it may change: every other piece is as it was. -/
def Obligations.HostResetStops : Prop :=
  (∀ (s : State), exec .functionLevelReset s = .next (((s.wakeNap 7).activeInsts.foldl State.resetInstance (s.wakeNap 7)).sweepLanes.stopMailbox.resetConfig) ∧
     exec .perstNAssert s = .next { ((s.wakeNap 7).activeInsts.foldl State.resetInstance (s.wakeNap 7)).sweepLanes.stopMailbox.resetConfig.armMonitor 3 false with host := { ((s.wakeNap 7).activeInsts.foldl State.resetInstance (s.wakeNap 7)).sweepLanes.stopMailbox.resetConfig.host with perstN := false, linkRate := 0, linkWidth := 0, pciePll := false } }) ∧
  (∀ (s : State), exec .busMasterEnableClear s = .next (
     let u := ((s.wakeNap 7).activeInsts.foldl State.resetInstance (s.wakeNap 7)).sweepLanes.stopMailbox
     let v := u.meters.closing.foldl State.carryMeter { u with meters := { u.meters with closing := [] } }
     { v with host := { v.host with bme := false } })) ∧
  (∀ (s : State), Answers .perstNAssert s (fun t =>
     t.bit .HST_AQ_CFG_ENABLE = false ∧ t.bit .HST_AQ_STATUS_RUNNING = false ∧ (∀ r ∈ t.agent.replies, r.req.src ≠ .admin) ∧
     t.host.bme = false ∧ t.host.pasidEn = false ∧ t.host.fnMask = false ∧ t.host.msixTable = [] ∧ t.host.msixPend = [] ∧
     t.host.maxPayload = 128 ∧ t.host.maxRead = 512 ∧ t.host.ctoCode = 0 ∧
     t.host.perstN = false ∧ t.host.linkRate = 0 ∧ t.host.linkWidth = 0)) ∧
  (∀ (s : State), Answers .functionLevelReset s (fun t =>
     t.bit .HST_AQ_CFG_ENABLE = false ∧ t.bit .HST_AQ_STATUS_RUNNING = false ∧ (∀ r ∈ t.agent.replies, r.req.src ≠ .admin) ∧
     t.host.bme = false ∧ t.host.pasidEn = false ∧ t.host.fnMask = false ∧ t.host.msixTable = [] ∧ t.host.msixPend = [] ∧
     t.host.maxPayload = 128 ∧ t.host.maxRead = 512 ∧ t.host.ctoCode = 0)) ∧
  (∀ (s : State), Answers .busMasterEnableClear s (fun t =>
     t.bit .HST_AQ_CFG_ENABLE = false ∧ t.bit .HST_AQ_STATUS_RUNNING = false ∧ (∀ r ∈ t.agent.replies, r.req.src ≠ .admin) ∧
     t.host.bme = false ∧ t.meters.closing = [])) ∧
  (∀ (s : State) p c, s.host.perstN = true → exec (.busMasterEnableSet p c) s = .next
     ({ s with host := { s.host with bme := true, pasidEn := p, fnMask := c.fnMask, maxPayload := if sizeSupported 512 c.maxPayload then c.maxPayload else s.host.maxPayload, maxRead := if sizeSupported 4096 c.maxRead then c.maxRead else s.host.maxRead, ctoCode := if timeoutCodes.contains c.timeout then c.timeout else s.host.ctoCode } } : State).sendPending) ∧
  (∀ (s : State) p c, s.host.perstN = false → exec (.busMasterEnableSet p c) s = .next s) ∧
  (∀ (s : State), (s.host.bme = true → ∀ v ∈ s.sendPending.host.msixPend, s.vectorMasked v = true) ∧
     (s.host.bme = true → s.sendPending.host.out = s.host.out ++ (s.host.msixPend.filter (fun v => !s.vectorMasked v)).map HostWrite.msix) ∧
     s.sendPending = { s with host := s.sendPending.host }) ∧
  (∀ (s : State), Answers .perstNAssert s (Only [.regs, .host, .insts, .jobs, .locket, .meters, .evr, .strand, .usage, .store, .ladder, .agent, .engines, .alarm, .power] s)) ∧
  (∀ (s : State), ∀ c ∈ [Instr.functionLevelReset, .busMasterEnableClear], Answers c s (Only [.regs, .host, .insts, .jobs, .locket, .meters, .evr, .strand, .usage, .store, .ladder, .agent, .engines, .power] s)) ∧
  (∀ (s : State) a b, Answers (.busMasterEnableSet a b) s (Only [.host] s))

/-- With HST_STATUS.ADMIN_READY 1 and HST_AQ_CFG.ENABLE and HST_AQ_STATUS.RUNNING 0, ADMIN_MAILBOX_ENABLE with a
depth of 4 to 12 sets ENABLE, RUNNING and DEPTH_LOG2, clears FAULT, sets both pointers to zero, the internal
positions to zero and the first phase to 1, and changes no other register and no other field; where one of these
does not hold it changes nothing. ADMIN_SQ_TAIL_WRITE of a tail inside the ring writes the tail and no other
register, and of any other tail changes nothing. ADMIN_MAILBOX_DISABLE clears ENABLE; RUNNING then reads 0 when
no admin completion is outstanding, and else stays as it was. Each is a host access and wakes the device from
NAP first: the frame is said against the state after that. Log entry 55 names what is the model's choice or
reading here. The closing clauses say of each of the 3 commands named there, for every state and all operands,
that it answers a next state and which pieces of State it may change: every other piece is as it was. -/
def Obligations.AdminMailboxRegisters : Prop :=
  (∀ (s : State) d, s.bit .HST_STATUS_ADMIN_READY = true → s.bit .HST_AQ_CFG_ENABLE = false → s.bit .HST_AQ_STATUS_RUNNING = false → 4 ≤ d → d ≤ 12 →
     Answers (.adminMailboxEnable d) s (fun t =>
       t.bit .HST_AQ_CFG_ENABLE = true ∧ t.bit .HST_AQ_STATUS_RUNNING = true ∧ t.bit .HST_AQ_STATUS_FAULT = false ∧
       t.get .HST_AQ_CFG_DEPTH_LOG2 = d ∧ t.get .HST_AQ_SQ_TAIL_TAIL = 0 ∧ t.get .HST_AQ_CQ_HEAD_HEAD = 0 ∧
       t.admin = { sqFetch := 0, cqWrite := 0, phase := true } ∧
       OnlyRegs [Fld.HST_AQ_CFG_ENABLE.addr, Fld.HST_AQ_STATUS_RUNNING.addr, Fld.HST_AQ_SQ_TAIL_TAIL.addr,
         Fld.HST_AQ_CQ_HEAD_HEAD.addr] { s.wakeNap 1 with admin := t.admin } t)) ∧
  (∀ (s : State) d, (s.bit .HST_STATUS_ADMIN_READY = false ∨ s.bit .HST_AQ_CFG_ENABLE = true ∨ s.bit .HST_AQ_STATUS_RUNNING = true ∨ d < 4 ∨ 12 < d) →
     exec (.adminMailboxEnable d) s = .next (s.wakeNap 1)) ∧
  (∀ (s : State) v, v < 2 ^ (s.wakeNap 1).get .HST_AQ_CFG_DEPTH_LOG2 → Answers (.adminSqTailWrite v) s (fun t =>
     (v < 4096 → t.get .HST_AQ_SQ_TAIL_TAIL = v) ∧ OnlyRegs [Fld.HST_AQ_SQ_TAIL_TAIL.addr] (s.wakeNap 1) t)) ∧
  (∀ (s : State) v, 2 ^ (s.wakeNap 1).get .HST_AQ_CFG_DEPTH_LOG2 ≤ v → exec (.adminSqTailWrite v) s = .next (s.wakeNap 1)) ∧
  (∀ (s : State), Answers .adminMailboxDisable s (fun t =>
     t.bit .HST_AQ_CFG_ENABLE = false ∧ ((∀ r ∈ s.agent.replies, r.req.src ≠ .admin) → t.bit .HST_AQ_STATUS_RUNNING = false) ∧
     ((∃ r ∈ s.agent.replies, r.req.src = .admin) → t.bit .HST_AQ_STATUS_RUNNING = s.bit .HST_AQ_STATUS_RUNNING) ∧
     OnlyRegs [Fld.HST_AQ_CFG_ENABLE.addr, Fld.HST_AQ_STATUS_RUNNING.addr] (s.wakeNap 1) t)) ∧
  (∀ (s : State) a, Answers (.adminMailboxEnable a) s (Only [.regs, .admin, .power] s)) ∧
  (∀ (s : State), Answers .adminMailboxDisable s (Only [.regs, .power] s)) ∧
  (∀ (s : State) a, Answers (.adminSqTailWrite a) s (Only [.regs, .power] s))

/-- SQ_TAIL_WRITE of a tail below the depth to an ENABLED instance sets the tail pointer; CQ_HEAD_WRITE of a head
below the depth that frees only written entries sets the head pointer. A write to an instance that is not
ENABLED, a tail or head at or above the depth, and a head that would free entries not written are discarded: the
count of discarded accesses rises by one and saturates, SQ_ERROR or CQ_ERROR is set where the rule says so, and
no pointer changes. In each case nothing else of the instance, no other instance and no other field of the state
changes (the write first wakes the device from NAP, R48). While ZEROISED every doorbell is discarded and counted
(R417). A page of no instance takes no write. The closing clauses say of each of the 2 commands named there, for
every state and all operands, that it answers a next state and which pieces of State it may change: every other
piece is as it was. -/
def Obligations.Doorbells : Prop :=
  (∀ (s : State) n v, n < 1024 → (s.inst n).st = .enabled → s.zeroised = false → v < s.depth n →
     Answers (.sqTailWrite n v) s (fun t => t.inst n = { s.inst n with sqTail := v } ∧ OnlyInst n (s.wakeNap 1) t)) ∧
  (∀ (s : State) n v, n < 1024 → (s.inst n).st = .enabled → s.zeroised = false → v < s.depth n →
     (v + s.depth n - (s.inst n).cqHead) % s.depth n ≤ ((s.inst n).cqWrite + s.depth n - (s.inst n).cqHead) % s.depth n →
     Answers (.cqHeadWrite n v) s (fun t => t.inst n = { s.inst n with cqHead := v } ∧ OnlyInst n (s.wakeNap 1) t)) ∧
  (∀ (s : State) n v, n < 1024 → ((s.inst n).st ≠ .enabled ∨ s.zeroised = true) →
     Answers (.sqTailWrite n v) s (fun t => t.inst n = { s.inst n with dbDiscarded := sat32 (s.inst n).dbDiscarded } ∧
       OnlyInst n (s.wakeNap 1) t) ∧
     Answers (.cqHeadWrite n v) s (fun t => t.inst n = { s.inst n with dbDiscarded := sat32 (s.inst n).dbDiscarded } ∧
       OnlyInst n (s.wakeNap 1) t)) ∧
  (∀ (s : State) n v, n < 1024 → (s.inst n).st = .enabled → s.zeroised = false → s.depth n ≤ v →
     Answers (.sqTailWrite n v) s (fun t =>
       t.inst n = { s.inst n with dbDiscarded := sat32 (s.inst n).dbDiscarded, sqError := true } ∧ OnlyInst n (s.wakeNap 1) t)) ∧
  (∀ (s : State) n v, n < 1024 → (s.inst n).st = .enabled → s.zeroised = false →
     (s.depth n ≤ v ∨ ((s.inst n).cqWrite + s.depth n - (s.inst n).cqHead) % s.depth n <
       (v + s.depth n - (s.inst n).cqHead) % s.depth n) →
     Answers (.cqHeadWrite n v) s (fun t =>
       t.inst n = { s.inst n with dbDiscarded := sat32 (s.inst n).dbDiscarded, cqError := true } ∧ OnlyInst n (s.wakeNap 1) t)) ∧
  (∀ (s : State) n v, 1024 ≤ n → exec (.sqTailWrite n v) s = .next (s.wakeNap 1) ∧ exec (.cqHeadWrite n v) s = .next (s.wakeNap 1)) ∧
  (∀ (s : State) a b, ∀ c ∈ [Instr.sqTailWrite a b, .cqHeadWrite a b], Answers c s (Only [.regs, .insts, .power] s))

/-- An accepted write of OWNER of an instance is one OD_WRITE record at the end of the open bead, its response is
held for the seal, and the instance is BOUND for an owner number above 0 and UNBOUND for 0; a write of 0 in
BOUND answers every ENABLE that waits with the wrong-state error (log entry 56). An accepted ENABLE in BOUND
whose first two conditions of R55 fail answers the wrong-state error and changes no instance; with them met and
a record of its configuration not sealed it waits; with all met it sets both pointers, the fetch position and
the completion write position to zero and the phase to 1, clears both error bits, fills every rate bucket, makes
the instance ENABLED and answers it and every ENABLE that waited. In DRAINING it is held and the instance is
ENABLE_PENDING; in any other state it only completes. An accepted RESET in BOUND takes the next generation,
refuses the waiting ENABLEs and completes at once; in ENABLED and FAULTED it begins the drain, and in
ENABLE_PENDING cancels the held enable; there it answers with the drain; elsewhere it only completes. A drain
that is complete takes the next generation, answers its RESETs and makes the instance BOUND, where the held
enable is then tried; before that the command changes nothing. Generation 0xFFFFFFFF is followed by 1. Log
entries 6, 39, 56 and 57 name what is the model's choice or reading here. The closing clauses say of each of the
4 commands named there, for every state and all operands, that it answers a next state and which pieces of State
it may change: every other piece is as it was. -/
def Obligations.InstanceControl : Prop :=
  (∀ q n v (s : State), n < 1024 → s.passes q (0x2400 + n) 3 v = true →
     Responds (.instanceOwnerWrite q n v) s (fun t =>
       (t.inst n).st = (if leNat v = 0 then .unbound else .bound) ∧ (∀ m, m ≠ n → t.inst m = s.inst m) ∧
       (∃ r, t.strand.openBead.recs.getLast? = some r ∧ (∃ typ k sig, r.body = .odWrite (0x2400 + n) 3 typ v k sig) ∧
         r.reply = some s.agent.nextReply) ∧
       t.agent.replies = if leNat v = 0 ∧ (s.inst n).st = .bound
         then (s.agent.replies ++ [q.reply s.agent.nextReply]).map
           (Reply.answered ((s.inst n).enableReplies) .wrongState)
         else s.agent.replies ++ [q.reply s.agent.nextReply])) ∧
  (∀ q n (s : State), n < 1024 → s.passes q (0x2400 + n) 2 (le 1 1) = true → (s.inst n).st = .bound →
     s.enableOk n = true → s.configSealed n = true →
     Responds (.instanceEnable q n) s (fun t => (∀ m, m ≠ n → t.inst m = s.inst m) ∧
       t.inst n = { s.inst n with st := .enabled, sqTail := 0, cqHead := 0, fetchPos := 0, cqWrite := 0, phase := true, sqError := false, cqError := false, enableReplies := [] } ∧
       (t.sched n).level = (s.sched n).burst.map (· * 256) ∧
       t.agent.replies = (s.agent.replies ++ [q.reply s.agent.nextReply]).map
         (Reply.answered ((s.inst n).enableReplies ++ [s.agent.nextReply]) .ok))) ∧
  (∀ q n (s : State), n < 1024 → s.passes q (0x2400 + n) 2 (le 1 1) = true → (s.inst n).st = .bound →
     s.enableOk n = true → s.configSealed n = false →
     Responds (.instanceEnable q n) s (fun t => (∀ m, m ≠ n → t.inst m = s.inst m) ∧
       t.inst n = { s.inst n with enableReplies := (s.inst n).enableReplies ++ [s.agent.nextReply] } ∧
       t.agent.replies = s.agent.replies ++ [q.reply s.agent.nextReply])) ∧
  (∀ q n (s : State), n < 1024 → s.passes q (0x2400 + n) 2 (le 1 1) = true → (s.inst n).st = .bound → s.enableOk n = false →
     Responds (.instanceEnable q n) s (fun t => t.insts = s.insts ∧
       t.agent.replies = (s.agent.replies ++ [q.reply s.agent.nextReply]).map
         (Reply.answered ([s.agent.nextReply]) .wrongState))) ∧
  (∀ q n (s : State), n < 1024 → s.passes q (0x2400 + n) 2 (le 1 1) = true → (s.inst n).st = .draining →
     Responds (.instanceEnable q n) s (fun t => (∀ m, m ≠ n → t.inst m = s.inst m) ∧
       t.inst n = { s.inst n with st := .enablePending, enableReplies := (s.inst n).enableReplies ++ [s.agent.nextReply] } ∧
       t.agent.replies = s.agent.replies ++ [q.reply s.agent.nextReply])) ∧
  (∀ q n (s : State), n < 1024 → s.passes q (0x2400 + n) 2 (le 1 1) = true → (s.inst n).st ≠ .bound → (s.inst n).st ≠ .draining →
     Responds (.instanceEnable q n) s (fun t => t.insts = s.insts ∧
       t.agent.replies = (s.agent.replies ++ [q.reply s.agent.nextReply]).map
         (Reply.answered ([s.agent.nextReply]) .ok))) ∧
  (∀ q n (s : State), n < 1024 → s.passes q (0x2400 + n) 2 (le 1 2) = true → (s.inst n).st = .bound →
     Responds (.instanceReset q n) s (fun t => (∀ m, m ≠ n → t.inst m = s.inst m) ∧
       t.inst n = { s.inst n with gen := nextGen (s.inst n).gen, enableReplies := [] } ∧
       t.agent.replies = ((s.agent.replies ++ [q.reply s.agent.nextReply]).map
         (Reply.answered ((s.inst n).enableReplies) .wrongState)).map
         (Reply.answered ([s.agent.nextReply]) .ok))) ∧
  (∀ q n (s : State), n < 1024 → s.passes q (0x2400 + n) 2 (le 1 2) = true → ((s.inst n).st = .enabled ∨ (s.inst n).st = .faulted) →
     Responds (.instanceReset q n) s (fun t =>
       t = (((s.addReply q none [] none).2.resetInstance n).sweepLanes.modInst n (fun i => { i with resetReplies := i.resetReplies ++ [s.agent.nextReply] })) ∧
       s.agent.nextReply ∈ (t.inst n).resetReplies)) ∧
  (∀ q n (s : State), n < 1024 → s.passes q (0x2400 + n) 2 (le 1 2) = true → (s.inst n).st = .enablePending →
     Responds (.instanceReset q n) s (fun t => (∀ m, m ≠ n → t.inst m = s.inst m) ∧
       t.inst n = { s.inst n with st := .draining, enableReplies := [], resetReplies := (s.inst n).resetReplies ++ [s.agent.nextReply] } ∧
       t.agent.replies = (s.agent.replies ++ [q.reply s.agent.nextReply]).map
         (Reply.answered ((s.inst n).enableReplies) .wrongState))) ∧
  (∀ q n (s : State), n < 1024 → s.passes q (0x2400 + n) 2 (le 1 2) = true → ((s.inst n).st = .unbound ∨ (s.inst n).st = .draining) →
     Responds (.instanceReset q n) s (fun t => t.insts = s.insts ∧
       t.agent.replies = (s.agent.replies ++ [q.reply s.agent.nextReply]).map
         (Reply.answered ([s.agent.nextReply]) .ok))) ∧
  (∀ n (s : State), s.drained n = true → ((s.inst n).st = .draining ∨ (s.inst n).st = .enablePending) →
     Responds (.instanceDrainComplete n) s (fun t =>
       ∃ u : State, (∀ m, m ≠ n → u.inst m = s.inst m) ∧
       u.inst n = { s.inst n with st := .bound, gen := nextGen (s.inst n).gen, resetReplies := [] } ∧
       u.agent.replies = s.agent.replies.map (Reply.answered ((s.inst n).resetReplies) .ok) ∧
       t = if (s.inst n).st = .enablePending then u.tryEnables n else u)) ∧
  (∀ n (s : State), (s.drained n = false ∨ ((s.inst n).st ≠ .draining ∧ (s.inst n).st ≠ .enablePending)) →
     exec (.instanceDrainComplete n) s = .next s) ∧
  (nextGen 0xFFFFFFFF = 1 ∧ (∀ g, g < 0xFFFFFFFF → nextGen g = g + 1)) ∧
  (∀ (s : State) a b d, Answers (.instanceOwnerWrite a b d) s (Kept [.readValue, .share, .owners, .pending] s)) ∧
  (∀ (s : State) a b, ∀ c ∈ [Instr.instanceEnable a b, .instanceReset a b], Answers c s (Kept [.readValue, .share, .owners, .pending] s)) ∧
  (∀ (s : State) a, Answers (.instanceDrainComplete a) s (Only [.regs, .mem, .host, .insts, .scheds, .admin, .evr, .store, .agent, .power, .mgp] s))

/-- While fetching goes on and instance n is the next in turn that wants entries, SUBMISSION_FETCH asks for the
entries in reads of at most the read request size, reserves up to 32 free job entries for n, as many as its
eligible entries and its depth of speculation allow, and gives the turn to n. DMA_READ_COMPLETE with the data of
that read ends it, moves the fetch position on by the entries read, and makes each a job; with an error
completion, poisoned data or a timeout the error is reported to the host, the instance is FAULTED with cause 1,
2 or 3 and HST_EVENT.INSTANCE_FAULT is set. With no such read the command changes nothing. Log entries 6 and 54
name what is the model's choice or reading here. The closing clauses say of each of the 2 commands named there,
for every state and all operands, that it answers a next state and which pieces of State it may change: every
other piece is as it was. -/
def Obligations.SubmissionFetch : Prop :=
  (∀ (s : State) n l, s.fetching = true → nextAfter s.host.fetchTurn (mkeys s.insts (fun n _ => s.wantsFetch n)) = some n →
     s.freeEntries.take (min 32 (min (s.specDepth n - (s.instJobs n).length) (s.eligible n))) = l → l ≠ [] →
     ∃ (t : State), exec .submissionFetch s = .next t.notePeaks ∧
       t.host = { s.host with fetchTurn := n, out := t.host.out } ∧
       (s.host.bme = true → t.host.out = s.host.out ++
         (pieces s.host.maxRead (128 * min l.length (s.depth n - (s.inst n).fetchPos))).map (fun p =>
           .read n (s.pasid n) (s.sqBase n + 128 * (s.inst n).fetchPos + p.1) p.2) ++
         (pieces s.host.maxRead (128 * (l.length - min l.length (s.depth n - (s.inst n).fetchPos)))).map (fun p =>
           .read n (s.pasid n) (s.sqBase n + p.1) p.2)) ∧
       t.power = { s.power with lastActive := s.time.tick } ∧
       (∀ m, m ≠ n → t.inst m = s.inst m) ∧ t.inst n = { s.inst n with fetchRead := l } ∧
       Only [.insts, .host, .power] s t) ∧
  (∀ (s : State), (s.fetching = false ∨ nextAfter s.host.fetchTurn (mkeys s.insts (fun n _ => s.wantsFetch n)) = none) → exec .submissionFetch s = .next s) ∧
  (∀ (s : State) n b, (s.inst n).fetchRead ≠ [] →
     Settles (.dmaReadComplete (.fetch n) (.data b)) s (fun t =>
       t = ((List.range (s.inst n).fetchRead.length).zip (s.inst n).fetchRead).foldl
         (fun s p => s.takeEntry n p.2 (padTo 128 (slice b (128 * p.1) 128)))
         (s.modInst n (fun i => { i with fetchRead := [], fetchPos := (i.fetchPos + i.fetchRead.length) % s.depth n })))) ∧
  (∀ (s : State) n c r, (s.inst n).fetchRead ≠ [] → (r, c) ∈ [(DmaResult.urOrCa, 1), (.poisoned, 2), (.timeout, 3)] →
     Answers (.dmaReadComplete (.fetch n) r) s (fun t => (∀ m, m ≠ n → t.inst m = s.inst m) ∧
       t.inst n = { s.inst n with fetchRead := [], faultCause := c, st := .faulted } ∧
       t.bit .HST_EVENT_INSTANCE_FAULT = true ∧
       t.host.aer = s.host.aer ++ [if c = 1 then .unsupportedOrAbort else if c = 2 then .poisoned else .completionTimeout])) ∧
  (∀ (s : State) n r, ((s.inst n).fetchRead = [] → exec (.dmaReadComplete (.fetch n) r) s = .next s) ∧
     ((s.inst n).readsOut = 0 → exec (.dmaReadComplete (.discarded n) r) s = .next s) ∧
     ((s.inst n).readsOut ≠ 0 → exec (.dmaReadComplete (.discarded n) r) s =
       .next ((s.reportAer r).modInst n (fun i => { i with readsOut := i.readsOut - 1 })))) ∧
  (∀ (s : State) a b, Answers (.dmaReadComplete a b) s (Kept [.free, .readValue, .scheds, .share, .time, .restore, .bb, .lcs, .rng, .alarm, .pair, .worlds, .pending] s)) ∧
  (∀ (s : State), Answers .submissionFetch s (Only [.regs, .host, .insts, .power] s))

/-- DMA_READ_COMPLETE for a job that has reads under way puts the data, at the length the entry gives, into the job
as its input and takes one off the reads it waits for, and an OWNER_APPROVE is tested at once; data of a
parameter block that does not serve ends the job BAD_COMMAND, detail 0x0707; a failed read ends it BUFFER_FAULT,
0x1001 for the input and 0x1002 for the parameter block. Each failure is reported to the host. A failed read of
the admin mailbox's entry sets HST_AQ_STATUS.FAULT and stops the mailbox, a failed read of an admin command's
value ends it, and an entry of no admin opcode ends BAD_COMMAND. Where no such read is awaited nothing changes.
Log entries 6, 48 and 54 name what is the model's choice or reading here. -/
def Obligations.OperandReads : Prop :=
  (∀ (s : State) id j b, s.job id = some j → j.reads ≠ 0 → j.op ≠ opOwnerApprove →
     exec (.dmaReadComplete (.input id) (.data b)) s =
       .next (s.setJob id (some { j with input := some (padTo j.inputLen b), reads := j.reads - 1 })).settle) ∧
  (∀ (s : State) id j b, s.job id = some j → j.reads ≠ 0 → j.op = opOwnerApprove →
     exec (.dmaReadComplete (.input id) (.data b)) s = .next (State.settle (
       let u := s.setJob id (some { j with input := some (padTo j.inputLen b), reads := j.reads - 1 })
       match u.approvalFault j (padTo j.inputLen b) with
       | some (st, d) => u.endEarly id st d
       | none => u))) ∧
  (∀ (s : State) id j b, s.job id = some j → j.reads ≠ 0 →
     exec (.dmaReadComplete (.paramBlock id) (.data b)) s =
       .next (if j.blockOk (padTo j.blockLen b)
         then (s.setJob id (some { j with param := some (padTo j.blockLen b), reads := j.reads - 1 })).settle
         else ((s.setJob id (some { j with param := some (padTo j.blockLen b), reads := j.reads - 1 })).endEarly id .badCommand 0x0707).settle)) ∧
  (∀ (s : State) id j r, s.job id = some j → j.reads ≠ 0 → r ∈ [DmaResult.urOrCa, .poisoned, .timeout] →
     exec (.dmaReadComplete (.input id) r) s = .next ((s.reportAer r).endEarly id .bufferFault 0x1001).settle ∧
     exec (.dmaReadComplete (.paramBlock id) r) s = .next ((s.reportAer r).endEarly id .bufferFault 0x1002).settle) ∧
  (∀ (s : State) r, s.adminEligible = true → r ∈ [DmaResult.urOrCa, .poisoned, .timeout] →
     exec (.dmaReadComplete .adminFetch r) s =
       .next (((s.fetchAdmin.reportAer r).putBit .HST_AQ_STATUS_FAULT true).hostEvent .HST_EVENT_AQ_FAULT).settleMailbox ∧
     (∀ e, exec (.dmaReadComplete (.adminInput e) r) s = .next (((s.adminAdvance.readAdminInput e).reportAer r).adminEnd e 0x1001))) ∧
  (∀ (s : State) b, s.adminEligible = true →
     exec (.dmaReadComplete .adminFetch (.data b)) s = .next
       (if fieldLE (padTo 128 b) 0 2 = 0x0F01 ∨ fieldLE (padTo 128 b) 0 2 = 0x0F02 then s
        else s.adminBad (padTo 128 b) (if 8 ≤ fieldLE (padTo 128 b) 2 1 ∨ fieldLE (padTo 128 b) 3 1 ≠ 0 then 0x0701 else 0x0702)) ∧
     (∀ e, exec (.dmaReadComplete (.adminInput e) (.data b)) s = .next s)) ∧
  (∀ (s : State) r e, s.adminEligible = false → exec (.dmaReadComplete .adminFetch r) s = .next s ∧ exec (.dmaReadComplete (.adminInput e) r) s = .next s) ∧
  (∀ (s : State) id r, (s.job id = none ∨ ∃ j, s.job id = some j ∧ j.reads = 0) →
     exec (.dmaReadComplete (.input id) r) s = .next s.settle ∧ exec (.dmaReadComplete (.paramBlock id) r) s = .next s.settle) ∧
  (∀ (s : State) b, s.reportAer (.data b) = s ∧
     s.reportAer .urOrCa = { s with host := { s.host with aer := s.host.aer ++ [.unsupportedOrAbort] } } ∧
     s.reportAer .poisoned = { s with host := { s.host with aer := s.host.aer ++ [.poisoned] } } ∧
     s.reportAer .timeout = { s with host := { s.host with aer := s.host.aer ++ [.completionTimeout] } })

/-- Where a job in entry id has no release stamp and depends on no job that is still held, and the lease is not
over, ending it with a status other than DONE and a detail stamps it with the release stamp of the cycle, the
next place in the order of releases, that status and that detail, gives it no output and no result handle, and
leaves every other job its place, status and output. While it depends on a job that is held, the first status so
given waits in it and nothing else changes. Once the lease is over it takes the outcome of the lapse. A job that
already has a stamp, and an entry with no job, are left as they are, whatever ends them. -/
def Obligations.EndOfAJob : Prop :=
  (∀ (s : State) id j st d, s.job id = some j → j.stamp = none → s.leaseOver = false → j.deps = [] → st ≠ .done →
     ∃ x, (s.endEarly id st d).job id = some x ∧ x.stamp = some s.now ∧ x.stampSeq = s.locket.nextStamp ∧ x.status = st ∧
       x.detail = d ∧ x.output = [] ∧ x.resultHandle = 0 ∧ x.stage = .releasing ∧ x.entry = j.entry ∧
       (∀ k y, k ≠ id → s.job k = some y → ∃ z, (s.endEarly id st d).job k = some z ∧ z.entry = y.entry ∧ z.stage = y.stage ∧
         z.stamp = y.stamp ∧ z.status = y.status ∧ z.output = y.output)) ∧
  (∀ (s : State) id j st d, s.job id = some j → j.stamp = none → s.leaseOver = false → j.deps ≠ [] →
     s.endEarly id st d = s.setJob id (some { j with need := ⟨false, false, false, false, false⟩, unsealing := [], forced := some (j.forced.getD (st, d)) })) ∧
  (∀ (s : State) id j st d, s.job id = some j → j.stamp = none → s.leaseOver = true →
     s.endEarly id st d = s.setJob id (some (s.lapseJob { j with need := ⟨false, false, false, false, false⟩, unsealing := [] }))) ∧
  (∀ (s : State) id j st d, s.job id = some j → j.stamp.isSome = true → s.endEarly id st d = s) ∧
  (∀ (s : State) id st d, s.job id = none → s.endEarly id st d = s)

/-- While the admin mailbox is eligible, OD_READ of an entry with opcode 0x0F01 and OD_WRITE of one with 0x0F02 read
the 128 octets of the entry at the fetch position from the base of the queue on, move that position on by one in
the ring and note the tick as the last activity; OD_WRITE then reads its input, in requests of at most the max
read request size. With no fault in the fields of the entry the access is made with the index, sub-index and
offset of the entry and its response handed over; with a fault of the fields, or while ZEROISED for a write, the
command ends BAD_COMMAND with that detail. While the mailbox is not eligible, or for an entry of another opcode,
it changes nothing. MSIX_VECTOR_UNMASK of a vector of the table clears its mask bit and sends the messages that
are pending and no longer masked. Log entry 39 names what is the model's choice or reading here. The closing
clauses say of each of the 3 commands named there, for every state and all operands, that it answers a next
state and which pieces of State it may change: every other piece is as it was. -/
def Obligations.AdminCommands : Prop :=
  (∀ (s : State) e, s.adminEligible = true → fieldLE (padTo 128 e) 0 2 = 0x0F01 → adminFault (padTo 128 e) true = none →
     exec (.odRead e) s = .next (s.adminAdvance.odFetch (adminReq (padTo 128 e)) (fieldLE (padTo 128 e) 56 2)
       (fieldLE (padTo 128 e) 58 1) (fieldLE (padTo 128 e) 60 2) (fieldLE (padTo 128 e) 36 4 - 7))) ∧
  (∀ (s : State) e v l, s.adminEligible = true → fieldLE (padTo 128 e) 0 2 = 0x0F02 → s.zeroised = false →
     adminFault (padTo 128 e) false = none →
     exec (.odWrite e v l) s = .next ((s.adminAdvance.readAdminInput (padTo 128 e)).odWrite (adminReq (padTo 128 e)) (fieldLE (padTo 128 e) 56 2)
       (fieldLE (padTo 128 e) 58 1) (fieldLE (padTo 128 e) 59 1) (padTo (fieldLE (padTo 128 e) 32 4) v) l)) ∧
  (∀ (s : State) e d v l, s.adminEligible = true → (fieldLE (padTo 128 e) 0 2 = 0x0F01 → adminFault (padTo 128 e) true = some d →
       exec (.odRead e) s = .next (s.adminBad (padTo 128 e) d)) ∧
     (fieldLE (padTo 128 e) 0 2 = 0x0F02 → s.zeroised = false → adminFault (padTo 128 e) false = some d →
       exec (.odWrite e v l) s = .next (s.adminBad (padTo 128 e) d))) ∧
  (∀ s : State, s.host.bme = true → 128 ≤ s.host.maxRead →
     s.adminAdvance = { s with admin := { s.admin with sqFetch := (s.admin.sqFetch + 1) % 2 ^ s.get .HST_AQ_CFG_DEPTH_LOG2 }, power := { s.power with lastActive := s.time.tick }, host := { s.host with out := s.host.out ++ [.adminRead (s.get64 .HST_AQ_SQ_BASE_LO_ADDR .HST_AQ_SQ_BASE_HI_ADDR + 128 * s.admin.sqFetch) 128] } }) ∧
  (∀ (s : State) e, s.host.bme = true → s.readAdminInput e = { s with host := { s.host with out := s.host.out ++ (pieces s.host.maxRead (fieldLE e 32 4)).map (fun p => .adminRead (fieldLE e 24 8 + p.1) p.2) } }) ∧
  (∀ (s : State) e v l, s.adminEligible = true → fieldLE (padTo 128 e) 0 2 = 0x0F02 → s.zeroised = true →
     exec (.odWrite e v l) s = .next (s.adminBad (padTo 128 e)
       (if 8 ≤ fieldLE (padTo 128 e) 2 1 ∨ fieldLE (padTo 128 e) 3 1 ≠ 0 then 0x0701 else 0x0702))) ∧
  (∀ (s : State) e v l, (s.adminEligible = false → exec (.odRead e) s = .next s ∧ exec (.odWrite e v l) s = .next s) ∧
     (fieldLE (padTo 128 e) 0 2 ≠ 0x0F01 → exec (.odRead e) s = .next s) ∧
     (fieldLE (padTo 128 e) 0 2 ≠ 0x0F02 → exec (.odWrite e v l) s = .next s)) ∧
  (∀ (s : State) v, v < 2048 → exec (.msixVectorUnmask v) s = .next (State.sendPending
     { s.wakeNap 1 with host := { s.host with msixTable := mset (fun i => if i % 4 = 3 then 1#32 else 0#32) s.host.msixTable (4 * v + 3) 0#32 } })) ∧
  (∀ (s : State) v, 2048 ≤ v → exec (.msixVectorUnmask v) s = .next (s.wakeNap 1)) ∧
  (∀ (s : State) a, Answers (.odRead a) s (Only [.regs, .mem, .free, .host, .admin, .evr, .store, .agent, .power, .mgp] s)) ∧
  (∀ (s : State) a b d, Answers (.odWrite a b d) s (Kept [.readValue, .share, .owners, .pending] s)) ∧
  (∀ (s : State) a, Answers (.msixVectorUnmask a) s (Only [.regs, .host, .power] s))

/-- A job in entry id that waits on its class bucket, with admission not throttled and the bucket holding its cost,
is admitted by RATE_BUCKET_ADMIT: its entry is marked, the ticks it waited go to its meter record and, where the
rate is not unlimited, the bucket of its class of its instance is debited by its cost in 1/256 units. A waiting
job that the bucket can never hold, or whose wait limit of refills is reached while the bucket does not hold its
cost, ends RATE_LIMITED at WAIT_LIMIT_EXPIRY. Otherwise the two commands change nothing. A bucket of rate
0xFFFFFFFF never refuses (log entry 63). Log entries 48, 63 and 74 name what is the model's choice or reading
here. The closing clauses say of each of the 2 commands named there, for every state and all operands, that it
answers a next state and which pieces of State it may change: every other piece is as it was. -/
def Obligations.RateAdmission : Prop :=
  (∀ (s : State) id j, s.job id = some j → j.waitsRate = true → s.throttled = false → s.ratePasses j = true → s.unlimitedRate j = false →
     exec (.rateBucketAdmit id) s = .next (((s.setJob id (some { j with rateAdmitted := true })).chargeWait j).modSched j.inst
       (fun c => { c with level := c.level.set j.cls (c.level.getD j.cls 0 - j.cost * 256) }))) ∧
  (∀ (s : State) id j, s.job id = some j → j.waitsRate = true → s.throttled = false → s.ratePasses j = true → s.unlimitedRate j = true →
     exec (.rateBucketAdmit id) s = .next ((s.setJob id (some { j with rateAdmitted := true })).chargeWait j)) ∧
  (∀ (s : State) id, (∀ j, s.job id = some j → j.waitsRate = false ∨ s.throttled = true ∨ s.ratePasses j = false) →
     exec (.rateBucketAdmit id) s = .next s) ∧
  (∀ (s : State) id j, s.job id = some j → j.waitsRate = true → s.rateNever j = true ∨ (j.waitLimit ≤ j.refills ∧ s.bucketHolds j = false) →
     exec (.waitLimitExpiry id) s = .next ((s.chargeWait j).endEarly id .rateLimited noDetail).settle) ∧
  (∀ (s : State) id, (∀ j, s.job id = some j → j.waitsRate = false ∨ (s.rateNever j = false ∧ (j.refills < j.waitLimit ∨ s.bucketHolds j = true))) →
     exec (.waitLimitExpiry id) s = .next s) ∧
  (∀ (s : State) j, s.unlimitedRate j = (s.rateOf j == 0xFFFFFFFF) ∧
     (s.rateNever j = true ↔ s.unlimitedRate j = false ∧ ((s.sched j.inst).burst.getD j.cls 0 < j.cost ∨ s.rateOf j = 0)) ∧
     (s.bucketHolds j = true ↔ s.unlimitedRate j = true ∨ j.cost * 256 ≤ (s.sched j.inst).level.getD j.cls 0) ∧
     (s.ratePasses j = true ↔ s.rateNever j = false ∧ s.bucketHolds j = true ∧ s.behindInClass j = false)) ∧
  (∀ (s : State) a, Answers (.rateBucketAdmit a) s (Only [.regs, .host, .insts, .scheds, .jobs, .meters] s)) ∧
  (∀ (s : State) a, Answers (.waitLimitExpiry a) s (Only [.regs, .host, .insts, .jobs, .locket, .meters, .evr, .strand, .owners, .usage, .store, .ladder, .officers, .engines] s))

/-- After the held admissions are counted, LOCKET_ADMISSION takes the next instance in turn and its next job in
fetch order. A job that fails the checks of admission ends with their status; one that needs more granules than
are free holds the turn for granules and is counted once, and while it does no instance that takes granules is
admitted; otherwise the turn passes, the job enters PREPARING with its granules, its operands are known at once
where it names no object, and a creation the store has no room for is refused. With no turn, or while halted or
zeroised, only the counting happens. DIRECTORY_LOOKUP_COMPLETE looks the handles of such a job up; a job that
names a creation by reference waits for that creation and takes the handle it was given. OBJECT_UNSEAL_COMPLETE
with a good tag fills a setting for the object, one that no refusal or squash has reached; with a bad tag it
damages the object and marks the job. Log entries 6, 48, 64 and 83 name what is the model's choice or reading
here. The closing clauses say of each of the 3 commands named there, for every state and all operands, that it
answers a next state and which pieces of State it may change: every other piece is as it was. -/
def Obligations.LocketAdmission : Prop :=
  (∀ (s : State) n id j j', s.noteHolds.halted = false → s.noteHolds.zeroised = false →
     s.noteHolds.admissionTurn = some n → s.noteHolds.nextAdmission n = some (id, j) →
     (∀ st d, s.noteHolds.admitChecks j = (some (st, d), j') → exec .locketAdmission s = .next (s.noteHolds.endEarly id st d).settle) ∧
     (s.noteHolds.admitChecks j = (none, j') → s.noteHolds.granulesInUse + j.granules > 16384 → j.granWaited = false →
       exec .locketAdmission s = .next ((({ s.noteHolds with locket := { s.noteHolds.locket with granHeld := some n } }).setJob id
         (some { j with granWaited := true })).count .LKT_ADMIT_WAITS_COUNT)) ∧
     (s.noteHolds.admitChecks j = (none, j') → s.noteHolds.granulesInUse + j.granules > 16384 → j.granWaited = true →
       exec .locketAdmission s = .next { s.noteHolds with locket := { s.noteHolds.locket with granHeld := some n } }) ∧
     (s.noteHolds.admitChecks j = (none, j') → s.noteHolds.granulesInUse + j.granules ≤ 16384 →
       ∀ u x : State, u = (({ s.noteHolds with locket := { s.noteHolds.locket with granTurn := n, granHeld := if s.noteHolds.locket.granHeld = some n then none else s.noteHolds.locket.granHeld } }).setJob id
         (some { j' with stage := .preparing, gran := j'.granules })) →
       x = (if Job.namesObject { j' with stage := .preparing, gran := j'.granules } then u else u.operandsKnown id { j' with stage := .preparing, gran := j'.granules } none none) →
       (j'.creates = false ∨ s.noteHolds.roomFor j'.newType j'.newSize = true → exec .locketAdmission s = .next x.settle.notePeaks) ∧
       (j'.creates = true → s.noteHolds.roomFor j'.newType j'.newSize = false →
         exec .locketAdmission s = .next (x.refuse id (.denied 0x0105)).settle.notePeaks))) ∧
  (∀ s : State, (s.noteHolds.halted = true ∨ s.noteHolds.zeroised = true ∨ s.noteHolds.admissionTurn = none) → exec .locketAdmission s = .next s.noteHolds) ∧
  (∀ (s : State) h, s.locket.granHeld = some h → h ∈ s.jobList.map (fun e => e.2.inst) → s.admits h = true →
     (s.granulesFit h = true → s.admissionTurn = some h) ∧
     (s.granulesFit h = false → ∀ n, s.admissionTurn = some n → n ≠ h ∧ s.takesGranules n = false)) ∧
  (∀ (s : State) id j, s.job id = some j → j.stage = .preparing → j.looked = false → j.namesObject = true → j.stamp = none → j.squash = false →
     j.forced = none → j.destroyWait = [] →
     (isReference j.primary = false → exec (.directoryLookupComplete id) s = .next (s.lookup id j).settle) ∧
     (∀ d rest x, isReference j.primary = true → j.deps = d :: rest → s.job d = some x → x.ended = true → x.resultHandle ≠ 0 →
       exec (.directoryLookupComplete id) s = .next (s.lookup id { j with primary := x.resultHandle }).settle) ∧
     (isReference j.primary = true → (∀ d rest x, j.deps = d :: rest → s.job d = some x → x.ended = false ∨ x.resultHandle = 0) →
       exec (.directoryLookupComplete id) s = .next s)) ∧
  (∀ (s : State) id, (∀ j, s.job id = some j → j.stage ≠ .preparing ∨ j.looked = true ∨ j.namesObject = false ∨ j.stamp.isSome = true ∨
       j.squash = true ∨ j.forced.isSome = true ∨ j.destroyWait ≠ []) →
     exec (.directoryLookupComplete id) s = .next s) ∧
  (∀ (s : State) id j h rest, s.job id = some j → j.unsealing = h :: rest →
     exec (.objectUnsealComplete id false) s =
       .next ((s.damage h).setJob id (some { j with unsealing := rest, damaged := true, tagFails := j.tagFails ++ [h] })) ∧
     (((if h == j.primary then j.target else j.second) = none ∨ j.refused ≠ [] ∨ j.squash = true ∨ j.forced.isSome = true ∨
         (s.findRun h j.inst).isSome = true) →
       exec (.objectUnsealComplete id true) s = .next (s.setJob id (some { j with unsealing := rest }))) ∧
     (∀ x t ok, (if h == j.primary then j.target else j.second) = some x → j.refused = [] → j.squash = false → j.forced = none →
       (s.findRun h j.inst).isSome = false →
       (s.useSeal (ownerOf h) x.svn).fillRun (x.specRun j.inst id) (runLength x.type x.size) = (t, ok) →
       exec (.objectUnsealComplete id true) s = .next (if ok then t.setJob id (some { j with unsealing := rest }) else t))) ∧
  (∀ (s : State) id ok, (∀ j, s.job id = some j → j.unsealing = []) → exec (.objectUnsealComplete id ok) s = .next s) ∧
  (∀ (s : State), Answers .locketAdmission s (Only [.regs, .host, .insts, .jobs, .locket, .meters, .evr, .strand, .owners, .usage, .store, .ladder, .officers, .agent, .engines] s)) ∧
  (∀ (s : State) a, Answers (.directoryLookupComplete a) s (Only [.regs, .free, .host, .insts, .jobs, .locket, .meters, .evr, .strand, .restore, .owners, .usage, .store, .ladder, .officers, .engines] s)) ∧
  (∀ (s : State) a b, Answers (.objectUnsealComplete a b) s (Only [.jobs, .store, .ladder] s))

/-- ENGINE_START gives the ready job of the class whose turn it is to a free unit; where the setting its key is read
from fails its tag, the failure is counted and treated instead, and where that setting is gone the job is looked
up again. ENGINE_WORK_END of a job whose work has not ended, with no HALT, and which is not a refused job on a
lane, ends the running step, with the time its lane stalled: a streaming job that is confirmed writes its output
first, and one that is not stalls its lane on the full buffer. LANE_DEADLINE_EXPIRY ends the step of a refused
job on a lane. In every other case they change nothing. A step that is not the last leaves the job waiting for a
unit of the next; the last one ends its work. Log entries 6, 48, 65 and 83 name what is the model's choice or
reading here. The closing clauses say of each of the 4 commands named there, for every state and all operands,
that it answers a next state and which pieces of State it may change: every other piece is as it was. -/
def Obligations.EngineWork : Prop :=
  (∀ (s : State) cls bad sh id s' j n, cls ≠ .rng → cls ≠ .none → s.pick cls = some (id, s') → s'.job id = some j →
     s'.freeUnit cls j sh = some n →
     (∀ r, s.stepRun j cls = some r → (∀ k, bad = some k → s.meetsBad r k = false) →
       exec (.engineStart cls bad sh) s = .next (s'.occupy id j cls n)) ∧
     (∀ r k, s.stepRun j cls = some r → bad = some k → s.meetsBad r k = true →
       exec (.engineStart cls bad sh) s = .next (s.settingFailed id r k)) ∧
     (s.stepRun j cls = none → s.runLost j cls = false → exec (.engineStart cls bad sh) s = .next (s'.occupy id j cls n)) ∧
     (s.stepRun j cls = none → s.runLost j cls = true →
       exec (.engineStart cls bad sh) s = .next (s.missAgain id (s.stepHandle j cls)))) ∧
  (∀ (s : State) cls bad sh, (cls = .rng ∨ cls = .none ∨ s.pick cls = none ∨ (∀ id s', s.pick cls = some (id, s') →
       s'.job id = none ∨ ∃ j, s'.job id = some j ∧ s'.freeUnit cls j sh = none)) →
     exec (.engineStart cls bad sh) s = .next s) ∧
  (∀ (s : State) id ns j, s.job id = some j → j.ended = false → s.halted = false → (j.onLane && j.stage == .denying) = false →
     (s.mayStream j = true → exec (.engineWorkEnd id ns) s =
       .next ((s.writeStream id j j.dataLen).endStep id { j with streamed := max j.streamed j.dataLen } ns).settle.notePeaks) ∧
     (s.mayStream j = false → (j.streams = true ∧ j.onLane = true ∧ j.stage = .running ∧ j.squash = false ∧ j.forced = none ∧ laneBuffer < j.dataLen) →
       exec (.engineWorkEnd id ns) s = .next (s.stallLane j)) ∧
     (s.mayStream j = false → ¬(j.streams = true ∧ j.onLane = true ∧ j.stage = .running ∧ j.squash = false ∧ j.forced = none ∧ laneBuffer < j.dataLen) →
       exec (.engineWorkEnd id ns) s =
         .next ((s.searchStep j).2.endStep id (s.searchStep j).1 (if (s.searchStep j).1.onLane then ns else 0)).settle.notePeaks)) ∧
  (∀ (s : State) id ns, (∀ j, s.job id = some j → j.ended = true ∨ s.halted = true ∨ (j.onLane = true ∧ j.stage = .denying)) →
     exec (.engineWorkEnd id ns) s = .next s) ∧
  (∀ (s : State) id ns j, s.job id = some j → j.ended = false → s.halted = false → j.onLane = true → j.stage = .denying →
     exec (.laneDeadlineExpiry id ns) s = .next (s.endStep id { j with deadline := true } ns).settle.notePeaks) ∧
  (∀ (s : State) id ns, (∀ j, s.job id = some j → j.ended = true ∨ s.halted = true ∨ j.onLane = false ∨ j.stage ≠ .denying) →
     exec (.laneDeadlineExpiry id ns) s = .next s) ∧
  (∀ (s : State) id (j : Job) (e : Engine) (n : Nat) (k : Engine) (t : Nat) rest ns, j.unit = some (e, n) → j.steps = (k, t) :: rest → rest ≠ [] →
     j.squash = false → j.forced = none → j.stage ≠ .detached →
     s.endStep id j ns = (((s.setJob id (some { j with unit := none, busyNs := j.busyNs + t + ns, steps := rest, ended := false, drawTick := j.drawTick + (s.time.tick - j.stepTick) })).countWork e false false (if j.op = opSign && j.tz.1 = 6 && e = .lat then min 1000 j.iterations else 0) ns).showWork e n ((t + ns) % 2 ^ 32) false).leaveUnit e n false) ∧
  (∀ (s : State) id (j : Job) (e : Engine) (n : Nat) (k : Engine) (t : Nat) ns (p : Plan), j.unit = some (e, n) → j.steps = [(k, t)] → j.stage = .running → j.plan = some p → e ≠ .sym →
     s.endStep id j ns = ((((s.setJob id (some { j with unit := none, busyNs := j.busyNs + t + ns, steps := [], ended := true, drawTick := j.drawTick + (s.time.tick - j.stepTick), stage := .held })).countWork e (p.status == .engineReject) (p.status == .tagMismatch)
         (if j.op = opSign && j.tz.1 = 6 && e = .lat then min 1000 j.iterations else 0) ns).showWork e n ((t + ns) % 2 ^ 32) (p.status == .engineReject)).leaveUnit e n false).workEnded id) ∧
  (∀ (s : State) id (j : Job) ns, (j.unit = none ∨ j.steps = []) → s.endStep id j ns = s) ∧
  (∀ (s : State), Answers .locketPeakClear s (fun t => t.get .LKT_PEAK_JOBS = 0 ∧ t.get .LKT_PEAK_GRANULES = 0 ∧
     OnlyRegs [Fld.LKT_PEAK_JOBS.addr, Fld.LKT_PEAK_GRANULES.addr] s t)) ∧
  (∀ (s : State) a b d, Answers (.engineStart a b d) s (Kept [.mem, .readValue, .admin, .time, .restore, .owners, .bb, .lcs, .rng, .pair, .pending] s)) ∧
  (∀ (s : State) a b, ∀ c ∈ [Instr.engineWorkEnd a b, .laneDeadlineExpiry a b], Answers c s (Only [.regs, .free, .host, .insts, .jobs, .locket, .meters, .evr, .strand, .owners, .usage, .store, .ladder, .officers, .engines] s)) ∧
  (∀ (s : State), Answers .locketPeakClear s (Only [.regs] s))

/-- For a job whose policy is open POLICY_HW_DECISION refuses it with the detail of the first check that fails, and
otherwise records the policy, or leaves a firmware-decided one to the firmware. POLICY_REQUEST_POST of a
firmware-decided policy with its input read tests it once more and, the ring not full, writes the 256-octet
record at RING_BASE + 256 x HEAD, moves HEAD on by one in the ring and marks the job; on a full ring only the
tick of the request is kept. POLICY_PERMIT and POLICY_DENY that name the job and its sequence number record or
refuse its policy (detail 0x0107); others change nothing but the saturating count of stale decisions. TIMEOUT
ticks after the request POLICY_DECISION_TIMEOUT refuses it (0x0108), and APPROVAL_WAIT ticks after its fetch a
job still short of its quorum is refused at APPROVAL_WAIT_EXPIRY. In every other case these commands change
nothing. Log entries 6, 48, 61 and 75 name what is the model's choice or reading here. The closing clauses say
of each of the 6 commands named there, for every state and all operands, that it answers a next state and which
pieces of State it may change: every other piece is as it was. -/
def Obligations.PolicyDecisions : Prop :=
  (∀ (s : State) id j, s.job id = some j → j.policyOpen = true →
     (∀ d, s.policyFault j = some d → exec (.policyHwDecision id) s = .next (s.refuse id (.denied d)).settle.notePeaks) ∧
     (s.policyFault j = none → j.fwDecided = false →
       exec (.policyHwDecision id) s = .next (s.modJob id (fun j => { j with got := { j.got with policy := true } })).settle.notePeaks) ∧
     (s.policyFault j = none → j.fwDecided = true → exec (.policyHwDecision id) s = .next s)) ∧
  (∀ (s : State) id, (∀ j, s.job id = some j → j.policyOpen = false) → exec (.policyHwDecision id) s = .next s ∧ exec (.policyRequestPost id) s = .next s ∧
     exec (.policyDecisionTimeout id) s = .next s) ∧
  (∀ (s : State) id j, s.job id = some j → j.policyOpen = true →
     (j.fwDecided = false ∨ j.fwSent = true ∨ j.reads ≠ 0 → exec (.policyRequestPost id) s = .next s) ∧
     (j.fwDecided = true → j.fwSent = false → j.reads = 0 →
       (∀ d, s.policyFault j = some d → exec (.policyRequestPost id) s = .next (s.refuse id (.denied d)).settle.notePeaks) ∧
       (∀ r, s.policyFault j = none → (s.stampTests j).find? (fun r => r == .denied 0x0102 || r == .timeUnknown) = some r →
         exec (.policyRequestPost id) s = .next (s.refuse id r).settle.notePeaks) ∧
       (s.policyFault j = none → (s.stampTests j).find? (fun r => r == .denied 0x0102 || r == .timeUnknown) = none → s.polRoom = false →
         exec (.policyRequestPost id) s = .next (s.setJob id (some { j with fwPosted := some (j.fwPosted.getD s.time.tick) }))))) ∧
  (∀ (s : State) id (j : Job) (u v : State), s.job id = some j → j.policyOpen = true → j.fwDecided = true → j.fwSent = false → j.reads = 0 → s.policyFault j = none →
     (s.stampTests j).find? (fun r => r == .denied 0x0102 || r == .timeUnknown) = none → s.polRoom = true →
     u = s.setJob id (some { j with fwPosted := some (j.fwPosted.getD s.time.tick) }) →
     v = u.deviceWrite (s.get .LKT_POL_RING_BASE_ADDR + 256 * s.get .LKT_POL_HEAD_HEAD)
       (u.policyRecord id { j with fwPosted := some (j.fwPosted.getD s.time.tick) }) →
     exec (.policyRequestPost id) s = .next (((v.put .LKT_POL_HEAD_HEAD ((s.get .LKT_POL_HEAD_HEAD + 1) % v.polDepth)).setJob id
         (some { j with fwPosted := some (j.fwPosted.getD s.time.tick), fwSent := true })).polIrq)) ∧
  (∀ (s : State) id q, ((s.job id).map (fun j => j.awaits q)).getD false = true →
     exec (.policyPermit id q) s = .next (s.modJob id (fun j => { j with got := { j.got with policy := true } })).settle.notePeaks ∧
     exec (.policyDeny id q) s = .next (s.refuse id (.denied 0x0107)).settle.notePeaks) ∧
  (∀ (s : State) id q, ((s.job id).map (fun j => j.awaits q)).getD false = false →
     exec (.policyPermit id q) s = .next (s.put .LKT_POL_STATUS_STALE (sat16 (s.get .LKT_POL_STATUS_STALE))) ∧
     exec (.policyDeny id q) s = .next (s.put .LKT_POL_STATUS_STALE (sat16 (s.get .LKT_POL_STATUS_STALE)))) ∧
  (∀ (s : State) id j t, s.job id = some j → j.fwPosted = some t → j.policyOpen = true → s.time.tick ≥ t + s.get .LKT_POL_CFG_TIMEOUT →
     exec (.policyDecisionTimeout id) s = .next (s.refuse id (.denied 0x0108)).settle.notePeaks) ∧
  (∀ (s : State) id, (∀ j t, s.job id = some j → j.fwPosted = some t → s.time.tick < t + s.get .LKT_POL_CFG_TIMEOUT) →
     exec (.policyDecisionTimeout id) s = .next s) ∧
  (∀ (s : State) id, (∀ j, s.job id = some j → j.looked = false ∨ j.need.approval = false ∨ j.got.approval = true ∨ j.stamp.isSome = true ∨
       s.odNat (0x4000 + s.boundOwner j.inst) 0x18 0 = 0 ∨ s.time.tick < j.fetchTick + s.odNat (0x4000 + s.boundOwner j.inst) 0x18 0) →
     exec (.approvalWaitExpiry id) s = .next s) ∧
  (∀ (s : State) id j, s.job id = some j → j.looked = true → j.need.approval = true → j.got.approval = false → j.stamp = none →
     s.odNat (0x4000 + s.boundOwner j.inst) 0x18 0 ≠ 0 →
     s.time.tick ≥ j.fetchTick + s.odNat (0x4000 + s.boundOwner j.inst) 0x18 0 →
     exec (.approvalWaitExpiry id) s = .next (s.refuse id .approvalExpired).settle.notePeaks) ∧
  (∀ (s : State) a, ∀ c ∈ [Instr.policyHwDecision a, .policyDecisionTimeout a, .approvalWaitExpiry a], Answers c s (Only [.regs, .host, .insts, .jobs, .locket, .meters, .evr, .strand, .owners, .usage, .store, .ladder, .officers, .engines] s)) ∧
  (∀ (s : State) a, Answers (.policyRequestPost a) s (Only [.regs, .mem, .host, .insts, .jobs, .locket, .meters, .evr, .strand, .owners, .usage, .store, .ladder, .officers, .engines, .power] s)) ∧
  (∀ (s : State) a b, ∀ c ∈ [Instr.policyPermit a b, .policyDeny a b], Answers c s (Only [.regs, .host, .insts, .jobs, .locket, .meters, .evr, .strand, .owners, .usage, .store, .ladder, .officers, .engines] s))

/-- Where a job waits for a usage block of an object whose last block is durable and the strand is open,
USAGE_BLOCK_CREATE joins a record of the next block, begun one block higher where a restore left a gap, ended at
the limit; a start at or above the limit joins none; where no block is wanted it changes nothing. RESULT_RELEASE
of a job whose turn it is writes what is left of its output in writes of at most the payload size, its 32-octet
completion at the completion write position, and its message unless the entry asked for none; the write position
moves on by one, the phase flips when it comes round to zero, and the job entry, with the lane it still held, is
free. Log entries 48, 54, 60 and 82 name what is the model's choice or reading here. The closing clauses say of
each of the 2 commands named there, for every state and all operands, that it answers a next state and which
pieces of State it may change: every other piece is as it was. -/
def Obligations.UsageAndRelease : Prop :=
  (∀ (s : State) h o, s.committedObj h = some o → s.usageWanted h = true →
     (∀ b, (s.usageOf o).blockBead = some b → b ≤ s.strand.durable) → (s.usageOf o).pendingEnd = none → s.strandOpen = true →
     ∀ start, start = max (s.usageOf o).blockEnd o.highWater + (if (s.usageOf o).gapDue then s.strand.restoredBlock else 0) →
     (start ≥ o.policy.usageLimit → exec (.usageBlockCreate h) s =
       .next (s.setUsage h { s.usageOf o with blockEnd := start, next := start, gapDue := false }).settle.notePeaks) ∧
     (start < o.policy.usageLimit → ∀ n t,
       s.joinRec { deviceRec (.usageBlock h start (min (start + s.strand.usageBlock) o.policy.usageLimit)) with owner := ownerOf h } = (n, t) →
       exec (.usageBlockCreate h) s = .next (t.setUsage h { s.usageOf o with pendingEnd := some (min (start + s.strand.usageBlock) o.policy.usageLimit), blockBead := some n, gapDue := false }))) ∧
  (∀ (s : State) h, (∀ o, s.committedObj h = some o → s.usageWanted h = false ∨ (∃ b, (s.usageOf o).blockBead = some b ∧ s.strand.durable < b) ∨
       (s.usageOf o).pendingEnd.isSome = true ∨ s.strandOpen = false) →
     exec (.usageBlockCreate h) s = .next s) ∧
  (∀ (s : State) id (j : Job) (a b c d : State), s.job id = some j → s.mayRelease id j = true →
     a = s.emitOutput j.inst (j.outputAddr + j.streamed) (j.output.drop j.streamed) →
     b = a.emit (.completion j.inst (a.pasid j.inst) (a.cqBase j.inst + 32 * (s.inst j.inst).cqWrite) (a.completionOf j).bytes) →
     c = (if j.noIrq then b else b.msix (b.vector j.inst)) →
     d = (c.modInst j.inst (fun i => { i with cqWrite := ((s.inst j.inst).cqWrite + 1) % c.depth j.inst, phase := if ((s.inst j.inst).cqWrite + 1) % c.depth j.inst = 0 then !i.phase else i.phase })).setJob id none →
     exec (.resultRelease id) s = .next (match j.unit with | some (.sym, n) => d.freeLane n | _ => d)) ∧
  (∀ (s : State) id, (∀ j, s.job id = some j → s.mayRelease id j = false) → exec (.resultRelease id) s = .next s) ∧
  (∀ (s : State) n a out, s.host.bme = true →
     (s.emitOutput n a out).host.out = s.host.out ++ (pieces s.host.maxPayload out.length).map (fun p => .output n (s.pasid n) (a + p.1) ((out.drop p.1).take p.2))) ∧
  (∀ (s : State) a, Answers (.usageBlockCreate a) s (Only [.regs, .host, .insts, .jobs, .locket, .meters, .evr, .strand, .owners, .usage, .store, .ladder, .officers, .engines] s)) ∧
  (∀ (s : State) a, Answers (.resultRelease a) s (Only [.regs, .host, .insts, .jobs, .engines] s))

/-- METER_RING_ENABLE of a ring that is not enabled, with a depth of 4 to 15, sets ENABLE, RUNNING and DEPTH_LOG2,
sets head and tail to zero and changes no other register (the write first wakes the device from NAP); of another
depth, or of an enabled ring, it changes nothing. METER_RING_DISABLE clears ENABLE and RUNNING, carries every
closing record and ends the batch. METER_HEAD_WRITE of a head below the depth that frees only records written
sets the head and offers the SPLIT records again; any other head changes nothing. METER_RECORD_WRITE offers the
SPLIT records and then writes the first closing record where the ring takes it, or carries it. Log entries 43,
72 and 73 name what is the model's choice or reading here. The closing clauses say of each of the 4 commands
named there, for every state and all operands, that it answers a next state and which pieces of State it may
change: every other piece is as it was. -/
def Obligations.MeterRing : Prop :=
  (∀ (s : State) d, s.bit .HST_MTR_CFG_ENABLE = false → 4 ≤ d → d ≤ 15 → Answers (.meterRingEnable d) s (fun t =>
     t.bit .HST_MTR_CFG_ENABLE = true ∧ t.get .HST_MTR_CFG_DEPTH_LOG2 = d ∧ t.bit .HST_MTR_STATUS_RUNNING = true ∧
     t.get .HST_MTR_HEAD_HEAD = 0 ∧ t.get .HST_MTR_TAIL_TAIL = 0 ∧
     OnlyRegs [Fld.HST_MTR_CFG_ENABLE.addr, Fld.HST_MTR_STATUS_RUNNING.addr, Fld.HST_MTR_HEAD_HEAD.addr, Fld.HST_MTR_TAIL_TAIL.addr] (s.wakeNap 1) t)) ∧
  (∀ (s : State) d, (s.bit .HST_MTR_CFG_ENABLE = true ∨ d < 4 ∨ 15 < d) → exec (.meterRingEnable d) s = .next (s.wakeNap 1)) ∧
  (∀ (s : State), exec .meterRingDisable s = .next (s.meters.closing.foldl State.carryMeter
     { ((s.wakeNap 1).putBit .HST_MTR_CFG_ENABLE false).putBit .HST_MTR_STATUS_RUNNING false with meters := { s.meters with closing := [] } }).endBatch) ∧
  (∀ (s : State) v, v < s.meterDepth →
     (v + s.meterDepth - s.get .HST_MTR_HEAD_HEAD) % s.meterDepth ≤
       (s.get .HST_MTR_TAIL_TAIL + s.meterDepth - s.get .HST_MTR_HEAD_HEAD) % s.meterDepth →
     exec (.meterHeadWrite v) s = .next ((s.wakeNap 1).put .HST_MTR_HEAD_HEAD v).offerSplits.endBatch) ∧
  (∀ (s : State) v, (s.meterDepth ≤ v ∨ (s.get .HST_MTR_TAIL_TAIL + s.meterDepth - s.get .HST_MTR_HEAD_HEAD) % s.meterDepth <
       (v + s.meterDepth - s.get .HST_MTR_HEAD_HEAD) % s.meterDepth) →
     exec (.meterHeadWrite v) s = .next (s.wakeNap 1)) ∧
  (∀ (s : State), (s.offerSplits.meters.closing = [] → exec .meterRecordWrite s = .next s.offerSplits.endBatch) ∧
     (∀ m rest, s.offerSplits.meters.closing = m :: rest → exec .meterRecordWrite s =
       .next (if s.offerSplits.meterRoom
         then ({ s.offerSplits with meters := { s.offerSplits.meters with closing := rest } }.writeMeter m).endBatch
         else ({ s.offerSplits with meters := { s.offerSplits.meters with closing := rest } }.carryMeter m).endBatch))) ∧
  (∀ (s : State) m, s.host.bme = true →
     (s.writeMeter m).host.out = s.host.out ++ [.meter (s.meterBase + 256 * s.get .HST_MTR_TAIL_TAIL) (m.bytes s.meters.written)] ∧
     (s.writeMeter m).meters = { s.meters with written := s.meters.written + 1, batch := s.meters.batch + 1 }) ∧
  (∀ (s : State), Answers .meterRecordWrite s (Only [.regs, .host, .insts, .meters] s)) ∧
  (∀ (s : State) a, Answers (.meterRingEnable a) s (Only [.regs, .power] s)) ∧
  (∀ (s : State), Answers .meterRingDisable s (Only [.regs, .host, .insts, .meters, .power] s)) ∧
  (∀ (s : State) a, Answers (.meterHeadWrite a) s (Only [.regs, .host, .insts, .meters, .power] s))

/-- While the main logic runs and no pulse is to decide this tick, TICK_INCREMENT does the first part of the
increment after the length the tick has in its second (100 microseconds less after a late one), marks the
boundary of a second where the grid is not locked and 1,000 ticks have passed since the last, and does the rest;
otherwise it changes nothing. The first part raises the tick counter, and the ticks since the last accepted
edge, by exactly one, in every state, and adds the length of the tick to the powered time; every bucket is
refilled and every job that waits moves on by a tick, counted unless admission is throttled. Every level rises
by its rate to at most 256 times its burst. The 1,000 lengths of a second add up to the period. The closing
clauses say of the command named there, for every state and all operands, that it answers a next state and which
pieces of State it may change: every other piece is as it was. -/
def Obligations.TickIncrement : Prop :=
  (∀ (s : State), s.mainRuns = true → (s.time.ppsLock && decide (s.time.tick - s.time.boundaryTick ≥ 999)) = false →
     exec .tickIncrement s =
       .next ((fun u : State => if !u.time.ppsLock && decide (u.time.tick ≥ u.time.boundaryTick + 1000) then u.boundary false else u)
         (s.tickFirst (s.tickAt (s.time.tick - s.time.boundaryTick + 1) - s.tickAt (s.time.tick - s.time.boundaryTick) -
           (if s.time.late && decide (s.time.tick - s.time.boundaryTick = 0) then 100000 else 0)))).tickLast) ∧
  (∀ (s : State), (s.mainRuns = false ∨ (s.time.ppsLock = true ∧ s.time.tick - s.time.boundaryTick ≥ 999)) → exec .tickIncrement s = .next s) ∧
  (∀ s : State, s.tickAt 0 = 0 ∧ s.tickAt 1000 = s.period) ∧
  (∀ (s : State) ns, (s.tickFirst ns).time = { s.time with tick := s.time.tick + 1, sinceEdge := s.time.sinceEdge + 1, elapsedNs := s.time.elapsedNs + ns }) ∧
  (∀ (s : State) ns, ∃ u : State, s.tickFirst ns = { u with jobs := u.jobs.map (fun (e : Nat × Option Job) => (e.1, e.2.map (fun j => j.waitTick (!u.bit .ALM_STATUS_THROTTLED)))) } ∧
     ∃ v : State, u = ({ v with scheds := v.scheds.map (fun (e : Nat × Sched) => (e.1, e.2.refill)) } : State).throttleTick) ∧
  (∀ c : Sched, ∀ k, k < c.level.length → k < c.rate.length → k < c.burst.length →
     c.refill.level.getD k 0 = min (c.level.getD k 0 + c.rate.getD k 0) (c.burst.getD k 0 * 256) ∧
     c.refill = { c with level := c.refill.level }) ∧
  (∀ (s : State), Answers .tickIncrement s (Kept [.free, .readValue, .restore, .bb, .lcs, .worlds, .pending] s))

/-- Without PPS_LOCK an edge within 100 ppm of a second after the edge before it is one more candidate, any other
the first; the fourth locks the grid. With PPS_LOCK an edge at the 1,000th tick, within 100 microseconds of the
second, ends that tick: it is accepted, begins a second and applies a pending time of day; any other is counted
as rejected, and its spacing counts towards the next. Where none comes by E + 100 microseconds,
PPS_WINDOW_TIMEOUT ends the tick late, counts it as missed and drops a pending time of day. After 2,000 ticks
without an accepted edge HOLDOVER_ENTRY takes PPS_LOCK away and moves ANCHORED to HOLDOVER; after 86,400,000
HOLDOVER_LOSS discards the anchor. In every other case these commands change nothing. Log entries 6, 19 and 91
name what is the model's choice or reading here. The closing clauses say of each of the 4 commands named there,
for every state and all operands, that it answers a next state and which pieces of State it may change: every
other piece is as it was. -/
def Obligations.Pulse : Prop :=
  (∀ (s : State) sp sub, s.mainRuns = true → s.time.ppsLock = false →
     (s.time.candidates ≥ 3 → 999900000 ≤ sp → sp ≤ 1000100000 → exec (.ppsEdge sp sub) s = .next (s.lock sub (sp :: s.time.qual))) ∧
     (s.time.candidates = 1 ∨ s.time.candidates = 2 → 999900000 ≤ sp → sp ≤ 1000100000 → exec (.ppsEdge sp sub) s =
       .next { s with time := { s.time with candidates := s.time.candidates + 1, qual := sp :: s.time.qual } }.showTime) ∧
     (s.time.candidates = 0 ∨ sp < 999900000 ∨ 1000100000 < sp → exec (.ppsEdge sp sub) s =
       .next { s with time := { s.time with candidates := 1, qual := [] } }.showTime)) ∧
  (∀ (s : State) sp sub, s.mainRuns = true → s.time.ppsLock = true →
     ∀ ph : Int, ph = ((s.tickAt (s.time.tick - s.time.boundaryTick) + sub +
       (if s.time.late && decide (s.time.tick - s.time.boundaryTick = 0) then 100000 else 0) : Nat) : Int) - s.period →
     (s.time.tick - s.time.boundaryTick ≥ 999 → ph.natAbs ≤ 100000 → exec (.ppsEdge sp sub) s =
       .next ((((s.tickFirst sub).acceptEdge (s.time.rejectedNs + sp) ph).boundary false).applyTod).tickLast) ∧
     (s.time.tick - s.time.boundaryTick < 999 ∨ ph.natAbs > 100000 → exec (.ppsEdge sp sub) s =
       .next (((s.modTime (fun t => { t with rejectedNs := t.rejectedNs + sp })).count .TIM_PPS_REJECTED_COUNT).event 0x0106 sevInfo ph.natAbs []))) ∧
  (∀ (s : State) sp sub, s.mainRuns = false → exec (.ppsEdge sp sub) s = .next s) ∧
  (∀ (s : State), s.mainRuns = true → s.time.ppsLock = true → s.time.tick ≥ s.time.boundaryTick + 999 →
     exec .ppsWindowTimeout s = .next ((fun u : State => match u.time.pendingTod with
         | some v => (u.modTime (fun t => { t with pendingTod := none })).event 0x010A sevNotice v []
         | none => u)
       ((fun u : State => u.odStore 0x6002 6 (some (le 4 (sat32 (u.odNat 0x6002 6 0)))))
         ((fun u : State => u.event 0x0107 sevInfo u.time.tick [])
           ((fun u : State => (u.modTime (fun t => { t with missed := t.missed + 1 })).dueMinute)
             ((s.tickFirst (s.period - s.tickAt 999 + 100000)).boundary true))))).tickLast) ∧
  (∀ (s : State), (s.mainRuns = false ∨ s.time.ppsLock = false ∨ s.time.tick < s.time.boundaryTick + 999) → exec .ppsWindowTimeout s = .next s) ∧
  (∀ (s : State), (s.time.ppsLock = false ∨ s.time.sinceEdge < 2000 → exec .holdoverEntry s = .next s) ∧
     (s.time.state ≠ .holdover ∨ s.time.sinceEdge < 86400000 → exec .holdoverLoss s = .next s)) ∧
  (∀ (s : State), s.time.ppsLock = true → s.time.sinceEdge ≥ 2000 →
     (s.time.state ≠ .anchored → exec .holdoverEntry s =
       .next { s with time := { s.time with ppsLock := false, candidates := 0, qual := [], pendingTod := none } }.showTime) ∧
     (s.time.state = .anchored → exec .holdoverEntry s =
       .next (({ s with time := { s.time with ppsLock := false, candidates := 0, qual := [], pendingTod := none, window := { s.time.window with holdover := true } } }.setTimeState .holdover).event 0x0102 sevWarning s.time.sinceEdge []).showTime)) ∧
  (∀ (s : State), s.time.state = .holdover → s.time.sinceEdge ≥ 86400000 → exec .holdoverLoss s = .next s.discardAnchor) ∧
  (∀ (s : State), s.time.state ≠ .unanchored → s.time.window.start < s.time.tick → s.discardAnchor =
     ((({ s with time := { s.time with anchor := none, pendingTod := none } }.setTimeState .unanchored).closeMinute s.time.tick).event
       0x0103 sevWarning s.time.sinceEdge []).showTime) ∧
  (∀ (s : State) a b, Answers (.ppsEdge a b) s (Kept [.free, .readValue, .restore, .bb, .lcs, .worlds, .pending] s)) ∧
  (∀ (s : State), Answers .ppsWindowTimeout s (Kept [.free, .readValue, .restore, .bb, .lcs, .worlds, .pending] s)) ∧
  (∀ (s : State), Answers .holdoverEntry s (Only [.regs, .host, .time, .evr, .power] s)) ∧
  (∀ (s : State), Answers .holdoverLoss s (Only [.regs, .host, .meters, .time, .evr, .power] s))

/-- Reading the low half of the tick counter answers its low 32 bits and latches the high half in the register
beside it: the host sees HST_TICK_HI, and the firmware TIM_TICK_HI, the TAI second and the ticks of the second.
A whole hour of powered time counts once in the hours of this boot and of the life. EVENT_ARCHIVE_WRITE puts the
first waiting record at the slot's 512 octets of user NVM; with none waiting, no slot free or the archive not
writable it changes nothing. Log entries 28 and 43 name what is the model's choice or reading here. The closing
clauses say of each of the 4 commands named there, for every state and all operands, that it answers a next
state and which pieces of State it may change: every other piece is as it was. -/
def Obligations.TimeReads : Prop :=
  (∀ (s : State), exec .hstTickLoRead s = .next { s.put .HST_TICK_HI_TICK (s.time.tick / 2 ^ 32) with readValue := s.time.tick % 2 ^ 32 }) ∧
  (∀ (s : State), Answers .timTickLoRead s (fun t => t.readValue = s.time.tick % 2 ^ 32 ∧
     t.get .TIM_TICK_HI_TICK = s.time.tick / 2 ^ 32 % 2 ^ 32 ∧ t.get .TIM_TAI_LO_SEC = s.taiSecond % 2 ^ 32 ∧
     t.get .TIM_SUBSEC_TICK = s.subsec ∧
     OnlyRegs [Fld.TIM_TICK_HI_TICK.addr, Fld.TIM_TAI_LO_SEC.addr, Fld.TIM_TAI_HI_SEC.addr, Fld.TIM_SUBSEC_TICK.addr] { s with readValue := t.readValue } t)) ∧
  (∀ (s : State), s.mainRuns = true → s.elapsed ≥ (s.time.bootHours + 1) * 3600000000000 →
     exec .poweredHourElapsed s = .next { s with time := { s.time with bootHours := s.time.bootHours + 1, hours := s.time.hours + 1 } }) ∧
  (∀ (s : State), (s.mainRuns = false ∨ s.elapsed < (s.time.bootHours + 1) * 3600000000000) → exec .poweredHourElapsed s = .next s) ∧
  (∀ (s : State), (s.archiving = false ∨ s.archWaits = [] ∨ s.archTake = none) → exec .eventArchiveWrite s = .next s) ∧
  (∀ (s : State) r rest k, s.archiving = true → s.archWaits = r :: rest → s.archTake = some k → exec .eventArchiveWrite s =
     .next ((({ s.markArchived r.seq with evr := { (s.markArchived r.seq).evr with archive := mset (fun _ => none) (s.markArchived r.seq).evr.archive k (some r) } }).setBytes (0x4300000 + 512 * k) r.bytes).showArchive)) ∧
  (∀ (s : State), Answers .poweredHourElapsed s (Only [.time] s)) ∧
  (∀ (s : State), ∀ c ∈ [Instr.hstTickLoRead, .timTickLoRead], Answers c s (Only [.regs, .readValue] s)) ∧
  (∀ (s : State), Answers .eventArchiveWrite s (Only [.regs, .mem, .evr] s))

/-- While a clasp is held BEAD_SEAL takes the oldest closed bead from the list, stages it, notes a checkpoint due at
a multiple of 65,536, commits its records in order, answers the writes it holds, and lets the instances and jobs
that waited for it go on; the 64th bead staged ends NAP. Staging makes the bead's number, close tick and hash
the head, puts its octets in the staging area and its hash and clasp in the log; the octets begin with the hash
of the bead before. With no closed bead, without the clasp or zeroised it changes nothing. OVERLAY_RECORD_APPLY
puts the oldest record of the overlay into its object, or takes the object and its entry away. Log entries 49
and 77 name what is the model's choice or reading here. The closing clauses say of each of the 2 commands named
there, for every state and all operands, that it answers a next state and which pieces of State it may change:
every other piece is as it was. -/
def Obligations.BeadSeal : Prop :=
  (∀ (s : State) b rest (u v w : State), s.strand.closed = b :: rest → s.holdsClasp = true → s.zeroised = false →
     u = ((({ s with strand := { s.strand with closed := rest } } : State).useSeal 0 s.svn).stageBead b).noteDue b.num →
     v = (((b.recs.foldl (State.sealRec b.num) u).sealReplies b).resizeCheck).heldEnables →
     w = (if v.strand.staged.length ≥ 64 then v.wakeNap 8 else v) →
     exec .beadSeal s = .next w.settle.flushReplies.settleMailbox.notePeaks.showStrand.showRing) ∧
  (∀ (s : State), (s.strand.closed = [] ∨ s.holdsClasp = false ∨ s.zeroised = true) → exec .beadSeal s = .next s) ∧
  (∀ (s : State) (b : Bead), (s.stageBead b).strand = { s.strand with head := b.num, headTick := b.closeTick, headHash := Config.sha512 (s.beadBytes { b with prevHash := s.strand.headHash }), staged := mset (fun _ => []) s.strand.staged b.num (s.beadBytes { b with prevHash := s.strand.headHash }), log := mset (fun _ => ([], 0)) s.strand.log b.num (Config.sha512 (s.beadBytes { b with prevHash := s.strand.headHash }), b.clasp) } ∧
     s.stageBead b = { s with strand := (s.stageBead b).strand }) ∧
  (∀ (s : State) n, (n % 65536 ≠ 0 → s.noteDue n = s) ∧
     (n % 65536 = 0 → s.strand.ckptRunning = none → s.noteDue n = { s with strand := { s.strand with ckptDue := true } })) ∧
  (∀ (s : State), s.store.overlay = [] → exec .overlayRecordApply s = .next s) ∧
  (∀ (s : State) e rest, s.store.overlay = e :: rest → exec .overlayRecordApply s =
     .next (match e.2.body.applyTo (({ s.restoreFor e.2.body.handle with store := { (s.restoreFor e.2.body.handle).store with overlay := rest } } : State).obj e.2.body.handle) with
       | some o => ({ s.restoreFor e.2.body.handle with store := { (s.restoreFor e.2.body.handle).store with overlay := rest } } : State).setObj e.2.body.handle
           (some (({ s.restoreFor e.2.body.handle with store := { (s.restoreFor e.2.body.handle).store with overlay := rest } } : State).reseal o))
       | none => (({ s.restoreFor e.2.body.handle with store := { (s.restoreFor e.2.body.handle).store with overlay := rest } } : State).setObj e.2.body.handle none).dirRemove e.2.body.handle)) ∧
  (∀ (s : State), Answers .beadSeal s (Kept [.readValue, .share, .time, .restore, .bb, .alarm, .pair, .worlds, .pending] s)) ∧
  (∀ (s : State), Answers .overlayRecordApply s (Only [.regs, .free, .host, .insts, .jobs, .locket, .meters, .evr, .strand, .restore, .owners, .usage, .store, .ladder, .officers, .engines] s))

/-- JOURNAL_EXPORT_ENABLE of a ring not enabled, with a size of 2^26 to 2^31, sets ENABLE, RUNNING and SIZE_LOG2 and
sets both positions to zero; JOURNAL_EXPORT_DISABLE clears ENABLE, RUNNING and RING_FULL and no other register.
JOURNAL_ITEM_WRITE writes the next item, filled to 8 octets, whole from the ring base plus WRITTEN modulo the
size on, past the end of the ring from its base on, in writes of at most the max payload size whose octets in
order are those of the item, where export goes on and the ring has room, and otherwise only shows the ring.
CONSUMED takes a value from its current one to WRITTEN and DURABLE one above its current one up to the newest
bead exported, which also becomes the BBRAM head and, while the clasp is held, starts the lease again; any other
value is discarded. CKPT_REQ requests a checkpoint and changes nothing else, and the manifest of one under way
once written is recorded by CHECKPOINT_COMPLETE. Log entries 9, 35 and 86 name what is the model's choice or
reading here. The closing clauses say of each of the 7 commands named there, for every state and all operands,
that it answers a next state and which pieces of State it may change: every other piece is as it was. -/
def Obligations.JournalRing : Prop :=
  (∀ (s : State) d, s.bit .HST_JNL_CFG_ENABLE = false → 26 ≤ d → d ≤ 31 → ∃ (t : State), exec (.journalExportEnable d) s = .next t.showRing ∧
     t.bit .HST_JNL_CFG_ENABLE = true ∧ t.get .HST_JNL_CFG_SIZE_LOG2 = d ∧ t.bit .HST_JNL_STATUS_RUNNING = true ∧
     t.strand = { s.strand with written := 0, consumed := 0 } ∧
     OnlyRegs [Fld.HST_JNL_CFG_ENABLE.addr, Fld.HST_JNL_STATUS_RUNNING.addr] { s.wakeNap 1 with strand := t.strand } t) ∧
  (∀ (s : State) d, (s.bit .HST_JNL_CFG_ENABLE = true ∨ d < 26 ∨ 31 < d) → exec (.journalExportEnable d) s = .next (s.wakeNap 1)) ∧
  (∀ (s : State), Answers .journalExportDisable s (fun t => t.bit .HST_JNL_CFG_ENABLE = false ∧ t.bit .HST_JNL_STATUS_RUNNING = false ∧
     t.bit .HST_JNL_STATUS_RING_FULL = false ∧ OnlyRegs [Fld.HST_JNL_CFG_ENABLE.addr, Fld.HST_JNL_STATUS_RUNNING.addr] (s.wakeNap 1) t)) ∧
  (∀ (s : State) i, s.nextItem = some i →
     (s.exporting = true → (pad8 i.octets).length ≤ s.ringFree → ∃ t : State,
       exec .journalItemWrite s = .next ((if i.isBead then t else t.useCheckpoint t.svn).itemWritten i).showRing.showStrand ∧
       t.strand = { s.strand with written := s.strand.written + (pad8 i.octets).length } ∧
       t.host.out = s.host.out ++ s.journalWrites (pad8 i.octets) ∧
       t = { s with host := t.host, strand := t.strand }) ∧
     (s.exporting = false ∨ s.ringFree < (pad8 i.octets).length → exec .journalItemWrite s = .next s.showRing)) ∧
  (∀ (s : State) b, (s.journalWrites b = (pieces s.host.maxPayload (b.take (2 ^ s.get .HST_JNL_CFG_SIZE_LOG2 -
         s.strand.written % 2 ^ s.get .HST_JNL_CFG_SIZE_LOG2)).length).map (fun p =>
           .journal (s.get64 .HST_JNL_BASE_LO_ADDR .HST_JNL_BASE_HI_ADDR + s.strand.written % 2 ^ s.get .HST_JNL_CFG_SIZE_LOG2 + p.1)
             (((b.take (2 ^ s.get .HST_JNL_CFG_SIZE_LOG2 - s.strand.written % 2 ^ s.get .HST_JNL_CFG_SIZE_LOG2)).drop p.1).take p.2)) ++
       (pieces s.host.maxPayload (b.drop (2 ^ s.get .HST_JNL_CFG_SIZE_LOG2 -
         s.strand.written % 2 ^ s.get .HST_JNL_CFG_SIZE_LOG2)).length).map (fun p =>
           .journal (s.get64 .HST_JNL_BASE_LO_ADDR .HST_JNL_BASE_HI_ADDR + p.1)
             (((b.drop (2 ^ s.get .HST_JNL_CFG_SIZE_LOG2 - s.strand.written % 2 ^ s.get .HST_JNL_CFG_SIZE_LOG2)).drop p.1).take p.2))) ∧
     (0 < s.host.maxPayload → (s.journalWrites b).flatMap (fun w => match w with | .journal _ d => d | _ => []) = b)) ∧
  (∀ (s : State), s.nextItem = none → exec .journalItemWrite s = .next s) ∧
  (∀ (s : State) v, exec (.journalConsumedWrite v) s = .next (if v < s.strand.consumed || v > s.strand.written
     then (s.wakeNap 1).put .HST_JNL_CONSUMED_HI_BYTES (v / 2 ^ 32)
     else { (s.wakeNap 1).put .HST_JNL_CONSUMED_HI_BYTES (v / 2 ^ 32) with strand := { s.strand with consumed := v } }.showRing)) ∧
  (∀ (s : State) b, s.strand.durable < b → b ≤ s.strand.exported → ∃ (t : State), exec (.journalDurableWrite b) s =
       .next ((t.durableReached b).durableReplies.settle.flushReplies.settleMailbox.notePeaks) ∧
     t.strand = { s.strand with durable := b, leaseTick := if s.holdsClasp then s.time.tick else s.strand.leaseTick } ∧
     t.bb = { s.bb with headBead := b, headHash := (s.beadLog b).1.take 32, headClasp := (s.beadLog b).2 }) ∧
  (∀ (s : State) b, b ≤ s.strand.durable ∨ s.strand.exported < b → ∃ u : State, exec (.journalDurableWrite b) s =
       .next (u.odStore 0x5000 0xC (some (le 4 (sat32 (s.odNat 0x5000 0xC 0))))) ∧
     u = (s.wakeNap 1).put .HST_JNL_DURABLE_HI_BEAD (b / 2 ^ 32)) ∧
  (∀ (s : State), exec .ckptReq s = .next { s with strand := { s.strand with ckptRequested := true } }) ∧
  (∀ (s : State) c, s.strand.ckptRunning = some c → c.segments = [] → c.manifestWritten = true → s.strandOpen = true →
     ∃ n t, s.joinRec (deviceRec (.checkpoint c.boundary (Config.sha512 (s.manifestItem c)))) = (n, t) ∧
       exec .checkpointComplete s = .next { t with strand := { t.strand with ckptRunning := none, segVersions := c.counts.foldl (fun m e => mset (fun _ => (0, 0)) m e.1 (c.boundary, e.2)) t.strand.segVersions } }) ∧
  (∀ (s : State), (∀ c, s.strand.ckptRunning = some c → c.segments ≠ [] ∨ c.manifestWritten = false ∨ s.strandOpen = false) → exec .checkpointComplete s = .next s) ∧
  (∀ (s : State), Answers .journalItemWrite s (Only [.regs, .host, .strand, .ladder, .engines] s)) ∧
  (∀ (s : State) a, ∀ c ∈ [Instr.journalExportEnable a, .journalConsumedWrite a], Answers c s (Only [.regs, .host, .strand, .engines, .power] s)) ∧
  (∀ (s : State), Answers .journalExportDisable s (Only [.regs, .power] s)) ∧
  (∀ (s : State) a, Answers (.journalDurableWrite a) s (Kept [.free, .readValue, .scheds, .share, .time, .restore, .lcs, .rng, .alarm, .pair, .worlds, .pending] s)) ∧
  (∀ (s : State), ∀ c ∈ [Instr.ckptReq, .checkpointComplete], Answers c s (Only [.strand] s))

/-- In CLASP_WAIT on a candidate CLASP_WRITE of a generation above those of the presented strand and of BBRAM grants
the clasp; on a unit that holds an older one it makes the clasp lapse; any other write is discarded, counted,
and changes nothing else (each access first wakes the device from NAP). A grant makes the unit ACTIVE under that
generation and opens the bead 1,048,577 above the presented one, its first record CLASP_START. Once the lease
has run CLASP_LAPSE makes a held clasp lapse: the unit holds none and is NOT_ACTIVE. RESTORE_LOAD_COMPLETE in
LOADING fails on a wrong count or a strand that is not good, refuses one short of the head, and otherwise loads
it and waits for the clasp. Log entry 35 names what is the model's choice or reading here. The closing clauses
say of each of the 3 commands named there, for every state and all operands, that it answers a next state and
which pieces of State it may change: every other piece is as it was. -/
def Obligations.Clasp : Prop :=
  (∀ (s : State) g, s.restore.state = .claspWait → s.strand.role = .candidate →
     (g > s.presentedClasp → g > s.bb.headClasp → ∃ u : State, u = ((s.wakeNap 1).put .HST_JNL_CLASP_GEN g).grantClasp g ∧
       exec (.claspWrite g) s = .next { u with pair := { u.pair with grantTick := some u.time.tick } }) ∧
     (g ≤ s.presentedClasp ∨ g ≤ s.bb.headClasp → exec (.claspWrite g) s =
       .next { s.wakeNap 1 with pair := { s.pair with discards := sat32 s.pair.discards } })) ∧
  (∀ (s u w x v : State) gen, u = (s.restoreSettings.restoreOwners).takeSettings →
     w = State.restoreBindings { u with strand := { u.strand with clasp := some gen, lastClasp := gen, role := .active, leaseTick := u.time.tick, openBead := { Bead.empty (u.restore.presented + 0x100001) with firstOfClasp := true, recs := { deviceRec (.claspStart gen u.restore.presented) with tick := u.time.tick } :: u.strand.queued.map (fun r => { r with tick := u.time.tick }) }, closed := [], queued := [], head := u.restore.presented, headHash := u.restore.presentedHash, serialGap := u.strand.serialGap + 2 ^ 32, usageBlock := u.odNat 0x5000 8 64, restoredBlock := u.odNat 0x5000 8 64, ckptChanged := if u.strand.ckptChanged.contains 4096 then u.strand.ckptChanged else u.strand.ckptChanged ++ [4096] } } →
     x = { w with restore := { w.restore with state := .lazy }, pair := { w.pair with visitBase := w.time.tick, visitRetry := none } } →
     v = (if x.restore.eager then x else x.placeUncovered) →
     s.grantClasp gen = (((if v.settingsGood then v.restoreDone else v.restoreFails).setActive true).refreshDeviceState).showStrand ∧
     v.strand.clasp = some gen ∧ v.strand.role = .active ∧ v.strand.openBead.num = u.restore.presented + 0x100001) ∧
  (∀ (s : State) g, s.restore.state ≠ .claspWait ∨ s.strand.role ≠ .candidate → s.strand.clasp = none →
     exec (.claspWrite g) s = .next { s.wakeNap 1 with pair := { s.pair with discards := sat32 s.pair.discards } }) ∧
  (∀ (s : State) h g, s.restore.state ≠ .claspWait → s.strand.clasp = some h →
     (g > h → exec (.claspWrite g) s = .next ((s.wakeNap 1).put .HST_JNL_CLASP_GEN g).lapseClasp) ∧
     (g ≤ h → exec (.claspWrite g) s = .next { s.wakeNap 1 with pair := { s.pair with discards := sat32 s.pair.discards } })) ∧
  (∀ (s : State), (s.strand.clasp.isSome = true → s.holdsClasp = false → exec .claspLapse s = .next s.lapseClasp) ∧
     (s.strand.clasp = none ∨ s.holdsClasp = true → exec .claspLapse s = .next s) ∧
     (s.holdsClasp = (s.strand.clasp.isSome && decide (s.time.tick < s.strand.leaseTick + s.strand.lease)))) ∧
  (∀ s : State, ∃ u : State, u = (({ ({ s with jobs := s.jobs.map (fun (e : Nat × Option Job) => (e.1, e.2.map s.lapseJob)) } : State) with strand := { s.strand with clasp := none, role := .notActive, ckptRunning := none } } : State)) ∧
     s.lapseClasp = ((((((u.withdrawAll.loseReplies.setActive false).putBit .FLL_STATUS_HB false).wakeNap 2).refreshDeviceState.heldEnables).settle.flushReplies.settleMailbox.notePeaks).showStrand).showRing) ∧
  (∀ (s : State) items, s.restore.state ≠ .loading → exec (.restoreLoadComplete items) s = .next s) ∧
  (∀ (s : State) items, s.restore.state = .loading → items.length = s.odNat 0x5010 3 0 → s.strandGood items = true →
     (s.loadStrand items).restore.state = .failed → exec (.restoreLoadComplete items) s = .next (s.loadStrand items)) ∧
  (∀ (s : State) items, s.restore.state = .loading →
     (items.length ≠ s.odNat 0x5010 3 0 ∨ s.strandGood items = false → exec (.restoreLoadComplete items) s =
       .next ((s.event 0x0402 sevCritical 0 []).setRestore .failed)) ∧
     (items.length = s.odNat 0x5010 3 0 → s.strandGood items = true → (s.loadStrand items).restore.state ≠ .failed →
       (s.loadStrand items).meetsHead items (s.loadStrand items).restore.boundary (s.loadStrand items).restore.presented = true →
       exec (.restoreLoadComplete items) s = .next ((s.loadStrand items).setRestore .claspWait)) ∧
     (items.length = s.odNat 0x5010 3 0 → s.strandGood items = true → (s.loadStrand items).restore.state ≠ .failed →
       (s.loadStrand items).meetsHead items (s.loadStrand items).restore.boundary (s.loadStrand items).restore.presented = false →
       exec (.restoreLoadComplete items) s = .next (((s.loadStrand items).event 0x0401 sevCritical (s.loadStrand items).restore.presented []).setRestore .refused))) ∧
  (∀ (s : State) a, Answers (.claspWrite a) s (Kept [.readValue, .time, .bb, .alarm, .worlds, .pending] s)) ∧
  (∀ (s : State), Answers .claspLapse s (Kept [.free, .readValue, .share, .time, .restore, .bb, .lcs, .rng, .alarm, .pair, .worlds, .pending] s)) ∧
  (∀ (s : State) a, Answers (.restoreLoadComplete a) s (Only [.regs, .free, .host, .insts, .jobs, .locket, .meters, .evr, .strand, .restore, .owners, .usage, .store, .ladder, .officers, .engines] s))

/-- In LAZY a chunk that fails its checks makes the restore fail, and one that passes is restored. The directory
grows in two phases: the new table is cleared, then each bucket in turn is rewritten into its two children, and
the last frees the old table and raises the size by one. PATROL_SCRUB moves to the next line of the installed
memory and counts a corrected error. An uncorrectable error is counted, its address kept and an event recorded;
in the staging regions it damages what is staged there, in the directory the entries of the bucket, in the
object area the object of the line. A commit of the protected ranges takes the shadow copy of all eight and
raises the committed generation; its arrival puts them in force. Outside its state, and outside the installed
memory, each command changes nothing. Log entries 6, 34, 80 and 81 name what is the model's choice or reading
here. The closing clauses say of each of the 7 commands named there, for every state and all operands, that it
answers a next state and which pieces of State it may change: every other piece is as it was. -/
def Obligations.StoreUpkeep : Prop :=
  (∀ (s : State), s.restore.state = .lazy → exec (.lazyChunkRestore false) s = .next s.restoreFails ∧
     (∀ c rest, s.chunksLeft = c :: rest → exec (.lazyChunkRestore true) s = .next (s.restoreItem c)) ∧
     (s.chunksLeft = [] → exec (.lazyChunkRestore true) s = .next s.restoreDone.refreshDeviceState)) ∧
  (∀ (s : State), s.store.phase = .clearing → s.zeroised = false → exec .resizeClearComplete s =
     .next { s with store := { s.store with phase := .migrating, newTable := [], newLinks := [], cursor := 0 } }) ∧
  (∀ (s : State) a b (st : Store), s.store.phase = .migrating → s.zeroised = false →
     splitBucket s.store.k (bucket s.store.table s.store.cursor) = (a, b) →
     st = (s.store.putNew (2 * s.store.cursor) a).putNew (2 * s.store.cursor + 1) b →
     (s.store.cursor + 1 < 2 ^ s.store.k → exec .resizeBucketMigrate s = .next { s with store := { st with cursor := s.store.cursor + 1 } }) ∧
     (s.store.cursor + 1 ≥ 2 ^ s.store.k → exec .resizeBucketMigrate s = .next (State.resizeCheck { s with store := { st with k := s.store.k + 1, table := st.newTable, links := st.newLinks, newTable := [], newLinks := [], phase := .idle, cursor := 0 } }))) ∧
  (∀ (s : State) c, (s.restore.state ≠ .lazy → exec (.lazyChunkRestore c) s = .next s) ∧
     (s.store.phase ≠ .clearing ∨ s.zeroised = true → exec .resizeClearComplete s = .next s) ∧
     (s.store.phase ≠ .migrating ∨ s.zeroised = true → exec .resizeBucketMigrate s = .next s) ∧
     (s.bit .MEM_SCRUB_ENABLE = false → exec (.patrolScrub c) s = .next s) ∧
     (∀ a, a < dramBase ∨ dramBase + s.capacity ≤ a → exec (.eccUncorrectableError a) s = .next s)) ∧
  (∀ (s : State), s.bit .MEM_SCRUB_ENABLE = true →
     exec (.patrolScrub false) s = .next { s with store := { s.store with scrubLine := (s.store.scrubLine + 1) % (s.capacity / 64) } } ∧
     exec (.patrolScrub true) s = .next (({ s with store := { s.store with scrubLine := (s.store.scrubLine + 1) % (s.capacity / 64) } }.putBit
       .MEM_STATUS_CE_SEEN true).count .MEM_ECC_CE_COUNT)) ∧
  (∀ (s : State) a, dramBase ≤ a → a < dramBase + s.capacity →
     ∀ u, u = ({ (s.putBit .MEM_STATUS_UE_SEEN true).count .MEM_ECC_UE_COUNT with store := { s.store with errAddr := a / 64 * 64 } } : State).event
       0x0501 sevCritical (a / 64 * 64) [] →
     (a / 64 * 64 < dramBase + 0x80000000 → exec (.eccUncorrectableError a) s =
       .next (u.damageStaged (decide (dramBase + 0x40000000 ≤ a / 64 * 64)))) ∧
     (dramBase + 0x80000000 ≤ a / 64 * 64 → a / 64 * 64 < dirBase → exec (.eccUncorrectableError a) s = .next u) ∧
     (dirBase ≤ a / 64 * 64 → u.objectBase ≤ a / 64 * 64 →
       (∀ e, u.lineEntry (a / 64 * 64) = some e → exec (.eccUncorrectableError a) s = .next (u.damage e.handle)) ∧
       (u.lineEntry (a / 64 * 64) = none → exec (.eccUncorrectableError a) s = .next u)) ∧
     (dirBase ≤ a / 64 * 64 → a / 64 * 64 < u.objectBase → exec (.eccUncorrectableError a) s = .next (u.damageDirLine (a / 64 * 64)))) ∧
  (∀ (s : State), Answers .protectedRangeCommit s (fun t => t.store = { s.store with ranges := t.store.ranges } ∧ t.store.ranges.length = 8 ∧
     t.get .MEM_PR_GEN_COMMITTED = (s.get .MEM_PR_GEN_COMMITTED + 1) % 2 ^ 16 ∧
     OnlyRegs [Fld.MEM_PR_GEN_COMMITTED.addr] { s with store := t.store } t)) ∧
  (∀ (s : State), Answers .protectedRangeGenActive s (fun t => t.store = { s.store with rangesActive := s.store.ranges } ∧
     t.get .MEM_PR_GEN_ACTIVE = s.get .MEM_PR_GEN_COMMITTED ∧ OnlyRegs [Fld.MEM_PR_GEN_ACTIVE.addr] { s with store := t.store } t)) ∧
  (∀ (s : State) a, Answers (.lazyChunkRestore a) s (Only [.regs, .free, .host, .insts, .jobs, .locket, .meters, .evr, .strand, .restore, .owners, .usage, .store, .ladder, .officers, .engines] s)) ∧
  (∀ (s : State), ∀ c ∈ [Instr.resizeClearComplete, .resizeBucketMigrate], Answers c s (Only [.store] s)) ∧
  (∀ (s : State) a, Answers (.patrolScrub a) s (Only [.regs, .store] s)) ∧
  (∀ (s : State) a, Answers (.eccUncorrectableError a) s (Only [.regs, .free, .evr, .strand, .store] s)) ∧
  (∀ (s : State), ∀ c ∈ [Instr.protectedRangeCommit, .protectedRangeGenActive], Answers c s (Only [.regs, .store] s))

/-- With the operands of the job in entry id present and its plan open, each key-life command plans the work the
manual gives it: KEY_GENERATE makes a key from the draw (and, for RSA, takes the free values of its search),
KEY_IMPORT opens the wrapping, KEY_DERIVE derives the child and caches its parent, KEY_DESTROY and
KEY_SET_POLICY are one record of the strand and KEY_DESCRIBE takes no engine. KEY_EXPORT_WRAPPED wraps the key
encoding of the object. The plan becomes the job's, its place among the ready jobs the next; work with no engine
step has ended at once. A job of another opcode, or not ready, is left as it is. Log entries 18, 62, 76 and 83
name what is the model's choice or reading here. The closing clauses say of each of the 7 commands named there,
for every state and all operands, that it answers a next state and which pieces of State it may change: every
other piece is as it was. -/
def Obligations.KeyLife : Prop :=
  (∀ (s : State) id j, s.job id = some j → j.op = opKeyGenerate → s.readyToPlan j = true →
     exec (.keyGenerate id) s = .next (if j.newType = 0x01
       then (s.planned id j (planKeyGenerate s j)).modJob id (fun x =>
         { x with search := some { found := none, cand := rsaCandidate x.newSize (x.rnd.getD []), round := 1 } })
       else s.planned id j (planKeyGenerate s j))) ∧
  (∀ (s : State) id j, s.job id = some j → j.op = opKeyImport → s.readyToPlan j = true →
     exec (.keyImport id) s = .next ((s.planned id j (planKeyImport s j)))) ∧
  (∀ (s : State) id j, s.job id = some j → j.op = opKeyDerive → s.readyToPlan j = true →
     exec (.keyDerive id) s = .next ((s.planned id j (planKeyDerive s j)).cacheKey j.primary)) ∧
  (∀ (s : State) id j, s.job id = some j → j.op = opKeyDestroy → s.readyToPlan j = true →
     exec (.keyDestroy id) s = .next ((s.planned id j ({ Plan.plain .done [] with recs := [.objectDestroy j.primary] })))) ∧
  (∀ (s : State) id j, s.job id = some j → j.op = opKeySetPolicy → s.readyToPlan j = true →
     exec (.keySetPolicy id) s = .next ((s.planned id j ({ Plan.plain .done [] with recs := [.policySet j.primary j.policy] })))) ∧
  (∀ (s : State) id j, s.job id = some j → j.op = opKeyExport → s.readyToPlan j = true →
     exec (.keyExportWrapped id) s = .next ((s.planned id j (planKeyExport s j)))) ∧
  (∀ (s : State) id j, s.job id = some j → j.op = opKeyDescribe → s.readyToPlan j = true →
     exec (.keyDescribe id) s = .next ((s.planned id j (Plan.plain .done [])))) ∧
  (∀ (s : State) id j p, s.setPlan id j p = { s.setJob id (some { j with plan := some p, steps := p.steps, readySeq := s.locket.nextReady, output := p.output, ended := p.steps.isEmpty, stage := if p.steps.isEmpty then (if j.refused.isEmpty then .held else .denying) else j.stage }) with locket := { s.locket with nextReady := s.locket.nextReady + 1 } }) ∧
  (∀ (s : State) id, ∀ p ∈ [(Instr.keyGenerate id, opKeyGenerate), (.keyImport id, opKeyImport), (.keyDerive id, opKeyDerive), (.keyDestroy id, opKeyDestroy), (.keySetPolicy id, opKeySetPolicy), (.keyExportWrapped id, opKeyExport), (.keyDescribe id, opKeyDescribe)], (∀ j, s.job id = some j → j.op ≠ p.2 ∨ s.readyToPlan j = false) →
     exec p.1 s = .next s) ∧
  (∀ (s : State) a, ∀ c ∈ [Instr.keyGenerate a, .keyImport a, .keyDerive a, .keyDestroy a, .keySetPolicy a, .keyExportWrapped a, .keyDescribe a], Answers c s (Only [.regs, .free, .host, .insts, .jobs, .locket, .meters, .evr, .strand, .owners, .usage, .store, .ladder, .officers, .engines] s))

/-- With the operands of the job present, SIGN, VERIFY, ASYM_DECRYPT, ASYM_ENCRYPT, AGREE, ENCAPS and DECAPS plan
their work on the big-number or the lattice engine: the output at the length the command defines, ENGINE_REJECT
for a public key, padding or share that the checks turn away, and no rejection for DECAPS, whose output is 32
octets whatever the ciphertext. A job of another opcode, or not ready, is left as it is. Log entries 4, 18, 66
and 67 name what is the model's choice or reading here. The closing clauses say of each of the 7 commands named
there, for every state and all operands, that it answers a next state and which pieces of State it may change:
every other piece is as it was. -/
def Obligations.Asymmetric : Prop :=
  (∀ (s : State) id j, s.job id = some j → j.op = opSign → s.readyToPlan j = true →
     exec (.sign id) s = .next ((s.planned id j (planSign s j)))) ∧
  (∀ (s : State) id j, s.job id = some j → j.op = opVerify → s.readyToPlan j = true →
     exec (.verify id) s = .next ((s.planned id j (planVerify s j)))) ∧
  (∀ (s : State) id j, s.job id = some j → j.op = opAsymDecrypt → s.readyToPlan j = true →
     exec (.asymDecrypt id) s = .next ((s.planned id j (Plan.orElse ((if belowModulus j.tz.2 j.enc j.inp then Config.oaepDecrypt (j.inl 57 1) j.tz.2 j.enc j.string j.inp else none).map (fun b => b.take (j.tz.2 / 8 - 2 * digestLen (j.inl 57 1) - 2))) .engineReject [(.big, rsaPrivNs j.tz.2)])))) ∧
  (∀ (s : State) id j, s.job id = some j → j.op = opAsymEncrypt → s.readyToPlan j = true →
     exec (.asymEncrypt id) s = .next ((s.planned id j (if !j.pubOk then Plan.plain .engineReject [(.big, rsaPublicNs j.tz.2 j.pubKey)] else Plan.out (padTo (j.tz.2 / 8) (Config.oaepEncrypt (j.inl 57 1) j.tz.2 j.pubKey (j.rnd.getD []) j.string (j.inp.drop j.keyLen))) [(.big, rsaPublicNs j.tz.2 j.pubKey)])))) ∧
  (∀ (s : State) id j, s.job id = some j → j.op = opAgree → s.readyToPlan j = true →
     exec (.agree id) s = .next ((s.planned id j (Plan.orElse (sharedSecret j.tz.1 j.tz.2 j.enc j.inp) .engineReject [(.big, curveKeyNs j.tz.1 j.tz.2)])))) ∧
  (∀ (s : State) id j, s.job id = some j → j.op = opEncaps → s.readyToPlan j = true →
     exec (.encaps id) s = .next ((s.planned id j (if !j.pubOk then Plan.plain .engineReject [(.lat, mlkemNs j.tz.2 1)] else Plan.out (padTo (kemCipherLen j.tz.2 + 32) (Config.encaps j.tz.2 j.pubKey (j.rnd.getD []))) [(.lat, mlkemNs j.tz.2 1)])))) ∧
  (∀ (s : State) id j, s.job id = some j → j.op = opDecaps → s.readyToPlan j = true →
     exec (.decaps id) s = .next ((s.planned id j (Plan.out (padTo 32 (Config.decaps j.tz.2 j.enc j.inp)) [(.lat, mlkemNs j.tz.2 2)])))) ∧
  (∀ (s : State) id, ∀ p ∈ [(Instr.sign id, opSign), (.verify id, opVerify), (.asymDecrypt id, opAsymDecrypt), (.asymEncrypt id, opAsymEncrypt), (.agree id, opAgree), (.encaps id, opEncaps), (.decaps id, opDecaps)], (∀ j, s.job id = some j → j.op ≠ p.2 ∨ s.readyToPlan j = false) →
     exec p.1 s = .next s) ∧
  (∀ (s : State) (j : Job), (j.pubOk = false → (planVerify s j).status = .engineReject) ∧
     (j.pubOk = true → j.tz.1 = 1 → belowModulus j.tz.2 j.pubKey (slice j.inp j.keyLen (j.inl 64 2)) = false → (planVerify s j).status = .engineReject) ∧
     (j.pubOk = true → (j.tz.1 = 1 → belowModulus j.tz.2 j.pubKey (slice j.inp j.keyLen (j.inl 64 2)) = true) →
       (planVerify s j).status = if sigValid j.sigParams j.pubKey j.string (j.inp.drop (j.keyLen + j.inl 64 2)) (slice j.inp j.keyLen (j.inl 64 2))
         then .done else .tagMismatch)) ∧
  (∀ (s : State) a, ∀ c ∈ [Instr.sign a, .verify a, .asymDecrypt a, .asymEncrypt a, .agree a, .encaps a, .decaps a], Answers c s (Only [.regs, .free, .host, .insts, .jobs, .locket, .meters, .evr, .strand, .owners, .usage, .store, .ladder, .officers, .engines] s))

/-- With the operands of the job present, AEAD_SEAL outputs the nonce where it was drawn, then ciphertext and tag;
AEAD_OPEN the plaintext or, on a failed tag, TAG_MISMATCH with no output; CIPHER as many octets as its input, or
ENGINE_REJECT for an XTS key of equal halves; MAC the leftmost octets of the tag, or the result of comparing
them with the end of its input; WRAP the wrapped octets; UNWRAP those unwrapped, or a new object, or
TAG_MISMATCH. Each is one step on a symmetric lane. A job of another opcode, or not ready, is left as it is. Log
entries 4, 10 and 79 name what is the model's choice or reading here. The closing clauses say of each of the 6
commands named there, for every state and all operands, that it answers a next state and which pieces of State
it may change: every other piece is as it was. -/
def Obligations.Bulk : Prop :=
  (∀ (s : State) id j, s.job id = some j → j.op = opAeadSeal → s.readyToPlan j = true →
     exec (.aeadSeal id) s = .next ((s.planned id j (Plan.out ((if j.inl 59 1 = 1 then j.nonce else []) ++ padTo ((j.inp.drop (j.inl 60 4)).length + j.inl 57 1) (Config.aeadSeal (j.inl 56 1) (j.inl 57 1) j.enc j.nonce (j.inp.take (j.inl 60 4)) (j.inp.drop (j.inl 60 4)))) [(.sym, laneNs (aeadLane (j.inl 56 1)) 0 j.inputLen 0)])))) ∧
  (∀ (s : State) id j, s.job id = some j → j.op = opAeadOpen → s.readyToPlan j = true →
     exec (.aeadOpen id) s = .next ((s.planned id j (Plan.orElse ((Config.aeadOpen (j.inl 56 1) (j.inl 57 1) j.enc j.nonce (j.inp.take (j.inl 60 4)) (j.inp.drop (j.inl 60 4))).map (padTo ((j.inp.drop (j.inl 60 4)).length - j.inl 57 1))) .tagMismatch [(.sym, laneNs (aeadLane (j.inl 56 1)) 0 j.inputLen 0)])))) ∧
  (∀ (s : State) id j, s.job id = some j → j.op = opCipher → s.readyToPlan j = true →
     exec (.cipher id) s = .next ((s.planned id j (if j.inl 56 1 = 3 && j.enc.take 16 == j.enc.drop 16 then Plan.plain .engineReject [(.sym, laneNs (j.inl 56 1) 0 j.inputLen 0)] else Plan.out (padTo j.inputLen (Config.cipher (j.inl 56 1) (j.inl 57 1 == 1) j.enc (slice j.entry 64 16) j.inp)) [(.sym, laneNs (j.inl 56 1) 0 j.inputLen 0)])))) ∧
  (∀ (s : State) id j, s.job id = some j → j.op = opMac → s.readyToPlan j = true →
     exec (.mac id) s = .next ((s.planned id j ((fun (gen : Bool) (tag : Bytes) (steps : List (Engine × Nat)) =>
       if gen then Plan.out tag steps else if tag == j.inp.drop (j.inputLen - j.inl 59 1) then Plan.plain .done steps else Plan.plain .tagMismatch steps)
       (j.inl 58 1 == 0)
       (padTo (j.inl 59 1) (Config.mac (j.inl 56 1) (j.inl 57 1) j.enc (slice j.entry 64 12) (if j.inl 58 1 == 0 then j.inp else j.inp.take (j.inputLen - j.inl 59 1))))
       [(.sym, laneNs (if j.inl 56 1 = 1 then 0x07 else if j.inl 56 1 = 2 then 0x08 else 0x09) (j.inl 57 1) j.inputLen 0)])))) ∧
  (∀ (s : State) id j, s.job id = some j → j.op = opWrap → s.readyToPlan j = true →
     exec (.wrap id) s = .next ((s.planned id j (Plan.out (padTo (if j.inl 56 1 = 1 then j.inputLen + 8 else kwpLen j.inputLen) (Config.wrap (j.inl 56 1) j.enc j.inp)) [(.sym, laneNs (if j.inl 56 1 = 1 then 0x0A else 0x0B) 0 j.inputLen (if j.inl 56 1 = 1 then j.inputLen + 8 else kwpLen j.inputLen))])))) ∧
  (∀ (s : State) id j, s.job id = some j → j.op = opUnwrap → s.readyToPlan j = true →
     ∀ steps, steps = [(Engine.sym, laneNs (if j.inl 56 1 = 1 then 0x0A else 0x0B) 0 j.inputLen j.inputLen)] →
     exec (.unwrap id) s = .next (s.planned id j ((Config.unwrap (j.inl 56 1) j.enc j.inp).elim (Plan.plain .tagMismatch steps) (fun k =>
       if j.unwrapCreates = false then Plan.out (k.take (j.inputLen - 8)) steps
       else (storedOf j.newType j.newSize k).elim (Plan.plain .engineReject steps)
         (fun e => s.createPlan j.newType j.newSize e 0 j.policy false steps))))) ∧
  (∀ (s : State) id, ∀ p ∈ [(Instr.aeadSeal id, opAeadSeal), (.aeadOpen id, opAeadOpen), (.cipher id, opCipher), (.mac id, opMac), (.wrap id, opWrap), (.unwrap id, opUnwrap)], (∀ j, s.job id = some j → j.op ≠ p.2 ∨ s.readyToPlan j = false) →
     exec p.1 s = .next s) ∧
  (∀ (s : State) a, ∀ c ∈ [Instr.aeadSeal a, .aeadOpen a, .cipher a, .mac a, .wrap a, .unwrap a], Answers c s (Only [.regs, .free, .host, .insts, .jobs, .locket, .meters, .evr, .strand, .owners, .usage, .store, .ladder, .officers, .engines] s))

/-- With the operands of the job present, RANDOM outputs OUTPUT_CAP octets of one draw with no engine work; HASH the
digest, at the length asked for where it is extendable, on a lane or the hash core; OWNER_APPROVE verifies the
statement of 64 octets under the key of the approver named; COUNTER_READ takes no engine and, to advance, one
record of the strand; ATTEST_QUOTE takes the time of an RSA-4096 signature. A job of another opcode, or not
ready, is left as it is. Log entries 4 and 18 name what is the model's choice or reading here. The closing
clauses say of each of the 5 commands named there, for every state and all operands, that it answers a next
state and which pieces of State it may change: every other piece is as it was. -/
def Obligations.ServiceCommands : Prop :=
  (∀ (s : State) id j, s.job id = some j → j.op = opRandom → s.readyToPlan j = true →
     exec (.random id) s = .next ((s.planned id j (Plan.out (padTo j.outputCap (j.rnd.getD [])) [])))) ∧
  (∀ (s : State) id j, s.job id = some j → j.op = opHash → s.readyToPlan j = true →
     exec (.hash id) s = .next ((s.planned id j (Plan.out (padTo (if isShake (j.inl 56 1) then j.inl 60 4 else digestLen (j.inl 56 1)) (Config.hash (j.inl 56 1) (if isShake (j.inl 56 1) then j.inl 60 4 else digestLen (j.inl 56 1)) j.inp)) (if isSha2 (j.inl 56 1) then [(.sym, laneNs 0x0C (j.inl 56 1) j.inputLen 0)] else [(.lat, keccakNs (j.inl 56 1) j.inputLen (if isShake (j.inl 56 1) then j.inl 60 4 else digestLen (j.inl 56 1)))]))))) ∧
  (∀ (s : State) id j, s.job id = some j → j.op = opOwnerApprove → s.readyToPlan j = true →
     exec (.ownerApprove id) s = .next ((s.planned id j (planOwnerApprove s j)))) ∧
  (∀ (s : State) id j, s.job id = some j → j.op = opCounterRead → s.readyToPlan j = true →
     exec (.counterRead id) s = .next ((s.planned id j (if j.advances then { Plan.plain .done [] with recs := [.counterAdvance j.primary (j.inl 64 8) 0] } else Plan.plain .done [])))) ∧
  (∀ (s : State) id j, s.job id = some j → j.op = opAttest → s.readyToPlan j = true →
     exec (.attestQuote id) s = .next ((s.planned id j (Plan.plain .done [(.big, rsaPrivNs 4096)])))) ∧
  (∀ (s : State) id, ∀ p ∈ [(Instr.random id, opRandom), (.hash id, opHash), (.ownerApprove id, opOwnerApprove), (.counterRead id, opCounterRead), (.attestQuote id, opAttest)], (∀ j, s.job id = some j → j.op ≠ p.2 ∨ s.readyToPlan j = false) →
     exec p.1 s = .next s) ∧
  (∀ (s : State) a, ∀ c ∈ [Instr.random a, .hash a, .ownerApprove a, .counterRead a, .attestQuote a], Answers c s (Only [.regs, .free, .host, .insts, .jobs, .locket, .meters, .evr, .strand, .owners, .usage, .store, .ladder, .officers, .engines] s))

/-- On a core that is HELD and not BUSY, with every slot the operation reads inside operand memory, its result slots
below the last eight and a length of 64 bits up to the slot, each of the fifteen commands puts its OP and PARAM
into CMD, sets BUSY, and the core runs that operation; nothing else changes. Where one of these does not hold,
the core's error is raised and the operation does not start; a number of no core changes nothing.
BGN_FW_OP_COMPLETE writes the result, or zero where the operation rejects, counts it and shows BUSY 0, DONE 1
and REJECT. On a lattice core that is HELD and not BUSY, with source, auxiliary and destination inside the work
region for the lengths the operation itself defines, MLKEM_ENCAPS, MLDSA_VERIFY, NTT, INTT, PMUL and KECCAK put
OP and PARAM into CMD, set BUSY and run; otherwise the core's error is raised. LAT_FW_OP_COMPLETE writes the
result at DST, or zeros where the operation rejects, counts it and shows BUSY 0, DONE 1 and REJECT. Log entries
18, 66 and 85 name what is the model's choice or reading here. The closing clauses say of each of the 23
commands named there, for every state and all operands, that it answers a next state and which pieces of State
it may change: every other piece is as it was. -/
def Obligations.EngineCommands : Prop :=
  (∀ (s : State) n p c op, (c, op) ∈ [(Instr.modadd n p, 1), (.modsub n p, 2), (.modmul n p, 3), (.modexp n p, 4), (.modexpPub n p, 5), (.modinv n p, 6), (.rsaCrt n p, 7), (.mrRound n p, 8), (.ecSmul n p, 16), (.ecDsmul n p, 17), (.ecAdd n p, 18), (.ecdsaSign n p, 19), (.ecdsaVerify n p, 20), (.edSmul n p, 24), (.xdh n p, 28)] → n < 34 → s.coreOpen .big n = true →
     (bgnReads op (s.get (.BGN_Cn_ARG0_A n)) (s.get (.BGN_Cn_ARG0_B n)) (s.get (.BGN_Cn_ARG1_M n)) (s.get (.BGN_Cn_ARG2_C n))).all
       (· < s.slotCount n) = true → s.resultSlotOk n (s.get (.BGN_Cn_ARG1_D n)) (bgnPair op) = true →
     64 ≤ s.get (.BGN_Cn_LEN_BITS n) → s.get (.BGN_Cn_LEN_BITS n) ≤ s.slotBits n →
     exec c s = .next ((((s.put (.BGN_Cn_CMD_OP n) op).put (.BGN_Cn_CMD_PARAM n) p).putBit (.BGN_Cn_STATUS_BUSY n) true).setCluster .big
       { s.engines.big with running := mset (fun _ => none) s.engines.big.running n (some (op, p)) })) ∧
  (∀ (s : State) n p c op, (c, op) ∈ [(Instr.modadd n p, 1), (.modsub n p, 2), (.modmul n p, 3), (.modexp n p, 4), (.modexpPub n p, 5), (.modinv n p, 6), (.rsaCrt n p, 7), (.mrRound n p, 8), (.ecSmul n p, 16), (.ecDsmul n p, 17), (.ecAdd n p, 18), (.ecdsaSign n p, 19), (.ecdsaVerify n p, 20), (.edSmul n p, 24), (.xdh n p, 28)] → n < 34 → (s.coreOpen .big n = false ∨
       (bgnReads op (s.get (.BGN_Cn_ARG0_A n)) (s.get (.BGN_Cn_ARG0_B n)) (s.get (.BGN_Cn_ARG1_M n)) (s.get (.BGN_Cn_ARG2_C n))).all
         (· < s.slotCount n) = false ∨ s.resultSlotOk n (s.get (.BGN_Cn_ARG1_D n)) (bgnPair op) = false ∨
       s.get (.BGN_Cn_LEN_BITS n) < 64 ∨ s.slotBits n < s.get (.BGN_Cn_LEN_BITS n)) → exec c s = .next (s.coreErr .big n)) ∧
  (∀ (s : State) n p c op, (c, op) ∈ [(Instr.modadd n p, 1), (.modsub n p, 2), (.modmul n p, 3), (.modexp n p, 4), (.modexpPub n p, 5), (.modinv n p, 6), (.rsaCrt n p, 7), (.mrRound n p, 8), (.ecSmul n p, 16), (.ecDsmul n p, 17), (.ecAdd n p, 18), (.ecdsaSign n p, 19), (.ecdsaVerify n p, 20), (.edSmul n p, 24), (.xdh n p, 28)] → 34 ≤ n → exec c s = .next s) ∧
  (∀ (s : State) n, (mget (fun _ => none) s.engines.big.running n = none → exec (.bgnFwOpComplete n) s = .next s) ∧
     (mget (fun _ => none) s.engines.lat.running n = none → exec (.latFwOpComplete n) s = .next s) ∧
     (s.engines.big.stopped.contains n = true → exec (.bgnFwOpComplete n) s = .next s) ∧
     (s.engines.lat.stopped.contains n = true → exec (.latFwOpComplete n) s = .next s)) ∧
  (∀ (s : State) n op p res (u v : State), mget (fun _ => none) s.engines.big.running n = some (op, p) → op ≤ 0xFF → s.engines.big.stopped.contains n = false →
     res = s.bgnResult n op p →
     u = ({ s with free := s.free + 1 } : State).setSlot n (s.get (.BGN_Cn_ARG1_D n)) ((res.getD []).getD 0 0) →
     v = (if bgnPair op then u.setSlot n (s.get (.BGN_Cn_ARG1_D n) + 1) ((res.getD []).getD 1 0) else u) →
     exec (.bgnFwOpComplete n) s = .next ((((((v.setCluster .big { v.engines.big with running := mset (fun _ => none) v.engines.big.running n none, ops := v.engines.big.ops + 1, rejects := v.engines.big.rejects + b2n res.isNone }).putBit
         (.BGN_Cn_STATUS_BUSY n) false).putBit (.BGN_Cn_STATUS_DONE n) true).putBit (.BGN_Cn_STATUS_REJECT n) res.isNone).put (.BGN_Cn_CYCLES_CYCLES n)
         (bgnCycles op p (s.get (.BGN_Cn_LEN_BITS n)) (s.slot n (s.get (.BGN_Cn_ARG0_B n)) % 2 ^ min (s.get (.BGN_Cn_LEN_BITS n)) 64) % 2 ^ 32)).coreIrq .big |>.updateCore .big n)) ∧
  (∀ (s : State) n p a b m (x : Nat → Nat) y, a = s.slot n (s.get (.BGN_Cn_ARG0_A n)) % 2 ^ s.get (.BGN_Cn_LEN_BITS n) →
     b = s.slot n (s.get (.BGN_Cn_ARG0_B n)) % 2 ^ s.get (.BGN_Cn_LEN_BITS n) → m = s.slot n (s.get (.BGN_Cn_ARG1_M n)) % 2 ^ s.get (.BGN_Cn_LEN_BITS n) →
     (∀ i, x i = s.slot n (s.slotCount n - 8 + i)) → y = Config.freeNat s.free →
     s.bgnResult n 0x01 p = (if a < m ∧ b < m then some [(a + b) % m] else none) ∧
     s.bgnResult n 0x02 p = (if a < m ∧ b < m then some [(a + m - b) % m] else none) ∧
     s.bgnResult n 0x03 p = (if m % 2 = 1 ∧ a < m ∧ b < m then some [a * b % m] else none) ∧
     s.bgnResult n 0x04 p = (if m % 2 = 1 ∧ a < m then some [powMod a b m] else none) ∧
     s.bgnResult n 0x05 p = (if m % 2 = 1 ∧ a < m ∧ b % 2 ^ 64 % 2 = 1 ∧ 3 ≤ b % 2 ^ 64 then some [powMod a (b % 2 ^ 64) m] else none) ∧
     s.bgnResult n 0x06 p = (if Nat.gcd a m = 1 then some [modInv a m] else none) ∧
     s.bgnResult n 0x07 p = (if a < m then some [if x 0 * x 1 = 0 then y % 2 ^ s.get (.BGN_Cn_LEN_BITS n) else rsaCrt a (x 0) (x 1) (x 2) (x 3) (x 4)] else none) ∧
     s.bgnResult n 0x08 p = (if 2 ≤ b ∧ b + 2 ≤ a then some [if a % 2 = 1 then b2n (millerRabin a b) else y % 2] else none)) ∧
  (∀ (s : State) n p c op, (c, op) ∈ [(Instr.mlkemEncaps n p, 2), (.mldsaVerify n p, 10), (.ntt n p, 32), (.intt n p, 33), (.pmul n p, 34), (.keccak n p, 48)] → n < 9 → s.coreOpen .lat n = true →
     ∀ z, z = latSizes op p (s.get (.LAT_Cn_SRC_LENGTH n)) (s.get (.LAT_Cn_DST_LENGTH n)) (s.get (.LAT_Cn_AUX_LENGTH n)) →
     s.get (.LAT_Cn_SRC_OFFSET n) + z.1 ≤ latWork → s.get (.LAT_Cn_AUX_OFFSET n) + z.2.1 ≤ latWork →
     s.get (.LAT_Cn_DST_OFFSET n) + z.2.2 ≤ latWork →
     exec c s = .next ((((s.put (.LAT_Cn_CMD_OP n) op).put (.LAT_Cn_CMD_PARAM n) p).putBit (.LAT_Cn_STATUS_BUSY n) true).setCluster .lat
       { s.engines.lat with running := mset (fun _ => none) s.engines.lat.running n (some (op, p)) })) ∧
  (∀ (s : State) n p c op, (c, op) ∈ [(Instr.mlkemEncaps n p, 2), (.mldsaVerify n p, 10), (.ntt n p, 32), (.intt n p, 33), (.pmul n p, 34), (.keccak n p, 48)] → n < 9 →
     ∀ z, z = latSizes op p (s.get (.LAT_Cn_SRC_LENGTH n)) (s.get (.LAT_Cn_DST_LENGTH n)) (s.get (.LAT_Cn_AUX_LENGTH n)) →
     (s.coreOpen .lat n = false ∨ latWork < s.get (.LAT_Cn_SRC_OFFSET n) + z.1 ∨ latWork < s.get (.LAT_Cn_AUX_OFFSET n) + z.2.1 ∨
       latWork < s.get (.LAT_Cn_DST_OFFSET n) + z.2.2) → exec c s = .next (s.coreErr .lat n)) ∧
  (∀ (s : State) n p c op, (c, op) ∈ [(Instr.mlkemEncaps n p, 2), (.mldsaVerify n p, 10), (.ntt n p, 32), (.intt n p, 33), (.pmul n p, 34), (.keccak n p, 48)] → 9 ≤ n → exec c s = .next s) ∧
  (∀ (s : State) n op p, mget (fun _ => none) s.engines.lat.running n = some (op, p) → s.engines.lat.stopped.contains n = false →
     ∀ z, z = latSizes op p (s.get (.LAT_Cn_SRC_LENGTH n)) (s.get (.LAT_Cn_DST_LENGTH n)) (s.get (.LAT_Cn_AUX_LENGTH n)) →
     ∀ r, r = latResult op p z.2.2 (s.latBytes n (s.get (.LAT_Cn_SRC_OFFSET n)) z.1) (s.latBytes n (s.get (.LAT_Cn_AUX_OFFSET n)) z.2.1) →
     ∃ u : State, exec (.latFwOpComplete n) s = .next (((u.put (.LAT_Cn_CYCLES_CYCLES n) (latCycles op p z.1 z.2.2)).coreIrq .lat).updateCore .lat n) ∧
       u = ((((fun v : State => v.setCluster .lat { v.engines.lat with running := mset (fun _ => none) v.engines.lat.running n none, ops := v.engines.lat.ops + 1, rejects := v.engines.lat.rejects + b2n r.isNone })
         (s.setLatBytes n (s.get (.LAT_Cn_DST_OFFSET n)) (r.getD (zeros z.2.2)))).putBit (.LAT_Cn_STATUS_BUSY n) false).putBit
         (.LAT_Cn_STATUS_DONE n) true).putBit (.LAT_Cn_STATUS_REJECT n) r.isNone) ∧
  (∀ (s : State) a b, ∀ c ∈ [Instr.modadd a b, .modsub a b, .modmul a b, .modexp a b, .modexpPub a b, .modinv a b, .rsaCrt a b, .mrRound a b, .ecSmul a b, .ecDsmul a b, .ecAdd a b, .ecdsaSign a b, .ecdsaVerify a b, .edSmul a b, .xdh a b, .mlkemEncaps a b, .mldsaVerify a b, .ntt a b, .intt a b, .pmul a b, .keccak a b], Answers c s (Only [.regs, .engines, .power] s)) ∧
  (∀ (s : State) a, Answers (.bgnFwOpComplete a) s (Only [.regs, .free, .ladder, .engines, .power] s)) ∧
  (∀ (s : State) a, Answers (.latFwOpComplete a) s (Only [.regs, .ladder, .engines, .power] s))

/-- BGN_PROMOTE and LAT_PROMOTE promote a core; BGN_HOLD and LAT_HOLD set or clear the core's bit and BGN_FENCE and
LAT_FENCE set it, in the register that holds it, and the core's state follows. BGN_CORE_CFG_WRITE of 1 to 32
units to a held, idle core sets its slot length and clears the core, and to any other raises its error.
ATTEST_KEY_GEN_START with exactly eight held idle cores, no search under way and the generator running makes
them busy with the search; otherwise it shows FAILED. ATTEST_KEY_GEN_STOP frees them and shows FAILED. Numbers
out of range, and a stop with no search, change nothing. Log entry 47 names what is the model's choice or
reading here. The closing clauses say of each of the 9 commands named there, for every state and all operands,
that it answers a next state and which pieces of State it may change: every other piece is as it was. -/
def Obligations.CoreStates : Prop :=
  (∀ (s : State) n, exec (.bgnPromote n) s = .next (s.promote .big n) ∧ exec (.latPromote n) s = .next (s.promote .lat n)) ∧
  (∀ (s : State) k n (u : State), (n < k.cores → s.coreState k n = csSpare → u = s.moveCore k n csActive →
       s.promote k n = ((u.setCluster k { u.cluster k with promoted := insertBy (fun x => (x, 0)) n (u.cluster k).promoted }).updateCore k n)) ∧
     (k.cores ≤ n ∨ s.coreState k n ≠ csSpare → s.promote k n = s)) ∧
  (∀ (s : State) n on u, (34 ≤ n → exec (.bgnHold n on) s = .next s ∧ exec (.bgnFence n) s = .next s ∧ exec (.bgnCoreCfgWrite n u) s = .next s) ∧
     (9 ≤ n → exec (.latHold n on) s = .next s ∧ exec (.latFence n) s = .next s) ∧
     (u = 0 ∨ 32 < u → exec (.bgnCoreCfgWrite n u) s = .next s) ∧ (s.engines.akey = none → exec .attestKeyGenStop s = .next s)) ∧
  (∀ (s : State) n on, (n < 32 → exec (.bgnHold n on) s = .next ((s.put .BGN_HOLD_LO_HOLD (setNbit (s.get .BGN_HOLD_LO_HOLD) n on)).updateCore .big n)) ∧
     (n = 32 ∨ n = 33 → exec (.bgnHold n on) s = .next ((s.put .BGN_HOLD_HI_HOLD (setNbit (s.get .BGN_HOLD_HI_HOLD) (n - 32) on)).updateCore .big n)) ∧
     (n < 9 → exec (.latHold n on) s = .next ((s.put .LAT_HOLD_HOLD (setNbit (s.get .LAT_HOLD_HOLD) n on)).updateCore .lat n))) ∧
  (∀ (s : State) n, (n < 32 → exec (.bgnFence n) s = .next ((s.put .BGN_FENCE_LO_FENCE (setNbit (s.get .BGN_FENCE_LO_FENCE) n true)).updateCore .big n)) ∧
     (n = 32 ∨ n = 33 → exec (.bgnFence n) s = .next ((s.put .BGN_FENCE_HI_FENCE (setNbit (s.get .BGN_FENCE_HI_FENCE) (n - 32) true)).updateCore .big n)) ∧
     (n < 9 → exec (.latFence n) s = .next ((s.put .LAT_FENCE_FENCE (setNbit (s.get .LAT_FENCE_FENCE) n true)).updateCore .lat n))) ∧
  (∀ (s : State) n u, n < 34 → 1 ≤ u → u ≤ 32 →
     (s.coreOpen .big n = true → exec (.bgnCoreCfgWrite n u) s = .next ((s.put (.BGN_Cn_CFG_SLOT_UNITS n) u).clearCore .big n)) ∧
     (s.coreOpen .big n = false → exec (.bgnCoreCfgWrite n u) s = .next (s.coreErr .big n))) ∧
  (∀ (s : State), (s.akeyCores.length = 8 → s.akeyCores.all (s.coreOpen .big) = true → s.engines.akey = none → s.rngState = 1 →
       exec .attestKeyGenStart s = .next ((({ s with engines := { s.engines with akey := some s.akeyCores } }).akeyBusy s.akeyCores true).putBit
         .BGN_AKEY_STATUS_BUSY true)) ∧
     (s.akeyCores.length ≠ 8 ∨ s.akeyCores.all (s.coreOpen .big) = false ∨ s.engines.akey.isSome = true ∨ s.rngState ≠ 1 →
       exec .attestKeyGenStart s = .next (s.putBit .BGN_AKEY_STATUS_FAILED true))) ∧
  (∀ (s : State) l, s.engines.akey = some l → exec .attestKeyGenStop s =
     .next ((({ s with engines := { s.engines with akey := none } }.akeyBusy l false).putBit .BGN_AKEY_STATUS_BUSY false).putBit .BGN_AKEY_STATUS_FAILED true)) ∧
  (∀ (s : State) a, ∀ c ∈ [Instr.bgnPromote a, .bgnFence a, .latPromote a, .latFence a], Answers c s (Only [.regs, .ladder, .engines] s)) ∧
  (∀ (s : State) a b, ∀ c ∈ [Instr.bgnHold a b, .latHold a b], Answers c s (Only [.regs, .ladder, .engines] s)) ∧
  (∀ (s : State) a b, Answers (.bgnCoreCfgWrite a b) s (Only [.regs, .engines, .power] s)) ∧
  (∀ (s : State), ∀ c ∈ [Instr.attestKeyGenStart, .attestKeyGenStop], Answers c s (Only [.regs, .ladder, .engines] s))

/-- With the link on, HELLO of the partner is counted, its role and serial noted; with no session UP it opens one.
HELLO_RETRY sends HELLO at its due tick. A sealed frame of a session that is UP, its SEQ above the last and its
tag that of its message under the session key, is accepted: it gives the last SEQ and the tick of the last frame
and is counted; a SEQ not above the last is an error, and a wrong tag another. KEEPALIVE, READY and CLASP_ACK
note what they bring, HEAD_REQ is answered HEAD, VISIT_DONE ends the visit out. CONFIRM with the session nonces
brings the session UP, and a candidate asks for the head; with a wrong tag or other nonces it ends in MISMATCH.
KEEPALIVE_SEND_TIMER sends one every 10 ticks, and 100 ticks without a valid frame close the session. RX_SYNC
follows the receiver, and its loss is shown in FLL_ERR. Each changes nothing where its condition does not hold.
Log entries 36 and 68 name what is the model's choice or reading here. The closing clauses say of each of the 15
commands named there, for every state and all operands, that it answers a next state and which pieces of State
it may change: every other piece is as it was. -/
def Obligations.LinkSession : Prop :=
  (∀ (s : State) h, s.linkOn = true → ∀ u, u = ({ s.countRx with pair := { s.pair with partnerRole := h.role, partnerSerial := h.serial } } : State) →
     (s.linkUp = true → exec (.hello h) s = .next u) ∧
     (s.linkUp = false → exec (.hello h) s = .next ({ u with pair := { u.pair with got := some h } } : State).openLink)) ∧
  (∀ (s : State), s.linkUp = false → s.time.tick ≥ s.pair.helloDue → exec .helloRetry s = .next s.sendHello.openLink) ∧
  (∀ (s : State) h, (s.linkOn = false → exec (.hello h) s = .next s) ∧ (s.linkUp = true ∨ s.time.tick < s.pair.helloDue → exec .helloRetry s = .next s) ∧
     (s.linkUp = false ∨ s.time.tick < s.pair.keepaliveDue → exec .keepaliveSendTimer s = .next s) ∧
     (s.linkUp = false ∨ s.time.tick < s.pair.lastRx + 100 → exec .flallaniSessionTimeout s = .next s) ∧
     (∀ f nn, s.linkUp = true ∨ s.linkOn = false ∨ s.agreed = false → exec (.confirm f nn) s = .next s)) ∧
  (∀ (s : State) ty pl f, s.linkUp = true → s.linkOn = true → s.agreed = true →
     (f.seq > s.pair.rxSeq → s.tagOk ty pl f = true → s.upFrame ty pl f = (true,
       ({ s with pair := { s.pair with rxSeq := f.seq, lastRx := s.time.tick } } : State).put .FLL_RX_FRAMES_COUNT (s.get .FLL_RX_FRAMES_COUNT + 1))) ∧
     (f.seq ≤ s.pair.rxSeq → s.upFrame ty pl f = (false, { s.putBit .FLL_ERR_SEQ_ERR true with pair := { s.pair with seqFails := s.pair.seqFails + 1 } })) ∧
     (f.seq > s.pair.rxSeq → s.tagOk ty pl f = false → s.upFrame ty pl f = (false, s.tagFailed))) ∧
  (∀ (s : State) ty pl f, (∀ k, s.sessionKey = some k → s.tagOk ty pl f = ((sealFrame k (frameNonce (1 - s.position) f.seq) ty (1 - s.position) f.seq pl).tag == f.tag)) ∧
     (s.sessionKey = none → s.tagOk ty pl f = false) ∧
     (s.linkUp = false ∨ s.linkOn = false ∨ s.agreed = false → s.upFrame ty pl f = (false, s)) ∧
     (s.tagFailed = if s.pair.tagFails + 1 ≥ 16 then s.noteTag.closeLink lkDown 100
       else { s.noteTag with pair := { s.noteTag.pair with tagFails := s.pair.tagFails + 1 } })) ∧
  (∀ (s : State) f (u : State),
     (∀ r, s.upFrame 0x0A (keepaliveBody r) f = (true, u) → exec (.keepalive f r) s = .next { u with pair := { u.pair with partnerRole := r } }) ∧
     (∀ b g, s.upFrame 0x06 (readyBody b g) f = (true, u) → exec (.ready f b g) s = .next { u with pair := { u.pair with partnerReady := some (b, g) } }) ∧
     (∀ g, s.upFrame 0x08 (claspAckBody g) f = (true, u) → exec (.claspAck f g) s = .next { u with pair := { u.pair with pass := none } }) ∧
     (∀ r, s.upFrame 0x09 (claspNakBody r) f = (true, u) → exec (.claspNak f r) s = .next u) ∧
     (s.upFrame 0x03 [] f = (true, u) →
       exec (.headReq f) s = .next (u.sendSealed 0x04 (headBody u.bb.headBead u.bb.headHash u.bb.headClasp u.visiting))) ∧
     (∀ b, s.upFrame 0x05 (visitDoneBody b) f = (true, u) → u.pair.visitPulse.isSome = true →
       exec (.visitDone f b) s = .next { u with pair := { u.pair with missed := 0, lastVisit := u.time.tick, visitBase := u.time.tick, visitRetry := none, visitPulse := none } }) ∧
     (∀ b, s.upFrame 0x05 (visitDoneBody b) f = (true, u) → u.pair.visitPulse = none → exec (.visitDone f b) s = .next u)) ∧
  (∀ (s : State) f (u : State),
     (∀ r, s.upFrame 0x0A (keepaliveBody r) f = (false, u) → exec (.keepalive f r) s = .next u) ∧
     (∀ b g, s.upFrame 0x06 (readyBody b g) f = (false, u) → exec (.ready f b g) s = .next u) ∧
     (∀ g, s.upFrame 0x08 (claspAckBody g) f = (false, u) → exec (.claspAck f g) s = .next u) ∧
     (∀ r, s.upFrame 0x09 (claspNakBody r) f = (false, u) → exec (.claspNak f r) s = .next u) ∧
     (s.upFrame 0x03 [] f = (false, u) → exec (.headReq f) s = .next u) ∧
     (∀ b, s.upFrame 0x05 (visitDoneBody b) f = (false, u) → exec (.visitDone f b) s = .next u) ∧
     (∀ b k g v, s.upFrame 0x04 (headBody b k g v) f = (false, u) → exec (.head f b k g v) s = .next u) ∧
     (∀ g b k, s.upFrame 0x07 (claspPassBody g b k) f = (false, u) → exec (.claspPass f g b k) s = .next u)) ∧
  (∀ (s : State) f nn, s.linkUp = false → s.linkOn = true → s.agreed = true →
     (f.seq ≤ s.pair.rxSeq → exec (.confirm f nn) s = .next { s.putBit .FLL_ERR_SEQ_ERR true with pair := { s.pair with seqFails := s.pair.seqFails + 1 } }) ∧
     (f.seq > s.pair.rxSeq → s.tagOk 0x02 nn f = false ∨ nn ≠ s.sessionNonces → ∃ u : State, u = (s.putBit .FLL_ERR_TAG_ERR true).count .FLL_TAG_FAILS_COUNT ∧
       exec (.confirm f nn) s = .next ((u.closeLink lkMismatch 1000).event 0x0404 sevWarning ((s.pair.got.map (fun (h : HelloData) => h.serial)).getD 0) [])) ∧
     (∀ u, f.seq > s.pair.rxSeq → s.tagOk 0x02 nn f = true → nn = s.sessionNonces → s.frame 0x02 nn f = (true, u) → ∃ t : State,
       t = ({ u with pair := { u.pair with keepaliveDue := u.time.tick + 10 } } : State).put .FLL_STATUS_LINK lkUp ∧
       exec (.confirm f nn) s = .next (if t.strand.role == .candidate then t.sendSealed 0x03 [] else t))) ∧
  (∀ (s : State), s.linkUp = true → s.time.tick ≥ s.pair.keepaliveDue → exec .keepaliveSendTimer s =
     .next (({ s with pair := { s.pair with keepaliveDue := s.time.tick + 10 } } : State).sendSealed 0x0A (keepaliveBody s.strand.role.code))) ∧
  (∀ (s : State), s.linkUp = true → s.time.tick ≥ s.pair.lastRx + 100 → exec .flallaniSessionTimeout s = .next (s.closeLink lkDown 100)) ∧
  (∀ (s : State), Answers .fllRxSyncAcquired s (fun t => t.bit .FLL_STATUS_RX_SYNC = true ∧ OnlyRegs [Fld.FLL_STATUS_RX_SYNC.addr] s t) ∧
     Answers .fllLostSync s (fun t => t.bit .FLL_STATUS_RX_SYNC = false ∧ t.bit .FLL_ERR_LOST_SYNC = true ∧
       OnlyRegs [Fld.FLL_STATUS_RX_SYNC.addr, Fld.FLL_ERR_LOST_SYNC.addr] s t)) ∧
  (∀ (s : State) a, Answers (.hello a) s (Only [.regs, .ladder, .pair] s)) ∧
  (∀ (s : State) a b, Answers (.confirm a b) s (Only [.regs, .evr, .ladder, .pair] s)) ∧
  (∀ (s : State) a, Answers (.headReq a) s (Only [.regs, .ladder, .pair] s)) ∧
  (∀ (s : State) a b d e f, Answers (.head a b d e f) s (Only [.regs, .evr, .ladder, .agent, .bb, .power, .pair, .mgp] s)) ∧
  (∀ (s : State) a b, ∀ c ∈ [Instr.visitDone a b, .claspAck a b, .claspNak a b, .keepalive a b], Answers c s (Only [.regs, .ladder, .pair] s)) ∧
  (∀ (s : State) a b d, Answers (.ready a b d) s (Only [.regs, .ladder, .pair] s)) ∧
  (∀ (s : State) a b d e, Answers (.claspPass a b d e) s (Kept [.mem, .readValue, .admin, .time, .bb, .alarm, .power, .worlds, .mgp, .pending] s)) ∧
  (∀ (s : State), Answers .keepaliveSendTimer s (Only [.regs, .pair] s)) ∧
  (∀ (s : State), Answers .flallaniSessionTimeout s (Only [.regs, .ladder, .pair] s)) ∧
  (∀ (s : State), Answers .helloRetry s (Only [.regs, .free, .ladder, .rng, .pair] s)) ∧
  (∀ (s : State), ∀ c ∈ [Instr.fllRxSyncAcquired, .fllLostSync], Answers c s (Only [.regs] s))

/-- HEAD in a frame accepted notes the partner's head; a candidate adopts a higher one into BBRAM, and on a visit,
with no restore written and STAY_AWAKE not given, reports and goes back to SLEEP. The visits of R259 are due
while ACTIVE with no session and no visit out, and one not answered in 2,000 ticks is missed, the third
CRITICAL. FLL_WAKE sends one wake pulse. HANDOVER_COMPLETE, the lease not over, once no job is left and the
durable index covers the final bead, gives the clasp up and passes it, and the pass is sent again every 10
ticks. CLASP_PASS in a frame accepted grants generation g + 1 and acknowledges it, or answers with the reason
why not. Each changes nothing where its condition does not hold. Log entries 35, 36 and 70 name what is the
model's choice or reading here. The closing clauses say of each of the 5 commands named there, for every state
and all operands, that it answers a next state and which pieces of State it may change: every other piece is as
it was. -/
def Obligations.HeadsAndTakeover : Prop :=
  (∀ (s : State) f b k g v u, s.upFrame 0x04 (headBody b k g v) f = (true, u) → ∃ w : State, w = { u with pair := { u.pair with partnerHead := some (b, k, g) }, bb := if b > u.bb.headBead && u.strand.role == .candidate then { u.bb with headBead := b, headHash := k, headClasp := g } else u.bb } ∧
     exec (.head f b k g v) s = .next (if v && !w.restoreWritten && !w.pair.stayAwake && w.strand.role == .candidate
       then (w.sendSealed 0x05 (visitDoneBody w.bb.headBead)).beginSleep else w)) ∧
  (∀ (s : State), s.strand.role = .active → s.time.tick ≥ s.pair.visitDue → s.pair.visitPulse = none → s.linkUp = false →
     exec .resyncVisitDue s = .next { s with pair := { s.pair with visitPulse := some s.time.tick, out := s.pair.out ++ [.wakePulse] } }) ∧
  (∀ (s : State) t, s.pair.visitPulse = some t → s.time.tick ≥ t + 2000 → exec .visitTimeout s =
     .next (({ s with pair := { s.pair with missed := sat32 s.pair.missed, visitPulse := none, visitRetry := some (s.time.tick + 60000) } } : State).event 0x0405
       (if sat32 s.pair.missed = 3 then sevCritical else sevWarning) (sat32 s.pair.missed) [])) ∧
  (∀ (s : State), exec .fllWake s = .next { s with pair := { s.pair with out := s.pair.out ++ [.wakePulse] } }) ∧
  (∀ (s : State) f g (u v : State), s.strand.finalBead = some f → s.strand.clasp = some g → s.strand.role = .handingOver → s.zeroised = false →
     s.holdsClasp = true → s.jobs = [] → f ≤ s.strand.durable → f ≤ s.strand.head →
     u = ((({ s with strand := { s.strand with clasp := none, role := .notActive, closed := [], ckptRunning := none } } : State).setActive false).putBit .FLL_STATUS_HB false) →
     v = { u with pair := { u.pair with pass := some (g, f, padTo 64 (s.beadLog f).1) } } →
     exec .handoverComplete s = .next (v.sendPass.refreshDeviceState.showStrand.showRing)) ∧
  (∀ (s : State) p, s.pair.pass = some p → s.time.tick ≥ s.pair.passDue → exec .claspPassResend s =
     .next (({ s with pair := { s.pair with passDue := s.time.tick + 10 } } : State).sendSealed 0x07 (claspPassBody p.1 p.2.1 p.2.2))) ∧
  (∀ (s : State) f g b k (u : State), s.upFrame 0x07 (claspPassBody g b k) f = (true, u) →
     (u.passReason g b k = 0 → exec (.claspPass f g b k) s = .next ((u.grantClasp (g + 1)).sendSealed 0x08 (claspAckBody (g + 1)))) ∧
     (u.passReason g b k ≠ 0 → exec (.claspPass f g b k) s = .next (u.sendSealed 0x09 (claspNakBody (u.passReason g b k))))) ∧
  (∀ (s : State) g b k, (s.strand.role = .active → s.pair.grantTick = some s.time.tick → s.passReason g b k = 4) ∧
     (¬(s.strand.role = .active ∧ s.pair.grantTick = some s.time.tick) → s.passReason g b k =
       if s.restore.state ≠ .claspWait ∨ s.strand.role ≠ .candidate then 1 else if s.restore.presented ≠ b then 2
       else if padTo 64 s.restore.presentedHash ≠ padTo 64 k then 3 else if s.presentedClasp ≠ g then 4 else 0)) ∧
  (∀ (s : State), (s.strand.role ≠ .active ∨ s.time.tick < s.pair.visitDue ∨ s.pair.visitPulse.isSome = true ∨ s.linkUp = true → exec .resyncVisitDue s = .next s) ∧
     ((∀ t, s.pair.visitPulse = some t → s.time.tick < t + 2000) → exec .visitTimeout s = .next s) ∧
     (s.strand.finalBead = none ∨ s.strand.clasp = none ∨ s.strand.role ≠ .handingOver ∨ s.jobs ≠ [] ∨ s.holdsClasp = false ∨ s.zeroised = true →
       exec .handoverComplete s = .next s) ∧
     (∀ f, s.strand.finalBead = some f → s.strand.durable < f ∨ s.strand.head < f → exec .handoverComplete s = .next s) ∧
     (s.pair.pass = none ∨ s.time.tick < s.pair.passDue → exec .claspPassResend s = .next s)) ∧
  (∀ (s : State), Answers .handoverComplete s (Only [.regs, .host, .strand, .engines, .pair] s)) ∧
  (∀ (s : State), Answers .claspPassResend s (Only [.regs, .pair] s)) ∧
  (∀ (s : State), ∀ c ∈ [Instr.fllWake, .resyncVisitDue], Answers c s (Only [.pair] s)) ∧
  (∀ (s : State), Answers .visitTimeout s (Only [.regs, .evr, .pair] s))

/-- With the link on each message of a ceremony is counted. At a receiver that is armed, reachable, without a domain
and programming nothing PAIR_OFFER addressed to it, endorsed and signed begins a ceremony that waits for a card,
and any other ends with the record of type 0x10. At the sender PAIR_REPLY that checks makes the transport key
and sends the secret and the domain sealed under it; PAIR_SECRET with a SEQ above the last that opens begins the
programming of the installation at the receiver, which answers PAIR_DONE when it is complete, and that makes the
sender PAIRED. A message that fails its checks ends the ceremony and is recorded with its type. 300,000 ticks
after DOMAIN_ACCEPT the receiver is no longer armed, and a ceremony without its card ends. A message out of its
place changes nothing but the count. Log entries 26, 36 and 69 name what is the model's choice or reading here.
The closing clauses say of each of the 5 commands named there, for every state and all operands, that it answers
a next state and which pieces of State it may change: every other piece is as it was. -/
def Obligations.PairingCeremony : Prop :=
  (∀ (s : State) m (u : State) r (w : State), s.linkOn = true → u = s.countRx → u.pair.accept.isSome = true → u.reaches = true → u.bb.pairSecret = none →
     u.lcs.programming = none → u.drawBytes 64 = (r, w) →
     (m.receiver = Config.fuseSerial ∧ u.peerEndorsed m.sender m.idKey = true ∧ idVerify m.idKey m.offerBody m.sig = true →
       exec (.pairOffer m) s = .next ({ w with pair := { w.pair with ceremony := some { sender := false, other := m.sender, domain := m.domain, kem := [], ec := genKey 2 384 r, offer := some m, transport := none, officers := m.officers, carded := false } } } : State).idleToPinWait) ∧
     (m.receiver ≠ Config.fuseSerial ∨ u.peerEndorsed m.sender m.idKey = false ∨ idVerify m.idKey m.offerBody m.sig = false →
       exec (.pairOffer m) s = .next (u.pairFail 0x10))) ∧
  (∀ (s : State) (u : State) c (m : PairMessage), s.linkOn = true → u = s.countRx → u.pair.ceremony = some c → c.sender = true → c.transport = none →
     (m.receiver ≠ c.other ∨ u.peerEndorsed m.receiver m.idKey = false ∨ idVerify m.idKey m.replyBody m.sig = false →
       exec (.pairReply m) s = .next (u.pairFail 0x11)) ∧
     (m.receiver = c.other → u.peerEndorsed m.receiver m.idKey = true → idVerify m.idKey m.replyBody m.sig = true →
       (sharedSecret 2 384 c.ec m.point = none ∨ u.bb.pairSecret = none → exec (.pairReply m) s = .next (u.pairFail 0x11)) ∧
       (∀ x secret key, sharedSecret 2 384 c.ec m.point = some x → u.bb.pairSecret = some secret →
         key = transportKey (Config.decaps 1024 c.kem (padTo 1568 m.kem)) x Config.fuseSerial c.other →
         exec (.pairReply m) s = .next (({ u with pair := { u.pair with txSeq := u.pair.txSeq + 1, ceremony := some { c with transport := some key } } } : State).sendLink
           (sealFrame key (zeros 12) 0x12 u.position (u.pair.txSeq + 1) (padTo 32 secret ++ le 8 u.bb.domainId)))))) ∧
  (∀ (s : State) c key n b, s.linkOn = true → s.pair.ceremony = some c → c.sender = false → c.transport = some key →
     (n ≤ s.pair.rxSeq → exec (.pairSecret n b) s = .next { s.putBit .FLL_ERR_SEQ_ERR true with pair := { s.pair with seqFails := s.pair.seqFails + 1 } }) ∧
     (n > s.pair.rxSeq → Config.aeadOpen 1 16 key (zeros 12) (frameHead 0x12 (1 - s.position) false 40 n) b = none →
       exec (.pairSecret n b) s = .next (((s.putBit .FLL_ERR_TAG_ERR true).count .FLL_TAG_FAILS_COUNT).pairFail 0x12)) ∧
     (∀ p u, n > s.pair.rxSeq → Config.aeadOpen 1 16 key (zeros 12) (frameHead 0x12 (1 - s.position) false 40 n) b = some p →
       u = ({ s with pair := { s.pair with rxSeq := n } } : State).countRx →
       (u.installsLeft = 0 ∨ u.bb.pairSecret.isSome = true ∨ u.lcs.programming.isSome = true ∨ fieldLE p 32 8 ≠ c.domain →
         exec (.pairSecret n b) s = .next (u.pairFail 0x12)) ∧
       (u.installsLeft ≠ 0 → u.bb.pairSecret = none → u.lcs.programming = none → fieldLE p 32 8 = c.domain →
         exec (.pairSecret n b) s = .next ({ u with lcs := { u.lcs with programming := some (.install (p.take 32) c.domain [], none) } } : State).showOtp))) ∧
  (∀ (s : State) (u : State) c (m : PairMessage), s.linkOn = true → u = s.countRx → u.pair.ceremony = some c → c.sender = true → c.transport.isSome = true →
     (m.receiver = c.other ∧ m.domain = c.domain ∧ idVerify (slice (u.odBytes 0x1010 4) 24 520) m.doneBody m.sig = true →
       exec (.pairDone m) s = .next { u with pair := { u.pair with ceremony := none }, bb := { u.bb with paired := true } }) ∧
     (m.receiver ≠ c.other ∨ m.domain ≠ c.domain ∨ idVerify (slice (u.odBytes 0x1010 4) 24 520) m.doneBody m.sig = false →
       exec (.pairDone m) s = .next (u.pairFail 0x13))) ∧
  (∀ (s : State) m n b, (s.linkOn = false → exec (.pairOffer m) s = .next s ∧ exec (.pairReply m) s = .next s ∧ exec (.pairDone m) s = .next s ∧ exec (.pairSecret n b) s = .next s) ∧
     (∀ (u : State), s.linkOn = true → u = s.countRx →
       (u.pair.accept = none ∨ u.reaches = false ∨ u.bb.pairSecret.isSome = true ∨ u.lcs.programming.isSome = true → exec (.pairOffer m) s = .next u) ∧
       (u.pair.ceremony = none → exec (.pairReply m) s = .next u ∧ exec (.pairDone m) s = .next u) ∧
       (∀ c, u.pair.ceremony = some c → (c.sender = false ∨ c.transport.isSome = true → exec (.pairReply m) s = .next u) ∧
         (c.sender = false ∨ c.transport = none → exec (.pairDone m) s = .next u)) ∧
       (s.pair.ceremony = none → exec (.pairSecret n b) s = .next s) ∧
       (∀ c, s.pair.ceremony = some c → c.sender = true ∨ c.transport = none → exec (.pairSecret n b) s = .next s))) ∧
  (∀ (s : State) t, (s.pair.accept = some t → s.time.tick ≥ t + 300000 → exec .domainAcceptExpiry s =
     .next { s with pair := { s.pair with accept := none, ceremony := s.pair.ceremony.filter (fun (c : Ceremony) => c.sender || c.carded) } }) ∧
     (s.pair.accept = none → exec .domainAcceptExpiry s = .next s) ∧
     (s.pair.accept = some t → s.time.tick < t + 300000 → exec .domainAcceptExpiry s = .next s)) ∧
  (∀ (s : State), Answers .domainAcceptExpiry s (Only [.pair] s)) ∧
  (∀ (s : State) a, Answers (.pairOffer a) s (Only [.regs, .free, .evr, .officers, .rng, .pair] s)) ∧
  (∀ (s : State) a, Answers (.pairReply a) s (Only [.regs, .evr, .pair] s)) ∧
  (∀ (s : State) a b, Answers (.pairSecret a b) s (Only [.regs, .evr, .lcs, .pair] s)) ∧
  (∀ (s : State) a, Answers (.pairDone a) s (Only [.regs, .evr, .bb, .pair] s))

/-- A world's own code takes a free lane at once, waits behind a lane the pipeline holds, and is refused and counted
in every other case, as is a code that is not the world's; FOREIGN is set where firmware of the other world
holds the lane. The holder's world releases its lane: a running job is stopped with ABORT, BUSY and KEY_LOADED
show 0, the lane is wiped and free. The world of a pending code cancels it; any other release only notes
FOREIGN. LANE_KEY_CLEAR by the holder's world clears the key and KEY_LOADED; by the other world of a lane
firmware holds it only sets FOREIGN. Lanes above 15 do not exist: the commands of a lane change nothing there.
LANE_FW_JOB_START by the holder's world on an idle lane with a key (a hash needs none), the limits of its mode
kept, no HALT and no zeroise, and the clock on, makes the lane run and BUSY; on a running lane it sets ERR, and
one that fails a condition is refused. LANE_FW_JOB_COMPLETE reads the source as a master of the holder's world
and writes the output at DST: DONE, or with a failed tag TAG_FAIL and DONE with no plaintext; a refused access
ends it with ERR. A start by any other world only notes FOREIGN, and a completion where no firmware job runs, or
under HALT, changes nothing. Log entry 40 names what is the model's choice or reading here. The closing clauses
say of each of the 5 commands named there, for every state and all operands, that it answers a next state and
which pieces of State it may change: every other piece is as it was. -/
def Obligations.LaneWork : Prop :=
  (∀ (s : State) n w, n ≤ 15 → s.holder n = hcFree → exec (.laneLockAcquire n (worldCode w) w) s = .next (s.setHolder n (worldCode w))) ∧
  (∀ (s : State) n w, n ≤ 15 → 1 ≤ s.holder n → s.holder n ≤ 0x400 → s.get (.SYM_Ln_LOCK_PENDING n) = 0 →
     exec (.laneLockAcquire n (worldCode w) w) s = .next (s.put (.SYM_Ln_LOCK_PENDING n) (worldCode w))) ∧
  (∀ (s : State) n w c, n ≤ 15 → (c ≠ worldCode w ∨ (s.holder n ≠ hcFree ∧ (s.holder n > 0x400 ∨ s.get (.SYM_Ln_LOCK_PENDING n) ≠ 0))) →
     exec (.laneLockAcquire n c w) s = .next ((if fwHolder (s.holder n) ∧ s.holder n ≠ worldCode w then s.putBit .SYM_ERR_FOREIGN true else s).count .SYM_LOCK_REFUSED_COUNT)) ∧
  (∀ (s : State) n w, n ≤ 15 → s.holder n = worldCode w → exec (.laneLockRelease n w) s =
     .next ((((((if (s.lane n).running then (s.putBit (.SYM_Ln_STATUS_ABORT n) true).laneIrq n else s).putBit (.SYM_Ln_STATUS_BUSY n) false).putBit
       (.SYM_Ln_STATUS_KEY_LOADED n) false).wipeLane n).setHolder n hcFree))) ∧
  (∀ (s : State) n w, n ≤ 15 → s.holder n ≠ worldCode w →
     (s.get (.SYM_Ln_LOCK_PENDING n) = worldCode w → exec (.laneLockRelease n w) s = .next (s.put (.SYM_Ln_LOCK_PENDING n) 0)) ∧
     (s.get (.SYM_Ln_LOCK_PENDING n) ≠ worldCode w → exec (.laneLockRelease n w) s = .next (if fwHolder (s.holder n) ∧ s.holder n ≠ worldCode w then s.putBit .SYM_ERR_FOREIGN true else s))) ∧
  (∀ (s : State) n w, n ≤ 15 → (s.holder n = worldCode w → exec (.laneKeyClear n w) s =
       .next ((s.setLane n { s.lane n with key := [], loaded := false }).putBit (.SYM_Ln_STATUS_KEY_LOADED n) false)) ∧
     (s.holder n ≠ worldCode w → fwHolder (s.holder n) = true → exec (.laneKeyClear n w) s = .next (s.putBit .SYM_ERR_FOREIGN true)) ∧
     (s.holder n ≠ worldCode w → fwHolder (s.holder n) = false → exec (.laneKeyClear n w) s = .next s)) ∧
  (∀ (s : State) n c w, n > 15 → exec (.laneLockAcquire n c w) s = .next s ∧ exec (.laneLockRelease n w) s = .next s ∧ exec (.laneKeyClear n w) s = .next s ∧
     exec (.laneFwJobStart n w) s = .next s ∧ exec (.laneFwJobComplete n) s = .next s) ∧
  (∀ (s : State) n w, n ≤ 15 → s.holder n = worldCode w →
     ((s.lane n).running = true → exec (.laneFwJobStart n w) s = .next ((s.putBit (.SYM_Ln_STATUS_ERR n) true).laneIrq n)) ∧
     (((s.lane n).running = false ∧ (((s.lane n).loaded = false ∧ (s.laneParams n).mode ≠ 0x0C) ∨ s.laneLimits n = false ∨ s.halted = true ∨
         s.zeroised = true ∨ s.gateOn (2 + n / 8) = false)) → exec (.laneFwJobStart n w) s = .next (s.laneErr n)) ∧
     ((s.lane n).running = false → ((s.lane n).loaded = true ∨ (s.laneParams n).mode = 0x0C) → s.laneLimits n = true → s.halted = false →
         s.zeroised = false → s.gateOn (2 + n / 8) = true → exec (.laneFwJobStart n w) s =
       .next ((s.setLane n { s.lane n with running := true }).putBit (.SYM_Ln_STATUS_BUSY n) true))) ∧
  (∀ (s : State) n, (n ≤ 15 → ∀ w, s.holder n ≠ worldCode w → exec (.laneFwJobStart n w) s = .next (if fwHolder (s.holder n) ∧ s.holder n ≠ worldCode w then s.putBit .SYM_ERR_FOREIGN true else s)) ∧
     ((s.lane n).running = false ∨ fwHolder (s.holder n) = false ∨ s.halted = true → exec (.laneFwJobComplete n) s = .next s)) ∧
  (∀ (s : State) n ag src dst len o1 (u : State), n ≤ 15 → (s.lane n).running = true → fwHolder (s.holder n) = true → s.halted = false →
     ag = (if s.holder n = hcSecure then agDeviceS else agDeviceN) → src = s.get64 (.SYM_Ln_SRC_LO_ADDR n) (.SYM_Ln_SRC_HI_ADDR n) →
     dst = s.get64 (.SYM_Ln_DST_LO_ADDR n) (.SYM_Ln_DST_HI_ADDR n) → len = s.get (.SYM_Ln_AAD_LEN_BYTES n) + s.get (.SYM_Ln_LEN_BYTES n) →
     (if len = 0 then (true, s) else s.checkAccess ag akRead src len) = (o1, u) →
     (o1 = false → exec (.laneFwJobComplete n) s = .next (u.laneErr n)) ∧
     (∀ o g (v : State) o2 (x : State), o1 = true →
       fwLaneJob (s.laneParams n) ((s.lane n).key.take (u.get (.SYM_Ln_KEYLEN_BYTES n))) (u.windowBytes (.SYM_Ln_IV_WORD n) 4)
         ((u.windowBytes (.SYM_Ln_TAG_WORD n) 4).take (s.laneParams n).tagLen) ((u.load src len).take (s.get (.SYM_Ln_AAD_LEN_BYTES n)))
         ((u.load src len).drop (s.get (.SYM_Ln_AAD_LEN_BYTES n))) = (o, g) →
       v = u.put (.SYM_Ln_CYCLES_CYCLES n) (laneNs (s.laneParams n).mode (s.laneParams n).hash len (wrappedLen (s.laneParams n).mode (s.laneParams n).dec len)) →
       (if (if g then o else []).isEmpty then (true, v) else v.checkAccess ag akWrite dst (if g then o else []).length) = (o2, x) →
       (o2 = false → exec (.laneFwJobComplete n) s = .next (x.laneErr n)) ∧
       (o2 = true → g = false → exec (.laneFwJobComplete n) s = .next ((((((x.store' dst []).setLane n
           { s.lane n with running := false, buffer := [] }).putBit (.SYM_Ln_STATUS_BUSY n) false).putBit (.SYM_Ln_STATUS_TAG_FAIL n) true).putBit
           (.SYM_Ln_STATUS_DONE n) true).laneIrq n)) ∧
       (o2 = true → g = true → exec (.laneFwJobComplete n) s = .next (((((x.store' dst o).setLane n
           { s.lane n with running := false, buffer := [] }).putBit (.SYM_Ln_STATUS_BUSY n) false).putBit (.SYM_Ln_STATUS_DONE n) true).laneIrq n)))) ∧
  (∀ (s : State) a b d, Answers (.laneLockAcquire a b d) s (Only [.regs] s)) ∧
  (∀ (s : State) a b, ∀ c ∈ [Instr.laneLockRelease a b, .laneFwJobStart a b], Answers c s (Only [.regs, .engines, .power] s)) ∧
  (∀ (s : State) a b, Answers (.laneKeyClear a b) s (Only [.regs, .engines] s)) ∧
  (∀ (s : State) a, Answers (.laneFwJobComplete a) s (Only [.regs, .mem, .evr, .store, .engines, .power] s))

/-- A window of a healthy source releases 1,024 samples into the pool where they fit, and none where they do not. A
failed health test is counted by its kind and quarantines the source, or retires it with an ALARM at the eighth
failure in retests; a passed startup test makes it HEALTHY and releases its four windows; 64 ticks after the
quarantine the source is retested. RNG_TEST_SELECT, where the life cycle lets it be used, sets SEL and SRC and
moves the sources named into TEST, whose instances then go. A raw read of a source in TEST answers the pattern's
word where SEL is 1 or 2 and else 32 free bits, and clears VALID; any other answers zero. A failed test of a
source that is not tested is only counted, and each other command changes nothing where its condition does not
hold. Log entries 13, 87 and 88 name what is the model's choice or reading here. The closing clauses say of each
of the 6 commands named there, for every state and all operands, that it answers a next state and which pieces
of State it may change: every other piece is as it was. -/
def Obligations.EntropySources : Prop :=
  (∀ (s : State) n, n < 4 → (s.source n).st = .healthy → exec (.entropyWindowEnd n) s = .next
     ({ s with rng := { s.rng with pool := if s.rng.pool + 1024 ≤ poolMax then s.rng.pool + 1024 else s.rng.pool } } : State).showRng) ∧
  (∀ (s : State) n r, n < 4 → ((s.source n).st = .startup ∨ (s.source n).st = .healthy ∨ (s.source n).st = .retesting) →
     ∀ u f, u = ({ s.count (if r then .RNG_RCT_COUNT_COUNT else .RNG_APT_COUNT_COUNT) with rng := { s.rng with healthFails := sat32 s.rng.healthFails } } : State) →
     f = (if (s.source n).st = .retesting then (s.source n).fails + 1 else (s.source n).fails) →
     (f ≥ 8 → exec (.healthTestFail n r) s = .next (((u.setSource n { st := .retired, fails := 8, since := s.time.tick }).event 0x0302 sevAlarm n
       [BitVec.ofNat 8 n, BitVec.ofNat 8 (if r then 0 else 1)]).evalRng s.unhealthy false)) ∧
     (f < 8 → exec (.healthTestFail n r) s = .next (((u.setSource n { st := .quarantined, fails := f, since := s.time.tick }).event 0x0301 sevNotice n
       [BitVec.ofNat 8 n, BitVec.ofNat 8 (if r then 0 else 1)]).evalRng s.unhealthy false))) ∧
  (∀ (s : State) n, n < 4 → ((s.source n).st = .startup ∨ (s.source n).st = .retesting) → exec (.startupTestPass n) s =
     .next (((s.setSource n { st := .healthy, fails := 0, since := (s.source n).since }).release 4).evalRng s.unhealthy false)) ∧
  (∀ (s : State) n, n < 4 → (s.source n).st = .quarantined → s.time.tick ≥ (s.source n).since + 64 →
     exec (.quarantineRetry n) s = .next (s.setSource n { s.source n with st := .retesting }).showRng) ∧
  (∀ (s : State) sel src, s.rngTestOpen = true → sel ≤ 3 → src ≤ 15 → ∃ u : State,
     u = ({ (s.put .RNG_TEST_SEL sel).put .RNG_TEST_SRC src with rng := { s.rng with sources := (List.range 4).map (fun n => if sel != 0 && nbit src n then (if (s.source n).st == .retired then s.source n else { s.source n with st := .test }) else if (s.source n).st == .test then { s.source n with st := .startup } else s.source n) } } : State) ∧
     exec (.rngTestSelect sel src) s = .next ((if (u.sourcesWith (· == .test)).isEmpty then u else u.uninstantiate).evalRng s.unhealthy false)) ∧
  (∀ (s : State), (s.rngTestOpen = true → (s.source (s.get .RNG_RAW_SEL_SRC)).st = .test → ∀ u : State, u = { s with free := s.free + 1 } →
       exec .rngRawDataRead s = .next { u.putBit .RNG_RAW_SEL_VALID false with readValue := if s.get .RNG_TEST_SEL = 1 ∨ s.get .RNG_TEST_SEL = 2 then testWord (s.get .RNG_TEST_SEL) (s.get .RNG_TEST_PAT_LO_PAT + 2 ^ 32 * s.get .RNG_TEST_PAT_HI_PAT) (s.get .RNG_RAW_SEL_STAGE) (Config.freeNat s.free) else Config.freeNat s.free % 2 ^ 32 }) ∧
     (s.rngTestOpen = false ∨ (s.source (s.get .RNG_RAW_SEL_SRC)).st ≠ .test → exec .rngRawDataRead s = .next { s with readValue := 0 })) ∧
  (∀ (s : State) n r, (n ≥ 4 ∨ (s.source n).st ≠ .healthy → exec (.entropyWindowEnd n) s = .next s) ∧ (n ≥ 4 → exec (.healthTestFail n r) s = .next s) ∧
     (n < 4 → (s.source n).st ≠ .startup → (s.source n).st ≠ .healthy → (s.source n).st ≠ .retesting → exec (.healthTestFail n r) s =
       .next { s.count (if r then .RNG_RCT_COUNT_COUNT else .RNG_APT_COUNT_COUNT) with rng := { s.rng with healthFails := sat32 s.rng.healthFails } }) ∧
     (n ≥ 4 ∨ ((s.source n).st ≠ .startup ∧ (s.source n).st ≠ .retesting) → exec (.startupTestPass n) s = .next s) ∧
     (n ≥ 4 ∨ (s.source n).st ≠ .quarantined ∨ s.time.tick < (s.source n).since + 64 → exec (.quarantineRetry n) s = .next s) ∧
     (∀ sel src, s.rngTestOpen = false ∨ sel > 3 ∨ src > 15 → exec (.rngTestSelect sel src) s = .next s)) ∧
  (∀ (s : State) a, ∀ c ∈ [Instr.entropyWindowEnd a, .quarantineRetry a], Answers c s (Only [.regs, .rng] s)) ∧
  (∀ (s : State) a b, Answers (.healthTestFail a b) s (Kept [.mem, .readValue, .scheds, .share, .admin, .time, .restore, .owners, .bb, .pair, .pending] s)) ∧
  (∀ (s : State) a, Answers (.startupTestPass a) s (Kept [.mem, .readValue, .scheds, .share, .admin, .time, .restore, .owners, .bb, .pair, .pending] s)) ∧
  (∀ (s : State) a b, Answers (.rngTestSelect a b) s (Kept [.mem, .readValue, .scheds, .share, .admin, .time, .restore, .owners, .bb, .pair, .pending] s)) ∧
  (∀ (s : State), Answers .rngRawDataRead s (Only [.regs, .free, .readValue] s))

/-- DRBG_RESEED of an instance whose reseed is due, with the generator not stopped and 1,024 samples in the pool,
takes them, starts its count of calls again and is counted. DRBG_INSTANCE_STALL stalls an instance of a stopped
generator at 2^20 calls or 64 ticks after its last reseed. PORT_REFILL adds a call of 64 octets to what a port
lacks, and its PR bit is clear. A data read answers the next 4 octets and takes them from the buffer, or zero
with UNDERRUN where fewer are left; a PR request sets PR and discards the buffer. DRBG_GENERATE gives a waiting
job its draw where no refill goes first; a later draw of an RSA search gives its next candidate. Each changes
nothing where its condition does not hold. Log entry 13 names what is the model's choice or reading here. The
closing clauses say of each of the 8 commands named there, for every state and all operands, that it answers a
next state and which pieces of State it may change: every other piece is as it was. -/
def Obligations.RandomBits : Prop :=
  (∀ (s : State) d, d < 4 → (s.drbg d).inst = true → (s.drbg d).due = true → s.rng.stopped = false → s.rng.pool ≥ 1024 →
     ∃ u : State, exec (.drbgReseed d) s = .next u.showRng ∧ u = { s with rng := u.rng } ∧ u.rng = { s.rng with pool := s.rng.pool - 1024, reseeds := s.rng.reseeds + 1, lastTick := s.time.tick, drbgs := s.rng.drbgs.set d { s.drbg d with calls := 0, last := s.time.tick, stalled := false, due := false } }) ∧
  (∀ (s : State) d, d < 4 → (s.drbg d).inst = true → s.rng.stopped = true → (s.drbg d).stalled = false → ((s.drbg d).calls ≥ 2 ^ 20 ∨ s.time.tick ≥ (s.drbg d).last + 64) →
     exec (.drbgInstanceStall d) s = .next (s.setDrbg d { s.drbg d with stalled := true, due := false }).showRng) ∧
  (∀ (s : State) sec l d, s.freeDrbg l = some d → s.portReady sec l = true → ∃ u b, s.generate d 64 (s.bit (portPr sec)) = (b, u) ∧
     exec (.portRefill sec l) s = .next (if sec
       then ({ u.putBit (portPr sec) false with rng := { u.rng with sBuf := (u.rng.sBuf ++ b).take 64 } } : State).showRng
       else ({ u.putBit (portPr sec) false with rng := { u.rng with nsBuf := (u.rng.nsBuf ++ b).take 64 } } : State).showRng)) ∧
  (∀ (s : State), (4 ≤ s.rng.sBuf.length → exec .rngSDataRead s = .next ({ s with readValue := leNat (s.rng.sBuf.take 4), rng := { s.rng with sBuf := s.rng.sBuf.drop 4 } } : State).showRng) ∧
     (s.rng.sBuf.length < 4 → exec .rngSDataRead s = .next { s.putBit .RNG_S_STATUS_UNDERRUN true with readValue := 0 }) ∧
     (4 ≤ s.rng.nsBuf.length → exec .rngNsDataRead s = .next ({ s with readValue := leNat (s.rng.nsBuf.take 4), rng := { s.rng with nsBuf := s.rng.nsBuf.drop 4 } } : State).showRng) ∧
     (s.rng.nsBuf.length < 4 → exec .rngNsDataRead s = .next { s.putBit .RNG_NS_STATUS_UNDERRUN true with readValue := 0 })) ∧
  (∀ (s : State), exec .rngSPrRequest s = .next ({ s.putBit .RNG_S_CTRL_PR true with rng := { s.rng with sBuf := [] } } : State).showRng ∧
     exec .rngNsPrRequest s = .next ({ s.putBit .RNG_NS_CTRL_PR true with rng := { s.rng with nsBuf := [] } } : State).showRng) ∧
  (∀ (s : State) l d id u j, s.freeDrbg l = some d → s.pick .rng = some (id, u) → u.job id = some j → s.portReady true l = false → s.portReady false l = false →
     (j.plan = none → ∀ b t, u.generate d j.drawLen j.predRes = (b, t) → exec (.drbgGenerate l) s = .next (t.setJob id (some { j with rnd := some b, drawTick := s.time.tick, started := j.drawnOnly, busyNs := if j.drawnOnly then drawNs j.drawLen j.predRes else 0 })).showRng) ∧
     (j.plan.isSome = true → ∀ b t, u.generate d (j.newSize / 16) false = (b, t) →
       exec (.drbgGenerate l) s = .next (t.setJob id (some { j with steps := j.steps.drop 1, drawTick := s.time.tick, search := j.search.map (fun x => { x with cand := rsaCandidate j.newSize b }) })).showRng)) ∧
  (∀ (s : State) d l sec, (d ≥ 4 ∨ (s.drbg d).inst = false ∨ (s.drbg d).due = false ∨ s.rng.stopped = true ∨ s.rng.pool < 1024 → exec (.drbgReseed d) s = .next s) ∧
     (d ≥ 4 ∨ (s.drbg d).inst = false ∨ s.rng.stopped = false ∨ (s.drbg d).stalled = true ∨ ((s.drbg d).calls < 2 ^ 20 ∧ s.time.tick < (s.drbg d).last + 64) →
       exec (.drbgInstanceStall d) s = .next s) ∧
     (s.freeDrbg l = none ∨ s.portReady sec l = false → exec (.portRefill sec l) s = .next s) ∧
     (s.freeDrbg l = none ∨ s.pick .rng = none ∨ s.portReady true l = true ∨ s.portReady false l = true → exec (.drbgGenerate l) s = .next s)) ∧
  (∀ (s : State) a, ∀ c ∈ [Instr.drbgReseed a, .drbgInstanceStall a], Answers c s (Only [.regs, .rng] s)) ∧
  (∀ (s : State) a, Answers (.drbgGenerate a) s (Only [.regs, .free, .scheds, .share, .jobs, .rng] s)) ∧
  (∀ (s : State) a b, Answers (.portRefill a b) s (Only [.regs, .free, .rng] s)) ∧
  (∀ (s : State), ∀ c ∈ [Instr.rngSDataRead, .rngNsDataRead], Answers c s (Only [.regs, .readValue, .rng] s)) ∧
  (∀ (s : State), ∀ c ∈ [Instr.rngSPrRequest, .rngNsPrRequest], Answers c s (Only [.regs, .rng] s))

/-- HALLMARK_EXTEND sets HMx to SHA-512(HMx, data), HM0 to HM5 only before the hand-over; otherwise nothing changes.
A firmware storage key request is taken when the lane is held by the secure world and idle and its security
version is within the unit's; else it is refused and counted, and the lane keeps its key. The key reaches the
lane only if the conditions still hold at delivery; a request while BUSY and a delivery with none asked change
nothing. A job that waits for random numbers past CMD_TIMEOUT ends RNG_STALLED, is counted, and every job that
can goes on; another job is untouched. LCS_INIT.WRAP draws a wrap secret into battery-backed memory only where
none is there, random numbers are ready, no zeroise has run and the life cycle is PROVISION or FIELD; the roots,
scramble keys and identity key follow. An attestation key ends by pinning the key in a setting, writing its
public part and signing its endorsement, and clearing BUSY. A step of the migration walk places at most
MIGRATE_RATE records; the walk ends with MIGRATE_DONE when none is left. Each changes nothing where its
condition does not hold. Log entries 51, 61 and 65 name what is the model's choice or reading here. The closing
clauses say of each of the 7 commands named there, for every state and all operands, that it answers a next
state and which pieces of State it may change: every other piece is as it was. -/
def Obligations.FirmwareUnits : Prop :=
  (∀ (s : State) x, x < 8 → (6 ≤ x ∨ s.ladder.hmClosed = false) → exec (.hallmarkExtend x) s =
     .next { s with ladder := { s.ladder with hm := s.ladder.hm.set x (Config.sha512 (s.hm x ++ padTo 64 s.hmData)) } }) ∧
  (∀ (s : State) x, x < 6 → s.ladder.hmClosed = true → exec (.hallmarkExtend x) s = .next s) ∧
  (∀ (s : State) l v x n (u : State), s.bit .KLD_FW_STATUS_BUSY = false →
     u = (((s.putBit .KLD_FW_CTRL_SRC l).put .KLD_FW_CTRL_SVN v).put .KLD_FW_CTRL_INDEX x).put .KLD_FW_CTRL_LANE n →
     (u.holder (n % 16) ≠ hcSecure ∨ (u.lane (n % 16)).running = true ∨ (l = true ∧ u.svn < v % 256) ∨ u.storageKey l (v % 256) (x % 256) = none →
       exec (.fwStorageKeyRequest l v x n) s = .next u.refuseKey) ∧
     (∀ k w, u.holder (n % 16) = hcSecure → (u.lane (n % 16)).running = false → (l = true → v % 256 ≤ u.svn) → u.storageKey l (v % 256) (x % 256) = some k →
       w = (if l then u.useRoot 1 (v % 256) (u.lineageRoot (v % 256)) else u.useRoot 2 0 u.measuredRoot) →
       exec (.fwStorageKeyRequest l v x n) s = .next (({ w with ladder := { w.ladder with fwRequest := some (n % 16, k) } } : State).putBit .KLD_FW_STATUS_BUSY true))) ∧
  (∀ (s : State) l v x n, s.bit .KLD_FW_STATUS_BUSY = true → exec (.fwStorageKeyRequest l v x n) s = .next s) ∧
  (∀ (s : State) n k, s.ladder.fwRequest = some (n, k) → s.holder n = hcSecure → (s.lane n).running = false → exec .fwStorageKeyDone s =
     .next ((({ s with ladder := { s.ladder with fwRequest := none } }.setLane n { s.lane n with key := k, loaded := true }).putBit
       .KLD_FW_STATUS_BUSY false).putBit .KLD_FW_STATUS_DONE true)) ∧
  (∀ (s : State) n k, s.ladder.fwRequest = some (n, k) → (s.holder n ≠ hcSecure ∨ (s.lane n).running = true) →
     ∃ (t : State), exec .fwStorageKeyDone s = .next t ∧ t.get .KLD_REFUSED_COUNT = sat32 (s.get .KLD_REFUSED_COUNT) ∧ t.ladder.fwRequest = none ∧
       t.engines = s.engines) ∧
  (∀ (s : State) x, x ≥ 8 → exec (.hallmarkExtend x) s = .next s) ∧
  (∀ (s : State), s.ladder.fwRequest = none → exec .fwStorageKeyDone s = .next s) ∧
  (∀ (s : State) i (j : Job), s.job i = some j → s.waitsDraw j = true → j.drawTick + s.cmdTimeout j.inst ≤ s.time.tick →
     exec (.cmdTimeoutExpiry i) s = .next (({ s with rng := { s.rng with stalledJobs := sat32 s.rng.stalledJobs } }.setJob i
       (some { j with forced := some (.rngStalled, noDetail), ended := true, steps := [] })).settle.notePeaks)) ∧
  (∀ (s : State) i, s.job i = none → exec (.cmdTimeoutExpiry i) s = .next s) ∧
  (∀ (s : State) i (j : Job), s.job i = some j → (s.waitsDraw j = false ∨ s.time.tick < j.drawTick + s.cmdTimeout j.inst) → exec (.cmdTimeoutExpiry i) s = .next s) ∧
  (∀ (s : State) b (u v : State), s.bb.wrapSecret = none → s.bit .HST_STATUS_RNG_READY = true → s.zeroised = false → (s.lifeCycle = lcProvision ∨ s.lifeCycle = lcField) →
     s.drawBytes 32 = (b, u) → v = { u with bb := { u.bb with wrapSecret := some b } } →
     exec .lcsInitWrap s = .next (((({ v with ladder := { v.ladder with vd := v.deviceSeed.map (fun d => shaChain d (255 - v.svn)) } } : State).fillRoots.showRoots.loadScramble.loadIdentity)).putBit .LCS_INIT_DONE true)) ∧
  (∀ (s : State), s.bb.wrapSecret.isSome = true ∨ s.bit .HST_STATUS_RNG_READY = false ∨ s.zeroised = true ∨ (s.lifeCycle ≠ lcProvision ∧ s.lifeCycle ≠ lcField) →
     exec .lcsInitWrap s = .next s) ∧
  (∀ (s : State), s.engines.akey = none → exec .attestKeyGenComplete s = .next s) ∧
  (∀ (s : State) l r key pub nonce sig (u v w x y : State), s.engines.akey = some l → (({ s with engines := { s.engines with akey := none } } : State).akeyBusy l false).freshBytes 64 = (r, u) →
     key = genKey 1 4096 r → pub = publicEncOf 1 4096 key → v = u.pinRun attestLabel key → w = v.deviceWrite (v.get .BGN_AKEY_DST_ADDR) (pub.take 512) →
     w.drawBytes 16 = (nonce, x) → x.idSign (x.endorsementBody pub nonce) = (sig, y) →
     (sig = none → exec .attestKeyGenComplete s = .next ((y.putBit .BGN_AKEY_STATUS_BUSY false).putBit .BGN_AKEY_STATUS_DONE true)) ∧
     (∀ g, sig = some g → exec .attestKeyGenComplete s = .next ((({ y with lcs := { y.lcs with endorsement := x.endorsementBody pub nonce ++ g }, ladder := { y.ladder with attest := some key } } : State).putBit .BGN_AKEY_STATUS_BUSY false).putBit .BGN_AKEY_STATUS_DONE true))) ∧
  (∀ (s : State), s.store.walking = false ∨ s.strandOpen = false ∨ s.time.tick < s.store.walkTick → exec .migrateWalkStep s = .next s) ∧
  (∀ (s : State) l, s.store.walking = true → s.strandOpen = true → s.store.walkTick ≤ s.time.tick → s.walkAhead.filter s.walkTakes = l →
     (l.length ≤ s.odNat 0xB040 9 4096 → ∃ (u : State), u = l.foldl State.walkPlace s ∧ exec .migrateWalkStep s =
       .next ({ u with store := { u.store with walkTick := u.time.tick + 1, walking := false } }.event 0x0406 sevInfo u.store.migrated [])) ∧
     (s.odNat 0xB040 9 4096 < l.length → ∃ (u : State), u = (l.take (s.odNat 0xB040 9 4096)).foldl State.walkPlace s ∧ exec .migrateWalkStep s =
       .next { u with store := { u.store with walkTick := u.time.tick + 1 } })) ∧
  (∀ (s : State) a, Answers (.cmdTimeoutExpiry a) s (Only [.regs, .host, .insts, .jobs, .locket, .meters, .evr, .strand, .owners, .usage, .store, .ladder, .officers, .engines, .rng] s)) ∧
  (∀ (s : State), Answers .migrateWalkStep s (Only [.regs, .evr, .strand, .store] s)) ∧
  (∀ (s : State), Answers .attestKeyGenComplete s (Only [.regs, .mem, .free, .evr, .store, .ladder, .lcs, .engines, .rng, .power] s)) ∧
  (∀ (s : State) a, Answers (.hallmarkExtend a) s (Only [.ladder] s)) ∧
  (∀ (s : State) a b d e, Answers (.fwStorageKeyRequest a b d e) s (Only [.regs, .ladder] s)) ∧
  (∀ (s : State), Answers .fwStorageKeyDone s (Only [.regs, .ladder, .engines] s)) ∧
  (∀ (s : State), Answers .lcsInitWrap s (Only [.regs, .free, .ladder, .bb, .lcs, .rng] s))

/-- An inserted card powers an empty enabled port, which goes to ACTIVATING; a removal leaves the port EMPTY with
PRES cleared, with error 0x0A unless the session had ended. ATR without T=1 or LRC, no ATR, a status other than
0x9000 and a key of another length end the session by the error the rule names; accepted ones select the
application, ask GET_INFO, and identify the card. PIN wait and signing end with error 9 at their limits, and a
deactivation ends any session. An insertion with the port not empty, not enabled, gated off or after a zeroise
only sets PRES, and each response out of its place changes nothing. A verified PIN sends the statement to sign
and the port signs; a refused PIN, a blocked card and any other status end the session by error 4, 5 and 4. A
signature of 96 octets goes to verification; another ends by error 7, as does one that fails it. One that
verifies does what it was asked for: the approval counts, a ceremony goes on with PAIR_REPLY, or the armed
zeroise runs. A signet past its window expires, a token's with its record, and an armed zeroise is disarmed 600
ticks after it was armed. Log entries 23, 24, 25 and 37 name what is the model's choice or reading here. The
closing clauses say of each of the 14 commands named there, for every state and all operands, that it answers a
next state and which pieces of State it may change: every other piece is as it was. -/
def Obligations.Cards : Prop :=
  (∀ (s : State) p, p ≤ 1 → (s.putBit (presFld p) true).portState p = psEmpty → (s.putBit (presFld p) true).portEnabled p = true →
     (s.putBit (presFld p) true).zeroised = false → (s.putBit (presFld p) true).get (.PWR_GATEb_STATE 5) = 0 →
     exec (.cardInsert p) s = .next ((((s.putBit (presFld p) true).setPort p { CardPort.init with powered := true }).put (.CRD_Pp_STATUS_ERROR p) 0).setPortState
       p psActivating)) ∧
  (∀ (s : State) p, p ≤ 1 → ((s.putBit (presFld p) true).portState p ≠ psEmpty ∨ (s.putBit (presFld p) true).portEnabled p = false ∨
     (s.putBit (presFld p) true).zeroised = true ∨ (s.putBit (presFld p) true).get (.PWR_GATEb_STATE 5) ≠ 0) →
     exec (.cardInsert p) s = .next (s.putBit (presFld p) true)) ∧
  (∀ (s : State) p, p ≤ 1 → s.portState p ≠ psEmpty →
     ((s.portState p = psDone ∨ s.portState p = psError) → exec (.cardRemove p) s =
       .next (((s.putBit (presFld p) false).deactivate p).setPortState p psEmpty)) ∧
     (s.portState p ≠ psDone → s.portState p ≠ psError → exec (.cardRemove p) s =
       .next (((s.putBit (presFld p) false).cardError p 0x0A).setPortState p psEmpty))) ∧
  (∀ (s : State) p, p < 2 → s.portState p = psActivating → (s.port p).sent = [] →
     exec (.atrTimeout p) s = .next (s.cardError p 1) ∧
     (∀ t x, exec (.atrReceived p true true t) s = .next (s.setPort p { s.port p with f := (chooseFd t).1, d := (chooseFd t).2, sent := [0xA4] }) ∧
       (x = false → exec (.atrReceived p x true t) s = .next (s.cardError p 2) ∧ exec (.atrReceived p true x t) s = .next (s.cardError p 2)))) ∧
  (∀ (s : State) p w, p < 2 → s.portState p = psActivating → (s.port p).sent = [0xA4] →
     (w = 0x9000 → exec (.selectResponse p w) s = .next (s.setPort p { s.port p with sent := [0xA4, 0xCA] })) ∧
     (w ≠ 0x9000 → exec (.selectResponse p w) s = .next (s.cardError p 3))) ∧
  (∀ (s : State) p w n k, p < 2 → s.portState p = psActivating → (s.port p).sent = [0xA4, 0xCA] →
     (w = 0x9000 → k.length = 97 → exec (.getInfoResponse p w n k) s =
       .next (((s.put (.CRD_Pp_STATUS_PIN_TRIES p) n).setPort p { s.port p with key := k }).identify p k)) ∧
     ((w ≠ 0x9000 ∨ k.length ≠ 97) → exec (.getInfoResponse p w n k) s = .next (s.cardError p 3))) ∧
  (∀ (s : State) p, p < 2 → (s.portState p = psPinWait → (s.port p).waitTick + s.inForceNat 0x1100 9 60000 ≤ s.time.tick →
       exec (.pinWaitTimeout p) s = .next (s.cardError p 9)) ∧
     (s.portState p = psSigning → (s.port p).pinTick + 10000 ≤ s.time.tick → exec (.signingTimeout p) s = .next (s.cardError p 9)) ∧
     (s.portState p ≠ psEmpty → s.portState p ≠ psError → exec (.cardDeactivate p) s = .next (s.cardDone p))) ∧
  (∀ (s : State) p w m u, p < 2 → s.portState p = psPinWait → (s.port p).verifying = true → s.cardStatement (s.port p).action = (m, u) →
     (w = 0x9000 → exec (.verifyPinResponse p w) s =
       .next ((u.setPort p { u.port p with verifying := false, stmt := m, sent := (u.port p).sent ++ [0x2A] }).setPortState p psSigning)) ∧
     (w / 16 = 0x63C → exec (.verifyPinResponse p w) s = .next ((s.put (.CRD_Pp_STATUS_PIN_TRIES p) (w % 16)).cardError p 4)) ∧
     (w = 0x6983 → exec (.verifyPinResponse p w) s = .next ((s.put (.CRD_Pp_STATUS_PIN_TRIES p) 0).cardError p 5)) ∧
     (w ≠ 0x9000 → w / 16 ≠ 0x63C → w ≠ 0x6983 → exec (.verifyPinResponse p w) s = .next (s.cardError p 4))) ∧
  (∀ (s : State) p w g, p < 2 → s.portState p = psSigning → (s.port p).sig = none →
     (w = 0x9000 → g.length = 96 → exec (.signStatementResponse p w g) s = .next (s.setPort p { s.port p with sig := some g })) ∧
     ((w ≠ 0x9000 ∨ g.length ≠ 96) → exec (.signStatementResponse p w g) s = .next (s.cardError p 7))) ∧
  (∀ (s : State) p g (u : State), p ≤ 1 → s.portState p = psSigning → (s.port p).sig = some g → u = (s.cardVerified p (s.port p) g).finishCreate →
     (Config.verify cardParams (s.port p).key [] (s.port p).stmt g = false → exec (.cardSignatureVerified p) s = .next (s.cardError p 7)) ∧
     (Config.verify cardParams (s.port p).key [] (s.port p).stmt g = true →
       (u.pair.ceremony = none → exec (.cardSignatureVerified p) s = .next u.consumeToken) ∧
       (∀ c, u.pair.ceremony = some c → c.sender = true ∨ c.carded = false ∨ c.transport.isSome = true → exec (.cardSignatureVerified p) s = .next u.consumeToken) ∧
       (∀ c, u.pair.ceremony = some c → c.sender = false → c.carded = true → c.transport = none → exec (.cardSignatureVerified p) s = .next u.pairReply.consumeToken))) ∧
  (∀ (s : State) p w n k g a b c, (p > 1 → exec (.cardInsert p) s = .next s ∧ exec (.cardRemove p) s = .next s) ∧
     (p ≤ 1 → s.portState p = psEmpty → exec (.cardRemove p) s = .next (s.putBit (presFld p) false)) ∧
     (p > 1 ∨ s.portState p ≠ psActivating ∨ (s.port p).sent ≠ [] → exec (.atrTimeout p) s = .next s ∧ exec (.atrReceived p a b c) s = .next s) ∧
     (p > 1 ∨ s.portState p ≠ psActivating ∨ (s.port p).sent ≠ [0xA4] → exec (.selectResponse p w) s = .next s) ∧
     (p > 1 ∨ s.portState p ≠ psActivating ∨ (s.port p).sent ≠ [0xA4, 0xCA] → exec (.getInfoResponse p w n k) s = .next s) ∧
     (p > 1 ∨ s.portState p ≠ psPinWait ∨ s.time.tick < (s.port p).waitTick + s.inForceNat 0x1100 9 60000 → exec (.pinWaitTimeout p) s = .next s) ∧
     (p > 1 ∨ s.portState p ≠ psSigning ∨ s.time.tick < (s.port p).pinTick + 10000 → exec (.signingTimeout p) s = .next s) ∧
     (p > 1 ∨ s.portState p = psEmpty ∨ s.portState p = psError → exec (.cardDeactivate p) s = .next s) ∧
     (p > 1 ∨ s.portState p ≠ psPinWait ∨ (s.port p).verifying = false → exec (.verifyPinResponse p w) s = .next s) ∧
     (p > 1 ∨ s.portState p ≠ psSigning ∨ (s.port p).sig ≠ none → exec (.signStatementResponse p w g) s = .next s) ∧
     (p > 1 ∨ s.portState p ≠ psSigning ∨ (s.port p).sig = none → exec (.cardSignatureVerified p) s = .next s) ∧
     (s.time.tick < s.officers.signet.endTick → exec .signetWindowEnd s = .next s) ∧
     (s.officers.zeroiseArm = none → exec .zeroiseArmExpiry s = .next s)) ∧
  (∀ (s : State), (s.officers.signet.endTick ≤ s.time.tick → s.officers.signet.live = true → s.officers.signet.action ≠ 2 → exec .signetWindowEnd s =
       .next ((s.setSignet { s.officers.signet with state := .expired }).signetEvent 0x0604 sevWarning)) ∧
     (s.officers.signet.endTick ≤ s.time.tick → s.officers.signet.live = true → s.officers.signet.action = 2 → exec .signetWindowEnd s =
       .next (((s.setSignet { s.officers.signet with state := .expired }).signetEvent 0x0604 sevWarning).tokenRecorded 4)) ∧
     (s.officers.signet.live = false → exec .signetWindowEnd s = .next s)) ∧
  (∀ (s : State) n, s.officers.zeroiseArm = some n →
     (n + 600 ≤ s.time.tick → exec .zeroiseArmExpiry s = .next { s with officers := { s.officers with zeroiseArm := none } }) ∧
     (s.time.tick < n + 600 → exec .zeroiseArmExpiry s = .next s)) ∧
  (∀ (s : State) a, ∀ c ∈ [Instr.cardInsert a, .cardDeactivate a], Answers c s (Only [.regs, .officers] s)) ∧
  (∀ (s : State) a, ∀ c ∈ [Instr.cardRemove a, .atrTimeout a, .pinWaitTimeout a, .signingTimeout a], Answers c s (Only [.regs, .evr, .officers] s)) ∧
  (∀ (s : State) a b d e, Answers (.atrReceived a b d e) s (Only [.regs, .evr, .officers] s)) ∧
  (∀ (s : State) a b, Answers (.selectResponse a b) s (Only [.regs, .evr, .officers] s)) ∧
  (∀ (s : State) a b d e, Answers (.getInfoResponse a b d e) s (Only [.regs, .evr, .officers] s)) ∧
  (∀ (s : State) a b, Answers (.verifyPinResponse a b) s (Only [.regs, .free, .evr, .officers, .rng] s)) ∧
  (∀ (s : State) a b d, Answers (.signStatementResponse a b d) s (Only [.regs, .evr, .officers] s)) ∧
  (∀ (s : State) a, Answers (.cardSignatureVerified a) s (Kept [.mem, .readValue, .scheds, .share, .admin, .time, .restore, .owners, .bb, .pending] s)) ∧
  (∀ (s : State), Answers .signetWindowEnd s (Only [.regs, .free, .evr, .officers, .lcs, .rng] s)) ∧
  (∀ (s : State), Answers .zeroiseArmExpiry s (Only [.officers] s))

/-- A commit while an older generation remains is ignored and counted; otherwise the generation goes up by one
modulo 65,536, the shadow becomes the active table, and the old generation ends later. SERVICE is decided by the
first permitted write of the mode until main reset. An access in no region is refused as NOREGION; in SERVICE
one that leaves its facet as STRADDLE; else one that the facet word does not permit as DENY. The first fault is
kept, a later one sets OVERFLOW and leaves its address. Log entry 34 names what is the model's choice or reading
here. The closing clauses say of each of the 5 commands named there, for every state and all operands, that it
answers a next state and which pieces of State it may change: every other piece is as it was. -/
def Obligations.Bezel : Prop :=
  (∀ (s : State), s.get .BZL_GEN_ACTIVE_GEN ≠ s.get .BZL_GEN_COMMITTED_GEN → exec .bezelCommit s = .next (s.count .BZL_LOCK_REFUSED_COUNT)) ∧
  (∀ (s : State) u, s.get .BZL_GEN_ACTIVE_GEN = s.get .BZL_GEN_COMMITTED_GEN →
     u = s.put .BZL_GEN_COMMITTED_GEN ((s.get .BZL_GEN_COMMITTED_GEN + 1) % 65536) →
     exec .bezelCommit s = .next ({ u with worlds := { s.worlds with bzl := u.regSpan 0x10001000 0x10005000 } }.putBit .BZL_STATUS_DRAINING true) ∧
     u.get .BZL_GEN_COMMITTED_GEN = (s.get .BZL_GEN_COMMITTED_GEN + 1) % 65536) ∧
  (∀ (s : State), exec .bezelGenActive s = .next ((s.put .BZL_GEN_ACTIVE_GEN (s.get .BZL_GEN_COMMITTED_GEN)).putBit .BZL_STATUS_DRAINING false) ∧
     exec .worldGenActive s = .next (s.put .WLD_GEN_ACTIVE_GEN (s.get .WLD_GEN_COMMITTED_GEN))) ∧
  (∀ (s : State) b, (s.modeOpen = true → exec (.bezelModeWrite b) s =
       .next (({ s with worlds := { s.worlds with modeWritten := true } }.putBit .BZL_MODE_SERVICE b).putBit .BZL_STATUS_MODE b)) ∧
     (s.worlds.modeWritten = true ∨ s.lifeCycle = lcBlank ∨ s.lifeCycle = lcAnalysis ∨ (s.bit .LCS_BOOT_RECOVERY = true ∧ s.deviceState = dsRecovery) →
       exec (.bezelModeWrite b) s = .next s)) ∧
  (∀ (s : State) u, (s.get .WLD_GEN_ACTIVE_GEN ≠ s.get .WLD_GEN_COMMITTED_GEN → exec .worldCommit s = .next (s.count .BZL_LOCK_REFUSED_COUNT)) ∧
     (s.get .WLD_GEN_ACTIVE_GEN = s.get .WLD_GEN_COMMITTED_GEN → u = s.put .WLD_GEN_COMMITTED_GEN ((s.get .WLD_GEN_COMMITTED_GEN + 1) % 65536) →
       exec .worldCommit s = .next { u with worlds := { s.worlds with wld := u.regSpan 0x10100100 0x10100300 } })) ∧
  (∀ (s : State) g k a n, (s.regionOf a = none → s.bezelCheck g k a n = some (3, 0, 0)) ∧
     (∀ r f, s.regionOf a = some (r, f) →
       (s.service = true → s.regionOf (a + n - 1) ≠ some (r, f) → s.bezelCheck g k a n = some (2, r, f)) ∧
       ((s.service = false ∨ s.regionOf (a + n - 1) = some (r, f)) →
         s.bezelCheck g k a n = if facetPermits (s.facetWord r f) g k then none else some (1, r, f)))) ∧
  (∀ (s : State) g k a n x r f u, s.bit .BZL_FAULT_INFO_VALID = true →
     u = ((s.count .BZL_FAULTS_COUNT).putBit .BZL_FAULT_INFO_OVERFLOW true).event 0x0701 sevWarning a
       (((s.count .BZL_FAULTS_COUNT).putBit .BZL_FAULT_INFO_OVERFLOW true).faultDetail [0x10000020, 0x10000024, 0x10000028, 0x1000002C]) →
     s.bezelFault g k a n x r f = if u.bit .BZL_CTRL_IRQ_EN then u.raiseIrq 2 else u) ∧
  (∀ (s : State) g k a n x r f (u v w : State), s.bit .BZL_FAULT_INFO_VALID = false →
     u = ((((s.count .BZL_FAULTS_COUNT).put .BZL_FAULT_ADDR_LO_ADDR (a % 2 ^ 32)).put .BZL_FAULT_ADDR_HI_ADDR (a / 2 ^ 32)).putBit .BZL_FAULT_INFO_VALID true).put .BZL_FAULT_INFO_KIND x →
     v = (((((((u.putBit .BZL_FAULT_INFO_WRITE (k == akWrite || k == akAtomic)).putBit .BZL_FAULT_INFO_EXEC (k == akExec)).put .BZL_FAULT_INFO_AGENT g).put
       .BZL_FAULT_INFO_FACET f).put .BZL_FAULT_INFO_REGION r).put .BZL_FAULT_INFO_LENGTH (n - 1))) →
     w = ((v.put .BZL_FAULT_GEN_GEN (v.get .BZL_GEN_COMMITTED_GEN)).putBit .BZL_STATUS_FAULT true).event 0x0701 sevWarning a
       (((v.put .BZL_FAULT_GEN_GEN (v.get .BZL_GEN_COMMITTED_GEN)).putBit .BZL_STATUS_FAULT true).faultDetail [0x10000020, 0x10000024, 0x10000028, 0x1000002C]) →
     s.bezelFault g k a n x r f = if w.bit .BZL_CTRL_IRQ_EN then w.raiseIrq 2 else w) ∧
  (∀ (s : State), ∀ c ∈ [Instr.bezelCommit, .worldCommit], Answers c s (Only [.regs, .worlds] s)) ∧
  (∀ (s : State), ∀ c ∈ [Instr.bezelGenActive, .worldGenActive], Answers c s (Only [.regs] s)) ∧
  (∀ (s : State) a, Answers (.bezelModeWrite a) s (Only [.regs, .worlds] s))

/-- WSW in the normal world saves the return address and enters the secure world at the secure entry vector; WRET in
the secure world returns to it; in the other world each raises an illegal-instruction exception. A pending
secure source taken on a core in the normal world is no longer pending and enters the secure world. A normal
source that stays pending past the slice raises source 3 once. A new way mask leaves two ways to each world at
least and applies when the flush ends. Each changes nothing where its condition does not hold. Log entries 8, 30
and 89 name what is the model's choice or reading here. The closing clauses say of each of the 6 commands named
there, for every state and all operands, that it answers a next state and which pieces of State it may change:
every other piece is as it was. -/
def Obligations.WorldSwitches : Prop :=
  (∀ (s : State) c p, c ≤ 3 → (s.coreSecure c = false → exec (.wsw c p) s = .next (s.enterSecure c p)) ∧
     (s.coreSecure c = true → exec (.wsw c p) s = .next (s.coreException c .illegalInstruction)) ∧
     (s.coreSecure c = true → exec (.wret c) s = .next (s.leaveSecure c)) ∧
     (s.coreSecure c = false → exec (.wret c) s = .next (s.coreException c .illegalInstruction))) ∧
  (∀ (s : State) c p, s.enterSecure c p = (({ s with worlds := { s.worlds with resume := mset (fun _ => 0) s.worlds.resume c p } } : State).switchWorld c true s.sentry)) ∧
  (∀ (s : State) n p, n < 32 → nbit (s.get .WLD_IRQ_PEND_PEND) n = true → s.irqSecure n = true → s.coreSecure (s.irqCore n) = false →
     exec (.secureInterruptTaken n p) s = .next ((s.put .WLD_IRQ_PEND_PEND (setNbit (s.get .WLD_IRQ_PEND_PEND) n false)).enterSecure (s.irqCore n) p)) ∧
  (∀ (s : State) n, n < 32 → nbit (s.get .WLD_IRQ_PEND_PEND) n = true → s.irqSecure n = false → s.coreSecure (s.irqCore n) = true →
     s.get .WLD_SLICE_US ≠ 0 → (n ∉ s.worlds.sliced →
       exec (.worldSliceExpiry n) s = .next (({ s with worlds := { s.worlds with sliced := n :: s.worlds.sliced } } : State).raiseIrq 3)) ∧
     (n ∈ s.worlds.sliced → exec (.worldSliceExpiry n) s = .next s)) ∧
  (∀ (s : State) m, s.bit .WLD_L2_WAYS_BUSY = false → (2 ≤ popCount 16 m → popCount 16 m ≤ 14 → m < 65536 → m ≠ s.get .WLD_L2_WAYS_SECURE →
       exec (.l2WaysWrite m) s = .next (({ s with worlds := { s.worlds with l2Mask := some m } } : State).putBit .WLD_L2_WAYS_BUSY true)) ∧
     (popCount 16 m < 2 ∨ 14 < popCount 16 m → exec (.l2WaysWrite m) s = .next s)) ∧
  (∀ (s : State) m, s.worlds.l2Mask = some m → exec .l2WayFlushComplete s =
     .next ((({ s with worlds := { s.worlds with l2Mask := none } } : State).put .WLD_L2_WAYS_SECURE m).putBit .WLD_L2_WAYS_BUSY false)) ∧
  (∀ (s : State) c p n m, (c > 3 → exec (.wsw c p) s = .next s ∧ exec (.wret c) s = .next s) ∧
     (n ≥ 32 ∨ nbit (s.get .WLD_IRQ_PEND_PEND) n = false ∨ s.irqSecure n = false ∨ s.coreSecure (s.irqCore n) = true →
       exec (.secureInterruptTaken n p) s = .next s) ∧
     (n ≥ 32 ∨ nbit (s.get .WLD_IRQ_PEND_PEND) n = false ∨ s.irqSecure n = true ∨ s.coreSecure (s.irqCore n) = false ∨ s.get .WLD_SLICE_US = 0 →
       exec (.worldSliceExpiry n) s = .next s) ∧
     (m ≥ 65536 ∨ s.bit .WLD_L2_WAYS_BUSY = true ∨ m = s.get .WLD_L2_WAYS_SECURE → exec (.l2WaysWrite m) s = .next s) ∧
     (s.worlds.l2Mask = none → exec .l2WayFlushComplete s = .next s)) ∧
  (∀ (s : State) a b, ∀ c ∈ [Instr.wsw a b, .secureInterruptTaken a b], Answers c s (Only [.regs, .worlds] s)) ∧
  (∀ (s : State) a, Answers (.wret a) s (Only [.regs, .officers, .power, .worlds] s)) ∧
  (∀ (s : State) a, Answers (.worldSliceExpiry a) s (Only [.regs, .power, .worlds] s)) ∧
  (∀ (s : State) a, Answers (.l2WaysWrite a) s (Only [.regs, .worlds] s)) ∧
  (∀ (s : State), Answers .l2WayFlushComplete s (Only [.regs, .worlds] s))

/-- An access that passes the checks reaches its target, and one that does not is answered as its master's refusals
are; a core accesses in its current world. The host (DMA_N, a core number above 3) reaches BAR0 and BAR2
registers by their own rules, is checked elsewhere, and sees an inert unit's few registers only. An access
beyond the 2^40 bytes, or that no master makes, changes nothing. A copy starts when every piece passes, ends
DONE after its last write, or with ERR at the first refused piece, and a stop leaves a free number of pieces
copied. The debug port accesses as DEBUG_S or DEBUG_N by the enables, and with none raises DEBUG_ATTEMPT; a
SCRAP unit answers BYPASS only. IDCODE reads 0x10880A5B. Log entries 34, 41, 42, 58 and 90 name what is the
model's choice or reading here. The closing clauses say of each of the 8 commands named there, for every state
and all operands, that it answers a next state and which pieces of State it may change: every other piece is as
it was. -/
def Obligations.BusAccesses : Prop :=
  (∀ (s : State) g k a n c d, 2 ≤ g → g ≤ 7 → (g ≠ agDmaN ∨ c ≤ 3) → k ≤ 3 → 0 < n → n ≤ 4096 → a + n ≤ 2 ^ 40 →
     exec (.internalMasterAccess g k a n c d) s = .next (if (s.checkAccess g k a n).1 then (s.checkAccess g k a n).2.transact g k a n d
       else (s.checkAccess g k a n).2.refusedAccess g c)) ∧
  (∀ (s : State) g k a n c d e, g < 2 → c ≤ 3 → e = (if s.coreSecure c then agCpuS else agCpuN) → k ≤ 3 → 0 < n → n ≤ 4096 → a + n ≤ 2 ^ 40 →
     exec (.internalMasterAccess g k a n c d) s = .next (if (s.checkAccess e k a n).1 then (s.checkAccess e k a n).2.transact e k a n d
       else (s.checkAccess e k a n).2.refusedAccess e c)) ∧
  (∀ (s : State) a n c d v, c ≤ 3 → 0 < n → n ≤ 4096 → a + n ≤ 2 ^ 40 → (s.checkAccess agDmaN akWrite a n).1 = true →
     (s.checkAccess agDmaN akWrite a n).2.writeAt agDmaN a (padTo n (d.take n)) = (true, v) →
     exec (.internalMasterAccess agDmaN akWrite a n c d) s = .next (v.ended v.readValue 0)) ∧
  (∀ (s : State) k a n c d, c > 3 → k ≤ 3 → 0 < n → n ≤ 4096 →
     (k < 2 → s.deviceState = dsInert → inertShows a n = false → exec (.internalMasterAccess agDmaN k a n c d) s = .next (if k = akWrite then s else s.ended 0 0)) ∧
     (k < 2 → (s.deviceState ≠ dsInert ∨ inertShows a n = true) →
       (inSpan a 0x10C02000 0x10D00000 = true → exec (.internalMasterAccess agDmaN k a n c d) s = .next ((s.hostWakes k).bar0Access (k == akWrite) (a - 0x10C00000) n d)) ∧
       (inSpan a 0x10C02000 0x10D00000 = false → inSpan a bar2Base (bar2Base + 0x400000) = true →
         exec (.internalMasterAccess agDmaN k a n c d) s = .next ((s.hostWakes k).bar2Access k (a - bar2Base) n d))) ∧
     ((k ≥ 2 ∨ (s.deviceState ≠ dsInert ∨ inertShows a n = true) ∧ inSpan a 0x10C02000 0x10D00000 = false ∧ inSpan a bar2Base (bar2Base + 0x400000) = false) →
       (a + n > 2 ^ 40 → exec (.internalMasterAccess agDmaN k a n c d) s = .next s) ∧
       (∀ u o v, a + n ≤ 2 ^ 40 → u = s.hostWakes k → u.checkAccess agDmaN k a n = (o, v) →
         exec (.internalMasterAccess agDmaN k a n c d) s = .next (if o then v.transact agDmaN k a n d else v.refusedAccess agDmaN c)))) ∧
  (∀ (s : State) g k a n c d, (g > 7 ∨ k > 3 ∨ n = 0 ∨ n > 4096 ∨ (g < 2 ∧ c > 3) → exec (.internalMasterAccess g k a n c d) s = .next s) ∧
     ((g ≠ agDmaN ∨ c ≤ 3) → a + n > 2 ^ 40 → exec (.internalMasterAccess g k a n c d) s = .next s)) ∧
  (∀ (s : State) c (r : DmaRun), c ≤ 3 → s.bit (.WLD_DMAc_STATUS_BUSY c) = false → (c < 2 ∨ s.gateOn 4 = true) →
     r = { src := s.get64 (.WLD_DMAc_SRC_LO_ADDR c) (.WLD_DMAc_SRC_HI_ADDR c), dst := s.get64 (.WLD_DMAc_DST_LO_ADDR c) (.WLD_DMAc_DST_HI_ADDR c), len := s.get (.WLD_DMAc_LEN_BYTES c) } →
     r.len ≠ 0 → exec (.copyDmaStart c) s = .next (if (dmaPieces r.len).all (fun p => (s.checkAccess (dmaAgent c) akRead (r.src + p.1) p.2).1 &&
         (s.checkAccess (dmaAgent c) akWrite (r.dst + p.1) p.2).1)
       then (({ s with worlds := { s.worlds with dmaRuns := mset (fun _ => none) s.worlds.dmaRuns c (some r) } } : State).putBit (.WLD_DMAc_STATUS_BUSY c) true)
       else (State.dmaCopy (dmaAgent c) r.src r.dst s (dmaPieces r.len)).2.dmaEnd c false)) ∧
  (∀ (s : State) c, (c > 3 ∨ s.bit (.WLD_DMAc_STATUS_BUSY c) = true ∨ (c ≥ 2 ∧ s.gateOn 4 = false) ∨ s.get (.WLD_DMAc_LEN_BYTES c) = 0 → exec (.copyDmaStart c) s = .next s) ∧
     (mget (fun _ => none) s.worlds.dmaRuns c = none → exec (.copyDmaComplete c) s = .next s ∧ exec (.copyDmaStop c) s = .next s)) ∧
  (∀ (s : State) c r, mget (fun _ => none) s.worlds.dmaRuns c = some r →
     (∀ ok u, State.dmaCopy (dmaAgent c) r.src r.dst s (dmaPieces r.len) = (ok, u) → exec (.copyDmaComplete c) s = .next ((u.dmaOverlap r).dmaEnd c ok)) ∧
     (∀ k u, s.freshNat = (k, u) → exec (.copyDmaStop c) s =
       .next ((State.dmaCopy (dmaAgent c) r.src r.dst u ((dmaPieces r.len).take (k % ((dmaPieces r.len).length + 1)))).2.dmaEnd c false))) ∧
  (∀ (s : State) w a n d g u v, u = s.wakeNap 6 → u.lifeCycle ≠ lcScrap → n ∈ dapSizes → a < 2 ^ 40 → u.dapAgent w = some g →
     v = { u with worlds := { u.worlds with tapIr := 9, dapAddr := a } } → (v.checkAccess g (if w then akWrite else akRead) a n).1 = false →
     ∀ x, x = (v.checkAccess g (if w then akWrite else akRead) a n).2.refusedAccess g 0 →
     s.dapAccess w a n d = { x with worlds := { x.worlds with dapStatus := 3 } }) ∧
  (∀ (s : State) w a n d u, u = s.wakeNap 6 → (u.lifeCycle = lcScrap → s.dapAccess w a n d = { u with worlds := { u.worlds with tapIr := 31 } }) ∧
     (u.lifeCycle ≠ lcScrap → n ∈ dapSizes → a < 2 ^ 40 → u.dapAgent w = none →
       s.dapAccess w a n d = ({ u with worlds := { u.worlds with tapIr := 9, dapAddr := a, dapStatus := 2 } } : State).alarm' [19])) ∧
  (∀ (s : State) w a n d g (u v x y : State), u = s.wakeNap 6 → u.lifeCycle ≠ lcScrap →
     ((n ∉ dapSizes ∨ a ≥ 2 ^ 40) → s.dapAccess w a n d = u) ∧
     (n ∈ dapSizes → a < 2 ^ 40 → u.dapAgent w = some g → v = { u with worlds := { u.worlds with tapIr := 9, dapAddr := a } } →
       v.checkAccess g (if w then akWrite else akRead) a n = (true, x) → y = x.transact g (if w then akWrite else akRead) a n d →
       s.dapAccess w a n d = { y with worlds := { y.worlds with dapStatus := if y.worlds.answer = 0 then 0 else 3 } })) ∧
  (∀ (s : State) a n d, exec (.dapRead a n) s = .next (s.dapAccess false a n []) ∧ exec (.dapWrite a n d) s = .next (s.dapAccess true a n d) ∧
     exec .idcode s = .next { s with readValue := 0x10880A5B, worlds := { s.worlds with tapIr := 1 } } ∧
     exec .bypass s = .next { s with worlds := { s.worlds with tapIr := 31 } }) ∧
  (∀ (s : State) a b d e f g, Answers (.internalMasterAccess a b d e f g) s (Kept [.pending] s)) ∧
  (∀ (s : State) a, ∀ c ∈ [Instr.copyDmaStart a, .copyDmaStop a, .copyDmaComplete a], Answers c s (Kept [.pending] s)) ∧
  (∀ (s : State) a b, Answers (.dapRead a b) s (Kept [.pending] s)) ∧
  (∀ (s : State) a b d, Answers (.dapWrite a b d) s (Kept [.pending] s)) ∧
  (∀ (s : State), Answers .idcode s (Only [.readValue, .worlds] s)) ∧
  (∀ (s : State), Answers .bypass s (Only [.worlds] s))

/-- A loop sample confirms a loop that fails twice in a row; an armed one newly confirmed is an alarm, with the unit
off an entry of the off-power log. Two clock windows in a row outside 3 % put an armed clock out of range and
raise its source, two inside bring it back; a short cycle raises its source at once; unarmed clocks raise
nothing. Firmware raises source 23 at response 2 to 4 only. A failed BBRAM check raises source 20, the alarm
area being rewritten with every loop armed. The cell voltages are shown. Without main power the check and the
measurement change nothing. Log entries 8 and 29 name what is the model's choice or reading here. The closing
clauses say of each of the 7 commands named there, for every state and all operands, that it answers a next
state and which pieces of State it may change: every other piece is as it was. -/
def Obligations.LoopsAndClocks : Prop :=
  (∀ (s : State) r j l u, j = s.alarm.judge r → l = (List.range 8).filter (fun n => nbit j.faulty n && !nbit s.alarm.faulty n && nbit s.alarm.armed n) →
     u = { s with alarm := { s.alarm with failing := j.failing, faulty := j.faulty } } →
     (s.mainRuns = true → s.lifeCycle < lcScrap → ∃ v, exec (.loopSample r) s = .next (v.assertLoops.alarm' l) ∧ OnlyRegs [0x10300014, 0x10300018] u v) ∧
     (s.mainRuns = false → exec (.loopSample r) s = .next (if l.isEmpty then u else u.unpoweredAlarm l))) ∧
  (∀ (s : State) r j l (u v w : State), j = s.alarm.judge r → l = (List.range 8).filter (fun n => nbit j.faulty n && !nbit s.alarm.faulty n && nbit s.alarm.armed n) →
     u = { s with alarm := { s.alarm with failing := j.failing, faulty := j.faulty } } →
     (s.mainRuns = true → s.lifeCycle < lcScrap → v = u.put .ALM_LOOP_STATUS_STATE ((List.range 8).foldr (fun n acc => loopState r n + 4 * acc) 0) →
       w = v.put .ALM_LOOP_GLITCH_COUNT (min 0xFFFFFFFF (v.get .ALM_LOOP_GLITCH_COUNT + j.glitches)) → exec (.loopSample r) s = .next (w.assertLoops.alarm' l)) ∧
     (s.lifeCycle ≥ lcScrap → exec (.loopSample r) s = .next (if l.isEmpty then u else u.unpoweredAlarm l))) ∧
  (∀ (s : State), (s.mainRuns = true → s.deviceState ≠ dsInert → exec .xtalMonitorArm s = .next (s.armMonitor 0 true)) ∧
     (s.mainRuns = false ∨ s.deviceState = dsInert → exec .xtalMonitorArm s = .next s)) ∧
  (∀ (s : State) c d u v, c ≤ 3 → s.monitorArmed c = true → u = s.put (.ALM_CLK_DEVc_DEV c) (d % 65536).toNat → (300 < d ∨ d < -300) →
     v = { u with alarm := { u.alarm with outside := mmod (fun _ => 0) u.alarm.outside c (· + 1), inside := mset (fun _ => 0) u.alarm.inside c 0 } } →
     exec (.clockMonitorWindow c d) s = .next (if nbit (v.get .ALM_CLK_STATUS_OUT_OF_RANGE) c = false ∧ 2 ≤ mget (fun _ => 0) v.alarm.outside c
       then (((v.put .ALM_CLK_STATUS_OUT_OF_RANGE (setNbit (v.get .ALM_CLK_STATUS_OUT_OF_RANGE) c true)).assertLevel (8 + c) true).alarm' [8 + c])
       else if nbit (v.get .ALM_CLK_STATUS_OUT_OF_RANGE) c = true ∧ 2 ≤ mget (fun _ => 0) v.alarm.inside c
         then (v.put .ALM_CLK_STATUS_OUT_OF_RANGE (setNbit (v.get .ALM_CLK_STATUS_OUT_OF_RANGE) c false)).assertLevel (8 + c) false else v)) ∧
  (∀ (s : State) c d u v, c ≤ 3 → s.monitorArmed c = true → u = s.put (.ALM_CLK_DEVc_DEV c) (d % 65536).toNat → -300 ≤ d → d ≤ 300 →
     v = { u with alarm := { u.alarm with outside := mset (fun _ => 0) u.alarm.outside c 0, inside := mmod (fun _ => 0) u.alarm.inside c (· + 1) } } →
     mget (fun _ => 0) v.alarm.outside c < 2 → exec (.clockMonitorWindow c d) s = .next (if nbit (v.get .ALM_CLK_STATUS_OUT_OF_RANGE) c = true ∧ 2 ≤ mget (fun _ => 0) v.alarm.inside c
         then (v.put .ALM_CLK_STATUS_OUT_OF_RANGE (setNbit (v.get .ALM_CLK_STATUS_OUT_OF_RANGE) c false)).assertLevel (8 + c) false else v)) ∧
  (∀ (s : State) c d, c > 3 ∨ s.monitorArmed c = false → exec (.clockMonitorWindow c d) s = .next s ∧ exec (.clockShortCycle c) s = .next s) ∧
  (∀ (s : State) c, c ≤ 3 → s.monitorArmed c = true → exec (.clockShortCycle c) s =
     .next ((s.put .ALM_CLK_STATUS_SHORT_SEEN (setNbit (s.get .ALM_CLK_STATUS_SHORT_SEEN) c true)).alarm' [12 + c])) ∧
  (∀ (s : State) r, (2 ≤ r → r ≤ 4 → exec (.firmwareAlarmRaise r) s = .next (s.alarms [(23, r)] false)) ∧
     (r < 2 ∨ 4 < r → exec (.firmwareAlarmRaise r) s = .next s)) ∧
  (∀ (s : State) a b, s.mainRuns = true → ((a = true ∨ b = true ∨ s.bb.lost = true) →
       exec (.bbramPeriodicCheck a b) s = .next (s.bbramFails (b || s.bb.lost))) ∧
     (s.bb.lost = false → exec (.bbramPeriodicCheck false false) s = .next s) ∧
     exec (.vbatMeasure 2900 3000) s = .next ((s.put .ALM_VBAT_A_MV 2900).put .ALM_VBAT_B_MV 3000) ∧
     (∀ m n, exec (.vbatMeasure m n) s = .next ((s.put .ALM_VBAT_A_MV m).put .ALM_VBAT_B_MV n))) ∧
  (∀ (s : State) a b m n, s.mainRuns = false → exec (.bbramPeriodicCheck a b) s = .next s ∧ exec (.vbatMeasure m n) s = .next s) ∧
  (∀ (s : State) a, Answers (.loopSample a) s (Kept [.mem, .readValue, .scheds, .share, .admin, .time, .restore, .owners, .lcs, .rng, .pair, .pending] s)) ∧
  (∀ (s : State) a b, Answers (.clockMonitorWindow a b) s (Kept [.mem, .readValue, .scheds, .share, .admin, .time, .restore, .owners, .bb, .lcs, .rng, .pair, .pending] s)) ∧
  (∀ (s : State) a, ∀ c ∈ [Instr.clockShortCycle a, .firmwareAlarmRaise a], Answers c s (Kept [.mem, .readValue, .scheds, .share, .admin, .time, .restore, .owners, .bb, .lcs, .rng, .pair, .pending] s)) ∧
  (∀ (s : State), Answers .xtalMonitorArm s (Only [.regs, .alarm] s)) ∧
  (∀ (s : State) a b, Answers (.bbramPeriodicCheck a b) s (Kept [.mem, .readValue, .scheds, .share, .admin, .time, .restore, .owners, .bb, .lcs, .rng, .pair, .pending] s)) ∧
  (∀ (s : State) a b, Answers (.vbatMeasure a b) s (Only [.regs] s))

/-- When the erasure of a PURGE ends, outside a zeroise, PURGING shows 0, the engines are erased, every job is
aborted and the lanes swept; the firmware storage key request is gone. When that of a ZEROISE ends, the stores
named in R417 are erased, no job is left, and the device state follows. HALT_CLEAR is refused while a zeroise
has run, a PURGE runs or a level source still asks for HALT; otherwise it ends the halt, or changes nothing
where none is. Log entries 29, 64 and 86 name what is the model's choice or reading here. The closing clauses
say of each of the 3 commands named there, for every state and all operands, that it answers a next state and
which pieces of State it may change: every other piece is as it was. -/
def Obligations.ErasuresAndHalt : Prop :=
  (∀ (s : State), s.bit .ALM_STATUS_PURGING = true → s.zeroised = false → ∃ u v, exec .purgeErasureComplete s =
       .next (((v.sweepLanes.putBit .ALM_STATUS_PURGING false).showRoots.openSecure).showAlarmN) ∧
     u = s.eraseEngines.jobsInOrder.foldl (fun s e => s.purgeJob e.1 e.2) s.eraseEngines ∧
     v = (({ u with ladder := { u.ladder with fwRequest := none } } : State).putBit .KLD_FW_STATUS_BUSY false).setRng
       { u.rng with drbgs := u.rng.drbgs.map (fun d => { d with due := d.inst && !u.rng.stopped }) }) ∧
  (∀ (s : State), s.bit .ALM_STATUS_PURGING = false ∨ s.zeroised = true → exec .purgeErasureComplete s = .next s) ∧
  (∀ (s : State), s.alarm.zeroising = true → ∃ (u : State), u = s.zeroiseStores.sweepLanes.putBit .FLL_STATUS_HB false ∧ exec .zeroiseErasureComplete s =
     .next ((({ u with alarm := { u.alarm with zeroising := false } } : State).showRng.showRoots.refreshDeviceState).showAlarmN)) ∧
  (∀ (s : State), s.alarm.zeroising = false → exec .zeroiseErasureComplete s = .next s) ∧
  (∀ (s : State), ((s.zeroised = true ∨ s.bit .ALM_STATUS_PURGING = true ∨ s.levelHolds = true) →
       exec .haltClear s = .next (s.putBit .ALM_STATUS_CLEAR_REFUSED true)) ∧
     (s.zeroised = false → s.bit .ALM_STATUS_PURGING = false → s.levelHolds = false →
       exec .haltClear s = .next (if s.halted then s.clearHalt else s))) ∧
  (∀ (s : State), Answers .purgeErasureComplete s (Kept [.free, .readValue, .share, .time, .restore, .bb, .alarm, .pair, .worlds, .pending] s)) ∧
  (∀ (s : State), Answers .zeroiseErasureComplete s (Only [.regs, .host, .jobs, .ladder, .officers, .bb, .lcs, .engines, .rng, .alarm, .power] s)) ∧
  (∀ (s : State), Answers .haltClear s (Only [.regs, .host, .insts, .jobs, .locket, .meters, .evr, .strand, .owners, .usage, .store, .ladder, .officers, .engines, .alarm, .power] s))

/-- A slot opens INTERVAL ticks after the previous one, with polishing enabled, the mode ACTIVE, no sequence running
and no HALT: it selects the lowest core promoted since, else the next ACTIVE one, or none. The tests run in
their order, each shows its cycles, erases its setting as it ends and starts the next; one that fails shows free
cycles and a free REJECT, for its work is not stated, and ends the sequence. A sequence that passes returns the
core to ACTIVE and counts; one that fails fences it, counts and records the core, raises the cluster's
interrupt, and promotes the lowest spare where that is automatic. Where no slot opens, and with no core in
polishing, nothing changes. Log entries 44 and 84 name what is the model's choice or reading here. The closing
clauses say of each of the 2 commands named there, for every state and all operands, that it answers a next
state and which pieces of State it may change: every other piece is as it was. -/
def Obligations.Polishing : Prop :=
  (∀ (s : State) l k, k = clusterOf l → s.bit k.polEnableFld = true → (s.cluster k).polSlot + s.get k.polIntervalFld ≤ s.time.tick →
     s.power.mode = .active → s.bit k.polBusyFld = false → s.halted = false →
     ∀ u, u = s.setCluster k { s.cluster k with polSlot := s.time.tick, promoted := [] } →
     exec (.polishSlot l) s = .next ((s.polPick k).elim u (fun n => ((u.put k.polCoreFld n).putBit k.polBusyFld true).updateCore k n))) ∧
  (∀ (s : State) l k, k = clusterOf l → s.bit k.polEnableFld = false ∨ s.time.tick < (s.cluster k).polSlot + s.get k.polIntervalFld ∨ s.power.mode ≠ .active ∨
     s.bit k.polBusyFld = true ∨ s.halted = true → exec (.polishSlot l) s = .next s) ∧
  (∀ (s : State) l k n (u v w : State), k = clusterOf l → n = s.get k.polCoreFld → s.coreState k n = csPolishing → s.halted = false →
     (u = (s.passTests k n 0 k.tests.length).putBit k.polBusyFld false →
       exec (.polishSequenceEnd l none) s = .next (((u.moveCore k n csActive).count k.polPassesFld).updateCore k n)) ∧
     (∀ i, v = s.passTests k n 0 (min i (k.tests.length - 1)) →
       w = ({ ((v.put (k.cyclesFld n) (Config.freeNat v.free % 2 ^ 32)).putBit (k.rejectFld n) (Config.freeNat (v.free + 1) % 2 == 1)) with free := v.free + 2 } : State).quitTest k n →
       exec (.polishSequenceEnd l (some i)) s = .next ((w.putBit k.polBusyFld false).polishFail k n))) ∧
  (∀ (s : State) l k f, k = clusterOf l → s.coreState k (s.get k.polCoreFld) ≠ csPolishing ∨ s.halted = true → exec (.polishSequenceEnd l f) s = .next s) ∧
  (∀ (s : State) k n i m (u : State), u = (((s.quitTest k n).put (k.cyclesFld n) (((k.tests[i]?).map (·.ns)).getD 0)).putBit (k.rejectFld n) false).startTest k n (i + 1) →
     s.passTests k n i (m + 1) = u.passTests k n (i + 1) m ∧ s.passTests k n i 0 = s) ∧
  (∀ (s : State) k n, ((s.cluster k).test = none → s.quitTest k n = s) ∧ ((s.cluster k).test.isSome = true → s.quitTest k n =
     ((((s.eraseRuns (fun r => r.handle == 0 && r.label == testLabel k.isLat)).clearCore k n).setTest k none).putBit (k.busyFld n) false))) ∧
  (∀ (s : State) k n u, u = ((((s.moveCore k n csFenced).put k.polLastFailFld n).count k.polFailsFld).putBit k.polFailFld true).raiseIrq k.irqSource →
     s.polishFail k n = if u.bit k.polAutoFld then (u.lowestSpare k).elim u (fun m => u.promote k m) else u) ∧
  (∀ (s : State) a, Answers (.polishSlot a) s (Only [.regs, .ladder, .engines] s)) ∧
  (∀ (s : State) a b, Answers (.polishSequenceEnd a b) s (Only [.regs, .free, .ladder, .engines, .power] s))

/-- In ACTIVE a NAP request with no bar enters NAP, counts the entry and disarms the memory clock's monitor; the
first bar that holds is recorded as its code, but not for the automatic request, which asks after AUTO_NAP_TICKS
idle ticks. The prewake before a minute's end wakes the unit, and leaving NAP ends in ACTIVE, or goes on to a
SLEEP asked for in the meantime. SLEEP is refused to an active or handing-over unit and while OTP is programmed;
a unit in NAP leaves NAP first; the sequence ends the sessions, then archives, powers off, and wakes at once
when an edge was latched. Log entries 38 and 93 name what is the model's choice or reading here. The closing
clauses say of each of the 6 commands named there, for every state and all operands, that it answers a next
state and which pieces of State it may change: every other piece is as it was. -/
def Obligations.NapAndSleep : Prop :=
  (∀ (s : State), s.power.mode = .active → (s.napBars.find? (fun b => b.2) = none → exec .pwrReqNap s =
       .next ({ (s.put .PWR_STATUS_STATE 1).count .PWR_NAP_ENTRIES_COUNT with power := { s.power with mode := .nap } }.armMonitor 2 false)) ∧
     (∀ c b, s.napBars.find? (fun b => b.2) = some (c, b) → exec .pwrReqNap s = .next (s.put .PWR_STATUS_NAP_REFUSE c))) ∧
  (∀ (s : State), s.power.mode ≠ .active → exec .pwrReqNap s = .next s ∧ exec .autoNapTimer s = .next s) ∧
  (∀ (s : State) n, s.power.mode = .active → s.odNat 0x8000 8 0 = n →
     (n ≠ 0 → s.power.lastActive + n ≤ s.time.tick → s.napBars.find? (fun b => b.2) = none → exec .autoNapTimer s =
       .next ({ (s.put .PWR_STATUS_STATE 1).count .PWR_NAP_ENTRIES_COUNT with power := { s.power with mode := .nap } }.armMonitor 2 false)) ∧
     ((n = 0 ∨ s.time.tick < s.power.lastActive + n ∨ (s.napBars.find? (fun b => b.2)).isSome = true) → exec .autoNapTimer s = .next s)) ∧
  (∀ (s : State), (s.time.window.stop ≤ s.time.tick + 1 → exec .napMinutePrewake s = .next (s.wakeNap 3)) ∧
     (s.time.tick + 1 < s.time.window.stop → exec .napMinutePrewake s = .next s) ∧
     (∀ u, s.power.mode = .leavingNap → u = (({ s with power := { s.power with mode := .active, sleepNext := false } } : State).put .PWR_STATUS_STATE 0).armMonitor 2 true →
       (s.power.sleepNext = true → s.sleepBarred = false → exec .napExitComplete s = .next u.beginSleep) ∧
       (s.power.sleepNext = false ∨ s.sleepBarred = true → exec .napExitComplete s = .next u)) ∧
     (s.power.mode ≠ .leavingNap → exec .napExitComplete s = .next s)) ∧
  (∀ (s : State), (s.sleepBarred = true → exec .pwrReqSleep s = .next s) ∧
     (s.sleepBarred = false → s.power.mode = .active ∨ s.power.mode = .held → exec .pwrReqSleep s =
       .next (({ s.endSessions with power := { s.endSessions.power with mode := .enteringSleep, sleepTick := s.endSessions.time.tick } } : State).put .PWR_STATUS_STATE 3)) ∧
     (s.sleepBarred = false → s.power.mode = .nap ∨ s.power.mode = .leavingNap → exec .pwrReqSleep s =
       .next (({ s with power := { s.power with mode := .leavingNap, sleepNext := true } } : State).put .PWR_STATUS_STATE 2)) ∧
     (s.power.mode = .enteringSleep ∨ s.power.mode = .sleep ∨ s.power.mode = .off → exec .pwrReqSleep s = .next s)) ∧
  (∀ (s : State) m e b, s.power.mode ≠ .enteringSleep → exec (.sleepPowerOff m e b) s = .next s) ∧
  (∀ (s : State) m e b u, s.power.mode = .enteringSleep → u = archiveSome e (offerMeters m (s.closeMinute s.time.tick)) →
     exec (.sleepPowerOff m e b) s = .next (if u.power.wakeLatched
       then (({ u with power := { u.power with mode := .sleep, mainEn := false, wakeLatched := false } } : State).mainReset.wake b)
       else ({ u with power := { u.power with mode := .sleep, mainEn := false, wakeLatched := false } } : State).mainReset)) ∧
  (∀ (s : State), ∀ c ∈ [Instr.pwrReqNap, .autoNapTimer], Answers c s (Only [.regs, .alarm, .power] s)) ∧
  (∀ (s : State), Answers .napMinutePrewake s (Only [.regs, .power] s)) ∧
  (∀ (s : State), Answers .napExitComplete s (Only [.regs, .evr, .agent, .alarm, .power, .mgp] s)) ∧
  (∀ (s : State), Answers .pwrReqSleep s (Only [.regs, .evr, .agent, .power, .mgp] s)) ∧
  (∀ (s : State) a b d, Answers (.sleepPowerOff a b d) s (Kept [.pending] s))

/-- A gate write orders the change of its block; a normal-world write of a locked block is refused and recorded as
BEZEL_DENY. Blocks above 11 do not exist. A change ends with the state ordered. A normal-world request is
executed and answered on interrupt 10, or deferred under a lock with interrupt 9, or refused while one is
deferred; releasing the lock executes the deferred request, and a cancel drops it. An application core with an
order pending stops at WFI in the normal world only; any other WFI changes nothing. Log entries 38 and 47 name
what is the model's choice or reading here. The closing clauses say of each of the 9 commands named there, for
every state and all operands, that it answers a next state and which pieces of State it may change: every other
piece is as it was. -/
def Obligations.Gates : Prop :=
  (∀ (s : State) w b c p, b ≤ 11 → ((w = .secure ∨ s.gateLocked b = false) → exec (.pwrGateWrite w b c p) s =
       .next (((s.putBit (.PWR_GATEb_CLK_OFF b) c).putBit (.PWR_GATEb_PWR_OFF b) p).gateOrder b)) ∧
     (w = .normal → s.gateLocked b = true → exec (.pwrGateWrite w b c p) s = .next (s.bezelFault agCpuN akWrite (0x10201000 + 0x1000 * b) 4 1
       ((s.regionOf (0x10201000 + 0x1000 * b)).getD (0, 0)).1 ((s.regionOf (0x10201000 + 0x1000 * b)).getD (0, 0)).2))) ∧
  (∀ (s : State) b g, mget (fun _ => none) s.power.changing b = some g → exec (.gateTransitionComplete b) s =
     .next (({ s with power := { s.power with changing := mset (fun _ => none) s.power.changing b none } } : State).put (.PWR_GATEb_STATE b) g)) ∧
  (∀ (s : State) b, mget (fun _ => none) s.power.changing b = none → exec (.gateTransitionComplete b) s = .next s.gateSweep) ∧
  (∀ (s : State) b, exec (.nsGateClkOn b) s = .next (s.nsGate b 0) ∧ exec (.nsGateClkOff b) s = .next (s.nsGate b 1) ∧
     exec (.nsGatePwrOn b) s = .next (s.nsGate b 2) ∧ exec (.nsGatePwrOff b) s = .next (s.nsGate b 3)) ∧
  (∀ (s : State) b a (u : State), b ≤ 11 → u = ((s.put .PWR_NS_REQ_BLOCK b).put .PWR_NS_REQ_ACTION a).put .PWR_NS_STATUS_BLOCK b →
     (s.worlds.deferred.isSome = true → s.nsGate b a = u.put .PWR_NS_STATUS_STATE 3) ∧
     (s.worlds.deferred = none → u.gateLocked b = true → s.nsGate b a =
       (({ u with worlds := { u.worlds with deferred := some (b, a) } } : State).put .PWR_NS_STATUS_STATE 1).raiseIrq 9) ∧
     (s.worlds.deferred = none → u.gateLocked b = false → s.nsGate b a = ((u.gateAction b a).put .PWR_NS_STATUS_STATE 2).raiseIrq 10)) ∧
  (∀ (s : State) w b c p a k, (b > 11 → exec (.pwrGateWrite w b c p) s = .next s ∧ s.nsGate b a = s) ∧
     (k > 3 ∨ k = 0 ∨ mget (fun _ => none) s.power.orders (k + 7) = none → exec (.wfi k) s = .next s)) ∧
  (∀ (s : State) n b a u, s.worlds.deferred = some (b, a) → u = s.put .PWR_LOCK_LOCK n →
     exec (.pwrLockWrite n) s = .next (if u.gateLocked b then u
       else (((({ u with worlds := { u.worlds with deferred := none } } : State).gateAction b a).put .PWR_NS_STATUS_STATE 2).raiseIrq 10))) ∧
  (∀ (s : State) n, s.worlds.deferred = none → exec (.pwrLockWrite n) s = .next (s.put .PWR_LOCK_LOCK n) ∧ exec .pwrDeferCancel s = .next s) ∧
  (∀ (s : State), s.worlds.deferred.isSome = true → exec .pwrDeferCancel s =
     .next ((({ s with worlds := { s.worlds with deferred := none } } : State).put .PWR_NS_STATUS_STATE 4).raiseIrq 10)) ∧
  (∀ (s : State) c g, 1 ≤ c → c ≤ 3 → mget (fun _ => none) s.power.orders (c + 7) = some g →
     (s.coreSecure c = false → exec (.wfi c) s = .next (s.gateBegin (c + 7) g)) ∧ (s.coreSecure c = true → exec (.wfi c) s = .next s)) ∧
  (∀ (s : State) a, ∀ c ∈ [Instr.pwrLockWrite a, .nsGateClkOn a, .nsGateClkOff a, .nsGatePwrOn a, .nsGatePwrOff a], Answers c s (Only [.regs, .officers, .power, .worlds] s)) ∧
  (∀ (s : State), Answers .pwrDeferCancel s (Only [.regs, .power, .worlds] s)) ∧
  (∀ (s : State) a b d e, Answers (.pwrGateWrite a b d e) s (Only [.regs, .evr, .officers, .power] s)) ∧
  (∀ (s : State) a, ∀ c ∈ [Instr.gateTransitionComplete a, .wfi a], Answers c s (Only [.regs, .officers, .power] s))

/-- POR_N and SYS_RST_N low hold the main domain in main reset where it is powered; the last hold released boots it.
A wake edge in SLEEP powers it, during the entry to SLEEP it is latched, elsewhere it changes nothing. Loss of
VDD_AON is OFF, with battery-backed memory lost below 2.0 V; its return powers the unit. GPIO1 to GPIO7 raise
interrupts 25 to 31. PERST_N high lets the link train, to the rates and widths the endpoint has. RECOVERY_GO
starts an accepted container, and shows the code of the first check a refused one fails. A release of a pin that
is high, and each event where its condition does not hold, changes nothing. Log entries 28, 38, 54 and 94 name
what is the model's choice or reading here. The closing clauses say of each of the 12 commands named there, for
every state and all operands, that it answers a next state and which pieces of State it may change: every other
piece is as it was. -/
def Obligations.ResetAndSupplies : Prop :=
  (∀ (s : State), (s.power.mode ≠ .off → exec .porNAssert s =
       .next (({ s with power := { s.power with porN := false } } : State).hold (if s.power.mode = .held then none else some 1))) ∧
     (s.power.mode = .off → exec .porNAssert s = .next { s with power := { s.power with porN := false } })) ∧
  (∀ (s : State), (s.power.mode ≠ .off → s.power.mode ≠ .sleep → exec .sysRstNAssert s =
       .next (({ s with power := { s.power with sysRstN := false } } : State).hold (if s.power.mode = .held then none else some 1))) ∧
     ((s.power.mode = .off ∨ s.power.mode = .sleep) → exec .sysRstNAssert s = .next { s with power := { s.power with sysRstN := false } })) ∧
  (∀ (s : State) b u, (u = ({ s with power := { s.power with porN := true, mainEn := s.power.mainEn || s.power.mode == PowerMode.held } } : State) →
       s.power.porN = false → exec (.porNRelease b) s = .next (u.tryBoot b)) ∧
     (u = ({ s with power := { s.power with sysRstN := true } } : State) → s.power.sysRstN = false → exec (.sysRstNRelease b) s = .next (u.tryBoot b)) ∧
     (s.tryBoot b = if s.power.mode = .held ∧ s.power.porN = true ∧ s.power.sysRstN = true ∧ s.power.vddAon = true ∧ s.power.mainEn = true then s.boot b else s)) ∧
  (∀ (s : State) b, (s.power.mode = .sleep → exec (.slpWakeEdge b) s = .next (s.wake b)) ∧
     (s.power.mode = .enteringSleep → exec (.slpWakeEdge b) s = .next { s with power := { s.power with wakeLatched := true } }) ∧
     ((s.power.mode = .active ∨ s.power.mode = .nap ∨ s.power.mode = .leavingNap ∨ s.power.mode = .off) → exec (.slpWakeEdge b) s = .next s)) ∧
  (∀ (s : State) n u, u = (({ s with power := { Power.init with porN := s.power.porN, sysRstN := s.power.sysRstN, mode := .off, vddAon := false, cells := true, mainEn := false } } : State).mainReset) →
     exec (.vddAonLoss n) s = .next (if 2000 ≤ n then u else { u with bb := { Backup.init with lost := true } })) ∧
  (∀ (s : State) b, (s.power.vddAon = false → exec (.vddAonReturn b) s =
       .next (({ s with power := { s.power with vddAon := true, mainEn := true, mode := .held, wake := 0 } } : State).tryBoot b)) ∧
     (s.power.vddAon = true → exec .backupSupplyReturn s = .next { s with power := { s.power with cells := false } }) ∧
     (s.power.vddAon = false → exec .backupSupplyReturn s = .next s)) ∧
  (∀ (s : State) n, (1 ≤ n → n ≤ 7 → s.mainRuns = true → exec (.gpioRisingEdge n) s = .next (s.raiseIrq (24 + n))) ∧
     ((n = 0 ∨ 7 < n) → exec (.gpioRisingEdge n) s = .next s)) ∧
  (∀ (s : State), s.host.perstN = false → s.mainRuns = true → exec .perstNRelease s =
     .next (({ s with host := { s.host with perstN := true, pciePll := true } } : State).armMonitor 3 true)) ∧
  (∀ (s : State) r w u, s.host.perstN = true → s.mainRuns = true → r ∈ endpoint.linkRates → w ∈ endpoint.linkWidths → u = ({ s.wakeNap 7 with host := { (s.wakeNap 7).host with linkRate := r, linkWidth := w } } : State) →
     exec (.linkRateChange r w) s = .next (if u.host.pciePll then u.armMonitor 3 true else u)) ∧
  (∀ (s : State) r w, s.host.perstN = false ∨ s.mainRuns = false ∨ r ∉ endpoint.linkRates ∨ w ∉ endpoint.linkWidths → exec (.linkRateChange r w) s = .next s) ∧
  (∀ (s : State) b n, (s.power.porN = true → exec (.porNRelease b) s = .next s) ∧ (s.power.sysRstN = true → exec (.sysRstNRelease b) s = .next s) ∧
     (s.power.mode = .held → s.power.mainEn = true → exec (.slpWakeEdge b) s = .next s) ∧
     (s.power.mode = .held → s.power.mainEn = false → exec (.slpWakeEdge b) s = .next (s.wake b)) ∧
     (s.power.vddAon = true → exec (.vddAonReturn b) s = .next s) ∧ (s.mainRuns = false → exec (.gpioRisingEdge n) s = .next s) ∧
     (s.host.perstN = true → exec .perstNRelease s = .next s) ∧
     (s.host.perstN = false → s.mainRuns = false → exec .perstNRelease s = .next { s with host := { s.host with perstN := true } })) ∧
  (∀ (s : State) r u h n m, s.deviceState = dsRecovery → u = s.wakeNap 1 → n = u.get .HST_RCV_LEN_BYTES → h = padTo 16384 (u.bytes 0x2000000 (min n 16384)) →
     m = { header := h, secure := u.bytes (0x2000000 + hdr h 16 4) (min (hdr h 20 4) (n - hdr h 16 4)), normal := [], readable := r } →
     exec (.recoveryGo r) s = .next ((u.imageFault m true).elim (((u.noteCosig m none).put .HST_RCV_STATUS_STATE 4).handOver m true false)
       (fun c => ((u.noteCosig m (some c)).put .HST_RCV_STATUS_REASON c).put .HST_RCV_STATUS_STATE 3))) ∧
  (∀ (s : State) r, s.deviceState ≠ dsRecovery → exec (.recoveryGo r) s = .next s) ∧
  (∀ (s : State) a, ∀ c ∈ [Instr.slpWakeEdge a, .porNRelease a, .vddAonReturn a, .sysRstNRelease a], Answers c s (Kept [.pending] s)) ∧
  (∀ (s : State) a, Answers (.recoveryGo a) s (Only [.regs, .mem, .host, .evr, .ladder, .lcs, .alarm, .power, .worlds] s)) ∧
  (∀ (s : State), ∀ c ∈ [Instr.porNAssert, .sysRstNAssert], Answers c s (Kept [.pending] s)) ∧
  (∀ (s : State) a, Answers (.vddAonLoss a) s (Kept [.pending] s)) ∧
  (∀ (s : State), Answers .backupSupplyReturn s (Only [.power] s)) ∧
  (∀ (s : State) a, Answers (.gpioRisingEdge a) s (Only [.regs, .power] s)) ∧
  (∀ (s : State), Answers .perstNRelease s (Only [.regs, .host, .alarm] s)) ∧
  (∀ (s : State) a b, Answers (.linkRateChange a b) s (Only [.regs, .host, .alarm, .power] s))

/-- A frame the MAC drops is counted and changes nothing else; with 128 descriptors held it is counted as dropped
and OVERRUN set; otherwise it is stored up to 1,514 bytes and the room of the FIFO, with a descriptor of its
tick, errors, length and start, and the head moves on. Releasing descriptors frees the words of their frames,
and a tail past the head is discarded. MGP_TX_GO reads the frame as DEVICE_S, pads it to 60 bytes and sends it
with its FCS; a refused read sets ERR. A frame that does not fit is cut, one whose FCS fails is marked, and both
are counted. GO while BUSY, off, or with fewer than 14 bytes is ignored, as is a frame with the port off. A
beacon shows in the link. Log entry 16 names what is the model's choice or reading here. The closing clauses say
of each of the 5 commands named there, for every state and all operands, that it answers a next state and which
pieces of State it may change: every other piece is as it was. -/
def Obligations.ManagementFrames : Prop :=
  (∀ (s : State) f e, s.mgpOn = true → (macDrops f = true → exec (.mgpFrameReceived f e) s = .next (s.count .MGP_RX_DROPPED_COUNT)) ∧
     (macDrops f = false → s.rxdHeld = 128 → exec (.mgpFrameReceived f e) s =
       .next ((s.count .MGP_RX_DROPPED_COUNT).putBit .MGP_STATUS_OVERRUN true))) ∧
  (∀ (s : State) f n d, s.mgpOn = true → macDrops f = false → s.rxdHeld ≠ 128 → n = min (min f.length 1514) (8 * (8192 - s.mgp.used)) → n = min f.length 1514 →
     d = descriptor s.time.tick (((f.head?.map (fun b => b.toNat % 2)).getD 0) == 1) false (decide (1514 < f.length)) n s.mgp.next →
     ∀ u, u = (({ s with mgp := { s.mgp.store f n with descs := mset (fun _ => 0#64) s.mgp.descs (s.get .MGP_RXD_HEAD_HEAD % 128) d } } : State).put
       .MGP_RXD_HEAD_HEAD (s.get .MGP_RXD_HEAD_HEAD + 1)) →
     ∀ v, v = (u.put .MGP_RX_FRAMES_COUNT (s.get .MGP_RX_FRAMES_COUNT + 1)).showRxd →
     exec (.mgpFrameReceived f true) s = .next (if v.bit .MGP_IRQ_FRAME_EN then v.raiseIrq 17 else v)) ∧
  (∀ (s : State) f e n d (v w x y : State), s.mgpOn = true → macDrops f = false → s.rxdHeld ≠ 128 → n = min (min f.length 1514) (8 * (8192 - s.mgp.used)) →
     d = descriptor s.time.tick (((f.head?.map (fun b => b.toNat % 2)).getD 0) == 1) (!e) (decide (n < min f.length 1514) || decide (f.length > 1514)) n s.mgp.next →
     v = { s with mgp := { s.mgp.store f n with descs := mset (fun _ => 0#64) s.mgp.descs (s.get .MGP_RXD_HEAD_HEAD % 128) d } } →
     w = (if n < min f.length 1514 then (v.count .MGP_RX_TRUNC_COUNT).putBit .MGP_STATUS_OVERRUN true else v) →
     x = (if e then w else w.count .MGP_RX_FCS_COUNT) →
     y = ((x.put .MGP_RXD_HEAD_HEAD (s.get .MGP_RXD_HEAD_HEAD + 1)).put .MGP_RX_FRAMES_COUNT (x.get .MGP_RX_FRAMES_COUNT + 1)).showRxd →
     exec (.mgpFrameReceived f e) s = .next (if y.bit .MGP_IRQ_FRAME_EN then y.raiseIrq 17 else y)) ∧
  (∀ (s : State) f e, (s.mgpOn = false → exec (.mgpFrameReceived f e) s = .next s) ∧
     (s.bit .MGP_TX_STATUS_BUSY = true ∨ s.mgpOn = false ∨ s.get .MGP_TX_LEN_BYTES < 14 → exec .mgpTxGo s = .next s) ∧
     (s.mgp.tx = none → exec .mgpFrameSent s = .next s)) ∧
  (∀ (s : State) n k, k = (n + 256 - s.get .MGP_RXD_TAIL_TAIL) % 256 →
     (n ≤ 255 → k ≤ s.rxdHeld → exec (.mgpRxdTailWrite n) s =
       .next ((({ s with mgp := { s.mgp with used := s.mgp.used - s.mgp.freed (s.get .MGP_RXD_TAIL_TAIL) k } } : State).put .MGP_RXD_TAIL_TAIL n).showRxd)) ∧
     ((255 < n ∨ s.rxdHeld < k) → exec (.mgpRxdTailWrite n) s = .next s)) ∧
  (∀ (s : State) n a, s.bit .MGP_TX_STATUS_BUSY = false → s.mgpOn = true → n = s.get .MGP_TX_LEN_BYTES → 14 ≤ n → a = s.get .MGP_TX_ADDR_ADDR →
     ∀ ok u, s.checkAccess agDeviceS akRead a n = (ok, u) →
     (ok = false → exec .mgpTxGo s = .next (u.putBit .MGP_TX_STATUS_ERR true)) ∧
     (ok = true → exec .mgpTxGo s = .next ((({ u with mgp := { u.mgp with tx := some (u.bytes a n ++ zeros (60 - (u.bytes a n).length)) } } : State).putBit
       .MGP_TX_STATUS_BUSY true).putBit .MGP_STATUS_TX_BUSY true))) ∧
  (∀ (s : State) f, s.mgp.tx = some f → (s.mgpLink = true → exec .mgpFrameSent s =
       .next ((((({ s with mgp := { s.mgp with tx := none, sent := s.mgp.sent ++ [f ++ fcs f] } } : State).putBit .MGP_TX_STATUS_BUSY false).putBit
         .MGP_STATUS_TX_BUSY false).putBit .MGP_TX_STATUS_DONE true).gateSweep)) ∧
     (s.mgpLink = false → exec .mgpFrameSent s = .next s)) ∧
  (∀ (s : State) b, exec (.plcaBeacon b) s = .next ({ s with mgp := { s.mgp with beacon := b } } : State).showPlca) ∧
  (∀ (s : State) a b, Answers (.mgpFrameReceived a b) s (Only [.regs, .power, .mgp] s)) ∧
  (∀ (s : State) a, Answers (.mgpRxdTailWrite a) s (Only [.regs, .mgp] s)) ∧
  (∀ (s : State), Answers .mgpTxGo s (Only [.regs, .evr, .power, .mgp] s)) ∧
  (∀ (s : State), Answers .mgpFrameSent s (Only [.regs, .officers, .power, .mgp] s)) ∧
  (∀ (s : State) a, Answers (.plcaBeacon a) s (Only [.regs, .mgp] s))

/-- CLIENT_HELLO takes the lowest free slot while sessions may open, and is counted when none is free. A handshake
whose certificate an anchor issued, in date, opens the session with four credits, and any other closes it; an
alert, CLOSE and the idle timeout close it. READ and WRITE in a live session spend a credit and are executed, or
answered again from the cache; without a credit they are discarded and counted, the sixteenth closing the
session. Firmware accesses run as DEVICE_S reads of secure SRAM, refused ones changing nothing else; SESSION is
0 to 7 or 0xFF, and a session number stands for an open session or the role of the firmware itself. Every other
form changes nothing. Log entries 17 and 50 name what is the model's choice or reading here. The closing clauses
say of each of the 8 commands named there, for every state and all operands, that it answers a next state and
which pieces of State it may change: every other piece is as it was. -/
def Obligations.ManagementSessions : Prop :=
  (∀ (s : State) p, s.sessionsOpen = true → exec (.clientHello p) s = .next (((List.range s.maxSessions).find? (fun n => (s.session n).st == 0)).elim
       { s with mgp := { s.mgp with hellosRefused := sat32 s.mgp.hellosRefused } }
       (fun n => s.setSession n { Session.init with st := 1, peer := padTo 16 p, number := (s.session n).number, lastTick := s.time.tick }))) ∧
  (∀ (s : State) p, s.sessionsOpen = false → exec (.clientHello p) s = .next s) ∧
  (∀ (s : State) n c, n ≤ 7 → (s.session n).st = 1 → exec (.dtlsHandshakeComplete n c) s = .next (if s.sessionsOpen = true ∧ s.datesOk c = true then
       (s.issuers c).head?.elim (s.closeSession n) (fun a => ({ s with mgp := { s.mgp with opened := s.mgp.opened + 1 } } : State).setSession n
         { s.session n with st := 2, role := s.odNat (0xA040 + a) 2 2, certHash := (Config.sha512 c).take 32, number := s.mgp.opened + 1, opened := s.time64, flags := b2n (s.time.state == .unanchored), anchor := a, credits := 4, lastTick := s.time.tick })
       else s.closeSession n)) ∧
  (∀ (s : State) n, exec (.dtlsAlert n) s = .next (s.closeSession n) ∧
     ((s.session n).st ≠ 0 → (s.session n).lastTick + s.odNat 0xA010 3 300000 ≤ s.time.tick → exec (.pueshIdleTimeout n) s = .next (s.closeSession n)) ∧
     (s.time.tick < (s.session n).lastTick + s.odNat 0xA010 3 300000 → exec (.pueshIdleTimeout n) s = .next s)) ∧
  (∀ (s : State) n m i, (msgType m ≠ 2 → msgType m ≠ 3 → exec (.read n m) s = .next (s.message n m [])) ∧
     (msgType m = 2 → exec (.write n m i) s = .next (s.message n m i)) ∧ (msgType m = 3 → exec (.close n m) s = .next (s.message n m []))) ∧
  (∀ (s : State) n m i u, s.sessionLive n = true → u = s.setSession n { s.session n with lastTick := s.time.tick } →
     ((msgType m = 1 ∨ msgType m = 2) → s.message n m i = u.creditedRequest n m i) ∧
     (msgType m = 3 → msgOk m = true → s.message n m i = u.closeSession n)) ∧
  (∀ (s : State) n m i, ((s.session n).credits = 0 → s.creditedRequest n m i =
       (if 16 ≤ (s.session n).violations + 1 then (s.setSession n { s.session n with violations := (s.session n).violations + 1 }).closeSession n
        else s.setSession n { s.session n with violations := (s.session n).violations + 1 })) ∧
     (∀ u, (s.session n).credits ≠ 0 → u = s.setSession n { s.session n with credits := (s.session n).credits - 1 } →
       (s.session n).cache.find? (fun e => e.1 == (u.sessionReq n m).tag) = none → s.creditedRequest n m i = u.runMessage (u.sessionReq n m) m i)) ∧
  (∀ (s : State) x r i (u v : State) a m o, r ≤ 3 → (x ≤ 7 ∨ x = 0xFF) → a = s.get .MGP_OD_REQ_ADDR →
     u = (s.put .MGP_OD_CTRL_SESSION x).put .MGP_OD_CTRL_ROLE r →
     (a < 0x1000000 ∨ a + 1430 > 0x1400000 → exec (.secureOdAccess x r i) s = .next u) ∧
     (0x1000000 ≤ a → a + 1430 ≤ 0x1400000 →
       (r ≠ 3 → x ≠ 0xFF → (u.session x).st ≠ 2 → exec (.secureOdAccess x r i) s = .next u) ∧
       ((r = 3 ∨ x = 0xFF ∨ (u.session x).st = 2) → m = u.bytes a (16 + min 1414 (fieldLE (u.bytes a 16) 8 4)) → u.checkAccess agDeviceS akRead a m.length = (o, v) →
         (o = false → exec (.secureOdAccess x r i) s = .next v) ∧
         (o = true → exec (.secureOdAccess x r i) s = .next ((v.putBit .MGP_OD_STATUS_BUSY true).runMessage (v.firmwareReq x r m a) m i))))) ∧
  (∀ (s : State) x r i, r > 3 ∨ (x > 7 ∧ x ≠ 0xFF) → exec (.secureOdAccess x r i) s = .next s) ∧
  (∀ (s : State) n c m i, (n > 7 ∨ (s.session n).st ≠ 1 → exec (.dtlsHandshakeComplete n c) s = .next s) ∧
     ((s.session n).st = 0 → exec (.pueshIdleTimeout n) s = .next s) ∧
     (msgType m = 2 ∨ msgType m = 3 → exec (.read n m) s = .next s) ∧ (msgType m ≠ 2 → exec (.write n m i) s = .next s) ∧
     (msgType m ≠ 3 → exec (.close n m) s = .next s) ∧ (s.sessionLive n = false → s.message n m i = s)) ∧
  (∀ (s : State) n m i u q, (∀ e, (s.session n).credits ≠ 0 → u = s.setSession n { s.session n with credits := (s.session n).credits - 1 } → q = u.sessionReq n m →
       (s.session n).cache.find? (fun e => e.1 == q.tag) = some e → s.creditedRequest n m i = (u.queueReply q (msgType m + 0x80) 0 1 .ok (some e.2)).respond) ∧
     (s.sessionLive n = true → u = s.setSession n { s.session n with lastTick := s.time.tick } → msgType m ≠ 1 → msgType m ≠ 2 → msgOk m = false →
       s.message n m i = (u.queueReply (u.sessionReq n m) 0x8F 0 0 .type none).respond)) ∧
  (∀ (s : State) a b, ∀ c ∈ [Instr.read a b, .close a b], Answers c s (Kept [.readValue, .share, .owners, .pending] s)) ∧
  (∀ (s : State) a b d, Answers (.write a b d) s (Kept [.readValue, .share, .owners, .pending] s)) ∧
  (∀ (s : State) a b d, Answers (.secureOdAccess a b d) s (Kept [.readValue, .share, .owners, .pending] s)) ∧
  (∀ (s : State) a, ∀ c ∈ [Instr.pueshIdleTimeout a, .dtlsAlert a], Answers c s (Only [.evr, .agent, .mgp] s)) ∧
  (∀ (s : State) a, Answers (.clientHello a) s (Only [.mgp] s)) ∧
  (∀ (s : State) a b, Answers (.dtlsHandshakeComplete a b) s (Only [.evr, .agent, .mgp] s))

/-- A write reaches the register's own rules; in the HST block it wakes the unit from NAP. Of a register that only
holds what it is given, a write with a field out of its range changes nothing, and otherwise each field becomes:
RO, WO and W1S as before; RW the value written; W1C the old value less the bits written 1; RWS the value written
by the secure world only; LOCK the value written the first time only; the bits of no field stay. No other
register changes. A Bezel region committed with LOCK set ignores shadow writes, and each of the secure world's
is counted. Log entries 11, 33 and 45 name what is the model's choice or reading here. The closing clauses say
of the command named there, for every state and all operands, that it answers a next state and which pieces of
State it may change: every other piece is as it was. -/
def Obligations.RegisterWrites : Prop :=
  (∀ (s : State) w a v, ((a < 0x10C00000 ∨ 0x10C02000 ≤ a) → (a < 0x10C10000 ∨ 0x10C18000 ≤ a) → exec (.registerWrite w a v) s = .next (s.writeReg w a (v % 2 ^ 32))) ∧
     (0x10C00000 ≤ a → a < 0x10C02000 → exec (.registerWrite w a v) s = .next ((s.wakeNap 1).writeReg w a (v % 2 ^ 32))) ∧
     (0x10C10000 ≤ a → a < 0x10C18000 → a % 4 = 0 → exec (.registerWrite w a v) s = .next ((s.wakeNap 1).msixWrite ((a - 0x10C10000) / 4) (v % 2 ^ 32))) ∧
     (0x10C10000 ≤ a → a < 0x10C18000 → a % 4 ≠ 0 → exec (.registerWrite w a v) s = .next (s.writeReg w a (v % 2 ^ 32)))) ∧
  (∀ (s : State) w a v r, regRow a = some r → (r.admits w (BitVec.ofNat 32 v) = false → s.regStore w a v = s) ∧
     (r.admits w (BitVec.ofNat 32 v) = true → (s.regStore w a v).reg a = r.merge w (s.worlds.locked.contains a) (s.reg a) (BitVec.ofNat 32 v) ∧
       (∀ b, b ≠ a → (s.regStore w a v).reg b = s.reg b) ∧ (s.regStore w a v).mem = s.mem)) ∧
  (∀ r ∈ regTable, ∀ f ∈ r.fields, ∀ w b old v, getBits (r.merge w b old v) f.lo (f.hi - f.lo + 1) =
     match f.acc with
     | .rw => f.of v
     | .w1c => getBits old f.lo (f.hi - f.lo + 1) &&& (2 ^ (f.hi - f.lo + 1) - 1 - f.of v)
     | .rws => if w = .secure then f.of v else getBits old f.lo (f.hi - f.lo + 1)
     | .lock => if b then getBits old f.lo (f.hi - f.lo + 1) else f.of v
     | _ => getBits old f.lo (f.hi - f.lo + 1)) ∧
  (∀ r ∈ regTable, ∀ i < 32, (∀ f ∈ r.fields, i < f.lo ∨ f.hi < i) → ∀ w b old v, getBits (r.merge w b old v) i 1 = getBits old i 1) ∧
  (∀ (s : State) v n w, n < 256 → s.bzlActive (.BZL_RGNn_CTRL_LOCK n) = 1 → w < 16 →
     s.writeReg .secure (0x10001000 + 64 * n + 4 * w) v = s.count .BZL_LOCK_REFUSED_COUNT ∧ s.writeReg .normal (0x10001000 + 64 * n + 4 * w) v = s) ∧
  (∀ (s : State) a b d, Answers (.registerWrite a b d) s (Kept [.readValue, .pending] s))

/-- A write of an entry that fails a check of R503 changes nothing but its event and its answer, which is the first
check that failed. One that passes them all requests a checkpoint, starts the restore (asking a linked partner
for its head first), takes the beads presented, creates or accepts a domain, hands over, wakes the partner or
keeps this unit awake, and is answered OK. Log entries 35, 36, 39 and 71 name what is the model's choice or
reading here. The closing clauses say of each of the 8 commands named there, for every state and all operands,
that it answers a next state and which pieces of State it may change: every other piece is as it was. -/
def Obligations.StrandSettings : Prop :=
  (∀ (s : State) q v, s.passes q 0x5000 6 v = true → exec (.checkpointRequest q v) s = .next (((s.requestCheckpoint : State).addReply q (some .ok) [] none).2.respond)) ∧
  (∀ (s : State) q v, s.passes q 0x5010 4 v = true → exec (.restoreStart q v) s = .next ((((if s.linkUp then s.sendSealed 0x03 [] else s).restoreStart : State).addReply q (some .ok) [] none).2.respond)) ∧
  (∀ (s : State) q v (i : List StrandItem), s.passes q 0x5020 0x16 v = true → exec (.appendStart q i v) s = .next (((s.appendStart i : State).addReply q (some .ok) [] none).2.respond)) ∧
  (∀ (s : State) q v, s.passes q 0x5020 0x10 v = true → exec (.domainCreate q v) s = .next (((s.domainCreateEffect : State).addReply q (some .ok) [] none).2.respond)) ∧
  (∀ (s : State) q v, s.passes q 0x5020 0x12 v = true → exec (.domainAccept q v) s = .next (((s.domainAcceptEffect : State).addReply q (some .ok) [] none).2.respond)) ∧
  (∀ (s : State) q v, s.passes q 0x5020 0xd v = true → exec (.handover q v) s = .next (((s.handover : State).addReply q (some .ok) [] none).2.respond)) ∧
  (∀ (s : State) q v, s.passes q 0x5020 0xe v = true → exec (.wakePartner q v) s = .next (((s.wakePulse : State).addReply q (some .ok) [] none).2.respond)) ∧
  (∀ (s : State) q v, s.passes q 0x5020 0xf v = true → exec (.stayAwake q v) s = .next ((({ s with pair := { s.pair with stayAwake := true } } : State).addReply q (some .ok) [] none).2.respond)) ∧
  (∀ (s : State) q i b t (v : Bytes) (x : List StrandItem) r e, odRow i b = some r → s.writeFault q r i b t v = some e →
     s.odWrite q i b t v x = (s.refuseWrite q i b v e).respond) ∧
  (∀ (s : State) q v (x : List StrandItem) e, (s.failsWith q 0x5000 6 v = some e → exec (.checkpointRequest q v) s = .next ((s.refuseWrite q 0x5000 6 v e).respond)) ∧
     (s.failsWith q 0x5010 4 v = some e → exec (.restoreStart q v) s = .next ((s.refuseWrite q 0x5010 4 v e).respond)) ∧
     (s.failsWith q 0x5020 0x10 v = some e → exec (.domainCreate q v) s = .next ((s.refuseWrite q 0x5020 0x10 v e).respond)) ∧
     (s.failsWith q 0x5020 0x12 v = some e → exec (.domainAccept q v) s = .next ((s.refuseWrite q 0x5020 0x12 v e).respond)) ∧
     (s.failsWith q 0x5020 0xd v = some e → exec (.handover q v) s = .next ((s.refuseWrite q 0x5020 0xd v e).respond)) ∧
     (s.failsWith q 0x5020 0x16 v = some e → exec (.appendStart q x v) s = .next ((s.refuseWrite q 0x5020 0x16 v e).respond)) ∧
     (s.failsWith q 0x5020 0xe v = some e → exec (.wakePartner q v) s = .next ((s.refuseWrite q 0x5020 0xe v e).respond)) ∧
     (s.failsWith q 0x5020 0xf v = some e → exec (.stayAwake q v) s = .next ((s.refuseWrite q 0x5020 0xf v e).respond))) ∧
  (∀ (s : State) q i b v, s.passes q i b v = (s.failsWith q i b v).isNone) ∧
  (∀ (s : State) a b, ∀ c ∈ [Instr.checkpointRequest a b, .restoreStart a b, .domainCreate a b, .domainAccept a b, .handover a b, .wakePartner a b, .stayAwake a b], Answers c s (Kept [.readValue, .share, .owners, .pending] s)) ∧
  (∀ (s : State) a b d, Answers (.appendStart a b d) s (Kept [.readValue, .share, .owners, .pending] s))

/-- An accepted write opens or cancels a signet, arms a zeroise, hands a PIN to its port, stores the identity
certificate, closes a session, begins SLEEP or enters NAP where nothing bars it, names the next pulse, or
presents a debug token, and is answered OK; a NAP that is barred and a token that is refused answer wrong state.
NEXT_RECORD is a read of its entry by its reader, answered with what the read gives. A write that fails a check
changes nothing but its event and its answer, the first check that failed. Log entries 38, 39, 90, 92 and 93
name what is the model's choice or reading here. The closing clauses say of each of the 11 commands named there,
for every state and all operands, that it answers a next state and which pieces of State it may change: every
other piece is as it was. -/
def Obligations.OfficerSettings : Prop :=
  (∀ (s : State) q v, s.passes q 0x1100 2 v = true → exec (.signetOpen q v) s = .next (((s.signetOpenEffect v : State).addReply q (some .ok) [] none).2.respond)) ∧
  (∀ (s : State) q v, s.passes q 0x1100 3 v = true → exec (.signetCancel q v) s = .next ((((if s.officers.signet.live then s.cancelSignet else s) : State).addReply q (some .ok) [] none).2.respond)) ∧
  (∀ (s : State) q v, s.passes q 0x1100 0xe v = true → exec (.zeroiseArm q v) s = .next (((s.armZeroise : State).addReply q (some .ok) [] none).2.respond)) ∧
  (∀ (s : State) q v, s.passes q 0xF000 3 v = true → exec (.identityCertWrite q v) s = .next ((({ s with lcs := { s.lcs with cert := v } } : State).addReply q (some .ok) [] none).2.respond)) ∧
  (∀ (s : State) q v, s.passes q 0x8000 3 v = true → exec (.sleepRequest q v) s = .next (((s.beginSleep : State).addReply q (some .ok) [] none).2.respond)) ∧
  (∀ (s : State) q v p, p ≤ 1 → s.passes q 0x1100 (if p = 0 then 0xB else 0xC) v = true →
     exec (.pinWrite q p v) s = .next (((s.pinWrite p).addReply q (some .ok) [] none).2.respond)) ∧
  (∀ (s : State) q n v, n ≤ 7 → s.passes q (0xA020 + n) 8 v = true → exec (.sessionCloseWrite q n v) s =
     .next (((s.closeSession n).addReply q (some .ok) [] none).2.respond)) ∧
  (∀ (s : State) q v u, s.passes q 0x6010 1 v = true → (s.writeDetail q 0).2 = u → exec (.nextPulseTai q v) s =
     .next (((u.nextPulse (leNat v) (s.writeDetail q 0).1).addReply q (some .ok) [] none).2.respond)) ∧
  (∀ (s : State) q v, s.passes q 0x8000 2 v = true → ((s.requestNap false).power.mode = .nap →
       exec (.napRequest q v) s = .next (((s.requestNap false).addReply q (some .ok) [] none).2.respond)) ∧
     ((s.requestNap false).power.mode ≠ .nap → exec (.napRequest q v) s = .next (((s.requestNap false).refuseWrite q 0x8000 2 v .wrongState).respond))) ∧
  (∀ (s : State) q v u, s.passes q 0x9030 2 v = true →
     (s.debugToken v = (none, u) → exec (.debugToken q v) s = .next ((u.addReply q (some .ok) [] none).2.respond)) ∧
     (∀ e, s.debugToken v = (some e, u) → exec (.debugToken q v) s = .next ((u.refuseWrite q 0x9030 2 v e).respond))) ∧
  (∀ (s : State) q o c x b u, s.odRead q 0x6030 2 o c = (x, b, u) → exec (.nextRecord q o c) s =
     .next (({ u with agent := { u.agent with replies := u.agent.replies ++ [{ num := u.agent.nextReply, req := q, result := some x, bead := 0, output := b, badDetail := none, kind := 0x81 }], nextReply := u.agent.nextReply + 1 } } : State).respond)) ∧
  (∀ (s : State) q v k e, (s.failsWith q 0x1100 (if k = 0 then 0xB else 0xC) v = some e → exec (.pinWrite q k v) s = .next ((s.refuseWrite q 0x1100 (if k = 0 then 0xB else 0xC) v e).respond)) ∧
     (s.failsWith q 0x1100 2 v = some e → exec (.signetOpen q v) s = .next ((s.refuseWrite q 0x1100 2 v e).respond)) ∧
     (s.failsWith q 0x1100 3 v = some e → exec (.signetCancel q v) s = .next ((s.refuseWrite q 0x1100 3 v e).respond)) ∧
     (s.failsWith q 0x1100 0xe v = some e → exec (.zeroiseArm q v) s = .next ((s.refuseWrite q 0x1100 0xe v e).respond)) ∧
     (s.failsWith q 0xF000 3 v = some e → exec (.identityCertWrite q v) s = .next ((s.refuseWrite q 0xF000 3 v e).respond)) ∧
     (s.failsWith q 0x9030 2 v = some e → exec (.debugToken q v) s = .next ((s.refuseWrite q 0x9030 2 v e).respond)) ∧
     (s.failsWith q 0x6010 1 v = some e → exec (.nextPulseTai q v) s = .next ((s.refuseWrite q 0x6010 1 v e).respond)) ∧
     (s.failsWith q (0xA020 + k) 8 v = some e → exec (.sessionCloseWrite q k v) s = .next ((s.refuseWrite q (0xA020 + k) 8 v e).respond)) ∧
     (s.failsWith q 0x8000 2 v = some e → exec (.napRequest q v) s = .next ((s.refuseWrite q 0x8000 2 v e).respond)) ∧
     (s.failsWith q 0x8000 3 v = some e → exec (.sleepRequest q v) s = .next ((s.refuseWrite q 0x8000 3 v e).respond))) ∧
  (∀ (s : State) a b d, ∀ c ∈ [Instr.pinWrite a b d, .sessionCloseWrite a b d], Answers c s (Kept [.readValue, .share, .owners, .pending] s)) ∧
  (∀ (s : State) a b, ∀ c ∈ [Instr.signetOpen a b, .signetCancel a b, .zeroiseArm a b, .identityCertWrite a b, .debugToken a b, .nextPulseTai a b, .napRequest a b, .sleepRequest a b], Answers c s (Kept [.readValue, .share, .owners, .pending] s)) ∧
  (∀ (s : State) a b d, Answers (.nextRecord a b d) s (Only [.regs, .mem, .free, .host, .admin, .evr, .store, .agent, .power, .mgp] s))

/-- A write that needs a signet consumes it and then acts: it accepts a rollback, sends the domain, discards the
time anchor, releases archived events or disarms loops. A unit-local write acts at once, its record joins the
open bead or waits for one, and it is answered OK: loops are armed, a response raised, a management key made, a
certificate stored. A persistent write is one record at the end of the open bead, and its answer is held for the
seal: the migration floor, an owner's epoch. A write that fails a check changes nothing but its event and its
answer, the first check that failed. Log entries 15 and 39 name what is the model's choice or reading here. The
closing clauses say of each of the 11 commands named there, for every state and all operands, that it answers a
next state and which pieces of State it may change: every other piece is as it was. -/
def Obligations.SignetSettings : Prop :=
  (∀ (s : State) q v g u, s.passes q 0x5010 6 v = true → s.consumeSignet = (g, u) → exec (.rollbackAccept q v) s = .next ((((u.odStore 0x5010 6 (some v)).rollbackAccept g : State).addReply q (some .ok) [] none).2.respond)) ∧
  (∀ (s : State) q v g u, s.passes q 0x5020 0x11 v = true → s.consumeSignet = (g, u) → exec (.domainSend q v) s = .next ((((u.odStore 0x5020 0x11 (some v)).domainSendEffect (leNat v) : State).addReply q (some .ok) [] none).2.respond)) ∧
  (∀ (s : State) q v g u, s.passes q 0x6010 2 v = true → s.consumeSignet = (g, u) → exec (.todReset q v) s = .next (((u.discardAnchor : State).addReply q (some .ok) [] none).2.respond)) ∧
  (∀ (s : State) q v g u, s.passes q 0x6031 3 v = true → s.consumeSignet = (g, u) → exec (.archiveRelease q v) s = .next (((u.archiveRelease (leNat v) : State).addReply q (some .ok) [] none).2.respond)) ∧
  (∀ (s : State) q v g u, s.passes q 0x7000 4 v = true → s.consumeSignet = (g, u) → exec (.loopsDisarm q v) s =
     .next ((((u.loopsDisarm (leNat v)).queueRec (u.writeRec q 0x7000 4 OdType.u8.code v g none)).addReply q (some .ok) [] none).2.respond)) ∧
  (∀ (s : State) q v, s.passes q 0x7000 3 v = true → exec (.loopsArm q v) s =
     .next ((((s.loopsArm (leNat v)).queueRec (s.writeRec q 0x7000 3 OdType.u8.code v [] none)).addReply q (some .ok) [] none).2.respond)) ∧
  (∀ (s : State) q n v, n < 24 → s.passes q (0x7010 + n) 2 v = true → exec (.responseRaise q n v) s =
     .next ((((s.setResponse n (leNat v)).queueRec (s.writeRec q (0x7010 + n) 2 OdType.u8.code v [] none)).addReply q (some .ok) [] none).2.respond)) ∧
  (∀ (s : State) q v, (s.passes q 0xA030 1 v = true → exec (.mgmtKeyGenerate q v) s =
       .next (((s.mgmtKeyMake.queueRec (s.writeRec q 0xA030 1 OdType.u8.code v [] none)).addReply q (some .ok) [] none).2.respond)) ∧
     (s.passes q 0xA030 3 v = true → exec (.mgmtCert q v) s =
       .next ((((s.odStore 0xA030 3 (some v)).queueRec (s.writeRec q 0xA030 3 (OdType.octet 2048).code v [] none)).addReply q (some .ok) [] none).2.respond))) ∧
  (∀ (s : State) q v u, u = (s.addReply q none [] none).2 → s.passes q 0xB040 8 v = true → exec (.migrateFloor q v) s =
     .next ((u.joinRec (u.writeRec q 0xB040 8 OdType.u8.code v [] (some s.agent.nextReply))).2.respond)) ∧
  (∀ (s : State) q n v u, 1 ≤ n → n < 4096 → u = (s.addReply q none [] none).2 → s.passes q (0x4000 + n) 4 v = true → exec (.ownerEpoch q n v) s =
     .next ((u.joinRec (u.writeRec q (0x4000 + n) 4 OdType.u32.code v [] (some s.agent.nextReply))).2.respond)) ∧
  (∀ (s : State) q v k e, (s.failsWith q 0x5010 6 v = some e → exec (.rollbackAccept q v) s = .next ((s.refuseWrite q 0x5010 6 v e).respond)) ∧
     (s.failsWith q 0xB040 8 v = some e → exec (.migrateFloor q v) s = .next ((s.refuseWrite q 0xB040 8 v e).respond)) ∧
     (s.failsWith q (0x4000 + k) 4 v = some e → exec (.ownerEpoch q k v) s = .next ((s.refuseWrite q (0x4000 + k) 4 v e).respond)) ∧
     (s.failsWith q 0x5020 0x11 v = some e → exec (.domainSend q v) s = .next ((s.refuseWrite q 0x5020 0x11 v e).respond)) ∧
     (s.failsWith q 0x7000 3 v = some e → exec (.loopsArm q v) s = .next ((s.refuseWrite q 0x7000 3 v e).respond)) ∧
     (s.failsWith q 0x7000 4 v = some e → exec (.loopsDisarm q v) s = .next ((s.refuseWrite q 0x7000 4 v e).respond)) ∧
     (s.failsWith q (0x7010 + k) 2 v = some e → exec (.responseRaise q k v) s = .next ((s.refuseWrite q (0x7010 + k) 2 v e).respond)) ∧
     (s.failsWith q 0x6010 2 v = some e → exec (.todReset q v) s = .next ((s.refuseWrite q 0x6010 2 v e).respond)) ∧
     (s.failsWith q 0x6031 3 v = some e → exec (.archiveRelease q v) s = .next ((s.refuseWrite q 0x6031 3 v e).respond)) ∧
     (s.failsWith q 0xA030 1 v = some e → exec (.mgmtKeyGenerate q v) s = .next ((s.refuseWrite q 0xA030 1 v e).respond)) ∧
     (s.failsWith q 0xA030 3 v = some e → exec (.mgmtCert q v) s = .next ((s.refuseWrite q 0xA030 3 v e).respond))) ∧
  (∀ (s : State) a b, ∀ c ∈ [Instr.rollbackAccept a b, .migrateFloor a b, .domainSend a b, .loopsArm a b, .loopsDisarm a b, .todReset a b, .archiveRelease a b, .mgmtKeyGenerate a b, .mgmtCert a b], Answers c s (Kept [.readValue, .share, .owners, .pending] s)) ∧
  (∀ (s : State) a b d, ∀ c ∈ [Instr.ownerEpoch a b d, .responseRaise a b d], Answers c s (Kept [.readValue, .share, .owners, .pending] s))

/-- An accepted write of a limited-write setting consumes its signet where it needs one, its record joins the open
bead or waits for one, and the programming its value names begins; its answer is due when that ends.
PROVISION_RUN draws the secrets and SIGNER0 programs slot 0 in BLANK. What each entry programs, and what a
programming leaves when it ends: the life-cycle word in three copies and one step more, a signer's hashes, a
revoked signer, the SVN floor, the two fuses, the identity; the waiting write is answered OK. A write that fails
a check changes nothing but its event and its answer, the first check that failed. Log entries 32 and 39 name
what is the model's choice or reading here. The closing clauses say of each of the 9 commands named there, for
every state and all operands, that it answers a next state and which pieces of State it may change: every other
piece is as it was. -/
def Obligations.LimitedWrites : Prop :=
  (∀ (s : State) q v g u w x, s.passes q 0x9000 2 v = true → s.paid 0x9000 2 = (g, u) → w = (u.addReply q none [] none).2 → x = w.queueRec (u.writeRec q 0x9000 2 OdType.u8.code v g none) →
     exec (.lifecycleNext q v) s = .next ((x.programs u.agent.nextReply 0x9000 2 v).respond)) ∧
  (∀ (s : State) q k v g u w x, k ≤ 3 → s.passes q (0x9010 + k) 1 v = true → s.paid (0x9010 + k) 1 = (g, u) → w = (u.addReply q none [] none).2 → x = w.queueRec (u.writeRec q (0x9010 + k) 1 (OdType.octet 64).code v g none) →
     exec (.signerHashes q k v) s = .next ((x.programs u.agent.nextReply (0x9010 + k) 1 v).respond)) ∧
  (∀ (s : State) q k v g u w x, k ≤ 3 → s.passes q (0x9010 + k) 2 v = true → s.paid (0x9010 + k) 2 = (g, u) → w = (u.addReply q none [] none).2 → x = w.queueRec (u.writeRec q (0x9010 + k) 2 OdType.u8.code v g none) →
     exec (.signerRevoke q k v) s = .next ((x.programs u.agent.nextReply (0x9010 + k) 2 v).respond)) ∧
  (∀ (s : State) q v g u w x, s.passes q 0x9020 1 v = true → s.paid 0x9020 1 = (g, u) → w = (u.addReply q none [] none).2 → x = w.queueRec (u.writeRec q 0x9020 1 OdType.u8.code v g none) →
     exec (.svnFloor q v) s = .next ((x.programs u.agent.nextReply 0x9020 1 v).respond)) ∧
  (∀ (s : State) q v g u w x, s.passes q 0x9021 1 v = true → s.paid 0x9021 1 = (g, u) → w = (u.addReply q none [] none).2 → x = w.queueRec (u.writeRec q 0x9021 1 OdType.bool.code v g none) →
     exec (.cosigRequired q v) s = .next ((x.programs u.agent.nextReply 0x9021 1 v).respond)) ∧
  (∀ (s : State) q v g u w x, s.passes q 0x9022 1 v = true → s.paid 0x9022 1 = (g, u) → w = (u.addReply q none [] none).2 → x = w.queueRec (u.writeRec q 0x9022 1 OdType.bool.code v g none) →
     exec (.compatDisable q v) s = .next ((x.programs u.agent.nextReply 0x9022 1 v).respond)) ∧
  (∀ (s : State) q v n u, s.agent.nextReply = n → u = (s.addReply q none [] none).2 →
     (s.passes q 0xF000 1 v = true → exec (.provisionRun q v) s = .next ((u.provisionRun n).respond)) ∧
     (s.passes q 0xF000 2 v = true → exec (.signer0 q v) s = .next ((u.startOtp (.signer 0 (padTo 64 v)) n).respond))) ∧
  (∀ (s : State) w n (u v : State), s.lcs.programming = some (w, n) → u = ({ s with lcs := { s.lcs.complete w with programming := none } } : State).showOtp →
     ((∀ x d l, w ≠ .install x d l) → v = u) → (∀ x d, w = .install x d [] → v = u.installReceived x d) → (∀ x d a l, w = .install x d (a :: l) → v = u.installCreated x d (a :: l)) →
     (n = none → exec .otpProgramComplete s = .next v) ∧ (∀ k, n = some k → exec .otpProgramComplete s = .next (((v.answer k .ok 0).flushReplies).settleMailbox))) ∧
  (∀ (s : State), s.lcs.programming = none → exec .otpProgramComplete s = .next s) ∧
  (∀ (s : State) v n, s.lcs.programming = none → n = leNat v →
     (s.lifecycleNextOk n = true → s.limitedWrite 0x9000 2 v = some (.lifeCycle n)) ∧
     (∀ k, 1 ≤ k → k ≤ 3 → (s.lcs.slot k).state = 0 → s.limitedWrite (0x9010 + k) 1 v = some (.signer k (padTo 64 v))) ∧
     (s.lcs.floor ≤ n → n ≤ s.svn → s.limitedWrite 0x9020 1 v = some (.svnFloor n)) ∧
     (n = 1 → s.lcs.compat = false → s.lcs.running = true → s.bit .LCS_BOOT_COMPAT = false → s.limitedWrite 0x9022 1 v = some .compat)) ∧
  (∀ (s : State) q v k e, (s.failsWith q 0x9000 2 v = some e → exec (.lifecycleNext q v) s = .next ((s.refuseWrite q 0x9000 2 v e).respond)) ∧
     (s.failsWith q (0x9010 + k) 1 v = some e → exec (.signerHashes q k v) s = .next ((s.refuseWrite q (0x9010 + k) 1 v e).respond)) ∧
     (s.failsWith q (0x9010 + k) 2 v = some e → exec (.signerRevoke q k v) s = .next ((s.refuseWrite q (0x9010 + k) 2 v e).respond)) ∧
     (s.failsWith q 0x9020 1 v = some e → exec (.svnFloor q v) s = .next ((s.refuseWrite q 0x9020 1 v e).respond)) ∧
     (s.failsWith q 0x9021 1 v = some e → exec (.cosigRequired q v) s = .next ((s.refuseWrite q 0x9021 1 v e).respond)) ∧
     (s.failsWith q 0x9022 1 v = some e → exec (.compatDisable q v) s = .next ((s.refuseWrite q 0x9022 1 v e).respond)) ∧
     (s.failsWith q 0xF000 1 v = some e → exec (.provisionRun q v) s = .next ((s.refuseWrite q 0xF000 1 v e).respond)) ∧
     (s.failsWith q 0xF000 2 v = some e → exec (.signer0 q v) s = .next ((s.refuseWrite q 0xF000 2 v e).respond))) ∧
  (∀ (s : State) a b, ∀ c ∈ [Instr.lifecycleNext a b, .svnFloor a b, .cosigRequired a b, .compatDisable a b, .provisionRun a b, .signer0 a b], Answers c s (Kept [.readValue, .share, .owners, .pending] s)) ∧
  (∀ (s : State) a b d, ∀ c ∈ [Instr.signerHashes a b d, .signerRevoke a b d], Answers c s (Kept [.readValue, .share, .owners, .pending] s)) ∧
  (∀ (s : State), Answers .otpProgramComplete s (Only [.regs, .mem, .free, .host, .admin, .evr, .strand, .store, .ladder, .agent, .bb, .lcs, .rng, .power, .pair, .mgp] s))

/-- EVR_POST_S with a code from 0xF000 to 0xFEFF at any severity, and EVR_POST_N with a code from 0xFF00 to 0xFFFF
at INFO to WARNING, post an event of that code and severity with the value the LO and HI registers hold; it is
gathered as every other event. Of a post outside these limits only the register keeps its severity: nothing is
recorded. The closing clauses say of each of the 2 commands named there, for every state and all operands, that
it answers a next state and which pieces of State it may change: every other piece is as it was. -/
def Obligations.EventPosts : Prop :=
  (∀ (s : State) sev code, 0xF000 ≤ code → code ≤ 0xFEFF → sev ≤ sevCritical → exec (.evrPostS sev code) s =
     .next ((s.put .EVR_POST_S_SEVERITY sev).event code sev ((s.put .EVR_POST_S_SEVERITY sev).get64 .EVR_POST_S_LO_VALUE .EVR_POST_S_HI_VALUE) [])) ∧
  (∀ (s : State) sev code, (code < 0xF000 ∨ 0xFEFF < code ∨ sevCritical < sev) → exec (.evrPostS sev code) s = .next (s.put .EVR_POST_S_SEVERITY sev)) ∧
  (∀ (s : State) sev code, 0xFF00 ≤ code → code ≤ 0xFFFF → sev ≤ sevWarning → exec (.evrPostN sev code) s =
     .next ((s.put .EVR_POST_N_SEVERITY sev).event code sev ((s.put .EVR_POST_N_SEVERITY sev).get64 .EVR_POST_N_LO_VALUE .EVR_POST_N_HI_VALUE) [])) ∧
  (∀ (s : State) sev code, (code < 0xFF00 ∨ 0xFFFF < code ∨ sevWarning < sev) → exec (.evrPostN sev code) s = .next (s.put .EVR_POST_N_SEVERITY sev)) ∧
  (∀ (s : State) a b, ∀ c ∈ [Instr.evrPostS a b, .evrPostN a b], Answers c s (Only [.regs, .evr] s))

/-- An occurrence that joins its record raises by one (the count saturates, R472) the bin b of HIST for which the
highest set bit of the value lies from bit 8b to bit 8b + 7, bin 0 for a value of 0, and no other bin. The first
occurrence of a code and severity, where a slot is free, makes a record whose HIST counts that value alone. For
values of 64 bits the bin is one of the eight. -/
def Obligations.EventBins : Prop :=
  (∀ r v tick st b, r.hist.length = 8 → b < 8 → v < 2 ^ 64 →
     (EventRec.joinOcc r v tick st).hist.getD b 0 =
       (if (v = 0 ∧ b = 0) ∨ (v ≠ 0 ∧ 8 * b ≤ Nat.log2 v ∧ Nat.log2 v ≤ 8 * b + 7) then sat32 (r.hist.getD b 0) else r.hist.getD b 0)) ∧
  (∀ (s : State) code sev v d, (s.evList.find? (fun e => e.2.isOpen && e.2.code == code && e.2.severity == sev)) = none → ∀ k, (4 ≤ sev ∨ s.evOpened code < 4) → s.evTake sev = some k →
     (s.event code sev v d).evSlot k =
       some { code := code, severity := sev, isOpen := true, unpowered := false, short := false, archived := false, timeState := timeCodeRec s.time.state, seq := s.evr.nextSeq, windowStart := s.time.window.start, minute := s.time.window.minute, count := 1, firstTick := s.time.tick, lastTick := s.time.tick, least := v, most := v, firstValue := v, lastValue := v, valueOr := v, hist := (List.replicate 8 0).set (histBin v) 1, surplusIn := mget (fun _ => 0) s.evr.folded code, detail := padTo 384 d })

/-- In the life cycles FIELD, ANALYSIS and SCRAP a read of RNG_TEST, RNG_RAW_SEL or RNG_RAW_DATA by either world,
with debug open or not, gives 0 and changes nothing; a register write to RNG_TEST or RNG_RAW_SEL, and
RNG_TEST_SELECT, change nothing; RNG_RAW_DATA_READ reads zero. -/
def Obligations.RngTestRegisters : Prop :=
  (∀ (s : State) w d, (s.lifeCycle = lcField ∨ s.lifeCycle = lcAnalysis ∨ s.lifeCycle = lcScrap) → ∀ a ∈ [0x10500050, 0x1050005C, 0x10500060], s.readReg w d a = (0, s)) ∧
  (∀ (s : State) w v, (s.lifeCycle = lcField ∨ s.lifeCycle = lcAnalysis ∨ s.lifeCycle = lcScrap) → exec (.registerWrite w 0x10500050 v) s = .next s ∧ exec (.registerWrite w 0x1050005C v) s = .next s) ∧
  (∀ (s : State) sel src, (s.lifeCycle = lcField ∨ s.lifeCycle = lcAnalysis ∨ s.lifeCycle = lcScrap) → exec (.rngTestSelect sel src) s = .next s ∧ exec .rngRawDataRead s = .next { s with readValue := 0 })

/-- After reset the Bezel generation committed and active is 0, every word of the active table is that of the shadow
table, region 255 is enabled with base 0, SIZE_LOG2 40 and facet words 0x0003_FFFF, and every other region is
disabled. Main reset from any state brings back both tables, the generations and the committed world settings as
they are after reset. What secure firmware must do before SERVICE (the last sentence of R399) is no rule for the
part. -/
def Obligations.ResetBezel : Prop :=
  (State.reset.get .BZL_GEN_COMMITTED_GEN = 0 ∧ State.reset.get .BZL_GEN_ACTIVE_GEN = 0 ∧
     (∀ a, mget regReset State.reset.worlds.bzl a = State.reset.reg a) ∧
     State.reset.get (.BZL_RGNn_CTRL_ENABLE 255) = 1 ∧ State.reset.get (.BZL_RGNn_BASE_LO_ADDR 255) = 0 ∧ State.reset.get (.BZL_RGNn_BASE_HI_ADDR 255) = 0 ∧
     State.reset.get (.BZL_RGNn_CTRL_SIZE_LOG2 255) = 40 ∧ (∀ f < 8, State.reset.reg (Fld.BZL_RGNn_FACETf_CPU_S 255 f).addr = 0x3FFFF#32) ∧
     (∀ n < 255, State.reset.get (.BZL_RGNn_CTRL_ENABLE n) = 0)) ∧
  (∀ (s : State), s.mainReset.worlds = State.reset.worlds ∧ ∀ a, 0x10000000 ≤ a → a < 0x10200000 → s.mainReset.reg a = State.reset.reg a)

/-- A write of bytes at an address leaves those bytes there and every other byte as it was, and changes nothing but
memory; it keeps the listed form. For every key and line address the unmix of a scrambled line of eight words is
the line (R235). Log entry 2 names what is the model's choice or reading here. -/
def Obligations.MemoryLaws : Prop :=
  (∀ (s : State) a b x, (s.setBytes a b).byte x = (if a ≤ x ∧ x < a + b.length then b.getD (x - a) 0#8 else s.byte x) ∧
     s.setBytes a b = { s with mem := (s.setBytes a b).mem } ∧ (s.Inv → (s.setBytes a b).Inv)) ∧
  (∀ k t w, List.length w = 8 → unscrambleLine k t (scrambleLine k t w) = w)

/-- For every command of the table with any operands and for every state, exec answers a next state: no command
faults and none is refused. From a state whose memory is in its listed form the answer has the same queue of
waiting commands and its memory is in that form. The queue is the model's own (log entry 28). Log entry 6 names
what is the model's choice or reading here. -/
def Obligations.CommandsAnswer : Prop :=
  (∀ (c : Instr) s, ∃ (t : State), exec c s = .next t) ∧
  (∀ (c : Instr) s, s.Inv → ∃ (t : State), exec c s = .next t ∧ t.Inv ∧ t.pending = s.pending)

/-- For every command c and every state with c at the front of its queue, step answers what exec answers for c on
the state with the rest of the queue. On an empty queue step answers the same state: the model's choice, log
entry 27. -/
def Obligations.StepRunsFront : Prop :=
  (∀ (s : State) c rest, s.pending = c :: rest → step s = exec c { s with pending := rest }) ∧
  (∀ (s : State), s.pending = [] → step s = .next s)

/-- The state after reset has its memory in the listed form and an empty queue; it lists nothing, so every byte
reads zero (log entry 2 names the value). -/
def Obligations.ResetKeepsForm : Prop :=
  State.reset.Inv ∧ State.reset.pending = [] ∧ ∀ a, State.reset.byte a = 0#8

/-- For every state whose memory is in its listed form (addresses rising, no listed byte equal to what an unlisted
one reads as), a step that answers a next state answers one in that form, whatever command is at the front, and
its queue is the tail of the queue before. A run of any number of steps from such a state never faults and is
never refused, and every state it passes is in the form. Log entries 2 and 28 name what is the model's choice or
reading here. -/
def Obligations.StepKeepsForm : Prop :=
  (∀ (s : State) t, s.Inv → step s = .next t → t.Inv ∧ t.pending = s.pending.tail) ∧
  (∀ n s, s.Inv → SafeFor n s)
end

