-- ==== Sys2Proof/Laws/Bits.lean ====
section
/-! SUPPORT. Bit fields of a register: a field read after it, or another field, is written. -/

namespace Sys2Proof.Machine

theorem getBits_lt (r : Word) (lo w : Nat) : getBits r lo w < 2 ^ w := Nat.mod_lt _ (Nat.two_pow_pos w)

theorem setBits_nat (r : Word) (lo w v : Nat) (h : lo + w ≤ 32) :
    (setBits r lo w v).toNat = r.toNat % 2 ^ lo + (v % 2 ^ w) * 2 ^ lo + r.toNat / 2 ^ (lo + w) * 2 ^ (lo + w) := by
  have h1 : r.toNat % 2 ^ lo < 2 ^ lo := Nat.mod_lt _ (Nat.two_pow_pos lo)
  have h2 : v % 2 ^ w < 2 ^ w := Nat.mod_lt _ (Nat.two_pow_pos w)
  have h3 : r.toNat < 2 ^ 32 := r.isLt
  have h4 : 2 ^ (lo + w) = 2 ^ lo * 2 ^ w := Nat.pow_add 2 lo w
  have h5 : 2 ^ 32 = 2 ^ (lo + w) * 2 ^ (32 - (lo + w)) := by rw [← Nat.pow_add]; congr 1; omega
  have h6 : r.toNat / 2 ^ (lo + w) < 2 ^ (32 - (lo + w)) := by
    rw [Nat.div_lt_iff_lt_mul (Nat.two_pow_pos _), Nat.mul_comm, ← h5]; exact h3
  have h7 : r.toNat % 2 ^ lo + (v % 2 ^ w) * 2 ^ lo < 2 ^ (lo + w) := by
    rw [h4]
    calc r.toNat % 2 ^ lo + (v % 2 ^ w) * 2 ^ lo < 2 ^ lo + (v % 2 ^ w) * 2 ^ lo := by omega
      _ = (v % 2 ^ w + 1) * 2 ^ lo := by rw [Nat.add_mul]; omega
      _ ≤ 2 ^ w * 2 ^ lo := Nat.mul_le_mul_right _ h2
      _ = 2 ^ lo * 2 ^ w := Nat.mul_comm _ _
  have h8 : r.toNat % 2 ^ lo + (v % 2 ^ w) * 2 ^ lo + r.toNat / 2 ^ (lo + w) * 2 ^ (lo + w) < 2 ^ 32 := by
    calc _ < 2 ^ (lo + w) + r.toNat / 2 ^ (lo + w) * 2 ^ (lo + w) := by omega
      _ = (r.toNat / 2 ^ (lo + w) + 1) * 2 ^ (lo + w) := by rw [Nat.add_mul]; omega
      _ ≤ 2 ^ (32 - (lo + w)) * 2 ^ (lo + w) := Nat.mul_le_mul_right _ h6
      _ = 2 ^ 32 := by rw [Nat.mul_comm, ← h5]
  unfold setBits
  rw [BitVec.toNat_ofNat, Nat.mod_eq_of_lt h8]

/-- A field read after it is written. -/
theorem getBits_setBits_same (r : Word) (lo w v : Nat) (h : lo + w ≤ 32) :
    getBits (setBits r lo w v) lo w = v % 2 ^ w := by
  have h1 : r.toNat % 2 ^ lo < 2 ^ lo := Nat.mod_lt _ (Nat.two_pow_pos lo)
  have e : r.toNat % 2 ^ lo + v % 2 ^ w * 2 ^ lo + r.toNat / 2 ^ (lo + w) * 2 ^ (lo + w) =
      r.toNat % 2 ^ lo + 2 ^ lo * (v % 2 ^ w + r.toNat / 2 ^ (lo + w) * 2 ^ w) := by
    rw [Nat.pow_add]; ring
  unfold getBits
  rw [setBits_nat r lo w v h, e, Nat.add_mul_div_left _ _ (Nat.two_pow_pos lo), Nat.div_eq_of_lt h1, Nat.zero_add,
    Nat.add_mul_mod_self_right, Nat.mod_mod]

/-- A field below the one written. -/
theorem getBits_setBits_below (r : Word) (lo w v lo' w' : Nat) (h : lo + w ≤ 32) (hb : lo' + w' ≤ lo) :
    getBits (setBits r lo w v) lo' w' = getBits r lo' w' := by
  unfold getBits
  rw [setBits_nat r lo w v h]
  have key : ∀ n : Nat, n / 2 ^ lo' % 2 ^ w' = (n % 2 ^ (lo' + w')) / 2 ^ lo' := by
    intro n
    rw [Nat.pow_add, Nat.mod_mul_right_div_self]
  rw [key, key]
  congr 1
  have d1 : 2 ^ (lo' + w') ∣ 2 ^ lo := Nat.pow_dvd_pow 2 hb
  have d2 : 2 ^ (lo' + w') ∣ 2 ^ (lo + w) := Nat.pow_dvd_pow 2 (by omega)
  have e1 : v % 2 ^ w * 2 ^ lo % 2 ^ (lo' + w') = 0 := Nat.mod_eq_zero_of_dvd (Dvd.dvd.mul_left d1 _)
  have e2 : r.toNat / 2 ^ (lo + w) * 2 ^ (lo + w) % 2 ^ (lo' + w') = 0 := Nat.mod_eq_zero_of_dvd (Dvd.dvd.mul_left d2 _)
  rw [Nat.add_mod, e2, Nat.add_mod (r.toNat % 2 ^ lo), e1]
  simp only [Nat.add_zero, Nat.mod_mod]
  exact Nat.mod_mod_of_dvd _ d1

/-- A field above the one written. -/
theorem getBits_setBits_above (r : Word) (lo w v lo' w' : Nat) (h : lo + w ≤ 32) (hb : lo + w ≤ lo') :
    getBits (setBits r lo w v) lo' w' = getBits r lo' w' := by
  unfold getBits
  rw [setBits_nat r lo w v h]
  congr 1
  have h1 : r.toNat % 2 ^ lo < 2 ^ lo := Nat.mod_lt _ (Nat.two_pow_pos lo)
  have h2 : v % 2 ^ w < 2 ^ w := Nat.mod_lt _ (Nat.two_pow_pos w)
  have h7 : r.toNat % 2 ^ lo + (v % 2 ^ w) * 2 ^ lo < 2 ^ (lo + w) := by
    rw [Nat.pow_add]
    calc r.toNat % 2 ^ lo + (v % 2 ^ w) * 2 ^ lo < 2 ^ lo + (v % 2 ^ w) * 2 ^ lo := by omega
      _ = (v % 2 ^ w + 1) * 2 ^ lo := by rw [Nat.add_mul]; omega
      _ ≤ 2 ^ w * 2 ^ lo := Nat.mul_le_mul_right _ h2
      _ = 2 ^ lo * 2 ^ w := Nat.mul_comm _ _
  have e : 2 ^ lo' = 2 ^ (lo + w) * 2 ^ (lo' - (lo + w)) := by rw [← Nat.pow_add]; congr 1; omega
  rw [e, ← Nat.div_div_eq_div_mul, ← Nat.div_div_eq_div_mul, Nat.add_mul_div_right _ _ (Nat.two_pow_pos _),
    Nat.div_eq_of_lt h7, Nat.zero_add]

end Sys2Proof.Machine
end

