-- ==== Sys2Proof/Laws/Map.lean ====
section
/-! SUPPORT. Sparse maps: a read after a write, and the canonical form every write keeps. -/

namespace Sys2Proof.Machine

variable {α : Type}

theorem find_minsert_same (k : Nat) (v : α) (m : SMap α) (h : ∀ p ∈ m, p.1 ≠ k) :
    (minsert k v m).find? (fun p => p.1 == k) = some (k, v) := by
  induction m with
  | nil => simp [minsert]
  | cons p t ih =>
    simp only [minsert]
    split
    · simp
    · rw [List.find?_cons_of_neg (by simpa using h p (by simp))]
      exact ih (fun q hq => h q (by simp [hq]))

theorem find_minsert_ne (k j : Nat) (v : α) (m : SMap α) (h : j ≠ k) :
    (minsert k v m).find? (fun p => p.1 == j) = m.find? (fun p => p.1 == j) := by
  induction m with
  | nil => simp [minsert, Ne.symm h]
  | cons p t ih =>
    simp only [minsert]
    split
    · rw [List.find?_cons_of_neg (by simpa using Ne.symm h)]
    · by_cases hp : p.1 = j
      · simp [hp]
      · simp [hp, ih]

theorem find_merase_same (m : SMap α) (k : Nat) : (merase m k).find? (fun p => p.1 == k) = none := by
  simp [merase, List.find?_eq_none]

theorem find_merase_ne (m : SMap α) (k j : Nat) (h : j ≠ k) :
    (merase m k).find? (fun p => p.1 == j) = m.find? (fun p => p.1 == j) := by
  induction m with
  | nil => rfl
  | cons p t ih =>
    by_cases hp : p.1 = k
    · have : ¬ p.1 = j := by omega
      simp_all [merase]
    · by_cases hj : p.1 = j
      · simp_all [merase]
      · simp_all [merase]

theorem merase_ne (m : SMap α) (k : Nat) : ∀ p ∈ merase m k, p.1 ≠ k := by
  intro p hp
  simpa [merase] using (List.mem_filter.mp hp).2

/-- A read of the key written. -/
@[simp] theorem mget_mset_same [DecidableEq α] (d : Nat → α) (m : SMap α) (k : Nat) (v : α) :
    mget d (mset d m k v) k = v := by
  unfold mset
  split
  · next h => simp [mget, find_merase_same, h]
  · simp [mget, find_minsert_same k v _ (merase_ne m k)]

/-- A read of any other key. -/
theorem mget_mset_ne [DecidableEq α] (d : Nat → α) (m : SMap α) (k j : Nat) (v : α) (h : j ≠ k) :
    mget d (mset d m k v) j = mget d m j := by
  unfold mset
  split
  · simp [mget, find_merase_ne m k j h]
  · simp [mget, find_minsert_ne k j v _ h, find_merase_ne m k j h]

theorem mget_mset [DecidableEq α] (d : Nat → α) (m : SMap α) (k j : Nat) (v : α) :
    mget d (mset d m k v) j = if j = k then v else mget d m j := by
  split
  · next h => rw [h, mget_mset_same]
  · next h => exact mget_mset_ne d m k j v h

@[simp] theorem mget_nil (d : Nat → α) (k : Nat) : mget d [] k = d k := rfl

theorem mem_minsert (k : Nat) (v : α) (m : SMap α) (p : Nat × α) (h : p ∈ minsert k v m) : p = (k, v) ∨ p ∈ m := by
  induction m with
  | nil => simpa [minsert] using h
  | cons q t ih =>
    simp only [minsert] at h
    split at h
    · simpa using h
    · rcases List.mem_cons.mp h with h | h
      · simp [h]
      · rcases ih h with h | h
        · exact .inl h
        · simp [h]

theorem minsert_rising (k : Nat) (v : α) (m : SMap α) (hk : ∀ p ∈ m, p.1 ≠ k)
    (h : m.Pairwise (fun a b => a.1 < b.1)) : (minsert k v m).Pairwise (fun a b => a.1 < b.1) := by
  induction m with
  | nil => simp [minsert]
  | cons q t ih =>
    simp only [minsert]
    have hq := List.pairwise_cons.mp h
    split
    · next hlt =>
      refine List.pairwise_cons.mpr ⟨?_, h⟩
      intro b hb
      rcases List.mem_cons.mp hb with rfl | hb
      · exact hlt
      · exact Nat.lt_trans hlt (hq.1 b hb)
    · next hge =>
      refine List.pairwise_cons.mpr ⟨?_, ih (fun p hp => hk p (by simp [hp])) hq.2⟩
      intro b hb
      rcases mem_minsert k v t b hb with rfl | hb
      · have := hk q (by simp)
        show q.1 < k
        omega
      · exact hq.1 b hb

/-- A write keeps the canonical form. -/
theorem mset_wf [DecidableEq α] (d : Nat → α) (m : SMap α) (k : Nat) (v : α) (h : mwf d m = true) :
    mwf d (mset d m k v) = true := by
  simp only [mwf, Bool.and_eq_true, decide_eq_true_eq, List.all_eq_true, Bool.not_eq_true', decide_eq_false_iff_not] at *
  obtain ⟨hs, hd⟩ := h
  have he : (merase m k).Pairwise (fun a b => a.1 < b.1) := List.Pairwise.filter _ hs
  have hm : ∀ p ∈ merase m k, p ∈ m := fun p hp => (List.mem_filter.mp hp).1
  unfold mset
  split
  · exact ⟨he, fun p hp => hd p (hm p hp)⟩
  · next hv =>
    refine ⟨minsert_rising k v _ (merase_ne m k) he, ?_⟩
    intro p hp
    rcases mem_minsert k v _ p hp with rfl | hp
    · exact hv
    · exact hd p (hm p hp)

/-- A filter keeps the canonical form. -/
theorem filter_wf [DecidableEq α] (d : Nat → α) (m : SMap α) (p : Nat × α → Bool) (h : mwf d m = true) :
    mwf d (m.filter p) = true := by
  simp only [mwf, Bool.and_eq_true, decide_eq_true_eq, List.all_eq_true, Bool.not_eq_true', decide_eq_false_iff_not] at *
  exact ⟨List.Pairwise.filter _ h.1, fun q hq => h.2 q (List.mem_filter.mp hq).1⟩

@[simp] theorem nil_wf [DecidableEq α] (d : Nat → α) : mwf d ([] : SMap α) = true := by simp [mwf]

end Sys2Proof.Machine
end

