-- ==== Sys2Proof/Laws/State.lean ====
section
/-! SUPPORT. The fields of State under its named updates: each update changes its own field and leaves the others, and
a register, field, byte, job, instance or object reads as it was last written. -/

namespace Sys2Proof.Machine

/-! ## Fields an update leaves -/

@[simp] theorem State.setReg_mem (s : State) (a : Nat) (w : Word) : (s.setReg a w).mem = s.mem := Eq.trans rfl rfl
@[simp] theorem State.setReg_free (s : State) (a : Nat) (w : Word) : (s.setReg a w).free = s.free := Eq.trans rfl rfl
@[simp] theorem State.setReg_readValue (s : State) (a : Nat) (w : Word) : (s.setReg a w).readValue = s.readValue := Eq.trans rfl rfl
@[simp] theorem State.setReg_host (s : State) (a : Nat) (w : Word) : (s.setReg a w).host = s.host := Eq.trans rfl rfl
@[simp] theorem State.setReg_insts (s : State) (a : Nat) (w : Word) : (s.setReg a w).insts = s.insts := Eq.trans rfl rfl
@[simp] theorem State.setReg_scheds (s : State) (a : Nat) (w : Word) : (s.setReg a w).scheds = s.scheds := Eq.trans rfl rfl
@[simp] theorem State.setReg_share (s : State) (a : Nat) (w : Word) : (s.setReg a w).share = s.share := Eq.trans rfl rfl
@[simp] theorem State.setReg_admin (s : State) (a : Nat) (w : Word) : (s.setReg a w).admin = s.admin := Eq.trans rfl rfl
@[simp] theorem State.setReg_jobs (s : State) (a : Nat) (w : Word) : (s.setReg a w).jobs = s.jobs := Eq.trans rfl rfl
@[simp] theorem State.setReg_locket (s : State) (a : Nat) (w : Word) : (s.setReg a w).locket = s.locket := Eq.trans rfl rfl
@[simp] theorem State.setReg_meters (s : State) (a : Nat) (w : Word) : (s.setReg a w).meters = s.meters := Eq.trans rfl rfl
@[simp] theorem State.setReg_time (s : State) (a : Nat) (w : Word) : (s.setReg a w).time = s.time := Eq.trans rfl rfl
@[simp] theorem State.setReg_evr (s : State) (a : Nat) (w : Word) : (s.setReg a w).evr = s.evr := Eq.trans rfl rfl
@[simp] theorem State.setReg_strand (s : State) (a : Nat) (w : Word) : (s.setReg a w).strand = s.strand := Eq.trans rfl rfl
@[simp] theorem State.setReg_restore (s : State) (a : Nat) (w : Word) : (s.setReg a w).restore = s.restore := Eq.trans rfl rfl
@[simp] theorem State.setReg_owners (s : State) (a : Nat) (w : Word) : (s.setReg a w).owners = s.owners := Eq.trans rfl rfl
@[simp] theorem State.setReg_usage (s : State) (a : Nat) (w : Word) : (s.setReg a w).usage = s.usage := Eq.trans rfl rfl
@[simp] theorem State.setReg_store (s : State) (a : Nat) (w : Word) : (s.setReg a w).store = s.store := Eq.trans rfl rfl
@[simp] theorem State.setReg_ladder (s : State) (a : Nat) (w : Word) : (s.setReg a w).ladder = s.ladder := Eq.trans rfl rfl
@[simp] theorem State.setReg_officers (s : State) (a : Nat) (w : Word) : (s.setReg a w).officers = s.officers := Eq.trans rfl rfl
@[simp] theorem State.setReg_agent (s : State) (a : Nat) (w : Word) : (s.setReg a w).agent = s.agent := Eq.trans rfl rfl
@[simp] theorem State.setReg_bb (s : State) (a : Nat) (w : Word) : (s.setReg a w).bb = s.bb := Eq.trans rfl rfl
@[simp] theorem State.setReg_lcs (s : State) (a : Nat) (w : Word) : (s.setReg a w).lcs = s.lcs := Eq.trans rfl rfl
@[simp] theorem State.setReg_engines (s : State) (a : Nat) (w : Word) : (s.setReg a w).engines = s.engines := Eq.trans rfl rfl
@[simp] theorem State.setReg_rng (s : State) (a : Nat) (w : Word) : (s.setReg a w).rng = s.rng := Eq.trans rfl rfl
@[simp] theorem State.setReg_alarm (s : State) (a : Nat) (w : Word) : (s.setReg a w).alarm = s.alarm := Eq.trans rfl rfl
@[simp] theorem State.setReg_power (s : State) (a : Nat) (w : Word) : (s.setReg a w).power = s.power := Eq.trans rfl rfl
@[simp] theorem State.setReg_pair (s : State) (a : Nat) (w : Word) : (s.setReg a w).pair = s.pair := Eq.trans rfl rfl
@[simp] theorem State.setReg_worlds (s : State) (a : Nat) (w : Word) : (s.setReg a w).worlds = s.worlds := Eq.trans rfl rfl
@[simp] theorem State.setReg_mgp (s : State) (a : Nat) (w : Word) : (s.setReg a w).mgp = s.mgp := Eq.trans rfl rfl
@[simp] theorem State.setReg_pending (s : State) (a : Nat) (w : Word) : (s.setReg a w).pending = s.pending := Eq.trans rfl rfl

@[simp] theorem State.put_mem (s : State) (f : Fld) (v : Nat) : (s.put f v).mem = s.mem := State.setReg_mem s f.addr _
@[simp] theorem State.put_free (s : State) (f : Fld) (v : Nat) : (s.put f v).free = s.free := State.setReg_free s f.addr _
@[simp] theorem State.put_readValue (s : State) (f : Fld) (v : Nat) : (s.put f v).readValue = s.readValue := State.setReg_readValue s f.addr _
@[simp] theorem State.put_host (s : State) (f : Fld) (v : Nat) : (s.put f v).host = s.host := State.setReg_host s f.addr _
@[simp] theorem State.put_insts (s : State) (f : Fld) (v : Nat) : (s.put f v).insts = s.insts := State.setReg_insts s f.addr _
@[simp] theorem State.put_scheds (s : State) (f : Fld) (v : Nat) : (s.put f v).scheds = s.scheds := State.setReg_scheds s f.addr _
@[simp] theorem State.put_share (s : State) (f : Fld) (v : Nat) : (s.put f v).share = s.share := State.setReg_share s f.addr _
@[simp] theorem State.put_admin (s : State) (f : Fld) (v : Nat) : (s.put f v).admin = s.admin := State.setReg_admin s f.addr _
@[simp] theorem State.put_jobs (s : State) (f : Fld) (v : Nat) : (s.put f v).jobs = s.jobs := State.setReg_jobs s f.addr _
@[simp] theorem State.put_locket (s : State) (f : Fld) (v : Nat) : (s.put f v).locket = s.locket := State.setReg_locket s f.addr _
@[simp] theorem State.put_meters (s : State) (f : Fld) (v : Nat) : (s.put f v).meters = s.meters := State.setReg_meters s f.addr _
@[simp] theorem State.put_time (s : State) (f : Fld) (v : Nat) : (s.put f v).time = s.time := State.setReg_time s f.addr _
@[simp] theorem State.put_evr (s : State) (f : Fld) (v : Nat) : (s.put f v).evr = s.evr := State.setReg_evr s f.addr _
@[simp] theorem State.put_strand (s : State) (f : Fld) (v : Nat) : (s.put f v).strand = s.strand := State.setReg_strand s f.addr _
@[simp] theorem State.put_restore (s : State) (f : Fld) (v : Nat) : (s.put f v).restore = s.restore := State.setReg_restore s f.addr _
@[simp] theorem State.put_owners (s : State) (f : Fld) (v : Nat) : (s.put f v).owners = s.owners := State.setReg_owners s f.addr _
@[simp] theorem State.put_usage (s : State) (f : Fld) (v : Nat) : (s.put f v).usage = s.usage := State.setReg_usage s f.addr _
@[simp] theorem State.put_store (s : State) (f : Fld) (v : Nat) : (s.put f v).store = s.store := State.setReg_store s f.addr _
@[simp] theorem State.put_ladder (s : State) (f : Fld) (v : Nat) : (s.put f v).ladder = s.ladder := State.setReg_ladder s f.addr _
@[simp] theorem State.put_officers (s : State) (f : Fld) (v : Nat) : (s.put f v).officers = s.officers := State.setReg_officers s f.addr _
@[simp] theorem State.put_agent (s : State) (f : Fld) (v : Nat) : (s.put f v).agent = s.agent := State.setReg_agent s f.addr _
@[simp] theorem State.put_bb (s : State) (f : Fld) (v : Nat) : (s.put f v).bb = s.bb := State.setReg_bb s f.addr _
@[simp] theorem State.put_lcs (s : State) (f : Fld) (v : Nat) : (s.put f v).lcs = s.lcs := State.setReg_lcs s f.addr _
@[simp] theorem State.put_engines (s : State) (f : Fld) (v : Nat) : (s.put f v).engines = s.engines := State.setReg_engines s f.addr _
@[simp] theorem State.put_rng (s : State) (f : Fld) (v : Nat) : (s.put f v).rng = s.rng := State.setReg_rng s f.addr _
@[simp] theorem State.put_alarm (s : State) (f : Fld) (v : Nat) : (s.put f v).alarm = s.alarm := State.setReg_alarm s f.addr _
@[simp] theorem State.put_power (s : State) (f : Fld) (v : Nat) : (s.put f v).power = s.power := State.setReg_power s f.addr _
@[simp] theorem State.put_pair (s : State) (f : Fld) (v : Nat) : (s.put f v).pair = s.pair := State.setReg_pair s f.addr _
@[simp] theorem State.put_worlds (s : State) (f : Fld) (v : Nat) : (s.put f v).worlds = s.worlds := State.setReg_worlds s f.addr _
@[simp] theorem State.put_mgp (s : State) (f : Fld) (v : Nat) : (s.put f v).mgp = s.mgp := State.setReg_mgp s f.addr _
@[simp] theorem State.put_pending (s : State) (f : Fld) (v : Nat) : (s.put f v).pending = s.pending := State.setReg_pending s f.addr _

@[simp] theorem State.putBit_mem (s : State) (f : Fld) (b : Bool) : (s.putBit f b).mem = s.mem := State.put_mem s f _
@[simp] theorem State.putBit_free (s : State) (f : Fld) (b : Bool) : (s.putBit f b).free = s.free := State.put_free s f _
@[simp] theorem State.putBit_readValue (s : State) (f : Fld) (b : Bool) : (s.putBit f b).readValue = s.readValue := State.put_readValue s f _
@[simp] theorem State.putBit_host (s : State) (f : Fld) (b : Bool) : (s.putBit f b).host = s.host := State.put_host s f _
@[simp] theorem State.putBit_insts (s : State) (f : Fld) (b : Bool) : (s.putBit f b).insts = s.insts := State.put_insts s f _
@[simp] theorem State.putBit_scheds (s : State) (f : Fld) (b : Bool) : (s.putBit f b).scheds = s.scheds := State.put_scheds s f _
@[simp] theorem State.putBit_share (s : State) (f : Fld) (b : Bool) : (s.putBit f b).share = s.share := State.put_share s f _
@[simp] theorem State.putBit_admin (s : State) (f : Fld) (b : Bool) : (s.putBit f b).admin = s.admin := State.put_admin s f _
@[simp] theorem State.putBit_jobs (s : State) (f : Fld) (b : Bool) : (s.putBit f b).jobs = s.jobs := State.put_jobs s f _
@[simp] theorem State.putBit_locket (s : State) (f : Fld) (b : Bool) : (s.putBit f b).locket = s.locket := State.put_locket s f _
@[simp] theorem State.putBit_meters (s : State) (f : Fld) (b : Bool) : (s.putBit f b).meters = s.meters := State.put_meters s f _
@[simp] theorem State.putBit_time (s : State) (f : Fld) (b : Bool) : (s.putBit f b).time = s.time := State.put_time s f _
@[simp] theorem State.putBit_evr (s : State) (f : Fld) (b : Bool) : (s.putBit f b).evr = s.evr := State.put_evr s f _
@[simp] theorem State.putBit_strand (s : State) (f : Fld) (b : Bool) : (s.putBit f b).strand = s.strand := State.put_strand s f _
@[simp] theorem State.putBit_restore (s : State) (f : Fld) (b : Bool) : (s.putBit f b).restore = s.restore := State.put_restore s f _
@[simp] theorem State.putBit_owners (s : State) (f : Fld) (b : Bool) : (s.putBit f b).owners = s.owners := State.put_owners s f _
@[simp] theorem State.putBit_usage (s : State) (f : Fld) (b : Bool) : (s.putBit f b).usage = s.usage := State.put_usage s f _
@[simp] theorem State.putBit_store (s : State) (f : Fld) (b : Bool) : (s.putBit f b).store = s.store := State.put_store s f _
@[simp] theorem State.putBit_ladder (s : State) (f : Fld) (b : Bool) : (s.putBit f b).ladder = s.ladder := State.put_ladder s f _
@[simp] theorem State.putBit_officers (s : State) (f : Fld) (b : Bool) : (s.putBit f b).officers = s.officers := State.put_officers s f _
@[simp] theorem State.putBit_agent (s : State) (f : Fld) (b : Bool) : (s.putBit f b).agent = s.agent := State.put_agent s f _
@[simp] theorem State.putBit_bb (s : State) (f : Fld) (b : Bool) : (s.putBit f b).bb = s.bb := State.put_bb s f _
@[simp] theorem State.putBit_lcs (s : State) (f : Fld) (b : Bool) : (s.putBit f b).lcs = s.lcs := State.put_lcs s f _
@[simp] theorem State.putBit_engines (s : State) (f : Fld) (b : Bool) : (s.putBit f b).engines = s.engines := State.put_engines s f _
@[simp] theorem State.putBit_rng (s : State) (f : Fld) (b : Bool) : (s.putBit f b).rng = s.rng := State.put_rng s f _
@[simp] theorem State.putBit_alarm (s : State) (f : Fld) (b : Bool) : (s.putBit f b).alarm = s.alarm := State.put_alarm s f _
@[simp] theorem State.putBit_power (s : State) (f : Fld) (b : Bool) : (s.putBit f b).power = s.power := State.put_power s f _
@[simp] theorem State.putBit_pair (s : State) (f : Fld) (b : Bool) : (s.putBit f b).pair = s.pair := State.put_pair s f _
@[simp] theorem State.putBit_worlds (s : State) (f : Fld) (b : Bool) : (s.putBit f b).worlds = s.worlds := State.put_worlds s f _
@[simp] theorem State.putBit_mgp (s : State) (f : Fld) (b : Bool) : (s.putBit f b).mgp = s.mgp := State.put_mgp s f _
@[simp] theorem State.putBit_pending (s : State) (f : Fld) (b : Bool) : (s.putBit f b).pending = s.pending := State.put_pending s f _

@[simp] theorem State.count_mem (s : State) (f : Fld) : (s.count f).mem = s.mem := State.put_mem s f _
@[simp] theorem State.count_free (s : State) (f : Fld) : (s.count f).free = s.free := State.put_free s f _
@[simp] theorem State.count_readValue (s : State) (f : Fld) : (s.count f).readValue = s.readValue := State.put_readValue s f _
@[simp] theorem State.count_host (s : State) (f : Fld) : (s.count f).host = s.host := State.put_host s f _
@[simp] theorem State.count_insts (s : State) (f : Fld) : (s.count f).insts = s.insts := State.put_insts s f _
@[simp] theorem State.count_scheds (s : State) (f : Fld) : (s.count f).scheds = s.scheds := State.put_scheds s f _
@[simp] theorem State.count_share (s : State) (f : Fld) : (s.count f).share = s.share := State.put_share s f _
@[simp] theorem State.count_admin (s : State) (f : Fld) : (s.count f).admin = s.admin := State.put_admin s f _
@[simp] theorem State.count_jobs (s : State) (f : Fld) : (s.count f).jobs = s.jobs := State.put_jobs s f _
@[simp] theorem State.count_locket (s : State) (f : Fld) : (s.count f).locket = s.locket := State.put_locket s f _
@[simp] theorem State.count_meters (s : State) (f : Fld) : (s.count f).meters = s.meters := State.put_meters s f _
@[simp] theorem State.count_time (s : State) (f : Fld) : (s.count f).time = s.time := State.put_time s f _
@[simp] theorem State.count_evr (s : State) (f : Fld) : (s.count f).evr = s.evr := State.put_evr s f _
@[simp] theorem State.count_strand (s : State) (f : Fld) : (s.count f).strand = s.strand := State.put_strand s f _
@[simp] theorem State.count_restore (s : State) (f : Fld) : (s.count f).restore = s.restore := State.put_restore s f _
@[simp] theorem State.count_owners (s : State) (f : Fld) : (s.count f).owners = s.owners := State.put_owners s f _
@[simp] theorem State.count_usage (s : State) (f : Fld) : (s.count f).usage = s.usage := State.put_usage s f _
@[simp] theorem State.count_store (s : State) (f : Fld) : (s.count f).store = s.store := State.put_store s f _
@[simp] theorem State.count_ladder (s : State) (f : Fld) : (s.count f).ladder = s.ladder := State.put_ladder s f _
@[simp] theorem State.count_officers (s : State) (f : Fld) : (s.count f).officers = s.officers := State.put_officers s f _
@[simp] theorem State.count_agent (s : State) (f : Fld) : (s.count f).agent = s.agent := State.put_agent s f _
@[simp] theorem State.count_bb (s : State) (f : Fld) : (s.count f).bb = s.bb := State.put_bb s f _
@[simp] theorem State.count_lcs (s : State) (f : Fld) : (s.count f).lcs = s.lcs := State.put_lcs s f _
@[simp] theorem State.count_engines (s : State) (f : Fld) : (s.count f).engines = s.engines := State.put_engines s f _
@[simp] theorem State.count_rng (s : State) (f : Fld) : (s.count f).rng = s.rng := State.put_rng s f _
@[simp] theorem State.count_alarm (s : State) (f : Fld) : (s.count f).alarm = s.alarm := State.put_alarm s f _
@[simp] theorem State.count_power (s : State) (f : Fld) : (s.count f).power = s.power := State.put_power s f _
@[simp] theorem State.count_pair (s : State) (f : Fld) : (s.count f).pair = s.pair := State.put_pair s f _
@[simp] theorem State.count_worlds (s : State) (f : Fld) : (s.count f).worlds = s.worlds := State.put_worlds s f _
@[simp] theorem State.count_mgp (s : State) (f : Fld) : (s.count f).mgp = s.mgp := State.put_mgp s f _
@[simp] theorem State.count_pending (s : State) (f : Fld) : (s.count f).pending = s.pending := State.put_pending s f _

@[simp] theorem State.dropIrq_mem (s : State) (n : Nat) : (s.dropIrq n).mem = s.mem := State.put_mem s .WLD_IRQ_PEND_PEND _
@[simp] theorem State.dropIrq_free (s : State) (n : Nat) : (s.dropIrq n).free = s.free := State.put_free s .WLD_IRQ_PEND_PEND _
@[simp] theorem State.dropIrq_readValue (s : State) (n : Nat) : (s.dropIrq n).readValue = s.readValue := State.put_readValue s .WLD_IRQ_PEND_PEND _
@[simp] theorem State.dropIrq_host (s : State) (n : Nat) : (s.dropIrq n).host = s.host := State.put_host s .WLD_IRQ_PEND_PEND _
@[simp] theorem State.dropIrq_insts (s : State) (n : Nat) : (s.dropIrq n).insts = s.insts := State.put_insts s .WLD_IRQ_PEND_PEND _
@[simp] theorem State.dropIrq_scheds (s : State) (n : Nat) : (s.dropIrq n).scheds = s.scheds := State.put_scheds s .WLD_IRQ_PEND_PEND _
@[simp] theorem State.dropIrq_share (s : State) (n : Nat) : (s.dropIrq n).share = s.share := State.put_share s .WLD_IRQ_PEND_PEND _
@[simp] theorem State.dropIrq_admin (s : State) (n : Nat) : (s.dropIrq n).admin = s.admin := State.put_admin s .WLD_IRQ_PEND_PEND _
@[simp] theorem State.dropIrq_jobs (s : State) (n : Nat) : (s.dropIrq n).jobs = s.jobs := State.put_jobs s .WLD_IRQ_PEND_PEND _
@[simp] theorem State.dropIrq_locket (s : State) (n : Nat) : (s.dropIrq n).locket = s.locket := State.put_locket s .WLD_IRQ_PEND_PEND _
@[simp] theorem State.dropIrq_meters (s : State) (n : Nat) : (s.dropIrq n).meters = s.meters := State.put_meters s .WLD_IRQ_PEND_PEND _
@[simp] theorem State.dropIrq_time (s : State) (n : Nat) : (s.dropIrq n).time = s.time := State.put_time s .WLD_IRQ_PEND_PEND _
@[simp] theorem State.dropIrq_evr (s : State) (n : Nat) : (s.dropIrq n).evr = s.evr := State.put_evr s .WLD_IRQ_PEND_PEND _
@[simp] theorem State.dropIrq_strand (s : State) (n : Nat) : (s.dropIrq n).strand = s.strand := State.put_strand s .WLD_IRQ_PEND_PEND _
@[simp] theorem State.dropIrq_restore (s : State) (n : Nat) : (s.dropIrq n).restore = s.restore := State.put_restore s .WLD_IRQ_PEND_PEND _
@[simp] theorem State.dropIrq_owners (s : State) (n : Nat) : (s.dropIrq n).owners = s.owners := State.put_owners s .WLD_IRQ_PEND_PEND _
@[simp] theorem State.dropIrq_usage (s : State) (n : Nat) : (s.dropIrq n).usage = s.usage := State.put_usage s .WLD_IRQ_PEND_PEND _
@[simp] theorem State.dropIrq_store (s : State) (n : Nat) : (s.dropIrq n).store = s.store := State.put_store s .WLD_IRQ_PEND_PEND _
@[simp] theorem State.dropIrq_ladder (s : State) (n : Nat) : (s.dropIrq n).ladder = s.ladder := State.put_ladder s .WLD_IRQ_PEND_PEND _
@[simp] theorem State.dropIrq_officers (s : State) (n : Nat) : (s.dropIrq n).officers = s.officers := State.put_officers s .WLD_IRQ_PEND_PEND _
@[simp] theorem State.dropIrq_agent (s : State) (n : Nat) : (s.dropIrq n).agent = s.agent := State.put_agent s .WLD_IRQ_PEND_PEND _
@[simp] theorem State.dropIrq_bb (s : State) (n : Nat) : (s.dropIrq n).bb = s.bb := State.put_bb s .WLD_IRQ_PEND_PEND _
@[simp] theorem State.dropIrq_lcs (s : State) (n : Nat) : (s.dropIrq n).lcs = s.lcs := State.put_lcs s .WLD_IRQ_PEND_PEND _
@[simp] theorem State.dropIrq_engines (s : State) (n : Nat) : (s.dropIrq n).engines = s.engines := State.put_engines s .WLD_IRQ_PEND_PEND _
@[simp] theorem State.dropIrq_rng (s : State) (n : Nat) : (s.dropIrq n).rng = s.rng := State.put_rng s .WLD_IRQ_PEND_PEND _
@[simp] theorem State.dropIrq_alarm (s : State) (n : Nat) : (s.dropIrq n).alarm = s.alarm := State.put_alarm s .WLD_IRQ_PEND_PEND _
@[simp] theorem State.dropIrq_power (s : State) (n : Nat) : (s.dropIrq n).power = s.power := State.put_power s .WLD_IRQ_PEND_PEND _
@[simp] theorem State.dropIrq_pair (s : State) (n : Nat) : (s.dropIrq n).pair = s.pair := State.put_pair s .WLD_IRQ_PEND_PEND _
@[simp] theorem State.dropIrq_worlds (s : State) (n : Nat) : (s.dropIrq n).worlds = s.worlds := State.put_worlds s .WLD_IRQ_PEND_PEND _
@[simp] theorem State.dropIrq_mgp (s : State) (n : Nat) : (s.dropIrq n).mgp = s.mgp := State.put_mgp s .WLD_IRQ_PEND_PEND _
@[simp] theorem State.dropIrq_pending (s : State) (n : Nat) : (s.dropIrq n).pending = s.pending := State.put_pending s .WLD_IRQ_PEND_PEND _

@[simp] theorem State.setByte_regs (s : State) (a : Nat) (b : Byte) : (s.setByte a b).regs = s.regs := Eq.trans rfl rfl
@[simp] theorem State.setByte_free (s : State) (a : Nat) (b : Byte) : (s.setByte a b).free = s.free := Eq.trans rfl rfl
@[simp] theorem State.setByte_readValue (s : State) (a : Nat) (b : Byte) : (s.setByte a b).readValue = s.readValue := Eq.trans rfl rfl
@[simp] theorem State.setByte_host (s : State) (a : Nat) (b : Byte) : (s.setByte a b).host = s.host := Eq.trans rfl rfl
@[simp] theorem State.setByte_insts (s : State) (a : Nat) (b : Byte) : (s.setByte a b).insts = s.insts := Eq.trans rfl rfl
@[simp] theorem State.setByte_scheds (s : State) (a : Nat) (b : Byte) : (s.setByte a b).scheds = s.scheds := Eq.trans rfl rfl
@[simp] theorem State.setByte_share (s : State) (a : Nat) (b : Byte) : (s.setByte a b).share = s.share := Eq.trans rfl rfl
@[simp] theorem State.setByte_admin (s : State) (a : Nat) (b : Byte) : (s.setByte a b).admin = s.admin := Eq.trans rfl rfl
@[simp] theorem State.setByte_jobs (s : State) (a : Nat) (b : Byte) : (s.setByte a b).jobs = s.jobs := Eq.trans rfl rfl
@[simp] theorem State.setByte_locket (s : State) (a : Nat) (b : Byte) : (s.setByte a b).locket = s.locket := Eq.trans rfl rfl
@[simp] theorem State.setByte_meters (s : State) (a : Nat) (b : Byte) : (s.setByte a b).meters = s.meters := Eq.trans rfl rfl
@[simp] theorem State.setByte_time (s : State) (a : Nat) (b : Byte) : (s.setByte a b).time = s.time := Eq.trans rfl rfl
@[simp] theorem State.setByte_evr (s : State) (a : Nat) (b : Byte) : (s.setByte a b).evr = s.evr := Eq.trans rfl rfl
@[simp] theorem State.setByte_strand (s : State) (a : Nat) (b : Byte) : (s.setByte a b).strand = s.strand := Eq.trans rfl rfl
@[simp] theorem State.setByte_restore (s : State) (a : Nat) (b : Byte) : (s.setByte a b).restore = s.restore := Eq.trans rfl rfl
@[simp] theorem State.setByte_owners (s : State) (a : Nat) (b : Byte) : (s.setByte a b).owners = s.owners := Eq.trans rfl rfl
@[simp] theorem State.setByte_usage (s : State) (a : Nat) (b : Byte) : (s.setByte a b).usage = s.usage := Eq.trans rfl rfl
@[simp] theorem State.setByte_store (s : State) (a : Nat) (b : Byte) : (s.setByte a b).store = s.store := Eq.trans rfl rfl
@[simp] theorem State.setByte_ladder (s : State) (a : Nat) (b : Byte) : (s.setByte a b).ladder = s.ladder := Eq.trans rfl rfl
@[simp] theorem State.setByte_officers (s : State) (a : Nat) (b : Byte) : (s.setByte a b).officers = s.officers := Eq.trans rfl rfl
@[simp] theorem State.setByte_agent (s : State) (a : Nat) (b : Byte) : (s.setByte a b).agent = s.agent := Eq.trans rfl rfl
@[simp] theorem State.setByte_bb (s : State) (a : Nat) (b : Byte) : (s.setByte a b).bb = s.bb := Eq.trans rfl rfl
@[simp] theorem State.setByte_lcs (s : State) (a : Nat) (b : Byte) : (s.setByte a b).lcs = s.lcs := Eq.trans rfl rfl
@[simp] theorem State.setByte_engines (s : State) (a : Nat) (b : Byte) : (s.setByte a b).engines = s.engines := Eq.trans rfl rfl
@[simp] theorem State.setByte_rng (s : State) (a : Nat) (b : Byte) : (s.setByte a b).rng = s.rng := Eq.trans rfl rfl
@[simp] theorem State.setByte_alarm (s : State) (a : Nat) (b : Byte) : (s.setByte a b).alarm = s.alarm := Eq.trans rfl rfl
@[simp] theorem State.setByte_power (s : State) (a : Nat) (b : Byte) : (s.setByte a b).power = s.power := Eq.trans rfl rfl
@[simp] theorem State.setByte_pair (s : State) (a : Nat) (b : Byte) : (s.setByte a b).pair = s.pair := Eq.trans rfl rfl
@[simp] theorem State.setByte_worlds (s : State) (a : Nat) (b : Byte) : (s.setByte a b).worlds = s.worlds := Eq.trans rfl rfl
@[simp] theorem State.setByte_mgp (s : State) (a : Nat) (b : Byte) : (s.setByte a b).mgp = s.mgp := Eq.trans rfl rfl
@[simp] theorem State.setByte_pending (s : State) (a : Nat) (b : Byte) : (s.setByte a b).pending = s.pending := Eq.trans rfl rfl

@[simp] theorem State.modInst_regs (s : State) (n : Nat) (f : Inst → Inst) : (s.modInst n f).regs = s.regs := Eq.trans rfl rfl
@[simp] theorem State.modInst_mem (s : State) (n : Nat) (f : Inst → Inst) : (s.modInst n f).mem = s.mem := Eq.trans rfl rfl
@[simp] theorem State.modInst_free (s : State) (n : Nat) (f : Inst → Inst) : (s.modInst n f).free = s.free := Eq.trans rfl rfl
@[simp] theorem State.modInst_readValue (s : State) (n : Nat) (f : Inst → Inst) : (s.modInst n f).readValue = s.readValue := Eq.trans rfl rfl
@[simp] theorem State.modInst_host (s : State) (n : Nat) (f : Inst → Inst) : (s.modInst n f).host = s.host := Eq.trans rfl rfl
@[simp] theorem State.modInst_scheds (s : State) (n : Nat) (f : Inst → Inst) : (s.modInst n f).scheds = s.scheds := Eq.trans rfl rfl
@[simp] theorem State.modInst_share (s : State) (n : Nat) (f : Inst → Inst) : (s.modInst n f).share = s.share := Eq.trans rfl rfl
@[simp] theorem State.modInst_admin (s : State) (n : Nat) (f : Inst → Inst) : (s.modInst n f).admin = s.admin := Eq.trans rfl rfl
@[simp] theorem State.modInst_jobs (s : State) (n : Nat) (f : Inst → Inst) : (s.modInst n f).jobs = s.jobs := Eq.trans rfl rfl
@[simp] theorem State.modInst_locket (s : State) (n : Nat) (f : Inst → Inst) : (s.modInst n f).locket = s.locket := Eq.trans rfl rfl
@[simp] theorem State.modInst_meters (s : State) (n : Nat) (f : Inst → Inst) : (s.modInst n f).meters = s.meters := Eq.trans rfl rfl
@[simp] theorem State.modInst_time (s : State) (n : Nat) (f : Inst → Inst) : (s.modInst n f).time = s.time := Eq.trans rfl rfl
@[simp] theorem State.modInst_evr (s : State) (n : Nat) (f : Inst → Inst) : (s.modInst n f).evr = s.evr := Eq.trans rfl rfl
@[simp] theorem State.modInst_strand (s : State) (n : Nat) (f : Inst → Inst) : (s.modInst n f).strand = s.strand := Eq.trans rfl rfl
@[simp] theorem State.modInst_restore (s : State) (n : Nat) (f : Inst → Inst) : (s.modInst n f).restore = s.restore := Eq.trans rfl rfl
@[simp] theorem State.modInst_owners (s : State) (n : Nat) (f : Inst → Inst) : (s.modInst n f).owners = s.owners := Eq.trans rfl rfl
@[simp] theorem State.modInst_usage (s : State) (n : Nat) (f : Inst → Inst) : (s.modInst n f).usage = s.usage := Eq.trans rfl rfl
@[simp] theorem State.modInst_store (s : State) (n : Nat) (f : Inst → Inst) : (s.modInst n f).store = s.store := Eq.trans rfl rfl
@[simp] theorem State.modInst_ladder (s : State) (n : Nat) (f : Inst → Inst) : (s.modInst n f).ladder = s.ladder := Eq.trans rfl rfl
@[simp] theorem State.modInst_officers (s : State) (n : Nat) (f : Inst → Inst) : (s.modInst n f).officers = s.officers := Eq.trans rfl rfl
@[simp] theorem State.modInst_agent (s : State) (n : Nat) (f : Inst → Inst) : (s.modInst n f).agent = s.agent := Eq.trans rfl rfl
@[simp] theorem State.modInst_bb (s : State) (n : Nat) (f : Inst → Inst) : (s.modInst n f).bb = s.bb := Eq.trans rfl rfl
@[simp] theorem State.modInst_lcs (s : State) (n : Nat) (f : Inst → Inst) : (s.modInst n f).lcs = s.lcs := Eq.trans rfl rfl
@[simp] theorem State.modInst_engines (s : State) (n : Nat) (f : Inst → Inst) : (s.modInst n f).engines = s.engines := Eq.trans rfl rfl
@[simp] theorem State.modInst_rng (s : State) (n : Nat) (f : Inst → Inst) : (s.modInst n f).rng = s.rng := Eq.trans rfl rfl
@[simp] theorem State.modInst_alarm (s : State) (n : Nat) (f : Inst → Inst) : (s.modInst n f).alarm = s.alarm := Eq.trans rfl rfl
@[simp] theorem State.modInst_power (s : State) (n : Nat) (f : Inst → Inst) : (s.modInst n f).power = s.power := Eq.trans rfl rfl
@[simp] theorem State.modInst_pair (s : State) (n : Nat) (f : Inst → Inst) : (s.modInst n f).pair = s.pair := Eq.trans rfl rfl
@[simp] theorem State.modInst_worlds (s : State) (n : Nat) (f : Inst → Inst) : (s.modInst n f).worlds = s.worlds := Eq.trans rfl rfl
@[simp] theorem State.modInst_mgp (s : State) (n : Nat) (f : Inst → Inst) : (s.modInst n f).mgp = s.mgp := Eq.trans rfl rfl
@[simp] theorem State.modInst_pending (s : State) (n : Nat) (f : Inst → Inst) : (s.modInst n f).pending = s.pending := Eq.trans rfl rfl

@[simp] theorem State.modSched_regs (s : State) (n : Nat) (f : Sched → Sched) : (s.modSched n f).regs = s.regs := Eq.trans rfl rfl
@[simp] theorem State.modSched_mem (s : State) (n : Nat) (f : Sched → Sched) : (s.modSched n f).mem = s.mem := Eq.trans rfl rfl
@[simp] theorem State.modSched_free (s : State) (n : Nat) (f : Sched → Sched) : (s.modSched n f).free = s.free := Eq.trans rfl rfl
@[simp] theorem State.modSched_readValue (s : State) (n : Nat) (f : Sched → Sched) : (s.modSched n f).readValue = s.readValue := Eq.trans rfl rfl
@[simp] theorem State.modSched_host (s : State) (n : Nat) (f : Sched → Sched) : (s.modSched n f).host = s.host := Eq.trans rfl rfl
@[simp] theorem State.modSched_insts (s : State) (n : Nat) (f : Sched → Sched) : (s.modSched n f).insts = s.insts := Eq.trans rfl rfl
@[simp] theorem State.modSched_share (s : State) (n : Nat) (f : Sched → Sched) : (s.modSched n f).share = s.share := Eq.trans rfl rfl
@[simp] theorem State.modSched_admin (s : State) (n : Nat) (f : Sched → Sched) : (s.modSched n f).admin = s.admin := Eq.trans rfl rfl
@[simp] theorem State.modSched_jobs (s : State) (n : Nat) (f : Sched → Sched) : (s.modSched n f).jobs = s.jobs := Eq.trans rfl rfl
@[simp] theorem State.modSched_locket (s : State) (n : Nat) (f : Sched → Sched) : (s.modSched n f).locket = s.locket := Eq.trans rfl rfl
@[simp] theorem State.modSched_meters (s : State) (n : Nat) (f : Sched → Sched) : (s.modSched n f).meters = s.meters := Eq.trans rfl rfl
@[simp] theorem State.modSched_time (s : State) (n : Nat) (f : Sched → Sched) : (s.modSched n f).time = s.time := Eq.trans rfl rfl
@[simp] theorem State.modSched_evr (s : State) (n : Nat) (f : Sched → Sched) : (s.modSched n f).evr = s.evr := Eq.trans rfl rfl
@[simp] theorem State.modSched_strand (s : State) (n : Nat) (f : Sched → Sched) : (s.modSched n f).strand = s.strand := Eq.trans rfl rfl
@[simp] theorem State.modSched_restore (s : State) (n : Nat) (f : Sched → Sched) : (s.modSched n f).restore = s.restore := Eq.trans rfl rfl
@[simp] theorem State.modSched_owners (s : State) (n : Nat) (f : Sched → Sched) : (s.modSched n f).owners = s.owners := Eq.trans rfl rfl
@[simp] theorem State.modSched_usage (s : State) (n : Nat) (f : Sched → Sched) : (s.modSched n f).usage = s.usage := Eq.trans rfl rfl
@[simp] theorem State.modSched_store (s : State) (n : Nat) (f : Sched → Sched) : (s.modSched n f).store = s.store := Eq.trans rfl rfl
@[simp] theorem State.modSched_ladder (s : State) (n : Nat) (f : Sched → Sched) : (s.modSched n f).ladder = s.ladder := Eq.trans rfl rfl
@[simp] theorem State.modSched_officers (s : State) (n : Nat) (f : Sched → Sched) : (s.modSched n f).officers = s.officers := Eq.trans rfl rfl
@[simp] theorem State.modSched_agent (s : State) (n : Nat) (f : Sched → Sched) : (s.modSched n f).agent = s.agent := Eq.trans rfl rfl
@[simp] theorem State.modSched_bb (s : State) (n : Nat) (f : Sched → Sched) : (s.modSched n f).bb = s.bb := Eq.trans rfl rfl
@[simp] theorem State.modSched_lcs (s : State) (n : Nat) (f : Sched → Sched) : (s.modSched n f).lcs = s.lcs := Eq.trans rfl rfl
@[simp] theorem State.modSched_engines (s : State) (n : Nat) (f : Sched → Sched) : (s.modSched n f).engines = s.engines := Eq.trans rfl rfl
@[simp] theorem State.modSched_rng (s : State) (n : Nat) (f : Sched → Sched) : (s.modSched n f).rng = s.rng := Eq.trans rfl rfl
@[simp] theorem State.modSched_alarm (s : State) (n : Nat) (f : Sched → Sched) : (s.modSched n f).alarm = s.alarm := Eq.trans rfl rfl
@[simp] theorem State.modSched_power (s : State) (n : Nat) (f : Sched → Sched) : (s.modSched n f).power = s.power := Eq.trans rfl rfl
@[simp] theorem State.modSched_pair (s : State) (n : Nat) (f : Sched → Sched) : (s.modSched n f).pair = s.pair := Eq.trans rfl rfl
@[simp] theorem State.modSched_worlds (s : State) (n : Nat) (f : Sched → Sched) : (s.modSched n f).worlds = s.worlds := Eq.trans rfl rfl
@[simp] theorem State.modSched_mgp (s : State) (n : Nat) (f : Sched → Sched) : (s.modSched n f).mgp = s.mgp := Eq.trans rfl rfl
@[simp] theorem State.modSched_pending (s : State) (n : Nat) (f : Sched → Sched) : (s.modSched n f).pending = s.pending := Eq.trans rfl rfl

@[simp] theorem State.setJob_regs (s : State) (j : Nat) (x : Option Job) : (s.setJob j x).regs = s.regs := Eq.trans rfl rfl
@[simp] theorem State.setJob_mem (s : State) (j : Nat) (x : Option Job) : (s.setJob j x).mem = s.mem := Eq.trans rfl rfl
@[simp] theorem State.setJob_free (s : State) (j : Nat) (x : Option Job) : (s.setJob j x).free = s.free := Eq.trans rfl rfl
@[simp] theorem State.setJob_readValue (s : State) (j : Nat) (x : Option Job) : (s.setJob j x).readValue = s.readValue := Eq.trans rfl rfl
@[simp] theorem State.setJob_host (s : State) (j : Nat) (x : Option Job) : (s.setJob j x).host = s.host := Eq.trans rfl rfl
@[simp] theorem State.setJob_insts (s : State) (j : Nat) (x : Option Job) : (s.setJob j x).insts = s.insts := Eq.trans rfl rfl
@[simp] theorem State.setJob_scheds (s : State) (j : Nat) (x : Option Job) : (s.setJob j x).scheds = s.scheds := Eq.trans rfl rfl
@[simp] theorem State.setJob_share (s : State) (j : Nat) (x : Option Job) : (s.setJob j x).share = s.share := Eq.trans rfl rfl
@[simp] theorem State.setJob_admin (s : State) (j : Nat) (x : Option Job) : (s.setJob j x).admin = s.admin := Eq.trans rfl rfl
@[simp] theorem State.setJob_locket (s : State) (j : Nat) (x : Option Job) : (s.setJob j x).locket = s.locket := Eq.trans rfl rfl
@[simp] theorem State.setJob_meters (s : State) (j : Nat) (x : Option Job) : (s.setJob j x).meters = s.meters := Eq.trans rfl rfl
@[simp] theorem State.setJob_time (s : State) (j : Nat) (x : Option Job) : (s.setJob j x).time = s.time := Eq.trans rfl rfl
@[simp] theorem State.setJob_evr (s : State) (j : Nat) (x : Option Job) : (s.setJob j x).evr = s.evr := Eq.trans rfl rfl
@[simp] theorem State.setJob_strand (s : State) (j : Nat) (x : Option Job) : (s.setJob j x).strand = s.strand := Eq.trans rfl rfl
@[simp] theorem State.setJob_restore (s : State) (j : Nat) (x : Option Job) : (s.setJob j x).restore = s.restore := Eq.trans rfl rfl
@[simp] theorem State.setJob_owners (s : State) (j : Nat) (x : Option Job) : (s.setJob j x).owners = s.owners := Eq.trans rfl rfl
@[simp] theorem State.setJob_usage (s : State) (j : Nat) (x : Option Job) : (s.setJob j x).usage = s.usage := Eq.trans rfl rfl
@[simp] theorem State.setJob_store (s : State) (j : Nat) (x : Option Job) : (s.setJob j x).store = s.store := Eq.trans rfl rfl
@[simp] theorem State.setJob_ladder (s : State) (j : Nat) (x : Option Job) : (s.setJob j x).ladder = s.ladder := Eq.trans rfl rfl
@[simp] theorem State.setJob_officers (s : State) (j : Nat) (x : Option Job) : (s.setJob j x).officers = s.officers := Eq.trans rfl rfl
@[simp] theorem State.setJob_agent (s : State) (j : Nat) (x : Option Job) : (s.setJob j x).agent = s.agent := Eq.trans rfl rfl
@[simp] theorem State.setJob_bb (s : State) (j : Nat) (x : Option Job) : (s.setJob j x).bb = s.bb := Eq.trans rfl rfl
@[simp] theorem State.setJob_lcs (s : State) (j : Nat) (x : Option Job) : (s.setJob j x).lcs = s.lcs := Eq.trans rfl rfl
@[simp] theorem State.setJob_engines (s : State) (j : Nat) (x : Option Job) : (s.setJob j x).engines = s.engines := Eq.trans rfl rfl
@[simp] theorem State.setJob_rng (s : State) (j : Nat) (x : Option Job) : (s.setJob j x).rng = s.rng := Eq.trans rfl rfl
@[simp] theorem State.setJob_alarm (s : State) (j : Nat) (x : Option Job) : (s.setJob j x).alarm = s.alarm := Eq.trans rfl rfl
@[simp] theorem State.setJob_power (s : State) (j : Nat) (x : Option Job) : (s.setJob j x).power = s.power := Eq.trans rfl rfl
@[simp] theorem State.setJob_pair (s : State) (j : Nat) (x : Option Job) : (s.setJob j x).pair = s.pair := Eq.trans rfl rfl
@[simp] theorem State.setJob_worlds (s : State) (j : Nat) (x : Option Job) : (s.setJob j x).worlds = s.worlds := Eq.trans rfl rfl
@[simp] theorem State.setJob_mgp (s : State) (j : Nat) (x : Option Job) : (s.setJob j x).mgp = s.mgp := Eq.trans rfl rfl
@[simp] theorem State.setJob_pending (s : State) (j : Nat) (x : Option Job) : (s.setJob j x).pending = s.pending := Eq.trans rfl rfl

@[simp] theorem State.modOwner_regs (s : State) (n : Nat) (f : Owner → Owner) : (s.modOwner n f).regs = s.regs := Eq.trans rfl rfl
@[simp] theorem State.modOwner_mem (s : State) (n : Nat) (f : Owner → Owner) : (s.modOwner n f).mem = s.mem := Eq.trans rfl rfl
@[simp] theorem State.modOwner_free (s : State) (n : Nat) (f : Owner → Owner) : (s.modOwner n f).free = s.free := Eq.trans rfl rfl
@[simp] theorem State.modOwner_readValue (s : State) (n : Nat) (f : Owner → Owner) : (s.modOwner n f).readValue = s.readValue := Eq.trans rfl rfl
@[simp] theorem State.modOwner_host (s : State) (n : Nat) (f : Owner → Owner) : (s.modOwner n f).host = s.host := Eq.trans rfl rfl
@[simp] theorem State.modOwner_insts (s : State) (n : Nat) (f : Owner → Owner) : (s.modOwner n f).insts = s.insts := Eq.trans rfl rfl
@[simp] theorem State.modOwner_scheds (s : State) (n : Nat) (f : Owner → Owner) : (s.modOwner n f).scheds = s.scheds := Eq.trans rfl rfl
@[simp] theorem State.modOwner_share (s : State) (n : Nat) (f : Owner → Owner) : (s.modOwner n f).share = s.share := Eq.trans rfl rfl
@[simp] theorem State.modOwner_admin (s : State) (n : Nat) (f : Owner → Owner) : (s.modOwner n f).admin = s.admin := Eq.trans rfl rfl
@[simp] theorem State.modOwner_jobs (s : State) (n : Nat) (f : Owner → Owner) : (s.modOwner n f).jobs = s.jobs := Eq.trans rfl rfl
@[simp] theorem State.modOwner_locket (s : State) (n : Nat) (f : Owner → Owner) : (s.modOwner n f).locket = s.locket := Eq.trans rfl rfl
@[simp] theorem State.modOwner_meters (s : State) (n : Nat) (f : Owner → Owner) : (s.modOwner n f).meters = s.meters := Eq.trans rfl rfl
@[simp] theorem State.modOwner_time (s : State) (n : Nat) (f : Owner → Owner) : (s.modOwner n f).time = s.time := Eq.trans rfl rfl
@[simp] theorem State.modOwner_evr (s : State) (n : Nat) (f : Owner → Owner) : (s.modOwner n f).evr = s.evr := Eq.trans rfl rfl
@[simp] theorem State.modOwner_strand (s : State) (n : Nat) (f : Owner → Owner) : (s.modOwner n f).strand = s.strand := Eq.trans rfl rfl
@[simp] theorem State.modOwner_restore (s : State) (n : Nat) (f : Owner → Owner) : (s.modOwner n f).restore = s.restore := Eq.trans rfl rfl
@[simp] theorem State.modOwner_usage (s : State) (n : Nat) (f : Owner → Owner) : (s.modOwner n f).usage = s.usage := Eq.trans rfl rfl
@[simp] theorem State.modOwner_store (s : State) (n : Nat) (f : Owner → Owner) : (s.modOwner n f).store = s.store := Eq.trans rfl rfl
@[simp] theorem State.modOwner_ladder (s : State) (n : Nat) (f : Owner → Owner) : (s.modOwner n f).ladder = s.ladder := Eq.trans rfl rfl
@[simp] theorem State.modOwner_officers (s : State) (n : Nat) (f : Owner → Owner) : (s.modOwner n f).officers = s.officers := Eq.trans rfl rfl
@[simp] theorem State.modOwner_agent (s : State) (n : Nat) (f : Owner → Owner) : (s.modOwner n f).agent = s.agent := Eq.trans rfl rfl
@[simp] theorem State.modOwner_bb (s : State) (n : Nat) (f : Owner → Owner) : (s.modOwner n f).bb = s.bb := Eq.trans rfl rfl
@[simp] theorem State.modOwner_lcs (s : State) (n : Nat) (f : Owner → Owner) : (s.modOwner n f).lcs = s.lcs := Eq.trans rfl rfl
@[simp] theorem State.modOwner_engines (s : State) (n : Nat) (f : Owner → Owner) : (s.modOwner n f).engines = s.engines := Eq.trans rfl rfl
@[simp] theorem State.modOwner_rng (s : State) (n : Nat) (f : Owner → Owner) : (s.modOwner n f).rng = s.rng := Eq.trans rfl rfl
@[simp] theorem State.modOwner_alarm (s : State) (n : Nat) (f : Owner → Owner) : (s.modOwner n f).alarm = s.alarm := Eq.trans rfl rfl
@[simp] theorem State.modOwner_power (s : State) (n : Nat) (f : Owner → Owner) : (s.modOwner n f).power = s.power := Eq.trans rfl rfl
@[simp] theorem State.modOwner_pair (s : State) (n : Nat) (f : Owner → Owner) : (s.modOwner n f).pair = s.pair := Eq.trans rfl rfl
@[simp] theorem State.modOwner_worlds (s : State) (n : Nat) (f : Owner → Owner) : (s.modOwner n f).worlds = s.worlds := Eq.trans rfl rfl
@[simp] theorem State.modOwner_mgp (s : State) (n : Nat) (f : Owner → Owner) : (s.modOwner n f).mgp = s.mgp := Eq.trans rfl rfl
@[simp] theorem State.modOwner_pending (s : State) (n : Nat) (f : Owner → Owner) : (s.modOwner n f).pending = s.pending := Eq.trans rfl rfl

@[simp] theorem State.setObj_regs (s : State) (h : Nat) (o : Option Obj) : (s.setObj h o).regs = s.regs := Eq.trans rfl rfl
@[simp] theorem State.setObj_mem (s : State) (h : Nat) (o : Option Obj) : (s.setObj h o).mem = s.mem := Eq.trans rfl rfl
@[simp] theorem State.setObj_free (s : State) (h : Nat) (o : Option Obj) : (s.setObj h o).free = s.free := Eq.trans rfl rfl
@[simp] theorem State.setObj_readValue (s : State) (h : Nat) (o : Option Obj) : (s.setObj h o).readValue = s.readValue := Eq.trans rfl rfl
@[simp] theorem State.setObj_host (s : State) (h : Nat) (o : Option Obj) : (s.setObj h o).host = s.host := Eq.trans rfl rfl
@[simp] theorem State.setObj_insts (s : State) (h : Nat) (o : Option Obj) : (s.setObj h o).insts = s.insts := Eq.trans rfl rfl
@[simp] theorem State.setObj_scheds (s : State) (h : Nat) (o : Option Obj) : (s.setObj h o).scheds = s.scheds := Eq.trans rfl rfl
@[simp] theorem State.setObj_share (s : State) (h : Nat) (o : Option Obj) : (s.setObj h o).share = s.share := Eq.trans rfl rfl
@[simp] theorem State.setObj_admin (s : State) (h : Nat) (o : Option Obj) : (s.setObj h o).admin = s.admin := Eq.trans rfl rfl
@[simp] theorem State.setObj_jobs (s : State) (h : Nat) (o : Option Obj) : (s.setObj h o).jobs = s.jobs := Eq.trans rfl rfl
@[simp] theorem State.setObj_locket (s : State) (h : Nat) (o : Option Obj) : (s.setObj h o).locket = s.locket := Eq.trans rfl rfl
@[simp] theorem State.setObj_meters (s : State) (h : Nat) (o : Option Obj) : (s.setObj h o).meters = s.meters := Eq.trans rfl rfl
@[simp] theorem State.setObj_time (s : State) (h : Nat) (o : Option Obj) : (s.setObj h o).time = s.time := Eq.trans rfl rfl
@[simp] theorem State.setObj_evr (s : State) (h : Nat) (o : Option Obj) : (s.setObj h o).evr = s.evr := Eq.trans rfl rfl
@[simp] theorem State.setObj_strand (s : State) (h : Nat) (o : Option Obj) : (s.setObj h o).strand = s.strand := Eq.trans rfl rfl
@[simp] theorem State.setObj_restore (s : State) (h : Nat) (o : Option Obj) : (s.setObj h o).restore = s.restore := Eq.trans rfl rfl
@[simp] theorem State.setObj_owners (s : State) (h : Nat) (o : Option Obj) : (s.setObj h o).owners = s.owners := Eq.trans rfl rfl
@[simp] theorem State.setObj_usage (s : State) (h : Nat) (o : Option Obj) : (s.setObj h o).usage = s.usage := Eq.trans rfl rfl
@[simp] theorem State.setObj_ladder (s : State) (h : Nat) (o : Option Obj) : (s.setObj h o).ladder = s.ladder := Eq.trans rfl rfl
@[simp] theorem State.setObj_officers (s : State) (h : Nat) (o : Option Obj) : (s.setObj h o).officers = s.officers := Eq.trans rfl rfl
@[simp] theorem State.setObj_agent (s : State) (h : Nat) (o : Option Obj) : (s.setObj h o).agent = s.agent := Eq.trans rfl rfl
@[simp] theorem State.setObj_bb (s : State) (h : Nat) (o : Option Obj) : (s.setObj h o).bb = s.bb := Eq.trans rfl rfl
@[simp] theorem State.setObj_lcs (s : State) (h : Nat) (o : Option Obj) : (s.setObj h o).lcs = s.lcs := Eq.trans rfl rfl
@[simp] theorem State.setObj_engines (s : State) (h : Nat) (o : Option Obj) : (s.setObj h o).engines = s.engines := Eq.trans rfl rfl
@[simp] theorem State.setObj_rng (s : State) (h : Nat) (o : Option Obj) : (s.setObj h o).rng = s.rng := Eq.trans rfl rfl
@[simp] theorem State.setObj_alarm (s : State) (h : Nat) (o : Option Obj) : (s.setObj h o).alarm = s.alarm := Eq.trans rfl rfl
@[simp] theorem State.setObj_power (s : State) (h : Nat) (o : Option Obj) : (s.setObj h o).power = s.power := Eq.trans rfl rfl
@[simp] theorem State.setObj_pair (s : State) (h : Nat) (o : Option Obj) : (s.setObj h o).pair = s.pair := Eq.trans rfl rfl
@[simp] theorem State.setObj_worlds (s : State) (h : Nat) (o : Option Obj) : (s.setObj h o).worlds = s.worlds := Eq.trans rfl rfl
@[simp] theorem State.setObj_mgp (s : State) (h : Nat) (o : Option Obj) : (s.setObj h o).mgp = s.mgp := Eq.trans rfl rfl
@[simp] theorem State.setObj_pending (s : State) (h : Nat) (o : Option Obj) : (s.setObj h o).pending = s.pending := Eq.trans rfl rfl

@[simp] theorem State.odStore_regs (s : State) (i b : Nat) (v : Option Bytes) : (s.odStore i b v).regs = s.regs := Eq.trans rfl rfl
@[simp] theorem State.odStore_mem (s : State) (i b : Nat) (v : Option Bytes) : (s.odStore i b v).mem = s.mem := Eq.trans rfl rfl
@[simp] theorem State.odStore_free (s : State) (i b : Nat) (v : Option Bytes) : (s.odStore i b v).free = s.free := Eq.trans rfl rfl
@[simp] theorem State.odStore_readValue (s : State) (i b : Nat) (v : Option Bytes) : (s.odStore i b v).readValue = s.readValue := Eq.trans rfl rfl
@[simp] theorem State.odStore_host (s : State) (i b : Nat) (v : Option Bytes) : (s.odStore i b v).host = s.host := Eq.trans rfl rfl
@[simp] theorem State.odStore_insts (s : State) (i b : Nat) (v : Option Bytes) : (s.odStore i b v).insts = s.insts := Eq.trans rfl rfl
@[simp] theorem State.odStore_scheds (s : State) (i b : Nat) (v : Option Bytes) : (s.odStore i b v).scheds = s.scheds := Eq.trans rfl rfl
@[simp] theorem State.odStore_share (s : State) (i b : Nat) (v : Option Bytes) : (s.odStore i b v).share = s.share := Eq.trans rfl rfl
@[simp] theorem State.odStore_admin (s : State) (i b : Nat) (v : Option Bytes) : (s.odStore i b v).admin = s.admin := Eq.trans rfl rfl
@[simp] theorem State.odStore_jobs (s : State) (i b : Nat) (v : Option Bytes) : (s.odStore i b v).jobs = s.jobs := Eq.trans rfl rfl
@[simp] theorem State.odStore_locket (s : State) (i b : Nat) (v : Option Bytes) : (s.odStore i b v).locket = s.locket := Eq.trans rfl rfl
@[simp] theorem State.odStore_meters (s : State) (i b : Nat) (v : Option Bytes) : (s.odStore i b v).meters = s.meters := Eq.trans rfl rfl
@[simp] theorem State.odStore_time (s : State) (i b : Nat) (v : Option Bytes) : (s.odStore i b v).time = s.time := Eq.trans rfl rfl
@[simp] theorem State.odStore_evr (s : State) (i b : Nat) (v : Option Bytes) : (s.odStore i b v).evr = s.evr := Eq.trans rfl rfl
@[simp] theorem State.odStore_strand (s : State) (i b : Nat) (v : Option Bytes) : (s.odStore i b v).strand = s.strand := Eq.trans rfl rfl
@[simp] theorem State.odStore_restore (s : State) (i b : Nat) (v : Option Bytes) : (s.odStore i b v).restore = s.restore := Eq.trans rfl rfl
@[simp] theorem State.odStore_owners (s : State) (i b : Nat) (v : Option Bytes) : (s.odStore i b v).owners = s.owners := Eq.trans rfl rfl
@[simp] theorem State.odStore_usage (s : State) (i b : Nat) (v : Option Bytes) : (s.odStore i b v).usage = s.usage := Eq.trans rfl rfl
@[simp] theorem State.odStore_store (s : State) (i b : Nat) (v : Option Bytes) : (s.odStore i b v).store = s.store := Eq.trans rfl rfl
@[simp] theorem State.odStore_ladder (s : State) (i b : Nat) (v : Option Bytes) : (s.odStore i b v).ladder = s.ladder := Eq.trans rfl rfl
@[simp] theorem State.odStore_officers (s : State) (i b : Nat) (v : Option Bytes) : (s.odStore i b v).officers = s.officers := Eq.trans rfl rfl
@[simp] theorem State.odStore_bb (s : State) (i b : Nat) (v : Option Bytes) : (s.odStore i b v).bb = s.bb := Eq.trans rfl rfl
@[simp] theorem State.odStore_lcs (s : State) (i b : Nat) (v : Option Bytes) : (s.odStore i b v).lcs = s.lcs := Eq.trans rfl rfl
@[simp] theorem State.odStore_engines (s : State) (i b : Nat) (v : Option Bytes) : (s.odStore i b v).engines = s.engines := Eq.trans rfl rfl
@[simp] theorem State.odStore_rng (s : State) (i b : Nat) (v : Option Bytes) : (s.odStore i b v).rng = s.rng := Eq.trans rfl rfl
@[simp] theorem State.odStore_alarm (s : State) (i b : Nat) (v : Option Bytes) : (s.odStore i b v).alarm = s.alarm := Eq.trans rfl rfl
@[simp] theorem State.odStore_power (s : State) (i b : Nat) (v : Option Bytes) : (s.odStore i b v).power = s.power := Eq.trans rfl rfl
@[simp] theorem State.odStore_pair (s : State) (i b : Nat) (v : Option Bytes) : (s.odStore i b v).pair = s.pair := Eq.trans rfl rfl
@[simp] theorem State.odStore_worlds (s : State) (i b : Nat) (v : Option Bytes) : (s.odStore i b v).worlds = s.worlds := Eq.trans rfl rfl
@[simp] theorem State.odStore_mgp (s : State) (i b : Nat) (v : Option Bytes) : (s.odStore i b v).mgp = s.mgp := Eq.trans rfl rfl
@[simp] theorem State.odStore_pending (s : State) (i b : Nat) (v : Option Bytes) : (s.odStore i b v).pending = s.pending := Eq.trans rfl rfl

@[simp] theorem State.freshNat_regs (s : State) : s.freshNat.2.regs = s.regs := Eq.trans rfl rfl
@[simp] theorem State.freshBytes_regs (s : State) (n : Nat) : (s.freshBytes n).2.regs = s.regs := Eq.trans rfl rfl
@[simp] theorem State.freshNat_mem (s : State) : s.freshNat.2.mem = s.mem := Eq.trans rfl rfl
@[simp] theorem State.freshBytes_mem (s : State) (n : Nat) : (s.freshBytes n).2.mem = s.mem := Eq.trans rfl rfl
@[simp] theorem State.freshNat_readValue (s : State) : s.freshNat.2.readValue = s.readValue := Eq.trans rfl rfl
@[simp] theorem State.freshBytes_readValue (s : State) (n : Nat) : (s.freshBytes n).2.readValue = s.readValue := Eq.trans rfl rfl
@[simp] theorem State.freshNat_host (s : State) : s.freshNat.2.host = s.host := Eq.trans rfl rfl
@[simp] theorem State.freshBytes_host (s : State) (n : Nat) : (s.freshBytes n).2.host = s.host := Eq.trans rfl rfl
@[simp] theorem State.freshNat_insts (s : State) : s.freshNat.2.insts = s.insts := Eq.trans rfl rfl
@[simp] theorem State.freshBytes_insts (s : State) (n : Nat) : (s.freshBytes n).2.insts = s.insts := Eq.trans rfl rfl
@[simp] theorem State.freshNat_scheds (s : State) : s.freshNat.2.scheds = s.scheds := Eq.trans rfl rfl
@[simp] theorem State.freshBytes_scheds (s : State) (n : Nat) : (s.freshBytes n).2.scheds = s.scheds := Eq.trans rfl rfl
@[simp] theorem State.freshNat_share (s : State) : s.freshNat.2.share = s.share := Eq.trans rfl rfl
@[simp] theorem State.freshBytes_share (s : State) (n : Nat) : (s.freshBytes n).2.share = s.share := Eq.trans rfl rfl
@[simp] theorem State.freshNat_admin (s : State) : s.freshNat.2.admin = s.admin := Eq.trans rfl rfl
@[simp] theorem State.freshBytes_admin (s : State) (n : Nat) : (s.freshBytes n).2.admin = s.admin := Eq.trans rfl rfl
@[simp] theorem State.freshNat_jobs (s : State) : s.freshNat.2.jobs = s.jobs := Eq.trans rfl rfl
@[simp] theorem State.freshBytes_jobs (s : State) (n : Nat) : (s.freshBytes n).2.jobs = s.jobs := Eq.trans rfl rfl
@[simp] theorem State.freshNat_locket (s : State) : s.freshNat.2.locket = s.locket := Eq.trans rfl rfl
@[simp] theorem State.freshBytes_locket (s : State) (n : Nat) : (s.freshBytes n).2.locket = s.locket := Eq.trans rfl rfl
@[simp] theorem State.freshNat_meters (s : State) : s.freshNat.2.meters = s.meters := Eq.trans rfl rfl
@[simp] theorem State.freshBytes_meters (s : State) (n : Nat) : (s.freshBytes n).2.meters = s.meters := Eq.trans rfl rfl
@[simp] theorem State.freshNat_time (s : State) : s.freshNat.2.time = s.time := Eq.trans rfl rfl
@[simp] theorem State.freshBytes_time (s : State) (n : Nat) : (s.freshBytes n).2.time = s.time := Eq.trans rfl rfl
@[simp] theorem State.freshNat_evr (s : State) : s.freshNat.2.evr = s.evr := Eq.trans rfl rfl
@[simp] theorem State.freshBytes_evr (s : State) (n : Nat) : (s.freshBytes n).2.evr = s.evr := Eq.trans rfl rfl
@[simp] theorem State.freshNat_strand (s : State) : s.freshNat.2.strand = s.strand := Eq.trans rfl rfl
@[simp] theorem State.freshBytes_strand (s : State) (n : Nat) : (s.freshBytes n).2.strand = s.strand := Eq.trans rfl rfl
@[simp] theorem State.freshNat_restore (s : State) : s.freshNat.2.restore = s.restore := Eq.trans rfl rfl
@[simp] theorem State.freshBytes_restore (s : State) (n : Nat) : (s.freshBytes n).2.restore = s.restore := Eq.trans rfl rfl
@[simp] theorem State.freshNat_owners (s : State) : s.freshNat.2.owners = s.owners := Eq.trans rfl rfl
@[simp] theorem State.freshBytes_owners (s : State) (n : Nat) : (s.freshBytes n).2.owners = s.owners := Eq.trans rfl rfl
@[simp] theorem State.freshNat_usage (s : State) : s.freshNat.2.usage = s.usage := Eq.trans rfl rfl
@[simp] theorem State.freshBytes_usage (s : State) (n : Nat) : (s.freshBytes n).2.usage = s.usage := Eq.trans rfl rfl
@[simp] theorem State.freshNat_store (s : State) : s.freshNat.2.store = s.store := Eq.trans rfl rfl
@[simp] theorem State.freshBytes_store (s : State) (n : Nat) : (s.freshBytes n).2.store = s.store := Eq.trans rfl rfl
@[simp] theorem State.freshNat_ladder (s : State) : s.freshNat.2.ladder = s.ladder := Eq.trans rfl rfl
@[simp] theorem State.freshBytes_ladder (s : State) (n : Nat) : (s.freshBytes n).2.ladder = s.ladder := Eq.trans rfl rfl
@[simp] theorem State.freshNat_officers (s : State) : s.freshNat.2.officers = s.officers := Eq.trans rfl rfl
@[simp] theorem State.freshBytes_officers (s : State) (n : Nat) : (s.freshBytes n).2.officers = s.officers := Eq.trans rfl rfl
@[simp] theorem State.freshNat_agent (s : State) : s.freshNat.2.agent = s.agent := Eq.trans rfl rfl
@[simp] theorem State.freshBytes_agent (s : State) (n : Nat) : (s.freshBytes n).2.agent = s.agent := Eq.trans rfl rfl
@[simp] theorem State.freshNat_bb (s : State) : s.freshNat.2.bb = s.bb := Eq.trans rfl rfl
@[simp] theorem State.freshBytes_bb (s : State) (n : Nat) : (s.freshBytes n).2.bb = s.bb := Eq.trans rfl rfl
@[simp] theorem State.freshNat_lcs (s : State) : s.freshNat.2.lcs = s.lcs := Eq.trans rfl rfl
@[simp] theorem State.freshBytes_lcs (s : State) (n : Nat) : (s.freshBytes n).2.lcs = s.lcs := Eq.trans rfl rfl
@[simp] theorem State.freshNat_engines (s : State) : s.freshNat.2.engines = s.engines := Eq.trans rfl rfl
@[simp] theorem State.freshBytes_engines (s : State) (n : Nat) : (s.freshBytes n).2.engines = s.engines := Eq.trans rfl rfl
@[simp] theorem State.freshNat_rng (s : State) : s.freshNat.2.rng = s.rng := Eq.trans rfl rfl
@[simp] theorem State.freshBytes_rng (s : State) (n : Nat) : (s.freshBytes n).2.rng = s.rng := Eq.trans rfl rfl
@[simp] theorem State.freshNat_alarm (s : State) : s.freshNat.2.alarm = s.alarm := Eq.trans rfl rfl
@[simp] theorem State.freshBytes_alarm (s : State) (n : Nat) : (s.freshBytes n).2.alarm = s.alarm := Eq.trans rfl rfl
@[simp] theorem State.freshNat_power (s : State) : s.freshNat.2.power = s.power := Eq.trans rfl rfl
@[simp] theorem State.freshBytes_power (s : State) (n : Nat) : (s.freshBytes n).2.power = s.power := Eq.trans rfl rfl
@[simp] theorem State.freshNat_pair (s : State) : s.freshNat.2.pair = s.pair := Eq.trans rfl rfl
@[simp] theorem State.freshBytes_pair (s : State) (n : Nat) : (s.freshBytes n).2.pair = s.pair := Eq.trans rfl rfl
@[simp] theorem State.freshNat_worlds (s : State) : s.freshNat.2.worlds = s.worlds := Eq.trans rfl rfl
@[simp] theorem State.freshBytes_worlds (s : State) (n : Nat) : (s.freshBytes n).2.worlds = s.worlds := Eq.trans rfl rfl
@[simp] theorem State.freshNat_mgp (s : State) : s.freshNat.2.mgp = s.mgp := Eq.trans rfl rfl
@[simp] theorem State.freshBytes_mgp (s : State) (n : Nat) : (s.freshBytes n).2.mgp = s.mgp := Eq.trans rfl rfl
@[simp] theorem State.freshNat_pending (s : State) : s.freshNat.2.pending = s.pending := Eq.trans rfl rfl
@[simp] theorem State.freshBytes_pending (s : State) (n : Nat) : (s.freshBytes n).2.pending = s.pending := Eq.trans rfl rfl

@[simp] theorem State.setBytes_regs (s : State) (a : Nat) (b : Bytes) : (s.setBytes a b).regs = s.regs := by
  induction b generalizing s a with
  | nil => rfl
  | cons x t ih => simp only [State.setBytes, ih, State.setByte_regs]
@[simp] theorem State.setBytes_free (s : State) (a : Nat) (b : Bytes) : (s.setBytes a b).free = s.free := by
  induction b generalizing s a with
  | nil => rfl
  | cons x t ih => simp only [State.setBytes, ih, State.setByte_free]
@[simp] theorem State.setBytes_readValue (s : State) (a : Nat) (b : Bytes) : (s.setBytes a b).readValue = s.readValue := by
  induction b generalizing s a with
  | nil => rfl
  | cons x t ih => simp only [State.setBytes, ih, State.setByte_readValue]
@[simp] theorem State.setBytes_host (s : State) (a : Nat) (b : Bytes) : (s.setBytes a b).host = s.host := by
  induction b generalizing s a with
  | nil => rfl
  | cons x t ih => simp only [State.setBytes, ih, State.setByte_host]
@[simp] theorem State.setBytes_insts (s : State) (a : Nat) (b : Bytes) : (s.setBytes a b).insts = s.insts := by
  induction b generalizing s a with
  | nil => rfl
  | cons x t ih => simp only [State.setBytes, ih, State.setByte_insts]
@[simp] theorem State.setBytes_scheds (s : State) (a : Nat) (b : Bytes) : (s.setBytes a b).scheds = s.scheds := by
  induction b generalizing s a with
  | nil => rfl
  | cons x t ih => simp only [State.setBytes, ih, State.setByte_scheds]
@[simp] theorem State.setBytes_share (s : State) (a : Nat) (b : Bytes) : (s.setBytes a b).share = s.share := by
  induction b generalizing s a with
  | nil => rfl
  | cons x t ih => simp only [State.setBytes, ih, State.setByte_share]
@[simp] theorem State.setBytes_admin (s : State) (a : Nat) (b : Bytes) : (s.setBytes a b).admin = s.admin := by
  induction b generalizing s a with
  | nil => rfl
  | cons x t ih => simp only [State.setBytes, ih, State.setByte_admin]
@[simp] theorem State.setBytes_jobs (s : State) (a : Nat) (b : Bytes) : (s.setBytes a b).jobs = s.jobs := by
  induction b generalizing s a with
  | nil => rfl
  | cons x t ih => simp only [State.setBytes, ih, State.setByte_jobs]
@[simp] theorem State.setBytes_locket (s : State) (a : Nat) (b : Bytes) : (s.setBytes a b).locket = s.locket := by
  induction b generalizing s a with
  | nil => rfl
  | cons x t ih => simp only [State.setBytes, ih, State.setByte_locket]
@[simp] theorem State.setBytes_meters (s : State) (a : Nat) (b : Bytes) : (s.setBytes a b).meters = s.meters := by
  induction b generalizing s a with
  | nil => rfl
  | cons x t ih => simp only [State.setBytes, ih, State.setByte_meters]
@[simp] theorem State.setBytes_time (s : State) (a : Nat) (b : Bytes) : (s.setBytes a b).time = s.time := by
  induction b generalizing s a with
  | nil => rfl
  | cons x t ih => simp only [State.setBytes, ih, State.setByte_time]
@[simp] theorem State.setBytes_evr (s : State) (a : Nat) (b : Bytes) : (s.setBytes a b).evr = s.evr := by
  induction b generalizing s a with
  | nil => rfl
  | cons x t ih => simp only [State.setBytes, ih, State.setByte_evr]
@[simp] theorem State.setBytes_strand (s : State) (a : Nat) (b : Bytes) : (s.setBytes a b).strand = s.strand := by
  induction b generalizing s a with
  | nil => rfl
  | cons x t ih => simp only [State.setBytes, ih, State.setByte_strand]
@[simp] theorem State.setBytes_restore (s : State) (a : Nat) (b : Bytes) : (s.setBytes a b).restore = s.restore := by
  induction b generalizing s a with
  | nil => rfl
  | cons x t ih => simp only [State.setBytes, ih, State.setByte_restore]
@[simp] theorem State.setBytes_owners (s : State) (a : Nat) (b : Bytes) : (s.setBytes a b).owners = s.owners := by
  induction b generalizing s a with
  | nil => rfl
  | cons x t ih => simp only [State.setBytes, ih, State.setByte_owners]
@[simp] theorem State.setBytes_usage (s : State) (a : Nat) (b : Bytes) : (s.setBytes a b).usage = s.usage := by
  induction b generalizing s a with
  | nil => rfl
  | cons x t ih => simp only [State.setBytes, ih, State.setByte_usage]
@[simp] theorem State.setBytes_store (s : State) (a : Nat) (b : Bytes) : (s.setBytes a b).store = s.store := by
  induction b generalizing s a with
  | nil => rfl
  | cons x t ih => simp only [State.setBytes, ih, State.setByte_store]
@[simp] theorem State.setBytes_ladder (s : State) (a : Nat) (b : Bytes) : (s.setBytes a b).ladder = s.ladder := by
  induction b generalizing s a with
  | nil => rfl
  | cons x t ih => simp only [State.setBytes, ih, State.setByte_ladder]
@[simp] theorem State.setBytes_officers (s : State) (a : Nat) (b : Bytes) : (s.setBytes a b).officers = s.officers := by
  induction b generalizing s a with
  | nil => rfl
  | cons x t ih => simp only [State.setBytes, ih, State.setByte_officers]
@[simp] theorem State.setBytes_agent (s : State) (a : Nat) (b : Bytes) : (s.setBytes a b).agent = s.agent := by
  induction b generalizing s a with
  | nil => rfl
  | cons x t ih => simp only [State.setBytes, ih, State.setByte_agent]
@[simp] theorem State.setBytes_bb (s : State) (a : Nat) (b : Bytes) : (s.setBytes a b).bb = s.bb := by
  induction b generalizing s a with
  | nil => rfl
  | cons x t ih => simp only [State.setBytes, ih, State.setByte_bb]
@[simp] theorem State.setBytes_lcs (s : State) (a : Nat) (b : Bytes) : (s.setBytes a b).lcs = s.lcs := by
  induction b generalizing s a with
  | nil => rfl
  | cons x t ih => simp only [State.setBytes, ih, State.setByte_lcs]
@[simp] theorem State.setBytes_engines (s : State) (a : Nat) (b : Bytes) : (s.setBytes a b).engines = s.engines := by
  induction b generalizing s a with
  | nil => rfl
  | cons x t ih => simp only [State.setBytes, ih, State.setByte_engines]
@[simp] theorem State.setBytes_rng (s : State) (a : Nat) (b : Bytes) : (s.setBytes a b).rng = s.rng := by
  induction b generalizing s a with
  | nil => rfl
  | cons x t ih => simp only [State.setBytes, ih, State.setByte_rng]
@[simp] theorem State.setBytes_alarm (s : State) (a : Nat) (b : Bytes) : (s.setBytes a b).alarm = s.alarm := by
  induction b generalizing s a with
  | nil => rfl
  | cons x t ih => simp only [State.setBytes, ih, State.setByte_alarm]
@[simp] theorem State.setBytes_power (s : State) (a : Nat) (b : Bytes) : (s.setBytes a b).power = s.power := by
  induction b generalizing s a with
  | nil => rfl
  | cons x t ih => simp only [State.setBytes, ih, State.setByte_power]
@[simp] theorem State.setBytes_pair (s : State) (a : Nat) (b : Bytes) : (s.setBytes a b).pair = s.pair := by
  induction b generalizing s a with
  | nil => rfl
  | cons x t ih => simp only [State.setBytes, ih, State.setByte_pair]
@[simp] theorem State.setBytes_worlds (s : State) (a : Nat) (b : Bytes) : (s.setBytes a b).worlds = s.worlds := by
  induction b generalizing s a with
  | nil => rfl
  | cons x t ih => simp only [State.setBytes, ih, State.setByte_worlds]
@[simp] theorem State.setBytes_mgp (s : State) (a : Nat) (b : Bytes) : (s.setBytes a b).mgp = s.mgp := by
  induction b generalizing s a with
  | nil => rfl
  | cons x t ih => simp only [State.setBytes, ih, State.setByte_mgp]
@[simp] theorem State.setBytes_pending (s : State) (a : Nat) (b : Bytes) : (s.setBytes a b).pending = s.pending := by
  induction b generalizing s a with
  | nil => rfl
  | cons x t ih => simp only [State.setBytes, ih, State.setByte_pending]

@[simp] theorem State.emit_regs (s : State) (w : HostWrite) : (s.emit w).regs = s.regs := by unfold State.emit; split <;> rfl
@[simp] theorem State.emit_mem (s : State) (w : HostWrite) : (s.emit w).mem = s.mem := by unfold State.emit; split <;> rfl
@[simp] theorem State.emit_free (s : State) (w : HostWrite) : (s.emit w).free = s.free := by unfold State.emit; split <;> rfl
@[simp] theorem State.emit_readValue (s : State) (w : HostWrite) : (s.emit w).readValue = s.readValue := by unfold State.emit; split <;> rfl
@[simp] theorem State.emit_insts (s : State) (w : HostWrite) : (s.emit w).insts = s.insts := by unfold State.emit; split <;> rfl
@[simp] theorem State.emit_scheds (s : State) (w : HostWrite) : (s.emit w).scheds = s.scheds := by unfold State.emit; split <;> rfl
@[simp] theorem State.emit_share (s : State) (w : HostWrite) : (s.emit w).share = s.share := by unfold State.emit; split <;> rfl
@[simp] theorem State.emit_admin (s : State) (w : HostWrite) : (s.emit w).admin = s.admin := by unfold State.emit; split <;> rfl
@[simp] theorem State.emit_jobs (s : State) (w : HostWrite) : (s.emit w).jobs = s.jobs := by unfold State.emit; split <;> rfl
@[simp] theorem State.emit_locket (s : State) (w : HostWrite) : (s.emit w).locket = s.locket := by unfold State.emit; split <;> rfl
@[simp] theorem State.emit_meters (s : State) (w : HostWrite) : (s.emit w).meters = s.meters := by unfold State.emit; split <;> rfl
@[simp] theorem State.emit_time (s : State) (w : HostWrite) : (s.emit w).time = s.time := by unfold State.emit; split <;> rfl
@[simp] theorem State.emit_evr (s : State) (w : HostWrite) : (s.emit w).evr = s.evr := by unfold State.emit; split <;> rfl
@[simp] theorem State.emit_strand (s : State) (w : HostWrite) : (s.emit w).strand = s.strand := by unfold State.emit; split <;> rfl
@[simp] theorem State.emit_restore (s : State) (w : HostWrite) : (s.emit w).restore = s.restore := by unfold State.emit; split <;> rfl
@[simp] theorem State.emit_owners (s : State) (w : HostWrite) : (s.emit w).owners = s.owners := by unfold State.emit; split <;> rfl
@[simp] theorem State.emit_usage (s : State) (w : HostWrite) : (s.emit w).usage = s.usage := by unfold State.emit; split <;> rfl
@[simp] theorem State.emit_store (s : State) (w : HostWrite) : (s.emit w).store = s.store := by unfold State.emit; split <;> rfl
@[simp] theorem State.emit_ladder (s : State) (w : HostWrite) : (s.emit w).ladder = s.ladder := by unfold State.emit; split <;> rfl
@[simp] theorem State.emit_officers (s : State) (w : HostWrite) : (s.emit w).officers = s.officers := by unfold State.emit; split <;> rfl
@[simp] theorem State.emit_agent (s : State) (w : HostWrite) : (s.emit w).agent = s.agent := by unfold State.emit; split <;> rfl
@[simp] theorem State.emit_bb (s : State) (w : HostWrite) : (s.emit w).bb = s.bb := by unfold State.emit; split <;> rfl
@[simp] theorem State.emit_lcs (s : State) (w : HostWrite) : (s.emit w).lcs = s.lcs := by unfold State.emit; split <;> rfl
@[simp] theorem State.emit_engines (s : State) (w : HostWrite) : (s.emit w).engines = s.engines := by unfold State.emit; split <;> rfl
@[simp] theorem State.emit_rng (s : State) (w : HostWrite) : (s.emit w).rng = s.rng := by unfold State.emit; split <;> rfl
@[simp] theorem State.emit_alarm (s : State) (w : HostWrite) : (s.emit w).alarm = s.alarm := by unfold State.emit; split <;> rfl
@[simp] theorem State.emit_power (s : State) (w : HostWrite) : (s.emit w).power = s.power := by unfold State.emit; split <;> rfl
@[simp] theorem State.emit_pair (s : State) (w : HostWrite) : (s.emit w).pair = s.pair := by unfold State.emit; split <;> rfl
@[simp] theorem State.emit_worlds (s : State) (w : HostWrite) : (s.emit w).worlds = s.worlds := by unfold State.emit; split <;> rfl
@[simp] theorem State.emit_mgp (s : State) (w : HostWrite) : (s.emit w).mgp = s.mgp := by unfold State.emit; split <;> rfl
@[simp] theorem State.emit_pending (s : State) (w : HostWrite) : (s.emit w).pending = s.pending := by unfold State.emit; split <;> rfl

/-! ## Registers -/

@[simp] theorem State.reg_setReg (s : State) (a : Nat) (w : Word) : (s.setReg a w).reg a = w := mget_mset_same _ _ _ _

theorem State.reg_setReg_ne (s : State) (a b : Nat) (w : Word) (h : b ≠ a) : (s.setReg a w).reg b = s.reg b :=
  mget_mset_ne _ _ _ _ _ h

theorem State.reg_put_ne (s : State) (f : Fld) (v b : Nat) (h : b ≠ f.addr) : (s.put f v).reg b = s.reg b :=
  State.reg_setReg_ne s f.addr b _ h

theorem State.reg_putBit_ne (s : State) (f : Fld) (v : Bool) (b : Nat) (h : b ≠ f.addr) : (s.putBit f v).reg b = s.reg b :=
  State.reg_put_ne s f _ b h

/-- A field read after it is written. -/
theorem State.get_put_same (s : State) (f : Fld) (v : Nat) (h : f.lo + f.width ≤ 32) :
    (s.put f v).get f = v % 2 ^ f.width := by
  simp only [State.get, State.put, State.reg_setReg]
  exact getBits_setBits_same _ _ _ _ h

/-- A field of another register. -/
theorem State.get_put_reg (s : State) (f g : Fld) (v : Nat) (h : g.addr ≠ f.addr) : (s.put f v).get g = s.get g := by
  simp only [State.get, State.put, State.reg_setReg_ne _ _ _ _ h]

/-- Another field of the same register. -/
theorem State.get_put_field (s : State) (f g : Fld) (v : Nat) (hw : f.lo + f.width ≤ 32) (ha : g.addr = f.addr)
    (h : g.lo + g.width ≤ f.lo ∨ f.lo + f.width ≤ g.lo) : (s.put f v).get g = s.get g := by
  simp only [State.get, State.put, ha, State.reg_setReg]
  rcases h with h | h
  · exact getBits_setBits_below _ _ _ _ _ _ hw h
  · exact getBits_setBits_above _ _ _ _ _ _ hw h

/-- Two fields that share no bit. -/
abbrev Fld.apart (f g : Fld) : Prop := g.addr ≠ f.addr ∨ g.lo + g.width ≤ f.lo ∨ f.lo + f.width ≤ g.lo

theorem State.get_put_apart (s : State) (f g : Fld) (v : Nat) (hw : f.lo + f.width ≤ 32) (h : f.apart g) :
    (s.put f v).get g = s.get g := by
  by_cases ha : g.addr = f.addr
  · exact State.get_put_field s f g v hw ha (h.resolve_left (fun hn => hn ha))
  · exact State.get_put_reg s f g v ha

theorem State.bit_put_apart (s : State) (f g : Fld) (v : Nat) (hw : f.lo + f.width ≤ 32) (h : f.apart g) :
    (s.put f v).bit g = s.bit g := by
  simp only [State.bit, State.get_put_apart s f g v hw h]

theorem State.get_putBit_apart (s : State) (f g : Fld) (b : Bool) (hw : f.lo + f.width ≤ 32) (h : f.apart g) :
    (s.putBit f b).get g = s.get g := State.get_put_apart s f g _ hw h

theorem State.bit_putBit_apart (s : State) (f g : Fld) (b : Bool) (hw : f.lo + f.width ≤ 32) (h : f.apart g) :
    (s.putBit f b).bit g = s.bit g := State.bit_put_apart s f g _ hw h

/-- A one-bit field read after it is set. -/
theorem State.bit_putBit_same (s : State) (f : Fld) (b : Bool) (hw : f.width = 1) (h : f.lo < 32) :
    (s.putBit f b).bit f = b := by
  have : f.lo + f.width ≤ 32 := by omega
  simp only [State.bit, State.putBit, State.get_put_same _ _ _ this, hw]
  cases b <;> rfl

theorem State.get_lt (s : State) (f : Fld) : s.get f < 2 ^ f.width := getBits_lt _ _ _

/-- A saturating count: one more, up to the greatest value. -/
theorem State.get_count (s : State) (f : Fld) (hw : f.width = 32) (hl : f.lo = 0) :
    (s.count f).get f = min (s.get f + 1) 0xFFFFFFFF := by
  have h := s.get_lt f
  rw [hw] at h
  simp only [State.count, State.get_put_same s f _ (by omega), hw, sat32]
  split <;> omega

/-! ## Memory -/

@[simp] theorem State.byte_setByte (s : State) (a : Nat) (b : Byte) : (s.setByte a b).byte a = b := mget_mset_same _ _ _ _

theorem State.byte_setByte_ne (s : State) (a c : Nat) (b : Byte) (h : c ≠ a) : (s.setByte a b).byte c = s.byte c :=
  mget_mset_ne _ _ _ _ _ h

theorem State.byte_setBytes_out (s : State) (a c : Nat) (b : Bytes) (h : c < a ∨ a + b.length ≤ c) :
    (s.setBytes a b).byte c = s.byte c := by
  induction b generalizing s a with
  | nil => rfl
  | cons x t ih =>
    simp only [List.length_cons] at h
    rw [State.setBytes, ih (s.setByte a x) (a + 1) (by omega), State.byte_setByte_ne s a c x (by omega)]

theorem State.byte_setBytes_in (s : State) (a i : Nat) (b : Bytes) (h : i < b.length) :
    (s.setBytes a b).byte (a + i) = b[i] := by
  induction b generalizing s a i with
  | nil => simp at h
  | cons x t ih =>
    cases i with
    | zero =>
      rw [State.setBytes, State.byte_setBytes_out _ _ _ _ (by omega)]
      simp
    | succ i =>
      have := ih (s.setByte a x) (a + 1) i (by simpa using h)
      simpa [State.setBytes, Nat.add_assoc, Nat.add_comm 1] using this

/-- Every write of bytes keeps the canonical form of memory. -/
theorem State.setByte_wf (s : State) (a : Nat) (b : Byte) (h : Memory.wf s.mem = true) :
    Memory.wf (s.setByte a b).mem = true := mset_wf _ _ _ _ h

theorem State.setBytes_wf (s : State) (a : Nat) (b : Bytes) (h : Memory.wf s.mem = true) :
    Memory.wf (s.setBytes a b).mem = true := by
  induction b generalizing s a with
  | nil => exact h
  | cons x t ih => exact ih _ _ (s.setByte_wf a x h)

/-! ## Tables -/

@[simp] theorem State.job_setJob (s : State) (j : Nat) (x : Option Job) : (s.setJob j x).job j = x := mget_mset_same _ _ _ _

theorem State.job_setJob_ne (s : State) (j k : Nat) (x : Option Job) (h : k ≠ j) : (s.setJob j x).job k = s.job k :=
  mget_mset_ne _ _ _ _ _ h

@[simp] theorem State.inst_modInst (s : State) (n : Nat) (f : Inst → Inst) : (s.modInst n f).inst n = f (s.inst n) :=
  mget_mset_same _ _ _ _

theorem State.inst_modInst_ne (s : State) (n k : Nat) (f : Inst → Inst) (h : k ≠ n) : (s.modInst n f).inst k = s.inst k :=
  mget_mset_ne _ _ _ _ _ h

@[simp] theorem State.sched_modSched (s : State) (n : Nat) (f : Sched → Sched) : (s.modSched n f).sched n = f (s.sched n) :=
  mget_mset_same _ _ _ _

@[simp] theorem State.owner_modOwner (s : State) (n : Nat) (f : Owner → Owner) : (s.modOwner n f).owner n = f (s.owner n) :=
  mget_mset_same _ _ _ _

@[simp] theorem State.obj_setObj (s : State) (h : Nat) (o : Option Obj) : (s.setObj h o).obj h = o := mget_mset_same _ _ _ _

@[simp] theorem State.odStored_odStore (s : State) (i b : Nat) (v : Option Bytes) : (s.odStore i b v).odStored i b = v :=
  mget_mset_same _ _ _ _

end Sys2Proof.Machine
end

