-- ==== Sys2Proof/Laws/Frame.lean ====
section
/-! SUPPORT. What it is for a function to change only some pieces of State and to keep the canonical form of memory, and
how that passes through the shapes a meaning is made of. The files FrameCore to FrameBus say it of each function, in
the order of the model: of `f` the lemma `f_frame` says that what a mask of pieces covers before `f` it covers after,
where the mask holds the pieces of `f`. -/

namespace Sys2Proof.Machine

/-- The weight of a piece in a mask. -/
def Part.weight : Part → Nat
  | .regs => 1
  | .mem => 2
  | .free => 4
  | .readValue => 8
  | .host => 16
  | .insts => 32
  | .scheds => 64
  | .share => 128
  | .admin => 256
  | .jobs => 512
  | .locket => 1024
  | .meters => 2048
  | .time => 4096
  | .evr => 8192
  | .strand => 16384
  | .restore => 32768
  | .owners => 65536
  | .usage => 131072
  | .store => 262144
  | .ladder => 524288
  | .officers => 1048576
  | .agent => 2097152
  | .bb => 4194304
  | .lcs => 8388608
  | .engines => 16777216
  | .rng => 33554432
  | .alarm => 67108864
  | .power => 134217728
  | .pair => 268435456
  | .worlds => 536870912
  | .mgp => 1073741824
  | .pending => 2147483648

/-- Whether a mask holds the piece of a weight. -/
def inMask (m c : Nat) : Bool := Nat.beq (Nat.mod (Nat.div m c) 2) 1

/-- Only pieces that the mask holds have changed, and the canonical form of memory is kept. -/
def Fr (m : Nat) (s t : State) : Prop :=
  (∀ p : Part, inMask m p.weight = false → p.same s t) ∧ (Memory.wf s.mem = true → Memory.wf t.mem = true)

/-- Every next state of an answer has changed only pieces that the mask holds. -/
def FrO (m : Nat) (s : State) (o : Host.Outcome State Fault Refusal) : Prop := ∀ t, o = .next t → Fr m s t

/-- Nothing has changed. -/
theorem Fr.refl (m : Nat) (s : State) : Fr m s s := ⟨fun p _ => by cases p <;> rfl, id⟩

/-- Sameness passes on. -/
theorem Part.same_trans {s u t : State} {p : Part} (h : p.same s u) (k : p.same u t) : p.same s t := by
  cases p <;> exact Eq.trans k h

/-- Frames pass on. -/
theorem Fr.trans {m : Nat} {s u t : State} (h : Fr m s u) (k : Fr m u t) : Fr m s t :=
  ⟨fun p hp => Part.same_trans (h.1 p hp) (k.1 p hp), fun w => k.2 (h.2 w)⟩

/-- A mask in binary. -/
theorem inMask_testBit (m k : Nat) : inMask m (2 ^ k) = m.testBit k := by
  rw [Nat.testBit_eq_decide_div_mod_eq, Bool.eq_iff_iff, inMask, Nat.beq_eq, decide_eq_true_iff]
  rfl

/-- A smaller mask holds less. -/
theorem inMask_mono {a b k : Nat} (h : Nat.land a b = a) (ha : inMask b (2 ^ k) = false) : inMask a (2 ^ k) =
    false := by
  rw [inMask_testBit] at *
  have : (a &&& b).testBit k = a.testBit k := congrArg (fun x => x.testBit k) h
  rw [← this, Nat.testBit_and, ha, Bool.and_false]

/-- Each weight is a power of two. -/
theorem Part.weight_pow (p : Part) : ∃ k, p.weight = 2 ^ k := by
  cases p
  · exact ⟨0, rfl⟩
  · exact ⟨1, rfl⟩
  · exact ⟨2, rfl⟩
  · exact ⟨3, rfl⟩
  · exact ⟨4, rfl⟩
  · exact ⟨5, rfl⟩
  · exact ⟨6, rfl⟩
  · exact ⟨7, rfl⟩
  · exact ⟨8, rfl⟩
  · exact ⟨9, rfl⟩
  · exact ⟨10, rfl⟩
  · exact ⟨11, rfl⟩
  · exact ⟨12, rfl⟩
  · exact ⟨13, rfl⟩
  · exact ⟨14, rfl⟩
  · exact ⟨15, rfl⟩
  · exact ⟨16, rfl⟩
  · exact ⟨17, rfl⟩
  · exact ⟨18, rfl⟩
  · exact ⟨19, rfl⟩
  · exact ⟨20, rfl⟩
  · exact ⟨21, rfl⟩
  · exact ⟨22, rfl⟩
  · exact ⟨23, rfl⟩
  · exact ⟨24, rfl⟩
  · exact ⟨25, rfl⟩
  · exact ⟨26, rfl⟩
  · exact ⟨27, rfl⟩
  · exact ⟨28, rfl⟩
  · exact ⟨29, rfl⟩
  · exact ⟨30, rfl⟩
  · exact ⟨31, rfl⟩

/-- A mask below a mask that is below a third. -/
theorem Nat.land_assoc_frame {a b c : Nat} (h : Nat.land b c = b) (k : Nat.land a b = a) : Nat.land a c = a := by
  have h' : b &&& c = b := h
  have k' : a &&& b = a := k
  show a &&& c = a
  rw [← k', Nat.and_assoc, h']

/-- What is said with a mask is said with a greater one. -/
theorem Fr.mono {a b : Nat} {s t : State} (h : Fr a s t) (hm : Nat.land a b = a) : Fr b s t := by
  refine ⟨fun p hp => h.1 p ?_, h.2⟩
  obtain ⟨k, hk⟩ := p.weight_pow
  rw [hk] at hp ⊢
  exact inMask_mono hm hp

/-- How a function's own frame goes on to a frame that holds already. -/
theorem Fr.of {a m : Nat} {s0 s t : State} (h : Fr m s0 s) (hm : Nat.land a m = a) (k : Fr a s t) : Fr m s0 t :=
  h.trans (k.mono hm)

/-- The same for an answer. -/
theorem FrO.of {a m : Nat} {s0 s : State} {o : Host.Outcome State Fault Refusal} (h : Fr m s0 s) (hm : Nat.land a m = a)
    (k : FrO a s o) : FrO m s0 o := fun t e => Fr.of h hm (k t e)

/-- The answer of a next state. -/
theorem FrO.next {m : Nat} {s t : State} (h : Fr m s t) : FrO m s (.next t) := by
  intro u e; cases e; exact h

/-- The same of a state given piece by piece. -/
def FrU (m : Nat) (s : State) (x_regs : SMap Word) (x_mem : List Host.Cell) (x_free : Nat) (x_readValue : Nat)
    (x_host : HostPort) (x_insts : SMap Inst) (x_scheds : SMap Sched) (x_share : SchedShared) (x_admin : Admin)
    (x_jobs : SMap (Option Job)) (x_locket : LocketShared) (x_meters : Meters) (x_time : TimeUnit) (x_evr :
    Recorder) (x_strand : Strand) (x_restore : Restore) (x_owners : SMap Owner) (x_usage : SMap (Option Usage))
    (x_store : Store) (x_ladder : Ladder) (x_officers : Officers) (x_agent : Agent) (x_bb : Backup) (x_lcs : Lcs)
    (x_engines : Engines) (x_rng : Rng) (x_alarm : Alarm) (x_power : Power) (x_pair : PairUnit) (x_worlds : Worlds)
    (x_mgp : Mgp) (x_pending : List Instr) : Prop :=
  Fr m s (State.mk x_regs x_mem x_free x_readValue x_host x_insts x_scheds x_share x_admin x_jobs x_locket
      x_meters x_time x_evr x_strand x_restore x_owners x_usage x_store x_ladder x_officers x_agent x_bb x_lcs
      x_engines x_rng x_alarm x_power x_pair x_worlds x_mgp x_pending)

/-- A state given piece by piece. -/
theorem Fr.mk_iff {m : Nat} {s : State} {x_regs : SMap Word} {x_mem : List Host.Cell} {x_free : Nat}
    {x_readValue : Nat} {x_host : HostPort} {x_insts : SMap Inst} {x_scheds : SMap Sched} {x_share : SchedShared}
    {x_admin : Admin} {x_jobs : SMap (Option Job)} {x_locket : LocketShared} {x_meters : Meters} {x_time : TimeUnit}
    {x_evr : Recorder} {x_strand : Strand} {x_restore : Restore} {x_owners : SMap Owner} {x_usage : SMap (Option
    Usage)} {x_store : Store} {x_ladder : Ladder} {x_officers : Officers} {x_agent : Agent} {x_bb : Backup} {x_lcs :
    Lcs} {x_engines : Engines} {x_rng : Rng} {x_alarm : Alarm} {x_power : Power} {x_pair : PairUnit} {x_worlds :
    Worlds} {x_mgp : Mgp} {x_pending : List Instr} :
    Fr m s (State.mk x_regs x_mem x_free x_readValue x_host x_insts x_scheds x_share x_admin x_jobs x_locket
        x_meters x_time x_evr x_strand x_restore x_owners x_usage x_store x_ladder x_officers x_agent x_bb x_lcs
        x_engines x_rng x_alarm x_power x_pair x_worlds x_mgp x_pending) ↔ FrU m s x_regs x_mem x_free x_readValue
        x_host x_insts x_scheds x_share x_admin x_jobs x_locket x_meters x_time x_evr x_strand x_restore x_owners
        x_usage x_store x_ladder x_officers x_agent x_bb x_lcs x_engines x_rng x_alarm x_power x_pair x_worlds x_mgp
        x_pending := Iff.rfl

/-- A record update of pieces that the mask holds, memory aside. -/
theorem FrU.upd {m : Nat} {s u : State} {x_regs : SMap Word} {x_free : Nat} {x_readValue : Nat} {x_host :
    HostPort} {x_insts : SMap Inst} {x_scheds : SMap Sched} {x_share : SchedShared} {x_admin : Admin} {x_jobs : SMap
    (Option Job)} {x_locket : LocketShared} {x_meters : Meters} {x_time : TimeUnit} {x_evr : Recorder} {x_strand :
    Strand} {x_restore : Restore} {x_owners : SMap Owner} {x_usage : SMap (Option Usage)} {x_store : Store}
    {x_ladder : Ladder} {x_officers : Officers} {x_agent : Agent} {x_bb : Backup} {x_lcs : Lcs} {x_engines :
    Engines} {x_rng : Rng} {x_alarm : Alarm} {x_power : Power} {x_pair : PairUnit} {x_worlds : Worlds} {x_mgp : Mgp}
    (h : Fr m s u)
    (e : State.mk (@Bool.rec (fun _ => SMap Word) u.regs x_regs (inMask m 1)) (@Bool.rec (fun _ => List Host.Cell)
        u.mem u.mem (inMask m 2)) (@Bool.rec (fun _ => Nat) u.free x_free (inMask m 4)) (@Bool.rec (fun _ => Nat)
        u.readValue x_readValue (inMask m 8)) (@Bool.rec (fun _ => HostPort) u.host x_host (inMask m 16)) (@Bool.rec
        (fun _ => SMap Inst) u.insts x_insts (inMask m 32)) (@Bool.rec (fun _ => SMap Sched) u.scheds x_scheds (inMask m
        64)) (@Bool.rec (fun _ => SchedShared) u.share x_share (inMask m 128)) (@Bool.rec (fun _ => Admin) u.admin
        x_admin (inMask m 256)) (@Bool.rec (fun _ => SMap (Option Job)) u.jobs x_jobs (inMask m 512)) (@Bool.rec (fun _
        => LocketShared) u.locket x_locket (inMask m 1024)) (@Bool.rec (fun _ => Meters) u.meters x_meters (inMask m
        2048)) (@Bool.rec (fun _ => TimeUnit) u.time x_time (inMask m 4096)) (@Bool.rec (fun _ => Recorder) u.evr x_evr
        (inMask m 8192)) (@Bool.rec (fun _ => Strand) u.strand x_strand (inMask m 16384)) (@Bool.rec (fun _ => Restore)
        u.restore x_restore (inMask m 32768)) (@Bool.rec (fun _ => SMap Owner) u.owners x_owners (inMask m 65536))
        (@Bool.rec (fun _ => SMap (Option Usage)) u.usage x_usage (inMask m 131072)) (@Bool.rec (fun _ => Store) u.store
        x_store (inMask m 262144)) (@Bool.rec (fun _ => Ladder) u.ladder x_ladder (inMask m 524288)) (@Bool.rec (fun _
        => Officers) u.officers x_officers (inMask m 1048576)) (@Bool.rec (fun _ => Agent) u.agent x_agent (inMask m
        2097152)) (@Bool.rec (fun _ => Backup) u.bb x_bb (inMask m 4194304)) (@Bool.rec (fun _ => Lcs) u.lcs x_lcs
        (inMask m 8388608)) (@Bool.rec (fun _ => Engines) u.engines x_engines (inMask m 16777216)) (@Bool.rec (fun _ =>
        Rng) u.rng x_rng (inMask m 33554432)) (@Bool.rec (fun _ => Alarm) u.alarm x_alarm (inMask m 67108864))
        (@Bool.rec (fun _ => Power) u.power x_power (inMask m 134217728)) (@Bool.rec (fun _ => PairUnit) u.pair x_pair
        (inMask m 268435456)) (@Bool.rec (fun _ => Worlds) u.worlds x_worlds (inMask m 536870912)) (@Bool.rec (fun _ =>
        Mgp) u.mgp x_mgp (inMask m 1073741824)) (@Bool.rec (fun _ => List Instr) u.pending u.pending (inMask m
        2147483648)) = State.mk x_regs u.mem x_free x_readValue x_host x_insts x_scheds x_share x_admin x_jobs x_locket
        x_meters x_time x_evr x_strand x_restore x_owners x_usage x_store x_ladder x_officers x_agent x_bb x_lcs
        x_engines x_rng x_alarm x_power x_pair x_worlds x_mgp u.pending) :
    FrU m s x_regs u.mem x_free x_readValue x_host x_insts x_scheds x_share x_admin x_jobs x_locket x_meters x_time
        x_evr x_strand x_restore x_owners x_usage x_store x_ladder x_officers x_agent x_bb x_lcs x_engines x_rng x_alarm
        x_power x_pair x_worlds x_mgp u.pending := by
  refine ⟨fun p hp => Part.same_trans (h.1 p hp) ?_, h.2⟩
  cases p
  · have e2 := congrArg State.regs e
    dsimp only [Part.weight] at hp e2
    rw [hp] at e2
    exact e2.symm
  · have e2 := congrArg State.mem e
    dsimp only [Part.weight] at hp e2
    rw [hp] at e2
    exact e2.symm
  · have e2 := congrArg State.free e
    dsimp only [Part.weight] at hp e2
    rw [hp] at e2
    exact e2.symm
  · have e2 := congrArg State.readValue e
    dsimp only [Part.weight] at hp e2
    rw [hp] at e2
    exact e2.symm
  · have e2 := congrArg State.host e
    dsimp only [Part.weight] at hp e2
    rw [hp] at e2
    exact e2.symm
  · have e2 := congrArg State.insts e
    dsimp only [Part.weight] at hp e2
    rw [hp] at e2
    exact e2.symm
  · have e2 := congrArg State.scheds e
    dsimp only [Part.weight] at hp e2
    rw [hp] at e2
    exact e2.symm
  · have e2 := congrArg State.share e
    dsimp only [Part.weight] at hp e2
    rw [hp] at e2
    exact e2.symm
  · have e2 := congrArg State.admin e
    dsimp only [Part.weight] at hp e2
    rw [hp] at e2
    exact e2.symm
  · have e2 := congrArg State.jobs e
    dsimp only [Part.weight] at hp e2
    rw [hp] at e2
    exact e2.symm
  · have e2 := congrArg State.locket e
    dsimp only [Part.weight] at hp e2
    rw [hp] at e2
    exact e2.symm
  · have e2 := congrArg State.meters e
    dsimp only [Part.weight] at hp e2
    rw [hp] at e2
    exact e2.symm
  · have e2 := congrArg State.time e
    dsimp only [Part.weight] at hp e2
    rw [hp] at e2
    exact e2.symm
  · have e2 := congrArg State.evr e
    dsimp only [Part.weight] at hp e2
    rw [hp] at e2
    exact e2.symm
  · have e2 := congrArg State.strand e
    dsimp only [Part.weight] at hp e2
    rw [hp] at e2
    exact e2.symm
  · have e2 := congrArg State.restore e
    dsimp only [Part.weight] at hp e2
    rw [hp] at e2
    exact e2.symm
  · have e2 := congrArg State.owners e
    dsimp only [Part.weight] at hp e2
    rw [hp] at e2
    exact e2.symm
  · have e2 := congrArg State.usage e
    dsimp only [Part.weight] at hp e2
    rw [hp] at e2
    exact e2.symm
  · have e2 := congrArg State.store e
    dsimp only [Part.weight] at hp e2
    rw [hp] at e2
    exact e2.symm
  · have e2 := congrArg State.ladder e
    dsimp only [Part.weight] at hp e2
    rw [hp] at e2
    exact e2.symm
  · have e2 := congrArg State.officers e
    dsimp only [Part.weight] at hp e2
    rw [hp] at e2
    exact e2.symm
  · have e2 := congrArg State.agent e
    dsimp only [Part.weight] at hp e2
    rw [hp] at e2
    exact e2.symm
  · have e2 := congrArg State.bb e
    dsimp only [Part.weight] at hp e2
    rw [hp] at e2
    exact e2.symm
  · have e2 := congrArg State.lcs e
    dsimp only [Part.weight] at hp e2
    rw [hp] at e2
    exact e2.symm
  · have e2 := congrArg State.engines e
    dsimp only [Part.weight] at hp e2
    rw [hp] at e2
    exact e2.symm
  · have e2 := congrArg State.rng e
    dsimp only [Part.weight] at hp e2
    rw [hp] at e2
    exact e2.symm
  · have e2 := congrArg State.alarm e
    dsimp only [Part.weight] at hp e2
    rw [hp] at e2
    exact e2.symm
  · have e2 := congrArg State.power e
    dsimp only [Part.weight] at hp e2
    rw [hp] at e2
    exact e2.symm
  · have e2 := congrArg State.pair e
    dsimp only [Part.weight] at hp e2
    rw [hp] at e2
    exact e2.symm
  · have e2 := congrArg State.worlds e
    dsimp only [Part.weight] at hp e2
    rw [hp] at e2
    exact e2.symm
  · have e2 := congrArg State.mgp e
    dsimp only [Part.weight] at hp e2
    rw [hp] at e2
    exact e2.symm
  · have e2 := congrArg State.pending e
    dsimp only [Part.weight] at hp e2
    rw [hp] at e2
    exact e2.symm

/-- A record update that erases bytes of memory. -/
theorem FrU.filter {m : Nat} {s u : State} {x_regs : SMap Word} {x_free : Nat} {x_readValue : Nat} {x_host :
    HostPort} {x_insts : SMap Inst} {x_scheds : SMap Sched} {x_share : SchedShared} {x_admin : Admin} {x_jobs : SMap
    (Option Job)} {x_locket : LocketShared} {x_meters : Meters} {x_time : TimeUnit} {x_evr : Recorder} {x_strand :
    Strand} {x_restore : Restore} {x_owners : SMap Owner} {x_usage : SMap (Option Usage)} {x_store : Store}
    {x_ladder : Ladder} {x_officers : Officers} {x_agent : Agent} {x_bb : Backup} {x_lcs : Lcs} {x_engines :
    Engines} {x_rng : Rng} {x_alarm : Alarm} {x_power : Power} {x_pair : PairUnit} {x_worlds : Worlds} {x_mgp : Mgp}
    (q : Host.Cell → Bool) (h : Fr m s u)
    (e : State.mk (@Bool.rec (fun _ => SMap Word) u.regs x_regs (inMask m 1)) (@Bool.rec (fun _ => List Host.Cell)
        u.mem (u.mem.filter q) (inMask m 2)) (@Bool.rec (fun _ => Nat) u.free x_free (inMask m 4)) (@Bool.rec (fun _ =>
        Nat) u.readValue x_readValue (inMask m 8)) (@Bool.rec (fun _ => HostPort) u.host x_host (inMask m 16))
        (@Bool.rec (fun _ => SMap Inst) u.insts x_insts (inMask m 32)) (@Bool.rec (fun _ => SMap Sched) u.scheds
        x_scheds (inMask m 64)) (@Bool.rec (fun _ => SchedShared) u.share x_share (inMask m 128)) (@Bool.rec (fun _ =>
        Admin) u.admin x_admin (inMask m 256)) (@Bool.rec (fun _ => SMap (Option Job)) u.jobs x_jobs (inMask m 512))
        (@Bool.rec (fun _ => LocketShared) u.locket x_locket (inMask m 1024)) (@Bool.rec (fun _ => Meters) u.meters
        x_meters (inMask m 2048)) (@Bool.rec (fun _ => TimeUnit) u.time x_time (inMask m 4096)) (@Bool.rec (fun _ =>
        Recorder) u.evr x_evr (inMask m 8192)) (@Bool.rec (fun _ => Strand) u.strand x_strand (inMask m 16384))
        (@Bool.rec (fun _ => Restore) u.restore x_restore (inMask m 32768)) (@Bool.rec (fun _ => SMap Owner) u.owners
        x_owners (inMask m 65536)) (@Bool.rec (fun _ => SMap (Option Usage)) u.usage x_usage (inMask m 131072))
        (@Bool.rec (fun _ => Store) u.store x_store (inMask m 262144)) (@Bool.rec (fun _ => Ladder) u.ladder x_ladder
        (inMask m 524288)) (@Bool.rec (fun _ => Officers) u.officers x_officers (inMask m 1048576)) (@Bool.rec (fun _ =>
        Agent) u.agent x_agent (inMask m 2097152)) (@Bool.rec (fun _ => Backup) u.bb x_bb (inMask m 4194304)) (@Bool.rec
        (fun _ => Lcs) u.lcs x_lcs (inMask m 8388608)) (@Bool.rec (fun _ => Engines) u.engines x_engines (inMask m
        16777216)) (@Bool.rec (fun _ => Rng) u.rng x_rng (inMask m 33554432)) (@Bool.rec (fun _ => Alarm) u.alarm
        x_alarm (inMask m 67108864)) (@Bool.rec (fun _ => Power) u.power x_power (inMask m 134217728)) (@Bool.rec (fun _
        => PairUnit) u.pair x_pair (inMask m 268435456)) (@Bool.rec (fun _ => Worlds) u.worlds x_worlds (inMask m
        536870912)) (@Bool.rec (fun _ => Mgp) u.mgp x_mgp (inMask m 1073741824)) (@Bool.rec (fun _ => List Instr)
        u.pending u.pending (inMask m 2147483648)) = State.mk x_regs (u.mem.filter q) x_free x_readValue x_host x_insts
        x_scheds x_share x_admin x_jobs x_locket x_meters x_time x_evr x_strand x_restore x_owners x_usage x_store
        x_ladder x_officers x_agent x_bb x_lcs x_engines x_rng x_alarm x_power x_pair x_worlds x_mgp u.pending) :
    FrU m s x_regs (u.mem.filter q) x_free x_readValue x_host x_insts x_scheds x_share x_admin x_jobs x_locket
        x_meters x_time x_evr x_strand x_restore x_owners x_usage x_store x_ladder x_officers x_agent x_bb x_lcs
        x_engines x_rng x_alarm x_power x_pair x_worlds x_mgp u.pending := by
  refine ⟨fun p hp => Part.same_trans (h.1 p hp) ?_, fun w => filter_wf _ _ _ (h.2 w)⟩
  cases p
  · have e2 := congrArg State.regs e
    dsimp only [Part.weight] at hp e2
    rw [hp] at e2
    exact e2.symm
  · have e2 := congrArg State.mem e
    dsimp only [Part.weight] at hp e2
    rw [hp] at e2
    exact e2.symm
  · have e2 := congrArg State.free e
    dsimp only [Part.weight] at hp e2
    rw [hp] at e2
    exact e2.symm
  · have e2 := congrArg State.readValue e
    dsimp only [Part.weight] at hp e2
    rw [hp] at e2
    exact e2.symm
  · have e2 := congrArg State.host e
    dsimp only [Part.weight] at hp e2
    rw [hp] at e2
    exact e2.symm
  · have e2 := congrArg State.insts e
    dsimp only [Part.weight] at hp e2
    rw [hp] at e2
    exact e2.symm
  · have e2 := congrArg State.scheds e
    dsimp only [Part.weight] at hp e2
    rw [hp] at e2
    exact e2.symm
  · have e2 := congrArg State.share e
    dsimp only [Part.weight] at hp e2
    rw [hp] at e2
    exact e2.symm
  · have e2 := congrArg State.admin e
    dsimp only [Part.weight] at hp e2
    rw [hp] at e2
    exact e2.symm
  · have e2 := congrArg State.jobs e
    dsimp only [Part.weight] at hp e2
    rw [hp] at e2
    exact e2.symm
  · have e2 := congrArg State.locket e
    dsimp only [Part.weight] at hp e2
    rw [hp] at e2
    exact e2.symm
  · have e2 := congrArg State.meters e
    dsimp only [Part.weight] at hp e2
    rw [hp] at e2
    exact e2.symm
  · have e2 := congrArg State.time e
    dsimp only [Part.weight] at hp e2
    rw [hp] at e2
    exact e2.symm
  · have e2 := congrArg State.evr e
    dsimp only [Part.weight] at hp e2
    rw [hp] at e2
    exact e2.symm
  · have e2 := congrArg State.strand e
    dsimp only [Part.weight] at hp e2
    rw [hp] at e2
    exact e2.symm
  · have e2 := congrArg State.restore e
    dsimp only [Part.weight] at hp e2
    rw [hp] at e2
    exact e2.symm
  · have e2 := congrArg State.owners e
    dsimp only [Part.weight] at hp e2
    rw [hp] at e2
    exact e2.symm
  · have e2 := congrArg State.usage e
    dsimp only [Part.weight] at hp e2
    rw [hp] at e2
    exact e2.symm
  · have e2 := congrArg State.store e
    dsimp only [Part.weight] at hp e2
    rw [hp] at e2
    exact e2.symm
  · have e2 := congrArg State.ladder e
    dsimp only [Part.weight] at hp e2
    rw [hp] at e2
    exact e2.symm
  · have e2 := congrArg State.officers e
    dsimp only [Part.weight] at hp e2
    rw [hp] at e2
    exact e2.symm
  · have e2 := congrArg State.agent e
    dsimp only [Part.weight] at hp e2
    rw [hp] at e2
    exact e2.symm
  · have e2 := congrArg State.bb e
    dsimp only [Part.weight] at hp e2
    rw [hp] at e2
    exact e2.symm
  · have e2 := congrArg State.lcs e
    dsimp only [Part.weight] at hp e2
    rw [hp] at e2
    exact e2.symm
  · have e2 := congrArg State.engines e
    dsimp only [Part.weight] at hp e2
    rw [hp] at e2
    exact e2.symm
  · have e2 := congrArg State.rng e
    dsimp only [Part.weight] at hp e2
    rw [hp] at e2
    exact e2.symm
  · have e2 := congrArg State.alarm e
    dsimp only [Part.weight] at hp e2
    rw [hp] at e2
    exact e2.symm
  · have e2 := congrArg State.power e
    dsimp only [Part.weight] at hp e2
    rw [hp] at e2
    exact e2.symm
  · have e2 := congrArg State.pair e
    dsimp only [Part.weight] at hp e2
    rw [hp] at e2
    exact e2.symm
  · have e2 := congrArg State.worlds e
    dsimp only [Part.weight] at hp e2
    rw [hp] at e2
    exact e2.symm
  · have e2 := congrArg State.mgp e
    dsimp only [Part.weight] at hp e2
    rw [hp] at e2
    exact e2.symm
  · have e2 := congrArg State.pending e
    dsimp only [Part.weight] at hp e2
    rw [hp] at e2
    exact e2.symm

/-- A fold over a list, each of whose steps has the frame. -/
theorem Fr.foldl {α : Type} {m : Nat} {s0 s : State} (f : State → α → State) (l : List α) (h : Fr m s0 s)
    (hf : ∀ s x, Fr m s0 s → Fr m s0 (f s x)) : Fr m s0 (l.foldl f s) := by
  induction l generalizing s with
  | nil => exact h
  | cons x t ih => exact ih (hf _ _ h)

/-- A choice between two states. -/
theorem Fr.ite {m : Nat} {s : State} {c : Prop} [Decidable c] {a b : State} (h : Fr m s a) (k : Fr m s b) :
    Fr m s (if c then a else b) := by
  split <;> assumption

/-- A choice between two states, each beside a value. -/
theorem Fr.ite2 {α : Type} {m : Nat} {s : State} {c : Prop} [Decidable c] {a b : α × State} (h : Fr m s a.2) (k
    : Fr m s b.2) :
    Fr m s (if c then a else b).2 := by
  split <;> assumption

/-- A choice between two answers. -/
theorem FrO.ite {m : Nat} {s : State} {c : Prop} [Decidable c] {a b : Host.Outcome State Fault Refusal} (h : FrO m s a)
    (k : FrO m s b) : FrO m s (if c then a else b) := by
  split <;> assumption

/-- The state of a pair, the pair being known. -/
theorem Fr.pair {α : Type} {m : Nat} {s : State} {p : α × State} {a : α} {t : State} (e : p = (a, t)) (h : Fr m s p.2) :
    Fr m s t := by
  rw [e] at h; exact h

/-- The same with the state first. -/
theorem Fr.pair1 {α : Type} {m : Nat} {s : State} {p : State × α} {a : α} {t : State} (e : p = (t, a)) (h : Fr m
    s p.1) :
    Fr m s t := by
  rw [e] at h; exact h

/-- The same with the state third. -/
theorem Fr.pair2 {α β : Type} {m : Nat} {s : State} {p : α × β × State} {a : α} {b : β} {t : State} (e : p = (a, b, t))
    (h : Fr m s p.2.2) : Fr m s t := by
  rw [e] at h; exact h

/-- The frame in the words of the statements. -/
theorem Fr.only {m : Nat} {s t : State} (h : Fr m s t) (l : List Part)
    (hl : ∀ p, p ∉ l → inMask m p.weight = false) : Only l s t := fun p hp => h.1 p (hl p hp)

/-- The frame as an equation: with a mask written out, the right side is `s` with the pieces of the mask taken
    from `t`. -/
theorem Fr.eq {m : Nat} {s t : State} (h : Fr m s t) : t = State.mk (@Bool.rec (fun _ => SMap Word) s.regs
    t.regs (inMask m 1)) (@Bool.rec (fun _ => List Host.Cell) s.mem t.mem (inMask m 2)) (@Bool.rec (fun _ => Nat)
    s.free t.free (inMask m 4)) (@Bool.rec (fun _ => Nat) s.readValue t.readValue (inMask m 8)) (@Bool.rec (fun _ =>
    HostPort) s.host t.host (inMask m 16)) (@Bool.rec (fun _ => SMap Inst) s.insts t.insts (inMask m 32)) (@Bool.rec
    (fun _ => SMap Sched) s.scheds t.scheds (inMask m 64)) (@Bool.rec (fun _ => SchedShared) s.share t.share (inMask
    m 128)) (@Bool.rec (fun _ => Admin) s.admin t.admin (inMask m 256)) (@Bool.rec (fun _ => SMap (Option Job))
    s.jobs t.jobs (inMask m 512)) (@Bool.rec (fun _ => LocketShared) s.locket t.locket (inMask m 1024)) (@Bool.rec
    (fun _ => Meters) s.meters t.meters (inMask m 2048)) (@Bool.rec (fun _ => TimeUnit) s.time t.time (inMask m
    4096)) (@Bool.rec (fun _ => Recorder) s.evr t.evr (inMask m 8192)) (@Bool.rec (fun _ => Strand) s.strand
    t.strand (inMask m 16384)) (@Bool.rec (fun _ => Restore) s.restore t.restore (inMask m 32768)) (@Bool.rec (fun _
    => SMap Owner) s.owners t.owners (inMask m 65536)) (@Bool.rec (fun _ => SMap (Option Usage)) s.usage t.usage
    (inMask m 131072)) (@Bool.rec (fun _ => Store) s.store t.store (inMask m 262144)) (@Bool.rec (fun _ => Ladder)
    s.ladder t.ladder (inMask m 524288)) (@Bool.rec (fun _ => Officers) s.officers t.officers (inMask m 1048576))
    (@Bool.rec (fun _ => Agent) s.agent t.agent (inMask m 2097152)) (@Bool.rec (fun _ => Backup) s.bb t.bb (inMask m
    4194304)) (@Bool.rec (fun _ => Lcs) s.lcs t.lcs (inMask m 8388608)) (@Bool.rec (fun _ => Engines) s.engines
    t.engines (inMask m 16777216)) (@Bool.rec (fun _ => Rng) s.rng t.rng (inMask m 33554432)) (@Bool.rec (fun _ =>
    Alarm) s.alarm t.alarm (inMask m 67108864)) (@Bool.rec (fun _ => Power) s.power t.power (inMask m 134217728))
    (@Bool.rec (fun _ => PairUnit) s.pair t.pair (inMask m 268435456)) (@Bool.rec (fun _ => Worlds) s.worlds
    t.worlds (inMask m 536870912)) (@Bool.rec (fun _ => Mgp) s.mgp t.mgp (inMask m 1073741824)) (@Bool.rec (fun _ =>
    List Instr) s.pending t.pending (inMask m 2147483648)) := by
  have k : ∀ p : Part, inMask m p.weight = false → p.same s t := h.1
  cases t
  simp only [State.mk.injEq]
  refine ⟨?_, ?_, ?_, ?_, ?_, ?_, ?_, ?_, ?_, ?_, ?_, ?_, ?_, ?_, ?_, ?_, ?_, ?_, ?_, ?_, ?_, ?_, ?_, ?_, ?_, ?_,
      ?_, ?_, ?_, ?_, ?_, ?_⟩
  · cases e : inMask m 1
    · exact k .regs e
    · rfl
  · cases e : inMask m 2
    · exact k .mem e
    · rfl
  · cases e : inMask m 4
    · exact k .free e
    · rfl
  · cases e : inMask m 8
    · exact k .readValue e
    · rfl
  · cases e : inMask m 16
    · exact k .host e
    · rfl
  · cases e : inMask m 32
    · exact k .insts e
    · rfl
  · cases e : inMask m 64
    · exact k .scheds e
    · rfl
  · cases e : inMask m 128
    · exact k .share e
    · rfl
  · cases e : inMask m 256
    · exact k .admin e
    · rfl
  · cases e : inMask m 512
    · exact k .jobs e
    · rfl
  · cases e : inMask m 1024
    · exact k .locket e
    · rfl
  · cases e : inMask m 2048
    · exact k .meters e
    · rfl
  · cases e : inMask m 4096
    · exact k .time e
    · rfl
  · cases e : inMask m 8192
    · exact k .evr e
    · rfl
  · cases e : inMask m 16384
    · exact k .strand e
    · rfl
  · cases e : inMask m 32768
    · exact k .restore e
    · rfl
  · cases e : inMask m 65536
    · exact k .owners e
    · rfl
  · cases e : inMask m 131072
    · exact k .usage e
    · rfl
  · cases e : inMask m 262144
    · exact k .store e
    · rfl
  · cases e : inMask m 524288
    · exact k .ladder e
    · rfl
  · cases e : inMask m 1048576
    · exact k .officers e
    · rfl
  · cases e : inMask m 2097152
    · exact k .agent e
    · rfl
  · cases e : inMask m 4194304
    · exact k .bb e
    · rfl
  · cases e : inMask m 8388608
    · exact k .lcs e
    · rfl
  · cases e : inMask m 16777216
    · exact k .engines e
    · rfl
  · cases e : inMask m 33554432
    · exact k .rng e
    · rfl
  · cases e : inMask m 67108864
    · exact k .alarm e
    · rfl
  · cases e : inMask m 134217728
    · exact k .power e
    · rfl
  · cases e : inMask m 268435456
    · exact k .pair e
    · rfl
  · cases e : inMask m 536870912
    · exact k .worlds e
    · rfl
  · cases e : inMask m 1073741824
    · exact k .mgp e
    · rfl
  · cases e : inMask m 2147483648
    · exact k .pending e
    · rfl

/-- A state changed where an option holds a value. -/
theorem Fr.elim {α : Type} {m : Nat} {o s : State} {x : Option α} {f : α → State} (h : Fr m o s) (hf : ∀ a, Fr m
    o (f a)) :
    Fr m o (x.elim s f) := by
  cases x with
  | none => exact h
  | some a => exact hf a

/-- A trigger bit of a register write. -/
theorem Fr.trigger {m : Nat} {o s t : State} {ok : Bool} (h : Fr m o s) (ht : Fr m o t) : Fr m o
    (Sys2Proof.Machine.trigger ok s t) := by
  cases ok <;> assumption

/-- A register write that has the effect of a command. -/
theorem nextOf_frame {m : Nat} {o s : State} {x : Host.Outcome State Fault Refusal} (h : Fr m o s) (ho : FrO m o x) :
    Fr m o (nextOf s x) := by
  cases x with
  | next t => exact ho t rfl
  | fault f => exact h
  | refused r => exact h

end Sys2Proof.Machine
end

