-- ==== Sys2Proof/Laws/FrameCore.lean ====
section
/-! SUPPORT. Which pieces of State each function of the shared operations, events, accesses, meters, ladder, store, settings, strand, Locket, engines and alarms may change. -/

set_option maxRecDepth 4000
set_option linter.all false

namespace Sys2Proof.Machine

theorem State.setReg_frame {m_ : Nat} {o_ : State} {s : State} {a : Nat} {w : Word} (h_ : Fr m_ o_ s) (hm_ : Nat.land 1 m_ = 1) : Fr m_ o_ (State.setReg s a w) := by
  refine Fr.of h_ hm_ ?_
  clear h_ hm_
  have h_ := Fr.refl 1 s
  unfold State.setReg
  repeat' first
    | with_reducible assumption
    | exact (rfl : Nat.land _ _ = _)
    | (extract_lets +onlyGivenNames x
       first
         | (have hx : Fr 1 s x := ?_
            (on_goal 1 => clear_value x)
            on_goal 2 => (unfold x; clear x))
         | (have hx : Fr 1 s x.2 := ?_
            (on_goal 1 => clear_value x)
            on_goal 2 => (unfold x; clear x))
         | clear_value x)
    | (simp -zeta -beta -iota only [Fr.mk_iff]; first | refine FrU.upd ?_ rfl | refine FrU.filter _ ?_ rfl)

theorem State.put_frame {m_ : Nat} {o_ : State} {s : State} {f : Fld} {v : Nat} (h_ : Fr m_ o_ s) (hm_ : Nat.land 1 m_ = 1) : Fr m_ o_ (State.put s f v) := by
  refine Fr.of h_ hm_ ?_
  clear h_ hm_
  have h_ := Fr.refl 1 s
  unfold State.put
  repeat' first
    | with_reducible assumption
    | exact (rfl : Nat.land _ _ = _)
    | with_reducible apply State.setReg_frame

theorem State.putBit_frame {m_ : Nat} {o_ : State} {s : State} {f : Fld} {b : Bool} (h_ : Fr m_ o_ s) (hm_ : Nat.land 1 m_ = 1) : Fr m_ o_ (State.putBit s f b) := by
  refine Fr.of h_ hm_ ?_
  clear h_ hm_
  have h_ := Fr.refl 1 s
  unfold State.putBit
  repeat' first
    | with_reducible assumption
    | exact (rfl : Nat.land _ _ = _)
    | with_reducible apply State.put_frame

theorem State.count_frame {m_ : Nat} {o_ : State} {s : State} {f : Fld} (h_ : Fr m_ o_ s) (hm_ : Nat.land 1 m_ = 1) : Fr m_ o_ (State.count s f) := by
  refine Fr.of h_ hm_ ?_
  clear h_ hm_
  have h_ := Fr.refl 1 s
  unfold State.count
  repeat' first
    | with_reducible assumption
    | exact (rfl : Nat.land _ _ = _)
    | with_reducible apply State.put_frame

theorem State.setByte_frame {m_ : Nat} {o_ : State} {s : State} {a : Nat} {b : Byte} (h_ : Fr m_ o_ s) (hm_ : Nat.land 2 m_ = 2) : Fr m_ o_ (State.setByte s a b) := by
  refine Fr.of h_ hm_ ⟨fun p hp => ?_, s.setByte_wf a b⟩
  cases p <;> first | rfl | exact absurd hp (by decide)

theorem State.setBytes_frame {m_ : Nat} {o_ : State} {s : State} {a : Nat} {a2 : Bytes} (h_ : Fr m_ o_ s) (hm_ : Nat.land 2 m_ = 2) : Fr m_ o_ (State.setBytes s a a2) := by
  refine Fr.of h_ hm_ ⟨fun p hp => ?_, s.setBytes_wf a _⟩
  cases p <;> first | exact absurd hp (by decide) | exact s.setBytes_regs a _ | simp [Part.same]

theorem State.modInst_frame {m_ : Nat} {o_ : State} {s : State} {n : Nat} {f : Inst → Inst} (h_ : Fr m_ o_ s) (hm_ : Nat.land 32 m_ = 32) : Fr m_ o_ (State.modInst s n f) := by
  refine Fr.of h_ hm_ ?_
  clear h_ hm_
  have h_ := Fr.refl 32 s
  unfold State.modInst
  repeat' first
    | with_reducible assumption
    | exact (rfl : Nat.land _ _ = _)
    | (extract_lets +onlyGivenNames x
       first
         | (have hx : Fr 32 s x := ?_
            (on_goal 1 => clear_value x)
            on_goal 2 => (unfold x; clear x))
         | (have hx : Fr 32 s x.2 := ?_
            (on_goal 1 => clear_value x)
            on_goal 2 => (unfold x; clear x))
         | clear_value x)
    | (simp -zeta -beta -iota only [Fr.mk_iff]; first | refine FrU.upd ?_ rfl | refine FrU.filter _ ?_ rfl)
    | dsimp -zeta only

theorem State.modSched_frame {m_ : Nat} {o_ : State} {s : State} {n : Nat} {f : Sched → Sched} (h_ : Fr m_ o_ s) (hm_ : Nat.land 64 m_ = 64) : Fr m_ o_ (State.modSched s n f) := by
  refine Fr.of h_ hm_ ?_
  clear h_ hm_
  have h_ := Fr.refl 64 s
  unfold State.modSched
  repeat' first
    | with_reducible assumption
    | exact (rfl : Nat.land _ _ = _)
    | (extract_lets +onlyGivenNames x
       first
         | (have hx : Fr 64 s x := ?_
            (on_goal 1 => clear_value x)
            on_goal 2 => (unfold x; clear x))
         | (have hx : Fr 64 s x.2 := ?_
            (on_goal 1 => clear_value x)
            on_goal 2 => (unfold x; clear x))
         | clear_value x)
    | (simp -zeta -beta -iota only [Fr.mk_iff]; first | refine FrU.upd ?_ rfl | refine FrU.filter _ ?_ rfl)
    | dsimp -zeta only

theorem State.setJob_frame {m_ : Nat} {o_ : State} {s : State} {j : Nat} {x : Option Job} (h_ : Fr m_ o_ s) (hm_ : Nat.land 512 m_ = 512) : Fr m_ o_ (State.setJob s j x) := by
  refine Fr.of h_ hm_ ?_
  clear h_ hm_
  have h_ := Fr.refl 512 s
  unfold State.setJob
  repeat' first
    | with_reducible assumption
    | exact (rfl : Nat.land _ _ = _)
    | (extract_lets +onlyGivenNames x
       first
         | (have hx : Fr 512 s x := ?_
            (on_goal 1 => clear_value x)
            on_goal 2 => (unfold x; clear x))
         | (have hx : Fr 512 s x.2 := ?_
            (on_goal 1 => clear_value x)
            on_goal 2 => (unfold x; clear x))
         | clear_value x)
    | (simp -zeta -beta -iota only [Fr.mk_iff]; first | refine FrU.upd ?_ rfl | refine FrU.filter _ ?_ rfl)
    | dsimp -zeta only

theorem State.modJob_frame {m_ : Nat} {o_ : State} {s : State} {j : Nat} {f : Job → Job} (h_ : Fr m_ o_ s) (hm_ : Nat.land 512 m_ = 512) : Fr m_ o_ (State.modJob s j f) := by
  refine Fr.of h_ hm_ ?_
  clear h_ hm_
  have h_ := Fr.refl 512 s
  unfold State.modJob
  repeat' first
    | with_reducible assumption
    | exact (rfl : Nat.land _ _ = _)
    | (extract_lets +onlyGivenNames x
       first
         | (have hx : Fr 512 s x := ?_
            (on_goal 1 => clear_value x)
            on_goal 2 => (unfold x; clear x))
         | (have hx : Fr 512 s x.2 := ?_
            (on_goal 1 => clear_value x)
            on_goal 2 => (unfold x; clear x))
         | clear_value x)
    | with_reducible apply State.setJob_frame
    | (simp -zeta -beta -iota only [Fr.mk_iff]; first | refine FrU.upd ?_ rfl | refine FrU.filter _ ?_ rfl)
    | dsimp -zeta only
    | split

theorem State.modOwner_frame {m_ : Nat} {o_ : State} {s : State} {n : Nat} {f : Owner → Owner} (h_ : Fr m_ o_ s) (hm_ : Nat.land 65536 m_ = 65536) : Fr m_ o_ (State.modOwner s n f) := by
  refine Fr.of h_ hm_ ?_
  clear h_ hm_
  have h_ := Fr.refl 65536 s
  unfold State.modOwner
  repeat' first
    | with_reducible assumption
    | exact (rfl : Nat.land _ _ = _)
    | (extract_lets +onlyGivenNames x
       first
         | (have hx : Fr 65536 s x := ?_
            (on_goal 1 => clear_value x)
            on_goal 2 => (unfold x; clear x))
         | (have hx : Fr 65536 s x.2 := ?_
            (on_goal 1 => clear_value x)
            on_goal 2 => (unfold x; clear x))
         | clear_value x)
    | (simp -zeta -beta -iota only [Fr.mk_iff]; first | refine FrU.upd ?_ rfl | refine FrU.filter _ ?_ rfl)
    | dsimp -zeta only

theorem State.setObj_frame {m_ : Nat} {o_ : State} {s : State} {h : Nat} {o : Option Obj} (h_ : Fr m_ o_ s) (hm_ : Nat.land 262144 m_ = 262144) : Fr m_ o_ (State.setObj s h o) := by
  refine Fr.of h_ hm_ ?_
  clear h_ hm_
  have h_ := Fr.refl 262144 s
  unfold State.setObj
  repeat' first
    | with_reducible assumption
    | exact (rfl : Nat.land _ _ = _)
    | (extract_lets +onlyGivenNames x
       first
         | (have hx : Fr 262144 s x := ?_
            (on_goal 1 => clear_value x)
            on_goal 2 => (unfold x; clear x))
         | (have hx : Fr 262144 s x.2 := ?_
            (on_goal 1 => clear_value x)
            on_goal 2 => (unfold x; clear x))
         | clear_value x)
    | (simp -zeta -beta -iota only [Fr.mk_iff]; first | refine FrU.upd ?_ rfl | refine FrU.filter _ ?_ rfl)
    | dsimp -zeta only

theorem State.freshNat_frame {m_ : Nat} {o_ : State} {s : State} (h_ : Fr m_ o_ s) (hm_ : Nat.land 4 m_ = 4) : Fr m_ o_ (State.freshNat s).2 := by
  refine Fr.of h_ hm_ ?_
  clear h_ hm_
  have h_ := Fr.refl 4 s
  unfold State.freshNat
  repeat' first
    | with_reducible assumption
    | exact (rfl : Nat.land _ _ = _)
    | (extract_lets +onlyGivenNames x
       first
         | (have hx : Fr 4 s x := ?_
            (on_goal 1 => clear_value x)
            on_goal 2 => (unfold x; clear x))
         | (have hx : Fr 4 s x.2 := ?_
            (on_goal 1 => clear_value x)
            on_goal 2 => (unfold x; clear x))
         | clear_value x)
    | (simp -zeta -beta -iota only [Fr.mk_iff]; first | refine FrU.upd ?_ rfl | refine FrU.filter _ ?_ rfl)

theorem State.freshBytes_frame {m_ : Nat} {o_ : State} {s : State} {n : Nat} (h_ : Fr m_ o_ s) (hm_ : Nat.land 4 m_ = 4) : Fr m_ o_ (State.freshBytes s n).2 := by
  refine Fr.of h_ hm_ ?_
  clear h_ hm_
  have h_ := Fr.refl 4 s
  unfold State.freshBytes
  repeat' first
    | with_reducible assumption
    | exact (rfl : Nat.land _ _ = _)
    | (extract_lets +onlyGivenNames x
       first
         | (have hx : Fr 4 s x := ?_
            (on_goal 1 => clear_value x)
            on_goal 2 => (unfold x; clear x))
         | (have hx : Fr 4 s x.2 := ?_
            (on_goal 1 => clear_value x)
            on_goal 2 => (unfold x; clear x))
         | clear_value x)
    | (simp -zeta -beta -iota only [Fr.mk_iff]; first | refine FrU.upd ?_ rfl | refine FrU.filter _ ?_ rfl)

theorem State.drawBytes_frame {m_ : Nat} {o_ : State} {s : State} {n : Nat} (h_ : Fr m_ o_ s) (hm_ : Nat.land 33554436 m_ = 33554436) : Fr m_ o_ (State.drawBytes s n).2 := by
  refine Fr.of h_ hm_ ?_
  clear h_ hm_
  have h_ := Fr.refl 33554436 s
  unfold State.drawBytes
  repeat' first
    | with_reducible assumption
    | exact (rfl : Nat.land _ _ = _)
    | (extract_lets +onlyGivenNames x
       first
         | (have hx : Fr 33554436 s x := ?_
            (on_goal 1 => clear_value x)
            on_goal 2 => (unfold x; clear x))
         | (have hx : Fr 33554436 s x.2 := ?_
            (on_goal 1 => clear_value x)
            on_goal 2 => (unfold x; clear x))
         | clear_value x)
    | with_reducible apply State.freshBytes_frame
    | refine Fr.pair (by assumption) (State.freshBytes_frame (h_ := ?_) ?_)
    | (simp -zeta -beta -iota only [Fr.mk_iff]; first | refine FrU.upd ?_ rfl | refine FrU.filter _ ?_ rfl)
    | dsimp -zeta only
    | split

theorem State.odStore_frame {m_ : Nat} {o_ : State} {s : State} {index : Nat} {sub : Nat} {v : Option Bytes} (h_ : Fr m_ o_ s) (hm_ : Nat.land 2097152 m_ = 2097152) : Fr m_ o_ (State.odStore s index sub v) := by
  refine Fr.of h_ hm_ ?_
  clear h_ hm_
  have h_ := Fr.refl 2097152 s
  unfold State.odStore
  repeat' first
    | with_reducible assumption
    | exact (rfl : Nat.land _ _ = _)
    | (extract_lets +onlyGivenNames x
       first
         | (have hx : Fr 2097152 s x := ?_
            (on_goal 1 => clear_value x)
            on_goal 2 => (unfold x; clear x))
         | (have hx : Fr 2097152 s x.2 := ?_
            (on_goal 1 => clear_value x)
            on_goal 2 => (unfold x; clear x))
         | clear_value x)
    | (simp -zeta -beta -iota only [Fr.mk_iff]; first | refine FrU.upd ?_ rfl | refine FrU.filter _ ?_ rfl)
    | dsimp -zeta only

theorem State.emit_frame {m_ : Nat} {o_ : State} {s : State} {w : HostWrite} (h_ : Fr m_ o_ s) (hm_ : Nat.land 16 m_ = 16) : Fr m_ o_ (State.emit s w) := by
  refine Fr.of h_ hm_ ?_
  clear h_ hm_
  have h_ := Fr.refl 16 s
  unfold State.emit
  repeat' first
    | with_reducible assumption
    | exact (rfl : Nat.land _ _ = _)
    | (extract_lets +onlyGivenNames x
       first
         | (have hx : Fr 16 s x := ?_
            (on_goal 1 => clear_value x)
            on_goal 2 => (unfold x; clear x))
         | (have hx : Fr 16 s x.2 := ?_
            (on_goal 1 => clear_value x)
            on_goal 2 => (unfold x; clear x))
         | clear_value x)
    | (simp -zeta -beta -iota only [Fr.mk_iff]; first | refine FrU.upd ?_ rfl | refine FrU.filter _ ?_ rfl)
    | with_reducible refine Fr.ite ?_ ?_
    | split

theorem State.msix_frame {m_ : Nat} {o_ : State} {s : State} {v : Nat} (h_ : Fr m_ o_ s) (hm_ : Nat.land 16 m_ = 16) : Fr m_ o_ (State.msix s v) := by
  refine Fr.of h_ hm_ ?_
  clear h_ hm_
  have h_ := Fr.refl 16 s
  unfold State.msix
  repeat' first
    | with_reducible assumption
    | exact (rfl : Nat.land _ _ = _)
    | (extract_lets +onlyGivenNames x
       first
         | (have hx : Fr 16 s x := ?_
            (on_goal 1 => clear_value x)
            on_goal 2 => (unfold x; clear x))
         | (have hx : Fr 16 s x.2 := ?_
            (on_goal 1 => clear_value x)
            on_goal 2 => (unfold x; clear x))
         | clear_value x)
    | with_reducible apply State.emit_frame
    | (simp -zeta -beta -iota only [Fr.mk_iff]; first | refine FrU.upd ?_ rfl | refine FrU.filter _ ?_ rfl)
    | with_reducible refine Fr.ite ?_ ?_
    | dsimp -zeta only
    | split

theorem State.hostEvent_frame {m_ : Nat} {o_ : State} {s : State} {f : Fld} (h_ : Fr m_ o_ s) (hm_ : Nat.land 17 m_ = 17) : Fr m_ o_ (State.hostEvent s f) := by
  refine Fr.of h_ hm_ ?_
  clear h_ hm_
  have h_ := Fr.refl 17 s
  unfold State.hostEvent
  repeat' first
    | with_reducible assumption
    | exact (rfl : Nat.land _ _ = _)
    | with_reducible apply State.msix_frame
    | with_reducible apply State.putBit_frame
    | with_reducible refine Fr.ite ?_ ?_
    | split

theorem State.setDeviceState_frame {m_ : Nat} {o_ : State} {s : State} {v : Nat} (h_ : Fr m_ o_ s) (hm_ : Nat.land 17 m_ = 17) : Fr m_ o_ (State.setDeviceState s v) := by
  refine Fr.of h_ hm_ ?_
  clear h_ hm_
  have h_ := Fr.refl 17 s
  unfold State.setDeviceState
  repeat' first
    | with_reducible assumption
    | exact (rfl : Nat.land _ _ = _)
    | with_reducible apply State.hostEvent_frame
    | with_reducible apply State.put_frame
    | with_reducible refine Fr.ite ?_ ?_
    | split

theorem State.setActive_frame {m_ : Nat} {o_ : State} {s : State} {b : Bool} (h_ : Fr m_ o_ s) (hm_ : Nat.land 17 m_ = 17) : Fr m_ o_ (State.setActive s b) := by
  refine Fr.of h_ hm_ ?_
  clear h_ hm_
  have h_ := Fr.refl 17 s
  unfold State.setActive
  repeat' first
    | with_reducible assumption
    | exact (rfl : Nat.land _ _ = _)
    | with_reducible apply State.hostEvent_frame
    | with_reducible apply State.putBit_frame
    | with_reducible refine Fr.ite ?_ ?_
    | split

theorem State.wakeNap_frame {m_ : Nat} {o_ : State} {s : State} {cause : Nat} (h_ : Fr m_ o_ s) (hm_ : Nat.land 134217729 m_ = 134217729) : Fr m_ o_ (State.wakeNap s cause) := by
  refine Fr.of h_ hm_ ?_
  clear h_ hm_
  have h_ := Fr.refl 134217729 s
  unfold State.wakeNap
  repeat' first
    | with_reducible assumption
    | exact (rfl : Nat.land _ _ = _)
    | (extract_lets +onlyGivenNames x
       first
         | (have hx : Fr 134217729 s x := ?_
            (on_goal 1 => clear_value x)
            on_goal 2 => (unfold x; clear x))
         | (have hx : Fr 134217729 s x.2 := ?_
            (on_goal 1 => clear_value x)
            on_goal 2 => (unfold x; clear x))
         | clear_value x)
    | with_reducible apply State.put_frame
    | (simp -zeta -beta -iota only [Fr.mk_iff]; first | refine FrU.upd ?_ rfl | refine FrU.filter _ ?_ rfl)
    | with_reducible refine Fr.ite ?_ ?_
    | split

theorem State.raiseIrq_frame {m_ : Nat} {o_ : State} {s : State} {n : Nat} (h_ : Fr m_ o_ s) (hm_ : Nat.land 134217729 m_ = 134217729) : Fr m_ o_ (State.raiseIrq s n) := by
  refine Fr.of h_ hm_ ?_
  clear h_ hm_
  have h_ := Fr.refl 134217729 s
  unfold State.raiseIrq
  repeat' first
    | with_reducible assumption
    | exact (rfl : Nat.land _ _ = _)
    | with_reducible apply State.wakeNap_frame
    | with_reducible apply State.put_frame

theorem State.dropIrq_frame {m_ : Nat} {o_ : State} {s : State} {n : Nat} (h_ : Fr m_ o_ s) (hm_ : Nat.land 1 m_ = 1) : Fr m_ o_ (State.dropIrq s n) := by
  refine Fr.of h_ hm_ ?_
  clear h_ hm_
  have h_ := Fr.refl 1 s
  unfold State.dropIrq
  repeat' first
    | with_reducible assumption
    | exact (rfl : Nat.land _ _ = _)
    | with_reducible apply State.put_frame

theorem State.emitRead_frame {m_ : Nat} {o_ : State} {s : State} {n : Nat} {addr : Nat} {len : Nat} (h_ : Fr m_ o_ s) (hm_ : Nat.land 16 m_ = 16) : Fr m_ o_ (State.emitRead s n addr len) := by
  refine Fr.of h_ hm_ ?_
  clear h_ hm_
  have h_ := Fr.refl 16 s
  unfold State.emitRead
  repeat' first
    | with_reducible assumption
    | exact (rfl : Nat.land _ _ = _)
    | with_reducible refine Fr.foldl _ _ ?_ (fun _ _ _ => ?_)
    | with_reducible apply State.emit_frame
    | dsimp -zeta only

theorem State.emitOutput_frame {m_ : Nat} {o_ : State} {s : State} {n : Nat} {addr : Nat} {data : Bytes} (h_ : Fr m_ o_ s) (hm_ : Nat.land 16 m_ = 16) : Fr m_ o_ (State.emitOutput s n addr data) := by
  refine Fr.of h_ hm_ ?_
  clear h_ hm_
  have h_ := Fr.refl 16 s
  unfold State.emitOutput
  repeat' first
    | with_reducible assumption
    | exact (rfl : Nat.land _ _ = _)
    | with_reducible refine Fr.foldl _ _ ?_ (fun _ _ _ => ?_)
    | with_reducible apply State.emit_frame
    | dsimp -zeta only

theorem State.emitAdminRead_frame {m_ : Nat} {o_ : State} {s : State} {addr : Nat} {len : Nat} (h_ : Fr m_ o_ s) (hm_ : Nat.land 16 m_ = 16) : Fr m_ o_ (State.emitAdminRead s addr len) := by
  refine Fr.of h_ hm_ ?_
  clear h_ hm_
  have h_ := Fr.refl 16 s
  unfold State.emitAdminRead
  repeat' first
    | with_reducible assumption
    | exact (rfl : Nat.land _ _ = _)
    | with_reducible refine Fr.foldl _ _ ?_ (fun _ _ _ => ?_)
    | with_reducible apply State.emit_frame
    | dsimp -zeta only

theorem State.emitAdminOutput_frame {m_ : Nat} {o_ : State} {s : State} {addr : Nat} {data : Bytes} (h_ : Fr m_ o_ s) (hm_ : Nat.land 16 m_ = 16) : Fr m_ o_ (State.emitAdminOutput s addr data) := by
  refine Fr.of h_ hm_ ?_
  clear h_ hm_
  have h_ := Fr.refl 16 s
  unfold State.emitAdminOutput
  repeat' first
    | with_reducible assumption
    | exact (rfl : Nat.land _ _ = _)
    | with_reducible refine Fr.foldl _ _ ?_ (fun _ _ _ => ?_)
    | with_reducible apply State.emit_frame
    | dsimp -zeta only

theorem State.setInstState_frame {m_ : Nat} {o_ : State} {s : State} {n : Nat} {st : InstState} (h_ : Fr m_ o_ s) (hm_ : Nat.land 33 m_ = 33) : Fr m_ o_ (State.setInstState s n st) := by
  refine Fr.of h_ hm_ ?_
  clear h_ hm_
  have h_ := Fr.refl 33 s
  unfold State.setInstState
  repeat' first
    | with_reducible assumption
    | exact (rfl : Nat.land _ _ = _)
    | (extract_lets +onlyGivenNames x
       first
         | (have hx : Fr 33 s x := ?_
            (on_goal 1 => clear_value x)
            on_goal 2 => (unfold x; clear x))
         | (have hx : Fr 33 s x.2 := ?_
            (on_goal 1 => clear_value x)
            on_goal 2 => (unfold x; clear x))
         | clear_value x)
    | with_reducible apply State.modInst_frame
    | with_reducible apply State.put_frame
    | (simp -zeta -beta -iota only [Fr.mk_iff]; first | refine FrU.upd ?_ rfl | refine FrU.filter _ ?_ rfl)
    | dsimp -zeta only

theorem State.setEvSlot_frame {m_ : Nat} {o_ : State} {s : State} {k : Nat} {r : Option EventRec} (h_ : Fr m_ o_ s) (hm_ : Nat.land 8192 m_ = 8192) : Fr m_ o_ (State.setEvSlot s k r) := by
  refine Fr.of h_ hm_ ?_
  clear h_ hm_
  have h_ := Fr.refl 8192 s
  unfold State.setEvSlot
  repeat' first
    | with_reducible assumption
    | exact (rfl : Nat.land _ _ = _)
    | (extract_lets +onlyGivenNames x
       first
         | (have hx : Fr 8192 s x := ?_
            (on_goal 1 => clear_value x)
            on_goal 2 => (unfold x; clear x))
         | (have hx : Fr 8192 s x.2 := ?_
            (on_goal 1 => clear_value x)
            on_goal 2 => (unfold x; clear x))
         | clear_value x)
    | (simp -zeta -beta -iota only [Fr.mk_iff]; first | refine FrU.upd ?_ rfl | refine FrU.filter _ ?_ rfl)
    | dsimp -zeta only

theorem State.evMake_frame {m_ : Nat} {o_ : State} {s : State} {k : Nat} (h_ : Fr m_ o_ s) (hm_ : Nat.land 8192 m_ = 8192) : Fr m_ o_ (State.evMake s k) := by
  refine Fr.of h_ hm_ ?_
  clear h_ hm_
  have h_ := Fr.refl 8192 s
  unfold State.evMake
  repeat' first
    | with_reducible assumption
    | exact (rfl : Nat.land _ _ = _)
    | (extract_lets +onlyGivenNames x
       first
         | (have hx : Fr 8192 s x := ?_
            (on_goal 1 => clear_value x)
            on_goal 2 => (unfold x; clear x))
         | (have hx : Fr 8192 s x.2 := ?_
            (on_goal 1 => clear_value x)
            on_goal 2 => (unfold x; clear x))
         | clear_value x)
    | (simp -zeta -beta -iota only [Fr.mk_iff]; first | refine FrU.upd ?_ rfl | refine FrU.filter _ ?_ rfl)
    | with_reducible refine Fr.ite ?_ ?_
    | with_reducible refine Fr.ite2 ?_ ?_
    | dsimp -zeta only
    | split

theorem State.evCountOpened_frame {m_ : Nat} {o_ : State} {s : State} {code : Nat} (h_ : Fr m_ o_ s) (hm_ : Nat.land 8192 m_ = 8192) : Fr m_ o_ (State.evCountOpened s code) := by
  refine Fr.of h_ hm_ ?_
  clear h_ hm_
  have h_ := Fr.refl 8192 s
  unfold State.evCountOpened
  repeat' first
    | with_reducible assumption
    | exact (rfl : Nat.land _ _ = _)
    | (extract_lets +onlyGivenNames x
       first
         | (have hx : Fr 8192 s x := ?_
            (on_goal 1 => clear_value x)
            on_goal 2 => (unfold x; clear x))
         | (have hx : Fr 8192 s x.2 := ?_
            (on_goal 1 => clear_value x)
            on_goal 2 => (unfold x; clear x))
         | clear_value x)
    | (simp -zeta -beta -iota only [Fr.mk_iff]; first | refine FrU.upd ?_ rfl | refine FrU.filter _ ?_ rfl)
    | with_reducible refine Fr.ite ?_ ?_
    | dsimp -zeta only
    | split

theorem State.eventAt_frame {m_ : Nat} {o_ : State} {s : State} {tick : Nat} {code : Nat} {severity : Nat} {value : Nat} {detail : Bytes} {unpowered : Bool} (h_ : Fr m_ o_ s) (hm_ : Nat.land 8193 m_ = 8193) : Fr m_ o_ (State.eventAt s tick code severity value detail unpowered) := by
  refine Fr.of h_ hm_ ?_
  clear h_ hm_
  have h_ := Fr.refl 8193 s
  unfold State.eventAt
  repeat' first
    | with_reducible assumption
    | exact (rfl : Nat.land _ _ = _)
    | (extract_lets +onlyGivenNames x
       first
         | (have hx : Fr 8193 s x := ?_
            (on_goal 1 => clear_value x)
            on_goal 2 => (unfold x; clear x))
         | (have hx : Fr 8193 s x.2 := ?_
            (on_goal 1 => clear_value x)
            on_goal 2 => (unfold x; clear x))
         | clear_value x)
    | with_reducible refine Fr.foldl _ _ ?_ (fun _ _ _ => ?_)
    | with_reducible apply State.setEvSlot_frame
    | with_reducible apply State.count_frame
    | with_reducible apply State.evMake_frame
    | with_reducible apply State.evCountOpened_frame
    | (simp -zeta -beta -iota only [Fr.mk_iff]; first | refine FrU.upd ?_ rfl | refine FrU.filter _ ?_ rfl)
    | with_reducible refine Fr.ite ?_ ?_
    | with_reducible refine Fr.ite2 ?_ ?_
    | dsimp -zeta only
    | split

theorem State.event_frame {m_ : Nat} {o_ : State} {s : State} {code : Nat} {severity : Nat} {value : Nat} {detail : Bytes} (h_ : Fr m_ o_ s) (hm_ : Nat.land 8193 m_ = 8193) : Fr m_ o_ (State.event s code severity value detail) := by
  refine Fr.of h_ hm_ ?_
  clear h_ hm_
  have h_ := Fr.refl 8193 s
  unfold State.event
  repeat' first
    | with_reducible assumption
    | exact (rfl : Nat.land _ _ = _)
    | with_reducible apply State.eventAt_frame

theorem State.closeEvents_frame {m_ : Nat} {o_ : State} {s : State} {short : Bool} (h_ : Fr m_ o_ s) (hm_ : Nat.land 8192 m_ = 8192) : Fr m_ o_ (State.closeEvents s short) := by
  refine Fr.of h_ hm_ ?_
  clear h_ hm_
  have h_ := Fr.refl 8192 s
  unfold State.closeEvents
  repeat' first
    | with_reducible assumption
    | exact (rfl : Nat.land _ _ = _)
    | (extract_lets +onlyGivenNames x
       first
         | (have hx : Fr 8192 s x := ?_
            (on_goal 1 => clear_value x)
            on_goal 2 => (unfold x; clear x))
         | (have hx : Fr 8192 s x.2 := ?_
            (on_goal 1 => clear_value x)
            on_goal 2 => (unfold x; clear x))
         | clear_value x)
    | (simp -zeta -beta -iota only [Fr.mk_iff]; first | refine FrU.upd ?_ rfl | refine FrU.filter _ ?_ rfl)
    | with_reducible refine Fr.ite ?_ ?_
    | with_reducible refine Fr.ite2 ?_ ?_
    | dsimp -zeta only
    | split

theorem State.setSignet_frame {m_ : Nat} {o_ : State} {s : State} {x : Signet} (h_ : Fr m_ o_ s) (hm_ : Nat.land 1048576 m_ = 1048576) : Fr m_ o_ (State.setSignet s x) := by
  refine Fr.of h_ hm_ ?_
  clear h_ hm_
  have h_ := Fr.refl 1048576 s
  unfold State.setSignet
  repeat' first
    | with_reducible assumption
    | exact (rfl : Nat.land _ _ = _)
    | (extract_lets +onlyGivenNames x
       first
         | (have hx : Fr 1048576 s x := ?_
            (on_goal 1 => clear_value x)
            on_goal 2 => (unfold x; clear x))
         | (have hx : Fr 1048576 s x.2 := ?_
            (on_goal 1 => clear_value x)
            on_goal 2 => (unfold x; clear x))
         | clear_value x)
    | (simp -zeta -beta -iota only [Fr.mk_iff]; first | refine FrU.upd ?_ rfl | refine FrU.filter _ ?_ rfl)

theorem State.signetEvent_frame {m_ : Nat} {o_ : State} {s : State} {code : Nat} {severity : Nat} (h_ : Fr m_ o_ s) (hm_ : Nat.land 8197 m_ = 8197) : Fr m_ o_ (State.signetEvent s code severity) := by
  refine Fr.of h_ hm_ ?_
  clear h_ hm_
  have h_ := Fr.refl 8197 s
  unfold State.signetEvent
  repeat' first
    | with_reducible assumption
    | exact (rfl : Nat.land _ _ = _)
    | (extract_lets +onlyGivenNames x
       first
         | (have hx : Fr 8197 s x := ?_
            (on_goal 1 => clear_value x)
            on_goal 2 => (unfold x; clear x))
         | (have hx : Fr 8197 s x.2 := ?_
            (on_goal 1 => clear_value x)
            on_goal 2 => (unfold x; clear x))
         | clear_value x)
    | with_reducible apply State.freshNat_frame
    | refine Fr.pair (by assumption) (State.freshNat_frame (h_ := ?_) ?_)
    | with_reducible apply State.event_frame
    | dsimp -zeta only

theorem State.newNonce_frame {m_ : Nat} {o_ : State} {s : State} (h_ : Fr m_ o_ s) (hm_ : Nat.land 41943044 m_ = 41943044) : Fr m_ o_ (State.newNonce s) := by
  refine Fr.of h_ hm_ ?_
  clear h_ hm_
  have h_ := Fr.refl 41943044 s
  unfold State.newNonce
  repeat' first
    | with_reducible assumption
    | exact (rfl : Nat.land _ _ = _)
    | (extract_lets +onlyGivenNames x
       first
         | (have hx : Fr 41943044 s x := ?_
            (on_goal 1 => clear_value x)
            on_goal 2 => (unfold x; clear x))
         | (have hx : Fr 41943044 s x.2 := ?_
            (on_goal 1 => clear_value x)
            on_goal 2 => (unfold x; clear x))
         | clear_value x)
    | with_reducible apply State.drawBytes_frame
    | refine Fr.pair (by assumption) (State.drawBytes_frame (h_ := ?_) ?_)
    | (simp -zeta -beta -iota only [Fr.mk_iff]; first | refine FrU.upd ?_ rfl | refine FrU.filter _ ?_ rfl)
    | dsimp -zeta only

theorem State.tokenCounted_frame {m_ : Nat} {o_ : State} {s : State} (h_ : Fr m_ o_ s) (hm_ : Nat.land 41943044 m_ = 41943044) : Fr m_ o_ (State.tokenCounted s) := by
  refine Fr.of h_ hm_ ?_
  clear h_ hm_
  have h_ := Fr.refl 41943044 s
  unfold State.tokenCounted
  repeat' first
    | with_reducible assumption
    | exact (rfl : Nat.land _ _ = _)
    | (extract_lets +onlyGivenNames x
       first
         | (have hx : Fr 41943044 s x := ?_
            (on_goal 1 => clear_value x)
            on_goal 2 => (unfold x; clear x))
         | (have hx : Fr 41943044 s x.2 := ?_
            (on_goal 1 => clear_value x)
            on_goal 2 => (unfold x; clear x))
         | clear_value x)
    | with_reducible apply State.newNonce_frame
    | (simp -zeta -beta -iota only [Fr.mk_iff]; first | refine FrU.upd ?_ rfl | refine FrU.filter _ ?_ rfl)

theorem State.tokenRecorded_frame {m_ : Nat} {o_ : State} {s : State} {reason : Nat} (h_ : Fr m_ o_ s) (hm_ : Nat.land 41951237 m_ = 41951237) : Fr m_ o_ (State.tokenRecorded s reason) := by
  refine Fr.of h_ hm_ ?_
  clear h_ hm_
  have h_ := Fr.refl 41951237 s
  unfold State.tokenRecorded
  repeat' first
    | with_reducible assumption
    | exact (rfl : Nat.land _ _ = _)
    | with_reducible apply State.tokenCounted_frame
    | with_reducible apply State.event_frame

theorem State.endSignet_frame {m_ : Nat} {o_ : State} {s : State} {st : SignetState} {code : Nat} {severity : Nat} (h_ : Fr m_ o_ s) (hm_ : Nat.land 42999813 m_ = 42999813) : Fr m_ o_ (State.endSignet s st code severity) := by
  refine Fr.of h_ hm_ ?_
  clear h_ hm_
  have h_ := Fr.refl 42999813 s
  unfold State.endSignet
  repeat' first
    | with_reducible assumption
    | exact (rfl : Nat.land _ _ = _)
    | (extract_lets +onlyGivenNames x
       first
         | (have hx : Fr 42999813 s x := ?_
            (on_goal 1 => clear_value x)
            on_goal 2 => (unfold x; clear x))
         | (have hx : Fr 42999813 s x.2 := ?_
            (on_goal 1 => clear_value x)
            on_goal 2 => (unfold x; clear x))
         | clear_value x)
    | with_reducible apply State.signetEvent_frame
    | with_reducible apply State.setSignet_frame
    | with_reducible apply State.tokenRecorded_frame
    | (simp -zeta -beta -iota only [Fr.mk_iff]; first | refine FrU.upd ?_ rfl | refine FrU.filter _ ?_ rfl)
    | with_reducible refine Fr.ite ?_ ?_
    | dsimp -zeta only
    | split

theorem State.cancelSignet_frame {m_ : Nat} {o_ : State} {s : State} (h_ : Fr m_ o_ s) (hm_ : Nat.land 42999813 m_ = 42999813) : Fr m_ o_ (State.cancelSignet s) := by
  refine Fr.of h_ hm_ ?_
  clear h_ hm_
  have h_ := Fr.refl 42999813 s
  unfold State.cancelSignet
  repeat' first
    | with_reducible assumption
    | exact (rfl : Nat.land _ _ = _)
    | with_reducible apply State.endSignet_frame

theorem State.setSession_frame {m_ : Nat} {o_ : State} {s : State} {n : Nat} {x : Session} (h_ : Fr m_ o_ s) (hm_ : Nat.land 1073741824 m_ = 1073741824) : Fr m_ o_ (State.setSession s n x) := by
  refine Fr.of h_ hm_ ?_
  clear h_ hm_
  have h_ := Fr.refl 1073741824 s
  unfold State.setSession
  repeat' first
    | with_reducible assumption
    | exact (rfl : Nat.land _ _ = _)
    | (extract_lets +onlyGivenNames x
       first
         | (have hx : Fr 1073741824 s x := ?_
            (on_goal 1 => clear_value x)
            on_goal 2 => (unfold x; clear x))
         | (have hx : Fr 1073741824 s x.2 := ?_
            (on_goal 1 => clear_value x)
            on_goal 2 => (unfold x; clear x))
         | clear_value x)
    | (simp -zeta -beta -iota only [Fr.mk_iff]; first | refine FrU.upd ?_ rfl | refine FrU.filter _ ?_ rfl)
    | dsimp -zeta only

theorem State.closeSession_frame {m_ : Nat} {o_ : State} {s : State} {n : Nat} (h_ : Fr m_ o_ s) (hm_ : Nat.land 1075847168 m_ = 1075847168) : Fr m_ o_ (State.closeSession s n) := by
  refine Fr.of h_ hm_ ?_
  clear h_ hm_
  have h_ := Fr.refl 1075847168 s
  unfold State.closeSession
  repeat' first
    | with_reducible assumption
    | exact (rfl : Nat.land _ _ = _)
    | (extract_lets +onlyGivenNames x
       first
         | (have hx : Fr 1075847168 s x := ?_
            (on_goal 1 => clear_value x)
            on_goal 2 => (unfold x; clear x))
         | (have hx : Fr 1075847168 s x.2 := ?_
            (on_goal 1 => clear_value x)
            on_goal 2 => (unfold x; clear x))
         | clear_value x)
    | with_reducible apply State.setSession_frame
    | (simp -zeta -beta -iota only [Fr.mk_iff]; first | refine FrU.upd ?_ rfl | refine FrU.filter _ ?_ rfl)
    | with_reducible refine Fr.ite ?_ ?_
    | dsimp -zeta only
    | split

theorem State.endSessions_frame {m_ : Nat} {o_ : State} {s : State} (h_ : Fr m_ o_ s) (hm_ : Nat.land 1075847168 m_ = 1075847168) : Fr m_ o_ (State.endSessions s) := by
  refine Fr.of h_ hm_ ?_
  clear h_ hm_
  have h_ := Fr.refl 1075847168 s
  unfold State.endSessions
  repeat' first
    | with_reducible assumption
    | exact (rfl : Nat.land _ _ = _)
    | with_reducible refine Fr.foldl _ _ ?_ (fun _ _ _ => ?_)
    | with_reducible apply State.closeSession_frame

theorem State.setPort_frame {m_ : Nat} {o_ : State} {s : State} {p : Nat} {x : CardPort} (h_ : Fr m_ o_ s) (hm_ : Nat.land 1048576 m_ = 1048576) : Fr m_ o_ (State.setPort s p x) := by
  refine Fr.of h_ hm_ ?_
  clear h_ hm_
  have h_ := Fr.refl 1048576 s
  unfold State.setPort
  repeat' first
    | with_reducible assumption
    | exact (rfl : Nat.land _ _ = _)
    | (extract_lets +onlyGivenNames x
       first
         | (have hx : Fr 1048576 s x := ?_
            (on_goal 1 => clear_value x)
            on_goal 2 => (unfold x; clear x))
         | (have hx : Fr 1048576 s x.2 := ?_
            (on_goal 1 => clear_value x)
            on_goal 2 => (unfold x; clear x))
         | clear_value x)
    | (simp -zeta -beta -iota only [Fr.mk_iff]; first | refine FrU.upd ?_ rfl | refine FrU.filter _ ?_ rfl)
    | dsimp -zeta only

theorem State.setPortState_frame {m_ : Nat} {o_ : State} {s : State} {p : Nat} {v : Nat} (h_ : Fr m_ o_ s) (hm_ : Nat.land 1 m_ = 1) : Fr m_ o_ (State.setPortState s p v) := by
  refine Fr.of h_ hm_ ?_
  clear h_ hm_
  have h_ := Fr.refl 1 s
  unfold State.setPortState
  repeat' first
    | with_reducible assumption
    | exact (rfl : Nat.land _ _ = _)
    | with_reducible apply State.put_frame

theorem State.deactivate_frame {m_ : Nat} {o_ : State} {s : State} {p : Nat} (h_ : Fr m_ o_ s) (hm_ : Nat.land 1048576 m_ = 1048576) : Fr m_ o_ (State.deactivate s p) := by
  refine Fr.of h_ hm_ ?_
  clear h_ hm_
  have h_ := Fr.refl 1048576 s
  unfold State.deactivate
  repeat' first
    | with_reducible assumption
    | exact (rfl : Nat.land _ _ = _)
    | with_reducible apply State.setPort_frame

theorem State.cardDone_frame {m_ : Nat} {o_ : State} {s : State} {p : Nat} (h_ : Fr m_ o_ s) (hm_ : Nat.land 1048577 m_ = 1048577) : Fr m_ o_ (State.cardDone s p) := by
  refine Fr.of h_ hm_ ?_
  clear h_ hm_
  have h_ := Fr.refl 1048577 s
  unfold State.cardDone
  repeat' first
    | with_reducible assumption
    | exact (rfl : Nat.land _ _ = _)
    | with_reducible apply State.setPortState_frame
    | with_reducible apply State.deactivate_frame

theorem State.endAgents_frame {m_ : Nat} {o_ : State} {s : State} (h_ : Fr m_ o_ s) (hm_ : Nat.land 1076895745 m_ = 1076895745) : Fr m_ o_ (State.endAgents s) := by
  refine Fr.of h_ hm_ ?_
  clear h_ hm_
  have h_ := Fr.refl 1076895745 s
  unfold State.endAgents
  repeat' first
    | with_reducible assumption
    | exact (rfl : Nat.land _ _ = _)
    | with_reducible refine Fr.foldl _ _ ?_ (fun _ _ _ => ?_)
    | with_reducible apply State.cardDone_frame
    | with_reducible apply State.endSessions_frame
    | with_reducible refine Fr.ite ?_ ?_
    | dsimp -zeta only
    | split

theorem State.bezelFault_frame {m_ : Nat} {o_ : State} {s : State} {agent : Nat} {kind : Nat} {a : Nat} {len : Nat} {k : Nat} {region : Nat} {facet : Nat} (h_ : Fr m_ o_ s) (hm_ : Nat.land 134225921 m_ = 134225921) : Fr m_ o_ (State.bezelFault s agent kind a len k region facet) := by
  refine Fr.of h_ hm_ ?_
  clear h_ hm_
  have h_ := Fr.refl 134225921 s
  unfold State.bezelFault
  repeat' first
    | with_reducible assumption
    | exact (rfl : Nat.land _ _ = _)
    | (extract_lets +onlyGivenNames x
       first
         | (have hx : Fr 134225921 s x := ?_
            (on_goal 1 => clear_value x)
            on_goal 2 => (unfold x; clear x))
         | (have hx : Fr 134225921 s x.2 := ?_
            (on_goal 1 => clear_value x)
            on_goal 2 => (unfold x; clear x))
         | clear_value x)
    | with_reducible apply State.count_frame
    | with_reducible apply State.putBit_frame
    | with_reducible apply State.put_frame
    | with_reducible apply State.event_frame
    | with_reducible apply State.raiseIrq_frame
    | with_reducible refine Fr.ite ?_ ?_
    | dsimp -zeta only
    | split

theorem State.worldFault_frame {m_ : Nat} {o_ : State} {s : State} {agent : Nat} {kind : Nat} {a : Nat} {m : Nat} {win : Option Nat} (h_ : Fr m_ o_ s) (hm_ : Nat.land 134225921 m_ = 134225921) : Fr m_ o_ (State.worldFault s agent kind a m win) := by
  refine Fr.of h_ hm_ ?_
  clear h_ hm_
  have h_ := Fr.refl 134225921 s
  unfold State.worldFault
  repeat' first
    | with_reducible assumption
    | exact (rfl : Nat.land _ _ = _)
    | (extract_lets +onlyGivenNames x
       first
         | (have hx : Fr 134225921 s x := ?_
            (on_goal 1 => clear_value x)
            on_goal 2 => (unfold x; clear x))
         | (have hx : Fr 134225921 s x.2 := ?_
            (on_goal 1 => clear_value x)
            on_goal 2 => (unfold x; clear x))
         | clear_value x)
    | with_reducible apply State.count_frame
    | with_reducible apply State.putBit_frame
    | with_reducible apply State.put_frame
    | with_reducible apply State.event_frame
    | with_reducible apply State.raiseIrq_frame
    | with_reducible refine Fr.ite ?_ ?_
    | dsimp -zeta only
    | split

theorem State.checkAccess_frame {m_ : Nat} {o_ : State} {s : State} {agent : Nat} {kind : Nat} {a : Nat} {len : Nat} (h_ : Fr m_ o_ s) (hm_ : Nat.land 134225921 m_ = 134225921) : Fr m_ o_ (State.checkAccess s agent kind a len).2 := by
  refine Fr.of h_ hm_ ?_
  clear h_ hm_
  have h_ := Fr.refl 134225921 s
  unfold State.checkAccess
  repeat' first
    | with_reducible assumption
    | exact (rfl : Nat.land _ _ = _)
    | (extract_lets +onlyGivenNames x
       first
         | (have hx : Fr 134225921 s x := ?_
            (on_goal 1 => clear_value x)
            on_goal 2 => (unfold x; clear x))
         | (have hx : Fr 134225921 s x.2 := ?_
            (on_goal 1 => clear_value x)
            on_goal 2 => (unfold x; clear x))
         | clear_value x)
    | with_reducible apply State.bezelFault_frame
    | with_reducible apply State.worldFault_frame
    | (simp -zeta -beta -iota only [Fr.mk_iff]; first | refine FrU.upd ?_ rfl | refine FrU.filter _ ?_ rfl)
    | with_reducible refine Fr.ite ?_ ?_
    | with_reducible refine Fr.ite2 ?_ ?_
    | dsimp -zeta only
    | split

theorem State.setMeter_frame {m_ : Nat} {o_ : State} {s : State} {n : Nat} {m : Option Meter} (h_ : Fr m_ o_ s) (hm_ : Nat.land 2048 m_ = 2048) : Fr m_ o_ (State.setMeter s n m) := by
  refine Fr.of h_ hm_ ?_
  clear h_ hm_
  have h_ := Fr.refl 2048 s
  unfold State.setMeter
  repeat' first
    | with_reducible assumption
    | exact (rfl : Nat.land _ _ = _)
    | (extract_lets +onlyGivenNames x
       first
         | (have hx : Fr 2048 s x := ?_
            (on_goal 1 => clear_value x)
            on_goal 2 => (unfold x; clear x))
         | (have hx : Fr 2048 s x.2 := ?_
            (on_goal 1 => clear_value x)
            on_goal 2 => (unfold x; clear x))
         | clear_value x)
    | (simp -zeta -beta -iota only [Fr.mk_iff]; first | refine FrU.upd ?_ rfl | refine FrU.filter _ ?_ rfl)
    | dsimp -zeta only

theorem State.takeRest_frame {m_ : Nat} {o_ : State} {s : State} {n : Nat} (h_ : Fr m_ o_ s) (hm_ : Nat.land 2048 m_ = 2048) : Fr m_ o_ (State.takeRest s n).2 := by
  refine Fr.of h_ hm_ ?_
  clear h_ hm_
  have h_ := Fr.refl 2048 s
  unfold State.takeRest
  repeat' first
    | with_reducible assumption
    | exact (rfl : Nat.land _ _ = _)
    | (extract_lets +onlyGivenNames x
       first
         | (have hx : Fr 2048 s x := ?_
            (on_goal 1 => clear_value x)
            on_goal 2 => (unfold x; clear x))
         | (have hx : Fr 2048 s x.2 := ?_
            (on_goal 1 => clear_value x)
            on_goal 2 => (unfold x; clear x))
         | clear_value x)
    | (simp -zeta -beta -iota only [Fr.mk_iff]; first | refine FrU.upd ?_ rfl | refine FrU.filter _ ?_ rfl)
    | dsimp -zeta only

theorem State.openMeter_frame {m_ : Nat} {o_ : State} {s : State} {n : Nat} {start : Nat} {owner : Nat} {flags : Nat} (h_ : Fr m_ o_ s) (hm_ : Nat.land 2048 m_ = 2048) : Fr m_ o_ (State.openMeter s n start owner flags) := by
  refine Fr.of h_ hm_ ?_
  clear h_ hm_
  have h_ := Fr.refl 2048 s
  unfold State.openMeter
  repeat' first
    | with_reducible assumption
    | exact (rfl : Nat.land _ _ = _)
    | (extract_lets +onlyGivenNames x
       first
         | (have hx : Fr 2048 s x := ?_
            (on_goal 1 => clear_value x)
            on_goal 2 => (unfold x; clear x))
         | (have hx : Fr 2048 s x.2 := ?_
            (on_goal 1 => clear_value x)
            on_goal 2 => (unfold x; clear x))
         | clear_value x)
    | with_reducible apply State.setMeter_frame
    | with_reducible apply State.takeRest_frame
    | refine Fr.pair (by assumption) (State.takeRest_frame (h_ := ?_) ?_)
    | (simp -zeta -beta -iota only [Fr.mk_iff]; first | refine FrU.upd ?_ rfl | refine FrU.filter _ ?_ rfl)
    | with_reducible refine Fr.ite ?_ ?_
    | with_reducible refine Fr.ite2 ?_ ?_
    | dsimp -zeta only
    | split

theorem State.dropMeter_frame {m_ : Nat} {o_ : State} {s : State} {m : Meter} (h_ : Fr m_ o_ s) (hm_ : Nat.land 2048 m_ = 2048) : Fr m_ o_ (State.dropMeter s m) := by
  refine Fr.of h_ hm_ ?_
  clear h_ hm_
  have h_ := Fr.refl 2048 s
  unfold State.dropMeter
  repeat' first
    | with_reducible assumption
    | exact (rfl : Nat.land _ _ = _)
    | (extract_lets +onlyGivenNames x
       first
         | (have hx : Fr 2048 s x := ?_
            (on_goal 1 => clear_value x)
            on_goal 2 => (unfold x; clear x))
         | (have hx : Fr 2048 s x.2 := ?_
            (on_goal 1 => clear_value x)
            on_goal 2 => (unfold x; clear x))
         | clear_value x)
    | with_reducible apply State.setMeter_frame
    | (simp -zeta -beta -iota only [Fr.mk_iff]; first | refine FrU.upd ?_ rfl | refine FrU.filter _ ?_ rfl)
    | dsimp -zeta only

theorem State.closeMeter_frame {m_ : Nat} {o_ : State} {s : State} {n : Nat} {stop : Nat} {flags : Nat} (h_ : Fr m_ o_ s) (hm_ : Nat.land 2048 m_ = 2048) : Fr m_ o_ (State.closeMeter s n stop flags) := by
  refine Fr.of h_ hm_ ?_
  clear h_ hm_
  have h_ := Fr.refl 2048 s
  unfold State.closeMeter
  repeat' first
    | with_reducible assumption
    | exact (rfl : Nat.land _ _ = _)
    | (extract_lets +onlyGivenNames x
       first
         | (have hx : Fr 2048 s x := ?_
            (on_goal 1 => clear_value x)
            on_goal 2 => (unfold x; clear x))
         | (have hx : Fr 2048 s x.2 := ?_
            (on_goal 1 => clear_value x)
            on_goal 2 => (unfold x; clear x))
         | clear_value x)
    | with_reducible apply State.dropMeter_frame
    | (simp -zeta -beta -iota only [Fr.mk_iff]; first | refine FrU.upd ?_ rfl | refine FrU.filter _ ?_ rfl)
    | dsimp -zeta only
    | split

theorem State.unbindMeter_frame {m_ : Nat} {o_ : State} {s : State} {n : Nat} (h_ : Fr m_ o_ s) (hm_ : Nat.land 2048 m_ = 2048) : Fr m_ o_ (State.unbindMeter s n) := by
  refine Fr.of h_ hm_ ?_
  clear h_ hm_
  have h_ := Fr.refl 2048 s
  unfold State.unbindMeter
  repeat' first
    | with_reducible assumption
    | exact (rfl : Nat.land _ _ = _)
    | (extract_lets +onlyGivenNames x
       first
         | (have hx : Fr 2048 s x := ?_
            (on_goal 1 => clear_value x)
            on_goal 2 => (unfold x; clear x))
         | (have hx : Fr 2048 s x.2 := ?_
            (on_goal 1 => clear_value x)
            on_goal 2 => (unfold x; clear x))
         | clear_value x)
    | with_reducible apply State.dropMeter_frame
    | (simp -zeta -beta -iota only [Fr.mk_iff]; first | refine FrU.upd ?_ rfl | refine FrU.filter _ ?_ rfl)
    | with_reducible refine Fr.ite ?_ ?_
    | with_reducible refine Fr.ite2 ?_ ?_
    | dsimp -zeta only
    | split

theorem State.bindMeter_frame {m_ : Nat} {o_ : State} {s : State} {n : Nat} {owner : Nat} (h_ : Fr m_ o_ s) (hm_ : Nat.land 2048 m_ = 2048) : Fr m_ o_ (State.bindMeter s n owner) := by
  refine Fr.of h_ hm_ ?_
  clear h_ hm_
  have h_ := Fr.refl 2048 s
  unfold State.bindMeter
  repeat' first
    | with_reducible assumption
    | exact (rfl : Nat.land _ _ = _)
    | with_reducible apply State.openMeter_frame

theorem State.writeMeter_frame {m_ : Nat} {o_ : State} {s : State} {m : Meter} (h_ : Fr m_ o_ s) (hm_ : Nat.land 2065 m_ = 2065) : Fr m_ o_ (State.writeMeter s m) := by
  refine Fr.of h_ hm_ ?_
  clear h_ hm_
  have h_ := Fr.refl 2065 s
  unfold State.writeMeter
  repeat' first
    | with_reducible assumption
    | exact (rfl : Nat.land _ _ = _)
    | (extract_lets +onlyGivenNames x
       first
         | (have hx : Fr 2065 s x := ?_
            (on_goal 1 => clear_value x)
            on_goal 2 => (unfold x; clear x))
         | (have hx : Fr 2065 s x.2 := ?_
            (on_goal 1 => clear_value x)
            on_goal 2 => (unfold x; clear x))
         | clear_value x)
    | with_reducible apply State.emit_frame
    | with_reducible apply State.put_frame
    | (simp -zeta -beta -iota only [Fr.mk_iff]; first | refine FrU.upd ?_ rfl | refine FrU.filter _ ?_ rfl)
    | dsimp -zeta only

theorem State.endBatch_frame {m_ : Nat} {o_ : State} {s : State} (h_ : Fr m_ o_ s) (hm_ : Nat.land 2064 m_ = 2064) : Fr m_ o_ (State.endBatch s) := by
  refine Fr.of h_ hm_ ?_
  clear h_ hm_
  have h_ := Fr.refl 2064 s
  unfold State.endBatch
  repeat' first
    | with_reducible assumption
    | exact (rfl : Nat.land _ _ = _)
    | (extract_lets +onlyGivenNames x
       first
         | (have hx : Fr 2064 s x := ?_
            (on_goal 1 => clear_value x)
            on_goal 2 => (unfold x; clear x))
         | (have hx : Fr 2064 s x.2 := ?_
            (on_goal 1 => clear_value x)
            on_goal 2 => (unfold x; clear x))
         | clear_value x)
    | with_reducible apply State.msix_frame
    | (simp -zeta -beta -iota only [Fr.mk_iff]; first | refine FrU.upd ?_ rfl | refine FrU.filter _ ?_ rfl)
    | with_reducible refine Fr.ite ?_ ?_
    | split

theorem State.offerSplit_frame {m_ : Nat} {o_ : State} {s : State} {m : Meter} (h_ : Fr m_ o_ s) (hm_ : Nat.land 2097 m_ = 2097) : Fr m_ o_ (State.offerSplit s m) := by
  refine Fr.of h_ hm_ ?_
  clear h_ hm_
  have h_ := Fr.refl 2097 s
  unfold State.offerSplit
  repeat' first
    | with_reducible assumption
    | exact (rfl : Nat.land _ _ = _)
    | (extract_lets +onlyGivenNames x
       first
         | (have hx : Fr 2097 s x := ?_
            (on_goal 1 => clear_value x)
            on_goal 2 => (unfold x; clear x))
         | (have hx : Fr 2097 s x.2 := ?_
            (on_goal 1 => clear_value x)
            on_goal 2 => (unfold x; clear x))
         | clear_value x)
    | with_reducible apply State.endBatch_frame
    | with_reducible apply State.writeMeter_frame
    | with_reducible apply State.modInst_frame
    | (simp -zeta -beta -iota only [Fr.mk_iff]; first | refine FrU.upd ?_ rfl | refine FrU.filter _ ?_ rfl)
    | with_reducible refine Fr.ite ?_ ?_
    | dsimp -zeta only
    | split

theorem State.splitMeter_frame {m_ : Nat} {o_ : State} {s : State} {n : Nat} (h_ : Fr m_ o_ s) (hm_ : Nat.land 2097 m_ = 2097) : Fr m_ o_ (State.splitMeter s n) := by
  refine Fr.of h_ hm_ ?_
  clear h_ hm_
  have h_ := Fr.refl 2097 s
  unfold State.splitMeter
  repeat' first
    | with_reducible assumption
    | exact (rfl : Nat.land _ _ = _)
    | (extract_lets +onlyGivenNames x
       first
         | (have hx : Fr 2097 s x := ?_
            (on_goal 1 => clear_value x)
            on_goal 2 => (unfold x; clear x))
         | (have hx : Fr 2097 s x.2 := ?_
            (on_goal 1 => clear_value x)
            on_goal 2 => (unfold x; clear x))
         | clear_value x)
    | with_reducible apply State.offerSplit_frame
    | with_reducible apply State.openMeter_frame
    | with_reducible apply State.dropMeter_frame
    | (simp -zeta -beta -iota only [Fr.mk_iff]; first | refine FrU.upd ?_ rfl | refine FrU.filter _ ?_ rfl)
    | with_reducible refine Fr.ite ?_ ?_
    | with_reducible refine Fr.ite2 ?_ ?_
    | dsimp -zeta only
    | split

theorem State.modMeter_frame {m_ : Nat} {o_ : State} {s : State} {n : Nat} {f : Meter → Meter} (h_ : Fr m_ o_ s) (hm_ : Nat.land 2097 m_ = 2097) : Fr m_ o_ (State.modMeter s n f) := by
  refine Fr.of h_ hm_ ?_
  clear h_ hm_
  have h_ := Fr.refl 2097 s
  unfold State.modMeter
  repeat' first
    | with_reducible assumption
    | exact (rfl : Nat.land _ _ = _)
    | (extract_lets +onlyGivenNames x
       first
         | (have hx : Fr 2097 s x := ?_
            (on_goal 1 => clear_value x)
            on_goal 2 => (unfold x; clear x))
         | (have hx : Fr 2097 s x.2 := ?_
            (on_goal 1 => clear_value x)
            on_goal 2 => (unfold x; clear x))
         | clear_value x)
    | with_reducible apply State.openMeter_frame
    | with_reducible apply State.splitMeter_frame
    | with_reducible apply State.setMeter_frame
    | (simp -zeta -beta -iota only [Fr.mk_iff]; first | refine FrU.upd ?_ rfl | refine FrU.filter _ ?_ rfl)
    | with_reducible refine Fr.ite ?_ ?_
    | with_reducible refine Fr.ite2 ?_ ?_
    | dsimp -zeta only
    | split

theorem State.chargeWaste_frame {m_ : Nat} {o_ : State} {s : State} {cls : Nat} {ns : Nat} (h_ : Fr m_ o_ s) (hm_ : Nat.land 3121 m_ = 3121) : Fr m_ o_ (State.chargeWaste s cls ns) := by
  refine Fr.of h_ hm_ ?_
  clear h_ hm_
  have h_ := Fr.refl 3121 s
  unfold State.chargeWaste
  repeat' first
    | with_reducible assumption
    | exact (rfl : Nat.land _ _ = _)
    | (extract_lets +onlyGivenNames x
       first
         | (have hx : Fr 3121 s x := ?_
            (on_goal 1 => clear_value x)
            on_goal 2 => (unfold x; clear x))
         | (have hx : Fr 3121 s x.2 := ?_
            (on_goal 1 => clear_value x)
            on_goal 2 => (unfold x; clear x))
         | clear_value x)
    | with_reducible apply State.modMeter_frame
    | (simp -zeta -beta -iota only [Fr.mk_iff]; first | refine FrU.upd ?_ rfl | refine FrU.filter _ ?_ rfl)
    | dsimp -zeta only

theorem State.meterOutcome_frame {m_ : Nat} {o_ : State} {s : State} {n : Nat} {cls : Nat} {st : Status} {started : Bool} {ns : Nat} {bytes : Nat} (h_ : Fr m_ o_ s) (hm_ : Nat.land 3121 m_ = 3121) : Fr m_ o_ (State.meterOutcome s n cls st started ns bytes) := by
  refine Fr.of h_ hm_ ?_
  clear h_ hm_
  have h_ := Fr.refl 3121 s
  unfold State.meterOutcome
  repeat' first
    | with_reducible assumption
    | exact (rfl : Nat.land _ _ = _)
    | (extract_lets +onlyGivenNames x
       first
         | (have hx : Fr 3121 s x := ?_
            (on_goal 1 => clear_value x)
            on_goal 2 => (unfold x; clear x))
         | (have hx : Fr 3121 s x.2 := ?_
            (on_goal 1 => clear_value x)
            on_goal 2 => (unfold x; clear x))
         | clear_value x)
    | with_reducible apply State.modMeter_frame
    | with_reducible apply State.chargeWaste_frame
    | (simp -zeta -beta -iota only [Fr.mk_iff]; first | refine FrU.upd ?_ rfl | refine FrU.filter _ ?_ rfl)
    | with_reducible refine Fr.ite ?_ ?_
    | with_reducible refine Fr.ite2 ?_ ?_
    | dsimp -zeta only
    | split

theorem State.carryMeter_frame {m_ : Nat} {o_ : State} {s : State} {m : Meter} (h_ : Fr m_ o_ s) (hm_ : Nat.land 2097 m_ = 2097) : Fr m_ o_ (State.carryMeter s m) := by
  refine Fr.of h_ hm_ ?_
  clear h_ hm_
  have h_ := Fr.refl 2097 s
  unfold State.carryMeter
  repeat' first
    | with_reducible assumption
    | exact (rfl : Nat.land _ _ = _)
    | (extract_lets +onlyGivenNames x
       first
         | (have hx : Fr 2097 s x := ?_
            (on_goal 1 => clear_value x)
            on_goal 2 => (unfold x; clear x))
         | (have hx : Fr 2097 s x.2 := ?_
            (on_goal 1 => clear_value x)
            on_goal 2 => (unfold x; clear x))
         | clear_value x)
    | with_reducible apply State.takeRest_frame
    | refine Fr.pair (by assumption) (State.takeRest_frame (h_ := ?_) ?_)
    | with_reducible apply State.setMeter_frame
    | with_reducible apply State.count_frame
    | with_reducible apply State.splitMeter_frame
    | (simp -zeta -beta -iota only [Fr.mk_iff]; first | refine FrU.upd ?_ rfl | refine FrU.filter _ ?_ rfl)
    | with_reducible refine Fr.ite ?_ ?_
    | with_reducible refine Fr.ite2 ?_ ?_
    | dsimp -zeta only
    | split

theorem State.closeMinute_frame {m_ : Nat} {o_ : State} {s : State} {t : Nat} (h_ : Fr m_ o_ s) (hm_ : Nat.land 134232065 m_ = 134232065) : Fr m_ o_ (State.closeMinute s t) := by
  refine Fr.of h_ hm_ ?_
  clear h_ hm_
  have h_ := Fr.refl 134232065 s
  unfold State.closeMinute
  repeat' first
    | with_reducible assumption
    | exact (rfl : Nat.land _ _ = _)
    | (extract_lets +onlyGivenNames x
       first
         | (have hx : Fr 134232065 s x := ?_
            (on_goal 1 => clear_value x)
            on_goal 2 => (unfold x; clear x))
         | (have hx : Fr 134232065 s x.2 := ?_
            (on_goal 1 => clear_value x)
            on_goal 2 => (unfold x; clear x))
         | clear_value x)
    | with_reducible refine Fr.foldl _ _ ?_ (fun _ _ _ => ?_)
    | with_reducible apply State.closeMeter_frame
    | with_reducible apply State.closeEvents_frame
    | with_reducible apply State.openMeter_frame
    | with_reducible apply State.putBit_frame
    | with_reducible apply State.raiseIrq_frame
    | (simp -zeta -beta -iota only [Fr.mk_iff]; first | refine FrU.upd ?_ rfl | refine FrU.filter _ ?_ rfl)
    | with_reducible refine Fr.ite ?_ ?_
    | with_reducible refine Fr.ite2 ?_ ?_
    | dsimp -zeta only
    | split

theorem State.dueMinute_frame {m_ : Nat} {o_ : State} {s : State} (h_ : Fr m_ o_ s) (hm_ : Nat.land 134232065 m_ = 134232065) : Fr m_ o_ (State.dueMinute s) := by
  refine Fr.of h_ hm_ ?_
  clear h_ hm_
  have h_ := Fr.refl 134232065 s
  unfold State.dueMinute
  repeat' first
    | with_reducible assumption
    | exact (rfl : Nat.land _ _ = _)
    | with_reducible apply State.closeMinute_frame
    | with_reducible refine Fr.ite ?_ ?_
    | split

theorem State.extendHm_frame {m_ : Nat} {o_ : State} {s : State} {x : Nat} {d : Bytes} (h_ : Fr m_ o_ s) (hm_ : Nat.land 524288 m_ = 524288) : Fr m_ o_ (State.extendHm s x d) := by
  refine Fr.of h_ hm_ ?_
  clear h_ hm_
  have h_ := Fr.refl 524288 s
  unfold State.extendHm
  repeat' first
    | with_reducible assumption
    | exact (rfl : Nat.land _ _ = _)
    | (extract_lets +onlyGivenNames x
       first
         | (have hx : Fr 524288 s x := ?_
            (on_goal 1 => clear_value x)
            on_goal 2 => (unfold x; clear x))
         | (have hx : Fr 524288 s x.2 := ?_
            (on_goal 1 => clear_value x)
            on_goal 2 => (unfold x; clear x))
         | clear_value x)
    | (simp -zeta -beta -iota only [Fr.mk_iff]; first | refine FrU.upd ?_ rfl | refine FrU.filter _ ?_ rfl)

theorem State.computeSeeds_frame {m_ : Nat} {o_ : State} {s : State} (h_ : Fr m_ o_ s) (hm_ : Nat.land 524288 m_ = 524288) : Fr m_ o_ (State.computeSeeds s) := by
  refine Fr.of h_ hm_ ?_
  clear h_ hm_
  have h_ := Fr.refl 524288 s
  unfold State.computeSeeds
  repeat' first
    | with_reducible assumption
    | exact (rfl : Nat.land _ _ = _)
    | (extract_lets +onlyGivenNames x
       first
         | (have hx : Fr 524288 s x := ?_
            (on_goal 1 => clear_value x)
            on_goal 2 => (unfold x; clear x))
         | (have hx : Fr 524288 s x.2 := ?_
            (on_goal 1 => clear_value x)
            on_goal 2 => (unfold x; clear x))
         | clear_value x)
    | (simp -zeta -beta -iota only [Fr.mk_iff]; first | refine FrU.upd ?_ rfl | refine FrU.filter _ ?_ rfl)
    | dsimp -zeta only

theorem State.cacheKey_frame {m_ : Nat} {o_ : State} {s : State} {h : Nat} (h_ : Fr m_ o_ s) (hm_ : Nat.land 524288 m_ = 524288) : Fr m_ o_ (State.cacheKey s h) := by
  refine Fr.of h_ hm_ ?_
  clear h_ hm_
  have h_ := Fr.refl 524288 s
  unfold State.cacheKey
  repeat' first
    | with_reducible assumption
    | exact (rfl : Nat.land _ _ = _)
    | (extract_lets +onlyGivenNames x
       first
         | (have hx : Fr 524288 s x := ?_
            (on_goal 1 => clear_value x)
            on_goal 2 => (unfold x; clear x))
         | (have hx : Fr 524288 s x.2 := ?_
            (on_goal 1 => clear_value x)
            on_goal 2 => (unfold x; clear x))
         | clear_value x)
    | (simp -zeta -beta -iota only [Fr.mk_iff]; first | refine FrU.upd ?_ rfl | refine FrU.filter _ ?_ rfl)

theorem State.dirApply_frame {m_ : Nat} {o_ : State} {s : State} {handle : Nat} {f : List DirEntry → List DirEntry} (h_ : Fr m_ o_ s) (hm_ : Nat.land 262144 m_ = 262144) : Fr m_ o_ (State.dirApply s handle f) := by
  refine Fr.of h_ hm_ ?_
  clear h_ hm_
  have h_ := Fr.refl 262144 s
  unfold State.dirApply
  repeat' first
    | with_reducible assumption
    | exact (rfl : Nat.land _ _ = _)
    | (extract_lets +onlyGivenNames x
       first
         | (have hx : Fr 262144 s x := ?_
            (on_goal 1 => clear_value x)
            on_goal 2 => (unfold x; clear x))
         | (have hx : Fr 262144 s x.2 := ?_
            (on_goal 1 => clear_value x)
            on_goal 2 => (unfold x; clear x))
         | clear_value x)
    | (simp -zeta -beta -iota only [Fr.mk_iff]; first | refine FrU.upd ?_ rfl | refine FrU.filter _ ?_ rfl)
    | with_reducible refine Fr.ite ?_ ?_
    | dsimp -zeta only
    | split

theorem State.dirInsert_frame {m_ : Nat} {o_ : State} {s : State} {e : DirEntry} (h_ : Fr m_ o_ s) (hm_ : Nat.land 262144 m_ = 262144) : Fr m_ o_ (State.dirInsert s e) := by
  refine Fr.of h_ hm_ ?_
  clear h_ hm_
  have h_ := Fr.refl 262144 s
  unfold State.dirInsert
  repeat' first
    | with_reducible assumption
    | exact (rfl : Nat.land _ _ = _)
    | with_reducible apply State.dirApply_frame
    | dsimp -zeta only

theorem State.dirRemove_frame {m_ : Nat} {o_ : State} {s : State} {handle : Nat} (h_ : Fr m_ o_ s) (hm_ : Nat.land 262144 m_ = 262144) : Fr m_ o_ (State.dirRemove s handle) := by
  refine Fr.of h_ hm_ ?_
  clear h_ hm_
  have h_ := Fr.refl 262144 s
  unfold State.dirRemove
  repeat' first
    | with_reducible assumption
    | exact (rfl : Nat.land _ _ = _)
    | with_reducible apply State.dirApply_frame
    | dsimp -zeta only

theorem State.dirChange_frame {m_ : Nat} {o_ : State} {s : State} {handle : Nat} {f : DirEntry → DirEntry} (h_ : Fr m_ o_ s) (hm_ : Nat.land 262144 m_ = 262144) : Fr m_ o_ (State.dirChange s handle f) := by
  refine Fr.of h_ hm_ ?_
  clear h_ hm_
  have h_ := Fr.refl 262144 s
  unfold State.dirChange
  repeat' first
    | with_reducible assumption
    | exact (rfl : Nat.land _ _ = _)
    | with_reducible apply State.dirApply_frame
    | with_reducible refine Fr.ite ?_ ?_
    | dsimp -zeta only
    | split

theorem State.enter_frame {m_ : Nat} {o_ : State} {s : State} {o : Obj} {state : EntryState} {inst : Nat} {gen : Nat} {job : Nat} (h_ : Fr m_ o_ s) (hm_ : Nat.land 262148 m_ = 262148) : Fr m_ o_ (State.enter s o state inst gen job) := by
  refine Fr.of h_ hm_ ?_
  clear h_ hm_
  have h_ := Fr.refl 262148 s
  unfold State.enter
  repeat' first
    | with_reducible assumption
    | exact (rfl : Nat.land _ _ = _)
    | (extract_lets +onlyGivenNames x
       first
         | (have hx : Fr 262148 s x := ?_
            (on_goal 1 => clear_value x)
            on_goal 2 => (unfold x; clear x))
         | (have hx : Fr 262148 s x.2 := ?_
            (on_goal 1 => clear_value x)
            on_goal 2 => (unfold x; clear x))
         | clear_value x)
    | with_reducible apply State.freshNat_frame
    | refine Fr.pair (by assumption) (State.freshNat_frame (h_ := ?_) ?_)
    | with_reducible apply State.dirInsert_frame
    | dsimp -zeta only

theorem State.dirPending_frame {m_ : Nat} {o_ : State} {s : State} {o : Obj} {inst : Nat} {gen : Nat} {job : Nat} (h_ : Fr m_ o_ s) (hm_ : Nat.land 262148 m_ = 262148) : Fr m_ o_ (State.dirPending s o inst gen job) := by
  refine Fr.of h_ hm_ ?_
  clear h_ hm_
  have h_ := Fr.refl 262148 s
  unfold State.dirPending
  repeat' first
    | with_reducible assumption
    | exact (rfl : Nat.land _ _ = _)
    | with_reducible apply State.enter_frame

theorem State.damageBucket_frame {m_ : Nat} {o_ : State} {s : State} {handle : Nat} (h_ : Fr m_ o_ s) (hm_ : Nat.land 262144 m_ = 262144) : Fr m_ o_ (State.damageBucket s handle) := by
  refine Fr.of h_ hm_ ?_
  clear h_ hm_
  have h_ := Fr.refl 262144 s
  unfold State.damageBucket
  repeat' first
    | with_reducible assumption
    | exact (rfl : Nat.land _ _ = _)
    | (extract_lets +onlyGivenNames x
       first
         | (have hx : Fr 262144 s x := ?_
            (on_goal 1 => clear_value x)
            on_goal 2 => (unfold x; clear x))
         | (have hx : Fr 262144 s x.2 := ?_
            (on_goal 1 => clear_value x)
            on_goal 2 => (unfold x; clear x))
         | clear_value x)
    | with_reducible apply State.dirApply_frame
    | (simp -zeta -beta -iota only [Fr.mk_iff]; first | refine FrU.upd ?_ rfl | refine FrU.filter _ ?_ rfl)
    | dsimp -zeta only

theorem State.damage_frame {m_ : Nat} {o_ : State} {s : State} {handle : Nat} (h_ : Fr m_ o_ s) (hm_ : Nat.land 262144 m_ = 262144) : Fr m_ o_ (State.damage s handle) := by
  refine Fr.of h_ hm_ ?_
  clear h_ hm_
  have h_ := Fr.refl 262144 s
  unfold State.damage
  repeat' first
    | with_reducible assumption
    | exact (rfl : Nat.land _ _ = _)
    | (extract_lets +onlyGivenNames x
       first
         | (have hx : Fr 262144 s x := ?_
            (on_goal 1 => clear_value x)
            on_goal 2 => (unfold x; clear x))
         | (have hx : Fr 262144 s x.2 := ?_
            (on_goal 1 => clear_value x)
            on_goal 2 => (unfold x; clear x))
         | clear_value x)
    | with_reducible apply State.dirChange_frame
    | (simp -zeta -beta -iota only [Fr.mk_iff]; first | refine FrU.upd ?_ rfl | refine FrU.filter _ ?_ rfl)
    | dsimp -zeta only

theorem State.resizeCheck_frame {m_ : Nat} {o_ : State} {s : State} (h_ : Fr m_ o_ s) (hm_ : Nat.land 262144 m_ = 262144) : Fr m_ o_ (State.resizeCheck s) := by
  refine Fr.of h_ hm_ ?_
  clear h_ hm_
  have h_ := Fr.refl 262144 s
  unfold State.resizeCheck
  repeat' first
    | with_reducible assumption
    | exact (rfl : Nat.land _ _ = _)
    | (extract_lets +onlyGivenNames x
       first
         | (have hx : Fr 262144 s x := ?_
            (on_goal 1 => clear_value x)
            on_goal 2 => (unfold x; clear x))
         | (have hx : Fr 262144 s x.2 := ?_
            (on_goal 1 => clear_value x)
            on_goal 2 => (unfold x; clear x))
         | clear_value x)
    | (simp -zeta -beta -iota only [Fr.mk_iff]; first | refine FrU.upd ?_ rfl | refine FrU.filter _ ?_ rfl)
    | with_reducible refine Fr.ite ?_ ?_
    | split

theorem State.storeLine_frame {m_ : Nat} {o_ : State} {s : State} {line : Nat} {b : Bytes} (h_ : Fr m_ o_ s) (hm_ : Nat.land 262146 m_ = 262146) : Fr m_ o_ (State.storeLine s line b) := by
  refine Fr.of h_ hm_ ?_
  clear h_ hm_
  have h_ := Fr.refl 262146 s
  unfold State.storeLine
  repeat' first
    | with_reducible assumption
    | exact (rfl : Nat.land _ _ = _)
    | (extract_lets +onlyGivenNames x
       first
         | (have hx : Fr 262146 s x := ?_
            (on_goal 1 => clear_value x)
            on_goal 2 => (unfold x; clear x))
         | (have hx : Fr 262146 s x.2 := ?_
            (on_goal 1 => clear_value x)
            on_goal 2 => (unfold x; clear x))
         | clear_value x)
    | with_reducible apply State.setBytes_frame
    | (simp -zeta -beta -iota only [Fr.mk_iff]; first | refine FrU.upd ?_ rfl | refine FrU.filter _ ?_ rfl)
    | with_reducible refine Fr.ite ?_ ?_
    | dsimp -zeta only
    | split

theorem State.store'_frame {m_ : Nat} {o_ : State} {s : State} {a : Nat} {d : Bytes} (h_ : Fr m_ o_ s) (hm_ : Nat.land 262146 m_ = 262146) : Fr m_ o_ (State.store' s a d) := by
  refine Fr.of h_ hm_ ?_
  clear h_ hm_
  have h_ := Fr.refl 262146 s
  unfold State.store'
  repeat' first
    | with_reducible assumption
    | exact (rfl : Nat.land _ _ = _)
    | with_reducible refine Fr.foldl _ _ ?_ (fun _ _ _ => ?_)
    | with_reducible apply State.storeLine_frame
    | with_reducible apply State.setBytes_frame
    | with_reducible refine Fr.ite ?_ ?_
    | dsimp -zeta only
    | split

theorem State.deviceWrite_frame {m_ : Nat} {o_ : State} {s : State} {a : Nat} {d : Bytes} (h_ : Fr m_ o_ s) (hm_ : Nat.land 134488067 m_ = 134488067) : Fr m_ o_ (State.deviceWrite s a d) := by
  refine Fr.of h_ hm_ ?_
  clear h_ hm_
  have h_ := Fr.refl 134488067 s
  unfold State.deviceWrite
  repeat' first
    | with_reducible assumption
    | exact (rfl : Nat.land _ _ = _)
    | (extract_lets +onlyGivenNames x
       first
         | (have hx : Fr 134488067 s x := ?_
            (on_goal 1 => clear_value x)
            on_goal 2 => (unfold x; clear x))
         | (have hx : Fr 134488067 s x.2 := ?_
            (on_goal 1 => clear_value x)
            on_goal 2 => (unfold x; clear x))
         | clear_value x)
    | with_reducible apply State.checkAccess_frame
    | refine Fr.pair (by assumption) (State.checkAccess_frame (h_ := ?_) ?_)
    | with_reducible apply State.store'_frame
    | with_reducible refine Fr.ite ?_ ?_
    | with_reducible refine Fr.ite2 ?_ ?_
    | dsimp -zeta only
    | split

theorem State.fillRun_frame {m_ : Nat} {o_ : State} {s : State} {r : Run} {n : Nat} (h_ : Fr m_ o_ s) (hm_ : Nat.land 524288 m_ = 524288) : Fr m_ o_ (State.fillRun s r n).1 := by
  refine Fr.of h_ hm_ ?_
  clear h_ hm_
  have h_ := Fr.refl 524288 s
  unfold State.fillRun
  repeat' first
    | with_reducible assumption
    | exact (rfl : Nat.land _ _ = _)
    | (extract_lets +onlyGivenNames x
       first
         | (have hx : Fr 524288 s x := ?_
            (on_goal 1 => clear_value x)
            on_goal 2 => (unfold x; clear x))
         | (have hx : Fr 524288 s x.2 := ?_
            (on_goal 1 => clear_value x)
            on_goal 2 => (unfold x; clear x))
         | clear_value x)
    | (simp -zeta -beta -iota only [Fr.mk_iff]; first | refine FrU.upd ?_ rfl | refine FrU.filter _ ?_ rfl)
    | with_reducible refine Fr.ite ?_ ?_
    | with_reducible refine Fr.ite2 ?_ ?_
    | dsimp -zeta only
    | split

theorem State.touchRuns_frame {m_ : Nat} {o_ : State} {s : State} {p : Run → Bool} (h_ : Fr m_ o_ s) (hm_ : Nat.land 524288 m_ = 524288) : Fr m_ o_ (State.touchRuns s p) := by
  refine Fr.of h_ hm_ ?_
  clear h_ hm_
  have h_ := Fr.refl 524288 s
  unfold State.touchRuns
  repeat' first
    | with_reducible assumption
    | exact (rfl : Nat.land _ _ = _)
    | (extract_lets +onlyGivenNames x
       first
         | (have hx : Fr 524288 s x := ?_
            (on_goal 1 => clear_value x)
            on_goal 2 => (unfold x; clear x))
         | (have hx : Fr 524288 s x.2 := ?_
            (on_goal 1 => clear_value x)
            on_goal 2 => (unfold x; clear x))
         | clear_value x)
    | (simp -zeta -beta -iota only [Fr.mk_iff]; first | refine FrU.upd ?_ rfl | refine FrU.filter _ ?_ rfl)
    | with_reducible refine Fr.ite ?_ ?_
    | dsimp -zeta only
    | split

theorem State.eraseRuns_frame {m_ : Nat} {o_ : State} {s : State} {p : Run → Bool} (h_ : Fr m_ o_ s) (hm_ : Nat.land 524288 m_ = 524288) : Fr m_ o_ (State.eraseRuns s p) := by
  refine Fr.of h_ hm_ ?_
  clear h_ hm_
  have h_ := Fr.refl 524288 s
  unfold State.eraseRuns
  repeat' first
    | with_reducible assumption
    | exact (rfl : Nat.land _ _ = _)
    | (extract_lets +onlyGivenNames x
       first
         | (have hx : Fr 524288 s x := ?_
            (on_goal 1 => clear_value x)
            on_goal 2 => (unfold x; clear x))
         | (have hx : Fr 524288 s x.2 := ?_
            (on_goal 1 => clear_value x)
            on_goal 2 => (unfold x; clear x))
         | clear_value x)
    | (simp -zeta -beta -iota only [Fr.mk_iff]; first | refine FrU.upd ?_ rfl | refine FrU.filter _ ?_ rfl)
    | dsimp -zeta only

theorem State.shareRuns_frame {m_ : Nat} {o_ : State} {s : State} {job : Nat} (h_ : Fr m_ o_ s) (hm_ : Nat.land 524288 m_ = 524288) : Fr m_ o_ (State.shareRuns s job) := by
  refine Fr.of h_ hm_ ?_
  clear h_ hm_
  have h_ := Fr.refl 524288 s
  unfold State.shareRuns
  repeat' first
    | with_reducible assumption
    | exact (rfl : Nat.land _ _ = _)
    | (extract_lets +onlyGivenNames x
       first
         | (have hx : Fr 524288 s x := ?_
            (on_goal 1 => clear_value x)
            on_goal 2 => (unfold x; clear x))
         | (have hx : Fr 524288 s x.2 := ?_
            (on_goal 1 => clear_value x)
            on_goal 2 => (unfold x; clear x))
         | clear_value x)
    | (simp -zeta -beta -iota only [Fr.mk_iff]; first | refine FrU.upd ?_ rfl | refine FrU.filter _ ?_ rfl)
    | with_reducible refine Fr.ite ?_ ?_
    | dsimp -zeta only
    | split

theorem State.eraseSpeculative_frame {m_ : Nat} {o_ : State} {s : State} {job : Nat} (h_ : Fr m_ o_ s) (hm_ : Nat.land 524288 m_ = 524288) : Fr m_ o_ (State.eraseSpeculative s job) := by
  refine Fr.of h_ hm_ ?_
  clear h_ hm_
  have h_ := Fr.refl 524288 s
  unfold State.eraseSpeculative
  repeat' first
    | with_reducible assumption
    | exact (rfl : Nat.land _ _ = _)
    | with_reducible apply State.eraseRuns_frame
    | dsimp -zeta only

theorem State.useRoot_frame {m_ : Nat} {o_ : State} {s : State} {label : Nat} {svn : Nat} {key : Option Bytes} (h_ : Fr m_ o_ s) (hm_ : Nat.land 524288 m_ = 524288) : Fr m_ o_ (State.useRoot s label svn key) := by
  refine Fr.of h_ hm_ ?_
  clear h_ hm_
  have h_ := Fr.refl 524288 s
  unfold State.useRoot
  repeat' first
    | with_reducible assumption
    | exact (rfl : Nat.land _ _ = _)
    | (extract_lets +onlyGivenNames x
       first
         | (have hx : Fr 524288 s x := ?_
            (on_goal 1 => clear_value x)
            on_goal 2 => (unfold x; clear x))
         | (have hx : Fr 524288 s x.2 := ?_
            (on_goal 1 => clear_value x)
            on_goal 2 => (unfold x; clear x))
         | clear_value x)
    | (simp -zeta -beta -iota only [Fr.mk_iff]; first | refine FrU.upd ?_ rfl | refine FrU.filter _ ?_ rfl)
    | dsimp -zeta only
    | split

theorem State.fillRoots_frame {m_ : Nat} {o_ : State} {s : State} (h_ : Fr m_ o_ s) (hm_ : Nat.land 524288 m_ = 524288) : Fr m_ o_ (State.fillRoots s) := by
  refine Fr.of h_ hm_ ?_
  clear h_ hm_
  have h_ := Fr.refl 524288 s
  unfold State.fillRoots
  repeat' first
    | with_reducible assumption
    | exact (rfl : Nat.land _ _ = _)
    | with_reducible apply State.useRoot_frame

theorem State.useNode_frame {m_ : Nat} {o_ : State} {s : State} {label : Nat} {variant : Nat} {owner : Nat} {svn : Nat} {key : Option Bytes} (h_ : Fr m_ o_ s) (hm_ : Nat.land 524288 m_ = 524288) : Fr m_ o_ (State.useNode s label variant owner svn key) := by
  refine Fr.of h_ hm_ ?_
  clear h_ hm_
  have h_ := Fr.refl 524288 s
  unfold State.useNode
  repeat' first
    | with_reducible assumption
    | exact (rfl : Nat.land _ _ = _)
    | (extract_lets +onlyGivenNames x
       first
         | (have hx : Fr 524288 s x := ?_
            (on_goal 1 => clear_value x)
            on_goal 2 => (unfold x; clear x))
         | (have hx : Fr 524288 s x.2 := ?_
            (on_goal 1 => clear_value x)
            on_goal 2 => (unfold x; clear x))
         | clear_value x)
    | with_reducible apply State.touchRuns_frame
    | with_reducible apply State.fillRun_frame
    | refine Fr.pair1 (by assumption) (State.fillRun_frame (h_ := ?_) ?_)
    | (simp -zeta -beta -iota only [Fr.mk_iff]; first | refine FrU.upd ?_ rfl | refine FrU.filter _ ?_ rfl)
    | with_reducible refine Fr.ite ?_ ?_
    | with_reducible refine Fr.ite2 ?_ ?_
    | dsimp -zeta only
    | split

theorem State.useOwner_frame {m_ : Nat} {o_ : State} {s : State} {owner : Nat} {svn : Nat} (h_ : Fr m_ o_ s) (hm_ : Nat.land 524288 m_ = 524288) : Fr m_ o_ (State.useOwner s owner svn) := by
  refine Fr.of h_ hm_ ?_
  clear h_ hm_
  have h_ := Fr.refl 524288 s
  unfold State.useOwner
  repeat' first
    | with_reducible assumption
    | exact (rfl : Nat.land _ _ = _)
    | with_reducible apply State.useNode_frame
    | with_reducible apply State.useRoot_frame

theorem State.useSeal_frame {m_ : Nat} {o_ : State} {s : State} {owner : Nat} {svn : Nat} (h_ : Fr m_ o_ s) (hm_ : Nat.land 524288 m_ = 524288) : Fr m_ o_ (State.useSeal s owner svn) := by
  refine Fr.of h_ hm_ ?_
  clear h_ hm_
  have h_ := Fr.refl 524288 s
  unfold State.useSeal
  repeat' first
    | with_reducible assumption
    | exact (rfl : Nat.land _ _ = _)
    | with_reducible apply State.useNode_frame
    | with_reducible apply State.useOwner_frame

theorem State.useCheckpoint_frame {m_ : Nat} {o_ : State} {s : State} {svn : Nat} (h_ : Fr m_ o_ s) (hm_ : Nat.land 524288 m_ = 524288) : Fr m_ o_ (State.useCheckpoint s svn) := by
  refine Fr.of h_ hm_ ?_
  clear h_ hm_
  have h_ := Fr.refl 524288 s
  unfold State.useCheckpoint
  repeat' first
    | with_reducible assumption
    | exact (rfl : Nat.land _ _ = _)
    | with_reducible apply State.useNode_frame
    | with_reducible apply State.useOwner_frame

theorem State.useExport_frame {m_ : Nat} {o_ : State} {s : State} {owner : Nat} (h_ : Fr m_ o_ s) (hm_ : Nat.land 524288 m_ = 524288) : Fr m_ o_ (State.useExport s owner) := by
  refine Fr.of h_ hm_ ?_
  clear h_ hm_
  have h_ := Fr.refl 524288 s
  unfold State.useExport
  repeat' first
    | with_reducible assumption
    | exact (rfl : Nat.land _ _ = _)
    | with_reducible apply State.useNode_frame
    | with_reducible apply State.useOwner_frame

theorem State.beginCheckpoint_frame {m_ : Nat} {o_ : State} {s : State} (h_ : Fr m_ o_ s) (hm_ : Nat.land 16384 m_ = 16384) : Fr m_ o_ (State.beginCheckpoint s) := by
  refine Fr.of h_ hm_ ?_
  clear h_ hm_
  have h_ := Fr.refl 16384 s
  unfold State.beginCheckpoint
  repeat' first
    | with_reducible assumption
    | exact (rfl : Nat.land _ _ = _)
    | (extract_lets +onlyGivenNames x
       first
         | (have hx : Fr 16384 s x := ?_
            (on_goal 1 => clear_value x)
            on_goal 2 => (unfold x; clear x))
         | (have hx : Fr 16384 s x.2 := ?_
            (on_goal 1 => clear_value x)
            on_goal 2 => (unfold x; clear x))
         | clear_value x)
    | (simp -zeta -beta -iota only [Fr.mk_iff]; first | refine FrU.upd ?_ rfl | refine FrU.filter _ ?_ rfl)
    | with_reducible refine Fr.ite ?_ ?_
    | dsimp -zeta only
    | split

theorem State.closeBead_frame {m_ : Nat} {o_ : State} {s : State} {sized : Bool} (h_ : Fr m_ o_ s) (hm_ : Nat.land 16384 m_ = 16384) : Fr m_ o_ (State.closeBead s sized) := by
  refine Fr.of h_ hm_ ?_
  clear h_ hm_
  have h_ := Fr.refl 16384 s
  unfold State.closeBead
  repeat' first
    | with_reducible assumption
    | exact (rfl : Nat.land _ _ = _)
    | (extract_lets +onlyGivenNames x
       first
         | (have hx : Fr 16384 s x := ?_
            (on_goal 1 => clear_value x)
            on_goal 2 => (unfold x; clear x))
         | (have hx : Fr 16384 s x.2 := ?_
            (on_goal 1 => clear_value x)
            on_goal 2 => (unfold x; clear x))
         | clear_value x)
    | with_reducible apply State.beginCheckpoint_frame
    | (simp -zeta -beta -iota only [Fr.mk_iff]; first | refine FrU.upd ?_ rfl | refine FrU.filter _ ?_ rfl)
    | dsimp -zeta only
    | split

theorem State.joinRec_frame {m_ : Nat} {o_ : State} {s : State} {r : Rec} (h_ : Fr m_ o_ s) (hm_ : Nat.land 16384 m_ = 16384) : Fr m_ o_ (State.joinRec s r).2 := by
  refine Fr.of h_ hm_ ?_
  clear h_ hm_
  have h_ := Fr.refl 16384 s
  unfold State.joinRec
  repeat' first
    | with_reducible assumption
    | exact (rfl : Nat.land _ _ = _)
    | (extract_lets +onlyGivenNames x
       first
         | (have hx : Fr 16384 s x := ?_
            (on_goal 1 => clear_value x)
            on_goal 2 => (unfold x; clear x))
         | (have hx : Fr 16384 s x.2 := ?_
            (on_goal 1 => clear_value x)
            on_goal 2 => (unfold x; clear x))
         | clear_value x)
    | with_reducible apply State.closeBead_frame
    | (simp -zeta -beta -iota only [Fr.mk_iff]; first | refine FrU.upd ?_ rfl | refine FrU.filter _ ?_ rfl)
    | with_reducible refine Fr.ite ?_ ?_
    | with_reducible refine Fr.ite2 ?_ ?_
    | dsimp -zeta only
    | split

theorem State.adminComplete_frame {m_ : Nat} {o_ : State} {s : State} {r : Reply} {res : OdResult} (h_ : Fr m_ o_ s) (hm_ : Nat.land 272 m_ = 272) : Fr m_ o_ (State.adminComplete s r res) := by
  refine Fr.of h_ hm_ ?_
  clear h_ hm_
  have h_ := Fr.refl 272 s
  unfold State.adminComplete
  repeat' first
    | with_reducible assumption
    | exact (rfl : Nat.land _ _ = _)
    | (extract_lets +onlyGivenNames x
       first
         | (have hx : Fr 272 s x := ?_
            (on_goal 1 => clear_value x)
            on_goal 2 => (unfold x; clear x))
         | (have hx : Fr 272 s x.2 := ?_
            (on_goal 1 => clear_value x)
            on_goal 2 => (unfold x; clear x))
         | clear_value x)
    | with_reducible apply State.emitAdminOutput_frame
    | with_reducible apply State.emit_frame
    | with_reducible apply State.msix_frame
    | (simp -zeta -beta -iota only [Fr.mk_iff]; first | refine FrU.upd ?_ rfl | refine FrU.filter _ ?_ rfl)
    | with_reducible refine Fr.ite ?_ ?_
    | with_reducible refine Fr.ite2 ?_ ?_
    | dsimp -zeta only
    | split

theorem flushAdmin_frame {m_ : Nat} {o_ : State} {a0 : Nat} {a1 : State} (h_ : Fr m_ o_ a1) (hm_ : Nat.land 2097424 m_ = 2097424) : Fr m_ o_ (flushAdmin a0 a1) := by
  refine Fr.of h_ hm_ ?_
  clear h_ hm_
  induction a0 generalizing a1 with
  | zero => exact Fr.refl _ _
  | succ n ih =>
    have h_ := Fr.refl 2097424 a1
    unfold flushAdmin
    repeat' first
      | with_reducible assumption
      | exact (rfl : Nat.land _ _ = _)
      | (extract_lets +onlyGivenNames x
         first
           | (have hx : Fr 2097424 a1 x := ?_
              (on_goal 1 => clear_value x)
              on_goal 2 => (unfold x; clear x))
           | (have hx : Fr 2097424 a1 x.2 := ?_
              (on_goal 1 => clear_value x)
              on_goal 2 => (unfold x; clear x))
           | clear_value x)
      | with_reducible refine Fr.trans ?_ ih
      | with_reducible apply State.adminComplete_frame
      | with_reducible refine Fr.foldl _ _ ?_ (fun _ _ _ => ?_)
      | with_reducible refine Fr.elim ?_ (fun _ => ?_)
      | with_reducible apply FrO.next
      | (simp -zeta -beta -iota only [Fr.mk_iff]; first | refine FrU.upd ?_ rfl | refine FrU.filter _ ?_ rfl)
      | with_reducible refine Fr.ite ?_ ?_
      | with_reducible refine Fr.ite2 ?_ ?_
      | with_reducible refine FrO.ite ?_ ?_
      | dsimp -zeta only
      | split

theorem State.sendReply_frame {m_ : Nat} {o_ : State} {s : State} {r : Reply} (h_ : Fr m_ o_ s) (hm_ : Nat.land 1208229907 m_ = 1208229907) : Fr m_ o_ (State.sendReply s r) := by
  refine Fr.of h_ hm_ ?_
  clear h_ hm_
  have h_ := Fr.refl 1208229907 s
  unfold State.sendReply
  repeat' first
    | with_reducible assumption
    | exact (rfl : Nat.land _ _ = _)
    | (extract_lets +onlyGivenNames x
       first
         | (have hx : Fr 1208229907 s x := ?_
            (on_goal 1 => clear_value x)
            on_goal 2 => (unfold x; clear x))
         | (have hx : Fr 1208229907 s x.2 := ?_
            (on_goal 1 => clear_value x)
            on_goal 2 => (unfold x; clear x))
         | clear_value x)
    | with_reducible apply State.putBit_frame
    | with_reducible apply State.put_frame
    | with_reducible apply State.deviceWrite_frame
    | with_reducible apply State.setSession_frame
    | (simp -zeta -beta -iota only [Fr.mk_iff]; first | refine FrU.upd ?_ rfl | refine FrU.filter _ ?_ rfl)
    | with_reducible refine Fr.ite ?_ ?_
    | with_reducible refine Fr.ite2 ?_ ?_
    | dsimp -zeta only
    | split

theorem State.flushReplies_frame {m_ : Nat} {o_ : State} {s : State} (h_ : Fr m_ o_ s) (hm_ : Nat.land 1210327315 m_ = 1210327315) : Fr m_ o_ (State.flushReplies s) := by
  refine Fr.of h_ hm_ ?_
  clear h_ hm_
  have h_ := Fr.refl 1210327315 s
  unfold State.flushReplies
  repeat' first
    | with_reducible assumption
    | exact (rfl : Nat.land _ _ = _)
    | (extract_lets +onlyGivenNames x
       first
         | (have hx : Fr 1210327315 s x := ?_
            (on_goal 1 => clear_value x)
            on_goal 2 => (unfold x; clear x))
         | (have hx : Fr 1210327315 s x.2 := ?_
            (on_goal 1 => clear_value x)
            on_goal 2 => (unfold x; clear x))
         | clear_value x)
    | with_reducible refine Fr.foldl _ _ ?_ (fun _ _ _ => ?_)
    | with_reducible apply State.sendReply_frame
    | with_reducible apply flushAdmin_frame
    | (simp -zeta -beta -iota only [Fr.mk_iff]; first | refine FrU.upd ?_ rfl | refine FrU.filter _ ?_ rfl)
    | dsimp -zeta only

theorem State.addReply_frame {m_ : Nat} {o_ : State} {s : State} {q : OdReq} {result : Option OdResult} {output : Bytes} {bad : Option Nat} (h_ : Fr m_ o_ s) (hm_ : Nat.land 2097152 m_ = 2097152) : Fr m_ o_ (State.addReply s q result output bad).2 := by
  refine Fr.of h_ hm_ ?_
  clear h_ hm_
  have h_ := Fr.refl 2097152 s
  unfold State.addReply
  repeat' first
    | with_reducible assumption
    | exact (rfl : Nat.land _ _ = _)
    | (extract_lets +onlyGivenNames x
       first
         | (have hx : Fr 2097152 s x := ?_
            (on_goal 1 => clear_value x)
            on_goal 2 => (unfold x; clear x))
         | (have hx : Fr 2097152 s x.2 := ?_
            (on_goal 1 => clear_value x)
            on_goal 2 => (unfold x; clear x))
         | clear_value x)
    | (simp -zeta -beta -iota only [Fr.mk_iff]; first | refine FrU.upd ?_ rfl | refine FrU.filter _ ?_ rfl)
    | dsimp -zeta only

theorem State.answer_frame {m_ : Nat} {o_ : State} {s : State} {n : Nat} {res : OdResult} {bead : Nat} (h_ : Fr m_ o_ s) (hm_ : Nat.land 2097152 m_ = 2097152) : Fr m_ o_ (State.answer s n res bead) := by
  refine Fr.of h_ hm_ ?_
  clear h_ hm_
  have h_ := Fr.refl 2097152 s
  unfold State.answer
  repeat' first
    | with_reducible assumption
    | exact (rfl : Nat.land _ _ = _)
    | (extract_lets +onlyGivenNames x
       first
         | (have hx : Fr 2097152 s x := ?_
            (on_goal 1 => clear_value x)
            on_goal 2 => (unfold x; clear x))
         | (have hx : Fr 2097152 s x.2 := ?_
            (on_goal 1 => clear_value x)
            on_goal 2 => (unfold x; clear x))
         | clear_value x)
    | (simp -zeta -beta -iota only [Fr.mk_iff]; first | refine FrU.upd ?_ rfl | refine FrU.filter _ ?_ rfl)
    | with_reducible refine Fr.ite ?_ ?_
    | dsimp -zeta only
    | split

theorem State.sealReplies_frame {m_ : Nat} {o_ : State} {s : State} {b : Bead} (h_ : Fr m_ o_ s) (hm_ : Nat.land 2097152 m_ = 2097152) : Fr m_ o_ (State.sealReplies s b) := by
  refine Fr.of h_ hm_ ?_
  clear h_ hm_
  have h_ := Fr.refl 2097152 s
  unfold State.sealReplies
  repeat' first
    | with_reducible assumption
    | exact (rfl : Nat.land _ _ = _)
    | (extract_lets +onlyGivenNames x
       first
         | (have hx : Fr 2097152 s x := ?_
            (on_goal 1 => clear_value x)
            on_goal 2 => (unfold x; clear x))
         | (have hx : Fr 2097152 s x.2 := ?_
            (on_goal 1 => clear_value x)
            on_goal 2 => (unfold x; clear x))
         | clear_value x)
    | with_reducible refine Fr.foldl _ _ ?_ (fun _ _ _ => ?_)
    | (simp -zeta -beta -iota only [Fr.mk_iff]; first | refine FrU.upd ?_ rfl | refine FrU.filter _ ?_ rfl)
    | with_reducible refine Fr.ite ?_ ?_
    | with_reducible refine Fr.ite2 ?_ ?_
    | dsimp -zeta only
    | split

theorem State.durableReplies_frame {m_ : Nat} {o_ : State} {s : State} (h_ : Fr m_ o_ s) (hm_ : Nat.land 2097152 m_ = 2097152) : Fr m_ o_ (State.durableReplies s) := by
  refine Fr.of h_ hm_ ?_
  clear h_ hm_
  have h_ := Fr.refl 2097152 s
  unfold State.durableReplies
  repeat' first
    | with_reducible assumption
    | exact (rfl : Nat.land _ _ = _)
    | (extract_lets +onlyGivenNames x
       first
         | (have hx : Fr 2097152 s x := ?_
            (on_goal 1 => clear_value x)
            on_goal 2 => (unfold x; clear x))
         | (have hx : Fr 2097152 s x.2 := ?_
            (on_goal 1 => clear_value x)
            on_goal 2 => (unfold x; clear x))
         | clear_value x)
    | (simp -zeta -beta -iota only [Fr.mk_iff]; first | refine FrU.upd ?_ rfl | refine FrU.filter _ ?_ rfl)
    | with_reducible refine Fr.ite ?_ ?_
    | dsimp -zeta only
    | split

theorem State.freePending_frame {m_ : Nat} {o_ : State} {s : State} {handle : Nat} (h_ : Fr m_ o_ s) (hm_ : Nat.land 262144 m_ = 262144) : Fr m_ o_ (State.freePending s handle) := by
  refine Fr.of h_ hm_ ?_
  clear h_ hm_
  have h_ := Fr.refl 262144 s
  unfold State.freePending
  repeat' first
    | with_reducible assumption
    | exact (rfl : Nat.land _ _ = _)
    | with_reducible apply State.dirRemove_frame

theorem State.refuseEnables_frame {m_ : Nat} {o_ : State} {s : State} {n : Nat} (h_ : Fr m_ o_ s) (hm_ : Nat.land 2097184 m_ = 2097184) : Fr m_ o_ (State.refuseEnables s n) := by
  refine Fr.of h_ hm_ ?_
  clear h_ hm_
  have h_ := Fr.refl 2097184 s
  unfold State.refuseEnables
  repeat' first
    | with_reducible assumption
    | exact (rfl : Nat.land _ _ = _)
    | (extract_lets +onlyGivenNames x
       first
         | (have hx : Fr 2097184 s x := ?_
            (on_goal 1 => clear_value x)
            on_goal 2 => (unfold x; clear x))
         | (have hx : Fr 2097184 s x.2 := ?_
            (on_goal 1 => clear_value x)
            on_goal 2 => (unfold x; clear x))
         | clear_value x)
    | with_reducible refine Fr.foldl _ _ ?_ (fun _ _ _ => ?_)
    | with_reducible apply State.modInst_frame
    | with_reducible apply State.answer_frame
    | (simp -zeta -beta -iota only [Fr.mk_iff]; first | refine FrU.upd ?_ rfl | refine FrU.filter _ ?_ rfl)
    | dsimp -zeta only

theorem State.rebind_frame {m_ : Nat} {o_ : State} {s : State} {n : Nat} (h_ : Fr m_ o_ s) (hm_ : Nat.land 2099233 m_ = 2099233) : Fr m_ o_ (State.rebind s n) := by
  refine Fr.of h_ hm_ ?_
  clear h_ hm_
  have h_ := Fr.refl 2099233 s
  unfold State.rebind
  repeat' first
    | with_reducible assumption
    | exact (rfl : Nat.land _ _ = _)
    | (extract_lets +onlyGivenNames x
       first
         | (have hx : Fr 2099233 s x := ?_
            (on_goal 1 => clear_value x)
            on_goal 2 => (unfold x; clear x))
         | (have hx : Fr 2099233 s x.2 := ?_
            (on_goal 1 => clear_value x)
            on_goal 2 => (unfold x; clear x))
         | clear_value x)
    | with_reducible apply State.unbindMeter_frame
    | with_reducible apply State.setInstState_frame
    | with_reducible apply State.refuseEnables_frame
    | with_reducible apply State.bindMeter_frame
    | with_reducible refine Fr.ite ?_ ?_
    | dsimp -zeta only
    | split

theorem State.undoRec_frame {m_ : Nat} {o_ : State} {s : State} {r : Rec} (h_ : Fr m_ o_ s) (hm_ : Nat.land 2492449 m_ = 2492449) : Fr m_ o_ (State.undoRec s r) := by
  refine Fr.of h_ hm_ ?_
  clear h_ hm_
  have h_ := Fr.refl 2492449 s
  unfold State.undoRec
  repeat' first
    | with_reducible assumption
    | exact (rfl : Nat.land _ _ = _)
    | (extract_lets +onlyGivenNames x
       first
         | (have hx : Fr 2492449 s x := ?_
            (on_goal 1 => clear_value x)
            on_goal 2 => (unfold x; clear x))
         | (have hx : Fr 2492449 s x.2 := ?_
            (on_goal 1 => clear_value x)
            on_goal 2 => (unfold x; clear x))
         | clear_value x)
    | with_reducible apply State.freePending_frame
    | with_reducible apply State.rebind_frame
    | with_reducible apply State.answer_frame
    | (simp -zeta -beta -iota only [Fr.mk_iff]; first | refine FrU.upd ?_ rfl | refine FrU.filter _ ?_ rfl)
    | with_reducible refine Fr.ite ?_ ?_
    | with_reducible refine Fr.ite2 ?_ ?_
    | dsimp -zeta only
    | split

theorem State.withdrawOpen_frame {m_ : Nat} {o_ : State} {s : State} {p : Rec → Bool} (h_ : Fr m_ o_ s) (hm_ : Nat.land 2508833 m_ = 2508833) : Fr m_ o_ (State.withdrawOpen s p) := by
  refine Fr.of h_ hm_ ?_
  clear h_ hm_
  have h_ := Fr.refl 2508833 s
  unfold State.withdrawOpen
  repeat' first
    | with_reducible assumption
    | exact (rfl : Nat.land _ _ = _)
    | (extract_lets +onlyGivenNames x
       first
         | (have hx : Fr 2508833 s x := ?_
            (on_goal 1 => clear_value x)
            on_goal 2 => (unfold x; clear x))
         | (have hx : Fr 2508833 s x.2 := ?_
            (on_goal 1 => clear_value x)
            on_goal 2 => (unfold x; clear x))
         | clear_value x)
    | with_reducible refine Fr.foldl _ _ ?_ (fun _ _ _ => ?_)
    | with_reducible apply State.undoRec_frame
    | (simp -zeta -beta -iota only [Fr.mk_iff]; first | refine FrU.upd ?_ rfl | refine FrU.filter _ ?_ rfl)
    | dsimp -zeta only

theorem State.withdrawAll_frame {m_ : Nat} {o_ : State} {s : State} (h_ : Fr m_ o_ s) (hm_ : Nat.land 2508833 m_ = 2508833) : Fr m_ o_ (State.withdrawAll s) := by
  refine Fr.of h_ hm_ ?_
  clear h_ hm_
  have h_ := Fr.refl 2508833 s
  unfold State.withdrawAll
  repeat' first
    | with_reducible assumption
    | exact (rfl : Nat.land _ _ = _)
    | (extract_lets +onlyGivenNames x
       first
         | (have hx : Fr 2508833 s x := ?_
            (on_goal 1 => clear_value x)
            on_goal 2 => (unfold x; clear x))
         | (have hx : Fr 2508833 s x.2 := ?_
            (on_goal 1 => clear_value x)
            on_goal 2 => (unfold x; clear x))
         | clear_value x)
    | with_reducible refine Fr.foldl _ _ ?_ (fun _ _ _ => ?_)
    | with_reducible apply State.withdrawOpen_frame
    | with_reducible apply State.undoRec_frame
    | (simp -zeta -beta -iota only [Fr.mk_iff]; first | refine FrU.upd ?_ rfl | refine FrU.filter _ ?_ rfl)
    | dsimp -zeta only

theorem State.journalNotice_frame {m_ : Nat} {o_ : State} {s : State} (h_ : Fr m_ o_ s) (hm_ : Nat.land 16400 m_ = 16400) : Fr m_ o_ (State.journalNotice s) := by
  refine Fr.of h_ hm_ ?_
  clear h_ hm_
  have h_ := Fr.refl 16400 s
  unfold State.journalNotice
  repeat' first
    | with_reducible assumption
    | exact (rfl : Nat.land _ _ = _)
    | (extract_lets +onlyGivenNames x
       first
         | (have hx : Fr 16400 s x := ?_
            (on_goal 1 => clear_value x)
            on_goal 2 => (unfold x; clear x))
         | (have hx : Fr 16400 s x.2 := ?_
            (on_goal 1 => clear_value x)
            on_goal 2 => (unfold x; clear x))
         | clear_value x)
    | with_reducible apply State.msix_frame
    | (simp -zeta -beta -iota only [Fr.mk_iff]; first | refine FrU.upd ?_ rfl | refine FrU.filter _ ?_ rfl)

theorem State.refreshDeviceState_frame {m_ : Nat} {o_ : State} {s : State} (h_ : Fr m_ o_ s) (hm_ : Nat.land 17 m_ = 17) : Fr m_ o_ (State.refreshDeviceState s) := by
  refine Fr.of h_ hm_ ?_
  clear h_ hm_
  have h_ := Fr.refl 17 s
  unfold State.refreshDeviceState
  repeat' first
    | with_reducible assumption
    | exact (rfl : Nat.land _ _ = _)
    | with_reducible apply State.setDeviceState_frame
    | with_reducible refine Fr.ite ?_ ?_
    | split

theorem State.notePeaks_frame {m_ : Nat} {o_ : State} {s : State} (h_ : Fr m_ o_ s) (hm_ : Nat.land 1 m_ = 1) : Fr m_ o_ (State.notePeaks s) := by
  refine Fr.of h_ hm_ ?_
  clear h_ hm_
  have h_ := Fr.refl 1 s
  unfold State.notePeaks
  repeat' first
    | with_reducible assumption
    | exact (rfl : Nat.land _ _ = _)
    | (extract_lets +onlyGivenNames x
       first
         | (have hx : Fr 1 s x := ?_
            (on_goal 1 => clear_value x)
            on_goal 2 => (unfold x; clear x))
         | (have hx : Fr 1 s x.2 := ?_
            (on_goal 1 => clear_value x)
            on_goal 2 => (unfold x; clear x))
         | clear_value x)
    | with_reducible apply State.put_frame
    | dsimp -zeta only

theorem State.readApprovals_frame {m_ : Nat} {o_ : State} {s : State} {p : Approval → Bool} (h_ : Fr m_ o_ s) (hm_ : Nat.land 1056769 m_ = 1056769) : Fr m_ o_ (State.readApprovals s p) := by
  refine Fr.of h_ hm_ ?_
  clear h_ hm_
  have h_ := Fr.refl 1056769 s
  unfold State.readApprovals
  repeat' first
    | with_reducible assumption
    | exact (rfl : Nat.land _ _ = _)
    | (extract_lets +onlyGivenNames x
       first
         | (have hx : Fr 1056769 s x := ?_
            (on_goal 1 => clear_value x)
            on_goal 2 => (unfold x; clear x))
         | (have hx : Fr 1056769 s x.2 := ?_
            (on_goal 1 => clear_value x)
            on_goal 2 => (unfold x; clear x))
         | clear_value x)
    | with_reducible refine Fr.foldl _ _ ?_ (fun _ _ _ => ?_)
    | with_reducible apply State.event_frame
    | (simp -zeta -beta -iota only [Fr.mk_iff]; first | refine FrU.upd ?_ rfl | refine FrU.filter _ ?_ rfl)
    | dsimp -zeta only

theorem State.readFor_frame {m_ : Nat} {o_ : State} {s : State} {j : Job} (h_ : Fr m_ o_ s) (hm_ : Nat.land 1056769 m_ = 1056769) : Fr m_ o_ (State.readFor s j) := by
  refine Fr.of h_ hm_ ?_
  clear h_ hm_
  have h_ := Fr.refl 1056769 s
  unfold State.readFor
  repeat' first
    | with_reducible assumption
    | exact (rfl : Nat.land _ _ = _)
    | with_reducible apply State.readApprovals_frame

theorem State.holdApproval_frame {m_ : Nat} {o_ : State} {s : State} {a : Approval} (h_ : Fr m_ o_ s) (hm_ : Nat.land 1122305 m_ = 1122305) : Fr m_ o_ (State.holdApproval s a) := by
  refine Fr.of h_ hm_ ?_
  clear h_ hm_
  have h_ := Fr.refl 1122305 s
  unfold State.holdApproval
  repeat' first
    | with_reducible assumption
    | exact (rfl : Nat.land _ _ = _)
    | (extract_lets +onlyGivenNames x
       first
         | (have hx : Fr 1122305 s x := ?_
            (on_goal 1 => clear_value x)
            on_goal 2 => (unfold x; clear x))
         | (have hx : Fr 1122305 s x.2 := ?_
            (on_goal 1 => clear_value x)
            on_goal 2 => (unfold x; clear x))
         | clear_value x)
    | with_reducible apply State.readApprovals_frame
    | with_reducible apply State.event_frame
    | with_reducible apply State.modOwner_frame
    | (simp -zeta -beta -iota only [Fr.mk_iff]; first | refine FrU.upd ?_ rfl | refine FrU.filter _ ?_ rfl)
    | with_reducible refine Fr.ite ?_ ?_
    | with_reducible refine Fr.ite2 ?_ ?_
    | dsimp -zeta only
    | split

theorem State.setUsage_frame {m_ : Nat} {o_ : State} {s : State} {handle : Nat} {u : Usage} (h_ : Fr m_ o_ s) (hm_ : Nat.land 131072 m_ = 131072) : Fr m_ o_ (State.setUsage s handle u) := by
  refine Fr.of h_ hm_ ?_
  clear h_ hm_
  have h_ := Fr.refl 131072 s
  unfold State.setUsage
  repeat' first
    | with_reducible assumption
    | exact (rfl : Nat.land _ _ = _)
    | (extract_lets +onlyGivenNames x
       first
         | (have hx : Fr 131072 s x := ?_
            (on_goal 1 => clear_value x)
            on_goal 2 => (unfold x; clear x))
         | (have hx : Fr 131072 s x.2 := ?_
            (on_goal 1 => clear_value x)
            on_goal 2 => (unfold x; clear x))
         | clear_value x)
    | (simp -zeta -beta -iota only [Fr.mk_iff]; first | refine FrU.upd ?_ rfl | refine FrU.filter _ ?_ rfl)
    | dsimp -zeta only

theorem State.readUsage_frame {m_ : Nat} {o_ : State} {s : State} {handle : Nat} (h_ : Fr m_ o_ s) (hm_ : Nat.land 139265 m_ = 139265) : Fr m_ o_ (State.readUsage s handle) := by
  refine Fr.of h_ hm_ ?_
  clear h_ hm_
  have h_ := Fr.refl 139265 s
  unfold State.readUsage
  repeat' first
    | with_reducible assumption
    | exact (rfl : Nat.land _ _ = _)
    | (extract_lets +onlyGivenNames x
       first
         | (have hx : Fr 139265 s x := ?_
            (on_goal 1 => clear_value x)
            on_goal 2 => (unfold x; clear x))
         | (have hx : Fr 139265 s x.2 := ?_
            (on_goal 1 => clear_value x)
            on_goal 2 => (unfold x; clear x))
         | clear_value x)
    | with_reducible refine Fr.elim ?_ (fun _ => ?_)
    | with_reducible apply State.setUsage_frame
    | with_reducible apply State.event_frame
    | (simp -zeta -beta -iota only [Fr.mk_iff]; first | refine FrU.upd ?_ rfl | refine FrU.filter _ ?_ rfl)
    | with_reducible refine Fr.ite ?_ ?_
    | dsimp -zeta only
    | split

theorem State.freeCreation_frame {m_ : Nat} {o_ : State} {s : State} {j : Job} (h_ : Fr m_ o_ s) (hm_ : Nat.land 262144 m_ = 262144) : Fr m_ o_ (State.freeCreation s j) := by
  refine Fr.of h_ hm_ ?_
  clear h_ hm_
  have h_ := Fr.refl 262144 s
  unfold State.freeCreation
  repeat' first
    | with_reducible assumption
    | exact (rfl : Nat.land _ _ = _)
    | (extract_lets +onlyGivenNames x
       first
         | (have hx : Fr 262144 s x := ?_
            (on_goal 1 => clear_value x)
            on_goal 2 => (unfold x; clear x))
         | (have hx : Fr 262144 s x.2 := ?_
            (on_goal 1 => clear_value x)
            on_goal 2 => (unfold x; clear x))
         | clear_value x)
    | with_reducible apply State.freePending_frame
    | (simp -zeta -beta -iota only [Fr.mk_iff]; first | refine FrU.upd ?_ rfl | refine FrU.filter _ ?_ rfl)
    | with_reducible refine Fr.ite ?_ ?_
    | with_reducible refine Fr.ite2 ?_ ?_
    | dsimp -zeta only
    | split

theorem State.setLane_frame {m_ : Nat} {o_ : State} {s : State} {n : Nat} {l : Lane} (h_ : Fr m_ o_ s) (hm_ : Nat.land 16777217 m_ = 16777217) : Fr m_ o_ (State.setLane s n l) := by
  refine Fr.of h_ hm_ ?_
  clear h_ hm_
  have h_ := Fr.refl 16777217 s
  unfold State.setLane
  repeat' first
    | with_reducible assumption
    | exact (rfl : Nat.land _ _ = _)
    | (extract_lets +onlyGivenNames x
       first
         | (have hx : Fr 16777217 s x := ?_
            (on_goal 1 => clear_value x)
            on_goal 2 => (unfold x; clear x))
         | (have hx : Fr 16777217 s x.2 := ?_
            (on_goal 1 => clear_value x)
            on_goal 2 => (unfold x; clear x))
         | clear_value x)
    | with_reducible apply State.putBit_frame
    | (simp -zeta -beta -iota only [Fr.mk_iff]; first | refine FrU.upd ?_ rfl | refine FrU.filter _ ?_ rfl)
    | dsimp -zeta only

theorem State.stopLane_frame {m_ : Nat} {o_ : State} {s : State} {j : Job} (h_ : Fr m_ o_ s) (hm_ : Nat.land 16777217 m_ = 16777217) : Fr m_ o_ (State.stopLane s j) := by
  refine Fr.of h_ hm_ ?_
  clear h_ hm_
  have h_ := Fr.refl 16777217 s
  unfold State.stopLane
  repeat' first
    | with_reducible assumption
    | exact (rfl : Nat.land _ _ = _)
    | (extract_lets +onlyGivenNames x
       first
         | (have hx : Fr 16777217 s x := ?_
            (on_goal 1 => clear_value x)
            on_goal 2 => (unfold x; clear x))
         | (have hx : Fr 16777217 s x.2 := ?_
            (on_goal 1 => clear_value x)
            on_goal 2 => (unfold x; clear x))
         | clear_value x)
    | with_reducible apply State.putBit_frame
    | with_reducible apply State.setLane_frame
    | (simp -zeta -beta -iota only [Fr.mk_iff]; first | refine FrU.upd ?_ rfl | refine FrU.filter _ ?_ rfl)
    | dsimp -zeta only
    | split

theorem State.refuse_frame {m_ : Nat} {o_ : State} {s : State} {id : Nat} {r : Refusal113} (h_ : Fr m_ o_ s) (hm_ : Nat.land 17564161 m_ = 17564161) : Fr m_ o_ (State.refuse s id r) := by
  refine Fr.of h_ hm_ ?_
  clear h_ hm_
  have h_ := Fr.refl 17564161 s
  unfold State.refuse
  repeat' first
    | with_reducible assumption
    | exact (rfl : Nat.land _ _ = _)
    | (extract_lets +onlyGivenNames x
       first
         | (have hx : Fr 17564161 s x := ?_
            (on_goal 1 => clear_value x)
            on_goal 2 => (unfold x; clear x))
         | (have hx : Fr 17564161 s x.2 := ?_
            (on_goal 1 => clear_value x)
            on_goal 2 => (unfold x; clear x))
         | clear_value x)
    | with_reducible apply State.stopLane_frame
    | with_reducible apply State.freeCreation_frame
    | with_reducible apply State.eraseSpeculative_frame
    | with_reducible apply State.modJob_frame
    | (simp -zeta -beta -iota only [Fr.mk_iff]; first | refine FrU.upd ?_ rfl | refine FrU.filter _ ?_ rfl)
    | with_reducible refine Fr.ite ?_ ?_
    | with_reducible refine Fr.ite2 ?_ ?_
    | dsimp -zeta only
    | split

theorem State.joinJob_frame {m_ : Nat} {o_ : State} {s : State} {id : Nat} {j : Job} (h_ : Fr m_ o_ s) (hm_ : Nat.land 17580545 m_ = 17580545) : Fr m_ o_ (State.joinJob s id j) := by
  refine Fr.of h_ hm_ ?_
  clear h_ hm_
  have h_ := Fr.refl 17580545 s
  unfold State.joinJob
  repeat' first
    | with_reducible assumption
    | exact (rfl : Nat.land _ _ = _)
    | (extract_lets +onlyGivenNames x
       first
         | (have hx : Fr 17580545 s x := ?_
            (on_goal 1 => clear_value x)
            on_goal 2 => (unfold x; clear x))
         | (have hx : Fr 17580545 s x.2 := ?_
            (on_goal 1 => clear_value x)
            on_goal 2 => (unfold x; clear x))
         | clear_value x)
    | with_reducible refine Fr.foldl _ _ ?_ (fun _ _ _ => ?_)
    | with_reducible apply State.refuse_frame
    | with_reducible apply State.joinRec_frame
    | refine Fr.pair (by assumption) (State.joinRec_frame (h_ := ?_) ?_)
    | with_reducible apply State.modJob_frame
    | (simp -zeta -beta -iota only [Fr.mk_iff]; first | refine FrU.upd ?_ rfl | refine FrU.filter _ ?_ rfl)
    | dsimp -zeta only
    | split

theorem State.noteReleased_frame {m_ : Nat} {o_ : State} {s : State} {j : Job} {st : Status} (h_ : Fr m_ o_ s) (hm_ : Nat.land 1024 m_ = 1024) : Fr m_ o_ (State.noteReleased s j st) := by
  refine Fr.of h_ hm_ ?_
  clear h_ hm_
  have h_ := Fr.refl 1024 s
  unfold State.noteReleased
  repeat' first
    | with_reducible assumption
    | exact (rfl : Nat.land _ _ = _)
    | (extract_lets +onlyGivenNames x
       first
         | (have hx : Fr 1024 s x := ?_
            (on_goal 1 => clear_value x)
            on_goal 2 => (unfold x; clear x))
         | (have hx : Fr 1024 s x.2 := ?_
            (on_goal 1 => clear_value x)
            on_goal 2 => (unfold x; clear x))
         | clear_value x)
    | (simp -zeta -beta -iota only [Fr.mk_iff]; first | refine FrU.upd ?_ rfl | refine FrU.filter _ ?_ rfl)
    | with_reducible refine Fr.ite ?_ ?_
    | dsimp -zeta only
    | split

theorem State.eraseSquashed_frame {m_ : Nat} {o_ : State} {s : State} (h_ : Fr m_ o_ s) (hm_ : Nat.land 524288 m_ = 524288) : Fr m_ o_ (State.eraseSquashed s) := by
  refine Fr.of h_ hm_ ?_
  clear h_ hm_
  have h_ := Fr.refl 524288 s
  unfold State.eraseSquashed
  repeat' first
    | with_reducible assumption
    | exact (rfl : Nat.land _ _ = _)
    | with_reducible refine Fr.foldl _ _ ?_ (fun _ _ _ => ?_)
    | with_reducible apply State.eraseSpeculative_frame
    | dsimp -zeta only

theorem State.returnUse_frame {m_ : Nat} {o_ : State} {s : State} {j : Job} (h_ : Fr m_ o_ s) (hm_ : Nat.land 139265 m_ = 139265) : Fr m_ o_ (State.returnUse s j) := by
  refine Fr.of h_ hm_ ?_
  clear h_ hm_
  have h_ := Fr.refl 139265 s
  unfold State.returnUse
  repeat' first
    | with_reducible assumption
    | exact (rfl : Nat.land _ _ = _)
    | (extract_lets +onlyGivenNames x
       first
         | (have hx : Fr 139265 s x := ?_
            (on_goal 1 => clear_value x)
            on_goal 2 => (unfold x; clear x))
         | (have hx : Fr 139265 s x.2 := ?_
            (on_goal 1 => clear_value x)
            on_goal 2 => (unfold x; clear x))
         | clear_value x)
    | with_reducible apply State.readUsage_frame
    | with_reducible apply State.setUsage_frame
    | (simp -zeta -beta -iota only [Fr.mk_iff]; first | refine FrU.upd ?_ rfl | refine FrU.filter _ ?_ rfl)
    | dsimp -zeta only
    | split

theorem State.stampWith_frame {m_ : Nat} {o_ : State} {s : State} {id : Nat} {j : Job} {st : Status} {detail : Nat} (h_ : Fr m_ o_ s) (hm_ : Nat.land 2043441 m_ = 2043441) : Fr m_ o_ (State.stampWith s id j st detail) := by
  refine Fr.of h_ hm_ ?_
  clear h_ hm_
  have h_ := Fr.refl 2043441 s
  unfold State.stampWith
  repeat' first
    | with_reducible assumption
    | exact (rfl : Nat.land _ _ = _)
    | (extract_lets +onlyGivenNames x
       first
         | (have hx : Fr 2043441 s x := ?_
            (on_goal 1 => clear_value x)
            on_goal 2 => (unfold x; clear x))
         | (have hx : Fr 2043441 s x.2 := ?_
            (on_goal 1 => clear_value x)
            on_goal 2 => (unfold x; clear x))
         | clear_value x)
    | with_reducible refine Fr.foldl _ _ ?_ (fun _ _ _ => ?_)
    | with_reducible apply State.setJob_frame
    | with_reducible apply State.meterOutcome_frame
    | with_reducible apply State.shareRuns_frame
    | with_reducible apply State.freeCreation_frame
    | with_reducible apply State.eraseSpeculative_frame
    | with_reducible apply State.returnUse_frame
    | with_reducible apply State.holdApproval_frame
    | with_reducible apply State.noteReleased_frame
    | with_reducible apply State.event_frame
    | with_reducible apply State.eraseSquashed_frame
    | (simp -zeta -beta -iota only [Fr.mk_iff]; first | refine FrU.upd ?_ rfl | refine FrU.filter _ ?_ rfl)
    | with_reducible refine Fr.ite ?_ ?_
    | with_reducible refine Fr.ite2 ?_ ?_
    | dsimp -zeta only
    | split

theorem State.takeStamp_frame {m_ : Nat} {o_ : State} {s : State} {id : Nat} {j : Job} (h_ : Fr m_ o_ s) (hm_ : Nat.land 2043441 m_ = 2043441) : Fr m_ o_ (State.takeStamp s id j) := by
  refine Fr.of h_ hm_ ?_
  clear h_ hm_
  have h_ := Fr.refl 2043441 s
  unfold State.takeStamp
  repeat' first
    | with_reducible assumption
    | exact (rfl : Nat.land _ _ = _)
    | (extract_lets +onlyGivenNames x
       first
         | (have hx : Fr 2043441 s x := ?_
            (on_goal 1 => clear_value x)
            on_goal 2 => (unfold x; clear x))
         | (have hx : Fr 2043441 s x.2 := ?_
            (on_goal 1 => clear_value x)
            on_goal 2 => (unfold x; clear x))
         | clear_value x)
    | with_reducible apply State.readFor_frame
    | with_reducible apply State.stampWith_frame
    | (simp -zeta -beta -iota only [Fr.mk_iff]; first | refine FrU.upd ?_ rfl | refine FrU.filter _ ?_ rfl)
    | with_reducible refine Fr.ite ?_ ?_
    | with_reducible refine Fr.ite2 ?_ ?_
    | dsimp -zeta only
    | split

theorem State.endEarly_frame {m_ : Nat} {o_ : State} {s : State} {id : Nat} {st : Status} {detail : Nat} (h_ : Fr m_ o_ s) (hm_ : Nat.land 2043441 m_ = 2043441) : Fr m_ o_ (State.endEarly s id st detail) := by
  refine Fr.of h_ hm_ ?_
  clear h_ hm_
  have h_ := Fr.refl 2043441 s
  unfold State.endEarly
  repeat' first
    | with_reducible assumption
    | exact (rfl : Nat.land _ _ = _)
    | (extract_lets +onlyGivenNames x
       first
         | (have hx : Fr 2043441 s x := ?_
            (on_goal 1 => clear_value x)
            on_goal 2 => (unfold x; clear x))
         | (have hx : Fr 2043441 s x.2 := ?_
            (on_goal 1 => clear_value x)
            on_goal 2 => (unfold x; clear x))
         | clear_value x)
    | with_reducible apply State.setJob_frame
    | with_reducible apply State.stampWith_frame
    | (simp -zeta -beta -iota only [Fr.mk_iff]; first | refine FrU.upd ?_ rfl | refine FrU.filter _ ?_ rfl)
    | with_reducible refine Fr.ite ?_ ?_
    | with_reducible refine Fr.ite2 ?_ ?_
    | dsimp -zeta only
    | split

theorem State.writeStream_frame {m_ : Nat} {o_ : State} {s : State} {id : Nat} {j : Job} {upto : Nat} (h_ : Fr m_ o_ s) (hm_ : Nat.land 528 m_ = 528) : Fr m_ o_ (State.writeStream s id j upto) := by
  refine Fr.of h_ hm_ ?_
  clear h_ hm_
  have h_ := Fr.refl 528 s
  unfold State.writeStream
  repeat' first
    | with_reducible assumption
    | exact (rfl : Nat.land _ _ = _)
    | (extract_lets +onlyGivenNames x
       first
         | (have hx : Fr 528 s x := ?_
            (on_goal 1 => clear_value x)
            on_goal 2 => (unfold x; clear x))
         | (have hx : Fr 528 s x.2 := ?_
            (on_goal 1 => clear_value x)
            on_goal 2 => (unfold x; clear x))
         | clear_value x)
    | with_reducible apply State.modJob_frame
    | with_reducible apply State.emitOutput_frame
    | (simp -zeta -beta -iota only [Fr.mk_iff]; first | refine FrU.upd ?_ rfl | refine FrU.filter _ ?_ rfl)
    | dsimp -zeta only

theorem State.stallLane_frame {m_ : Nat} {o_ : State} {s : State} {j : Job} (h_ : Fr m_ o_ s) (hm_ : Nat.land 16777217 m_ = 16777217) : Fr m_ o_ (State.stallLane s j) := by
  refine Fr.of h_ hm_ ?_
  clear h_ hm_
  have h_ := Fr.refl 16777217 s
  unfold State.stallLane
  repeat' first
    | with_reducible assumption
    | exact (rfl : Nat.land _ _ = _)
    | (extract_lets +onlyGivenNames x
       first
         | (have hx : Fr 16777217 s x := ?_
            (on_goal 1 => clear_value x)
            on_goal 2 => (unfold x; clear x))
         | (have hx : Fr 16777217 s x.2 := ?_
            (on_goal 1 => clear_value x)
            on_goal 2 => (unfold x; clear x))
         | clear_value x)
    | with_reducible apply State.putBit_frame
    | with_reducible apply State.setLane_frame
    | (simp -zeta -beta -iota only [Fr.mk_iff]; first | refine FrU.upd ?_ rfl | refine FrU.filter _ ?_ rfl)
    | dsimp -zeta only
    | split

theorem State.resumeLane_frame {m_ : Nat} {o_ : State} {s : State} {id : Nat} {j : Job} (h_ : Fr m_ o_ s) (hm_ : Nat.land 16777745 m_ = 16777745) : Fr m_ o_ (State.resumeLane s id j) := by
  refine Fr.of h_ hm_ ?_
  clear h_ hm_
  have h_ := Fr.refl 16777745 s
  unfold State.resumeLane
  repeat' first
    | with_reducible assumption
    | exact (rfl : Nat.land _ _ = _)
    | (extract_lets +onlyGivenNames x
       first
         | (have hx : Fr 16777745 s x := ?_
            (on_goal 1 => clear_value x)
            on_goal 2 => (unfold x; clear x))
         | (have hx : Fr 16777745 s x.2 := ?_
            (on_goal 1 => clear_value x)
            on_goal 2 => (unfold x; clear x))
         | clear_value x)
    | with_reducible apply State.putBit_frame
    | with_reducible apply State.setLane_frame
    | with_reducible apply State.writeStream_frame
    | (simp -zeta -beta -iota only [Fr.mk_iff]; first | refine FrU.upd ?_ rfl | refine FrU.filter _ ?_ rfl)
    | dsimp -zeta only
    | split

theorem State.settleJob_frame {m_ : Nat} {o_ : State} {s : State} {id : Nat} {j : Job} {t_ : State} (e_ : (State.settleJob s id j) = some t_) (h_ : Fr m_ o_ s) (hm_ : Nat.land 18837041 m_ = 18837041) : Fr m_ o_ t_ := by
  refine Fr.of h_ hm_ ?_
  clear h_ hm_
  have h_ := Fr.refl 18837041 s
  unfold State.settleJob at e_
  (repeat' split at e_) <;> (first | (cases e_; done) | skip)
  all_goals
    first | cases e_ | (obtain ⟨_, _, rfl⟩ := Option.map_eq_some_iff.mp e_)
    repeat' first
      | with_reducible assumption
      | exact (rfl : Nat.land _ _ = _)
      | (extract_lets +onlyGivenNames x
         first
           | (have hx : Fr 18837041 s x := ?_
              (on_goal 1 => clear_value x)
              on_goal 2 => (unfold x; clear x))
           | (have hx : Fr 18837041 s x.2 := ?_
              (on_goal 1 => clear_value x)
              on_goal 2 => (unfold x; clear x))
           | clear_value x)
      | with_reducible refine Fr.foldl _ _ ?_ (fun _ _ _ => ?_)
      | with_reducible refine Fr.elim ?_ (fun _ => ?_)
      | with_reducible apply State.takeStamp_frame
      | with_reducible apply State.readFor_frame
      | with_reducible apply State.readUsage_frame
      | with_reducible apply State.modJob_frame
      | with_reducible apply State.setUsage_frame
      | with_reducible apply State.refuse_frame
      | with_reducible apply State.resumeLane_frame
      | with_reducible apply State.joinJob_frame
      | with_reducible apply FrO.next
      | (simp -zeta -beta -iota only [Fr.mk_iff]; first | refine FrU.upd ?_ rfl | refine FrU.filter _ ?_ rfl)
      | with_reducible refine Fr.ite ?_ ?_
      | with_reducible refine Fr.ite2 ?_ ?_
      | with_reducible refine FrO.ite ?_ ?_
      | dsimp -zeta only
      | split

theorem settleFirst_frame {m_ : Nat} {o_ : State} {s : State} {a1 : List (Nat × Job)} {t_ : State} (e_ : (settleFirst s a1) = some t_) (h_ : Fr m_ o_ s) (hm_ : Nat.land 18837041 m_ = 18837041) : Fr m_ o_ t_ := by
  revert e_
  induction a1 with
  | nil => intro e_; exact nomatch e_
  | cons e rest ih =>
    intro e_
    unfold settleFirst at e_
    split at e_
    · rename_i he
      cases e_
      exact State.settleJob_frame (e_ := he) (h_ := h_) hm_
    · exact ih e_

theorem settleLoop_frame {m_ : Nat} {o_ : State} {a0 : Nat} {a1 : State} (h_ : Fr m_ o_ a1) (hm_ : Nat.land 18837041 m_ = 18837041) : Fr m_ o_ (settleLoop a0 a1) := by
  induction a0 generalizing a1 with
  | zero => exact h_
  | succ n ih =>
    unfold settleLoop
    split
    · rename_i he
      exact ih (settleFirst_frame (e_ := he) (h_ := h_) hm_)
    · exact h_

theorem State.settle_frame {m_ : Nat} {o_ : State} {s : State} (h_ : Fr m_ o_ s) (hm_ : Nat.land 18837041 m_ = 18837041) : Fr m_ o_ (State.settle s) := by
  refine Fr.of h_ hm_ ?_
  clear h_ hm_
  have h_ := Fr.refl 18837041 s
  unfold State.settle
  repeat' first
    | with_reducible assumption
    | exact (rfl : Nat.land _ _ = _)
    | with_reducible apply settleLoop_frame

theorem State.force_frame {m_ : Nat} {o_ : State} {s : State} {id : Nat} {st : Status} {detail : Nat} (h_ : Fr m_ o_ s) (hm_ : Nat.land 512 m_ = 512) : Fr m_ o_ (State.force s id st detail) := by
  refine Fr.of h_ hm_ ?_
  clear h_ hm_
  have h_ := Fr.refl 512 s
  unfold State.force
  repeat' first
    | with_reducible assumption
    | exact (rfl : Nat.land _ _ = _)
    | (extract_lets +onlyGivenNames x
       first
         | (have hx : Fr 512 s x := ?_
            (on_goal 1 => clear_value x)
            on_goal 2 => (unfold x; clear x))
         | (have hx : Fr 512 s x.2 := ?_
            (on_goal 1 => clear_value x)
            on_goal 2 => (unfold x; clear x))
         | clear_value x)
    | with_reducible apply State.modJob_frame
    | (simp -zeta -beta -iota only [Fr.mk_iff]; first | refine FrU.upd ?_ rfl | refine FrU.filter _ ?_ rfl)
    | with_reducible refine Fr.ite ?_ ?_
    | dsimp -zeta only
    | split

theorem State.resetJob_frame {m_ : Nat} {o_ : State} {s : State} {id : Nat} {j : Job} (h_ : Fr m_ o_ s) (hm_ : Nat.land 798257 m_ = 798257) : Fr m_ o_ (State.resetJob s id j) := by
  refine Fr.of h_ hm_ ?_
  clear h_ hm_
  have h_ := Fr.refl 798257 s
  unfold State.resetJob
  repeat' first
    | with_reducible assumption
    | exact (rfl : Nat.land _ _ = _)
    | (extract_lets +onlyGivenNames x
       first
         | (have hx : Fr 798257 s x := ?_
            (on_goal 1 => clear_value x)
            on_goal 2 => (unfold x; clear x))
         | (have hx : Fr 798257 s x.2 := ?_
            (on_goal 1 => clear_value x)
            on_goal 2 => (unfold x; clear x))
         | clear_value x)
    | with_reducible refine Fr.foldl _ _ ?_ (fun _ _ _ => ?_)
    | with_reducible apply State.modInst_frame
    | with_reducible apply State.freeCreation_frame
    | with_reducible apply State.eraseSpeculative_frame
    | with_reducible apply State.event_frame
    | with_reducible apply State.setJob_frame
    | with_reducible apply State.chargeWaste_frame
    | (simp -zeta -beta -iota only [Fr.mk_iff]; first | refine FrU.upd ?_ rfl | refine FrU.filter _ ?_ rfl)
    | with_reducible refine Fr.ite ?_ ?_
    | with_reducible refine Fr.ite2 ?_ ?_
    | dsimp -zeta only
    | split

theorem State.resetInstance_frame {m_ : Nat} {o_ : State} {s : State} {n : Nat} (h_ : Fr m_ o_ s) (hm_ : Nat.land 3042865 m_ = 3042865) : Fr m_ o_ (State.resetInstance s n) := by
  refine Fr.of h_ hm_ ?_
  clear h_ hm_
  have h_ := Fr.refl 3042865 s
  unfold State.resetInstance
  repeat' first
    | with_reducible assumption
    | exact (rfl : Nat.land _ _ = _)
    | (extract_lets +onlyGivenNames x
       first
         | (have hx : Fr 3042865 s x := ?_
            (on_goal 1 => clear_value x)
            on_goal 2 => (unfold x; clear x))
         | (have hx : Fr 3042865 s x.2 := ?_
            (on_goal 1 => clear_value x)
            on_goal 2 => (unfold x; clear x))
         | clear_value x)
    | with_reducible refine Fr.foldl _ _ ?_ (fun _ _ _ => ?_)
    | with_reducible apply State.setInstState_frame
    | with_reducible apply State.withdrawOpen_frame
    | with_reducible apply State.resetJob_frame
    | with_reducible apply State.modInst_frame
    | (simp -zeta -beta -iota only [Fr.mk_iff]; first | refine FrU.upd ?_ rfl | refine FrU.filter _ ?_ rfl)
    | with_reducible refine Fr.ite ?_ ?_
    | with_reducible refine Fr.ite2 ?_ ?_
    | dsimp -zeta only
    | split

theorem State.setCluster_frame {m_ : Nat} {o_ : State} {s : State} {k : ClusterId} {c : Cluster} (h_ : Fr m_ o_ s) (hm_ : Nat.land 16777216 m_ = 16777216) : Fr m_ o_ (State.setCluster s k c) := by
  refine Fr.of h_ hm_ ?_
  clear h_ hm_
  have h_ := Fr.refl 16777216 s
  unfold State.setCluster
  repeat' first
    | with_reducible assumption
    | exact (rfl : Nat.land _ _ = _)
    | (extract_lets +onlyGivenNames x
       first
         | (have hx : Fr 16777216 s x := ?_
            (on_goal 1 => clear_value x)
            on_goal 2 => (unfold x; clear x))
         | (have hx : Fr 16777216 s x.2 := ?_
            (on_goal 1 => clear_value x)
            on_goal 2 => (unfold x; clear x))
         | clear_value x)
    | (simp -zeta -beta -iota only [Fr.mk_iff]; first | refine FrU.upd ?_ rfl | refine FrU.filter _ ?_ rfl)
    | dsimp -zeta only
    | split

theorem State.clearCore_frame {m_ : Nat} {o_ : State} {s : State} {k : ClusterId} {n : Nat} (h_ : Fr m_ o_ s) (hm_ : Nat.land 16777216 m_ = 16777216) : Fr m_ o_ (State.clearCore s k n) := by
  refine Fr.of h_ hm_ ?_
  clear h_ hm_
  have h_ := Fr.refl 16777216 s
  unfold State.clearCore
  repeat' first
    | with_reducible assumption
    | exact (rfl : Nat.land _ _ = _)
    | (extract_lets +onlyGivenNames x
       first
         | (have hx : Fr 16777216 s x := ?_
            (on_goal 1 => clear_value x)
            on_goal 2 => (unfold x; clear x))
         | (have hx : Fr 16777216 s x.2 := ?_
            (on_goal 1 => clear_value x)
            on_goal 2 => (unfold x; clear x))
         | clear_value x)
    | with_reducible apply State.setCluster_frame
    | (simp -zeta -beta -iota only [Fr.mk_iff]; first | refine FrU.upd ?_ rfl | refine FrU.filter _ ?_ rfl)
    | dsimp -zeta only

theorem State.showCluster_frame {m_ : Nat} {o_ : State} {s : State} {k : ClusterId} (h_ : Fr m_ o_ s) (hm_ : Nat.land 1 m_ = 1) : Fr m_ o_ (State.showCluster s k) := by
  refine Fr.of h_ hm_ ?_
  clear h_ hm_
  have h_ := Fr.refl 1 s
  unfold State.showCluster
  repeat' first
    | with_reducible assumption
    | exact (rfl : Nat.land _ _ = _)
    | (extract_lets +onlyGivenNames x
       first
         | (have hx : Fr 1 s x := ?_
            (on_goal 1 => clear_value x)
            on_goal 2 => (unfold x; clear x))
         | (have hx : Fr 1 s x.2 := ?_
            (on_goal 1 => clear_value x)
            on_goal 2 => (unfold x; clear x))
         | clear_value x)
    | with_reducible apply State.put_frame
    | (simp -zeta -beta -iota only [Fr.mk_iff]; first | refine FrU.upd ?_ rfl | refine FrU.filter _ ?_ rfl)
    | dsimp -zeta only
    | split

theorem State.moveCore_frame {m_ : Nat} {o_ : State} {s : State} {k : ClusterId} {n : Nat} {v : Nat} (h_ : Fr m_ o_ s) (hm_ : Nat.land 16777217 m_ = 16777217) : Fr m_ o_ (State.moveCore s k n v) := by
  refine Fr.of h_ hm_ ?_
  clear h_ hm_
  have h_ := Fr.refl 16777217 s
  unfold State.moveCore
  repeat' first
    | with_reducible assumption
    | exact (rfl : Nat.land _ _ = _)
    | with_reducible apply State.showCluster_frame
    | with_reducible apply State.clearCore_frame
    | with_reducible apply State.put_frame

theorem State.loadKey_frame {m_ : Nat} {o_ : State} {s : State} {n : Nat} {type : Nat} {size : Nat} {enc : Bytes} (h_ : Fr m_ o_ s) (hm_ : Nat.land 16777217 m_ = 16777217) : Fr m_ o_ (State.loadKey s n type size enc) := by
  refine Fr.of h_ hm_ ?_
  clear h_ hm_
  have h_ := Fr.refl 16777217 s
  unfold State.loadKey
  repeat' first
    | with_reducible assumption
    | exact (rfl : Nat.land _ _ = _)
    | (extract_lets +onlyGivenNames x
       first
         | (have hx : Fr 16777217 s x := ?_
            (on_goal 1 => clear_value x)
            on_goal 2 => (unfold x; clear x))
         | (have hx : Fr 16777217 s x.2 := ?_
            (on_goal 1 => clear_value x)
            on_goal 2 => (unfold x; clear x))
         | clear_value x)
    | with_reducible apply State.clearCore_frame
    | with_reducible apply State.put_frame
    | with_reducible apply State.setCluster_frame
    | (simp -zeta -beta -iota only [Fr.mk_iff]; first | refine FrU.upd ?_ rfl | refine FrU.filter _ ?_ rfl)
    | dsimp -zeta only

theorem State.setTest_frame {m_ : Nat} {o_ : State} {s : State} {k : ClusterId} {t : Option Nat} (h_ : Fr m_ o_ s) (hm_ : Nat.land 16777216 m_ = 16777216) : Fr m_ o_ (State.setTest s k t) := by
  refine Fr.of h_ hm_ ?_
  clear h_ hm_
  have h_ := Fr.refl 16777216 s
  unfold State.setTest
  repeat' first
    | with_reducible assumption
    | exact (rfl : Nat.land _ _ = _)
    | (extract_lets +onlyGivenNames x
       first
         | (have hx : Fr 16777216 s x := ?_
            (on_goal 1 => clear_value x)
            on_goal 2 => (unfold x; clear x))
         | (have hx : Fr 16777216 s x.2 := ?_
            (on_goal 1 => clear_value x)
            on_goal 2 => (unfold x; clear x))
         | clear_value x)
    | with_reducible apply State.setCluster_frame
    | (simp -zeta -beta -iota only [Fr.mk_iff]; first | refine FrU.upd ?_ rfl | refine FrU.filter _ ?_ rfl)

theorem State.quitTest_frame {m_ : Nat} {o_ : State} {s : State} {k : ClusterId} {n : Nat} (h_ : Fr m_ o_ s) (hm_ : Nat.land 17301505 m_ = 17301505) : Fr m_ o_ (State.quitTest s k n) := by
  refine Fr.of h_ hm_ ?_
  clear h_ hm_
  have h_ := Fr.refl 17301505 s
  unfold State.quitTest
  repeat' first
    | with_reducible assumption
    | exact (rfl : Nat.land _ _ = _)
    | (extract_lets +onlyGivenNames x
       first
         | (have hx : Fr 17301505 s x := ?_
            (on_goal 1 => clear_value x)
            on_goal 2 => (unfold x; clear x))
         | (have hx : Fr 17301505 s x.2 := ?_
            (on_goal 1 => clear_value x)
            on_goal 2 => (unfold x; clear x))
         | clear_value x)
    | with_reducible apply State.eraseRuns_frame
    | with_reducible apply State.putBit_frame
    | with_reducible apply State.setTest_frame
    | with_reducible apply State.clearCore_frame
    | with_reducible refine Fr.ite ?_ ?_
    | dsimp -zeta only
    | split

theorem State.startTest_frame {m_ : Nat} {o_ : State} {s : State} {k : ClusterId} {n : Nat} {i : Nat} (h_ : Fr m_ o_ s) (hm_ : Nat.land 17301505 m_ = 17301505) : Fr m_ o_ (State.startTest s k n i) := by
  refine Fr.of h_ hm_ ?_
  clear h_ hm_
  have h_ := Fr.refl 17301505 s
  unfold State.startTest
  repeat' first
    | with_reducible assumption
    | exact (rfl : Nat.land _ _ = _)
    | (extract_lets +onlyGivenNames x
       first
         | (have hx : Fr 17301505 s x := ?_
            (on_goal 1 => clear_value x)
            on_goal 2 => (unfold x; clear x))
         | (have hx : Fr 17301505 s x.2 := ?_
            (on_goal 1 => clear_value x)
            on_goal 2 => (unfold x; clear x))
         | clear_value x)
    | with_reducible apply State.putBit_frame
    | with_reducible apply State.setTest_frame
    | with_reducible apply State.fillRun_frame
    | refine Fr.pair1 (by assumption) (State.fillRun_frame (h_ := ?_) ?_)
    | with_reducible apply State.loadKey_frame
    | with_reducible apply State.setCluster_frame
    | (simp -zeta -beta -iota only [Fr.mk_iff]; first | refine FrU.upd ?_ rfl | refine FrU.filter _ ?_ rfl)
    | with_reducible refine Fr.ite ?_ ?_
    | with_reducible refine Fr.ite2 ?_ ?_
    | dsimp -zeta only
    | split

theorem State.nextTest_frame {m_ : Nat} {o_ : State} {s : State} {k : ClusterId} {n : Nat} {i : Nat} {ns : Nat} (h_ : Fr m_ o_ s) (hm_ : Nat.land 17301505 m_ = 17301505) : Fr m_ o_ (State.nextTest s k n i ns) := by
  refine Fr.of h_ hm_ ?_
  clear h_ hm_
  have h_ := Fr.refl 17301505 s
  unfold State.nextTest
  repeat' first
    | with_reducible assumption
    | exact (rfl : Nat.land _ _ = _)
    | with_reducible apply State.startTest_frame
    | with_reducible apply State.putBit_frame
    | with_reducible apply State.put_frame
    | with_reducible apply State.quitTest_frame

theorem State.quitPolish_frame {m_ : Nat} {o_ : State} {s : State} {k : ClusterId} {n : Nat} (h_ : Fr m_ o_ s) (hm_ : Nat.land 17301505 m_ = 17301505) : Fr m_ o_ (State.quitPolish s k n) := by
  refine Fr.of h_ hm_ ?_
  clear h_ hm_
  have h_ := Fr.refl 17301505 s
  unfold State.quitPolish
  repeat' first
    | with_reducible assumption
    | exact (rfl : Nat.land _ _ = _)
    | with_reducible apply State.quitTest_frame
    | with_reducible refine Fr.ite ?_ ?_
    | split

theorem State.startPolish_frame {m_ : Nat} {o_ : State} {s : State} {k : ClusterId} {n : Nat} (h_ : Fr m_ o_ s) (hm_ : Nat.land 17301505 m_ = 17301505) : Fr m_ o_ (State.startPolish s k n) := by
  refine Fr.of h_ hm_ ?_
  clear h_ hm_
  have h_ := Fr.refl 17301505 s
  unfold State.startPolish
  repeat' first
    | with_reducible assumption
    | exact (rfl : Nat.land _ _ = _)
    | with_reducible apply State.startTest_frame
    | with_reducible apply State.moveCore_frame

theorem State.polLeave_frame {m_ : Nat} {o_ : State} {s : State} {k : ClusterId} {n : Nat} (h_ : Fr m_ o_ s) (hm_ : Nat.land 1 m_ = 1) : Fr m_ o_ (State.polLeave s k n) := by
  refine Fr.of h_ hm_ ?_
  clear h_ hm_
  have h_ := Fr.refl 1 s
  unfold State.polLeave
  repeat' first
    | with_reducible assumption
    | exact (rfl : Nat.land _ _ = _)
    | with_reducible apply State.putBit_frame
    | with_reducible refine Fr.ite ?_ ?_
    | split

theorem State.updateCore_frame {m_ : Nat} {o_ : State} {s : State} {k : ClusterId} {n : Nat} (h_ : Fr m_ o_ s) (hm_ : Nat.land 17301505 m_ = 17301505) : Fr m_ o_ (State.updateCore s k n) := by
  refine Fr.of h_ hm_ ?_
  clear h_ hm_
  have h_ := Fr.refl 17301505 s
  unfold State.updateCore
  repeat' first
    | with_reducible assumption
    | exact (rfl : Nat.land _ _ = _)
    | (extract_lets +onlyGivenNames x
       first
         | (have hx : Fr 17301505 s x := ?_
            (on_goal 1 => clear_value x)
            on_goal 2 => (unfold x; clear x))
         | (have hx : Fr 17301505 s x.2 := ?_
            (on_goal 1 => clear_value x)
            on_goal 2 => (unfold x; clear x))
         | clear_value x)
    | with_reducible apply State.polLeave_frame
    | with_reducible apply State.moveCore_frame
    | with_reducible apply State.quitPolish_frame
    | with_reducible apply State.startPolish_frame
    | with_reducible refine Fr.ite ?_ ?_
    | dsimp -zeta only
    | split

theorem State.updateCores_frame {m_ : Nat} {o_ : State} {s : State} {k : ClusterId} (h_ : Fr m_ o_ s) (hm_ : Nat.land 17301505 m_ = 17301505) : Fr m_ o_ (State.updateCores s k) := by
  refine Fr.of h_ hm_ ?_
  clear h_ hm_
  have h_ := Fr.refl 17301505 s
  unfold State.updateCores
  repeat' first
    | with_reducible assumption
    | exact (rfl : Nat.land _ _ = _)
    | with_reducible refine Fr.foldl _ _ ?_ (fun _ _ _ => ?_)
    | with_reducible apply State.updateCore_frame
    | dsimp -zeta only

theorem State.promote_frame {m_ : Nat} {o_ : State} {s : State} {k : ClusterId} {n : Nat} (h_ : Fr m_ o_ s) (hm_ : Nat.land 17301505 m_ = 17301505) : Fr m_ o_ (State.promote s k n) := by
  refine Fr.of h_ hm_ ?_
  clear h_ hm_
  have h_ := Fr.refl 17301505 s
  unfold State.promote
  repeat' first
    | with_reducible assumption
    | exact (rfl : Nat.land _ _ = _)
    | (extract_lets +onlyGivenNames x
       first
         | (have hx : Fr 17301505 s x := ?_
            (on_goal 1 => clear_value x)
            on_goal 2 => (unfold x; clear x))
         | (have hx : Fr 17301505 s x.2 := ?_
            (on_goal 1 => clear_value x)
            on_goal 2 => (unfold x; clear x))
         | clear_value x)
    | with_reducible apply State.moveCore_frame
    | with_reducible apply State.updateCore_frame
    | with_reducible apply State.setCluster_frame
    | (simp -zeta -beta -iota only [Fr.mk_iff]; first | refine FrU.upd ?_ rfl | refine FrU.filter _ ?_ rfl)
    | with_reducible refine Fr.ite ?_ ?_
    | dsimp -zeta only
    | split

theorem State.coreIrq_frame {m_ : Nat} {o_ : State} {s : State} {k : ClusterId} (h_ : Fr m_ o_ s) (hm_ : Nat.land 134217729 m_ = 134217729) : Fr m_ o_ (State.coreIrq s k) := by
  refine Fr.of h_ hm_ ?_
  clear h_ hm_
  have h_ := Fr.refl 134217729 s
  unfold State.coreIrq
  repeat' first
    | with_reducible assumption
    | exact (rfl : Nat.land _ _ = _)
    | with_reducible apply State.raiseIrq_frame
    | with_reducible refine Fr.ite ?_ ?_
    | split

theorem State.coreErr_frame {m_ : Nat} {o_ : State} {s : State} {k : ClusterId} {n : Nat} (h_ : Fr m_ o_ s) (hm_ : Nat.land 134217729 m_ = 134217729) : Fr m_ o_ (State.coreErr s k n) := by
  refine Fr.of h_ hm_ ?_
  clear h_ hm_
  have h_ := Fr.refl 134217729 s
  unfold State.coreErr
  repeat' first
    | with_reducible assumption
    | exact (rfl : Nat.land _ _ = _)
    | with_reducible apply State.coreIrq_frame
    | with_reducible apply State.putBit_frame

theorem State.setMemNat_frame {m_ : Nat} {o_ : State} {s : State} {k : ClusterId} {n : Nat} {w : Nat} {words : Nat} {v : Nat} (h_ : Fr m_ o_ s) (hm_ : Nat.land 16777216 m_ = 16777216) : Fr m_ o_ (State.setMemNat s k n w words v) := by
  refine Fr.of h_ hm_ ?_
  clear h_ hm_
  have h_ := Fr.refl 16777216 s
  unfold State.setMemNat
  repeat' first
    | with_reducible assumption
    | exact (rfl : Nat.land _ _ = _)
    | (extract_lets +onlyGivenNames x
       first
         | (have hx : Fr 16777216 s x := ?_
            (on_goal 1 => clear_value x)
            on_goal 2 => (unfold x; clear x))
         | (have hx : Fr 16777216 s x.2 := ?_
            (on_goal 1 => clear_value x)
            on_goal 2 => (unfold x; clear x))
         | clear_value x)
    | with_reducible refine Fr.foldl _ _ ?_ (fun _ _ _ => ?_)
    | with_reducible apply State.setCluster_frame
    | (simp -zeta -beta -iota only [Fr.mk_iff]; first | refine FrU.upd ?_ rfl | refine FrU.filter _ ?_ rfl)
    | dsimp -zeta only

theorem State.setSlot_frame {m_ : Nat} {o_ : State} {s : State} {n : Nat} {i : Nat} {v : Nat} (h_ : Fr m_ o_ s) (hm_ : Nat.land 16777216 m_ = 16777216) : Fr m_ o_ (State.setSlot s n i v) := by
  refine Fr.of h_ hm_ ?_
  clear h_ hm_
  have h_ := Fr.refl 16777216 s
  unfold State.setSlot
  repeat' first
    | with_reducible assumption
    | exact (rfl : Nat.land _ _ = _)
    | with_reducible apply State.setMemNat_frame

theorem State.setLatBytes_frame {m_ : Nat} {o_ : State} {s : State} {n : Nat} {off : Nat} {b : Bytes} (h_ : Fr m_ o_ s) (hm_ : Nat.land 16777216 m_ = 16777216) : Fr m_ o_ (State.setLatBytes s n off b) := by
  refine Fr.of h_ hm_ ?_
  clear h_ hm_
  have h_ := Fr.refl 16777216 s
  unfold State.setLatBytes
  repeat' first
    | with_reducible assumption
    | exact (rfl : Nat.land _ _ = _)
    | with_reducible apply State.setMemNat_frame

theorem State.showLanes_frame {m_ : Nat} {o_ : State} {s : State} (h_ : Fr m_ o_ s) (hm_ : Nat.land 1 m_ = 1) : Fr m_ o_ (State.showLanes s) := by
  refine Fr.of h_ hm_ ?_
  clear h_ hm_
  have h_ := Fr.refl 1 s
  unfold State.showLanes
  repeat' first
    | with_reducible assumption
    | exact (rfl : Nat.land _ _ = _)
    | (extract_lets +onlyGivenNames x
       first
         | (have hx : Fr 1 s x := ?_
            (on_goal 1 => clear_value x)
            on_goal 2 => (unfold x; clear x))
         | (have hx : Fr 1 s x.2 := ?_
            (on_goal 1 => clear_value x)
            on_goal 2 => (unfold x; clear x))
         | clear_value x)
    | with_reducible apply State.put_frame
    | dsimp -zeta only

theorem State.setHolder_frame {m_ : Nat} {o_ : State} {s : State} {n : Nat} {h : Nat} (h_ : Fr m_ o_ s) (hm_ : Nat.land 1 m_ = 1) : Fr m_ o_ (State.setHolder s n h) := by
  refine Fr.of h_ hm_ ?_
  clear h_ hm_
  have h_ := Fr.refl 1 s
  unfold State.setHolder
  repeat' first
    | with_reducible assumption
    | exact (rfl : Nat.land _ _ = _)
    | (extract_lets +onlyGivenNames x
       first
         | (have hx : Fr 1 s x := ?_
            (on_goal 1 => clear_value x)
            on_goal 2 => (unfold x; clear x))
         | (have hx : Fr 1 s x.2 := ?_
            (on_goal 1 => clear_value x)
            on_goal 2 => (unfold x; clear x))
         | clear_value x)
    | with_reducible apply State.showLanes_frame
    | with_reducible apply State.put_frame
    | with_reducible refine Fr.ite ?_ ?_
    | dsimp -zeta only
    | split

theorem State.zeroIvTag_frame {m_ : Nat} {o_ : State} {s : State} {n : Nat} (h_ : Fr m_ o_ s) (hm_ : Nat.land 1 m_ = 1) : Fr m_ o_ (State.zeroIvTag s n) := by
  refine Fr.of h_ hm_ ?_
  clear h_ hm_
  have h_ := Fr.refl 1 s
  unfold State.zeroIvTag
  repeat' first
    | with_reducible assumption
    | exact (rfl : Nat.land _ _ = _)
    | with_reducible refine Fr.foldl _ _ ?_ (fun _ _ _ => ?_)
    | with_reducible apply State.put_frame
    | dsimp -zeta only

theorem State.wipeLane_frame {m_ : Nat} {o_ : State} {s : State} {n : Nat} (h_ : Fr m_ o_ s) (hm_ : Nat.land 16777217 m_ = 16777217) : Fr m_ o_ (State.wipeLane s n) := by
  refine Fr.of h_ hm_ ?_
  clear h_ hm_
  have h_ := Fr.refl 16777217 s
  unfold State.wipeLane
  repeat' first
    | with_reducible assumption
    | exact (rfl : Nat.land _ _ = _)
    | with_reducible apply State.putBit_frame
    | with_reducible apply State.zeroIvTag_frame
    | with_reducible apply State.setLane_frame

theorem State.freeLane_frame {m_ : Nat} {o_ : State} {s : State} {n : Nat} (h_ : Fr m_ o_ s) (hm_ : Nat.land 16777217 m_ = 16777217) : Fr m_ o_ (State.freeLane s n) := by
  refine Fr.of h_ hm_ ?_
  clear h_ hm_
  have h_ := Fr.refl 16777217 s
  unfold State.freeLane
  repeat' first
    | with_reducible assumption
    | exact (rfl : Nat.land _ _ = _)
    | (extract_lets +onlyGivenNames x
       first
         | (have hx : Fr 16777217 s x := ?_
            (on_goal 1 => clear_value x)
            on_goal 2 => (unfold x; clear x))
         | (have hx : Fr 16777217 s x.2 := ?_
            (on_goal 1 => clear_value x)
            on_goal 2 => (unfold x; clear x))
         | clear_value x)
    | with_reducible apply State.setHolder_frame
    | with_reducible apply State.put_frame
    | with_reducible apply State.wipeLane_frame
    | dsimp -zeta only

theorem State.sweepLanes_frame {m_ : Nat} {o_ : State} {s : State} (h_ : Fr m_ o_ s) (hm_ : Nat.land 16777217 m_ = 16777217) : Fr m_ o_ (State.sweepLanes s) := by
  refine Fr.of h_ hm_ ?_
  clear h_ hm_
  have h_ := Fr.refl 16777217 s
  unfold State.sweepLanes
  repeat' first
    | with_reducible assumption
    | exact (rfl : Nat.land _ _ = _)
    | with_reducible refine Fr.foldl _ _ ?_ (fun _ _ _ => ?_)
    | with_reducible apply State.freeLane_frame
    | with_reducible refine Fr.ite ?_ ?_
    | dsimp -zeta only
    | split

theorem State.startStrandLane_frame {m_ : Nat} {o_ : State} {s : State} {n : Nat} (h_ : Fr m_ o_ s) (hm_ : Nat.land 16777217 m_ = 16777217) : Fr m_ o_ (State.startStrandLane s n) := by
  refine Fr.of h_ hm_ ?_
  clear h_ hm_
  have h_ := Fr.refl 16777217 s
  unfold State.startStrandLane
  repeat' first
    | with_reducible assumption
    | exact (rfl : Nat.land _ _ = _)
    | with_reducible apply State.setLane_frame
    | with_reducible apply State.setHolder_frame

theorem State.useStrandLanes_frame {m_ : Nat} {o_ : State} {s : State} (h_ : Fr m_ o_ s) (hm_ : Nat.land 16777217 m_ = 16777217) : Fr m_ o_ (State.useStrandLanes s) := by
  refine Fr.of h_ hm_ ?_
  clear h_ hm_
  have h_ := Fr.refl 16777217 s
  unfold State.useStrandLanes
  repeat' first
    | with_reducible assumption
    | exact (rfl : Nat.land _ _ = _)
    | (extract_lets +onlyGivenNames x
       first
         | (have hx : Fr 16777217 s x := ?_
            (on_goal 1 => clear_value x)
            on_goal 2 => (unfold x; clear x))
         | (have hx : Fr 16777217 s x.2 := ?_
            (on_goal 1 => clear_value x)
            on_goal 2 => (unfold x; clear x))
         | clear_value x)
    | with_reducible refine Fr.foldl _ _ ?_ (fun _ _ _ => ?_)
    | with_reducible apply State.freeLane_frame
    | with_reducible apply State.startStrandLane_frame
    | with_reducible refine Fr.ite ?_ ?_
    | dsimp -zeta only
    | split

theorem State.applyOffer_frame {m_ : Nat} {o_ : State} {s : State} {e : Engine} {l : List Offer} {o : Offer} (h_ : Fr m_ o_ s) (hm_ : Nat.land 192 m_ = 192) : Fr m_ o_ (State.applyOffer s e l o) := by
  refine Fr.of h_ hm_ ?_
  clear h_ hm_
  have h_ := Fr.refl 192 s
  unfold State.applyOffer
  repeat' first
    | with_reducible assumption
    | exact (rfl : Nat.land _ _ = _)
    | (extract_lets +onlyGivenNames x
       first
         | (have hx : Fr 192 s x := ?_
            (on_goal 1 => clear_value x)
            on_goal 2 => (unfold x; clear x))
         | (have hx : Fr 192 s x.2 := ?_
            (on_goal 1 => clear_value x)
            on_goal 2 => (unfold x; clear x))
         | clear_value x)
    | with_reducible refine Fr.foldl _ _ ?_ (fun _ _ _ => ?_)
    | with_reducible apply State.modSched_frame
    | (simp -zeta -beta -iota only [Fr.mk_iff]; first | refine FrU.upd ?_ rfl | refine FrU.filter _ ?_ rfl)
    | with_reducible refine Fr.ite ?_ ?_
    | with_reducible refine Fr.ite2 ?_ ?_
    | dsimp -zeta only
    | split

theorem State.pick_frame {m_ : Nat} {o_ : State} {s : State} {e : Engine} {n_ : Nat} {t_ : State} (e_ : (State.pick s e) = some (n_, t_)) (h_ : Fr m_ o_ s) (hm_ : Nat.land 192 m_ = 192) : Fr m_ o_ t_ := by
  refine Fr.of h_ hm_ ?_
  have h_ := Fr.refl 192 s
  unfold State.pick at e_
  split at e_
  · split at e_
    · cases e_; exact h_
    · cases e_
  · dsimp only at e_
    split at e_
    · cases e_; exact State.applyOffer_frame (h_ := h_) rfl
    · cases e_

theorem State.deliver_frame {m_ : Nat} {o_ : State} {s : State} {j : Job} {e : Engine} {n : Nat} (h_ : Fr m_ o_ s) (hm_ : Nat.land 524289 m_ = 524289) : Fr m_ o_ (State.deliver s j e n).2 := by
  refine Fr.of h_ hm_ ?_
  clear h_ hm_
  have h_ := Fr.refl 524289 s
  unfold State.deliver
  repeat' first
    | with_reducible assumption
    | exact (rfl : Nat.land _ _ = _)
    | (extract_lets +onlyGivenNames x
       first
         | (have hx : Fr 524289 s x := ?_
            (on_goal 1 => clear_value x)
            on_goal 2 => (unfold x; clear x))
         | (have hx : Fr 524289 s x.2 := ?_
            (on_goal 1 => clear_value x)
            on_goal 2 => (unfold x; clear x))
         | clear_value x)
    | with_reducible apply State.useExport_frame
    | with_reducible apply State.touchRuns_frame
    | with_reducible apply State.count_frame
    | (simp -zeta -beta -iota only [Fr.mk_iff]; first | refine FrU.upd ?_ rfl | refine FrU.filter _ ?_ rfl)
    | with_reducible refine Fr.ite ?_ ?_
    | with_reducible refine Fr.ite2 ?_ ?_
    | dsimp -zeta only
    | split

theorem State.loadCore_frame {m_ : Nat} {o_ : State} {s : State} {n : Nat} {j : Job} {enc : Bytes} (h_ : Fr m_ o_ s) (hm_ : Nat.land 16777217 m_ = 16777217) : Fr m_ o_ (State.loadCore s n j enc) := by
  refine Fr.of h_ hm_ ?_
  clear h_ hm_
  have h_ := Fr.refl 16777217 s
  unfold State.loadCore
  repeat' first
    | with_reducible assumption
    | exact (rfl : Nat.land _ _ = _)
    | (extract_lets +onlyGivenNames x
       first
         | (have hx : Fr 16777217 s x := ?_
            (on_goal 1 => clear_value x)
            on_goal 2 => (unfold x; clear x))
         | (have hx : Fr 16777217 s x.2 := ?_
            (on_goal 1 => clear_value x)
            on_goal 2 => (unfold x; clear x))
         | clear_value x)
    | with_reducible apply State.loadKey_frame
    | dsimp -zeta only

theorem State.occupy_frame {m_ : Nat} {o_ : State} {s : State} {id : Nat} {j : Job} {e : Engine} {n : Nat} (h_ : Fr m_ o_ s) (hm_ : Nat.land 17302017 m_ = 17302017) : Fr m_ o_ (State.occupy s id j e n) := by
  refine Fr.of h_ hm_ ?_
  clear h_ hm_
  have h_ := Fr.refl 17302017 s
  unfold State.occupy
  repeat' first
    | with_reducible assumption
    | exact (rfl : Nat.land _ _ = _)
    | (extract_lets +onlyGivenNames x
       first
         | (have hx : Fr 17302017 s x := ?_
            (on_goal 1 => clear_value x)
            on_goal 2 => (unfold x; clear x))
         | (have hx : Fr 17302017 s x.2 := ?_
            (on_goal 1 => clear_value x)
            on_goal 2 => (unfold x; clear x))
         | clear_value x)
    | with_reducible apply State.deliver_frame
    | refine Fr.pair (by assumption) (State.deliver_frame (h_ := ?_) ?_)
    | with_reducible apply State.setJob_frame
    | with_reducible apply State.putBit_frame
    | with_reducible apply State.loadCore_frame
    | with_reducible apply State.setCluster_frame
    | with_reducible apply State.setLane_frame
    | with_reducible apply State.setHolder_frame
    | (simp -zeta -beta -iota only [Fr.mk_iff]; first | refine FrU.upd ?_ rfl | refine FrU.filter _ ?_ rfl)
    | with_reducible refine Fr.ite ?_ ?_
    | with_reducible refine Fr.ite2 ?_ ?_
    | dsimp -zeta only
    | split

theorem State.leaveCore_frame {m_ : Nat} {o_ : State} {s : State} {e : Engine} {n : Nat} (h_ : Fr m_ o_ s) (hm_ : Nat.land 17301505 m_ = 17301505) : Fr m_ o_ (State.leaveCore s e n) := by
  refine Fr.of h_ hm_ ?_
  clear h_ hm_
  have h_ := Fr.refl 17301505 s
  unfold State.leaveCore
  repeat' first
    | with_reducible assumption
    | exact (rfl : Nat.land _ _ = _)
    | (extract_lets +onlyGivenNames x
       first
         | (have hx : Fr 17301505 s x := ?_
            (on_goal 1 => clear_value x)
            on_goal 2 => (unfold x; clear x))
         | (have hx : Fr 17301505 s x.2 := ?_
            (on_goal 1 => clear_value x)
            on_goal 2 => (unfold x; clear x))
         | clear_value x)
    | with_reducible apply State.updateCore_frame
    | with_reducible apply State.clearCore_frame
    | with_reducible apply State.putBit_frame
    | (simp -zeta -beta -iota only [Fr.mk_iff]; first | refine FrU.upd ?_ rfl | refine FrU.filter _ ?_ rfl)
    | with_reducible refine Fr.ite ?_ ?_
    | with_reducible refine Fr.ite2 ?_ ?_
    | dsimp -zeta only
    | split

theorem State.showAlarmN_frame {m_ : Nat} {o_ : State} {s : State} (h_ : Fr m_ o_ s) (hm_ : Nat.land 1 m_ = 1) : Fr m_ o_ (State.showAlarmN s) := by
  refine Fr.of h_ hm_ ?_
  clear h_ hm_
  have h_ := Fr.refl 1 s
  unfold State.showAlarmN
  repeat' first
    | with_reducible assumption
    | exact (rfl : Nat.land _ _ = _)
    | (extract_lets +onlyGivenNames x
       first
         | (have hx : Fr 1 s x := ?_
            (on_goal 1 => clear_value x)
            on_goal 2 => (unfold x; clear x))
         | (have hx : Fr 1 s x.2 := ?_
            (on_goal 1 => clear_value x)
            on_goal 2 => (unfold x; clear x))
         | clear_value x)
    | with_reducible apply State.putBit_frame
    | dsimp -zeta only
    | split

theorem State.showAlarm_frame {m_ : Nat} {o_ : State} {s : State} (h_ : Fr m_ o_ s) (hm_ : Nat.land 1 m_ = 1) : Fr m_ o_ (State.showAlarm s) := by
  refine Fr.of h_ hm_ ?_
  clear h_ hm_
  have h_ := Fr.refl 1 s
  unfold State.showAlarm
  repeat' first
    | with_reducible assumption
    | exact (rfl : Nat.land _ _ = _)
    | (extract_lets +onlyGivenNames x
       first
         | (have hx : Fr 1 s x := ?_
            (on_goal 1 => clear_value x)
            on_goal 2 => (unfold x; clear x))
         | (have hx : Fr 1 s x.2 := ?_
            (on_goal 1 => clear_value x)
            on_goal 2 => (unfold x; clear x))
         | clear_value x)
    | with_reducible refine Fr.foldl _ _ ?_ (fun _ _ _ => ?_)
    | with_reducible apply State.put_frame
    | with_reducible apply State.showAlarmN_frame
    | dsimp -zeta only

theorem State.assertLevel_frame {m_ : Nat} {o_ : State} {s : State} {src : Nat} {on : Bool} (h_ : Fr m_ o_ s) (hm_ : Nat.land 1 m_ = 1) : Fr m_ o_ (State.assertLevel s src on) := by
  refine Fr.of h_ hm_ ?_
  clear h_ hm_
  have h_ := Fr.refl 1 s
  unfold State.assertLevel
  repeat' first
    | with_reducible assumption
    | exact (rfl : Nat.land _ _ = _)
    | with_reducible apply State.put_frame

theorem State.armMonitor_frame {m_ : Nat} {o_ : State} {s : State} {c : Nat} {on : Bool} (h_ : Fr m_ o_ s) (hm_ : Nat.land 67108865 m_ = 67108865) : Fr m_ o_ (State.armMonitor s c on) := by
  refine Fr.of h_ hm_ ?_
  clear h_ hm_
  have h_ := Fr.refl 67108865 s
  unfold State.armMonitor
  repeat' first
    | with_reducible assumption
    | exact (rfl : Nat.land _ _ = _)
    | (extract_lets +onlyGivenNames x
       first
         | (have hx : Fr 67108865 s x := ?_
            (on_goal 1 => clear_value x)
            on_goal 2 => (unfold x; clear x))
         | (have hx : Fr 67108865 s x.2 := ?_
            (on_goal 1 => clear_value x)
            on_goal 2 => (unfold x; clear x))
         | clear_value x)
    | with_reducible apply State.put_frame
    | with_reducible apply State.assertLevel_frame
    | (simp -zeta -beta -iota only [Fr.mk_iff]; first | refine FrU.upd ?_ rfl | refine FrU.filter _ ?_ rfl)
    | dsimp -zeta only

theorem State.throttle_frame {m_ : Nat} {o_ : State} {s : State} {atInc : Bool} (h_ : Fr m_ o_ s) (hm_ : Nat.land 67108865 m_ = 67108865) : Fr m_ o_ (State.throttle s atInc) := by
  refine Fr.of h_ hm_ ?_
  clear h_ hm_
  have h_ := Fr.refl 67108865 s
  unfold State.throttle
  repeat' first
    | with_reducible assumption
    | exact (rfl : Nat.land _ _ = _)
    | (extract_lets +onlyGivenNames x
       first
         | (have hx : Fr 67108865 s x := ?_
            (on_goal 1 => clear_value x)
            on_goal 2 => (unfold x; clear x))
         | (have hx : Fr 67108865 s x.2 := ?_
            (on_goal 1 => clear_value x)
            on_goal 2 => (unfold x; clear x))
         | clear_value x)
    | with_reducible apply State.putBit_frame
    | (simp -zeta -beta -iota only [Fr.mk_iff]; first | refine FrU.upd ?_ rfl | refine FrU.filter _ ?_ rfl)
    | with_reducible refine Fr.ite ?_ ?_
    | with_reducible refine Fr.ite2 ?_ ?_
    | dsimp -zeta only
    | split

theorem State.interrupt_frame {m_ : Nat} {o_ : State} {s : State} {id : Nat} {j : Job} (h_ : Fr m_ o_ s) (hm_ : Nat.land 516 m_ = 516) : Fr m_ o_ (State.interrupt s id j) := by
  refine Fr.of h_ hm_ ?_
  clear h_ hm_
  have h_ := Fr.refl 516 s
  unfold State.interrupt
  repeat' first
    | with_reducible assumption
    | exact (rfl : Nat.land _ _ = _)
    | (extract_lets +onlyGivenNames x
       first
         | (have hx : Fr 516 s x := ?_
            (on_goal 1 => clear_value x)
            on_goal 2 => (unfold x; clear x))
         | (have hx : Fr 516 s x.2 := ?_
            (on_goal 1 => clear_value x)
            on_goal 2 => (unfold x; clear x))
         | clear_value x)
    | with_reducible apply State.freshNat_frame
    | refine Fr.pair (by assumption) (State.freshNat_frame (h_ := ?_) ?_)
    | with_reducible apply State.modJob_frame
    | (simp -zeta -beta -iota only [Fr.mk_iff]; first | refine FrU.upd ?_ rfl | refine FrU.filter _ ?_ rfl)
    | dsimp -zeta only
    | split

theorem State.haltJob_frame {m_ : Nat} {o_ : State} {s : State} {id : Nat} {j : Job} (h_ : Fr m_ o_ s) (hm_ : Nat.land 3637 m_ = 3637) : Fr m_ o_ (State.haltJob s id j) := by
  refine Fr.of h_ hm_ ?_
  clear h_ hm_
  have h_ := Fr.refl 3637 s
  unfold State.haltJob
  repeat' first
    | with_reducible assumption
    | exact (rfl : Nat.land _ _ = _)
    | (extract_lets +onlyGivenNames x
       first
         | (have hx : Fr 3637 s x := ?_
            (on_goal 1 => clear_value x)
            on_goal 2 => (unfold x; clear x))
         | (have hx : Fr 3637 s x.2 := ?_
            (on_goal 1 => clear_value x)
            on_goal 2 => (unfold x; clear x))
         | clear_value x)
    | with_reducible apply State.interrupt_frame
    | with_reducible apply State.modJob_frame
    | with_reducible apply State.chargeWaste_frame
    | (simp -zeta -beta -iota only [Fr.mk_iff]; first | refine FrU.upd ?_ rfl | refine FrU.filter _ ?_ rfl)
    | with_reducible refine Fr.ite ?_ ?_
    | dsimp -zeta only
    | split

theorem State.dmaEnd_frame {m_ : Nat} {o_ : State} {s : State} {c : Nat} {ok : Bool} (h_ : Fr m_ o_ s) (hm_ : Nat.land 671088641 m_ = 671088641) : Fr m_ o_ (State.dmaEnd s c ok) := by
  refine Fr.of h_ hm_ ?_
  clear h_ hm_
  have h_ := Fr.refl 671088641 s
  unfold State.dmaEnd
  repeat' first
    | with_reducible assumption
    | exact (rfl : Nat.land _ _ = _)
    | (extract_lets +onlyGivenNames x
       first
         | (have hx : Fr 671088641 s x := ?_
            (on_goal 1 => clear_value x)
            on_goal 2 => (unfold x; clear x))
         | (have hx : Fr 671088641 s x.2 := ?_
            (on_goal 1 => clear_value x)
            on_goal 2 => (unfold x; clear x))
         | clear_value x)
    | with_reducible apply State.putBit_frame
    | with_reducible apply State.raiseIrq_frame
    | (simp -zeta -beta -iota only [Fr.mk_iff]; first | refine FrU.upd ?_ rfl | refine FrU.filter _ ?_ rfl)
    | with_reducible refine Fr.ite ?_ ?_
    | dsimp -zeta only
    | split

theorem State.haltNow_frame {m_ : Nat} {o_ : State} {s : State} (h_ : Fr m_ o_ s) (hm_ : Nat.land 755502645 m_ = 755502645) : Fr m_ o_ (State.haltNow s) := by
  refine Fr.of h_ hm_ ?_
  clear h_ hm_
  have h_ := Fr.refl 755502645 s
  unfold State.haltNow
  repeat' first
    | with_reducible assumption
    | exact (rfl : Nat.land _ _ = _)
    | (extract_lets +onlyGivenNames x
       first
         | (have hx : Fr 755502645 s x := ?_
            (on_goal 1 => clear_value x)
            on_goal 2 => (unfold x; clear x))
         | (have hx : Fr 755502645 s x.2 := ?_
            (on_goal 1 => clear_value x)
            on_goal 2 => (unfold x; clear x))
         | clear_value x)
    | with_reducible refine Fr.foldl _ _ ?_ (fun _ _ _ => ?_)
    | with_reducible apply State.putBit_frame
    | with_reducible apply State.haltJob_frame
    | with_reducible apply State.dmaEnd_frame
    | with_reducible apply State.quitPolish_frame
    | with_reducible apply State.refreshDeviceState_frame
    | (simp -zeta -beta -iota only [Fr.mk_iff]; first | refine FrU.upd ?_ rfl | refine FrU.filter _ ?_ rfl)
    | with_reducible refine Fr.ite ?_ ?_
    | with_reducible refine Fr.ite2 ?_ ?_
    | dsimp -zeta only
    | split

theorem State.purgeNow_frame {m_ : Nat} {o_ : State} {s : State} (h_ : Fr m_ o_ s) (hm_ : Nat.land 758009397 m_ = 758009397) : Fr m_ o_ (State.purgeNow s) := by
  refine Fr.of h_ hm_ ?_
  clear h_ hm_
  have h_ := Fr.refl 758009397 s
  unfold State.purgeNow
  repeat' first
    | with_reducible assumption
    | exact (rfl : Nat.land _ _ = _)
    | (extract_lets +onlyGivenNames x
       first
         | (have hx : Fr 758009397 s x := ?_
            (on_goal 1 => clear_value x)
            on_goal 2 => (unfold x; clear x))
         | (have hx : Fr 758009397 s x.2 := ?_
            (on_goal 1 => clear_value x)
            on_goal 2 => (unfold x; clear x))
         | clear_value x)
    | with_reducible apply State.putBit_frame
    | with_reducible apply State.haltNow_frame
    | with_reducible apply State.withdrawOpen_frame
    | (simp -zeta -beta -iota only [Fr.mk_iff]; first | refine FrU.upd ?_ rfl | refine FrU.filter _ ?_ rfl)
    | with_reducible refine Fr.ite ?_ ?_
    | with_reducible refine Fr.ite2 ?_ ?_
    | dsimp -zeta only
    | split

theorem State.zeroiseNow_frame {m_ : Nat} {o_ : State} {s : State} (h_ : Fr m_ o_ s) (hm_ : Nat.land 1832807989 m_ = 1832807989) : Fr m_ o_ (State.zeroiseNow s) := by
  refine Fr.of h_ hm_ ?_
  clear h_ hm_
  have h_ := Fr.refl 1832807989 s
  unfold State.zeroiseNow
  repeat' first
    | with_reducible assumption
    | exact (rfl : Nat.land _ _ = _)
    | (extract_lets +onlyGivenNames x
       first
         | (have hx : Fr 1832807989 s x := ?_
            (on_goal 1 => clear_value x)
            on_goal 2 => (unfold x; clear x))
         | (have hx : Fr 1832807989 s x.2 := ?_
            (on_goal 1 => clear_value x)
            on_goal 2 => (unfold x; clear x))
         | clear_value x)
    | with_reducible apply State.putBit_frame
    | with_reducible apply State.haltNow_frame
    | with_reducible apply State.endAgents_frame
    | with_reducible apply State.withdrawAll_frame
    | (simp -zeta -beta -iota only [Fr.mk_iff]; first | refine FrU.upd ?_ rfl | refine FrU.filter _ ?_ rfl)
    | dsimp -zeta only

theorem State.applyResponse_frame {m_ : Nat} {o_ : State} {s : State} {r : Nat} {atInc : Bool} (h_ : Fr m_ o_ s) (hm_ : Nat.land 1832807989 m_ = 1832807989) : Fr m_ o_ (State.applyResponse s r atInc) := by
  refine Fr.of h_ hm_ ?_
  clear h_ hm_
  have h_ := Fr.refl 1832807989 s
  unfold State.applyResponse
  repeat' first
    | with_reducible assumption
    | exact (rfl : Nat.land _ _ = _)
    | (extract_lets +onlyGivenNames x
       first
         | (have hx : Fr 1832807989 s x := ?_
            (on_goal 1 => clear_value x)
            on_goal 2 => (unfold x; clear x))
         | (have hx : Fr 1832807989 s x.2 := ?_
            (on_goal 1 => clear_value x)
            on_goal 2 => (unfold x; clear x))
         | clear_value x)
    | with_reducible apply State.throttle_frame
    | with_reducible apply State.haltNow_frame
    | with_reducible apply State.purgeNow_frame
    | with_reducible apply State.zeroiseNow_frame
    | (simp -zeta -beta -iota only [Fr.mk_iff]; first | refine FrU.upd ?_ rfl | refine FrU.filter _ ?_ rfl)
    | with_reducible refine Fr.ite ?_ ?_
    | with_reducible refine Fr.ite2 ?_ ?_
    | dsimp -zeta only
    | split

theorem State.alarms_frame {m_ : Nat} {o_ : State} {s : State} {l : List (Nat × Nat)} {atInc : Bool} (h_ : Fr m_ o_ s) (hm_ : Nat.land 1832807989 m_ = 1832807989) : Fr m_ o_ (State.alarms s l atInc) := by
  refine Fr.of h_ hm_ ?_
  clear h_ hm_
  have h_ := Fr.refl 1832807989 s
  unfold State.alarms
  repeat' first
    | with_reducible assumption
    | exact (rfl : Nat.land _ _ = _)
    | (extract_lets +onlyGivenNames x
       first
         | (have hx : Fr 1832807989 s x := ?_
            (on_goal 1 => clear_value x)
            on_goal 2 => (unfold x; clear x))
         | (have hx : Fr 1832807989 s x.2 := ?_
            (on_goal 1 => clear_value x)
            on_goal 2 => (unfold x; clear x))
         | clear_value x)
    | with_reducible refine Fr.foldl _ _ ?_ (fun _ _ _ => ?_)
    | with_reducible apply State.put_frame
    | with_reducible apply State.event_frame
    | with_reducible apply State.wakeNap_frame
    | with_reducible apply State.raiseIrq_frame
    | with_reducible apply State.hostEvent_frame
    | with_reducible apply State.showAlarmN_frame
    | with_reducible apply State.applyResponse_frame
    | (simp -zeta -beta -iota only [Fr.mk_iff]; first | refine FrU.upd ?_ rfl | refine FrU.filter _ ?_ rfl)
    | with_reducible refine Fr.ite ?_ ?_
    | with_reducible refine Fr.ite2 ?_ ?_
    | dsimp -zeta only
    | split

theorem State.alarm'_frame {m_ : Nat} {o_ : State} {s : State} {srcs : List Nat} (h_ : Fr m_ o_ s) (hm_ : Nat.land 1832807989 m_ = 1832807989) : Fr m_ o_ (State.alarm' s srcs) := by
  refine Fr.of h_ hm_ ?_
  clear h_ hm_
  have h_ := Fr.refl 1832807989 s
  unfold State.alarm'
  repeat' first
    | with_reducible assumption
    | exact (rfl : Nat.land _ _ = _)
    | with_reducible apply State.alarms_frame
    | dsimp -zeta only

theorem State.eraseEngines_frame {m_ : Nat} {o_ : State} {s : State} (h_ : Fr m_ o_ s) (hm_ : Nat.land 159907841 m_ = 159907841) : Fr m_ o_ (State.eraseEngines s) := by
  refine Fr.of h_ hm_ ?_
  clear h_ hm_
  have h_ := Fr.refl 159907841 s
  unfold State.eraseEngines
  repeat' first
    | with_reducible assumption
    | exact (rfl : Nat.land _ _ = _)
    | (extract_lets +onlyGivenNames x
       first
         | (have hx : Fr 159907841 s x := ?_
            (on_goal 1 => clear_value x)
            on_goal 2 => (unfold x; clear x))
         | (have hx : Fr 159907841 s x.2 := ?_
            (on_goal 1 => clear_value x)
            on_goal 2 => (unfold x; clear x))
         | (unfold x; clear x))
    | with_reducible refine Fr.foldl _ _ ?_ (fun _ _ _ => ?_)
    | with_reducible apply State.clearCore_frame
    | with_reducible apply State.setCluster_frame
    | with_reducible apply State.coreErr_frame
    | with_reducible apply State.putBit_frame
    | with_reducible apply State.updateCore_frame
    | with_reducible apply State.wipeLane_frame
    | (simp -zeta -beta -iota only [Fr.mk_iff]; first | refine FrU.upd ?_ rfl | refine FrU.filter _ ?_ rfl)
    | with_reducible refine Fr.ite ?_ ?_
    | dsimp -zeta only
    | split

theorem State.clearStopped_frame {m_ : Nat} {o_ : State} {s : State} (h_ : Fr m_ o_ s) (hm_ : Nat.land 151519233 m_ = 151519233) : Fr m_ o_ (State.clearStopped s) := by
  refine Fr.of h_ hm_ ?_
  clear h_ hm_
  have h_ := Fr.refl 151519233 s
  unfold State.clearStopped
  extract_lets +onlyGivenNames core
  have hc : ∀ k u, Fr 151519233 s u → Fr 151519233 s (core k u) := by
    intro k u hu
    unfold core
    clear core
    repeat' first
      | with_reducible assumption
      | exact (rfl : Nat.land _ _ = _)
      | (extract_lets +onlyGivenNames x
         first
           | (have hx : Fr 151519233 s x := ?_
              (on_goal 1 => clear_value x)
              on_goal 2 => (unfold x; clear x))
           | (have hx : Fr 151519233 s x.2 := ?_
              (on_goal 1 => clear_value x)
              on_goal 2 => (unfold x; clear x))
           | clear_value x)
      | with_reducible refine Fr.foldl _ _ ?_ (fun _ _ _ => ?_)
      | with_reducible refine Fr.elim ?_ (fun _ => ?_)
      | with_reducible apply State.setSlot_frame
      | with_reducible apply State.setCluster_frame
      | with_reducible apply State.updateCore_frame
      | with_reducible apply State.coreErr_frame
      | with_reducible apply State.putBit_frame
      | with_reducible apply State.setLane_frame
      | with_reducible apply State.raiseIrq_frame
      | with_reducible apply FrO.next
      | (simp -zeta -beta -iota only [Fr.mk_iff]; first | refine FrU.upd ?_ rfl | refine FrU.filter _ ?_ rfl)
      | with_reducible refine Fr.ite ?_ ?_
      | with_reducible refine Fr.ite2 ?_ ?_
      | with_reducible refine FrO.ite ?_ ?_
      | dsimp -zeta only
      | split
  clear_value core
  repeat' first
    | with_reducible assumption
    | exact (rfl : Nat.land _ _ = _)
    | (extract_lets +onlyGivenNames x
       first
         | (have hx : Fr 151519233 s x := ?_
            (on_goal 1 => clear_value x)
            on_goal 2 => (unfold x; clear x))
         | (have hx : Fr 151519233 s x.2 := ?_
            (on_goal 1 => clear_value x)
            on_goal 2 => (unfold x; clear x))
         | clear_value x)
    | with_reducible apply hc
    | with_reducible refine Fr.foldl _ _ ?_ (fun _ _ _ => ?_)
    | with_reducible refine Fr.elim ?_ (fun _ => ?_)
    | with_reducible apply State.setSlot_frame
    | with_reducible apply State.setCluster_frame
    | with_reducible apply State.updateCore_frame
    | with_reducible apply State.coreErr_frame
    | with_reducible apply State.putBit_frame
    | with_reducible apply State.setLane_frame
    | with_reducible apply State.raiseIrq_frame
    | with_reducible apply FrO.next
    | (simp -zeta -beta -iota only [Fr.mk_iff]; first | refine FrU.upd ?_ rfl | refine FrU.filter _ ?_ rfl)
    | with_reducible refine Fr.ite ?_ ?_
    | with_reducible refine Fr.ite2 ?_ ?_
    | with_reducible refine FrO.ite ?_ ?_
    | dsimp -zeta only
    | split

end Sys2Proof.Machine
end

