-- ==== Sys2Proof/Laws/FrameHost.lean ====
section
/-! SUPPORT. Which pieces of State each function of the host port, instances and restore may change. -/

set_option maxRecDepth 4000
set_option linter.all false

namespace Sys2Proof.Machine

theorem State.reportAer_frame {m_ : Nat} {o_ : State} {s : State} {r : DmaResult} (h_ : Fr m_ o_ s) (hm_ : Nat.land 16 m_ = 16) : Fr m_ o_ (State.reportAer s r) := by
  refine Fr.of h_ hm_ ?_
  unfold State.reportAer
  extract_lets _h add
  have ha : ∀ e, Fr 16 s (add e) := fun e => by
    unfold add
    simp -zeta -beta -iota only [Fr.mk_iff]
    exact FrU.upd (Fr.refl _ s) rfl
  cases r with
  | data _ => exact Fr.refl _ s
  | urOrCa => exact ha _
  | poisoned => exact ha _
  | timeout => exact ha _

theorem State.sendPending_frame {m_ : Nat} {o_ : State} {s : State} (h_ : Fr m_ o_ s) (hm_ : Nat.land 16 m_ = 16) : Fr m_ o_ (State.sendPending s) := by
  refine Fr.of h_ hm_ ?_
  clear h_ hm_
  have h_ := Fr.refl 16 s
  unfold State.sendPending
  repeat' first
    | with_reducible assumption
    | exact (rfl : Nat.land _ _ = _)
    | (extract_lets +onlyGivenNames x
       first
         | (have hx : Fr 16 s x := ?_
            (on_goal 1 => clear_value x)
            on_goal 2 => (unfold x; clear x))
         | (have hx : Fr 16 s x.2 := ?_
            (on_goal 1 => clear_value x)
            on_goal 2 => (unfold x; clear x))
         | clear_value x)
    | with_reducible refine Fr.foldl _ _ ?_ (fun _ _ _ => ?_)
    | with_reducible apply State.emit_frame
    | (simp -zeta -beta -iota only [Fr.mk_iff]; first | refine FrU.upd ?_ rfl | refine FrU.filter _ ?_ rfl)
    | with_reducible refine Fr.ite ?_ ?_
    | dsimp -zeta only
    | split

theorem State.resetActive_frame {m_ : Nat} {o_ : State} {s : State} (h_ : Fr m_ o_ s) (hm_ : Nat.land 19820081 m_ = 19820081) : Fr m_ o_ (State.resetActive s) := by
  refine Fr.of h_ hm_ ?_
  clear h_ hm_
  have h_ := Fr.refl 19820081 s
  unfold State.resetActive
  repeat' first
    | with_reducible assumption
    | exact (rfl : Nat.land _ _ = _)
    | with_reducible refine Fr.foldl _ _ ?_ (fun _ _ _ => ?_)
    | with_reducible apply State.sweepLanes_frame
    | with_reducible apply State.resetInstance_frame

theorem State.stopMailbox_frame {m_ : Nat} {o_ : State} {s : State} (h_ : Fr m_ o_ s) (hm_ : Nat.land 2097153 m_ = 2097153) : Fr m_ o_ (State.stopMailbox s) := by
  refine Fr.of h_ hm_ ?_
  clear h_ hm_
  have h_ := Fr.refl 2097153 s
  unfold State.stopMailbox
  repeat' first
    | with_reducible assumption
    | exact (rfl : Nat.land _ _ = _)
    | (extract_lets +onlyGivenNames x
       first
         | (have hx : Fr 2097153 s x := ?_
            (on_goal 1 => clear_value x)
            on_goal 2 => (unfold x; clear x))
         | (have hx : Fr 2097153 s x.2 := ?_
            (on_goal 1 => clear_value x)
            on_goal 2 => (unfold x; clear x))
         | clear_value x)
    | with_reducible apply State.putBit_frame
    | (simp -zeta -beta -iota only [Fr.mk_iff]; first | refine FrU.upd ?_ rfl | refine FrU.filter _ ?_ rfl)
    | dsimp -zeta only

theorem State.resetConfig_frame {m_ : Nat} {o_ : State} {s : State} (h_ : Fr m_ o_ s) (hm_ : Nat.land 16 m_ = 16) : Fr m_ o_ (State.resetConfig s) := by
  refine Fr.of h_ hm_ ?_
  clear h_ hm_
  have h_ := Fr.refl 16 s
  unfold State.resetConfig
  repeat' first
    | with_reducible assumption
    | exact (rfl : Nat.land _ _ = _)
    | (extract_lets +onlyGivenNames x
       first
         | (have hx : Fr 16 s x := ?_
            (on_goal 1 => clear_value x)
            on_goal 2 => (unfold x; clear x))
         | (have hx : Fr 16 s x.2 := ?_
            (on_goal 1 => clear_value x)
            on_goal 2 => (unfold x; clear x))
         | clear_value x)
    | (simp -zeta -beta -iota only [Fr.mk_iff]; first | refine FrU.upd ?_ rfl | refine FrU.filter _ ?_ rfl)

theorem execPerstNAssert_frame {m_ : Nat} {o_ : State} {s : State} (h_ : Fr m_ o_ s) (hm_ : Nat.land 221146673 m_ = 221146673) : FrO m_ o_ (execPerstNAssert s) := by
  refine FrO.of h_ hm_ ?_
  clear h_ hm_
  have h_ := Fr.refl 221146673 s
  unfold execPerstNAssert
  repeat' first
    | with_reducible assumption
    | exact (rfl : Nat.land _ _ = _)
    | (extract_lets +onlyGivenNames x
       first
         | (have hx : Fr 221146673 s x := ?_
            (on_goal 1 => clear_value x)
            on_goal 2 => (unfold x; clear x))
         | (have hx : Fr 221146673 s x.2 := ?_
            (on_goal 1 => clear_value x)
            on_goal 2 => (unfold x; clear x))
         | clear_value x)
    | with_reducible apply State.armMonitor_frame
    | with_reducible apply State.resetConfig_frame
    | with_reducible apply State.stopMailbox_frame
    | with_reducible apply State.resetActive_frame
    | with_reducible apply State.wakeNap_frame
    | with_reducible apply FrO.next
    | (simp -zeta -beta -iota only [Fr.mk_iff]; first | refine FrU.upd ?_ rfl | refine FrU.filter _ ?_ rfl)
    | dsimp -zeta only

theorem execFunctionLevelReset_frame {m_ : Nat} {o_ : State} {s : State} (h_ : Fr m_ o_ s) (hm_ : Nat.land 154037809 m_ = 154037809) : FrO m_ o_ (execFunctionLevelReset s) := by
  refine FrO.of h_ hm_ ?_
  clear h_ hm_
  have h_ := Fr.refl 154037809 s
  unfold execFunctionLevelReset
  repeat' first
    | with_reducible assumption
    | exact (rfl : Nat.land _ _ = _)
    | with_reducible apply State.resetConfig_frame
    | with_reducible apply State.stopMailbox_frame
    | with_reducible apply State.resetActive_frame
    | with_reducible apply State.wakeNap_frame
    | with_reducible apply FrO.next

theorem execBusMasterEnableClear_frame {m_ : Nat} {o_ : State} {s : State} (h_ : Fr m_ o_ s) (hm_ : Nat.land 154037809 m_ = 154037809) : FrO m_ o_ (execBusMasterEnableClear s) := by
  refine FrO.of h_ hm_ ?_
  clear h_ hm_
  have h_ := Fr.refl 154037809 s
  unfold execBusMasterEnableClear
  repeat' first
    | with_reducible assumption
    | exact (rfl : Nat.land _ _ = _)
    | (extract_lets +onlyGivenNames x
       first
         | (have hx : Fr 154037809 s x := ?_
            (on_goal 1 => clear_value x)
            on_goal 2 => (unfold x; clear x))
         | (have hx : Fr 154037809 s x.2 := ?_
            (on_goal 1 => clear_value x)
            on_goal 2 => (unfold x; clear x))
         | clear_value x)
    | with_reducible refine Fr.foldl _ _ ?_ (fun _ _ _ => ?_)
    | with_reducible apply State.stopMailbox_frame
    | with_reducible apply State.resetActive_frame
    | with_reducible apply State.wakeNap_frame
    | with_reducible apply State.carryMeter_frame
    | with_reducible apply FrO.next
    | (simp -zeta -beta -iota only [Fr.mk_iff]; first | refine FrU.upd ?_ rfl | refine FrU.filter _ ?_ rfl)
    | dsimp -zeta only

theorem execBusMasterEnableSet_frame {m_ : Nat} {o_ : State} {pasidEn : Bool} {cfg : HostConfig} {s : State} (h_ : Fr m_ o_ s) (hm_ : Nat.land 16 m_ = 16) : FrO m_ o_ (execBusMasterEnableSet pasidEn cfg s) := by
  refine FrO.of h_ hm_ ?_
  clear h_ hm_
  have h_ := Fr.refl 16 s
  unfold execBusMasterEnableSet
  repeat' first
    | with_reducible assumption
    | exact (rfl : Nat.land _ _ = _)
    | (extract_lets +onlyGivenNames x
       first
         | (have hx : Fr 16 s x := ?_
            (on_goal 1 => clear_value x)
            on_goal 2 => (unfold x; clear x))
         | (have hx : Fr 16 s x.2 := ?_
            (on_goal 1 => clear_value x)
            on_goal 2 => (unfold x; clear x))
         | clear_value x)
    | with_reducible apply State.sendPending_frame
    | with_reducible apply FrO.next
    | (simp -zeta -beta -iota only [Fr.mk_iff]; first | refine FrU.upd ?_ rfl | refine FrU.filter _ ?_ rfl)
    | with_reducible refine Fr.ite ?_ ?_
    | with_reducible refine FrO.ite ?_ ?_
    | dsimp -zeta only
    | split

theorem execAdminMailboxEnable_frame {m_ : Nat} {o_ : State} {depthLog2 : Nat} {s : State} (h_ : Fr m_ o_ s) (hm_ : Nat.land 134217985 m_ = 134217985) : FrO m_ o_ (execAdminMailboxEnable depthLog2 s) := by
  refine FrO.of h_ hm_ ?_
  clear h_ hm_
  have h_ := Fr.refl 134217985 s
  unfold execAdminMailboxEnable
  repeat' first
    | with_reducible assumption
    | exact (rfl : Nat.land _ _ = _)
    | (extract_lets +onlyGivenNames x
       first
         | (have hx : Fr 134217985 s x := ?_
            (on_goal 1 => clear_value x)
            on_goal 2 => (unfold x; clear x))
         | (have hx : Fr 134217985 s x.2 := ?_
            (on_goal 1 => clear_value x)
            on_goal 2 => (unfold x; clear x))
         | clear_value x)
    | with_reducible apply State.wakeNap_frame
    | with_reducible apply State.putBit_frame
    | with_reducible apply State.put_frame
    | with_reducible apply FrO.next
    | (simp -zeta -beta -iota only [Fr.mk_iff]; first | refine FrU.upd ?_ rfl | refine FrU.filter _ ?_ rfl)
    | with_reducible refine Fr.ite ?_ ?_
    | with_reducible refine FrO.ite ?_ ?_
    | dsimp -zeta only
    | split

theorem execAdminMailboxDisable_frame {m_ : Nat} {o_ : State} {s : State} (h_ : Fr m_ o_ s) (hm_ : Nat.land 134217729 m_ = 134217729) : FrO m_ o_ (execAdminMailboxDisable s) := by
  refine FrO.of h_ hm_ ?_
  clear h_ hm_
  have h_ := Fr.refl 134217729 s
  unfold execAdminMailboxDisable
  repeat' first
    | with_reducible assumption
    | exact (rfl : Nat.land _ _ = _)
    | (extract_lets +onlyGivenNames x
       first
         | (have hx : Fr 134217729 s x := ?_
            (on_goal 1 => clear_value x)
            on_goal 2 => (unfold x; clear x))
         | (have hx : Fr 134217729 s x.2 := ?_
            (on_goal 1 => clear_value x)
            on_goal 2 => (unfold x; clear x))
         | clear_value x)
    | with_reducible apply State.wakeNap_frame
    | with_reducible apply State.putBit_frame
    | with_reducible apply FrO.next
    | with_reducible refine Fr.ite ?_ ?_
    | with_reducible refine FrO.ite ?_ ?_
    | dsimp -zeta only
    | split

theorem execAdminSqTailWrite_frame {m_ : Nat} {o_ : State} {tail : Nat} {s : State} (h_ : Fr m_ o_ s) (hm_ : Nat.land 134217729 m_ = 134217729) : FrO m_ o_ (execAdminSqTailWrite tail s) := by
  refine FrO.of h_ hm_ ?_
  clear h_ hm_
  have h_ := Fr.refl 134217729 s
  unfold execAdminSqTailWrite
  repeat' first
    | with_reducible assumption
    | exact (rfl : Nat.land _ _ = _)
    | (extract_lets +onlyGivenNames x
       first
         | (have hx : Fr 134217729 s x := ?_
            (on_goal 1 => clear_value x)
            on_goal 2 => (unfold x; clear x))
         | (have hx : Fr 134217729 s x.2 := ?_
            (on_goal 1 => clear_value x)
            on_goal 2 => (unfold x; clear x))
         | clear_value x)
    | with_reducible apply State.wakeNap_frame
    | with_reducible apply State.put_frame
    | with_reducible apply FrO.next
    | with_reducible refine Fr.ite ?_ ?_
    | with_reducible refine FrO.ite ?_ ?_
    | dsimp -zeta only
    | split

theorem State.fetchAdmin_frame {m_ : Nat} {o_ : State} {s : State} (h_ : Fr m_ o_ s) (hm_ : Nat.land 16 m_ = 16) : Fr m_ o_ (State.fetchAdmin s) := by
  refine Fr.of h_ hm_ ?_
  clear h_ hm_
  have h_ := Fr.refl 16 s
  unfold State.fetchAdmin
  repeat' first
    | with_reducible assumption
    | exact (rfl : Nat.land _ _ = _)
    | with_reducible apply State.emitAdminRead_frame

theorem State.readAdminInput_frame {m_ : Nat} {o_ : State} {s : State} {entry : Bytes} (h_ : Fr m_ o_ s) (hm_ : Nat.land 16 m_ = 16) : Fr m_ o_ (State.readAdminInput s entry) := by
  refine Fr.of h_ hm_ ?_
  clear h_ hm_
  have h_ := Fr.refl 16 s
  unfold State.readAdminInput
  repeat' first
    | with_reducible assumption
    | exact (rfl : Nat.land _ _ = _)
    | with_reducible apply State.emitAdminRead_frame

theorem State.adminAdvance_frame {m_ : Nat} {o_ : State} {s : State} (h_ : Fr m_ o_ s) (hm_ : Nat.land 134218000 m_ = 134218000) : Fr m_ o_ (State.adminAdvance s) := by
  refine Fr.of h_ hm_ ?_
  clear h_ hm_
  have h_ := Fr.refl 134218000 s
  unfold State.adminAdvance
  repeat' first
    | with_reducible assumption
    | exact (rfl : Nat.land _ _ = _)
    | (extract_lets +onlyGivenNames x
       first
         | (have hx : Fr 134218000 s x := ?_
            (on_goal 1 => clear_value x)
            on_goal 2 => (unfold x; clear x))
         | (have hx : Fr 134218000 s x.2 := ?_
            (on_goal 1 => clear_value x)
            on_goal 2 => (unfold x; clear x))
         | clear_value x)
    | with_reducible apply State.fetchAdmin_frame
    | (simp -zeta -beta -iota only [Fr.mk_iff]; first | refine FrU.upd ?_ rfl | refine FrU.filter _ ?_ rfl)
    | dsimp -zeta only

theorem State.settleMailbox_frame {m_ : Nat} {o_ : State} {s : State} (h_ : Fr m_ o_ s) (hm_ : Nat.land 1 m_ = 1) : Fr m_ o_ (State.settleMailbox s) := by
  refine Fr.of h_ hm_ ?_
  clear h_ hm_
  have h_ := Fr.refl 1 s
  unfold State.settleMailbox
  repeat' first
    | with_reducible assumption
    | exact (rfl : Nat.land _ _ = _)
    | with_reducible apply State.putBit_frame
    | with_reducible refine Fr.ite ?_ ?_
    | dsimp -zeta only
    | split

theorem State.adminEnd_frame {m_ : Nat} {o_ : State} {s : State} {entry : Bytes} {detail : Nat} (h_ : Fr m_ o_ s) (hm_ : Nat.land 1210327315 m_ = 1210327315) : Fr m_ o_ (State.adminEnd s entry detail) := by
  refine Fr.of h_ hm_ ?_
  clear h_ hm_
  have h_ := Fr.refl 1210327315 s
  unfold State.adminEnd
  repeat' first
    | with_reducible assumption
    | exact (rfl : Nat.land _ _ = _)
    | (extract_lets +onlyGivenNames x
       first
         | (have hx : Fr 1210327315 s x := ?_
            (on_goal 1 => clear_value x)
            on_goal 2 => (unfold x; clear x))
         | (have hx : Fr 1210327315 s x.2 := ?_
            (on_goal 1 => clear_value x)
            on_goal 2 => (unfold x; clear x))
         | clear_value x)
    | with_reducible apply State.addReply_frame
    | refine Fr.pair (by assumption) (State.addReply_frame (h_ := ?_) ?_)
    | with_reducible apply State.settleMailbox_frame
    | with_reducible apply State.flushReplies_frame
    | dsimp -zeta only

theorem State.adminBad_frame {m_ : Nat} {o_ : State} {s : State} {entry : Bytes} {detail : Nat} (h_ : Fr m_ o_ s) (hm_ : Nat.land 1210327315 m_ = 1210327315) : Fr m_ o_ (State.adminBad s entry detail) := by
  refine Fr.of h_ hm_ ?_
  clear h_ hm_
  have h_ := Fr.refl 1210327315 s
  unfold State.adminBad
  repeat' first
    | with_reducible assumption
    | exact (rfl : Nat.land _ _ = _)
    | with_reducible apply State.adminEnd_frame
    | with_reducible apply State.adminAdvance_frame

theorem execMsixVectorUnmask_frame {m_ : Nat} {o_ : State} {vector : Nat} {s : State} (h_ : Fr m_ o_ s) (hm_ : Nat.land 134217745 m_ = 134217745) : FrO m_ o_ (execMsixVectorUnmask vector s) := by
  refine FrO.of h_ hm_ ?_
  clear h_ hm_
  have h_ := Fr.refl 134217745 s
  unfold execMsixVectorUnmask
  repeat' first
    | with_reducible assumption
    | exact (rfl : Nat.land _ _ = _)
    | (extract_lets +onlyGivenNames x
       first
         | (have hx : Fr 134217745 s x := ?_
            (on_goal 1 => clear_value x)
            on_goal 2 => (unfold x; clear x))
         | (have hx : Fr 134217745 s x.2 := ?_
            (on_goal 1 => clear_value x)
            on_goal 2 => (unfold x; clear x))
         | clear_value x)
    | with_reducible apply State.wakeNap_frame
    | with_reducible apply State.sendPending_frame
    | with_reducible apply FrO.next
    | (simp -zeta -beta -iota only [Fr.mk_iff]; first | refine FrU.upd ?_ rfl | refine FrU.filter _ ?_ rfl)
    | with_reducible refine Fr.ite ?_ ?_
    | with_reducible refine FrO.ite ?_ ?_
    | dsimp -zeta only
    | split

theorem State.discardDoorbell_frame {m_ : Nat} {o_ : State} {s : State} {n : Nat} (h_ : Fr m_ o_ s) (hm_ : Nat.land 32 m_ = 32) : Fr m_ o_ (State.discardDoorbell s n) := by
  refine Fr.of h_ hm_ ?_
  clear h_ hm_
  have h_ := Fr.refl 32 s
  unfold State.discardDoorbell
  repeat' first
    | with_reducible assumption
    | exact (rfl : Nat.land _ _ = _)
    | (extract_lets +onlyGivenNames x
       first
         | (have hx : Fr 32 s x := ?_
            (on_goal 1 => clear_value x)
            on_goal 2 => (unfold x; clear x))
         | (have hx : Fr 32 s x.2 := ?_
            (on_goal 1 => clear_value x)
            on_goal 2 => (unfold x; clear x))
         | clear_value x)
    | with_reducible apply State.modInst_frame
    | (simp -zeta -beta -iota only [Fr.mk_iff]; first | refine FrU.upd ?_ rfl | refine FrU.filter _ ?_ rfl)
    | dsimp -zeta only

theorem State.tailWrite_frame {m_ : Nat} {o_ : State} {s : State} {inst : Nat} {tail : Nat} (h_ : Fr m_ o_ s) (hm_ : Nat.land 32 m_ = 32) : Fr m_ o_ (State.tailWrite s inst tail) := by
  refine Fr.of h_ hm_ ?_
  clear h_ hm_
  have h_ := Fr.refl 32 s
  unfold State.tailWrite
  repeat' first
    | with_reducible assumption
    | exact (rfl : Nat.land _ _ = _)
    | (extract_lets +onlyGivenNames x
       first
         | (have hx : Fr 32 s x := ?_
            (on_goal 1 => clear_value x)
            on_goal 2 => (unfold x; clear x))
         | (have hx : Fr 32 s x.2 := ?_
            (on_goal 1 => clear_value x)
            on_goal 2 => (unfold x; clear x))
         | clear_value x)
    | with_reducible apply State.discardDoorbell_frame
    | with_reducible apply State.modInst_frame
    | (simp -zeta -beta -iota only [Fr.mk_iff]; first | refine FrU.upd ?_ rfl | refine FrU.filter _ ?_ rfl)
    | with_reducible refine Fr.ite ?_ ?_
    | dsimp -zeta only
    | split

theorem State.headWrite_frame {m_ : Nat} {o_ : State} {s : State} {inst : Nat} {head : Nat} (h_ : Fr m_ o_ s) (hm_ : Nat.land 32 m_ = 32) : Fr m_ o_ (State.headWrite s inst head) := by
  refine Fr.of h_ hm_ ?_
  clear h_ hm_
  have h_ := Fr.refl 32 s
  unfold State.headWrite
  repeat' first
    | with_reducible assumption
    | exact (rfl : Nat.land _ _ = _)
    | (extract_lets +onlyGivenNames x
       first
         | (have hx : Fr 32 s x := ?_
            (on_goal 1 => clear_value x)
            on_goal 2 => (unfold x; clear x))
         | (have hx : Fr 32 s x.2 := ?_
            (on_goal 1 => clear_value x)
            on_goal 2 => (unfold x; clear x))
         | clear_value x)
    | with_reducible apply State.discardDoorbell_frame
    | with_reducible apply State.modInst_frame
    | (simp -zeta -beta -iota only [Fr.mk_iff]; first | refine FrU.upd ?_ rfl | refine FrU.filter _ ?_ rfl)
    | with_reducible refine Fr.ite ?_ ?_
    | dsimp -zeta only
    | split

theorem execSqTailWrite_frame {m_ : Nat} {o_ : State} {inst : Nat} {tail : Nat} {s : State} (h_ : Fr m_ o_ s) (hm_ : Nat.land 134217761 m_ = 134217761) : FrO m_ o_ (execSqTailWrite inst tail s) := by
  refine FrO.of h_ hm_ ?_
  clear h_ hm_
  have h_ := Fr.refl 134217761 s
  unfold execSqTailWrite
  repeat' first
    | with_reducible assumption
    | exact (rfl : Nat.land _ _ = _)
    | with_reducible apply State.wakeNap_frame
    | with_reducible apply State.tailWrite_frame
    | with_reducible apply FrO.next
    | with_reducible refine Fr.ite ?_ ?_
    | with_reducible refine FrO.ite ?_ ?_
    | split

theorem execCqHeadWrite_frame {m_ : Nat} {o_ : State} {inst : Nat} {head : Nat} {s : State} (h_ : Fr m_ o_ s) (hm_ : Nat.land 134217761 m_ = 134217761) : FrO m_ o_ (execCqHeadWrite inst head s) := by
  refine FrO.of h_ hm_ ?_
  clear h_ hm_
  have h_ := Fr.refl 134217761 s
  unfold execCqHeadWrite
  repeat' first
    | with_reducible assumption
    | exact (rfl : Nat.land _ _ = _)
    | with_reducible apply State.wakeNap_frame
    | with_reducible apply State.headWrite_frame
    | with_reducible apply FrO.next
    | with_reducible refine Fr.ite ?_ ?_
    | with_reducible refine FrO.ite ?_ ?_
    | split

theorem State.doorbellWrite_frame {m_ : Nat} {o_ : State} {s : State} {n : Nat} {off : Nat} {d : Bytes} (h_ : Fr m_ o_ s) (hm_ : Nat.land 32 m_ = 32) : Fr m_ o_ (State.doorbellWrite s n off d) := by
  refine Fr.of h_ hm_ ?_
  clear h_ hm_
  have h_ := Fr.refl 32 s
  unfold State.doorbellWrite
  repeat' first
    | with_reducible assumption
    | exact (rfl : Nat.land _ _ = _)
    | with_reducible apply State.discardDoorbell_frame
    | with_reducible apply State.headWrite_frame
    | with_reducible apply State.tailWrite_frame
    | with_reducible refine Fr.ite ?_ ?_
    | split

theorem State.doorbellRead_frame {m_ : Nat} {o_ : State} {s : State} {n : Nat} {off : Nat} {len : Nat} (h_ : Fr m_ o_ s) (hm_ : Nat.land 32 m_ = 32) : Fr m_ o_ (State.doorbellRead s n off len).2 := by
  refine Fr.of h_ hm_ ?_
  clear h_ hm_
  have h_ := Fr.refl 32 s
  unfold State.doorbellRead
  repeat' first
    | with_reducible assumption
    | exact (rfl : Nat.land _ _ = _)
    | with_reducible apply State.discardDoorbell_frame
    | with_reducible refine Fr.ite ?_ ?_
    | with_reducible refine Fr.ite2 ?_ ?_
    | split

theorem execSubmissionFetch_frame {m_ : Nat} {o_ : State} {s : State} (h_ : Fr m_ o_ s) (hm_ : Nat.land 134217777 m_ = 134217777) : FrO m_ o_ (execSubmissionFetch s) := by
  refine FrO.of h_ hm_ ?_
  clear h_ hm_
  have h_ := Fr.refl 134217777 s
  unfold execSubmissionFetch
  repeat' first
    | with_reducible assumption
    | exact (rfl : Nat.land _ _ = _)
    | (extract_lets +onlyGivenNames x
       first
         | (have hx : Fr 134217777 s x := ?_
            (on_goal 1 => clear_value x)
            on_goal 2 => (unfold x; clear x))
         | (have hx : Fr 134217777 s x.2 := ?_
            (on_goal 1 => clear_value x)
            on_goal 2 => (unfold x; clear x))
         | clear_value x)
    | with_reducible apply State.emitRead_frame
    | with_reducible apply State.modInst_frame
    | with_reducible apply State.notePeaks_frame
    | with_reducible apply FrO.next
    | (simp -zeta -beta -iota only [Fr.mk_iff]; first | refine FrU.upd ?_ rfl | refine FrU.filter _ ?_ rfl)
    | with_reducible refine Fr.ite ?_ ?_
    | with_reducible refine Fr.ite2 ?_ ?_
    | with_reducible refine FrO.ite ?_ ?_
    | dsimp -zeta only
    | split

theorem State.takeEntry_frame {m_ : Nat} {o_ : State} {s : State} {n : Nat} {id : Nat} {entry : Bytes} (h_ : Fr m_ o_ s) (hm_ : Nat.land 2043441 m_ = 2043441) : Fr m_ o_ (State.takeEntry s n id entry) := by
  refine Fr.of h_ hm_ ?_
  clear h_ hm_
  have h_ := Fr.refl 2043441 s
  unfold State.takeEntry
  repeat' first
    | with_reducible assumption
    | exact (rfl : Nat.land _ _ = _)
    | (extract_lets +onlyGivenNames x
       first
         | (have hx : Fr 2043441 s x := ?_
            (on_goal 1 => clear_value x)
            on_goal 2 => (unfold x; clear x))
         | (have hx : Fr 2043441 s x.2 := ?_
            (on_goal 1 => clear_value x)
            on_goal 2 => (unfold x; clear x))
         | clear_value x)
    | with_reducible apply State.setJob_frame
    | with_reducible apply State.endEarly_frame
    | (simp -zeta -beta -iota only [Fr.mk_iff]; first | refine FrU.upd ?_ rfl | refine FrU.filter _ ?_ rfl)
    | with_reducible refine Fr.ite ?_ ?_
    | with_reducible refine Fr.ite2 ?_ ?_
    | dsimp -zeta only
    | split

theorem State.fetchDone_frame {m_ : Nat} {o_ : State} {s : State} {n : Nat} {b : Bytes} (h_ : Fr m_ o_ s) (hm_ : Nat.land 2043441 m_ = 2043441) : Fr m_ o_ (State.fetchDone s n b) := by
  refine Fr.of h_ hm_ ?_
  clear h_ hm_
  have h_ := Fr.refl 2043441 s
  unfold State.fetchDone
  repeat' first
    | with_reducible assumption
    | exact (rfl : Nat.land _ _ = _)
    | (extract_lets +onlyGivenNames x
       first
         | (have hx : Fr 2043441 s x := ?_
            (on_goal 1 => clear_value x)
            on_goal 2 => (unfold x; clear x))
         | (have hx : Fr 2043441 s x.2 := ?_
            (on_goal 1 => clear_value x)
            on_goal 2 => (unfold x; clear x))
         | clear_value x)
    | with_reducible refine Fr.foldl _ _ ?_ (fun _ _ _ => ?_)
    | with_reducible apply State.modInst_frame
    | with_reducible apply State.takeEntry_frame
    | (simp -zeta -beta -iota only [Fr.mk_iff]; first | refine FrU.upd ?_ rfl | refine FrU.filter _ ?_ rfl)
    | dsimp -zeta only

theorem State.fetchFailed_frame {m_ : Nat} {o_ : State} {s : State} {n : Nat} {cause : Nat} (h_ : Fr m_ o_ s) (hm_ : Nat.land 49 m_ = 49) : Fr m_ o_ (State.fetchFailed s n cause) := by
  refine Fr.of h_ hm_ ?_
  clear h_ hm_
  have h_ := Fr.refl 49 s
  unfold State.fetchFailed
  repeat' first
    | with_reducible assumption
    | exact (rfl : Nat.land _ _ = _)
    | (extract_lets +onlyGivenNames x
       first
         | (have hx : Fr 49 s x := ?_
            (on_goal 1 => clear_value x)
            on_goal 2 => (unfold x; clear x))
         | (have hx : Fr 49 s x.2 := ?_
            (on_goal 1 => clear_value x)
            on_goal 2 => (unfold x; clear x))
         | clear_value x)
    | with_reducible apply State.setInstState_frame
    | with_reducible apply State.modInst_frame
    | with_reducible apply State.hostEvent_frame
    | (simp -zeta -beta -iota only [Fr.mk_iff]; first | refine FrU.upd ?_ rfl | refine FrU.filter _ ?_ rfl)
    | dsimp -zeta only

theorem State.jobRead_frame {m_ : Nat} {o_ : State} {s : State} {id : Nat} {param : Bool} {r : DmaResult} (h_ : Fr m_ o_ s) (hm_ : Nat.land 2043441 m_ = 2043441) : Fr m_ o_ (State.jobRead s id param r) := by
  refine Fr.of h_ hm_ ?_
  clear h_ hm_
  have h_ := Fr.refl 2043441 s
  unfold State.jobRead
  repeat' first
    | with_reducible assumption
    | exact (rfl : Nat.land _ _ = _)
    | (extract_lets +onlyGivenNames x
       first
         | (have hx : Fr 2043441 s x := ?_
            (on_goal 1 => clear_value x)
            on_goal 2 => (unfold x; clear x))
         | (have hx : Fr 2043441 s x.2 := ?_
            (on_goal 1 => clear_value x)
            on_goal 2 => (unfold x; clear x))
         | clear_value x)
    | with_reducible apply State.setJob_frame
    | with_reducible apply State.endEarly_frame
    | with_reducible apply State.reportAer_frame
    | (simp -zeta -beta -iota only [Fr.mk_iff]; first | refine FrU.upd ?_ rfl | refine FrU.filter _ ?_ rfl)
    | with_reducible refine Fr.ite ?_ ?_
    | with_reducible refine Fr.ite2 ?_ ?_
    | dsimp -zeta only
    | split

theorem execDmaReadComplete_frame {m_ : Nat} {o_ : State} {target : DmaTarget} {r : DmaResult} {s : State} (h_ : Fr m_ o_ s) (hm_ : Nat.land 1228894003 m_ = 1228894003) : FrO m_ o_ (execDmaReadComplete target r s) := by
  refine FrO.of h_ hm_ ?_
  clear h_ hm_
  have h_ := Fr.refl 1228894003 s
  unfold execDmaReadComplete
  repeat' first
    | with_reducible assumption
    | exact (rfl : Nat.land _ _ = _)
    | (extract_lets +onlyGivenNames x
       first
         | (have hx : Fr 1228894003 s x := ?_
            (on_goal 1 => clear_value x)
            on_goal 2 => (unfold x; clear x))
         | (have hx : Fr 1228894003 s x.2 := ?_
            (on_goal 1 => clear_value x)
            on_goal 2 => (unfold x; clear x))
         | clear_value x)
    | with_reducible apply State.notePeaks_frame
    | with_reducible apply State.settle_frame
    | with_reducible apply State.fetchDone_frame
    | with_reducible apply State.fetchFailed_frame
    | with_reducible apply State.reportAer_frame
    | with_reducible apply State.adminBad_frame
    | with_reducible apply State.settleMailbox_frame
    | with_reducible apply State.hostEvent_frame
    | with_reducible apply State.putBit_frame
    | with_reducible apply State.fetchAdmin_frame
    | with_reducible apply State.adminEnd_frame
    | with_reducible apply State.readAdminInput_frame
    | with_reducible apply State.adminAdvance_frame
    | with_reducible apply State.jobRead_frame
    | with_reducible apply State.modInst_frame
    | with_reducible apply FrO.next
    | (simp -zeta -beta -iota only [Fr.mk_iff]; first | refine FrU.upd ?_ rfl | refine FrU.filter _ ?_ rfl)
    | with_reducible refine Fr.ite ?_ ?_
    | with_reducible refine Fr.ite2 ?_ ?_
    | with_reducible refine FrO.ite ?_ ?_
    | dsimp -zeta only
    | split

theorem State.ownerEffect_frame {m_ : Nat} {o_ : State} {s : State} {n : Nat} {v : Nat} (h_ : Fr m_ o_ s) (hm_ : Nat.land 2099297 m_ = 2099297) : Fr m_ o_ (State.ownerEffect s n v) := by
  refine Fr.of h_ hm_ ?_
  clear h_ hm_
  have h_ := Fr.refl 2099297 s
  unfold State.ownerEffect
  repeat' first
    | with_reducible assumption
    | exact (rfl : Nat.land _ _ = _)
    | (extract_lets +onlyGivenNames x
       first
         | (have hx : Fr 2099297 s x := ?_
            (on_goal 1 => clear_value x)
            on_goal 2 => (unfold x; clear x))
         | (have hx : Fr 2099297 s x.2 := ?_
            (on_goal 1 => clear_value x)
            on_goal 2 => (unfold x; clear x))
         | clear_value x)
    | with_reducible apply State.setInstState_frame
    | with_reducible apply State.refuseEnables_frame
    | with_reducible apply State.modSched_frame
    | with_reducible apply State.unbindMeter_frame
    | with_reducible apply State.bindMeter_frame
    | with_reducible refine Fr.ite ?_ ?_
    | dsimp -zeta only
    | split

theorem State.enableInst_frame {m_ : Nat} {o_ : State} {s : State} {n : Nat} (h_ : Fr m_ o_ s) (hm_ : Nat.land 97 m_ = 97) : Fr m_ o_ (State.enableInst s n) := by
  refine Fr.of h_ hm_ ?_
  clear h_ hm_
  have h_ := Fr.refl 97 s
  unfold State.enableInst
  repeat' first
    | with_reducible assumption
    | exact (rfl : Nat.land _ _ = _)
    | (extract_lets +onlyGivenNames x
       first
         | (have hx : Fr 97 s x := ?_
            (on_goal 1 => clear_value x)
            on_goal 2 => (unfold x; clear x))
         | (have hx : Fr 97 s x.2 := ?_
            (on_goal 1 => clear_value x)
            on_goal 2 => (unfold x; clear x))
         | clear_value x)
    | with_reducible apply State.setInstState_frame
    | with_reducible apply State.modInst_frame
    | with_reducible apply State.modSched_frame
    | (simp -zeta -beta -iota only [Fr.mk_iff]; first | refine FrU.upd ?_ rfl | refine FrU.filter _ ?_ rfl)
    | dsimp -zeta only

theorem State.tryEnables_frame {m_ : Nat} {o_ : State} {s : State} {n : Nat} (h_ : Fr m_ o_ s) (hm_ : Nat.land 2097249 m_ = 2097249) : Fr m_ o_ (State.tryEnables s n) := by
  refine Fr.of h_ hm_ ?_
  clear h_ hm_
  have h_ := Fr.refl 2097249 s
  unfold State.tryEnables
  repeat' first
    | with_reducible assumption
    | exact (rfl : Nat.land _ _ = _)
    | (extract_lets +onlyGivenNames x
       first
         | (have hx : Fr 2097249 s x := ?_
            (on_goal 1 => clear_value x)
            on_goal 2 => (unfold x; clear x))
         | (have hx : Fr 2097249 s x.2 := ?_
            (on_goal 1 => clear_value x)
            on_goal 2 => (unfold x; clear x))
         | clear_value x)
    | with_reducible refine Fr.foldl _ _ ?_ (fun _ _ _ => ?_)
    | with_reducible apply State.refuseEnables_frame
    | with_reducible apply State.modInst_frame
    | with_reducible apply State.answer_frame
    | with_reducible apply State.enableInst_frame
    | (simp -zeta -beta -iota only [Fr.mk_iff]; first | refine FrU.upd ?_ rfl | refine FrU.filter _ ?_ rfl)
    | with_reducible refine Fr.ite ?_ ?_
    | dsimp -zeta only
    | split

theorem State.holdEnable_frame {m_ : Nat} {o_ : State} {s : State} {n : Nat} {reply : Nat} (h_ : Fr m_ o_ s) (hm_ : Nat.land 32 m_ = 32) : Fr m_ o_ (State.holdEnable s n reply) := by
  refine Fr.of h_ hm_ ?_
  clear h_ hm_
  have h_ := Fr.refl 32 s
  unfold State.holdEnable
  repeat' first
    | with_reducible assumption
    | exact (rfl : Nat.land _ _ = _)
    | (extract_lets +onlyGivenNames x
       first
         | (have hx : Fr 32 s x := ?_
            (on_goal 1 => clear_value x)
            on_goal 2 => (unfold x; clear x))
         | (have hx : Fr 32 s x.2 := ?_
            (on_goal 1 => clear_value x)
            on_goal 2 => (unfold x; clear x))
         | clear_value x)
    | with_reducible apply State.modInst_frame
    | (simp -zeta -beta -iota only [Fr.mk_iff]; first | refine FrU.upd ?_ rfl | refine FrU.filter _ ?_ rfl)
    | dsimp -zeta only

theorem State.controlEnable_frame {m_ : Nat} {o_ : State} {s : State} {n : Nat} {reply : Nat} (h_ : Fr m_ o_ s) (hm_ : Nat.land 2097249 m_ = 2097249) : Fr m_ o_ (State.controlEnable s n reply) := by
  refine Fr.of h_ hm_ ?_
  clear h_ hm_
  have h_ := Fr.refl 2097249 s
  unfold State.controlEnable
  repeat' first
    | with_reducible assumption
    | exact (rfl : Nat.land _ _ = _)
    | (extract_lets +onlyGivenNames x
       first
         | (have hx : Fr 2097249 s x := ?_
            (on_goal 1 => clear_value x)
            on_goal 2 => (unfold x; clear x))
         | (have hx : Fr 2097249 s x.2 := ?_
            (on_goal 1 => clear_value x)
            on_goal 2 => (unfold x; clear x))
         | clear_value x)
    | with_reducible apply State.tryEnables_frame
    | with_reducible apply State.holdEnable_frame
    | with_reducible apply State.answer_frame
    | with_reducible apply State.setInstState_frame
    | (simp -zeta -beta -iota only [Fr.mk_iff]; first | refine FrU.upd ?_ rfl | refine FrU.filter _ ?_ rfl)
    | with_reducible refine Fr.ite ?_ ?_
    | with_reducible refine Fr.ite2 ?_ ?_
    | dsimp -zeta only
    | split

theorem State.controlReset_frame {m_ : Nat} {o_ : State} {s : State} {n : Nat} {reply : Nat} (h_ : Fr m_ o_ s) (hm_ : Nat.land 19820081 m_ = 19820081) : Fr m_ o_ (State.controlReset s n reply) := by
  refine Fr.of h_ hm_ ?_
  clear h_ hm_
  have h_ := Fr.refl 19820081 s
  unfold State.controlReset
  repeat' first
    | with_reducible assumption
    | exact (rfl : Nat.land _ _ = _)
    | (extract_lets +onlyGivenNames x
       first
         | (have hx : Fr 19820081 s x := ?_
            (on_goal 1 => clear_value x)
            on_goal 2 => (unfold x; clear x))
         | (have hx : Fr 19820081 s x.2 := ?_
            (on_goal 1 => clear_value x)
            on_goal 2 => (unfold x; clear x))
         | (unfold x; clear x))
    | with_reducible apply State.modInst_frame
    | with_reducible apply State.answer_frame
    | with_reducible apply State.refuseEnables_frame
    | with_reducible apply State.sweepLanes_frame
    | with_reducible apply State.resetInstance_frame
    | with_reducible apply State.setInstState_frame
    | (simp -zeta -beta -iota only [Fr.mk_iff]; first | refine FrU.upd ?_ rfl | refine FrU.filter _ ?_ rfl)
    | dsimp -zeta only
    | split

theorem State.heldEnables_frame {m_ : Nat} {o_ : State} {s : State} (h_ : Fr m_ o_ s) (hm_ : Nat.land 2097249 m_ = 2097249) : Fr m_ o_ (State.heldEnables s) := by
  refine Fr.of h_ hm_ ?_
  clear h_ hm_
  have h_ := Fr.refl 2097249 s
  unfold State.heldEnables
  repeat' first
    | with_reducible assumption
    | exact (rfl : Nat.land _ _ = _)
    | with_reducible refine Fr.foldl _ _ ?_ (fun _ _ _ => ?_)
    | with_reducible apply State.tryEnables_frame
    | dsimp -zeta only

theorem execInstanceDrainComplete_frame {m_ : Nat} {o_ : State} {inst : Nat} {s : State} (h_ : Fr m_ o_ s) (hm_ : Nat.land 1210327411 m_ = 1210327411) : FrO m_ o_ (execInstanceDrainComplete inst s) := by
  refine FrO.of h_ hm_ ?_
  clear h_ hm_
  have h_ := Fr.refl 1210327411 s
  unfold execInstanceDrainComplete
  repeat' first
    | with_reducible assumption
    | exact (rfl : Nat.land _ _ = _)
    | (extract_lets +onlyGivenNames x
       first
         | (have hx : Fr 1210327411 s x := ?_
            (on_goal 1 => clear_value x)
            on_goal 2 => (unfold x; clear x))
         | (have hx : Fr 1210327411 s x.2 := ?_
            (on_goal 1 => clear_value x)
            on_goal 2 => (unfold x; clear x))
         | clear_value x)
    | with_reducible refine Fr.foldl _ _ ?_ (fun _ _ _ => ?_)
    | with_reducible apply State.answer_frame
    | with_reducible apply State.modInst_frame
    | with_reducible apply State.setInstState_frame
    | with_reducible apply State.tryEnables_frame
    | with_reducible apply State.settleMailbox_frame
    | with_reducible apply State.flushReplies_frame
    | with_reducible apply FrO.next
    | (simp -zeta -beta -iota only [Fr.mk_iff]; first | refine FrU.upd ?_ rfl | refine FrU.filter _ ?_ rfl)
    | with_reducible refine Fr.ite ?_ ?_
    | with_reducible refine FrO.ite ?_ ?_
    | dsimp -zeta only
    | split

theorem execCmdTimeoutExpiry_frame {m_ : Nat} {o_ : State} {job : Nat} {s : State} (h_ : Fr m_ o_ s) (hm_ : Nat.land 52391473 m_ = 52391473) : FrO m_ o_ (execCmdTimeoutExpiry job s) := by
  refine FrO.of h_ hm_ ?_
  clear h_ hm_
  have h_ := Fr.refl 52391473 s
  unfold execCmdTimeoutExpiry
  repeat' first
    | with_reducible assumption
    | exact (rfl : Nat.land _ _ = _)
    | (extract_lets +onlyGivenNames x
       first
         | (have hx : Fr 52391473 s x := ?_
            (on_goal 1 => clear_value x)
            on_goal 2 => (unfold x; clear x))
         | (have hx : Fr 52391473 s x.2 := ?_
            (on_goal 1 => clear_value x)
            on_goal 2 => (unfold x; clear x))
         | clear_value x)
    | with_reducible apply State.setJob_frame
    | with_reducible apply State.notePeaks_frame
    | with_reducible apply State.settle_frame
    | with_reducible apply FrO.next
    | (simp -zeta -beta -iota only [Fr.mk_iff]; first | refine FrU.upd ?_ rfl | refine FrU.filter _ ?_ rfl)
    | with_reducible refine Fr.ite ?_ ?_
    | with_reducible refine Fr.ite2 ?_ ?_
    | with_reducible refine FrO.ite ?_ ?_
    | dsimp -zeta only
    | split

theorem State.placeObj_frame {m_ : Nat} {o_ : State} {s : State} {o : Obj} (h_ : Fr m_ o_ s) (hm_ : Nat.land 262148 m_ = 262148) : Fr m_ o_ (State.placeObj s o) := by
  refine Fr.of h_ hm_ ?_
  clear h_ hm_
  have h_ := Fr.refl 262148 s
  unfold State.placeObj
  repeat' first
    | with_reducible assumption
    | exact (rfl : Nat.land _ _ = _)
    | with_reducible apply State.enter_frame
    | with_reducible apply State.setObj_frame

theorem State.restoreRange_frame {m_ : Nat} {o_ : State} {s : State} {lo : Nat} {hi : Nat} {objs : List Obj} (h_ : Fr m_ o_ s) (hm_ : Nat.land 262148 m_ = 262148) : Fr m_ o_ (State.restoreRange s lo hi objs) := by
  refine Fr.of h_ hm_ ?_
  clear h_ hm_
  have h_ := Fr.refl 262148 s
  unfold State.restoreRange
  repeat' first
    | with_reducible assumption
    | exact (rfl : Nat.land _ _ = _)
    | (extract_lets +onlyGivenNames x
       first
         | (have hx : Fr 262148 s x := ?_
            (on_goal 1 => clear_value x)
            on_goal 2 => (unfold x; clear x))
         | (have hx : Fr 262148 s x.2 := ?_
            (on_goal 1 => clear_value x)
            on_goal 2 => (unfold x; clear x))
         | clear_value x)
    | with_reducible refine Fr.foldl _ _ ?_ (fun _ _ _ => ?_)
    | with_reducible apply State.placeObj_frame
    | (simp -zeta -beta -iota only [Fr.mk_iff]; first | refine FrU.upd ?_ rfl | refine FrU.filter _ ?_ rfl)
    | dsimp -zeta only
    | split

theorem State.placeUncovered_frame {m_ : Nat} {o_ : State} {s : State} (h_ : Fr m_ o_ s) (hm_ : Nat.land 262148 m_ = 262148) : Fr m_ o_ (State.placeUncovered s) := by
  refine Fr.of h_ hm_ ?_
  clear h_ hm_
  have h_ := Fr.refl 262148 s
  unfold State.placeUncovered
  repeat' first
    | with_reducible assumption
    | exact (rfl : Nat.land _ _ = _)
    | with_reducible apply State.restoreRange_frame
    | with_reducible refine Fr.ite ?_ ?_
    | split

theorem State.setRestore_frame {m_ : Nat} {o_ : State} {s : State} {st : RestoreState} (h_ : Fr m_ o_ s) (hm_ : Nat.land 16810001 m_ = 16810001) : Fr m_ o_ (State.setRestore s st) := by
  refine Fr.of h_ hm_ ?_
  clear h_ hm_
  have h_ := Fr.refl 16810001 s
  unfold State.setRestore
  repeat' first
    | with_reducible assumption
    | exact (rfl : Nat.land _ _ = _)
    | (extract_lets +onlyGivenNames x
       first
         | (have hx : Fr 16810001 s x := ?_
            (on_goal 1 => clear_value x)
            on_goal 2 => (unfold x; clear x))
         | (have hx : Fr 16810001 s x.2 := ?_
            (on_goal 1 => clear_value x)
            on_goal 2 => (unfold x; clear x))
         | clear_value x)
    | with_reducible apply State.useStrandLanes_frame
    | with_reducible apply State.refreshDeviceState_frame
    | (simp -zeta -beta -iota only [Fr.mk_iff]; first | refine FrU.upd ?_ rfl | refine FrU.filter _ ?_ rfl)

theorem State.restoreFails_frame {m_ : Nat} {o_ : State} {s : State} (h_ : Fr m_ o_ s) (hm_ : Nat.land 18869809 m_ = 18869809) : Fr m_ o_ (State.restoreFails s) := by
  refine Fr.of h_ hm_ ?_
  clear h_ hm_
  have h_ := Fr.refl 18869809 s
  unfold State.restoreFails
  repeat' first
    | with_reducible assumption
    | exact (rfl : Nat.land _ _ = _)
    | (extract_lets +onlyGivenNames x
       first
         | (have hx : Fr 18869809 s x := ?_
            (on_goal 1 => clear_value x)
            on_goal 2 => (unfold x; clear x))
         | (have hx : Fr 18869809 s x.2 := ?_
            (on_goal 1 => clear_value x)
            on_goal 2 => (unfold x; clear x))
         | clear_value x)
    | with_reducible apply State.setRestore_frame
    | with_reducible apply State.event_frame
    | with_reducible apply State.notePeaks_frame
    | with_reducible apply State.settle_frame
    | (simp -zeta -beta -iota only [Fr.mk_iff]; first | refine FrU.upd ?_ rfl | refine FrU.filter _ ?_ rfl)
    | with_reducible refine Fr.ite ?_ ?_
    | with_reducible refine Fr.ite2 ?_ ?_
    | dsimp -zeta only
    | split

theorem State.startWalk_frame {m_ : Nat} {o_ : State} {s : State} (h_ : Fr m_ o_ s) (hm_ : Nat.land 262144 m_ = 262144) : Fr m_ o_ (State.startWalk s) := by
  refine Fr.of h_ hm_ ?_
  clear h_ hm_
  have h_ := Fr.refl 262144 s
  unfold State.startWalk
  repeat' first
    | with_reducible assumption
    | exact (rfl : Nat.land _ _ = _)
    | (extract_lets +onlyGivenNames x
       first
         | (have hx : Fr 262144 s x := ?_
            (on_goal 1 => clear_value x)
            on_goal 2 => (unfold x; clear x))
         | (have hx : Fr 262144 s x.2 := ?_
            (on_goal 1 => clear_value x)
            on_goal 2 => (unfold x; clear x))
         | clear_value x)
    | (simp -zeta -beta -iota only [Fr.mk_iff]; first | refine FrU.upd ?_ rfl | refine FrU.filter _ ?_ rfl)

theorem State.restoreDone_frame {m_ : Nat} {o_ : State} {s : State} (h_ : Fr m_ o_ s) (hm_ : Nat.land 294912 m_ = 294912) : Fr m_ o_ (State.restoreDone s) := by
  refine Fr.of h_ hm_ ?_
  clear h_ hm_
  have h_ := Fr.refl 294912 s
  unfold State.restoreDone
  repeat' first
    | with_reducible assumption
    | exact (rfl : Nat.land _ _ = _)
    | (extract_lets +onlyGivenNames x
       first
         | (have hx : Fr 294912 s x := ?_
            (on_goal 1 => clear_value x)
            on_goal 2 => (unfold x; clear x))
         | (have hx : Fr 294912 s x.2 := ?_
            (on_goal 1 => clear_value x)
            on_goal 2 => (unfold x; clear x))
         | clear_value x)
    | with_reducible apply State.resizeCheck_frame
    | with_reducible apply State.startWalk_frame
    | (simp -zeta -beta -iota only [Fr.mk_iff]; first | refine FrU.upd ?_ rfl | refine FrU.filter _ ?_ rfl)
    | with_reducible refine Fr.ite ?_ ?_
    | dsimp -zeta only
    | split

theorem State.restoreChunk_frame {m_ : Nat} {o_ : State} {s : State} {c : StrandItem} (h_ : Fr m_ o_ s) (hm_ : Nat.land 294916 m_ = 294916) : Fr m_ o_ (State.restoreChunk s c) := by
  refine Fr.of h_ hm_ ?_
  clear h_ hm_
  have h_ := Fr.refl 294916 s
  unfold State.restoreChunk
  repeat' first
    | with_reducible assumption
    | exact (rfl : Nat.land _ _ = _)
    | (extract_lets +onlyGivenNames x
       first
         | (have hx : Fr 294916 s x := ?_
            (on_goal 1 => clear_value x)
            on_goal 2 => (unfold x; clear x))
         | (have hx : Fr 294916 s x.2 := ?_
            (on_goal 1 => clear_value x)
            on_goal 2 => (unfold x; clear x))
         | clear_value x)
    | with_reducible apply State.restoreRange_frame
    | (simp -zeta -beta -iota only [Fr.mk_iff]; first | refine FrU.upd ?_ rfl | refine FrU.filter _ ?_ rfl)
    | with_reducible refine Fr.ite ?_ ?_
    | dsimp -zeta only
    | split

theorem State.restoreItem_frame {m_ : Nat} {o_ : State} {s : State} {c : StrandItem} (h_ : Fr m_ o_ s) (hm_ : Nat.land 18869813 m_ = 18869813) : Fr m_ o_ (State.restoreItem s c) := by
  refine Fr.of h_ hm_ ?_
  clear h_ hm_
  have h_ := Fr.refl 18869813 s
  unfold State.restoreItem
  repeat' first
    | with_reducible assumption
    | exact (rfl : Nat.land _ _ = _)
    | with_reducible apply State.refreshDeviceState_frame
    | with_reducible apply State.restoreDone_frame
    | with_reducible apply State.restoreChunk_frame
    | with_reducible apply State.restoreFails_frame
    | with_reducible refine Fr.ite ?_ ?_
    | split

theorem State.restoreFor_frame {m_ : Nat} {o_ : State} {s : State} {handle : Nat} (h_ : Fr m_ o_ s) (hm_ : Nat.land 18869813 m_ = 18869813) : Fr m_ o_ (State.restoreFor s handle) := by
  refine Fr.of h_ hm_ ?_
  clear h_ hm_
  have h_ := Fr.refl 18869813 s
  unfold State.restoreFor
  repeat' first
    | with_reducible assumption
    | exact (rfl : Nat.land _ _ = _)
    | (extract_lets +onlyGivenNames x
       first
         | (have hx : Fr 18869813 s x := ?_
            (on_goal 1 => clear_value x)
            on_goal 2 => (unfold x; clear x))
         | (have hx : Fr 18869813 s x.2 := ?_
            (on_goal 1 => clear_value x)
            on_goal 2 => (unfold x; clear x))
         | clear_value x)
    | with_reducible apply State.restoreItem_frame
    | (simp -zeta -beta -iota only [Fr.mk_iff]; first | refine FrU.upd ?_ rfl | refine FrU.filter _ ?_ rfl)
    | with_reducible refine Fr.ite ?_ ?_
    | with_reducible refine Fr.ite2 ?_ ?_
    | dsimp -zeta only
    | split

end Sys2Proof.Machine
end

