-- ==== Sys2Proof/Laws/FrameJobs.lean ====
section
/-! SUPPORT. Which pieces of State each function of admission, operations and the pipeline may change. -/

set_option maxRecDepth 4000
set_option linter.all false

namespace Sys2Proof.Machine

theorem State.chargeWait_frame {m_ : Nat} {o_ : State} {s : State} {j : Job} (h_ : Fr m_ o_ s) (hm_ : Nat.land 2097 m_ = 2097) : Fr m_ o_ (State.chargeWait s j) := by
  refine Fr.of h_ hm_ ?_
  clear h_ hm_
  have h_ := Fr.refl 2097 s
  unfold State.chargeWait
  repeat' first
    | with_reducible assumption
    | exact (rfl : Nat.land _ _ = _)
    | (extract_lets +onlyGivenNames x
       first
         | (have hx : Fr 2097 s x := ?_
            (on_goal 1 => clear_value x)
            on_goal 2 => (unfold x; clear x))
         | (have hx : Fr 2097 s x.2 := ?_
            (on_goal 1 => clear_value x)
            on_goal 2 => (unfold x; clear x))
         | clear_value x)
    | with_reducible apply State.modMeter_frame
    | (simp -zeta -beta -iota only [Fr.mk_iff]; first | refine FrU.upd ?_ rfl | refine FrU.filter _ ?_ rfl)
    | with_reducible refine Fr.ite ?_ ?_
    | dsimp -zeta only
    | split

theorem execRateBucketAdmit_frame {m_ : Nat} {o_ : State} {job : Nat} {s : State} (h_ : Fr m_ o_ s) (hm_ : Nat.land 2673 m_ = 2673) : FrO m_ o_ (execRateBucketAdmit job s) := by
  refine FrO.of h_ hm_ ?_
  clear h_ hm_
  have h_ := Fr.refl 2673 s
  unfold execRateBucketAdmit
  repeat' first
    | with_reducible assumption
    | exact (rfl : Nat.land _ _ = _)
    | (extract_lets +onlyGivenNames x
       first
         | (have hx : Fr 2673 s x := ?_
            (on_goal 1 => clear_value x)
            on_goal 2 => (unfold x; clear x))
         | (have hx : Fr 2673 s x.2 := ?_
            (on_goal 1 => clear_value x)
            on_goal 2 => (unfold x; clear x))
         | clear_value x)
    | with_reducible apply State.setJob_frame
    | with_reducible apply State.chargeWait_frame
    | with_reducible apply State.modSched_frame
    | with_reducible apply FrO.next
    | (simp -zeta -beta -iota only [Fr.mk_iff]; first | refine FrU.upd ?_ rfl | refine FrU.filter _ ?_ rfl)
    | with_reducible refine Fr.ite ?_ ?_
    | with_reducible refine Fr.ite2 ?_ ?_
    | with_reducible refine FrO.ite ?_ ?_
    | dsimp -zeta only
    | split

theorem execWaitLimitExpiry_frame {m_ : Nat} {o_ : State} {job : Nat} {s : State} (h_ : Fr m_ o_ s) (hm_ : Nat.land 18837041 m_ = 18837041) : FrO m_ o_ (execWaitLimitExpiry job s) := by
  refine FrO.of h_ hm_ ?_
  clear h_ hm_
  have h_ := Fr.refl 18837041 s
  unfold execWaitLimitExpiry
  repeat' first
    | with_reducible assumption
    | exact (rfl : Nat.land _ _ = _)
    | (extract_lets +onlyGivenNames x
       first
         | (have hx : Fr 18837041 s x := ?_
            (on_goal 1 => clear_value x)
            on_goal 2 => (unfold x; clear x))
         | (have hx : Fr 18837041 s x.2 := ?_
            (on_goal 1 => clear_value x)
            on_goal 2 => (unfold x; clear x))
         | clear_value x)
    | with_reducible apply State.settle_frame
    | with_reducible apply State.endEarly_frame
    | with_reducible apply State.chargeWait_frame
    | with_reducible apply FrO.next
    | (simp -zeta -beta -iota only [Fr.mk_iff]; first | refine FrU.upd ?_ rfl | refine FrU.filter _ ?_ rfl)
    | with_reducible refine Fr.ite ?_ ?_
    | with_reducible refine Fr.ite2 ?_ ?_
    | with_reducible refine FrO.ite ?_ ?_
    | dsimp -zeta only
    | split

theorem State.operandsKnown_frame {m_ : Nat} {o_ : State} {s : State} {id : Nat} {j : Job} {o : Option Obj} {second : Option Obj} (h_ : Fr m_ o_ s) (hm_ : Nat.land 18820657 m_ = 18820657) : Fr m_ o_ (State.operandsKnown s id j o second) := by
  refine Fr.of h_ hm_ ?_
  clear h_ hm_
  have h_ := Fr.refl 18820657 s
  unfold State.operandsKnown
  repeat' first
    | with_reducible assumption
    | exact (rfl : Nat.land _ _ = _)
    | (extract_lets +onlyGivenNames x
       first
         | (have hx : Fr 18820657 s x := ?_
            (on_goal 1 => clear_value x)
            on_goal 2 => (unfold x; clear x))
         | (have hx : Fr 18820657 s x.2 := ?_
            (on_goal 1 => clear_value x)
            on_goal 2 => (unfold x; clear x))
         | clear_value x)
    | with_reducible apply State.endEarly_frame
    | with_reducible apply State.setJob_frame
    | with_reducible apply State.emitRead_frame
    | with_reducible apply State.readFor_frame
    | with_reducible apply State.refuse_frame
    | (simp -zeta -beta -iota only [Fr.mk_iff]; first | refine FrU.upd ?_ rfl | refine FrU.filter _ ?_ rfl)
    | with_reducible refine Fr.ite ?_ ?_
    | with_reducible refine Fr.ite2 ?_ ?_
    | dsimp -zeta only
    | split

theorem State.noteHolds_frame {m_ : Nat} {o_ : State} {s : State} (h_ : Fr m_ o_ s) (hm_ : Nat.land 2097664 m_ = 2097664) : Fr m_ o_ (State.noteHolds s) := by
  refine Fr.of h_ hm_ ?_
  clear h_ hm_
  have h_ := Fr.refl 2097664 s
  unfold State.noteHolds
  repeat' first
    | with_reducible assumption
    | exact (rfl : Nat.land _ _ = _)
    | (extract_lets +onlyGivenNames x
       first
         | (have hx : Fr 2097664 s x := ?_
            (on_goal 1 => clear_value x)
            on_goal 2 => (unfold x; clear x))
         | (have hx : Fr 2097664 s x.2 := ?_
            (on_goal 1 => clear_value x)
            on_goal 2 => (unfold x; clear x))
         | clear_value x)
    | with_reducible refine Fr.foldl _ _ ?_ (fun _ _ _ => ?_)
    | with_reducible apply State.setJob_frame
    | with_reducible apply State.odStore_frame
    | (simp -zeta -beta -iota only [Fr.mk_iff]; first | refine FrU.upd ?_ rfl | refine FrU.filter _ ?_ rfl)
    | with_reducible refine Fr.ite ?_ ?_
    | with_reducible refine Fr.ite2 ?_ ?_
    | dsimp -zeta only
    | split

theorem State.holdGranules_frame {m_ : Nat} {o_ : State} {s : State} {n : Nat} {id : Nat} {j : Job} (h_ : Fr m_ o_ s) (hm_ : Nat.land 1537 m_ = 1537) : Fr m_ o_ (State.holdGranules s n id j) := by
  refine Fr.of h_ hm_ ?_
  clear h_ hm_
  have h_ := Fr.refl 1537 s
  unfold State.holdGranules
  repeat' first
    | with_reducible assumption
    | exact (rfl : Nat.land _ _ = _)
    | (extract_lets +onlyGivenNames x
       first
         | (have hx : Fr 1537 s x := ?_
            (on_goal 1 => clear_value x)
            on_goal 2 => (unfold x; clear x))
         | (have hx : Fr 1537 s x.2 := ?_
            (on_goal 1 => clear_value x)
            on_goal 2 => (unfold x; clear x))
         | clear_value x)
    | with_reducible apply State.count_frame
    | with_reducible apply State.setJob_frame
    | (simp -zeta -beta -iota only [Fr.mk_iff]; first | refine FrU.upd ?_ rfl | refine FrU.filter _ ?_ rfl)
    | with_reducible refine Fr.ite ?_ ?_
    | dsimp -zeta only
    | split

theorem State.admitJob_frame {m_ : Nat} {o_ : State} {s : State} {n : Nat} {id : Nat} {j : Job} (h_ : Fr m_ o_ s) (hm_ : Nat.land 18820657 m_ = 18820657) : Fr m_ o_ (State.admitJob s n id j) := by
  refine Fr.of h_ hm_ ?_
  clear h_ hm_
  have h_ := Fr.refl 18820657 s
  unfold State.admitJob
  repeat' first
    | with_reducible assumption
    | exact (rfl : Nat.land _ _ = _)
    | (extract_lets +onlyGivenNames x
       first
         | (have hx : Fr 18820657 s x := ?_
            (on_goal 1 => clear_value x)
            on_goal 2 => (unfold x; clear x))
         | (have hx : Fr 18820657 s x.2 := ?_
            (on_goal 1 => clear_value x)
            on_goal 2 => (unfold x; clear x))
         | clear_value x)
    | with_reducible apply State.setJob_frame
    | with_reducible apply State.operandsKnown_frame
    | with_reducible apply State.refuse_frame
    | (simp -zeta -beta -iota only [Fr.mk_iff]; first | refine FrU.upd ?_ rfl | refine FrU.filter _ ?_ rfl)
    | with_reducible refine Fr.ite ?_ ?_
    | dsimp -zeta only
    | split

theorem execLocketAdmission_frame {m_ : Nat} {o_ : State} {s : State} (h_ : Fr m_ o_ s) (hm_ : Nat.land 20934193 m_ = 20934193) : FrO m_ o_ (execLocketAdmission s) := by
  refine FrO.of h_ hm_ ?_
  clear h_ hm_
  have h_ := Fr.refl 20934193 s
  unfold execLocketAdmission
  repeat' first
    | with_reducible assumption
    | exact (rfl : Nat.land _ _ = _)
    | (extract_lets +onlyGivenNames x
       first
         | (have hx : Fr 20934193 s x := ?_
            (on_goal 1 => clear_value x)
            on_goal 2 => (unfold x; clear x))
         | (have hx : Fr 20934193 s x.2 := ?_
            (on_goal 1 => clear_value x)
            on_goal 2 => (unfold x; clear x))
         | clear_value x)
    | with_reducible apply State.noteHolds_frame
    | with_reducible apply State.settle_frame
    | with_reducible apply State.endEarly_frame
    | with_reducible apply State.notePeaks_frame
    | with_reducible apply State.admitJob_frame
    | with_reducible apply State.holdGranules_frame
    | with_reducible apply FrO.next
    | (simp -zeta -beta -iota only [Fr.mk_iff]; first | refine FrU.upd ?_ rfl | refine FrU.filter _ ?_ rfl)
    | with_reducible refine Fr.ite ?_ ?_
    | with_reducible refine Fr.ite2 ?_ ?_
    | with_reducible refine FrO.ite ?_ ?_
    | dsimp -zeta only
    | split

theorem State.found_frame {m_ : Nat} {o_ : State} {s : State} {id : Nat} {j : Job} (h_ : Fr m_ o_ s) (hm_ : Nat.land 18869813 m_ = 18869813) : Fr m_ o_ (State.found s id j) := by
  refine Fr.of h_ hm_ ?_
  clear h_ hm_
  have h_ := Fr.refl 18869813 s
  unfold State.found
  repeat' first
    | with_reducible assumption
    | exact (rfl : Nat.land _ _ = _)
    | (extract_lets +onlyGivenNames x
       first
         | (have hx : Fr 18869813 s x := ?_
            (on_goal 1 => clear_value x)
            on_goal 2 => (unfold x; clear x))
         | (have hx : Fr 18869813 s x.2 := ?_
            (on_goal 1 => clear_value x)
            on_goal 2 => (unfold x; clear x))
         | clear_value x)
    | with_reducible refine Fr.foldl _ _ ?_ (fun _ _ _ => ?_)
    | with_reducible apply State.restoreFor_frame
    | with_reducible apply State.endEarly_frame
    | with_reducible apply State.operandsKnown_frame
    | (simp -zeta -beta -iota only [Fr.mk_iff]; first | refine FrU.upd ?_ rfl | refine FrU.filter _ ?_ rfl)
    | with_reducible refine Fr.ite ?_ ?_
    | dsimp -zeta only
    | split

theorem State.lookup_frame {m_ : Nat} {o_ : State} {s : State} {id : Nat} {j : Job} (h_ : Fr m_ o_ s) (hm_ : Nat.land 18869813 m_ = 18869813) : Fr m_ o_ (State.lookup s id j) := by
  refine Fr.of h_ hm_ ?_
  clear h_ hm_
  have h_ := Fr.refl 18869813 s
  unfold State.lookup
  repeat' first
    | with_reducible assumption
    | exact (rfl : Nat.land _ _ = _)
    | (extract_lets +onlyGivenNames x
       first
         | (have hx : Fr 18869813 s x := ?_
            (on_goal 1 => clear_value x)
            on_goal 2 => (unfold x; clear x))
         | (have hx : Fr 18869813 s x.2 := ?_
            (on_goal 1 => clear_value x)
            on_goal 2 => (unfold x; clear x))
         | clear_value x)
    | with_reducible apply State.setJob_frame
    | with_reducible apply State.found_frame
    | (simp -zeta -beta -iota only [Fr.mk_iff]; first | refine FrU.upd ?_ rfl | refine FrU.filter _ ?_ rfl)
    | with_reducible refine Fr.ite ?_ ?_
    | dsimp -zeta only
    | split

theorem execDirectoryLookupComplete_frame {m_ : Nat} {o_ : State} {job : Nat} {s : State} (h_ : Fr m_ o_ s) (hm_ : Nat.land 18869813 m_ = 18869813) : FrO m_ o_ (execDirectoryLookupComplete job s) := by
  refine FrO.of h_ hm_ ?_
  clear h_ hm_
  have h_ := Fr.refl 18869813 s
  unfold execDirectoryLookupComplete
  repeat' first
    | with_reducible assumption
    | exact (rfl : Nat.land _ _ = _)
    | (extract_lets +onlyGivenNames x
       first
         | (have hx : Fr 18869813 s x := ?_
            (on_goal 1 => clear_value x)
            on_goal 2 => (unfold x; clear x))
         | (have hx : Fr 18869813 s x.2 := ?_
            (on_goal 1 => clear_value x)
            on_goal 2 => (unfold x; clear x))
         | clear_value x)
    | with_reducible apply State.settle_frame
    | with_reducible apply State.lookup_frame
    | with_reducible apply FrO.next
    | (simp -zeta -beta -iota only [Fr.mk_iff]; first | refine FrU.upd ?_ rfl | refine FrU.filter _ ?_ rfl)
    | with_reducible refine Fr.ite ?_ ?_
    | with_reducible refine Fr.ite2 ?_ ?_
    | with_reducible refine FrO.ite ?_ ?_
    | dsimp -zeta only
    | split

theorem execObjectUnsealComplete_frame {m_ : Nat} {o_ : State} {job : Nat} {tagOk : Bool} {s : State} (h_ : Fr m_ o_ s) (hm_ : Nat.land 786944 m_ = 786944) : FrO m_ o_ (execObjectUnsealComplete job tagOk s) := by
  refine FrO.of h_ hm_ ?_
  clear h_ hm_
  have h_ := Fr.refl 786944 s
  unfold execObjectUnsealComplete
  repeat' first
    | with_reducible assumption
    | exact (rfl : Nat.land _ _ = _)
    | (extract_lets +onlyGivenNames x
       first
         | (have hx : Fr 786944 s x := ?_
            (on_goal 1 => clear_value x)
            on_goal 2 => (unfold x; clear x))
         | (have hx : Fr 786944 s x.2 := ?_
            (on_goal 1 => clear_value x)
            on_goal 2 => (unfold x; clear x))
         | clear_value x)
    | with_reducible apply State.setJob_frame
    | with_reducible apply State.fillRun_frame
    | refine Fr.pair1 (by assumption) (State.fillRun_frame (h_ := ?_) ?_)
    | with_reducible apply State.useSeal_frame
    | with_reducible apply State.damage_frame
    | with_reducible apply FrO.next
    | (simp -zeta -beta -iota only [Fr.mk_iff]; first | refine FrU.upd ?_ rfl | refine FrU.filter _ ?_ rfl)
    | with_reducible refine Fr.ite ?_ ?_
    | with_reducible refine Fr.ite2 ?_ ?_
    | with_reducible refine FrO.ite ?_ ?_
    | dsimp -zeta only
    | split

theorem State.setPlan_frame {m_ : Nat} {o_ : State} {s : State} {id : Nat} {j : Job} {p : Plan} (h_ : Fr m_ o_ s) (hm_ : Nat.land 1536 m_ = 1536) : Fr m_ o_ (State.setPlan s id j p) := by
  refine Fr.of h_ hm_ ?_
  clear h_ hm_
  have h_ := Fr.refl 1536 s
  unfold State.setPlan
  repeat' first
    | with_reducible assumption
    | exact (rfl : Nat.land _ _ = _)
    | (extract_lets +onlyGivenNames x
       first
         | (have hx : Fr 1536 s x := ?_
            (on_goal 1 => clear_value x)
            on_goal 2 => (unfold x; clear x))
         | (have hx : Fr 1536 s x.2 := ?_
            (on_goal 1 => clear_value x)
            on_goal 2 => (unfold x; clear x))
         | clear_value x)
    | with_reducible apply State.setJob_frame
    | (simp -zeta -beta -iota only [Fr.mk_iff]; first | refine FrU.upd ?_ rfl | refine FrU.filter _ ?_ rfl)
    | with_reducible refine Fr.ite ?_ ?_
    | dsimp -zeta only
    | split

theorem State.createObject_frame {m_ : Nat} {o_ : State} {s : State} {id : Nat} (h_ : Fr m_ o_ s) (hm_ : Nat.land 17629701 m_ = 17629701) : Fr m_ o_ (State.createObject s id) := by
  refine Fr.of h_ hm_ ?_
  clear h_ hm_
  have h_ := Fr.refl 17629701 s
  unfold State.createObject
  repeat' first
    | with_reducible assumption
    | exact (rfl : Nat.land _ _ = _)
    | (extract_lets +onlyGivenNames x
       first
         | (have hx : Fr 17629701 s x := ?_
            (on_goal 1 => clear_value x)
            on_goal 2 => (unfold x; clear x))
         | (have hx : Fr 17629701 s x.2 := ?_
            (on_goal 1 => clear_value x)
            on_goal 2 => (unfold x; clear x))
         | clear_value x)
    | with_reducible apply State.refuse_frame
    | with_reducible apply State.modOwner_frame
    | with_reducible apply State.setJob_frame
    | with_reducible apply State.resizeCheck_frame
    | with_reducible apply State.dirPending_frame
    | with_reducible apply State.fillRun_frame
    | refine Fr.pair1 (by assumption) (State.fillRun_frame (h_ := ?_) ?_)
    | (simp -zeta -beta -iota only [Fr.mk_iff]; first | refine FrU.upd ?_ rfl | refine FrU.filter _ ?_ rfl)
    | with_reducible refine Fr.ite ?_ ?_
    | with_reducible refine Fr.ite2 ?_ ?_
    | dsimp -zeta only
    | split

theorem State.workEnded_frame {m_ : Nat} {o_ : State} {s : State} {id : Nat} (h_ : Fr m_ o_ s) (hm_ : Nat.land 17629701 m_ = 17629701) : Fr m_ o_ (State.workEnded s id) := by
  refine Fr.of h_ hm_ ?_
  clear h_ hm_
  have h_ := Fr.refl 17629701 s
  unfold State.workEnded
  repeat' first
    | with_reducible assumption
    | exact (rfl : Nat.land _ _ = _)
    | (extract_lets +onlyGivenNames x
       first
         | (have hx : Fr 17629701 s x := ?_
            (on_goal 1 => clear_value x)
            on_goal 2 => (unfold x; clear x))
         | (have hx : Fr 17629701 s x.2 := ?_
            (on_goal 1 => clear_value x)
            on_goal 2 => (unfold x; clear x))
         | clear_value x)
    | with_reducible apply State.refuse_frame
    | with_reducible apply State.createObject_frame
    | (simp -zeta -beta -iota only [Fr.mk_iff]; first | refine FrU.upd ?_ rfl | refine FrU.filter _ ?_ rfl)
    | dsimp -zeta only
    | split

theorem State.runPlan_frame {m_ : Nat} {o_ : State} {s : State} {id : Nat} {op : Nat} {mk : State → Job → Plan} (h_ : Fr m_ o_ s) (hm_ : Nat.land 18837045 m_ = 18837045) : Fr m_ o_ (State.runPlan s id op mk) := by
  refine Fr.of h_ hm_ ?_
  clear h_ hm_
  have h_ := Fr.refl 18837045 s
  unfold State.runPlan
  repeat' first
    | with_reducible assumption
    | exact (rfl : Nat.land _ _ = _)
    | (extract_lets +onlyGivenNames x
       first
         | (have hx : Fr 18837045 s x := ?_
            (on_goal 1 => clear_value x)
            on_goal 2 => (unfold x; clear x))
         | (have hx : Fr 18837045 s x.2 := ?_
            (on_goal 1 => clear_value x)
            on_goal 2 => (unfold x; clear x))
         | clear_value x)
    | with_reducible apply State.setPlan_frame
    | with_reducible apply State.settle_frame
    | with_reducible apply State.workEnded_frame
    | (simp -zeta -beta -iota only [Fr.mk_iff]; first | refine FrU.upd ?_ rfl | refine FrU.filter _ ?_ rfl)
    | with_reducible refine Fr.ite ?_ ?_
    | with_reducible refine Fr.ite2 ?_ ?_
    | dsimp -zeta only
    | split

theorem State.searchStep_frame {m_ : Nat} {o_ : State} {s : State} {j : Job} (h_ : Fr m_ o_ s) (hm_ : Nat.land 4 m_ = 4) : Fr m_ o_ (State.searchStep s j).2 := by
  refine Fr.of h_ hm_ ?_
  clear h_ hm_
  have h_ := Fr.refl 4 s
  unfold State.searchStep
  repeat' first
    | with_reducible assumption
    | exact (rfl : Nat.land _ _ = _)
    | (extract_lets +onlyGivenNames x
       first
         | (have hx : Fr 4 s x := ?_
            (on_goal 1 => clear_value x)
            on_goal 2 => (unfold x; clear x))
         | (have hx : Fr 4 s x.2 := ?_
            (on_goal 1 => clear_value x)
            on_goal 2 => (unfold x; clear x))
         | clear_value x)
    | (simp -zeta -beta -iota only [Fr.mk_iff]; first | refine FrU.upd ?_ rfl | refine FrU.filter _ ?_ rfl)
    | with_reducible refine Fr.ite ?_ ?_
    | with_reducible refine Fr.ite2 ?_ ?_
    | dsimp -zeta only
    | split

theorem execKeyGenerate_frame {m_ : Nat} {o_ : State} {job : Nat} {s : State} (h_ : Fr m_ o_ s) (hm_ : Nat.land 18837045 m_ = 18837045) : FrO m_ o_ (execKeyGenerate job s) := by
  refine FrO.of h_ hm_ ?_
  clear h_ hm_
  have h_ := Fr.refl 18837045 s
  unfold execKeyGenerate
  repeat' first
    | with_reducible assumption
    | exact (rfl : Nat.land _ _ = _)
    | (extract_lets +onlyGivenNames x
       first
         | (have hx : Fr 18837045 s x := ?_
            (on_goal 1 => clear_value x)
            on_goal 2 => (unfold x; clear x))
         | (have hx : Fr 18837045 s x.2 := ?_
            (on_goal 1 => clear_value x)
            on_goal 2 => (unfold x; clear x))
         | clear_value x)
    | with_reducible apply State.runPlan_frame
    | with_reducible apply State.modJob_frame
    | with_reducible apply FrO.next
    | (simp -zeta -beta -iota only [Fr.mk_iff]; first | refine FrU.upd ?_ rfl | refine FrU.filter _ ?_ rfl)
    | with_reducible refine Fr.ite ?_ ?_
    | with_reducible refine FrO.ite ?_ ?_
    | dsimp -zeta only
    | split

theorem execKeyImport_frame {m_ : Nat} {o_ : State} {job : Nat} {s : State} (h_ : Fr m_ o_ s) (hm_ : Nat.land 18837045 m_ = 18837045) : FrO m_ o_ (execKeyImport job s) := by
  refine FrO.of h_ hm_ ?_
  clear h_ hm_
  have h_ := Fr.refl 18837045 s
  unfold execKeyImport
  repeat' first
    | with_reducible assumption
    | exact (rfl : Nat.land _ _ = _)
    | with_reducible apply State.runPlan_frame
    | with_reducible apply FrO.next

theorem execKeyDerive_frame {m_ : Nat} {o_ : State} {job : Nat} {s : State} (h_ : Fr m_ o_ s) (hm_ : Nat.land 18837045 m_ = 18837045) : FrO m_ o_ (execKeyDerive job s) := by
  refine FrO.of h_ hm_ ?_
  clear h_ hm_
  have h_ := Fr.refl 18837045 s
  unfold execKeyDerive
  repeat' first
    | with_reducible assumption
    | exact (rfl : Nat.land _ _ = _)
    | (extract_lets +onlyGivenNames x
       first
         | (have hx : Fr 18837045 s x := ?_
            (on_goal 1 => clear_value x)
            on_goal 2 => (unfold x; clear x))
         | (have hx : Fr 18837045 s x.2 := ?_
            (on_goal 1 => clear_value x)
            on_goal 2 => (unfold x; clear x))
         | clear_value x)
    | with_reducible apply State.runPlan_frame
    | with_reducible apply State.cacheKey_frame
    | with_reducible apply FrO.next
    | (simp -zeta -beta -iota only [Fr.mk_iff]; first | refine FrU.upd ?_ rfl | refine FrU.filter _ ?_ rfl)
    | with_reducible refine Fr.ite ?_ ?_
    | with_reducible refine Fr.ite2 ?_ ?_
    | with_reducible refine FrO.ite ?_ ?_
    | dsimp -zeta only
    | split

theorem execKeyDestroy_frame {m_ : Nat} {o_ : State} {job : Nat} {s : State} (h_ : Fr m_ o_ s) (hm_ : Nat.land 18837045 m_ = 18837045) : FrO m_ o_ (execKeyDestroy job s) := by
  refine FrO.of h_ hm_ ?_
  clear h_ hm_
  have h_ := Fr.refl 18837045 s
  unfold execKeyDestroy
  repeat' first
    | with_reducible assumption
    | exact (rfl : Nat.land _ _ = _)
    | (extract_lets +onlyGivenNames x
       first
         | (have hx : Fr 18837045 s x := ?_
            (on_goal 1 => clear_value x)
            on_goal 2 => (unfold x; clear x))
         | (have hx : Fr 18837045 s x.2 := ?_
            (on_goal 1 => clear_value x)
            on_goal 2 => (unfold x; clear x))
         | clear_value x)
    | with_reducible apply State.runPlan_frame
    | with_reducible apply FrO.next
    | (simp -zeta -beta -iota only [Fr.mk_iff]; first | refine FrU.upd ?_ rfl | refine FrU.filter _ ?_ rfl)
    | dsimp -zeta only

theorem execKeySetPolicy_frame {m_ : Nat} {o_ : State} {job : Nat} {s : State} (h_ : Fr m_ o_ s) (hm_ : Nat.land 18837045 m_ = 18837045) : FrO m_ o_ (execKeySetPolicy job s) := by
  refine FrO.of h_ hm_ ?_
  clear h_ hm_
  have h_ := Fr.refl 18837045 s
  unfold execKeySetPolicy
  repeat' first
    | with_reducible assumption
    | exact (rfl : Nat.land _ _ = _)
    | (extract_lets +onlyGivenNames x
       first
         | (have hx : Fr 18837045 s x := ?_
            (on_goal 1 => clear_value x)
            on_goal 2 => (unfold x; clear x))
         | (have hx : Fr 18837045 s x.2 := ?_
            (on_goal 1 => clear_value x)
            on_goal 2 => (unfold x; clear x))
         | clear_value x)
    | with_reducible apply State.runPlan_frame
    | with_reducible apply FrO.next
    | (simp -zeta -beta -iota only [Fr.mk_iff]; first | refine FrU.upd ?_ rfl | refine FrU.filter _ ?_ rfl)
    | dsimp -zeta only

theorem execKeyExportWrapped_frame {m_ : Nat} {o_ : State} {job : Nat} {s : State} (h_ : Fr m_ o_ s) (hm_ : Nat.land 18837045 m_ = 18837045) : FrO m_ o_ (execKeyExportWrapped job s) := by
  refine FrO.of h_ hm_ ?_
  clear h_ hm_
  have h_ := Fr.refl 18837045 s
  unfold execKeyExportWrapped
  repeat' first
    | with_reducible assumption
    | exact (rfl : Nat.land _ _ = _)
    | with_reducible apply State.runPlan_frame
    | with_reducible apply FrO.next

theorem execKeyDescribe_frame {m_ : Nat} {o_ : State} {job : Nat} {s : State} (h_ : Fr m_ o_ s) (hm_ : Nat.land 18837045 m_ = 18837045) : FrO m_ o_ (execKeyDescribe job s) := by
  refine FrO.of h_ hm_ ?_
  clear h_ hm_
  have h_ := Fr.refl 18837045 s
  unfold execKeyDescribe
  repeat' first
    | with_reducible assumption
    | exact (rfl : Nat.land _ _ = _)
    | with_reducible apply State.runPlan_frame
    | with_reducible apply FrO.next
    | dsimp -zeta only

theorem execSign_frame {m_ : Nat} {o_ : State} {job : Nat} {s : State} (h_ : Fr m_ o_ s) (hm_ : Nat.land 18837045 m_ = 18837045) : FrO m_ o_ (execSign job s) := by
  refine FrO.of h_ hm_ ?_
  clear h_ hm_
  have h_ := Fr.refl 18837045 s
  unfold execSign
  repeat' first
    | with_reducible assumption
    | exact (rfl : Nat.land _ _ = _)
    | with_reducible apply State.runPlan_frame
    | with_reducible apply FrO.next

theorem execVerify_frame {m_ : Nat} {o_ : State} {job : Nat} {s : State} (h_ : Fr m_ o_ s) (hm_ : Nat.land 18837045 m_ = 18837045) : FrO m_ o_ (execVerify job s) := by
  refine FrO.of h_ hm_ ?_
  clear h_ hm_
  have h_ := Fr.refl 18837045 s
  unfold execVerify
  repeat' first
    | with_reducible assumption
    | exact (rfl : Nat.land _ _ = _)
    | with_reducible apply State.runPlan_frame
    | with_reducible apply FrO.next

theorem execAsymDecrypt_frame {m_ : Nat} {o_ : State} {job : Nat} {s : State} (h_ : Fr m_ o_ s) (hm_ : Nat.land 18837045 m_ = 18837045) : FrO m_ o_ (execAsymDecrypt job s) := by
  refine FrO.of h_ hm_ ?_
  clear h_ hm_
  have h_ := Fr.refl 18837045 s
  unfold execAsymDecrypt
  repeat' first
    | with_reducible assumption
    | exact (rfl : Nat.land _ _ = _)
    | (extract_lets +onlyGivenNames x
       first
         | (have hx : Fr 18837045 s x := ?_
            (on_goal 1 => clear_value x)
            on_goal 2 => (unfold x; clear x))
         | (have hx : Fr 18837045 s x.2 := ?_
            (on_goal 1 => clear_value x)
            on_goal 2 => (unfold x; clear x))
         | clear_value x)
    | with_reducible apply State.runPlan_frame
    | with_reducible apply FrO.next
    | with_reducible refine Fr.ite ?_ ?_
    | with_reducible refine Fr.ite2 ?_ ?_
    | with_reducible refine FrO.ite ?_ ?_
    | dsimp -zeta only
    | split

theorem execAsymEncrypt_frame {m_ : Nat} {o_ : State} {job : Nat} {s : State} (h_ : Fr m_ o_ s) (hm_ : Nat.land 18837045 m_ = 18837045) : FrO m_ o_ (execAsymEncrypt job s) := by
  refine FrO.of h_ hm_ ?_
  clear h_ hm_
  have h_ := Fr.refl 18837045 s
  unfold execAsymEncrypt
  repeat' first
    | with_reducible assumption
    | exact (rfl : Nat.land _ _ = _)
    | (extract_lets +onlyGivenNames x
       first
         | (have hx : Fr 18837045 s x := ?_
            (on_goal 1 => clear_value x)
            on_goal 2 => (unfold x; clear x))
         | (have hx : Fr 18837045 s x.2 := ?_
            (on_goal 1 => clear_value x)
            on_goal 2 => (unfold x; clear x))
         | clear_value x)
    | with_reducible apply State.runPlan_frame
    | with_reducible apply FrO.next
    | with_reducible refine Fr.ite ?_ ?_
    | with_reducible refine Fr.ite2 ?_ ?_
    | with_reducible refine FrO.ite ?_ ?_
    | dsimp -zeta only
    | split

theorem execAgree_frame {m_ : Nat} {o_ : State} {job : Nat} {s : State} (h_ : Fr m_ o_ s) (hm_ : Nat.land 18837045 m_ = 18837045) : FrO m_ o_ (execAgree job s) := by
  refine FrO.of h_ hm_ ?_
  clear h_ hm_
  have h_ := Fr.refl 18837045 s
  unfold execAgree
  repeat' first
    | with_reducible assumption
    | exact (rfl : Nat.land _ _ = _)
    | (extract_lets +onlyGivenNames x
       first
         | (have hx : Fr 18837045 s x := ?_
            (on_goal 1 => clear_value x)
            on_goal 2 => (unfold x; clear x))
         | (have hx : Fr 18837045 s x.2 := ?_
            (on_goal 1 => clear_value x)
            on_goal 2 => (unfold x; clear x))
         | clear_value x)
    | with_reducible apply State.runPlan_frame
    | with_reducible apply FrO.next
    | dsimp -zeta only

theorem execEncaps_frame {m_ : Nat} {o_ : State} {job : Nat} {s : State} (h_ : Fr m_ o_ s) (hm_ : Nat.land 18837045 m_ = 18837045) : FrO m_ o_ (execEncaps job s) := by
  refine FrO.of h_ hm_ ?_
  clear h_ hm_
  have h_ := Fr.refl 18837045 s
  unfold execEncaps
  repeat' first
    | with_reducible assumption
    | exact (rfl : Nat.land _ _ = _)
    | (extract_lets +onlyGivenNames x
       first
         | (have hx : Fr 18837045 s x := ?_
            (on_goal 1 => clear_value x)
            on_goal 2 => (unfold x; clear x))
         | (have hx : Fr 18837045 s x.2 := ?_
            (on_goal 1 => clear_value x)
            on_goal 2 => (unfold x; clear x))
         | clear_value x)
    | with_reducible apply State.runPlan_frame
    | with_reducible apply FrO.next
    | with_reducible refine Fr.ite ?_ ?_
    | with_reducible refine Fr.ite2 ?_ ?_
    | with_reducible refine FrO.ite ?_ ?_
    | dsimp -zeta only
    | split

theorem execDecaps_frame {m_ : Nat} {o_ : State} {job : Nat} {s : State} (h_ : Fr m_ o_ s) (hm_ : Nat.land 18837045 m_ = 18837045) : FrO m_ o_ (execDecaps job s) := by
  refine FrO.of h_ hm_ ?_
  clear h_ hm_
  have h_ := Fr.refl 18837045 s
  unfold execDecaps
  repeat' first
    | with_reducible assumption
    | exact (rfl : Nat.land _ _ = _)
    | with_reducible apply State.runPlan_frame
    | with_reducible apply FrO.next
    | dsimp -zeta only

theorem execAeadSeal_frame {m_ : Nat} {o_ : State} {job : Nat} {s : State} (h_ : Fr m_ o_ s) (hm_ : Nat.land 18837045 m_ = 18837045) : FrO m_ o_ (execAeadSeal job s) := by
  refine FrO.of h_ hm_ ?_
  clear h_ hm_
  have h_ := Fr.refl 18837045 s
  unfold execAeadSeal
  repeat' first
    | with_reducible assumption
    | exact (rfl : Nat.land _ _ = _)
    | (extract_lets +onlyGivenNames x
       first
         | (have hx : Fr 18837045 s x := ?_
            (on_goal 1 => clear_value x)
            on_goal 2 => (unfold x; clear x))
         | (have hx : Fr 18837045 s x.2 := ?_
            (on_goal 1 => clear_value x)
            on_goal 2 => (unfold x; clear x))
         | clear_value x)
    | with_reducible apply State.runPlan_frame
    | with_reducible apply FrO.next
    | with_reducible refine Fr.ite ?_ ?_
    | with_reducible refine FrO.ite ?_ ?_
    | dsimp -zeta only
    | split

theorem execAeadOpen_frame {m_ : Nat} {o_ : State} {job : Nat} {s : State} (h_ : Fr m_ o_ s) (hm_ : Nat.land 18837045 m_ = 18837045) : FrO m_ o_ (execAeadOpen job s) := by
  refine FrO.of h_ hm_ ?_
  clear h_ hm_
  have h_ := Fr.refl 18837045 s
  unfold execAeadOpen
  repeat' first
    | with_reducible assumption
    | exact (rfl : Nat.land _ _ = _)
    | (extract_lets +onlyGivenNames x
       first
         | (have hx : Fr 18837045 s x := ?_
            (on_goal 1 => clear_value x)
            on_goal 2 => (unfold x; clear x))
         | (have hx : Fr 18837045 s x.2 := ?_
            (on_goal 1 => clear_value x)
            on_goal 2 => (unfold x; clear x))
         | clear_value x)
    | with_reducible apply State.runPlan_frame
    | with_reducible apply FrO.next
    | dsimp -zeta only
    | split

theorem execCipher_frame {m_ : Nat} {o_ : State} {job : Nat} {s : State} (h_ : Fr m_ o_ s) (hm_ : Nat.land 18837045 m_ = 18837045) : FrO m_ o_ (execCipher job s) := by
  refine FrO.of h_ hm_ ?_
  clear h_ hm_
  have h_ := Fr.refl 18837045 s
  unfold execCipher
  repeat' first
    | with_reducible assumption
    | exact (rfl : Nat.land _ _ = _)
    | (extract_lets +onlyGivenNames x
       first
         | (have hx : Fr 18837045 s x := ?_
            (on_goal 1 => clear_value x)
            on_goal 2 => (unfold x; clear x))
         | (have hx : Fr 18837045 s x.2 := ?_
            (on_goal 1 => clear_value x)
            on_goal 2 => (unfold x; clear x))
         | clear_value x)
    | with_reducible apply State.runPlan_frame
    | with_reducible apply FrO.next
    | with_reducible refine Fr.ite ?_ ?_
    | with_reducible refine FrO.ite ?_ ?_
    | dsimp -zeta only
    | split

theorem execMac_frame {m_ : Nat} {o_ : State} {job : Nat} {s : State} (h_ : Fr m_ o_ s) (hm_ : Nat.land 18837045 m_ = 18837045) : FrO m_ o_ (execMac job s) := by
  refine FrO.of h_ hm_ ?_
  clear h_ hm_
  have h_ := Fr.refl 18837045 s
  unfold execMac
  repeat' first
    | with_reducible assumption
    | exact (rfl : Nat.land _ _ = _)
    | (extract_lets +onlyGivenNames x
       first
         | (have hx : Fr 18837045 s x := ?_
            (on_goal 1 => clear_value x)
            on_goal 2 => (unfold x; clear x))
         | (have hx : Fr 18837045 s x.2 := ?_
            (on_goal 1 => clear_value x)
            on_goal 2 => (unfold x; clear x))
         | clear_value x)
    | with_reducible apply State.runPlan_frame
    | with_reducible apply FrO.next
    | with_reducible refine Fr.ite ?_ ?_
    | with_reducible refine Fr.ite2 ?_ ?_
    | with_reducible refine FrO.ite ?_ ?_
    | dsimp -zeta only
    | split

theorem execWrap_frame {m_ : Nat} {o_ : State} {job : Nat} {s : State} (h_ : Fr m_ o_ s) (hm_ : Nat.land 18837045 m_ = 18837045) : FrO m_ o_ (execWrap job s) := by
  refine FrO.of h_ hm_ ?_
  clear h_ hm_
  have h_ := Fr.refl 18837045 s
  unfold execWrap
  repeat' first
    | with_reducible assumption
    | exact (rfl : Nat.land _ _ = _)
    | (extract_lets +onlyGivenNames x
       first
         | (have hx : Fr 18837045 s x := ?_
            (on_goal 1 => clear_value x)
            on_goal 2 => (unfold x; clear x))
         | (have hx : Fr 18837045 s x.2 := ?_
            (on_goal 1 => clear_value x)
            on_goal 2 => (unfold x; clear x))
         | clear_value x)
    | with_reducible apply State.runPlan_frame
    | with_reducible apply FrO.next
    | with_reducible refine Fr.ite ?_ ?_
    | with_reducible refine FrO.ite ?_ ?_
    | dsimp -zeta only
    | split

theorem execUnwrap_frame {m_ : Nat} {o_ : State} {job : Nat} {s : State} (h_ : Fr m_ o_ s) (hm_ : Nat.land 18837045 m_ = 18837045) : FrO m_ o_ (execUnwrap job s) := by
  refine FrO.of h_ hm_ ?_
  clear h_ hm_
  have h_ := Fr.refl 18837045 s
  unfold execUnwrap
  repeat' first
    | with_reducible assumption
    | exact (rfl : Nat.land _ _ = _)
    | (extract_lets +onlyGivenNames x
       first
         | (have hx : Fr 18837045 s x := ?_
            (on_goal 1 => clear_value x)
            on_goal 2 => (unfold x; clear x))
         | (have hx : Fr 18837045 s x.2 := ?_
            (on_goal 1 => clear_value x)
            on_goal 2 => (unfold x; clear x))
         | clear_value x)
    | with_reducible apply State.runPlan_frame
    | with_reducible apply FrO.next
    | (simp -zeta -beta -iota only [Fr.mk_iff]; first | refine FrU.upd ?_ rfl | refine FrU.filter _ ?_ rfl)
    | with_reducible refine Fr.ite ?_ ?_
    | with_reducible refine Fr.ite2 ?_ ?_
    | with_reducible refine FrO.ite ?_ ?_
    | dsimp -zeta only
    | split

theorem execRandom_frame {m_ : Nat} {o_ : State} {job : Nat} {s : State} (h_ : Fr m_ o_ s) (hm_ : Nat.land 18837045 m_ = 18837045) : FrO m_ o_ (execRandom job s) := by
  refine FrO.of h_ hm_ ?_
  clear h_ hm_
  have h_ := Fr.refl 18837045 s
  unfold execRandom
  repeat' first
    | with_reducible assumption
    | exact (rfl : Nat.land _ _ = _)
    | with_reducible apply State.runPlan_frame
    | with_reducible apply FrO.next
    | dsimp -zeta only

theorem execHash_frame {m_ : Nat} {o_ : State} {job : Nat} {s : State} (h_ : Fr m_ o_ s) (hm_ : Nat.land 18837045 m_ = 18837045) : FrO m_ o_ (execHash job s) := by
  refine FrO.of h_ hm_ ?_
  clear h_ hm_
  have h_ := Fr.refl 18837045 s
  unfold execHash
  repeat' first
    | with_reducible assumption
    | exact (rfl : Nat.land _ _ = _)
    | (extract_lets +onlyGivenNames x
       first
         | (have hx : Fr 18837045 s x := ?_
            (on_goal 1 => clear_value x)
            on_goal 2 => (unfold x; clear x))
         | (have hx : Fr 18837045 s x.2 := ?_
            (on_goal 1 => clear_value x)
            on_goal 2 => (unfold x; clear x))
         | clear_value x)
    | with_reducible apply State.runPlan_frame
    | with_reducible apply FrO.next
    | with_reducible refine Fr.ite ?_ ?_
    | with_reducible refine FrO.ite ?_ ?_
    | dsimp -zeta only
    | split

theorem execOwnerApprove_frame {m_ : Nat} {o_ : State} {job : Nat} {s : State} (h_ : Fr m_ o_ s) (hm_ : Nat.land 18837045 m_ = 18837045) : FrO m_ o_ (execOwnerApprove job s) := by
  refine FrO.of h_ hm_ ?_
  clear h_ hm_
  have h_ := Fr.refl 18837045 s
  unfold execOwnerApprove
  repeat' first
    | with_reducible assumption
    | exact (rfl : Nat.land _ _ = _)
    | with_reducible apply State.runPlan_frame
    | with_reducible apply FrO.next

theorem execCounterRead_frame {m_ : Nat} {o_ : State} {job : Nat} {s : State} (h_ : Fr m_ o_ s) (hm_ : Nat.land 18837045 m_ = 18837045) : FrO m_ o_ (execCounterRead job s) := by
  refine FrO.of h_ hm_ ?_
  clear h_ hm_
  have h_ := Fr.refl 18837045 s
  unfold execCounterRead
  repeat' first
    | with_reducible assumption
    | exact (rfl : Nat.land _ _ = _)
    | (extract_lets +onlyGivenNames x
       first
         | (have hx : Fr 18837045 s x := ?_
            (on_goal 1 => clear_value x)
            on_goal 2 => (unfold x; clear x))
         | (have hx : Fr 18837045 s x.2 := ?_
            (on_goal 1 => clear_value x)
            on_goal 2 => (unfold x; clear x))
         | clear_value x)
    | with_reducible apply State.runPlan_frame
    | with_reducible apply FrO.next
    | (simp -zeta -beta -iota only [Fr.mk_iff]; first | refine FrU.upd ?_ rfl | refine FrU.filter _ ?_ rfl)
    | with_reducible refine Fr.ite ?_ ?_
    | with_reducible refine FrO.ite ?_ ?_
    | dsimp -zeta only
    | split

theorem execAttestQuote_frame {m_ : Nat} {o_ : State} {job : Nat} {s : State} (h_ : Fr m_ o_ s) (hm_ : Nat.land 18837045 m_ = 18837045) : FrO m_ o_ (execAttestQuote job s) := by
  refine FrO.of h_ hm_ ?_
  clear h_ hm_
  have h_ := Fr.refl 18837045 s
  unfold execAttestQuote
  repeat' first
    | with_reducible assumption
    | exact (rfl : Nat.land _ _ = _)
    | with_reducible apply State.runPlan_frame
    | with_reducible apply FrO.next
    | dsimp -zeta only

theorem State.missAgain_frame {m_ : Nat} {o_ : State} {s : State} {id : Nat} {h : Nat} (h_ : Fr m_ o_ s) (hm_ : Nat.land 524800 m_ = 524800) : Fr m_ o_ (State.missAgain s id h) := by
  refine Fr.of h_ hm_ ?_
  clear h_ hm_
  have h_ := Fr.refl 524800 s
  unfold State.missAgain
  repeat' first
    | with_reducible assumption
    | exact (rfl : Nat.land _ _ = _)
    | (extract_lets +onlyGivenNames x
       first
         | (have hx : Fr 524800 s x := ?_
            (on_goal 1 => clear_value x)
            on_goal 2 => (unfold x; clear x))
         | (have hx : Fr 524800 s x.2 := ?_
            (on_goal 1 => clear_value x)
            on_goal 2 => (unfold x; clear x))
         | clear_value x)
    | with_reducible apply State.modJob_frame
    | (simp -zeta -beta -iota only [Fr.mk_iff]; first | refine FrU.upd ?_ rfl | refine FrU.filter _ ?_ rfl)
    | dsimp -zeta only

theorem State.settingFailed_frame {m_ : Nat} {o_ : State} {s : State} {id : Nat} {r : Run} {setting : Nat} (h_ : Fr m_ o_ s) (hm_ : Nat.land 1832807989 m_ = 1832807989) : Fr m_ o_ (State.settingFailed s id r setting) := by
  refine Fr.of h_ hm_ ?_
  clear h_ hm_
  have h_ := Fr.refl 1832807989 s
  unfold State.settingFailed
  repeat' first
    | with_reducible assumption
    | exact (rfl : Nat.land _ _ = _)
    | (extract_lets +onlyGivenNames x
       first
         | (have hx : Fr 1832807989 s x := ?_
            (on_goal 1 => clear_value x)
            on_goal 2 => (unfold x; clear x))
         | (have hx : Fr 1832807989 s x.2 := ?_
            (on_goal 1 => clear_value x)
            on_goal 2 => (unfold x; clear x))
         | clear_value x)
    | with_reducible apply State.count_frame
    | with_reducible apply State.alarm'_frame
    | with_reducible apply State.putBit_frame
    | with_reducible apply State.eraseRuns_frame
    | with_reducible apply State.missAgain_frame
    | (simp -zeta -beta -iota only [Fr.mk_iff]; first | refine FrU.upd ?_ rfl | refine FrU.filter _ ?_ rfl)
    | with_reducible refine Fr.ite ?_ ?_
    | dsimp -zeta only
    | split

theorem execEngineStart_frame {m_ : Nat} {o_ : State} {cls : Engine} {badSetting : Option Nat} {shareable : List Nat} {s : State} (h_ : Fr m_ o_ s) (hm_ : Nat.land 1832808181 m_ = 1832808181) : FrO m_ o_ (execEngineStart cls badSetting shareable s) := by
  refine FrO.of h_ hm_ ?_
  clear h_ hm_
  have h_ := Fr.refl 1832808181 s
  unfold execEngineStart
  repeat' first
    | with_reducible assumption
    | exact (rfl : Nat.land _ _ = _)
    | (extract_lets +onlyGivenNames x
       first
         | (have hx : Fr 1832808181 s x := ?_
            (on_goal 1 => clear_value x)
            on_goal 2 => (unfold x; clear x))
         | (have hx : Fr 1832808181 s x.2 := ?_
            (on_goal 1 => clear_value x)
            on_goal 2 => (unfold x; clear x))
         | clear_value x)
    | refine State.pick_frame (e_ := by assumption) (h_ := ?_) ?_
    | with_reducible apply State.settingFailed_frame
    | with_reducible apply State.occupy_frame
    | with_reducible apply State.missAgain_frame
    | with_reducible apply FrO.next
    | (simp -zeta -beta -iota only [Fr.mk_iff]; first | refine FrU.upd ?_ rfl | refine FrU.filter _ ?_ rfl)
    | with_reducible refine Fr.ite ?_ ?_
    | with_reducible refine Fr.ite2 ?_ ?_
    | with_reducible refine FrO.ite ?_ ?_
    | dsimp -zeta only
    | split

theorem State.showWork_frame {m_ : Nat} {o_ : State} {s : State} {e : Engine} {n : Nat} {t : Nat} {reject : Bool} (h_ : Fr m_ o_ s) (hm_ : Nat.land 1 m_ = 1) : Fr m_ o_ (State.showWork s e n t reject) := by
  refine Fr.of h_ hm_ ?_
  clear h_ hm_
  have h_ := Fr.refl 1 s
  unfold State.showWork
  repeat' first
    | with_reducible assumption
    | exact (rfl : Nat.land _ _ = _)
    | (extract_lets +onlyGivenNames x
       first
         | (have hx : Fr 1 s x := ?_
            (on_goal 1 => clear_value x)
            on_goal 2 => (unfold x; clear x))
         | (have hx : Fr 1 s x.2 := ?_
            (on_goal 1 => clear_value x)
            on_goal 2 => (unfold x; clear x))
         | clear_value x)
    | with_reducible apply State.put_frame
    | with_reducible apply State.putBit_frame
    | (simp -zeta -beta -iota only [Fr.mk_iff]; first | refine FrU.upd ?_ rfl | refine FrU.filter _ ?_ rfl)
    | dsimp -zeta only
    | split

theorem State.countWork_frame {m_ : Nat} {o_ : State} {s : State} {e : Engine} {reject : Bool} {mismatch : Bool} {iters : Nat} {stallNs : Nat} (h_ : Fr m_ o_ s) (hm_ : Nat.land 16777216 m_ = 16777216) : Fr m_ o_ (State.countWork s e reject mismatch iters stallNs) := by
  refine Fr.of h_ hm_ ?_
  clear h_ hm_
  have h_ := Fr.refl 16777216 s
  unfold State.countWork
  repeat' first
    | with_reducible assumption
    | exact (rfl : Nat.land _ _ = _)
    | (extract_lets +onlyGivenNames x
       first
         | (have hx : Fr 16777216 s x := ?_
            (on_goal 1 => clear_value x)
            on_goal 2 => (unfold x; clear x))
         | (have hx : Fr 16777216 s x.2 := ?_
            (on_goal 1 => clear_value x)
            on_goal 2 => (unfold x; clear x))
         | clear_value x)
    | with_reducible apply State.setCluster_frame
    | (simp -zeta -beta -iota only [Fr.mk_iff]; first | refine FrU.upd ?_ rfl | refine FrU.filter _ ?_ rfl)
    | dsimp -zeta only
    | split

theorem State.leaveUnit_frame {m_ : Nat} {o_ : State} {s : State} {e : Engine} {n : Nat} {last : Bool} (h_ : Fr m_ o_ s) (hm_ : Nat.land 17301505 m_ = 17301505) : Fr m_ o_ (State.leaveUnit s e n last) := by
  refine Fr.of h_ hm_ ?_
  clear h_ hm_
  have h_ := Fr.refl 17301505 s
  unfold State.leaveUnit
  repeat' first
    | with_reducible assumption
    | exact (rfl : Nat.land _ _ = _)
    | (extract_lets +onlyGivenNames x
       first
         | (have hx : Fr 17301505 s x := ?_
            (on_goal 1 => clear_value x)
            on_goal 2 => (unfold x; clear x))
         | (have hx : Fr 17301505 s x.2 := ?_
            (on_goal 1 => clear_value x)
            on_goal 2 => (unfold x; clear x))
         | clear_value x)
    | with_reducible apply State.wipeLane_frame
    | with_reducible apply State.freeLane_frame
    | with_reducible apply State.leaveCore_frame
    | (simp -zeta -beta -iota only [Fr.mk_iff]; first | refine FrU.upd ?_ rfl | refine FrU.filter _ ?_ rfl)
    | with_reducible refine Fr.ite ?_ ?_
    | with_reducible refine Fr.ite2 ?_ ?_
    | dsimp -zeta only
    | split

theorem State.endStep_frame {m_ : Nat} {o_ : State} {s : State} {id : Nat} {j : Job} {stallNs : Nat} (h_ : Fr m_ o_ s) (hm_ : Nat.land 17632821 m_ = 17632821) : Fr m_ o_ (State.endStep s id j stallNs) := by
  refine Fr.of h_ hm_ ?_
  clear h_ hm_
  have h_ := Fr.refl 17632821 s
  unfold State.endStep
  repeat' first
    | with_reducible assumption
    | exact (rfl : Nat.land _ _ = _)
    | (extract_lets +onlyGivenNames x
       first
         | (have hx : Fr 17632821 s x := ?_
            (on_goal 1 => clear_value x)
            on_goal 2 => (unfold x; clear x))
         | (have hx : Fr 17632821 s x.2 := ?_
            (on_goal 1 => clear_value x)
            on_goal 2 => (unfold x; clear x))
         | clear_value x)
    | with_reducible apply State.showWork_frame
    | with_reducible apply State.countWork_frame
    | with_reducible apply State.setJob_frame
    | with_reducible apply State.leaveUnit_frame
    | with_reducible apply State.chargeWaste_frame
    | with_reducible apply State.workEnded_frame
    | (simp -zeta -beta -iota only [Fr.mk_iff]; first | refine FrU.upd ?_ rfl | refine FrU.filter _ ?_ rfl)
    | with_reducible refine Fr.ite ?_ ?_
    | with_reducible refine Fr.ite2 ?_ ?_
    | dsimp -zeta only
    | split

theorem execEngineWorkEnd_frame {m_ : Nat} {o_ : State} {job : Nat} {stallNs : Nat} {s : State} (h_ : Fr m_ o_ s) (hm_ : Nat.land 18837045 m_ = 18837045) : FrO m_ o_ (execEngineWorkEnd job stallNs s) := by
  refine FrO.of h_ hm_ ?_
  clear h_ hm_
  have h_ := Fr.refl 18837045 s
  unfold execEngineWorkEnd
  repeat' first
    | with_reducible assumption
    | exact (rfl : Nat.land _ _ = _)
    | (extract_lets +onlyGivenNames x
       first
         | (have hx : Fr 18837045 s x := ?_
            (on_goal 1 => clear_value x)
            on_goal 2 => (unfold x; clear x))
         | (have hx : Fr 18837045 s x.2 := ?_
            (on_goal 1 => clear_value x)
            on_goal 2 => (unfold x; clear x))
         | clear_value x)
    | with_reducible apply State.writeStream_frame
    | with_reducible apply State.notePeaks_frame
    | with_reducible apply State.settle_frame
    | with_reducible apply State.endStep_frame
    | with_reducible apply State.stallLane_frame
    | with_reducible apply State.searchStep_frame
    | refine Fr.pair (by assumption) (State.searchStep_frame (h_ := ?_) ?_)
    | with_reducible apply FrO.next
    | (simp -zeta -beta -iota only [Fr.mk_iff]; first | refine FrU.upd ?_ rfl | refine FrU.filter _ ?_ rfl)
    | with_reducible refine Fr.ite ?_ ?_
    | with_reducible refine Fr.ite2 ?_ ?_
    | with_reducible refine FrO.ite ?_ ?_
    | dsimp -zeta only
    | split

theorem execLaneDeadlineExpiry_frame {m_ : Nat} {o_ : State} {job : Nat} {stallNs : Nat} {s : State} (h_ : Fr m_ o_ s) (hm_ : Nat.land 18837045 m_ = 18837045) : FrO m_ o_ (execLaneDeadlineExpiry job stallNs s) := by
  refine FrO.of h_ hm_ ?_
  clear h_ hm_
  have h_ := Fr.refl 18837045 s
  unfold execLaneDeadlineExpiry
  repeat' first
    | with_reducible assumption
    | exact (rfl : Nat.land _ _ = _)
    | (extract_lets +onlyGivenNames x
       first
         | (have hx : Fr 18837045 s x := ?_
            (on_goal 1 => clear_value x)
            on_goal 2 => (unfold x; clear x))
         | (have hx : Fr 18837045 s x.2 := ?_
            (on_goal 1 => clear_value x)
            on_goal 2 => (unfold x; clear x))
         | clear_value x)
    | with_reducible apply State.notePeaks_frame
    | with_reducible apply State.settle_frame
    | with_reducible apply State.endStep_frame
    | with_reducible apply FrO.next
    | (simp -zeta -beta -iota only [Fr.mk_iff]; first | refine FrU.upd ?_ rfl | refine FrU.filter _ ?_ rfl)
    | with_reducible refine Fr.ite ?_ ?_
    | with_reducible refine Fr.ite2 ?_ ?_
    | with_reducible refine FrO.ite ?_ ?_
    | dsimp -zeta only
    | split

theorem State.permit_frame {m_ : Nat} {o_ : State} {s : State} {id : Nat} (h_ : Fr m_ o_ s) (hm_ : Nat.land 512 m_ = 512) : Fr m_ o_ (State.permit s id) := by
  refine Fr.of h_ hm_ ?_
  clear h_ hm_
  have h_ := Fr.refl 512 s
  unfold State.permit
  repeat' first
    | with_reducible assumption
    | exact (rfl : Nat.land _ _ = _)
    | (extract_lets +onlyGivenNames x
       first
         | (have hx : Fr 512 s x := ?_
            (on_goal 1 => clear_value x)
            on_goal 2 => (unfold x; clear x))
         | (have hx : Fr 512 s x.2 := ?_
            (on_goal 1 => clear_value x)
            on_goal 2 => (unfold x; clear x))
         | clear_value x)
    | with_reducible apply State.modJob_frame
    | (simp -zeta -beta -iota only [Fr.mk_iff]; first | refine FrU.upd ?_ rfl | refine FrU.filter _ ?_ rfl)
    | dsimp -zeta only

theorem execPolicyHwDecision_frame {m_ : Nat} {o_ : State} {job : Nat} {s : State} (h_ : Fr m_ o_ s) (hm_ : Nat.land 18837041 m_ = 18837041) : FrO m_ o_ (execPolicyHwDecision job s) := by
  refine FrO.of h_ hm_ ?_
  clear h_ hm_
  have h_ := Fr.refl 18837041 s
  unfold execPolicyHwDecision
  repeat' first
    | with_reducible assumption
    | exact (rfl : Nat.land _ _ = _)
    | (extract_lets +onlyGivenNames x
       first
         | (have hx : Fr 18837041 s x := ?_
            (on_goal 1 => clear_value x)
            on_goal 2 => (unfold x; clear x))
         | (have hx : Fr 18837041 s x.2 := ?_
            (on_goal 1 => clear_value x)
            on_goal 2 => (unfold x; clear x))
         | clear_value x)
    | with_reducible apply State.notePeaks_frame
    | with_reducible apply State.settle_frame
    | with_reducible apply State.refuse_frame
    | with_reducible apply State.permit_frame
    | with_reducible apply FrO.next
    | (simp -zeta -beta -iota only [Fr.mk_iff]; first | refine FrU.upd ?_ rfl | refine FrU.filter _ ?_ rfl)
    | with_reducible refine Fr.ite ?_ ?_
    | with_reducible refine Fr.ite2 ?_ ?_
    | with_reducible refine FrO.ite ?_ ?_
    | dsimp -zeta only
    | split

theorem State.polIrq_frame {m_ : Nat} {o_ : State} {s : State} (h_ : Fr m_ o_ s) (hm_ : Nat.land 134217729 m_ = 134217729) : Fr m_ o_ (State.polIrq s) := by
  refine Fr.of h_ hm_ ?_
  clear h_ hm_
  have h_ := Fr.refl 134217729 s
  unfold State.polIrq
  repeat' first
    | with_reducible assumption
    | exact (rfl : Nat.land _ _ = _)
    | with_reducible apply State.raiseIrq_frame
    | with_reducible apply State.dropIrq_frame
    | with_reducible refine Fr.ite ?_ ?_
    | split

theorem execPolicyRequestPost_frame {m_ : Nat} {o_ : State} {job : Nat} {s : State} (h_ : Fr m_ o_ s) (hm_ : Nat.land 153054771 m_ = 153054771) : FrO m_ o_ (execPolicyRequestPost job s) := by
  refine FrO.of h_ hm_ ?_
  clear h_ hm_
  have h_ := Fr.refl 153054771 s
  unfold execPolicyRequestPost
  repeat' first
    | with_reducible assumption
    | exact (rfl : Nat.land _ _ = _)
    | (extract_lets +onlyGivenNames x
       first
         | (have hx : Fr 153054771 s x := ?_
            (on_goal 1 => clear_value x)
            on_goal 2 => (unfold x; clear x))
         | (have hx : Fr 153054771 s x.2 := ?_
            (on_goal 1 => clear_value x)
            on_goal 2 => (unfold x; clear x))
         | clear_value x)
    | with_reducible apply State.notePeaks_frame
    | with_reducible apply State.settle_frame
    | with_reducible apply State.refuse_frame
    | with_reducible apply State.setJob_frame
    | with_reducible apply State.deviceWrite_frame
    | with_reducible apply State.put_frame
    | with_reducible apply State.polIrq_frame
    | with_reducible apply FrO.next
    | (simp -zeta -beta -iota only [Fr.mk_iff]; first | refine FrU.upd ?_ rfl | refine FrU.filter _ ?_ rfl)
    | with_reducible refine Fr.ite ?_ ?_
    | with_reducible refine Fr.ite2 ?_ ?_
    | with_reducible refine FrO.ite ?_ ?_
    | dsimp -zeta only
    | split

theorem State.stalePolicy_frame {m_ : Nat} {o_ : State} {s : State} (h_ : Fr m_ o_ s) (hm_ : Nat.land 1 m_ = 1) : Fr m_ o_ (State.stalePolicy s) := by
  refine Fr.of h_ hm_ ?_
  clear h_ hm_
  have h_ := Fr.refl 1 s
  unfold State.stalePolicy
  repeat' first
    | with_reducible assumption
    | exact (rfl : Nat.land _ _ = _)
    | with_reducible apply State.put_frame

theorem execPolicyPermit_frame {m_ : Nat} {o_ : State} {job : Nat} {seq : Nat} {s : State} (h_ : Fr m_ o_ s) (hm_ : Nat.land 18837041 m_ = 18837041) : FrO m_ o_ (execPolicyPermit job seq s) := by
  refine FrO.of h_ hm_ ?_
  clear h_ hm_
  have h_ := Fr.refl 18837041 s
  unfold execPolicyPermit
  repeat' first
    | with_reducible assumption
    | exact (rfl : Nat.land _ _ = _)
    | with_reducible apply State.notePeaks_frame
    | with_reducible apply State.settle_frame
    | with_reducible apply State.permit_frame
    | with_reducible apply State.stalePolicy_frame
    | with_reducible apply FrO.next
    | with_reducible refine Fr.ite ?_ ?_
    | with_reducible refine FrO.ite ?_ ?_
    | dsimp -zeta only
    | split

theorem execPolicyDeny_frame {m_ : Nat} {o_ : State} {job : Nat} {seq : Nat} {s : State} (h_ : Fr m_ o_ s) (hm_ : Nat.land 18837041 m_ = 18837041) : FrO m_ o_ (execPolicyDeny job seq s) := by
  refine FrO.of h_ hm_ ?_
  clear h_ hm_
  have h_ := Fr.refl 18837041 s
  unfold execPolicyDeny
  repeat' first
    | with_reducible assumption
    | exact (rfl : Nat.land _ _ = _)
    | with_reducible apply State.notePeaks_frame
    | with_reducible apply State.settle_frame
    | with_reducible apply State.refuse_frame
    | with_reducible apply State.stalePolicy_frame
    | with_reducible apply FrO.next
    | with_reducible refine Fr.ite ?_ ?_
    | with_reducible refine FrO.ite ?_ ?_
    | dsimp -zeta only
    | split

theorem execPolicyDecisionTimeout_frame {m_ : Nat} {o_ : State} {job : Nat} {s : State} (h_ : Fr m_ o_ s) (hm_ : Nat.land 18837041 m_ = 18837041) : FrO m_ o_ (execPolicyDecisionTimeout job s) := by
  refine FrO.of h_ hm_ ?_
  clear h_ hm_
  have h_ := Fr.refl 18837041 s
  unfold execPolicyDecisionTimeout
  repeat' first
    | with_reducible assumption
    | exact (rfl : Nat.land _ _ = _)
    | (extract_lets +onlyGivenNames x
       first
         | (have hx : Fr 18837041 s x := ?_
            (on_goal 1 => clear_value x)
            on_goal 2 => (unfold x; clear x))
         | (have hx : Fr 18837041 s x.2 := ?_
            (on_goal 1 => clear_value x)
            on_goal 2 => (unfold x; clear x))
         | clear_value x)
    | with_reducible apply State.notePeaks_frame
    | with_reducible apply State.settle_frame
    | with_reducible apply State.refuse_frame
    | with_reducible apply FrO.next
    | (simp -zeta -beta -iota only [Fr.mk_iff]; first | refine FrU.upd ?_ rfl | refine FrU.filter _ ?_ rfl)
    | with_reducible refine Fr.ite ?_ ?_
    | with_reducible refine Fr.ite2 ?_ ?_
    | with_reducible refine FrO.ite ?_ ?_
    | dsimp -zeta only
    | split

theorem execUsageBlockCreate_frame {m_ : Nat} {o_ : State} {handle : Nat} {s : State} (h_ : Fr m_ o_ s) (hm_ : Nat.land 18837041 m_ = 18837041) : FrO m_ o_ (execUsageBlockCreate handle s) := by
  refine FrO.of h_ hm_ ?_
  clear h_ hm_
  have h_ := Fr.refl 18837041 s
  unfold execUsageBlockCreate
  repeat' first
    | with_reducible assumption
    | exact (rfl : Nat.land _ _ = _)
    | (extract_lets +onlyGivenNames x
       first
         | (have hx : Fr 18837041 s x := ?_
            (on_goal 1 => clear_value x)
            on_goal 2 => (unfold x; clear x))
         | (have hx : Fr 18837041 s x.2 := ?_
            (on_goal 1 => clear_value x)
            on_goal 2 => (unfold x; clear x))
         | clear_value x)
    | with_reducible apply State.notePeaks_frame
    | with_reducible apply State.settle_frame
    | with_reducible apply State.setUsage_frame
    | with_reducible apply State.joinRec_frame
    | refine Fr.pair (by assumption) (State.joinRec_frame (h_ := ?_) ?_)
    | with_reducible apply FrO.next
    | (simp -zeta -beta -iota only [Fr.mk_iff]; first | refine FrU.upd ?_ rfl | refine FrU.filter _ ?_ rfl)
    | with_reducible refine Fr.ite ?_ ?_
    | with_reducible refine Fr.ite2 ?_ ?_
    | with_reducible refine FrO.ite ?_ ?_
    | dsimp -zeta only
    | split

theorem execApprovalWaitExpiry_frame {m_ : Nat} {o_ : State} {job : Nat} {s : State} (h_ : Fr m_ o_ s) (hm_ : Nat.land 18837041 m_ = 18837041) : FrO m_ o_ (execApprovalWaitExpiry job s) := by
  refine FrO.of h_ hm_ ?_
  clear h_ hm_
  have h_ := Fr.refl 18837041 s
  unfold execApprovalWaitExpiry
  repeat' first
    | with_reducible assumption
    | exact (rfl : Nat.land _ _ = _)
    | (extract_lets +onlyGivenNames x
       first
         | (have hx : Fr 18837041 s x := ?_
            (on_goal 1 => clear_value x)
            on_goal 2 => (unfold x; clear x))
         | (have hx : Fr 18837041 s x.2 := ?_
            (on_goal 1 => clear_value x)
            on_goal 2 => (unfold x; clear x))
         | clear_value x)
    | with_reducible apply State.notePeaks_frame
    | with_reducible apply State.settle_frame
    | with_reducible apply State.refuse_frame
    | with_reducible apply FrO.next
    | (simp -zeta -beta -iota only [Fr.mk_iff]; first | refine FrU.upd ?_ rfl | refine FrU.filter _ ?_ rfl)
    | with_reducible refine Fr.ite ?_ ?_
    | with_reducible refine Fr.ite2 ?_ ?_
    | with_reducible refine FrO.ite ?_ ?_
    | dsimp -zeta only
    | split

theorem execResultRelease_frame {m_ : Nat} {o_ : State} {job : Nat} {s : State} (h_ : Fr m_ o_ s) (hm_ : Nat.land 16777777 m_ = 16777777) : FrO m_ o_ (execResultRelease job s) := by
  refine FrO.of h_ hm_ ?_
  clear h_ hm_
  have h_ := Fr.refl 16777777 s
  unfold execResultRelease
  repeat' first
    | with_reducible assumption
    | exact (rfl : Nat.land _ _ = _)
    | (extract_lets +onlyGivenNames x
       first
         | (have hx : Fr 16777777 s x := ?_
            (on_goal 1 => clear_value x)
            on_goal 2 => (unfold x; clear x))
         | (have hx : Fr 16777777 s x.2 := ?_
            (on_goal 1 => clear_value x)
            on_goal 2 => (unfold x; clear x))
         | clear_value x)
    | with_reducible apply State.emitOutput_frame
    | with_reducible apply State.emit_frame
    | with_reducible apply State.msix_frame
    | with_reducible apply State.modInst_frame
    | with_reducible apply State.setJob_frame
    | with_reducible apply State.freeLane_frame
    | with_reducible apply FrO.next
    | (simp -zeta -beta -iota only [Fr.mk_iff]; first | refine FrU.upd ?_ rfl | refine FrU.filter _ ?_ rfl)
    | with_reducible refine Fr.ite ?_ ?_
    | with_reducible refine Fr.ite2 ?_ ?_
    | with_reducible refine FrO.ite ?_ ?_
    | dsimp -zeta only
    | split

theorem execLocketPeakClear_frame {m_ : Nat} {o_ : State} {s : State} (h_ : Fr m_ o_ s) (hm_ : Nat.land 1 m_ = 1) : FrO m_ o_ (execLocketPeakClear s) := by
  refine FrO.of h_ hm_ ?_
  clear h_ hm_
  have h_ := Fr.refl 1 s
  unfold execLocketPeakClear
  repeat' first
    | with_reducible assumption
    | exact (rfl : Nat.land _ _ = _)
    | with_reducible apply State.put_frame
    | with_reducible apply FrO.next

end Sys2Proof.Machine
end

