-- ==== Sys2Proof/Laws/FrameUnits.lean ====
section
/-! SUPPORT. Which pieces of State each function of the strand commands, meter ring, object store, keys, officers, entropy and core clusters may change. -/

set_option maxRecDepth 4000
set_option linter.all false

namespace Sys2Proof.Machine

theorem State.riseNotice_frame {m_ : Nat} {o_ : State} {s : State} {f : Fld} {on : Bool} (h_ : Fr m_ o_ s) (hm_ : Nat.land 16401 m_ = 16401) : Fr m_ o_ (State.riseNotice s f on) := by
  refine Fr.of h_ hm_ ?_
  clear h_ hm_
  have h_ := Fr.refl 16401 s
  unfold State.riseNotice
  repeat' first
    | with_reducible assumption
    | exact (rfl : Nat.land _ _ = _)
    | with_reducible apply State.journalNotice_frame
    | with_reducible apply State.putBit_frame
    | with_reducible refine Fr.ite ?_ ?_
    | split

theorem State.showStrand_frame {m_ : Nat} {o_ : State} {s : State} (h_ : Fr m_ o_ s) (hm_ : Nat.land 16401 m_ = 16401) : Fr m_ o_ (State.showStrand s) := by
  refine Fr.of h_ hm_ ?_
  clear h_ hm_
  have h_ := Fr.refl 16401 s
  unfold State.showStrand
  repeat' first
    | with_reducible assumption
    | exact (rfl : Nat.land _ _ = _)
    | with_reducible apply State.riseNotice_frame

theorem State.showRing_frame {m_ : Nat} {o_ : State} {s : State} (h_ : Fr m_ o_ s) (hm_ : Nat.land 16793617 m_ = 16793617) : Fr m_ o_ (State.showRing s) := by
  refine Fr.of h_ hm_ ?_
  clear h_ hm_
  have h_ := Fr.refl 16793617 s
  unfold State.showRing
  repeat' first
    | with_reducible assumption
    | exact (rfl : Nat.land _ _ = _)
    | (extract_lets +onlyGivenNames x
       first
         | (have hx : Fr 16793617 s x := ?_
            (on_goal 1 => clear_value x)
            on_goal 2 => (unfold x; clear x))
         | (have hx : Fr 16793617 s x.2 := ?_
            (on_goal 1 => clear_value x)
            on_goal 2 => (unfold x; clear x))
         | clear_value x)
    | with_reducible apply State.useStrandLanes_frame
    | with_reducible apply State.riseNotice_frame
    | (simp -zeta -beta -iota only [Fr.mk_iff]; first | refine FrU.upd ?_ rfl | refine FrU.filter _ ?_ rfl)
    | dsimp -zeta only
    | split

theorem State.closeAtTick_frame {m_ : Nat} {o_ : State} {s : State} (h_ : Fr m_ o_ s) (hm_ : Nat.land 16793617 m_ = 16793617) : Fr m_ o_ (State.closeAtTick s) := by
  refine Fr.of h_ hm_ ?_
  clear h_ hm_
  have h_ := Fr.refl 16793617 s
  unfold State.closeAtTick
  repeat' first
    | with_reducible assumption
    | exact (rfl : Nat.land _ _ = _)
    | (extract_lets +onlyGivenNames x
       first
         | (have hx : Fr 16793617 s x := ?_
            (on_goal 1 => clear_value x)
            on_goal 2 => (unfold x; clear x))
         | (have hx : Fr 16793617 s x.2 := ?_
            (on_goal 1 => clear_value x)
            on_goal 2 => (unfold x; clear x))
         | clear_value x)
    | with_reducible apply State.showRing_frame
    | with_reducible apply State.closeBead_frame
    | (simp -zeta -beta -iota only [Fr.mk_iff]; first | refine FrU.upd ?_ rfl | refine FrU.filter _ ?_ rfl)
    | with_reducible refine Fr.ite ?_ ?_
    | with_reducible refine Fr.ite2 ?_ ?_
    | dsimp -zeta only
    | split

theorem State.applyOd_frame {m_ : Nat} {o_ : State} {s : State} {index : Nat} {sub : Nat} {v : Bytes} (h_ : Fr m_ o_ s) (hm_ : Nat.land 45883397 m_ = 45883397) : Fr m_ o_ (State.applyOd s index sub v) := by
  refine Fr.of h_ hm_ ?_
  clear h_ hm_
  have h_ := Fr.refl 45883397 s
  unfold State.applyOd
  repeat' first
    | with_reducible assumption
    | exact (rfl : Nat.land _ _ = _)
    | (extract_lets +onlyGivenNames x
       first
         | (have hx : Fr 45883397 s x := ?_
            (on_goal 1 => clear_value x)
            on_goal 2 => (unfold x; clear x))
         | (have hx : Fr 45883397 s x.2 := ?_
            (on_goal 1 => clear_value x)
            on_goal 2 => (unfold x; clear x))
         | clear_value x)
    | with_reducible apply State.odStore_frame
    | with_reducible apply State.eraseRuns_frame
    | with_reducible apply State.startWalk_frame
    | with_reducible apply State.cancelSignet_frame
    | (simp -zeta -beta -iota only [Fr.mk_iff]; first | refine FrU.upd ?_ rfl | refine FrU.filter _ ?_ rfl)
    | with_reducible refine Fr.ite ?_ ?_
    | with_reducible refine Fr.ite2 ?_ ?_
    | dsimp -zeta only
    | split

theorem State.noteChange_frame {m_ : Nat} {o_ : State} {s : State} {segment : Nat} {keep : Checkpoint → Checkpoint} (h_ : Fr m_ o_ s) (hm_ : Nat.land 16384 m_ = 16384) : Fr m_ o_ (State.noteChange s segment keep) := by
  refine Fr.of h_ hm_ ?_
  clear h_ hm_
  have h_ := Fr.refl 16384 s
  unfold State.noteChange
  repeat' first
    | with_reducible assumption
    | exact (rfl : Nat.land _ _ = _)
    | (extract_lets +onlyGivenNames x
       first
         | (have hx : Fr 16384 s x := ?_
            (on_goal 1 => clear_value x)
            on_goal 2 => (unfold x; clear x))
         | (have hx : Fr 16384 s x.2 := ?_
            (on_goal 1 => clear_value x)
            on_goal 2 => (unfold x; clear x))
         | clear_value x)
    | (simp -zeta -beta -iota only [Fr.mk_iff]; first | refine FrU.upd ?_ rfl | refine FrU.filter _ ?_ rfl)
    | with_reducible refine Fr.ite ?_ ?_
    | with_reducible refine Fr.ite2 ?_ ?_
    | dsimp -zeta only
    | split

theorem State.noteObjChange_frame {m_ : Nat} {o_ : State} {s : State} {h : Nat} (h_ : Fr m_ o_ s) (hm_ : Nat.land 16384 m_ = 16384) : Fr m_ o_ (State.noteObjChange s h) := by
  refine Fr.of h_ hm_ ?_
  clear h_ hm_
  have h_ := Fr.refl 16384 s
  unfold State.noteObjChange
  repeat' first
    | with_reducible assumption
    | exact (rfl : Nat.land _ _ = _)
    | (extract_lets +onlyGivenNames x
       first
         | (have hx : Fr 16384 s x := ?_
            (on_goal 1 => clear_value x)
            on_goal 2 => (unfold x; clear x))
         | (have hx : Fr 16384 s x.2 := ?_
            (on_goal 1 => clear_value x)
            on_goal 2 => (unfold x; clear x))
         | clear_value x)
    | with_reducible apply State.noteChange_frame
    | (simp -zeta -beta -iota only [Fr.mk_iff]; first | refine FrU.upd ?_ rfl | refine FrU.filter _ ?_ rfl)
    | with_reducible refine Fr.ite ?_ ?_
    | with_reducible refine Fr.ite2 ?_ ?_
    | dsimp -zeta only
    | split

theorem State.noteSetting_frame {m_ : Nat} {o_ : State} {s : State} {key : Nat} {before : Option Bytes} (h_ : Fr m_ o_ s) (hm_ : Nat.land 16384 m_ = 16384) : Fr m_ o_ (State.noteSetting s key before) := by
  refine Fr.of h_ hm_ ?_
  clear h_ hm_
  have h_ := Fr.refl 16384 s
  unfold State.noteSetting
  repeat' first
    | with_reducible assumption
    | exact (rfl : Nat.land _ _ = _)
    | (extract_lets +onlyGivenNames x
       first
         | (have hx : Fr 16384 s x := ?_
            (on_goal 1 => clear_value x)
            on_goal 2 => (unfold x; clear x))
         | (have hx : Fr 16384 s x.2 := ?_
            (on_goal 1 => clear_value x)
            on_goal 2 => (unfold x; clear x))
         | clear_value x)
    | with_reducible apply State.noteChange_frame
    | (simp -zeta -beta -iota only [Fr.mk_iff]; first | refine FrU.upd ?_ rfl | refine FrU.filter _ ?_ rfl)
    | with_reducible refine Fr.ite ?_ ?_
    | with_reducible refine Fr.ite2 ?_ ?_
    | dsimp -zeta only
    | split

theorem State.noteOdChange_frame {m_ : Nat} {o_ : State} {s : State} {key : Nat} (h_ : Fr m_ o_ s) (hm_ : Nat.land 16384 m_ = 16384) : Fr m_ o_ (State.noteOdChange s key) := by
  refine Fr.of h_ hm_ ?_
  clear h_ hm_
  have h_ := Fr.refl 16384 s
  unfold State.noteOdChange
  repeat' first
    | with_reducible assumption
    | exact (rfl : Nat.land _ _ = _)
    | with_reducible apply State.noteSetting_frame
    | dsimp -zeta only

theorem State.noteSerial_frame {m_ : Nat} {o_ : State} {s : State} {owner : Nat} (h_ : Fr m_ o_ s) (hm_ : Nat.land 16384 m_ = 16384) : Fr m_ o_ (State.noteSerial s owner) := by
  refine Fr.of h_ hm_ ?_
  clear h_ hm_
  have h_ := Fr.refl 16384 s
  unfold State.noteSerial
  repeat' first
    | with_reducible assumption
    | exact (rfl : Nat.land _ _ = _)
    | with_reducible apply State.noteSetting_frame

theorem State.overlayAdd_frame {m_ : Nat} {o_ : State} {s : State} {b : Nat} {r : Rec} (h_ : Fr m_ o_ s) (hm_ : Nat.land 262144 m_ = 262144) : Fr m_ o_ (State.overlayAdd s b r) := by
  refine Fr.of h_ hm_ ?_
  clear h_ hm_
  have h_ := Fr.refl 262144 s
  unfold State.overlayAdd
  repeat' first
    | with_reducible assumption
    | exact (rfl : Nat.land _ _ = _)
    | (extract_lets +onlyGivenNames x
       first
         | (have hx : Fr 262144 s x := ?_
            (on_goal 1 => clear_value x)
            on_goal 2 => (unfold x; clear x))
         | (have hx : Fr 262144 s x.2 := ?_
            (on_goal 1 => clear_value x)
            on_goal 2 => (unfold x; clear x))
         | clear_value x)
    | (simp -zeta -beta -iota only [Fr.mk_iff]; first | refine FrU.upd ?_ rfl | refine FrU.filter _ ?_ rfl)

theorem State.sealBody_frame {m_ : Nat} {o_ : State} {s : State} {b : Nat} {r : Rec} (h_ : Fr m_ o_ s) (hm_ : Nat.land 46096389 m_ = 46096389) : Fr m_ o_ (State.sealBody s b r) := by
  refine Fr.of h_ hm_ ?_
  clear h_ hm_
  have h_ := Fr.refl 46096389 s
  unfold State.sealBody
  repeat' first
    | with_reducible assumption
    | exact (rfl : Nat.land _ _ = _)
    | (extract_lets +onlyGivenNames x
       first
         | (have hx : Fr 46096389 s x := ?_
            (on_goal 1 => clear_value x)
            on_goal 2 => (unfold x; clear x))
         | (have hx : Fr 46096389 s x.2 := ?_
            (on_goal 1 => clear_value x)
            on_goal 2 => (unfold x; clear x))
         | clear_value x)
    | with_reducible refine Fr.foldl _ _ ?_ (fun _ _ _ => ?_)
    | with_reducible refine Fr.elim ?_ (fun _ => ?_)
    | with_reducible apply State.useSeal_frame
    | with_reducible apply State.setObj_frame
    | with_reducible apply State.noteObjChange_frame
    | with_reducible apply State.noteSerial_frame
    | with_reducible apply State.dirChange_frame
    | with_reducible apply State.modOwner_frame
    | with_reducible apply State.overlayAdd_frame
    | with_reducible apply State.eraseRuns_frame
    | with_reducible apply State.setUsage_frame
    | with_reducible apply State.applyOd_frame
    | with_reducible apply State.noteOdChange_frame
    | (simp -zeta -beta -iota only [Fr.mk_iff]; first | refine FrU.upd ?_ rfl | refine FrU.filter _ ?_ rfl)
    | with_reducible refine Fr.ite ?_ ?_
    | with_reducible refine Fr.ite2 ?_ ?_
    | dsimp -zeta only
    | split

theorem State.sealJob_frame {m_ : Nat} {o_ : State} {s : State} {b : Nat} {r : Rec} (h_ : Fr m_ o_ s) (hm_ : Nat.land 512 m_ = 512) : Fr m_ o_ (State.sealJob s b r) := by
  refine Fr.of h_ hm_ ?_
  clear h_ hm_
  have h_ := Fr.refl 512 s
  unfold State.sealJob
  repeat' first
    | with_reducible assumption
    | exact (rfl : Nat.land _ _ = _)
    | (extract_lets +onlyGivenNames x
       first
         | (have hx : Fr 512 s x := ?_
            (on_goal 1 => clear_value x)
            on_goal 2 => (unfold x; clear x))
         | (have hx : Fr 512 s x.2 := ?_
            (on_goal 1 => clear_value x)
            on_goal 2 => (unfold x; clear x))
         | clear_value x)
    | with_reducible apply State.modJob_frame
    | (simp -zeta -beta -iota only [Fr.mk_iff]; first | refine FrU.upd ?_ rfl | refine FrU.filter _ ?_ rfl)
    | with_reducible refine Fr.ite ?_ ?_
    | with_reducible refine Fr.ite2 ?_ ?_
    | dsimp -zeta only
    | split

theorem State.sealRec_frame {m_ : Nat} {o_ : State} {b : Nat} {s : State} {r : Rec} (h_ : Fr m_ o_ s) (hm_ : Nat.land 46096933 m_ = 46096933) : Fr m_ o_ (State.sealRec b s r) := by
  refine Fr.of h_ hm_ ?_
  clear h_ hm_
  have h_ := Fr.refl 46096933 s
  unfold State.sealRec
  repeat' first
    | with_reducible assumption
    | exact (rfl : Nat.land _ _ = _)
    | (extract_lets +onlyGivenNames x
       first
         | (have hx : Fr 46096933 s x := ?_
            (on_goal 1 => clear_value x)
            on_goal 2 => (unfold x; clear x))
         | (have hx : Fr 46096933 s x.2 := ?_
            (on_goal 1 => clear_value x)
            on_goal 2 => (unfold x; clear x))
         | clear_value x)
    | with_reducible apply State.sealBody_frame
    | with_reducible apply State.modInst_frame
    | with_reducible apply State.sealJob_frame
    | (simp -zeta -beta -iota only [Fr.mk_iff]; first | refine FrU.upd ?_ rfl | refine FrU.filter _ ?_ rfl)
    | with_reducible refine Fr.ite ?_ ?_
    | dsimp -zeta only
    | split

theorem State.stageBead_frame {m_ : Nat} {o_ : State} {s : State} {b : Bead} (h_ : Fr m_ o_ s) (hm_ : Nat.land 16384 m_ = 16384) : Fr m_ o_ (State.stageBead s b) := by
  refine Fr.of h_ hm_ ?_
  clear h_ hm_
  have h_ := Fr.refl 16384 s
  unfold State.stageBead
  repeat' first
    | with_reducible assumption
    | exact (rfl : Nat.land _ _ = _)
    | (extract_lets +onlyGivenNames x
       first
         | (have hx : Fr 16384 s x := ?_
            (on_goal 1 => clear_value x)
            on_goal 2 => (unfold x; clear x))
         | (have hx : Fr 16384 s x.2 := ?_
            (on_goal 1 => clear_value x)
            on_goal 2 => (unfold x; clear x))
         | clear_value x)
    | (simp -zeta -beta -iota only [Fr.mk_iff]; first | refine FrU.upd ?_ rfl | refine FrU.filter _ ?_ rfl)
    | dsimp -zeta only

theorem State.noteDue_frame {m_ : Nat} {o_ : State} {s : State} {n : Nat} (h_ : Fr m_ o_ s) (hm_ : Nat.land 2113536 m_ = 2113536) : Fr m_ o_ (State.noteDue s n) := by
  refine Fr.of h_ hm_ ?_
  clear h_ hm_
  have h_ := Fr.refl 2113536 s
  unfold State.noteDue
  repeat' first
    | with_reducible assumption
    | exact (rfl : Nat.land _ _ = _)
    | (extract_lets +onlyGivenNames x
       first
         | (have hx : Fr 2113536 s x := ?_
            (on_goal 1 => clear_value x)
            on_goal 2 => (unfold x; clear x))
         | (have hx : Fr 2113536 s x.2 := ?_
            (on_goal 1 => clear_value x)
            on_goal 2 => (unfold x; clear x))
         | clear_value x)
    | with_reducible apply State.odStore_frame
    | (simp -zeta -beta -iota only [Fr.mk_iff]; first | refine FrU.upd ?_ rfl | refine FrU.filter _ ?_ rfl)
    | with_reducible refine Fr.ite ?_ ?_
    | split

theorem execBeadSeal_frame {m_ : Nat} {o_ : State} {s : State} (h_ : Fr m_ o_ s) (hm_ : Nat.land 1270837111 m_ = 1270837111) : FrO m_ o_ (execBeadSeal s) := by
  refine FrO.of h_ hm_ ?_
  clear h_ hm_
  have h_ := Fr.refl 1270837111 s
  unfold execBeadSeal
  repeat' first
    | with_reducible assumption
    | exact (rfl : Nat.land _ _ = _)
    | (extract_lets +onlyGivenNames x
       first
         | (have hx : Fr 1270837111 s x := ?_
            (on_goal 1 => clear_value x)
            on_goal 2 => (unfold x; clear x))
         | (have hx : Fr 1270837111 s x.2 := ?_
            (on_goal 1 => clear_value x)
            on_goal 2 => (unfold x; clear x))
         | clear_value x)
    | with_reducible refine Fr.foldl _ _ ?_ (fun _ _ _ => ?_)
    | with_reducible apply State.noteDue_frame
    | with_reducible apply State.stageBead_frame
    | with_reducible apply State.useSeal_frame
    | with_reducible apply State.sealRec_frame
    | with_reducible apply State.heldEnables_frame
    | with_reducible apply State.resizeCheck_frame
    | with_reducible apply State.sealReplies_frame
    | with_reducible apply State.wakeNap_frame
    | with_reducible apply State.showRing_frame
    | with_reducible apply State.showStrand_frame
    | with_reducible apply State.notePeaks_frame
    | with_reducible apply State.settleMailbox_frame
    | with_reducible apply State.flushReplies_frame
    | with_reducible apply State.settle_frame
    | with_reducible apply FrO.next
    | (simp -zeta -beta -iota only [Fr.mk_iff]; first | refine FrU.upd ?_ rfl | refine FrU.filter _ ?_ rfl)
    | with_reducible refine Fr.ite ?_ ?_
    | with_reducible refine Fr.ite2 ?_ ?_
    | with_reducible refine FrO.ite ?_ ?_
    | dsimp -zeta only
    | split

theorem execOverlayRecordApply_frame {m_ : Nat} {o_ : State} {s : State} (h_ : Fr m_ o_ s) (hm_ : Nat.land 18869813 m_ = 18869813) : FrO m_ o_ (execOverlayRecordApply s) := by
  refine FrO.of h_ hm_ ?_
  clear h_ hm_
  have h_ := Fr.refl 18869813 s
  unfold execOverlayRecordApply
  repeat' first
    | with_reducible assumption
    | exact (rfl : Nat.land _ _ = _)
    | (extract_lets +onlyGivenNames x
       first
         | (have hx : Fr 18869813 s x := ?_
            (on_goal 1 => clear_value x)
            on_goal 2 => (unfold x; clear x))
         | (have hx : Fr 18869813 s x.2 := ?_
            (on_goal 1 => clear_value x)
            on_goal 2 => (unfold x; clear x))
         | clear_value x)
    | with_reducible apply State.restoreFor_frame
    | with_reducible apply State.setObj_frame
    | with_reducible apply State.dirRemove_frame
    | with_reducible apply FrO.next
    | (simp -zeta -beta -iota only [Fr.mk_iff]; first | refine FrU.upd ?_ rfl | refine FrU.filter _ ?_ rfl)
    | dsimp -zeta only
    | split

theorem State.noteExport_frame {m_ : Nat} {o_ : State} {s : State} {n : Nat} (h_ : Fr m_ o_ s) (hm_ : Nat.land 16400 m_ = 16400) : Fr m_ o_ (State.noteExport s n) := by
  refine Fr.of h_ hm_ ?_
  clear h_ hm_
  have h_ := Fr.refl 16400 s
  unfold State.noteExport
  repeat' first
    | with_reducible assumption
    | exact (rfl : Nat.land _ _ = _)
    | (extract_lets +onlyGivenNames x
       first
         | (have hx : Fr 16400 s x := ?_
            (on_goal 1 => clear_value x)
            on_goal 2 => (unfold x; clear x))
         | (have hx : Fr 16400 s x.2 := ?_
            (on_goal 1 => clear_value x)
            on_goal 2 => (unfold x; clear x))
         | clear_value x)
    | with_reducible apply State.journalNotice_frame
    | (simp -zeta -beta -iota only [Fr.mk_iff]; first | refine FrU.upd ?_ rfl | refine FrU.filter _ ?_ rfl)
    | with_reducible refine Fr.ite ?_ ?_
    | dsimp -zeta only
    | split

theorem State.itemWritten_frame {m_ : Nat} {o_ : State} {s : State} {a1 : NextItem} (h_ : Fr m_ o_ s) (hm_ : Nat.land 16400 m_ = 16400) : Fr m_ o_ (State.itemWritten s a1) := by
  refine Fr.of h_ hm_ ?_
  clear h_ hm_
  have h_ := Fr.refl 16400 s
  unfold State.itemWritten
  repeat' first
    | with_reducible assumption
    | exact (rfl : Nat.land _ _ = _)
    | (extract_lets +onlyGivenNames x
       first
         | (have hx : Fr 16400 s x := ?_
            (on_goal 1 => clear_value x)
            on_goal 2 => (unfold x; clear x))
         | (have hx : Fr 16400 s x.2 := ?_
            (on_goal 1 => clear_value x)
            on_goal 2 => (unfold x; clear x))
         | clear_value x)
    | with_reducible apply State.noteExport_frame
    | (simp -zeta -beta -iota only [Fr.mk_iff]; first | refine FrU.upd ?_ rfl | refine FrU.filter _ ?_ rfl)
    | with_reducible refine Fr.ite ?_ ?_
    | with_reducible refine Fr.ite2 ?_ ?_
    | dsimp -zeta only
    | split

theorem execJournalItemWrite_frame {m_ : Nat} {o_ : State} {s : State} (h_ : Fr m_ o_ s) (hm_ : Nat.land 17317905 m_ = 17317905) : FrO m_ o_ (execJournalItemWrite s) := by
  refine FrO.of h_ hm_ ?_
  clear h_ hm_
  have h_ := Fr.refl 17317905 s
  unfold execJournalItemWrite
  repeat' first
    | with_reducible assumption
    | exact (rfl : Nat.land _ _ = _)
    | (extract_lets +onlyGivenNames x
       first
         | (have hx : Fr 17317905 s x := ?_
            (on_goal 1 => clear_value x)
            on_goal 2 => (unfold x; clear x))
         | (have hx : Fr 17317905 s x.2 := ?_
            (on_goal 1 => clear_value x)
            on_goal 2 => (unfold x; clear x))
         | clear_value x)
    | with_reducible refine Fr.foldl _ _ ?_ (fun _ _ _ => ?_)
    | with_reducible apply State.showRing_frame
    | with_reducible apply State.emit_frame
    | with_reducible apply State.useCheckpoint_frame
    | with_reducible apply State.showStrand_frame
    | with_reducible apply State.itemWritten_frame
    | with_reducible apply FrO.next
    | (simp -zeta -beta -iota only [Fr.mk_iff]; first | refine FrU.upd ?_ rfl | refine FrU.filter _ ?_ rfl)
    | with_reducible refine Fr.ite ?_ ?_
    | with_reducible refine Fr.ite2 ?_ ?_
    | with_reducible refine FrO.ite ?_ ?_
    | dsimp -zeta only
    | split

theorem execJournalExportEnable_frame {m_ : Nat} {o_ : State} {sizeLog2 : Nat} {s : State} (h_ : Fr m_ o_ s) (hm_ : Nat.land 151011345 m_ = 151011345) : FrO m_ o_ (execJournalExportEnable sizeLog2 s) := by
  refine FrO.of h_ hm_ ?_
  clear h_ hm_
  have h_ := Fr.refl 151011345 s
  unfold execJournalExportEnable
  repeat' first
    | with_reducible assumption
    | exact (rfl : Nat.land _ _ = _)
    | (extract_lets +onlyGivenNames x
       first
         | (have hx : Fr 151011345 s x := ?_
            (on_goal 1 => clear_value x)
            on_goal 2 => (unfold x; clear x))
         | (have hx : Fr 151011345 s x.2 := ?_
            (on_goal 1 => clear_value x)
            on_goal 2 => (unfold x; clear x))
         | clear_value x)
    | with_reducible apply State.wakeNap_frame
    | with_reducible apply State.putBit_frame
    | with_reducible apply State.put_frame
    | with_reducible apply State.showRing_frame
    | with_reducible apply FrO.next
    | (simp -zeta -beta -iota only [Fr.mk_iff]; first | refine FrU.upd ?_ rfl | refine FrU.filter _ ?_ rfl)
    | with_reducible refine Fr.ite ?_ ?_
    | with_reducible refine FrO.ite ?_ ?_
    | dsimp -zeta only
    | split

theorem execJournalExportDisable_frame {m_ : Nat} {o_ : State} {s : State} (h_ : Fr m_ o_ s) (hm_ : Nat.land 134217729 m_ = 134217729) : FrO m_ o_ (execJournalExportDisable s) := by
  refine FrO.of h_ hm_ ?_
  clear h_ hm_
  have h_ := Fr.refl 134217729 s
  unfold execJournalExportDisable
  repeat' first
    | with_reducible assumption
    | exact (rfl : Nat.land _ _ = _)
    | (extract_lets +onlyGivenNames x
       first
         | (have hx : Fr 134217729 s x := ?_
            (on_goal 1 => clear_value x)
            on_goal 2 => (unfold x; clear x))
         | (have hx : Fr 134217729 s x.2 := ?_
            (on_goal 1 => clear_value x)
            on_goal 2 => (unfold x; clear x))
         | clear_value x)
    | with_reducible apply State.wakeNap_frame
    | with_reducible apply State.putBit_frame
    | with_reducible apply FrO.next
    | dsimp -zeta only

theorem execJournalConsumedWrite_frame {m_ : Nat} {o_ : State} {consumed : Nat} {s : State} (h_ : Fr m_ o_ s) (hm_ : Nat.land 151011345 m_ = 151011345) : FrO m_ o_ (execJournalConsumedWrite consumed s) := by
  refine FrO.of h_ hm_ ?_
  clear h_ hm_
  have h_ := Fr.refl 151011345 s
  unfold execJournalConsumedWrite
  repeat' first
    | with_reducible assumption
    | exact (rfl : Nat.land _ _ = _)
    | (extract_lets +onlyGivenNames x
       first
         | (have hx : Fr 151011345 s x := ?_
            (on_goal 1 => clear_value x)
            on_goal 2 => (unfold x; clear x))
         | (have hx : Fr 151011345 s x.2 := ?_
            (on_goal 1 => clear_value x)
            on_goal 2 => (unfold x; clear x))
         | clear_value x)
    | with_reducible apply State.wakeNap_frame
    | with_reducible apply State.put_frame
    | with_reducible apply State.showRing_frame
    | with_reducible apply FrO.next
    | (simp -zeta -beta -iota only [Fr.mk_iff]; first | refine FrU.upd ?_ rfl | refine FrU.filter _ ?_ rfl)
    | with_reducible refine Fr.ite ?_ ?_
    | with_reducible refine FrO.ite ?_ ?_
    | dsimp -zeta only
    | split

theorem State.durableReached_frame {m_ : Nat} {o_ : State} {s : State} {n : Nat} (h_ : Fr m_ o_ s) (hm_ : Nat.land 16896 m_ = 16896) : Fr m_ o_ (State.durableReached s n) := by
  refine Fr.of h_ hm_ ?_
  clear h_ hm_
  have h_ := Fr.refl 16896 s
  unfold State.durableReached
  repeat' first
    | with_reducible assumption
    | exact (rfl : Nat.land _ _ = _)
    | (extract_lets +onlyGivenNames x
       first
         | (have hx : Fr 16896 s x := ?_
            (on_goal 1 => clear_value x)
            on_goal 2 => (unfold x; clear x))
         | (have hx : Fr 16896 s x.2 := ?_
            (on_goal 1 => clear_value x)
            on_goal 2 => (unfold x; clear x))
         | clear_value x)
    | (simp -zeta -beta -iota only [Fr.mk_iff]; first | refine FrU.upd ?_ rfl | refine FrU.filter _ ?_ rfl)
    | with_reducible refine Fr.ite ?_ ?_
    | with_reducible refine Fr.ite2 ?_ ?_
    | dsimp -zeta only
    | split

theorem execJournalDurableWrite_frame {m_ : Nat} {o_ : State} {bead : Nat} {s : State} (h_ : Fr m_ o_ s) (hm_ : Nat.land 1233088307 m_ = 1233088307) : FrO m_ o_ (execJournalDurableWrite bead s) := by
  refine FrO.of h_ hm_ ?_
  clear h_ hm_
  have h_ := Fr.refl 1233088307 s
  unfold execJournalDurableWrite
  repeat' first
    | with_reducible assumption
    | exact (rfl : Nat.land _ _ = _)
    | (extract_lets +onlyGivenNames x
       first
         | (have hx : Fr 1233088307 s x := ?_
            (on_goal 1 => clear_value x)
            on_goal 2 => (unfold x; clear x))
         | (have hx : Fr 1233088307 s x.2 := ?_
            (on_goal 1 => clear_value x)
            on_goal 2 => (unfold x; clear x))
         | clear_value x)
    | with_reducible apply State.put_frame
    | with_reducible apply State.wakeNap_frame
    | with_reducible apply State.odStore_frame
    | with_reducible apply State.notePeaks_frame
    | with_reducible apply State.settleMailbox_frame
    | with_reducible apply State.flushReplies_frame
    | with_reducible apply State.settle_frame
    | with_reducible apply State.durableReplies_frame
    | with_reducible apply State.durableReached_frame
    | with_reducible apply FrO.next
    | (simp -zeta -beta -iota only [Fr.mk_iff]; first | refine FrU.upd ?_ rfl | refine FrU.filter _ ?_ rfl)
    | with_reducible refine Fr.ite ?_ ?_
    | with_reducible refine Fr.ite2 ?_ ?_
    | with_reducible refine FrO.ite ?_ ?_
    | dsimp -zeta only
    | split

theorem State.loseReplies_frame {m_ : Nat} {o_ : State} {s : State} (h_ : Fr m_ o_ s) (hm_ : Nat.land 2097152 m_ = 2097152) : Fr m_ o_ (State.loseReplies s) := by
  refine Fr.of h_ hm_ ?_
  clear h_ hm_
  have h_ := Fr.refl 2097152 s
  unfold State.loseReplies
  repeat' first
    | with_reducible assumption
    | exact (rfl : Nat.land _ _ = _)
    | (extract_lets +onlyGivenNames x
       first
         | (have hx : Fr 2097152 s x := ?_
            (on_goal 1 => clear_value x)
            on_goal 2 => (unfold x; clear x))
         | (have hx : Fr 2097152 s x.2 := ?_
            (on_goal 1 => clear_value x)
            on_goal 2 => (unfold x; clear x))
         | clear_value x)
    | (simp -zeta -beta -iota only [Fr.mk_iff]; first | refine FrU.upd ?_ rfl | refine FrU.filter _ ?_ rfl)
    | with_reducible refine Fr.ite ?_ ?_
    | dsimp -zeta only
    | split

theorem State.lapseClasp_frame {m_ : Nat} {o_ : State} {s : State} (h_ : Fr m_ o_ s) (hm_ : Nat.land 1228894067 m_ = 1228894067) : Fr m_ o_ (State.lapseClasp s) := by
  refine Fr.of h_ hm_ ?_
  clear h_ hm_
  have h_ := Fr.refl 1228894067 s
  unfold State.lapseClasp
  repeat' first
    | with_reducible assumption
    | exact (rfl : Nat.land _ _ = _)
    | (extract_lets +onlyGivenNames x
       first
         | (have hx : Fr 1228894067 s x := ?_
            (on_goal 1 => clear_value x)
            on_goal 2 => (unfold x; clear x))
         | (have hx : Fr 1228894067 s x.2 := ?_
            (on_goal 1 => clear_value x)
            on_goal 2 => (unfold x; clear x))
         | clear_value x)
    | with_reducible apply State.loseReplies_frame
    | with_reducible apply State.withdrawAll_frame
    | with_reducible apply State.wakeNap_frame
    | with_reducible apply State.putBit_frame
    | with_reducible apply State.setActive_frame
    | with_reducible apply State.showRing_frame
    | with_reducible apply State.showStrand_frame
    | with_reducible apply State.notePeaks_frame
    | with_reducible apply State.settleMailbox_frame
    | with_reducible apply State.flushReplies_frame
    | with_reducible apply State.settle_frame
    | with_reducible apply State.heldEnables_frame
    | with_reducible apply State.refreshDeviceState_frame
    | (simp -zeta -beta -iota only [Fr.mk_iff]; first | refine FrU.upd ?_ rfl | refine FrU.filter _ ?_ rfl)
    | dsimp -zeta only

theorem execClaspLapse_frame {m_ : Nat} {o_ : State} {s : State} (h_ : Fr m_ o_ s) (hm_ : Nat.land 1228894067 m_ = 1228894067) : FrO m_ o_ (execClaspLapse s) := by
  refine FrO.of h_ hm_ ?_
  clear h_ hm_
  have h_ := Fr.refl 1228894067 s
  unfold execClaspLapse
  repeat' first
    | with_reducible assumption
    | exact (rfl : Nat.land _ _ = _)
    | with_reducible apply State.lapseClasp_frame
    | with_reducible apply FrO.next
    | with_reducible refine Fr.ite ?_ ?_
    | with_reducible refine FrO.ite ?_ ?_
    | split

theorem State.restoreSettings_frame {m_ : Nat} {o_ : State} {s : State} (h_ : Fr m_ o_ s) (hm_ : Nat.land 45948933 m_ = 45948933) : Fr m_ o_ (State.restoreSettings s) := by
  refine Fr.of h_ hm_ ?_
  clear h_ hm_
  have h_ := Fr.refl 45948933 s
  unfold State.restoreSettings
  repeat' first
    | with_reducible assumption
    | exact (rfl : Nat.land _ _ = _)
    | (extract_lets +onlyGivenNames x
       first
         | (have hx : Fr 45948933 s x := ?_
            (on_goal 1 => clear_value x)
            on_goal 2 => (unfold x; clear x))
         | (have hx : Fr 45948933 s x.2 := ?_
            (on_goal 1 => clear_value x)
            on_goal 2 => (unfold x; clear x))
         | clear_value x)
    | with_reducible refine Fr.foldl _ _ ?_ (fun _ _ _ => ?_)
    | with_reducible apply State.modOwner_frame
    | with_reducible apply State.odStore_frame
    | with_reducible apply State.applyOd_frame
    | (simp -zeta -beta -iota only [Fr.mk_iff]; first | refine FrU.upd ?_ rfl | refine FrU.filter _ ?_ rfl)
    | with_reducible refine Fr.ite ?_ ?_
    | with_reducible refine Fr.ite2 ?_ ?_
    | dsimp -zeta only
    | split

theorem State.replaySerial_frame {m_ : Nat} {o_ : State} {s : State} {r : Rec} (h_ : Fr m_ o_ s) (hm_ : Nat.land 81920 m_ = 81920) : Fr m_ o_ (State.replaySerial s r) := by
  refine Fr.of h_ hm_ ?_
  clear h_ hm_
  have h_ := Fr.refl 81920 s
  unfold State.replaySerial
  repeat' first
    | with_reducible assumption
    | exact (rfl : Nat.land _ _ = _)
    | (extract_lets +onlyGivenNames x
       first
         | (have hx : Fr 81920 s x := ?_
            (on_goal 1 => clear_value x)
            on_goal 2 => (unfold x; clear x))
         | (have hx : Fr 81920 s x.2 := ?_
            (on_goal 1 => clear_value x)
            on_goal 2 => (unfold x; clear x))
         | clear_value x)
    | with_reducible apply State.modOwner_frame
    | (simp -zeta -beta -iota only [Fr.mk_iff]; first | refine FrU.upd ?_ rfl | refine FrU.filter _ ?_ rfl)
    | with_reducible refine Fr.ite ?_ ?_
    | with_reducible refine Fr.ite2 ?_ ?_
    | dsimp -zeta only
    | split

theorem State.restoreOwners_frame {m_ : Nat} {o_ : State} {s : State} (h_ : Fr m_ o_ s) (hm_ : Nat.land 81920 m_ = 81920) : Fr m_ o_ (State.restoreOwners s) := by
  refine Fr.of h_ hm_ ?_
  clear h_ hm_
  have h_ := Fr.refl 81920 s
  unfold State.restoreOwners
  repeat' first
    | with_reducible assumption
    | exact (rfl : Nat.land _ _ = _)
    | (extract_lets +onlyGivenNames x
       first
         | (have hx : Fr 81920 s x := ?_
            (on_goal 1 => clear_value x)
            on_goal 2 => (unfold x; clear x))
         | (have hx : Fr 81920 s x.2 := ?_
            (on_goal 1 => clear_value x)
            on_goal 2 => (unfold x; clear x))
         | clear_value x)
    | with_reducible refine Fr.foldl _ _ ?_ (fun _ _ _ => ?_)
    | with_reducible apply State.replaySerial_frame
    | with_reducible apply State.modOwner_frame
    | (simp -zeta -beta -iota only [Fr.mk_iff]; first | refine FrU.upd ?_ rfl | refine FrU.filter _ ?_ rfl)
    | dsimp -zeta only

theorem State.restoreBindings_frame {m_ : Nat} {o_ : State} {s : State} (h_ : Fr m_ o_ s) (hm_ : Nat.land 2081 m_ = 2081) : Fr m_ o_ (State.restoreBindings s) := by
  refine Fr.of h_ hm_ ?_
  clear h_ hm_
  have h_ := Fr.refl 2081 s
  unfold State.restoreBindings
  repeat' first
    | with_reducible assumption
    | exact (rfl : Nat.land _ _ = _)
    | (extract_lets +onlyGivenNames x
       first
         | (have hx : Fr 2081 s x := ?_
            (on_goal 1 => clear_value x)
            on_goal 2 => (unfold x; clear x))
         | (have hx : Fr 2081 s x.2 := ?_
            (on_goal 1 => clear_value x)
            on_goal 2 => (unfold x; clear x))
         | clear_value x)
    | with_reducible refine Fr.foldl _ _ ?_ (fun _ _ _ => ?_)
    | with_reducible apply State.bindMeter_frame
    | with_reducible apply State.setInstState_frame
    | with_reducible refine Fr.ite ?_ ?_
    | with_reducible refine Fr.ite2 ?_ ?_
    | dsimp -zeta only
    | split

theorem State.takeSettings_frame {m_ : Nat} {o_ : State} {s : State} (h_ : Fr m_ o_ s) (hm_ : Nat.land 268452032 m_ = 268452032) : Fr m_ o_ (State.takeSettings s) := by
  refine Fr.of h_ hm_ ?_
  clear h_ hm_
  have h_ := Fr.refl 268452032 s
  unfold State.takeSettings
  repeat' first
    | with_reducible assumption
    | exact (rfl : Nat.land _ _ = _)
    | (extract_lets +onlyGivenNames x
       first
         | (have hx : Fr 268452032 s x := ?_
            (on_goal 1 => clear_value x)
            on_goal 2 => (unfold x; clear x))
         | (have hx : Fr 268452032 s x.2 := ?_
            (on_goal 1 => clear_value x)
            on_goal 2 => (unfold x; clear x))
         | clear_value x)
    | with_reducible refine Fr.foldl _ _ ?_ (fun _ _ _ => ?_)
    | with_reducible apply State.modSched_frame
    | (simp -zeta -beta -iota only [Fr.mk_iff]; first | refine FrU.upd ?_ rfl | refine FrU.filter _ ?_ rfl)
    | dsimp -zeta only

theorem State.grantClasp_frame {m_ : Nat} {o_ : State} {s : State} {gen : Nat} (h_ : Fr m_ o_ s) (hm_ : Nat.land 331345653 m_ = 331345653) : Fr m_ o_ (State.grantClasp s gen) := by
  refine Fr.of h_ hm_ ?_
  clear h_ hm_
  have h_ := Fr.refl 331345653 s
  unfold State.grantClasp
  repeat' first
    | with_reducible assumption
    | exact (rfl : Nat.land _ _ = _)
    | (extract_lets +onlyGivenNames x
       first
         | (have hx : Fr 331345653 s x := ?_
            (on_goal 1 => clear_value x)
            on_goal 2 => (unfold x; clear x))
         | (have hx : Fr 331345653 s x.2 := ?_
            (on_goal 1 => clear_value x)
            on_goal 2 => (unfold x; clear x))
         | clear_value x)
    | with_reducible apply State.takeSettings_frame
    | with_reducible apply State.restoreOwners_frame
    | with_reducible apply State.restoreSettings_frame
    | with_reducible apply State.restoreBindings_frame
    | with_reducible apply State.placeUncovered_frame
    | with_reducible apply State.restoreDone_frame
    | with_reducible apply State.restoreFails_frame
    | with_reducible apply State.showStrand_frame
    | with_reducible apply State.refreshDeviceState_frame
    | with_reducible apply State.setActive_frame
    | (simp -zeta -beta -iota only [Fr.mk_iff]; first | refine FrU.upd ?_ rfl | refine FrU.filter _ ?_ rfl)
    | with_reducible refine Fr.ite ?_ ?_
    | dsimp -zeta only
    | split

theorem State.discardClasp_frame {m_ : Nat} {o_ : State} {s : State} (h_ : Fr m_ o_ s) (hm_ : Nat.land 268435456 m_ = 268435456) : Fr m_ o_ (State.discardClasp s) := by
  refine Fr.of h_ hm_ ?_
  clear h_ hm_
  have h_ := Fr.refl 268435456 s
  unfold State.discardClasp
  repeat' first
    | with_reducible assumption
    | exact (rfl : Nat.land _ _ = _)
    | (extract_lets +onlyGivenNames x
       first
         | (have hx : Fr 268435456 s x := ?_
            (on_goal 1 => clear_value x)
            on_goal 2 => (unfold x; clear x))
         | (have hx : Fr 268435456 s x.2 := ?_
            (on_goal 1 => clear_value x)
            on_goal 2 => (unfold x; clear x))
         | clear_value x)
    | (simp -zeta -beta -iota only [Fr.mk_iff]; first | refine FrU.upd ?_ rfl | refine FrU.filter _ ?_ rfl)

theorem execClaspWrite_frame {m_ : Nat} {o_ : State} {gen : Nat} {s : State} (h_ : Fr m_ o_ s) (hm_ : Nat.land 1539305463 m_ = 1539305463) : FrO m_ o_ (execClaspWrite gen s) := by
  refine FrO.of h_ hm_ ?_
  clear h_ hm_
  have h_ := Fr.refl 1539305463 s
  unfold execClaspWrite
  repeat' first
    | with_reducible assumption
    | exact (rfl : Nat.land _ _ = _)
    | (extract_lets +onlyGivenNames x
       first
         | (have hx : Fr 1539305463 s x := ?_
            (on_goal 1 => clear_value x)
            on_goal 2 => (unfold x; clear x))
         | (have hx : Fr 1539305463 s x.2 := ?_
            (on_goal 1 => clear_value x)
            on_goal 2 => (unfold x; clear x))
         | clear_value x)
    | with_reducible apply State.wakeNap_frame
    | with_reducible apply State.grantClasp_frame
    | with_reducible apply State.put_frame
    | with_reducible apply State.discardClasp_frame
    | with_reducible apply State.lapseClasp_frame
    | with_reducible apply FrO.next
    | (simp -zeta -beta -iota only [Fr.mk_iff]; first | refine FrU.upd ?_ rfl | refine FrU.filter _ ?_ rfl)
    | with_reducible refine Fr.ite ?_ ?_
    | with_reducible refine Fr.ite2 ?_ ?_
    | with_reducible refine FrO.ite ?_ ?_
    | dsimp -zeta only
    | split

theorem State.requestCheckpoint_frame {m_ : Nat} {o_ : State} {s : State} (h_ : Fr m_ o_ s) (hm_ : Nat.land 16384 m_ = 16384) : Fr m_ o_ (State.requestCheckpoint s) := by
  refine Fr.of h_ hm_ ?_
  clear h_ hm_
  have h_ := Fr.refl 16384 s
  unfold State.requestCheckpoint
  repeat' first
    | with_reducible assumption
    | exact (rfl : Nat.land _ _ = _)
    | (extract_lets +onlyGivenNames x
       first
         | (have hx : Fr 16384 s x := ?_
            (on_goal 1 => clear_value x)
            on_goal 2 => (unfold x; clear x))
         | (have hx : Fr 16384 s x.2 := ?_
            (on_goal 1 => clear_value x)
            on_goal 2 => (unfold x; clear x))
         | clear_value x)
    | (simp -zeta -beta -iota only [Fr.mk_iff]; first | refine FrU.upd ?_ rfl | refine FrU.filter _ ?_ rfl)

theorem execCkptReq_frame {m_ : Nat} {o_ : State} {s : State} (h_ : Fr m_ o_ s) (hm_ : Nat.land 16384 m_ = 16384) : FrO m_ o_ (execCkptReq s) := by
  refine FrO.of h_ hm_ ?_
  clear h_ hm_
  have h_ := Fr.refl 16384 s
  unfold execCkptReq
  repeat' first
    | with_reducible assumption
    | exact (rfl : Nat.land _ _ = _)
    | with_reducible apply State.requestCheckpoint_frame
    | with_reducible apply FrO.next

theorem execCheckpointComplete_frame {m_ : Nat} {o_ : State} {s : State} (h_ : Fr m_ o_ s) (hm_ : Nat.land 16384 m_ = 16384) : FrO m_ o_ (execCheckpointComplete s) := by
  refine FrO.of h_ hm_ ?_
  clear h_ hm_
  have h_ := Fr.refl 16384 s
  unfold execCheckpointComplete
  repeat' first
    | with_reducible assumption
    | exact (rfl : Nat.land _ _ = _)
    | (extract_lets +onlyGivenNames x
       first
         | (have hx : Fr 16384 s x := ?_
            (on_goal 1 => clear_value x)
            on_goal 2 => (unfold x; clear x))
         | (have hx : Fr 16384 s x.2 := ?_
            (on_goal 1 => clear_value x)
            on_goal 2 => (unfold x; clear x))
         | clear_value x)
    | with_reducible refine Fr.foldl _ _ ?_ (fun _ _ _ => ?_)
    | with_reducible apply State.joinRec_frame
    | refine Fr.pair (by assumption) (State.joinRec_frame (h_ := ?_) ?_)
    | with_reducible apply FrO.next
    | (simp -zeta -beta -iota only [Fr.mk_iff]; first | refine FrU.upd ?_ rfl | refine FrU.filter _ ?_ rfl)
    | with_reducible refine Fr.ite ?_ ?_
    | with_reducible refine Fr.ite2 ?_ ?_
    | with_reducible refine FrO.ite ?_ ?_
    | dsimp -zeta only
    | split

theorem State.loadStrand_frame {m_ : Nat} {o_ : State} {s : State} {l : List StrandItem} (h_ : Fr m_ o_ s) (hm_ : Nat.land 18869813 m_ = 18869813) : Fr m_ o_ (State.loadStrand s l) := by
  refine Fr.of h_ hm_ ?_
  clear h_ hm_
  have h_ := Fr.refl 18869813 s
  unfold State.loadStrand
  repeat' first
    | with_reducible assumption
    | exact (rfl : Nat.land _ _ = _)
    | (extract_lets +onlyGivenNames x
       first
         | (have hx : Fr 18869813 s x := ?_
            (on_goal 1 => clear_value x)
            on_goal 2 => (unfold x; clear x))
         | (have hx : Fr 18869813 s x.2 := ?_
            (on_goal 1 => clear_value x)
            on_goal 2 => (unfold x; clear x))
         | clear_value x)
    | with_reducible refine Fr.foldl _ _ ?_ (fun _ _ _ => ?_)
    | with_reducible apply State.placeUncovered_frame
    | with_reducible apply State.restoreItem_frame
    | (simp -zeta -beta -iota only [Fr.mk_iff]; first | refine FrU.upd ?_ rfl | refine FrU.filter _ ?_ rfl)
    | with_reducible refine Fr.ite ?_ ?_
    | with_reducible refine Fr.ite2 ?_ ?_
    | dsimp -zeta only
    | split

theorem State.restoreStart_frame {m_ : Nat} {o_ : State} {s : State} (h_ : Fr m_ o_ s) (hm_ : Nat.land 16818193 m_ = 16818193) : Fr m_ o_ (State.restoreStart s) := by
  refine Fr.of h_ hm_ ?_
  clear h_ hm_
  have h_ := Fr.refl 16818193 s
  unfold State.restoreStart
  repeat' first
    | with_reducible assumption
    | exact (rfl : Nat.land _ _ = _)
    | (extract_lets +onlyGivenNames x
       first
         | (have hx : Fr 16818193 s x := ?_
            (on_goal 1 => clear_value x)
            on_goal 2 => (unfold x; clear x))
         | (have hx : Fr 16818193 s x.2 := ?_
            (on_goal 1 => clear_value x)
            on_goal 2 => (unfold x; clear x))
         | clear_value x)
    | with_reducible apply State.setRestore_frame
    | with_reducible apply State.event_frame
    | with_reducible refine Fr.ite ?_ ?_
    | dsimp -zeta only
    | split

theorem execRestoreLoadComplete_frame {m_ : Nat} {o_ : State} {items : List StrandItem} {s : State} (h_ : Fr m_ o_ s) (hm_ : Nat.land 18869813 m_ = 18869813) : FrO m_ o_ (execRestoreLoadComplete items s) := by
  refine FrO.of h_ hm_ ?_
  clear h_ hm_
  have h_ := Fr.refl 18869813 s
  unfold execRestoreLoadComplete
  repeat' first
    | with_reducible assumption
    | exact (rfl : Nat.land _ _ = _)
    | (extract_lets +onlyGivenNames x
       first
         | (have hx : Fr 18869813 s x := ?_
            (on_goal 1 => clear_value x)
            on_goal 2 => (unfold x; clear x))
         | (have hx : Fr 18869813 s x.2 := ?_
            (on_goal 1 => clear_value x)
            on_goal 2 => (unfold x; clear x))
         | clear_value x)
    | with_reducible apply State.setRestore_frame
    | with_reducible apply State.event_frame
    | with_reducible apply State.loadStrand_frame
    | with_reducible apply FrO.next
    | with_reducible refine Fr.ite ?_ ?_
    | with_reducible refine FrO.ite ?_ ?_
    | dsimp -zeta only
    | split

theorem State.rollbackAccept_frame {m_ : Nat} {o_ : State} {s : State} {signet : Bytes} (h_ : Fr m_ o_ s) (hm_ : Nat.land 21020689 m_ = 21020689) : Fr m_ o_ (State.rollbackAccept s signet) := by
  refine Fr.of h_ hm_ ?_
  clear h_ hm_
  have h_ := Fr.refl 21020689 s
  unfold State.rollbackAccept
  repeat' first
    | with_reducible assumption
    | exact (rfl : Nat.land _ _ = _)
    | (extract_lets +onlyGivenNames x
       first
         | (have hx : Fr 21020689 s x := ?_
            (on_goal 1 => clear_value x)
            on_goal 2 => (unfold x; clear x))
         | (have hx : Fr 21020689 s x.2 := ?_
            (on_goal 1 => clear_value x)
            on_goal 2 => (unfold x; clear x))
         | clear_value x)
    | with_reducible apply State.setRestore_frame
    | (simp -zeta -beta -iota only [Fr.mk_iff]; first | refine FrU.upd ?_ rfl | refine FrU.filter _ ?_ rfl)
    | dsimp -zeta only

theorem State.offerSplits_frame {m_ : Nat} {o_ : State} {s : State} (h_ : Fr m_ o_ s) (hm_ : Nat.land 2097 m_ = 2097) : Fr m_ o_ (State.offerSplits s) := by
  refine Fr.of h_ hm_ ?_
  clear h_ hm_
  have h_ := Fr.refl 2097 s
  unfold State.offerSplits
  repeat' first
    | with_reducible assumption
    | exact (rfl : Nat.land _ _ = _)
    | (extract_lets +onlyGivenNames x
       first
         | (have hx : Fr 2097 s x := ?_
            (on_goal 1 => clear_value x)
            on_goal 2 => (unfold x; clear x))
         | (have hx : Fr 2097 s x.2 := ?_
            (on_goal 1 => clear_value x)
            on_goal 2 => (unfold x; clear x))
         | clear_value x)
    | with_reducible refine Fr.foldl _ _ ?_ (fun _ _ _ => ?_)
    | with_reducible apply State.writeMeter_frame
    | with_reducible apply State.modInst_frame
    | (simp -zeta -beta -iota only [Fr.mk_iff]; first | refine FrU.upd ?_ rfl | refine FrU.filter _ ?_ rfl)
    | with_reducible refine Fr.ite ?_ ?_
    | dsimp -zeta only
    | split

theorem execMeterRecordWrite_frame {m_ : Nat} {o_ : State} {s : State} (h_ : Fr m_ o_ s) (hm_ : Nat.land 2097 m_ = 2097) : FrO m_ o_ (execMeterRecordWrite s) := by
  refine FrO.of h_ hm_ ?_
  clear h_ hm_
  have h_ := Fr.refl 2097 s
  unfold execMeterRecordWrite
  repeat' first
    | with_reducible assumption
    | exact (rfl : Nat.land _ _ = _)
    | (extract_lets +onlyGivenNames x
       first
         | (have hx : Fr 2097 s x := ?_
            (on_goal 1 => clear_value x)
            on_goal 2 => (unfold x; clear x))
         | (have hx : Fr 2097 s x.2 := ?_
            (on_goal 1 => clear_value x)
            on_goal 2 => (unfold x; clear x))
         | clear_value x)
    | with_reducible apply State.offerSplits_frame
    | with_reducible apply State.endBatch_frame
    | with_reducible apply State.writeMeter_frame
    | with_reducible apply State.carryMeter_frame
    | with_reducible apply FrO.next
    | (simp -zeta -beta -iota only [Fr.mk_iff]; first | refine FrU.upd ?_ rfl | refine FrU.filter _ ?_ rfl)
    | with_reducible refine Fr.ite ?_ ?_
    | with_reducible refine Fr.ite2 ?_ ?_
    | with_reducible refine FrO.ite ?_ ?_
    | dsimp -zeta only
    | split

theorem execMeterRingEnable_frame {m_ : Nat} {o_ : State} {depthLog2 : Nat} {s : State} (h_ : Fr m_ o_ s) (hm_ : Nat.land 134217729 m_ = 134217729) : FrO m_ o_ (execMeterRingEnable depthLog2 s) := by
  refine FrO.of h_ hm_ ?_
  clear h_ hm_
  have h_ := Fr.refl 134217729 s
  unfold execMeterRingEnable
  repeat' first
    | with_reducible assumption
    | exact (rfl : Nat.land _ _ = _)
    | (extract_lets +onlyGivenNames x
       first
         | (have hx : Fr 134217729 s x := ?_
            (on_goal 1 => clear_value x)
            on_goal 2 => (unfold x; clear x))
         | (have hx : Fr 134217729 s x.2 := ?_
            (on_goal 1 => clear_value x)
            on_goal 2 => (unfold x; clear x))
         | clear_value x)
    | with_reducible apply State.wakeNap_frame
    | with_reducible apply State.putBit_frame
    | with_reducible apply State.put_frame
    | with_reducible apply FrO.next
    | with_reducible refine Fr.ite ?_ ?_
    | with_reducible refine FrO.ite ?_ ?_
    | dsimp -zeta only
    | split

theorem execMeterRingDisable_frame {m_ : Nat} {o_ : State} {s : State} (h_ : Fr m_ o_ s) (hm_ : Nat.land 134219825 m_ = 134219825) : FrO m_ o_ (execMeterRingDisable s) := by
  refine FrO.of h_ hm_ ?_
  clear h_ hm_
  have h_ := Fr.refl 134219825 s
  unfold execMeterRingDisable
  repeat' first
    | with_reducible assumption
    | exact (rfl : Nat.land _ _ = _)
    | (extract_lets +onlyGivenNames x
       first
         | (have hx : Fr 134219825 s x := ?_
            (on_goal 1 => clear_value x)
            on_goal 2 => (unfold x; clear x))
         | (have hx : Fr 134219825 s x.2 := ?_
            (on_goal 1 => clear_value x)
            on_goal 2 => (unfold x; clear x))
         | clear_value x)
    | with_reducible refine Fr.foldl _ _ ?_ (fun _ _ _ => ?_)
    | with_reducible apply State.wakeNap_frame
    | with_reducible apply State.putBit_frame
    | with_reducible apply State.endBatch_frame
    | with_reducible apply State.carryMeter_frame
    | with_reducible apply FrO.next
    | (simp -zeta -beta -iota only [Fr.mk_iff]; first | refine FrU.upd ?_ rfl | refine FrU.filter _ ?_ rfl)
    | dsimp -zeta only

theorem execMeterHeadWrite_frame {m_ : Nat} {o_ : State} {head : Nat} {s : State} (h_ : Fr m_ o_ s) (hm_ : Nat.land 134219825 m_ = 134219825) : FrO m_ o_ (execMeterHeadWrite head s) := by
  refine FrO.of h_ hm_ ?_
  clear h_ hm_
  have h_ := Fr.refl 134219825 s
  unfold execMeterHeadWrite
  repeat' first
    | with_reducible assumption
    | exact (rfl : Nat.land _ _ = _)
    | (extract_lets +onlyGivenNames x
       first
         | (have hx : Fr 134219825 s x := ?_
            (on_goal 1 => clear_value x)
            on_goal 2 => (unfold x; clear x))
         | (have hx : Fr 134219825 s x.2 := ?_
            (on_goal 1 => clear_value x)
            on_goal 2 => (unfold x; clear x))
         | clear_value x)
    | with_reducible apply State.wakeNap_frame
    | with_reducible apply State.endBatch_frame
    | with_reducible apply State.offerSplits_frame
    | with_reducible apply State.put_frame
    | with_reducible apply FrO.next
    | with_reducible refine Fr.ite ?_ ?_
    | with_reducible refine FrO.ite ?_ ?_
    | dsimp -zeta only
    | split

theorem execLazyChunkRestore_frame {m_ : Nat} {o_ : State} {ok : Bool} {s : State} (h_ : Fr m_ o_ s) (hm_ : Nat.land 18869813 m_ = 18869813) : FrO m_ o_ (execLazyChunkRestore ok s) := by
  refine FrO.of h_ hm_ ?_
  clear h_ hm_
  have h_ := Fr.refl 18869813 s
  unfold execLazyChunkRestore
  repeat' first
    | with_reducible assumption
    | exact (rfl : Nat.land _ _ = _)
    | (extract_lets +onlyGivenNames x
       first
         | (have hx : Fr 18869813 s x := ?_
            (on_goal 1 => clear_value x)
            on_goal 2 => (unfold x; clear x))
         | (have hx : Fr 18869813 s x.2 := ?_
            (on_goal 1 => clear_value x)
            on_goal 2 => (unfold x; clear x))
         | clear_value x)
    | with_reducible apply State.restoreFails_frame
    | with_reducible apply State.refreshDeviceState_frame
    | with_reducible apply State.restoreDone_frame
    | with_reducible apply State.restoreItem_frame
    | with_reducible apply FrO.next
    | (simp -zeta -beta -iota only [Fr.mk_iff]; first | refine FrU.upd ?_ rfl | refine FrU.filter _ ?_ rfl)
    | with_reducible refine Fr.ite ?_ ?_
    | with_reducible refine Fr.ite2 ?_ ?_
    | with_reducible refine FrO.ite ?_ ?_
    | dsimp -zeta only
    | split

theorem execResizeClearComplete_frame {m_ : Nat} {o_ : State} {s : State} (h_ : Fr m_ o_ s) (hm_ : Nat.land 262144 m_ = 262144) : FrO m_ o_ (execResizeClearComplete s) := by
  refine FrO.of h_ hm_ ?_
  clear h_ hm_
  have h_ := Fr.refl 262144 s
  unfold execResizeClearComplete
  repeat' first
    | with_reducible assumption
    | exact (rfl : Nat.land _ _ = _)
    | (extract_lets +onlyGivenNames x
       first
         | (have hx : Fr 262144 s x := ?_
            (on_goal 1 => clear_value x)
            on_goal 2 => (unfold x; clear x))
         | (have hx : Fr 262144 s x.2 := ?_
            (on_goal 1 => clear_value x)
            on_goal 2 => (unfold x; clear x))
         | clear_value x)
    | with_reducible apply FrO.next
    | (simp -zeta -beta -iota only [Fr.mk_iff]; first | refine FrU.upd ?_ rfl | refine FrU.filter _ ?_ rfl)
    | with_reducible refine Fr.ite ?_ ?_
    | with_reducible refine FrO.ite ?_ ?_
    | split

theorem execResizeBucketMigrate_frame {m_ : Nat} {o_ : State} {s : State} (h_ : Fr m_ o_ s) (hm_ : Nat.land 262144 m_ = 262144) : FrO m_ o_ (execResizeBucketMigrate s) := by
  refine FrO.of h_ hm_ ?_
  clear h_ hm_
  have h_ := Fr.refl 262144 s
  unfold execResizeBucketMigrate
  repeat' first
    | with_reducible assumption
    | exact (rfl : Nat.land _ _ = _)
    | (extract_lets +onlyGivenNames x
       first
         | (have hx : Fr 262144 s x := ?_
            (on_goal 1 => clear_value x)
            on_goal 2 => (unfold x; clear x))
         | (have hx : Fr 262144 s x.2 := ?_
            (on_goal 1 => clear_value x)
            on_goal 2 => (unfold x; clear x))
         | clear_value x)
    | with_reducible apply State.resizeCheck_frame
    | with_reducible apply FrO.next
    | (simp -zeta -beta -iota only [Fr.mk_iff]; first | refine FrU.upd ?_ rfl | refine FrU.filter _ ?_ rfl)
    | with_reducible refine Fr.ite ?_ ?_
    | with_reducible refine Fr.ite2 ?_ ?_
    | with_reducible refine FrO.ite ?_ ?_
    | dsimp -zeta only
    | split

theorem execPatrolScrub_frame {m_ : Nat} {o_ : State} {corrected : Bool} {s : State} (h_ : Fr m_ o_ s) (hm_ : Nat.land 262145 m_ = 262145) : FrO m_ o_ (execPatrolScrub corrected s) := by
  refine FrO.of h_ hm_ ?_
  clear h_ hm_
  have h_ := Fr.refl 262145 s
  unfold execPatrolScrub
  repeat' first
    | with_reducible assumption
    | exact (rfl : Nat.land _ _ = _)
    | (extract_lets +onlyGivenNames x
       first
         | (have hx : Fr 262145 s x := ?_
            (on_goal 1 => clear_value x)
            on_goal 2 => (unfold x; clear x))
         | (have hx : Fr 262145 s x.2 := ?_
            (on_goal 1 => clear_value x)
            on_goal 2 => (unfold x; clear x))
         | clear_value x)
    | with_reducible apply State.count_frame
    | with_reducible apply State.putBit_frame
    | with_reducible apply FrO.next
    | (simp -zeta -beta -iota only [Fr.mk_iff]; first | refine FrU.upd ?_ rfl | refine FrU.filter _ ?_ rfl)
    | with_reducible refine Fr.ite ?_ ?_
    | with_reducible refine FrO.ite ?_ ?_
    | dsimp -zeta only
    | split

theorem State.damageDirLine_frame {m_ : Nat} {o_ : State} {s : State} {line : Nat} (h_ : Fr m_ o_ s) (hm_ : Nat.land 262144 m_ = 262144) : Fr m_ o_ (State.damageDirLine s line) := by
  refine Fr.of h_ hm_ ?_
  unfold State.damageDirLine
  extract_lets st old new
  have ho : ∀ j, Fr 262144 s (old j) := fun j => by
    unfold old
    simp -zeta -beta -iota only [Fr.mk_iff]
    exact FrU.upd (Fr.refl _ s) rfl
  have hn : ∀ j, Fr 262144 s (new j) := fun j => by
    unfold new
    simp -zeta -beta -iota only [Fr.mk_iff]
    exact FrU.upd (Fr.refl _ s) rfl
  repeat' split
  all_goals first | exact ho _ | exact hn _ | exact Fr.refl _ s

theorem State.damageStaged_frame {m_ : Nat} {o_ : State} {s : State} {shadow : Bool} (h_ : Fr m_ o_ s) (hm_ : Nat.land 16388 m_ = 16388) : Fr m_ o_ (State.damageStaged s shadow) := by
  refine Fr.of h_ hm_ ?_
  clear h_ hm_
  have h_ := Fr.refl 16388 s
  unfold State.damageStaged
  repeat' first
    | with_reducible assumption
    | exact (rfl : Nat.land _ _ = _)
    | (extract_lets +onlyGivenNames x
       first
         | (have hx : Fr 16388 s x := ?_
            (on_goal 1 => clear_value x)
            on_goal 2 => (unfold x; clear x))
         | (have hx : Fr 16388 s x.2 := ?_
            (on_goal 1 => clear_value x)
            on_goal 2 => (unfold x; clear x))
         | clear_value x)
    | with_reducible apply State.freshNat_frame
    | refine Fr.pair (by assumption) (State.freshNat_frame (h_ := ?_) ?_)
    | (simp -zeta -beta -iota only [Fr.mk_iff]; first | refine FrU.upd ?_ rfl | refine FrU.filter _ ?_ rfl)
    | with_reducible refine Fr.ite ?_ ?_
    | with_reducible refine Fr.ite2 ?_ ?_
    | dsimp -zeta only
    | split

theorem execEccUncorrectableError_frame {m_ : Nat} {o_ : State} {line : Nat} {s : State} (h_ : Fr m_ o_ s) (hm_ : Nat.land 286725 m_ = 286725) : FrO m_ o_ (execEccUncorrectableError line s) := by
  refine FrO.of h_ hm_ ?_
  clear h_ hm_
  have h_ := Fr.refl 286725 s
  unfold execEccUncorrectableError
  repeat' first
    | with_reducible assumption
    | exact (rfl : Nat.land _ _ = _)
    | (extract_lets +onlyGivenNames x
       first
         | (have hx : Fr 286725 s x := ?_
            (on_goal 1 => clear_value x)
            on_goal 2 => (unfold x; clear x))
         | (have hx : Fr 286725 s x.2 := ?_
            (on_goal 1 => clear_value x)
            on_goal 2 => (unfold x; clear x))
         | clear_value x)
    | with_reducible apply State.count_frame
    | with_reducible apply State.putBit_frame
    | with_reducible apply State.event_frame
    | with_reducible apply State.damageStaged_frame
    | with_reducible apply State.damageDirLine_frame
    | with_reducible apply State.damage_frame
    | with_reducible apply FrO.next
    | (simp -zeta -beta -iota only [Fr.mk_iff]; first | refine FrU.upd ?_ rfl | refine FrU.filter _ ?_ rfl)
    | with_reducible refine Fr.ite ?_ ?_
    | with_reducible refine Fr.ite2 ?_ ?_
    | with_reducible refine FrO.ite ?_ ?_
    | dsimp -zeta only
    | split

theorem execProtectedRangeCommit_frame {m_ : Nat} {o_ : State} {s : State} (h_ : Fr m_ o_ s) (hm_ : Nat.land 262145 m_ = 262145) : FrO m_ o_ (execProtectedRangeCommit s) := by
  refine FrO.of h_ hm_ ?_
  clear h_ hm_
  have h_ := Fr.refl 262145 s
  unfold execProtectedRangeCommit
  repeat' first
    | with_reducible assumption
    | exact (rfl : Nat.land _ _ = _)
    | (extract_lets +onlyGivenNames x
       first
         | (have hx : Fr 262145 s x := ?_
            (on_goal 1 => clear_value x)
            on_goal 2 => (unfold x; clear x))
         | (have hx : Fr 262145 s x.2 := ?_
            (on_goal 1 => clear_value x)
            on_goal 2 => (unfold x; clear x))
         | clear_value x)
    | with_reducible apply State.put_frame
    | with_reducible apply FrO.next
    | (simp -zeta -beta -iota only [Fr.mk_iff]; first | refine FrU.upd ?_ rfl | refine FrU.filter _ ?_ rfl)
    | dsimp -zeta only

theorem execProtectedRangeGenActive_frame {m_ : Nat} {o_ : State} {s : State} (h_ : Fr m_ o_ s) (hm_ : Nat.land 262145 m_ = 262145) : FrO m_ o_ (execProtectedRangeGenActive s) := by
  refine FrO.of h_ hm_ ?_
  clear h_ hm_
  have h_ := Fr.refl 262145 s
  unfold execProtectedRangeGenActive
  repeat' first
    | with_reducible assumption
    | exact (rfl : Nat.land _ _ = _)
    | (extract_lets +onlyGivenNames x
       first
         | (have hx : Fr 262145 s x := ?_
            (on_goal 1 => clear_value x)
            on_goal 2 => (unfold x; clear x))
         | (have hx : Fr 262145 s x.2 := ?_
            (on_goal 1 => clear_value x)
            on_goal 2 => (unfold x; clear x))
         | clear_value x)
    | with_reducible apply State.put_frame
    | with_reducible apply FrO.next
    | (simp -zeta -beta -iota only [Fr.mk_iff]; first | refine FrU.upd ?_ rfl | refine FrU.filter _ ?_ rfl)
    | dsimp -zeta only

theorem execHallmarkExtend_frame {m_ : Nat} {o_ : State} {reg : Nat} {s : State} (h_ : Fr m_ o_ s) (hm_ : Nat.land 524288 m_ = 524288) : FrO m_ o_ (execHallmarkExtend reg s) := by
  refine FrO.of h_ hm_ ?_
  clear h_ hm_
  have h_ := Fr.refl 524288 s
  unfold execHallmarkExtend
  repeat' first
    | with_reducible assumption
    | exact (rfl : Nat.land _ _ = _)
    | with_reducible apply State.extendHm_frame
    | with_reducible apply FrO.next
    | with_reducible refine Fr.ite ?_ ?_
    | with_reducible refine FrO.ite ?_ ?_
    | split

theorem State.refuseKey_frame {m_ : Nat} {o_ : State} {s : State} (h_ : Fr m_ o_ s) (hm_ : Nat.land 524289 m_ = 524289) : Fr m_ o_ (State.refuseKey s) := by
  refine Fr.of h_ hm_ ?_
  clear h_ hm_
  have h_ := Fr.refl 524289 s
  unfold State.refuseKey
  repeat' first
    | with_reducible assumption
    | exact (rfl : Nat.land _ _ = _)
    | (extract_lets +onlyGivenNames x
       first
         | (have hx : Fr 524289 s x := ?_
            (on_goal 1 => clear_value x)
            on_goal 2 => (unfold x; clear x))
         | (have hx : Fr 524289 s x.2 := ?_
            (on_goal 1 => clear_value x)
            on_goal 2 => (unfold x; clear x))
         | clear_value x)
    | with_reducible apply State.putBit_frame
    | with_reducible apply State.count_frame
    | (simp -zeta -beta -iota only [Fr.mk_iff]; first | refine FrU.upd ?_ rfl | refine FrU.filter _ ?_ rfl)
    | dsimp -zeta only

theorem execFwStorageKeyRequest_frame {m_ : Nat} {o_ : State} {lineage : Bool} {svn : Nat} {index : Nat} {lane : Nat} {s : State} (h_ : Fr m_ o_ s) (hm_ : Nat.land 524289 m_ = 524289) : FrO m_ o_ (execFwStorageKeyRequest lineage svn index lane s) := by
  refine FrO.of h_ hm_ ?_
  clear h_ hm_
  have h_ := Fr.refl 524289 s
  unfold execFwStorageKeyRequest
  repeat' first
    | with_reducible assumption
    | exact (rfl : Nat.land _ _ = _)
    | (extract_lets +onlyGivenNames x
       first
         | (have hx : Fr 524289 s x := ?_
            (on_goal 1 => clear_value x)
            on_goal 2 => (unfold x; clear x))
         | (have hx : Fr 524289 s x.2 := ?_
            (on_goal 1 => clear_value x)
            on_goal 2 => (unfold x; clear x))
         | clear_value x)
    | with_reducible apply State.put_frame
    | with_reducible apply State.putBit_frame
    | with_reducible apply State.refuseKey_frame
    | with_reducible apply State.useRoot_frame
    | with_reducible apply FrO.next
    | (simp -zeta -beta -iota only [Fr.mk_iff]; first | refine FrU.upd ?_ rfl | refine FrU.filter _ ?_ rfl)
    | with_reducible refine Fr.ite ?_ ?_
    | with_reducible refine Fr.ite2 ?_ ?_
    | with_reducible refine FrO.ite ?_ ?_
    | dsimp -zeta only
    | split

theorem execFwStorageKeyDone_frame {m_ : Nat} {o_ : State} {s : State} (h_ : Fr m_ o_ s) (hm_ : Nat.land 17301505 m_ = 17301505) : FrO m_ o_ (execFwStorageKeyDone s) := by
  refine FrO.of h_ hm_ ?_
  clear h_ hm_
  have h_ := Fr.refl 17301505 s
  unfold execFwStorageKeyDone
  repeat' first
    | with_reducible assumption
    | exact (rfl : Nat.land _ _ = _)
    | (extract_lets +onlyGivenNames x
       first
         | (have hx : Fr 17301505 s x := ?_
            (on_goal 1 => clear_value x)
            on_goal 2 => (unfold x; clear x))
         | (have hx : Fr 17301505 s x.2 := ?_
            (on_goal 1 => clear_value x)
            on_goal 2 => (unfold x; clear x))
         | clear_value x)
    | with_reducible apply State.refuseKey_frame
    | with_reducible apply State.setLane_frame
    | with_reducible apply State.putBit_frame
    | with_reducible apply FrO.next
    | (simp -zeta -beta -iota only [Fr.mk_iff]; first | refine FrU.upd ?_ rfl | refine FrU.filter _ ?_ rfl)
    | with_reducible refine Fr.ite ?_ ?_
    | with_reducible refine Fr.ite2 ?_ ?_
    | with_reducible refine FrO.ite ?_ ?_
    | dsimp -zeta only
    | split

theorem State.walkPlace_frame {m_ : Nat} {o_ : State} {s : State} {h : Nat} (h_ : Fr m_ o_ s) (hm_ : Nat.land 278528 m_ = 278528) : Fr m_ o_ (State.walkPlace s h) := by
  refine Fr.of h_ hm_ ?_
  clear h_ hm_
  have h_ := Fr.refl 278528 s
  unfold State.walkPlace
  repeat' first
    | with_reducible assumption
    | exact (rfl : Nat.land _ _ = _)
    | (extract_lets +onlyGivenNames x
       first
         | (have hx : Fr 278528 s x := ?_
            (on_goal 1 => clear_value x)
            on_goal 2 => (unfold x; clear x))
         | (have hx : Fr 278528 s x.2 := ?_
            (on_goal 1 => clear_value x)
            on_goal 2 => (unfold x; clear x))
         | clear_value x)
    | with_reducible apply State.joinRec_frame
    | refine Fr.pair (by assumption) (State.joinRec_frame (h_ := ?_) ?_)
    | (simp -zeta -beta -iota only [Fr.mk_iff]; first | refine FrU.upd ?_ rfl | refine FrU.filter _ ?_ rfl)
    | dsimp -zeta only
    | split

theorem execMigrateWalkStep_frame {m_ : Nat} {o_ : State} {s : State} (h_ : Fr m_ o_ s) (hm_ : Nat.land 286721 m_ = 286721) : FrO m_ o_ (execMigrateWalkStep s) := by
  refine FrO.of h_ hm_ ?_
  clear h_ hm_
  have h_ := Fr.refl 286721 s
  unfold execMigrateWalkStep
  repeat' first
    | with_reducible assumption
    | exact (rfl : Nat.land _ _ = _)
    | (extract_lets +onlyGivenNames x
       first
         | (have hx : Fr 286721 s x := ?_
            (on_goal 1 => clear_value x)
            on_goal 2 => (unfold x; clear x))
         | (have hx : Fr 286721 s x.2 := ?_
            (on_goal 1 => clear_value x)
            on_goal 2 => (unfold x; clear x))
         | clear_value x)
    | with_reducible refine Fr.foldl _ _ ?_ (fun _ _ _ => ?_)
    | with_reducible apply State.walkPlace_frame
    | with_reducible apply State.event_frame
    | with_reducible apply FrO.next
    | (simp -zeta -beta -iota only [Fr.mk_iff]; first | refine FrU.upd ?_ rfl | refine FrU.filter _ ?_ rfl)
    | with_reducible refine Fr.ite ?_ ?_
    | with_reducible refine FrO.ite ?_ ?_
    | dsimp -zeta only
    | split

theorem State.cardError_frame {m_ : Nat} {o_ : State} {s : State} {p : Nat} {code : Nat} (h_ : Fr m_ o_ s) (hm_ : Nat.land 1056769 m_ = 1056769) : Fr m_ o_ (State.cardError s p code) := by
  refine Fr.of h_ hm_ ?_
  clear h_ hm_
  have h_ := Fr.refl 1056769 s
  unfold State.cardError
  repeat' first
    | with_reducible assumption
    | exact (rfl : Nat.land _ _ = _)
    | (extract_lets +onlyGivenNames x
       first
         | (have hx : Fr 1056769 s x := ?_
            (on_goal 1 => clear_value x)
            on_goal 2 => (unfold x; clear x))
         | (have hx : Fr 1056769 s x.2 := ?_
            (on_goal 1 => clear_value x)
            on_goal 2 => (unfold x; clear x))
         | clear_value x)
    | with_reducible apply State.put_frame
    | with_reducible apply State.setPortState_frame
    | with_reducible apply State.deactivate_frame
    | with_reducible apply State.event_frame
    | with_reducible refine Fr.ite ?_ ?_
    | dsimp -zeta only
    | split

theorem State.toPinWait_frame {m_ : Nat} {o_ : State} {s : State} {p : Nat} (h_ : Fr m_ o_ s) (hm_ : Nat.land 1048577 m_ = 1048577) : Fr m_ o_ (State.toPinWait s p) := by
  refine Fr.of h_ hm_ ?_
  clear h_ hm_
  have h_ := Fr.refl 1048577 s
  unfold State.toPinWait
  repeat' first
    | with_reducible assumption
    | exact (rfl : Nat.land _ _ = _)
    | (extract_lets +onlyGivenNames x
       first
         | (have hx : Fr 1048577 s x := ?_
            (on_goal 1 => clear_value x)
            on_goal 2 => (unfold x; clear x))
         | (have hx : Fr 1048577 s x.2 := ?_
            (on_goal 1 => clear_value x)
            on_goal 2 => (unfold x; clear x))
         | clear_value x)
    | with_reducible apply State.setPortState_frame
    | with_reducible apply State.setPort_frame
    | (simp -zeta -beta -iota only [Fr.mk_iff]; first | refine FrU.upd ?_ rfl | refine FrU.filter _ ?_ rfl)
    | dsimp -zeta only

theorem State.idleToPinWait_frame {m_ : Nat} {o_ : State} {s : State} (h_ : Fr m_ o_ s) (hm_ : Nat.land 1048577 m_ = 1048577) : Fr m_ o_ (State.idleToPinWait s) := by
  refine Fr.of h_ hm_ ?_
  clear h_ hm_
  have h_ := Fr.refl 1048577 s
  unfold State.idleToPinWait
  repeat' first
    | with_reducible assumption
    | exact (rfl : Nat.land _ _ = _)
    | with_reducible refine Fr.foldl _ _ ?_ (fun _ _ _ => ?_)
    | with_reducible apply State.toPinWait_frame
    | with_reducible refine Fr.ite ?_ ?_
    | dsimp -zeta only
    | split

theorem State.identify_frame {m_ : Nat} {o_ : State} {s : State} {p : Nat} {key : Bytes} (h_ : Fr m_ o_ s) (hm_ : Nat.land 1056769 m_ = 1056769) : Fr m_ o_ (State.identify s p key) := by
  refine Fr.of h_ hm_ ?_
  clear h_ hm_
  have h_ := Fr.refl 1056769 s
  unfold State.identify
  repeat' first
    | with_reducible assumption
    | exact (rfl : Nat.land _ _ = _)
    | (extract_lets +onlyGivenNames x
       first
         | (have hx : Fr 1056769 s x := ?_
            (on_goal 1 => clear_value x)
            on_goal 2 => (unfold x; clear x))
         | (have hx : Fr 1056769 s x.2 := ?_
            (on_goal 1 => clear_value x)
            on_goal 2 => (unfold x; clear x))
         | clear_value x)
    | with_reducible apply State.setPortState_frame
    | with_reducible apply State.putBit_frame
    | with_reducible apply State.put_frame
    | with_reducible apply State.toPinWait_frame
    | with_reducible apply State.cardError_frame
    | (simp -zeta -beta -iota only [Fr.mk_iff]; first | refine FrU.upd ?_ rfl | refine FrU.filter _ ?_ rfl)
    | with_reducible refine Fr.ite ?_ ?_
    | with_reducible refine Fr.ite2 ?_ ?_
    | dsimp -zeta only
    | split

theorem execCardInsert_frame {m_ : Nat} {o_ : State} {port : Nat} {s : State} (h_ : Fr m_ o_ s) (hm_ : Nat.land 1048577 m_ = 1048577) : FrO m_ o_ (execCardInsert port s) := by
  refine FrO.of h_ hm_ ?_
  clear h_ hm_
  have h_ := Fr.refl 1048577 s
  unfold execCardInsert
  repeat' first
    | with_reducible assumption
    | exact (rfl : Nat.land _ _ = _)
    | (extract_lets +onlyGivenNames x
       first
         | (have hx : Fr 1048577 s x := ?_
            (on_goal 1 => clear_value x)
            on_goal 2 => (unfold x; clear x))
         | (have hx : Fr 1048577 s x.2 := ?_
            (on_goal 1 => clear_value x)
            on_goal 2 => (unfold x; clear x))
         | clear_value x)
    | with_reducible apply State.putBit_frame
    | with_reducible apply State.put_frame
    | with_reducible apply State.setPort_frame
    | with_reducible apply State.setPortState_frame
    | with_reducible apply FrO.next
    | (simp -zeta -beta -iota only [Fr.mk_iff]; first | refine FrU.upd ?_ rfl | refine FrU.filter _ ?_ rfl)
    | with_reducible refine Fr.ite ?_ ?_
    | with_reducible refine FrO.ite ?_ ?_
    | dsimp -zeta only
    | split

theorem execCardRemove_frame {m_ : Nat} {o_ : State} {port : Nat} {s : State} (h_ : Fr m_ o_ s) (hm_ : Nat.land 1056769 m_ = 1056769) : FrO m_ o_ (execCardRemove port s) := by
  refine FrO.of h_ hm_ ?_
  clear h_ hm_
  have h_ := Fr.refl 1056769 s
  unfold execCardRemove
  repeat' first
    | with_reducible assumption
    | exact (rfl : Nat.land _ _ = _)
    | (extract_lets +onlyGivenNames x
       first
         | (have hx : Fr 1056769 s x := ?_
            (on_goal 1 => clear_value x)
            on_goal 2 => (unfold x; clear x))
         | (have hx : Fr 1056769 s x.2 := ?_
            (on_goal 1 => clear_value x)
            on_goal 2 => (unfold x; clear x))
         | clear_value x)
    | with_reducible apply State.putBit_frame
    | with_reducible apply State.deactivate_frame
    | with_reducible apply State.cardError_frame
    | with_reducible apply State.setPortState_frame
    | with_reducible apply FrO.next
    | with_reducible refine Fr.ite ?_ ?_
    | with_reducible refine FrO.ite ?_ ?_
    | dsimp -zeta only
    | split

theorem execAtrTimeout_frame {m_ : Nat} {o_ : State} {port : Nat} {s : State} (h_ : Fr m_ o_ s) (hm_ : Nat.land 1056769 m_ = 1056769) : FrO m_ o_ (execAtrTimeout port s) := by
  refine FrO.of h_ hm_ ?_
  clear h_ hm_
  have h_ := Fr.refl 1056769 s
  unfold execAtrTimeout
  repeat' first
    | with_reducible assumption
    | exact (rfl : Nat.land _ _ = _)
    | with_reducible apply State.cardError_frame
    | with_reducible apply FrO.next
    | with_reducible refine Fr.ite ?_ ?_
    | with_reducible refine FrO.ite ?_ ?_
    | split

theorem execAtrReceived_frame {m_ : Nat} {o_ : State} {port : Nat} {t1 : Bool} {lrc : Bool} {ta1 : Option Nat} {s : State} (h_ : Fr m_ o_ s) (hm_ : Nat.land 1056769 m_ = 1056769) : FrO m_ o_ (execAtrReceived port t1 lrc ta1 s) := by
  refine FrO.of h_ hm_ ?_
  clear h_ hm_
  have h_ := Fr.refl 1056769 s
  unfold execAtrReceived
  repeat' first
    | with_reducible assumption
    | exact (rfl : Nat.land _ _ = _)
    | (extract_lets +onlyGivenNames x
       first
         | (have hx : Fr 1056769 s x := ?_
            (on_goal 1 => clear_value x)
            on_goal 2 => (unfold x; clear x))
         | (have hx : Fr 1056769 s x.2 := ?_
            (on_goal 1 => clear_value x)
            on_goal 2 => (unfold x; clear x))
         | clear_value x)
    | with_reducible apply State.setPort_frame
    | with_reducible apply State.cardError_frame
    | with_reducible apply FrO.next
    | (simp -zeta -beta -iota only [Fr.mk_iff]; first | refine FrU.upd ?_ rfl | refine FrU.filter _ ?_ rfl)
    | with_reducible refine Fr.ite ?_ ?_
    | with_reducible refine Fr.ite2 ?_ ?_
    | with_reducible refine FrO.ite ?_ ?_
    | dsimp -zeta only
    | split

theorem execSelectResponse_frame {m_ : Nat} {o_ : State} {port : Nat} {sw : Nat} {s : State} (h_ : Fr m_ o_ s) (hm_ : Nat.land 1056769 m_ = 1056769) : FrO m_ o_ (execSelectResponse port sw s) := by
  refine FrO.of h_ hm_ ?_
  clear h_ hm_
  have h_ := Fr.refl 1056769 s
  unfold execSelectResponse
  repeat' first
    | with_reducible assumption
    | exact (rfl : Nat.land _ _ = _)
    | (extract_lets +onlyGivenNames x
       first
         | (have hx : Fr 1056769 s x := ?_
            (on_goal 1 => clear_value x)
            on_goal 2 => (unfold x; clear x))
         | (have hx : Fr 1056769 s x.2 := ?_
            (on_goal 1 => clear_value x)
            on_goal 2 => (unfold x; clear x))
         | clear_value x)
    | with_reducible apply State.setPort_frame
    | with_reducible apply State.cardError_frame
    | with_reducible apply FrO.next
    | (simp -zeta -beta -iota only [Fr.mk_iff]; first | refine FrU.upd ?_ rfl | refine FrU.filter _ ?_ rfl)
    | with_reducible refine Fr.ite ?_ ?_
    | with_reducible refine FrO.ite ?_ ?_
    | split

theorem execGetInfoResponse_frame {m_ : Nat} {o_ : State} {port : Nat} {sw : Nat} {tries : Nat} {key : Bytes} {s : State} (h_ : Fr m_ o_ s) (hm_ : Nat.land 1056769 m_ = 1056769) : FrO m_ o_ (execGetInfoResponse port sw tries key s) := by
  refine FrO.of h_ hm_ ?_
  clear h_ hm_
  have h_ := Fr.refl 1056769 s
  unfold execGetInfoResponse
  repeat' first
    | with_reducible assumption
    | exact (rfl : Nat.land _ _ = _)
    | (extract_lets +onlyGivenNames x
       first
         | (have hx : Fr 1056769 s x := ?_
            (on_goal 1 => clear_value x)
            on_goal 2 => (unfold x; clear x))
         | (have hx : Fr 1056769 s x.2 := ?_
            (on_goal 1 => clear_value x)
            on_goal 2 => (unfold x; clear x))
         | clear_value x)
    | with_reducible apply State.setPort_frame
    | with_reducible apply State.put_frame
    | with_reducible apply State.identify_frame
    | with_reducible apply State.cardError_frame
    | with_reducible apply FrO.next
    | (simp -zeta -beta -iota only [Fr.mk_iff]; first | refine FrU.upd ?_ rfl | refine FrU.filter _ ?_ rfl)
    | with_reducible refine Fr.ite ?_ ?_
    | with_reducible refine FrO.ite ?_ ?_
    | dsimp -zeta only
    | split

theorem State.pinWrite_frame {m_ : Nat} {o_ : State} {s : State} {port : Nat} (h_ : Fr m_ o_ s) (hm_ : Nat.land 1048576 m_ = 1048576) : Fr m_ o_ (State.pinWrite s port) := by
  refine Fr.of h_ hm_ ?_
  clear h_ hm_
  have h_ := Fr.refl 1048576 s
  unfold State.pinWrite
  repeat' first
    | with_reducible assumption
    | exact (rfl : Nat.land _ _ = _)
    | (extract_lets +onlyGivenNames x
       first
         | (have hx : Fr 1048576 s x := ?_
            (on_goal 1 => clear_value x)
            on_goal 2 => (unfold x; clear x))
         | (have hx : Fr 1048576 s x.2 := ?_
            (on_goal 1 => clear_value x)
            on_goal 2 => (unfold x; clear x))
         | clear_value x)
    | with_reducible apply State.setPort_frame
    | (simp -zeta -beta -iota only [Fr.mk_iff]; first | refine FrU.upd ?_ rfl | refine FrU.filter _ ?_ rfl)
    | with_reducible refine Fr.ite ?_ ?_
    | dsimp -zeta only
    | split

theorem State.cardStatement_frame {m_ : Nat} {o_ : State} {s : State} {action : Nat} (h_ : Fr m_ o_ s) (hm_ : Nat.land 33554436 m_ = 33554436) : Fr m_ o_ (State.cardStatement s action).2 := by
  refine Fr.of h_ hm_ ?_
  clear h_ hm_
  have h_ := Fr.refl 33554436 s
  unfold State.cardStatement
  repeat' first
    | with_reducible assumption
    | exact (rfl : Nat.land _ _ = _)
    | (extract_lets +onlyGivenNames x
       first
         | (have hx : Fr 33554436 s x := ?_
            (on_goal 1 => clear_value x)
            on_goal 2 => (unfold x; clear x))
         | (have hx : Fr 33554436 s x.2 := ?_
            (on_goal 1 => clear_value x)
            on_goal 2 => (unfold x; clear x))
         | clear_value x)
    | with_reducible apply State.drawBytes_frame
    | refine Fr.pair (by assumption) (State.drawBytes_frame (h_ := ?_) ?_)
    | with_reducible refine Fr.ite ?_ ?_
    | with_reducible refine Fr.ite2 ?_ ?_
    | dsimp -zeta only
    | split

theorem execVerifyPinResponse_frame {m_ : Nat} {o_ : State} {port : Nat} {sw : Nat} {s : State} (h_ : Fr m_ o_ s) (hm_ : Nat.land 34611205 m_ = 34611205) : FrO m_ o_ (execVerifyPinResponse port sw s) := by
  refine FrO.of h_ hm_ ?_
  clear h_ hm_
  have h_ := Fr.refl 34611205 s
  unfold execVerifyPinResponse
  repeat' first
    | with_reducible assumption
    | exact (rfl : Nat.land _ _ = _)
    | (extract_lets +onlyGivenNames x
       first
         | (have hx : Fr 34611205 s x := ?_
            (on_goal 1 => clear_value x)
            on_goal 2 => (unfold x; clear x))
         | (have hx : Fr 34611205 s x.2 := ?_
            (on_goal 1 => clear_value x)
            on_goal 2 => (unfold x; clear x))
         | clear_value x)
    | with_reducible apply State.cardStatement_frame
    | refine Fr.pair (by assumption) (State.cardStatement_frame (h_ := ?_) ?_)
    | with_reducible apply State.setPortState_frame
    | with_reducible apply State.setPort_frame
    | with_reducible apply State.cardError_frame
    | with_reducible apply State.put_frame
    | with_reducible apply FrO.next
    | (simp -zeta -beta -iota only [Fr.mk_iff]; first | refine FrU.upd ?_ rfl | refine FrU.filter _ ?_ rfl)
    | with_reducible refine Fr.ite ?_ ?_
    | with_reducible refine Fr.ite2 ?_ ?_
    | with_reducible refine FrO.ite ?_ ?_
    | dsimp -zeta only
    | split

theorem execSignStatementResponse_frame {m_ : Nat} {o_ : State} {port : Nat} {sw : Nat} {sig : Bytes} {s : State} (h_ : Fr m_ o_ s) (hm_ : Nat.land 1056769 m_ = 1056769) : FrO m_ o_ (execSignStatementResponse port sw sig s) := by
  refine FrO.of h_ hm_ ?_
  clear h_ hm_
  have h_ := Fr.refl 1056769 s
  unfold execSignStatementResponse
  repeat' first
    | with_reducible assumption
    | exact (rfl : Nat.land _ _ = _)
    | (extract_lets +onlyGivenNames x
       first
         | (have hx : Fr 1056769 s x := ?_
            (on_goal 1 => clear_value x)
            on_goal 2 => (unfold x; clear x))
         | (have hx : Fr 1056769 s x.2 := ?_
            (on_goal 1 => clear_value x)
            on_goal 2 => (unfold x; clear x))
         | clear_value x)
    | with_reducible apply State.setPort_frame
    | with_reducible apply State.cardError_frame
    | with_reducible apply FrO.next
    | (simp -zeta -beta -iota only [Fr.mk_iff]; first | refine FrU.upd ?_ rfl | refine FrU.filter _ ?_ rfl)
    | with_reducible refine Fr.ite ?_ ?_
    | with_reducible refine FrO.ite ?_ ?_
    | split

theorem State.completeSignet_frame {m_ : Nat} {o_ : State} {s : State} {who : Nat} (h_ : Fr m_ o_ s) (hm_ : Nat.land 1056769 m_ = 1056769) : Fr m_ o_ (State.completeSignet s who) := by
  refine Fr.of h_ hm_ ?_
  clear h_ hm_
  have h_ := Fr.refl 1056769 s
  unfold State.completeSignet
  repeat' first
    | with_reducible assumption
    | exact (rfl : Nat.land _ _ = _)
    | (extract_lets +onlyGivenNames x
       first
         | (have hx : Fr 1056769 s x := ?_
            (on_goal 1 => clear_value x)
            on_goal 2 => (unfold x; clear x))
         | (have hx : Fr 1056769 s x.2 := ?_
            (on_goal 1 => clear_value x)
            on_goal 2 => (unfold x; clear x))
         | clear_value x)
    | with_reducible apply State.setSignet_frame
    | with_reducible apply State.event_frame
    | (simp -zeta -beta -iota only [Fr.mk_iff]; first | refine FrU.upd ?_ rfl | refine FrU.filter _ ?_ rfl)
    | with_reducible refine Fr.ite ?_ ?_
    | dsimp -zeta only
    | split

theorem State.countApproval_frame {m_ : Nat} {o_ : State} {s : State} {k : Nat} {sig : Bytes} (h_ : Fr m_ o_ s) (hm_ : Nat.land 1056769 m_ = 1056769) : Fr m_ o_ (State.countApproval s k sig) := by
  refine Fr.of h_ hm_ ?_
  clear h_ hm_
  have h_ := Fr.refl 1056769 s
  unfold State.countApproval
  repeat' first
    | with_reducible assumption
    | exact (rfl : Nat.land _ _ = _)
    | (extract_lets +onlyGivenNames x
       first
         | (have hx : Fr 1056769 s x := ?_
            (on_goal 1 => clear_value x)
            on_goal 2 => (unfold x; clear x))
         | (have hx : Fr 1056769 s x.2 := ?_
            (on_goal 1 => clear_value x)
            on_goal 2 => (unfold x; clear x))
         | clear_value x)
    | with_reducible apply State.setSignet_frame
    | with_reducible apply State.completeSignet_frame
    | (simp -zeta -beta -iota only [Fr.mk_iff]; first | refine FrU.upd ?_ rfl | refine FrU.filter _ ?_ rfl)
    | dsimp -zeta only

theorem State.cardVerified_frame {m_ : Nat} {o_ : State} {s : State} {p : Nat} {x : CardPort} {sig : Bytes} (h_ : Fr m_ o_ s) (hm_ : Nat.land 2101243445 m_ = 2101243445) : Fr m_ o_ (State.cardVerified s p x sig) := by
  refine Fr.of h_ hm_ ?_
  clear h_ hm_
  have h_ := Fr.refl 2101243445 s
  unfold State.cardVerified
  repeat' first
    | with_reducible assumption
    | exact (rfl : Nat.land _ _ = _)
    | (extract_lets +onlyGivenNames x
       first
         | (have hx : Fr 2101243445 s x := ?_
            (on_goal 1 => clear_value x)
            on_goal 2 => (unfold x; clear x))
         | (have hx : Fr 2101243445 s x.2 := ?_
            (on_goal 1 => clear_value x)
            on_goal 2 => (unfold x; clear x))
         | clear_value x)
    | with_reducible apply State.alarm'_frame
    | with_reducible apply State.event_frame
    | with_reducible apply State.cardDone_frame
    | with_reducible apply State.cardError_frame
    | with_reducible apply State.countApproval_frame
    | with_reducible apply State.completeSignet_frame
    | with_reducible apply State.setSignet_frame
    | (simp -zeta -beta -iota only [Fr.mk_iff]; first | refine FrU.upd ?_ rfl | refine FrU.filter _ ?_ rfl)
    | with_reducible refine Fr.ite ?_ ?_
    | with_reducible refine Fr.ite2 ?_ ?_
    | dsimp -zeta only
    | split

theorem execPinWaitTimeout_frame {m_ : Nat} {o_ : State} {port : Nat} {s : State} (h_ : Fr m_ o_ s) (hm_ : Nat.land 1056769 m_ = 1056769) : FrO m_ o_ (execPinWaitTimeout port s) := by
  refine FrO.of h_ hm_ ?_
  clear h_ hm_
  have h_ := Fr.refl 1056769 s
  unfold execPinWaitTimeout
  repeat' first
    | with_reducible assumption
    | exact (rfl : Nat.land _ _ = _)
    | with_reducible apply State.cardError_frame
    | with_reducible apply FrO.next
    | with_reducible refine Fr.ite ?_ ?_
    | with_reducible refine FrO.ite ?_ ?_
    | split

theorem execSigningTimeout_frame {m_ : Nat} {o_ : State} {port : Nat} {s : State} (h_ : Fr m_ o_ s) (hm_ : Nat.land 1056769 m_ = 1056769) : FrO m_ o_ (execSigningTimeout port s) := by
  refine FrO.of h_ hm_ ?_
  clear h_ hm_
  have h_ := Fr.refl 1056769 s
  unfold execSigningTimeout
  repeat' first
    | with_reducible assumption
    | exact (rfl : Nat.land _ _ = _)
    | with_reducible apply State.cardError_frame
    | with_reducible apply FrO.next
    | with_reducible refine Fr.ite ?_ ?_
    | with_reducible refine FrO.ite ?_ ?_
    | split

theorem execCardDeactivate_frame {m_ : Nat} {o_ : State} {port : Nat} {s : State} (h_ : Fr m_ o_ s) (hm_ : Nat.land 1048577 m_ = 1048577) : FrO m_ o_ (execCardDeactivate port s) := by
  refine FrO.of h_ hm_ ?_
  clear h_ hm_
  have h_ := Fr.refl 1048577 s
  unfold execCardDeactivate
  repeat' first
    | with_reducible assumption
    | exact (rfl : Nat.land _ _ = _)
    | with_reducible apply State.cardDone_frame
    | with_reducible apply FrO.next
    | with_reducible refine Fr.ite ?_ ?_
    | with_reducible refine FrO.ite ?_ ?_
    | split

theorem State.openSignet_frame {m_ : Nat} {o_ : State} {s : State} {action : Nat} {index : Nat} {sub : Nat} {quorum : Nat} {enrolee : Bool} {valueHash : Bytes} (h_ : Fr m_ o_ s) (hm_ : Nat.land 34611205 m_ = 34611205) : Fr m_ o_ (State.openSignet s action index sub quorum enrolee valueHash) := by
  refine Fr.of h_ hm_ ?_
  clear h_ hm_
  have h_ := Fr.refl 34611205 s
  unfold State.openSignet
  repeat' first
    | with_reducible assumption
    | exact (rfl : Nat.land _ _ = _)
    | (extract_lets +onlyGivenNames x
       first
         | (have hx : Fr 34611205 s x := ?_
            (on_goal 1 => clear_value x)
            on_goal 2 => (unfold x; clear x))
         | (have hx : Fr 34611205 s x.2 := ?_
            (on_goal 1 => clear_value x)
            on_goal 2 => (unfold x; clear x))
         | clear_value x)
    | with_reducible apply State.drawBytes_frame
    | refine Fr.pair (by assumption) (State.drawBytes_frame (h_ := ?_) ?_)
    | with_reducible apply State.setSignet_frame
    | with_reducible apply State.idleToPinWait_frame
    | with_reducible apply State.signetEvent_frame
    | (simp -zeta -beta -iota only [Fr.mk_iff]; first | refine FrU.upd ?_ rfl | refine FrU.filter _ ?_ rfl)
    | dsimp -zeta only

theorem State.signetOpenEffect_frame {m_ : Nat} {o_ : State} {s : State} {v : Bytes} (h_ : Fr m_ o_ s) (hm_ : Nat.land 34611205 m_ = 34611205) : Fr m_ o_ (State.signetOpenEffect s v) := by
  refine Fr.of h_ hm_ ?_
  clear h_ hm_
  have h_ := Fr.refl 34611205 s
  unfold State.signetOpenEffect
  repeat' first
    | with_reducible assumption
    | exact (rfl : Nat.land _ _ = _)
    | (extract_lets +onlyGivenNames x
       first
         | (have hx : Fr 34611205 s x := ?_
            (on_goal 1 => clear_value x)
            on_goal 2 => (unfold x; clear x))
         | (have hx : Fr 34611205 s x.2 := ?_
            (on_goal 1 => clear_value x)
            on_goal 2 => (unfold x; clear x))
         | clear_value x)
    | with_reducible apply State.openSignet_frame
    | dsimp -zeta only

theorem execSignetWindowEnd_frame {m_ : Nat} {o_ : State} {s : State} (h_ : Fr m_ o_ s) (hm_ : Nat.land 42999813 m_ = 42999813) : FrO m_ o_ (execSignetWindowEnd s) := by
  refine FrO.of h_ hm_ ?_
  clear h_ hm_
  have h_ := Fr.refl 42999813 s
  unfold execSignetWindowEnd
  repeat' first
    | with_reducible assumption
    | exact (rfl : Nat.land _ _ = _)
    | with_reducible apply State.endSignet_frame
    | with_reducible apply FrO.next
    | with_reducible refine Fr.ite ?_ ?_
    | with_reducible refine FrO.ite ?_ ?_
    | split

theorem State.consumeSignet_frame {m_ : Nat} {o_ : State} {s : State} (h_ : Fr m_ o_ s) (hm_ : Nat.land 1056773 m_ = 1056773) : Fr m_ o_ (State.consumeSignet s).2 := by
  refine Fr.of h_ hm_ ?_
  clear h_ hm_
  have h_ := Fr.refl 1056773 s
  unfold State.consumeSignet
  repeat' first
    | with_reducible assumption
    | exact (rfl : Nat.land _ _ = _)
    | (extract_lets +onlyGivenNames x
       first
         | (have hx : Fr 1056773 s x := ?_
            (on_goal 1 => clear_value x)
            on_goal 2 => (unfold x; clear x))
         | (have hx : Fr 1056773 s x.2 := ?_
            (on_goal 1 => clear_value x)
            on_goal 2 => (unfold x; clear x))
         | clear_value x)
    | with_reducible apply State.signetEvent_frame
    | with_reducible apply State.setSignet_frame
    | (simp -zeta -beta -iota only [Fr.mk_iff]; first | refine FrU.upd ?_ rfl | refine FrU.filter _ ?_ rfl)
    | dsimp -zeta only

theorem State.armZeroise_frame {m_ : Nat} {o_ : State} {s : State} (h_ : Fr m_ o_ s) (hm_ : Nat.land 1048577 m_ = 1048577) : Fr m_ o_ (State.armZeroise s) := by
  refine Fr.of h_ hm_ ?_
  clear h_ hm_
  have h_ := Fr.refl 1048577 s
  unfold State.armZeroise
  repeat' first
    | with_reducible assumption
    | exact (rfl : Nat.land _ _ = _)
    | (extract_lets +onlyGivenNames x
       first
         | (have hx : Fr 1048577 s x := ?_
            (on_goal 1 => clear_value x)
            on_goal 2 => (unfold x; clear x))
         | (have hx : Fr 1048577 s x.2 := ?_
            (on_goal 1 => clear_value x)
            on_goal 2 => (unfold x; clear x))
         | clear_value x)
    | with_reducible apply State.idleToPinWait_frame
    | (simp -zeta -beta -iota only [Fr.mk_iff]; first | refine FrU.upd ?_ rfl | refine FrU.filter _ ?_ rfl)

theorem execZeroiseArmExpiry_frame {m_ : Nat} {o_ : State} {s : State} (h_ : Fr m_ o_ s) (hm_ : Nat.land 1048576 m_ = 1048576) : FrO m_ o_ (execZeroiseArmExpiry s) := by
  refine FrO.of h_ hm_ ?_
  clear h_ hm_
  have h_ := Fr.refl 1048576 s
  unfold execZeroiseArmExpiry
  repeat' first
    | with_reducible assumption
    | exact (rfl : Nat.land _ _ = _)
    | (extract_lets +onlyGivenNames x
       first
         | (have hx : Fr 1048576 s x := ?_
            (on_goal 1 => clear_value x)
            on_goal 2 => (unfold x; clear x))
         | (have hx : Fr 1048576 s x.2 := ?_
            (on_goal 1 => clear_value x)
            on_goal 2 => (unfold x; clear x))
         | clear_value x)
    | with_reducible apply FrO.next
    | (simp -zeta -beta -iota only [Fr.mk_iff]; first | refine FrU.upd ?_ rfl | refine FrU.filter _ ?_ rfl)
    | with_reducible refine Fr.ite ?_ ?_
    | with_reducible refine Fr.ite2 ?_ ?_
    | with_reducible refine FrO.ite ?_ ?_
    | dsimp -zeta only
    | split

theorem State.setRng_frame {m_ : Nat} {o_ : State} {s : State} {r : Rng} (h_ : Fr m_ o_ s) (hm_ : Nat.land 33554432 m_ = 33554432) : Fr m_ o_ (State.setRng s r) := by
  refine Fr.of h_ hm_ ?_
  clear h_ hm_
  have h_ := Fr.refl 33554432 s
  unfold State.setRng
  repeat' first
    | with_reducible assumption
    | exact (rfl : Nat.land _ _ = _)
    | (extract_lets +onlyGivenNames x
       first
         | (have hx : Fr 33554432 s x := ?_
            (on_goal 1 => clear_value x)
            on_goal 2 => (unfold x; clear x))
         | (have hx : Fr 33554432 s x.2 := ?_
            (on_goal 1 => clear_value x)
            on_goal 2 => (unfold x; clear x))
         | clear_value x)
    | (simp -zeta -beta -iota only [Fr.mk_iff]; first | refine FrU.upd ?_ rfl | refine FrU.filter _ ?_ rfl)

theorem State.showRng_frame {m_ : Nat} {o_ : State} {s : State} (h_ : Fr m_ o_ s) (hm_ : Nat.land 1 m_ = 1) : Fr m_ o_ (State.showRng s) := by
  refine Fr.of h_ hm_ ?_
  clear h_ hm_
  have h_ := Fr.refl 1 s
  unfold State.showRng
  repeat' first
    | with_reducible assumption
    | exact (rfl : Nat.land _ _ = _)
    | (extract_lets +onlyGivenNames x
       first
         | (have hx : Fr 1 s x := ?_
            (on_goal 1 => clear_value x)
            on_goal 2 => (unfold x; clear x))
         | (have hx : Fr 1 s x.2 := ?_
            (on_goal 1 => clear_value x)
            on_goal 2 => (unfold x; clear x))
         | clear_value x)
    | with_reducible refine Fr.foldl _ _ ?_ (fun _ _ _ => ?_)
    | with_reducible apply State.put_frame
    | with_reducible apply State.putBit_frame
    | dsimp -zeta only
    | split

theorem State.instantiate_frame {m_ : Nat} {o_ : State} {s : State} (h_ : Fr m_ o_ s) (hm_ : Nat.land 41943044 m_ = 41943044) : Fr m_ o_ (State.instantiate s) := by
  refine Fr.of h_ hm_ ?_
  clear h_ hm_
  have h_ := Fr.refl 41943044 s
  unfold State.instantiate
  repeat' first
    | with_reducible assumption
    | exact (rfl : Nat.land _ _ = _)
    | (extract_lets +onlyGivenNames x
       first
         | (have hx : Fr 41943044 s x := ?_
            (on_goal 1 => clear_value x)
            on_goal 2 => (unfold x; clear x))
         | (have hx : Fr 41943044 s x.2 := ?_
            (on_goal 1 => clear_value x)
            on_goal 2 => (unfold x; clear x))
         | clear_value x)
    | with_reducible apply State.freshBytes_frame
    | refine Fr.pair (by assumption) (State.freshBytes_frame (h_ := ?_) ?_)
    | with_reducible apply State.setRng_frame
    | (simp -zeta -beta -iota only [Fr.mk_iff]; first | refine FrU.upd ?_ rfl | refine FrU.filter _ ?_ rfl)
    | with_reducible refine Fr.ite ?_ ?_
    | with_reducible refine Fr.ite2 ?_ ?_
    | dsimp -zeta only
    | split

theorem State.uninstantiate_frame {m_ : Nat} {o_ : State} {s : State} (h_ : Fr m_ o_ s) (hm_ : Nat.land 33554432 m_ = 33554432) : Fr m_ o_ (State.uninstantiate s) := by
  refine Fr.of h_ hm_ ?_
  clear h_ hm_
  have h_ := Fr.refl 33554432 s
  unfold State.uninstantiate
  repeat' first
    | with_reducible assumption
    | exact (rfl : Nat.land _ _ = _)
    | (extract_lets +onlyGivenNames x
       first
         | (have hx : Fr 33554432 s x := ?_
            (on_goal 1 => clear_value x)
            on_goal 2 => (unfold x; clear x))
         | (have hx : Fr 33554432 s x.2 := ?_
            (on_goal 1 => clear_value x)
            on_goal 2 => (unfold x; clear x))
         | clear_value x)
    | with_reducible apply State.setRng_frame
    | (simp -zeta -beta -iota only [Fr.mk_iff]; first | refine FrU.upd ?_ rfl | refine FrU.filter _ ?_ rfl)

theorem State.evalRng_frame {m_ : Nat} {o_ : State} {s : State} {before : Nat} {atInc : Bool} (h_ : Fr m_ o_ s) (hm_ : Nat.land 1874751029 m_ = 1874751029) : Fr m_ o_ (State.evalRng s before atInc) := by
  refine Fr.of h_ hm_ ?_
  clear h_ hm_
  have h_ := Fr.refl 1874751029 s
  unfold State.evalRng
  repeat' first
    | with_reducible assumption
    | exact (rfl : Nat.land _ _ = _)
    | (extract_lets +onlyGivenNames x
       first
         | (have hx : Fr 1874751029 s x := ?_
            (on_goal 1 => clear_value x)
            on_goal 2 => (unfold x; clear x))
         | (have hx : Fr 1874751029 s x.2 := ?_
            (on_goal 1 => clear_value x)
            on_goal 2 => (unfold x; clear x))
         | clear_value x)
    | with_reducible apply State.alarms_frame
    | with_reducible apply State.setRng_frame
    | with_reducible apply State.instantiate_frame
    | with_reducible apply State.showRng_frame
    | (simp -zeta -beta -iota only [Fr.mk_iff]; first | refine FrU.upd ?_ rfl | refine FrU.filter _ ?_ rfl)
    | with_reducible refine Fr.ite ?_ ?_
    | dsimp -zeta only
    | split

theorem State.setSource_frame {m_ : Nat} {o_ : State} {s : State} {n : Nat} {x : Source} (h_ : Fr m_ o_ s) (hm_ : Nat.land 33554432 m_ = 33554432) : Fr m_ o_ (State.setSource s n x) := by
  refine Fr.of h_ hm_ ?_
  clear h_ hm_
  have h_ := Fr.refl 33554432 s
  unfold State.setSource
  repeat' first
    | with_reducible assumption
    | exact (rfl : Nat.land _ _ = _)
    | (extract_lets +onlyGivenNames x
       first
         | (have hx : Fr 33554432 s x := ?_
            (on_goal 1 => clear_value x)
            on_goal 2 => (unfold x; clear x))
         | (have hx : Fr 33554432 s x.2 := ?_
            (on_goal 1 => clear_value x)
            on_goal 2 => (unfold x; clear x))
         | clear_value x)
    | with_reducible apply State.setRng_frame
    | (simp -zeta -beta -iota only [Fr.mk_iff]; first | refine FrU.upd ?_ rfl | refine FrU.filter _ ?_ rfl)

theorem State.release_frame {m_ : Nat} {o_ : State} {s : State} {windows : Nat} (h_ : Fr m_ o_ s) (hm_ : Nat.land 33554432 m_ = 33554432) : Fr m_ o_ (State.release s windows) := by
  refine Fr.of h_ hm_ ?_
  clear h_ hm_
  have h_ := Fr.refl 33554432 s
  unfold State.release
  repeat' first
    | with_reducible assumption
    | exact (rfl : Nat.land _ _ = _)
    | (extract_lets +onlyGivenNames x
       first
         | (have hx : Fr 33554432 s x := ?_
            (on_goal 1 => clear_value x)
            on_goal 2 => (unfold x; clear x))
         | (have hx : Fr 33554432 s x.2 := ?_
            (on_goal 1 => clear_value x)
            on_goal 2 => (unfold x; clear x))
         | clear_value x)
    | with_reducible refine Fr.foldl _ _ ?_ (fun _ _ _ => ?_)
    | with_reducible apply State.setRng_frame
    | (simp -zeta -beta -iota only [Fr.mk_iff]; first | refine FrU.upd ?_ rfl | refine FrU.filter _ ?_ rfl)
    | with_reducible refine Fr.ite ?_ ?_
    | dsimp -zeta only
    | split

theorem execEntropyWindowEnd_frame {m_ : Nat} {o_ : State} {src : Nat} {s : State} (h_ : Fr m_ o_ s) (hm_ : Nat.land 33554433 m_ = 33554433) : FrO m_ o_ (execEntropyWindowEnd src s) := by
  refine FrO.of h_ hm_ ?_
  clear h_ hm_
  have h_ := Fr.refl 33554433 s
  unfold execEntropyWindowEnd
  repeat' first
    | with_reducible assumption
    | exact (rfl : Nat.land _ _ = _)
    | with_reducible apply State.showRng_frame
    | with_reducible apply State.release_frame
    | with_reducible apply FrO.next
    | with_reducible refine Fr.ite ?_ ?_
    | with_reducible refine FrO.ite ?_ ?_
    | split

theorem State.countFail_frame {m_ : Nat} {o_ : State} {s : State} {repetition : Bool} (h_ : Fr m_ o_ s) (hm_ : Nat.land 33554433 m_ = 33554433) : Fr m_ o_ (State.countFail s repetition) := by
  refine Fr.of h_ hm_ ?_
  clear h_ hm_
  have h_ := Fr.refl 33554433 s
  unfold State.countFail
  repeat' first
    | with_reducible assumption
    | exact (rfl : Nat.land _ _ = _)
    | (extract_lets +onlyGivenNames x
       first
         | (have hx : Fr 33554433 s x := ?_
            (on_goal 1 => clear_value x)
            on_goal 2 => (unfold x; clear x))
         | (have hx : Fr 33554433 s x.2 := ?_
            (on_goal 1 => clear_value x)
            on_goal 2 => (unfold x; clear x))
         | clear_value x)
    | with_reducible apply State.count_frame
    | with_reducible apply State.setRng_frame
    | (simp -zeta -beta -iota only [Fr.mk_iff]; first | refine FrU.upd ?_ rfl | refine FrU.filter _ ?_ rfl)
    | with_reducible refine Fr.ite ?_ ?_
    | dsimp -zeta only
    | split

theorem execHealthTestFail_frame {m_ : Nat} {o_ : State} {src : Nat} {repetition : Bool} {s : State} (h_ : Fr m_ o_ s) (hm_ : Nat.land 1874751029 m_ = 1874751029) : FrO m_ o_ (execHealthTestFail src repetition s) := by
  refine FrO.of h_ hm_ ?_
  clear h_ hm_
  have h_ := Fr.refl 1874751029 s
  unfold execHealthTestFail
  repeat' first
    | with_reducible assumption
    | exact (rfl : Nat.land _ _ = _)
    | (extract_lets +onlyGivenNames x
       first
         | (have hx : Fr 1874751029 s x := ?_
            (on_goal 1 => clear_value x)
            on_goal 2 => (unfold x; clear x))
         | (have hx : Fr 1874751029 s x.2 := ?_
            (on_goal 1 => clear_value x)
            on_goal 2 => (unfold x; clear x))
         | clear_value x)
    | with_reducible apply State.countFail_frame
    | with_reducible apply State.evalRng_frame
    | with_reducible apply State.event_frame
    | with_reducible apply State.setSource_frame
    | with_reducible apply FrO.next
    | with_reducible refine Fr.ite ?_ ?_
    | with_reducible refine FrO.ite ?_ ?_
    | dsimp -zeta only
    | split

theorem execStartupTestPass_frame {m_ : Nat} {o_ : State} {src : Nat} {s : State} (h_ : Fr m_ o_ s) (hm_ : Nat.land 1874751029 m_ = 1874751029) : FrO m_ o_ (execStartupTestPass src s) := by
  refine FrO.of h_ hm_ ?_
  clear h_ hm_
  have h_ := Fr.refl 1874751029 s
  unfold execStartupTestPass
  repeat' first
    | with_reducible assumption
    | exact (rfl : Nat.land _ _ = _)
    | (extract_lets +onlyGivenNames x
       first
         | (have hx : Fr 1874751029 s x := ?_
            (on_goal 1 => clear_value x)
            on_goal 2 => (unfold x; clear x))
         | (have hx : Fr 1874751029 s x.2 := ?_
            (on_goal 1 => clear_value x)
            on_goal 2 => (unfold x; clear x))
         | clear_value x)
    | with_reducible apply State.evalRng_frame
    | with_reducible apply State.release_frame
    | with_reducible apply State.setSource_frame
    | with_reducible apply FrO.next
    | with_reducible refine Fr.ite ?_ ?_
    | with_reducible refine FrO.ite ?_ ?_
    | dsimp -zeta only
    | split

theorem execQuarantineRetry_frame {m_ : Nat} {o_ : State} {src : Nat} {s : State} (h_ : Fr m_ o_ s) (hm_ : Nat.land 33554433 m_ = 33554433) : FrO m_ o_ (execQuarantineRetry src s) := by
  refine FrO.of h_ hm_ ?_
  clear h_ hm_
  have h_ := Fr.refl 33554433 s
  unfold execQuarantineRetry
  repeat' first
    | with_reducible assumption
    | exact (rfl : Nat.land _ _ = _)
    | (extract_lets +onlyGivenNames x
       first
         | (have hx : Fr 33554433 s x := ?_
            (on_goal 1 => clear_value x)
            on_goal 2 => (unfold x; clear x))
         | (have hx : Fr 33554433 s x.2 := ?_
            (on_goal 1 => clear_value x)
            on_goal 2 => (unfold x; clear x))
         | clear_value x)
    | with_reducible apply State.showRng_frame
    | with_reducible apply State.setSource_frame
    | with_reducible apply FrO.next
    | (simp -zeta -beta -iota only [Fr.mk_iff]; first | refine FrU.upd ?_ rfl | refine FrU.filter _ ?_ rfl)
    | with_reducible refine Fr.ite ?_ ?_
    | with_reducible refine FrO.ite ?_ ?_
    | dsimp -zeta only
    | split

theorem State.setDrbg_frame {m_ : Nat} {o_ : State} {s : State} {d : Nat} {x : Drbg} (h_ : Fr m_ o_ s) (hm_ : Nat.land 33554432 m_ = 33554432) : Fr m_ o_ (State.setDrbg s d x) := by
  refine Fr.of h_ hm_ ?_
  clear h_ hm_
  have h_ := Fr.refl 33554432 s
  unfold State.setDrbg
  repeat' first
    | with_reducible assumption
    | exact (rfl : Nat.land _ _ = _)
    | (extract_lets +onlyGivenNames x
       first
         | (have hx : Fr 33554432 s x := ?_
            (on_goal 1 => clear_value x)
            on_goal 2 => (unfold x; clear x))
         | (have hx : Fr 33554432 s x.2 := ?_
            (on_goal 1 => clear_value x)
            on_goal 2 => (unfold x; clear x))
         | clear_value x)
    | with_reducible apply State.setRng_frame
    | (simp -zeta -beta -iota only [Fr.mk_iff]; first | refine FrU.upd ?_ rfl | refine FrU.filter _ ?_ rfl)

theorem State.reseed_frame {m_ : Nat} {o_ : State} {s : State} {d : Nat} (h_ : Fr m_ o_ s) (hm_ : Nat.land 33554432 m_ = 33554432) : Fr m_ o_ (State.reseed s d) := by
  refine Fr.of h_ hm_ ?_
  clear h_ hm_
  have h_ := Fr.refl 33554432 s
  unfold State.reseed
  repeat' first
    | with_reducible assumption
    | exact (rfl : Nat.land _ _ = _)
    | (extract_lets +onlyGivenNames x
       first
         | (have hx : Fr 33554432 s x := ?_
            (on_goal 1 => clear_value x)
            on_goal 2 => (unfold x; clear x))
         | (have hx : Fr 33554432 s x.2 := ?_
            (on_goal 1 => clear_value x)
            on_goal 2 => (unfold x; clear x))
         | clear_value x)
    | with_reducible apply State.setDrbg_frame
    | with_reducible apply State.setRng_frame
    | (simp -zeta -beta -iota only [Fr.mk_iff]; first | refine FrU.upd ?_ rfl | refine FrU.filter _ ?_ rfl)
    | dsimp -zeta only

theorem execDrbgReseed_frame {m_ : Nat} {o_ : State} {d : Nat} {s : State} (h_ : Fr m_ o_ s) (hm_ : Nat.land 33554433 m_ = 33554433) : FrO m_ o_ (execDrbgReseed d s) := by
  refine FrO.of h_ hm_ ?_
  clear h_ hm_
  have h_ := Fr.refl 33554433 s
  unfold execDrbgReseed
  repeat' first
    | with_reducible assumption
    | exact (rfl : Nat.land _ _ = _)
    | (extract_lets +onlyGivenNames x
       first
         | (have hx : Fr 33554433 s x := ?_
            (on_goal 1 => clear_value x)
            on_goal 2 => (unfold x; clear x))
         | (have hx : Fr 33554433 s x.2 := ?_
            (on_goal 1 => clear_value x)
            on_goal 2 => (unfold x; clear x))
         | clear_value x)
    | with_reducible apply State.reseed_frame
    | with_reducible apply State.showRng_frame
    | with_reducible apply State.setRng_frame
    | with_reducible apply FrO.next
    | (simp -zeta -beta -iota only [Fr.mk_iff]; first | refine FrU.upd ?_ rfl | refine FrU.filter _ ?_ rfl)
    | with_reducible refine Fr.ite ?_ ?_
    | with_reducible refine FrO.ite ?_ ?_
    | dsimp -zeta only
    | split

theorem State.generate_frame {m_ : Nat} {o_ : State} {s : State} {d : Nat} {len : Nat} {pr : Bool} (h_ : Fr m_ o_ s) (hm_ : Nat.land 33554436 m_ = 33554436) : Fr m_ o_ (State.generate s d len pr).2 := by
  refine Fr.of h_ hm_ ?_
  clear h_ hm_
  have h_ := Fr.refl 33554436 s
  unfold State.generate
  repeat' first
    | with_reducible assumption
    | exact (rfl : Nat.land _ _ = _)
    | (extract_lets +onlyGivenNames x
       first
         | (have hx : Fr 33554436 s x := ?_
            (on_goal 1 => clear_value x)
            on_goal 2 => (unfold x; clear x))
         | (have hx : Fr 33554436 s x.2 := ?_
            (on_goal 1 => clear_value x)
            on_goal 2 => (unfold x; clear x))
         | clear_value x)
    | with_reducible apply State.reseed_frame
    | with_reducible apply State.setDrbg_frame
    | with_reducible apply State.freshBytes_frame
    | (simp -zeta -beta -iota only [Fr.mk_iff]; first | refine FrU.upd ?_ rfl | refine FrU.filter _ ?_ rfl)
    | with_reducible refine Fr.ite ?_ ?_
    | with_reducible refine Fr.ite2 ?_ ?_
    | dsimp -zeta only
    | split

theorem execPortRefill_frame {m_ : Nat} {o_ : State} {secure : Bool} {busy : List Nat} {s : State} (h_ : Fr m_ o_ s) (hm_ : Nat.land 33554437 m_ = 33554437) : FrO m_ o_ (execPortRefill secure busy s) := by
  refine FrO.of h_ hm_ ?_
  clear h_ hm_
  have h_ := Fr.refl 33554437 s
  unfold execPortRefill
  repeat' first
    | with_reducible assumption
    | exact (rfl : Nat.land _ _ = _)
    | (extract_lets +onlyGivenNames x
       first
         | (have hx : Fr 33554437 s x := ?_
            (on_goal 1 => clear_value x)
            on_goal 2 => (unfold x; clear x))
         | (have hx : Fr 33554437 s x.2 := ?_
            (on_goal 1 => clear_value x)
            on_goal 2 => (unfold x; clear x))
         | clear_value x)
    | with_reducible apply State.generate_frame
    | refine Fr.pair (by assumption) (State.generate_frame (h_ := ?_) ?_)
    | with_reducible apply State.putBit_frame
    | with_reducible apply State.showRng_frame
    | with_reducible apply State.setRng_frame
    | with_reducible apply FrO.next
    | (simp -zeta -beta -iota only [Fr.mk_iff]; first | refine FrU.upd ?_ rfl | refine FrU.filter _ ?_ rfl)
    | with_reducible refine Fr.ite ?_ ?_
    | with_reducible refine Fr.ite2 ?_ ?_
    | with_reducible refine FrO.ite ?_ ?_
    | dsimp -zeta only
    | split

theorem execDrbgGenerate_frame {m_ : Nat} {o_ : State} {busy : List Nat} {s : State} (h_ : Fr m_ o_ s) (hm_ : Nat.land 33555141 m_ = 33555141) : FrO m_ o_ (execDrbgGenerate busy s) := by
  refine FrO.of h_ hm_ ?_
  clear h_ hm_
  have h_ := Fr.refl 33555141 s
  unfold execDrbgGenerate
  repeat' first
    | with_reducible assumption
    | exact (rfl : Nat.land _ _ = _)
    | (extract_lets +onlyGivenNames x
       first
         | (have hx : Fr 33555141 s x := ?_
            (on_goal 1 => clear_value x)
            on_goal 2 => (unfold x; clear x))
         | (have hx : Fr 33555141 s x.2 := ?_
            (on_goal 1 => clear_value x)
            on_goal 2 => (unfold x; clear x))
         | clear_value x)
    | refine State.pick_frame (e_ := by assumption) (h_ := ?_) ?_
    | with_reducible apply State.generate_frame
    | refine Fr.pair (by assumption) (State.generate_frame (h_ := ?_) ?_)
    | with_reducible apply State.showRng_frame
    | with_reducible apply State.setJob_frame
    | with_reducible apply FrO.next
    | (simp -zeta -beta -iota only [Fr.mk_iff]; first | refine FrU.upd ?_ rfl | refine FrU.filter _ ?_ rfl)
    | with_reducible refine Fr.ite ?_ ?_
    | with_reducible refine Fr.ite2 ?_ ?_
    | with_reducible refine FrO.ite ?_ ?_
    | dsimp -zeta only
    | split

theorem execDrbgInstanceStall_frame {m_ : Nat} {o_ : State} {d : Nat} {s : State} (h_ : Fr m_ o_ s) (hm_ : Nat.land 33554433 m_ = 33554433) : FrO m_ o_ (execDrbgInstanceStall d s) := by
  refine FrO.of h_ hm_ ?_
  clear h_ hm_
  have h_ := Fr.refl 33554433 s
  unfold execDrbgInstanceStall
  repeat' first
    | with_reducible assumption
    | exact (rfl : Nat.land _ _ = _)
    | (extract_lets +onlyGivenNames x
       first
         | (have hx : Fr 33554433 s x := ?_
            (on_goal 1 => clear_value x)
            on_goal 2 => (unfold x; clear x))
         | (have hx : Fr 33554433 s x.2 := ?_
            (on_goal 1 => clear_value x)
            on_goal 2 => (unfold x; clear x))
         | clear_value x)
    | with_reducible apply State.showRng_frame
    | with_reducible apply State.setDrbg_frame
    | with_reducible apply FrO.next
    | (simp -zeta -beta -iota only [Fr.mk_iff]; first | refine FrU.upd ?_ rfl | refine FrU.filter _ ?_ rfl)
    | with_reducible refine Fr.ite ?_ ?_
    | with_reducible refine FrO.ite ?_ ?_
    | dsimp -zeta only
    | split

theorem State.portRead_frame {m_ : Nat} {o_ : State} {s : State} {secure : Bool} (h_ : Fr m_ o_ s) (hm_ : Nat.land 33554441 m_ = 33554441) : Fr m_ o_ (State.portRead s secure) := by
  refine Fr.of h_ hm_ ?_
  clear h_ hm_
  have h_ := Fr.refl 33554441 s
  unfold State.portRead
  repeat' first
    | with_reducible assumption
    | exact (rfl : Nat.land _ _ = _)
    | (extract_lets +onlyGivenNames x
       first
         | (have hx : Fr 33554441 s x := ?_
            (on_goal 1 => clear_value x)
            on_goal 2 => (unfold x; clear x))
         | (have hx : Fr 33554441 s x.2 := ?_
            (on_goal 1 => clear_value x)
            on_goal 2 => (unfold x; clear x))
         | clear_value x)
    | with_reducible apply State.putBit_frame
    | with_reducible apply State.showRng_frame
    | with_reducible apply State.setRng_frame
    | (simp -zeta -beta -iota only [Fr.mk_iff]; first | refine FrU.upd ?_ rfl | refine FrU.filter _ ?_ rfl)
    | with_reducible refine Fr.ite ?_ ?_
    | dsimp -zeta only
    | split

theorem execRngSDataRead_frame {m_ : Nat} {o_ : State} {s : State} (h_ : Fr m_ o_ s) (hm_ : Nat.land 33554441 m_ = 33554441) : FrO m_ o_ (execRngSDataRead s) := by
  refine FrO.of h_ hm_ ?_
  clear h_ hm_
  have h_ := Fr.refl 33554441 s
  unfold execRngSDataRead
  repeat' first
    | with_reducible assumption
    | exact (rfl : Nat.land _ _ = _)
    | with_reducible apply State.portRead_frame
    | with_reducible apply FrO.next

theorem execRngNsDataRead_frame {m_ : Nat} {o_ : State} {s : State} (h_ : Fr m_ o_ s) (hm_ : Nat.land 33554441 m_ = 33554441) : FrO m_ o_ (execRngNsDataRead s) := by
  refine FrO.of h_ hm_ ?_
  clear h_ hm_
  have h_ := Fr.refl 33554441 s
  unfold execRngNsDataRead
  repeat' first
    | with_reducible assumption
    | exact (rfl : Nat.land _ _ = _)
    | with_reducible apply State.portRead_frame
    | with_reducible apply FrO.next

theorem State.portRequest_frame {m_ : Nat} {o_ : State} {s : State} {secure : Bool} (h_ : Fr m_ o_ s) (hm_ : Nat.land 33554433 m_ = 33554433) : Fr m_ o_ (State.portRequest s secure) := by
  refine Fr.of h_ hm_ ?_
  clear h_ hm_
  have h_ := Fr.refl 33554433 s
  unfold State.portRequest
  repeat' first
    | with_reducible assumption
    | exact (rfl : Nat.land _ _ = _)
    | (extract_lets +onlyGivenNames x
       first
         | (have hx : Fr 33554433 s x := ?_
            (on_goal 1 => clear_value x)
            on_goal 2 => (unfold x; clear x))
         | (have hx : Fr 33554433 s x.2 := ?_
            (on_goal 1 => clear_value x)
            on_goal 2 => (unfold x; clear x))
         | clear_value x)
    | with_reducible apply State.putBit_frame
    | with_reducible apply State.showRng_frame
    | with_reducible apply State.setRng_frame
    | (simp -zeta -beta -iota only [Fr.mk_iff]; first | refine FrU.upd ?_ rfl | refine FrU.filter _ ?_ rfl)
    | with_reducible refine Fr.ite ?_ ?_
    | dsimp -zeta only
    | split

theorem execRngSPrRequest_frame {m_ : Nat} {o_ : State} {s : State} (h_ : Fr m_ o_ s) (hm_ : Nat.land 33554433 m_ = 33554433) : FrO m_ o_ (execRngSPrRequest s) := by
  refine FrO.of h_ hm_ ?_
  clear h_ hm_
  have h_ := Fr.refl 33554433 s
  unfold execRngSPrRequest
  repeat' first
    | with_reducible assumption
    | exact (rfl : Nat.land _ _ = _)
    | with_reducible apply State.portRequest_frame
    | with_reducible apply FrO.next

theorem execRngNsPrRequest_frame {m_ : Nat} {o_ : State} {s : State} (h_ : Fr m_ o_ s) (hm_ : Nat.land 33554433 m_ = 33554433) : FrO m_ o_ (execRngNsPrRequest s) := by
  refine FrO.of h_ hm_ ?_
  clear h_ hm_
  have h_ := Fr.refl 33554433 s
  unfold execRngNsPrRequest
  repeat' first
    | with_reducible assumption
    | exact (rfl : Nat.land _ _ = _)
    | with_reducible apply State.portRequest_frame
    | with_reducible apply FrO.next

theorem execRngTestSelect_frame {m_ : Nat} {o_ : State} {sel : Nat} {src : Nat} {s : State} (h_ : Fr m_ o_ s) (hm_ : Nat.land 1874751029 m_ = 1874751029) : FrO m_ o_ (execRngTestSelect sel src s) := by
  refine FrO.of h_ hm_ ?_
  clear h_ hm_
  have h_ := Fr.refl 1874751029 s
  unfold execRngTestSelect
  repeat' first
    | with_reducible assumption
    | exact (rfl : Nat.land _ _ = _)
    | (extract_lets +onlyGivenNames x
       first
         | (have hx : Fr 1874751029 s x := ?_
            (on_goal 1 => clear_value x)
            on_goal 2 => (unfold x; clear x))
         | (have hx : Fr 1874751029 s x.2 := ?_
            (on_goal 1 => clear_value x)
            on_goal 2 => (unfold x; clear x))
         | clear_value x)
    | with_reducible apply State.put_frame
    | with_reducible apply State.setRng_frame
    | with_reducible apply State.uninstantiate_frame
    | with_reducible apply State.evalRng_frame
    | with_reducible apply FrO.next
    | (simp -zeta -beta -iota only [Fr.mk_iff]; first | refine FrU.upd ?_ rfl | refine FrU.filter _ ?_ rfl)
    | with_reducible refine Fr.ite ?_ ?_
    | with_reducible refine FrO.ite ?_ ?_
    | dsimp -zeta only
    | split

theorem State.rawWord_frame {m_ : Nat} {o_ : State} {s : State} (h_ : Fr m_ o_ s) (hm_ : Nat.land 4 m_ = 4) : Fr m_ o_ (State.rawWord s).2 := by
  refine Fr.of h_ hm_ ?_
  clear h_ hm_
  have h_ := Fr.refl 4 s
  unfold State.rawWord
  repeat' first
    | with_reducible assumption
    | exact (rfl : Nat.land _ _ = _)
    | (extract_lets +onlyGivenNames x
       first
         | (have hx : Fr 4 s x := ?_
            (on_goal 1 => clear_value x)
            on_goal 2 => (unfold x; clear x))
         | (have hx : Fr 4 s x.2 := ?_
            (on_goal 1 => clear_value x)
            on_goal 2 => (unfold x; clear x))
         | clear_value x)
    | with_reducible apply State.freshNat_frame
    | refine Fr.pair (by assumption) (State.freshNat_frame (h_ := ?_) ?_)
    | with_reducible refine Fr.ite ?_ ?_
    | with_reducible refine Fr.ite2 ?_ ?_
    | dsimp -zeta only
    | split

theorem execRngRawDataRead_frame {m_ : Nat} {o_ : State} {s : State} (h_ : Fr m_ o_ s) (hm_ : Nat.land 13 m_ = 13) : FrO m_ o_ (execRngRawDataRead s) := by
  refine FrO.of h_ hm_ ?_
  clear h_ hm_
  have h_ := Fr.refl 13 s
  unfold execRngRawDataRead
  repeat' first
    | with_reducible assumption
    | exact (rfl : Nat.land _ _ = _)
    | (extract_lets +onlyGivenNames x
       first
         | (have hx : Fr 13 s x := ?_
            (on_goal 1 => clear_value x)
            on_goal 2 => (unfold x; clear x))
         | (have hx : Fr 13 s x.2 := ?_
            (on_goal 1 => clear_value x)
            on_goal 2 => (unfold x; clear x))
         | clear_value x)
    | with_reducible apply State.rawWord_frame
    | refine Fr.pair (by assumption) (State.rawWord_frame (h_ := ?_) ?_)
    | with_reducible apply State.putBit_frame
    | with_reducible apply FrO.next
    | (simp -zeta -beta -iota only [Fr.mk_iff]; first | refine FrU.upd ?_ rfl | refine FrU.filter _ ?_ rfl)
    | with_reducible refine Fr.ite ?_ ?_
    | with_reducible refine Fr.ite2 ?_ ?_
    | with_reducible refine FrO.ite ?_ ?_
    | dsimp -zeta only
    | split

theorem State.rngTick_frame {m_ : Nat} {o_ : State} {s : State} (h_ : Fr m_ o_ s) (hm_ : Nat.land 33562625 m_ = 33562625) : Fr m_ o_ (State.rngTick s) := by
  refine Fr.of h_ hm_ ?_
  clear h_ hm_
  have h_ := Fr.refl 33562625 s
  unfold State.rngTick
  repeat' first
    | with_reducible assumption
    | exact (rfl : Nat.land _ _ = _)
    | (extract_lets +onlyGivenNames x
       first
         | (have hx : Fr 33562625 s x := ?_
            (on_goal 1 => clear_value x)
            on_goal 2 => (unfold x; clear x))
         | (have hx : Fr 33562625 s x.2 := ?_
            (on_goal 1 => clear_value x)
            on_goal 2 => (unfold x; clear x))
         | clear_value x)
    | with_reducible apply State.setRng_frame
    | with_reducible apply State.event_frame
    | with_reducible apply State.putBit_frame
    | with_reducible apply State.showRng_frame
    | (simp -zeta -beta -iota only [Fr.mk_iff]; first | refine FrU.upd ?_ rfl | refine FrU.filter _ ?_ rfl)
    | with_reducible refine Fr.ite ?_ ?_
    | dsimp -zeta only
    | split

theorem execBgnPromote_frame {m_ : Nat} {o_ : State} {core : Nat} {s : State} (h_ : Fr m_ o_ s) (hm_ : Nat.land 17301505 m_ = 17301505) : FrO m_ o_ (execBgnPromote core s) := by
  refine FrO.of h_ hm_ ?_
  clear h_ hm_
  have h_ := Fr.refl 17301505 s
  unfold execBgnPromote
  repeat' first
    | with_reducible assumption
    | exact (rfl : Nat.land _ _ = _)
    | with_reducible apply State.promote_frame
    | with_reducible apply FrO.next

theorem execLatPromote_frame {m_ : Nat} {o_ : State} {core : Nat} {s : State} (h_ : Fr m_ o_ s) (hm_ : Nat.land 17301505 m_ = 17301505) : FrO m_ o_ (execLatPromote core s) := by
  refine FrO.of h_ hm_ ?_
  clear h_ hm_
  have h_ := Fr.refl 17301505 s
  unfold execLatPromote
  repeat' first
    | with_reducible assumption
    | exact (rfl : Nat.land _ _ = _)
    | with_reducible apply State.promote_frame
    | with_reducible apply FrO.next

theorem State.setHold_frame {m_ : Nat} {o_ : State} {s : State} {k : ClusterId} {n : Nat} {on : Bool} (h_ : Fr m_ o_ s) (hm_ : Nat.land 1 m_ = 1) : Fr m_ o_ (State.setHold s k n on) := by
  refine Fr.of h_ hm_ ?_
  clear h_ hm_
  have h_ := Fr.refl 1 s
  unfold State.setHold
  repeat' first
    | with_reducible assumption
    | exact (rfl : Nat.land _ _ = _)
    | (extract_lets +onlyGivenNames x
       first
         | (have hx : Fr 1 s x := ?_
            (on_goal 1 => clear_value x)
            on_goal 2 => (unfold x; clear x))
         | (have hx : Fr 1 s x.2 := ?_
            (on_goal 1 => clear_value x)
            on_goal 2 => (unfold x; clear x))
         | clear_value x)
    | with_reducible apply State.put_frame
    | (simp -zeta -beta -iota only [Fr.mk_iff]; first | refine FrU.upd ?_ rfl | refine FrU.filter _ ?_ rfl)
    | with_reducible refine Fr.ite ?_ ?_
    | with_reducible refine Fr.ite2 ?_ ?_
    | dsimp -zeta only
    | split

theorem State.setFence_frame {m_ : Nat} {o_ : State} {s : State} {k : ClusterId} {n : Nat} (h_ : Fr m_ o_ s) (hm_ : Nat.land 1 m_ = 1) : Fr m_ o_ (State.setFence s k n) := by
  refine Fr.of h_ hm_ ?_
  clear h_ hm_
  have h_ := Fr.refl 1 s
  unfold State.setFence
  repeat' first
    | with_reducible assumption
    | exact (rfl : Nat.land _ _ = _)
    | (extract_lets +onlyGivenNames x
       first
         | (have hx : Fr 1 s x := ?_
            (on_goal 1 => clear_value x)
            on_goal 2 => (unfold x; clear x))
         | (have hx : Fr 1 s x.2 := ?_
            (on_goal 1 => clear_value x)
            on_goal 2 => (unfold x; clear x))
         | clear_value x)
    | with_reducible apply State.put_frame
    | (simp -zeta -beta -iota only [Fr.mk_iff]; first | refine FrU.upd ?_ rfl | refine FrU.filter _ ?_ rfl)
    | with_reducible refine Fr.ite ?_ ?_
    | with_reducible refine Fr.ite2 ?_ ?_
    | dsimp -zeta only
    | split

theorem execBgnHold_frame {m_ : Nat} {o_ : State} {core : Nat} {on : Bool} {s : State} (h_ : Fr m_ o_ s) (hm_ : Nat.land 17301505 m_ = 17301505) : FrO m_ o_ (execBgnHold core on s) := by
  refine FrO.of h_ hm_ ?_
  clear h_ hm_
  have h_ := Fr.refl 17301505 s
  unfold execBgnHold
  repeat' first
    | with_reducible assumption
    | exact (rfl : Nat.land _ _ = _)
    | with_reducible apply State.updateCore_frame
    | with_reducible apply State.setHold_frame
    | with_reducible apply FrO.next
    | with_reducible refine Fr.ite ?_ ?_
    | with_reducible refine FrO.ite ?_ ?_
    | split

theorem execLatHold_frame {m_ : Nat} {o_ : State} {core : Nat} {on : Bool} {s : State} (h_ : Fr m_ o_ s) (hm_ : Nat.land 17301505 m_ = 17301505) : FrO m_ o_ (execLatHold core on s) := by
  refine FrO.of h_ hm_ ?_
  clear h_ hm_
  have h_ := Fr.refl 17301505 s
  unfold execLatHold
  repeat' first
    | with_reducible assumption
    | exact (rfl : Nat.land _ _ = _)
    | with_reducible apply State.updateCore_frame
    | with_reducible apply State.setHold_frame
    | with_reducible apply FrO.next
    | with_reducible refine Fr.ite ?_ ?_
    | with_reducible refine FrO.ite ?_ ?_
    | split

theorem execBgnFence_frame {m_ : Nat} {o_ : State} {core : Nat} {s : State} (h_ : Fr m_ o_ s) (hm_ : Nat.land 17301505 m_ = 17301505) : FrO m_ o_ (execBgnFence core s) := by
  refine FrO.of h_ hm_ ?_
  clear h_ hm_
  have h_ := Fr.refl 17301505 s
  unfold execBgnFence
  repeat' first
    | with_reducible assumption
    | exact (rfl : Nat.land _ _ = _)
    | with_reducible apply State.updateCore_frame
    | with_reducible apply State.setFence_frame
    | with_reducible apply FrO.next
    | with_reducible refine Fr.ite ?_ ?_
    | with_reducible refine FrO.ite ?_ ?_
    | split

theorem execLatFence_frame {m_ : Nat} {o_ : State} {core : Nat} {s : State} (h_ : Fr m_ o_ s) (hm_ : Nat.land 17301505 m_ = 17301505) : FrO m_ o_ (execLatFence core s) := by
  refine FrO.of h_ hm_ ?_
  clear h_ hm_
  have h_ := Fr.refl 17301505 s
  unfold execLatFence
  repeat' first
    | with_reducible assumption
    | exact (rfl : Nat.land _ _ = _)
    | with_reducible apply State.updateCore_frame
    | with_reducible apply State.setFence_frame
    | with_reducible apply FrO.next
    | with_reducible refine Fr.ite ?_ ?_
    | with_reducible refine FrO.ite ?_ ?_
    | split

theorem execBgnCoreCfgWrite_frame {m_ : Nat} {o_ : State} {core : Nat} {units : Nat} {s : State} (h_ : Fr m_ o_ s) (hm_ : Nat.land 150994945 m_ = 150994945) : FrO m_ o_ (execBgnCoreCfgWrite core units s) := by
  refine FrO.of h_ hm_ ?_
  clear h_ hm_
  have h_ := Fr.refl 150994945 s
  unfold execBgnCoreCfgWrite
  repeat' first
    | with_reducible assumption
    | exact (rfl : Nat.land _ _ = _)
    | with_reducible apply State.clearCore_frame
    | with_reducible apply State.put_frame
    | with_reducible apply State.coreErr_frame
    | with_reducible apply FrO.next
    | with_reducible refine Fr.ite ?_ ?_
    | with_reducible refine FrO.ite ?_ ?_
    | split

theorem State.bgnStart_frame {m_ : Nat} {o_ : State} {s : State} {n : Nat} {op : Nat} {param : Nat} (h_ : Fr m_ o_ s) (hm_ : Nat.land 150994945 m_ = 150994945) : Fr m_ o_ (State.bgnStart s n op param) := by
  refine Fr.of h_ hm_ ?_
  clear h_ hm_
  have h_ := Fr.refl 150994945 s
  unfold State.bgnStart
  repeat' first
    | with_reducible assumption
    | exact (rfl : Nat.land _ _ = _)
    | (extract_lets +onlyGivenNames x
       first
         | (have hx : Fr 150994945 s x := ?_
            (on_goal 1 => clear_value x)
            on_goal 2 => (unfold x; clear x))
         | (have hx : Fr 150994945 s x.2 := ?_
            (on_goal 1 => clear_value x)
            on_goal 2 => (unfold x; clear x))
         | clear_value x)
    | with_reducible apply State.putBit_frame
    | with_reducible apply State.put_frame
    | with_reducible apply State.setCluster_frame
    | with_reducible apply State.coreErr_frame
    | (simp -zeta -beta -iota only [Fr.mk_iff]; first | refine FrU.upd ?_ rfl | refine FrU.filter _ ?_ rfl)
    | with_reducible refine Fr.ite ?_ ?_
    | dsimp -zeta only
    | split

theorem execBgnFwOpComplete_frame {m_ : Nat} {o_ : State} {core : Nat} {s : State} (h_ : Fr m_ o_ s) (hm_ : Nat.land 151519237 m_ = 151519237) : FrO m_ o_ (execBgnFwOpComplete core s) := by
  refine FrO.of h_ hm_ ?_
  clear h_ hm_
  have h_ := Fr.refl 151519237 s
  unfold execBgnFwOpComplete
  repeat' first
    | with_reducible assumption
    | exact (rfl : Nat.land _ _ = _)
    | (extract_lets +onlyGivenNames x
       first
         | (have hx : Fr 151519237 s x := ?_
            (on_goal 1 => clear_value x)
            on_goal 2 => (unfold x; clear x))
         | (have hx : Fr 151519237 s x.2 := ?_
            (on_goal 1 => clear_value x)
            on_goal 2 => (unfold x; clear x))
         | clear_value x)
    | with_reducible apply State.setSlot_frame
    | with_reducible apply State.setCluster_frame
    | with_reducible apply State.putBit_frame
    | with_reducible apply State.updateCore_frame
    | with_reducible apply State.coreIrq_frame
    | with_reducible apply State.put_frame
    | with_reducible apply FrO.next
    | (simp -zeta -beta -iota only [Fr.mk_iff]; first | refine FrU.upd ?_ rfl | refine FrU.filter _ ?_ rfl)
    | with_reducible refine Fr.ite ?_ ?_
    | with_reducible refine Fr.ite2 ?_ ?_
    | with_reducible refine FrO.ite ?_ ?_
    | dsimp -zeta only
    | split

theorem execModadd_frame {m_ : Nat} {o_ : State} {core : Nat} {param : Nat} {s : State} (h_ : Fr m_ o_ s) (hm_ : Nat.land 150994945 m_ = 150994945) : FrO m_ o_ (execModadd core param s) := by
  refine FrO.of h_ hm_ ?_
  clear h_ hm_
  have h_ := Fr.refl 150994945 s
  unfold execModadd
  repeat' first
    | with_reducible assumption
    | exact (rfl : Nat.land _ _ = _)
    | with_reducible apply State.bgnStart_frame
    | with_reducible apply FrO.next

theorem execModsub_frame {m_ : Nat} {o_ : State} {core : Nat} {param : Nat} {s : State} (h_ : Fr m_ o_ s) (hm_ : Nat.land 150994945 m_ = 150994945) : FrO m_ o_ (execModsub core param s) := by
  refine FrO.of h_ hm_ ?_
  clear h_ hm_
  have h_ := Fr.refl 150994945 s
  unfold execModsub
  repeat' first
    | with_reducible assumption
    | exact (rfl : Nat.land _ _ = _)
    | with_reducible apply State.bgnStart_frame
    | with_reducible apply FrO.next

theorem execModmul_frame {m_ : Nat} {o_ : State} {core : Nat} {param : Nat} {s : State} (h_ : Fr m_ o_ s) (hm_ : Nat.land 150994945 m_ = 150994945) : FrO m_ o_ (execModmul core param s) := by
  refine FrO.of h_ hm_ ?_
  clear h_ hm_
  have h_ := Fr.refl 150994945 s
  unfold execModmul
  repeat' first
    | with_reducible assumption
    | exact (rfl : Nat.land _ _ = _)
    | with_reducible apply State.bgnStart_frame
    | with_reducible apply FrO.next

theorem execModexp_frame {m_ : Nat} {o_ : State} {core : Nat} {param : Nat} {s : State} (h_ : Fr m_ o_ s) (hm_ : Nat.land 150994945 m_ = 150994945) : FrO m_ o_ (execModexp core param s) := by
  refine FrO.of h_ hm_ ?_
  clear h_ hm_
  have h_ := Fr.refl 150994945 s
  unfold execModexp
  repeat' first
    | with_reducible assumption
    | exact (rfl : Nat.land _ _ = _)
    | with_reducible apply State.bgnStart_frame
    | with_reducible apply FrO.next

theorem execModexpPub_frame {m_ : Nat} {o_ : State} {core : Nat} {param : Nat} {s : State} (h_ : Fr m_ o_ s) (hm_ : Nat.land 150994945 m_ = 150994945) : FrO m_ o_ (execModexpPub core param s) := by
  refine FrO.of h_ hm_ ?_
  clear h_ hm_
  have h_ := Fr.refl 150994945 s
  unfold execModexpPub
  repeat' first
    | with_reducible assumption
    | exact (rfl : Nat.land _ _ = _)
    | with_reducible apply State.bgnStart_frame
    | with_reducible apply FrO.next

theorem execModinv_frame {m_ : Nat} {o_ : State} {core : Nat} {param : Nat} {s : State} (h_ : Fr m_ o_ s) (hm_ : Nat.land 150994945 m_ = 150994945) : FrO m_ o_ (execModinv core param s) := by
  refine FrO.of h_ hm_ ?_
  clear h_ hm_
  have h_ := Fr.refl 150994945 s
  unfold execModinv
  repeat' first
    | with_reducible assumption
    | exact (rfl : Nat.land _ _ = _)
    | with_reducible apply State.bgnStart_frame
    | with_reducible apply FrO.next

theorem execRsaCrt_frame {m_ : Nat} {o_ : State} {core : Nat} {param : Nat} {s : State} (h_ : Fr m_ o_ s) (hm_ : Nat.land 150994945 m_ = 150994945) : FrO m_ o_ (execRsaCrt core param s) := by
  refine FrO.of h_ hm_ ?_
  clear h_ hm_
  have h_ := Fr.refl 150994945 s
  unfold execRsaCrt
  repeat' first
    | with_reducible assumption
    | exact (rfl : Nat.land _ _ = _)
    | with_reducible apply State.bgnStart_frame
    | with_reducible apply FrO.next

theorem execMrRound_frame {m_ : Nat} {o_ : State} {core : Nat} {param : Nat} {s : State} (h_ : Fr m_ o_ s) (hm_ : Nat.land 150994945 m_ = 150994945) : FrO m_ o_ (execMrRound core param s) := by
  refine FrO.of h_ hm_ ?_
  clear h_ hm_
  have h_ := Fr.refl 150994945 s
  unfold execMrRound
  repeat' first
    | with_reducible assumption
    | exact (rfl : Nat.land _ _ = _)
    | with_reducible apply State.bgnStart_frame
    | with_reducible apply FrO.next

theorem execEcSmul_frame {m_ : Nat} {o_ : State} {core : Nat} {param : Nat} {s : State} (h_ : Fr m_ o_ s) (hm_ : Nat.land 150994945 m_ = 150994945) : FrO m_ o_ (execEcSmul core param s) := by
  refine FrO.of h_ hm_ ?_
  clear h_ hm_
  have h_ := Fr.refl 150994945 s
  unfold execEcSmul
  repeat' first
    | with_reducible assumption
    | exact (rfl : Nat.land _ _ = _)
    | with_reducible apply State.bgnStart_frame
    | with_reducible apply FrO.next

theorem execEcDsmul_frame {m_ : Nat} {o_ : State} {core : Nat} {param : Nat} {s : State} (h_ : Fr m_ o_ s) (hm_ : Nat.land 150994945 m_ = 150994945) : FrO m_ o_ (execEcDsmul core param s) := by
  refine FrO.of h_ hm_ ?_
  clear h_ hm_
  have h_ := Fr.refl 150994945 s
  unfold execEcDsmul
  repeat' first
    | with_reducible assumption
    | exact (rfl : Nat.land _ _ = _)
    | with_reducible apply State.bgnStart_frame
    | with_reducible apply FrO.next

theorem execEcAdd_frame {m_ : Nat} {o_ : State} {core : Nat} {param : Nat} {s : State} (h_ : Fr m_ o_ s) (hm_ : Nat.land 150994945 m_ = 150994945) : FrO m_ o_ (execEcAdd core param s) := by
  refine FrO.of h_ hm_ ?_
  clear h_ hm_
  have h_ := Fr.refl 150994945 s
  unfold execEcAdd
  repeat' first
    | with_reducible assumption
    | exact (rfl : Nat.land _ _ = _)
    | with_reducible apply State.bgnStart_frame
    | with_reducible apply FrO.next

theorem execEcdsaSign_frame {m_ : Nat} {o_ : State} {core : Nat} {param : Nat} {s : State} (h_ : Fr m_ o_ s) (hm_ : Nat.land 150994945 m_ = 150994945) : FrO m_ o_ (execEcdsaSign core param s) := by
  refine FrO.of h_ hm_ ?_
  clear h_ hm_
  have h_ := Fr.refl 150994945 s
  unfold execEcdsaSign
  repeat' first
    | with_reducible assumption
    | exact (rfl : Nat.land _ _ = _)
    | with_reducible apply State.bgnStart_frame
    | with_reducible apply FrO.next

theorem execEcdsaVerify_frame {m_ : Nat} {o_ : State} {core : Nat} {param : Nat} {s : State} (h_ : Fr m_ o_ s) (hm_ : Nat.land 150994945 m_ = 150994945) : FrO m_ o_ (execEcdsaVerify core param s) := by
  refine FrO.of h_ hm_ ?_
  clear h_ hm_
  have h_ := Fr.refl 150994945 s
  unfold execEcdsaVerify
  repeat' first
    | with_reducible assumption
    | exact (rfl : Nat.land _ _ = _)
    | with_reducible apply State.bgnStart_frame
    | with_reducible apply FrO.next

theorem execEdSmul_frame {m_ : Nat} {o_ : State} {core : Nat} {param : Nat} {s : State} (h_ : Fr m_ o_ s) (hm_ : Nat.land 150994945 m_ = 150994945) : FrO m_ o_ (execEdSmul core param s) := by
  refine FrO.of h_ hm_ ?_
  clear h_ hm_
  have h_ := Fr.refl 150994945 s
  unfold execEdSmul
  repeat' first
    | with_reducible assumption
    | exact (rfl : Nat.land _ _ = _)
    | with_reducible apply State.bgnStart_frame
    | with_reducible apply FrO.next

theorem execXdh_frame {m_ : Nat} {o_ : State} {core : Nat} {param : Nat} {s : State} (h_ : Fr m_ o_ s) (hm_ : Nat.land 150994945 m_ = 150994945) : FrO m_ o_ (execXdh core param s) := by
  refine FrO.of h_ hm_ ?_
  clear h_ hm_
  have h_ := Fr.refl 150994945 s
  unfold execXdh
  repeat' first
    | with_reducible assumption
    | exact (rfl : Nat.land _ _ = _)
    | with_reducible apply State.bgnStart_frame
    | with_reducible apply FrO.next

theorem State.akeyBusy_frame {m_ : Nat} {o_ : State} {s : State} {cores : List Nat} {on : Bool} (h_ : Fr m_ o_ s) (hm_ : Nat.land 17301505 m_ = 17301505) : Fr m_ o_ (State.akeyBusy s cores on) := by
  refine Fr.of h_ hm_ ?_
  clear h_ hm_
  have h_ := Fr.refl 17301505 s
  unfold State.akeyBusy
  repeat' first
    | with_reducible assumption
    | exact (rfl : Nat.land _ _ = _)
    | (extract_lets +onlyGivenNames x
       first
         | (have hx : Fr 17301505 s x := ?_
            (on_goal 1 => clear_value x)
            on_goal 2 => (unfold x; clear x))
         | (have hx : Fr 17301505 s x.2 := ?_
            (on_goal 1 => clear_value x)
            on_goal 2 => (unfold x; clear x))
         | clear_value x)
    | with_reducible refine Fr.foldl _ _ ?_ (fun _ _ _ => ?_)
    | with_reducible apply State.setCluster_frame
    | with_reducible apply State.putBit_frame
    | with_reducible apply State.updateCore_frame
    | (simp -zeta -beta -iota only [Fr.mk_iff]; first | refine FrU.upd ?_ rfl | refine FrU.filter _ ?_ rfl)
    | with_reducible refine Fr.ite ?_ ?_
    | dsimp -zeta only
    | split

theorem execAttestKeyGenStart_frame {m_ : Nat} {o_ : State} {s : State} (h_ : Fr m_ o_ s) (hm_ : Nat.land 17301505 m_ = 17301505) : FrO m_ o_ (execAttestKeyGenStart s) := by
  refine FrO.of h_ hm_ ?_
  clear h_ hm_
  have h_ := Fr.refl 17301505 s
  unfold execAttestKeyGenStart
  repeat' first
    | with_reducible assumption
    | exact (rfl : Nat.land _ _ = _)
    | (extract_lets +onlyGivenNames x
       first
         | (have hx : Fr 17301505 s x := ?_
            (on_goal 1 => clear_value x)
            on_goal 2 => (unfold x; clear x))
         | (have hx : Fr 17301505 s x.2 := ?_
            (on_goal 1 => clear_value x)
            on_goal 2 => (unfold x; clear x))
         | clear_value x)
    | with_reducible apply State.putBit_frame
    | with_reducible apply State.akeyBusy_frame
    | with_reducible apply FrO.next
    | (simp -zeta -beta -iota only [Fr.mk_iff]; first | refine FrU.upd ?_ rfl | refine FrU.filter _ ?_ rfl)
    | with_reducible refine Fr.ite ?_ ?_
    | with_reducible refine FrO.ite ?_ ?_
    | dsimp -zeta only
    | split

theorem execAttestKeyGenStop_frame {m_ : Nat} {o_ : State} {s : State} (h_ : Fr m_ o_ s) (hm_ : Nat.land 17301505 m_ = 17301505) : FrO m_ o_ (execAttestKeyGenStop s) := by
  refine FrO.of h_ hm_ ?_
  clear h_ hm_
  have h_ := Fr.refl 17301505 s
  unfold execAttestKeyGenStop
  repeat' first
    | with_reducible assumption
    | exact (rfl : Nat.land _ _ = _)
    | (extract_lets +onlyGivenNames x
       first
         | (have hx : Fr 17301505 s x := ?_
            (on_goal 1 => clear_value x)
            on_goal 2 => (unfold x; clear x))
         | (have hx : Fr 17301505 s x.2 := ?_
            (on_goal 1 => clear_value x)
            on_goal 2 => (unfold x; clear x))
         | clear_value x)
    | with_reducible apply State.akeyBusy_frame
    | with_reducible apply State.putBit_frame
    | with_reducible apply FrO.next
    | (simp -zeta -beta -iota only [Fr.mk_iff]; first | refine FrU.upd ?_ rfl | refine FrU.filter _ ?_ rfl)
    | dsimp -zeta only
    | split

theorem State.latStart_frame {m_ : Nat} {o_ : State} {s : State} {n : Nat} {op : Nat} {param : Nat} (h_ : Fr m_ o_ s) (hm_ : Nat.land 150994945 m_ = 150994945) : Fr m_ o_ (State.latStart s n op param) := by
  refine Fr.of h_ hm_ ?_
  clear h_ hm_
  have h_ := Fr.refl 150994945 s
  unfold State.latStart
  repeat' first
    | with_reducible assumption
    | exact (rfl : Nat.land _ _ = _)
    | (extract_lets +onlyGivenNames x
       first
         | (have hx : Fr 150994945 s x := ?_
            (on_goal 1 => clear_value x)
            on_goal 2 => (unfold x; clear x))
         | (have hx : Fr 150994945 s x.2 := ?_
            (on_goal 1 => clear_value x)
            on_goal 2 => (unfold x; clear x))
         | clear_value x)
    | with_reducible apply State.putBit_frame
    | with_reducible apply State.put_frame
    | with_reducible apply State.setCluster_frame
    | with_reducible apply State.coreErr_frame
    | (simp -zeta -beta -iota only [Fr.mk_iff]; first | refine FrU.upd ?_ rfl | refine FrU.filter _ ?_ rfl)
    | with_reducible refine Fr.ite ?_ ?_
    | with_reducible refine Fr.ite2 ?_ ?_
    | dsimp -zeta only
    | split

theorem execLatFwOpComplete_frame {m_ : Nat} {o_ : State} {core : Nat} {s : State} (h_ : Fr m_ o_ s) (hm_ : Nat.land 151519233 m_ = 151519233) : FrO m_ o_ (execLatFwOpComplete core s) := by
  refine FrO.of h_ hm_ ?_
  clear h_ hm_
  have h_ := Fr.refl 151519233 s
  unfold execLatFwOpComplete
  repeat' first
    | with_reducible assumption
    | exact (rfl : Nat.land _ _ = _)
    | (extract_lets +onlyGivenNames x
       first
         | (have hx : Fr 151519233 s x := ?_
            (on_goal 1 => clear_value x)
            on_goal 2 => (unfold x; clear x))
         | (have hx : Fr 151519233 s x.2 := ?_
            (on_goal 1 => clear_value x)
            on_goal 2 => (unfold x; clear x))
         | clear_value x)
    | with_reducible apply State.setLatBytes_frame
    | with_reducible apply State.setCluster_frame
    | with_reducible apply State.putBit_frame
    | with_reducible apply State.updateCore_frame
    | with_reducible apply State.coreIrq_frame
    | with_reducible apply State.put_frame
    | with_reducible apply FrO.next
    | (simp -zeta -beta -iota only [Fr.mk_iff]; first | refine FrU.upd ?_ rfl | refine FrU.filter _ ?_ rfl)
    | with_reducible refine Fr.ite ?_ ?_
    | with_reducible refine Fr.ite2 ?_ ?_
    | with_reducible refine FrO.ite ?_ ?_
    | dsimp -zeta only
    | split

theorem execMlkemEncaps_frame {m_ : Nat} {o_ : State} {core : Nat} {param : Nat} {s : State} (h_ : Fr m_ o_ s) (hm_ : Nat.land 150994945 m_ = 150994945) : FrO m_ o_ (execMlkemEncaps core param s) := by
  refine FrO.of h_ hm_ ?_
  clear h_ hm_
  have h_ := Fr.refl 150994945 s
  unfold execMlkemEncaps
  repeat' first
    | with_reducible assumption
    | exact (rfl : Nat.land _ _ = _)
    | with_reducible apply State.latStart_frame
    | with_reducible apply FrO.next

theorem execMldsaVerify_frame {m_ : Nat} {o_ : State} {core : Nat} {param : Nat} {s : State} (h_ : Fr m_ o_ s) (hm_ : Nat.land 150994945 m_ = 150994945) : FrO m_ o_ (execMldsaVerify core param s) := by
  refine FrO.of h_ hm_ ?_
  clear h_ hm_
  have h_ := Fr.refl 150994945 s
  unfold execMldsaVerify
  repeat' first
    | with_reducible assumption
    | exact (rfl : Nat.land _ _ = _)
    | with_reducible apply State.latStart_frame
    | with_reducible apply FrO.next

theorem execNtt_frame {m_ : Nat} {o_ : State} {core : Nat} {param : Nat} {s : State} (h_ : Fr m_ o_ s) (hm_ : Nat.land 150994945 m_ = 150994945) : FrO m_ o_ (execNtt core param s) := by
  refine FrO.of h_ hm_ ?_
  clear h_ hm_
  have h_ := Fr.refl 150994945 s
  unfold execNtt
  repeat' first
    | with_reducible assumption
    | exact (rfl : Nat.land _ _ = _)
    | with_reducible apply State.latStart_frame
    | with_reducible apply FrO.next

theorem execIntt_frame {m_ : Nat} {o_ : State} {core : Nat} {param : Nat} {s : State} (h_ : Fr m_ o_ s) (hm_ : Nat.land 150994945 m_ = 150994945) : FrO m_ o_ (execIntt core param s) := by
  refine FrO.of h_ hm_ ?_
  clear h_ hm_
  have h_ := Fr.refl 150994945 s
  unfold execIntt
  repeat' first
    | with_reducible assumption
    | exact (rfl : Nat.land _ _ = _)
    | with_reducible apply State.latStart_frame
    | with_reducible apply FrO.next

theorem execPmul_frame {m_ : Nat} {o_ : State} {core : Nat} {param : Nat} {s : State} (h_ : Fr m_ o_ s) (hm_ : Nat.land 150994945 m_ = 150994945) : FrO m_ o_ (execPmul core param s) := by
  refine FrO.of h_ hm_ ?_
  clear h_ hm_
  have h_ := Fr.refl 150994945 s
  unfold execPmul
  repeat' first
    | with_reducible assumption
    | exact (rfl : Nat.land _ _ = _)
    | with_reducible apply State.latStart_frame
    | with_reducible apply FrO.next

theorem execKeccak_frame {m_ : Nat} {o_ : State} {core : Nat} {param : Nat} {s : State} (h_ : Fr m_ o_ s) (hm_ : Nat.land 150994945 m_ = 150994945) : FrO m_ o_ (execKeccak core param s) := by
  refine FrO.of h_ hm_ ?_
  clear h_ hm_
  have h_ := Fr.refl 150994945 s
  unfold execKeccak
  repeat' first
    | with_reducible assumption
    | exact (rfl : Nat.land _ _ = _)
    | with_reducible apply State.latStart_frame
    | with_reducible apply FrO.next

end Sys2Proof.Machine
end

