-- ==== Sys2Proof/Laws/FrameCare.lean ====
section
/-! SUPPORT. Which pieces of State each function of identity, power, the alarm commands and Bezel may change. -/

set_option maxRecDepth 4000
set_option linter.all false

namespace Sys2Proof.Machine

theorem State.extendHm3_frame {m_ : Nat} {o_ : State} {s : State} (h_ : Fr m_ o_ s) (hm_ : Nat.land 524288 m_ = 524288) : Fr m_ o_ (State.extendHm3 s) := by
  refine Fr.of h_ hm_ ?_
  clear h_ hm_
  have h_ := Fr.refl 524288 s
  unfold State.extendHm3
  repeat' first
    | with_reducible assumption
    | exact (rfl : Nat.land _ _ = _)
    | with_reducible apply State.extendHm_frame

theorem State.showOtp_frame {m_ : Nat} {o_ : State} {s : State} (h_ : Fr m_ o_ s) (hm_ : Nat.land 1 m_ = 1) : Fr m_ o_ (State.showOtp s) := by
  refine Fr.of h_ hm_ ?_
  clear h_ hm_
  have h_ := Fr.refl 1 s
  unfold State.showOtp
  repeat' first
    | with_reducible assumption
    | exact (rfl : Nat.land _ _ = _)
    | (extract_lets +onlyGivenNames x
       first
         | (have hx : Fr 1 s x := ?_
            (on_goal 1 => clear_value x)
            on_goal 2 => (unfold x; clear x))
         | (have hx : Fr 1 s x.2 := ?_
            (on_goal 1 => clear_value x)
            on_goal 2 => (unfold x; clear x))
         | clear_value x)
    | with_reducible apply State.put_frame
    | with_reducible apply State.putBit_frame
    | dsimp -zeta only

theorem State.startOtp_frame {m_ : Nat} {o_ : State} {s : State} {w : OtpWrite} {reply : Option Nat} (h_ : Fr m_ o_ s) (hm_ : Nat.land 8388609 m_ = 8388609) : Fr m_ o_ (State.startOtp s w reply) := by
  refine Fr.of h_ hm_ ?_
  clear h_ hm_
  have h_ := Fr.refl 8388609 s
  unfold State.startOtp
  repeat' first
    | with_reducible assumption
    | exact (rfl : Nat.land _ _ = _)
    | (extract_lets +onlyGivenNames x
       first
         | (have hx : Fr 8388609 s x := ?_
            (on_goal 1 => clear_value x)
            on_goal 2 => (unfold x; clear x))
         | (have hx : Fr 8388609 s x.2 := ?_
            (on_goal 1 => clear_value x)
            on_goal 2 => (unfold x; clear x))
         | clear_value x)
    | with_reducible apply State.put_frame
    | with_reducible apply State.showOtp_frame
    | (simp -zeta -beta -iota only [Fr.mk_iff]; first | refine FrU.upd ?_ rfl | refine FrU.filter _ ?_ rfl)
    | dsimp -zeta only
    | split

theorem State.pinRun_frame {m_ : Nat} {o_ : State} {s : State} {label : Nat} {key : Bytes} (h_ : Fr m_ o_ s) (hm_ : Nat.land 524288 m_ = 524288) : Fr m_ o_ (State.pinRun s label key) := by
  refine Fr.of h_ hm_ ?_
  clear h_ hm_
  have h_ := Fr.refl 524288 s
  unfold State.pinRun
  repeat' first
    | with_reducible assumption
    | exact (rfl : Nat.land _ _ = _)
    | (extract_lets +onlyGivenNames x
       first
         | (have hx : Fr 524288 s x := ?_
            (on_goal 1 => clear_value x)
            on_goal 2 => (unfold x; clear x))
         | (have hx : Fr 524288 s x.2 := ?_
            (on_goal 1 => clear_value x)
            on_goal 2 => (unfold x; clear x))
         | clear_value x)
    | with_reducible apply State.eraseRuns_frame
    | with_reducible apply State.fillRun_frame
    | refine Fr.pair1 (by assumption) (State.fillRun_frame (h_ := ?_) ?_)
    | dsimp -zeta only

theorem State.loadIdentity_frame {m_ : Nat} {o_ : State} {s : State} (h_ : Fr m_ o_ s) (hm_ : Nat.land 8912896 m_ = 8912896) : Fr m_ o_ (State.loadIdentity s) := by
  refine Fr.of h_ hm_ ?_
  clear h_ hm_
  have h_ := Fr.refl 8912896 s
  unfold State.loadIdentity
  repeat' first
    | with_reducible assumption
    | exact (rfl : Nat.land _ _ = _)
    | (extract_lets +onlyGivenNames x
       first
         | (have hx : Fr 8912896 s x := ?_
            (on_goal 1 => clear_value x)
            on_goal 2 => (unfold x; clear x))
         | (have hx : Fr 8912896 s x.2 := ?_
            (on_goal 1 => clear_value x)
            on_goal 2 => (unfold x; clear x))
         | clear_value x)
    | with_reducible apply State.pinRun_frame
    | (simp -zeta -beta -iota only [Fr.mk_iff]; first | refine FrU.upd ?_ rfl | refine FrU.filter _ ?_ rfl)
    | with_reducible refine Fr.ite ?_ ?_
    | with_reducible refine Fr.ite2 ?_ ?_
    | dsimp -zeta only
    | split

theorem State.withIdentity_frame {m_ : Nat} {o_ : State} {s : State} (h_ : Fr m_ o_ s) (hm_ : Nat.land 8912896 m_ = 8912896) : Fr m_ o_ (State.withIdentity s).2 := by
  refine Fr.of h_ hm_ ?_
  clear h_ hm_
  have h_ := Fr.refl 8912896 s
  unfold State.withIdentity
  repeat' first
    | with_reducible assumption
    | exact (rfl : Nat.land _ _ = _)
    | (extract_lets +onlyGivenNames x
       first
         | (have hx : Fr 8912896 s x := ?_
            (on_goal 1 => clear_value x)
            on_goal 2 => (unfold x; clear x))
         | (have hx : Fr 8912896 s x.2 := ?_
            (on_goal 1 => clear_value x)
            on_goal 2 => (unfold x; clear x))
         | clear_value x)
    | with_reducible apply State.loadIdentity_frame
    | with_reducible refine Fr.ite ?_ ?_
    | with_reducible refine Fr.ite2 ?_ ?_
    | dsimp -zeta only
    | split

theorem State.idSign_frame {m_ : Nat} {o_ : State} {s : State} {m : Bytes} (h_ : Fr m_ o_ s) (hm_ : Nat.land 42467332 m_ = 42467332) : Fr m_ o_ (State.idSign s m).2 := by
  refine Fr.of h_ hm_ ?_
  clear h_ hm_
  have h_ := Fr.refl 42467332 s
  unfold State.idSign
  repeat' first
    | with_reducible assumption
    | exact (rfl : Nat.land _ _ = _)
    | (extract_lets +onlyGivenNames x
       first
         | (have hx : Fr 42467332 s x := ?_
            (on_goal 1 => clear_value x)
            on_goal 2 => (unfold x; clear x))
         | (have hx : Fr 42467332 s x.2 := ?_
            (on_goal 1 => clear_value x)
            on_goal 2 => (unfold x; clear x))
         | clear_value x)
    | with_reducible apply State.withIdentity_frame
    | refine Fr.pair (by assumption) (State.withIdentity_frame (h_ := ?_) ?_)
    | with_reducible apply State.drawBytes_frame
    | refine Fr.pair (by assumption) (State.drawBytes_frame (h_ := ?_) ?_)
    | (simp -zeta -beta -iota only [Fr.mk_iff]; first | refine FrU.upd ?_ rfl | refine FrU.filter _ ?_ rfl)
    | dsimp -zeta only
    | split

theorem State.showRoots_frame {m_ : Nat} {o_ : State} {s : State} (h_ : Fr m_ o_ s) (hm_ : Nat.land 1 m_ = 1) : Fr m_ o_ (State.showRoots s) := by
  refine Fr.of h_ hm_ ?_
  clear h_ hm_
  have h_ := Fr.refl 1 s
  unfold State.showRoots
  repeat' first
    | with_reducible assumption
    | exact (rfl : Nat.land _ _ = _)
    | (extract_lets +onlyGivenNames x
       first
         | (have hx : Fr 1 s x := ?_
            (on_goal 1 => clear_value x)
            on_goal 2 => (unfold x; clear x))
         | (have hx : Fr 1 s x.2 := ?_
            (on_goal 1 => clear_value x)
            on_goal 2 => (unfold x; clear x))
         | clear_value x)
    | with_reducible apply State.putBit_frame
    | dsimp -zeta only

theorem State.loadScramble_frame {m_ : Nat} {o_ : State} {s : State} (h_ : Fr m_ o_ s) (hm_ : Nat.land 524289 m_ = 524289) : Fr m_ o_ (State.loadScramble s) := by
  refine Fr.of h_ hm_ ?_
  clear h_ hm_
  have h_ := Fr.refl 524289 s
  unfold State.loadScramble
  repeat' first
    | with_reducible assumption
    | exact (rfl : Nat.land _ _ = _)
    | (extract_lets +onlyGivenNames x
       first
         | (have hx : Fr 524289 s x := ?_
            (on_goal 1 => clear_value x)
            on_goal 2 => (unfold x; clear x))
         | (have hx : Fr 524289 s x.2 := ?_
            (on_goal 1 => clear_value x)
            on_goal 2 => (unfold x; clear x))
         | clear_value x)
    | with_reducible apply State.putBit_frame
    | (simp -zeta -beta -iota only [Fr.mk_iff]; first | refine FrU.upd ?_ rfl | refine FrU.filter _ ?_ rfl)
    | dsimp -zeta only
    | split

theorem State.computePairSeed_frame {m_ : Nat} {o_ : State} {s : State} (h_ : Fr m_ o_ s) (hm_ : Nat.land 524289 m_ = 524289) : Fr m_ o_ (State.computePairSeed s) := by
  refine Fr.of h_ hm_ ?_
  clear h_ hm_
  have h_ := Fr.refl 524289 s
  unfold State.computePairSeed
  repeat' first
    | with_reducible assumption
    | exact (rfl : Nat.land _ _ = _)
    | (extract_lets +onlyGivenNames x
       first
         | (have hx : Fr 524289 s x := ?_
            (on_goal 1 => clear_value x)
            on_goal 2 => (unfold x; clear x))
         | (have hx : Fr 524289 s x.2 := ?_
            (on_goal 1 => clear_value x)
            on_goal 2 => (unfold x; clear x))
         | clear_value x)
    | with_reducible apply State.showRoots_frame
    | with_reducible apply State.fillRoots_frame
    | (simp -zeta -beta -iota only [Fr.mk_iff]; first | refine FrU.upd ?_ rfl | refine FrU.filter _ ?_ rfl)
    | dsimp -zeta only

theorem execLcsInitWrap_frame {m_ : Nat} {o_ : State} {s : State} (h_ : Fr m_ o_ s) (hm_ : Nat.land 46661637 m_ = 46661637) : FrO m_ o_ (execLcsInitWrap s) := by
  refine FrO.of h_ hm_ ?_
  clear h_ hm_
  have h_ := Fr.refl 46661637 s
  unfold execLcsInitWrap
  repeat' first
    | with_reducible assumption
    | exact (rfl : Nat.land _ _ = _)
    | (extract_lets +onlyGivenNames x
       first
         | (have hx : Fr 46661637 s x := ?_
            (on_goal 1 => clear_value x)
            on_goal 2 => (unfold x; clear x))
         | (have hx : Fr 46661637 s x.2 := ?_
            (on_goal 1 => clear_value x)
            on_goal 2 => (unfold x; clear x))
         | clear_value x)
    | with_reducible apply State.drawBytes_frame
    | refine Fr.pair (by assumption) (State.drawBytes_frame (h_ := ?_) ?_)
    | with_reducible apply State.putBit_frame
    | with_reducible apply State.loadIdentity_frame
    | with_reducible apply State.loadScramble_frame
    | with_reducible apply State.showRoots_frame
    | with_reducible apply State.fillRoots_frame
    | with_reducible apply FrO.next
    | (simp -zeta -beta -iota only [Fr.mk_iff]; first | refine FrU.upd ?_ rfl | refine FrU.filter _ ?_ rfl)
    | with_reducible refine Fr.ite ?_ ?_
    | with_reducible refine Fr.ite2 ?_ ?_
    | with_reducible refine FrO.ite ?_ ?_
    | dsimp -zeta only
    | split

theorem execAttestKeyGenComplete_frame {m_ : Nat} {o_ : State} {s : State} (h_ : Fr m_ o_ s) (hm_ : Nat.land 193732615 m_ = 193732615) : FrO m_ o_ (execAttestKeyGenComplete s) := by
  refine FrO.of h_ hm_ ?_
  clear h_ hm_
  have h_ := Fr.refl 193732615 s
  unfold execAttestKeyGenComplete
  repeat' first
    | with_reducible assumption
    | exact (rfl : Nat.land _ _ = _)
    | (extract_lets +onlyGivenNames x
       first
         | (have hx : Fr 193732615 s x := ?_
            (on_goal 1 => clear_value x)
            on_goal 2 => (unfold x; clear x))
         | (have hx : Fr 193732615 s x.2 := ?_
            (on_goal 1 => clear_value x)
            on_goal 2 => (unfold x; clear x))
         | clear_value x)
    | with_reducible apply State.akeyBusy_frame
    | with_reducible apply State.freshBytes_frame
    | refine Fr.pair (by assumption) (State.freshBytes_frame (h_ := ?_) ?_)
    | with_reducible apply State.pinRun_frame
    | with_reducible apply State.deviceWrite_frame
    | with_reducible apply State.drawBytes_frame
    | refine Fr.pair (by assumption) (State.drawBytes_frame (h_ := ?_) ?_)
    | with_reducible apply State.idSign_frame
    | refine Fr.pair (by assumption) (State.idSign_frame (h_ := ?_) ?_)
    | with_reducible apply State.putBit_frame
    | with_reducible apply FrO.next
    | (simp -zeta -beta -iota only [Fr.mk_iff]; first | refine FrU.upd ?_ rfl | refine FrU.filter _ ?_ rfl)
    | dsimp -zeta only
    | split

theorem State.requestNap_frame {m_ : Nat} {o_ : State} {s : State} {auto : Bool} (h_ : Fr m_ o_ s) (hm_ : Nat.land 201326593 m_ = 201326593) : Fr m_ o_ (State.requestNap s auto) := by
  refine Fr.of h_ hm_ ?_
  clear h_ hm_
  have h_ := Fr.refl 201326593 s
  unfold State.requestNap
  repeat' first
    | with_reducible assumption
    | exact (rfl : Nat.land _ _ = _)
    | (extract_lets +onlyGivenNames x
       first
         | (have hx : Fr 201326593 s x := ?_
            (on_goal 1 => clear_value x)
            on_goal 2 => (unfold x; clear x))
         | (have hx : Fr 201326593 s x.2 := ?_
            (on_goal 1 => clear_value x)
            on_goal 2 => (unfold x; clear x))
         | clear_value x)
    | with_reducible apply State.put_frame
    | with_reducible apply State.count_frame
    | with_reducible apply State.armMonitor_frame
    | (simp -zeta -beta -iota only [Fr.mk_iff]; first | refine FrU.upd ?_ rfl | refine FrU.filter _ ?_ rfl)
    | with_reducible refine Fr.ite ?_ ?_
    | with_reducible refine Fr.ite2 ?_ ?_
    | dsimp -zeta only
    | split

theorem execPwrReqNap_frame {m_ : Nat} {o_ : State} {s : State} (h_ : Fr m_ o_ s) (hm_ : Nat.land 201326593 m_ = 201326593) : FrO m_ o_ (execPwrReqNap s) := by
  refine FrO.of h_ hm_ ?_
  clear h_ hm_
  have h_ := Fr.refl 201326593 s
  unfold execPwrReqNap
  repeat' first
    | with_reducible assumption
    | exact (rfl : Nat.land _ _ = _)
    | with_reducible apply State.requestNap_frame
    | with_reducible apply FrO.next

theorem execAutoNapTimer_frame {m_ : Nat} {o_ : State} {s : State} (h_ : Fr m_ o_ s) (hm_ : Nat.land 201326593 m_ = 201326593) : FrO m_ o_ (execAutoNapTimer s) := by
  refine FrO.of h_ hm_ ?_
  clear h_ hm_
  have h_ := Fr.refl 201326593 s
  unfold execAutoNapTimer
  repeat' first
    | with_reducible assumption
    | exact (rfl : Nat.land _ _ = _)
    | (extract_lets +onlyGivenNames x
       first
         | (have hx : Fr 201326593 s x := ?_
            (on_goal 1 => clear_value x)
            on_goal 2 => (unfold x; clear x))
         | (have hx : Fr 201326593 s x.2 := ?_
            (on_goal 1 => clear_value x)
            on_goal 2 => (unfold x; clear x))
         | clear_value x)
    | with_reducible apply State.requestNap_frame
    | with_reducible apply FrO.next
    | with_reducible refine Fr.ite ?_ ?_
    | with_reducible refine FrO.ite ?_ ?_
    | dsimp -zeta only
    | split

theorem execNapMinutePrewake_frame {m_ : Nat} {o_ : State} {s : State} (h_ : Fr m_ o_ s) (hm_ : Nat.land 134217729 m_ = 134217729) : FrO m_ o_ (execNapMinutePrewake s) := by
  refine FrO.of h_ hm_ ?_
  clear h_ hm_
  have h_ := Fr.refl 134217729 s
  unfold execNapMinutePrewake
  repeat' first
    | with_reducible assumption
    | exact (rfl : Nat.land _ _ = _)
    | with_reducible apply State.wakeNap_frame
    | with_reducible apply FrO.next
    | with_reducible refine Fr.ite ?_ ?_
    | with_reducible refine FrO.ite ?_ ?_
    | split

theorem State.beginSleep_frame {m_ : Nat} {o_ : State} {s : State} (h_ : Fr m_ o_ s) (hm_ : Nat.land 1210064897 m_ = 1210064897) : Fr m_ o_ (State.beginSleep s) := by
  refine Fr.of h_ hm_ ?_
  clear h_ hm_
  have h_ := Fr.refl 1210064897 s
  unfold State.beginSleep
  repeat' first
    | with_reducible assumption
    | exact (rfl : Nat.land _ _ = _)
    | (extract_lets +onlyGivenNames x
       first
         | (have hx : Fr 1210064897 s x := ?_
            (on_goal 1 => clear_value x)
            on_goal 2 => (unfold x; clear x))
         | (have hx : Fr 1210064897 s x.2 := ?_
            (on_goal 1 => clear_value x)
            on_goal 2 => (unfold x; clear x))
         | clear_value x)
    | with_reducible apply State.put_frame
    | with_reducible apply State.endSessions_frame
    | (simp -zeta -beta -iota only [Fr.mk_iff]; first | refine FrU.upd ?_ rfl | refine FrU.filter _ ?_ rfl)
    | with_reducible refine Fr.ite ?_ ?_
    | dsimp -zeta only
    | split

theorem execNapExitComplete_frame {m_ : Nat} {o_ : State} {s : State} (h_ : Fr m_ o_ s) (hm_ : Nat.land 1277173761 m_ = 1277173761) : FrO m_ o_ (execNapExitComplete s) := by
  refine FrO.of h_ hm_ ?_
  clear h_ hm_
  have h_ := Fr.refl 1277173761 s
  unfold execNapExitComplete
  repeat' first
    | with_reducible assumption
    | exact (rfl : Nat.land _ _ = _)
    | (extract_lets +onlyGivenNames x
       first
         | (have hx : Fr 1277173761 s x := ?_
            (on_goal 1 => clear_value x)
            on_goal 2 => (unfold x; clear x))
         | (have hx : Fr 1277173761 s x.2 := ?_
            (on_goal 1 => clear_value x)
            on_goal 2 => (unfold x; clear x))
         | clear_value x)
    | with_reducible apply State.put_frame
    | with_reducible apply State.beginSleep_frame
    | with_reducible apply State.armMonitor_frame
    | with_reducible apply FrO.next
    | (simp -zeta -beta -iota only [Fr.mk_iff]; first | refine FrU.upd ?_ rfl | refine FrU.filter _ ?_ rfl)
    | with_reducible refine Fr.ite ?_ ?_
    | with_reducible refine FrO.ite ?_ ?_
    | dsimp -zeta only
    | split

theorem execPwrReqSleep_frame {m_ : Nat} {o_ : State} {s : State} (h_ : Fr m_ o_ s) (hm_ : Nat.land 1210064897 m_ = 1210064897) : FrO m_ o_ (execPwrReqSleep s) := by
  refine FrO.of h_ hm_ ?_
  clear h_ hm_
  have h_ := Fr.refl 1210064897 s
  unfold execPwrReqSleep
  repeat' first
    | with_reducible assumption
    | exact (rfl : Nat.land _ _ = _)
    | with_reducible apply State.beginSleep_frame
    | with_reducible apply FrO.next
    | with_reducible refine Fr.ite ?_ ?_
    | with_reducible refine FrO.ite ?_ ?_
    | split

theorem State.gateBegin_frame {m_ : Nat} {o_ : State} {s : State} {b : Nat} {target : Nat} (h_ : Fr m_ o_ s) (hm_ : Nat.land 135266305 m_ = 135266305) : Fr m_ o_ (State.gateBegin s b target) := by
  refine Fr.of h_ hm_ ?_
  clear h_ hm_
  have h_ := Fr.refl 135266305 s
  unfold State.gateBegin
  repeat' first
    | with_reducible assumption
    | exact (rfl : Nat.land _ _ = _)
    | (extract_lets +onlyGivenNames x
       first
         | (have hx : Fr 135266305 s x := ?_
            (on_goal 1 => clear_value x)
            on_goal 2 => (unfold x; clear x))
         | (have hx : Fr 135266305 s x.2 := ?_
            (on_goal 1 => clear_value x)
            on_goal 2 => (unfold x; clear x))
         | clear_value x)
    | with_reducible refine Fr.foldl _ _ ?_ (fun _ _ _ => ?_)
    | with_reducible apply State.cardDone_frame
    | with_reducible apply State.put_frame
    | (simp -zeta -beta -iota only [Fr.mk_iff]; first | refine FrU.upd ?_ rfl | refine FrU.filter _ ?_ rfl)
    | with_reducible refine Fr.ite ?_ ?_
    | dsimp -zeta only
    | split

theorem State.gateOrder_frame {m_ : Nat} {o_ : State} {s : State} {b : Nat} (h_ : Fr m_ o_ s) (hm_ : Nat.land 135266305 m_ = 135266305) : Fr m_ o_ (State.gateOrder s b) := by
  refine Fr.of h_ hm_ ?_
  clear h_ hm_
  have h_ := Fr.refl 135266305 s
  unfold State.gateOrder
  repeat' first
    | with_reducible assumption
    | exact (rfl : Nat.land _ _ = _)
    | (extract_lets +onlyGivenNames x
       first
         | (have hx : Fr 135266305 s x := ?_
            (on_goal 1 => clear_value x)
            on_goal 2 => (unfold x; clear x))
         | (have hx : Fr 135266305 s x.2 := ?_
            (on_goal 1 => clear_value x)
            on_goal 2 => (unfold x; clear x))
         | clear_value x)
    | with_reducible apply State.gateBegin_frame
    | (simp -zeta -beta -iota only [Fr.mk_iff]; first | refine FrU.upd ?_ rfl | refine FrU.filter _ ?_ rfl)
    | with_reducible refine Fr.ite ?_ ?_
    | dsimp -zeta only
    | split

theorem State.gateSweep_frame {m_ : Nat} {o_ : State} {s : State} (h_ : Fr m_ o_ s) (hm_ : Nat.land 135266305 m_ = 135266305) : Fr m_ o_ (State.gateSweep s) := by
  refine Fr.of h_ hm_ ?_
  clear h_ hm_
  have h_ := Fr.refl 135266305 s
  unfold State.gateSweep
  repeat' first
    | with_reducible assumption
    | exact (rfl : Nat.land _ _ = _)
    | (extract_lets +onlyGivenNames x
       first
         | (have hx : Fr 135266305 s x := ?_
            (on_goal 1 => clear_value x)
            on_goal 2 => (unfold x; clear x))
         | (have hx : Fr 135266305 s x.2 := ?_
            (on_goal 1 => clear_value x)
            on_goal 2 => (unfold x; clear x))
         | clear_value x)
    | with_reducible refine Fr.foldl _ _ ?_ (fun _ _ _ => ?_)
    | with_reducible apply State.gateBegin_frame
    | (simp -zeta -beta -iota only [Fr.mk_iff]; first | refine FrU.upd ?_ rfl | refine FrU.filter _ ?_ rfl)
    | with_reducible refine Fr.ite ?_ ?_
    | with_reducible refine Fr.ite2 ?_ ?_
    | dsimp -zeta only
    | split

theorem State.gateWrite_frame {m_ : Nat} {o_ : State} {s : State} {b : Nat} {clkOff : Bool} {pwrOff : Bool} (h_ : Fr m_ o_ s) (hm_ : Nat.land 135266305 m_ = 135266305) : Fr m_ o_ (State.gateWrite s b clkOff pwrOff) := by
  refine Fr.of h_ hm_ ?_
  clear h_ hm_
  have h_ := Fr.refl 135266305 s
  unfold State.gateWrite
  repeat' first
    | with_reducible assumption
    | exact (rfl : Nat.land _ _ = _)
    | with_reducible apply State.gateOrder_frame
    | with_reducible apply State.putBit_frame

theorem State.gateDenied_frame {m_ : Nat} {o_ : State} {s : State} {b : Nat} (h_ : Fr m_ o_ s) (hm_ : Nat.land 134225921 m_ = 134225921) : Fr m_ o_ (State.gateDenied s b) := by
  refine Fr.of h_ hm_ ?_
  clear h_ hm_
  have h_ := Fr.refl 134225921 s
  unfold State.gateDenied
  repeat' first
    | with_reducible assumption
    | exact (rfl : Nat.land _ _ = _)
    | (extract_lets +onlyGivenNames x
       first
         | (have hx : Fr 134225921 s x := ?_
            (on_goal 1 => clear_value x)
            on_goal 2 => (unfold x; clear x))
         | (have hx : Fr 134225921 s x.2 := ?_
            (on_goal 1 => clear_value x)
            on_goal 2 => (unfold x; clear x))
         | clear_value x)
    | with_reducible apply State.bezelFault_frame
    | dsimp -zeta only

theorem execPwrGateWrite_frame {m_ : Nat} {o_ : State} {w : World} {block : Nat} {clkOff : Bool} {pwrOff : Bool} {s : State} (h_ : Fr m_ o_ s) (hm_ : Nat.land 135274497 m_ = 135274497) : FrO m_ o_ (execPwrGateWrite w block clkOff pwrOff s) := by
  refine FrO.of h_ hm_ ?_
  clear h_ hm_
  have h_ := Fr.refl 135274497 s
  unfold execPwrGateWrite
  repeat' first
    | with_reducible assumption
    | exact (rfl : Nat.land _ _ = _)
    | with_reducible apply State.gateDenied_frame
    | with_reducible apply State.gateWrite_frame
    | with_reducible apply FrO.next
    | with_reducible refine Fr.ite ?_ ?_
    | with_reducible refine FrO.ite ?_ ?_
    | split

theorem execGateTransitionComplete_frame {m_ : Nat} {o_ : State} {block : Nat} {s : State} (h_ : Fr m_ o_ s) (hm_ : Nat.land 135266305 m_ = 135266305) : FrO m_ o_ (execGateTransitionComplete block s) := by
  refine FrO.of h_ hm_ ?_
  clear h_ hm_
  have h_ := Fr.refl 135266305 s
  unfold execGateTransitionComplete
  repeat' first
    | with_reducible assumption
    | exact (rfl : Nat.land _ _ = _)
    | (extract_lets +onlyGivenNames x
       first
         | (have hx : Fr 135266305 s x := ?_
            (on_goal 1 => clear_value x)
            on_goal 2 => (unfold x; clear x))
         | (have hx : Fr 135266305 s x.2 := ?_
            (on_goal 1 => clear_value x)
            on_goal 2 => (unfold x; clear x))
         | clear_value x)
    | with_reducible apply State.gateSweep_frame
    | with_reducible apply State.put_frame
    | with_reducible apply FrO.next
    | (simp -zeta -beta -iota only [Fr.mk_iff]; first | refine FrU.upd ?_ rfl | refine FrU.filter _ ?_ rfl)
    | dsimp -zeta only
    | split

theorem State.gateAction_frame {m_ : Nat} {o_ : State} {s : State} {b : Nat} {action : Nat} (h_ : Fr m_ o_ s) (hm_ : Nat.land 135266305 m_ = 135266305) : Fr m_ o_ (State.gateAction s b action) := by
  refine Fr.of h_ hm_ ?_
  clear h_ hm_
  have h_ := Fr.refl 135266305 s
  unfold State.gateAction
  repeat' first
    | with_reducible assumption
    | exact (rfl : Nat.land _ _ = _)
    | (extract_lets +onlyGivenNames x
       first
         | (have hx : Fr 135266305 s x := ?_
            (on_goal 1 => clear_value x)
            on_goal 2 => (unfold x; clear x))
         | (have hx : Fr 135266305 s x.2 := ?_
            (on_goal 1 => clear_value x)
            on_goal 2 => (unfold x; clear x))
         | clear_value x)
    | with_reducible apply State.gateWrite_frame
    | (simp -zeta -beta -iota only [Fr.mk_iff]; first | refine FrU.upd ?_ rfl | refine FrU.filter _ ?_ rfl)
    | dsimp -zeta only
    | split

theorem State.nsGate_frame {m_ : Nat} {o_ : State} {s : State} {b : Nat} {action : Nat} (h_ : Fr m_ o_ s) (hm_ : Nat.land 672137217 m_ = 672137217) : Fr m_ o_ (State.nsGate s b action) := by
  refine Fr.of h_ hm_ ?_
  clear h_ hm_
  have h_ := Fr.refl 672137217 s
  unfold State.nsGate
  repeat' first
    | with_reducible assumption
    | exact (rfl : Nat.land _ _ = _)
    | (extract_lets +onlyGivenNames x
       first
         | (have hx : Fr 672137217 s x := ?_
            (on_goal 1 => clear_value x)
            on_goal 2 => (unfold x; clear x))
         | (have hx : Fr 672137217 s x.2 := ?_
            (on_goal 1 => clear_value x)
            on_goal 2 => (unfold x; clear x))
         | clear_value x)
    | with_reducible apply State.put_frame
    | with_reducible apply State.raiseIrq_frame
    | with_reducible apply State.gateAction_frame
    | (simp -zeta -beta -iota only [Fr.mk_iff]; first | refine FrU.upd ?_ rfl | refine FrU.filter _ ?_ rfl)
    | with_reducible refine Fr.ite ?_ ?_
    | dsimp -zeta only
    | split

theorem execNsGateClkOn_frame {m_ : Nat} {o_ : State} {block : Nat} {s : State} (h_ : Fr m_ o_ s) (hm_ : Nat.land 672137217 m_ = 672137217) : FrO m_ o_ (execNsGateClkOn block s) := by
  refine FrO.of h_ hm_ ?_
  clear h_ hm_
  have h_ := Fr.refl 672137217 s
  unfold execNsGateClkOn
  repeat' first
    | with_reducible assumption
    | exact (rfl : Nat.land _ _ = _)
    | with_reducible apply State.nsGate_frame
    | with_reducible apply FrO.next

theorem execNsGateClkOff_frame {m_ : Nat} {o_ : State} {block : Nat} {s : State} (h_ : Fr m_ o_ s) (hm_ : Nat.land 672137217 m_ = 672137217) : FrO m_ o_ (execNsGateClkOff block s) := by
  refine FrO.of h_ hm_ ?_
  clear h_ hm_
  have h_ := Fr.refl 672137217 s
  unfold execNsGateClkOff
  repeat' first
    | with_reducible assumption
    | exact (rfl : Nat.land _ _ = _)
    | with_reducible apply State.nsGate_frame
    | with_reducible apply FrO.next

theorem execNsGatePwrOn_frame {m_ : Nat} {o_ : State} {block : Nat} {s : State} (h_ : Fr m_ o_ s) (hm_ : Nat.land 672137217 m_ = 672137217) : FrO m_ o_ (execNsGatePwrOn block s) := by
  refine FrO.of h_ hm_ ?_
  clear h_ hm_
  have h_ := Fr.refl 672137217 s
  unfold execNsGatePwrOn
  repeat' first
    | with_reducible assumption
    | exact (rfl : Nat.land _ _ = _)
    | with_reducible apply State.nsGate_frame
    | with_reducible apply FrO.next

theorem execNsGatePwrOff_frame {m_ : Nat} {o_ : State} {block : Nat} {s : State} (h_ : Fr m_ o_ s) (hm_ : Nat.land 672137217 m_ = 672137217) : FrO m_ o_ (execNsGatePwrOff block s) := by
  refine FrO.of h_ hm_ ?_
  clear h_ hm_
  have h_ := Fr.refl 672137217 s
  unfold execNsGatePwrOff
  repeat' first
    | with_reducible assumption
    | exact (rfl : Nat.land _ _ = _)
    | with_reducible apply State.nsGate_frame
    | with_reducible apply FrO.next

theorem execPwrLockWrite_frame {m_ : Nat} {o_ : State} {locks : Nat} {s : State} (h_ : Fr m_ o_ s) (hm_ : Nat.land 672137217 m_ = 672137217) : FrO m_ o_ (execPwrLockWrite locks s) := by
  refine FrO.of h_ hm_ ?_
  clear h_ hm_
  have h_ := Fr.refl 672137217 s
  unfold execPwrLockWrite
  repeat' first
    | with_reducible assumption
    | exact (rfl : Nat.land _ _ = _)
    | (extract_lets +onlyGivenNames x
       first
         | (have hx : Fr 672137217 s x := ?_
            (on_goal 1 => clear_value x)
            on_goal 2 => (unfold x; clear x))
         | (have hx : Fr 672137217 s x.2 := ?_
            (on_goal 1 => clear_value x)
            on_goal 2 => (unfold x; clear x))
         | clear_value x)
    | with_reducible apply State.put_frame
    | with_reducible apply State.raiseIrq_frame
    | with_reducible apply State.gateAction_frame
    | with_reducible apply FrO.next
    | (simp -zeta -beta -iota only [Fr.mk_iff]; first | refine FrU.upd ?_ rfl | refine FrU.filter _ ?_ rfl)
    | with_reducible refine Fr.ite ?_ ?_
    | with_reducible refine Fr.ite2 ?_ ?_
    | with_reducible refine FrO.ite ?_ ?_
    | dsimp -zeta only
    | split

theorem execPwrDeferCancel_frame {m_ : Nat} {o_ : State} {s : State} (h_ : Fr m_ o_ s) (hm_ : Nat.land 671088641 m_ = 671088641) : FrO m_ o_ (execPwrDeferCancel s) := by
  refine FrO.of h_ hm_ ?_
  clear h_ hm_
  have h_ := Fr.refl 671088641 s
  unfold execPwrDeferCancel
  repeat' first
    | with_reducible assumption
    | exact (rfl : Nat.land _ _ = _)
    | (extract_lets +onlyGivenNames x
       first
         | (have hx : Fr 671088641 s x := ?_
            (on_goal 1 => clear_value x)
            on_goal 2 => (unfold x; clear x))
         | (have hx : Fr 671088641 s x.2 := ?_
            (on_goal 1 => clear_value x)
            on_goal 2 => (unfold x; clear x))
         | clear_value x)
    | with_reducible apply State.raiseIrq_frame
    | with_reducible apply State.put_frame
    | with_reducible apply FrO.next
    | (simp -zeta -beta -iota only [Fr.mk_iff]; first | refine FrU.upd ?_ rfl | refine FrU.filter _ ?_ rfl)
    | dsimp -zeta only
    | split

theorem execWfi_frame {m_ : Nat} {o_ : State} {core : Nat} {s : State} (h_ : Fr m_ o_ s) (hm_ : Nat.land 135266305 m_ = 135266305) : FrO m_ o_ (execWfi core s) := by
  refine FrO.of h_ hm_ ?_
  clear h_ hm_
  have h_ := Fr.refl 135266305 s
  unfold execWfi
  repeat' first
    | with_reducible assumption
    | exact (rfl : Nat.land _ _ = _)
    | (extract_lets +onlyGivenNames x
       first
         | (have hx : Fr 135266305 s x := ?_
            (on_goal 1 => clear_value x)
            on_goal 2 => (unfold x; clear x))
         | (have hx : Fr 135266305 s x.2 := ?_
            (on_goal 1 => clear_value x)
            on_goal 2 => (unfold x; clear x))
         | clear_value x)
    | with_reducible apply State.gateBegin_frame
    | with_reducible apply FrO.next
    | (simp -zeta -beta -iota only [Fr.mk_iff]; first | refine FrU.upd ?_ rfl | refine FrU.filter _ ?_ rfl)
    | with_reducible refine Fr.ite ?_ ?_
    | with_reducible refine Fr.ite2 ?_ ?_
    | with_reducible refine FrO.ite ?_ ?_
    | dsimp -zeta only
    | split

theorem State.unpoweredAlarm_frame {m_ : Nat} {o_ : State} {s : State} {loops : List Nat} (h_ : Fr m_ o_ s) (hm_ : Nat.land 71303168 m_ = 71303168) : Fr m_ o_ (State.unpoweredAlarm s loops) := by
  refine Fr.of h_ hm_ ?_
  clear h_ hm_
  have h_ := Fr.refl 71303168 s
  unfold State.unpoweredAlarm
  repeat' first
    | with_reducible assumption
    | exact (rfl : Nat.land _ _ = _)
    | (extract_lets +onlyGivenNames x
       first
         | (have hx : Fr 71303168 s x := ?_
            (on_goal 1 => clear_value x)
            on_goal 2 => (unfold x; clear x))
         | (have hx : Fr 71303168 s x.2 := ?_
            (on_goal 1 => clear_value x)
            on_goal 2 => (unfold x; clear x))
         | clear_value x)
    | (simp -zeta -beta -iota only [Fr.mk_iff]; first | refine FrU.upd ?_ rfl | refine FrU.filter _ ?_ rfl)
    | with_reducible refine Fr.ite ?_ ?_
    | dsimp -zeta only
    | split

theorem State.assertLoops_frame {m_ : Nat} {o_ : State} {s : State} (h_ : Fr m_ o_ s) (hm_ : Nat.land 1 m_ = 1) : Fr m_ o_ (State.assertLoops s) := by
  refine Fr.of h_ hm_ ?_
  clear h_ hm_
  have h_ := Fr.refl 1 s
  unfold State.assertLoops
  repeat' first
    | with_reducible assumption
    | exact (rfl : Nat.land _ _ = _)
    | with_reducible refine Fr.foldl _ _ ?_ (fun _ _ _ => ?_)
    | with_reducible apply State.assertLevel_frame
    | dsimp -zeta only

theorem execLoopSample_frame {m_ : Nat} {o_ : State} {readings : List Nat} {s : State} (h_ : Fr m_ o_ s) (hm_ : Nat.land 1837002293 m_ = 1837002293) : FrO m_ o_ (execLoopSample readings s) := by
  refine FrO.of h_ hm_ ?_
  clear h_ hm_
  have h_ := Fr.refl 1837002293 s
  unfold execLoopSample
  repeat' first
    | with_reducible assumption
    | exact (rfl : Nat.land _ _ = _)
    | (extract_lets +onlyGivenNames x
       first
         | (have hx : Fr 1837002293 s x := ?_
            (on_goal 1 => clear_value x)
            on_goal 2 => (unfold x; clear x))
         | (have hx : Fr 1837002293 s x.2 := ?_
            (on_goal 1 => clear_value x)
            on_goal 2 => (unfold x; clear x))
         | clear_value x)
    | with_reducible refine Fr.foldl _ _ ?_ (fun _ _ _ => ?_)
    | with_reducible apply State.put_frame
    | with_reducible apply State.alarm'_frame
    | with_reducible apply State.assertLoops_frame
    | with_reducible apply State.unpoweredAlarm_frame
    | with_reducible apply FrO.next
    | (simp -zeta -beta -iota only [Fr.mk_iff]; first | refine FrU.upd ?_ rfl | refine FrU.filter _ ?_ rfl)
    | with_reducible refine Fr.ite ?_ ?_
    | with_reducible refine FrO.ite ?_ ?_
    | dsimp -zeta only
    | split

theorem State.setArmed_frame {m_ : Nat} {o_ : State} {s : State} {armed : Nat} (h_ : Fr m_ o_ s) (hm_ : Nat.land 67108865 m_ = 67108865) : Fr m_ o_ (State.setArmed s armed) := by
  refine Fr.of h_ hm_ ?_
  clear h_ hm_
  have h_ := Fr.refl 67108865 s
  unfold State.setArmed
  repeat' first
    | with_reducible assumption
    | exact (rfl : Nat.land _ _ = _)
    | (extract_lets +onlyGivenNames x
       first
         | (have hx : Fr 67108865 s x := ?_
            (on_goal 1 => clear_value x)
            on_goal 2 => (unfold x; clear x))
         | (have hx : Fr 67108865 s x.2 := ?_
            (on_goal 1 => clear_value x)
            on_goal 2 => (unfold x; clear x))
         | clear_value x)
    | with_reducible apply State.showAlarm_frame
    | with_reducible apply State.assertLoops_frame
    | (simp -zeta -beta -iota only [Fr.mk_iff]; first | refine FrU.upd ?_ rfl | refine FrU.filter _ ?_ rfl)

theorem State.loopsArm_frame {m_ : Nat} {o_ : State} {s : State} {mask : Nat} (h_ : Fr m_ o_ s) (hm_ : Nat.land 67108865 m_ = 67108865) : Fr m_ o_ (State.loopsArm s mask) := by
  refine Fr.of h_ hm_ ?_
  clear h_ hm_
  have h_ := Fr.refl 67108865 s
  unfold State.loopsArm
  repeat' first
    | with_reducible assumption
    | exact (rfl : Nat.land _ _ = _)
    | with_reducible apply State.setArmed_frame
    | split

theorem State.loopsDisarm_frame {m_ : Nat} {o_ : State} {s : State} {mask : Nat} (h_ : Fr m_ o_ s) (hm_ : Nat.land 67108865 m_ = 67108865) : Fr m_ o_ (State.loopsDisarm s mask) := by
  refine Fr.of h_ hm_ ?_
  clear h_ hm_
  have h_ := Fr.refl 67108865 s
  unfold State.loopsDisarm
  repeat' first
    | with_reducible assumption
    | exact (rfl : Nat.land _ _ = _)
    | with_reducible apply State.setArmed_frame
    | dsimp -zeta only

theorem State.setResponse_frame {m_ : Nat} {o_ : State} {s : State} {src : Nat} {v : Nat} (h_ : Fr m_ o_ s) (hm_ : Nat.land 67108865 m_ = 67108865) : Fr m_ o_ (State.setResponse s src v) := by
  refine Fr.of h_ hm_ ?_
  clear h_ hm_
  have h_ := Fr.refl 67108865 s
  unfold State.setResponse
  repeat' first
    | with_reducible assumption
    | exact (rfl : Nat.land _ _ = _)
    | (extract_lets +onlyGivenNames x
       first
         | (have hx : Fr 67108865 s x := ?_
            (on_goal 1 => clear_value x)
            on_goal 2 => (unfold x; clear x))
         | (have hx : Fr 67108865 s x.2 := ?_
            (on_goal 1 => clear_value x)
            on_goal 2 => (unfold x; clear x))
         | clear_value x)
    | with_reducible apply State.showAlarm_frame
    | (simp -zeta -beta -iota only [Fr.mk_iff]; first | refine FrU.upd ?_ rfl | refine FrU.filter _ ?_ rfl)

theorem State.setAlarmnMin_frame {m_ : Nat} {o_ : State} {s : State} {v : Nat} (h_ : Fr m_ o_ s) (hm_ : Nat.land 67108865 m_ = 67108865) : Fr m_ o_ (State.setAlarmnMin s v) := by
  refine Fr.of h_ hm_ ?_
  clear h_ hm_
  have h_ := Fr.refl 67108865 s
  unfold State.setAlarmnMin
  repeat' first
    | with_reducible assumption
    | exact (rfl : Nat.land _ _ = _)
    | (extract_lets +onlyGivenNames x
       first
         | (have hx : Fr 67108865 s x := ?_
            (on_goal 1 => clear_value x)
            on_goal 2 => (unfold x; clear x))
         | (have hx : Fr 67108865 s x.2 := ?_
            (on_goal 1 => clear_value x)
            on_goal 2 => (unfold x; clear x))
         | clear_value x)
    | with_reducible apply State.showAlarm_frame
    | (simp -zeta -beta -iota only [Fr.mk_iff]; first | refine FrU.upd ?_ rfl | refine FrU.filter _ ?_ rfl)

theorem execXtalMonitorArm_frame {m_ : Nat} {o_ : State} {s : State} (h_ : Fr m_ o_ s) (hm_ : Nat.land 67108865 m_ = 67108865) : FrO m_ o_ (execXtalMonitorArm s) := by
  refine FrO.of h_ hm_ ?_
  clear h_ hm_
  have h_ := Fr.refl 67108865 s
  unfold execXtalMonitorArm
  repeat' first
    | with_reducible assumption
    | exact (rfl : Nat.land _ _ = _)
    | with_reducible apply State.armMonitor_frame
    | with_reducible apply FrO.next
    | with_reducible refine Fr.ite ?_ ?_
    | with_reducible refine FrO.ite ?_ ?_
    | split

theorem execClockMonitorWindow_frame {m_ : Nat} {o_ : State} {c : Nat} {dev : Int} {s : State} (h_ : Fr m_ o_ s) (hm_ : Nat.land 1832807989 m_ = 1832807989) : FrO m_ o_ (execClockMonitorWindow c dev s) := by
  refine FrO.of h_ hm_ ?_
  clear h_ hm_
  have h_ := Fr.refl 1832807989 s
  unfold execClockMonitorWindow
  repeat' first
    | with_reducible assumption
    | exact (rfl : Nat.land _ _ = _)
    | (extract_lets +onlyGivenNames x
       first
         | (have hx : Fr 1832807989 s x := ?_
            (on_goal 1 => clear_value x)
            on_goal 2 => (unfold x; clear x))
         | (have hx : Fr 1832807989 s x.2 := ?_
            (on_goal 1 => clear_value x)
            on_goal 2 => (unfold x; clear x))
         | (unfold x; clear x))
    | with_reducible apply State.put_frame
    | with_reducible apply State.assertLevel_frame
    | with_reducible apply State.alarm'_frame
    | with_reducible apply FrO.next
    | (simp -zeta -beta -iota only [Fr.mk_iff]; first | refine FrU.upd ?_ rfl | refine FrU.filter _ ?_ rfl)
    | with_reducible refine Fr.ite ?_ ?_
    | with_reducible refine FrO.ite ?_ ?_
    | dsimp -zeta only
    | split

theorem execClockShortCycle_frame {m_ : Nat} {o_ : State} {c : Nat} {s : State} (h_ : Fr m_ o_ s) (hm_ : Nat.land 1832807989 m_ = 1832807989) : FrO m_ o_ (execClockShortCycle c s) := by
  refine FrO.of h_ hm_ ?_
  clear h_ hm_
  have h_ := Fr.refl 1832807989 s
  unfold execClockShortCycle
  repeat' first
    | with_reducible assumption
    | exact (rfl : Nat.land _ _ = _)
    | (extract_lets +onlyGivenNames x
       first
         | (have hx : Fr 1832807989 s x := ?_
            (on_goal 1 => clear_value x)
            on_goal 2 => (unfold x; clear x))
         | (have hx : Fr 1832807989 s x.2 := ?_
            (on_goal 1 => clear_value x)
            on_goal 2 => (unfold x; clear x))
         | clear_value x)
    | with_reducible apply State.put_frame
    | with_reducible apply State.alarm'_frame
    | with_reducible apply FrO.next
    | with_reducible refine Fr.ite ?_ ?_
    | with_reducible refine FrO.ite ?_ ?_
    | dsimp -zeta only
    | split

theorem execFirmwareAlarmRaise_frame {m_ : Nat} {o_ : State} {response : Nat} {s : State} (h_ : Fr m_ o_ s) (hm_ : Nat.land 1832807989 m_ = 1832807989) : FrO m_ o_ (execFirmwareAlarmRaise response s) := by
  refine FrO.of h_ hm_ ?_
  clear h_ hm_
  have h_ := Fr.refl 1832807989 s
  unfold execFirmwareAlarmRaise
  repeat' first
    | with_reducible assumption
    | exact (rfl : Nat.land _ _ = _)
    | with_reducible apply State.alarms_frame
    | with_reducible apply FrO.next
    | with_reducible refine Fr.ite ?_ ?_
    | with_reducible refine FrO.ite ?_ ?_
    | split

theorem State.purgeJob_frame {m_ : Nat} {o_ : State} {s : State} {id : Nat} {j : Job} (h_ : Fr m_ o_ s) (hm_ : Nat.land 18820657 m_ = 18820657) : Fr m_ o_ (State.purgeJob s id j) := by
  refine Fr.of h_ hm_ ?_
  clear h_ hm_
  have h_ := Fr.refl 18820657 s
  unfold State.purgeJob
  repeat' first
    | with_reducible assumption
    | exact (rfl : Nat.land _ _ = _)
    | (extract_lets +onlyGivenNames x
       first
         | (have hx : Fr 18820657 s x := ?_
            (on_goal 1 => clear_value x)
            on_goal 2 => (unfold x; clear x))
         | (have hx : Fr 18820657 s x.2 := ?_
            (on_goal 1 => clear_value x)
            on_goal 2 => (unfold x; clear x))
         | clear_value x)
    | with_reducible apply State.leaveUnit_frame
    | with_reducible apply State.setJob_frame
    | with_reducible apply State.stampWith_frame
    | (simp -zeta -beta -iota only [Fr.mk_iff]; first | refine FrU.upd ?_ rfl | refine FrU.filter _ ?_ rfl)
    | with_reducible refine Fr.ite ?_ ?_
    | with_reducible refine Fr.ite2 ?_ ?_
    | dsimp -zeta only
    | split

theorem State.openEnables_frame {m_ : Nat} {o_ : State} {s : State} {e : Nat} (h_ : Fr m_ o_ s) (hm_ : Nat.land 1 m_ = 1) : Fr m_ o_ (State.openEnables s e) := by
  refine Fr.of h_ hm_ ?_
  clear h_ hm_
  have h_ := Fr.refl 1 s
  unfold State.openEnables
  repeat' first
    | with_reducible assumption
    | exact (rfl : Nat.land _ _ = _)
    | with_reducible apply State.put_frame
    | split

theorem State.openSecure_frame {m_ : Nat} {o_ : State} {s : State} (h_ : Fr m_ o_ s) (hm_ : Nat.land 1237282675 m_ = 1237282675) : Fr m_ o_ (State.openSecure s) := by
  refine Fr.of h_ hm_ ?_
  clear h_ hm_
  have h_ := Fr.refl 1237282675 s
  unfold State.openSecure
  repeat' first
    | with_reducible assumption
    | exact (rfl : Nat.land _ _ = _)
    | (extract_lets +onlyGivenNames x
       first
         | (have hx : Fr 1237282675 s x := ?_
            (on_goal 1 => clear_value x)
            on_goal 2 => (unfold x; clear x))
         | (have hx : Fr 1237282675 s x.2 := ?_
            (on_goal 1 => clear_value x)
            on_goal 2 => (unfold x; clear x))
         | clear_value x)
    | with_reducible apply State.putBit_frame
    | with_reducible apply State.extendHm3_frame
    | with_reducible apply State.openEnables_frame
    | with_reducible apply State.lapseClasp_frame
    | with_reducible apply State.showRoots_frame
    | with_reducible apply State.refreshDeviceState_frame
    | (simp -zeta -beta -iota only [Fr.mk_iff]; first | refine FrU.upd ?_ rfl | refine FrU.filter _ ?_ rfl)
    | dsimp -zeta only
    | split

theorem execPurgeErasureComplete_frame {m_ : Nat} {o_ : State} {s : State} (h_ : Fr m_ o_ s) (hm_ : Nat.land 1270837107 m_ = 1270837107) : FrO m_ o_ (execPurgeErasureComplete s) := by
  refine FrO.of h_ hm_ ?_
  clear h_ hm_
  have h_ := Fr.refl 1270837107 s
  unfold execPurgeErasureComplete
  repeat' first
    | with_reducible assumption
    | exact (rfl : Nat.land _ _ = _)
    | (extract_lets +onlyGivenNames x
       first
         | (have hx : Fr 1270837107 s x := ?_
            (on_goal 1 => clear_value x)
            on_goal 2 => (unfold x; clear x))
         | (have hx : Fr 1270837107 s x.2 := ?_
            (on_goal 1 => clear_value x)
            on_goal 2 => (unfold x; clear x))
         | clear_value x)
    | with_reducible refine Fr.foldl _ _ ?_ (fun _ _ _ => ?_)
    | with_reducible apply State.eraseEngines_frame
    | with_reducible apply State.purgeJob_frame
    | with_reducible apply State.putBit_frame
    | with_reducible apply State.setRng_frame
    | with_reducible apply State.showAlarmN_frame
    | with_reducible apply State.openSecure_frame
    | with_reducible apply State.showRoots_frame
    | with_reducible apply State.sweepLanes_frame
    | with_reducible apply FrO.next
    | (simp -zeta -beta -iota only [Fr.mk_iff]; first | refine FrU.upd ?_ rfl | refine FrU.filter _ ?_ rfl)
    | with_reducible refine Fr.ite ?_ ?_
    | with_reducible refine Fr.ite2 ?_ ?_
    | with_reducible refine FrO.ite ?_ ?_
    | dsimp -zeta only
    | split

theorem State.zeroiseStores_frame {m_ : Nat} {o_ : State} {s : State} (h_ : Fr m_ o_ s) (hm_ : Nat.land 198705665 m_ = 198705665) : Fr m_ o_ (State.zeroiseStores s) := by
  refine Fr.of h_ hm_ ?_
  clear h_ hm_
  have h_ := Fr.refl 198705665 s
  unfold State.zeroiseStores
  repeat' first
    | with_reducible assumption
    | exact (rfl : Nat.land _ _ = _)
    | (extract_lets +onlyGivenNames x
       first
         | (have hx : Fr 198705665 s x := ?_
            (on_goal 1 => clear_value x)
            on_goal 2 => (unfold x; clear x))
         | (have hx : Fr 198705665 s x.2 := ?_
            (on_goal 1 => clear_value x)
            on_goal 2 => (unfold x; clear x))
         | clear_value x)
    | with_reducible apply State.eraseEngines_frame
    | with_reducible apply State.uninstantiate_frame
    | with_reducible apply State.putBit_frame
    | (simp -zeta -beta -iota only [Fr.mk_iff]; first | refine FrU.upd ?_ rfl | refine FrU.filter _ ?_ rfl)
    | dsimp -zeta only

theorem execZeroiseErasureComplete_frame {m_ : Nat} {o_ : State} {s : State} (h_ : Fr m_ o_ s) (hm_ : Nat.land 265814545 m_ = 265814545) : FrO m_ o_ (execZeroiseErasureComplete s) := by
  refine FrO.of h_ hm_ ?_
  clear h_ hm_
  have h_ := Fr.refl 265814545 s
  unfold execZeroiseErasureComplete
  repeat' first
    | with_reducible assumption
    | exact (rfl : Nat.land _ _ = _)
    | (extract_lets +onlyGivenNames x
       first
         | (have hx : Fr 265814545 s x := ?_
            (on_goal 1 => clear_value x)
            on_goal 2 => (unfold x; clear x))
         | (have hx : Fr 265814545 s x.2 := ?_
            (on_goal 1 => clear_value x)
            on_goal 2 => (unfold x; clear x))
         | clear_value x)
    | with_reducible apply State.putBit_frame
    | with_reducible apply State.sweepLanes_frame
    | with_reducible apply State.zeroiseStores_frame
    | with_reducible apply State.showAlarmN_frame
    | with_reducible apply State.refreshDeviceState_frame
    | with_reducible apply State.showRoots_frame
    | with_reducible apply State.showRng_frame
    | with_reducible apply FrO.next
    | (simp -zeta -beta -iota only [Fr.mk_iff]; first | refine FrU.upd ?_ rfl | refine FrU.filter _ ?_ rfl)
    | with_reducible refine Fr.ite ?_ ?_
    | with_reducible refine FrO.ite ?_ ?_
    | dsimp -zeta only
    | split

theorem State.leaveStopped_frame {m_ : Nat} {o_ : State} {s : State} {id : Nat} {j : Job} (h_ : Fr m_ o_ s) (hm_ : Nat.land 17302017 m_ = 17302017) : Fr m_ o_ (State.leaveStopped s id j) := by
  refine Fr.of h_ hm_ ?_
  clear h_ hm_
  have h_ := Fr.refl 17302017 s
  unfold State.leaveStopped
  repeat' first
    | with_reducible assumption
    | exact (rfl : Nat.land _ _ = _)
    | (extract_lets +onlyGivenNames x
       first
         | (have hx : Fr 17302017 s x := ?_
            (on_goal 1 => clear_value x)
            on_goal 2 => (unfold x; clear x))
         | (have hx : Fr 17302017 s x.2 := ?_
            (on_goal 1 => clear_value x)
            on_goal 2 => (unfold x; clear x))
         | clear_value x)
    | with_reducible apply State.leaveUnit_frame
    | with_reducible apply State.setJob_frame
    | (simp -zeta -beta -iota only [Fr.mk_iff]; first | refine FrU.upd ?_ rfl | refine FrU.filter _ ?_ rfl)
    | with_reducible refine Fr.ite ?_ ?_
    | with_reducible refine Fr.ite2 ?_ ?_
    | dsimp -zeta only
    | split

theorem State.clearHalt_frame {m_ : Nat} {o_ : State} {s : State} (h_ : Fr m_ o_ s) (hm_ : Nat.land 220163633 m_ = 220163633) : Fr m_ o_ (State.clearHalt s) := by
  refine Fr.of h_ hm_ ?_
  clear h_ hm_
  have h_ := Fr.refl 220163633 s
  unfold State.clearHalt
  repeat' first
    | with_reducible assumption
    | exact (rfl : Nat.land _ _ = _)
    | (extract_lets +onlyGivenNames x
       first
         | (have hx : Fr 220163633 s x := ?_
            (on_goal 1 => clear_value x)
            on_goal 2 => (unfold x; clear x))
         | (have hx : Fr 220163633 s x.2 := ?_
            (on_goal 1 => clear_value x)
            on_goal 2 => (unfold x; clear x))
         | (unfold x; clear x))
    | with_reducible refine Fr.foldl _ _ ?_ (fun _ _ _ => ?_)
    | with_reducible apply State.putBit_frame
    | with_reducible apply State.clearStopped_frame
    | with_reducible apply State.leaveStopped_frame
    | with_reducible apply State.moveCore_frame
    | with_reducible apply State.updateCore_frame
    | with_reducible apply State.showAlarmN_frame
    | with_reducible apply State.sweepLanes_frame
    | with_reducible apply State.settle_frame
    | with_reducible apply State.refreshDeviceState_frame
    | (simp -zeta -beta -iota only [Fr.mk_iff]; first | refine FrU.upd ?_ rfl | refine FrU.filter _ ?_ rfl)
    | with_reducible refine Fr.ite ?_ ?_
    | with_reducible refine Fr.ite2 ?_ ?_
    | dsimp -zeta only
    | split

theorem execHaltClear_frame {m_ : Nat} {o_ : State} {s : State} (h_ : Fr m_ o_ s) (hm_ : Nat.land 220163633 m_ = 220163633) : FrO m_ o_ (execHaltClear s) := by
  refine FrO.of h_ hm_ ?_
  clear h_ hm_
  have h_ := Fr.refl 220163633 s
  unfold execHaltClear
  repeat' first
    | with_reducible assumption
    | exact (rfl : Nat.land _ _ = _)
    | with_reducible apply State.putBit_frame
    | with_reducible apply State.clearHalt_frame
    | with_reducible apply FrO.next
    | with_reducible refine Fr.ite ?_ ?_
    | with_reducible refine FrO.ite ?_ ?_
    | split

theorem State.bbramFails_frame {m_ : Nat} {o_ : State} {s : State} {alarmArea : Bool} (h_ : Fr m_ o_ s) (hm_ : Nat.land 1832807989 m_ = 1832807989) : Fr m_ o_ (State.bbramFails s alarmArea) := by
  refine Fr.of h_ hm_ ?_
  clear h_ hm_
  have h_ := Fr.refl 1832807989 s
  unfold State.bbramFails
  repeat' first
    | with_reducible assumption
    | exact (rfl : Nat.land _ _ = _)
    | (extract_lets +onlyGivenNames x
       first
         | (have hx : Fr 1832807989 s x := ?_
            (on_goal 1 => clear_value x)
            on_goal 2 => (unfold x; clear x))
         | (have hx : Fr 1832807989 s x.2 := ?_
            (on_goal 1 => clear_value x)
            on_goal 2 => (unfold x; clear x))
         | clear_value x)
    | with_reducible apply State.showAlarm_frame
    | with_reducible apply State.assertLoops_frame
    | with_reducible apply State.alarm'_frame
    | (simp -zeta -beta -iota only [Fr.mk_iff]; first | refine FrU.upd ?_ rfl | refine FrU.filter _ ?_ rfl)
    | with_reducible refine Fr.ite ?_ ?_
    | dsimp -zeta only
    | split

theorem execBbramPeriodicCheck_frame {m_ : Nat} {o_ : State} {secretBad : Bool} {alarmBad : Bool} {s : State} (h_ : Fr m_ o_ s) (hm_ : Nat.land 1832807989 m_ = 1832807989) : FrO m_ o_ (execBbramPeriodicCheck secretBad alarmBad s) := by
  refine FrO.of h_ hm_ ?_
  clear h_ hm_
  have h_ := Fr.refl 1832807989 s
  unfold execBbramPeriodicCheck
  repeat' first
    | with_reducible assumption
    | exact (rfl : Nat.land _ _ = _)
    | with_reducible apply State.bbramFails_frame
    | with_reducible apply FrO.next
    | with_reducible refine Fr.ite ?_ ?_
    | with_reducible refine FrO.ite ?_ ?_
    | split

theorem execVbatMeasure_frame {m_ : Nat} {o_ : State} {aMv : Nat} {bMv : Nat} {s : State} (h_ : Fr m_ o_ s) (hm_ : Nat.land 1 m_ = 1) : FrO m_ o_ (execVbatMeasure aMv bMv s) := by
  refine FrO.of h_ hm_ ?_
  clear h_ hm_
  have h_ := Fr.refl 1 s
  unfold execVbatMeasure
  repeat' first
    | with_reducible assumption
    | exact (rfl : Nat.land _ _ = _)
    | with_reducible apply State.put_frame
    | with_reducible apply FrO.next
    | with_reducible refine Fr.ite ?_ ?_
    | with_reducible refine FrO.ite ?_ ?_
    | split

theorem execPolishSlot_frame {m_ : Nat} {o_ : State} {lattice : Bool} {s : State} (h_ : Fr m_ o_ s) (hm_ : Nat.land 17301505 m_ = 17301505) : FrO m_ o_ (execPolishSlot lattice s) := by
  refine FrO.of h_ hm_ ?_
  clear h_ hm_
  have h_ := Fr.refl 17301505 s
  unfold execPolishSlot
  repeat' first
    | with_reducible assumption
    | exact (rfl : Nat.land _ _ = _)
    | (extract_lets +onlyGivenNames x
       first
         | (have hx : Fr 17301505 s x := ?_
            (on_goal 1 => clear_value x)
            on_goal 2 => (unfold x; clear x))
         | (have hx : Fr 17301505 s x.2 := ?_
            (on_goal 1 => clear_value x)
            on_goal 2 => (unfold x; clear x))
         | clear_value x)
    | with_reducible apply State.setCluster_frame
    | with_reducible apply State.updateCore_frame
    | with_reducible apply State.putBit_frame
    | with_reducible apply State.put_frame
    | with_reducible apply FrO.next
    | (simp -zeta -beta -iota only [Fr.mk_iff]; first | refine FrU.upd ?_ rfl | refine FrU.filter _ ?_ rfl)
    | with_reducible refine Fr.ite ?_ ?_
    | with_reducible refine Fr.ite2 ?_ ?_
    | with_reducible refine FrO.ite ?_ ?_
    | dsimp -zeta only
    | split

theorem State.polishFail_frame {m_ : Nat} {o_ : State} {s : State} {k : ClusterId} {n : Nat} (h_ : Fr m_ o_ s) (hm_ : Nat.land 151519233 m_ = 151519233) : Fr m_ o_ (State.polishFail s k n) := by
  refine Fr.of h_ hm_ ?_
  clear h_ hm_
  have h_ := Fr.refl 151519233 s
  unfold State.polishFail
  repeat' first
    | with_reducible assumption
    | exact (rfl : Nat.land _ _ = _)
    | (extract_lets +onlyGivenNames x
       first
         | (have hx : Fr 151519233 s x := ?_
            (on_goal 1 => clear_value x)
            on_goal 2 => (unfold x; clear x))
         | (have hx : Fr 151519233 s x.2 := ?_
            (on_goal 1 => clear_value x)
            on_goal 2 => (unfold x; clear x))
         | clear_value x)
    | with_reducible apply State.moveCore_frame
    | with_reducible apply State.putBit_frame
    | with_reducible apply State.count_frame
    | with_reducible apply State.put_frame
    | with_reducible apply State.raiseIrq_frame
    | with_reducible apply State.promote_frame
    | (simp -zeta -beta -iota only [Fr.mk_iff]; first | refine FrU.upd ?_ rfl | refine FrU.filter _ ?_ rfl)
    | dsimp -zeta only
    | split

theorem State.passTests_frame {m_ : Nat} {o_ : State} {s : State} {k : ClusterId} {n : Nat} {a3 : Nat} {a4 : Nat} (h_ : Fr m_ o_ s) (hm_ : Nat.land 17301505 m_ = 17301505) : Fr m_ o_ (State.passTests s k n a3 a4) := by
  induction a4 generalizing s a3 with
  | zero => exact h_
  | succ n ih => exact ih (State.nextTest_frame h_ hm_)

theorem execPolishSequenceEnd_frame {m_ : Nat} {o_ : State} {lattice : Bool} {failed : Option Nat} {s : State} (h_ : Fr m_ o_ s) (hm_ : Nat.land 151519237 m_ = 151519237) : FrO m_ o_ (execPolishSequenceEnd lattice failed s) := by
  refine FrO.of h_ hm_ ?_
  clear h_ hm_
  have h_ := Fr.refl 151519237 s
  unfold execPolishSequenceEnd
  repeat' first
    | with_reducible assumption
    | exact (rfl : Nat.land _ _ = _)
    | (extract_lets +onlyGivenNames x
       first
         | (have hx : Fr 151519237 s x := ?_
            (on_goal 1 => clear_value x)
            on_goal 2 => (unfold x; clear x))
         | (have hx : Fr 151519237 s x.2 := ?_
            (on_goal 1 => clear_value x)
            on_goal 2 => (unfold x; clear x))
         | clear_value x)
    | with_reducible apply State.putBit_frame
    | with_reducible apply State.passTests_frame
    | with_reducible apply State.updateCore_frame
    | with_reducible apply State.count_frame
    | with_reducible apply State.moveCore_frame
    | with_reducible apply State.put_frame
    | with_reducible apply State.polishFail_frame
    | with_reducible apply State.quitTest_frame
    | with_reducible apply FrO.next
    | (simp -zeta -beta -iota only [Fr.mk_iff]; first | refine FrU.upd ?_ rfl | refine FrU.filter _ ?_ rfl)
    | with_reducible refine Fr.ite ?_ ?_
    | with_reducible refine Fr.ite2 ?_ ?_
    | with_reducible refine FrO.ite ?_ ?_
    | dsimp -zeta only
    | split

theorem execBezelCommit_frame {m_ : Nat} {o_ : State} {s : State} (h_ : Fr m_ o_ s) (hm_ : Nat.land 536870913 m_ = 536870913) : FrO m_ o_ (execBezelCommit s) := by
  refine FrO.of h_ hm_ ?_
  clear h_ hm_
  have h_ := Fr.refl 536870913 s
  unfold execBezelCommit
  repeat' first
    | with_reducible assumption
    | exact (rfl : Nat.land _ _ = _)
    | (extract_lets +onlyGivenNames x
       first
         | (have hx : Fr 536870913 s x := ?_
            (on_goal 1 => clear_value x)
            on_goal 2 => (unfold x; clear x))
         | (have hx : Fr 536870913 s x.2 := ?_
            (on_goal 1 => clear_value x)
            on_goal 2 => (unfold x; clear x))
         | clear_value x)
    | with_reducible apply State.count_frame
    | with_reducible apply State.put_frame
    | with_reducible apply State.putBit_frame
    | with_reducible apply FrO.next
    | (simp -zeta -beta -iota only [Fr.mk_iff]; first | refine FrU.upd ?_ rfl | refine FrU.filter _ ?_ rfl)
    | with_reducible refine Fr.ite ?_ ?_
    | with_reducible refine FrO.ite ?_ ?_
    | dsimp -zeta only
    | split

theorem execBezelGenActive_frame {m_ : Nat} {o_ : State} {s : State} (h_ : Fr m_ o_ s) (hm_ : Nat.land 1 m_ = 1) : FrO m_ o_ (execBezelGenActive s) := by
  refine FrO.of h_ hm_ ?_
  clear h_ hm_
  have h_ := Fr.refl 1 s
  unfold execBezelGenActive
  repeat' first
    | with_reducible assumption
    | exact (rfl : Nat.land _ _ = _)
    | with_reducible apply State.putBit_frame
    | with_reducible apply State.put_frame
    | with_reducible apply FrO.next

theorem State.writeMode_frame {m_ : Nat} {o_ : State} {s : State} {on : Bool} (h_ : Fr m_ o_ s) (hm_ : Nat.land 536870913 m_ = 536870913) : Fr m_ o_ (State.writeMode s on) := by
  refine Fr.of h_ hm_ ?_
  clear h_ hm_
  have h_ := Fr.refl 536870913 s
  unfold State.writeMode
  repeat' first
    | with_reducible assumption
    | exact (rfl : Nat.land _ _ = _)
    | (extract_lets +onlyGivenNames x
       first
         | (have hx : Fr 536870913 s x := ?_
            (on_goal 1 => clear_value x)
            on_goal 2 => (unfold x; clear x))
         | (have hx : Fr 536870913 s x.2 := ?_
            (on_goal 1 => clear_value x)
            on_goal 2 => (unfold x; clear x))
         | clear_value x)
    | with_reducible apply State.putBit_frame
    | (simp -zeta -beta -iota only [Fr.mk_iff]; first | refine FrU.upd ?_ rfl | refine FrU.filter _ ?_ rfl)
    | with_reducible refine Fr.ite ?_ ?_
    | split

theorem execBezelModeWrite_frame {m_ : Nat} {o_ : State} {service : Bool} {s : State} (h_ : Fr m_ o_ s) (hm_ : Nat.land 536870913 m_ = 536870913) : FrO m_ o_ (execBezelModeWrite service s) := by
  refine FrO.of h_ hm_ ?_
  clear h_ hm_
  have h_ := Fr.refl 536870913 s
  unfold execBezelModeWrite
  repeat' first
    | with_reducible assumption
    | exact (rfl : Nat.land _ _ = _)
    | with_reducible apply State.writeMode_frame
    | with_reducible apply FrO.next

theorem execWorldCommit_frame {m_ : Nat} {o_ : State} {s : State} (h_ : Fr m_ o_ s) (hm_ : Nat.land 536870913 m_ = 536870913) : FrO m_ o_ (execWorldCommit s) := by
  refine FrO.of h_ hm_ ?_
  clear h_ hm_
  have h_ := Fr.refl 536870913 s
  unfold execWorldCommit
  repeat' first
    | with_reducible assumption
    | exact (rfl : Nat.land _ _ = _)
    | (extract_lets +onlyGivenNames x
       first
         | (have hx : Fr 536870913 s x := ?_
            (on_goal 1 => clear_value x)
            on_goal 2 => (unfold x; clear x))
         | (have hx : Fr 536870913 s x.2 := ?_
            (on_goal 1 => clear_value x)
            on_goal 2 => (unfold x; clear x))
         | clear_value x)
    | with_reducible apply State.count_frame
    | with_reducible apply State.put_frame
    | with_reducible apply FrO.next
    | (simp -zeta -beta -iota only [Fr.mk_iff]; first | refine FrU.upd ?_ rfl | refine FrU.filter _ ?_ rfl)
    | with_reducible refine Fr.ite ?_ ?_
    | with_reducible refine FrO.ite ?_ ?_
    | dsimp -zeta only
    | split

theorem execWorldGenActive_frame {m_ : Nat} {o_ : State} {s : State} (h_ : Fr m_ o_ s) (hm_ : Nat.land 1 m_ = 1) : FrO m_ o_ (execWorldGenActive s) := by
  refine FrO.of h_ hm_ ?_
  clear h_ hm_
  have h_ := Fr.refl 1 s
  unfold execWorldGenActive
  repeat' first
    | with_reducible assumption
    | exact (rfl : Nat.land _ _ = _)
    | with_reducible apply State.put_frame
    | with_reducible apply FrO.next

theorem State.switchWorld_frame {m_ : Nat} {o_ : State} {s : State} {c : Nat} {secure : Bool} {pc : Nat} (h_ : Fr m_ o_ s) (hm_ : Nat.land 536870913 m_ = 536870913) : Fr m_ o_ (State.switchWorld s c secure pc) := by
  refine Fr.of h_ hm_ ?_
  clear h_ hm_
  have h_ := Fr.refl 536870913 s
  unfold State.switchWorld
  repeat' first
    | with_reducible assumption
    | exact (rfl : Nat.land _ _ = _)
    | (extract_lets +onlyGivenNames x
       first
         | (have hx : Fr 536870913 s x := ?_
            (on_goal 1 => clear_value x)
            on_goal 2 => (unfold x; clear x))
         | (have hx : Fr 536870913 s x.2 := ?_
            (on_goal 1 => clear_value x)
            on_goal 2 => (unfold x; clear x))
         | clear_value x)
    | with_reducible apply State.put_frame
    | (simp -zeta -beta -iota only [Fr.mk_iff]; first | refine FrU.upd ?_ rfl | refine FrU.filter _ ?_ rfl)
    | dsimp -zeta only

theorem State.enterSecure_frame {m_ : Nat} {o_ : State} {s : State} {c : Nat} {resume : Nat} (h_ : Fr m_ o_ s) (hm_ : Nat.land 536870913 m_ = 536870913) : Fr m_ o_ (State.enterSecure s c resume) := by
  refine Fr.of h_ hm_ ?_
  clear h_ hm_
  have h_ := Fr.refl 536870913 s
  unfold State.enterSecure
  repeat' first
    | with_reducible assumption
    | exact (rfl : Nat.land _ _ = _)
    | (extract_lets +onlyGivenNames x
       first
         | (have hx : Fr 536870913 s x := ?_
            (on_goal 1 => clear_value x)
            on_goal 2 => (unfold x; clear x))
         | (have hx : Fr 536870913 s x.2 := ?_
            (on_goal 1 => clear_value x)
            on_goal 2 => (unfold x; clear x))
         | clear_value x)
    | with_reducible apply State.switchWorld_frame
    | (simp -zeta -beta -iota only [Fr.mk_iff]; first | refine FrU.upd ?_ rfl | refine FrU.filter _ ?_ rfl)
    | dsimp -zeta only

theorem State.coreException_frame {m_ : Nat} {o_ : State} {s : State} {c : Nat} {e : CoreExc} (h_ : Fr m_ o_ s) (hm_ : Nat.land 536870912 m_ = 536870912) : Fr m_ o_ (State.coreException s c e) := by
  refine Fr.of h_ hm_ ?_
  clear h_ hm_
  have h_ := Fr.refl 536870912 s
  unfold State.coreException
  repeat' first
    | with_reducible assumption
    | exact (rfl : Nat.land _ _ = _)
    | (extract_lets +onlyGivenNames x
       first
         | (have hx : Fr 536870912 s x := ?_
            (on_goal 1 => clear_value x)
            on_goal 2 => (unfold x; clear x))
         | (have hx : Fr 536870912 s x.2 := ?_
            (on_goal 1 => clear_value x)
            on_goal 2 => (unfold x; clear x))
         | clear_value x)
    | (simp -zeta -beta -iota only [Fr.mk_iff]; first | refine FrU.upd ?_ rfl | refine FrU.filter _ ?_ rfl)
    | dsimp -zeta only

theorem execWsw_frame {m_ : Nat} {o_ : State} {core : Nat} {resume : Nat} {s : State} (h_ : Fr m_ o_ s) (hm_ : Nat.land 536870913 m_ = 536870913) : FrO m_ o_ (execWsw core resume s) := by
  refine FrO.of h_ hm_ ?_
  clear h_ hm_
  have h_ := Fr.refl 536870913 s
  unfold execWsw
  repeat' first
    | with_reducible assumption
    | exact (rfl : Nat.land _ _ = _)
    | with_reducible apply State.coreException_frame
    | with_reducible apply State.enterSecure_frame
    | with_reducible apply FrO.next
    | with_reducible refine Fr.ite ?_ ?_
    | with_reducible refine FrO.ite ?_ ?_
    | split

theorem State.takeNormal_frame {m_ : Nat} {o_ : State} {s : State} {c : Nat} (h_ : Fr m_ o_ s) (hm_ : Nat.land 536870913 m_ = 536870913) : Fr m_ o_ (State.takeNormal s c) := by
  refine Fr.of h_ hm_ ?_
  clear h_ hm_
  have h_ := Fr.refl 536870913 s
  unfold State.takeNormal
  repeat' first
    | with_reducible assumption
    | exact (rfl : Nat.land _ _ = _)
    | (extract_lets +onlyGivenNames x
       first
         | (have hx : Fr 536870913 s x := ?_
            (on_goal 1 => clear_value x)
            on_goal 2 => (unfold x; clear x))
         | (have hx : Fr 536870913 s x.2 := ?_
            (on_goal 1 => clear_value x)
            on_goal 2 => (unfold x; clear x))
         | clear_value x)
    | with_reducible refine Fr.foldl _ _ ?_ (fun _ _ _ => ?_)
    | with_reducible apply State.put_frame
    | (simp -zeta -beta -iota only [Fr.mk_iff]; first | refine FrU.upd ?_ rfl | refine FrU.filter _ ?_ rfl)
    | dsimp -zeta only

theorem State.leaveSecure_frame {m_ : Nat} {o_ : State} {s : State} {c : Nat} (h_ : Fr m_ o_ s) (hm_ : Nat.land 672137217 m_ = 672137217) : Fr m_ o_ (State.leaveSecure s c) := by
  refine Fr.of h_ hm_ ?_
  clear h_ hm_
  have h_ := Fr.refl 672137217 s
  unfold State.leaveSecure
  repeat' first
    | with_reducible assumption
    | exact (rfl : Nat.land _ _ = _)
    | (extract_lets +onlyGivenNames x
       first
         | (have hx : Fr 672137217 s x := ?_
            (on_goal 1 => clear_value x)
            on_goal 2 => (unfold x; clear x))
         | (have hx : Fr 672137217 s x.2 := ?_
            (on_goal 1 => clear_value x)
            on_goal 2 => (unfold x; clear x))
         | clear_value x)
    | with_reducible apply State.takeNormal_frame
    | with_reducible apply State.switchWorld_frame
    | with_reducible apply State.gateBegin_frame
    | (simp -zeta -beta -iota only [Fr.mk_iff]; first | refine FrU.upd ?_ rfl | refine FrU.filter _ ?_ rfl)
    | with_reducible refine Fr.ite ?_ ?_
    | with_reducible refine Fr.ite2 ?_ ?_
    | dsimp -zeta only
    | split

theorem execWret_frame {m_ : Nat} {o_ : State} {core : Nat} {s : State} (h_ : Fr m_ o_ s) (hm_ : Nat.land 672137217 m_ = 672137217) : FrO m_ o_ (execWret core s) := by
  refine FrO.of h_ hm_ ?_
  clear h_ hm_
  have h_ := Fr.refl 672137217 s
  unfold execWret
  repeat' first
    | with_reducible assumption
    | exact (rfl : Nat.land _ _ = _)
    | with_reducible apply State.leaveSecure_frame
    | with_reducible apply State.coreException_frame
    | with_reducible apply FrO.next
    | with_reducible refine Fr.ite ?_ ?_
    | with_reducible refine FrO.ite ?_ ?_
    | split

theorem execSecureInterruptTaken_frame {m_ : Nat} {o_ : State} {src : Nat} {resume : Nat} {s : State} (h_ : Fr m_ o_ s) (hm_ : Nat.land 536870913 m_ = 536870913) : FrO m_ o_ (execSecureInterruptTaken src resume s) := by
  refine FrO.of h_ hm_ ?_
  clear h_ hm_
  have h_ := Fr.refl 536870913 s
  unfold execSecureInterruptTaken
  repeat' first
    | with_reducible assumption
    | exact (rfl : Nat.land _ _ = _)
    | (extract_lets +onlyGivenNames x
       first
         | (have hx : Fr 536870913 s x := ?_
            (on_goal 1 => clear_value x)
            on_goal 2 => (unfold x; clear x))
         | (have hx : Fr 536870913 s x.2 := ?_
            (on_goal 1 => clear_value x)
            on_goal 2 => (unfold x; clear x))
         | clear_value x)
    | with_reducible apply State.enterSecure_frame
    | with_reducible apply State.put_frame
    | with_reducible apply FrO.next
    | with_reducible refine Fr.ite ?_ ?_
    | with_reducible refine FrO.ite ?_ ?_
    | dsimp -zeta only
    | split

theorem execWorldSliceExpiry_frame {m_ : Nat} {o_ : State} {src : Nat} {s : State} (h_ : Fr m_ o_ s) (hm_ : Nat.land 671088641 m_ = 671088641) : FrO m_ o_ (execWorldSliceExpiry src s) := by
  refine FrO.of h_ hm_ ?_
  clear h_ hm_
  have h_ := Fr.refl 671088641 s
  unfold execWorldSliceExpiry
  repeat' first
    | with_reducible assumption
    | exact (rfl : Nat.land _ _ = _)
    | (extract_lets +onlyGivenNames x
       first
         | (have hx : Fr 671088641 s x := ?_
            (on_goal 1 => clear_value x)
            on_goal 2 => (unfold x; clear x))
         | (have hx : Fr 671088641 s x.2 := ?_
            (on_goal 1 => clear_value x)
            on_goal 2 => (unfold x; clear x))
         | clear_value x)
    | with_reducible apply State.raiseIrq_frame
    | with_reducible apply FrO.next
    | (simp -zeta -beta -iota only [Fr.mk_iff]; first | refine FrU.upd ?_ rfl | refine FrU.filter _ ?_ rfl)
    | with_reducible refine Fr.ite ?_ ?_
    | with_reducible refine FrO.ite ?_ ?_
    | split

theorem execL2WaysWrite_frame {m_ : Nat} {o_ : State} {mask : Nat} {s : State} (h_ : Fr m_ o_ s) (hm_ : Nat.land 536870913 m_ = 536870913) : FrO m_ o_ (execL2WaysWrite mask s) := by
  refine FrO.of h_ hm_ ?_
  clear h_ hm_
  have h_ := Fr.refl 536870913 s
  unfold execL2WaysWrite
  repeat' first
    | with_reducible assumption
    | exact (rfl : Nat.land _ _ = _)
    | (extract_lets +onlyGivenNames x
       first
         | (have hx : Fr 536870913 s x := ?_
            (on_goal 1 => clear_value x)
            on_goal 2 => (unfold x; clear x))
         | (have hx : Fr 536870913 s x.2 := ?_
            (on_goal 1 => clear_value x)
            on_goal 2 => (unfold x; clear x))
         | clear_value x)
    | with_reducible apply State.putBit_frame
    | with_reducible apply FrO.next
    | (simp -zeta -beta -iota only [Fr.mk_iff]; first | refine FrU.upd ?_ rfl | refine FrU.filter _ ?_ rfl)
    | with_reducible refine Fr.ite ?_ ?_
    | with_reducible refine FrO.ite ?_ ?_
    | dsimp -zeta only
    | split

theorem execL2WayFlushComplete_frame {m_ : Nat} {o_ : State} {s : State} (h_ : Fr m_ o_ s) (hm_ : Nat.land 536870913 m_ = 536870913) : FrO m_ o_ (execL2WayFlushComplete s) := by
  refine FrO.of h_ hm_ ?_
  clear h_ hm_
  have h_ := Fr.refl 536870913 s
  unfold execL2WayFlushComplete
  repeat' first
    | with_reducible assumption
    | exact (rfl : Nat.land _ _ = _)
    | (extract_lets +onlyGivenNames x
       first
         | (have hx : Fr 536870913 s x := ?_
            (on_goal 1 => clear_value x)
            on_goal 2 => (unfold x; clear x))
         | (have hx : Fr 536870913 s x.2 := ?_
            (on_goal 1 => clear_value x)
            on_goal 2 => (unfold x; clear x))
         | clear_value x)
    | with_reducible apply State.putBit_frame
    | with_reducible apply State.put_frame
    | with_reducible apply FrO.next
    | (simp -zeta -beta -iota only [Fr.mk_iff]; first | refine FrU.upd ?_ rfl | refine FrU.filter _ ?_ rfl)
    | dsimp -zeta only
    | split

end Sys2Proof.Machine
end

