-- ==== Sys2Proof/Laws/FramePair.lean ====
section
/-! SUPPORT. Which pieces of State each function of pairing, the life cycle and the management port may change. -/

set_option maxRecDepth 4000
set_option linter.all false

namespace Sys2Proof.Machine

theorem State.modPair_frame {m_ : Nat} {o_ : State} {s : State} {f : PairUnit → PairUnit} (h_ : Fr m_ o_ s) (hm_ : Nat.land 268435456 m_ = 268435456) : Fr m_ o_ (State.modPair s f) := by
  refine Fr.of h_ hm_ ?_
  clear h_ hm_
  have h_ := Fr.refl 268435456 s
  unfold State.modPair
  repeat' first
    | with_reducible assumption
    | exact (rfl : Nat.land _ _ = _)
    | (extract_lets +onlyGivenNames x
       first
         | (have hx : Fr 268435456 s x := ?_
            (on_goal 1 => clear_value x)
            on_goal 2 => (unfold x; clear x))
         | (have hx : Fr 268435456 s x.2 := ?_
            (on_goal 1 => clear_value x)
            on_goal 2 => (unfold x; clear x))
         | clear_value x)
    | (simp -zeta -beta -iota only [Fr.mk_iff]; first | refine FrU.upd ?_ rfl | refine FrU.filter _ ?_ rfl)

theorem State.sendLink_frame {m_ : Nat} {o_ : State} {s : State} {f : LinkFrame} (h_ : Fr m_ o_ s) (hm_ : Nat.land 268435457 m_ = 268435457) : Fr m_ o_ (State.sendLink s f) := by
  refine Fr.of h_ hm_ ?_
  clear h_ hm_
  have h_ := Fr.refl 268435457 s
  unfold State.sendLink
  repeat' first
    | with_reducible assumption
    | exact (rfl : Nat.land _ _ = _)
    | (extract_lets +onlyGivenNames x
       first
         | (have hx : Fr 268435457 s x := ?_
            (on_goal 1 => clear_value x)
            on_goal 2 => (unfold x; clear x))
         | (have hx : Fr 268435457 s x.2 := ?_
            (on_goal 1 => clear_value x)
            on_goal 2 => (unfold x; clear x))
         | clear_value x)
    | with_reducible apply State.put_frame
    | with_reducible apply State.modPair_frame
    | (simp -zeta -beta -iota only [Fr.mk_iff]; first | refine FrU.upd ?_ rfl | refine FrU.filter _ ?_ rfl)
    | with_reducible refine Fr.ite ?_ ?_
    | dsimp -zeta only
    | split

theorem State.countRx_frame {m_ : Nat} {o_ : State} {s : State} (h_ : Fr m_ o_ s) (hm_ : Nat.land 1 m_ = 1) : Fr m_ o_ (State.countRx s) := by
  refine Fr.of h_ hm_ ?_
  clear h_ hm_
  have h_ := Fr.refl 1 s
  unfold State.countRx
  repeat' first
    | with_reducible assumption
    | exact (rfl : Nat.land _ _ = _)
    | with_reducible apply State.put_frame

theorem State.sendClear_frame {m_ : Nat} {o_ : State} {s : State} {type : Nat} {payload : Bytes} (h_ : Fr m_ o_ s) (hm_ : Nat.land 268435457 m_ = 268435457) : Fr m_ o_ (State.sendClear s type payload) := by
  refine Fr.of h_ hm_ ?_
  clear h_ hm_
  have h_ := Fr.refl 268435457 s
  unfold State.sendClear
  repeat' first
    | with_reducible assumption
    | exact (rfl : Nat.land _ _ = _)
    | with_reducible apply State.sendLink_frame

theorem State.sendSealed_frame {m_ : Nat} {o_ : State} {s : State} {type : Nat} {payload : Bytes} (h_ : Fr m_ o_ s) (hm_ : Nat.land 268435457 m_ = 268435457) : Fr m_ o_ (State.sendSealed s type payload) := by
  refine Fr.of h_ hm_ ?_
  clear h_ hm_
  have h_ := Fr.refl 268435457 s
  unfold State.sendSealed
  repeat' first
    | with_reducible assumption
    | exact (rfl : Nat.land _ _ = _)
    | (extract_lets +onlyGivenNames x
       first
         | (have hx : Fr 268435457 s x := ?_
            (on_goal 1 => clear_value x)
            on_goal 2 => (unfold x; clear x))
         | (have hx : Fr 268435457 s x.2 := ?_
            (on_goal 1 => clear_value x)
            on_goal 2 => (unfold x; clear x))
         | clear_value x)
    | with_reducible apply State.sendLink_frame
    | with_reducible apply State.modPair_frame
    | (simp -zeta -beta -iota only [Fr.mk_iff]; first | refine FrU.upd ?_ rfl | refine FrU.filter _ ?_ rfl)
    | with_reducible refine Fr.ite ?_ ?_
    | with_reducible refine Fr.ite2 ?_ ?_
    | dsimp -zeta only
    | split

theorem State.wakePulse_frame {m_ : Nat} {o_ : State} {s : State} (h_ : Fr m_ o_ s) (hm_ : Nat.land 268435456 m_ = 268435456) : Fr m_ o_ (State.wakePulse s) := by
  refine Fr.of h_ hm_ ?_
  clear h_ hm_
  have h_ := Fr.refl 268435456 s
  unfold State.wakePulse
  repeat' first
    | with_reducible assumption
    | exact (rfl : Nat.land _ _ = _)
    | (extract_lets +onlyGivenNames x
       first
         | (have hx : Fr 268435456 s x := ?_
            (on_goal 1 => clear_value x)
            on_goal 2 => (unfold x; clear x))
         | (have hx : Fr 268435456 s x.2 := ?_
            (on_goal 1 => clear_value x)
            on_goal 2 => (unfold x; clear x))
         | clear_value x)
    | with_reducible apply State.modPair_frame
    | (simp -zeta -beta -iota only [Fr.mk_iff]; first | refine FrU.upd ?_ rfl | refine FrU.filter _ ?_ rfl)
    | dsimp -zeta only

theorem State.sendHello_frame {m_ : Nat} {o_ : State} {s : State} (h_ : Fr m_ o_ s) (hm_ : Nat.land 301989893 m_ = 301989893) : Fr m_ o_ (State.sendHello s) := by
  refine Fr.of h_ hm_ ?_
  clear h_ hm_
  have h_ := Fr.refl 301989893 s
  unfold State.sendHello
  repeat' first
    | with_reducible assumption
    | exact (rfl : Nat.land _ _ = _)
    | (extract_lets +onlyGivenNames x
       first
         | (have hx : Fr 301989893 s x := ?_
            (on_goal 1 => clear_value x)
            on_goal 2 => (unfold x; clear x))
         | (have hx : Fr 301989893 s x.2 := ?_
            (on_goal 1 => clear_value x)
            on_goal 2 => (unfold x; clear x))
         | clear_value x)
    | with_reducible apply State.drawBytes_frame
    | refine Fr.pair (by assumption) (State.drawBytes_frame (h_ := ?_) ?_)
    | with_reducible apply State.sendClear_frame
    | with_reducible apply State.modPair_frame
    | with_reducible apply State.put_frame
    | (simp -zeta -beta -iota only [Fr.mk_iff]; first | refine FrU.upd ?_ rfl | refine FrU.filter _ ?_ rfl)
    | with_reducible refine Fr.ite ?_ ?_
    | with_reducible refine Fr.ite2 ?_ ?_
    | dsimp -zeta only
    | split

theorem State.closeLink_frame {m_ : Nat} {o_ : State} {s : State} {code : Nat} {wait : Nat} (h_ : Fr m_ o_ s) (hm_ : Nat.land 268959745 m_ = 268959745) : Fr m_ o_ (State.closeLink s code wait) := by
  refine Fr.of h_ hm_ ?_
  clear h_ hm_
  have h_ := Fr.refl 268959745 s
  unfold State.closeLink
  repeat' first
    | with_reducible assumption
    | exact (rfl : Nat.land _ _ = _)
    | (extract_lets +onlyGivenNames x
       first
         | (have hx : Fr 268959745 s x := ?_
            (on_goal 1 => clear_value x)
            on_goal 2 => (unfold x; clear x))
         | (have hx : Fr 268959745 s x.2 := ?_
            (on_goal 1 => clear_value x)
            on_goal 2 => (unfold x; clear x))
         | clear_value x)
    | with_reducible apply State.put_frame
    | (simp -zeta -beta -iota only [Fr.mk_iff]; first | refine FrU.upd ?_ rfl | refine FrU.filter _ ?_ rfl)
    | dsimp -zeta only

theorem State.useLinkKey_frame {m_ : Nat} {o_ : State} {s : State} {t : Nat} (h_ : Fr m_ o_ s) (hm_ : Nat.land 524288 m_ = 524288) : Fr m_ o_ (State.useLinkKey s t) := by
  refine Fr.of h_ hm_ ?_
  clear h_ hm_
  have h_ := Fr.refl 524288 s
  unfold State.useLinkKey
  repeat' first
    | with_reducible assumption
    | exact (rfl : Nat.land _ _ = _)
    | (extract_lets +onlyGivenNames x
       first
         | (have hx : Fr 524288 s x := ?_
            (on_goal 1 => clear_value x)
            on_goal 2 => (unfold x; clear x))
         | (have hx : Fr 524288 s x.2 := ?_
            (on_goal 1 => clear_value x)
            on_goal 2 => (unfold x; clear x))
         | clear_value x)
    | with_reducible apply State.useRoot_frame
    | (simp -zeta -beta -iota only [Fr.mk_iff]; first | refine FrU.upd ?_ rfl | refine FrU.filter _ ?_ rfl)
    | dsimp -zeta only

theorem State.openLink_frame {m_ : Nat} {o_ : State} {s : State} (h_ : Fr m_ o_ s) (hm_ : Nat.land 268959745 m_ = 268959745) : Fr m_ o_ (State.openLink s) := by
  refine Fr.of h_ hm_ ?_
  clear h_ hm_
  have h_ := Fr.refl 268959745 s
  unfold State.openLink
  repeat' first
    | with_reducible assumption
    | exact (rfl : Nat.land _ _ = _)
    | (extract_lets +onlyGivenNames x
       first
         | (have hx : Fr 268959745 s x := ?_
            (on_goal 1 => clear_value x)
            on_goal 2 => (unfold x; clear x))
         | (have hx : Fr 268959745 s x.2 := ?_
            (on_goal 1 => clear_value x)
            on_goal 2 => (unfold x; clear x))
         | clear_value x)
    | with_reducible apply State.closeLink_frame
    | with_reducible apply State.sendSealed_frame
    | with_reducible apply State.modPair_frame
    | with_reducible apply State.useLinkKey_frame
    | (simp -zeta -beta -iota only [Fr.mk_iff]; first | refine FrU.upd ?_ rfl | refine FrU.filter _ ?_ rfl)
    | with_reducible refine Fr.ite ?_ ?_
    | with_reducible refine Fr.ite2 ?_ ?_
    | dsimp -zeta only
    | split

theorem execHello_frame {m_ : Nat} {o_ : State} {h : HelloData} {s : State} (h_ : Fr m_ o_ s) (hm_ : Nat.land 268959745 m_ = 268959745) : FrO m_ o_ (execHello h s) := by
  refine FrO.of h_ hm_ ?_
  clear h_ hm_
  have h_ := Fr.refl 268959745 s
  unfold execHello
  repeat' first
    | with_reducible assumption
    | exact (rfl : Nat.land _ _ = _)
    | (extract_lets +onlyGivenNames x
       first
         | (have hx : Fr 268959745 s x := ?_
            (on_goal 1 => clear_value x)
            on_goal 2 => (unfold x; clear x))
         | (have hx : Fr 268959745 s x.2 := ?_
            (on_goal 1 => clear_value x)
            on_goal 2 => (unfold x; clear x))
         | clear_value x)
    | with_reducible apply State.modPair_frame
    | with_reducible apply State.countRx_frame
    | with_reducible apply State.openLink_frame
    | with_reducible apply FrO.next
    | (simp -zeta -beta -iota only [Fr.mk_iff]; first | refine FrU.upd ?_ rfl | refine FrU.filter _ ?_ rfl)
    | with_reducible refine Fr.ite ?_ ?_
    | with_reducible refine FrO.ite ?_ ?_
    | dsimp -zeta only
    | split

theorem execHelloRetry_frame {m_ : Nat} {o_ : State} {s : State} (h_ : Fr m_ o_ s) (hm_ : Nat.land 302514181 m_ = 302514181) : FrO m_ o_ (execHelloRetry s) := by
  refine FrO.of h_ hm_ ?_
  clear h_ hm_
  have h_ := Fr.refl 302514181 s
  unfold execHelloRetry
  repeat' first
    | with_reducible assumption
    | exact (rfl : Nat.land _ _ = _)
    | with_reducible apply State.openLink_frame
    | with_reducible apply State.sendHello_frame
    | with_reducible apply FrO.next
    | with_reducible refine Fr.ite ?_ ?_
    | with_reducible refine FrO.ite ?_ ?_
    | split

theorem State.noteTag_frame {m_ : Nat} {o_ : State} {s : State} (h_ : Fr m_ o_ s) (hm_ : Nat.land 1 m_ = 1) : Fr m_ o_ (State.noteTag s) := by
  refine Fr.of h_ hm_ ?_
  clear h_ hm_
  have h_ := Fr.refl 1 s
  unfold State.noteTag
  repeat' first
    | with_reducible assumption
    | exact (rfl : Nat.land _ _ = _)
    | with_reducible apply State.count_frame
    | with_reducible apply State.putBit_frame

theorem State.tagFailed_frame {m_ : Nat} {o_ : State} {s : State} (h_ : Fr m_ o_ s) (hm_ : Nat.land 268959745 m_ = 268959745) : Fr m_ o_ (State.tagFailed s) := by
  refine Fr.of h_ hm_ ?_
  clear h_ hm_
  have h_ := Fr.refl 268959745 s
  unfold State.tagFailed
  repeat' first
    | with_reducible assumption
    | exact (rfl : Nat.land _ _ = _)
    | (extract_lets +onlyGivenNames x
       first
         | (have hx : Fr 268959745 s x := ?_
            (on_goal 1 => clear_value x)
            on_goal 2 => (unfold x; clear x))
         | (have hx : Fr 268959745 s x.2 := ?_
            (on_goal 1 => clear_value x)
            on_goal 2 => (unfold x; clear x))
         | clear_value x)
    | with_reducible apply State.noteTag_frame
    | with_reducible apply State.closeLink_frame
    | with_reducible apply State.modPair_frame
    | (simp -zeta -beta -iota only [Fr.mk_iff]; first | refine FrU.upd ?_ rfl | refine FrU.filter _ ?_ rfl)
    | with_reducible refine Fr.ite ?_ ?_
    | dsimp -zeta only
    | split

theorem State.seqFailed_frame {m_ : Nat} {o_ : State} {s : State} (h_ : Fr m_ o_ s) (hm_ : Nat.land 268435457 m_ = 268435457) : Fr m_ o_ (State.seqFailed s) := by
  refine Fr.of h_ hm_ ?_
  clear h_ hm_
  have h_ := Fr.refl 268435457 s
  unfold State.seqFailed
  repeat' first
    | with_reducible assumption
    | exact (rfl : Nat.land _ _ = _)
    | (extract_lets +onlyGivenNames x
       first
         | (have hx : Fr 268435457 s x := ?_
            (on_goal 1 => clear_value x)
            on_goal 2 => (unfold x; clear x))
         | (have hx : Fr 268435457 s x.2 := ?_
            (on_goal 1 => clear_value x)
            on_goal 2 => (unfold x; clear x))
         | clear_value x)
    | with_reducible apply State.modPair_frame
    | with_reducible apply State.putBit_frame
    | (simp -zeta -beta -iota only [Fr.mk_iff]; first | refine FrU.upd ?_ rfl | refine FrU.filter _ ?_ rfl)
    | dsimp -zeta only

theorem State.frame_frame {m_ : Nat} {o_ : State} {s : State} {type : Nat} {payload : Bytes} {f : FrameHead} (h_ : Fr m_ o_ s) (hm_ : Nat.land 268959745 m_ = 268959745) : Fr m_ o_ (State.frame s type payload f).2 := by
  refine Fr.of h_ hm_ ?_
  clear h_ hm_
  have h_ := Fr.refl 268959745 s
  unfold State.frame
  repeat' first
    | with_reducible assumption
    | exact (rfl : Nat.land _ _ = _)
    | (extract_lets +onlyGivenNames x
       first
         | (have hx : Fr 268959745 s x := ?_
            (on_goal 1 => clear_value x)
            on_goal 2 => (unfold x; clear x))
         | (have hx : Fr 268959745 s x.2 := ?_
            (on_goal 1 => clear_value x)
            on_goal 2 => (unfold x; clear x))
         | clear_value x)
    | with_reducible apply State.seqFailed_frame
    | with_reducible apply State.tagFailed_frame
    | with_reducible apply State.countRx_frame
    | with_reducible apply State.modPair_frame
    | (simp -zeta -beta -iota only [Fr.mk_iff]; first | refine FrU.upd ?_ rfl | refine FrU.filter _ ?_ rfl)
    | with_reducible refine Fr.ite ?_ ?_
    | with_reducible refine Fr.ite2 ?_ ?_
    | dsimp -zeta only
    | split

theorem State.upFrame_frame {m_ : Nat} {o_ : State} {s : State} {type : Nat} {payload : Bytes} {f : FrameHead} (h_ : Fr m_ o_ s) (hm_ : Nat.land 268959745 m_ = 268959745) : Fr m_ o_ (State.upFrame s type payload f).2 := by
  refine Fr.of h_ hm_ ?_
  clear h_ hm_
  have h_ := Fr.refl 268959745 s
  unfold State.upFrame
  repeat' first
    | with_reducible assumption
    | exact (rfl : Nat.land _ _ = _)
    | with_reducible apply State.frame_frame
    | with_reducible refine Fr.ite ?_ ?_
    | with_reducible refine Fr.ite2 ?_ ?_
    | split

theorem execConfirm_frame {m_ : Nat} {o_ : State} {f : FrameHead} {nonces : Bytes} {s : State} (h_ : Fr m_ o_ s) (hm_ : Nat.land 268967937 m_ = 268967937) : FrO m_ o_ (execConfirm f nonces s) := by
  refine FrO.of h_ hm_ ?_
  clear h_ hm_
  have h_ := Fr.refl 268967937 s
  unfold execConfirm
  repeat' first
    | with_reducible assumption
    | exact (rfl : Nat.land _ _ = _)
    | (extract_lets +onlyGivenNames x
       first
         | (have hx : Fr 268967937 s x := ?_
            (on_goal 1 => clear_value x)
            on_goal 2 => (unfold x; clear x))
         | (have hx : Fr 268967937 s x.2 := ?_
            (on_goal 1 => clear_value x)
            on_goal 2 => (unfold x; clear x))
         | clear_value x)
    | with_reducible apply State.seqFailed_frame
    | with_reducible apply State.event_frame
    | with_reducible apply State.closeLink_frame
    | with_reducible apply State.noteTag_frame
    | with_reducible apply State.frame_frame
    | refine Fr.pair (by assumption) (State.frame_frame (h_ := ?_) ?_)
    | with_reducible apply State.put_frame
    | with_reducible apply State.modPair_frame
    | with_reducible apply State.sendSealed_frame
    | with_reducible apply FrO.next
    | (simp -zeta -beta -iota only [Fr.mk_iff]; first | refine FrU.upd ?_ rfl | refine FrU.filter _ ?_ rfl)
    | with_reducible refine Fr.ite ?_ ?_
    | with_reducible refine Fr.ite2 ?_ ?_
    | with_reducible refine FrO.ite ?_ ?_
    | dsimp -zeta only
    | split

theorem execKeepalive_frame {m_ : Nat} {o_ : State} {f : FrameHead} {role : Nat} {s : State} (h_ : Fr m_ o_ s) (hm_ : Nat.land 268959745 m_ = 268959745) : FrO m_ o_ (execKeepalive f role s) := by
  refine FrO.of h_ hm_ ?_
  clear h_ hm_
  have h_ := Fr.refl 268959745 s
  unfold execKeepalive
  repeat' first
    | with_reducible assumption
    | exact (rfl : Nat.land _ _ = _)
    | (extract_lets +onlyGivenNames x
       first
         | (have hx : Fr 268959745 s x := ?_
            (on_goal 1 => clear_value x)
            on_goal 2 => (unfold x; clear x))
         | (have hx : Fr 268959745 s x.2 := ?_
            (on_goal 1 => clear_value x)
            on_goal 2 => (unfold x; clear x))
         | clear_value x)
    | with_reducible apply State.upFrame_frame
    | refine Fr.pair (by assumption) (State.upFrame_frame (h_ := ?_) ?_)
    | with_reducible apply State.modPair_frame
    | with_reducible apply FrO.next
    | (simp -zeta -beta -iota only [Fr.mk_iff]; first | refine FrU.upd ?_ rfl | refine FrU.filter _ ?_ rfl)
    | with_reducible refine Fr.ite ?_ ?_
    | with_reducible refine Fr.ite2 ?_ ?_
    | with_reducible refine FrO.ite ?_ ?_
    | dsimp -zeta only
    | split

theorem execKeepaliveSendTimer_frame {m_ : Nat} {o_ : State} {s : State} (h_ : Fr m_ o_ s) (hm_ : Nat.land 268435457 m_ = 268435457) : FrO m_ o_ (execKeepaliveSendTimer s) := by
  refine FrO.of h_ hm_ ?_
  clear h_ hm_
  have h_ := Fr.refl 268435457 s
  unfold execKeepaliveSendTimer
  repeat' first
    | with_reducible assumption
    | exact (rfl : Nat.land _ _ = _)
    | (extract_lets +onlyGivenNames x
       first
         | (have hx : Fr 268435457 s x := ?_
            (on_goal 1 => clear_value x)
            on_goal 2 => (unfold x; clear x))
         | (have hx : Fr 268435457 s x.2 := ?_
            (on_goal 1 => clear_value x)
            on_goal 2 => (unfold x; clear x))
         | clear_value x)
    | with_reducible apply State.sendSealed_frame
    | with_reducible apply State.modPair_frame
    | with_reducible apply FrO.next
    | (simp -zeta -beta -iota only [Fr.mk_iff]; first | refine FrU.upd ?_ rfl | refine FrU.filter _ ?_ rfl)
    | with_reducible refine Fr.ite ?_ ?_
    | with_reducible refine FrO.ite ?_ ?_
    | dsimp -zeta only
    | split

theorem execFlallaniSessionTimeout_frame {m_ : Nat} {o_ : State} {s : State} (h_ : Fr m_ o_ s) (hm_ : Nat.land 268959745 m_ = 268959745) : FrO m_ o_ (execFlallaniSessionTimeout s) := by
  refine FrO.of h_ hm_ ?_
  clear h_ hm_
  have h_ := Fr.refl 268959745 s
  unfold execFlallaniSessionTimeout
  repeat' first
    | with_reducible assumption
    | exact (rfl : Nat.land _ _ = _)
    | with_reducible apply State.closeLink_frame
    | with_reducible apply FrO.next
    | with_reducible refine Fr.ite ?_ ?_
    | with_reducible refine FrO.ite ?_ ?_
    | split

theorem execFllRxSyncAcquired_frame {m_ : Nat} {o_ : State} {s : State} (h_ : Fr m_ o_ s) (hm_ : Nat.land 1 m_ = 1) : FrO m_ o_ (execFllRxSyncAcquired s) := by
  refine FrO.of h_ hm_ ?_
  clear h_ hm_
  have h_ := Fr.refl 1 s
  unfold execFllRxSyncAcquired
  repeat' first
    | with_reducible assumption
    | exact (rfl : Nat.land _ _ = _)
    | with_reducible apply State.putBit_frame
    | with_reducible apply FrO.next

theorem execFllLostSync_frame {m_ : Nat} {o_ : State} {s : State} (h_ : Fr m_ o_ s) (hm_ : Nat.land 1 m_ = 1) : FrO m_ o_ (execFllLostSync s) := by
  refine FrO.of h_ hm_ ?_
  clear h_ hm_
  have h_ := Fr.refl 1 s
  unfold execFllLostSync
  repeat' first
    | with_reducible assumption
    | exact (rfl : Nat.land _ _ = _)
    | with_reducible apply State.putBit_frame
    | with_reducible apply FrO.next

theorem execHeadReq_frame {m_ : Nat} {o_ : State} {f : FrameHead} {s : State} (h_ : Fr m_ o_ s) (hm_ : Nat.land 268959745 m_ = 268959745) : FrO m_ o_ (execHeadReq f s) := by
  refine FrO.of h_ hm_ ?_
  clear h_ hm_
  have h_ := Fr.refl 268959745 s
  unfold execHeadReq
  repeat' first
    | with_reducible assumption
    | exact (rfl : Nat.land _ _ = _)
    | (extract_lets +onlyGivenNames x
       first
         | (have hx : Fr 268959745 s x := ?_
            (on_goal 1 => clear_value x)
            on_goal 2 => (unfold x; clear x))
         | (have hx : Fr 268959745 s x.2 := ?_
            (on_goal 1 => clear_value x)
            on_goal 2 => (unfold x; clear x))
         | clear_value x)
    | with_reducible apply State.upFrame_frame
    | refine Fr.pair (by assumption) (State.upFrame_frame (h_ := ?_) ?_)
    | with_reducible apply State.sendSealed_frame
    | with_reducible apply FrO.next
    | with_reducible refine Fr.ite ?_ ?_
    | with_reducible refine Fr.ite2 ?_ ?_
    | with_reducible refine FrO.ite ?_ ?_
    | dsimp -zeta only
    | split

theorem execHead_frame {m_ : Nat} {o_ : State} {f : FrameHead} {bead : Nat} {hash : Bytes} {gen : Nat} {visit : Bool} {s : State} (h_ : Fr m_ o_ s) (hm_ : Nat.land 1483218945 m_ = 1483218945) : FrO m_ o_ (execHead f bead hash gen visit s) := by
  refine FrO.of h_ hm_ ?_
  clear h_ hm_
  have h_ := Fr.refl 1483218945 s
  unfold execHead
  repeat' first
    | with_reducible assumption
    | exact (rfl : Nat.land _ _ = _)
    | (extract_lets +onlyGivenNames x
       first
         | (have hx : Fr 1483218945 s x := ?_
            (on_goal 1 => clear_value x)
            on_goal 2 => (unfold x; clear x))
         | (have hx : Fr 1483218945 s x.2 := ?_
            (on_goal 1 => clear_value x)
            on_goal 2 => (unfold x; clear x))
         | clear_value x)
    | with_reducible apply State.upFrame_frame
    | refine Fr.pair (by assumption) (State.upFrame_frame (h_ := ?_) ?_)
    | with_reducible apply State.modPair_frame
    | with_reducible apply State.beginSleep_frame
    | with_reducible apply State.sendSealed_frame
    | with_reducible apply FrO.next
    | (simp -zeta -beta -iota only [Fr.mk_iff]; first | refine FrU.upd ?_ rfl | refine FrU.filter _ ?_ rfl)
    | with_reducible refine Fr.ite ?_ ?_
    | with_reducible refine Fr.ite2 ?_ ?_
    | with_reducible refine FrO.ite ?_ ?_
    | dsimp -zeta only
    | split

theorem execVisitDone_frame {m_ : Nat} {o_ : State} {f : FrameHead} {bead : Nat} {s : State} (h_ : Fr m_ o_ s) (hm_ : Nat.land 268959745 m_ = 268959745) : FrO m_ o_ (execVisitDone f bead s) := by
  refine FrO.of h_ hm_ ?_
  clear h_ hm_
  have h_ := Fr.refl 268959745 s
  unfold execVisitDone
  repeat' first
    | with_reducible assumption
    | exact (rfl : Nat.land _ _ = _)
    | (extract_lets +onlyGivenNames x
       first
         | (have hx : Fr 268959745 s x := ?_
            (on_goal 1 => clear_value x)
            on_goal 2 => (unfold x; clear x))
         | (have hx : Fr 268959745 s x.2 := ?_
            (on_goal 1 => clear_value x)
            on_goal 2 => (unfold x; clear x))
         | clear_value x)
    | with_reducible apply State.upFrame_frame
    | refine Fr.pair (by assumption) (State.upFrame_frame (h_ := ?_) ?_)
    | with_reducible apply State.modPair_frame
    | with_reducible apply FrO.next
    | (simp -zeta -beta -iota only [Fr.mk_iff]; first | refine FrU.upd ?_ rfl | refine FrU.filter _ ?_ rfl)
    | with_reducible refine Fr.ite ?_ ?_
    | with_reducible refine Fr.ite2 ?_ ?_
    | with_reducible refine FrO.ite ?_ ?_
    | dsimp -zeta only
    | split

theorem execResyncVisitDue_frame {m_ : Nat} {o_ : State} {s : State} (h_ : Fr m_ o_ s) (hm_ : Nat.land 268435456 m_ = 268435456) : FrO m_ o_ (execResyncVisitDue s) := by
  refine FrO.of h_ hm_ ?_
  clear h_ hm_
  have h_ := Fr.refl 268435456 s
  unfold execResyncVisitDue
  repeat' first
    | with_reducible assumption
    | exact (rfl : Nat.land _ _ = _)
    | (extract_lets +onlyGivenNames x
       first
         | (have hx : Fr 268435456 s x := ?_
            (on_goal 1 => clear_value x)
            on_goal 2 => (unfold x; clear x))
         | (have hx : Fr 268435456 s x.2 := ?_
            (on_goal 1 => clear_value x)
            on_goal 2 => (unfold x; clear x))
         | clear_value x)
    | with_reducible apply State.wakePulse_frame
    | with_reducible apply State.modPair_frame
    | with_reducible apply FrO.next
    | (simp -zeta -beta -iota only [Fr.mk_iff]; first | refine FrU.upd ?_ rfl | refine FrU.filter _ ?_ rfl)
    | with_reducible refine Fr.ite ?_ ?_
    | with_reducible refine FrO.ite ?_ ?_
    | dsimp -zeta only
    | split

theorem execVisitTimeout_frame {m_ : Nat} {o_ : State} {s : State} (h_ : Fr m_ o_ s) (hm_ : Nat.land 268443649 m_ = 268443649) : FrO m_ o_ (execVisitTimeout s) := by
  refine FrO.of h_ hm_ ?_
  clear h_ hm_
  have h_ := Fr.refl 268443649 s
  unfold execVisitTimeout
  repeat' first
    | with_reducible assumption
    | exact (rfl : Nat.land _ _ = _)
    | (extract_lets +onlyGivenNames x
       first
         | (have hx : Fr 268443649 s x := ?_
            (on_goal 1 => clear_value x)
            on_goal 2 => (unfold x; clear x))
         | (have hx : Fr 268443649 s x.2 := ?_
            (on_goal 1 => clear_value x)
            on_goal 2 => (unfold x; clear x))
         | clear_value x)
    | with_reducible apply State.modPair_frame
    | with_reducible apply State.event_frame
    | with_reducible apply FrO.next
    | (simp -zeta -beta -iota only [Fr.mk_iff]; first | refine FrU.upd ?_ rfl | refine FrU.filter _ ?_ rfl)
    | with_reducible refine Fr.ite ?_ ?_
    | with_reducible refine Fr.ite2 ?_ ?_
    | with_reducible refine FrO.ite ?_ ?_
    | dsimp -zeta only
    | split

theorem execFllWake_frame {m_ : Nat} {o_ : State} {s : State} (h_ : Fr m_ o_ s) (hm_ : Nat.land 268435456 m_ = 268435456) : FrO m_ o_ (execFllWake s) := by
  refine FrO.of h_ hm_ ?_
  clear h_ hm_
  have h_ := Fr.refl 268435456 s
  unfold execFllWake
  repeat' first
    | with_reducible assumption
    | exact (rfl : Nat.land _ _ = _)
    | with_reducible apply State.wakePulse_frame
    | with_reducible apply FrO.next

theorem State.handover_frame {m_ : Nat} {o_ : State} {s : State} (h_ : Fr m_ o_ s) (hm_ : Nat.land 16384 m_ = 16384) : Fr m_ o_ (State.handover s) := by
  refine Fr.of h_ hm_ ?_
  clear h_ hm_
  have h_ := Fr.refl 16384 s
  unfold State.handover
  repeat' first
    | with_reducible assumption
    | exact (rfl : Nat.land _ _ = _)
    | (extract_lets +onlyGivenNames x
       first
         | (have hx : Fr 16384 s x := ?_
            (on_goal 1 => clear_value x)
            on_goal 2 => (unfold x; clear x))
         | (have hx : Fr 16384 s x.2 := ?_
            (on_goal 1 => clear_value x)
            on_goal 2 => (unfold x; clear x))
         | clear_value x)
    | (simp -zeta -beta -iota only [Fr.mk_iff]; first | refine FrU.upd ?_ rfl | refine FrU.filter _ ?_ rfl)

theorem State.sendPass_frame {m_ : Nat} {o_ : State} {s : State} (h_ : Fr m_ o_ s) (hm_ : Nat.land 268435457 m_ = 268435457) : Fr m_ o_ (State.sendPass s) := by
  refine Fr.of h_ hm_ ?_
  clear h_ hm_
  have h_ := Fr.refl 268435457 s
  unfold State.sendPass
  repeat' first
    | with_reducible assumption
    | exact (rfl : Nat.land _ _ = _)
    | (extract_lets +onlyGivenNames x
       first
         | (have hx : Fr 268435457 s x := ?_
            (on_goal 1 => clear_value x)
            on_goal 2 => (unfold x; clear x))
         | (have hx : Fr 268435457 s x.2 := ?_
            (on_goal 1 => clear_value x)
            on_goal 2 => (unfold x; clear x))
         | clear_value x)
    | with_reducible apply State.sendSealed_frame
    | with_reducible apply State.modPair_frame
    | (simp -zeta -beta -iota only [Fr.mk_iff]; first | refine FrU.upd ?_ rfl | refine FrU.filter _ ?_ rfl)
    | dsimp -zeta only
    | split

theorem execHandoverComplete_frame {m_ : Nat} {o_ : State} {s : State} (h_ : Fr m_ o_ s) (hm_ : Nat.land 285229073 m_ = 285229073) : FrO m_ o_ (execHandoverComplete s) := by
  refine FrO.of h_ hm_ ?_
  clear h_ hm_
  have h_ := Fr.refl 285229073 s
  unfold execHandoverComplete
  repeat' first
    | with_reducible assumption
    | exact (rfl : Nat.land _ _ = _)
    | (extract_lets +onlyGivenNames x
       first
         | (have hx : Fr 285229073 s x := ?_
            (on_goal 1 => clear_value x)
            on_goal 2 => (unfold x; clear x))
         | (have hx : Fr 285229073 s x.2 := ?_
            (on_goal 1 => clear_value x)
            on_goal 2 => (unfold x; clear x))
         | clear_value x)
    | with_reducible apply State.putBit_frame
    | with_reducible apply State.setActive_frame
    | with_reducible apply State.showRing_frame
    | with_reducible apply State.showStrand_frame
    | with_reducible apply State.refreshDeviceState_frame
    | with_reducible apply State.sendPass_frame
    | with_reducible apply State.modPair_frame
    | with_reducible apply FrO.next
    | (simp -zeta -beta -iota only [Fr.mk_iff]; first | refine FrU.upd ?_ rfl | refine FrU.filter _ ?_ rfl)
    | with_reducible refine Fr.ite ?_ ?_
    | with_reducible refine Fr.ite2 ?_ ?_
    | with_reducible refine FrO.ite ?_ ?_
    | dsimp -zeta only
    | split

theorem execClaspPassResend_frame {m_ : Nat} {o_ : State} {s : State} (h_ : Fr m_ o_ s) (hm_ : Nat.land 268435457 m_ = 268435457) : FrO m_ o_ (execClaspPassResend s) := by
  refine FrO.of h_ hm_ ?_
  clear h_ hm_
  have h_ := Fr.refl 268435457 s
  unfold execClaspPassResend
  repeat' first
    | with_reducible assumption
    | exact (rfl : Nat.land _ _ = _)
    | with_reducible apply State.sendPass_frame
    | with_reducible apply FrO.next
    | with_reducible refine Fr.ite ?_ ?_
    | with_reducible refine FrO.ite ?_ ?_
    | split

theorem execClaspAck_frame {m_ : Nat} {o_ : State} {f : FrameHead} {gen : Nat} {s : State} (h_ : Fr m_ o_ s) (hm_ : Nat.land 268959745 m_ = 268959745) : FrO m_ o_ (execClaspAck f gen s) := by
  refine FrO.of h_ hm_ ?_
  clear h_ hm_
  have h_ := Fr.refl 268959745 s
  unfold execClaspAck
  repeat' first
    | with_reducible assumption
    | exact (rfl : Nat.land _ _ = _)
    | (extract_lets +onlyGivenNames x
       first
         | (have hx : Fr 268959745 s x := ?_
            (on_goal 1 => clear_value x)
            on_goal 2 => (unfold x; clear x))
         | (have hx : Fr 268959745 s x.2 := ?_
            (on_goal 1 => clear_value x)
            on_goal 2 => (unfold x; clear x))
         | clear_value x)
    | with_reducible apply State.upFrame_frame
    | refine Fr.pair (by assumption) (State.upFrame_frame (h_ := ?_) ?_)
    | with_reducible apply State.modPair_frame
    | with_reducible apply FrO.next
    | (simp -zeta -beta -iota only [Fr.mk_iff]; first | refine FrU.upd ?_ rfl | refine FrU.filter _ ?_ rfl)
    | with_reducible refine Fr.ite ?_ ?_
    | with_reducible refine Fr.ite2 ?_ ?_
    | with_reducible refine FrO.ite ?_ ?_
    | dsimp -zeta only
    | split

theorem execClaspNak_frame {m_ : Nat} {o_ : State} {f : FrameHead} {reason : Nat} {s : State} (h_ : Fr m_ o_ s) (hm_ : Nat.land 268959745 m_ = 268959745) : FrO m_ o_ (execClaspNak f reason s) := by
  refine FrO.of h_ hm_ ?_
  clear h_ hm_
  have h_ := Fr.refl 268959745 s
  unfold execClaspNak
  repeat' first
    | with_reducible assumption
    | exact (rfl : Nat.land _ _ = _)
    | with_reducible apply State.upFrame_frame
    | refine Fr.pair (by assumption) (State.upFrame_frame (h_ := ?_) ?_)
    | with_reducible apply FrO.next
    | dsimp -zeta only

theorem execReady_frame {m_ : Nat} {o_ : State} {f : FrameHead} {head : Nat} {gen : Nat} {s : State} (h_ : Fr m_ o_ s) (hm_ : Nat.land 268959745 m_ = 268959745) : FrO m_ o_ (execReady f head gen s) := by
  refine FrO.of h_ hm_ ?_
  clear h_ hm_
  have h_ := Fr.refl 268959745 s
  unfold execReady
  repeat' first
    | with_reducible assumption
    | exact (rfl : Nat.land _ _ = _)
    | (extract_lets +onlyGivenNames x
       first
         | (have hx : Fr 268959745 s x := ?_
            (on_goal 1 => clear_value x)
            on_goal 2 => (unfold x; clear x))
         | (have hx : Fr 268959745 s x.2 := ?_
            (on_goal 1 => clear_value x)
            on_goal 2 => (unfold x; clear x))
         | clear_value x)
    | with_reducible apply State.upFrame_frame
    | refine Fr.pair (by assumption) (State.upFrame_frame (h_ := ?_) ?_)
    | with_reducible apply State.modPair_frame
    | with_reducible apply FrO.next
    | (simp -zeta -beta -iota only [Fr.mk_iff]; first | refine FrU.upd ?_ rfl | refine FrU.filter _ ?_ rfl)
    | with_reducible refine Fr.ite ?_ ?_
    | with_reducible refine Fr.ite2 ?_ ?_
    | with_reducible refine FrO.ite ?_ ?_
    | dsimp -zeta only
    | split

theorem execClaspPass_frame {m_ : Nat} {o_ : State} {f : FrameHead} {gen : Nat} {final : Nat} {hash : Bytes} {s : State} (h_ : Fr m_ o_ s) (hm_ : Nat.land 331345653 m_ = 331345653) : FrO m_ o_ (execClaspPass f gen final hash s) := by
  refine FrO.of h_ hm_ ?_
  clear h_ hm_
  have h_ := Fr.refl 331345653 s
  unfold execClaspPass
  repeat' first
    | with_reducible assumption
    | exact (rfl : Nat.land _ _ = _)
    | (extract_lets +onlyGivenNames x
       first
         | (have hx : Fr 331345653 s x := ?_
            (on_goal 1 => clear_value x)
            on_goal 2 => (unfold x; clear x))
         | (have hx : Fr 331345653 s x.2 := ?_
            (on_goal 1 => clear_value x)
            on_goal 2 => (unfold x; clear x))
         | clear_value x)
    | with_reducible apply State.upFrame_frame
    | refine Fr.pair (by assumption) (State.upFrame_frame (h_ := ?_) ?_)
    | with_reducible apply State.sendSealed_frame
    | with_reducible apply State.grantClasp_frame
    | with_reducible apply FrO.next
    | with_reducible refine Fr.ite ?_ ?_
    | with_reducible refine Fr.ite2 ?_ ?_
    | with_reducible refine FrO.ite ?_ ?_
    | dsimp -zeta only
    | split

theorem State.appendStart_frame {m_ : Nat} {o_ : State} {s : State} {items : List StrandItem} (h_ : Fr m_ o_ s) (hm_ : Nat.land 268492801 m_ = 268492801) : Fr m_ o_ (State.appendStart s items) := by
  refine Fr.of h_ hm_ ?_
  clear h_ hm_
  have h_ := Fr.refl 268492801 s
  unfold State.appendStart
  repeat' first
    | with_reducible assumption
    | exact (rfl : Nat.land _ _ = _)
    | (extract_lets +onlyGivenNames x
       first
         | (have hx : Fr 268492801 s x := ?_
            (on_goal 1 => clear_value x)
            on_goal 2 => (unfold x; clear x))
         | (have hx : Fr 268492801 s x.2 := ?_
            (on_goal 1 => clear_value x)
            on_goal 2 => (unfold x; clear x))
         | clear_value x)
    | with_reducible refine Fr.foldl _ _ ?_ (fun _ _ _ => ?_)
    | with_reducible apply State.sendSealed_frame
    | with_reducible apply State.event_frame
    | (simp -zeta -beta -iota only [Fr.mk_iff]; first | refine FrU.upd ?_ rfl | refine FrU.filter _ ?_ rfl)
    | with_reducible refine Fr.ite ?_ ?_
    | with_reducible refine Fr.ite2 ?_ ?_
    | dsimp -zeta only
    | split

theorem State.pairFail_frame {m_ : Nat} {o_ : State} {s : State} {type : Nat} (h_ : Fr m_ o_ s) (hm_ : Nat.land 268443649 m_ = 268443649) : Fr m_ o_ (State.pairFail s type) := by
  refine Fr.of h_ hm_ ?_
  clear h_ hm_
  have h_ := Fr.refl 268443649 s
  unfold State.pairFail
  repeat' first
    | with_reducible assumption
    | exact (rfl : Nat.land _ _ = _)
    | (extract_lets +onlyGivenNames x
       first
         | (have hx : Fr 268443649 s x := ?_
            (on_goal 1 => clear_value x)
            on_goal 2 => (unfold x; clear x))
         | (have hx : Fr 268443649 s x.2 := ?_
            (on_goal 1 => clear_value x)
            on_goal 2 => (unfold x; clear x))
         | clear_value x)
    | with_reducible apply State.event_frame
    | with_reducible apply State.modPair_frame
    | (simp -zeta -beta -iota only [Fr.mk_iff]; first | refine FrU.upd ?_ rfl | refine FrU.filter _ ?_ rfl)
    | dsimp -zeta only

theorem State.domainCreateEffect_frame {m_ : Nat} {o_ : State} {s : State} (h_ : Fr m_ o_ s) (hm_ : Nat.land 1048577 m_ = 1048577) : Fr m_ o_ (State.domainCreateEffect s) := by
  refine Fr.of h_ hm_ ?_
  clear h_ hm_
  have h_ := Fr.refl 1048577 s
  unfold State.domainCreateEffect
  repeat' first
    | with_reducible assumption
    | exact (rfl : Nat.land _ _ = _)
    | (extract_lets +onlyGivenNames x
       first
         | (have hx : Fr 1048577 s x := ?_
            (on_goal 1 => clear_value x)
            on_goal 2 => (unfold x; clear x))
         | (have hx : Fr 1048577 s x.2 := ?_
            (on_goal 1 => clear_value x)
            on_goal 2 => (unfold x; clear x))
         | clear_value x)
    | with_reducible apply State.idleToPinWait_frame
    | (simp -zeta -beta -iota only [Fr.mk_iff]; first | refine FrU.upd ?_ rfl | refine FrU.filter _ ?_ rfl)

theorem State.installPair_frame {m_ : Nat} {o_ : State} {s : State} {secret : Bytes} {domain : Nat} {paired : Bool} (h_ : Fr m_ o_ s) (hm_ : Nat.land 4718593 m_ = 4718593) : Fr m_ o_ (State.installPair s secret domain paired) := by
  refine Fr.of h_ hm_ ?_
  clear h_ hm_
  have h_ := Fr.refl 4718593 s
  unfold State.installPair
  repeat' first
    | with_reducible assumption
    | exact (rfl : Nat.land _ _ = _)
    | (extract_lets +onlyGivenNames x
       first
         | (have hx : Fr 4718593 s x := ?_
            (on_goal 1 => clear_value x)
            on_goal 2 => (unfold x; clear x))
         | (have hx : Fr 4718593 s x.2 := ?_
            (on_goal 1 => clear_value x)
            on_goal 2 => (unfold x; clear x))
         | clear_value x)
    | with_reducible apply State.computePairSeed_frame
    | (simp -zeta -beta -iota only [Fr.mk_iff]; first | refine FrU.upd ?_ rfl | refine FrU.filter _ ?_ rfl)
    | with_reducible refine Fr.ite ?_ ?_
    | split

theorem State.finishCreate_frame {m_ : Nat} {o_ : State} {s : State} (h_ : Fr m_ o_ s) (hm_ : Nat.land 42991621 m_ = 42991621) : Fr m_ o_ (State.finishCreate s) := by
  refine Fr.of h_ hm_ ?_
  clear h_ hm_
  have h_ := Fr.refl 42991621 s
  unfold State.finishCreate
  repeat' first
    | with_reducible assumption
    | exact (rfl : Nat.land _ _ = _)
    | (extract_lets +onlyGivenNames x
       first
         | (have hx : Fr 42991621 s x := ?_
            (on_goal 1 => clear_value x)
            on_goal 2 => (unfold x; clear x))
         | (have hx : Fr 42991621 s x.2 := ?_
            (on_goal 1 => clear_value x)
            on_goal 2 => (unfold x; clear x))
         | clear_value x)
    | with_reducible apply State.drawBytes_frame
    | refine Fr.pair (by assumption) (State.drawBytes_frame (h_ := ?_) ?_)
    | with_reducible apply State.startOtp_frame
    | (simp -zeta -beta -iota only [Fr.mk_iff]; first | refine FrU.upd ?_ rfl | refine FrU.filter _ ?_ rfl)
    | with_reducible refine Fr.ite ?_ ?_
    | with_reducible refine Fr.ite2 ?_ ?_
    | dsimp -zeta only
    | split

theorem State.installCreated_frame {m_ : Nat} {o_ : State} {s : State} {secret : Bytes} {domain : Nat} {officers : List Bytes} (h_ : Fr m_ o_ s) (hm_ : Nat.land 4734977 m_ = 4734977) : Fr m_ o_ (State.installCreated s secret domain officers) := by
  refine Fr.of h_ hm_ ?_
  clear h_ hm_
  have h_ := Fr.refl 4734977 s
  unfold State.installCreated
  repeat' first
    | with_reducible assumption
    | exact (rfl : Nat.land _ _ = _)
    | (extract_lets +onlyGivenNames x
       first
         | (have hx : Fr 4734977 s x := ?_
            (on_goal 1 => clear_value x)
            on_goal 2 => (unfold x; clear x))
         | (have hx : Fr 4734977 s x.2 := ?_
            (on_goal 1 => clear_value x)
            on_goal 2 => (unfold x; clear x))
         | clear_value x)
    | with_reducible apply State.installPair_frame
    | (simp -zeta -beta -iota only [Fr.mk_iff]; first | refine FrU.upd ?_ rfl | refine FrU.filter _ ?_ rfl)
    | dsimp -zeta only

theorem State.domainSendEffect_frame {m_ : Nat} {o_ : State} {s : State} {receiver : Nat} (h_ : Fr m_ o_ s) (hm_ : Nat.land 310910981 m_ = 310910981) : Fr m_ o_ (State.domainSendEffect s receiver) := by
  refine Fr.of h_ hm_ ?_
  clear h_ hm_
  have h_ := Fr.refl 310910981 s
  unfold State.domainSendEffect
  repeat' first
    | with_reducible assumption
    | exact (rfl : Nat.land _ _ = _)
    | (extract_lets +onlyGivenNames x
       first
         | (have hx : Fr 310910981 s x := ?_
            (on_goal 1 => clear_value x)
            on_goal 2 => (unfold x; clear x))
         | (have hx : Fr 310910981 s x.2 := ?_
            (on_goal 1 => clear_value x)
            on_goal 2 => (unfold x; clear x))
         | clear_value x)
    | with_reducible apply State.drawBytes_frame
    | refine Fr.pair (by assumption) (State.drawBytes_frame (h_ := ?_) ?_)
    | with_reducible apply State.idSign_frame
    | refine Fr.pair (by assumption) (State.idSign_frame (h_ := ?_) ?_)
    | with_reducible apply State.pairFail_frame
    | with_reducible apply State.sendClear_frame
    | with_reducible apply State.modPair_frame
    | (simp -zeta -beta -iota only [Fr.mk_iff]; first | refine FrU.upd ?_ rfl | refine FrU.filter _ ?_ rfl)
    | dsimp -zeta only
    | split

theorem State.domainAcceptEffect_frame {m_ : Nat} {o_ : State} {s : State} (h_ : Fr m_ o_ s) (hm_ : Nat.land 268435456 m_ = 268435456) : Fr m_ o_ (State.domainAcceptEffect s) := by
  refine Fr.of h_ hm_ ?_
  clear h_ hm_
  have h_ := Fr.refl 268435456 s
  unfold State.domainAcceptEffect
  repeat' first
    | with_reducible assumption
    | exact (rfl : Nat.land _ _ = _)
    | (extract_lets +onlyGivenNames x
       first
         | (have hx : Fr 268435456 s x := ?_
            (on_goal 1 => clear_value x)
            on_goal 2 => (unfold x; clear x))
         | (have hx : Fr 268435456 s x.2 := ?_
            (on_goal 1 => clear_value x)
            on_goal 2 => (unfold x; clear x))
         | clear_value x)
    | with_reducible apply State.modPair_frame
    | (simp -zeta -beta -iota only [Fr.mk_iff]; first | refine FrU.upd ?_ rfl | refine FrU.filter _ ?_ rfl)
    | dsimp -zeta only

theorem execDomainAcceptExpiry_frame {m_ : Nat} {o_ : State} {s : State} (h_ : Fr m_ o_ s) (hm_ : Nat.land 268435456 m_ = 268435456) : FrO m_ o_ (execDomainAcceptExpiry s) := by
  refine FrO.of h_ hm_ ?_
  clear h_ hm_
  have h_ := Fr.refl 268435456 s
  unfold execDomainAcceptExpiry
  repeat' first
    | with_reducible assumption
    | exact (rfl : Nat.land _ _ = _)
    | (extract_lets +onlyGivenNames x
       first
         | (have hx : Fr 268435456 s x := ?_
            (on_goal 1 => clear_value x)
            on_goal 2 => (unfold x; clear x))
         | (have hx : Fr 268435456 s x.2 := ?_
            (on_goal 1 => clear_value x)
            on_goal 2 => (unfold x; clear x))
         | clear_value x)
    | with_reducible apply State.modPair_frame
    | with_reducible apply FrO.next
    | (simp -zeta -beta -iota only [Fr.mk_iff]; first | refine FrU.upd ?_ rfl | refine FrU.filter _ ?_ rfl)
    | with_reducible refine Fr.ite ?_ ?_
    | with_reducible refine Fr.ite2 ?_ ?_
    | with_reducible refine FrO.ite ?_ ?_
    | dsimp -zeta only
    | split

theorem execPairOffer_frame {m_ : Nat} {o_ : State} {m : PairMessage} {s : State} (h_ : Fr m_ o_ s) (hm_ : Nat.land 303046661 m_ = 303046661) : FrO m_ o_ (execPairOffer m s) := by
  refine FrO.of h_ hm_ ?_
  clear h_ hm_
  have h_ := Fr.refl 303046661 s
  unfold execPairOffer
  repeat' first
    | with_reducible assumption
    | exact (rfl : Nat.land _ _ = _)
    | (extract_lets +onlyGivenNames x
       first
         | (have hx : Fr 303046661 s x := ?_
            (on_goal 1 => clear_value x)
            on_goal 2 => (unfold x; clear x))
         | (have hx : Fr 303046661 s x.2 := ?_
            (on_goal 1 => clear_value x)
            on_goal 2 => (unfold x; clear x))
         | clear_value x)
    | with_reducible apply State.countRx_frame
    | with_reducible apply State.pairFail_frame
    | with_reducible apply State.drawBytes_frame
    | refine Fr.pair (by assumption) (State.drawBytes_frame (h_ := ?_) ?_)
    | with_reducible apply State.idleToPinWait_frame
    | with_reducible apply State.modPair_frame
    | with_reducible apply FrO.next
    | (simp -zeta -beta -iota only [Fr.mk_iff]; first | refine FrU.upd ?_ rfl | refine FrU.filter _ ?_ rfl)
    | with_reducible refine Fr.ite ?_ ?_
    | with_reducible refine Fr.ite2 ?_ ?_
    | with_reducible refine FrO.ite ?_ ?_
    | dsimp -zeta only
    | split

theorem State.pairReply_frame {m_ : Nat} {o_ : State} {s : State} (h_ : Fr m_ o_ s) (hm_ : Nat.land 310910981 m_ = 310910981) : Fr m_ o_ (State.pairReply s) := by
  refine Fr.of h_ hm_ ?_
  clear h_ hm_
  have h_ := Fr.refl 310910981 s
  unfold State.pairReply
  repeat' first
    | with_reducible assumption
    | exact (rfl : Nat.land _ _ = _)
    | (extract_lets +onlyGivenNames x
       first
         | (have hx : Fr 310910981 s x := ?_
            (on_goal 1 => clear_value x)
            on_goal 2 => (unfold x; clear x))
         | (have hx : Fr 310910981 s x.2 := ?_
            (on_goal 1 => clear_value x)
            on_goal 2 => (unfold x; clear x))
         | clear_value x)
    | with_reducible apply State.drawBytes_frame
    | refine Fr.pair (by assumption) (State.drawBytes_frame (h_ := ?_) ?_)
    | with_reducible apply State.pairFail_frame
    | with_reducible apply State.idSign_frame
    | refine Fr.pair (by assumption) (State.idSign_frame (h_ := ?_) ?_)
    | with_reducible apply State.sendClear_frame
    | with_reducible apply State.modPair_frame
    | (simp -zeta -beta -iota only [Fr.mk_iff]; first | refine FrU.upd ?_ rfl | refine FrU.filter _ ?_ rfl)
    | dsimp -zeta only
    | split

theorem execPairReply_frame {m_ : Nat} {o_ : State} {m : PairMessage} {s : State} (h_ : Fr m_ o_ s) (hm_ : Nat.land 268443649 m_ = 268443649) : FrO m_ o_ (execPairReply m s) := by
  refine FrO.of h_ hm_ ?_
  clear h_ hm_
  have h_ := Fr.refl 268443649 s
  unfold execPairReply
  repeat' first
    | with_reducible assumption
    | exact (rfl : Nat.land _ _ = _)
    | (extract_lets +onlyGivenNames x
       first
         | (have hx : Fr 268443649 s x := ?_
            (on_goal 1 => clear_value x)
            on_goal 2 => (unfold x; clear x))
         | (have hx : Fr 268443649 s x.2 := ?_
            (on_goal 1 => clear_value x)
            on_goal 2 => (unfold x; clear x))
         | clear_value x)
    | with_reducible apply State.countRx_frame
    | with_reducible apply State.pairFail_frame
    | with_reducible apply State.sendLink_frame
    | with_reducible apply State.modPair_frame
    | with_reducible apply FrO.next
    | (simp -zeta -beta -iota only [Fr.mk_iff]; first | refine FrU.upd ?_ rfl | refine FrU.filter _ ?_ rfl)
    | with_reducible refine Fr.ite ?_ ?_
    | with_reducible refine Fr.ite2 ?_ ?_
    | with_reducible refine FrO.ite ?_ ?_
    | dsimp -zeta only
    | split

theorem execPairSecret_frame {m_ : Nat} {o_ : State} {seq : Nat} {payload : Bytes} {s : State} (h_ : Fr m_ o_ s) (hm_ : Nat.land 276832257 m_ = 276832257) : FrO m_ o_ (execPairSecret seq payload s) := by
  refine FrO.of h_ hm_ ?_
  clear h_ hm_
  have h_ := Fr.refl 276832257 s
  unfold execPairSecret
  repeat' first
    | with_reducible assumption
    | exact (rfl : Nat.land _ _ = _)
    | (extract_lets +onlyGivenNames x
       first
         | (have hx : Fr 276832257 s x := ?_
            (on_goal 1 => clear_value x)
            on_goal 2 => (unfold x; clear x))
         | (have hx : Fr 276832257 s x.2 := ?_
            (on_goal 1 => clear_value x)
            on_goal 2 => (unfold x; clear x))
         | clear_value x)
    | with_reducible apply State.seqFailed_frame
    | with_reducible apply State.pairFail_frame
    | with_reducible apply State.noteTag_frame
    | with_reducible apply State.countRx_frame
    | with_reducible apply State.modPair_frame
    | with_reducible apply State.startOtp_frame
    | with_reducible apply FrO.next
    | (simp -zeta -beta -iota only [Fr.mk_iff]; first | refine FrU.upd ?_ rfl | refine FrU.filter _ ?_ rfl)
    | with_reducible refine Fr.ite ?_ ?_
    | with_reducible refine Fr.ite2 ?_ ?_
    | with_reducible refine FrO.ite ?_ ?_
    | dsimp -zeta only
    | split

theorem State.installReceived_frame {m_ : Nat} {o_ : State} {s : State} {secret : Bytes} {domain : Nat} (h_ : Fr m_ o_ s) (hm_ : Nat.land 315105285 m_ = 315105285) : Fr m_ o_ (State.installReceived s secret domain) := by
  refine Fr.of h_ hm_ ?_
  clear h_ hm_
  have h_ := Fr.refl 315105285 s
  unfold State.installReceived
  repeat' first
    | with_reducible assumption
    | exact (rfl : Nat.land _ _ = _)
    | (extract_lets +onlyGivenNames x
       first
         | (have hx : Fr 315105285 s x := ?_
            (on_goal 1 => clear_value x)
            on_goal 2 => (unfold x; clear x))
         | (have hx : Fr 315105285 s x.2 := ?_
            (on_goal 1 => clear_value x)
            on_goal 2 => (unfold x; clear x))
         | clear_value x)
    | with_reducible apply State.installPair_frame
    | with_reducible apply State.idSign_frame
    | refine Fr.pair (by assumption) (State.idSign_frame (h_ := ?_) ?_)
    | with_reducible apply State.pairFail_frame
    | with_reducible apply State.sendClear_frame
    | with_reducible apply State.modPair_frame
    | (simp -zeta -beta -iota only [Fr.mk_iff]; first | refine FrU.upd ?_ rfl | refine FrU.filter _ ?_ rfl)
    | dsimp -zeta only
    | split

theorem execPairDone_frame {m_ : Nat} {o_ : State} {m : PairMessage} {s : State} (h_ : Fr m_ o_ s) (hm_ : Nat.land 272637953 m_ = 272637953) : FrO m_ o_ (execPairDone m s) := by
  refine FrO.of h_ hm_ ?_
  clear h_ hm_
  have h_ := Fr.refl 272637953 s
  unfold execPairDone
  repeat' first
    | with_reducible assumption
    | exact (rfl : Nat.land _ _ = _)
    | (extract_lets +onlyGivenNames x
       first
         | (have hx : Fr 272637953 s x := ?_
            (on_goal 1 => clear_value x)
            on_goal 2 => (unfold x; clear x))
         | (have hx : Fr 272637953 s x.2 := ?_
            (on_goal 1 => clear_value x)
            on_goal 2 => (unfold x; clear x))
         | clear_value x)
    | with_reducible apply State.countRx_frame
    | with_reducible apply State.pairFail_frame
    | with_reducible apply State.modPair_frame
    | with_reducible apply FrO.next
    | (simp -zeta -beta -iota only [Fr.mk_iff]; first | refine FrU.upd ?_ rfl | refine FrU.filter _ ?_ rfl)
    | with_reducible refine Fr.ite ?_ ?_
    | with_reducible refine Fr.ite2 ?_ ?_
    | with_reducible refine FrO.ite ?_ ?_
    | dsimp -zeta only
    | split

theorem State.cutOtp_frame {m_ : Nat} {o_ : State} {s : State} (h_ : Fr m_ o_ s) (hm_ : Nat.land 8388612 m_ = 8388612) : Fr m_ o_ (State.cutOtp s) := by
  refine Fr.of h_ hm_ ?_
  clear h_ hm_
  have h_ := Fr.refl 8388612 s
  unfold State.cutOtp
  repeat' first
    | with_reducible assumption
    | exact (rfl : Nat.land _ _ = _)
    | (extract_lets +onlyGivenNames x
       first
         | (have hx : Fr 8388612 s x := ?_
            (on_goal 1 => clear_value x)
            on_goal 2 => (unfold x; clear x))
         | (have hx : Fr 8388612 s x.2 := ?_
            (on_goal 1 => clear_value x)
            on_goal 2 => (unfold x; clear x))
         | clear_value x)
    | with_reducible apply State.freshNat_frame
    | refine Fr.pair (by assumption) (State.freshNat_frame (h_ := ?_) ?_)
    | (simp -zeta -beta -iota only [Fr.mk_iff]; first | refine FrU.upd ?_ rfl | refine FrU.filter _ ?_ rfl)
    | dsimp -zeta only
    | split

theorem State.afterOtp_frame {m_ : Nat} {o_ : State} {s : State} {a1 : OtpWrite} (h_ : Fr m_ o_ s) (hm_ : Nat.land 315121669 m_ = 315121669) : Fr m_ o_ (State.afterOtp s a1) := by
  refine Fr.of h_ hm_ ?_
  clear h_ hm_
  have h_ := Fr.refl 315121669 s
  unfold State.afterOtp
  repeat' first
    | with_reducible assumption
    | exact (rfl : Nat.land _ _ = _)
    | with_reducible apply State.installReceived_frame
    | with_reducible apply State.installCreated_frame
    | with_reducible refine Fr.ite ?_ ?_
    | split

theorem execOtpProgramComplete_frame {m_ : Nat} {o_ : State} {s : State} (h_ : Fr m_ o_ s) (hm_ : Nat.land 1525440791 m_ = 1525440791) : FrO m_ o_ (execOtpProgramComplete s) := by
  refine FrO.of h_ hm_ ?_
  clear h_ hm_
  have h_ := Fr.refl 1525440791 s
  unfold execOtpProgramComplete
  repeat' first
    | with_reducible assumption
    | exact (rfl : Nat.land _ _ = _)
    | (extract_lets +onlyGivenNames x
       first
         | (have hx : Fr 1525440791 s x := ?_
            (on_goal 1 => clear_value x)
            on_goal 2 => (unfold x; clear x))
         | (have hx : Fr 1525440791 s x.2 := ?_
            (on_goal 1 => clear_value x)
            on_goal 2 => (unfold x; clear x))
         | clear_value x)
    | with_reducible apply State.afterOtp_frame
    | with_reducible apply State.showOtp_frame
    | with_reducible apply State.settleMailbox_frame
    | with_reducible apply State.flushReplies_frame
    | with_reducible apply State.answer_frame
    | with_reducible apply FrO.next
    | (simp -zeta -beta -iota only [Fr.mk_iff]; first | refine FrU.upd ?_ rfl | refine FrU.filter _ ?_ rfl)
    | dsimp -zeta only
    | split

theorem State.otpRefused_frame {m_ : Nat} {o_ : State} {s : State} (h_ : Fr m_ o_ s) (hm_ : Nat.land 1 m_ = 1) : Fr m_ o_ (State.otpRefused s) := by
  refine Fr.of h_ hm_ ?_
  clear h_ hm_
  have h_ := Fr.refl 1 s
  unfold State.otpRefused
  repeat' first
    | with_reducible assumption
    | exact (rfl : Nat.land _ _ = _)
    | with_reducible apply State.putBit_frame

theorem State.eraseNvm_frame {m_ : Nat} {o_ : State} {s : State} (h_ : Fr m_ o_ s) (hm_ : Nat.land 1084256258 m_ = 1084256258) : Fr m_ o_ (State.eraseNvm s) := by
  refine Fr.of h_ hm_ ?_
  clear h_ hm_
  have h_ := Fr.refl 1084256258 s
  unfold State.eraseNvm
  repeat' first
    | with_reducible assumption
    | exact (rfl : Nat.land _ _ = _)
    | (extract_lets +onlyGivenNames x
       first
         | (have hx : Fr 1084256258 s x := ?_
            (on_goal 1 => clear_value x)
            on_goal 2 => (unfold x; clear x))
         | (have hx : Fr 1084256258 s x.2 := ?_
            (on_goal 1 => clear_value x)
            on_goal 2 => (unfold x; clear x))
         | clear_value x)
    | (simp -zeta -beta -iota only [Fr.mk_iff]; first | refine FrU.upd ?_ rfl | refine FrU.filter _ ?_ rfl)
    | dsimp -zeta only

theorem State.prepare_frame {m_ : Nat} {o_ : State} {s : State} {code : Nat} (h_ : Fr m_ o_ s) (hm_ : Nat.land 1841200695 m_ = 1841200695) : Fr m_ o_ (State.prepare s code) := by
  refine Fr.of h_ hm_ ?_
  clear h_ hm_
  have h_ := Fr.refl 1841200695 s
  unfold State.prepare
  repeat' first
    | with_reducible assumption
    | exact (rfl : Nat.land _ _ = _)
    | (extract_lets +onlyGivenNames x
       first
         | (have hx : Fr 1841200695 s x := ?_
            (on_goal 1 => clear_value x)
            on_goal 2 => (unfold x; clear x))
         | (have hx : Fr 1841200695 s x.2 := ?_
            (on_goal 1 => clear_value x)
            on_goal 2 => (unfold x; clear x))
         | clear_value x)
    | with_reducible apply State.zeroiseNow_frame
    | with_reducible apply State.showAlarmN_frame
    | with_reducible apply State.eraseNvm_frame
    | (simp -zeta -beta -iota only [Fr.mk_iff]; first | refine FrU.upd ?_ rfl | refine FrU.filter _ ?_ rfl)
    | with_reducible refine Fr.ite ?_ ?_
    | dsimp -zeta only
    | split

theorem State.lifecycleNext_frame {m_ : Nat} {o_ : State} {s : State} {code : Nat} {reply : Nat} (h_ : Fr m_ o_ s) (hm_ : Nat.land 1841200695 m_ = 1841200695) : Fr m_ o_ (State.lifecycleNext s code reply) := by
  refine Fr.of h_ hm_ ?_
  clear h_ hm_
  have h_ := Fr.refl 1841200695 s
  unfold State.lifecycleNext
  repeat' first
    | with_reducible assumption
    | exact (rfl : Nat.land _ _ = _)
    | with_reducible apply State.startOtp_frame
    | with_reducible apply State.prepare_frame

theorem State.provisionRun_frame {m_ : Nat} {o_ : State} {s : State} {reply : Nat} (h_ : Fr m_ o_ s) (hm_ : Nat.land 46137349 m_ = 46137349) : Fr m_ o_ (State.provisionRun s reply) := by
  refine Fr.of h_ hm_ ?_
  clear h_ hm_
  have h_ := Fr.refl 46137349 s
  unfold State.provisionRun
  repeat' first
    | with_reducible assumption
    | exact (rfl : Nat.land _ _ = _)
    | (extract_lets +onlyGivenNames x
       first
         | (have hx : Fr 46137349 s x := ?_
            (on_goal 1 => clear_value x)
            on_goal 2 => (unfold x; clear x))
         | (have hx : Fr 46137349 s x.2 := ?_
            (on_goal 1 => clear_value x)
            on_goal 2 => (unfold x; clear x))
         | clear_value x)
    | with_reducible apply State.drawBytes_frame
    | refine Fr.pair (by assumption) (State.drawBytes_frame (h_ := ?_) ?_)
    | with_reducible apply State.putBit_frame
    | with_reducible apply State.startOtp_frame
    | (simp -zeta -beta -iota only [Fr.mk_iff]; first | refine FrU.upd ?_ rfl | refine FrU.filter _ ?_ rfl)
    | dsimp -zeta only

theorem State.tokenRefuse_frame {m_ : Nat} {o_ : State} {s : State} {reason : Nat} (h_ : Fr m_ o_ s) (hm_ : Nat.land 1874751029 m_ = 1874751029) : Fr m_ o_ (State.tokenRefuse s reason) := by
  refine Fr.of h_ hm_ ?_
  clear h_ hm_
  have h_ := Fr.refl 1874751029 s
  unfold State.tokenRefuse
  repeat' first
    | with_reducible assumption
    | exact (rfl : Nat.land _ _ = _)
    | with_reducible apply State.tokenCounted_frame
    | with_reducible apply State.alarm'_frame
    | with_reducible apply State.tokenRecorded_frame
    | with_reducible refine Fr.ite ?_ ?_
    | split

theorem State.debugToken_frame {m_ : Nat} {o_ : State} {s : State} {v : Bytes} (h_ : Fr m_ o_ s) (hm_ : Nat.land 1874751029 m_ = 1874751029) : Fr m_ o_ (State.debugToken s v).2 := by
  refine Fr.of h_ hm_ ?_
  clear h_ hm_
  have h_ := Fr.refl 1874751029 s
  unfold State.debugToken
  repeat' first
    | with_reducible assumption
    | exact (rfl : Nat.land _ _ = _)
    | (extract_lets +onlyGivenNames x
       first
         | (have hx : Fr 1874751029 s x := ?_
            (on_goal 1 => clear_value x)
            on_goal 2 => (unfold x; clear x))
         | (have hx : Fr 1874751029 s x.2 := ?_
            (on_goal 1 => clear_value x)
            on_goal 2 => (unfold x; clear x))
         | clear_value x)
    | with_reducible apply State.tokenRefuse_frame
    | with_reducible apply State.openSignet_frame
    | (simp -zeta -beta -iota only [Fr.mk_iff]; first | refine FrU.upd ?_ rfl | refine FrU.filter _ ?_ rfl)
    | with_reducible refine Fr.ite ?_ ?_
    | with_reducible refine Fr.ite2 ?_ ?_
    | dsimp -zeta only
    | split

theorem State.consumeToken_frame {m_ : Nat} {o_ : State} {s : State} (h_ : Fr m_ o_ s) (hm_ : Nat.land 1874751029 m_ = 1874751029) : Fr m_ o_ (State.consumeToken s) := by
  refine Fr.of h_ hm_ ?_
  clear h_ hm_
  have h_ := Fr.refl 1874751029 s
  unfold State.consumeToken
  repeat' first
    | with_reducible assumption
    | exact (rfl : Nat.land _ _ = _)
    | (extract_lets +onlyGivenNames x
       first
         | (have hx : Fr 1874751029 s x := ?_
            (on_goal 1 => clear_value x)
            on_goal 2 => (unfold x; clear x))
         | (have hx : Fr 1874751029 s x.2 := ?_
            (on_goal 1 => clear_value x)
            on_goal 2 => (unfold x; clear x))
         | clear_value x)
    | with_reducible apply State.consumeSignet_frame
    | refine Fr.pair (by assumption) (State.consumeSignet_frame (h_ := ?_) ?_)
    | with_reducible apply State.tokenRefuse_frame
    | with_reducible apply State.newNonce_frame
    | with_reducible apply State.openEnables_frame
    | with_reducible apply State.alarm'_frame
    | (simp -zeta -beta -iota only [Fr.mk_iff]; first | refine FrU.upd ?_ rfl | refine FrU.filter _ ?_ rfl)
    | with_reducible refine Fr.ite ?_ ?_
    | with_reducible refine Fr.ite2 ?_ ?_
    | dsimp -zeta only
    | split

theorem execCardSignatureVerified_frame {m_ : Nat} {o_ : State} {port : Nat} {s : State} (h_ : Fr m_ o_ s) (hm_ : Nat.land 2143186485 m_ = 2143186485) : FrO m_ o_ (execCardSignatureVerified port s) := by
  refine FrO.of h_ hm_ ?_
  clear h_ hm_
  have h_ := Fr.refl 2143186485 s
  unfold execCardSignatureVerified
  repeat' first
    | with_reducible assumption
    | exact (rfl : Nat.land _ _ = _)
    | (extract_lets +onlyGivenNames x
       first
         | (have hx : Fr 2143186485 s x := ?_
            (on_goal 1 => clear_value x)
            on_goal 2 => (unfold x; clear x))
         | (have hx : Fr 2143186485 s x.2 := ?_
            (on_goal 1 => clear_value x)
            on_goal 2 => (unfold x; clear x))
         | clear_value x)
    | with_reducible apply State.cardError_frame
    | with_reducible apply State.finishCreate_frame
    | with_reducible apply State.cardVerified_frame
    | with_reducible apply State.pairReply_frame
    | with_reducible apply State.consumeToken_frame
    | with_reducible apply FrO.next
    | (simp -zeta -beta -iota only [Fr.mk_iff]; first | refine FrU.upd ?_ rfl | refine FrU.filter _ ?_ rfl)
    | with_reducible refine Fr.ite ?_ ?_
    | with_reducible refine Fr.ite2 ?_ ?_
    | with_reducible refine FrO.ite ?_ ?_
    | dsimp -zeta only
    | split

theorem State.showPlca_frame {m_ : Nat} {o_ : State} {s : State} (h_ : Fr m_ o_ s) (hm_ : Nat.land 1 m_ = 1) : Fr m_ o_ (State.showPlca s) := by
  refine Fr.of h_ hm_ ?_
  clear h_ hm_
  have h_ := Fr.refl 1 s
  unfold State.showPlca
  repeat' first
    | with_reducible assumption
    | exact (rfl : Nat.land _ _ = _)
    | (extract_lets +onlyGivenNames x
       first
         | (have hx : Fr 1 s x := ?_
            (on_goal 1 => clear_value x)
            on_goal 2 => (unfold x; clear x))
         | (have hx : Fr 1 s x.2 := ?_
            (on_goal 1 => clear_value x)
            on_goal 2 => (unfold x; clear x))
         | clear_value x)
    | with_reducible apply State.putBit_frame
    | with_reducible apply State.put_frame
    | dsimp -zeta only

theorem execPlcaBeacon_frame {m_ : Nat} {o_ : State} {seen : Bool} {s : State} (h_ : Fr m_ o_ s) (hm_ : Nat.land 1073741825 m_ = 1073741825) : FrO m_ o_ (execPlcaBeacon seen s) := by
  refine FrO.of h_ hm_ ?_
  clear h_ hm_
  have h_ := Fr.refl 1073741825 s
  unfold execPlcaBeacon
  repeat' first
    | with_reducible assumption
    | exact (rfl : Nat.land _ _ = _)
    | (extract_lets +onlyGivenNames x
       first
         | (have hx : Fr 1073741825 s x := ?_
            (on_goal 1 => clear_value x)
            on_goal 2 => (unfold x; clear x))
         | (have hx : Fr 1073741825 s x.2 := ?_
            (on_goal 1 => clear_value x)
            on_goal 2 => (unfold x; clear x))
         | clear_value x)
    | with_reducible apply State.showPlca_frame
    | with_reducible apply FrO.next
    | (simp -zeta -beta -iota only [Fr.mk_iff]; first | refine FrU.upd ?_ rfl | refine FrU.filter _ ?_ rfl)

theorem State.showRxd_frame {m_ : Nat} {o_ : State} {s : State} (h_ : Fr m_ o_ s) (hm_ : Nat.land 1 m_ = 1) : Fr m_ o_ (State.showRxd s) := by
  refine Fr.of h_ hm_ ?_
  clear h_ hm_
  have h_ := Fr.refl 1 s
  unfold State.showRxd
  repeat' first
    | with_reducible assumption
    | exact (rfl : Nat.land _ _ = _)
    | with_reducible apply State.putBit_frame

theorem execMgpFrameReceived_frame {m_ : Nat} {o_ : State} {frame : Bytes} {fcsOk : Bool} {s : State} (h_ : Fr m_ o_ s) (hm_ : Nat.land 1207959553 m_ = 1207959553) : FrO m_ o_ (execMgpFrameReceived frame fcsOk s) := by
  refine FrO.of h_ hm_ ?_
  clear h_ hm_
  have h_ := Fr.refl 1207959553 s
  unfold execMgpFrameReceived
  repeat' first
    | with_reducible assumption
    | exact (rfl : Nat.land _ _ = _)
    | (extract_lets +onlyGivenNames x
       first
         | (have hx : Fr 1207959553 s x := ?_
            (on_goal 1 => clear_value x)
            on_goal 2 => (unfold x; clear x))
         | (have hx : Fr 1207959553 s x.2 := ?_
            (on_goal 1 => clear_value x)
            on_goal 2 => (unfold x; clear x))
         | (unfold x; clear x))
    | with_reducible apply State.count_frame
    | with_reducible apply State.putBit_frame
    | with_reducible apply State.put_frame
    | with_reducible apply State.showRxd_frame
    | with_reducible apply State.raiseIrq_frame
    | with_reducible apply FrO.next
    | (simp -zeta -beta -iota only [Fr.mk_iff]; first | refine FrU.upd ?_ rfl | refine FrU.filter _ ?_ rfl)
    | with_reducible refine Fr.ite ?_ ?_
    | with_reducible refine FrO.ite ?_ ?_
    | dsimp -zeta only
    | split

theorem execMgpRxdTailWrite_frame {m_ : Nat} {o_ : State} {tail : Nat} {s : State} (h_ : Fr m_ o_ s) (hm_ : Nat.land 1073741825 m_ = 1073741825) : FrO m_ o_ (execMgpRxdTailWrite tail s) := by
  refine FrO.of h_ hm_ ?_
  clear h_ hm_
  have h_ := Fr.refl 1073741825 s
  unfold execMgpRxdTailWrite
  repeat' first
    | with_reducible assumption
    | exact (rfl : Nat.land _ _ = _)
    | (extract_lets +onlyGivenNames x
       first
         | (have hx : Fr 1073741825 s x := ?_
            (on_goal 1 => clear_value x)
            on_goal 2 => (unfold x; clear x))
         | (have hx : Fr 1073741825 s x.2 := ?_
            (on_goal 1 => clear_value x)
            on_goal 2 => (unfold x; clear x))
         | clear_value x)
    | with_reducible apply State.showRxd_frame
    | with_reducible apply State.put_frame
    | with_reducible apply FrO.next
    | (simp -zeta -beta -iota only [Fr.mk_iff]; first | refine FrU.upd ?_ rfl | refine FrU.filter _ ?_ rfl)
    | with_reducible refine Fr.ite ?_ ?_
    | with_reducible refine FrO.ite ?_ ?_
    | dsimp -zeta only
    | split

theorem execMgpTxGo_frame {m_ : Nat} {o_ : State} {s : State} (h_ : Fr m_ o_ s) (hm_ : Nat.land 1207967745 m_ = 1207967745) : FrO m_ o_ (execMgpTxGo s) := by
  refine FrO.of h_ hm_ ?_
  clear h_ hm_
  have h_ := Fr.refl 1207967745 s
  unfold execMgpTxGo
  repeat' first
    | with_reducible assumption
    | exact (rfl : Nat.land _ _ = _)
    | (extract_lets +onlyGivenNames x
       first
         | (have hx : Fr 1207967745 s x := ?_
            (on_goal 1 => clear_value x)
            on_goal 2 => (unfold x; clear x))
         | (have hx : Fr 1207967745 s x.2 := ?_
            (on_goal 1 => clear_value x)
            on_goal 2 => (unfold x; clear x))
         | clear_value x)
    | with_reducible apply State.checkAccess_frame
    | refine Fr.pair (by assumption) (State.checkAccess_frame (h_ := ?_) ?_)
    | with_reducible apply State.putBit_frame
    | with_reducible apply FrO.next
    | (simp -zeta -beta -iota only [Fr.mk_iff]; first | refine FrU.upd ?_ rfl | refine FrU.filter _ ?_ rfl)
    | with_reducible refine Fr.ite ?_ ?_
    | with_reducible refine Fr.ite2 ?_ ?_
    | with_reducible refine FrO.ite ?_ ?_
    | dsimp -zeta only
    | split

theorem execMgpFrameSent_frame {m_ : Nat} {o_ : State} {s : State} (h_ : Fr m_ o_ s) (hm_ : Nat.land 1209008129 m_ = 1209008129) : FrO m_ o_ (execMgpFrameSent s) := by
  refine FrO.of h_ hm_ ?_
  clear h_ hm_
  have h_ := Fr.refl 1209008129 s
  unfold execMgpFrameSent
  repeat' first
    | with_reducible assumption
    | exact (rfl : Nat.land _ _ = _)
    | (extract_lets +onlyGivenNames x
       first
         | (have hx : Fr 1209008129 s x := ?_
            (on_goal 1 => clear_value x)
            on_goal 2 => (unfold x; clear x))
         | (have hx : Fr 1209008129 s x.2 := ?_
            (on_goal 1 => clear_value x)
            on_goal 2 => (unfold x; clear x))
         | clear_value x)
    | with_reducible apply State.putBit_frame
    | with_reducible apply State.gateSweep_frame
    | with_reducible apply FrO.next
    | (simp -zeta -beta -iota only [Fr.mk_iff]; first | refine FrU.upd ?_ rfl | refine FrU.filter _ ?_ rfl)
    | with_reducible refine Fr.ite ?_ ?_
    | with_reducible refine Fr.ite2 ?_ ?_
    | with_reducible refine FrO.ite ?_ ?_
    | dsimp -zeta only
    | split

theorem State.mgmtKeyMake_frame {m_ : Nat} {o_ : State} {s : State} (h_ : Fr m_ o_ s) (hm_ : Nat.land 1109393412 m_ = 1109393412) : Fr m_ o_ (State.mgmtKeyMake s) := by
  refine Fr.of h_ hm_ ?_
  clear h_ hm_
  have h_ := Fr.refl 1109393412 s
  unfold State.mgmtKeyMake
  repeat' first
    | with_reducible assumption
    | exact (rfl : Nat.land _ _ = _)
    | (extract_lets +onlyGivenNames x
       first
         | (have hx : Fr 1109393412 s x := ?_
            (on_goal 1 => clear_value x)
            on_goal 2 => (unfold x; clear x))
         | (have hx : Fr 1109393412 s x.2 := ?_
            (on_goal 1 => clear_value x)
            on_goal 2 => (unfold x; clear x))
         | clear_value x)
    | with_reducible apply State.drawBytes_frame
    | refine Fr.pair (by assumption) (State.drawBytes_frame (h_ := ?_) ?_)
    | with_reducible apply State.odStore_frame
    | (simp -zeta -beta -iota only [Fr.mk_iff]; first | refine FrU.upd ?_ rfl | refine FrU.filter _ ?_ rfl)
    | dsimp -zeta only
    | split

theorem execClientHello_frame {m_ : Nat} {o_ : State} {peer : Bytes} {s : State} (h_ : Fr m_ o_ s) (hm_ : Nat.land 1073741824 m_ = 1073741824) : FrO m_ o_ (execClientHello peer s) := by
  refine FrO.of h_ hm_ ?_
  clear h_ hm_
  have h_ := Fr.refl 1073741824 s
  unfold execClientHello
  repeat' first
    | with_reducible assumption
    | exact (rfl : Nat.land _ _ = _)
    | (extract_lets +onlyGivenNames x
       first
         | (have hx : Fr 1073741824 s x := ?_
            (on_goal 1 => clear_value x)
            on_goal 2 => (unfold x; clear x))
         | (have hx : Fr 1073741824 s x.2 := ?_
            (on_goal 1 => clear_value x)
            on_goal 2 => (unfold x; clear x))
         | clear_value x)
    | with_reducible apply State.setSession_frame
    | with_reducible apply FrO.next
    | (simp -zeta -beta -iota only [Fr.mk_iff]; first | refine FrU.upd ?_ rfl | refine FrU.filter _ ?_ rfl)
    | with_reducible refine Fr.ite ?_ ?_
    | with_reducible refine Fr.ite2 ?_ ?_
    | with_reducible refine FrO.ite ?_ ?_
    | dsimp -zeta only
    | split

theorem execDtlsHandshakeComplete_frame {m_ : Nat} {o_ : State} {slot : Nat} {cert : Bytes} {s : State} (h_ : Fr m_ o_ s) (hm_ : Nat.land 1075847168 m_ = 1075847168) : FrO m_ o_ (execDtlsHandshakeComplete slot cert s) := by
  refine FrO.of h_ hm_ ?_
  clear h_ hm_
  have h_ := Fr.refl 1075847168 s
  unfold execDtlsHandshakeComplete
  repeat' first
    | with_reducible assumption
    | exact (rfl : Nat.land _ _ = _)
    | (extract_lets +onlyGivenNames x
       first
         | (have hx : Fr 1075847168 s x := ?_
            (on_goal 1 => clear_value x)
            on_goal 2 => (unfold x; clear x))
         | (have hx : Fr 1075847168 s x.2 := ?_
            (on_goal 1 => clear_value x)
            on_goal 2 => (unfold x; clear x))
         | clear_value x)
    | with_reducible apply State.setSession_frame
    | with_reducible apply State.closeSession_frame
    | with_reducible apply FrO.next
    | (simp -zeta -beta -iota only [Fr.mk_iff]; first | refine FrU.upd ?_ rfl | refine FrU.filter _ ?_ rfl)
    | with_reducible refine Fr.ite ?_ ?_
    | with_reducible refine Fr.ite2 ?_ ?_
    | with_reducible refine FrO.ite ?_ ?_
    | dsimp -zeta only
    | split

theorem execDtlsAlert_frame {m_ : Nat} {o_ : State} {slot : Nat} {s : State} (h_ : Fr m_ o_ s) (hm_ : Nat.land 1075847168 m_ = 1075847168) : FrO m_ o_ (execDtlsAlert slot s) := by
  refine FrO.of h_ hm_ ?_
  clear h_ hm_
  have h_ := Fr.refl 1075847168 s
  unfold execDtlsAlert
  repeat' first
    | with_reducible assumption
    | exact (rfl : Nat.land _ _ = _)
    | with_reducible apply State.closeSession_frame
    | with_reducible apply FrO.next

theorem execPueshIdleTimeout_frame {m_ : Nat} {o_ : State} {slot : Nat} {s : State} (h_ : Fr m_ o_ s) (hm_ : Nat.land 1075847168 m_ = 1075847168) : FrO m_ o_ (execPueshIdleTimeout slot s) := by
  refine FrO.of h_ hm_ ?_
  clear h_ hm_
  have h_ := Fr.refl 1075847168 s
  unfold execPueshIdleTimeout
  repeat' first
    | with_reducible assumption
    | exact (rfl : Nat.land _ _ = _)
    | with_reducible apply State.closeSession_frame
    | with_reducible apply FrO.next
    | with_reducible refine Fr.ite ?_ ?_
    | with_reducible refine FrO.ite ?_ ?_
    | split

theorem State.anchorChanged_frame {m_ : Nat} {o_ : State} {s : State} {a : Nat} (h_ : Fr m_ o_ s) (hm_ : Nat.land 1075847168 m_ = 1075847168) : Fr m_ o_ (State.anchorChanged s a) := by
  refine Fr.of h_ hm_ ?_
  clear h_ hm_
  have h_ := Fr.refl 1075847168 s
  unfold State.anchorChanged
  repeat' first
    | with_reducible assumption
    | exact (rfl : Nat.land _ _ = _)
    | with_reducible refine Fr.foldl _ _ ?_ (fun _ _ _ => ?_)
    | with_reducible apply State.closeSession_frame
    | with_reducible refine Fr.ite ?_ ?_
    | dsimp -zeta only
    | split

theorem State.limitSessions_frame {m_ : Nat} {o_ : State} {s : State} (h_ : Fr m_ o_ s) (hm_ : Nat.land 1075847168 m_ = 1075847168) : Fr m_ o_ (State.limitSessions s) := by
  refine Fr.of h_ hm_ ?_
  clear h_ hm_
  have h_ := Fr.refl 1075847168 s
  unfold State.limitSessions
  repeat' first
    | with_reducible assumption
    | exact (rfl : Nat.land _ _ = _)
    | with_reducible refine Fr.foldl _ _ ?_ (fun _ _ _ => ?_)
    | with_reducible apply State.closeSession_frame
    | with_reducible refine Fr.ite ?_ ?_
    | dsimp -zeta only
    | split

end Sys2Proof.Machine
end

