-- ==== Sys2Proof/Laws/FrameTime.lean ====
section
/-! SUPPORT. Which pieces of State each function of boot, time, the recorder, sleep and the symmetric lanes may change. -/

set_option maxRecDepth 4000
set_option linter.all false

namespace Sys2Proof.Machine

theorem State.mainReset_frame {m_ : Nat} {o_ : State} {s : State} (h_ : Fr m_ o_ s) (hm_ : Nat.land 2147483647 m_ = 2147483647) : Fr m_ o_ (State.mainReset s) := by
  refine Fr.of h_ hm_ ?_
  have hc := (State.cutOtp_frame (Fr.refl _ s) rfl : Fr 2147483647 s _)
  unfold State.mainReset
  extract_lets +onlyGivenNames s1 pres t
  have hp : ∀ f u, Fr 2147483647 s u → Fr 2147483647 s (pres f u) := by
    intro f u hu
    exact State.putBit_frame hu rfl
  clear_value pres
  refine State.showAlarm_frame (hp _ _ (hp _ _ ?_)) rfl
  refine ⟨fun p hp => ?_, fun w => filter_wf _ _ _ (hc.2 w)⟩
  cases p <;> first | exact absurd hp (by decide) | exact hc.1 .pending (by decide)

theorem State.noteCosig_frame {m_ : Nat} {o_ : State} {s : State} {m : BootImage} {fault : Option Nat} (h_ : Fr m_ o_ s) (hm_ : Nat.land 1 m_ = 1) : Fr m_ o_ (State.noteCosig s m fault) := by
  refine Fr.of h_ hm_ ?_
  clear h_ hm_
  have h_ := Fr.refl 1 s
  unfold State.noteCosig
  repeat' first
    | with_reducible assumption
    | exact (rfl : Nat.land _ _ = _)
    | (extract_lets +onlyGivenNames x
       first
         | (have hx : Fr 1 s x := ?_
            (on_goal 1 => clear_value x)
            on_goal 2 => (unfold x; clear x))
         | (have hx : Fr 1 s x.2 := ?_
            (on_goal 1 => clear_value x)
            on_goal 2 => (unfold x; clear x))
         | clear_value x)
    | with_reducible apply State.putBit_frame
    | (simp -zeta -beta -iota only [Fr.mk_iff]; first | refine FrU.upd ?_ rfl | refine FrU.filter _ ?_ rfl)
    | with_reducible refine Fr.ite ?_ ?_
    | with_reducible refine Fr.ite2 ?_ ?_
    | dsimp -zeta only
    | split

theorem State.moveLog_frame {m_ : Nat} {o_ : State} {s : State} (h_ : Fr m_ o_ s) (hm_ : Nat.land 67117057 m_ = 67117057) : Fr m_ o_ (State.moveLog s) := by
  refine Fr.of h_ hm_ ?_
  clear h_ hm_
  have h_ := Fr.refl 67117057 s
  unfold State.moveLog
  repeat' first
    | with_reducible assumption
    | exact (rfl : Nat.land _ _ = _)
    | (extract_lets +onlyGivenNames x
       first
         | (have hx : Fr 67117057 s x := ?_
            (on_goal 1 => clear_value x)
            on_goal 2 => (unfold x; clear x))
         | (have hx : Fr 67117057 s x.2 := ?_
            (on_goal 1 => clear_value x)
            on_goal 2 => (unfold x; clear x))
         | clear_value x)
    | with_reducible refine Fr.foldl _ _ ?_ (fun _ _ _ => ?_)
    | with_reducible apply State.eventAt_frame
    | with_reducible apply State.put_frame
    | with_reducible apply State.showAlarmN_frame
    | (simp -zeta -beta -iota only [Fr.mk_iff]; first | refine FrU.upd ?_ rfl | refine FrU.filter _ ?_ rfl)
    | with_reducible refine Fr.ite ?_ ?_
    | dsimp -zeta only
    | split

theorem State.measure_frame {m_ : Nat} {o_ : State} {s : State} {h : Bytes} {secure : Bytes} {normal : Bytes} (h_ : Fr m_ o_ s) (hm_ : Nat.land 524288 m_ = 524288) : Fr m_ o_ (State.measure s h secure normal) := by
  refine Fr.of h_ hm_ ?_
  clear h_ hm_
  have h_ := Fr.refl 524288 s
  unfold State.measure
  repeat' first
    | with_reducible assumption
    | exact (rfl : Nat.land _ _ = _)
    | (extract_lets +onlyGivenNames x
       first
         | (have hx : Fr 524288 s x := ?_
            (on_goal 1 => clear_value x)
            on_goal 2 => (unfold x; clear x))
         | (have hx : Fr 524288 s x.2 := ?_
            (on_goal 1 => clear_value x)
            on_goal 2 => (unfold x; clear x))
         | clear_value x)
    | with_reducible apply State.extendHm_frame
    | with_reducible apply State.extendHm3_frame
    | (simp -zeta -beta -iota only [Fr.mk_iff]; first | refine FrU.upd ?_ rfl | refine FrU.filter _ ?_ rfl)
    | dsimp -zeta only

theorem State.handOver_frame {m_ : Nat} {o_ : State} {s : State} {m : BootImage} {slotB : Bool} {fallback : Bool} (h_ : Fr m_ o_ s) (hm_ : Nat.land 612900883 m_ = 612900883) : Fr m_ o_ (State.handOver s m slotB fallback) := by
  refine Fr.of h_ hm_ ?_
  clear h_ hm_
  have h_ := Fr.refl 612900883 s
  unfold State.handOver
  repeat' first
    | with_reducible assumption
    | exact (rfl : Nat.land _ _ = _)
    | (extract_lets +onlyGivenNames x
       first
         | (have hx : Fr 612900883 s x := ?_
            (on_goal 1 => clear_value x)
            on_goal 2 => (unfold x; clear x))
         | (have hx : Fr 612900883 s x.2 := ?_
            (on_goal 1 => clear_value x)
            on_goal 2 => (unfold x; clear x))
         | clear_value x)
    | with_reducible apply State.setBytes_frame
    | with_reducible apply State.put_frame
    | with_reducible apply State.putBit_frame
    | with_reducible apply State.writeMode_frame
    | with_reducible apply State.measure_frame
    | with_reducible apply State.loadIdentity_frame
    | with_reducible apply State.loadScramble_frame
    | with_reducible apply State.showRoots_frame
    | with_reducible apply State.fillRoots_frame
    | with_reducible apply State.computeSeeds_frame
    | with_reducible apply State.moveLog_frame
    | with_reducible apply State.refreshDeviceState_frame
    | with_reducible apply State.hostEvent_frame
    | (simp -zeta -beta -iota only [Fr.mk_iff]; first | refine FrU.upd ?_ rfl | refine FrU.filter _ ?_ rfl)
    | with_reducible refine Fr.ite ?_ ?_
    | with_reducible refine Fr.ite2 ?_ ?_
    | dsimp -zeta only
    | split

theorem State.bootOtp_frame {m_ : Nat} {o_ : State} {s : State} {b : BootInputs} (h_ : Fr m_ o_ s) (hm_ : Nat.land 1149239297 m_ = 1149239297) : Fr m_ o_ (State.bootOtp s b) := by
  refine Fr.of h_ hm_ ?_
  clear h_ hm_
  have h_ := Fr.refl 1149239297 s
  unfold State.bootOtp
  repeat' first
    | with_reducible assumption
    | exact (rfl : Nat.land _ _ = _)
    | (extract_lets +onlyGivenNames x
       first
         | (have hx : Fr 1149239297 s x := ?_
            (on_goal 1 => clear_value x)
            on_goal 2 => (unfold x; clear x))
         | (have hx : Fr 1149239297 s x.2 := ?_
            (on_goal 1 => clear_value x)
            on_goal 2 => (unfold x; clear x))
         | clear_value x)
    | with_reducible refine Fr.foldl _ _ ?_ (fun _ _ _ => ?_)
    | with_reducible apply State.put_frame
    | with_reducible apply State.showPlca_frame
    | with_reducible apply State.putBit_frame
    | with_reducible apply State.showOtp_frame
    | (simp -zeta -beta -iota only [Fr.mk_iff]; first | refine FrU.upd ?_ rfl | refine FrU.filter _ ?_ rfl)
    | with_reducible refine Fr.ite ?_ ?_
    | dsimp -zeta only
    | split

theorem State.bootBbram_frame {m_ : Nat} {o_ : State} {s : State} {b : BootInputs} (h_ : Fr m_ o_ s) (hm_ : Nat.land 1878945333 m_ = 1878945333) : Fr m_ o_ (State.bootBbram s b) := by
  refine Fr.of h_ hm_ ?_
  clear h_ hm_
  have h_ := Fr.refl 1878945333 s
  unfold State.bootBbram
  repeat' first
    | with_reducible assumption
    | exact (rfl : Nat.land _ _ = _)
    | (extract_lets +onlyGivenNames x
       first
         | (have hx : Fr 1878945333 s x := ?_
            (on_goal 1 => clear_value x)
            on_goal 2 => (unfold x; clear x))
         | (have hx : Fr 1878945333 s x.2 := ?_
            (on_goal 1 => clear_value x)
            on_goal 2 => (unfold x; clear x))
         | clear_value x)
    | with_reducible apply State.extendHm_frame
    | with_reducible apply State.showAlarm_frame
    | with_reducible apply State.bbramFails_frame
    | with_reducible apply State.zeroiseStores_frame
    | (simp -zeta -beta -iota only [Fr.mk_iff]; first | refine FrU.upd ?_ rfl | refine FrU.filter _ ?_ rfl)
    | with_reducible refine Fr.ite ?_ ?_
    | dsimp -zeta only
    | split

theorem State.bootMemory_frame {m_ : Nat} {o_ : State} {s : State} {gib : Nat} {two : Bool} (h_ : Fr m_ o_ s) (hm_ : Nat.land 67371009 m_ = 67371009) : Fr m_ o_ (State.bootMemory s gib two) := by
  refine Fr.of h_ hm_ ?_
  clear h_ hm_
  have h_ := Fr.refl 67371009 s
  unfold State.bootMemory
  repeat' first
    | with_reducible assumption
    | exact (rfl : Nat.land _ _ = _)
    | (extract_lets +onlyGivenNames x
       first
         | (have hx : Fr 67371009 s x := ?_
            (on_goal 1 => clear_value x)
            on_goal 2 => (unfold x; clear x))
         | (have hx : Fr 67371009 s x.2 := ?_
            (on_goal 1 => clear_value x)
            on_goal 2 => (unfold x; clear x))
         | clear_value x)
    | with_reducible apply State.put_frame
    | with_reducible apply State.putBit_frame
    | with_reducible apply State.armMonitor_frame
    | (simp -zeta -beta -iota only [Fr.mk_iff]; first | refine FrU.upd ?_ rfl | refine FrU.filter _ ?_ rfl)
    | with_reducible refine Fr.ite ?_ ?_
    | dsimp -zeta only
    | split

theorem State.enterRecovery_frame {m_ : Nat} {o_ : State} {s : State} (h_ : Fr m_ o_ s) (hm_ : Nat.land 17 m_ = 17) : Fr m_ o_ (State.enterRecovery s) := by
  refine Fr.of h_ hm_ ?_
  clear h_ hm_
  have h_ := Fr.refl 17 s
  unfold State.enterRecovery
  repeat' first
    | with_reducible assumption
    | exact (rfl : Nat.land _ _ = _)
    | (extract_lets +onlyGivenNames x
       first
         | (have hx : Fr 17 s x := ?_
            (on_goal 1 => clear_value x)
            on_goal 2 => (unfold x; clear x))
         | (have hx : Fr 17 s x.2 := ?_
            (on_goal 1 => clear_value x)
            on_goal 2 => (unfold x; clear x))
         | clear_value x)
    | with_reducible apply State.put_frame
    | with_reducible apply State.putBit_frame
    | with_reducible apply State.setDeviceState_frame
    | dsimp -zeta only

theorem State.trySlot_frame {m_ : Nat} {o_ : State} {s : State} {m : BootImage} {slotB : Bool} (h_ : Fr m_ o_ s) (hm_ : Nat.land 1 m_ = 1) : Fr m_ o_ (State.trySlot s m slotB).2 := by
  refine Fr.of h_ hm_ ?_
  clear h_ hm_
  have h_ := Fr.refl 1 s
  unfold State.trySlot
  repeat' first
    | with_reducible assumption
    | exact (rfl : Nat.land _ _ = _)
    | (extract_lets +onlyGivenNames x
       first
         | (have hx : Fr 1 s x := ?_
            (on_goal 1 => clear_value x)
            on_goal 2 => (unfold x; clear x))
         | (have hx : Fr 1 s x.2 := ?_
            (on_goal 1 => clear_value x)
            on_goal 2 => (unfold x; clear x))
         | clear_value x)
    | with_reducible apply State.noteCosig_frame
    | with_reducible apply State.put_frame
    | with_reducible refine Fr.ite ?_ ?_
    | with_reducible refine Fr.ite2 ?_ ?_
    | dsimp -zeta only
    | split

theorem State.bootImages_frame {m_ : Nat} {o_ : State} {s : State} {b : BootInputs} (h_ : Fr m_ o_ s) (hm_ : Nat.land 612900883 m_ = 612900883) : Fr m_ o_ (State.bootImages s b) := by
  refine Fr.of h_ hm_ ?_
  clear h_ hm_
  have h_ := Fr.refl 612900883 s
  unfold State.bootImages
  repeat' first
    | with_reducible assumption
    | exact (rfl : Nat.land _ _ = _)
    | (extract_lets +onlyGivenNames x
       first
         | (have hx : Fr 612900883 s x := ?_
            (on_goal 1 => clear_value x)
            on_goal 2 => (unfold x; clear x))
         | (have hx : Fr 612900883 s x.2 := ?_
            (on_goal 1 => clear_value x)
            on_goal 2 => (unfold x; clear x))
         | clear_value x)
    | with_reducible apply State.enterRecovery_frame
    | with_reducible apply State.trySlot_frame
    | refine Fr.pair (by assumption) (State.trySlot_frame (h_ := ?_) ?_)
    | with_reducible apply State.handOver_frame
    | with_reducible refine Fr.ite ?_ ?_
    | with_reducible refine Fr.ite2 ?_ ?_
    | dsimp -zeta only
    | split

theorem State.boot_frame {m_ : Nat} {o_ : State} {s : State} {b : BootInputs} (h_ : Fr m_ o_ s) (hm_ : Nat.land 2147483647 m_ = 2147483647) : Fr m_ o_ (State.boot s b) := by
  refine Fr.of h_ hm_ ?_
  clear h_ hm_
  have h_ := Fr.refl 2147483647 s
  unfold State.boot
  repeat' first
    | with_reducible assumption
    | exact (rfl : Nat.land _ _ = _)
    | (extract_lets +onlyGivenNames x
       first
         | (have hx : Fr 2147483647 s x := ?_
            (on_goal 1 => clear_value x)
            on_goal 2 => (unfold x; clear x))
         | (have hx : Fr 2147483647 s x.2 := ?_
            (on_goal 1 => clear_value x)
            on_goal 2 => (unfold x; clear x))
         | clear_value x)
    | with_reducible apply State.mainReset_frame
    | with_reducible apply State.armMonitor_frame
    | with_reducible apply State.put_frame
    | with_reducible apply State.bootOtp_frame
    | with_reducible apply State.setDeviceState_frame
    | with_reducible apply State.bootBbram_frame
    | with_reducible apply State.putBit_frame
    | with_reducible apply State.bootImages_frame
    | with_reducible apply State.bootMemory_frame
    | (simp -zeta -beta -iota only [Fr.mk_iff]; first | refine FrU.upd ?_ rfl | refine FrU.filter _ ?_ rfl)
    | with_reducible refine Fr.ite ?_ ?_
    | with_reducible refine Fr.ite2 ?_ ?_
    | dsimp -zeta only
    | split

theorem State.tryBoot_frame {m_ : Nat} {o_ : State} {s : State} {b : BootInputs} (h_ : Fr m_ o_ s) (hm_ : Nat.land 2147483647 m_ = 2147483647) : Fr m_ o_ (State.tryBoot s b) := by
  refine Fr.of h_ hm_ ?_
  clear h_ hm_
  have h_ := Fr.refl 2147483647 s
  unfold State.tryBoot
  repeat' first
    | with_reducible assumption
    | exact (rfl : Nat.land _ _ = _)
    | with_reducible apply State.boot_frame
    | with_reducible refine Fr.ite ?_ ?_
    | split

theorem State.hold_frame {m_ : Nat} {o_ : State} {s : State} {wake : Option Nat} (h_ : Fr m_ o_ s) (hm_ : Nat.land 2147483647 m_ = 2147483647) : Fr m_ o_ (State.hold s wake) := by
  refine Fr.of h_ hm_ ?_
  clear h_ hm_
  have h_ := Fr.refl 2147483647 s
  unfold State.hold
  repeat' first
    | with_reducible assumption
    | exact (rfl : Nat.land _ _ = _)
    | (extract_lets +onlyGivenNames x
       first
         | (have hx : Fr 2147483647 s x := ?_
            (on_goal 1 => clear_value x)
            on_goal 2 => (unfold x; clear x))
         | (have hx : Fr 2147483647 s x.2 := ?_
            (on_goal 1 => clear_value x)
            on_goal 2 => (unfold x; clear x))
         | clear_value x)
    | with_reducible apply State.mainReset_frame
    | (simp -zeta -beta -iota only [Fr.mk_iff]; first | refine FrU.upd ?_ rfl | refine FrU.filter _ ?_ rfl)
    | dsimp -zeta only

theorem execPorNAssert_frame {m_ : Nat} {o_ : State} {s : State} (h_ : Fr m_ o_ s) (hm_ : Nat.land 2147483647 m_ = 2147483647) : FrO m_ o_ (execPorNAssert s) := by
  refine FrO.of h_ hm_ ?_
  clear h_ hm_
  have h_ := Fr.refl 2147483647 s
  unfold execPorNAssert
  repeat' first
    | with_reducible assumption
    | exact (rfl : Nat.land _ _ = _)
    | (extract_lets +onlyGivenNames x
       first
         | (have hx : Fr 2147483647 s x := ?_
            (on_goal 1 => clear_value x)
            on_goal 2 => (unfold x; clear x))
         | (have hx : Fr 2147483647 s x.2 := ?_
            (on_goal 1 => clear_value x)
            on_goal 2 => (unfold x; clear x))
         | clear_value x)
    | with_reducible apply State.hold_frame
    | with_reducible apply FrO.next
    | (simp -zeta -beta -iota only [Fr.mk_iff]; first | refine FrU.upd ?_ rfl | refine FrU.filter _ ?_ rfl)
    | with_reducible refine Fr.ite ?_ ?_
    | with_reducible refine FrO.ite ?_ ?_
    | dsimp -zeta only
    | split

theorem execPorNRelease_frame {m_ : Nat} {o_ : State} {b : BootInputs} {s : State} (h_ : Fr m_ o_ s) (hm_ : Nat.land 2147483647 m_ = 2147483647) : FrO m_ o_ (execPorNRelease b s) := by
  refine FrO.of h_ hm_ ?_
  clear h_ hm_
  have h_ := Fr.refl 2147483647 s
  unfold execPorNRelease
  repeat' first
    | with_reducible assumption
    | exact (rfl : Nat.land _ _ = _)
    | (extract_lets +onlyGivenNames x
       first
         | (have hx : Fr 2147483647 s x := ?_
            (on_goal 1 => clear_value x)
            on_goal 2 => (unfold x; clear x))
         | (have hx : Fr 2147483647 s x.2 := ?_
            (on_goal 1 => clear_value x)
            on_goal 2 => (unfold x; clear x))
         | clear_value x)
    | with_reducible apply State.tryBoot_frame
    | with_reducible apply FrO.next
    | (simp -zeta -beta -iota only [Fr.mk_iff]; first | refine FrU.upd ?_ rfl | refine FrU.filter _ ?_ rfl)
    | with_reducible refine Fr.ite ?_ ?_
    | with_reducible refine FrO.ite ?_ ?_
    | dsimp -zeta only
    | split

theorem execSysRstNAssert_frame {m_ : Nat} {o_ : State} {s : State} (h_ : Fr m_ o_ s) (hm_ : Nat.land 2147483647 m_ = 2147483647) : FrO m_ o_ (execSysRstNAssert s) := by
  refine FrO.of h_ hm_ ?_
  clear h_ hm_
  have h_ := Fr.refl 2147483647 s
  unfold execSysRstNAssert
  repeat' first
    | with_reducible assumption
    | exact (rfl : Nat.land _ _ = _)
    | (extract_lets +onlyGivenNames x
       first
         | (have hx : Fr 2147483647 s x := ?_
            (on_goal 1 => clear_value x)
            on_goal 2 => (unfold x; clear x))
         | (have hx : Fr 2147483647 s x.2 := ?_
            (on_goal 1 => clear_value x)
            on_goal 2 => (unfold x; clear x))
         | clear_value x)
    | with_reducible apply State.hold_frame
    | with_reducible apply FrO.next
    | (simp -zeta -beta -iota only [Fr.mk_iff]; first | refine FrU.upd ?_ rfl | refine FrU.filter _ ?_ rfl)
    | with_reducible refine Fr.ite ?_ ?_
    | with_reducible refine FrO.ite ?_ ?_
    | dsimp -zeta only
    | split

theorem execSysRstNRelease_frame {m_ : Nat} {o_ : State} {b : BootInputs} {s : State} (h_ : Fr m_ o_ s) (hm_ : Nat.land 2147483647 m_ = 2147483647) : FrO m_ o_ (execSysRstNRelease b s) := by
  refine FrO.of h_ hm_ ?_
  clear h_ hm_
  have h_ := Fr.refl 2147483647 s
  unfold execSysRstNRelease
  repeat' first
    | with_reducible assumption
    | exact (rfl : Nat.land _ _ = _)
    | (extract_lets +onlyGivenNames x
       first
         | (have hx : Fr 2147483647 s x := ?_
            (on_goal 1 => clear_value x)
            on_goal 2 => (unfold x; clear x))
         | (have hx : Fr 2147483647 s x.2 := ?_
            (on_goal 1 => clear_value x)
            on_goal 2 => (unfold x; clear x))
         | clear_value x)
    | with_reducible apply State.tryBoot_frame
    | with_reducible apply FrO.next
    | (simp -zeta -beta -iota only [Fr.mk_iff]; first | refine FrU.upd ?_ rfl | refine FrU.filter _ ?_ rfl)
    | with_reducible refine Fr.ite ?_ ?_
    | with_reducible refine FrO.ite ?_ ?_
    | split

theorem State.wake_frame {m_ : Nat} {o_ : State} {s : State} {b : BootInputs} (h_ : Fr m_ o_ s) (hm_ : Nat.land 2147483647 m_ = 2147483647) : Fr m_ o_ (State.wake s b) := by
  refine Fr.of h_ hm_ ?_
  clear h_ hm_
  have h_ := Fr.refl 2147483647 s
  unfold State.wake
  repeat' first
    | with_reducible assumption
    | exact (rfl : Nat.land _ _ = _)
    | (extract_lets +onlyGivenNames x
       first
         | (have hx : Fr 2147483647 s x := ?_
            (on_goal 1 => clear_value x)
            on_goal 2 => (unfold x; clear x))
         | (have hx : Fr 2147483647 s x.2 := ?_
            (on_goal 1 => clear_value x)
            on_goal 2 => (unfold x; clear x))
         | clear_value x)
    | with_reducible apply State.tryBoot_frame
    | (simp -zeta -beta -iota only [Fr.mk_iff]; first | refine FrU.upd ?_ rfl | refine FrU.filter _ ?_ rfl)

theorem execSlpWakeEdge_frame {m_ : Nat} {o_ : State} {b : BootInputs} {s : State} (h_ : Fr m_ o_ s) (hm_ : Nat.land 2147483647 m_ = 2147483647) : FrO m_ o_ (execSlpWakeEdge b s) := by
  refine FrO.of h_ hm_ ?_
  clear h_ hm_
  have h_ := Fr.refl 2147483647 s
  unfold execSlpWakeEdge
  repeat' first
    | with_reducible assumption
    | exact (rfl : Nat.land _ _ = _)
    | (extract_lets +onlyGivenNames x
       first
         | (have hx : Fr 2147483647 s x := ?_
            (on_goal 1 => clear_value x)
            on_goal 2 => (unfold x; clear x))
         | (have hx : Fr 2147483647 s x.2 := ?_
            (on_goal 1 => clear_value x)
            on_goal 2 => (unfold x; clear x))
         | clear_value x)
    | with_reducible apply State.wake_frame
    | with_reducible apply FrO.next
    | (simp -zeta -beta -iota only [Fr.mk_iff]; first | refine FrU.upd ?_ rfl | refine FrU.filter _ ?_ rfl)
    | with_reducible refine Fr.ite ?_ ?_
    | with_reducible refine Fr.ite2 ?_ ?_
    | with_reducible refine FrO.ite ?_ ?_
    | dsimp -zeta only
    | split

theorem execVddAonLoss_frame {m_ : Nat} {o_ : State} {cellMv : Nat} {s : State} (h_ : Fr m_ o_ s) (hm_ : Nat.land 2147483647 m_ = 2147483647) : FrO m_ o_ (execVddAonLoss cellMv s) := by
  refine FrO.of h_ hm_ ?_
  clear h_ hm_
  have h_ := Fr.refl 2147483647 s
  unfold execVddAonLoss
  repeat' first
    | with_reducible assumption
    | exact (rfl : Nat.land _ _ = _)
    | (extract_lets +onlyGivenNames x
       first
         | (have hx : Fr 2147483647 s x := ?_
            (on_goal 1 => clear_value x)
            on_goal 2 => (unfold x; clear x))
         | (have hx : Fr 2147483647 s x.2 := ?_
            (on_goal 1 => clear_value x)
            on_goal 2 => (unfold x; clear x))
         | clear_value x)
    | with_reducible apply State.mainReset_frame
    | with_reducible apply FrO.next
    | (simp -zeta -beta -iota only [Fr.mk_iff]; first | refine FrU.upd ?_ rfl | refine FrU.filter _ ?_ rfl)
    | with_reducible refine Fr.ite ?_ ?_
    | with_reducible refine FrO.ite ?_ ?_
    | dsimp -zeta only
    | split

theorem execVddAonReturn_frame {m_ : Nat} {o_ : State} {b : BootInputs} {s : State} (h_ : Fr m_ o_ s) (hm_ : Nat.land 2147483647 m_ = 2147483647) : FrO m_ o_ (execVddAonReturn b s) := by
  refine FrO.of h_ hm_ ?_
  clear h_ hm_
  have h_ := Fr.refl 2147483647 s
  unfold execVddAonReturn
  repeat' first
    | with_reducible assumption
    | exact (rfl : Nat.land _ _ = _)
    | (extract_lets +onlyGivenNames x
       first
         | (have hx : Fr 2147483647 s x := ?_
            (on_goal 1 => clear_value x)
            on_goal 2 => (unfold x; clear x))
         | (have hx : Fr 2147483647 s x.2 := ?_
            (on_goal 1 => clear_value x)
            on_goal 2 => (unfold x; clear x))
         | clear_value x)
    | with_reducible apply State.tryBoot_frame
    | with_reducible apply FrO.next
    | (simp -zeta -beta -iota only [Fr.mk_iff]; first | refine FrU.upd ?_ rfl | refine FrU.filter _ ?_ rfl)
    | with_reducible refine Fr.ite ?_ ?_
    | with_reducible refine FrO.ite ?_ ?_
    | split

theorem execBackupSupplyReturn_frame {m_ : Nat} {o_ : State} {s : State} (h_ : Fr m_ o_ s) (hm_ : Nat.land 134217728 m_ = 134217728) : FrO m_ o_ (execBackupSupplyReturn s) := by
  refine FrO.of h_ hm_ ?_
  clear h_ hm_
  have h_ := Fr.refl 134217728 s
  unfold execBackupSupplyReturn
  repeat' first
    | with_reducible assumption
    | exact (rfl : Nat.land _ _ = _)
    | (extract_lets +onlyGivenNames x
       first
         | (have hx : Fr 134217728 s x := ?_
            (on_goal 1 => clear_value x)
            on_goal 2 => (unfold x; clear x))
         | (have hx : Fr 134217728 s x.2 := ?_
            (on_goal 1 => clear_value x)
            on_goal 2 => (unfold x; clear x))
         | clear_value x)
    | with_reducible apply FrO.next
    | (simp -zeta -beta -iota only [Fr.mk_iff]; first | refine FrU.upd ?_ rfl | refine FrU.filter _ ?_ rfl)
    | with_reducible refine Fr.ite ?_ ?_
    | with_reducible refine FrO.ite ?_ ?_
    | split

theorem execGpioRisingEdge_frame {m_ : Nat} {o_ : State} {n : Nat} {s : State} (h_ : Fr m_ o_ s) (hm_ : Nat.land 134217729 m_ = 134217729) : FrO m_ o_ (execGpioRisingEdge n s) := by
  refine FrO.of h_ hm_ ?_
  clear h_ hm_
  have h_ := Fr.refl 134217729 s
  unfold execGpioRisingEdge
  repeat' first
    | with_reducible assumption
    | exact (rfl : Nat.land _ _ = _)
    | with_reducible apply State.raiseIrq_frame
    | with_reducible apply FrO.next
    | with_reducible refine Fr.ite ?_ ?_
    | with_reducible refine FrO.ite ?_ ?_
    | split

theorem execPerstNRelease_frame {m_ : Nat} {o_ : State} {s : State} (h_ : Fr m_ o_ s) (hm_ : Nat.land 67108881 m_ = 67108881) : FrO m_ o_ (execPerstNRelease s) := by
  refine FrO.of h_ hm_ ?_
  clear h_ hm_
  have h_ := Fr.refl 67108881 s
  unfold execPerstNRelease
  repeat' first
    | with_reducible assumption
    | exact (rfl : Nat.land _ _ = _)
    | (extract_lets +onlyGivenNames x
       first
         | (have hx : Fr 67108881 s x := ?_
            (on_goal 1 => clear_value x)
            on_goal 2 => (unfold x; clear x))
         | (have hx : Fr 67108881 s x.2 := ?_
            (on_goal 1 => clear_value x)
            on_goal 2 => (unfold x; clear x))
         | clear_value x)
    | with_reducible apply State.armMonitor_frame
    | with_reducible apply FrO.next
    | (simp -zeta -beta -iota only [Fr.mk_iff]; first | refine FrU.upd ?_ rfl | refine FrU.filter _ ?_ rfl)
    | with_reducible refine Fr.ite ?_ ?_
    | with_reducible refine FrO.ite ?_ ?_
    | dsimp -zeta only
    | split

theorem execLinkRateChange_frame {m_ : Nat} {o_ : State} {rate : Nat} {width : Nat} {s : State} (h_ : Fr m_ o_ s) (hm_ : Nat.land 201326609 m_ = 201326609) : FrO m_ o_ (execLinkRateChange rate width s) := by
  refine FrO.of h_ hm_ ?_
  clear h_ hm_
  have h_ := Fr.refl 201326609 s
  unfold execLinkRateChange
  repeat' first
    | with_reducible assumption
    | exact (rfl : Nat.land _ _ = _)
    | (extract_lets +onlyGivenNames x
       first
         | (have hx : Fr 201326609 s x := ?_
            (on_goal 1 => clear_value x)
            on_goal 2 => (unfold x; clear x))
         | (have hx : Fr 201326609 s x.2 := ?_
            (on_goal 1 => clear_value x)
            on_goal 2 => (unfold x; clear x))
         | clear_value x)
    | with_reducible apply State.wakeNap_frame
    | with_reducible apply State.armMonitor_frame
    | with_reducible apply FrO.next
    | (simp -zeta -beta -iota only [Fr.mk_iff]; first | refine FrU.upd ?_ rfl | refine FrU.filter _ ?_ rfl)
    | with_reducible refine Fr.ite ?_ ?_
    | with_reducible refine FrO.ite ?_ ?_
    | dsimp -zeta only
    | split

theorem execRecoveryGo_frame {m_ : Nat} {o_ : State} {readable : Bool} {s : State} (h_ : Fr m_ o_ s) (hm_ : Nat.land 747118611 m_ = 747118611) : FrO m_ o_ (execRecoveryGo readable s) := by
  refine FrO.of h_ hm_ ?_
  clear h_ hm_
  have h_ := Fr.refl 747118611 s
  unfold execRecoveryGo
  repeat' first
    | with_reducible assumption
    | exact (rfl : Nat.land _ _ = _)
    | (extract_lets +onlyGivenNames x
       first
         | (have hx : Fr 747118611 s x := ?_
            (on_goal 1 => clear_value x)
            on_goal 2 => (unfold x; clear x))
         | (have hx : Fr 747118611 s x.2 := ?_
            (on_goal 1 => clear_value x)
            on_goal 2 => (unfold x; clear x))
         | clear_value x)
    | with_reducible apply State.wakeNap_frame
    | with_reducible apply State.put_frame
    | with_reducible apply State.noteCosig_frame
    | with_reducible apply State.handOver_frame
    | with_reducible apply FrO.next
    | (simp -zeta -beta -iota only [Fr.mk_iff]; first | refine FrU.upd ?_ rfl | refine FrU.filter _ ?_ rfl)
    | with_reducible refine Fr.ite ?_ ?_
    | with_reducible refine Fr.ite2 ?_ ?_
    | with_reducible refine FrO.ite ?_ ?_
    | dsimp -zeta only
    | split

theorem State.showTime_frame {m_ : Nat} {o_ : State} {s : State} (h_ : Fr m_ o_ s) (hm_ : Nat.land 1 m_ = 1) : Fr m_ o_ (State.showTime s) := by
  refine Fr.of h_ hm_ ?_
  clear h_ hm_
  have h_ := Fr.refl 1 s
  unfold State.showTime
  repeat' first
    | with_reducible assumption
    | exact (rfl : Nat.land _ _ = _)
    | (extract_lets +onlyGivenNames x
       first
         | (have hx : Fr 1 s x := ?_
            (on_goal 1 => clear_value x)
            on_goal 2 => (unfold x; clear x))
         | (have hx : Fr 1 s x.2 := ?_
            (on_goal 1 => clear_value x)
            on_goal 2 => (unfold x; clear x))
         | clear_value x)
    | with_reducible apply State.putBit_frame
    | with_reducible apply State.put_frame
    | dsimp -zeta only

theorem State.modTime_frame {m_ : Nat} {o_ : State} {s : State} {f : TimeUnit → TimeUnit} (h_ : Fr m_ o_ s) (hm_ : Nat.land 4096 m_ = 4096) : Fr m_ o_ (State.modTime s f) := by
  refine Fr.of h_ hm_ ?_
  clear h_ hm_
  have h_ := Fr.refl 4096 s
  unfold State.modTime
  repeat' first
    | with_reducible assumption
    | exact (rfl : Nat.land _ _ = _)
    | (extract_lets +onlyGivenNames x
       first
         | (have hx : Fr 4096 s x := ?_
            (on_goal 1 => clear_value x)
            on_goal 2 => (unfold x; clear x))
         | (have hx : Fr 4096 s x.2 := ?_
            (on_goal 1 => clear_value x)
            on_goal 2 => (unfold x; clear x))
         | clear_value x)
    | (simp -zeta -beta -iota only [Fr.mk_iff]; first | refine FrU.upd ?_ rfl | refine FrU.filter _ ?_ rfl)

theorem State.setTimeState_frame {m_ : Nat} {o_ : State} {s : State} {st : TimeState} (h_ : Fr m_ o_ s) (hm_ : Nat.land 134221841 m_ = 134221841) : Fr m_ o_ (State.setTimeState s st) := by
  refine Fr.of h_ hm_ ?_
  clear h_ hm_
  have h_ := Fr.refl 134221841 s
  unfold State.setTimeState
  repeat' first
    | with_reducible assumption
    | exact (rfl : Nat.land _ _ = _)
    | (extract_lets +onlyGivenNames x
       first
         | (have hx : Fr 134221841 s x := ?_
            (on_goal 1 => clear_value x)
            on_goal 2 => (unfold x; clear x))
         | (have hx : Fr 134221841 s x.2 := ?_
            (on_goal 1 => clear_value x)
            on_goal 2 => (unfold x; clear x))
         | clear_value x)
    | with_reducible apply State.modTime_frame
    | with_reducible apply State.put_frame
    | with_reducible apply State.putBit_frame
    | with_reducible apply State.hostEvent_frame
    | with_reducible apply State.raiseIrq_frame
    | (simp -zeta -beta -iota only [Fr.mk_iff]; first | refine FrU.upd ?_ rfl | refine FrU.filter _ ?_ rfl)
    | with_reducible refine Fr.ite ?_ ?_
    | dsimp -zeta only
    | split

theorem State.throttleTick_frame {m_ : Nat} {o_ : State} {s : State} (h_ : Fr m_ o_ s) (hm_ : Nat.land 67108865 m_ = 67108865) : Fr m_ o_ (State.throttleTick s) := by
  refine Fr.of h_ hm_ ?_
  clear h_ hm_
  have h_ := Fr.refl 67108865 s
  unfold State.throttleTick
  repeat' first
    | with_reducible assumption
    | exact (rfl : Nat.land _ _ = _)
    | (extract_lets +onlyGivenNames x
       first
         | (have hx : Fr 67108865 s x := ?_
            (on_goal 1 => clear_value x)
            on_goal 2 => (unfold x; clear x))
         | (have hx : Fr 67108865 s x.2 := ?_
            (on_goal 1 => clear_value x)
            on_goal 2 => (unfold x; clear x))
         | clear_value x)
    | with_reducible apply State.showAlarmN_frame
    | with_reducible apply State.putBit_frame
    | (simp -zeta -beta -iota only [Fr.mk_iff]; first | refine FrU.upd ?_ rfl | refine FrU.filter _ ?_ rfl)
    | with_reducible refine Fr.ite ?_ ?_
    | with_reducible refine Fr.ite2 ?_ ?_
    | dsimp -zeta only
    | split

theorem State.tickFirst_frame {m_ : Nat} {o_ : State} {s : State} {ns : Nat} (h_ : Fr m_ o_ s) (hm_ : Nat.land 486560465 m_ = 486560465) : Fr m_ o_ (State.tickFirst s ns) := by
  refine Fr.of h_ hm_ ?_
  clear h_ hm_
  have h_ := Fr.refl 486560465 s
  unfold State.tickFirst
  repeat' first
    | with_reducible assumption
    | exact (rfl : Nat.land _ _ = _)
    | (extract_lets +onlyGivenNames x
       first
         | (have hx : Fr 486560465 s x := ?_
            (on_goal 1 => clear_value x)
            on_goal 2 => (unfold x; clear x))
         | (have hx : Fr 486560465 s x.2 := ?_
            (on_goal 1 => clear_value x)
            on_goal 2 => (unfold x; clear x))
         | clear_value x)
    | with_reducible apply State.closeAtTick_frame
    | with_reducible apply State.wakeNap_frame
    | with_reducible apply State.modTime_frame
    | with_reducible apply State.takeSettings_frame
    | with_reducible apply State.throttleTick_frame
    | (simp -zeta -beta -iota only [Fr.mk_iff]; first | refine FrU.upd ?_ rfl | refine FrU.filter _ ?_ rfl)
    | with_reducible refine Fr.ite ?_ ?_
    | with_reducible refine Fr.ite2 ?_ ?_
    | dsimp -zeta only
    | split

theorem State.tickLast_frame {m_ : Nat} {o_ : State} {s : State} (h_ : Fr m_ o_ s) (hm_ : Nat.land 1262452595 m_ = 1262452595) : Fr m_ o_ (State.tickLast s) := by
  refine Fr.of h_ hm_ ?_
  clear h_ hm_
  have h_ := Fr.refl 1262452595 s
  unfold State.tickLast
  repeat' first
    | with_reducible assumption
    | exact (rfl : Nat.land _ _ = _)
    | (extract_lets +onlyGivenNames x
       first
         | (have hx : Fr 1262452595 s x := ?_
            (on_goal 1 => clear_value x)
            on_goal 2 => (unfold x; clear x))
         | (have hx : Fr 1262452595 s x.2 := ?_
            (on_goal 1 => clear_value x)
            on_goal 2 => (unfold x; clear x))
         | clear_value x)
    | with_reducible apply State.rngTick_frame
    | with_reducible apply State.dueMinute_frame
    | with_reducible apply State.putBit_frame
    | with_reducible apply State.gateSweep_frame
    | with_reducible apply State.heldEnables_frame
    | with_reducible apply State.showTime_frame
    | with_reducible apply State.showStrand_frame
    | with_reducible apply State.notePeaks_frame
    | with_reducible apply State.settleMailbox_frame
    | with_reducible apply State.flushReplies_frame
    | with_reducible apply State.settle_frame
    | with_reducible refine Fr.ite ?_ ?_
    | dsimp -zeta only
    | split

theorem State.boundary_frame {m_ : Nat} {o_ : State} {s : State} {late : Bool} (h_ : Fr m_ o_ s) (hm_ : Nat.land 4096 m_ = 4096) : Fr m_ o_ (State.boundary s late) := by
  refine Fr.of h_ hm_ ?_
  clear h_ hm_
  have h_ := Fr.refl 4096 s
  unfold State.boundary
  repeat' first
    | with_reducible assumption
    | exact (rfl : Nat.land _ _ = _)
    | (extract_lets +onlyGivenNames x
       first
         | (have hx : Fr 4096 s x := ?_
            (on_goal 1 => clear_value x)
            on_goal 2 => (unfold x; clear x))
         | (have hx : Fr 4096 s x.2 := ?_
            (on_goal 1 => clear_value x)
            on_goal 2 => (unfold x; clear x))
         | clear_value x)
    | with_reducible apply State.modTime_frame
    | (simp -zeta -beta -iota only [Fr.mk_iff]; first | refine FrU.upd ?_ rfl | refine FrU.filter _ ?_ rfl)
    | dsimp -zeta only

theorem execTickIncrement_frame {m_ : Nat} {o_ : State} {s : State} (h_ : Fr m_ o_ s) (hm_ : Nat.land 1597997043 m_ = 1597997043) : FrO m_ o_ (execTickIncrement s) := by
  refine FrO.of h_ hm_ ?_
  clear h_ hm_
  have h_ := Fr.refl 1597997043 s
  unfold execTickIncrement
  repeat' first
    | with_reducible assumption
    | exact (rfl : Nat.land _ _ = _)
    | (extract_lets +onlyGivenNames x
       first
         | (have hx : Fr 1597997043 s x := ?_
            (on_goal 1 => clear_value x)
            on_goal 2 => (unfold x; clear x))
         | (have hx : Fr 1597997043 s x.2 := ?_
            (on_goal 1 => clear_value x)
            on_goal 2 => (unfold x; clear x))
         | clear_value x)
    | with_reducible apply State.tickFirst_frame
    | with_reducible apply State.boundary_frame
    | with_reducible apply State.tickLast_frame
    | with_reducible apply FrO.next
    | with_reducible refine Fr.ite ?_ ?_
    | with_reducible refine FrO.ite ?_ ?_
    | dsimp -zeta only
    | split

theorem State.discardAnchor_frame {m_ : Nat} {o_ : State} {s : State} (h_ : Fr m_ o_ s) (hm_ : Nat.land 134232081 m_ = 134232081) : Fr m_ o_ (State.discardAnchor s) := by
  refine Fr.of h_ hm_ ?_
  clear h_ hm_
  have h_ := Fr.refl 134232081 s
  unfold State.discardAnchor
  repeat' first
    | with_reducible assumption
    | exact (rfl : Nat.land _ _ = _)
    | (extract_lets +onlyGivenNames x
       first
         | (have hx : Fr 134232081 s x := ?_
            (on_goal 1 => clear_value x)
            on_goal 2 => (unfold x; clear x))
         | (have hx : Fr 134232081 s x.2 := ?_
            (on_goal 1 => clear_value x)
            on_goal 2 => (unfold x; clear x))
         | clear_value x)
    | with_reducible apply State.modTime_frame
    | with_reducible apply State.setTimeState_frame
    | with_reducible apply State.closeMinute_frame
    | with_reducible apply State.showTime_frame
    | with_reducible apply State.event_frame
    | (simp -zeta -beta -iota only [Fr.mk_iff]; first | refine FrU.upd ?_ rfl | refine FrU.filter _ ?_ rfl)
    | with_reducible refine Fr.ite ?_ ?_
    | dsimp -zeta only
    | split

theorem execHoldoverLoss_frame {m_ : Nat} {o_ : State} {s : State} (h_ : Fr m_ o_ s) (hm_ : Nat.land 134232081 m_ = 134232081) : FrO m_ o_ (execHoldoverLoss s) := by
  refine FrO.of h_ hm_ ?_
  clear h_ hm_
  have h_ := Fr.refl 134232081 s
  unfold execHoldoverLoss
  repeat' first
    | with_reducible assumption
    | exact (rfl : Nat.land _ _ = _)
    | with_reducible apply State.discardAnchor_frame
    | with_reducible apply FrO.next
    | with_reducible refine Fr.ite ?_ ?_
    | with_reducible refine FrO.ite ?_ ?_
    | split

theorem execHoldoverEntry_frame {m_ : Nat} {o_ : State} {s : State} (h_ : Fr m_ o_ s) (hm_ : Nat.land 134230033 m_ = 134230033) : FrO m_ o_ (execHoldoverEntry s) := by
  refine FrO.of h_ hm_ ?_
  clear h_ hm_
  have h_ := Fr.refl 134230033 s
  unfold execHoldoverEntry
  repeat' first
    | with_reducible assumption
    | exact (rfl : Nat.land _ _ = _)
    | (extract_lets +onlyGivenNames x
       first
         | (have hx : Fr 134230033 s x := ?_
            (on_goal 1 => clear_value x)
            on_goal 2 => (unfold x; clear x))
         | (have hx : Fr 134230033 s x.2 := ?_
            (on_goal 1 => clear_value x)
            on_goal 2 => (unfold x; clear x))
         | clear_value x)
    | with_reducible apply State.modTime_frame
    | with_reducible apply State.showTime_frame
    | with_reducible apply State.event_frame
    | with_reducible apply State.setTimeState_frame
    | with_reducible apply FrO.next
    | (simp -zeta -beta -iota only [Fr.mk_iff]; first | refine FrU.upd ?_ rfl | refine FrU.filter _ ?_ rfl)
    | with_reducible refine Fr.ite ?_ ?_
    | with_reducible refine FrO.ite ?_ ?_
    | dsimp -zeta only
    | split

theorem State.acceptEdge_frame {m_ : Nat} {o_ : State} {s : State} {since : Nat} {phase : Int} (h_ : Fr m_ o_ s) (hm_ : Nat.land 4097 m_ = 4097) : Fr m_ o_ (State.acceptEdge s since phase) := by
  refine Fr.of h_ hm_ ?_
  clear h_ hm_
  have h_ := Fr.refl 4097 s
  unfold State.acceptEdge
  repeat' first
    | with_reducible assumption
    | exact (rfl : Nat.land _ _ = _)
    | (extract_lets +onlyGivenNames x
       first
         | (have hx : Fr 4097 s x := ?_
            (on_goal 1 => clear_value x)
            on_goal 2 => (unfold x; clear x))
         | (have hx : Fr 4097 s x.2 := ?_
            (on_goal 1 => clear_value x)
            on_goal 2 => (unfold x; clear x))
         | clear_value x)
    | with_reducible apply State.modTime_frame
    | with_reducible apply State.put_frame
    | (simp -zeta -beta -iota only [Fr.mk_iff]; first | refine FrU.upd ?_ rfl | refine FrU.filter _ ?_ rfl)
    | dsimp -zeta only

theorem State.applyTod_frame {m_ : Nat} {o_ : State} {s : State} (h_ : Fr m_ o_ s) (hm_ : Nat.land 134232081 m_ = 134232081) : Fr m_ o_ (State.applyTod s) := by
  refine Fr.of h_ hm_ ?_
  clear h_ hm_
  have h_ := Fr.refl 134232081 s
  unfold State.applyTod
  repeat' first
    | with_reducible assumption
    | exact (rfl : Nat.land _ _ = _)
    | (extract_lets +onlyGivenNames x
       first
         | (have hx : Fr 134232081 s x := ?_
            (on_goal 1 => clear_value x)
            on_goal 2 => (unfold x; clear x))
         | (have hx : Fr 134232081 s x.2 := ?_
            (on_goal 1 => clear_value x)
            on_goal 2 => (unfold x; clear x))
         | clear_value x)
    | with_reducible apply State.modTime_frame
    | with_reducible apply State.closeMinute_frame
    | with_reducible apply State.setTimeState_frame
    | with_reducible apply State.event_frame
    | (simp -zeta -beta -iota only [Fr.mk_iff]; first | refine FrU.upd ?_ rfl | refine FrU.filter _ ?_ rfl)
    | dsimp -zeta only
    | split

theorem State.cutWindow_frame {m_ : Nat} {o_ : State} {s : State} {minute : Nat} (h_ : Fr m_ o_ s) (hm_ : Nat.land 4096 m_ = 4096) : Fr m_ o_ (State.cutWindow s minute) := by
  refine Fr.of h_ hm_ ?_
  clear h_ hm_
  have h_ := Fr.refl 4096 s
  unfold State.cutWindow
  repeat' first
    | with_reducible assumption
    | exact (rfl : Nat.land _ _ = _)
    | (extract_lets +onlyGivenNames x
       first
         | (have hx : Fr 4096 s x := ?_
            (on_goal 1 => clear_value x)
            on_goal 2 => (unfold x; clear x))
         | (have hx : Fr 4096 s x.2 := ?_
            (on_goal 1 => clear_value x)
            on_goal 2 => (unfold x; clear x))
         | clear_value x)
    | with_reducible apply State.modTime_frame
    | (simp -zeta -beta -iota only [Fr.mk_iff]; first | refine FrU.upd ?_ rfl | refine FrU.filter _ ?_ rfl)
    | dsimp -zeta only
    | split

theorem State.reAnchor_frame {m_ : Nat} {o_ : State} {s : State} {h : Nat} {e : Int} {second : Nat} (h_ : Fr m_ o_ s) (hm_ : Nat.land 134232081 m_ = 134232081) : Fr m_ o_ (State.reAnchor s h e second) := by
  refine Fr.of h_ hm_ ?_
  clear h_ hm_
  have h_ := Fr.refl 134232081 s
  unfold State.reAnchor
  repeat' first
    | with_reducible assumption
    | exact (rfl : Nat.land _ _ = _)
    | (extract_lets +onlyGivenNames x
       first
         | (have hx : Fr 134232081 s x := ?_
            (on_goal 1 => clear_value x)
            on_goal 2 => (unfold x; clear x))
         | (have hx : Fr 134232081 s x.2 := ?_
            (on_goal 1 => clear_value x)
            on_goal 2 => (unfold x; clear x))
         | clear_value x)
    | with_reducible apply State.modTime_frame
    | with_reducible apply State.event_frame
    | with_reducible apply State.dueMinute_frame
    | with_reducible apply State.cutWindow_frame
    | with_reducible apply State.setTimeState_frame
    | with_reducible apply State.discardAnchor_frame
    | (simp -zeta -beta -iota only [Fr.mk_iff]; first | refine FrU.upd ?_ rfl | refine FrU.filter _ ?_ rfl)
    | with_reducible refine Fr.ite ?_ ?_
    | dsimp -zeta only
    | split

theorem State.lock_frame {m_ : Nat} {o_ : State} {s : State} {subNs : Nat} {qual : List Nat} (h_ : Fr m_ o_ s) (hm_ : Nat.land 1597997043 m_ = 1597997043) : Fr m_ o_ (State.lock s subNs qual) := by
  refine Fr.of h_ hm_ ?_
  clear h_ hm_
  have h_ := Fr.refl 1597997043 s
  unfold State.lock
  repeat' first
    | with_reducible assumption
    | exact (rfl : Nat.land _ _ = _)
    | (extract_lets +onlyGivenNames x
       first
         | (have hx : Fr 1597997043 s x := ?_
            (on_goal 1 => clear_value x)
            on_goal 2 => (unfold x; clear x))
         | (have hx : Fr 1597997043 s x.2 := ?_
            (on_goal 1 => clear_value x)
            on_goal 2 => (unfold x; clear x))
         | clear_value x)
    | with_reducible apply State.tickFirst_frame
    | with_reducible apply State.boundary_frame
    | with_reducible apply State.modTime_frame
    | with_reducible apply State.put_frame
    | with_reducible apply State.discardAnchor_frame
    | with_reducible apply State.reAnchor_frame
    | with_reducible apply State.tickLast_frame
    | (simp -zeta -beta -iota only [Fr.mk_iff]; first | refine FrU.upd ?_ rfl | refine FrU.filter _ ?_ rfl)
    | with_reducible refine Fr.ite ?_ ?_
    | with_reducible refine Fr.ite2 ?_ ?_
    | dsimp -zeta only
    | split

theorem execPpsEdge_frame {m_ : Nat} {o_ : State} {spacingNs : Nat} {subNs : Nat} {s : State} (h_ : Fr m_ o_ s) (hm_ : Nat.land 1597997043 m_ = 1597997043) : FrO m_ o_ (execPpsEdge spacingNs subNs s) := by
  refine FrO.of h_ hm_ ?_
  clear h_ hm_
  have h_ := Fr.refl 1597997043 s
  unfold execPpsEdge
  repeat' first
    | with_reducible assumption
    | exact (rfl : Nat.land _ _ = _)
    | (extract_lets +onlyGivenNames x
       first
         | (have hx : Fr 1597997043 s x := ?_
            (on_goal 1 => clear_value x)
            on_goal 2 => (unfold x; clear x))
         | (have hx : Fr 1597997043 s x.2 := ?_
            (on_goal 1 => clear_value x)
            on_goal 2 => (unfold x; clear x))
         | clear_value x)
    | with_reducible apply State.lock_frame
    | with_reducible apply State.showTime_frame
    | with_reducible apply State.modTime_frame
    | with_reducible apply State.acceptEdge_frame
    | with_reducible apply State.tickFirst_frame
    | with_reducible apply State.applyTod_frame
    | with_reducible apply State.boundary_frame
    | with_reducible apply State.tickLast_frame
    | with_reducible apply State.event_frame
    | with_reducible apply State.count_frame
    | with_reducible apply FrO.next
    | (simp -zeta -beta -iota only [Fr.mk_iff]; first | refine FrU.upd ?_ rfl | refine FrU.filter _ ?_ rfl)
    | with_reducible refine Fr.ite ?_ ?_
    | with_reducible refine FrO.ite ?_ ?_
    | dsimp -zeta only
    | split

theorem execPpsWindowTimeout_frame {m_ : Nat} {o_ : State} {s : State} (h_ : Fr m_ o_ s) (hm_ : Nat.land 1597997043 m_ = 1597997043) : FrO m_ o_ (execPpsWindowTimeout s) := by
  refine FrO.of h_ hm_ ?_
  clear h_ hm_
  have h_ := Fr.refl 1597997043 s
  unfold execPpsWindowTimeout
  repeat' first
    | with_reducible assumption
    | exact (rfl : Nat.land _ _ = _)
    | (extract_lets +onlyGivenNames x
       first
         | (have hx : Fr 1597997043 s x := ?_
            (on_goal 1 => clear_value x)
            on_goal 2 => (unfold x; clear x))
         | (have hx : Fr 1597997043 s x.2 := ?_
            (on_goal 1 => clear_value x)
            on_goal 2 => (unfold x; clear x))
         | clear_value x)
    | with_reducible apply State.boundary_frame
    | with_reducible apply State.tickFirst_frame
    | with_reducible apply State.dueMinute_frame
    | with_reducible apply State.modTime_frame
    | with_reducible apply State.event_frame
    | with_reducible apply State.odStore_frame
    | with_reducible apply State.tickLast_frame
    | with_reducible apply FrO.next
    | (simp -zeta -beta -iota only [Fr.mk_iff]; first | refine FrU.upd ?_ rfl | refine FrU.filter _ ?_ rfl)
    | with_reducible refine Fr.ite ?_ ?_
    | with_reducible refine Fr.ite2 ?_ ?_
    | with_reducible refine FrO.ite ?_ ?_
    | dsimp -zeta only
    | split

theorem State.nextPulse_frame {m_ : Nat} {o_ : State} {s : State} {v : Nat} {detail : Bytes} (h_ : Fr m_ o_ s) (hm_ : Nat.land 12289 m_ = 12289) : Fr m_ o_ (State.nextPulse s v detail) := by
  refine Fr.of h_ hm_ ?_
  clear h_ hm_
  have h_ := Fr.refl 12289 s
  unfold State.nextPulse
  repeat' first
    | with_reducible assumption
    | exact (rfl : Nat.land _ _ = _)
    | (extract_lets +onlyGivenNames x
       first
         | (have hx : Fr 12289 s x := ?_
            (on_goal 1 => clear_value x)
            on_goal 2 => (unfold x; clear x))
         | (have hx : Fr 12289 s x.2 := ?_
            (on_goal 1 => clear_value x)
            on_goal 2 => (unfold x; clear x))
         | clear_value x)
    | with_reducible apply State.showTime_frame
    | with_reducible apply State.modTime_frame
    | with_reducible apply State.event_frame
    | (simp -zeta -beta -iota only [Fr.mk_iff]; first | refine FrU.upd ?_ rfl | refine FrU.filter _ ?_ rfl)
    | with_reducible refine Fr.ite ?_ ?_
    | dsimp -zeta only
    | split

theorem State.todConflict_frame {m_ : Nat} {o_ : State} {s : State} {v : Nat} {detail : Bytes} (h_ : Fr m_ o_ s) (hm_ : Nat.land 8193 m_ = 8193) : Fr m_ o_ (State.todConflict s v detail) := by
  refine Fr.of h_ hm_ ?_
  clear h_ hm_
  have h_ := Fr.refl 8193 s
  unfold State.todConflict
  repeat' first
    | with_reducible assumption
    | exact (rfl : Nat.land _ _ = _)
    | with_reducible apply State.event_frame
    | with_reducible refine Fr.ite ?_ ?_
    | split

theorem execPoweredHourElapsed_frame {m_ : Nat} {o_ : State} {s : State} (h_ : Fr m_ o_ s) (hm_ : Nat.land 4096 m_ = 4096) : FrO m_ o_ (execPoweredHourElapsed s) := by
  refine FrO.of h_ hm_ ?_
  clear h_ hm_
  have h_ := Fr.refl 4096 s
  unfold execPoweredHourElapsed
  repeat' first
    | with_reducible assumption
    | exact (rfl : Nat.land _ _ = _)
    | (extract_lets +onlyGivenNames x
       first
         | (have hx : Fr 4096 s x := ?_
            (on_goal 1 => clear_value x)
            on_goal 2 => (unfold x; clear x))
         | (have hx : Fr 4096 s x.2 := ?_
            (on_goal 1 => clear_value x)
            on_goal 2 => (unfold x; clear x))
         | clear_value x)
    | with_reducible apply State.modTime_frame
    | with_reducible apply FrO.next
    | (simp -zeta -beta -iota only [Fr.mk_iff]; first | refine FrU.upd ?_ rfl | refine FrU.filter _ ?_ rfl)
    | with_reducible refine Fr.ite ?_ ?_
    | with_reducible refine FrO.ite ?_ ?_
    | dsimp -zeta only
    | split

theorem execHstTickLoRead_frame {m_ : Nat} {o_ : State} {s : State} (h_ : Fr m_ o_ s) (hm_ : Nat.land 9 m_ = 9) : FrO m_ o_ (execHstTickLoRead s) := by
  refine FrO.of h_ hm_ ?_
  clear h_ hm_
  have h_ := Fr.refl 9 s
  unfold execHstTickLoRead
  repeat' first
    | with_reducible assumption
    | exact (rfl : Nat.land _ _ = _)
    | (extract_lets +onlyGivenNames x
       first
         | (have hx : Fr 9 s x := ?_
            (on_goal 1 => clear_value x)
            on_goal 2 => (unfold x; clear x))
         | (have hx : Fr 9 s x.2 := ?_
            (on_goal 1 => clear_value x)
            on_goal 2 => (unfold x; clear x))
         | clear_value x)
    | with_reducible apply State.put_frame
    | with_reducible apply FrO.next
    | (simp -zeta -beta -iota only [Fr.mk_iff]; first | refine FrU.upd ?_ rfl | refine FrU.filter _ ?_ rfl)

theorem execTimTickLoRead_frame {m_ : Nat} {o_ : State} {s : State} (h_ : Fr m_ o_ s) (hm_ : Nat.land 9 m_ = 9) : FrO m_ o_ (execTimTickLoRead s) := by
  refine FrO.of h_ hm_ ?_
  clear h_ hm_
  have h_ := Fr.refl 9 s
  unfold execTimTickLoRead
  repeat' first
    | with_reducible assumption
    | exact (rfl : Nat.land _ _ = _)
    | (extract_lets +onlyGivenNames x
       first
         | (have hx : Fr 9 s x := ?_
            (on_goal 1 => clear_value x)
            on_goal 2 => (unfold x; clear x))
         | (have hx : Fr 9 s x.2 := ?_
            (on_goal 1 => clear_value x)
            on_goal 2 => (unfold x; clear x))
         | clear_value x)
    | with_reducible apply State.put_frame
    | with_reducible apply FrO.next
    | (simp -zeta -beta -iota only [Fr.mk_iff]; first | refine FrU.upd ?_ rfl | refine FrU.filter _ ?_ rfl)
    | dsimp -zeta only

theorem State.showArchive_frame {m_ : Nat} {o_ : State} {s : State} (h_ : Fr m_ o_ s) (hm_ : Nat.land 8193 m_ = 8193) : Fr m_ o_ (State.showArchive s) := by
  refine Fr.of h_ hm_ ?_
  clear h_ hm_
  have h_ := Fr.refl 8193 s
  unfold State.showArchive
  repeat' first
    | with_reducible assumption
    | exact (rfl : Nat.land _ _ = _)
    | (extract_lets +onlyGivenNames x
       first
         | (have hx : Fr 8193 s x := ?_
            (on_goal 1 => clear_value x)
            on_goal 2 => (unfold x; clear x))
         | (have hx : Fr 8193 s x.2 := ?_
            (on_goal 1 => clear_value x)
            on_goal 2 => (unfold x; clear x))
         | clear_value x)
    | with_reducible apply State.putBit_frame
    | (simp -zeta -beta -iota only [Fr.mk_iff]; first | refine FrU.upd ?_ rfl | refine FrU.filter _ ?_ rfl)
    | dsimp -zeta only

theorem State.markArchived_frame {m_ : Nat} {o_ : State} {s : State} {seq : Nat} (h_ : Fr m_ o_ s) (hm_ : Nat.land 8192 m_ = 8192) : Fr m_ o_ (State.markArchived s seq) := by
  refine Fr.of h_ hm_ ?_
  clear h_ hm_
  have h_ := Fr.refl 8192 s
  unfold State.markArchived
  repeat' first
    | with_reducible assumption
    | exact (rfl : Nat.land _ _ = _)
    | (extract_lets +onlyGivenNames x
       first
         | (have hx : Fr 8192 s x := ?_
            (on_goal 1 => clear_value x)
            on_goal 2 => (unfold x; clear x))
         | (have hx : Fr 8192 s x.2 := ?_
            (on_goal 1 => clear_value x)
            on_goal 2 => (unfold x; clear x))
         | clear_value x)
    | with_reducible apply State.setEvSlot_frame
    | (simp -zeta -beta -iota only [Fr.mk_iff]; first | refine FrU.upd ?_ rfl | refine FrU.filter _ ?_ rfl)
    | dsimp -zeta only
    | split

theorem State.archiveOne_frame {m_ : Nat} {o_ : State} {s : State} (h_ : Fr m_ o_ s) (hm_ : Nat.land 8195 m_ = 8195) : Fr m_ o_ (State.archiveOne s) := by
  refine Fr.of h_ hm_ ?_
  clear h_ hm_
  have h_ := Fr.refl 8195 s
  unfold State.archiveOne
  repeat' first
    | with_reducible assumption
    | exact (rfl : Nat.land _ _ = _)
    | (extract_lets +onlyGivenNames x
       first
         | (have hx : Fr 8195 s x := ?_
            (on_goal 1 => clear_value x)
            on_goal 2 => (unfold x; clear x))
         | (have hx : Fr 8195 s x.2 := ?_
            (on_goal 1 => clear_value x)
            on_goal 2 => (unfold x; clear x))
         | clear_value x)
    | with_reducible apply State.markArchived_frame
    | with_reducible apply State.showArchive_frame
    | with_reducible apply State.setBytes_frame
    | (simp -zeta -beta -iota only [Fr.mk_iff]; first | refine FrU.upd ?_ rfl | refine FrU.filter _ ?_ rfl)
    | with_reducible refine Fr.ite ?_ ?_
    | with_reducible refine Fr.ite2 ?_ ?_
    | dsimp -zeta only
    | split

theorem execEventArchiveWrite_frame {m_ : Nat} {o_ : State} {s : State} (h_ : Fr m_ o_ s) (hm_ : Nat.land 8195 m_ = 8195) : FrO m_ o_ (execEventArchiveWrite s) := by
  refine FrO.of h_ hm_ ?_
  clear h_ hm_
  have h_ := Fr.refl 8195 s
  unfold execEventArchiveWrite
  repeat' first
    | with_reducible assumption
    | exact (rfl : Nat.land _ _ = _)
    | with_reducible apply State.archiveOne_frame
    | with_reducible apply FrO.next

theorem State.archiveRelease_frame {m_ : Nat} {o_ : State} {s : State} {seq : Nat} (h_ : Fr m_ o_ s) (hm_ : Nat.land 8193 m_ = 8193) : Fr m_ o_ (State.archiveRelease s seq) := by
  refine Fr.of h_ hm_ ?_
  clear h_ hm_
  have h_ := Fr.refl 8193 s
  unfold State.archiveRelease
  repeat' first
    | with_reducible assumption
    | exact (rfl : Nat.land _ _ = _)
    | (extract_lets +onlyGivenNames x
       first
         | (have hx : Fr 8193 s x := ?_
            (on_goal 1 => clear_value x)
            on_goal 2 => (unfold x; clear x))
         | (have hx : Fr 8193 s x.2 := ?_
            (on_goal 1 => clear_value x)
            on_goal 2 => (unfold x; clear x))
         | clear_value x)
    | with_reducible refine Fr.foldl _ _ ?_ (fun _ _ _ => ?_)
    | with_reducible apply State.showArchive_frame
    | (simp -zeta -beta -iota only [Fr.mk_iff]; first | refine FrU.upd ?_ rfl | refine FrU.filter _ ?_ rfl)
    | dsimp -zeta only

theorem State.nextRecord_frame {m_ : Nat} {o_ : State} {s : State} {reader : Nat} (h_ : Fr m_ o_ s) (hm_ : Nat.land 8192 m_ = 8192) : Fr m_ o_ (State.nextRecord s reader).2 := by
  refine Fr.of h_ hm_ ?_
  clear h_ hm_
  have h_ := Fr.refl 8192 s
  unfold State.nextRecord
  repeat' first
    | with_reducible assumption
    | exact (rfl : Nat.land _ _ = _)
    | (extract_lets +onlyGivenNames x
       first
         | (have hx : Fr 8192 s x := ?_
            (on_goal 1 => clear_value x)
            on_goal 2 => (unfold x; clear x))
         | (have hx : Fr 8192 s x.2 := ?_
            (on_goal 1 => clear_value x)
            on_goal 2 => (unfold x; clear x))
         | clear_value x)
    | (simp -zeta -beta -iota only [Fr.mk_iff]; first | refine FrU.upd ?_ rfl | refine FrU.filter _ ?_ rfl)
    | dsimp -zeta only
    | split

theorem execEvrPostS_frame {m_ : Nat} {o_ : State} {severity : Nat} {code : Nat} {s : State} (h_ : Fr m_ o_ s) (hm_ : Nat.land 8193 m_ = 8193) : FrO m_ o_ (execEvrPostS severity code s) := by
  refine FrO.of h_ hm_ ?_
  clear h_ hm_
  have h_ := Fr.refl 8193 s
  unfold execEvrPostS
  repeat' first
    | with_reducible assumption
    | exact (rfl : Nat.land _ _ = _)
    | (extract_lets +onlyGivenNames x
       first
         | (have hx : Fr 8193 s x := ?_
            (on_goal 1 => clear_value x)
            on_goal 2 => (unfold x; clear x))
         | (have hx : Fr 8193 s x.2 := ?_
            (on_goal 1 => clear_value x)
            on_goal 2 => (unfold x; clear x))
         | clear_value x)
    | with_reducible apply State.put_frame
    | with_reducible apply State.event_frame
    | with_reducible apply FrO.next
    | with_reducible refine Fr.ite ?_ ?_
    | with_reducible refine FrO.ite ?_ ?_
    | dsimp -zeta only
    | split

theorem execEvrPostN_frame {m_ : Nat} {o_ : State} {severity : Nat} {code : Nat} {s : State} (h_ : Fr m_ o_ s) (hm_ : Nat.land 8193 m_ = 8193) : FrO m_ o_ (execEvrPostN severity code s) := by
  refine FrO.of h_ hm_ ?_
  clear h_ hm_
  have h_ := Fr.refl 8193 s
  unfold execEvrPostN
  repeat' first
    | with_reducible assumption
    | exact (rfl : Nat.land _ _ = _)
    | (extract_lets +onlyGivenNames x
       first
         | (have hx : Fr 8193 s x := ?_
            (on_goal 1 => clear_value x)
            on_goal 2 => (unfold x; clear x))
         | (have hx : Fr 8193 s x.2 := ?_
            (on_goal 1 => clear_value x)
            on_goal 2 => (unfold x; clear x))
         | clear_value x)
    | with_reducible apply State.put_frame
    | with_reducible apply State.event_frame
    | with_reducible apply FrO.next
    | with_reducible refine Fr.ite ?_ ?_
    | with_reducible refine FrO.ite ?_ ?_
    | dsimp -zeta only
    | split

theorem archiveSome_frame {m_ : Nat} {o_ : State} {a0 : Nat} {a1 : State} (h_ : Fr m_ o_ a1) (hm_ : Nat.land 8195 m_ = 8195) : Fr m_ o_ (archiveSome a0 a1) := by
  induction a0 generalizing a1 with
  | zero => exact h_
  | succ n ih => exact ih (State.archiveOne_frame h_ hm_)

theorem offerMeters_frame {m_ : Nat} {o_ : State} {a0 : Nat} {a1 : State} (h_ : Fr m_ o_ a1) (hm_ : Nat.land 2097 m_ = 2097) : Fr m_ o_ (offerMeters a0 a1) := by
  refine Fr.of h_ hm_ ?_
  clear h_ hm_
  induction a0 generalizing a1 with
  | zero => exact Fr.refl _ _
  | succ n ih =>
    have h_ := Fr.refl 2097 a1
    unfold offerMeters
    repeat' first
      | with_reducible assumption
      | exact (rfl : Nat.land _ _ = _)
      | (extract_lets +onlyGivenNames x
         first
           | (have hx : Fr 2097 a1 x := ?_
              (on_goal 1 => clear_value x)
              on_goal 2 => (unfold x; clear x))
           | (have hx : Fr 2097 a1 x.2 := ?_
              (on_goal 1 => clear_value x)
              on_goal 2 => (unfold x; clear x))
           | clear_value x)
      | with_reducible refine Fr.trans ?_ ih
      | with_reducible apply State.endBatch_frame
      | with_reducible apply State.writeMeter_frame
      | with_reducible apply State.carryMeter_frame
      | with_reducible refine Fr.foldl _ _ ?_ (fun _ _ _ => ?_)
      | with_reducible refine Fr.elim ?_ (fun _ => ?_)
      | with_reducible apply FrO.next
      | (simp -zeta -beta -iota only [Fr.mk_iff]; first | refine FrU.upd ?_ rfl | refine FrU.filter _ ?_ rfl)
      | with_reducible refine Fr.ite ?_ ?_
      | with_reducible refine Fr.ite2 ?_ ?_
      | with_reducible refine FrO.ite ?_ ?_
      | dsimp -zeta only
      | split

theorem execSleepPowerOff_frame {m_ : Nat} {o_ : State} {meters : Nat} {events : Nat} {b : BootInputs} {s : State} (h_ : Fr m_ o_ s) (hm_ : Nat.land 2147483647 m_ = 2147483647) : FrO m_ o_ (execSleepPowerOff meters events b s) := by
  refine FrO.of h_ hm_ ?_
  clear h_ hm_
  have h_ := Fr.refl 2147483647 s
  unfold execSleepPowerOff
  repeat' first
    | with_reducible assumption
    | exact (rfl : Nat.land _ _ = _)
    | (extract_lets +onlyGivenNames x
       first
         | (have hx : Fr 2147483647 s x := ?_
            (on_goal 1 => clear_value x)
            on_goal 2 => (unfold x; clear x))
         | (have hx : Fr 2147483647 s x.2 := ?_
            (on_goal 1 => clear_value x)
            on_goal 2 => (unfold x; clear x))
         | clear_value x)
    | with_reducible apply archiveSome_frame
    | with_reducible apply offerMeters_frame
    | with_reducible apply State.closeMinute_frame
    | with_reducible apply State.mainReset_frame
    | with_reducible apply State.wake_frame
    | with_reducible apply FrO.next
    | (simp -zeta -beta -iota only [Fr.mk_iff]; first | refine FrU.upd ?_ rfl | refine FrU.filter _ ?_ rfl)
    | with_reducible refine Fr.ite ?_ ?_
    | with_reducible refine FrO.ite ?_ ?_
    | dsimp -zeta only
    | split

theorem State.noteForeign_frame {m_ : Nat} {o_ : State} {s : State} {n : Nat} {w : World} (h_ : Fr m_ o_ s) (hm_ : Nat.land 1 m_ = 1) : Fr m_ o_ (State.noteForeign s n w) := by
  refine Fr.of h_ hm_ ?_
  clear h_ hm_
  have h_ := Fr.refl 1 s
  unfold State.noteForeign
  repeat' first
    | with_reducible assumption
    | exact (rfl : Nat.land _ _ = _)
    | with_reducible apply State.putBit_frame
    | with_reducible refine Fr.ite ?_ ?_
    | split

theorem State.refuseLock_frame {m_ : Nat} {o_ : State} {s : State} (h_ : Fr m_ o_ s) (hm_ : Nat.land 1 m_ = 1) : Fr m_ o_ (State.refuseLock s) := by
  refine Fr.of h_ hm_ ?_
  clear h_ hm_
  have h_ := Fr.refl 1 s
  unfold State.refuseLock
  repeat' first
    | with_reducible assumption
    | exact (rfl : Nat.land _ _ = _)
    | with_reducible apply State.count_frame

theorem execLaneLockAcquire_frame {m_ : Nat} {o_ : State} {lane : Nat} {code : Nat} {w : World} {s : State} (h_ : Fr m_ o_ s) (hm_ : Nat.land 1 m_ = 1) : FrO m_ o_ (execLaneLockAcquire lane code w s) := by
  refine FrO.of h_ hm_ ?_
  clear h_ hm_
  have h_ := Fr.refl 1 s
  unfold execLaneLockAcquire
  repeat' first
    | with_reducible assumption
    | exact (rfl : Nat.land _ _ = _)
    | with_reducible apply State.refuseLock_frame
    | with_reducible apply State.noteForeign_frame
    | with_reducible apply State.setHolder_frame
    | with_reducible apply State.put_frame
    | with_reducible apply FrO.next
    | with_reducible refine Fr.ite ?_ ?_
    | with_reducible refine FrO.ite ?_ ?_
    | split

theorem State.laneIrq_frame {m_ : Nat} {o_ : State} {s : State} {n : Nat} (h_ : Fr m_ o_ s) (hm_ : Nat.land 134217729 m_ = 134217729) : Fr m_ o_ (State.laneIrq s n) := by
  refine Fr.of h_ hm_ ?_
  clear h_ hm_
  have h_ := Fr.refl 134217729 s
  unfold State.laneIrq
  repeat' first
    | with_reducible assumption
    | exact (rfl : Nat.land _ _ = _)
    | with_reducible apply State.raiseIrq_frame
    | with_reducible refine Fr.ite ?_ ?_
    | split

theorem execLaneLockRelease_frame {m_ : Nat} {o_ : State} {lane : Nat} {w : World} {s : State} (h_ : Fr m_ o_ s) (hm_ : Nat.land 150994945 m_ = 150994945) : FrO m_ o_ (execLaneLockRelease lane w s) := by
  refine FrO.of h_ hm_ ?_
  clear h_ hm_
  have h_ := Fr.refl 150994945 s
  unfold execLaneLockRelease
  repeat' first
    | with_reducible assumption
    | exact (rfl : Nat.land _ _ = _)
    | (extract_lets +onlyGivenNames x
       first
         | (have hx : Fr 150994945 s x := ?_
            (on_goal 1 => clear_value x)
            on_goal 2 => (unfold x; clear x))
         | (have hx : Fr 150994945 s x.2 := ?_
            (on_goal 1 => clear_value x)
            on_goal 2 => (unfold x; clear x))
         | clear_value x)
    | with_reducible apply State.laneIrq_frame
    | with_reducible apply State.putBit_frame
    | with_reducible apply State.setHolder_frame
    | with_reducible apply State.wipeLane_frame
    | with_reducible apply State.put_frame
    | with_reducible apply State.noteForeign_frame
    | with_reducible apply FrO.next
    | with_reducible refine Fr.ite ?_ ?_
    | with_reducible refine FrO.ite ?_ ?_
    | dsimp -zeta only
    | split

theorem State.laneWrite_frame {m_ : Nat} {o_ : State} {s : State} {n : Nat} {w : World} (h_ : Fr m_ o_ s) (hm_ : Nat.land 1 m_ = 1) : Fr m_ o_ (State.laneWrite s n w).2 := by
  refine Fr.of h_ hm_ ?_
  clear h_ hm_
  have h_ := Fr.refl 1 s
  unfold State.laneWrite
  repeat' first
    | with_reducible assumption
    | exact (rfl : Nat.land _ _ = _)
    | with_reducible apply State.noteForeign_frame
    | with_reducible refine Fr.ite ?_ ?_
    | with_reducible refine Fr.ite2 ?_ ?_
    | split

theorem execLaneKeyClear_frame {m_ : Nat} {o_ : State} {lane : Nat} {w : World} {s : State} (h_ : Fr m_ o_ s) (hm_ : Nat.land 16777217 m_ = 16777217) : FrO m_ o_ (execLaneKeyClear lane w s) := by
  refine FrO.of h_ hm_ ?_
  clear h_ hm_
  have h_ := Fr.refl 16777217 s
  unfold execLaneKeyClear
  repeat' first
    | with_reducible assumption
    | exact (rfl : Nat.land _ _ = _)
    | (extract_lets +onlyGivenNames x
       first
         | (have hx : Fr 16777217 s x := ?_
            (on_goal 1 => clear_value x)
            on_goal 2 => (unfold x; clear x))
         | (have hx : Fr 16777217 s x.2 := ?_
            (on_goal 1 => clear_value x)
            on_goal 2 => (unfold x; clear x))
         | clear_value x)
    | with_reducible apply State.laneWrite_frame
    | refine Fr.pair (by assumption) (State.laneWrite_frame (h_ := ?_) ?_)
    | with_reducible apply State.putBit_frame
    | with_reducible apply State.setLane_frame
    | with_reducible apply FrO.next
    | (simp -zeta -beta -iota only [Fr.mk_iff]; first | refine FrU.upd ?_ rfl | refine FrU.filter _ ?_ rfl)
    | with_reducible refine Fr.ite ?_ ?_
    | with_reducible refine Fr.ite2 ?_ ?_
    | with_reducible refine FrO.ite ?_ ?_
    | dsimp -zeta only
    | split

theorem State.laneErr_frame {m_ : Nat} {o_ : State} {s : State} {n : Nat} (h_ : Fr m_ o_ s) (hm_ : Nat.land 150994945 m_ = 150994945) : Fr m_ o_ (State.laneErr s n) := by
  refine Fr.of h_ hm_ ?_
  clear h_ hm_
  have h_ := Fr.refl 150994945 s
  unfold State.laneErr
  repeat' first
    | with_reducible assumption
    | exact (rfl : Nat.land _ _ = _)
    | (extract_lets +onlyGivenNames x
       first
         | (have hx : Fr 150994945 s x := ?_
            (on_goal 1 => clear_value x)
            on_goal 2 => (unfold x; clear x))
         | (have hx : Fr 150994945 s x.2 := ?_
            (on_goal 1 => clear_value x)
            on_goal 2 => (unfold x; clear x))
         | clear_value x)
    | with_reducible apply State.setLane_frame
    | with_reducible apply State.laneIrq_frame
    | with_reducible apply State.putBit_frame
    | (simp -zeta -beta -iota only [Fr.mk_iff]; first | refine FrU.upd ?_ rfl | refine FrU.filter _ ?_ rfl)
    | dsimp -zeta only

theorem execLaneFwJobStart_frame {m_ : Nat} {o_ : State} {lane : Nat} {w : World} {s : State} (h_ : Fr m_ o_ s) (hm_ : Nat.land 150994945 m_ = 150994945) : FrO m_ o_ (execLaneFwJobStart lane w s) := by
  refine FrO.of h_ hm_ ?_
  clear h_ hm_
  have h_ := Fr.refl 150994945 s
  unfold execLaneFwJobStart
  repeat' first
    | with_reducible assumption
    | exact (rfl : Nat.land _ _ = _)
    | (extract_lets +onlyGivenNames x
       first
         | (have hx : Fr 150994945 s x := ?_
            (on_goal 1 => clear_value x)
            on_goal 2 => (unfold x; clear x))
         | (have hx : Fr 150994945 s x.2 := ?_
            (on_goal 1 => clear_value x)
            on_goal 2 => (unfold x; clear x))
         | clear_value x)
    | with_reducible apply State.laneWrite_frame
    | refine Fr.pair (by assumption) (State.laneWrite_frame (h_ := ?_) ?_)
    | with_reducible apply State.laneIrq_frame
    | with_reducible apply State.putBit_frame
    | with_reducible apply State.laneErr_frame
    | with_reducible apply State.setLane_frame
    | with_reducible apply FrO.next
    | (simp -zeta -beta -iota only [Fr.mk_iff]; first | refine FrU.upd ?_ rfl | refine FrU.filter _ ?_ rfl)
    | with_reducible refine Fr.ite ?_ ?_
    | with_reducible refine Fr.ite2 ?_ ?_
    | with_reducible refine FrO.ite ?_ ?_
    | dsimp -zeta only
    | split

theorem execLaneFwJobComplete_frame {m_ : Nat} {o_ : State} {lane : Nat} {s : State} (h_ : Fr m_ o_ s) (hm_ : Nat.land 151265283 m_ = 151265283) : FrO m_ o_ (execLaneFwJobComplete lane s) := by
  refine FrO.of h_ hm_ ?_
  clear h_ hm_
  have h_ := Fr.refl 151265283 s
  unfold execLaneFwJobComplete
  repeat' first
    | with_reducible assumption
    | exact (rfl : Nat.land _ _ = _)
    | (extract_lets +onlyGivenNames x
       first
         | (have hx : Fr 151265283 s x := ?_
            (on_goal 1 => clear_value x)
            on_goal 2 => (unfold x; clear x))
         | (have hx : Fr 151265283 s x.2 := ?_
            (on_goal 1 => clear_value x)
            on_goal 2 => (unfold x; clear x))
         | clear_value x)
    | with_reducible apply State.checkAccess_frame
    | refine Fr.pair (by assumption) (State.checkAccess_frame (h_ := ?_) ?_)
    | with_reducible apply State.laneErr_frame
    | with_reducible apply State.put_frame
    | with_reducible apply State.setLane_frame
    | with_reducible apply State.store'_frame
    | with_reducible apply State.putBit_frame
    | with_reducible apply State.laneIrq_frame
    | with_reducible apply FrO.next
    | (simp -zeta -beta -iota only [Fr.mk_iff]; first | refine FrU.upd ?_ rfl | refine FrU.filter _ ?_ rfl)
    | with_reducible refine Fr.ite ?_ ?_
    | with_reducible refine Fr.ite2 ?_ ?_
    | with_reducible refine FrO.ite ?_ ?_
    | dsimp -zeta only
    | split

end Sys2Proof.Machine
end

