-- ==== Sys2Proof/Laws/FrameDict.lean ====
section
/-! SUPPORT. Which pieces of State each function of register reads and the dictionary may change. -/

set_option maxRecDepth 4000
set_option linter.all false

namespace Sys2Proof.Machine

theorem State.latch_frame {m_ : Nat} {o_ : State} {s : State} {a : Nat} (h_ : Fr m_ o_ s) (hm_ : Nat.land 1 m_ = 1) : Fr m_ o_ (State.latch s a) := by
  refine Fr.of h_ hm_ ?_
  clear h_ hm_
  have h_ := Fr.refl 1 s
  unfold State.latch
  repeat' first
    | with_reducible assumption
    | exact (rfl : Nat.land _ _ = _)
    | with_reducible refine Fr.foldl _ _ ?_ (fun _ _ _ => ?_)
    | with_reducible apply State.put_frame
    | dsimp -zeta only

theorem State.windowWrite_frame {m_ : Nat} {o_ : State} {s : State} {k : ClusterId} {i : Nat} {v : Nat} (h_ : Fr m_ o_ s) (hm_ : Nat.land 16777216 m_ = 16777216) : Fr m_ o_ (State.windowWrite s k i v) := by
  refine Fr.of h_ hm_ ?_
  clear h_ hm_
  have h_ := Fr.refl 16777216 s
  unfold State.windowWrite
  repeat' first
    | with_reducible assumption
    | exact (rfl : Nat.land _ _ = _)
    | (extract_lets +onlyGivenNames x
       first
         | (have hx : Fr 16777216 s x := ?_
            (on_goal 1 => clear_value x)
            on_goal 2 => (unfold x; clear x))
         | (have hx : Fr 16777216 s x.2 := ?_
            (on_goal 1 => clear_value x)
            on_goal 2 => (unfold x; clear x))
         | clear_value x)
    | with_reducible apply State.setMemNat_frame
    | with_reducible refine Fr.ite ?_ ?_
    | with_reducible refine Fr.ite2 ?_ ?_
    | dsimp -zeta only
    | split

theorem State.readBw_frame {m_ : Nat} {o_ : State} {s : State} (h_ : Fr m_ o_ s) (hm_ : Nat.land 4 m_ = 4) : Fr m_ o_ (State.readBw s).2 := by
  refine Fr.of h_ hm_ ?_
  clear h_ hm_
  have h_ := Fr.refl 4 s
  unfold State.readBw
  repeat' first
    | with_reducible assumption
    | exact (rfl : Nat.land _ _ = _)
    | (extract_lets +onlyGivenNames x
       first
         | (have hx : Fr 4 s x := ?_
            (on_goal 1 => clear_value x)
            on_goal 2 => (unfold x; clear x))
         | (have hx : Fr 4 s x.2 := ?_
            (on_goal 1 => clear_value x)
            on_goal 2 => (unfold x; clear x))
         | clear_value x)
    | with_reducible apply State.freshNat_frame
    | refine Fr.pair (by assumption) (State.freshNat_frame (h_ := ?_) ?_)
    | with_reducible refine Fr.ite ?_ ?_
    | with_reducible refine Fr.ite2 ?_ ?_
    | dsimp -zeta only
    | split

theorem State.readBb_frame {m_ : Nat} {o_ : State} {s : State} {debug : Bool} (h_ : Fr m_ o_ s) (hm_ : Nat.land 4 m_ = 4) : Fr m_ o_ (State.readBb s debug).2 := by
  refine Fr.of h_ hm_ ?_
  clear h_ hm_
  have h_ := Fr.refl 4 s
  unfold State.readBb
  repeat' first
    | with_reducible assumption
    | exact (rfl : Nat.land _ _ = _)
    | (extract_lets +onlyGivenNames x
       first
         | (have hx : Fr 4 s x := ?_
            (on_goal 1 => clear_value x)
            on_goal 2 => (unfold x; clear x))
         | (have hx : Fr 4 s x.2 := ?_
            (on_goal 1 => clear_value x)
            on_goal 2 => (unfold x; clear x))
         | clear_value x)
    | with_reducible apply State.freshNat_frame
    | refine Fr.pair (by assumption) (State.freshNat_frame (h_ := ?_) ?_)
    | with_reducible refine Fr.ite ?_ ?_
    | with_reducible refine Fr.ite2 ?_ ?_
    | dsimp -zeta only
    | split

theorem State.readRawSel_frame {m_ : Nat} {o_ : State} {s : State} (h_ : Fr m_ o_ s) (hm_ : Nat.land 4 m_ = 4) : Fr m_ o_ (State.readRawSel s).2 := by
  refine Fr.of h_ hm_ ?_
  clear h_ hm_
  have h_ := Fr.refl 4 s
  unfold State.readRawSel
  repeat' first
    | with_reducible assumption
    | exact (rfl : Nat.land _ _ = _)
    | (extract_lets +onlyGivenNames x
       first
         | (have hx : Fr 4 s x := ?_
            (on_goal 1 => clear_value x)
            on_goal 2 => (unfold x; clear x))
         | (have hx : Fr 4 s x.2 := ?_
            (on_goal 1 => clear_value x)
            on_goal 2 => (unfold x; clear x))
         | clear_value x)
    | with_reducible apply State.freshNat_frame
    | refine Fr.pair (by assumption) (State.freshNat_frame (h_ := ?_) ?_)
    | with_reducible refine Fr.ite ?_ ?_
    | with_reducible refine Fr.ite2 ?_ ?_
    | dsimp -zeta only
    | split

theorem State.readDrbg_frame {m_ : Nat} {o_ : State} {s : State} (h_ : Fr m_ o_ s) (hm_ : Nat.land 4 m_ = 4) : Fr m_ o_ (State.readDrbg s).2 := by
  refine Fr.of h_ hm_ ?_
  clear h_ hm_
  have h_ := Fr.refl 4 s
  unfold State.readDrbg
  repeat' first
    | with_reducible assumption
    | exact (rfl : Nat.land _ _ = _)
    | (extract_lets +onlyGivenNames x
       first
         | (have hx : Fr 4 s x := ?_
            (on_goal 1 => clear_value x)
            on_goal 2 => (unfold x; clear x))
         | (have hx : Fr 4 s x.2 := ?_
            (on_goal 1 => clear_value x)
            on_goal 2 => (unfold x; clear x))
         | clear_value x)
    | with_reducible refine Fr.foldl _ _ ?_ (fun _ _ _ => ?_)
    | with_reducible apply State.freshNat_frame
    | refine Fr.pair (by assumption) (State.freshNat_frame (h_ := ?_) ?_)
    | dsimp -zeta only

theorem State.readReg_frame {m_ : Nat} {o_ : State} {s : State} {w : World} {debug : Bool} {a : Nat} (h_ : Fr m_ o_ s) (hm_ : Nat.land 33554445 m_ = 33554445) : Fr m_ o_ (State.readReg s w debug a).2 := by
  refine Fr.of h_ hm_ ?_
  clear h_ hm_
  have h_ := Fr.refl 33554445 s
  unfold State.readReg
  repeat' first
    | with_reducible assumption
    | exact (rfl : Nat.land _ _ = _)
    | (extract_lets +onlyGivenNames x
       first
         | (have hx : Fr 33554445 s x := ?_
            (on_goal 1 => clear_value x)
            on_goal 2 => (unfold x; clear x))
         | (have hx : Fr 33554445 s x.2 := ?_
            (on_goal 1 => clear_value x)
            on_goal 2 => (unfold x; clear x))
         | (unfold x; clear x))
    | with_reducible apply State.portRead_frame
    | with_reducible apply State.readRawSel_frame
    | refine Fr.pair (by assumption) (State.readRawSel_frame (h_ := ?_) ?_)
    | with_reducible apply State.rawWord_frame
    | refine Fr.pair (by assumption) (State.rawWord_frame (h_ := ?_) ?_)
    | with_reducible apply State.putBit_frame
    | with_reducible apply State.readDrbg_frame
    | refine Fr.pair (by assumption) (State.readDrbg_frame (h_ := ?_) ?_)
    | with_reducible apply State.readBw_frame
    | refine Fr.pair (by assumption) (State.readBw_frame (h_ := ?_) ?_)
    | with_reducible apply State.readBb_frame
    | refine Fr.pair (by assumption) (State.readBb_frame (h_ := ?_) ?_)
    | with_reducible apply State.put_frame
    | with_reducible apply State.latch_frame
    | (simp -zeta -beta -iota only [Fr.mk_iff]; first | refine FrU.upd ?_ rfl | refine FrU.filter _ ?_ rfl)
    | with_reducible refine Fr.ite ?_ ?_
    | with_reducible refine Fr.ite2 ?_ ?_
    | dsimp -zeta only
    | split

theorem State.odValue_frame {m_ : Nat} {o_ : State} {s : State} {src : OdSource} {row : OdRow} {i : Nat} {b : Nat} (h_ : Fr m_ o_ s) (hm_ : Nat.land 8196 m_ = 8196) : Fr m_ o_ (State.odValue s src row i b).2 := by
  refine Fr.of h_ hm_ ?_
  clear h_ hm_
  have h_ := Fr.refl 8196 s
  unfold State.odValue
  repeat' first
    | with_reducible assumption
    | exact (rfl : Nat.land _ _ = _)
    | (extract_lets +onlyGivenNames x
       first
         | (have hx : Fr 8196 s x := ?_
            (on_goal 1 => clear_value x)
            on_goal 2 => (unfold x; clear x))
         | (have hx : Fr 8196 s x.2 := ?_
            (on_goal 1 => clear_value x)
            on_goal 2 => (unfold x; clear x))
         | clear_value x)
    | with_reducible apply State.nextRecord_frame
    | refine Fr.pair (by assumption) (State.nextRecord_frame (h_ := ?_) ?_)
    | with_reducible apply State.freshNat_frame
    | refine Fr.pair (by assumption) (State.freshNat_frame (h_ := ?_) ?_)
    | (simp -zeta -beta -iota only [Fr.mk_iff]; first | refine FrU.upd ?_ rfl | refine FrU.filter _ ?_ rfl)
    | with_reducible refine Fr.ite ?_ ?_
    | with_reducible refine Fr.ite2 ?_ ?_
    | dsimp -zeta only
    | split

theorem State.odRead_frame {m_ : Nat} {o_ : State} {s : State} {q : OdReq} {i : Nat} {b : Nat} {offset : Nat} {cap : Nat} (h_ : Fr m_ o_ s) (hm_ : Nat.land 8196 m_ = 8196) : Fr m_ o_ (State.odRead s q i b offset cap).2.2 := by
  refine Fr.of h_ hm_ ?_
  clear h_ hm_
  have h_ := Fr.refl 8196 s
  unfold State.odRead
  repeat' first
    | with_reducible assumption
    | exact (rfl : Nat.land _ _ = _)
    | (extract_lets +onlyGivenNames x
       first
         | (have hx : Fr 8196 s x := ?_
            (on_goal 1 => clear_value x)
            on_goal 2 => (unfold x; clear x))
         | (have hx : Fr 8196 s x.2 := ?_
            (on_goal 1 => clear_value x)
            on_goal 2 => (unfold x; clear x))
         | clear_value x)
    | with_reducible apply State.odValue_frame
    | refine Fr.pair (by assumption) (State.odValue_frame (h_ := ?_) ?_)
    | (simp -zeta -beta -iota only [Fr.mk_iff]; first | refine FrU.upd ?_ rfl | refine FrU.filter _ ?_ rfl)
    | with_reducible refine Fr.ite ?_ ?_
    | with_reducible refine Fr.ite2 ?_ ?_
    | dsimp -zeta only
    | split

theorem State.writeDetail_frame {m_ : Nat} {o_ : State} {s : State} {q : OdReq} {error : Nat} (h_ : Fr m_ o_ s) (hm_ : Nat.land 4 m_ = 4) : Fr m_ o_ (State.writeDetail s q error).2 := by
  refine Fr.of h_ hm_ ?_
  clear h_ hm_
  have h_ := Fr.refl 4 s
  unfold State.writeDetail
  repeat' first
    | with_reducible assumption
    | exact (rfl : Nat.land _ _ = _)
    | (extract_lets +onlyGivenNames x
       first
         | (have hx : Fr 4 s x := ?_
            (on_goal 1 => clear_value x)
            on_goal 2 => (unfold x; clear x))
         | (have hx : Fr 4 s x.2 := ?_
            (on_goal 1 => clear_value x)
            on_goal 2 => (unfold x; clear x))
         | clear_value x)
    | with_reducible apply State.freshNat_frame
    | refine Fr.pair (by assumption) (State.freshNat_frame (h_ := ?_) ?_)
    | with_reducible refine Fr.ite ?_ ?_
    | with_reducible refine Fr.ite2 ?_ ?_
    | dsimp -zeta only
    | split

theorem State.queueRec_frame {m_ : Nat} {o_ : State} {s : State} {r : Rec} (h_ : Fr m_ o_ s) (hm_ : Nat.land 16384 m_ = 16384) : Fr m_ o_ (State.queueRec s r) := by
  refine Fr.of h_ hm_ ?_
  clear h_ hm_
  have h_ := Fr.refl 16384 s
  unfold State.queueRec
  repeat' first
    | with_reducible assumption
    | exact (rfl : Nat.land _ _ = _)
    | (extract_lets +onlyGivenNames x
       first
         | (have hx : Fr 16384 s x := ?_
            (on_goal 1 => clear_value x)
            on_goal 2 => (unfold x; clear x))
         | (have hx : Fr 16384 s x.2 := ?_
            (on_goal 1 => clear_value x)
            on_goal 2 => (unfold x; clear x))
         | clear_value x)
    | with_reducible apply State.joinRec_frame
    | refine Fr.pair (by assumption) (State.joinRec_frame (h_ := ?_) ?_)
    | (simp -zeta -beta -iota only [Fr.mk_iff]; first | refine FrU.upd ?_ rfl | refine FrU.filter _ ?_ rfl)
    | with_reducible refine Fr.ite ?_ ?_
    | with_reducible refine Fr.ite2 ?_ ?_
    | dsimp -zeta only
    | split

theorem State.refuseWrite_frame {m_ : Nat} {o_ : State} {s : State} {q : OdReq} {i : Nat} {b : Nat} {v : Bytes} {e : OdResult} (h_ : Fr m_ o_ s) (hm_ : Nat.land 2105349 m_ = 2105349) : Fr m_ o_ (State.refuseWrite s q i b v e) := by
  refine Fr.of h_ hm_ ?_
  clear h_ hm_
  have h_ := Fr.refl 2105349 s
  unfold State.refuseWrite
  repeat' first
    | with_reducible assumption
    | exact (rfl : Nat.land _ _ = _)
    | (extract_lets +onlyGivenNames x
       first
         | (have hx : Fr 2105349 s x := ?_
            (on_goal 1 => clear_value x)
            on_goal 2 => (unfold x; clear x))
         | (have hx : Fr 2105349 s x.2 := ?_
            (on_goal 1 => clear_value x)
            on_goal 2 => (unfold x; clear x))
         | clear_value x)
    | with_reducible apply State.writeDetail_frame
    | refine Fr.pair (by assumption) (State.writeDetail_frame (h_ := ?_) ?_)
    | with_reducible apply State.event_frame
    | with_reducible apply State.todConflict_frame
    | with_reducible apply State.otpRefused_frame
    | with_reducible apply State.addReply_frame
    | refine Fr.pair (by assumption) (State.addReply_frame (h_ := ?_) ?_)
    | with_reducible refine Fr.ite ?_ ?_
    | with_reducible refine Fr.ite2 ?_ ?_
    | dsimp -zeta only
    | split

theorem State.strandWrite_frame {m_ : Nat} {o_ : State} {s : State} {i : Nat} {b : Nat} {v : Bytes} {sig : Bytes} {items : List StrandItem} (h_ : Fr m_ o_ s) (hm_ : Nat.land 335077397 m_ = 335077397) : Fr m_ o_ (State.strandWrite s i b v sig items) := by
  refine Fr.of h_ hm_ ?_
  clear h_ hm_
  have h_ := Fr.refl 335077397 s
  unfold State.strandWrite
  repeat' first
    | with_reducible assumption
    | exact (rfl : Nat.land _ _ = _)
    | (extract_lets +onlyGivenNames x
       first
         | (have hx : Fr 335077397 s x := ?_
            (on_goal 1 => clear_value x)
            on_goal 2 => (unfold x; clear x))
         | (have hx : Fr 335077397 s x.2 := ?_
            (on_goal 1 => clear_value x)
            on_goal 2 => (unfold x; clear x))
         | clear_value x)
    | with_reducible apply State.requestCheckpoint_frame
    | with_reducible apply State.restoreStart_frame
    | with_reducible apply State.sendSealed_frame
    | with_reducible apply State.rollbackAccept_frame
    | with_reducible apply State.odStore_frame
    | with_reducible apply State.handover_frame
    | with_reducible apply State.wakePulse_frame
    | with_reducible apply State.modPair_frame
    | with_reducible apply State.domainCreateEffect_frame
    | with_reducible apply State.domainSendEffect_frame
    | with_reducible apply State.domainAcceptEffect_frame
    | with_reducible apply State.appendStart_frame
    | (simp -zeta -beta -iota only [Fr.mk_iff]; first | refine FrU.upd ?_ rfl | refine FrU.filter _ ?_ rfl)
    | with_reducible refine Fr.ite ?_ ?_
    | with_reducible refine Fr.ite2 ?_ ?_
    | dsimp -zeta only
    | split

theorem State.timeWrite_frame {m_ : Nat} {o_ : State} {s : State} {q : OdReq} {i : Nat} {b : Nat} {v : Bytes} (h_ : Fr m_ o_ s) (hm_ : Nat.land 134232085 m_ = 134232085) : Fr m_ o_ (State.timeWrite s q i b v) := by
  refine Fr.of h_ hm_ ?_
  clear h_ hm_
  have h_ := Fr.refl 134232085 s
  unfold State.timeWrite
  repeat' first
    | with_reducible assumption
    | exact (rfl : Nat.land _ _ = _)
    | (extract_lets +onlyGivenNames x
       first
         | (have hx : Fr 134232085 s x := ?_
            (on_goal 1 => clear_value x)
            on_goal 2 => (unfold x; clear x))
         | (have hx : Fr 134232085 s x.2 := ?_
            (on_goal 1 => clear_value x)
            on_goal 2 => (unfold x; clear x))
         | clear_value x)
    | with_reducible apply State.writeDetail_frame
    | refine Fr.pair (by assumption) (State.writeDetail_frame (h_ := ?_) ?_)
    | with_reducible apply State.nextPulse_frame
    | with_reducible apply State.discardAnchor_frame
    | with_reducible apply State.archiveRelease_frame
    | (simp -zeta -beta -iota only [Fr.mk_iff]; first | refine FrU.upd ?_ rfl | refine FrU.filter _ ?_ rfl)
    | with_reducible refine Fr.ite ?_ ?_
    | with_reducible refine Fr.ite2 ?_ ?_
    | dsimp -zeta only
    | split

theorem State.signetWrite_frame {m_ : Nat} {o_ : State} {s : State} {b : Nat} {v : Bytes} (h_ : Fr m_ o_ s) (hm_ : Nat.land 42999813 m_ = 42999813) : Fr m_ o_ (State.signetWrite s b v) := by
  refine Fr.of h_ hm_ ?_
  clear h_ hm_
  have h_ := Fr.refl 42999813 s
  unfold State.signetWrite
  repeat' first
    | with_reducible assumption
    | exact (rfl : Nat.land _ _ = _)
    | (extract_lets +onlyGivenNames x
       first
         | (have hx : Fr 42999813 s x := ?_
            (on_goal 1 => clear_value x)
            on_goal 2 => (unfold x; clear x))
         | (have hx : Fr 42999813 s x.2 := ?_
            (on_goal 1 => clear_value x)
            on_goal 2 => (unfold x; clear x))
         | clear_value x)
    | with_reducible apply State.signetOpenEffect_frame
    | with_reducible apply State.cancelSignet_frame
    | with_reducible apply State.pinWrite_frame
    | with_reducible apply State.armZeroise_frame
    | (simp -zeta -beta -iota only [Fr.mk_iff]; first | refine FrU.upd ?_ rfl | refine FrU.filter _ ?_ rfl)
    | with_reducible refine Fr.ite ?_ ?_
    | with_reducible refine Fr.ite2 ?_ ?_
    | dsimp -zeta only
    | split

theorem State.volatileWrite_frame {m_ : Nat} {o_ : State} {s : State} {q : OdReq} {i : Nat} {b : Nat} {v : Bytes} {sig : Bytes} {items : List StrandItem} (h_ : Fr m_ o_ s) (hm_ : Nat.land 2147417653 m_ = 2147417653) : Fr m_ o_ (State.volatileWrite s q i b v sig items).2 := by
  refine Fr.of h_ hm_ ?_
  clear h_ hm_
  have h_ := Fr.refl 2147417653 s
  unfold State.volatileWrite
  repeat' first
    | with_reducible assumption
    | exact (rfl : Nat.land _ _ = _)
    | (extract_lets +onlyGivenNames x
       first
         | (have hx : Fr 2147417653 s x := ?_
            (on_goal 1 => clear_value x)
            on_goal 2 => (unfold x; clear x))
         | (have hx : Fr 2147417653 s x.2 := ?_
            (on_goal 1 => clear_value x)
            on_goal 2 => (unfold x; clear x))
         | clear_value x)
    | with_reducible apply State.strandWrite_frame
    | with_reducible apply State.timeWrite_frame
    | with_reducible apply State.signetWrite_frame
    | with_reducible apply State.debugToken_frame
    | with_reducible apply State.beginSleep_frame
    | with_reducible apply State.requestNap_frame
    | with_reducible apply State.closeSession_frame
    | with_reducible apply State.odStore_frame
    | (simp -zeta -beta -iota only [Fr.mk_iff]; first | refine FrU.upd ?_ rfl | refine FrU.filter _ ?_ rfl)
    | with_reducible refine Fr.ite ?_ ?_
    | with_reducible refine Fr.ite2 ?_ ?_
    | dsimp -zeta only
    | split

theorem State.localWrite_frame {m_ : Nat} {o_ : State} {s : State} {i : Nat} {b : Nat} {v : Bytes} (h_ : Fr m_ o_ s) (hm_ : Nat.land 1176510469 m_ = 1176510469) : Fr m_ o_ (State.localWrite s i b v) := by
  refine Fr.of h_ hm_ ?_
  clear h_ hm_
  have h_ := Fr.refl 1176510469 s
  unfold State.localWrite
  repeat' first
    | with_reducible assumption
    | exact (rfl : Nat.land _ _ = _)
    | (extract_lets +onlyGivenNames x
       first
         | (have hx : Fr 1176510469 s x := ?_
            (on_goal 1 => clear_value x)
            on_goal 2 => (unfold x; clear x))
         | (have hx : Fr 1176510469 s x.2 := ?_
            (on_goal 1 => clear_value x)
            on_goal 2 => (unfold x; clear x))
         | clear_value x)
    | with_reducible apply State.loopsArm_frame
    | with_reducible apply State.loopsDisarm_frame
    | with_reducible apply State.setAlarmnMin_frame
    | with_reducible apply State.setResponse_frame
    | with_reducible apply State.mgmtKeyMake_frame
    | with_reducible apply State.odStore_frame
    | with_reducible apply State.showPlca_frame
    | with_reducible apply State.limitSessions_frame
    | with_reducible apply State.anchorChanged_frame
    | (simp -zeta -beta -iota only [Fr.mk_iff]; first | refine FrU.upd ?_ rfl | refine FrU.filter _ ?_ rfl)
    | with_reducible refine Fr.ite ?_ ?_
    | with_reducible refine Fr.ite2 ?_ ?_
    | dsimp -zeta only
    | split

theorem State.executeWrite_frame {m_ : Nat} {o_ : State} {s : State} {q : OdReq} {row : OdRow} {i : Nat} {b : Nat} {typ : Nat} {v : Bytes} {items : List StrandItem} (h_ : Fr m_ o_ s) (hm_ : Nat.land 2147417719 m_ = 2147417719) : Fr m_ o_ (State.executeWrite s q row i b typ v items) := by
  refine Fr.of h_ hm_ ?_
  clear h_ hm_
  have h_ := Fr.refl 2147417719 s
  unfold State.executeWrite
  repeat' first
    | with_reducible assumption
    | exact (rfl : Nat.land _ _ = _)
    | (extract_lets +onlyGivenNames x
       first
         | (have hx : Fr 2147417719 s x := ?_
            (on_goal 1 => clear_value x)
            on_goal 2 => (unfold x; clear x))
         | (have hx : Fr 2147417719 s x.2 := ?_
            (on_goal 1 => clear_value x)
            on_goal 2 => (unfold x; clear x))
         | clear_value x)
    | with_reducible apply State.consumeSignet_frame
    | refine Fr.pair (by assumption) (State.consumeSignet_frame (h_ := ?_) ?_)
    | with_reducible apply State.addReply_frame
    | refine Fr.pair (by assumption) (State.addReply_frame (h_ := ?_) ?_)
    | with_reducible apply State.joinRec_frame
    | refine Fr.pair (by assumption) (State.joinRec_frame (h_ := ?_) ?_)
    | with_reducible apply State.ownerEffect_frame
    | with_reducible apply State.queueRec_frame
    | with_reducible apply State.localWrite_frame
    | with_reducible apply State.lifecycleNext_frame
    | with_reducible apply State.startOtp_frame
    | with_reducible apply State.controlEnable_frame
    | with_reducible apply State.controlReset_frame
    | with_reducible apply State.provisionRun_frame
    | with_reducible apply State.volatileWrite_frame
    | refine Fr.pair (by assumption) (State.volatileWrite_frame (h_ := ?_) ?_)
    | with_reducible apply State.refuseWrite_frame
    | (simp -zeta -beta -iota only [Fr.mk_iff]; first | refine FrU.upd ?_ rfl | refine FrU.filter _ ?_ rfl)
    | with_reducible refine Fr.ite ?_ ?_
    | with_reducible refine Fr.ite2 ?_ ?_
    | dsimp -zeta only
    | split

theorem State.respond_frame {m_ : Nat} {o_ : State} {s : State} (h_ : Fr m_ o_ s) (hm_ : Nat.land 1210327315 m_ = 1210327315) : Fr m_ o_ (State.respond s) := by
  refine Fr.of h_ hm_ ?_
  clear h_ hm_
  have h_ := Fr.refl 1210327315 s
  unfold State.respond
  repeat' first
    | with_reducible assumption
    | exact (rfl : Nat.land _ _ = _)
    | with_reducible apply State.settleMailbox_frame
    | with_reducible apply State.flushReplies_frame

theorem State.odWrite_frame {m_ : Nat} {o_ : State} {s : State} {q : OdReq} {i : Nat} {b : Nat} {typ : Nat} {v : Bytes} {items : List StrandItem} (h_ : Fr m_ o_ s) (hm_ : Nat.land 2147417975 m_ = 2147417975) : Fr m_ o_ (State.odWrite s q i b typ v items) := by
  refine Fr.of h_ hm_ ?_
  clear h_ hm_
  have h_ := Fr.refl 2147417975 s
  unfold State.odWrite
  repeat' first
    | with_reducible assumption
    | exact (rfl : Nat.land _ _ = _)
    | (extract_lets +onlyGivenNames x
       first
         | (have hx : Fr 2147417975 s x := ?_
            (on_goal 1 => clear_value x)
            on_goal 2 => (unfold x; clear x))
         | (have hx : Fr 2147417975 s x.2 := ?_
            (on_goal 1 => clear_value x)
            on_goal 2 => (unfold x; clear x))
         | clear_value x)
    | with_reducible apply State.respond_frame
    | with_reducible apply State.refuseWrite_frame
    | with_reducible apply State.executeWrite_frame
    | (simp -zeta -beta -iota only [Fr.mk_iff]; first | refine FrU.upd ?_ rfl | refine FrU.filter _ ?_ rfl)
    | dsimp -zeta only
    | split

theorem State.odSet_frame {m_ : Nat} {o_ : State} {s : State} {q : OdReq} {i : Nat} {b : Nat} {v : Bytes} {items : List StrandItem} (h_ : Fr m_ o_ s) (hm_ : Nat.land 2147417975 m_ = 2147417975) : Fr m_ o_ (State.odSet s q i b v items) := by
  refine Fr.of h_ hm_ ?_
  clear h_ hm_
  have h_ := Fr.refl 2147417975 s
  unfold State.odSet
  repeat' first
    | with_reducible assumption
    | exact (rfl : Nat.land _ _ = _)
    | with_reducible apply State.odWrite_frame
    | dsimp -zeta only

theorem State.odFetch_frame {m_ : Nat} {o_ : State} {s : State} {q : OdReq} {i : Nat} {b : Nat} {offset : Nat} {cap : Nat} (h_ : Fr m_ o_ s) (hm_ : Nat.land 1210327319 m_ = 1210327319) : Fr m_ o_ (State.odFetch s q i b offset cap) := by
  refine Fr.of h_ hm_ ?_
  clear h_ hm_
  have h_ := Fr.refl 1210327319 s
  unfold State.odFetch
  repeat' first
    | with_reducible assumption
    | exact (rfl : Nat.land _ _ = _)
    | (extract_lets +onlyGivenNames x
       first
         | (have hx : Fr 1210327319 s x := ?_
            (on_goal 1 => clear_value x)
            on_goal 2 => (unfold x; clear x))
         | (have hx : Fr 1210327319 s x.2 := ?_
            (on_goal 1 => clear_value x)
            on_goal 2 => (unfold x; clear x))
         | clear_value x)
    | with_reducible apply State.odRead_frame
    | refine Fr.pair2 (by assumption) (State.odRead_frame (h_ := ?_) ?_)
    | with_reducible apply State.respond_frame
    | (simp -zeta -beta -iota only [Fr.mk_iff]; first | refine FrU.upd ?_ rfl | refine FrU.filter _ ?_ rfl)
    | dsimp -zeta only

theorem execOdRead_frame {m_ : Nat} {o_ : State} {entry : Bytes} {s : State} (h_ : Fr m_ o_ s) (hm_ : Nat.land 1210327319 m_ = 1210327319) : FrO m_ o_ (execOdRead entry s) := by
  refine FrO.of h_ hm_ ?_
  clear h_ hm_
  have h_ := Fr.refl 1210327319 s
  unfold execOdRead
  repeat' first
    | with_reducible assumption
    | exact (rfl : Nat.land _ _ = _)
    | (extract_lets +onlyGivenNames x
       first
         | (have hx : Fr 1210327319 s x := ?_
            (on_goal 1 => clear_value x)
            on_goal 2 => (unfold x; clear x))
         | (have hx : Fr 1210327319 s x.2 := ?_
            (on_goal 1 => clear_value x)
            on_goal 2 => (unfold x; clear x))
         | clear_value x)
    | with_reducible apply State.adminBad_frame
    | with_reducible apply State.odFetch_frame
    | with_reducible apply State.adminAdvance_frame
    | with_reducible apply FrO.next
    | (simp -zeta -beta -iota only [Fr.mk_iff]; first | refine FrU.upd ?_ rfl | refine FrU.filter _ ?_ rfl)
    | with_reducible refine Fr.ite ?_ ?_
    | with_reducible refine Fr.ite2 ?_ ?_
    | with_reducible refine FrO.ite ?_ ?_
    | dsimp -zeta only
    | split

theorem execOdWrite_frame {m_ : Nat} {o_ : State} {entry : Bytes} {value : Bytes} {items : List StrandItem} {s : State} (h_ : Fr m_ o_ s) (hm_ : Nat.land 2147417975 m_ = 2147417975) : FrO m_ o_ (execOdWrite entry value items s) := by
  refine FrO.of h_ hm_ ?_
  clear h_ hm_
  have h_ := Fr.refl 2147417975 s
  unfold execOdWrite
  repeat' first
    | with_reducible assumption
    | exact (rfl : Nat.land _ _ = _)
    | (extract_lets +onlyGivenNames x
       first
         | (have hx : Fr 2147417975 s x := ?_
            (on_goal 1 => clear_value x)
            on_goal 2 => (unfold x; clear x))
         | (have hx : Fr 2147417975 s x.2 := ?_
            (on_goal 1 => clear_value x)
            on_goal 2 => (unfold x; clear x))
         | clear_value x)
    | with_reducible apply State.adminBad_frame
    | with_reducible apply State.odWrite_frame
    | with_reducible apply State.readAdminInput_frame
    | with_reducible apply State.adminAdvance_frame
    | with_reducible apply FrO.next
    | (simp -zeta -beta -iota only [Fr.mk_iff]; first | refine FrU.upd ?_ rfl | refine FrU.filter _ ?_ rfl)
    | with_reducible refine Fr.ite ?_ ?_
    | with_reducible refine Fr.ite2 ?_ ?_
    | with_reducible refine FrO.ite ?_ ?_
    | dsimp -zeta only
    | split

theorem execInstanceOwnerWrite_frame {m_ : Nat} {o_ : State} {q : OdReq} {inst : Nat} {value : Bytes} {s : State} (h_ : Fr m_ o_ s) (hm_ : Nat.land 2147417975 m_ = 2147417975) : FrO m_ o_ (execInstanceOwnerWrite q inst value s) := by
  refine FrO.of h_ hm_ ?_
  clear h_ hm_
  have h_ := Fr.refl 2147417975 s
  unfold execInstanceOwnerWrite
  repeat' first
    | with_reducible assumption
    | exact (rfl : Nat.land _ _ = _)
    | with_reducible apply State.odSet_frame
    | with_reducible apply FrO.next

theorem execInstanceEnable_frame {m_ : Nat} {o_ : State} {q : OdReq} {inst : Nat} {s : State} (h_ : Fr m_ o_ s) (hm_ : Nat.land 2147417975 m_ = 2147417975) : FrO m_ o_ (execInstanceEnable q inst s) := by
  refine FrO.of h_ hm_ ?_
  clear h_ hm_
  have h_ := Fr.refl 2147417975 s
  unfold execInstanceEnable
  repeat' first
    | with_reducible assumption
    | exact (rfl : Nat.land _ _ = _)
    | with_reducible apply State.odSet_frame
    | with_reducible apply FrO.next

theorem execInstanceReset_frame {m_ : Nat} {o_ : State} {q : OdReq} {inst : Nat} {s : State} (h_ : Fr m_ o_ s) (hm_ : Nat.land 2147417975 m_ = 2147417975) : FrO m_ o_ (execInstanceReset q inst s) := by
  refine FrO.of h_ hm_ ?_
  clear h_ hm_
  have h_ := Fr.refl 2147417975 s
  unfold execInstanceReset
  repeat' first
    | with_reducible assumption
    | exact (rfl : Nat.land _ _ = _)
    | with_reducible apply State.odSet_frame
    | with_reducible apply FrO.next

theorem execCheckpointRequest_frame {m_ : Nat} {o_ : State} {q : OdReq} {value : Bytes} {s : State} (h_ : Fr m_ o_ s) (hm_ : Nat.land 2147417975 m_ = 2147417975) : FrO m_ o_ (execCheckpointRequest q value s) := by
  refine FrO.of h_ hm_ ?_
  clear h_ hm_
  have h_ := Fr.refl 2147417975 s
  unfold execCheckpointRequest
  repeat' first
    | with_reducible assumption
    | exact (rfl : Nat.land _ _ = _)
    | with_reducible apply State.odSet_frame
    | with_reducible apply FrO.next

theorem execRestoreStart_frame {m_ : Nat} {o_ : State} {q : OdReq} {value : Bytes} {s : State} (h_ : Fr m_ o_ s) (hm_ : Nat.land 2147417975 m_ = 2147417975) : FrO m_ o_ (execRestoreStart q value s) := by
  refine FrO.of h_ hm_ ?_
  clear h_ hm_
  have h_ := Fr.refl 2147417975 s
  unfold execRestoreStart
  repeat' first
    | with_reducible assumption
    | exact (rfl : Nat.land _ _ = _)
    | with_reducible apply State.odSet_frame
    | with_reducible apply FrO.next

theorem execRollbackAccept_frame {m_ : Nat} {o_ : State} {q : OdReq} {value : Bytes} {s : State} (h_ : Fr m_ o_ s) (hm_ : Nat.land 2147417975 m_ = 2147417975) : FrO m_ o_ (execRollbackAccept q value s) := by
  refine FrO.of h_ hm_ ?_
  clear h_ hm_
  have h_ := Fr.refl 2147417975 s
  unfold execRollbackAccept
  repeat' first
    | with_reducible assumption
    | exact (rfl : Nat.land _ _ = _)
    | with_reducible apply State.odSet_frame
    | with_reducible apply FrO.next

theorem execMigrateFloor_frame {m_ : Nat} {o_ : State} {q : OdReq} {value : Bytes} {s : State} (h_ : Fr m_ o_ s) (hm_ : Nat.land 2147417975 m_ = 2147417975) : FrO m_ o_ (execMigrateFloor q value s) := by
  refine FrO.of h_ hm_ ?_
  clear h_ hm_
  have h_ := Fr.refl 2147417975 s
  unfold execMigrateFloor
  repeat' first
    | with_reducible assumption
    | exact (rfl : Nat.land _ _ = _)
    | with_reducible apply State.odSet_frame
    | with_reducible apply FrO.next

theorem execOwnerEpoch_frame {m_ : Nat} {o_ : State} {q : OdReq} {owner : Nat} {value : Bytes} {s : State} (h_ : Fr m_ o_ s) (hm_ : Nat.land 2147417975 m_ = 2147417975) : FrO m_ o_ (execOwnerEpoch q owner value s) := by
  refine FrO.of h_ hm_ ?_
  clear h_ hm_
  have h_ := Fr.refl 2147417975 s
  unfold execOwnerEpoch
  repeat' first
    | with_reducible assumption
    | exact (rfl : Nat.land _ _ = _)
    | with_reducible apply State.odSet_frame
    | with_reducible apply FrO.next

theorem execDomainCreate_frame {m_ : Nat} {o_ : State} {q : OdReq} {value : Bytes} {s : State} (h_ : Fr m_ o_ s) (hm_ : Nat.land 2147417975 m_ = 2147417975) : FrO m_ o_ (execDomainCreate q value s) := by
  refine FrO.of h_ hm_ ?_
  clear h_ hm_
  have h_ := Fr.refl 2147417975 s
  unfold execDomainCreate
  repeat' first
    | with_reducible assumption
    | exact (rfl : Nat.land _ _ = _)
    | with_reducible apply State.odSet_frame
    | with_reducible apply FrO.next

theorem execDomainSend_frame {m_ : Nat} {o_ : State} {q : OdReq} {value : Bytes} {s : State} (h_ : Fr m_ o_ s) (hm_ : Nat.land 2147417975 m_ = 2147417975) : FrO m_ o_ (execDomainSend q value s) := by
  refine FrO.of h_ hm_ ?_
  clear h_ hm_
  have h_ := Fr.refl 2147417975 s
  unfold execDomainSend
  repeat' first
    | with_reducible assumption
    | exact (rfl : Nat.land _ _ = _)
    | with_reducible apply State.odSet_frame
    | with_reducible apply FrO.next

theorem execDomainAccept_frame {m_ : Nat} {o_ : State} {q : OdReq} {value : Bytes} {s : State} (h_ : Fr m_ o_ s) (hm_ : Nat.land 2147417975 m_ = 2147417975) : FrO m_ o_ (execDomainAccept q value s) := by
  refine FrO.of h_ hm_ ?_
  clear h_ hm_
  have h_ := Fr.refl 2147417975 s
  unfold execDomainAccept
  repeat' first
    | with_reducible assumption
    | exact (rfl : Nat.land _ _ = _)
    | with_reducible apply State.odSet_frame
    | with_reducible apply FrO.next

theorem execHandover_frame {m_ : Nat} {o_ : State} {q : OdReq} {value : Bytes} {s : State} (h_ : Fr m_ o_ s) (hm_ : Nat.land 2147417975 m_ = 2147417975) : FrO m_ o_ (execHandover q value s) := by
  refine FrO.of h_ hm_ ?_
  clear h_ hm_
  have h_ := Fr.refl 2147417975 s
  unfold execHandover
  repeat' first
    | with_reducible assumption
    | exact (rfl : Nat.land _ _ = _)
    | with_reducible apply State.odSet_frame
    | with_reducible apply FrO.next

theorem execAppendStart_frame {m_ : Nat} {o_ : State} {q : OdReq} {items : List StrandItem} {value : Bytes} {s : State} (h_ : Fr m_ o_ s) (hm_ : Nat.land 2147417975 m_ = 2147417975) : FrO m_ o_ (execAppendStart q items value s) := by
  refine FrO.of h_ hm_ ?_
  clear h_ hm_
  have h_ := Fr.refl 2147417975 s
  unfold execAppendStart
  repeat' first
    | with_reducible assumption
    | exact (rfl : Nat.land _ _ = _)
    | with_reducible apply State.odSet_frame
    | with_reducible apply FrO.next

theorem execWakePartner_frame {m_ : Nat} {o_ : State} {q : OdReq} {value : Bytes} {s : State} (h_ : Fr m_ o_ s) (hm_ : Nat.land 2147417975 m_ = 2147417975) : FrO m_ o_ (execWakePartner q value s) := by
  refine FrO.of h_ hm_ ?_
  clear h_ hm_
  have h_ := Fr.refl 2147417975 s
  unfold execWakePartner
  repeat' first
    | with_reducible assumption
    | exact (rfl : Nat.land _ _ = _)
    | with_reducible apply State.odSet_frame
    | with_reducible apply FrO.next

theorem execStayAwake_frame {m_ : Nat} {o_ : State} {q : OdReq} {value : Bytes} {s : State} (h_ : Fr m_ o_ s) (hm_ : Nat.land 2147417975 m_ = 2147417975) : FrO m_ o_ (execStayAwake q value s) := by
  refine FrO.of h_ hm_ ?_
  clear h_ hm_
  have h_ := Fr.refl 2147417975 s
  unfold execStayAwake
  repeat' first
    | with_reducible assumption
    | exact (rfl : Nat.land _ _ = _)
    | with_reducible apply State.odSet_frame
    | with_reducible apply FrO.next

theorem execPinWrite_frame {m_ : Nat} {o_ : State} {q : OdReq} {port : Nat} {value : Bytes} {s : State} (h_ : Fr m_ o_ s) (hm_ : Nat.land 2147417975 m_ = 2147417975) : FrO m_ o_ (execPinWrite q port value s) := by
  refine FrO.of h_ hm_ ?_
  clear h_ hm_
  have h_ := Fr.refl 2147417975 s
  unfold execPinWrite
  repeat' first
    | with_reducible assumption
    | exact (rfl : Nat.land _ _ = _)
    | with_reducible apply State.odSet_frame
    | with_reducible apply FrO.next
    | with_reducible refine Fr.ite ?_ ?_
    | with_reducible refine FrO.ite ?_ ?_
    | split

theorem execSignetOpen_frame {m_ : Nat} {o_ : State} {q : OdReq} {value : Bytes} {s : State} (h_ : Fr m_ o_ s) (hm_ : Nat.land 2147417975 m_ = 2147417975) : FrO m_ o_ (execSignetOpen q value s) := by
  refine FrO.of h_ hm_ ?_
  clear h_ hm_
  have h_ := Fr.refl 2147417975 s
  unfold execSignetOpen
  repeat' first
    | with_reducible assumption
    | exact (rfl : Nat.land _ _ = _)
    | with_reducible apply State.odSet_frame
    | with_reducible apply FrO.next

theorem execSignetCancel_frame {m_ : Nat} {o_ : State} {q : OdReq} {value : Bytes} {s : State} (h_ : Fr m_ o_ s) (hm_ : Nat.land 2147417975 m_ = 2147417975) : FrO m_ o_ (execSignetCancel q value s) := by
  refine FrO.of h_ hm_ ?_
  clear h_ hm_
  have h_ := Fr.refl 2147417975 s
  unfold execSignetCancel
  repeat' first
    | with_reducible assumption
    | exact (rfl : Nat.land _ _ = _)
    | with_reducible apply State.odSet_frame
    | with_reducible apply FrO.next

theorem execZeroiseArm_frame {m_ : Nat} {o_ : State} {q : OdReq} {value : Bytes} {s : State} (h_ : Fr m_ o_ s) (hm_ : Nat.land 2147417975 m_ = 2147417975) : FrO m_ o_ (execZeroiseArm q value s) := by
  refine FrO.of h_ hm_ ?_
  clear h_ hm_
  have h_ := Fr.refl 2147417975 s
  unfold execZeroiseArm
  repeat' first
    | with_reducible assumption
    | exact (rfl : Nat.land _ _ = _)
    | with_reducible apply State.odSet_frame
    | with_reducible apply FrO.next

theorem execLoopsArm_frame {m_ : Nat} {o_ : State} {q : OdReq} {value : Bytes} {s : State} (h_ : Fr m_ o_ s) (hm_ : Nat.land 2147417975 m_ = 2147417975) : FrO m_ o_ (execLoopsArm q value s) := by
  refine FrO.of h_ hm_ ?_
  clear h_ hm_
  have h_ := Fr.refl 2147417975 s
  unfold execLoopsArm
  repeat' first
    | with_reducible assumption
    | exact (rfl : Nat.land _ _ = _)
    | with_reducible apply State.odSet_frame
    | with_reducible apply FrO.next

theorem execLoopsDisarm_frame {m_ : Nat} {o_ : State} {q : OdReq} {value : Bytes} {s : State} (h_ : Fr m_ o_ s) (hm_ : Nat.land 2147417975 m_ = 2147417975) : FrO m_ o_ (execLoopsDisarm q value s) := by
  refine FrO.of h_ hm_ ?_
  clear h_ hm_
  have h_ := Fr.refl 2147417975 s
  unfold execLoopsDisarm
  repeat' first
    | with_reducible assumption
    | exact (rfl : Nat.land _ _ = _)
    | with_reducible apply State.odSet_frame
    | with_reducible apply FrO.next

theorem execResponseRaise_frame {m_ : Nat} {o_ : State} {q : OdReq} {src : Nat} {value : Bytes} {s : State} (h_ : Fr m_ o_ s) (hm_ : Nat.land 2147417975 m_ = 2147417975) : FrO m_ o_ (execResponseRaise q src value s) := by
  refine FrO.of h_ hm_ ?_
  clear h_ hm_
  have h_ := Fr.refl 2147417975 s
  unfold execResponseRaise
  repeat' first
    | with_reducible assumption
    | exact (rfl : Nat.land _ _ = _)
    | with_reducible apply State.odSet_frame
    | with_reducible apply FrO.next

theorem execLifecycleNext_frame {m_ : Nat} {o_ : State} {q : OdReq} {value : Bytes} {s : State} (h_ : Fr m_ o_ s) (hm_ : Nat.land 2147417975 m_ = 2147417975) : FrO m_ o_ (execLifecycleNext q value s) := by
  refine FrO.of h_ hm_ ?_
  clear h_ hm_
  have h_ := Fr.refl 2147417975 s
  unfold execLifecycleNext
  repeat' first
    | with_reducible assumption
    | exact (rfl : Nat.land _ _ = _)
    | with_reducible apply State.odSet_frame
    | with_reducible apply FrO.next

theorem execSignerHashes_frame {m_ : Nat} {o_ : State} {q : OdReq} {slot : Nat} {value : Bytes} {s : State} (h_ : Fr m_ o_ s) (hm_ : Nat.land 2147417975 m_ = 2147417975) : FrO m_ o_ (execSignerHashes q slot value s) := by
  refine FrO.of h_ hm_ ?_
  clear h_ hm_
  have h_ := Fr.refl 2147417975 s
  unfold execSignerHashes
  repeat' first
    | with_reducible assumption
    | exact (rfl : Nat.land _ _ = _)
    | with_reducible apply State.odSet_frame
    | with_reducible apply FrO.next

theorem execSignerRevoke_frame {m_ : Nat} {o_ : State} {q : OdReq} {slot : Nat} {value : Bytes} {s : State} (h_ : Fr m_ o_ s) (hm_ : Nat.land 2147417975 m_ = 2147417975) : FrO m_ o_ (execSignerRevoke q slot value s) := by
  refine FrO.of h_ hm_ ?_
  clear h_ hm_
  have h_ := Fr.refl 2147417975 s
  unfold execSignerRevoke
  repeat' first
    | with_reducible assumption
    | exact (rfl : Nat.land _ _ = _)
    | with_reducible apply State.odSet_frame
    | with_reducible apply FrO.next

theorem execSvnFloor_frame {m_ : Nat} {o_ : State} {q : OdReq} {value : Bytes} {s : State} (h_ : Fr m_ o_ s) (hm_ : Nat.land 2147417975 m_ = 2147417975) : FrO m_ o_ (execSvnFloor q value s) := by
  refine FrO.of h_ hm_ ?_
  clear h_ hm_
  have h_ := Fr.refl 2147417975 s
  unfold execSvnFloor
  repeat' first
    | with_reducible assumption
    | exact (rfl : Nat.land _ _ = _)
    | with_reducible apply State.odSet_frame
    | with_reducible apply FrO.next

theorem execCosigRequired_frame {m_ : Nat} {o_ : State} {q : OdReq} {value : Bytes} {s : State} (h_ : Fr m_ o_ s) (hm_ : Nat.land 2147417975 m_ = 2147417975) : FrO m_ o_ (execCosigRequired q value s) := by
  refine FrO.of h_ hm_ ?_
  clear h_ hm_
  have h_ := Fr.refl 2147417975 s
  unfold execCosigRequired
  repeat' first
    | with_reducible assumption
    | exact (rfl : Nat.land _ _ = _)
    | with_reducible apply State.odSet_frame
    | with_reducible apply FrO.next

theorem execCompatDisable_frame {m_ : Nat} {o_ : State} {q : OdReq} {value : Bytes} {s : State} (h_ : Fr m_ o_ s) (hm_ : Nat.land 2147417975 m_ = 2147417975) : FrO m_ o_ (execCompatDisable q value s) := by
  refine FrO.of h_ hm_ ?_
  clear h_ hm_
  have h_ := Fr.refl 2147417975 s
  unfold execCompatDisable
  repeat' first
    | with_reducible assumption
    | exact (rfl : Nat.land _ _ = _)
    | with_reducible apply State.odSet_frame
    | with_reducible apply FrO.next

theorem execProvisionRun_frame {m_ : Nat} {o_ : State} {q : OdReq} {value : Bytes} {s : State} (h_ : Fr m_ o_ s) (hm_ : Nat.land 2147417975 m_ = 2147417975) : FrO m_ o_ (execProvisionRun q value s) := by
  refine FrO.of h_ hm_ ?_
  clear h_ hm_
  have h_ := Fr.refl 2147417975 s
  unfold execProvisionRun
  repeat' first
    | with_reducible assumption
    | exact (rfl : Nat.land _ _ = _)
    | with_reducible apply State.odSet_frame
    | with_reducible apply FrO.next

theorem execSigner0_frame {m_ : Nat} {o_ : State} {q : OdReq} {value : Bytes} {s : State} (h_ : Fr m_ o_ s) (hm_ : Nat.land 2147417975 m_ = 2147417975) : FrO m_ o_ (execSigner0 q value s) := by
  refine FrO.of h_ hm_ ?_
  clear h_ hm_
  have h_ := Fr.refl 2147417975 s
  unfold execSigner0
  repeat' first
    | with_reducible assumption
    | exact (rfl : Nat.land _ _ = _)
    | with_reducible apply State.odSet_frame
    | with_reducible apply FrO.next

theorem execIdentityCertWrite_frame {m_ : Nat} {o_ : State} {q : OdReq} {value : Bytes} {s : State} (h_ : Fr m_ o_ s) (hm_ : Nat.land 2147417975 m_ = 2147417975) : FrO m_ o_ (execIdentityCertWrite q value s) := by
  refine FrO.of h_ hm_ ?_
  clear h_ hm_
  have h_ := Fr.refl 2147417975 s
  unfold execIdentityCertWrite
  repeat' first
    | with_reducible assumption
    | exact (rfl : Nat.land _ _ = _)
    | with_reducible apply State.odSet_frame
    | with_reducible apply FrO.next

theorem execDebugToken_frame {m_ : Nat} {o_ : State} {q : OdReq} {value : Bytes} {s : State} (h_ : Fr m_ o_ s) (hm_ : Nat.land 2147417975 m_ = 2147417975) : FrO m_ o_ (execDebugToken q value s) := by
  refine FrO.of h_ hm_ ?_
  clear h_ hm_
  have h_ := Fr.refl 2147417975 s
  unfold execDebugToken
  repeat' first
    | with_reducible assumption
    | exact (rfl : Nat.land _ _ = _)
    | with_reducible apply State.odSet_frame
    | with_reducible apply FrO.next

theorem execNextPulseTai_frame {m_ : Nat} {o_ : State} {q : OdReq} {value : Bytes} {s : State} (h_ : Fr m_ o_ s) (hm_ : Nat.land 2147417975 m_ = 2147417975) : FrO m_ o_ (execNextPulseTai q value s) := by
  refine FrO.of h_ hm_ ?_
  clear h_ hm_
  have h_ := Fr.refl 2147417975 s
  unfold execNextPulseTai
  repeat' first
    | with_reducible assumption
    | exact (rfl : Nat.land _ _ = _)
    | with_reducible apply State.odSet_frame
    | with_reducible apply FrO.next

theorem execTodReset_frame {m_ : Nat} {o_ : State} {q : OdReq} {value : Bytes} {s : State} (h_ : Fr m_ o_ s) (hm_ : Nat.land 2147417975 m_ = 2147417975) : FrO m_ o_ (execTodReset q value s) := by
  refine FrO.of h_ hm_ ?_
  clear h_ hm_
  have h_ := Fr.refl 2147417975 s
  unfold execTodReset
  repeat' first
    | with_reducible assumption
    | exact (rfl : Nat.land _ _ = _)
    | with_reducible apply State.odSet_frame
    | with_reducible apply FrO.next

theorem execArchiveRelease_frame {m_ : Nat} {o_ : State} {q : OdReq} {value : Bytes} {s : State} (h_ : Fr m_ o_ s) (hm_ : Nat.land 2147417975 m_ = 2147417975) : FrO m_ o_ (execArchiveRelease q value s) := by
  refine FrO.of h_ hm_ ?_
  clear h_ hm_
  have h_ := Fr.refl 2147417975 s
  unfold execArchiveRelease
  repeat' first
    | with_reducible assumption
    | exact (rfl : Nat.land _ _ = _)
    | with_reducible apply State.odSet_frame
    | with_reducible apply FrO.next

theorem execSessionCloseWrite_frame {m_ : Nat} {o_ : State} {q : OdReq} {slot : Nat} {value : Bytes} {s : State} (h_ : Fr m_ o_ s) (hm_ : Nat.land 2147417975 m_ = 2147417975) : FrO m_ o_ (execSessionCloseWrite q slot value s) := by
  refine FrO.of h_ hm_ ?_
  clear h_ hm_
  have h_ := Fr.refl 2147417975 s
  unfold execSessionCloseWrite
  repeat' first
    | with_reducible assumption
    | exact (rfl : Nat.land _ _ = _)
    | with_reducible apply State.odSet_frame
    | with_reducible apply FrO.next

theorem execMgmtKeyGenerate_frame {m_ : Nat} {o_ : State} {q : OdReq} {value : Bytes} {s : State} (h_ : Fr m_ o_ s) (hm_ : Nat.land 2147417975 m_ = 2147417975) : FrO m_ o_ (execMgmtKeyGenerate q value s) := by
  refine FrO.of h_ hm_ ?_
  clear h_ hm_
  have h_ := Fr.refl 2147417975 s
  unfold execMgmtKeyGenerate
  repeat' first
    | with_reducible assumption
    | exact (rfl : Nat.land _ _ = _)
    | with_reducible apply State.odSet_frame
    | with_reducible apply FrO.next

theorem execMgmtCert_frame {m_ : Nat} {o_ : State} {q : OdReq} {value : Bytes} {s : State} (h_ : Fr m_ o_ s) (hm_ : Nat.land 2147417975 m_ = 2147417975) : FrO m_ o_ (execMgmtCert q value s) := by
  refine FrO.of h_ hm_ ?_
  clear h_ hm_
  have h_ := Fr.refl 2147417975 s
  unfold execMgmtCert
  repeat' first
    | with_reducible assumption
    | exact (rfl : Nat.land _ _ = _)
    | with_reducible apply State.odSet_frame
    | with_reducible apply FrO.next

theorem execNapRequest_frame {m_ : Nat} {o_ : State} {q : OdReq} {value : Bytes} {s : State} (h_ : Fr m_ o_ s) (hm_ : Nat.land 2147417975 m_ = 2147417975) : FrO m_ o_ (execNapRequest q value s) := by
  refine FrO.of h_ hm_ ?_
  clear h_ hm_
  have h_ := Fr.refl 2147417975 s
  unfold execNapRequest
  repeat' first
    | with_reducible assumption
    | exact (rfl : Nat.land _ _ = _)
    | with_reducible apply State.odSet_frame
    | with_reducible apply FrO.next

theorem execSleepRequest_frame {m_ : Nat} {o_ : State} {q : OdReq} {value : Bytes} {s : State} (h_ : Fr m_ o_ s) (hm_ : Nat.land 2147417975 m_ = 2147417975) : FrO m_ o_ (execSleepRequest q value s) := by
  refine FrO.of h_ hm_ ?_
  clear h_ hm_
  have h_ := Fr.refl 2147417975 s
  unfold execSleepRequest
  repeat' first
    | with_reducible assumption
    | exact (rfl : Nat.land _ _ = _)
    | with_reducible apply State.odSet_frame
    | with_reducible apply FrO.next

theorem execNextRecord_frame {m_ : Nat} {o_ : State} {q : OdReq} {offset : Nat} {cap : Nat} {s : State} (h_ : Fr m_ o_ s) (hm_ : Nat.land 1210327319 m_ = 1210327319) : FrO m_ o_ (execNextRecord q offset cap s) := by
  refine FrO.of h_ hm_ ?_
  clear h_ hm_
  have h_ := Fr.refl 1210327319 s
  unfold execNextRecord
  repeat' first
    | with_reducible assumption
    | exact (rfl : Nat.land _ _ = _)
    | with_reducible apply State.odFetch_frame
    | with_reducible apply FrO.next

theorem State.queueReply_frame {m_ : Nat} {o_ : State} {s : State} {q : OdReq} {kind : Nat} {flags : Nat} {grant : Nat} {res : OdResult} {again : Option Bytes} (h_ : Fr m_ o_ s) (hm_ : Nat.land 2097152 m_ = 2097152) : Fr m_ o_ (State.queueReply s q kind flags grant res again) := by
  refine Fr.of h_ hm_ ?_
  clear h_ hm_
  have h_ := Fr.refl 2097152 s
  unfold State.queueReply
  repeat' first
    | with_reducible assumption
    | exact (rfl : Nat.land _ _ = _)
    | (extract_lets +onlyGivenNames x
       first
         | (have hx : Fr 2097152 s x := ?_
            (on_goal 1 => clear_value x)
            on_goal 2 => (unfold x; clear x))
         | (have hx : Fr 2097152 s x.2 := ?_
            (on_goal 1 => clear_value x)
            on_goal 2 => (unfold x; clear x))
         | clear_value x)
    | (simp -zeta -beta -iota only [Fr.mk_iff]; first | refine FrU.upd ?_ rfl | refine FrU.filter _ ?_ rfl)
    | dsimp -zeta only

theorem State.setParts_frame {m_ : Nat} {o_ : State} {s : State} {reader : Nat} {x : Option WriteParts} (h_ : Fr m_ o_ s) (hm_ : Nat.land 2097152 m_ = 2097152) : Fr m_ o_ (State.setParts s reader x) := by
  refine Fr.of h_ hm_ ?_
  clear h_ hm_
  have h_ := Fr.refl 2097152 s
  unfold State.setParts
  repeat' first
    | with_reducible assumption
    | exact (rfl : Nat.land _ _ = _)
    | (extract_lets +onlyGivenNames x
       first
         | (have hx : Fr 2097152 s x := ?_
            (on_goal 1 => clear_value x)
            on_goal 2 => (unfold x; clear x))
         | (have hx : Fr 2097152 s x.2 := ?_
            (on_goal 1 => clear_value x)
            on_goal 2 => (unfold x; clear x))
         | clear_value x)
    | (simp -zeta -beta -iota only [Fr.mk_iff]; first | refine FrU.upd ?_ rfl | refine FrU.filter _ ?_ rfl)
    | dsimp -zeta only

theorem State.writePart_frame {m_ : Nat} {o_ : State} {s : State} {q : OdReq} {body : Bytes} {items : List StrandItem} (h_ : Fr m_ o_ s) (hm_ : Nat.land 2147417975 m_ = 2147417975) : Fr m_ o_ (State.writePart s q body items) := by
  refine Fr.of h_ hm_ ?_
  clear h_ hm_
  have h_ := Fr.refl 2147417975 s
  unfold State.writePart
  repeat' first
    | with_reducible assumption
    | exact (rfl : Nat.land _ _ = _)
    | (extract_lets +onlyGivenNames x
       first
         | (have hx : Fr 2147417975 s x := ?_
            (on_goal 1 => clear_value x)
            on_goal 2 => (unfold x; clear x))
         | (have hx : Fr 2147417975 s x.2 := ?_
            (on_goal 1 => clear_value x)
            on_goal 2 => (unfold x; clear x))
         | clear_value x)
    | with_reducible apply State.respond_frame
    | with_reducible apply State.refuseWrite_frame
    | with_reducible apply State.setParts_frame
    | with_reducible apply State.odWrite_frame
    | with_reducible apply State.queueReply_frame
    | (simp -zeta -beta -iota only [Fr.mk_iff]; first | refine FrU.upd ?_ rfl | refine FrU.filter _ ?_ rfl)
    | with_reducible refine Fr.ite ?_ ?_
    | with_reducible refine Fr.ite2 ?_ ?_
    | dsimp -zeta only
    | split

theorem State.runMessage_frame {m_ : Nat} {o_ : State} {s : State} {q : OdReq} {m : Bytes} {items : List StrandItem} (h_ : Fr m_ o_ s) (hm_ : Nat.land 2147417975 m_ = 2147417975) : Fr m_ o_ (State.runMessage s q m items) := by
  refine Fr.of h_ hm_ ?_
  clear h_ hm_
  have h_ := Fr.refl 2147417975 s
  unfold State.runMessage
  repeat' first
    | with_reducible assumption
    | exact (rfl : Nat.land _ _ = _)
    | (extract_lets +onlyGivenNames x
       first
         | (have hx : Fr 2147417975 s x := ?_
            (on_goal 1 => clear_value x)
            on_goal 2 => (unfold x; clear x))
         | (have hx : Fr 2147417975 s x.2 := ?_
            (on_goal 1 => clear_value x)
            on_goal 2 => (unfold x; clear x))
         | clear_value x)
    | with_reducible apply State.respond_frame
    | with_reducible apply State.queueReply_frame
    | with_reducible apply State.odFetch_frame
    | with_reducible apply State.writePart_frame
    | (simp -zeta -beta -iota only [Fr.mk_iff]; first | refine FrU.upd ?_ rfl | refine FrU.filter _ ?_ rfl)
    | with_reducible refine Fr.ite ?_ ?_
    | dsimp -zeta only
    | split

theorem State.creditViolation_frame {m_ : Nat} {o_ : State} {s : State} {n : Nat} (h_ : Fr m_ o_ s) (hm_ : Nat.land 1075847168 m_ = 1075847168) : Fr m_ o_ (State.creditViolation s n) := by
  refine Fr.of h_ hm_ ?_
  clear h_ hm_
  have h_ := Fr.refl 1075847168 s
  unfold State.creditViolation
  repeat' first
    | with_reducible assumption
    | exact (rfl : Nat.land _ _ = _)
    | (extract_lets +onlyGivenNames x
       first
         | (have hx : Fr 1075847168 s x := ?_
            (on_goal 1 => clear_value x)
            on_goal 2 => (unfold x; clear x))
         | (have hx : Fr 1075847168 s x.2 := ?_
            (on_goal 1 => clear_value x)
            on_goal 2 => (unfold x; clear x))
         | clear_value x)
    | with_reducible apply State.setSession_frame
    | with_reducible apply State.closeSession_frame
    | (simp -zeta -beta -iota only [Fr.mk_iff]; first | refine FrU.upd ?_ rfl | refine FrU.filter _ ?_ rfl)
    | with_reducible refine Fr.ite ?_ ?_
    | dsimp -zeta only
    | split

theorem State.creditedRequest_frame {m_ : Nat} {o_ : State} {s : State} {n : Nat} {m : Bytes} {items : List StrandItem} (h_ : Fr m_ o_ s) (hm_ : Nat.land 2147417975 m_ = 2147417975) : Fr m_ o_ (State.creditedRequest s n m items) := by
  refine Fr.of h_ hm_ ?_
  clear h_ hm_
  have h_ := Fr.refl 2147417975 s
  unfold State.creditedRequest
  repeat' first
    | with_reducible assumption
    | exact (rfl : Nat.land _ _ = _)
    | (extract_lets +onlyGivenNames x
       first
         | (have hx : Fr 2147417975 s x := ?_
            (on_goal 1 => clear_value x)
            on_goal 2 => (unfold x; clear x))
         | (have hx : Fr 2147417975 s x.2 := ?_
            (on_goal 1 => clear_value x)
            on_goal 2 => (unfold x; clear x))
         | clear_value x)
    | with_reducible apply State.creditViolation_frame
    | with_reducible apply State.setSession_frame
    | with_reducible apply State.respond_frame
    | with_reducible apply State.queueReply_frame
    | with_reducible apply State.runMessage_frame
    | (simp -zeta -beta -iota only [Fr.mk_iff]; first | refine FrU.upd ?_ rfl | refine FrU.filter _ ?_ rfl)
    | with_reducible refine Fr.ite ?_ ?_
    | with_reducible refine Fr.ite2 ?_ ?_
    | dsimp -zeta only
    | split

theorem State.plainMessage_frame {m_ : Nat} {o_ : State} {s : State} {n : Nat} {m : Bytes} (h_ : Fr m_ o_ s) (hm_ : Nat.land 1210327315 m_ = 1210327315) : Fr m_ o_ (State.plainMessage s n m) := by
  refine Fr.of h_ hm_ ?_
  clear h_ hm_
  have h_ := Fr.refl 1210327315 s
  unfold State.plainMessage
  repeat' first
    | with_reducible assumption
    | exact (rfl : Nat.land _ _ = _)
    | with_reducible apply State.closeSession_frame
    | with_reducible apply State.respond_frame
    | with_reducible apply State.queueReply_frame
    | with_reducible refine Fr.ite ?_ ?_
    | split

theorem State.message_frame {m_ : Nat} {o_ : State} {s : State} {n : Nat} {m : Bytes} {items : List StrandItem} (h_ : Fr m_ o_ s) (hm_ : Nat.land 2147417975 m_ = 2147417975) : Fr m_ o_ (State.message s n m items) := by
  refine Fr.of h_ hm_ ?_
  clear h_ hm_
  have h_ := Fr.refl 2147417975 s
  unfold State.message
  repeat' first
    | with_reducible assumption
    | exact (rfl : Nat.land _ _ = _)
    | (extract_lets +onlyGivenNames x
       first
         | (have hx : Fr 2147417975 s x := ?_
            (on_goal 1 => clear_value x)
            on_goal 2 => (unfold x; clear x))
         | (have hx : Fr 2147417975 s x.2 := ?_
            (on_goal 1 => clear_value x)
            on_goal 2 => (unfold x; clear x))
         | clear_value x)
    | with_reducible apply State.setSession_frame
    | with_reducible apply State.creditedRequest_frame
    | with_reducible apply State.plainMessage_frame
    | (simp -zeta -beta -iota only [Fr.mk_iff]; first | refine FrU.upd ?_ rfl | refine FrU.filter _ ?_ rfl)
    | with_reducible refine Fr.ite ?_ ?_
    | dsimp -zeta only
    | split

theorem execRead_frame {m_ : Nat} {o_ : State} {slot : Nat} {msg : Bytes} {s : State} (h_ : Fr m_ o_ s) (hm_ : Nat.land 2147417975 m_ = 2147417975) : FrO m_ o_ (execRead slot msg s) := by
  refine FrO.of h_ hm_ ?_
  clear h_ hm_
  have h_ := Fr.refl 2147417975 s
  unfold execRead
  repeat' first
    | with_reducible assumption
    | exact (rfl : Nat.land _ _ = _)
    | with_reducible apply State.message_frame
    | with_reducible apply FrO.next
    | with_reducible refine Fr.ite ?_ ?_
    | with_reducible refine FrO.ite ?_ ?_
    | split

theorem execWrite_frame {m_ : Nat} {o_ : State} {slot : Nat} {msg : Bytes} {items : List StrandItem} {s : State} (h_ : Fr m_ o_ s) (hm_ : Nat.land 2147417975 m_ = 2147417975) : FrO m_ o_ (execWrite slot msg items s) := by
  refine FrO.of h_ hm_ ?_
  clear h_ hm_
  have h_ := Fr.refl 2147417975 s
  unfold execWrite
  repeat' first
    | with_reducible assumption
    | exact (rfl : Nat.land _ _ = _)
    | with_reducible apply State.message_frame
    | with_reducible apply FrO.next
    | with_reducible refine Fr.ite ?_ ?_
    | with_reducible refine FrO.ite ?_ ?_
    | split

theorem execClose_frame {m_ : Nat} {o_ : State} {slot : Nat} {msg : Bytes} {s : State} (h_ : Fr m_ o_ s) (hm_ : Nat.land 2147417975 m_ = 2147417975) : FrO m_ o_ (execClose slot msg s) := by
  refine FrO.of h_ hm_ ?_
  clear h_ hm_
  have h_ := Fr.refl 2147417975 s
  unfold execClose
  repeat' first
    | with_reducible assumption
    | exact (rfl : Nat.land _ _ = _)
    | with_reducible apply State.message_frame
    | with_reducible apply FrO.next
    | with_reducible refine Fr.ite ?_ ?_
    | with_reducible refine FrO.ite ?_ ?_
    | split

theorem execSecureOdAccess_frame {m_ : Nat} {o_ : State} {session : Nat} {role : Nat} {items : List StrandItem} {s : State} (h_ : Fr m_ o_ s) (hm_ : Nat.land 2147417975 m_ = 2147417975) : FrO m_ o_ (execSecureOdAccess session role items s) := by
  refine FrO.of h_ hm_ ?_
  clear h_ hm_
  have h_ := Fr.refl 2147417975 s
  unfold execSecureOdAccess
  repeat' first
    | with_reducible assumption
    | exact (rfl : Nat.land _ _ = _)
    | (extract_lets +onlyGivenNames x
       first
         | (have hx : Fr 2147417975 s x := ?_
            (on_goal 1 => clear_value x)
            on_goal 2 => (unfold x; clear x))
         | (have hx : Fr 2147417975 s x.2 := ?_
            (on_goal 1 => clear_value x)
            on_goal 2 => (unfold x; clear x))
         | clear_value x)
    | with_reducible apply State.put_frame
    | with_reducible apply State.checkAccess_frame
    | refine Fr.pair (by assumption) (State.checkAccess_frame (h_ := ?_) ?_)
    | with_reducible apply State.runMessage_frame
    | with_reducible apply State.putBit_frame
    | with_reducible apply FrO.next
    | with_reducible refine Fr.ite ?_ ?_
    | with_reducible refine Fr.ite2 ?_ ?_
    | with_reducible refine FrO.ite ?_ ?_
    | dsimp -zeta only
    | split

end Sys2Proof.Machine
end

