-- ==== Sys2Proof/Laws/FrameBus.lean ====
section
/-! SUPPORT. Which pieces of State each function of register writes and the bus may change. -/

set_option maxRecDepth 4000
set_option linter.all false

namespace Sys2Proof.Machine

theorem State.regStore_frame {m_ : Nat} {o_ : State} {s : State} {w : World} {a : Nat} {v : Nat} (h_ : Fr m_ o_ s) (hm_ : Nat.land 536870913 m_ = 536870913) : Fr m_ o_ (State.regStore s w a v) := by
  refine Fr.of h_ hm_ ?_
  clear h_ hm_
  have h_ := Fr.refl 536870913 s
  unfold State.regStore
  repeat' first
    | with_reducible assumption
    | exact (rfl : Nat.land _ _ = _)
    | (extract_lets +onlyGivenNames x
       first
         | (have hx : Fr 536870913 s x := ?_
            (on_goal 1 => clear_value x)
            on_goal 2 => (unfold x; clear x))
         | (have hx : Fr 536870913 s x.2 := ?_
            (on_goal 1 => clear_value x)
            on_goal 2 => (unfold x; clear x))
         | clear_value x)
    | with_reducible apply State.setReg_frame
    | (simp -zeta -beta -iota only [Fr.mk_iff]; first | refine FrU.upd ?_ rfl | refine FrU.filter _ ?_ rfl)
    | with_reducible refine Fr.ite ?_ ?_
    | with_reducible refine Fr.ite2 ?_ ?_
    | dsimp -zeta only
    | split

theorem State.msixWrite_frame {m_ : Nat} {o_ : State} {s : State} {i : Nat} {v : Nat} (h_ : Fr m_ o_ s) (hm_ : Nat.land 134217745 m_ = 134217745) : Fr m_ o_ (State.msixWrite s i v) := by
  refine Fr.of h_ hm_ ?_
  clear h_ hm_
  have h_ := Fr.refl 134217745 s
  unfold State.msixWrite
  repeat' first
    | with_reducible assumption
    | exact (rfl : Nat.land _ _ = _)
    | (extract_lets +onlyGivenNames x
       first
         | (have hx : Fr 134217745 s x := ?_
            (on_goal 1 => clear_value x)
            on_goal 2 => (unfold x; clear x))
         | (have hx : Fr 134217745 s x.2 := ?_
            (on_goal 1 => clear_value x)
            on_goal 2 => (unfold x; clear x))
         | (unfold x; clear x))
    | with_reducible apply nextOf_frame
    | with_reducible apply execMsixVectorUnmask_frame
    | (simp -zeta -beta -iota only [Fr.mk_iff]; first | refine FrU.upd ?_ rfl | refine FrU.filter _ ?_ rfl)
    | with_reducible refine Fr.ite ?_ ?_
    | dsimp -zeta only
    | split

theorem State.aqCfg_frame {m_ : Nat} {o_ : State} {s : State} {v : Nat} (h_ : Fr m_ o_ s) (hm_ : Nat.land 134217985 m_ = 134217985) : Fr m_ o_ (State.aqCfg s v) := by
  refine Fr.of h_ hm_ ?_
  clear h_ hm_
  have h_ := Fr.refl 134217985 s
  unfold State.aqCfg
  repeat' first
    | with_reducible assumption
    | exact (rfl : Nat.land _ _ = _)
    | (extract_lets +onlyGivenNames x
       first
         | (have hx : Fr 134217985 s x := ?_
            (on_goal 1 => clear_value x)
            on_goal 2 => (unfold x; clear x))
         | (have hx : Fr 134217985 s x.2 := ?_
            (on_goal 1 => clear_value x)
            on_goal 2 => (unfold x; clear x))
         | clear_value x)
    | with_reducible apply nextOf_frame
    | with_reducible apply execAdminMailboxEnable_frame
    | with_reducible apply execAdminMailboxDisable_frame
    | with_reducible apply State.put_frame
    | with_reducible refine Fr.ite ?_ ?_
    | dsimp -zeta only
    | split

theorem State.mtrCfg_frame {m_ : Nat} {o_ : State} {s : State} {v : Nat} (h_ : Fr m_ o_ s) (hm_ : Nat.land 134219825 m_ = 134219825) : Fr m_ o_ (State.mtrCfg s v) := by
  refine Fr.of h_ hm_ ?_
  clear h_ hm_
  have h_ := Fr.refl 134219825 s
  unfold State.mtrCfg
  repeat' first
    | with_reducible assumption
    | exact (rfl : Nat.land _ _ = _)
    | (extract_lets +onlyGivenNames x
       first
         | (have hx : Fr 134219825 s x := ?_
            (on_goal 1 => clear_value x)
            on_goal 2 => (unfold x; clear x))
         | (have hx : Fr 134219825 s x.2 := ?_
            (on_goal 1 => clear_value x)
            on_goal 2 => (unfold x; clear x))
         | clear_value x)
    | with_reducible apply nextOf_frame
    | with_reducible apply execMeterRingEnable_frame
    | with_reducible apply execMeterRingDisable_frame
    | with_reducible apply State.put_frame
    | with_reducible refine Fr.ite ?_ ?_
    | dsimp -zeta only
    | split

theorem State.jnlCfg_frame {m_ : Nat} {o_ : State} {s : State} {v : Nat} (h_ : Fr m_ o_ s) (hm_ : Nat.land 151011345 m_ = 151011345) : Fr m_ o_ (State.jnlCfg s v) := by
  refine Fr.of h_ hm_ ?_
  clear h_ hm_
  have h_ := Fr.refl 151011345 s
  unfold State.jnlCfg
  repeat' first
    | with_reducible assumption
    | exact (rfl : Nat.land _ _ = _)
    | (extract_lets +onlyGivenNames x
       first
         | (have hx : Fr 151011345 s x := ?_
            (on_goal 1 => clear_value x)
            on_goal 2 => (unfold x; clear x))
         | (have hx : Fr 151011345 s x.2 := ?_
            (on_goal 1 => clear_value x)
            on_goal 2 => (unfold x; clear x))
         | clear_value x)
    | with_reducible apply nextOf_frame
    | with_reducible apply execJournalExportEnable_frame
    | with_reducible apply execJournalExportDisable_frame
    | with_reducible apply State.put_frame
    | with_reducible refine Fr.ite ?_ ?_
    | dsimp -zeta only
    | split

theorem State.writeHst_frame {m_ : Nat} {o_ : State} {s : State} {w : World} {a : Nat} {v : Nat} (h_ : Fr m_ o_ s) (hm_ : Nat.land 2147479543 m_ = 2147479543) : Fr m_ o_ (State.writeHst s w a v) := by
  refine Fr.of h_ hm_ ?_
  clear h_ hm_
  have h_ := Fr.refl 2147479543 s
  unfold State.writeHst
  repeat' first
    | with_reducible assumption
    | exact (rfl : Nat.land _ _ = _)
    | with_reducible apply Fr.trigger
    | with_reducible apply nextOf_frame
    | with_reducible apply State.regStore_frame
    | with_reducible apply State.aqCfg_frame
    | with_reducible apply execAdminSqTailWrite_frame
    | with_reducible apply State.settleMailbox_frame
    | with_reducible apply State.flushReplies_frame
    | with_reducible apply State.put_frame
    | with_reducible apply State.mtrCfg_frame
    | with_reducible apply execMeterHeadWrite_frame
    | with_reducible apply State.jnlCfg_frame
    | with_reducible apply execJournalConsumedWrite_frame
    | with_reducible apply execJournalDurableWrite_frame
    | with_reducible apply execClaspWrite_frame
    | with_reducible apply execRecoveryGo_frame
    | with_reducible refine Fr.ite ?_ ?_
    | split

theorem State.policyDecide_frame {m_ : Nat} {o_ : State} {s : State} {v : Nat} (h_ : Fr m_ o_ s) (hm_ : Nat.land 18837041 m_ = 18837041) : Fr m_ o_ (State.policyDecide s v) := by
  refine Fr.of h_ hm_ ?_
  clear h_ hm_
  have h_ := Fr.refl 18837041 s
  unfold State.policyDecide
  repeat' first
    | with_reducible assumption
    | exact (rfl : Nat.land _ _ = _)
    | (extract_lets +onlyGivenNames x
       first
         | (have hx : Fr 18837041 s x := ?_
            (on_goal 1 => clear_value x)
            on_goal 2 => (unfold x; clear x))
         | (have hx : Fr 18837041 s x.2 := ?_
            (on_goal 1 => clear_value x)
            on_goal 2 => (unfold x; clear x))
         | clear_value x)
    | with_reducible apply nextOf_frame
    | with_reducible apply execPolicyPermit_frame
    | with_reducible apply execPolicyDeny_frame
    | (simp -zeta -beta -iota only [Fr.mk_iff]; first | refine FrU.upd ?_ rfl | refine FrU.filter _ ?_ rfl)
    | dsimp -zeta only
    | split

theorem State.writeLkt_frame {m_ : Nat} {o_ : State} {s : State} {w : World} {a : Nat} {v : Nat} (h_ : Fr m_ o_ s) (hm_ : Nat.land 689925681 m_ = 689925681) : Fr m_ o_ (State.writeLkt s w a v) := by
  refine Fr.of h_ hm_ ?_
  clear h_ hm_
  have h_ := Fr.refl 689925681 s
  unfold State.writeLkt
  repeat' first
    | with_reducible assumption
    | exact (rfl : Nat.land _ _ = _)
    | (extract_lets +onlyGivenNames x
       first
         | (have hx : Fr 689925681 s x := ?_
            (on_goal 1 => clear_value x)
            on_goal 2 => (unfold x; clear x))
         | (have hx : Fr 689925681 s x.2 := ?_
            (on_goal 1 => clear_value x)
            on_goal 2 => (unfold x; clear x))
         | clear_value x)
    | with_reducible apply Fr.trigger
    | with_reducible apply nextOf_frame
    | with_reducible apply execLocketPeakClear_frame
    | with_reducible apply State.regStore_frame
    | with_reducible apply State.polIrq_frame
    | with_reducible apply State.policyDecide_frame
    | with_reducible refine Fr.ite ?_ ?_
    | dsimp -zeta only
    | split

theorem State.writeStr_frame {m_ : Nat} {o_ : State} {s : State} {w : World} {a : Nat} {v : Nat} (h_ : Fr m_ o_ s) (hm_ : Nat.land 536887297 m_ = 536887297) : Fr m_ o_ (State.writeStr s w a v) := by
  refine Fr.of h_ hm_ ?_
  clear h_ hm_
  have h_ := Fr.refl 536887297 s
  unfold State.writeStr
  repeat' first
    | with_reducible assumption
    | exact (rfl : Nat.land _ _ = _)
    | with_reducible apply Fr.trigger
    | with_reducible apply nextOf_frame
    | with_reducible apply execCkptReq_frame
    | with_reducible apply State.regStore_frame
    | with_reducible refine Fr.ite ?_ ?_
    | split

theorem State.writeMem_frame {m_ : Nat} {o_ : State} {s : State} {w : World} {a : Nat} {v : Nat} (h_ : Fr m_ o_ s) (hm_ : Nat.land 537133057 m_ = 537133057) : Fr m_ o_ (State.writeMem s w a v) := by
  refine Fr.of h_ hm_ ?_
  clear h_ hm_
  have h_ := Fr.refl 537133057 s
  unfold State.writeMem
  repeat' first
    | with_reducible assumption
    | exact (rfl : Nat.land _ _ = _)
    | (extract_lets +onlyGivenNames x
       first
         | (have hx : Fr 537133057 s x := ?_
            (on_goal 1 => clear_value x)
            on_goal 2 => (unfold x; clear x))
         | (have hx : Fr 537133057 s x.2 := ?_
            (on_goal 1 => clear_value x)
            on_goal 2 => (unfold x; clear x))
         | clear_value x)
    | with_reducible apply Fr.trigger
    | with_reducible apply nextOf_frame
    | with_reducible apply execProtectedRangeCommit_frame
    | with_reducible apply State.regStore_frame
    | with_reducible refine Fr.ite ?_ ?_
    | dsimp -zeta only
    | split

theorem State.writeFll_frame {m_ : Nat} {o_ : State} {s : State} {w : World} {a : Nat} {v : Nat} (h_ : Fr m_ o_ s) (hm_ : Nat.land 805306369 m_ = 805306369) : Fr m_ o_ (State.writeFll s w a v) := by
  refine Fr.of h_ hm_ ?_
  clear h_ hm_
  have h_ := Fr.refl 805306369 s
  unfold State.writeFll
  repeat' first
    | with_reducible assumption
    | exact (rfl : Nat.land _ _ = _)
    | (extract_lets +onlyGivenNames x
       first
         | (have hx : Fr 805306369 s x := ?_
            (on_goal 1 => clear_value x)
            on_goal 2 => (unfold x; clear x))
         | (have hx : Fr 805306369 s x.2 := ?_
            (on_goal 1 => clear_value x)
            on_goal 2 => (unfold x; clear x))
         | clear_value x)
    | with_reducible apply Fr.trigger
    | with_reducible apply nextOf_frame
    | with_reducible apply State.putBit_frame
    | with_reducible apply execFllWake_frame
    | with_reducible apply State.regStore_frame
    | with_reducible refine Fr.ite ?_ ?_
    | dsimp -zeta only
    | split

theorem State.setOnes_frame {m_ : Nat} {o_ : State} {s : State} {f : Fld} {v : Nat} (h_ : Fr m_ o_ s) (hm_ : Nat.land 1 m_ = 1) : Fr m_ o_ (State.setOnes s f v) := by
  refine Fr.of h_ hm_ ?_
  clear h_ hm_
  have h_ := Fr.refl 1 s
  unfold State.setOnes
  repeat' first
    | with_reducible assumption
    | exact (rfl : Nat.land _ _ = _)
    | with_reducible apply State.put_frame
    | split

theorem State.writeBgnCore_frame {m_ : Nat} {o_ : State} {s : State} {n : Nat} {off : Nat} {v : Nat} {w : World} {a : Nat} (h_ : Fr m_ o_ s) (hm_ : Nat.land 687865857 m_ = 687865857) : Fr m_ o_ (State.writeBgnCore s n off v w a) := by
  refine Fr.of h_ hm_ ?_
  clear h_ hm_
  have h_ := Fr.refl 687865857 s
  unfold State.writeBgnCore
  repeat' first
    | with_reducible assumption
    | exact (rfl : Nat.land _ _ = _)
    | (extract_lets +onlyGivenNames x
       first
         | (have hx : Fr 687865857 s x := ?_
            (on_goal 1 => clear_value x)
            on_goal 2 => (unfold x; clear x))
         | (have hx : Fr 687865857 s x.2 := ?_
            (on_goal 1 => clear_value x)
            on_goal 2 => (unfold x; clear x))
         | (unfold x; clear x))
    | with_reducible apply nextOf_frame
    | with_reducible apply State.regStore_frame
    | with_reducible apply State.coreErr_frame
    | with_reducible apply execBgnCoreCfgWrite_frame
    | with_reducible apply State.bgnStart_frame
    | (simp -zeta -beta -iota only [Fr.mk_iff]; first | refine FrU.upd ?_ rfl | refine FrU.filter _ ?_ rfl)
    | with_reducible refine Fr.ite ?_ ?_
    | with_reducible refine Fr.ite2 ?_ ?_
    | dsimp -zeta only
    | split

theorem State.writeBgn_frame {m_ : Nat} {o_ : State} {s : State} {w : World} {a : Nat} {v : Nat} (h_ : Fr m_ o_ s) (hm_ : Nat.land 688390145 m_ = 688390145) : Fr m_ o_ (State.writeBgn s w a v) := by
  refine Fr.of h_ hm_ ?_
  clear h_ hm_
  have h_ := Fr.refl 688390145 s
  unfold State.writeBgn
  repeat' first
    | with_reducible assumption
    | exact (rfl : Nat.land _ _ = _)
    | (extract_lets +onlyGivenNames x
       first
         | (have hx : Fr 688390145 s x := ?_
            (on_goal 1 => clear_value x)
            on_goal 2 => (unfold x; clear x))
         | (have hx : Fr 688390145 s x.2 := ?_
            (on_goal 1 => clear_value x)
            on_goal 2 => (unfold x; clear x))
         | clear_value x)
    | with_reducible apply Fr.trigger
    | with_reducible apply nextOf_frame
    | with_reducible apply State.updateCores_frame
    | with_reducible apply State.regStore_frame
    | with_reducible apply State.setOnes_frame
    | with_reducible apply execBgnPromote_frame
    | with_reducible apply execAttestKeyGenStart_frame
    | with_reducible apply execAttestKeyGenStop_frame
    | with_reducible apply State.writeBgnCore_frame
    | with_reducible apply State.windowWrite_frame
    | with_reducible refine Fr.ite ?_ ?_
    | dsimp -zeta only
    | split

theorem State.writeLatCore_frame {m_ : Nat} {o_ : State} {s : State} {n : Nat} {off : Nat} {v : Nat} {w : World} {a : Nat} (h_ : Fr m_ o_ s) (hm_ : Nat.land 687865857 m_ = 687865857) : Fr m_ o_ (State.writeLatCore s n off v w a) := by
  refine Fr.of h_ hm_ ?_
  clear h_ hm_
  have h_ := Fr.refl 687865857 s
  unfold State.writeLatCore
  repeat' first
    | with_reducible assumption
    | exact (rfl : Nat.land _ _ = _)
    | (extract_lets +onlyGivenNames x
       first
         | (have hx : Fr 687865857 s x := ?_
            (on_goal 1 => clear_value x)
            on_goal 2 => (unfold x; clear x))
         | (have hx : Fr 687865857 s x.2 := ?_
            (on_goal 1 => clear_value x)
            on_goal 2 => (unfold x; clear x))
         | clear_value x)
    | with_reducible apply State.latStart_frame
    | with_reducible apply State.coreErr_frame
    | with_reducible apply State.regStore_frame
    | (simp -zeta -beta -iota only [Fr.mk_iff]; first | refine FrU.upd ?_ rfl | refine FrU.filter _ ?_ rfl)
    | with_reducible refine Fr.ite ?_ ?_
    | with_reducible refine Fr.ite2 ?_ ?_
    | dsimp -zeta only
    | split

theorem State.writeLat_frame {m_ : Nat} {o_ : State} {s : State} {w : World} {a : Nat} {v : Nat} (h_ : Fr m_ o_ s) (hm_ : Nat.land 688390145 m_ = 688390145) : Fr m_ o_ (State.writeLat s w a v) := by
  refine Fr.of h_ hm_ ?_
  clear h_ hm_
  have h_ := Fr.refl 688390145 s
  unfold State.writeLat
  repeat' first
    | with_reducible assumption
    | exact (rfl : Nat.land _ _ = _)
    | (extract_lets +onlyGivenNames x
       first
         | (have hx : Fr 688390145 s x := ?_
            (on_goal 1 => clear_value x)
            on_goal 2 => (unfold x; clear x))
         | (have hx : Fr 688390145 s x.2 := ?_
            (on_goal 1 => clear_value x)
            on_goal 2 => (unfold x; clear x))
         | clear_value x)
    | with_reducible apply Fr.trigger
    | with_reducible apply nextOf_frame
    | with_reducible apply State.updateCores_frame
    | with_reducible apply State.regStore_frame
    | with_reducible apply State.setOnes_frame
    | with_reducible apply execLatPromote_frame
    | with_reducible apply State.writeLatCore_frame
    | with_reducible apply State.windowWrite_frame
    | with_reducible refine Fr.ite ?_ ?_
    | dsimp -zeta only
    | split

theorem State.laneKeyWord_frame {m_ : Nat} {o_ : State} {s : State} {n : Nat} {i : Nat} {v : Nat} (h_ : Fr m_ o_ s) (hm_ : Nat.land 16777217 m_ = 16777217) : Fr m_ o_ (State.laneKeyWord s n i v) := by
  refine Fr.of h_ hm_ ?_
  clear h_ hm_
  have h_ := Fr.refl 16777217 s
  unfold State.laneKeyWord
  repeat' first
    | with_reducible assumption
    | exact (rfl : Nat.land _ _ = _)
    | (extract_lets +onlyGivenNames x
       first
         | (have hx : Fr 16777217 s x := ?_
            (on_goal 1 => clear_value x)
            on_goal 2 => (unfold x; clear x))
         | (have hx : Fr 16777217 s x.2 := ?_
            (on_goal 1 => clear_value x)
            on_goal 2 => (unfold x; clear x))
         | clear_value x)
    | with_reducible apply State.putBit_frame
    | with_reducible apply State.setLane_frame
    | (simp -zeta -beta -iota only [Fr.mk_iff]; first | refine FrU.upd ?_ rfl | refine FrU.filter _ ?_ rfl)
    | with_reducible refine Fr.ite ?_ ?_
    | dsimp -zeta only
    | split

theorem State.laneCmd_frame {m_ : Nat} {o_ : State} {s : State} {n : Nat} {v : Nat} {w : World} (h_ : Fr m_ o_ s) (hm_ : Nat.land 150994945 m_ = 150994945) : Fr m_ o_ (State.laneCmd s n v w) := by
  refine Fr.of h_ hm_ ?_
  clear h_ hm_
  have h_ := Fr.refl 150994945 s
  unfold State.laneCmd
  repeat' first
    | with_reducible assumption
    | exact (rfl : Nat.land _ _ = _)
    | (extract_lets +onlyGivenNames x
       first
         | (have hx : Fr 150994945 s x := ?_
            (on_goal 1 => clear_value x)
            on_goal 2 => (unfold x; clear x))
         | (have hx : Fr 150994945 s x.2 := ?_
            (on_goal 1 => clear_value x)
            on_goal 2 => (unfold x; clear x))
         | clear_value x)
    | with_reducible apply nextOf_frame
    | with_reducible apply execLaneKeyClear_frame
    | with_reducible apply execLaneFwJobStart_frame
    | with_reducible refine Fr.ite ?_ ?_
    | dsimp -zeta only
    | split

theorem State.writeLane_frame {m_ : Nat} {o_ : State} {s : State} {n : Nat} {off : Nat} {v : Nat} {w : World} {a : Nat} (h_ : Fr m_ o_ s) (hm_ : Nat.land 687865857 m_ = 687865857) : Fr m_ o_ (State.writeLane s n off v w a) := by
  refine Fr.of h_ hm_ ?_
  clear h_ hm_
  have h_ := Fr.refl 687865857 s
  unfold State.writeLane
  repeat' first
    | with_reducible assumption
    | exact (rfl : Nat.land _ _ = _)
    | (extract_lets +onlyGivenNames x
       first
         | (have hx : Fr 687865857 s x := ?_
            (on_goal 1 => clear_value x)
            on_goal 2 => (unfold x; clear x))
         | (have hx : Fr 687865857 s x.2 := ?_
            (on_goal 1 => clear_value x)
            on_goal 2 => (unfold x; clear x))
         | clear_value x)
    | with_reducible apply nextOf_frame
    | with_reducible apply execLaneLockRelease_frame
    | with_reducible apply execLaneLockAcquire_frame
    | with_reducible apply State.laneCmd_frame
    | with_reducible apply State.regStore_frame
    | with_reducible apply State.laneWrite_frame
    | refine Fr.pair (by assumption) (State.laneWrite_frame (h_ := ?_) ?_)
    | with_reducible apply State.laneKeyWord_frame
    | with_reducible refine Fr.ite ?_ ?_
    | with_reducible refine Fr.ite2 ?_ ?_
    | dsimp -zeta only
    | split

theorem State.writeSym_frame {m_ : Nat} {o_ : State} {s : State} {w : World} {a : Nat} {v : Nat} (h_ : Fr m_ o_ s) (hm_ : Nat.land 687865857 m_ = 687865857) : Fr m_ o_ (State.writeSym s w a v) := by
  refine Fr.of h_ hm_ ?_
  clear h_ hm_
  have h_ := Fr.refl 687865857 s
  unfold State.writeSym
  repeat' first
    | with_reducible assumption
    | exact (rfl : Nat.land _ _ = _)
    | (extract_lets +onlyGivenNames x
       first
         | (have hx : Fr 687865857 s x := ?_
            (on_goal 1 => clear_value x)
            on_goal 2 => (unfold x; clear x))
         | (have hx : Fr 687865857 s x.2 := ?_
            (on_goal 1 => clear_value x)
            on_goal 2 => (unfold x; clear x))
         | clear_value x)
    | with_reducible apply State.putBit_frame
    | with_reducible apply State.writeLane_frame
    | with_reducible apply State.regStore_frame
    | (simp -zeta -beta -iota only [Fr.mk_iff]; first | refine FrU.upd ?_ rfl | refine FrU.filter _ ?_ rfl)
    | with_reducible refine Fr.ite ?_ ?_
    | with_reducible refine Fr.ite2 ?_ ?_
    | dsimp -zeta only
    | split

theorem State.writeRng_frame {m_ : Nat} {o_ : State} {s : State} {w : World} {a : Nat} {v : Nat} (h_ : Fr m_ o_ s) (hm_ : Nat.land 1874751029 m_ = 1874751029) : Fr m_ o_ (State.writeRng s w a v) := by
  refine Fr.of h_ hm_ ?_
  clear h_ hm_
  have h_ := Fr.refl 1874751029 s
  unfold State.writeRng
  repeat' first
    | with_reducible assumption
    | exact (rfl : Nat.land _ _ = _)
    | (extract_lets +onlyGivenNames x
       first
         | (have hx : Fr 1874751029 s x := ?_
            (on_goal 1 => clear_value x)
            on_goal 2 => (unfold x; clear x))
         | (have hx : Fr 1874751029 s x.2 := ?_
            (on_goal 1 => clear_value x)
            on_goal 2 => (unfold x; clear x))
         | clear_value x)
    | with_reducible apply Fr.trigger
    | with_reducible apply nextOf_frame
    | with_reducible apply execRngSPrRequest_frame
    | with_reducible apply execRngNsPrRequest_frame
    | with_reducible apply execRngTestSelect_frame
    | with_reducible apply State.regStore_frame
    | with_reducible refine Fr.ite ?_ ?_
    | dsimp -zeta only
    | split

theorem State.writeKld_frame {m_ : Nat} {o_ : State} {s : State} {w : World} {a : Nat} {v : Nat} (h_ : Fr m_ o_ s) (hm_ : Nat.land 537395201 m_ = 537395201) : Fr m_ o_ (State.writeKld s w a v) := by
  refine Fr.of h_ hm_ ?_
  clear h_ hm_
  have h_ := Fr.refl 537395201 s
  unfold State.writeKld
  repeat' first
    | with_reducible assumption
    | exact (rfl : Nat.land _ _ = _)
    | (extract_lets +onlyGivenNames x
       first
         | (have hx : Fr 537395201 s x := ?_
            (on_goal 1 => clear_value x)
            on_goal 2 => (unfold x; clear x))
         | (have hx : Fr 537395201 s x.2 := ?_
            (on_goal 1 => clear_value x)
            on_goal 2 => (unfold x; clear x))
         | clear_value x)
    | with_reducible apply Fr.trigger
    | with_reducible apply nextOf_frame
    | with_reducible apply execHallmarkExtend_frame
    | with_reducible apply execFwStorageKeyRequest_frame
    | with_reducible apply State.regStore_frame
    | with_reducible refine Fr.ite ?_ ?_
    | dsimp -zeta only
    | split

theorem State.crdCfg_frame {m_ : Nat} {o_ : State} {s : State} {w : World} {a : Nat} {v : Nat} (h_ : Fr m_ o_ s) (hm_ : Nat.land 537919489 m_ = 537919489) : Fr m_ o_ (State.crdCfg s w a v) := by
  refine Fr.of h_ hm_ ?_
  clear h_ hm_
  have h_ := Fr.refl 537919489 s
  unfold State.crdCfg
  repeat' first
    | with_reducible assumption
    | exact (rfl : Nat.land _ _ = _)
    | (extract_lets +onlyGivenNames x
       first
         | (have hx : Fr 537919489 s x := ?_
            (on_goal 1 => clear_value x)
            on_goal 2 => (unfold x; clear x))
         | (have hx : Fr 537919489 s x.2 := ?_
            (on_goal 1 => clear_value x)
            on_goal 2 => (unfold x; clear x))
         | clear_value x)
    | with_reducible refine Fr.foldl _ _ ?_ (fun _ _ _ => ?_)
    | with_reducible apply nextOf_frame
    | with_reducible apply State.regStore_frame
    | with_reducible apply execCardDeactivate_frame
    | with_reducible refine Fr.ite ?_ ?_
    | dsimp -zeta only
    | split

theorem State.writeCrd_frame {m_ : Nat} {o_ : State} {s : State} {w : World} {a : Nat} {v : Nat} (h_ : Fr m_ o_ s) (hm_ : Nat.land 537919489 m_ = 537919489) : Fr m_ o_ (State.writeCrd s w a v) := by
  refine Fr.of h_ hm_ ?_
  clear h_ hm_
  have h_ := Fr.refl 537919489 s
  unfold State.writeCrd
  repeat' first
    | with_reducible assumption
    | exact (rfl : Nat.land _ _ = _)
    | with_reducible apply Fr.trigger
    | with_reducible apply nextOf_frame
    | with_reducible apply State.crdCfg_frame
    | with_reducible apply execCardDeactivate_frame
    | with_reducible apply State.regStore_frame
    | with_reducible refine Fr.ite ?_ ?_
    | split

theorem State.writeBzl_frame {m_ : Nat} {o_ : State} {s : State} {w : World} {a : Nat} {v : Nat} (h_ : Fr m_ o_ s) (hm_ : Nat.land 536870913 m_ = 536870913) : Fr m_ o_ (State.writeBzl s w a v) := by
  refine Fr.of h_ hm_ ?_
  clear h_ hm_
  have h_ := Fr.refl 536870913 s
  unfold State.writeBzl
  repeat' first
    | with_reducible assumption
    | exact (rfl : Nat.land _ _ = _)
    | (extract_lets +onlyGivenNames x
       first
         | (have hx : Fr 536870913 s x := ?_
            (on_goal 1 => clear_value x)
            on_goal 2 => (unfold x; clear x))
         | (have hx : Fr 536870913 s x.2 := ?_
            (on_goal 1 => clear_value x)
            on_goal 2 => (unfold x; clear x))
         | clear_value x)
    | with_reducible apply Fr.trigger
    | with_reducible apply nextOf_frame
    | with_reducible apply State.writeMode_frame
    | with_reducible apply execBezelCommit_frame
    | with_reducible apply State.putBit_frame
    | with_reducible apply State.count_frame
    | with_reducible apply State.regStore_frame
    | with_reducible refine Fr.ite ?_ ?_
    | dsimp -zeta only
    | split

theorem State.writeWld_frame {m_ : Nat} {o_ : State} {s : State} {w : World} {a : Nat} {v : Nat} (h_ : Fr m_ o_ s) (hm_ : Nat.land 536870913 m_ = 536870913) : Fr m_ o_ (State.writeWld s w a v) := by
  refine Fr.of h_ hm_ ?_
  clear h_ hm_
  have h_ := Fr.refl 536870913 s
  unfold State.writeWld
  repeat' first
    | with_reducible assumption
    | exact (rfl : Nat.land _ _ = _)
    | (extract_lets +onlyGivenNames x
       first
         | (have hx : Fr 536870913 s x := ?_
            (on_goal 1 => clear_value x)
            on_goal 2 => (unfold x; clear x))
         | (have hx : Fr 536870913 s x.2 := ?_
            (on_goal 1 => clear_value x)
            on_goal 2 => (unfold x; clear x))
         | clear_value x)
    | with_reducible apply Fr.trigger
    | with_reducible apply nextOf_frame
    | with_reducible apply State.regStore_frame
    | with_reducible apply execL2WaysWrite_frame
    | with_reducible apply State.put_frame
    | with_reducible apply execWorldCommit_frame
    | with_reducible apply State.putBit_frame
    | with_reducible apply State.count_frame
    | with_reducible refine Fr.ite ?_ ?_
    | dsimp -zeta only
    | split

theorem State.writeAlm_frame {m_ : Nat} {o_ : State} {s : State} {w : World} {a : Nat} {v : Nat} (h_ : Fr m_ o_ s) (hm_ : Nat.land 1832873525 m_ = 1832873525) : Fr m_ o_ (State.writeAlm s w a v) := by
  refine Fr.of h_ hm_ ?_
  clear h_ hm_
  have h_ := Fr.refl 1832873525 s
  unfold State.writeAlm
  repeat' first
    | with_reducible assumption
    | exact (rfl : Nat.land _ _ = _)
    | (extract_lets +onlyGivenNames x
       first
         | (have hx : Fr 1832873525 s x := ?_
            (on_goal 1 => clear_value x)
            on_goal 2 => (unfold x; clear x))
         | (have hx : Fr 1832873525 s x.2 := ?_
            (on_goal 1 => clear_value x)
            on_goal 2 => (unfold x; clear x))
         | clear_value x)
    | with_reducible apply Fr.trigger
    | with_reducible apply nextOf_frame
    | with_reducible apply execHaltClear_frame
    | with_reducible apply execFirmwareAlarmRaise_frame
    | with_reducible apply State.regStore_frame
    | with_reducible refine Fr.ite ?_ ?_
    | dsimp -zeta only
    | split

theorem State.writeLcs_frame {m_ : Nat} {o_ : State} {s : State} {w : World} {a : Nat} {v : Nat} (h_ : Fr m_ o_ s) (hm_ : Nat.land 583532549 m_ = 583532549) : Fr m_ o_ (State.writeLcs s w a v) := by
  refine Fr.of h_ hm_ ?_
  clear h_ hm_
  have h_ := Fr.refl 583532549 s
  unfold State.writeLcs
  repeat' first
    | with_reducible assumption
    | exact (rfl : Nat.land _ _ = _)
    | (extract_lets +onlyGivenNames x
       first
         | (have hx : Fr 583532549 s x := ?_
            (on_goal 1 => clear_value x)
            on_goal 2 => (unfold x; clear x))
         | (have hx : Fr 583532549 s x.2 := ?_
            (on_goal 1 => clear_value x)
            on_goal 2 => (unfold x; clear x))
         | clear_value x)
    | with_reducible apply Fr.trigger
    | with_reducible apply nextOf_frame
    | with_reducible apply State.putBit_frame
    | with_reducible apply execLcsInitWrap_frame
    | with_reducible apply State.regStore_frame
    | with_reducible refine Fr.ite ?_ ?_
    | dsimp -zeta only
    | split

theorem State.writeEvr_frame {m_ : Nat} {o_ : State} {s : State} {w : World} {a : Nat} {v : Nat} (h_ : Fr m_ o_ s) (hm_ : Nat.land 536879105 m_ = 536879105) : Fr m_ o_ (State.writeEvr s w a v) := by
  refine Fr.of h_ hm_ ?_
  clear h_ hm_
  have h_ := Fr.refl 536879105 s
  unfold State.writeEvr
  repeat' first
    | with_reducible assumption
    | exact (rfl : Nat.land _ _ = _)
    | with_reducible apply Fr.trigger
    | with_reducible apply nextOf_frame
    | with_reducible apply execEvrPostS_frame
    | with_reducible apply execEvrPostN_frame
    | with_reducible apply State.regStore_frame
    | with_reducible refine Fr.ite ?_ ?_
    | split

theorem State.writeMgp_frame {m_ : Nat} {o_ : State} {s : State} {w : World} {a : Nat} {v : Nat} (h_ : Fr m_ o_ s) (hm_ : Nat.land 2147417975 m_ = 2147417975) : Fr m_ o_ (State.writeMgp s w a v) := by
  refine Fr.of h_ hm_ ?_
  clear h_ hm_
  have h_ := Fr.refl 2147417975 s
  unfold State.writeMgp
  repeat' first
    | with_reducible assumption
    | exact (rfl : Nat.land _ _ = _)
    | (extract_lets +onlyGivenNames x
       first
         | (have hx : Fr 2147417975 s x := ?_
            (on_goal 1 => clear_value x)
            on_goal 2 => (unfold x; clear x))
         | (have hx : Fr 2147417975 s x.2 := ?_
            (on_goal 1 => clear_value x)
            on_goal 2 => (unfold x; clear x))
         | clear_value x)
    | with_reducible apply Fr.trigger
    | with_reducible apply nextOf_frame
    | with_reducible apply execMgpRxdTailWrite_frame
    | with_reducible apply execMgpTxGo_frame
    | with_reducible apply State.regStore_frame
    | with_reducible apply execSecureOdAccess_frame
    | with_reducible refine Fr.ite ?_ ?_
    | dsimp -zeta only
    | split

theorem State.nsGo_frame {m_ : Nat} {o_ : State} {s : State} (h_ : Fr m_ o_ s) (hm_ : Nat.land 672137217 m_ = 672137217) : Fr m_ o_ (State.nsGo s) := by
  refine Fr.of h_ hm_ ?_
  clear h_ hm_
  have h_ := Fr.refl 672137217 s
  unfold State.nsGo
  repeat' first
    | with_reducible assumption
    | exact (rfl : Nat.land _ _ = _)
    | (extract_lets +onlyGivenNames x
       first
         | (have hx : Fr 672137217 s x := ?_
            (on_goal 1 => clear_value x)
            on_goal 2 => (unfold x; clear x))
         | (have hx : Fr 672137217 s x.2 := ?_
            (on_goal 1 => clear_value x)
            on_goal 2 => (unfold x; clear x))
         | clear_value x)
    | with_reducible apply nextOf_frame
    | with_reducible apply execNsGateClkOn_frame
    | with_reducible apply execNsGateClkOff_frame
    | with_reducible apply execNsGatePwrOn_frame
    | with_reducible apply execNsGatePwrOff_frame
    | (simp -zeta -beta -iota only [Fr.mk_iff]; first | refine FrU.upd ?_ rfl | refine FrU.filter _ ?_ rfl)
    | dsimp -zeta only
    | split

theorem State.writePwr_frame {m_ : Nat} {o_ : State} {s : State} {w : World} {a : Nat} {v : Nat} (h_ : Fr m_ o_ s) (hm_ : Nat.land 1815093249 m_ = 1815093249) : Fr m_ o_ (State.writePwr s w a v) := by
  refine Fr.of h_ hm_ ?_
  clear h_ hm_
  have h_ := Fr.refl 1815093249 s
  unfold State.writePwr
  repeat' first
    | with_reducible assumption
    | exact (rfl : Nat.land _ _ = _)
    | (extract_lets +onlyGivenNames x
       first
         | (have hx : Fr 1815093249 s x := ?_
            (on_goal 1 => clear_value x)
            on_goal 2 => (unfold x; clear x))
         | (have hx : Fr 1815093249 s x.2 := ?_
            (on_goal 1 => clear_value x)
            on_goal 2 => (unfold x; clear x))
         | clear_value x)
    | with_reducible apply Fr.trigger
    | with_reducible apply nextOf_frame
    | with_reducible apply execPwrReqNap_frame
    | with_reducible apply execPwrReqSleep_frame
    | with_reducible apply execPwrLockWrite_frame
    | with_reducible apply State.regStore_frame
    | with_reducible apply State.nsGo_frame
    | with_reducible apply execPwrDeferCancel_frame
    | with_reducible apply execPwrGateWrite_frame
    | (simp -zeta -beta -iota only [Fr.mk_iff]; first | refine FrU.upd ?_ rfl | refine FrU.filter _ ?_ rfl)
    | with_reducible refine Fr.ite ?_ ?_
    | with_reducible refine Fr.ite2 ?_ ?_
    | dsimp -zeta only
    | split

theorem State.writeReg_frame {m_ : Nat} {o_ : State} {s : State} {w : World} {a : Nat} {v : Nat} (h_ : Fr m_ o_ s) (hm_ : Nat.land 2147483639 m_ = 2147483639) : Fr m_ o_ (State.writeReg s w a v) := by
  refine Fr.of h_ hm_ ?_
  clear h_ hm_
  have h_ := Fr.refl 2147483639 s
  unfold State.writeReg
  repeat' first
    | with_reducible assumption
    | exact (rfl : Nat.land _ _ = _)
    | (extract_lets +onlyGivenNames x
       first
         | (have hx : Fr 2147483639 s x := ?_
            (on_goal 1 => clear_value x)
            on_goal 2 => (unfold x; clear x))
         | (have hx : Fr 2147483639 s x.2 := ?_
            (on_goal 1 => clear_value x)
            on_goal 2 => (unfold x; clear x))
         | clear_value x)
    | with_reducible apply State.writeBzl_frame
    | with_reducible apply State.writeWld_frame
    | with_reducible apply State.writePwr_frame
    | with_reducible apply State.writeAlm_frame
    | with_reducible apply State.writeKld_frame
    | with_reducible apply State.writeRng_frame
    | with_reducible apply State.writeLcs_frame
    | with_reducible apply State.writeEvr_frame
    | with_reducible apply State.writeMgp_frame
    | with_reducible apply State.writeCrd_frame
    | with_reducible apply State.writeFll_frame
    | with_reducible apply State.writeHst_frame
    | with_reducible apply State.writeStr_frame
    | with_reducible apply State.writeMem_frame
    | with_reducible apply State.writeBgn_frame
    | with_reducible apply State.writeLat_frame
    | with_reducible apply State.writeSym_frame
    | with_reducible apply State.writeLkt_frame
    | with_reducible apply State.regStore_frame
    | (simp -zeta -beta -iota only [Fr.mk_iff]; first | refine FrU.upd ?_ rfl | refine FrU.filter _ ?_ rfl)
    | dsimp -zeta only
    | split

theorem execRegisterWrite_frame {m_ : Nat} {o_ : State} {w : World} {addr : Nat} {value : Nat} {s : State} (h_ : Fr m_ o_ s) (hm_ : Nat.land 2147483639 m_ = 2147483639) : FrO m_ o_ (execRegisterWrite w addr value s) := by
  refine FrO.of h_ hm_ ?_
  clear h_ hm_
  have h_ := Fr.refl 2147483639 s
  unfold execRegisterWrite
  repeat' first
    | with_reducible assumption
    | exact (rfl : Nat.land _ _ = _)
    | (extract_lets +onlyGivenNames x
       first
         | (have hx : Fr 2147483639 s x := ?_
            (on_goal 1 => clear_value x)
            on_goal 2 => (unfold x; clear x))
         | (have hx : Fr 2147483639 s x.2 := ?_
            (on_goal 1 => clear_value x)
            on_goal 2 => (unfold x; clear x))
         | clear_value x)
    | with_reducible apply State.msixWrite_frame
    | with_reducible apply State.wakeNap_frame
    | with_reducible apply State.writeReg_frame
    | with_reducible apply FrO.next
    | with_reducible refine Fr.ite ?_ ?_
    | with_reducible refine FrO.ite ?_ ?_
    | dsimp -zeta only
    | split

theorem State.readAt_frame {m_ : Nat} {o_ : State} {s : State} {agent : Nat} {a : Nat} {len : Nat} (h_ : Fr m_ o_ s) (hm_ : Nat.land 33554445 m_ = 33554445) : Fr m_ o_ (State.readAt s agent a len).2 := by
  refine Fr.of h_ hm_ ?_
  clear h_ hm_
  have h_ := Fr.refl 33554445 s
  unfold State.readAt
  repeat' first
    | with_reducible assumption
    | exact (rfl : Nat.land _ _ = _)
    | (extract_lets +onlyGivenNames x
       first
         | (have hx : Fr 33554445 s x := ?_
            (on_goal 1 => clear_value x)
            on_goal 2 => (unfold x; clear x))
         | (have hx : Fr 33554445 s x.2 := ?_
            (on_goal 1 => clear_value x)
            on_goal 2 => (unfold x; clear x))
         | clear_value x)
    | with_reducible apply State.readReg_frame
    | refine Fr.pair (by assumption) (State.readReg_frame (h_ := ?_) ?_)
    | with_reducible apply State.freshBytes_frame
    | refine Fr.pair (by assumption) (State.freshBytes_frame (h_ := ?_) ?_)
    | with_reducible apply State.count_frame
    | (simp -zeta -beta -iota only [Fr.mk_iff]; first | refine FrU.upd ?_ rfl | refine FrU.filter _ ?_ rfl)
    | with_reducible refine Fr.ite ?_ ?_
    | with_reducible refine Fr.ite2 ?_ ?_
    | dsimp -zeta only
    | split

theorem State.writeAt_frame {m_ : Nat} {o_ : State} {s : State} {agent : Nat} {a : Nat} {d : Bytes} (h_ : Fr m_ o_ s) (hm_ : Nat.land 2147483639 m_ = 2147483639) : Fr m_ o_ (State.writeAt s agent a d).2 := by
  unfold State.writeAt
  split
  · exact h_
  · exact State.store'_frame h_ (Nat.land_assoc_frame hm_ rfl)
  · exact State.store'_frame h_ (Nat.land_assoc_frame hm_ rfl)
  · exact Fr.ite (State.writeReg_frame h_ (Nat.land_assoc_frame hm_ rfl)) h_
  · exact h_
  · exact State.count_frame h_ (Nat.land_assoc_frame hm_ rfl)

theorem State.ended_frame {m_ : Nat} {o_ : State} {s : State} {value : Nat} {answer : Nat} (h_ : Fr m_ o_ s) (hm_ : Nat.land 536870920 m_ = 536870920) : Fr m_ o_ (State.ended s value answer) := by
  refine Fr.of h_ hm_ ?_
  clear h_ hm_
  have h_ := Fr.refl 536870920 s
  unfold State.ended
  repeat' first
    | with_reducible assumption
    | exact (rfl : Nat.land _ _ = _)
    | (extract_lets +onlyGivenNames x
       first
         | (have hx : Fr 536870920 s x := ?_
            (on_goal 1 => clear_value x)
            on_goal 2 => (unfold x; clear x))
         | (have hx : Fr 536870920 s x.2 := ?_
            (on_goal 1 => clear_value x)
            on_goal 2 => (unfold x; clear x))
         | clear_value x)
    | (simp -zeta -beta -iota only [Fr.mk_iff]; first | refine FrU.upd ?_ rfl | refine FrU.filter _ ?_ rfl)

theorem State.transact_frame {m_ : Nat} {o_ : State} {s : State} {agent : Nat} {kind : Nat} {a : Nat} {len : Nat} {data : Bytes} (h_ : Fr m_ o_ s) (hm_ : Nat.land 2147483647 m_ = 2147483647) : Fr m_ o_ (State.transact s agent kind a len data) := by
  refine Fr.of h_ hm_ ?_
  clear h_ hm_
  have h_ := Fr.refl 2147483647 s
  unfold State.transact
  repeat' first
    | with_reducible assumption
    | exact (rfl : Nat.land _ _ = _)
    | (extract_lets +onlyGivenNames x
       first
         | (have hx : Fr 2147483647 s x := ?_
            (on_goal 1 => clear_value x)
            on_goal 2 => (unfold x; clear x))
         | (have hx : Fr 2147483647 s x.2 := ?_
            (on_goal 1 => clear_value x)
            on_goal 2 => (unfold x; clear x))
         | clear_value x)
    | with_reducible apply State.writeAt_frame
    | refine Fr.pair (by assumption) (State.writeAt_frame (h_ := ?_) ?_)
    | with_reducible apply State.ended_frame
    | with_reducible apply State.readAt_frame
    | refine Fr.pair (by assumption) (State.readAt_frame (h_ := ?_) ?_)
    | (simp -zeta -beta -iota only [Fr.mk_iff]; first | refine FrU.upd ?_ rfl | refine FrU.filter _ ?_ rfl)
    | with_reducible refine Fr.ite ?_ ?_
    | with_reducible refine Fr.ite2 ?_ ?_
    | dsimp -zeta only
    | split

theorem State.refusedAccess_frame {m_ : Nat} {o_ : State} {s : State} {agent : Nat} {core : Nat} (h_ : Fr m_ o_ s) (hm_ : Nat.land 1832807997 m_ = 1832807997) : Fr m_ o_ (State.refusedAccess s agent core) := by
  refine Fr.of h_ hm_ ?_
  clear h_ hm_
  have h_ := Fr.refl 1832807997 s
  unfold State.refusedAccess
  repeat' first
    | with_reducible assumption
    | exact (rfl : Nat.land _ _ = _)
    | (extract_lets +onlyGivenNames x
       first
         | (have hx : Fr 1832807997 s x := ?_
            (on_goal 1 => clear_value x)
            on_goal 2 => (unfold x; clear x))
         | (have hx : Fr 1832807997 s x.2 := ?_
            (on_goal 1 => clear_value x)
            on_goal 2 => (unfold x; clear x))
         | clear_value x)
    | with_reducible apply State.ended_frame
    | with_reducible apply State.coreException_frame
    | with_reducible apply State.alarm'_frame
    | with_reducible apply State.dmaEnd_frame
    | with_reducible refine Fr.ite ?_ ?_
    | dsimp -zeta only
    | split

theorem State.bar0Access_frame {m_ : Nat} {o_ : State} {s : State} {write : Bool} {off : Nat} {len : Nat} {d : Bytes} (h_ : Fr m_ o_ s) (hm_ : Nat.land 671088665 m_ = 671088665) : Fr m_ o_ (State.bar0Access s write off len d) := by
  refine Fr.of h_ hm_ ?_
  clear h_ hm_
  have h_ := Fr.refl 671088665 s
  unfold State.bar0Access
  repeat' first
    | with_reducible assumption
    | exact (rfl : Nat.land _ _ = _)
    | (extract_lets +onlyGivenNames x
       first
         | (have hx : Fr 671088665 s x := ?_
            (on_goal 1 => clear_value x)
            on_goal 2 => (unfold x; clear x))
         | (have hx : Fr 671088665 s x.2 := ?_
            (on_goal 1 => clear_value x)
            on_goal 2 => (unfold x; clear x))
         | clear_value x)
    | with_reducible refine Fr.foldl _ _ ?_ (fun _ _ _ => ?_)
    | with_reducible apply State.ended_frame
    | with_reducible apply State.msixWrite_frame
    | with_reducible refine Fr.ite ?_ ?_
    | dsimp -zeta only
    | split

theorem State.bar2Access_frame {m_ : Nat} {o_ : State} {s : State} {kind : Nat} {off : Nat} {len : Nat} {d : Bytes} (h_ : Fr m_ o_ s) (hm_ : Nat.land 2147483647 m_ = 2147483647) : Fr m_ o_ (State.bar2Access s kind off len d) := by
  refine Fr.of h_ hm_ ?_
  clear h_ hm_
  have h_ := Fr.refl 2147483647 s
  unfold State.bar2Access
  repeat' first
    | with_reducible assumption
    | exact (rfl : Nat.land _ _ = _)
    | (extract_lets +onlyGivenNames x
       first
         | (have hx : Fr 2147483647 s x := ?_
            (on_goal 1 => clear_value x)
            on_goal 2 => (unfold x; clear x))
         | (have hx : Fr 2147483647 s x.2 := ?_
            (on_goal 1 => clear_value x)
            on_goal 2 => (unfold x; clear x))
         | clear_value x)
    | with_reducible apply State.checkAccess_frame
    | refine Fr.pair (by assumption) (State.checkAccess_frame (h_ := ?_) ?_)
    | with_reducible apply State.transact_frame
    | with_reducible apply State.refusedAccess_frame
    | with_reducible apply State.doorbellWrite_frame
    | with_reducible apply State.doorbellRead_frame
    | refine Fr.pair (by assumption) (State.doorbellRead_frame (h_ := ?_) ?_)
    | with_reducible apply State.ended_frame
    | with_reducible refine Fr.ite ?_ ?_
    | with_reducible refine Fr.ite2 ?_ ?_
    | dsimp -zeta only
    | split

theorem State.hostWakes_frame {m_ : Nat} {o_ : State} {s : State} {kind : Nat} (h_ : Fr m_ o_ s) (hm_ : Nat.land 134217729 m_ = 134217729) : Fr m_ o_ (State.hostWakes s kind) := by
  refine Fr.of h_ hm_ ?_
  clear h_ hm_
  have h_ := Fr.refl 134217729 s
  unfold State.hostWakes
  repeat' first
    | with_reducible assumption
    | exact (rfl : Nat.land _ _ = _)
    | with_reducible apply State.wakeNap_frame
    | with_reducible refine Fr.ite ?_ ?_
    | split

theorem execInternalMasterAccess_frame {m_ : Nat} {o_ : State} {agent : Nat} {kind : Nat} {addr : Nat} {len : Nat} {core : Nat} {data : Bytes} {s : State} (h_ : Fr m_ o_ s) (hm_ : Nat.land 2147483647 m_ = 2147483647) : FrO m_ o_ (execInternalMasterAccess agent kind addr len core data s) := by
  refine FrO.of h_ hm_ ?_
  clear h_ hm_
  have h_ := Fr.refl 2147483647 s
  unfold execInternalMasterAccess
  repeat' first
    | with_reducible assumption
    | exact (rfl : Nat.land _ _ = _)
    | (extract_lets +onlyGivenNames x
       first
         | (have hx : Fr 2147483647 s x := ?_
            (on_goal 1 => clear_value x)
            on_goal 2 => (unfold x; clear x))
         | (have hx : Fr 2147483647 s x.2 := ?_
            (on_goal 1 => clear_value x)
            on_goal 2 => (unfold x; clear x))
         | clear_value x)
    | with_reducible apply State.ended_frame
    | with_reducible apply State.bar0Access_frame
    | with_reducible apply State.hostWakes_frame
    | with_reducible apply State.bar2Access_frame
    | with_reducible apply State.checkAccess_frame
    | refine Fr.pair (by assumption) (State.checkAccess_frame (h_ := ?_) ?_)
    | with_reducible apply State.transact_frame
    | with_reducible apply State.refusedAccess_frame
    | with_reducible apply FrO.next
    | with_reducible refine Fr.ite ?_ ?_
    | with_reducible refine Fr.ite2 ?_ ?_
    | with_reducible refine FrO.ite ?_ ?_
    | dsimp -zeta only
    | split

theorem State.dmaCopy_frame {m_ : Nat} {o_ : State} {agent : Nat} {src : Nat} {dst : Nat} {a3 : State} {a4 : List (Nat × Nat)} (h_ : Fr m_ o_ a3) (hm_ : Nat.land 2147483647 m_ = 2147483647) : Fr m_ o_ (State.dmaCopy agent src dst a3 a4).2 := by
  refine Fr.of h_ hm_ ?_
  clear h_ hm_
  induction a4 generalizing a3 with
  | nil => exact Fr.refl _ _
  | cons e rest ih =>
    obtain ⟨o, n⟩ := e
    have h_ := Fr.refl 2147483647 a3
    unfold State.dmaCopy
    repeat' first
      | with_reducible assumption
      | exact (rfl : Nat.land _ _ = _)
      | (extract_lets +onlyGivenNames x
         first
           | (have hx : Fr 2147483647 a3 x := ?_
              (on_goal 1 => clear_value x)
              on_goal 2 => (unfold x; clear x))
           | (have hx : Fr 2147483647 a3 x.2 := ?_
              (on_goal 1 => clear_value x)
              on_goal 2 => (unfold x; clear x))
           | clear_value x)
      | with_reducible refine Fr.trans ?_ ih
      | with_reducible apply State.checkAccess_frame
      | with_reducible apply State.writeAt_frame
      | refine Fr.pair (by assumption) (State.readAt_frame ?_ ?_)
      | with_reducible refine Fr.foldl _ _ ?_ (fun _ _ _ => ?_)
      | with_reducible refine Fr.elim ?_ (fun _ => ?_)
      | with_reducible apply Fr.trigger
      | with_reducible apply nextOf_frame
      | with_reducible apply FrO.next
      | (simp -zeta -beta -iota only [Fr.mk_iff]; first | refine FrU.upd ?_ rfl | refine FrU.filter _ ?_ rfl)
      | with_reducible refine Fr.ite ?_ ?_
      | with_reducible refine Fr.ite2 ?_ ?_
      | with_reducible refine FrO.ite ?_ ?_
      | dsimp -zeta only
      | split

theorem State.dmaOverlap_frame {m_ : Nat} {o_ : State} {s : State} {r : DmaRun} (h_ : Fr m_ o_ s) (hm_ : Nat.land 262150 m_ = 262150) : Fr m_ o_ (State.dmaOverlap s r) := by
  refine Fr.of h_ hm_ ?_
  clear h_ hm_
  have h_ := Fr.refl 262150 s
  unfold State.dmaOverlap
  repeat' first
    | with_reducible assumption
    | exact (rfl : Nat.land _ _ = _)
    | (extract_lets +onlyGivenNames x
       first
         | (have hx : Fr 262150 s x := ?_
            (on_goal 1 => clear_value x)
            on_goal 2 => (unfold x; clear x))
         | (have hx : Fr 262150 s x.2 := ?_
            (on_goal 1 => clear_value x)
            on_goal 2 => (unfold x; clear x))
         | clear_value x)
    | with_reducible apply State.freshBytes_frame
    | refine Fr.pair (by assumption) (State.freshBytes_frame (h_ := ?_) ?_)
    | with_reducible apply State.store'_frame
    | with_reducible refine Fr.ite ?_ ?_
    | with_reducible refine Fr.ite2 ?_ ?_
    | dsimp -zeta only
    | split

theorem execCopyDmaStart_frame {m_ : Nat} {o_ : State} {channel : Nat} {s : State} (h_ : Fr m_ o_ s) (hm_ : Nat.land 2147483647 m_ = 2147483647) : FrO m_ o_ (execCopyDmaStart channel s) := by
  refine FrO.of h_ hm_ ?_
  clear h_ hm_
  have h_ := Fr.refl 2147483647 s
  unfold execCopyDmaStart
  repeat' first
    | with_reducible assumption
    | exact (rfl : Nat.land _ _ = _)
    | (extract_lets +onlyGivenNames x
       first
         | (have hx : Fr 2147483647 s x := ?_
            (on_goal 1 => clear_value x)
            on_goal 2 => (unfold x; clear x))
         | (have hx : Fr 2147483647 s x.2 := ?_
            (on_goal 1 => clear_value x)
            on_goal 2 => (unfold x; clear x))
         | clear_value x)
    | with_reducible apply State.checkAccess_frame
    | refine Fr.pair (by assumption) (State.checkAccess_frame (h_ := ?_) ?_)
    | with_reducible apply State.putBit_frame
    | with_reducible apply State.dmaEnd_frame
    | with_reducible apply State.dmaCopy_frame
    | refine Fr.pair (by assumption) (State.dmaCopy_frame (h_ := ?_) ?_)
    | with_reducible apply FrO.next
    | (simp -zeta -beta -iota only [Fr.mk_iff]; first | refine FrU.upd ?_ rfl | refine FrU.filter _ ?_ rfl)
    | with_reducible refine Fr.ite ?_ ?_
    | with_reducible refine Fr.ite2 ?_ ?_
    | with_reducible refine FrO.ite ?_ ?_
    | dsimp -zeta only
    | split

theorem execCopyDmaStop_frame {m_ : Nat} {o_ : State} {channel : Nat} {s : State} (h_ : Fr m_ o_ s) (hm_ : Nat.land 2147483647 m_ = 2147483647) : FrO m_ o_ (execCopyDmaStop channel s) := by
  refine FrO.of h_ hm_ ?_
  clear h_ hm_
  have h_ := Fr.refl 2147483647 s
  unfold execCopyDmaStop
  repeat' first
    | with_reducible assumption
    | exact (rfl : Nat.land _ _ = _)
    | (extract_lets +onlyGivenNames x
       first
         | (have hx : Fr 2147483647 s x := ?_
            (on_goal 1 => clear_value x)
            on_goal 2 => (unfold x; clear x))
         | (have hx : Fr 2147483647 s x.2 := ?_
            (on_goal 1 => clear_value x)
            on_goal 2 => (unfold x; clear x))
         | clear_value x)
    | with_reducible apply State.freshNat_frame
    | refine Fr.pair (by assumption) (State.freshNat_frame (h_ := ?_) ?_)
    | with_reducible apply State.dmaEnd_frame
    | with_reducible apply State.dmaCopy_frame
    | refine Fr.pair (by assumption) (State.dmaCopy_frame (h_ := ?_) ?_)
    | with_reducible apply FrO.next
    | (simp -zeta -beta -iota only [Fr.mk_iff]; first | refine FrU.upd ?_ rfl | refine FrU.filter _ ?_ rfl)
    | dsimp -zeta only
    | split

theorem execCopyDmaComplete_frame {m_ : Nat} {o_ : State} {channel : Nat} {s : State} (h_ : Fr m_ o_ s) (hm_ : Nat.land 2147483647 m_ = 2147483647) : FrO m_ o_ (execCopyDmaComplete channel s) := by
  refine FrO.of h_ hm_ ?_
  clear h_ hm_
  have h_ := Fr.refl 2147483647 s
  unfold execCopyDmaComplete
  repeat' first
    | with_reducible assumption
    | exact (rfl : Nat.land _ _ = _)
    | (extract_lets +onlyGivenNames x
       first
         | (have hx : Fr 2147483647 s x := ?_
            (on_goal 1 => clear_value x)
            on_goal 2 => (unfold x; clear x))
         | (have hx : Fr 2147483647 s x.2 := ?_
            (on_goal 1 => clear_value x)
            on_goal 2 => (unfold x; clear x))
         | clear_value x)
    | with_reducible apply State.dmaCopy_frame
    | refine Fr.pair (by assumption) (State.dmaCopy_frame (h_ := ?_) ?_)
    | with_reducible apply State.dmaEnd_frame
    | with_reducible apply State.dmaOverlap_frame
    | with_reducible apply FrO.next
    | (simp -zeta -beta -iota only [Fr.mk_iff]; first | refine FrU.upd ?_ rfl | refine FrU.filter _ ?_ rfl)
    | dsimp -zeta only
    | split

theorem State.dapAccess_frame {m_ : Nat} {o_ : State} {s : State} {write : Bool} {addr : Nat} {size : Nat} {data : Bytes} (h_ : Fr m_ o_ s) (hm_ : Nat.land 2147483647 m_ = 2147483647) : Fr m_ o_ (State.dapAccess s write addr size data) := by
  refine Fr.of h_ hm_ ?_
  clear h_ hm_
  have h_ := Fr.refl 2147483647 s
  unfold State.dapAccess
  repeat' first
    | with_reducible assumption
    | exact (rfl : Nat.land _ _ = _)
    | (extract_lets +onlyGivenNames x
       first
         | (have hx : Fr 2147483647 s x := ?_
            (on_goal 1 => clear_value x)
            on_goal 2 => (unfold x; clear x))
         | (have hx : Fr 2147483647 s x.2 := ?_
            (on_goal 1 => clear_value x)
            on_goal 2 => (unfold x; clear x))
         | (unfold x; clear x))
    | with_reducible apply State.wakeNap_frame
    | with_reducible apply State.alarm'_frame
    | with_reducible apply State.checkAccess_frame
    | refine Fr.pair (by assumption) (State.checkAccess_frame (h_ := ?_) ?_)
    | with_reducible apply State.transact_frame
    | with_reducible apply State.refusedAccess_frame
    | (simp -zeta -beta -iota only [Fr.mk_iff]; first | refine FrU.upd ?_ rfl | refine FrU.filter _ ?_ rfl)
    | with_reducible refine Fr.ite ?_ ?_
    | with_reducible refine Fr.ite2 ?_ ?_
    | dsimp -zeta only
    | split

theorem execDapRead_frame {m_ : Nat} {o_ : State} {addr : Nat} {size : Nat} {s : State} (h_ : Fr m_ o_ s) (hm_ : Nat.land 2147483647 m_ = 2147483647) : FrO m_ o_ (execDapRead addr size s) := by
  refine FrO.of h_ hm_ ?_
  clear h_ hm_
  have h_ := Fr.refl 2147483647 s
  unfold execDapRead
  repeat' first
    | with_reducible assumption
    | exact (rfl : Nat.land _ _ = _)
    | with_reducible apply State.dapAccess_frame
    | with_reducible apply FrO.next

theorem execDapWrite_frame {m_ : Nat} {o_ : State} {addr : Nat} {size : Nat} {data : Bytes} {s : State} (h_ : Fr m_ o_ s) (hm_ : Nat.land 2147483647 m_ = 2147483647) : FrO m_ o_ (execDapWrite addr size data s) := by
  refine FrO.of h_ hm_ ?_
  clear h_ hm_
  have h_ := Fr.refl 2147483647 s
  unfold execDapWrite
  repeat' first
    | with_reducible assumption
    | exact (rfl : Nat.land _ _ = _)
    | with_reducible apply State.dapAccess_frame
    | with_reducible apply FrO.next

theorem execIdcode_frame {m_ : Nat} {o_ : State} {s : State} (h_ : Fr m_ o_ s) (hm_ : Nat.land 536870920 m_ = 536870920) : FrO m_ o_ (execIdcode s) := by
  refine FrO.of h_ hm_ ?_
  clear h_ hm_
  have h_ := Fr.refl 536870920 s
  unfold execIdcode
  repeat' first
    | with_reducible assumption
    | exact (rfl : Nat.land _ _ = _)
    | (extract_lets +onlyGivenNames x
       first
         | (have hx : Fr 536870920 s x := ?_
            (on_goal 1 => clear_value x)
            on_goal 2 => (unfold x; clear x))
         | (have hx : Fr 536870920 s x.2 := ?_
            (on_goal 1 => clear_value x)
            on_goal 2 => (unfold x; clear x))
         | clear_value x)
    | with_reducible apply FrO.next
    | (simp -zeta -beta -iota only [Fr.mk_iff]; first | refine FrU.upd ?_ rfl | refine FrU.filter _ ?_ rfl)

theorem execBypass_frame {m_ : Nat} {o_ : State} {s : State} (h_ : Fr m_ o_ s) (hm_ : Nat.land 536870912 m_ = 536870912) : FrO m_ o_ (execBypass s) := by
  refine FrO.of h_ hm_ ?_
  clear h_ hm_
  have h_ := Fr.refl 536870912 s
  unfold execBypass
  repeat' first
    | with_reducible assumption
    | exact (rfl : Nat.land _ _ = _)
    | (extract_lets +onlyGivenNames x
       first
         | (have hx : Fr 536870912 s x := ?_
            (on_goal 1 => clear_value x)
            on_goal 2 => (unfold x; clear x))
         | (have hx : Fr 536870912 s x.2 := ?_
            (on_goal 1 => clear_value x)
            on_goal 2 => (unfold x; clear x))
         | clear_value x)
    | with_reducible apply FrO.next
    | (simp -zeta -beta -iota only [Fr.mk_iff]; first | refine FrU.upd ?_ rfl | refine FrU.filter _ ?_ rfl)

end Sys2Proof.Machine
end

