-- ==== Sys2Proof/Laws/Answers.lean ====
section
/-! SUPPORT. What the statements' words come from: an answer and its frame, a dictionary write accepted or refused, and
what each of the strand's shared operations leaves. -/

set_option linter.all false

namespace Sys2Proof.Machine

/-- From a frame lemma: the command answers, and nothing outside the pieces listed changes. -/
theorem Answers.only_of_frame {c : Instr} {s : State} {m : Nat} {l : List Part} (hx : ∃ t, exec c s = .next t) (hf : FrO m s (exec c s))
    (hl : ∀ p : Part, p ∉ l → inMask m p.weight = false) : Answers c s (Only l s) := by
  obtain ⟨t, e⟩ := hx
  exact ⟨t, e, fun p hp => (hf t e).1 p (hl p hp)⟩

/-- From a frame lemma: the command answers, and the pieces listed are as they were. -/
theorem Answers.kept_of_frame {c : Instr} {s : State} {m : Nat} {l : List Part} (hx : ∃ t, exec c s = .next t) (hf : FrO m s (exec c s))
    (hl : ∀ p : Part, p ∈ l → inMask m p.weight = false) : Answers c s (Kept l s) := by
  obtain ⟨t, e⟩ := hx
  exact ⟨t, e, fun p hp => (hf t e).1 p (hl p hp)⟩

/-- What a state shows of its registers, instances, memory and jobs rests on that piece alone. -/
theorem State.get_congr {s t : State} (h : t.regs = s.regs) (f : Fld) : t.get f = s.get f := by simp only [State.get, State.reg, h]

theorem State.bit_congr {s t : State} (h : t.regs = s.regs) (f : Fld) : t.bit f = s.bit f := by simp only [State.bit, State.get, State.reg, h]

theorem State.reg_congr {s t : State} (h : t.regs = s.regs) (a : Nat) : t.reg a = s.reg a := by simp only [State.reg, h]

theorem State.inst_congr {s t : State} (h : t.insts = s.insts) (a : Nat) : t.inst a = s.inst a := by simp only [State.inst, h]

theorem State.byte_congr {s t : State} (h : t.mem = s.mem) (a : Nat) : t.byte a = s.byte a := by simp only [State.byte, h]

theorem State.job_congr {s t : State} (h : t.jobs = s.jobs) (a : Nat) : t.job a = s.job a := by simp only [State.job, h]

/-- Only the registers listed differ: kept by writes of those registers. -/
theorem OnlyRegs.refl (l : List Nat) (s : State) : OnlyRegs l s s := ⟨rfl, fun _ _ => rfl⟩

theorem OnlyRegs.setReg {l : List Nat} {s t : State} {a : Nat} {w : Word} (h : OnlyRegs l s t) (ha : a ∈ l) : OnlyRegs l s (t.setReg a w) := by
  obtain ⟨h1, h2⟩ := h
  refine ⟨?_, ?_⟩
  · generalize t.regs = r at h1
    subst h1
    rfl
  · intro b hb
    rw [State.reg_setReg_ne _ _ _ _ (by intro e; exact hb (by rw [e]; exact ha))]
    exact h2 b hb

theorem OnlyRegs.put {l : List Nat} {s t : State} {f : Fld} {v : Nat} (h : OnlyRegs l s t) (ha : f.addr ∈ l) : OnlyRegs l s (t.put f v) := OnlyRegs.setReg h ha

theorem OnlyRegs.putBit {l : List Nat} {s t : State} {f : Fld} {v : Bool} (h : OnlyRegs l s t) (ha : f.addr ∈ l) : OnlyRegs l s (t.putBit f v) := OnlyRegs.put h ha

/-- Only one instance differs: kept by changes of that instance. -/
theorem OnlyInst.refl (n : Nat) (s : State) : OnlyInst n s s := ⟨rfl, fun _ _ => rfl⟩

theorem OnlyInst.modInst {n : Nat} {s t : State} {f : Inst → Inst} (h : OnlyInst n s t) : OnlyInst n s (t.modInst n f) := by
  obtain ⟨h1, h2⟩ := h
  refine ⟨?_, ?_⟩
  · generalize t.insts = r at h1
    subst h1
    rfl
  · intro b hb
    rw [State.inst_modInst_ne _ _ _ _ hb]
    exact h2 b hb

/-- A dictionary write that passes every check is executed, and the answers that are due are handed over (R503, R505). -/
theorem State.odSet_of_passes (s : State) (q : OdReq) (i b : Nat) (v : Bytes) (items : List StrandItem) (h : s.passes q i b v = true) :
    ∃ row, odRow i b = some row ∧ s.odSet q i b v items = (s.executeWrite q row i b row.type.code v items).respond := by
  unfold State.passes at h
  cases hr : odRow i b with
  | none => rw [hr] at h; cases h
  | some row =>
    rw [hr] at h
    refine ⟨row, rfl, ?_⟩
    unfold State.odSet State.odWrite
    rw [hr]
    simp only [Option.map_some, Option.getD_some]
    have : s.writeFault q row i b row.type.code v = none := by simpa using h
    rw [this]

/-- A dictionary write that fails a check changes only what the refusal itself does (R503). -/
theorem State.odSet_refused {s : State} {q : OdReq} {i b : Nat} {v : Bytes} {e : OdResult} (h : s.failsWith q i b v = some e) (x : List StrandItem) :
    s.odSet q i b v x = (s.refuseWrite q i b v e).respond := by
  unfold State.failsWith at h
  unfold State.odSet State.odWrite
  cases hr : odRow i b with
  | none =>
    rw [hr] at h
    cases h
    rfl
  | some row =>
    rw [hr] at h
    simp only [Option.map_some, Option.getD_some]
    simp only at h
    rw [h]

/-- A volatile write takes effect at once and is answered OK (R502). -/
theorem State.odSet_volatile (s : State) (q : OdReq) (i b : Nat) (v : Bytes) (items : List StrandItem) (h : s.passes q i b v = true)
    (hc : (odRow i b).map (fun r => r.cls) = some .volatile) (hi : inSpan i 0x2400 0x2800 = false) (h1 : (i = 0xF000 && b = 1) = false)
    (h2 : (i = 0xF000 && b = 2) = false) (t : State) (ht : (s.paid i b).2.volatileWrite q i b v (s.paid i b).1 items = (none, t)) :
    s.odSet q i b v items = (t.addReply q (some .ok) [] none).2.respond := by
  obtain ⟨row, hr, e⟩ := State.odSet_of_passes s q i b v items h
  rw [e]
  congr 1
  unfold State.executeWrite
  rw [hr] at hc
  simp only [Option.map_some, Option.some.injEq] at hc
  have hp : s.paid i b = if s.needsSignet row i then s.consumeSignet else ([], s) := by
    unfold State.paid; rw [hr]; simp
  rw [← hp]
  generalize s.paid i b = p at ht
  obtain ⟨sig, u⟩ := p
  simp only [hc, hi, h1, h2, Bool.false_eq_true, if_false] at ht ⊢
  rw [ht]

/-- A unit-local write takes effect, its record joins or waits, and it is answered OK (R502). -/
theorem State.odSet_unitLocal (s : State) (q : OdReq) (i b : Nat) (v : Bytes) (items : List StrandItem) (h : s.passes q i b v = true)
    (hc : (odRow i b).map (fun r => r.cls) = some .unitLocal) :
    ∃ row, odRow i b = some row ∧ s.odSet q i b v items = ((((s.paid i b).2.localWrite i b v).queueRec ((s.paid i b).2.writeRec q i b row.type.code v (s.paid i b).1 none)).addReply q (some .ok) [] none).2.respond := by
  obtain ⟨row, hr, e⟩ := State.odSet_of_passes s q i b v items h
  refine ⟨row, hr, ?_⟩
  rw [e]
  congr 1
  unfold State.executeWrite
  rw [hr] at hc
  simp only [Option.map_some, Option.some.injEq] at hc
  have hp : s.paid i b = if s.needsSignet row i then s.consumeSignet else ([], s) := by
    unfold State.paid; rw [hr]; simp
  rw [← hp]
  generalize s.paid i b = p
  obtain ⟨sig, u⟩ := p
  simp only [hc]

/-- A persistent write is a record of the open bead, and its answer is held for the seal (R502). -/
theorem State.odSet_persistent (s : State) (q : OdReq) (i b : Nat) (v : Bytes) (items : List StrandItem) (h : s.passes q i b v = true)
    (hc : (odRow i b).map (fun r => r.cls) = some .persistent) (u w : State) (hu : u = (s.paid i b).2) (row : OdRow) (hr : odRow i b = some row)
    (hw : w = ((u.addReply q none [] none).2.joinRec ((u.addReply q none [] none).2.writeRec q i b row.type.code v (s.paid i b).1 (some u.agent.nextReply))).2) :
    s.odSet q i b v items = (if inSpan i 0x2400 0x2800 && b = 3 then w.ownerEffect (i - 0x2400) (leNat v) else w).respond := by
  obtain ⟨row', hr', e⟩ := State.odSet_of_passes s q i b v items h
  rw [hr] at hr'
  cases hr'
  rw [e]
  congr 1
  unfold State.executeWrite
  rw [hr] at hc
  simp only [Option.map_some, Option.some.injEq] at hc
  have hp : s.paid i b = if s.needsSignet row i then s.consumeSignet else ([], s) := by
    unfold State.paid; rw [hr]; simp
  rw [← hp]
  subst hu hw
  generalize s.paid i b = p
  obtain ⟨sig, u⟩ := p
  simp only [hc]

/-- A write that passes names an entry of the table. -/
theorem State.odRow_of_passes (s : State) (q : OdReq) (i b : Nat) (v : Bytes) (h : s.passes q i b v = true) : ∃ row, odRow i b = some row ∧ s.writeFault q row i b row.type.code v = none := by
  unfold State.passes at h
  cases hr : odRow i b with
  | none => rw [hr] at h; cases h
  | some row => rw [hr] at h; exact ⟨row, rfl, by simpa using h⟩

/-- A search that finds nothing. -/
theorem find_none_all {α : Type} (l : List α) (p : α → Bool) (h : l.find? p = none) : ∀ x ∈ l, p x = false := by
  intro x hx
  simpa using List.find?_eq_none.mp h x hx

/-- What the checks of R503 leave true when none fails. -/
theorem State.writeFault_none (s : State) (q : OdReq) (row : OdRow) (i b typ : Nat) (v : Bytes) (h : s.writeFault q row i b typ v = none) :
    s.odRule q i b v ≠ some .wrongState ∧ s.odRule q i b v ≠ some .range ∧ s.odRule q i b v ≠ some .exhausted ∧ s.mayWrite row i q.role = true ∧ s.zeroised = false ∧
    (row.cls = .persistent → s.strandOpen = true ∧ s.strand.role ≠ .handingOver) ∧ (programsOtp row i b = true → s.lcs.programming = none) := by
  unfold State.writeFault at h
  simp only [Option.map_eq_none_iff] at h
  have h := find_none_all _ _ h
  simp only [List.forall_mem_cons] at h
  obtain ⟨h1, h2, h3, h4, h5, h6, h7, h8, h9, -⟩ := h
  simp only [Bool.or_eq_false_iff, Bool.and_eq_false_iff, beq_eq_false_iff_ne, Bool.not_eq_false'] at *
  refine ⟨h9.1.1.2, h4.2, h6.2, h2, h9.1.1.1, ?_, ?_⟩
  · intro e
    rcases h9.1.2 with h | h
    · exact absurd e h
    · exact ⟨h.2, h.1⟩
  · intro e
    rcases h7 with h | h
    · rw [e] at h; cases h
    · simpa using h

/-- Writes issued one after another while Bus Master Enable is set. -/
theorem State.emit_fold {α : Type} (s : State) (l : List α) (f : α → HostWrite) (h : s.host.bme = true) :
    l.foldl (fun s p => s.emit (f p)) s = { s with host := { s.host with out := s.host.out ++ l.map f } } := by
  induction l generalizing s with
  | nil => simp
  | cons a l ih =>
    rw [List.foldl_cons, ih (s.emit (f a)) (by simp [State.emit, h])]
    simp [State.emit, h]

/-- The pieces of a string, put together, are the string. -/
theorem pieces_flatten (n : Nat) (b : Bytes) (h : 0 < n) :
    ((pieces n b.length).map (fun p => (b.drop p.1).take p.2)).flatten = b := by
  have key : ∀ k, ((List.range k).map (fun i => (b.drop (n * i)).take (min n (b.length - n * i)))).flatten = b.take (n * k) := by
    intro k
    induction k with
    | zero => simp
    | succ k ih =>
      rw [List.range_succ, List.map_append, List.flatten_append, ih]
      have e : (b.drop (n * k)).take (min n (b.length - n * k)) = (b.drop (n * k)).take n := by
        rw [← List.length_drop, ← List.take_take, List.take_length]
      simp only [List.map_cons, List.map_nil, List.flatten_cons, List.flatten_nil, List.append_nil, e]
      rw [Nat.mul_succ, List.take_add]
  have e := key (ceilDiv b.length n)
  unfold pieces
  rw [List.map_map]
  refine Eq.trans e (List.take_of_length_le ?_)
  unfold ceilDiv
  have := Nat.div_add_mod (b.length + n - 1) n
  have := Nat.mod_lt (b.length + n - 1) h
  omega

/-- A frame of the strand alone. -/
theorem Fr.strand_eq {s t : State} (h : Fr 16384 s t) : t = { s with strand := t.strand } := h.eq

/-- Closing a bead changes the strand alone. -/
theorem State.closeBead_strand (s : State) (z : Bool) : s.closeBead z = { s with strand := (s.closeBead z).strand } := Fr.strand_eq (State.closeBead_frame (Fr.refl _ _) rfl)

/-- A record that joins changes the strand alone. -/
theorem State.joinRec_strand (s : State) (r : Rec) : (s.joinRec r).2 = { s with strand := (s.joinRec r).2.strand } := Fr.strand_eq (State.joinRec_frame (Fr.refl _ _) rfl)

/-- The record that joins is the last of the open bead. -/
theorem State.joinRec_getLast (s : State) (r : Rec) (hb : ∀ n, r.body.atBead n = r.body) : (s.joinRec r).2.strand.openBead.recs.getLast? = some { r with tick := s.time.tick } := by
  unfold State.joinRec
  simp only [List.getLast?_append, List.getLast?_singleton, Option.some_or, hb]
  split
  · rw [State.closeBead_strand]
  · rfl

end Sys2Proof.Machine
end

