-- ==== Sys2Proof/Tests/Slice0.lean ====
section
/-! SUPPORT. Tests of the model: ill-formed operands are refused, the manual's worked examples come out, and every
statement's hypotheses are met by states and operands together. -/

set_option maxRecDepth 8000
set_option Elab.async false

open Sys2Proof Sys2Proof.Machine

namespace Sys2Proof.Tests

/-- A unit that is up: powered, linked to a host that may master the bus, serving. -/
def up : State :=
  { (State.reset.put .HST_STATUS_DEVICE_STATE 1) with
    host := { State.reset.host with perstN := true, bme := true, pasidEn := true }
    power := { State.reset.power with mode := .active } }

/-- The same unit with the strand open: it holds the clasp. -/
def serving : State := { up with strand := { up.strand with clasp := some 1, role := .active } }

/-- A dictionary request of the admin mailbox. -/
def req : OdReq := { src := .admin, tag := 0, noIrq := false, durable := false, outAddr := 0, outCap := 0 }

/-- A dictionary request of the secure firmware. -/
def fwReq : OdReq := { req with src := .secureFirmware }

/-- A job of instance 5 as it stands after its fetch, its entry starting with an opcode. -/
def jobOf (op : Nat) : Job := State.reset.newJob 5 7 (le 2 op ++ zeros 126) 0

/-- The serving unit with one job in entry 7. -/
def withJob (j : Job) : State := serving.setJob 7 (some j)

/-- The confirmations that are all wanted. -/
def allOf : Confs := ⟨true, true, true, true, true⟩

/-- A policy that permits everything up to 100 uses and leaves the decision to the firmware. -/
def pol : Policy :=
  { opMask := 2 ^ 32 - 1, quorum := List.replicate 9 0, exportBits := 3, fwPolicy := true, fwRule := 0, usageLimit := 100,
    notBefore := 0, notAfter := noNotAfter, label := [], reserved := 0 }

/-- A symmetric key of 32 octets. -/
def keyObj (h : Nat) : Obj :=
  { handle := h, type := 1, size := 256, svn := 0, enc := zeros 32, sealCount := 1, sealClasp := 1, highWater := 0,
    counter := 0, bead := 1, policy := pol }

/-- A job at a stage, with its operands known and a command that names object 9. -/
def jobAt (op : Nat) (st : Stage) : Job :=
  { State.reset.newJob 5 7 (le 8 op ++ le 8 9 ++ zeros 112) 0 with
    stage := st, rateAdmitted := true, looked := true, target := some (keyObj 9), need := allOf }

/-- A plan of one step on an engine. -/
def planOf (e : Engine) : Plan :=
  { status := .done, detail := 0, output := [], recs := [], newObj := none, steps := [(e, 100)] }

/-- The serving unit with its whole address space in region 0, every facet open. -/
def openAll : State :=
  { serving with worlds := { serving.worlds with
    bzl := [(0x10001000, 0#32), (0x10001004, 0#32), (0x10001008, 0x2801#32)] ++ (List.range 8).map (fun f => (0x10001020 + 4 * f, 0x3FFFF#32)) } }

/-- The serving unit in a domain, both HELLOs of a session exchanged, CONFIRM not yet. -/
def closed : State :=
  { (serving.putBit .FLL_CTRL_LINK_EN true) with
    bb := { serving.bb with pairSecret := some (zeros 32), domainId := 4 }
    ladder := { serving.ladder with vp := some (zeros 64) }
    pair := { serving.pair with
      sent := some { serial := 5, svn := 0, position := 0, pairState := 2, role := 1, domain := 4, nonce := zeros 16 }
      got := some { serial := 6, svn := 0, position := 1, pairState := 2, role := 2, domain := 4, nonce := zeros 16 } } }

/-- The same unit with the session UP. -/
def linked : State := closed.put .FLL_STATUS_LINK lkUp

/-- A frame that carries the tag of its message under the session key, if there is one. -/
def goodFrame (s : State) (ty : Nat) (pl : Bytes) (n : Nat) : FrameHead :=
  { seq := n
    tag := match s.sessionKey with
      | some k => (sealFrame k (frameNonce (1 - s.position) n) ty (1 - s.position) n pl).tag
      | none => [] }

theorem tagOk_good (s : State) (ty : Nat) (pl : Bytes) (n : Nat) (h : s.sessionKey.isSome = true) :
    s.tagOk ty pl (goodFrame s ty pl n) = true := by
  unfold State.tagOk goodFrame
  cases e : s.sessionKey with
  | none => rw [e] at h; cases h
  | some k => simp

theorem linked_upFrame (ty : Nat) (pl : Bytes) : ∃ u, linked.upFrame ty pl (goodFrame linked ty pl 7) = (true, u) := by
  have h1 : linked.linkUp = true := by decide +kernel
  have h2 : linked.linkOn = true := by decide +kernel
  have h3 : linked.agreed = true := by decide +kernel
  have h4 : linked.tagOk ty pl (goodFrame linked ty pl 7) = true := tagOk_good _ _ _ _ (by decide +kernel)
  have h5 : ¬ (goodFrame linked ty pl 7).seq ≤ linked.pair.rxSeq := by show ¬ (7 ≤ linked.pair.rxSeq); decide +kernel
  simp only [State.upFrame, State.frame, h1, h2, h3, h4, Bool.not_true, Bool.or_self, Bool.false_eq_true, if_true, if_false]
  rw [if_neg h5]
  exact ⟨_, rfl⟩


/-! ## Operands that do not fit -/

/-- Each of these terms breaks one check, and the check refuses it. -/
theorem test_ill_formed_1 : ∀ i ∈ ([
    .busMasterEnableSet false ⟨false, 4097, 0, 0⟩,
    .busMasterEnableSet false ⟨false, 0, 4097, 0⟩,
    .busMasterEnableSet false ⟨false, 0, 0, 16⟩,
    .adminMailboxEnable 16,
    .adminSqTailWrite (2 ^ 32),
    .odRead (zeros 127),
    .odWrite (zeros 127) [] [],
    .odWrite (zeros 128) (zeros 16385) [],
    .msixVectorUnmask 2048,
    .sqTailWrite 1024 0,
    .sqTailWrite 0 (2 ^ 32),
    .cqHeadWrite 1024 0,
    .cqHeadWrite 0 (2 ^ 32),
    .instanceOwnerWrite { req with tag := 2 ^ 32 } 0 [],
    .instanceOwnerWrite { req with outAddr := 2 ^ 64 } 0 [],
    .instanceOwnerWrite { req with outCap := 2 ^ 32 } 0 [],
    .instanceOwnerWrite req 1024 [],
    .instanceOwnerWrite req 0 (zeros 16385),
    .instanceEnable { req with tag := 2 ^ 32 } 0,
    .instanceEnable { req with outAddr := 2 ^ 64 } 0,
    .instanceEnable { req with outCap := 2 ^ 32 } 0,
    .instanceEnable req 1024,
    .instanceReset { req with tag := 2 ^ 32 } 0,
    .instanceReset { req with outAddr := 2 ^ 64 } 0,
    .instanceReset { req with outCap := 2 ^ 32 } 0,
    .instanceReset req 1024,
    .instanceDrainComplete 1024,
    .cmdTimeoutExpiry 4096,
    .rateBucketAdmit 4096,
    .waitLimitExpiry 4096,
    .directoryLookupComplete 4096,
    .objectUnsealComplete 4096 false,
    .engineWorkEnd 4096 0,
    .policyHwDecision 4096,
    .policyRequestPost 4096,
    .policyPermit 4096 0,
    .policyPermit 0 256,
    .policyDeny 4096 0,
    .policyDeny 0 256,
    .policyDecisionTimeout 4096,
    .usageBlockCreate (2 ^ 64),
    .approvalWaitExpiry 4096,
    .laneDeadlineExpiry 4096 0,
    .resultRelease 4096,
    .keyGenerate 4096,
    .keyImport 4096,
    .keyDerive 4096,
    .keyDestroy 4096,
    .keySetPolicy 4096,
    .keyExportWrapped 4096,
    .keyDescribe 4096,
    .sign 4096,
    .verify 4096,
    .asymDecrypt 4096,
    .asymEncrypt 4096,
    .agree 4096,
    .encaps 4096,
    .decaps 4096,
    .aeadSeal 4096,
    .aeadOpen 4096] : List Instr), WellFormed i = false := by
  decide +kernel

/-- Each of these terms breaks one check, and the check refuses it. -/
theorem test_ill_formed_2 : ∀ i ∈ ([
    .cipher 4096,
    .mac 4096,
    .wrap 4096,
    .unwrap 4096,
    .random 4096,
    .hash 4096,
    .ownerApprove 4096,
    .counterRead 4096,
    .attestQuote 4096,
    .meterRingEnable 16,
    .meterHeadWrite (2 ^ 32),
    .journalExportEnable 32,
    .journalConsumedWrite (2 ^ 64),
    .journalDurableWrite (2 ^ 64),
    .claspWrite (2 ^ 32),
    .checkpointRequest { req with tag := 2 ^ 32 } [],
    .checkpointRequest { req with outAddr := 2 ^ 64 } [],
    .checkpointRequest { req with outCap := 2 ^ 32 } [],
    .checkpointRequest req (zeros 16385),
    .restoreStart { req with tag := 2 ^ 32 } [],
    .restoreStart { req with outAddr := 2 ^ 64 } [],
    .restoreStart { req with outCap := 2 ^ 32 } [],
    .restoreStart req (zeros 16385),
    .rollbackAccept { req with tag := 2 ^ 32 } [],
    .rollbackAccept { req with outAddr := 2 ^ 64 } [],
    .rollbackAccept { req with outCap := 2 ^ 32 } [],
    .rollbackAccept req (zeros 16385),
    .eccUncorrectableError (2 ^ 40),
    .migrateFloor { req with tag := 2 ^ 32 } [],
    .migrateFloor { req with outAddr := 2 ^ 64 } [],
    .migrateFloor { req with outCap := 2 ^ 32 } [],
    .migrateFloor req (zeros 16385),
    .ownerEpoch { req with tag := 2 ^ 32 } 0 [],
    .ownerEpoch { req with outAddr := 2 ^ 64 } 0 [],
    .ownerEpoch { req with outCap := 2 ^ 32 } 0 [],
    .ownerEpoch req (2 ^ 16) [],
    .ownerEpoch req 0 (zeros 16385),
    .domainCreate { req with tag := 2 ^ 32 } [],
    .domainCreate { req with outAddr := 2 ^ 64 } [],
    .domainCreate { req with outCap := 2 ^ 32 } [],
    .domainCreate req (zeros 16385),
    .domainSend { req with tag := 2 ^ 32 } [],
    .domainSend { req with outAddr := 2 ^ 64 } [],
    .domainSend { req with outCap := 2 ^ 32 } [],
    .domainSend req (zeros 16385),
    .domainAccept { req with tag := 2 ^ 32 } [],
    .domainAccept { req with outAddr := 2 ^ 64 } [],
    .domainAccept { req with outCap := 2 ^ 32 } [],
    .domainAccept req (zeros 16385),
    .hello ⟨0, 0, 2, 0, 0, 0, zeros 16⟩,
    .hello ⟨0, 0, 0, 0, 0, 0, zeros 15⟩,
    .confirm ⟨2 ^ 64, zeros 16⟩ (zeros 32),
    .confirm ⟨0, zeros 15⟩ (zeros 32),
    .confirm ⟨0, zeros 16⟩ (zeros 31),
    .headReq ⟨2 ^ 64, zeros 16⟩,
    .headReq ⟨0, zeros 15⟩,
    .head ⟨2 ^ 64, zeros 16⟩ 0 (zeros 32) 0 false,
    .head ⟨0, zeros 15⟩ 0 (zeros 32) 0 false,
    .head ⟨0, zeros 16⟩ (2 ^ 64) (zeros 32) 0 false,
    .head ⟨0, zeros 16⟩ 0 (zeros 31) 0 false] : List Instr), WellFormed i = false := by
  decide +kernel

/-- Each of these terms breaks one check, and the check refuses it. -/
theorem test_ill_formed_3 : ∀ i ∈ ([
    .head ⟨0, zeros 16⟩ 0 (zeros 32) (2 ^ 32) false,
    .visitDone ⟨2 ^ 64, zeros 16⟩ 0,
    .visitDone ⟨0, zeros 15⟩ 0,
    .visitDone ⟨0, zeros 16⟩ (2 ^ 64),
    .ready ⟨2 ^ 64, zeros 16⟩ 0 0,
    .ready ⟨0, zeros 15⟩ 0 0,
    .ready ⟨0, zeros 16⟩ (2 ^ 64) 0,
    .ready ⟨0, zeros 16⟩ 0 (2 ^ 32),
    .claspPass ⟨2 ^ 64, zeros 16⟩ 0 0 (zeros 64),
    .claspPass ⟨0, zeros 15⟩ 0 0 (zeros 64),
    .claspPass ⟨0, zeros 16⟩ (2 ^ 32) 0 (zeros 64),
    .claspPass ⟨0, zeros 16⟩ 0 (2 ^ 64) (zeros 64),
    .claspPass ⟨0, zeros 16⟩ 0 0 (zeros 63),
    .claspAck ⟨2 ^ 64, zeros 16⟩ 0,
    .claspAck ⟨0, zeros 15⟩ 0,
    .claspAck ⟨0, zeros 16⟩ (2 ^ 32),
    .claspNak ⟨2 ^ 64, zeros 16⟩ 0,
    .claspNak ⟨0, zeros 15⟩ 0,
    .claspNak ⟨0, zeros 16⟩ 256,
    .keepalive ⟨2 ^ 64, zeros 16⟩ 0,
    .keepalive ⟨0, zeros 15⟩ 0,
    .keepalive ⟨0, zeros 16⟩ 256,
    .pairSecret (2 ^ 64) [],
    .handover { req with tag := 2 ^ 32 } [],
    .handover { req with outAddr := 2 ^ 64 } [],
    .handover { req with outCap := 2 ^ 32 } [],
    .handover req (zeros 16385),
    .appendStart { req with tag := 2 ^ 32 } [] [],
    .appendStart { req with outAddr := 2 ^ 64 } [] [],
    .appendStart { req with outCap := 2 ^ 32 } [] [],
    .appendStart req [] (zeros 16385),
    .wakePartner { req with tag := 2 ^ 32 } [],
    .wakePartner { req with outAddr := 2 ^ 64 } [],
    .wakePartner { req with outCap := 2 ^ 32 } [],
    .wakePartner req (zeros 16385),
    .stayAwake { req with tag := 2 ^ 32 } [],
    .stayAwake { req with outAddr := 2 ^ 64 } [],
    .stayAwake { req with outCap := 2 ^ 32 } [],
    .stayAwake req (zeros 16385),
    .bgnPromote 34,
    .bgnHold 34 false,
    .bgnFence 34,
    .bgnCoreCfgWrite 34 0,
    .bgnCoreCfgWrite 0 64,
    .modadd 34 0,
    .modadd 0 256,
    .modsub 34 0,
    .modsub 0 256,
    .modmul 34 0,
    .modmul 0 256,
    .modexp 34 0,
    .modexp 0 256,
    .modexpPub 34 0,
    .modexpPub 0 256,
    .modinv 34 0,
    .modinv 0 256,
    .rsaCrt 34 0,
    .rsaCrt 0 256,
    .mrRound 34 0,
    .mrRound 0 256] : List Instr), WellFormed i = false := by
  decide +kernel

/-- Each of these terms breaks one check, and the check refuses it. -/
theorem test_ill_formed_4 : ∀ i ∈ ([
    .ecSmul 34 0,
    .ecSmul 0 256,
    .ecDsmul 34 0,
    .ecDsmul 0 256,
    .ecAdd 34 0,
    .ecAdd 0 256,
    .ecdsaSign 34 0,
    .ecdsaSign 0 256,
    .ecdsaVerify 34 0,
    .ecdsaVerify 0 256,
    .edSmul 34 0,
    .edSmul 0 256,
    .xdh 34 0,
    .xdh 0 256,
    .bgnFwOpComplete 34,
    .latPromote 9,
    .latHold 9 false,
    .latFence 9,
    .mlkemEncaps 9 0,
    .mlkemEncaps 0 256,
    .mldsaVerify 9 0,
    .mldsaVerify 0 256,
    .ntt 9 0,
    .ntt 0 256,
    .intt 9 0,
    .intt 0 256,
    .pmul 9 0,
    .pmul 0 256,
    .keccak 9 0,
    .keccak 0 256,
    .latFwOpComplete 9,
    .laneLockAcquire 16 0 .secure,
    .laneLockAcquire 0 (2 ^ 16) .secure,
    .laneLockRelease 16 .secure,
    .laneFwJobStart 16 .secure,
    .laneKeyClear 16 .secure,
    .laneFwJobComplete 16,
    .entropyWindowEnd 4,
    .healthTestFail 4 false,
    .startupTestPass 4,
    .quarantineRetry 4,
    .drbgReseed 4,
    .drbgInstanceStall 4,
    .rngTestSelect 4 0,
    .rngTestSelect 0 16,
    .hallmarkExtend 8,
    .fwStorageKeyRequest false 256 0 0,
    .fwStorageKeyRequest false 0 256 0,
    .fwStorageKeyRequest false 0 0 16,
    .cardInsert 2,
    .cardRemove 2,
    .atrTimeout 2,
    .atrReceived 2 false false none,
    .selectResponse 2 0,
    .selectResponse 0 (2 ^ 16),
    .getInfoResponse 2 0 0 [],
    .getInfoResponse 0 (2 ^ 16) 0 [],
    .getInfoResponse 0 0 16 [],
    .verifyPinResponse 2 0,
    .verifyPinResponse 0 (2 ^ 16)] : List Instr), WellFormed i = false := by
  decide +kernel

/-- Each of these terms breaks one check, and the check refuses it. -/
theorem test_ill_formed_5 : ∀ i ∈ ([
    .signStatementResponse 2 0 [],
    .signStatementResponse 0 (2 ^ 16) [],
    .cardSignatureVerified 2,
    .pinWrite { req with tag := 2 ^ 32 } 0 [],
    .pinWrite { req with outAddr := 2 ^ 64 } 0 [],
    .pinWrite { req with outCap := 2 ^ 32 } 0 [],
    .pinWrite req 2 [],
    .pinWrite req 0 (zeros 16385),
    .pinWaitTimeout 2,
    .signingTimeout 2,
    .cardDeactivate 2,
    .signetOpen { req with tag := 2 ^ 32 } [],
    .signetOpen { req with outAddr := 2 ^ 64 } [],
    .signetOpen { req with outCap := 2 ^ 32 } [],
    .signetOpen req (zeros 16385),
    .signetCancel { req with tag := 2 ^ 32 } [],
    .signetCancel { req with outAddr := 2 ^ 64 } [],
    .signetCancel { req with outCap := 2 ^ 32 } [],
    .signetCancel req (zeros 16385),
    .zeroiseArm { req with tag := 2 ^ 32 } [],
    .zeroiseArm { req with outAddr := 2 ^ 64 } [],
    .zeroiseArm { req with outCap := 2 ^ 32 } [],
    .zeroiseArm req (zeros 16385),
    .wsw 4 0,
    .wsw 0 (2 ^ 40),
    .wret 4,
    .secureInterruptTaken 32 0,
    .secureInterruptTaken 0 (2 ^ 40),
    .worldSliceExpiry 32,
    .internalMasterAccess 8 0 0 0 0 [],
    .internalMasterAccess 0 4 0 0 0 [],
    .internalMasterAccess 0 0 (2 ^ 40 + 2 ^ 22) 0 0 [],
    .internalMasterAccess 0 0 0 4097 0 [],
    .internalMasterAccess 0 0 0 0 16 [],
    .l2WaysWrite (2 ^ 16),
    .copyDmaStart 4,
    .copyDmaStop 4,
    .copyDmaComplete 4,
    .clockMonitorWindow 4 0,
    .clockShortCycle 4,
    .firmwareAlarmRaise 8,
    .vbatMeasure (2 ^ 16) 0,
    .vbatMeasure 0 (2 ^ 16),
    .loopsArm { req with tag := 2 ^ 32 } [],
    .loopsArm { req with outAddr := 2 ^ 64 } [],
    .loopsArm { req with outCap := 2 ^ 32 } [],
    .loopsArm req (zeros 16385),
    .loopsDisarm { req with tag := 2 ^ 32 } [],
    .loopsDisarm { req with outAddr := 2 ^ 64 } [],
    .loopsDisarm { req with outCap := 2 ^ 32 } [],
    .loopsDisarm req (zeros 16385),
    .responseRaise { req with tag := 2 ^ 32 } 0 [],
    .responseRaise { req with outAddr := 2 ^ 64 } 0 [],
    .responseRaise { req with outCap := 2 ^ 32 } 0 [],
    .responseRaise req 32 [],
    .responseRaise req 0 (zeros 16385),
    .lifecycleNext { req with tag := 2 ^ 32 } [],
    .lifecycleNext { req with outAddr := 2 ^ 64 } [],
    .lifecycleNext { req with outCap := 2 ^ 32 } [],
    .lifecycleNext req (zeros 16385)] : List Instr), WellFormed i = false := by
  decide +kernel

/-- Each of these terms breaks one check, and the check refuses it. -/
theorem test_ill_formed_6 : ∀ i ∈ ([
    .signerHashes { req with tag := 2 ^ 32 } 0 [],
    .signerHashes { req with outAddr := 2 ^ 64 } 0 [],
    .signerHashes { req with outCap := 2 ^ 32 } 0 [],
    .signerHashes req 4 [],
    .signerHashes req 0 (zeros 16385),
    .signerRevoke { req with tag := 2 ^ 32 } 0 [],
    .signerRevoke { req with outAddr := 2 ^ 64 } 0 [],
    .signerRevoke { req with outCap := 2 ^ 32 } 0 [],
    .signerRevoke req 4 [],
    .signerRevoke req 0 (zeros 16385),
    .svnFloor { req with tag := 2 ^ 32 } [],
    .svnFloor { req with outAddr := 2 ^ 64 } [],
    .svnFloor { req with outCap := 2 ^ 32 } [],
    .svnFloor req (zeros 16385),
    .cosigRequired { req with tag := 2 ^ 32 } [],
    .cosigRequired { req with outAddr := 2 ^ 64 } [],
    .cosigRequired { req with outCap := 2 ^ 32 } [],
    .cosigRequired req (zeros 16385),
    .compatDisable { req with tag := 2 ^ 32 } [],
    .compatDisable { req with outAddr := 2 ^ 64 } [],
    .compatDisable { req with outCap := 2 ^ 32 } [],
    .compatDisable req (zeros 16385),
    .provisionRun { req with tag := 2 ^ 32 } [],
    .provisionRun { req with outAddr := 2 ^ 64 } [],
    .provisionRun { req with outCap := 2 ^ 32 } [],
    .provisionRun req (zeros 16385),
    .signer0 { req with tag := 2 ^ 32 } [],
    .signer0 { req with outAddr := 2 ^ 64 } [],
    .signer0 { req with outCap := 2 ^ 32 } [],
    .signer0 req (zeros 16385),
    .identityCertWrite { req with tag := 2 ^ 32 } [],
    .identityCertWrite { req with outAddr := 2 ^ 64 } [],
    .identityCertWrite { req with outCap := 2 ^ 32 } [],
    .identityCertWrite req (zeros 16385),
    .dapRead (2 ^ 40) 0,
    .dapRead 0 4097,
    .dapWrite (2 ^ 40) 0 [],
    .dapWrite 0 4097 [],
    .debugToken { req with tag := 2 ^ 32 } [],
    .debugToken { req with outAddr := 2 ^ 64 } [],
    .debugToken { req with outCap := 2 ^ 32 } [],
    .debugToken req (zeros 16385),
    .nextPulseTai { req with tag := 2 ^ 32 } [],
    .nextPulseTai { req with outAddr := 2 ^ 64 } [],
    .nextPulseTai { req with outCap := 2 ^ 32 } [],
    .nextPulseTai req (zeros 16385),
    .todReset { req with tag := 2 ^ 32 } [],
    .todReset { req with outAddr := 2 ^ 64 } [],
    .todReset { req with outCap := 2 ^ 32 } [],
    .todReset req (zeros 16385),
    .evrPostS 8 0,
    .evrPostS 0 (2 ^ 16),
    .evrPostN 8 0,
    .evrPostN 0 (2 ^ 16),
    .archiveRelease { req with tag := 2 ^ 32 } [],
    .archiveRelease { req with outAddr := 2 ^ 64 } [],
    .archiveRelease { req with outCap := 2 ^ 32 } [],
    .archiveRelease req (zeros 16385),
    .nextRecord { req with tag := 2 ^ 32 } 0 0,
    .nextRecord { req with outAddr := 2 ^ 64 } 0 0] : List Instr), WellFormed i = false := by
  decide +kernel

/-- Each of these terms breaks one check, and the check refuses it. -/
theorem test_ill_formed_7 : ∀ i ∈ ([
    .nextRecord { req with outCap := 2 ^ 32 } 0 0,
    .nextRecord req (2 ^ 32) 0,
    .nextRecord req 0 (2 ^ 32),
    .mgpRxdTailWrite (2 ^ 32),
    .read 8 [],
    .write 8 [] [],
    .close 8 [],
    .secureOdAccess 256 0 [],
    .secureOdAccess 0 256 [],
    .pueshIdleTimeout 8,
    .sessionCloseWrite { req with tag := 2 ^ 32 } 0 [],
    .sessionCloseWrite { req with outAddr := 2 ^ 64 } 0 [],
    .sessionCloseWrite { req with outCap := 2 ^ 32 } 0 [],
    .sessionCloseWrite req 8 [],
    .sessionCloseWrite req 0 (zeros 16385),
    .mgmtKeyGenerate { req with tag := 2 ^ 32 } [],
    .mgmtKeyGenerate { req with outAddr := 2 ^ 64 } [],
    .mgmtKeyGenerate { req with outCap := 2 ^ 32 } [],
    .mgmtKeyGenerate req (zeros 16385),
    .mgmtCert { req with tag := 2 ^ 32 } [],
    .mgmtCert { req with outAddr := 2 ^ 64 } [],
    .mgmtCert { req with outCap := 2 ^ 32 } [],
    .mgmtCert req (zeros 16385),
    .napRequest { req with tag := 2 ^ 32 } [],
    .napRequest { req with outAddr := 2 ^ 64 } [],
    .napRequest { req with outCap := 2 ^ 32 } [],
    .napRequest req (zeros 16385),
    .sleepRequest { req with tag := 2 ^ 32 } [],
    .sleepRequest { req with outAddr := 2 ^ 64 } [],
    .sleepRequest { req with outCap := 2 ^ 32 } [],
    .sleepRequest req (zeros 16385),
    .vddAonLoss (2 ^ 16),
    .gpioRisingEdge 8,
    .pwrLockWrite 4096,
    .nsGateClkOn 12,
    .nsGateClkOff 12,
    .nsGatePwrOn 12,
    .nsGatePwrOff 12,
    .pwrGateWrite .secure 12 false false,
    .gateTransitionComplete 12,
    .polishSequenceEnd false (some 7),
    .registerWrite .secure (2 ^ 40) 0,
    .registerWrite .secure 0 (2 ^ 32),
    .linkRateChange 33 0,
    .linkRateChange 0 9,
    .dtlsHandshakeComplete 8 [],
    .dtlsAlert 8,
    .wfi 4] : List Instr), WellFormed i = false := by
  decide +kernel

/-- The largest operands that fit are well formed. -/
theorem test_well_formed_1 : ∀ i ∈ ([
    .busMasterEnableSet false ⟨false, 4096, 4096, 15⟩,
    .adminMailboxEnable (16 - 1),
    .adminSqTailWrite ((2 ^ 32) - 1),
    .odRead (zeros 128),
    .odWrite (zeros 128) (zeros 16384) [],
    .msixVectorUnmask (2048 - 1),
    .sqTailWrite (1024 - 1) ((2 ^ 32) - 1),
    .cqHeadWrite (1024 - 1) ((2 ^ 32) - 1),
    .instanceOwnerWrite req (1024 - 1) (zeros 16384),
    .instanceEnable req (1024 - 1),
    .instanceReset req (1024 - 1),
    .instanceDrainComplete (1024 - 1),
    .cmdTimeoutExpiry (4096 - 1),
    .rateBucketAdmit (4096 - 1),
    .waitLimitExpiry (4096 - 1),
    .directoryLookupComplete (4096 - 1),
    .objectUnsealComplete (4096 - 1) false,
    .engineWorkEnd (4096 - 1) 0,
    .policyHwDecision (4096 - 1),
    .policyRequestPost (4096 - 1),
    .policyPermit (4096 - 1) (256 - 1),
    .policyDeny (4096 - 1) (256 - 1),
    .policyDecisionTimeout (4096 - 1),
    .usageBlockCreate ((2 ^ 64) - 1),
    .approvalWaitExpiry (4096 - 1),
    .laneDeadlineExpiry (4096 - 1) 0,
    .resultRelease (4096 - 1),
    .keyGenerate (4096 - 1),
    .keyImport (4096 - 1),
    .keyDerive (4096 - 1),
    .keyDestroy (4096 - 1),
    .keySetPolicy (4096 - 1),
    .keyExportWrapped (4096 - 1),
    .keyDescribe (4096 - 1),
    .sign (4096 - 1),
    .verify (4096 - 1),
    .asymDecrypt (4096 - 1),
    .asymEncrypt (4096 - 1),
    .agree (4096 - 1),
    .encaps (4096 - 1),
    .decaps (4096 - 1),
    .aeadSeal (4096 - 1),
    .aeadOpen (4096 - 1),
    .cipher (4096 - 1),
    .mac (4096 - 1),
    .wrap (4096 - 1),
    .unwrap (4096 - 1),
    .random (4096 - 1),
    .hash (4096 - 1),
    .ownerApprove (4096 - 1),
    .counterRead (4096 - 1),
    .attestQuote (4096 - 1),
    .meterRingEnable (16 - 1),
    .meterHeadWrite ((2 ^ 32) - 1),
    .journalExportEnable (32 - 1),
    .journalConsumedWrite ((2 ^ 64) - 1),
    .journalDurableWrite ((2 ^ 64) - 1),
    .claspWrite ((2 ^ 32) - 1),
    .checkpointRequest req (zeros 16384),
    .restoreStart req (zeros 16384)] : List Instr), WellFormed i = true := by
  decide +kernel

/-- The largest operands that fit are well formed. -/
theorem test_well_formed_2 : ∀ i ∈ ([
    .rollbackAccept req (zeros 16384),
    .eccUncorrectableError ((2 ^ 40) - 1),
    .migrateFloor req (zeros 16384),
    .ownerEpoch req ((2 ^ 16) - 1) (zeros 16384),
    .domainCreate req (zeros 16384),
    .domainSend req (zeros 16384),
    .domainAccept req (zeros 16384),
    .hello ⟨0, 0, 0, 0, 0, 0, zeros 16⟩,
    .confirm ⟨0, zeros 16⟩ (zeros 32),
    .headReq ⟨0, zeros 16⟩,
    .head ⟨0, zeros 16⟩ ((2 ^ 64) - 1) (zeros 32) ((2 ^ 32) - 1) false,
    .visitDone ⟨0, zeros 16⟩ ((2 ^ 64) - 1),
    .ready ⟨0, zeros 16⟩ ((2 ^ 64) - 1) ((2 ^ 32) - 1),
    .claspPass ⟨0, zeros 16⟩ ((2 ^ 32) - 1) ((2 ^ 64) - 1) (zeros 64),
    .claspAck ⟨0, zeros 16⟩ ((2 ^ 32) - 1),
    .claspNak ⟨0, zeros 16⟩ (256 - 1),
    .keepalive ⟨0, zeros 16⟩ (256 - 1),
    .pairSecret ((2 ^ 64) - 1) [],
    .handover req (zeros 16384),
    .appendStart req [] (zeros 16384),
    .wakePartner req (zeros 16384),
    .stayAwake req (zeros 16384),
    .bgnPromote (34 - 1),
    .bgnHold (34 - 1) false,
    .bgnFence (34 - 1),
    .bgnCoreCfgWrite (34 - 1) (64 - 1),
    .modadd (34 - 1) (256 - 1),
    .modsub (34 - 1) (256 - 1),
    .modmul (34 - 1) (256 - 1),
    .modexp (34 - 1) (256 - 1),
    .modexpPub (34 - 1) (256 - 1),
    .modinv (34 - 1) (256 - 1),
    .rsaCrt (34 - 1) (256 - 1),
    .mrRound (34 - 1) (256 - 1),
    .ecSmul (34 - 1) (256 - 1),
    .ecDsmul (34 - 1) (256 - 1),
    .ecAdd (34 - 1) (256 - 1),
    .ecdsaSign (34 - 1) (256 - 1),
    .ecdsaVerify (34 - 1) (256 - 1),
    .edSmul (34 - 1) (256 - 1),
    .xdh (34 - 1) (256 - 1),
    .bgnFwOpComplete (34 - 1),
    .latPromote (9 - 1),
    .latHold (9 - 1) false,
    .latFence (9 - 1),
    .mlkemEncaps (9 - 1) (256 - 1),
    .mldsaVerify (9 - 1) (256 - 1),
    .ntt (9 - 1) (256 - 1),
    .intt (9 - 1) (256 - 1),
    .pmul (9 - 1) (256 - 1),
    .keccak (9 - 1) (256 - 1),
    .latFwOpComplete (9 - 1),
    .laneLockAcquire (16 - 1) ((2 ^ 16) - 1) .secure,
    .laneLockRelease (16 - 1) .secure,
    .laneFwJobStart (16 - 1) .secure,
    .laneKeyClear (16 - 1) .secure,
    .laneFwJobComplete (16 - 1),
    .entropyWindowEnd (4 - 1),
    .healthTestFail (4 - 1) false,
    .startupTestPass (4 - 1)] : List Instr), WellFormed i = true := by
  decide +kernel

/-- The largest operands that fit are well formed. -/
theorem test_well_formed_3 : ∀ i ∈ ([
    .quarantineRetry (4 - 1),
    .drbgReseed (4 - 1),
    .drbgInstanceStall (4 - 1),
    .rngTestSelect (4 - 1) (16 - 1),
    .hallmarkExtend (8 - 1),
    .fwStorageKeyRequest false (256 - 1) (256 - 1) (16 - 1),
    .cardInsert (2 - 1),
    .cardRemove (2 - 1),
    .atrTimeout (2 - 1),
    .atrReceived (2 - 1) false false none,
    .selectResponse (2 - 1) ((2 ^ 16) - 1),
    .getInfoResponse (2 - 1) ((2 ^ 16) - 1) (16 - 1) [],
    .verifyPinResponse (2 - 1) ((2 ^ 16) - 1),
    .signStatementResponse (2 - 1) ((2 ^ 16) - 1) [],
    .cardSignatureVerified (2 - 1),
    .pinWrite req (2 - 1) (zeros 16384),
    .pinWaitTimeout (2 - 1),
    .signingTimeout (2 - 1),
    .cardDeactivate (2 - 1),
    .signetOpen req (zeros 16384),
    .signetCancel req (zeros 16384),
    .zeroiseArm req (zeros 16384),
    .wsw (4 - 1) ((2 ^ 40) - 1),
    .wret (4 - 1),
    .secureInterruptTaken (32 - 1) ((2 ^ 40) - 1),
    .worldSliceExpiry (32 - 1),
    .internalMasterAccess (8 - 1) (4 - 1) ((2 ^ 40 + 2 ^ 22) - 1) (4097 - 1) (16 - 1) [],
    .l2WaysWrite ((2 ^ 16) - 1),
    .copyDmaStart (4 - 1),
    .copyDmaStop (4 - 1),
    .copyDmaComplete (4 - 1),
    .clockMonitorWindow (4 - 1) 0,
    .clockShortCycle (4 - 1),
    .firmwareAlarmRaise (8 - 1),
    .vbatMeasure ((2 ^ 16) - 1) ((2 ^ 16) - 1),
    .loopsArm req (zeros 16384),
    .loopsDisarm req (zeros 16384),
    .responseRaise req (32 - 1) (zeros 16384),
    .lifecycleNext req (zeros 16384),
    .signerHashes req (4 - 1) (zeros 16384),
    .signerRevoke req (4 - 1) (zeros 16384),
    .svnFloor req (zeros 16384),
    .cosigRequired req (zeros 16384),
    .compatDisable req (zeros 16384),
    .provisionRun req (zeros 16384),
    .signer0 req (zeros 16384),
    .identityCertWrite req (zeros 16384),
    .dapRead ((2 ^ 40) - 1) (4097 - 1),
    .dapWrite ((2 ^ 40) - 1) (4097 - 1) [],
    .debugToken req (zeros 16384),
    .nextPulseTai req (zeros 16384),
    .todReset req (zeros 16384),
    .evrPostS (8 - 1) ((2 ^ 16) - 1),
    .evrPostN (8 - 1) ((2 ^ 16) - 1),
    .archiveRelease req (zeros 16384),
    .nextRecord req ((2 ^ 32) - 1) ((2 ^ 32) - 1),
    .mgpRxdTailWrite ((2 ^ 32) - 1),
    .read (8 - 1) [],
    .write (8 - 1) [] [],
    .close (8 - 1) []] : List Instr), WellFormed i = true := by
  decide +kernel

/-- The largest operands that fit are well formed. -/
theorem test_well_formed_4 : ∀ i ∈ ([
    .secureOdAccess (256 - 1) (256 - 1) [],
    .pueshIdleTimeout (8 - 1),
    .sessionCloseWrite req (8 - 1) (zeros 16384),
    .mgmtKeyGenerate req (zeros 16384),
    .mgmtCert req (zeros 16384),
    .napRequest req (zeros 16384),
    .sleepRequest req (zeros 16384),
    .vddAonLoss ((2 ^ 16) - 1),
    .gpioRisingEdge (8 - 1),
    .pwrLockWrite (4096 - 1),
    .nsGateClkOn (12 - 1),
    .nsGateClkOff (12 - 1),
    .nsGatePwrOn (12 - 1),
    .nsGatePwrOff (12 - 1),
    .pwrGateWrite .secure (12 - 1) false false,
    .gateTransitionComplete (12 - 1),
    .polishSequenceEnd false none,
    .registerWrite .secure ((2 ^ 40) - 1) ((2 ^ 32) - 1),
    .linkRateChange (33 - 1) (9 - 1),
    .dtlsHandshakeComplete (8 - 1) [],
    .dtlsAlert (8 - 1),
    .wfi (4 - 1)] : List Instr), WellFormed i = true := by
  decide +kernel

/-! ## Worked examples of the manual -/

/-- The bucket homes of the resize example of 08_object_store_and_scrambler.md. -/
theorem test_directory_homes : homeBucket 0xB7E151628AED2A6A 25 = 0x16FC2A2 ∧ homeBucket 0xB7E151628AED2A6A 26 = 0x2DF8545 ∧
    0xB7E151628AED2A6A / 2 ^ 52 = 2942 := by decide

/-- The handle of the worked encoding of 04_key_objects_and_command_formats.md. -/
theorem test_handle : mkHandle 1204 0x100019E27 = 0x4B40000100019E27 ∧ ownerOf 0x4B40000100019E27 = 1204 := by decide

/-- The general pool holds 545 RSA-2048 runs or 4,088 P-256 runs (14_key_ladder_and_settings.md). -/
theorem test_runs : poolSize / runLength 1 2048 = 545 ∧ poolSize / runLength 2 256 = 4088 := by decide

/-- The KEY_GENERATE entry written out in 04_key_objects_and_command_formats.md. -/
def workedEntry : Bytes :=
  [0x01, 0x01, 0x02, 0x00, 0x11, 0x0A, 0x00, 0x00] ++ zeros 28 ++ [0x41, 0x00, 0x00, 0x00] ++
  [0x00, 0x20, 0x10, 0x00, 0x3A, 0x7F, 0x00, 0x00] ++ zeros 8 ++ [0x02, 0x00, 0x00, 0x01] ++ zeros 4 ++
  [0x03, 0x00, 0x0C, 0x00] ++ zeros 12 ++ List.replicate 8 0xFF ++ zeros 4 ++ List.replicate 4 0xFF ++ zeros 32

/-- Its fields are those of the table there. -/
theorem test_key_generate_entry :
    let j := State.reset.newJob 5 7 workedEntry 0
    workedEntry.length = 128 ∧ j.op = 0x0101 ∧ j.durable = true ∧ j.tag = 0x0A11 ∧ j.outputCap = 65 ∧
    j.outputAddr = 0x7F3A00102000 ∧ j.inl 56 1 = 2 ∧ j.inl 58 2 = 256 ∧ j.policy.opMask = 0x000C0003 ∧
    j.policy.usageLimit = unlimited ∧ j.policy.notBefore = 0 ∧ j.policy.notAfter = noNotAfter := by decide +kernel

/-- The descriptor of the frame of 20_management_port_and_object_dictionary.md. -/
theorem test_mgp_descriptor : descriptor 51200123 false false false 108 0x0F3E = 0x407B0000406C0F3E#64 := by decide

/-- The frame of that example: its addresses first, the end of its tag last. -/
def workedFrame : Bytes :=
  [0x02, 0x57, 0x3C, 0x01, 0x88, 0xA2, 0x02, 0x1A, 0x7C, 0x00, 0x04, 0x31] ++ zeros 92 ++ [0x5C, 0x19, 0xA7, 0xE2]

/-- Its first and its last word as the FIFO window shows them. -/
theorem test_mgp_words :
    let s : State := { up with mgp := { up.mgp with next := 0x0F3E }.store workedFrame 108 }
    s.mgpWindow (0x10910000 + 0x79F0) = 0x1A02A288013C5702 ∧ s.mgpWindow (0x10910000 + 0x7A58) = 0x00000000E2A7195C := by decide +kernel

/-- The unit of the copy example of 16_worlds_and_bezel.md: region 12 over the start of shared SRAM, channel 2 set up. -/
def copyCase (service : Bool) : State :=
  let b := 0x10001000 + 0x40 * 12
  let m := [(b, 0x02000000#32), (b + 8, 0x0F01#32), (b + 0x20, 0x3F0F#32), (b + 0x24, 0x3707#32), (b + 0x38, 0x0400#32)]
  let s : State := { serving with worlds := { serving.worlds with bzl := m.foldl (fun t e => mset regReset t e.1 e.2) [] } }
  let s := (s.put (.WLD_DMAc_SRC_LO_ADDR 2) 0x02006000).put (.WLD_DMAc_DST_LO_ADDR 2) 0x02000F80
  (s.put (.WLD_DMAc_LEN_BYTES 2) 512).putBit .BZL_STATUS_MODE service

/-- Under SERVICE the first write straddles two facets: the fault registers read as in the example. -/
theorem test_copy_service :
    let t := nextOf (copyCase true) (exec (.copyDmaStart 2) (copyCase true))
    t.reg 0x10000028 = 0xAA80C0FF#32 ∧ t.reg 0x10000020 = 0x02000F80#32 ∧ t.bit (.WLD_DMAc_STATUS_ERR 2) = true := by decide +kernel

/-- Under BRINGUP facet 1 refuses the second write. -/
theorem test_copy_bringup :
    let t := nextOf (copyCase false) (exec (.copyDmaStart 2) (copyCase false))
    t.get .BZL_FAULT_INFO_KIND = 1 ∧ t.get .BZL_FAULT_INFO_FACET = 1 ∧ t.reg 0x10000020 = 0x02001080#32 := by decide +kernel

/-! ## The hypotheses of the statements are met -/

/-- What HostResetStops supposes holds of these states and operands. -/
theorem witness_HostResetStops :
    ({ State.reset.host with perstN := true }.perstN = true) ∧
    (State.reset.host.perstN = false) ∧
    (up.host.bme = true) := by
  decide +kernel

/-- What AdminMailboxRegisters supposes holds of these states and operands. -/
theorem witness_AdminMailboxRegisters :
    ((State.reset.putBit .HST_STATUS_ADMIN_READY true).bit .HST_STATUS_ADMIN_READY = true) ∧
    ((State.reset.putBit .HST_STATUS_ADMIN_READY true).bit .HST_AQ_CFG_ENABLE = false) ∧
    ((State.reset.putBit .HST_STATUS_ADMIN_READY true).bit .HST_AQ_STATUS_RUNNING = false) ∧
    (4 ≤ 12) ∧
    (12 ≤ 12) ∧
    (State.reset.bit .HST_STATUS_ADMIN_READY = false) ∧
    (15 < 2 ^ ((State.reset.put .HST_AQ_CFG_DEPTH_LOG2 4).wakeNap 1).get .HST_AQ_CFG_DEPTH_LOG2) ∧
    (15 < 4096) ∧
    (2 ^ ((State.reset.put .HST_AQ_CFG_DEPTH_LOG2 4).wakeNap 1).get .HST_AQ_CFG_DEPTH_LOG2 ≤ 16) ∧
    (∀ r ∈ State.reset.agent.replies, r.req.src ≠ .admin) := by
  decide +kernel

/-- What Doorbells supposes holds of these states and operands. -/
theorem witness_Doorbells :
    (1023 < 1024) ∧
    (((State.reset.modInst 1023 (fun i => { i with st := .enabled })).inst 1023).st = .enabled) ∧
    ((State.reset.modInst 1023 (fun i => { i with st := .enabled })).zeroised = false) ∧
    (15 < (State.reset.modInst 1023 (fun i => { i with st := .enabled })).depth 1023) ∧
    (0 < 1024) ∧
    (((State.reset.modInst 0 (fun i => { i with st := .enabled, cqWrite := 15 })).inst 0).st = .enabled) ∧
    ((State.reset.modInst 0 (fun i => { i with st := .enabled, cqWrite := 15 })).zeroised = false) ∧
    (15 < (State.reset.modInst 0 (fun i => { i with st := .enabled, cqWrite := 15 })).depth 0) ∧
    ((15 + 16 - 0) % 16 ≤ (15 + 16 - 0) % 16) ∧
    (7 < 1024) ∧
    ((State.reset.inst 7).st ≠ .enabled) ∧
    ((State.reset.modInst 1023 (fun i => { i with st := .enabled })).depth 1023 ≤ 16) ∧
    (((State.reset.modInst 0 (fun i => { i with st := .enabled })).inst 0).st = .enabled) ∧
    ((State.reset.modInst 0 (fun i => { i with st := .enabled })).zeroised = false) ∧
    (((State.reset.modInst 0 (fun i => { i with st := .enabled })).depth 0 ≤ 1 ∨ (0 + 16 - 0) % 16 < (1 + 16 - 0) % 16)) ∧
    (1024 ≤ 1024) := by
  decide +kernel

/-- What InstanceControl supposes holds of these states and operands. -/
theorem witness_InstanceControl :
    (1023 < 1024) ∧
    ((({ State.reset with strand := { State.reset.strand with clasp := some 1, role := .active } }.modInst 1023 (fun i => { i with st := .bound }))).passes { src := .admin, tag := 0, noIrq := false, durable := false, outAddr := 0, outCap := 0 } (0x2400 + 1023) 3 (le 2 0) = true) ∧
    (({ (State.reset.modInst 1023 (fun i => { i with st := .bound })) with strand := { State.reset.strand with clasp := some 1, role := .active }, host := { State.reset.host with bme := true, pasidEn := true } }.odStore 0x27FF 4 (some (le 4 1))
       |>.odStore 0x27FF 5 (some (le 8 0x1000)) |>.odStore 0x27FF 6 (some (le 8 0x2000))).passes { src := .admin, tag := 0, noIrq := false, durable := false, outAddr := 0, outCap := 0 } (0x2400 + 1023) 2 (le 1 1) = true) ∧
    ((({ (State.reset.modInst 1023 (fun i => { i with st := .bound })) with strand := { State.reset.strand with clasp := some 1, role := .active }, host := { State.reset.host with bme := true, pasidEn := true } }.odStore 0x27FF 4 (some (le 4 1))
       |>.odStore 0x27FF 5 (some (le 8 0x1000)) |>.odStore 0x27FF 6 (some (le 8 0x2000))).inst 1023).st = .bound) ∧
    (({ (State.reset.modInst 1023 (fun i => { i with st := .bound })) with strand := { State.reset.strand with clasp := some 1, role := .active }, host := { State.reset.host with bme := true, pasidEn := true } }.odStore 0x27FF 4 (some (le 4 1))
       |>.odStore 0x27FF 5 (some (le 8 0x1000)) |>.odStore 0x27FF 6 (some (le 8 0x2000))).enableOk 1023 = true) ∧
    (({ (State.reset.modInst 1023 (fun i => { i with st := .bound })) with strand := { State.reset.strand with clasp := some 1, role := .active }, host := { State.reset.host with bme := true, pasidEn := true } }.odStore 0x27FF 4 (some (le 4 1))
       |>.odStore 0x27FF 5 (some (le 8 0x1000)) |>.odStore 0x27FF 6 (some (le 8 0x2000))).configSealed 1023 = true) ∧
    ((({ (State.reset.modInst 1023 (fun i => { i with st := .bound })) with strand := { State.reset.strand with clasp := some 1, role := .active }, host := { State.reset.host with bme := true, pasidEn := true } }.odStore 0x27FF 4 (some (le 4 1))
       |>.odStore 0x27FF 5 (some (le 8 0x1000)) |>.odStore 0x27FF 6 (some (le 8 0x2000))).joinRec (({ (State.reset.modInst 1023 (fun i => { i with st := .bound })) with strand := { State.reset.strand with clasp := some 1, role := .active }, host := { State.reset.host with bme := true, pasidEn := true } }.odStore 0x27FF 4 (some (le 4 1))
       |>.odStore 0x27FF 5 (some (le 8 0x1000)) |>.odStore 0x27FF 6 (some (le 8 0x2000))).writeRec { src := .admin, tag := 0, noIrq := false, durable := false, outAddr := 0, outCap := 0 } 0x27FF 8 1 [16, 0] [] none)).2.passes { src := .admin, tag := 0, noIrq := false, durable := false, outAddr := 0, outCap := 0 } (0x2400 + 1023) 2 (le 1 1) = true) ∧
    (((({ (State.reset.modInst 1023 (fun i => { i with st := .bound })) with strand := { State.reset.strand with clasp := some 1, role := .active }, host := { State.reset.host with bme := true, pasidEn := true } }.odStore 0x27FF 4 (some (le 4 1))
       |>.odStore 0x27FF 5 (some (le 8 0x1000)) |>.odStore 0x27FF 6 (some (le 8 0x2000))).joinRec (({ (State.reset.modInst 1023 (fun i => { i with st := .bound })) with strand := { State.reset.strand with clasp := some 1, role := .active }, host := { State.reset.host with bme := true, pasidEn := true } }.odStore 0x27FF 4 (some (le 4 1))
       |>.odStore 0x27FF 5 (some (le 8 0x1000)) |>.odStore 0x27FF 6 (some (le 8 0x2000))).writeRec { src := .admin, tag := 0, noIrq := false, durable := false, outAddr := 0, outCap := 0 } 0x27FF 8 1 [16, 0] [] none)).2.inst 1023).st = .bound) ∧
    ((({ (State.reset.modInst 1023 (fun i => { i with st := .bound })) with strand := { State.reset.strand with clasp := some 1, role := .active }, host := { State.reset.host with bme := true, pasidEn := true } }.odStore 0x27FF 4 (some (le 4 1))
       |>.odStore 0x27FF 5 (some (le 8 0x1000)) |>.odStore 0x27FF 6 (some (le 8 0x2000))).joinRec (({ (State.reset.modInst 1023 (fun i => { i with st := .bound })) with strand := { State.reset.strand with clasp := some 1, role := .active }, host := { State.reset.host with bme := true, pasidEn := true } }.odStore 0x27FF 4 (some (le 4 1))
       |>.odStore 0x27FF 5 (some (le 8 0x1000)) |>.odStore 0x27FF 6 (some (le 8 0x2000))).writeRec { src := .admin, tag := 0, noIrq := false, durable := false, outAddr := 0, outCap := 0 } 0x27FF 8 1 [16, 0] [] none)).2.enableOk 1023 = true) ∧
    ((({ (State.reset.modInst 1023 (fun i => { i with st := .bound })) with strand := { State.reset.strand with clasp := some 1, role := .active }, host := { State.reset.host with bme := true, pasidEn := true } }.odStore 0x27FF 4 (some (le 4 1))
       |>.odStore 0x27FF 5 (some (le 8 0x1000)) |>.odStore 0x27FF 6 (some (le 8 0x2000))).joinRec (({ (State.reset.modInst 1023 (fun i => { i with st := .bound })) with strand := { State.reset.strand with clasp := some 1, role := .active }, host := { State.reset.host with bme := true, pasidEn := true } }.odStore 0x27FF 4 (some (le 4 1))
       |>.odStore 0x27FF 5 (some (le 8 0x1000)) |>.odStore 0x27FF 6 (some (le 8 0x2000))).writeRec { src := .admin, tag := 0, noIrq := false, durable := false, outAddr := 0, outCap := 0 } 0x27FF 8 1 [16, 0] [] none)).2.configSealed 1023 = false) ∧
    (0 < 1024) ∧
    ((State.reset.modInst 0 (fun i => { i with st := .bound })).passes { src := .admin, tag := 0, noIrq := false, durable := false, outAddr := 0, outCap := 0 } (0x2400 + 0) 2 (le 1 1) = true) ∧
    (((State.reset.modInst 0 (fun i => { i with st := .bound })).inst 0).st = .bound) ∧
    ((State.reset.modInst 0 (fun i => { i with st := .bound })).enableOk 0 = false) ∧
    ((State.reset.modInst 0 (fun i => { i with st := .draining })).passes { src := .admin, tag := 0, noIrq := false, durable := false, outAddr := 0, outCap := 0 } (0x2400 + 0) 2 (le 1 1) = true) ∧
    (((State.reset.modInst 0 (fun i => { i with st := .draining })).inst 0).st = .draining) ∧
    ((State.reset.modInst 0 (fun i => { i with st := .enabled })).passes { src := .admin, tag := 0, noIrq := false, durable := false, outAddr := 0, outCap := 0 } (0x2400 + 0) 2 (le 1 1) = true) ∧
    (((State.reset.modInst 0 (fun i => { i with st := .enabled })).inst 0).st ≠ .bound) ∧
    (((State.reset.modInst 0 (fun i => { i with st := .enabled })).inst 0).st ≠ .draining) ∧
    ((State.reset.modInst 0 (fun i => { i with st := .bound })).passes { src := .admin, tag := 0, noIrq := false, durable := false, outAddr := 0, outCap := 0 } (0x2400 + 0) 2 (le 1 2) = true) ∧
    ((State.reset.modInst 0 (fun i => { i with st := .enabled })).passes { src := .admin, tag := 0, noIrq := false, durable := false, outAddr := 0, outCap := 0 } (0x2400 + 0) 2 (le 1 2) = true) ∧
    ((((State.reset.modInst 0 (fun i => { i with st := .enabled })).inst 0).st = .enabled ∨ ((State.reset.modInst 0 (fun i => { i with st := .enabled })).inst 0).st = .faulted)) ∧
    ((State.reset.modInst 0 (fun i => { i with st := .enablePending })).passes { src := .admin, tag := 0, noIrq := false, durable := false, outAddr := 0, outCap := 0 } (0x2400 + 0) 2 (le 1 2) = true) ∧
    (((State.reset.modInst 0 (fun i => { i with st := .enablePending })).inst 0).st = .enablePending) ∧
    ((State.reset.modInst 0 (fun i => { i with st := .draining })).passes { src := .admin, tag := 0, noIrq := false, durable := false, outAddr := 0, outCap := 0 } (0x2400 + 0) 2 (le 1 2) = true) ∧
    ((((State.reset.modInst 0 (fun i => { i with st := .draining })).inst 0).st = .unbound ∨ ((State.reset.modInst 0 (fun i => { i with st := .draining })).inst 0).st = .draining)) ∧
    ((State.reset.modInst 5 (fun i => { i with st := .draining })).drained 5 = true) ∧
    ((((State.reset.modInst 5 (fun i => { i with st := .draining })).inst 5).st = .draining ∨
      ((State.reset.modInst 5 (fun i => { i with st := .draining })).inst 5).st = .enablePending)) ∧
    (State.reset.drained 5 = false ∨ ((State.reset.inst 5).st ≠ .draining ∧ (State.reset.inst 5).st ≠ .enablePending)) ∧
    (0xFFFFFFFE < 0xFFFFFFFF) := by
  decide +kernel

/-- What SubmissionFetch supposes holds of these states and operands. -/
theorem witness_SubmissionFetch :
    ((up.modInst 5 (fun i => { i with st := .enabled, sqTail := 3 })).fetching = true) ∧
    (nextAfter (up.modInst 5 (fun i => { i with st := .enabled, sqTail := 3 })).host.fetchTurn (mkeys (up.modInst 5 (fun i => { i with st := .enabled, sqTail := 3 })).insts (fun n _ => (up.modInst 5 (fun i => { i with st := .enabled, sqTail := 3 })).wantsFetch n)) = some 5) ∧
    ((up.modInst 5 (fun i => { i with st := .enabled, sqTail := 3 })).freeEntries.take (min 32 (min ((up.modInst 5 (fun i => { i with st := .enabled, sqTail := 3 })).specDepth 5 - ((up.modInst 5 (fun i => { i with st := .enabled, sqTail := 3 })).instJobs 5).length) ((up.modInst 5 (fun i => { i with st := .enabled, sqTail := 3 })).eligible 5))) = [0, 1, 2]) ∧
    ((up.modInst 5 (fun i => { i with st := .enabled, sqTail := 3 })).host.bme = true) ∧
    (State.reset.fetching = false ∨ nextAfter State.reset.host.fetchTurn (mkeys State.reset.insts (fun n _ => State.reset.wantsFetch n)) = none) ∧
    ((({ (up.modInst 5 (fun i => { i with st := .enabled, sqTail := 3 })) with insts := ((up.modInst 5 (fun i => { i with st := .enabled, sqTail := 3 })).modInst 5 (fun i => { i with fetchRead := [0, 1, 2] })).insts }).inst 5).fetchRead ≠ []) ∧
    ((DmaResult.timeout, 3) ∈ [(DmaResult.urOrCa, 1), (.poisoned, 2), (.timeout, 3)]) ∧
    ((State.reset.inst 5).fetchRead = []) ∧
    ((State.reset.inst 5).readsOut = 0) ∧
    (((State.reset.modInst 5 (fun i => { i with readsOut := 2 })).inst 5).readsOut ≠ 0) := by
  decide +kernel

/-- What OperandReads supposes in a clause holds of a state. -/
theorem witness_OperandReads_1 :
    State.reset.job 7 = none ∨ ∃ j, State.reset.job 7 = some j ∧ j.reads = 0 := by
  exact .inl (by decide +kernel)

/-- What OperandReads supposes holds of these states and operands. -/
theorem witness_OperandReads :
    ((State.reset.setJob 7 (some { (jobOf 0x0101) with reads := 1 })).job 7 = some { (jobOf 0x0101) with reads := 1 }) ∧
    ((jobOf 0x0101).op ≠ opOwnerApprove) ∧
    ((State.reset.setJob 7 (some { jobOf opOwnerApprove with reads := 1 })).job 7 = some { jobOf opOwnerApprove with reads := 1 }) ∧
    ((jobOf opOwnerApprove).op = opOwnerApprove) ∧
    (DmaResult.poisoned ∈ [DmaResult.urOrCa, .poisoned, .timeout]) ∧
    (((((up.putBit .HST_AQ_STATUS_RUNNING true).putBit .HST_AQ_CFG_ENABLE true).put .HST_AQ_CFG_DEPTH_LOG2 4).put .HST_AQ_SQ_TAIL_TAIL 1).adminEligible = true) ∧
    (State.reset.adminEligible = false) := by
  decide +kernel

/-- What EndOfAJob supposes holds of these states and operands. -/
theorem witness_EndOfAJob :
    ((State.reset.setJob 7 (some (jobOf 0x0101))).job 7 = some (jobOf 0x0101)) ∧
    ((jobOf 0x0101).stamp = none) ∧
    ((State.reset.setJob 7 (some (jobOf 0x0101))).leaseOver = false) ∧
    ((jobOf 0x0101).deps = []) ∧
    ((State.reset.setJob 7 (some { (jobOf 0x0101) with deps := [3] })).job 7 = some { (jobOf 0x0101) with deps := [3] }) ∧
    ({ (jobOf 0x0101) with deps := [3] }.deps ≠ []) ∧
    ((({ State.reset with strand := { State.reset.strand with clasp := some 1, lease := 0 } }).setJob 7 (some (jobOf 0x0101))).job 7 = some (jobOf 0x0101)) ∧
    ((({ State.reset with strand := { State.reset.strand with clasp := some 1, lease := 0 } }).setJob 7 (some (jobOf 0x0101))).leaseOver = true) ∧
    ((State.reset.setJob 7 (some { (jobOf 0x0101) with stamp := some State.reset.now })).job 7 = some { (jobOf 0x0101) with stamp := some State.reset.now }) ∧
    (State.reset.job 7 = none) := by
  decide +kernel

/-- What AdminCommands supposes holds of these states and operands. -/
theorem witness_AdminCommands :
    (((((up.putBit .HST_AQ_STATUS_RUNNING true).putBit .HST_AQ_CFG_ENABLE true).put .HST_AQ_CFG_DEPTH_LOG2 4).put .HST_AQ_SQ_TAIL_TAIL 1).adminEligible = true) ∧
    (fieldLE (padTo 128 (le 2 0x0F01 ++ zeros 34 ++ le 4 64 ++ le 8 0x10000 ++ zeros 8 ++ le 2 0x1000 ++ zeros 70)) 0 2 = 0x0F01) ∧
    (adminFault (padTo 128 (le 2 0x0F01 ++ zeros 34 ++ le 4 64 ++ le 8 0x10000 ++ zeros 8 ++ le 2 0x1000 ++ zeros 70)) true = none) ∧
    (fieldLE (padTo 128 (le 2 0x0F02 ++ zeros 126)) 0 2 = 0x0F02) ∧
    (((((up.putBit .HST_AQ_STATUS_RUNNING true).putBit .HST_AQ_CFG_ENABLE true).put .HST_AQ_CFG_DEPTH_LOG2 4).put .HST_AQ_SQ_TAIL_TAIL 1).zeroised = false) ∧
    (adminFault (padTo 128 (le 2 0x0F02 ++ zeros 126)) false = none) ∧
    (adminFault (padTo 128 (le 2 0x0F01 ++ zeros 126)) true = some 0x1102) ∧
    (adminFault (padTo 128 (le 2 0x0F02 ++ [8#8])) false = some 0x0701) ∧
    (((((up.putBit .HST_AQ_STATUS_RUNNING true).putBit .HST_AQ_CFG_ENABLE true).put .HST_AQ_CFG_DEPTH_LOG2 4).put .HST_AQ_SQ_TAIL_TAIL 1).host.bme = true) ∧
    (128 ≤ ((((up.putBit .HST_AQ_STATUS_RUNNING true).putBit .HST_AQ_CFG_ENABLE true).put .HST_AQ_CFG_DEPTH_LOG2 4).put .HST_AQ_SQ_TAIL_TAIL 1).host.maxRead) ∧
    ((((((up.putBit .HST_AQ_STATUS_RUNNING true).putBit .HST_AQ_CFG_ENABLE true).put .HST_AQ_CFG_DEPTH_LOG2 4).put .HST_AQ_SQ_TAIL_TAIL 1).putBit .ALM_STATUS_ZEROISED true).adminEligible = true) ∧
    ((((((up.putBit .HST_AQ_STATUS_RUNNING true).putBit .HST_AQ_CFG_ENABLE true).put .HST_AQ_CFG_DEPTH_LOG2 4).put .HST_AQ_SQ_TAIL_TAIL 1).putBit .ALM_STATUS_ZEROISED true).zeroised = true) ∧
    (State.reset.adminEligible = false) ∧
    (fieldLE (padTo 128 (le 2 0x0F02 ++ zeros 126)) 0 2 ≠ 0x0F01) ∧
    (fieldLE (padTo 128 (le 2 0x0F01 ++ zeros 34 ++ le 4 64 ++ le 8 0x10000 ++ zeros 8 ++ le 2 0x1000 ++ zeros 70)) 0 2 ≠ 0x0F02) ∧
    (2047 < 2048) ∧
    (2048 ≤ 2048) := by
  decide +kernel

/-- What RateAdmission supposes in a clause holds of a state. -/
theorem witness_RateAdmission_1 :
    ∀ j, serving.job 7 = some j → j.waitsRate = false ∨ serving.throttled = true ∨ serving.ratePasses j = false := by
  intro j hj; have e : serving.job 7 = none := by decide +kernel
  rw [e] at hj; cases hj

/-- What RateAdmission supposes in a clause holds of a state. -/
theorem witness_RateAdmission_2 :
    ∀ j, serving.job 7 = some j → j.waitsRate = false ∨ (serving.rateNever j = false ∧ (j.refills < j.waitLimit ∨ serving.bucketHolds j = true)) := by
  intro j hj; have e : serving.job 7 = none := by decide +kernel
  rw [e] at hj; cases hj

/-- What RateAdmission supposes holds of these states and operands. -/
theorem witness_RateAdmission :
    ((((withJob (jobOf 0x0101)).modSched 5 (fun _ => { Sched.init with rate := List.replicate 9 10, burst := List.replicate 9 4000, level := List.replicate 9 1024000 }))).job 7 = some (jobOf 0x0101)) ∧
    ((jobOf 0x0101).waitsRate = true) ∧
    ((((withJob (jobOf 0x0101)).modSched 5 (fun _ => { Sched.init with rate := List.replicate 9 10, burst := List.replicate 9 4000, level := List.replicate 9 1024000 }))).throttled = false) ∧
    (((withJob (jobOf 0x0101)).modSched 5 (fun _ => { Sched.init with rate := List.replicate 9 10, burst := List.replicate 9 4000, level := List.replicate 9 1024000 })).ratePasses (jobOf 0x0101) = true) ∧
    (((withJob (jobOf 0x0101)).modSched 5 (fun _ => { Sched.init with rate := List.replicate 9 10, burst := List.replicate 9 4000, level := List.replicate 9 1024000 })).unlimitedRate (jobOf 0x0101) = false) ∧
    ((((withJob (jobOf 0x0101)).modSched 5 (fun _ => { Sched.init with rate := List.replicate 9 0xFFFFFFFF, burst := List.replicate 9 4000, level := List.replicate 9 0 }))).job 7 = some (jobOf 0x0101)) ∧
    ((((withJob (jobOf 0x0101)).modSched 5 (fun _ => { Sched.init with rate := List.replicate 9 0xFFFFFFFF, burst := List.replicate 9 4000, level := List.replicate 9 0 }))).throttled = false) ∧
    (((withJob (jobOf 0x0101)).modSched 5 (fun _ => { Sched.init with rate := List.replicate 9 0xFFFFFFFF, burst := List.replicate 9 4000, level := List.replicate 9 0 })).ratePasses (jobOf 0x0101) = true) ∧
    (((withJob (jobOf 0x0101)).modSched 5 (fun _ => { Sched.init with rate := List.replicate 9 0xFFFFFFFF, burst := List.replicate 9 4000, level := List.replicate 9 0 })).unlimitedRate (jobOf 0x0101) = true) ∧
    (((withJob (jobOf 0x0101)).modSched 5 (fun _ => { Sched.init with rate := List.replicate 9 0, burst := List.replicate 9 4000, level := List.replicate 9 1024000 })).job 7 = some (jobOf 0x0101)) ∧
    ((((withJob (jobOf 0x0101)).modSched 5 (fun _ => { Sched.init with rate := List.replicate 9 0, burst := List.replicate 9 4000, level := List.replicate 9 1024000 })).rateNever (jobOf 0x0101) = true ∨ ((jobOf 0x0101).waitLimit ≤ (jobOf 0x0101).refills ∧ ((withJob (jobOf 0x0101)).modSched 5 (fun _ => { Sched.init with rate := List.replicate 9 0, burst := List.replicate 9 4000, level := List.replicate 9 1024000 })).bucketHolds (jobOf 0x0101) = false))) := by
  decide +kernel

/-- What LocketAdmission supposes in a clause holds of a state. -/
theorem witness_LocketAdmission_1 :
    ∀ j, serving.job 7 = some j → j.stage ≠ .preparing ∨ j.looked = true ∨ j.namesObject = false ∨ j.stamp.isSome = true ∨
        j.squash = true ∨ j.forced.isSome = true ∨ j.destroyWait ≠ [] := by
  intro j hj; have e : serving.job 7 = none := by decide +kernel
  rw [e] at hj; cases hj

/-- What LocketAdmission supposes in a clause holds of a state. -/
theorem witness_LocketAdmission_2 :
    ∀ j, serving.job 7 = some j → j.unsealing = [] := by
  intro j hj; have e : serving.job 7 = none := by decide +kernel
  rw [e] at hj; cases hj

/-- What LocketAdmission supposes holds of these states and operands. -/
theorem witness_LocketAdmission :
    ((withJob ({ jobOf 0x0101 with rateAdmitted := true })).noteHolds.halted = false) ∧
    ((withJob ({ jobOf 0x0101 with rateAdmitted := true })).noteHolds.zeroised = false) ∧
    ((withJob ({ jobOf 0x0101 with rateAdmitted := true })).noteHolds.admissionTurn = some 5) ∧
    (((withJob ({ jobOf 0x0101 with rateAdmitted := true })).noteHolds.nextAdmission 5).map (·.1) = some 7) ∧
    (((withJob ({ jobOf 0x0101 with rateAdmitted := true })).noteHolds.admitChecks ({ jobOf 0x0101 with rateAdmitted := true })).1 = none) ∧
    ((withJob ({ jobOf 0x0101 with rateAdmitted := true })).noteHolds.granulesInUse + ({ jobOf 0x0101 with rateAdmitted := true }).granules ≤ 16384) ∧
    (State.reset.noteHolds.halted = true ∨ State.reset.noteHolds.zeroised = true ∨ State.reset.noteHolds.admissionTurn = none) ∧
    ({ withJob ({ jobOf 0x0101 with rateAdmitted := true }) with locket := { serving.locket with granHeld := some 5 } }.admits 5 = true) ∧
    (5 ∈ (withJob ({ jobOf 0x0101 with rateAdmitted := true })).jobList.map (fun e => e.2.inst)) ∧
    (({ jobOf 0x0201 with stage := .preparing, entry := padTo 128 (le 8 0x0201 ++ le 8 0x0000000100000001), primary := 0x0000000100000001 }).namesObject = true) ∧
    (isReference ({ jobOf 0x0201 with stage := .preparing, entry := padTo 128 (le 8 0x0201 ++ le 8 0x0000000100000001), primary := 0x0000000100000001 }).primary = false) ∧
    (isReference 0xFFFFFFFF00000001 = true) ∧
    ((withJob { jobOf 0x0201 with stage := .preparing, entry := padTo 128 (le 8 0x0201 ++ le 8 0x0000000100000001), primary := 0x0000000100000001 }).job 7 = some { jobOf 0x0201 with stage := .preparing, entry := padTo 128 (le 8 0x0201 ++ le 8 0x0000000100000001), primary := 0x0000000100000001 }) ∧
    (({ jobOf 0x0201 with stage := .preparing, entry := padTo 128 (le 8 0x0201 ++ le 8 0x0000000100000001), primary := 0x0000000100000001 }).destroyWait = []) ∧
    ((withJob { jobOf 0x0201 with unsealing := [5], primary := 6 }).job 7 = some { jobOf 0x0201 with unsealing := [5], primary := 6 }) ∧
    (((withJob (jobOf 0x0201)).findRun 5 5).isSome = false) ∧
    ((jobOf 0x0201).second = none) := by
  decide +kernel

/-- What EngineWork supposes in a clause holds of a state. -/
theorem witness_EngineWork_1 :
    Engine.rng = .rng ∨ Engine.rng = .none ∨ serving.pick .rng = none ∨ (∀ id s', serving.pick .rng = some (id, s') → s'.job id = none ∨ ∃ j, s'.job id = some j ∧ s'.freeUnit .rng j [] = none) := by
  exact .inl rfl

/-- What EngineWork supposes in a clause holds of a state. -/
theorem witness_EngineWork_2 :
    ∀ j, serving.job 7 = some j → j.ended = true ∨ serving.halted = true ∨ (j.onLane = true ∧ j.stage = .denying) := by
  intro j hj; have e : serving.job 7 = none := by decide +kernel
  rw [e] at hj; cases hj

/-- What EngineWork supposes in a clause holds of a state. -/
theorem witness_EngineWork_3 :
    ∀ j, serving.job 7 = some j → j.ended = true ∨ serving.halted = true ∨ j.onLane = false ∨ j.stage ≠ .denying := by
  intro j hj; have e : serving.job 7 = none := by decide +kernel
  rw [e] at hj; cases hj

/-- What EngineWork supposes holds of these states and operands. -/
theorem witness_EngineWork :
    (((withJob { jobAt 0x0401 .preparing with need := ⟨false, false, false, false, false⟩, plan := some (planOf .sym), steps := [(.sym, 100)] }).pick .sym).any (fun p => (p.2.job p.1).any (fun j => (p.2.freeUnit .sym j []) == some 0)) = true) ∧
    (((withJob { jobAt 0x0401 .preparing with need := ⟨false, false, false, false, false⟩, plan := some (planOf .sym), steps := [(.sym, 100)] }).stepRun { jobAt 0x0401 .preparing with need := ⟨false, false, false, false, false⟩, plan := some (planOf .sym), steps := [(.sym, 100)] } .sym).isNone = true) ∧
    ((withJob { jobAt 0x0401 .preparing with need := ⟨false, false, false, false, false⟩, plan := some (planOf .sym), steps := [(.sym, 100)] }).runLost { jobAt 0x0401 .preparing with need := ⟨false, false, false, false, false⟩, plan := some (planOf .sym), steps := [(.sym, 100)] } .sym = false) ∧
    ((withJob { jobOf 0x0101 with stage := .running, unit := some (.big, 0), steps := [(.big, 100)] }).job 7 =
       some { jobOf 0x0101 with stage := .running, unit := some (.big, 0), steps := [(.big, 100)] }) ∧
    ((withJob { jobOf 0x0101 with stage := .running, unit := some (.big, 0), steps := [(.big, 100)] }).halted = false) ∧
    (({ jobOf 0x0101 with stage := .running, unit := some (.big, 0), steps := [(.big, 100)] }).onLane = false) ∧
    ((withJob (jobOf 0x0101)).mayStream { jobOf 0x0101 with stage := .running, unit := some (.big, 0), steps := [(.big, 100)] } = false) ∧
    (({ jobOf 0x0401 with stage := .denying, unit := some (.sym, 0), steps := [(.sym, 100)] }).onLane = true) ∧
    ({ jobAt 0x0201 .running with unit := some (.big, 0), steps := [(.big, 100), (.sym, 50)] }.unit = some (.big, 0)) ∧
    ([((Engine.sym, 50) : Engine × Nat)] ≠ []) ∧
    ({ jobAt 0x0201 .running with unit := some (.big, 0), steps := [(.big, 100)], plan := some (planOf .big) }.steps = [(.big, 100)]) ∧
    (Engine.big ≠ .sym) ∧
    ((jobOf 0x0101).unit = none ∨ (jobOf 0x0101).steps = []) := by
  decide +kernel

/-- What PolicyDecisions supposes in a clause holds of a state. -/
theorem witness_PolicyDecisions_1 :
    ∀ j, serving.job 7 = some j → j.policyOpen = false := by
  intro j hj; have e : serving.job 7 = none := by decide +kernel
  rw [e] at hj; cases hj

/-- What PolicyDecisions supposes in a clause holds of a state. -/
theorem witness_PolicyDecisions_2 :
    ∀ j t, serving.job 7 = some j → j.fwPosted = some t → serving.time.tick < t + serving.get .LKT_POL_CFG_TIMEOUT := by
  intro j t hj; have e : serving.job 7 = none := by decide +kernel
  rw [e] at hj; cases hj

/-- What PolicyDecisions supposes in a clause holds of a state. -/
theorem witness_PolicyDecisions_3 :
    ∀ j, serving.job 7 = some j → j.looked = false ∨ j.need.approval = false ∨ j.got.approval = true ∨ j.stamp.isSome = true ∨
        serving.odNat (0x4000 + serving.boundOwner j.inst) 0x18 0 = 0 ∨ serving.time.tick < j.fetchTick + serving.odNat (0x4000 + serving.boundOwner j.inst) 0x18 0 := by
  intro j hj; have e : serving.job 7 = none := by decide +kernel
  rw [e] at hj; cases hj

/-- What PolicyDecisions supposes holds of these states and operands. -/
theorem witness_PolicyDecisions :
    (({ jobOf 0x0101 with stage := .preparing, looked := true, need := ⟨true, true, true, true, true⟩ }).policyOpen = true) ∧
    (serving.policyFault { jobOf 0x0101 with stage := .preparing, looked := true, need := ⟨true, true, true, true, true⟩ } = some 0x0104) ∧
    (serving.policyFault { jobOf 0x0201 with stage := .preparing, looked := true, need := ⟨true, true, true, true, true⟩ } = none) ∧
    ((withJob (jobAt 0x0201 .preparing)).job 7 = some (jobAt 0x0201 .preparing)) ∧
    ((jobAt 0x0201 .preparing).policyOpen = true) ∧
    ((jobAt 0x0201 .preparing).fwDecided = true) ∧
    ((withJob (jobAt 0x0201 .preparing)).policyFault (jobAt 0x0201 .preparing) = none) ∧
    ((withJob (jobAt 0x0201 .preparing)).polRoom = false) ∧
    (((withJob (jobAt 0x0201 .preparing)).stampTests (jobAt 0x0201 .preparing)).find? (fun r => r == .denied 0x0102 || r == .timeUnknown) = none) ∧
    ((((withJob (jobAt 0x0201 .preparing)).putBit .LKT_POL_CFG_RING_EN true).put .LKT_POL_RING_DEPTH_DEPTH_LOG2 4).polRoom = true) ∧
    (((((withJob { jobOf 0x0201 with stage := .preparing, looked := true, fwSent := true, seqNo := 3, need := ⟨true, true, true, true, true⟩ }).job 7).map
       (fun j => j.awaits 3)).getD false) = true) ∧
    (((serving.job 7).map (fun j => j.awaits 3)).getD false = false) ∧
    ({ serving.time with tick := 100000 }.tick ≥ 0 + serving.get .LKT_POL_CFG_TIMEOUT) ∧
    (({ jobOf 0x0201 with stage := .preparing, looked := true, fwPosted := some 0, need := ⟨true, true, true, true, true⟩ }).policyOpen = true) ∧
    ((serving.odStore 0x4000 0x18 (some (le 4 1))).boundOwner 5 = 0) ∧
    ((serving.odStore 0x4000 0x18 (some (le 4 1))).odNat 0x4000 0x18 0 = 1) := by
  decide +kernel

/-- What UsageAndRelease supposes in a clause holds of a state. -/
theorem witness_UsageAndRelease_1 :
    ∀ o, serving.committedObj 9 = some o → serving.usageWanted 9 = false ∨ (∃ b, (serving.usageOf o).blockBead = some b ∧ serving.strand.durable < b) ∨
        (serving.usageOf o).pendingEnd.isSome = true ∨ serving.strandOpen = false := by
  intro j hj; have e : serving.committedObj 9 = none := by decide +kernel
  rw [e] at hj; cases hj

/-- What UsageAndRelease supposes in a clause holds of a state. -/
theorem witness_UsageAndRelease_2 :
    ∀ j, serving.job 7 = some j → serving.mayRelease 7 j = false := by
  intro j hj; have e : serving.job 7 = none := by decide +kernel
  rw [e] at hj; cases hj

/-- What UsageAndRelease supposes holds of these states and operands. -/
theorem witness_UsageAndRelease :
    (({ serving.setObj 9 (some (keyObj 9)) with jobs := (withJob (jobAt 0x0201 .preparing)).jobs }).strandOpen = true) ∧
    (({ serving.setObj 9 (some (keyObj 9)) with jobs := (withJob (jobAt 0x0201 .preparing)).jobs }).committedObj 9 = some (keyObj 9)) ∧
    (({ serving.setObj 9 (some (keyObj 9)) with jobs := (withJob { jobAt 0x0201 .preparing with primary := 9 }).jobs }).usageWanted 9 = true) ∧
    ((serving.usageOf (keyObj 9)).pendingEnd = none) ∧
    ((serving.usageOf (keyObj 9)).blockBead = none) ∧
    (({ withJob (jobOf 0x0201) with jobs := [] }.setJob 7 (some { jobOf 0x0201 with stage := .releasing, stamp := some State.reset.now })).mayRelease 7
       { jobOf 0x0201 with stage := .releasing, stamp := some State.reset.now } = true) ∧
    (up.host.bme = true) := by
  decide +kernel

/-- What MeterRing supposes holds of these states and operands. -/
theorem witness_MeterRing :
    (serving.bit .HST_MTR_CFG_ENABLE = false) ∧
    (4 ≤ 15) ∧
    (15 ≤ 15) ∧
    (serving.bit .HST_MTR_CFG_ENABLE = true ∨ 16 < 4 ∨ 15 < 16) ∧
    (3 < (((serving.putBit .HST_MTR_STATUS_RUNNING true).put .HST_MTR_CFG_DEPTH_LOG2 4).put .HST_MTR_TAIL_TAIL 3).meterDepth) ∧
    ((3 + (((serving.putBit .HST_MTR_STATUS_RUNNING true).put .HST_MTR_CFG_DEPTH_LOG2 4).put .HST_MTR_TAIL_TAIL 3).meterDepth - (((serving.putBit .HST_MTR_STATUS_RUNNING true).put .HST_MTR_CFG_DEPTH_LOG2 4).put .HST_MTR_TAIL_TAIL 3).get .HST_MTR_HEAD_HEAD) % (((serving.putBit .HST_MTR_STATUS_RUNNING true).put .HST_MTR_CFG_DEPTH_LOG2 4).put .HST_MTR_TAIL_TAIL 3).meterDepth ≤ ((((serving.putBit .HST_MTR_STATUS_RUNNING true).put .HST_MTR_CFG_DEPTH_LOG2 4).put .HST_MTR_TAIL_TAIL 3).get .HST_MTR_TAIL_TAIL + (((serving.putBit .HST_MTR_STATUS_RUNNING true).put .HST_MTR_CFG_DEPTH_LOG2 4).put .HST_MTR_TAIL_TAIL 3).meterDepth - (((serving.putBit .HST_MTR_STATUS_RUNNING true).put .HST_MTR_CFG_DEPTH_LOG2 4).put .HST_MTR_TAIL_TAIL 3).get .HST_MTR_HEAD_HEAD) % (((serving.putBit .HST_MTR_STATUS_RUNNING true).put .HST_MTR_CFG_DEPTH_LOG2 4).put .HST_MTR_TAIL_TAIL 3).meterDepth) ∧
    ((((serving.putBit .HST_MTR_STATUS_RUNNING true).put .HST_MTR_CFG_DEPTH_LOG2 4).put .HST_MTR_TAIL_TAIL 3).meterDepth ≤ 16) ∧
    (serving.offerSplits.meters.closing = []) ∧
    (serving.host.bme = true) := by
  decide +kernel

/-- What TickIncrement supposes holds of these states and operands. -/
theorem witness_TickIncrement :
    (({ serving with time := { serving.time with ppsLock := true, everLocked := true, tick := 1500, boundaryTick := 1000 } }).mainRuns = true) ∧
    ((({ serving with time := { serving.time with ppsLock := true, everLocked := true, tick := 1500, boundaryTick := 1000 } }).time.ppsLock && decide (({ serving with time := { serving.time with ppsLock := true, everLocked := true, tick := 1500, boundaryTick := 1000 } }).time.tick - ({ serving with time := { serving.time with ppsLock := true, everLocked := true, tick := 1500, boundaryTick := 1000 } }).time.boundaryTick ≥ 999)) = false) ∧
    (State.reset.mainRuns = false) ∧
    (0 < Sched.init.level.length) ∧
    (0 < Sched.init.rate.length) ∧
    (0 < Sched.init.burst.length) := by
  decide +kernel

/-- What Pulse supposes holds of these states and operands. -/
theorem witness_Pulse :
    (serving.mainRuns = true) ∧
    (serving.time.ppsLock = false) ∧
    (serving.time.candidates = 0) ∧
    (({ serving with time := { serving.time with ppsLock := true, everLocked := true, tick := 1999, boundaryTick := 1000 } }).mainRuns = true) ∧
    (({ serving with time := { serving.time with ppsLock := true, everLocked := true, tick := 1999, boundaryTick := 1000 } }).time.tick - ({ serving with time := { serving.time with ppsLock := true, everLocked := true, tick := 1999, boundaryTick := 1000 } }).time.boundaryTick ≥ 999) ∧
    (({ serving with time := { serving.time with ppsLock := true, everLocked := true, tick := 1999, boundaryTick := 1000 } }).period = 1000000000) ∧
    (State.reset.mainRuns = false) ∧
    (({ serving with time := { serving.time with ppsLock := true, everLocked := true, tick := 1999, boundaryTick := 1000 } }).time.ppsLock = true) ∧
    (({ serving with time := { serving.time with ppsLock := true, everLocked := true, tick := 1999, boundaryTick := 1000 } }).time.tick ≥ ({ serving with time := { serving.time with ppsLock := true, everLocked := true, tick := 1999, boundaryTick := 1000 } }).time.boundaryTick + 999) ∧
    (State.reset.time.ppsLock = false) ∧
    (State.reset.time.state ≠ .holdover) ∧
    (({ serving with time := { serving.time with state := .anchored, ppsLock := true, anchor := some (0, 0), sinceEdge := 2000 } }).time.ppsLock = true) ∧
    (({ serving with time := { serving.time with state := .anchored, ppsLock := true, anchor := some (0, 0), sinceEdge := 2000 } }).time.sinceEdge ≥ 2000) ∧
    (({ serving with time := { serving.time with state := .anchored, ppsLock := true, anchor := some (0, 0), sinceEdge := 2000 } }).time.state = .anchored) ∧
    (({ serving with time := { serving.time with state := .holdover, anchor := some (0, 0), sinceEdge := 86400000 } }).time.state = .holdover) ∧
    (({ serving with time := { serving.time with state := .holdover, anchor := some (0, 0), sinceEdge := 86400000 } }).time.sinceEdge ≥ 86400000) ∧
    (({ { serving with time := { serving.time with state := .holdover, anchor := some (0, 0), sinceEdge := 86400000 } } with time := { ({ serving with time := { serving.time with state := .holdover, anchor := some (0, 0), sinceEdge := 86400000 } }).time with tick := 5 } }).time.window.start < 5) := by
  decide +kernel

/-- What TimeReads supposes holds of these states and operands. -/
theorem witness_TimeReads :
    ({ serving with time := { serving.time with elapsedNs := 3600000000000 } }.mainRuns = true) ∧
    ({ serving with time := { serving.time with elapsedNs := 3600000000000 } }.elapsed ≥ ({ serving.time with elapsedNs := 3600000000000 }.bootHours + 1) * 3600000000000) ∧
    (State.reset.mainRuns = false) ∧
    (State.reset.archiving = false) ∧
    (({ (serving.putBit .MEM_STATUS_READY true).event 0x0101 sevNotice 5 [] with mem := [] }).archTake = some 0) ∧
    (((({ (serving.putBit .MEM_STATUS_READY true).event 0x0101 sevNotice 5 [] with mem := [] }).closeEvents false).archiving) = true) := by
  decide +kernel

/-- What BeadSeal supposes holds of these states and operands. -/
theorem witness_BeadSeal :
    (({ serving with strand := { serving.strand with closed := [{ Bead.empty 3 with clasp := 1 }] } }).strand.closed = [{ Bead.empty 3 with clasp := 1 }]) ∧
    (({ serving with strand := { serving.strand with closed := [{ Bead.empty 3 with clasp := 1 }] } }).holdsClasp = true) ∧
    (({ serving with strand := { serving.strand with closed := [{ Bead.empty 3 with clasp := 1 }] } }).zeroised = false) ∧
    (State.reset.strand.closed = []) ∧
    (65536 % 65536 = 0) ∧
    (1 % 65536 ≠ 0) ∧
    (serving.strand.ckptRunning = none) ∧
    (State.reset.store.overlay = []) ∧
    ({ serving.store with overlay := [(3, deviceRec (.objectDestroy 9))] }.overlay = [(3, deviceRec (.objectDestroy 9))]) := by
  decide +kernel

/-- What JournalRing supposes in a clause holds of a state. -/
theorem witness_JournalRing_1 :
    ∀ c, State.reset.strand.ckptRunning = some c → c.segments ≠ [] ∨ c.manifestWritten = false ∨ State.reset.strandOpen = false := by
  intro c hc; cases hc

/-- What JournalRing supposes holds of these states and operands. -/
theorem witness_JournalRing :
    (serving.bit .HST_JNL_CFG_ENABLE = false) ∧
    (26 ≤ 31) ∧
    (serving.bit .HST_JNL_CFG_ENABLE = true ∨ 25 < 26 ∨ 31 < 25) ∧
    (((({ serving with strand := { serving.strand with staged := [(3, zeros 100)] } }.putBit .HST_JNL_STATUS_RUNNING true).put .HST_JNL_CFG_SIZE_LOG2 26).nextItem).isSome = true) ∧
    ((({ serving with strand := { serving.strand with staged := [(3, zeros 100)] } }.putBit .HST_JNL_STATUS_RUNNING true).put .HST_JNL_CFG_SIZE_LOG2 26).exporting = true) ∧
    (104 ≤ (({ serving with strand := { serving.strand with staged := [(3, zeros 100)] } }.putBit .HST_JNL_STATUS_RUNNING true).put .HST_JNL_CFG_SIZE_LOG2 26).ringFree) ∧
    (0 < serving.host.maxPayload) ∧
    (State.reset.nextItem.isNone = true) ∧
    (({ serving with strand := { serving.strand with exported := 9, durable := 4 } }).strand.durable < 9) ∧
    (9 ≤ ({ serving with strand := { serving.strand with exported := 9, durable := 4 } }).strand.exported) ∧
    (4 ≤ ({ serving with strand := { serving.strand with exported := 9, durable := 4 } }).strand.durable) ∧
    (({ serving with strand := { serving.strand with exported := 9, durable := 4 } }).strand.exported < 10) ∧
    ({ serving with strand := { serving.strand with ckptRunning := some { boundary := 5, closeTick := 0, segments := [], chunk := 0, counts := [], manifestWritten := true, objs := [], settings := [] } } }.strandOpen = true) := by
  decide +kernel

/-- What Clasp supposes holds of these states and operands. -/
theorem witness_Clasp :
    (({ up with restore := { up.restore with state := .claspWait }, strand := { up.strand with role := .candidate } }).restore.state = .claspWait) ∧
    (({ up with restore := { up.restore with state := .claspWait }, strand := { up.strand with role := .candidate } }).strand.role = .candidate) ∧
    (1 > ({ up with restore := { up.restore with state := .claspWait }, strand := { up.strand with role := .candidate } }).presentedClasp) ∧
    (1 > ({ up with restore := { up.restore with state := .claspWait }, strand := { up.strand with role := .candidate } }).bb.headClasp) ∧
    ((State.reset.restore.state ≠ .claspWait ∨ State.reset.strand.role ≠ .candidate)) ∧
    (State.reset.strand.clasp = none) ∧
    (serving.restore.state ≠ .claspWait) ∧
    (serving.strand.clasp = some 1) ∧
    (({ serving with time := { serving.time with tick := 1000000 } }).strand.clasp.isSome = true) ∧
    (({ serving with time := { serving.time with tick := 1000000 } }).holdsClasp = false) ∧
    (State.reset.restore.state ≠ .loading) ∧
    ({ serving with restore := { serving.restore with state := .loading } }.restore.state = .loading) ∧
    ({ serving.restore with state := .loading }.state = .loading) ∧
    (([] : List StrandItem).length = serving.odNat 0x5010 3 0) ∧
    (serving.strandGood [] = true) ∧
    ((serving.loadStrand []).restore.state ≠ .failed) ∧
    ((serving.loadStrand []).meetsHead [] (serving.loadStrand []).restore.boundary (serving.loadStrand []).restore.presented = true) := by
  decide +kernel

/-- What StoreUpkeep supposes holds of these states and operands. -/
theorem witness_StoreUpkeep :
    ({ serving with restore := { serving.restore with state := .lazy } }.restore.state = .lazy) ∧
    ({ serving with restore := { serving.restore with state := .lazy } }.chunksLeft = []) ∧
    ({ serving.store with phase := .clearing }.phase = .clearing) ∧
    (serving.zeroised = false) ∧
    ({ serving.store with phase := .migrating, k := 1, cursor := 1 }.cursor + 1 ≥ 2 ^ { serving.store with phase := .migrating, k := 1, cursor := 1 }.k) ∧
    (splitBucket 1 (bucket serving.store.table 1) = ([], [])) ∧
    (State.reset.restore.state ≠ .lazy) ∧
    (State.reset.store.phase ≠ .clearing) ∧
    (State.reset.store.phase ≠ .migrating) ∧
    ((State.reset.putBit .MEM_SCRUB_ENABLE false).bit .MEM_SCRUB_ENABLE = false) ∧
    (0 < dramBase) ∧
    ((serving.putBit .MEM_SCRUB_ENABLE true).bit .MEM_SCRUB_ENABLE = true) ∧
    (dramBase ≤ dramBase) ∧
    (dramBase < dramBase + ({ serving with store := { serving.store with capacityGiB := 32 } } : State).capacity) ∧
    (dirBase ≤ ({ serving with store := { serving.store with capacityGiB := 32 } } : State).objectBase / 64 * 64) ∧
    (({ serving with store := { serving.store with capacityGiB := 32 } } : State).objectBase < dramBase + ({ serving with store := { serving.store with capacityGiB := 32 } } : State).capacity) := by
  decide +kernel

/-- What KeyLife supposes in a clause holds of a state. -/
theorem witness_KeyLife_1 :
    ∀ j, serving.job 7 = some j → j.op ≠ opSign ∨ serving.readyToPlan j = false := by
  intro j hj; have e : serving.job 7 = none := by decide +kernel
  rw [e] at hj; cases hj

/-- What KeyLife supposes holds of these states and operands. -/
theorem witness_KeyLife :
    (∀ op ∈ [opKeyGenerate, opKeyImport, opKeyDerive, opKeyDestroy, opKeySetPolicy, opKeyExport, opKeyDescribe], (withJob { jobAt op .preparing with need := ⟨false, false, false, false, false⟩, rnd := some [] }).job 7 =
         some { jobAt op .preparing with need := ⟨false, false, false, false, false⟩, rnd := some [] } ∧
       ({ jobAt op .preparing with need := ⟨false, false, false, false, false⟩, rnd := some [] }).op = op ∧
       (withJob { jobAt op .preparing with need := ⟨false, false, false, false, false⟩, rnd := some [] }).readyToPlan
         { jobAt op .preparing with need := ⟨false, false, false, false, false⟩, rnd := some [] } = true) := by
  decide +kernel

/-- What Asymmetric supposes in a clause holds of a state. -/
theorem witness_Asymmetric_1 :
    ∀ j, serving.job 7 = some j → j.op ≠ opSign ∨ serving.readyToPlan j = false := by
  intro j hj; have e : serving.job 7 = none := by decide +kernel
  rw [e] at hj; cases hj

/-- What Asymmetric supposes holds of these states and operands. -/
theorem witness_Asymmetric :
    (∀ op ∈ [opSign, opVerify, opAsymDecrypt, opAsymEncrypt, opAgree, opEncaps, opDecaps], (withJob { jobAt op .preparing with need := ⟨false, false, false, false, false⟩, rnd := some [] }).job 7 =
         some { jobAt op .preparing with need := ⟨false, false, false, false, false⟩, rnd := some [] } ∧
       ({ jobAt op .preparing with need := ⟨false, false, false, false, false⟩, rnd := some [] }).op = op ∧
       (withJob { jobAt op .preparing with need := ⟨false, false, false, false, false⟩, rnd := some [] }).readyToPlan
         { jobAt op .preparing with need := ⟨false, false, false, false, false⟩, rnd := some [] } = true) := by
  decide +kernel

/-- What Bulk supposes in a clause holds of a state. -/
theorem witness_Bulk_1 :
    ∀ j, serving.job 7 = some j → j.op ≠ opSign ∨ serving.readyToPlan j = false := by
  intro j hj; have e : serving.job 7 = none := by decide +kernel
  rw [e] at hj; cases hj

/-- What Bulk supposes holds of these states and operands. -/
theorem witness_Bulk :
    (∀ op ∈ [opAeadSeal, opAeadOpen, opCipher, opMac, opWrap, opUnwrap], (withJob { jobAt op .preparing with need := ⟨false, false, false, false, false⟩, rnd := some [] }).job 7 =
         some { jobAt op .preparing with need := ⟨false, false, false, false, false⟩, rnd := some [] } ∧
       ({ jobAt op .preparing with need := ⟨false, false, false, false, false⟩, rnd := some [] }).op = op ∧
       (withJob { jobAt op .preparing with need := ⟨false, false, false, false, false⟩, rnd := some [] }).readyToPlan
         { jobAt op .preparing with need := ⟨false, false, false, false, false⟩, rnd := some [] } = true) := by
  decide +kernel

/-- What ServiceCommands supposes in a clause holds of a state. -/
theorem witness_ServiceCommands_1 :
    ∀ j, serving.job 7 = some j → j.op ≠ opSign ∨ serving.readyToPlan j = false := by
  intro j hj; have e : serving.job 7 = none := by decide +kernel
  rw [e] at hj; cases hj

/-- What ServiceCommands supposes holds of these states and operands. -/
theorem witness_ServiceCommands :
    (∀ op ∈ [opRandom, opHash, opOwnerApprove, opCounterRead, opAttest], (withJob { jobAt op .preparing with need := ⟨false, false, false, false, false⟩, rnd := some [] }).job 7 =
         some { jobAt op .preparing with need := ⟨false, false, false, false, false⟩, rnd := some [] } ∧
       ({ jobAt op .preparing with need := ⟨false, false, false, false, false⟩, rnd := some [] }).op = op ∧
       (withJob { jobAt op .preparing with need := ⟨false, false, false, false, false⟩, rnd := some [] }).readyToPlan
         { jobAt op .preparing with need := ⟨false, false, false, false, false⟩, rnd := some [] } = true) := by
  decide +kernel

/-- What EngineCommands supposes holds of these states and operands. -/
theorem witness_EngineCommands :
    ((Instr.xdh 3 0, 0x1C) ∈ ([(Instr.xdh 3 0, 0x1C)] : List (Instr × Nat)) ∧ 3 < 34 ∧ (((serving.put (.BGN_Cn_CFG_SLOT_UNITS 3) 4).put (.BGN_Cn_LEN_BITS 3) 64).put (ClusterId.big.stateFld 3) csHeld).coreOpen .big 3 = true ∧
     (∀ op ∈ [1, 2, 3, 4, 5, 6, 7, 8, 0x10, 0x11, 0x12, 0x13, 0x14, 0x18, 0x1C],
       (bgnReads op ((((serving.put (.BGN_Cn_CFG_SLOT_UNITS 3) 4).put (.BGN_Cn_LEN_BITS 3) 64).put (ClusterId.big.stateFld 3) csHeld).get (.BGN_Cn_ARG0_A 3)) ((((serving.put (.BGN_Cn_CFG_SLOT_UNITS 3) 4).put (.BGN_Cn_LEN_BITS 3) 64).put (ClusterId.big.stateFld 3) csHeld).get (.BGN_Cn_ARG0_B 3)) ((((serving.put (.BGN_Cn_CFG_SLOT_UNITS 3) 4).put (.BGN_Cn_LEN_BITS 3) 64).put (ClusterId.big.stateFld 3) csHeld).get (.BGN_Cn_ARG1_M 3)) ((((serving.put (.BGN_Cn_CFG_SLOT_UNITS 3) 4).put (.BGN_Cn_LEN_BITS 3) 64).put (ClusterId.big.stateFld 3) csHeld).get (.BGN_Cn_ARG2_C 3))).all
         (· < (((serving.put (.BGN_Cn_CFG_SLOT_UNITS 3) 4).put (.BGN_Cn_LEN_BITS 3) 64).put (ClusterId.big.stateFld 3) csHeld).slotCount 3) = true ∧ (((serving.put (.BGN_Cn_CFG_SLOT_UNITS 3) 4).put (.BGN_Cn_LEN_BITS 3) 64).put (ClusterId.big.stateFld 3) csHeld).resultSlotOk 3 ((((serving.put (.BGN_Cn_CFG_SLOT_UNITS 3) 4).put (.BGN_Cn_LEN_BITS 3) 64).put (ClusterId.big.stateFld 3) csHeld).get (.BGN_Cn_ARG1_D 3)) (bgnPair op) = true) ∧
     64 ≤ (((serving.put (.BGN_Cn_CFG_SLOT_UNITS 3) 4).put (.BGN_Cn_LEN_BITS 3) 64).put (ClusterId.big.stateFld 3) csHeld).get (.BGN_Cn_LEN_BITS 3) ∧ (((serving.put (.BGN_Cn_CFG_SLOT_UNITS 3) 4).put (.BGN_Cn_LEN_BITS 3) 64).put (ClusterId.big.stateFld 3) csHeld).get (.BGN_Cn_LEN_BITS 3) ≤ (((serving.put (.BGN_Cn_CFG_SLOT_UNITS 3) 4).put (.BGN_Cn_LEN_BITS 3) 64).put (ClusterId.big.stateFld 3) csHeld).slotBits 3) ∧
    (33 < 34) ∧
    (serving.coreOpen .big 33 = false) ∧
    (34 ≤ 34) ∧
    (mget (fun _ => none) serving.engines.big.running 3 = none) ∧
    (mget (fun _ => none) serving.engines.lat.running 3 = none) ∧
    (mget (fun _ => none) ({ serving with engines := { serving.engines with big := { serving.engines.big with running := [(3, some (1, 0))] } } } : State).engines.big.running 3 = some (1, 0)) ∧
    (serving.engines.big.stopped.contains 3 = false) ∧
    ((serving.put (.BGN_Cn_LEN_BITS 3) 2048).get (.BGN_Cn_LEN_BITS 3) = 2048) ∧
    ((serving.put (ClusterId.lat.stateFld 3) csHeld).coreOpen .lat 3 = true ∧ (∀ op ∈ [2, 0x0A, 0x20, 0x21, 0x22, 0x30],
       (serving.put (ClusterId.lat.stateFld 3) csHeld).get (.LAT_Cn_DST_OFFSET 3) + (latSizes op 0 ((serving.put (ClusterId.lat.stateFld 3) csHeld).get (.LAT_Cn_SRC_LENGTH 3)) ((serving.put (ClusterId.lat.stateFld 3) csHeld).get (.LAT_Cn_DST_LENGTH 3)) ((serving.put (ClusterId.lat.stateFld 3) csHeld).get (.LAT_Cn_AUX_LENGTH 3))).2.2 ≤ latWork)) ∧
    (8 < 9) ∧
    (serving.coreOpen .lat 8 = false) ∧
    (9 ≤ 9) ∧
    (mget (fun _ => none) ({ serving with engines := { serving.engines with lat := { serving.engines.lat with running := [(3, some (0x20, 0))] } } } : State).engines.lat.running 3 = some (0x20, 0)) ∧
    (serving.engines.lat.stopped.contains 3 = false) := by
  decide +kernel

/-- What CoreStates supposes holds of these states and operands. -/
theorem witness_CoreStates :
    (33 < ClusterId.big.cores) ∧
    (serving.coreState .big 0 ≠ csSpare) ∧
    (34 ≤ 34) ∧
    (9 ≤ 9) ∧
    (serving.engines.akey = none) ∧
    (32 < 33) ∧
    (31 < 32) ∧
    (33 = 33) ∧
    (8 < 9) ∧
    (33 < 34) ∧
    ((((serving.put (.BGN_Cn_CFG_SLOT_UNITS 3) 4).put (.BGN_Cn_LEN_BITS 3) 64).put (ClusterId.big.stateFld 3) csHeld).coreOpen .big 3 = true) ∧
    (serving.coreOpen .big 3 = false) ∧
    (1 ≤ 32) ∧
    (serving.akeyCores.length ≠ 8) ∧
    (((List.range 8).foldl (fun s n => s.put (ClusterId.big.stateFld n) csHeld) (serving.put .BGN_AKEY_MASK_LO_CORES 0xFF)).akeyCores.length = 8) ∧
    (((List.range 8).foldl (fun s n => s.put (ClusterId.big.stateFld n) csHeld) (serving.put .BGN_AKEY_MASK_LO_CORES 0xFF)).akeyCores.all
       (((List.range 8).foldl (fun s n => s.put (ClusterId.big.stateFld n) csHeld) (serving.put .BGN_AKEY_MASK_LO_CORES 0xFF)).coreOpen .big) = true) ∧
    ({ serving.engines with akey := some [1, 2] }.akey = some [1, 2]) := by
  decide +kernel

/-- What LinkSession supposes in a clause holds of a state. -/
theorem witness_LinkSession_1 :
    linked.linkUp = true ∧ linked.linkOn = true ∧ linked.agreed = true ∧ linked.tagOk 0x0A (keepaliveBody 1) (goodFrame linked 0x0A (keepaliveBody 1) 7) = true ∧ 7 > linked.pair.rxSeq := by
  exact ⟨by decide +kernel, by decide +kernel, by decide +kernel, tagOk_good _ _ _ _ (by decide +kernel), by decide +kernel⟩

/-- What LinkSession supposes in a clause holds of a state. -/
theorem witness_LinkSession_2 :
    linked.sessionKey.isSome = true ∧ State.reset.sessionKey = none ∧ State.reset.linkUp = false := by
  exact ⟨by decide +kernel, by decide +kernel, by decide +kernel⟩

/-- What LinkSession supposes in a clause holds of a state. -/
theorem witness_LinkSession_3 :
    (∃ u, linked.upFrame 0x0A (keepaliveBody 1) (goodFrame linked 0x0A (keepaliveBody 1) 7) = (true, u)) ∧ (∃ u, linked.upFrame 0x06 (readyBody 5 1) (goodFrame linked 0x06 (readyBody 5 1) 7) = (true, u)) ∧ (∃ u, linked.upFrame 0x08 (claspAckBody 2) (goodFrame linked 0x08 (claspAckBody 2) 7) = (true, u)) ∧ (∃ u, linked.upFrame 0x09 (claspNakBody 1) (goodFrame linked 0x09 (claspNakBody 1) 7) = (true, u)) ∧ (∃ u, linked.upFrame 0x03 ([]) (goodFrame linked 0x03 ([]) 7) = (true, u)) ∧ (∃ u, linked.upFrame 0x05 (visitDoneBody 5) (goodFrame linked 0x05 (visitDoneBody 5) 7) = (true, u)) := by
  exact ⟨linked_upFrame _ _, linked_upFrame _ _, linked_upFrame _ _, linked_upFrame _ _, linked_upFrame _ _, linked_upFrame _ _⟩

/-- What LinkSession supposes in a clause holds of a state. -/
theorem witness_LinkSession_4 :
    closed.linkUp = false ∧ closed.linkOn = true ∧ closed.agreed = true ∧ 7 > closed.pair.rxSeq ∧ closed.tagOk 0x02 closed.sessionNonces (goodFrame closed 0x02 closed.sessionNonces 7) = true := by
  exact ⟨by decide +kernel, by decide +kernel, by decide +kernel, by decide +kernel, tagOk_good _ _ _ _ (by decide +kernel)⟩

/-- What LinkSession supposes holds of these states and operands. -/
theorem witness_LinkSession :
    (linked.linkOn = true) ∧
    (State.reset.linkUp = false) ∧
    (State.reset.time.tick ≥ State.reset.pair.helloDue) ∧
    ((State.reset.putBit .FLL_CTRL_LINK_EN false).linkOn = false) ∧
    (State.reset.agreed = false) ∧
    ((serving.upFrame 0x0A (keepaliveBody 1) { seq := 7, tag := [] }).1 = false) ∧
    (linked.linkUp = true) ∧
    (linked.time.tick ≥ linked.pair.keepaliveDue) ∧
    (({ linked with time := { linked.time with tick := 100 } } : State).time.tick ≥ linked.pair.lastRx + 100) := by
  decide +kernel

/-- What HeadsAndTakeover supposes in a clause holds of a state. -/
theorem witness_HeadsAndTakeover_1 :
    ∃ u, linked.upFrame 0x04 (headBody 9 (zeros 32) 1 true) (goodFrame linked 0x04 (headBody 9 (zeros 32) 1 true) 7) = (true, u) := by
  exact linked_upFrame _ _

/-- What HeadsAndTakeover supposes in a clause holds of a state. -/
theorem witness_HeadsAndTakeover_2 :
    ∃ u, linked.upFrame 0x07 (claspPassBody 1 5 (zeros 64)) (goodFrame linked 0x07 (claspPassBody 1 5 (zeros 64)) 7) = (true, u) := by
  exact linked_upFrame _ _

/-- What HeadsAndTakeover supposes holds of these states and operands. -/
theorem witness_HeadsAndTakeover :
    (({ serving with time := { serving.time with tick := 100000000 } } : State).strand.role = .active) ∧
    (({ serving with time := { serving.time with tick := 100000000 } } : State).time.tick ≥ serving.pair.visitDue) ∧
    (serving.pair.visitPulse = none) ∧
    (serving.linkUp = false) ∧
    ({ serving.pair with visitPulse := some 5 }.visitPulse = some 5) ∧
    ({ serving.time with tick := 2005 }.tick ≥ 5 + 2000) ∧
    (({ serving with strand := { serving.strand with role := .handingOver, finalBead := some 0 } } : State).strand.finalBead = some 0) ∧
    (({ serving with strand := { serving.strand with role := .handingOver, finalBead := some 0 } } : State).strand.clasp = some 1) ∧
    (({ serving with strand := { serving.strand with role := .handingOver, finalBead := some 0 } } : State).strand.role = .handingOver) ∧
    (({ serving with strand := { serving.strand with role := .handingOver, finalBead := some 0 } } : State).zeroised = false) ∧
    (({ serving with strand := { serving.strand with role := .handingOver, finalBead := some 0 } } : State).holdsClasp = true) ∧
    (({ serving with strand := { serving.strand with role := .handingOver, finalBead := some 0 } } : State).jobs = []) ∧
    (0 ≤ ({ serving with strand := { serving.strand with role := .handingOver, finalBead := some 0 } } : State).strand.durable) ∧
    (0 ≤ ({ serving with strand := { serving.strand with role := .handingOver, finalBead := some 0 } } : State).strand.head) ∧
    ({ serving.pair with pass := some (1, 2, zeros 64) }.pass = some (1, 2, zeros 64)) ∧
    (serving.time.tick ≥ serving.pair.passDue) ∧
    (serving.strand.role = .active) ∧
    (State.reset.strand.role ≠ .active) ∧
    (State.reset.strand.finalBead = none) ∧
    (State.reset.pair.pass = none) := by
  decide +kernel

/-- What PairingCeremony supposes in a clause holds of a state. -/
theorem witness_PairingCeremony_1 :
    ({ linked with bb := serving.bb, pair := { linked.pair with accept := some 0 } } : State).linkOn = true ∧
    ({ linked with bb := serving.bb, pair := { linked.pair with accept := some 0 } } : State).countRx.reaches = true ∧
    ({ linked with bb := serving.bb, pair := { linked.pair with accept := some 0 } } : State).countRx.pair.accept.isSome = true ∧
    ({ linked with bb := serving.bb, pair := { linked.pair with accept := some 0 } } : State).countRx.bb.pairSecret = none ∧ ({ linked with bb := serving.bb, pair := { linked.pair with accept := some 0 } } : State).countRx.lcs.programming = none := by
  refine ⟨?_, ?_, ?_, ?_, ?_⟩ <;> decide +kernel

/-- What PairingCeremony supposes holds of these states and operands. -/
theorem witness_PairingCeremony :
    (({ linked with pair := { linked.pair with ceremony := some { sender := true, other := 5, domain := 0, kem := [], ec := [], offer := none, transport := none, officers := [], carded := false } } } : State).linkOn = true) ∧
    (({ linked with pair := { linked.pair with ceremony := some { sender := true, other := 5, domain := 0, kem := [], ec := [], offer := none, transport := none, officers := [], carded := false } } } : State).countRx.pair.ceremony = some { sender := true, other := 5, domain := 0, kem := [], ec := [], offer := none, transport := none, officers := [], carded := false }) ∧
    (({ sender := true, other := 5, domain := 0, kem := [], ec := [], offer := none, transport := none, officers := [], carded := false } : Ceremony).sender = true) ∧
    (({ sender := true, other := 5, domain := 0, kem := [], ec := [], offer := none, transport := none, officers := [], carded := false } : Ceremony).transport = none) ∧
    (({ linked with pair := { linked.pair with ceremony := some { sender := true, other := 5, domain := 0, kem := [], ec := [], offer := none, transport := none, officers := [], carded := false } } } : State).countRx.bb.pairSecret = some (zeros 32)) ∧
    (({ linked with pair := { linked.pair with ceremony := some { ({ sender := true, other := 5, domain := 0, kem := [], ec := [], offer := none, transport := none, officers := [], carded := false } : Ceremony) with sender := false, transport := some (zeros 32) } } } : State).linkOn = true) ∧
    (serving.installsLeft ≠ 0) ∧
    (serving.bb.pairSecret = none) ∧
    (serving.lcs.programming = none) ∧
    (linked.pair.rxSeq < 7) ∧
    (({ ({ sender := true, other := 5, domain := 0, kem := [], ec := [], offer := none, transport := none, officers := [], carded := false } : Ceremony) with transport := some (zeros 32) } : Ceremony).transport.isSome = true) ∧
    ((State.reset.putBit .FLL_CTRL_LINK_EN false).linkOn = false) ∧
    (linked.linkOn = true) ∧
    (linked.countRx.pair.ceremony = none) ∧
    ({ serving.pair with accept := some 3 }.accept = some 3) ∧
    ({ serving.time with tick := 300003 }.tick ≥ 3 + 300000) := by
  decide +kernel

/-- What LaneWork supposes holds of these states and operands. -/
theorem witness_LaneWork :
    (15 ≤ 15) ∧
    (serving.holder 15 = hcFree) ∧
    (1 ≤ (serving.setHolder 3 0x400).holder 3) ∧
    ((serving.setHolder 3 0x400).holder 3 ≤ 0x400) ∧
    ((serving.setHolder 3 0x400).get (.SYM_Ln_LOCK_PENDING 3) = 0) ∧
    (0 ≠ worldCode .secure) ∧
    ((serving.setHolder 3 hcNormal).holder 3 ≠ hcFree) ∧
    ((serving.setHolder 3 hcNormal).holder 3 > 0x400) ∧
    ((serving.setHolder 3 hcSecure).holder 3 = worldCode .secure) ∧
    ((serving.setHolder 3 hcNormal).holder 3 = worldCode .normal) ∧
    (serving.holder 3 ≠ worldCode .secure) ∧
    (serving.get (.SYM_Ln_LOCK_PENDING 3) ≠ worldCode .secure) ∧
    ((serving.put (.SYM_Ln_LOCK_PENDING 3) hcSecure).get (.SYM_Ln_LOCK_PENDING 3) = worldCode .secure) ∧
    (fwHolder ((serving.setHolder 3 hcSecure).holder 3) = true) ∧
    ((serving.setHolder 3 hcSecure).holder 3 ≠ worldCode .normal) ∧
    (fwHolder (serving.holder 3) = false) ∧
    (16 > 15) ∧
    (((((serving.setHolder 3 hcSecure).put (.SYM_Ln_CTRL_MODE 3) 0x0C).put (.SYM_Ln_CTRL_HASH 3) 2).laneParams 3).mode = 0x0C) ∧
    ((((serving.setHolder 3 hcSecure).put (.SYM_Ln_CTRL_MODE 3) 0x0C).put (.SYM_Ln_CTRL_HASH 3) 2).laneLimits 3 = true) ∧
    ((serving.setHolder 3 hcSecure).gateOn 2 = true) ∧
    (((serving.setHolder 3 hcSecure).lane 3).running = false) ∧
    ((serving.lane 3).running = false) ∧
    (((serving.setHolder 3 hcSecure).setLane 3 { (serving.lane 3) with running := true }).halted = false) := by
  decide +kernel

/-- What EntropySources supposes holds of these states and operands. -/
theorem witness_EntropySources :
    (0 < 4) ∧
    ((({ serving with rng := { serving.rng with sources := [{ Source.init with st := .healthy }, { Source.init with st := .startup }, { Source.init with st := .quarantined }, { Source.init with st := .retesting, fails := 7 }] } } : State).source 0).st = .healthy) ∧
    ((({ serving with rng := { serving.rng with sources := [{ Source.init with st := .healthy }, { Source.init with st := .startup }, { Source.init with st := .quarantined }, { Source.init with st := .retesting, fails := 7 }] } } : State).source 3).st = .retesting) ∧
    ((({ serving with rng := { serving.rng with sources := [{ Source.init with st := .healthy }, { Source.init with st := .startup }, { Source.init with st := .quarantined }, { Source.init with st := .retesting, fails := 7 }] } } : State).source 3).fails = 7) ∧
    ((({ serving with rng := { serving.rng with sources := [{ Source.init with st := .healthy }, { Source.init with st := .startup }, { Source.init with st := .quarantined }, { Source.init with st := .retesting, fails := 7 }] } } : State).source 0).fails < 8) ∧
    ((({ serving with rng := { serving.rng with sources := [{ Source.init with st := .healthy }, { Source.init with st := .startup }, { Source.init with st := .quarantined }, { Source.init with st := .retesting, fails := 7 }] } } : State).source 1).st = .startup) ∧
    ((({ serving with rng := { serving.rng with sources := [{ Source.init with st := .healthy }, { Source.init with st := .startup }, { Source.init with st := .quarantined }, { Source.init with st := .retesting, fails := 7 }] } } : State).source 2).st = .quarantined) ∧
    ({ serving.time with tick := 64 }.tick ≥ (({ serving with rng := { serving.rng with sources := [{ Source.init with st := .healthy }, { Source.init with st := .startup }, { Source.init with st := .quarantined }, { Source.init with st := .retesting, fails := 7 }] } } : State).source 2).since + 64) ∧
    (State.reset.rngTestOpen = true) ∧
    (({ State.reset with rng := { State.reset.rng with sources := [{ Source.init with st := .test }, Source.init, Source.init, Source.init] } } : State).rngTestOpen = true) ∧
    ((({ State.reset with rng := { State.reset.rng with sources := [{ Source.init with st := .test }, Source.init, Source.init, Source.init] } } : State).source 0).st = .test) ∧
    ((State.reset.source 0).st ≠ .test) ∧
    ((({ serving with rng := { serving.rng with sources := [{ Source.init with st := .healthy }, { Source.init with st := .startup }, { Source.init with st := .quarantined }, { Source.init with st := .retesting, fails := 7 }] } } : State).source 0).st ≠ .startup) ∧
    ((({ serving with rng := { serving.rng with sources := [{ Source.init with st := .healthy }, { Source.init with st := .startup }, { Source.init with st := .quarantined }, { Source.init with st := .retesting, fails := 7 }] } } : State).source 2).st ≠ .healthy) ∧
    (serving.rngTestOpen = true) := by
  decide +kernel

/-- What RandomBits supposes holds of these states and operands. -/
theorem witness_RandomBits :
    ((({ serving with rng := { serving.rng with drbgs := List.replicate 4 { inst := true, calls := 0, last := 0, stalled := false, due := true }, pool := 1024 } } : State).drbg 3).due = true) ∧
    ((({ serving with rng := { serving.rng with drbgs := List.replicate 4 { inst := true, calls := 0, last := 0, stalled := false, due := true }, pool := 1024 } } : State).drbg 3).inst = true) ∧
    (serving.rng.stopped = false) ∧
    ((({ serving with rng := { serving.rng with drbgs := List.replicate 4 { inst := true, calls := 0, last := 0, stalled := false, due := true } } } : State).drbg 3).stalled = false) ∧
    ({ serving.time with tick := 64 }.tick ≥ (({ serving with rng := { serving.rng with drbgs := List.replicate 4 { inst := true, calls := 0, last := 0, stalled := false, due := true } } } : State).drbg 3).last + 64) ∧
    ({ serving.rng with stopped := true }.stopped = true) ∧
    (({ serving with rng := { serving.rng with drbgs := List.replicate 4 { inst := true, calls := 0, last := 0, stalled := false, due := false } } } : State).freeDrbg [] = some 0) ∧
    (({ serving with rng := { serving.rng with drbgs := List.replicate 4 { inst := true, calls := 0, last := 0, stalled := false, due := false } } } : State).portReady true [] = true) ∧
    (({ serving with rng := { serving.rng with drbgs := List.replicate 4 { inst := true, calls := 0, last := 0, stalled := false, due := false } } } : State).portReady false [] = true) ∧
    (4 ≤ ({ serving with rng := { serving.rng with sBuf := zeros 4 } } : State).rng.sBuf.length) ∧
    (serving.rng.sBuf.length < 4) ∧
    (4 ≤ ({ serving with rng := { serving.rng with nsBuf := zeros 4 } } : State).rng.nsBuf.length) ∧
    (serving.rng.nsBuf.length < 4) ∧
    (({ withJob { jobAt 0x0401 .preparing with need := ⟨false, false, false, false, false⟩ } with rng := { serving.rng with drbgs := List.replicate 4 { inst := true, calls := 0, last := 0, stalled := false, due := false }, sBuf := zeros 64, nsBuf := zeros 64 } } : State).freeDrbg [] = some 0) ∧
    (({ withJob { jobAt 0x0401 .preparing with need := ⟨false, false, false, false, false⟩ } with rng := { serving.rng with drbgs := List.replicate 4 { inst := true, calls := 0, last := 0, stalled := false, due := false }, sBuf := zeros 64, nsBuf := zeros 64 } } : State).portReady true [] = false) ∧
    (({ withJob { jobAt 0x0401 .preparing with need := ⟨false, false, false, false, false⟩ } with rng := { serving.rng with drbgs := List.replicate 4 { inst := true, calls := 0, last := 0, stalled := false, due := false }, sBuf := zeros 64, nsBuf := zeros 64 } } : State).portReady false [] = false) ∧
    (State.reset.rng.stopped = false) ∧
    (State.reset.rng.pool < 1024) ∧
    (State.reset.freeDrbg [] = none) := by
  decide +kernel

/-- What FirmwareUnits supposes holds of these states and operands. -/
theorem witness_FirmwareUnits :
    (7 < 8) ∧
    (6 ≤ 7) ∧
    (up.ladder.hmClosed = false) ∧
    (5 < 6) ∧
    ({ up with ladder := { up.ladder with hmClosed := true } }.ladder.hmClosed = true) ∧
    ((let s := ({ serving with ladder := { serving.ladder with available := true }, lcs := { serving.lcs with deviceSecret := some [] }, bb := { serving.bb with wrapSecret := some [] } } : State).setHolder 3 hcSecure
      (s.storageKey false 0 3).isSome = true ∧ s.bit .KLD_FW_STATUS_BUSY = false ∧ s.holder 3 = hcSecure ∧ (s.lane 3).running = false)) ∧
    ((serving.putBit .KLD_FW_STATUS_BUSY true).bit .KLD_FW_STATUS_BUSY = true) ∧
    ((let s := { serving with ladder := { serving.ladder with fwRequest := some (3, zeros 32) } }.setHolder 3 hcSecure
      s.ladder.fwRequest = some (3, zeros 32) ∧ s.holder 3 = hcSecure ∧ (s.lane 3).running = false)) ∧
    ({ serving with ladder := { serving.ladder with fwRequest := some (3, zeros 32) } }.ladder.fwRequest = some (3, zeros 32)) ∧
    ({ serving with ladder := { serving.ladder with fwRequest := some (3, zeros 32) } }.holder 3 ≠ hcSecure) ∧
    (serving.ladder.fwRequest = none) ∧
    ((let j := { jobAt 0x0101 .running with steps := [(.rng, 100)] }
      let s := { withJob j with time := { serving.time with tick := 100 } }
      s.job 7 = some j ∧ s.waitsDraw j = true ∧ j.drawTick + s.cmdTimeout j.inst ≤ s.time.tick)) ∧
    (serving.job 7 = none) ∧
    ((withJob (jobAt 0x0101 .running)).job 7 = some (jobAt 0x0101 .running)) ∧
    ((let s := (serving.putBit .HST_STATUS_RNG_READY true).put .HST_STATUS_LIFECYCLE lcField
      s.bb.wrapSecret = none ∧ s.bit .HST_STATUS_RNG_READY = true ∧ s.zeroised = false ∧ s.lifeCycle = lcField)) ∧
    ({ serving with bb := { serving.bb with wrapSecret := some [] } }.bb.wrapSecret.isSome = true) ∧
    (serving.engines.akey = none) ∧
    (({ serving with engines := { serving.engines with akey := some [0, 1] } } : State).engines.akey = some [0, 1]) ∧
    (serving.store.walking = false) ∧
    ((let s := { serving with store := { serving.store with walking := true } }
      s.store.walking = true ∧ s.strandOpen = true ∧ s.store.walkTick ≤ s.time.tick ∧ s.walkAhead.filter s.walkTakes = [] ∧ 0 < s.odNat 0xB040 9 4096)) := by
  decide +kernel

/-- What Cards supposes holds of these states and operands. -/
theorem witness_Cards :
    ((let s := (serving.putBit .CRD_CFG_A_EN true).putBit (presFld 0) true
      s.portState 0 = psEmpty ∧ s.portEnabled 0 = true ∧ s.zeroised = false ∧ s.get (.PWR_GATEb_STATE 5) = 0)) ∧
    (((serving.setPortState 1 psIdle).putBit (presFld 1) true).portState 1 ≠ psEmpty) ∧
    ((serving.setPortState 0 psDone).portState 0 = psDone) ∧
    ((serving.setPortState 1 psSigning).portState 1 = psSigning) ∧
    (psDone ≠ psEmpty) ∧
    ((let s := serving.setPortState 0 psActivating
      s.portState 0 = psActivating ∧ (s.port 0).sent = [])) ∧
    ((let s := (serving.setPortState 0 psActivating).setPort 0 { CardPort.init with sent := [0xA4] }
      s.portState 0 = psActivating ∧ (s.port 0).sent = [0xA4])) ∧
    ((let s := (serving.setPortState 1 psActivating).setPort 1 { CardPort.init with sent := [0xA4, 0xCA] }
      s.portState 1 = psActivating ∧ (s.port 1).sent = [0xA4, 0xCA])) ∧
    ((let s := { serving.setPortState 1 psPinWait with time := { serving.time with tick := 70000 } }
      s.portState 1 = psPinWait ∧ (s.port 1).waitTick + s.inForceNat 0x1100 9 60000 ≤ s.time.tick)) ∧
    ((let s := { serving.setPortState 0 psSigning with time := { serving.time with tick := 10000 } }
      s.portState 0 = psSigning ∧ (s.port 0).pinTick + 10000 ≤ s.time.tick ∧ s.portState 0 ≠ psEmpty ∧ s.portState 0 ≠ psError)) ∧
    ((let s := (serving.setPortState 0 psPinWait).setPort 0 { CardPort.init with verifying := true, action := 5 }
      s.portState 0 = psPinWait ∧ (s.port 0).verifying = true)) ∧
    ((let s := serving.setPortState 1 psSigning
      s.portState 1 = psSigning ∧ (s.port 1).sig = none)) ∧
    ((let s := (serving.setPortState 1 psSigning).setPort 1 { CardPort.init with sig := some [] }
      s.portState 1 = psSigning ∧ (s.port 1).sig = some [] ∧ (s.cardVerified 1 (s.port 1) []).finishCreate.pair.ceremony = none)) ∧
    (serving.portState 0 = psEmpty) ∧
    (psEmpty ≠ psActivating) ∧
    ((serving.port 0).sig = none) ∧
    (serving.officers.zeroiseArm = none) ∧
    ((let s := serving.setSignet { serving.officers.signet with state := .isOpen }
      s.officers.signet.endTick ≤ s.time.tick ∧ s.officers.signet.live = true ∧ serving.officers.signet.live = false)) ∧
    ((let s := { serving with officers := { serving.officers with zeroiseArm := some 5 }, time := { serving.time with tick := 605 } }
      s.officers.zeroiseArm = some 5 ∧ 5 + 600 ≤ s.time.tick)) := by
  decide +kernel

/-- What Bezel supposes holds of these states and operands. -/
theorem witness_Bezel :
    ((serving.put .BZL_GEN_COMMITTED_GEN 7).get .BZL_GEN_ACTIVE_GEN ≠ (serving.put .BZL_GEN_COMMITTED_GEN 7).get .BZL_GEN_COMMITTED_GEN) ∧
    (serving.get .BZL_GEN_ACTIVE_GEN = serving.get .BZL_GEN_COMMITTED_GEN) ∧
    ((let s := serving.put .HST_STATUS_LIFECYCLE lcField
      s.modeOpen = true)) ∧
    ({ serving.worlds with modeWritten := true }.modeWritten = true) ∧
    (serving.get .WLD_GEN_ACTIVE_GEN = serving.get .WLD_GEN_COMMITTED_GEN) ∧
    ((serving.put .WLD_GEN_COMMITTED_GEN 7).get .WLD_GEN_ACTIVE_GEN ≠ (serving.put .WLD_GEN_COMMITTED_GEN 7).get .WLD_GEN_COMMITTED_GEN) ∧
    ((let s := { serving with worlds := { serving.worlds with bzl := (List.range 256).map (fun n => (0x10001008 + 64 * n, 0#32)) } }
      s.regionOf 0x10000000 = none)) ∧
    (openAll.regionOf 0x7F00000000 = some (0, 3)) ∧
    (openAll.regionOf 0x8000000000 = some (0, 4)) ∧
    (serving.service = false) ∧
    ((serving.putBit .BZL_STATUS_MODE true).service = true) ∧
    ((openAll.putBit .BZL_STATUS_MODE true).regionOf 0x7FFFFFFFFF = some (0, 3)) ∧
    ((serving.putBit .BZL_FAULT_INFO_VALID true).bit .BZL_FAULT_INFO_VALID = true) ∧
    (serving.bit .BZL_FAULT_INFO_VALID = false) := by
  decide +kernel

/-- What WorldSwitches supposes holds of these states and operands. -/
theorem witness_WorldSwitches :
    (serving.coreSecure 3 = true) ∧
    ((serving.put .WLD_STATUS_SECURE 0).coreSecure 3 = false) ∧
    ((let s := ((serving.put .WLD_STATUS_SECURE 0).put .WLD_IRQ_PEND_PEND 4).put .WLD_IRQ_WORLD_SECURE 4
      nbit (s.get .WLD_IRQ_PEND_PEND) 2 = true ∧ s.irqSecure 2 = true ∧ s.coreSecure (s.irqCore 2) = false)) ∧
    ((let s := ((serving.put .WLD_SLICE_US 100).put .WLD_IRQ_PEND_PEND 4).put .WLD_IRQ_WORLD_SECURE 0
      nbit (s.get .WLD_IRQ_PEND_PEND) 2 = true ∧ s.irqSecure 2 = false ∧ s.coreSecure (s.irqCore 2) = true ∧ s.get .WLD_SLICE_US ≠ 0 ∧ s.worlds.sliced = [])) ∧
    (serving.bit .WLD_L2_WAYS_BUSY = false) ∧
    (popCount 16 3 = 2) ∧
    (popCount 16 1 < 2) ∧
    (14 < popCount 16 0x7FFF) ∧
    (3 ≠ serving.get .WLD_L2_WAYS_SECURE) ∧
    ({ serving.worlds with l2Mask := some 3 }.l2Mask = some 3) ∧
    (4 > 3) ∧
    (serving.worlds.l2Mask = none) ∧
    (65536 ≥ 65536) ∧
    (nbit (serving.get .WLD_IRQ_PEND_PEND) 2 = false) := by
  decide +kernel

/-- What BusAccesses supposes holds of these states and operands. -/
theorem witness_BusAccesses :
    (2 ≤ agDeviceS) ∧
    (agDeviceS ≤ 7) ∧
    (agDeviceS ≠ agDmaN) ∧
    (0x1000000 + 4096 ≤ 2 ^ 40) ∧
    (agCpuN < 2) ∧
    (agCpuS = (if serving.coreSecure 1 then agCpuS else agCpuN)) ∧
    ((openAll.checkAccess agDmaN akWrite 0x2000000 16).1 = true) ∧
    (((openAll.checkAccess agDmaN akWrite 0x2000000 16).2.writeAt agDmaN 0x2000000 (padTo 16 (zeros 16))).1 = true) ∧
    (inSpan 0x10C03000 0x10C02000 0x10D00000 = true) ∧
    (inSpan bar2Base bar2Base (bar2Base + 0x400000) = true) ∧
    (inSpan 0x2000000 0x10C02000 0x10D00000 = false) ∧
    (serving.deviceState ≠ dsInert) ∧
    (inertShows 0x2000000 4 = false) ∧
    ((serving.put .HST_STATUS_DEVICE_STATE dsInert).deviceState = dsInert) ∧
    (8 > 7) ∧
    (2 ^ 40 + 1 > 2 ^ 40) ∧
    ((let s := serving.put (.WLD_DMAc_LEN_BYTES 1) 300
      s.bit (.WLD_DMAc_STATUS_BUSY 1) = false ∧ s.get (.WLD_DMAc_LEN_BYTES 1) ≠ 0)) ∧
    (serving.get (.WLD_DMAc_LEN_BYTES 1) = 0) ∧
    (mget (fun _ => none) serving.worlds.dmaRuns 1 = none) ∧
    (mget (fun _ => none) { serving.worlds with dmaRuns := mset (fun _ => none) [] 2 (some ⟨0x1000000, 0x2000000, 300⟩) }.dmaRuns 2 = some ⟨0x1000000, 0x2000000, 300⟩) ∧
    ((serving.wakeNap 6).lifeCycle ≠ lcScrap) ∧
    (((serving.put .LCS_DEBUG_ENABLES 4).wakeNap 6).dapAgent true = some agDebugN) ∧
    (4096 ∈ dapSizes) ∧
    ((serving.wakeNap 6).dapAgent false = none) ∧
    (((serving.put .HST_STATUS_LIFECYCLE lcScrap).wakeNap 6).lifeCycle = lcScrap) ∧
    (3 ∉ dapSizes) := by
  decide +kernel

/-- What LoopsAndClocks supposes holds of these states and operands. -/
theorem witness_LoopsAndClocks :
    (serving.mainRuns = true) ∧
    (serving.lifeCycle < lcScrap) ∧
    (State.reset.mainRuns = false) ∧
    ((serving.put .HST_STATUS_LIFECYCLE lcScrap).lifeCycle ≥ lcScrap) ∧
    (serving.deviceState ≠ dsInert) ∧
    ((serving.put .ALM_CLK_STATUS_ARMED 8).monitorArmed 3 = true) ∧
    ((let s := (serving.put .ALM_CLK_STATUS_ARMED 8).put .ALM_CLK_STATUS_OUT_OF_RANGE 8
      s.monitorArmed 3 = true ∧ nbit ((s.put (.ALM_CLK_DEVc_DEV 3) 300).get .ALM_CLK_STATUS_OUT_OF_RANGE) 3 = true)) ∧
    (serving.monitorArmed 1 = false) ∧
    ((serving.put .ALM_CLK_STATUS_ARMED 1).monitorArmed 0 = true) ∧
    (2 ≤ 4) ∧
    (1 < 2) ∧
    (serving.bb.lost = false) := by
  decide +kernel

/-- What ErasuresAndHalt supposes holds of these states and operands. -/
theorem witness_ErasuresAndHalt :
    ((serving.putBit .ALM_STATUS_PURGING true).bit .ALM_STATUS_PURGING = true) ∧
    ((serving.putBit .ALM_STATUS_PURGING true).zeroised = false) ∧
    (serving.bit .ALM_STATUS_PURGING = false) ∧
    ({ serving.alarm with zeroising := true }.zeroising = true) ∧
    (serving.alarm.zeroising = false) ∧
    ((serving.putBit .ALM_STATUS_HALTED true).zeroised = false) ∧
    ((serving.putBit .ALM_STATUS_HALTED true).bit .ALM_STATUS_PURGING = false) ∧
    ((serving.putBit .ALM_STATUS_HALTED true).levelHolds = false) ∧
    ((serving.putBit .ALM_STATUS_HALTED true).halted = true) ∧
    ((serving.putBit .ALM_STATUS_ZEROISED true).zeroised = true) := by
  decide +kernel

/-- What Polishing supposes holds of these states and operands. -/
theorem witness_Polishing :
    ((let s := { (serving.putBit .BGN_POL_CTRL_ENABLE true) with time := { serving.time with tick := 70000 } }
      s.bit (clusterOf false).polEnableFld = true ∧ (s.cluster (clusterOf false)).polSlot + s.get (clusterOf false).polIntervalFld ≤ s.time.tick ∧ s.power.mode = .active ∧ s.bit (clusterOf false).polBusyFld = false ∧ s.halted = false)) ∧
    (serving.bit (clusterOf false).polEnableFld = false ∨ serving.time.tick < (serving.cluster (clusterOf false)).polSlot + serving.get (clusterOf false).polIntervalFld) ∧
    ((serving.moveCore .big 0 csPolishing).coreState .big ((serving.moveCore .big 0 csPolishing).get (clusterOf false).polCoreFld) = csPolishing) ∧
    ((serving.moveCore .big 0 csPolishing).halted = false) ∧
    (clusterOf false = .big) ∧
    (serving.coreState .big (serving.get (clusterOf false).polCoreFld) ≠ csPolishing) ∧
    ((serving.cluster .big).test = none) := by
  decide +kernel

/-- What NapAndSleep supposes holds of these states and operands. -/
theorem witness_NapAndSleep :
    (up.power.mode = .active) ∧
    (up.napBars.find? (fun b => b.2) = none) ∧
    ((withJob (jobAt 0x0101 .running)).napBars.find? (fun b => b.2) = some (1, true)) ∧
    (State.reset.power.mode ≠ .active) ∧
    (up.odNat 0x8000 8 0 = 0) ∧
    ({ up.time with tick := 239999999 }.tick + 1 ≥ 240000000) ∧
    ({ up.power with mode := .leavingNap }.mode = .leavingNap) ∧
    (serving.sleepBarred = true) ∧
    (up.sleepBarred = false) ∧
    ({ up.power with mode := .nap }.mode = .nap) ∧
    ({ up.power with mode := .off }.mode = .off) ∧
    (up.power.mode ≠ .enteringSleep) ∧
    ({ up.power with mode := .enteringSleep }.mode = .enteringSleep) := by
  decide +kernel

/-- What Gates supposes holds of these states and operands. -/
theorem witness_Gates :
    ((up.put .PWR_LOCK_LOCK 0).gateLocked 11 = false) ∧
    ((up.put .PWR_LOCK_LOCK 2048).gateLocked 11 = true) ∧
    (mget (fun _ => none) { up.power with changing := mset (fun _ => none) [] 4 (some 2) }.changing 4 = some 2) ∧
    (mget (fun _ => none) up.power.changing 4 = none) ∧
    (up.worlds.deferred = none) ∧
    ({ up.worlds with deferred := some (4, 1) }.deferred.isSome = true) ∧
    (mget (fun _ => none) up.power.orders (1 + 7) = none) ∧
    ({ up.worlds with deferred := some (4, 1) }.deferred = some (4, 1)) ∧
    (mget (fun _ => none) { up.power with orders := mset (fun _ => none) [] 8 (some 2) }.orders (1 + 7) = some 2) ∧
    ((up.put .WLD_STATUS_SECURE 0).coreSecure 1 = false) ∧
    (up.coreSecure 1 = true) := by
  decide +kernel

/-- What ResetAndSupplies supposes holds of these states and operands. -/
theorem witness_ResetAndSupplies :
    (up.power.mode ≠ .off) ∧
    ({ up.power with mode := .off }.mode = .off) ∧
    (up.power.mode ≠ .sleep) ∧
    ({ up.power with porN := false }.porN = false) ∧
    ({ up.power with sysRstN := false }.sysRstN = false) ∧
    ({ up.power with mode := .sleep }.mode = .sleep) ∧
    (up.power.mode = .active) ∧
    (2000 ≤ 2000) ∧
    (up.power.vddAon = true) ∧
    ({ up.power with vddAon := false }.vddAon = false) ∧
    (up.mainRuns = true) ∧
    ({ up.host with perstN := false }.perstN = false) ∧
    (up.host.perstN = true) ∧
    (5 ∈ endpoint.linkRates) ∧
    (8 ∈ endpoint.linkWidths) ∧
    (State.reset.mainRuns = false) ∧
    (7 ∉ endpoint.linkRates) ∧
    (3 ∉ endpoint.linkWidths) ∧
    ({ up.power with porN := true, sysRstN := true }.porN = true) ∧
    ((up.put .HST_STATUS_DEVICE_STATE dsRecovery).deviceState = dsRecovery) ∧
    (up.deviceState ≠ dsRecovery) := by
  decide +kernel

/-- What ManagementFrames supposes holds of these states and operands. -/
theorem witness_ManagementFrames :
    (up.mgpOn = true) ∧
    (macDrops (zeros 59) = true) ∧
    (macDrops ([0x33#8, 0x33#8, 0#8, 0#8, 0#8, 1#8] ++ zeros 54) = false) ∧
    ((up.put .MGP_RXD_HEAD_HEAD 128).rxdHeld = 128) ∧
    (up.rxdHeld ≠ 128) ∧
    (min (min 60 1514) (8 * (8192 - up.mgp.used)) = min 60 1514) ∧
    (up.get .MGP_TX_LEN_BYTES < 14) ∧
    (up.mgp.tx = none) ∧
    (up.rxdHeld = 0) ∧
    ((0 + 256 - up.get .MGP_RXD_TAIL_TAIL) % 256 = 0) ∧
    ((let s := (openAll.put .MGP_TX_LEN_BYTES 60).put .MGP_TX_ADDR_ADDR 0x1000000
      s.bit .MGP_TX_STATUS_BUSY = false ∧ s.mgpOn = true ∧ s.get .MGP_TX_LEN_BYTES = 60 ∧ (s.checkAccess agDeviceS akRead 0x1000000 60).1 = true)) ∧
    ({ up.mgp with tx := some (zeros 60) }.tx = some (zeros 60)) ∧
    (({ up with mgp := { up.mgp with beacon := true } } : State).mgpLink = true) := by
  decide +kernel

/-- What ManagementSessions supposes in a clause holds of a state. -/
theorem witness_ManagementSessions_1 :
    ∃ s : State, s.sessionsOpen = true := by
  let u : State := (serving.odStore 0xA030 3 (some [1#8])).putBit .HST_STATUS_RNG_READY true
  let v : State := { u with
    ladder := { u.ladder with available := true, vd := some [] }
    lcs := { u.lcs with deviceSecret := some [] }
    bb := { u.bb with wrapSecret := some [] } }
  have hw : v.mgmtWrap.isSome = true := by decide +kernel
  obtain ⟨w, hw⟩ := Option.isSome_iff_exists.mp hw
  let x : State := { v with mgp := { v.mgp with key := some ([], w) } }
  have h1 : x.mgpOn = true := by show v.mgpOn = true; decide +kernel
  have h2 : x.power.mode ≠ .enteringSleep := by show v.power.mode ≠ _; decide +kernel
  have h3 : x.mgmtKey = some [] := by
    have : x.mgmtWrap = some w := hw
    unfold State.mgmtKey
    rw [this]
    show (if (w == w) = true then some [] else none) = _
    simp
  have h4 : x.odBytes 0xA030 3 ≠ [] := by show v.odBytes 0xA030 3 ≠ []; decide +kernel
  have h5 : x.bit .HST_STATUS_RNG_READY = true := by show v.bit .HST_STATUS_RNG_READY = true; decide +kernel
  have h6 : x.zeroised = false := by show v.zeroised = false; decide +kernel
  refine ⟨x, ?_⟩
  simp [State.sessionsOpen, State.mgmtCert, h1, h2, h3, h4, h5, h6]

/-- What ManagementSessions supposes holds of these states and operands. -/
theorem witness_ManagementSessions :
    (serving.sessionsOpen = false) ∧
    ((serving.setSession 7 { Session.init with st := 1 }).session 7 = { Session.init with st := 1 }) ∧
    ((let s := { serving.setSession 2 { Session.init with st := 2 } with time := { serving.time with tick := 300000 } }
      (s.session 2).st ≠ 0 ∧ (s.session 2).lastTick + s.odNat 0xA010 3 300000 ≤ s.time.tick)) ∧
    (msgType (le 2 0x0101) = 1) ∧
    (msgType (le 2 0x0201) = 2) ∧
    (msgType (le 2 0x0301) = 3) ∧
    ((let s := serving.setSession 7 { Session.init with st := 2 }
      s.sessionLive 7 = true)) ∧
    (msgOk (le 8 0x0301 ++ zeros 8) = true) ∧
    (msgType (le 8 0x0301 ++ zeros 8) = 3) ∧
    ((serving.setSession 1 { Session.init with st := 2, credits := 4 }).session 1 = { Session.init with st := 2, credits := 4 }) ∧
    (Session.init.cache = []) ∧
    ((serving.put .MGP_OD_REQ_ADDR 0x1000000).get .MGP_OD_REQ_ADDR = 0x1000000) ∧
    (3 ≤ 3) ∧
    (0xFF = 0xFF) ∧
    (4 > 3) ∧
    ((serving.session 2).st = 0) ∧
    (serving.sessionLive 2 = false) ∧
    ((let s := serving.setSession 7 { Session.init with st := 2, credits := 4, cache := [(0, [])] }
      s.sessionLive 7 = true ∧ (s.session 7).credits ≠ 0 ∧ (s.session 7).cache.find? (fun e => e.1 == 0) = some (0, []))) ∧
    (msgOk [] = false) ∧
    (msgType [] ≠ 1) := by
  decide +kernel

/-- What RegisterWrites supposes holds of these states and operands. -/
theorem witness_RegisterWrites :
    (0x10C10000 % 4 = 0) ∧
    ((regRow 0x10C01000).any (fun r => r.admits .normal 0x1000#32 && !r.admits .normal 0x1001#32) = true) ∧
    (regTable.any (fun r => r.fields.all (fun f => decide (31 < f.lo) || decide (f.hi < 31))) = true) ∧
    ((let s := { up with worlds := { up.worlds with bzl := mset regReset [] (Fld.BZL_RGNn_CTRL_LOCK 7).addr 0xFFFFFFFF#32 } }
      s.bzlActive (.BZL_RGNn_CTRL_LOCK 7) = 1)) := by
  decide +kernel

/-- What StrandSettings supposes holds of these states and operands. -/
theorem witness_StrandSettings :
    ((serving : State).passes req 0x5000 6 (le 1 1) = true) ∧
    (({ up with bb := { up.bb with pairSecret := some [] }, restore := { up.restore with state := .empty } } : State).passes req 0x5010 4 (le 1 1) = true) ∧
    (({ serving with restore := { serving.restore with state := .claspWait } } : State).passes req 0x5020 0x16 (le 1 1) = true) ∧
    (((serving.putBit .HST_STATUS_RNG_READY true).put .HST_STATUS_LIFECYCLE lcField : State).passes req 0x5020 0x10 (le 1 1) = true) ∧
    ((serving : State).passes req 0x5020 0x12 (le 1 1) = true) ∧
    (({ linked with pair := { linked.pair with partnerReady := some (0, 1) } } : State).passes req 0x5020 0xd (le 1 1) = true) ∧
    ((serving : State).passes req 0x5020 0xe (le 1 1) = true) ∧
    ((serving : State).passes req 0x5020 0xf (le 1 1) = true) ∧
    ((odRow 0x5000 6).any (fun r => serving.writeFault req r 0x5000 6 r.type.code (le 1 0) == some .range) = true) ∧
    (serving.failsWith req 0x5000 6 (le 1 0) = some .range) := by
  decide +kernel

/-- What OfficerSettings supposes holds of these states and operands. -/
theorem witness_OfficerSettings :
    (((serving.putBit .HST_STATUS_RNG_READY true) : State).passes req 0x1100 2 (le 2 1 ++ le 2 0x6010 ++ le 1 2 ++ zeros 64) = true) ∧
    ((serving : State).passes req 0x1100 3 (le 1 1) = true) ∧
    ((serving : State).passes { req with src := .session 1, role := .officer } 0x1100 0xe (le 1 1) = true) ∧
    (((serving.put .HST_STATUS_LIFECYCLE lcBlank) : State).passes req 0xF000 3 (zeros 12) = true) ∧
    ((up : State).passes req 0x8000 3 (le 1 1) = true) ∧
    (serving.passes { req with src := .session 1, role := .officer } 0x1100 0xC (zeros 4) = true) ∧
    (serving.passes req (0xA020 + 7) 8 (le 1 1) = true) ∧
    (({ serving with time := { serving.time with anchor := some (0, 60) } } : State).passes req 0x6010 1 (le 8 61) = true) ∧
    (up.passes req 0x8000 2 (le 1 1) = true) ∧
    ((up.requestNap false).power.mode = .nap) ∧
    (((withJob (jobAt 0x0101 .running)).requestNap false).power.mode ≠ .nap) ∧
    ((withJob (jobAt 0x0101 .running)).passes req 0x8000 2 (le 1 1) = true) ∧
    (serving.passes req 0x9030 2 (zeros 576) = true) ∧
    ((serving.debugToken (zeros 576)).1 = some .wrongState) ∧
    (serving.failsWith req 0x8000 3 (le 1 0) = some .range) ∧
    (serving.failsWith req (0xA020 + 99) 8 (le 1 1) = some .noEntry) := by
  decide +kernel

/-- What SignetSettings supposes in a clause holds of a state. -/
theorem witness_SignetSettings_1 :
    ({ { serving with restore := { serving.restore with state := .refused } } with officers := { ({ serving with restore := { serving.restore with state := .refused } } : State).officers with signet := { ({ serving with restore := { serving.restore with state := .refused } } : State).officers.signet with state := .complete, action := 1, index := 0x5010, sub := 6, endTick := 9, valueHash := Config.sha512 (le 1 1) } } } : State).passes req 0x5010 6 (le 1 1) = true := by
  unfold State.passes State.writeFault
  have hcov : ({ { serving with restore := { serving.restore with state := .refused } } with officers := { ({ serving with restore := { serving.restore with state := .refused } } : State).officers with signet := { ({ serving with restore := { serving.restore with state := .refused } } : State).officers.signet with state := .complete, action := 1, index := 0x5010, sub := 6, endTick := 9, valueHash := Config.sha512 (le 1 1) } } } : State).signetCovers 0x5010 6 (le 1 1) = true := by
    simp [State.signetCovers]
    try decide
  simp only [hcov]
  decide +kernel

/-- What SignetSettings supposes in a clause holds of a state. -/
theorem witness_SignetSettings_2 :
    ({ (linked.putBit .HST_STATUS_RNG_READY true) with officers := { ((linked.putBit .HST_STATUS_RNG_READY true) : State).officers with signet := { ((linked.putBit .HST_STATUS_RNG_READY true) : State).officers.signet with state := .complete, action := 1, index := 0x5020, sub := 0x11, endTick := 9, valueHash := Config.sha512 (le 8 5) } } } : State).passes req 0x5020 0x11 (le 8 5) = true := by
  unfold State.passes State.writeFault
  have hcov : ({ (linked.putBit .HST_STATUS_RNG_READY true) with officers := { ((linked.putBit .HST_STATUS_RNG_READY true) : State).officers with signet := { ((linked.putBit .HST_STATUS_RNG_READY true) : State).officers.signet with state := .complete, action := 1, index := 0x5020, sub := 0x11, endTick := 9, valueHash := Config.sha512 (le 8 5) } } } : State).signetCovers 0x5020 0x11 (le 8 5) = true := by
    simp [State.signetCovers]
    try decide
  simp only [hcov]
  decide +kernel

/-- What SignetSettings supposes in a clause holds of a state. -/
theorem witness_SignetSettings_3 :
    ({ serving with officers := { (serving : State).officers with signet := { (serving : State).officers.signet with state := .complete, action := 1, index := 0x6010, sub := 2, endTick := 9, valueHash := Config.sha512 (le 1 1) } } } : State).passes req 0x6010 2 (le 1 1) = true := by
  unfold State.passes State.writeFault
  have hcov : ({ serving with officers := { (serving : State).officers with signet := { (serving : State).officers.signet with state := .complete, action := 1, index := 0x6010, sub := 2, endTick := 9, valueHash := Config.sha512 (le 1 1) } } } : State).signetCovers 0x6010 2 (le 1 1) = true := by
    simp [State.signetCovers]
    try decide
  simp only [hcov]
  decide +kernel

/-- What SignetSettings supposes in a clause holds of a state. -/
theorem witness_SignetSettings_4 :
    ({ serving with officers := { (serving : State).officers with signet := { (serving : State).officers.signet with state := .complete, action := 1, index := 0x6031, sub := 3, endTick := 9, valueHash := Config.sha512 (le 8 5) } } } : State).passes req 0x6031 3 (le 8 5) = true := by
  unfold State.passes State.writeFault
  have hcov : ({ serving with officers := { (serving : State).officers with signet := { (serving : State).officers.signet with state := .complete, action := 1, index := 0x6031, sub := 3, endTick := 9, valueHash := Config.sha512 (le 8 5) } } } : State).signetCovers 0x6031 3 (le 8 5) = true := by
    simp [State.signetCovers]
    try decide
  simp only [hcov]
  decide +kernel

/-- What SignetSettings supposes in a clause holds of a state. -/
theorem witness_SignetSettings_5 :
    ({ serving with officers := { (serving : State).officers with signet := { (serving : State).officers.signet with state := .complete, action := 1, index := 0x7000, sub := 4, endTick := 9, valueHash := Config.sha512 (le 1 3) } } } : State).passes req 0x7000 4 (le 1 3) = true := by
  unfold State.passes State.writeFault
  have hcov : ({ serving with officers := { (serving : State).officers with signet := { (serving : State).officers.signet with state := .complete, action := 1, index := 0x7000, sub := 4, endTick := 9, valueHash := Config.sha512 (le 1 3) } } } : State).signetCovers 0x7000 4 (le 1 3) = true := by
    simp [State.signetCovers]
    try decide
  simp only [hcov]
  decide +kernel

/-- What SignetSettings supposes holds of these states and operands. -/
theorem witness_SignetSettings :
    (serving.passes req 0x7000 3 (le 1 255) = true) ∧
    (serving.passes req (0x7010 + 12) 2 (le 1 3) = true) ∧
    ((let s := ({ serving with ladder := { serving.ladder with available := true, vd := some [] }, lcs := { serving.lcs with deviceSecret := some [] }, bb := { serving.bb with wrapSecret := some [] } } : State).putBit .HST_STATUS_RNG_READY true
      s.passes req 0xA030 1 (le 1 1) = true ∧ s.passes req 0xA030 3 [] = true)) ∧
    (serving.passes req 0xB040 8 (le 1 0) = true) ∧
    (serving.passes req (0x4000 + 4095) 4 (le 4 1) = true) ∧
    (serving.failsWith req 0x6010 2 (le 1 0) = some .range) := by
  decide +kernel

/-- What LimitedWrites supposes holds of these states and operands. -/
theorem witness_LimitedWrites :
    (((({ serving with lcs := { serving.lcs with deviceSecret := some [], identity := some [], slots := List.replicate 4 { hash := zeros 64, checkOk := true, revoked := false } }, bb := { serving.bb with wrapSecret := some [] } } : State).put .HST_STATUS_LIFECYCLE lcBlank).put .LCS_STATUS_PENDING lcBlank : State).passes { req with src := .secureFirmware, role := .secure } 0x9000 2 (le 1 1) = true) ∧
    ((serving : State).passes { req with src := .secureFirmware, role := .secure } (0x9010 + 3) 1 (zeros 64) = true) ∧
    (({ serving with lcs := { serving.lcs with slots := List.replicate 4 { hash := zeros 64, checkOk := true, revoked := false } } } : State).passes { req with src := .secureFirmware, role := .secure } (0x9010 + 3) 2 (le 1 1) = true) ∧
    (({ serving with ladder := { serving.ladder with svn := 9 } } : State).passes { req with src := .secureFirmware, role := .secure } 0x9020 1 (le 1 9) = true) ∧
    ((({ serving with lcs := { serving.lcs with running := true, slots := List.replicate 4 { hash := List.replicate 64 1#8, checkOk := true, revoked := false } } } : State).putBit .LAT_COSIG_CHECKED true : State).passes { req with src := .secureFirmware, role := .secure } 0x9021 1 (le 1 1) = true) ∧
    (({ serving with lcs := { serving.lcs with running := true } } : State).passes { req with src := .secureFirmware, role := .secure } 0x9022 1 (le 1 1) = true) ∧
    (((serving.put .HST_STATUS_LIFECYCLE lcBlank).putBit .HST_STATUS_RNG_READY true).passes { req with src := .secureFirmware, role := .secure } 0xF000 1 (le 1 1) = true) ∧
    ((serving.put .HST_STATUS_LIFECYCLE lcBlank).passes { req with src := .secureFirmware, role := .secure } 0xF000 2 (zeros 64) = true) ∧
    (({ serving.lcs with programming := some (.cosig, some 4) } : Lcs).programming = some (.cosig, some 4)) ∧
    (({ serving.lcs with programming := some (.install [] 5 [], none) } : Lcs).programming = some (.install [] 5 [], none)) ∧
    (serving.lcs.programming = none) ∧
    ((serving.lcs.slot 3).state = 0) ∧
    (serving.lcs.floor ≤ 0) ∧
    (serving.lcs.compat = false) ∧
    ({ serving.lcs with running := true }.running = true) ∧
    (serving.bit .LCS_BOOT_COMPAT = false) ∧
    ((serving.failsWith req 0x9020 1 (le 1 0)).isSome = true) := by
  decide +kernel

/-- What EventPosts supposes holds of these states and operands. -/
theorem witness_EventPosts :
    (0xF000 ≤ 0xFEFF) ∧
    (sevCritical ≤ sevCritical) ∧
    (0xEFFF < 0xF000) ∧
    (0xFF00 ≤ 0xFFFF) ∧
    (sevWarning ≤ sevWarning) ∧
    (sevWarning < sevWarning + 1) := by
  decide +kernel

/-- What EventBins supposes holds of these states and operands. -/
theorem witness_EventBins :
    ((List.replicate 8 0).length = 8) ∧
    (7 < 8) ∧
    (2 ^ 64 - 1 < 2 ^ 64) ∧
    ((serving.evList.find? (fun e => e.2.isOpen && e.2.code == 0x0101 && e.2.severity == 3)) = none) ∧
    (serving.evOpened 0x0101 < 4) ∧
    (serving.evTake 3 = some 0) := by
  decide +kernel

/-- What RngTestRegisters supposes holds of these states and operands. -/
theorem witness_RngTestRegisters :
    ((serving.put .HST_STATUS_LIFECYCLE lcScrap).lifeCycle = lcScrap) := by
  decide +kernel

/-- What ResetBezel supposes holds of these states and operands. -/
theorem witness_ResetBezel :
    (0x10000000 < 0x10200000) := by
  decide +kernel

/-- What MemoryLaws supposes in a clause holds of a state. -/
theorem witness_MemoryLaws_1 :
    (serving.setBytes 100 [1#8, 2#8]).Inv := by
  show Memory.wf _ = true
  decide +kernel

/-- What MemoryLaws supposes holds of these states and operands. -/
theorem witness_MemoryLaws :
    ((List.replicate 8 5#64).length = 8) := by
  decide +kernel

/-- What CommandsAnswer supposes in a clause holds of a state. -/
theorem witness_CommandsAnswer_1 :
    (serving.setBytes 100 [1#8, 2#8]).Inv := by
  show Memory.wf _ = true
  decide +kernel

/-- What StepRunsFront supposes holds of these states and operands. -/
theorem witness_StepRunsFront :
    ({ serving with pending := [Instr.tickIncrement] }.pending = [Instr.tickIncrement]) ∧
    (State.reset.pending = []) := by
  decide +kernel

/-- What StepKeepsForm supposes in a clause holds of a state. -/
theorem witness_StepKeepsForm_1 :
    (serving.setBytes 100 [1#8, 2#8]).Inv := by
  show Memory.wf _ = true
  decide +kernel

end Sys2Proof.Tests
end

section
/-! Memory as bytes under a write, and the line scrambler undone: each pair of words, each round, the whole line. -/

namespace Sys2Proof.Machine

/-! ## Memory -/

/-- The frame of a write of bytes: no field of the state but memory. -/
theorem State.setBytes_eq_with_mem (s : State) (a : Nat) (b : Bytes) :
    s.setBytes a b = { s with mem := (s.setBytes a b).mem } := by
  induction b generalizing s a with
  | nil => rfl
  | cons x t ih => exact ih (s.setByte a x) (a + 1)

theorem State.byte_setBytes (s : State) (a : Nat) (b : Bytes) (x : Nat) :
    (s.setBytes a b).byte x = if a ≤ x ∧ x < a + b.length then b.getD (x - a) 0#8 else s.byte x := by
  split
  case isTrue h =>
    obtain ⟨i, rfl⟩ := Nat.exists_eq_add_of_le h.1
    have hi : i < b.length := by omega
    rw [s.byte_setBytes_in a i b hi, Nat.add_sub_cancel_left, List.getD_eq_getElem _ _ hi]
  case isFalse h => exact s.byte_setBytes_out a x b (by omega)

/-! ## A pair of neighbouring words of a line -/

/-- Words `2 * i` and `2 * i + 1` of a line. -/
def pairAt (w : List (BitVec 64)) (i : Nat) : BitVec 64 × BitVec 64 := (w.getD (2 * i) 0#64, w.getD (2 * i + 1) 0#64)

/-- The line with words `2 * i` and `2 * i + 1` replaced. -/
def setPair (w : List (BitVec 64)) (i : Nat) (p : BitVec 64 × BitVec 64) : List (BitVec 64) :=
  (w.set (2 * i) p.1).set (2 * i + 1) p.2

@[simp] theorem length_setPair (w : List (BitVec 64)) (i : Nat) (p : BitVec 64 × BitVec 64) :
    (setPair w i p).length = w.length := by
  simp [setPair]

theorem pairAt_setPair_same (w : List (BitVec 64)) (i : Nat) (p : BitVec 64 × BitVec 64) (h : 2 * i + 1 < w.length) :
    pairAt (setPair w i p) i = p := by
  have h0 : 2 * i < w.length := by omega
  simp [pairAt, setPair, h, h0]

theorem pairAt_setPair_ne (w : List (BitVec 64)) {i j : Nat} (p : BitVec 64 × BitVec 64) (h : i ≠ j) :
    pairAt (setPair w j p) i = pairAt w i := by
  have hne : 2 * j ≠ 2 * i ∧ 2 * j + 1 ≠ 2 * i ∧ 2 * j ≠ 2 * i + 1 ∧ 2 * j + 1 ≠ 2 * i + 1 := by omega
  simp [pairAt, setPair, hne]

theorem setPair_setPair_same (w : List (BitVec 64)) (i : Nat) (p q : BitVec 64 × BitVec 64) :
    setPair (setPair w i p) i q = setPair w i q := by
  simp only [setPair]
  rw [List.set_comm p.2 q.1 (by omega), List.set_set, List.set_set]

theorem setPair_comm (w : List (BitVec 64)) {i j : Nat} (p q : BitVec 64 × BitVec 64) (h : i ≠ j) :
    setPair (setPair w j q) i p = setPair (setPair w i p) j q := by
  simp only [setPair]
  rw [List.set_comm q.2 p.1 (by omega), List.set_comm q.1 p.1 (by omega), List.set_comm q.2 p.2 (by omega),
    List.set_comm q.1 p.2 (by omega)]

theorem setPair_pairAt (w : List (BitVec 64)) (i : Nat) (h : 2 * i + 1 < w.length) : setPair w i (pairAt w i) = w := by
  have h0 : 2 * i < w.length := by omega
  simp [pairAt, setPair, h, h0]

/-! ## The mix of one pair and its undoing (R235) -/

theorem rotateRight_rotl64 (x : BitVec 64) (n : Nat) : (rotl64 x n).rotateRight n = x := by
  ext i hi
  simp only [rotl64, BitVec.getElem_rotateRight, BitVec.getElem_rotateLeft]
  by_cases h : i < 64 - n % 64
  · simp [h]
  · have hlow : i - (64 - n % 64) < n % 64 := by omega
    have hback : 64 - n % 64 + (i - (64 - n % 64)) = i := by omega
    simp [h, hlow, hback]

/-- The mix of two words: `m` stands for the key word and the line address, `n` for the rotation. -/
def mixPair (m : BitVec 64 → BitVec 64) (n : Nat) (p : BitVec 64 × BitVec 64) : BitVec 64 × BitVec 64 :=
  (p.1 + m p.2, rotl64 p.2 n ^^^ (p.1 + m p.2))

/-- The words a mixed pair came from. -/
def unmixPair (m : BitVec 64 → BitVec 64) (n : Nat) (p : BitVec 64 × BitVec 64) : BitVec 64 × BitVec 64 :=
  (p.1 - m ((p.2 ^^^ p.1).rotateRight n), (p.2 ^^^ p.1).rotateRight n)

/-- The xor of a mixed pair is its old second word turned; with that word the first one's addend is known. -/
theorem unmixPair_mixPair (m : BitVec 64 → BitVec 64) (n : Nat) (p : BitVec 64 × BitVec 64) :
    unmixPair m n (mixPair m n p) = p := by
  have hsnd : (rotl64 p.2 n ^^^ (p.1 + m p.2) ^^^ (p.1 + m p.2)).rotateRight n = p.2 := by
    rw [BitVec.xor_assoc, BitVec.xor_self, BitVec.xor_zero, rotateRight_rotl64]
  simp only [unmixPair, mixPair, hsnd, BitVec.add_sub_cancel]

section
variable (k : List (BitVec 64)) (t : BitVec 64)

/-- What pair `i` of round `r` adds to its first word, given the second. -/
def pairAddend (r i : Nat) (b : BitVec 64) : BitVec 64 := b ^^^ k.getD ((r + i) % 4) 0#64 ^^^ t

/-- The rotation of pair `i` of round `r`. -/
def pairRot (r i : Nat) : Nat := (scrambleRot.getD r []).getD i 0

theorem scramblePair_eq (r i : Nat) (w : List (BitVec 64)) :
    scramblePair k t r i w = setPair w i (mixPair (pairAddend k t r i) (pairRot r i) (pairAt w i)) := rfl

theorem unscramblePair_eq (r i : Nat) (w : List (BitVec 64)) :
    unscramblePair k t r i w = setPair w i (unmixPair (pairAddend k t r i) (pairRot r i) (pairAt w i)) := rfl

@[simp] theorem length_scramblePair (r i : Nat) (w : List (BitVec 64)) :
    (scramblePair k t r i w).length = w.length := by
  rw [scramblePair_eq, length_setPair]

theorem unscramblePair_scramblePair_same (r i : Nat) (w : List (BitVec 64)) (h : 2 * i + 1 < w.length) :
    unscramblePair k t r i (scramblePair k t r i w) = w := by
  rw [unscramblePair_eq, scramblePair_eq, pairAt_setPair_same _ _ _ h, unmixPair_mixPair, setPair_setPair_same,
    setPair_pairAt _ _ h]

theorem unscramblePair_scramblePair_comm (r : Nat) {i j : Nat} (w : List (BitVec 64)) (h : i ≠ j) :
    unscramblePair k t r i (scramblePair k t r j w) = scramblePair k t r j (unscramblePair k t r i w) := by
  simp only [unscramblePair_eq, scramblePair_eq]
  rw [pairAt_setPair_ne _ _ h, pairAt_setPair_ne _ _ h.symm, setPair_comm _ _ _ h]

/-! ## A round and its undoing -/

theorem length_foldl_scramblePair (r : Nat) (is : List Nat) (w : List (BitVec 64)) :
    (is.foldl (fun w i => scramblePair k t r i w) w).length = w.length := by
  induction is generalizing w with
  | nil => rfl
  | cons i is ih => rw [List.foldl_cons, ih, length_scramblePair]

/-- Undoing a pair passes through the mixes of all the others. -/
theorem unscramblePair_foldl_scramblePair_comm (r i : Nat) (is : List Nat) (w : List (BitVec 64)) (h : i ∉ is) :
    unscramblePair k t r i (is.foldl (fun w i => scramblePair k t r i w) w) =
      is.foldl (fun w i => scramblePair k t r i w) (unscramblePair k t r i w) := by
  induction is generalizing w with
  | nil => rfl
  | cons j is ih =>
    obtain ⟨hij, his⟩ := not_or.mp (mt List.mem_cons.mpr h)
    rw [List.foldl_cons, List.foldl_cons, ih _ his, unscramblePair_scramblePair_comm k t r w hij]

/-- Distinct pairs that lie in the line come back, undone in the order in which they were mixed. -/
theorem foldl_unscramblePair_foldl_scramblePair (r : Nat) (is : List Nat) (w : List (BitVec 64)) (hn : is.Nodup)
    (hw : ∀ i ∈ is, 2 * i + 1 < w.length) :
    is.foldl (fun w i => unscramblePair k t r i w) (is.foldl (fun w i => scramblePair k t r i w) w) = w := by
  induction is generalizing w with
  | nil => rfl
  | cons i is ih =>
    obtain ⟨hi, hn⟩ := List.nodup_cons.mp hn
    obtain ⟨hwi, hw⟩ := List.forall_mem_cons.mp hw
    rw [List.foldl_cons, List.foldl_cons, unscramblePair_foldl_scramblePair_comm k t r i is _ hi,
      unscramblePair_scramblePair_same k t r i w hwi, ih w hn hw]

/-- One round of the unmix: the words move up by one, then the four pairs are undone. -/
def unscrambleRound (w : List (BitVec 64)) (r : Nat) : List (BitVec 64) :=
  (List.range 4).foldl (fun w i => unscramblePair k t r i w) (w.drop 7 ++ w.take 7)

theorem length_scrambleRound (w : List (BitVec 64)) (r : Nat) : (scrambleRound k t w r).length = w.length := by
  simp only [scrambleRound, List.length_append, List.length_drop, List.length_take, length_foldl_scramblePair]
  omega

theorem drop_seven_append_take_seven_of_drop_one (w : List (BitVec 64)) (h : w.length = 8) :
    (w.drop 1 ++ w.take 1).drop 7 ++ (w.drop 1 ++ w.take 1).take 7 = w := by
  rw [← List.rotate_eq_drop_append_take (l := w) (by omega),
    ← List.rotate_eq_drop_append_take (by simp [h]), List.rotate_rotate, show 1 + 7 = w.length by omega,
    List.rotate_length]

theorem unscrambleRound_scrambleRound (w : List (BitVec 64)) (r : Nat) (h : w.length = 8) :
    unscrambleRound k t (scrambleRound k t w r) r = w := by
  have hw : ∀ i ∈ List.range 4, 2 * i + 1 < w.length := fun i hi => by
    have := List.mem_range.mp hi
    omega
  rw [unscrambleRound, scrambleRound, drop_seven_append_take_seven_of_drop_one _
    ((length_foldl_scramblePair k t r _ w).trans h), foldl_unscramblePair_foldl_scramblePair k t r _ w
    List.nodup_range hw]

/-! ## The line -/

/-- Rounds come back undone last first. -/
theorem foldl_unscrambleRound_reverse_foldl_scrambleRound (rs : List Nat) (w : List (BitVec 64)) (h : w.length = 8) :
    rs.reverse.foldl (unscrambleRound k t) (rs.foldl (scrambleRound k t) w) = w := by
  induction rs generalizing w with
  | nil => rfl
  | cons r rs ih =>
    rw [List.reverse_cons, List.foldl_append, List.foldl_cons, List.foldl_nil, List.foldl_cons,
      ih _ ((length_scrambleRound k t w r).trans h), unscrambleRound_scrambleRound k t w r h]

end

theorem unscrambleLine_eq (k : List (BitVec 64)) (t : Nat) (w : List (BitVec 64)) :
    unscrambleLine k t w = (List.range 4).reverse.foldl (unscrambleRound k (BitVec.ofNat 64 (t % 2 ^ 34))) w := rfl

theorem unscrambleLine_scrambleLine (k : List (BitVec 64)) (t : Nat) (w : List (BitVec 64)) (h : w.length = 8) :
    unscrambleLine k t (scrambleLine k t w) = w := by
  rw [unscrambleLine_eq, scrambleLine, foldl_unscrambleRound_reverse_foldl_scrambleRound _ _ _ w h]

/-- Settles O56: the bytes by induction on the write, the scrambler by undoing pair after pair within a round and
round after round from the last. -/
theorem memoryLaws : Obligations.MemoryLaws :=
  ⟨fun s a b x => ⟨s.byte_setBytes a b x, s.setBytes_eq_with_mem a b, s.setBytes_wf a b⟩,
    unscrambleLine_scrambleLine⟩

end Sys2Proof.Machine
end

section
/-! How a job ends: the status stamped on the ending job, what its release leaves of every other job, and the
cases of an early end (R16, R64, R77, R112). -/

namespace Sys2Proof.Machine

/-! ## The job table under a map over its jobs -/

theorem mget_map_value {α : Type} (f : Option α → Option α) (hf : f none = none) (m : SMap (Option α)) (k : Nat) :
    mget (fun _ => none) (m.map (fun e => (e.1, f e.2))) k = f (mget (fun _ => none) m k) := by
  induction m with
  | nil => exact hf.symm
  | cons p t ih =>
    by_cases hp : p.1 = k
    · simp [mget, hp]
    · simpa [mget, hp] using ih

theorem Fr.jobs_eq {m : Nat} {s t : State} (h : Fr m s t) (hm : inMask m Part.jobs.weight = false) : t.jobs = s.jobs :=
  h.1 .jobs hm

/-! ## What leaves the job table as it is -/

section
variable (s : State)

@[simp] theorem State.meterOutcome_jobs (n c : Nat) (st : Status) (b : Bool) (ns bytes : Nat) :
    (s.meterOutcome n c st b ns bytes).jobs = s.jobs :=
  (State.meterOutcome_frame (Fr.refl 3121 s) rfl).jobs_eq rfl

@[simp] theorem State.eraseSpeculative_jobs (n : Nat) : (s.eraseSpeculative n).jobs = s.jobs :=
  (State.eraseSpeculative_frame (Fr.refl 524288 s) rfl).jobs_eq rfl

@[simp] theorem State.freeCreation_jobs (j : Job) : (s.freeCreation j).jobs = s.jobs :=
  (State.freeCreation_frame (Fr.refl 262144 s) rfl).jobs_eq rfl

@[simp] theorem State.returnUse_jobs (j : Job) : (s.returnUse j).jobs = s.jobs :=
  (State.returnUse_frame (Fr.refl 139265 s) rfl).jobs_eq rfl

@[simp] theorem State.noteReleased_jobs (j : Job) (st : Status) : (s.noteReleased j st).jobs = s.jobs :=
  (State.noteReleased_frame (Fr.refl 1024 s) rfl).jobs_eq rfl

@[simp] theorem State.eraseSquashed_jobs : s.eraseSquashed.jobs = s.jobs :=
  (State.eraseSquashed_frame (Fr.refl 524288 s) rfl).jobs_eq rfl

@[simp] theorem State.foldl_event_jobs (l : List Nat) (code sev : Nat) :
    (l.foldl (fun s h => s.event code sev h []) s).jobs = s.jobs := by
  induction l generalizing s with
  | nil => rfl
  | cons h l ih => exact (ih _).trans ((State.event_frame (Fr.refl 8193 s) rfl).jobs_eq rfl)

end

/-! ## The stamp -/

/-- A job with the release stamp of this cycle and a status other than DONE: no output, no result (R16). -/
def State.stampedFailed (s : State) (j : Job) (st : Status) (d : Nat) : Job :=
  { j with stage := .releasing, stamp := some s.now, stampSeq := s.locket.nextStamp, status := st, detail := d,
           output := [], resultHandle := 0, unit := if j.onLane then j.unit else none }

/-- What a stamp other than DONE does to the job table: the job is stamped, then the release reaches every job. -/
theorem State.stampWith_jobs (s : State) (id : Nat) (j : Job) {st : Status} (d : Nat) (hst : st ≠ .done) :
    (s.stampWith id j st d).jobs = (s.setJob id (some (s.stampedFailed j st d))).jobs.map
      (fun e => (e.1, e.2.map (fun x => x.afterRelease id st 0))) := by
  have hd : (st == Status.done) = false := beq_false_of_ne hst
  unfold State.stampWith
  simp only [hd, Bool.false_and, Bool.false_eq_true, if_false, State.eraseSquashed_jobs, State.foldl_event_jobs,
    State.noteReleased_jobs]
  split <;>
    simp only [State.returnUse_jobs, State.freeCreation_jobs, State.eraseSpeculative_jobs, State.meterOutcome_jobs] <;> rfl

/-- The job stamped, as its own release leaves it. -/
theorem State.stampWith_job_same (s : State) (id : Nat) (j : Job) {st : Status} (d : Nat) (hst : st ≠ .done) :
    (s.stampWith id j st d).job id = some ((s.stampedFailed j st d).afterRelease id st 0) := by
  rw [State.job, s.stampWith_jobs id j d hst, mget_map_value _ rfl, ← State.job, State.job_setJob, Option.map_some]

/-- Every other entry, as the release leaves it. -/
theorem State.stampWith_job_ne (s : State) {id k : Nat} (j : Job) {st : Status} (d : Nat) {y : Job} (hst : st ≠ .done)
    (hk : k ≠ id) (hy : s.job k = some y) : (s.stampWith id j st d).job k = some (y.afterRelease id st 0) := by
  rw [State.job, s.stampWith_jobs id j d hst, mget_map_value _ rfl, ← State.job, s.job_setJob_ne id k _ hk, hy, Option.map_some]

/-- What the release of a job may change of another: what it waits for, what it names, and how it is to end. -/
theorem Job.afterRelease_eq_with (x : Job) (id : Nat) (st : Status) (r : Nat) :
    ∃ deps squash primary destroyWait forced, x.afterRelease id st r =
      { x with deps := deps, squash := squash, primary := primary, destroyWait := destroyWait, forced := forced } := by
  unfold Job.afterRelease
  split <;> dsimp only <;> split <;> exact ⟨_, _, _, _, _, rfl⟩

/-! ## The early end, case by case -/

/-- A job as it ends early: it needs no confirmation and no key any more. -/
def Job.endingEarly (j : Job) : Job := { j with need := ⟨false, false, false, false, false⟩, unsealing := [] }

section
variable {s : State} {id : Nat} {j : Job} (st : Status) (d : Nat)

theorem State.endEarly_free (h : s.job id = none) : s.endEarly id st d = s := by
  simp only [State.endEarly, h]

theorem State.endEarly_stamped (h : s.job id = some j) (hs : j.stamp.isSome = true) : s.endEarly id st d = s := by
  simp only [State.endEarly, h, hs, if_true]

theorem State.endEarly_lapsed (h : s.job id = some j) (hs : j.stamp = none) (hl : s.leaseOver = true) :
    s.endEarly id st d = s.setJob id (some (s.lapseJob j.endingEarly)) := by
  simp [State.endEarly, h, hs, hl, Job.endingEarly]

theorem State.endEarly_dependent (h : s.job id = some j) (hs : j.stamp = none) (hl : s.leaseOver = false) (hd : j.deps ≠ []) :
    s.endEarly id st d = s.setJob id (some { j.endingEarly with forced := some (j.forced.getD (st, d)) }) := by
  simp [State.endEarly, h, hs, hl, hd, Job.endingEarly]

theorem State.endEarly_independent (h : s.job id = some j) (hs : j.stamp = none) (hl : s.leaseOver = false) (hd : j.deps = []) :
    s.endEarly id st d = s.stampWith id j.endingEarly st d := by
  simp [State.endEarly, h, hs, hl, hd, Job.endingEarly]

end

/-- Settles O7: an early end falls into the five cases above; at once it is a stamp, which the release it makes leaves
in the job and in every other. -/
theorem endOfAJob : Obligations.EndOfAJob := by
  refine ⟨?_, fun s id j st d h hs hl hd => State.endEarly_dependent st d h hs hl hd,
    fun s id j st d h hs hl => State.endEarly_lapsed st d h hs hl,
    fun s id j st d h hs => State.endEarly_stamped st d h hs, fun s id st d h => State.endEarly_free st d h⟩
  intro s id j st d h hs hl hd hst
  rw [State.endEarly_independent st d h hs hl hd]
  obtain ⟨_, _, _, _, _, hx⟩ := (s.stampedFailed j.endingEarly st d).afterRelease_eq_with id st 0
  refine ⟨_, (s.stampWith_job_same id _ d hst).trans (congrArg some hx), rfl, rfl, rfl, rfl, rfl, rfl, rfl, rfl, ?_⟩
  intro k y hk hy
  obtain ⟨_, _, _, _, _, hz⟩ := y.afterRelease_eq_with id st 0
  exact ⟨_, (s.stampWith_job_ne _ d hst hk hy).trans (congrArg some hz), rfl, rfl, rfl, rfl, rfl⟩

end Sys2Proof.Machine
end

section
/-! Usage blocks and the release of results: the cases of USAGE_BLOCK_CREATE and of RESULT_RELEASE, what each answers
and which pieces of State it may change (R16, R50 to R52, R108, R193 to R195). -/

namespace Sys2Proof.Machine

/-! ## USAGE_BLOCK_CREATE -/

/-- Where the next usage block of an object starts: one block higher where a restore left a gap (R195). -/
def State.blockStart (s : State) (o : Obj) : Nat :=
  max (s.usageOf o).blockEnd o.highWater + (if (s.usageOf o).gapDue then s.strand.restoredBlock else 0)

/-- Where it ends (R193). -/
def State.blockFin (s : State) (o : Obj) : Nat := min (s.blockStart o + s.strand.usageBlock) o.policy.usageLimit

/-- Its record. -/
def State.blockRec (s : State) (h : Nat) (o : Obj) : Rec :=
  { deviceRec (.usageBlock h (s.blockStart o) (s.blockFin o)) with owner := ownerOf h }

/-- What bars a new block of an object: no job waits for it, the one before is not durable, one is under way, or the
strand is not open (R193). -/
def State.blockBarred (s : State) (h : Nat) (o : Obj) : Bool :=
  !s.usageWanted h || (s.usageOf o).blockBead.any (fun b => decide (b > s.strand.durable)) ||
    (s.usageOf o).pendingEnd.isSome || !s.strandOpen

theorem State.blockBarred_iff (s : State) (h : Nat) (o : Obj) : s.blockBarred h o = true ↔
    s.usageWanted h = false ∨ (∃ b, (s.usageOf o).blockBead = some b ∧ s.strand.durable < b) ∨
      (s.usageOf o).pendingEnd.isSome = true ∨ s.strandOpen = false := by
  simp [State.blockBarred, Option.any_eq_true, or_assoc]

theorem State.blockBarred_eq_false {s : State} {h : Nat} {o : Obj} (hw : s.usageWanted h = true)
    (hb : ∀ b, (s.usageOf o).blockBead = some b → b ≤ s.strand.durable) (hp : (s.usageOf o).pendingEnd = none)
    (hs : s.strandOpen = true) : s.blockBarred h o = false := by
  simpa [State.blockBarred, hw, hp, hs, Option.any_eq_false] using hb

/-- The new block: none below the limit, and the uses are exhausted; else its record joins (R193). -/
def State.makeBlock (s : State) (h : Nat) (o : Obj) : State :=
  if s.blockStart o ≥ o.policy.usageLimit then
    (s.setUsage h { s.usageOf o with blockEnd := s.blockStart o, next := s.blockStart o, gapDue := false }).settle.notePeaks
  else (s.joinRec (s.blockRec h o)).2.setUsage h { s.usageOf o with
    pendingEnd := some (s.blockFin o), blockBead := some (s.joinRec (s.blockRec h o)).1, gapDue := false }

theorem State.makeBlock_exhausted {s : State} (h : Nat) {o : Obj} (hl : s.blockStart o ≥ o.policy.usageLimit) :
    s.makeBlock h o = (s.setUsage h { s.usageOf o with
      blockEnd := s.blockStart o, next := s.blockStart o, gapDue := false }).settle.notePeaks := if_pos hl

theorem State.makeBlock_joined {s t : State} {h n : Nat} {o : Obj} (hl : s.blockStart o < o.policy.usageLimit)
    (hj : s.joinRec (s.blockRec h o) = (n, t)) : s.makeBlock h o = t.setUsage h { s.usageOf o with
      pendingEnd := some (s.blockFin o), blockBead := some n, gapDue := false } := by
  rw [State.makeBlock, if_neg (Nat.not_le.mpr hl), hj]

theorem execUsageBlockCreate_none {s : State} {h : Nat} (ho : s.committedObj h = none) :
    execUsageBlockCreate h s = .next s := by
  simp only [execUsageBlockCreate, ho]

theorem execUsageBlockCreate_some {s : State} {h : Nat} {o : Obj} (ho : s.committedObj h = some o) :
    execUsageBlockCreate h s = .next (if s.blockBarred h o then s else s.makeBlock h o) := by
  unfold execUsageBlockCreate
  rw [ho, apply_ite Host.Outcome.next, State.makeBlock, apply_ite Host.Outcome.next]
  dsimp only
  refine if_congr (Eq.to_iff (congrArg (· = true) ?_)) rfl (if_congr Iff.rfl rfl ?_)
  · unfold State.blockBarred
    cases (s.usageOf o).blockBead <;> rfl
  · unfold State.blockRec State.blockFin
    rfl

theorem execUsageBlockCreate_answers (h : Nat) (s : State) : ∃ t, execUsageBlockCreate h s = .next t := by
  cases ho : s.committedObj h with
  | none => exact ⟨_, execUsageBlockCreate_none ho⟩
  | some o => exact ⟨_, execUsageBlockCreate_some ho⟩

/-! ## RESULT_RELEASE -/

/-- The output, the completion and the message of a job released (R16, R51). -/
def State.sendResult (s : State) (j : Job) : State :=
  let a := s.emitOutput j.inst (j.outputAddr + j.streamed) (j.output.drop j.streamed)
  let b := a.emit (.completion j.inst (a.pasid j.inst) (a.cqBase j.inst + 32 * (s.inst j.inst).cqWrite) (a.completionOf j).bytes)
  if j.noIrq then b else b.msix (b.vector j.inst)

/-- The completion write position moves on by one, the phase with it where it comes round to zero, and the entry is
free (R51). -/
def State.freeEntry (s : State) (id : Nat) (j : Job) (w : Nat) : State :=
  (s.modInst j.inst (fun i => { i with cqWrite := w, phase := if w = 0 then !i.phase else i.phase })).setJob id none

/-- The lane a job still held is free (R301). -/
def State.freeHeldLane (s : State) (j : Job) : State :=
  match j.unit with
  | some (.sym, n) => s.freeLane n
  | _ => s

section
variable {s : State} {id : Nat} {j : Job}

theorem execResultRelease_none (h : s.job id = none) : execResultRelease id s = .next s := by
  simp only [execResultRelease, h]

theorem execResultRelease_waits (h : s.job id = some j) (hm : s.mayRelease id j = false) :
    execResultRelease id s = .next s := by
  simp only [execResultRelease, h, hm, Bool.not_false, if_true]

theorem execResultRelease_released (h : s.job id = some j) (hm : s.mayRelease id j = true) :
    execResultRelease id s = .next (((s.sendResult j).freeEntry id j
      (((s.inst j.inst).cqWrite + 1) % (s.sendResult j).depth j.inst)).freeHeldLane j) := by
  unfold execResultRelease State.freeHeldLane
  rw [h]
  dsimp only
  rw [hm]
  rcases j.unit with _ | ⟨e, n⟩
  · rfl
  · cases e <;> rfl

end

theorem execResultRelease_answers (id : Nat) (s : State) : ∃ t, execResultRelease id s = .next t := by
  cases h : s.job id with
  | none => exact ⟨_, execResultRelease_none h⟩
  | some j =>
    cases hm : s.mayRelease id j with
    | false => exact ⟨_, execResultRelease_waits h hm⟩
    | true => exact ⟨_, execResultRelease_released h hm⟩

/-! ## The writes of an output -/

theorem State.pasid_emit (s : State) (w : HostWrite) (n : Nat) : (s.emit w).pasid n = s.pasid n := by
  simp only [State.pasid, State.odNat, State.odStored, State.emit_agent]

theorem State.bme_emit (s : State) (w : HostWrite) : (s.emit w).host.bme = s.host.bme := by
  unfold State.emit
  split <;> rfl

theorem State.out_emit {s : State} (w : HostWrite) (hb : s.host.bme = true) : (s.emit w).host.out = s.host.out ++ [w] := by
  rw [State.emit, if_pos hb]

theorem State.emitOutput_out (s : State) (n a : Nat) (out : Bytes) (hb : s.host.bme = true) :
    (s.emitOutput n a out).host.out = s.host.out ++ (pieces s.host.maxPayload out.length).map
      (fun p => .output n (s.pasid n) (a + p.1) ((out.drop p.1).take p.2)) := by
  unfold State.emitOutput
  induction pieces s.host.maxPayload out.length generalizing s with
  | nil => exact (List.append_nil _).symm
  | cons p l ih =>
    rw [List.foldl_cons, ih _ ((s.bme_emit _).trans hb), State.pasid_emit, State.out_emit _ hb, List.append_assoc]
    rfl

/-- Settles O13: the two commands by the cases above, the writes of an output by the fold of its pieces, the pieces of
State by the frame of each command. -/
theorem usageAndRelease : Obligations.UsageAndRelease := by
  refine ⟨?_, ?_, ?_, ?_, State.emitOutput_out, ?_, ?_⟩
  · rintro s h o ho hw hb hp hs _ rfl
    have hx : exec (.usageBlockCreate h) s = .next (s.makeBlock h o) :=
      (execUsageBlockCreate_some ho).trans (by rw [State.blockBarred_eq_false hw hb hp hs]; rfl)
    refine ⟨fun hl => hx.trans (congrArg _ (State.makeBlock_exhausted h hl)), fun hl n t hj => hx.trans (congrArg _ ?_)⟩
    exact State.makeBlock_joined hl hj
  · intro s h hbar
    cases ho : s.committedObj h with
    | none => exact execUsageBlockCreate_none ho
    | some o => exact (execUsageBlockCreate_some ho).trans (by rw [(s.blockBarred_iff h o).mpr (hbar o ho)]; rfl)
  · rintro s id j _ _ _ _ h hm rfl rfl rfl rfl
    exact execResultRelease_released h hm
  · intro s id hm
    cases h : s.job id with
    | none => exact execResultRelease_none h
    | some j => exact execResultRelease_waits h (hm j h)
  · exact fun s h => Answers.only_of_frame (execUsageBlockCreate_answers h s)
      (execUsageBlockCreate_frame (Fr.refl 18837041 s) rfl) (fun p => by cases p <;> decide)
  · exact fun s id => Answers.only_of_frame (execResultRelease_answers id s)
      (execResultRelease_frame (Fr.refl 16777777 s) rfl) (fun p => by cases p <;> decide)

end Sys2Proof.Machine
end

section
/-! Accesses on the interconnect: the cases of an access of an internal master, of the copy DMA and of the debug port
(R20 to R22, R391, R404, R448, R449). -/

namespace Sys2Proof.Machine

/-! ## An access once it is issued -/

/-- An access issued: it reaches its target where the checks pass, and is refused as its master's accesses are where
they do not (R20, R391). -/
def State.issue (s : State) (agent kind a len core : Nat) (d : Bytes) : State :=
  if (s.checkAccess agent kind a len).1 then (s.checkAccess agent kind a len).2.transact agent kind a len d
  else (s.checkAccess agent kind a len).2.refusedAccess agent core

theorem State.issue_eq_of_check {s v : State} {g k a n : Nat} {o : Bool} (hc : s.checkAccess g k a n = (o, v)) (c : Nat)
    (d : Bytes) : s.issue g k a n c d = if o then v.transact g k a n d else v.refusedAccess g c := by
  rw [State.issue, hc]

theorem State.next_issue (s : State) (g k a n c : Nat) (d : Bytes) :
    (.next (s.issue g k a n c d) : Host.Outcome State Fault Refusal) =
    if (s.checkAccess g k a n).1 then .next ((s.checkAccess g k a n).2.transact g k a n d)
    else .next ((s.checkAccess g k a n).2.refusedAccess g c) := apply_ite _ _ _ _

/-- The agent a master accesses as: a core in its current world (R388). -/
def State.busAgent (s : State) (g c : Nat) : Nat := if g < 2 then (if s.coreSecure c then agCpuS else agCpuN) else g

/-- A permitted write that meets a target is answered without error (R387). -/
theorem State.transact_write {s v : State} {g a n : Nat} {d : Bytes}
    (hw : s.writeAt g a (padTo n (d.take n)) = (true, v)) : s.transact g akWrite a n d = v.ended v.readValue 0 := by
  rw [State.transact, if_pos rfl, hw]
  rfl

/-! ## INTERNAL_MASTER_ACCESS -/

/-- Whether a master makes such an access: its agent, kind, length and core are ones there are (R388, R390). -/
def accessMade (g k n c : Nat) : Prop := g ≤ 7 ∧ k ≤ 3 ∧ 0 < n ∧ n ≤ 4096 ∧ ¬(g < 2 ∧ c > 3)

theorem accessMade_dmaN {k n : Nat} (c : Nat) (hk : k ≤ 3) (h0 : 0 < n) (hn : n ≤ 4096) : accessMade agDmaN k n c :=
  ⟨by decide, hk, h0, hn, fun h => absurd h.1 (by decide)⟩

theorem not_accessMade {g k n c : Nat} (h : g > 7 ∨ k > 3 ∨ n = 0 ∨ n > 4096 ∨ (g < 2 ∧ c > 3)) : ¬ accessMade g k n c := by
  simp only [accessMade]
  omega

/-- Whether an access is the host's through BAR0 or BAR2: of DMA_N, with the number of no channel (R23). -/
def accessOfHost (g c : Nat) : Bool := g = agDmaN && c > 3

theorem accessOfHost_eq_false {g c : Nat} (h : g ≠ agDmaN ∨ c ≤ 3) : accessOfHost g c = false := by
  simp only [accessOfHost, Bool.and_eq_false_iff, decide_eq_false_iff_not]
  omega

theorem accessOfHost_eq_true {c : Nat} (h : c > 3) : accessOfHost agDmaN c = true := by
  simp only [accessOfHost, h, decide_true, Bool.and_self]

section
variable {s : State} {g k a n c : Nat} (d : Bytes)

theorem exec_access_none (h : ¬ accessMade g k n c) : exec (.internalMasterAccess g k a n c d) s = .next s := by
  refine if_pos ?_
  simp only [accessMade] at h
  simp only [Bool.or_eq_true, Bool.and_eq_true, decide_eq_true_eq]
  omega

/-- What an access that a master makes comes to, in the order in which the cases are told apart. -/
theorem exec_access_made (hm : accessMade g k n c) : exec (.internalMasterAccess g k a n c d) s =
    if accessOfHost g c && k < 2 && s.deviceState == dsInert && !inertShows a n then
      .next (if k = akWrite then s else s.ended 0 0)
    else if accessOfHost g c && k < 2 && inSpan a 0x10C02000 0x10D00000 then
      .next ((s.hostWakes k).bar0Access (k == akWrite) (a - 0x10C00000) n d)
    else if accessOfHost g c && k < 2 && inSpan a bar2Base (bar2Base + 0x400000) then
      .next ((s.hostWakes k).bar2Access k (a - bar2Base) n d)
    else if a + n > 2 ^ 40 then .next s
    else .next ((if accessOfHost g c then s.hostWakes k else s).issue
      ((if accessOfHost g c then s.hostWakes k else s).busAgent g c) k a n c d) := by
  rw [State.next_issue]
  refine if_neg ?_
  simp only [accessMade] at hm
  simp only [Bool.or_eq_true, Bool.and_eq_true, decide_eq_true_eq]
  omega

/-- An access of a master on the interconnect (R20). -/
theorem exec_access_internal (hm : accessMade g k n c) (hh : g ≠ agDmaN ∨ c ≤ 3) (ha : a + n ≤ 2 ^ 40) :
    exec (.internalMasterAccess g k a n c d) s = .next (s.issue (s.busAgent g c) k a n c d) := by
  rw [exec_access_made d hm]
  simp only [accessOfHost_eq_false hh, Bool.false_and, Bool.false_eq_true, if_false, Nat.not_lt.mpr ha]

/-- An access beyond the internal address space (R386). -/
theorem exec_access_beyond (hm : accessMade g k n c) (hh : g ≠ agDmaN ∨ c ≤ 3) (ha : a + n > 2 ^ 40) :
    exec (.internalMasterAccess g k a n c d) s = .next s := by
  rw [exec_access_made d hm]
  simp only [accessOfHost_eq_false hh, Bool.false_and, Bool.false_eq_true, if_false, ha, if_true]

section
variable (hm : accessMade agDmaN k n c) (hc : c > 3)
include hm hc

/-- An access of the host beyond what an inert unit presents (R451). -/
theorem exec_access_inert (hk : k < 2) (hi : s.deviceState = dsInert) (hs : inertShows a n = false) :
    exec (.internalMasterAccess agDmaN k a n c d) s = .next (if k = akWrite then s else s.ended 0 0) := by
  rw [exec_access_made d hm]
  simp only [accessOfHost_eq_true hc, hk, hi, hs, decide_true, beq_self_eq_true, Bool.not_false, Bool.and_self, if_true]

theorem exec_access_shown (hi : k ≥ 2 ∨ s.deviceState ≠ dsInert ∨ inertShows a n = true) :
    exec (.internalMasterAccess agDmaN k a n c d) s =
      if k < 2 ∧ inSpan a 0x10C02000 0x10D00000 = true then .next ((s.hostWakes k).bar0Access (k == akWrite) (a - 0x10C00000) n d)
      else if k < 2 ∧ inSpan a bar2Base (bar2Base + 0x400000) = true then .next ((s.hostWakes k).bar2Access k (a - bar2Base) n d)
      else if a + n > 2 ^ 40 then .next s
      else .next ((s.hostWakes k).issue agDmaN k a n c d) := by
  have hin : ¬ (k < 2 ∧ s.deviceState = dsInert ∧ inertShows a n = false) := by
    rintro ⟨hk, hd, hs⟩
    rcases hi with hi | hi | hi
    · omega
    · exact hi hd
    · rw [hs] at hi; cases hi
  rw [exec_access_made d hm]
  simp only [accessOfHost_eq_true hc, Bool.true_and, Bool.and_eq_true, decide_eq_true_eq, beq_iff_eq, Bool.not_eq_true',
    and_assoc, if_neg hin, if_true]
  rfl

/-- An access of the host that is neither BAR0's nor BAR2's, or is no read and no write, is checked as DMA_N's (R23). -/
theorem exec_access_beside (hno : k ≥ 2 ∨ (s.deviceState ≠ dsInert ∨ inertShows a n = true) ∧
    inSpan a 0x10C02000 0x10D00000 = false ∧ inSpan a bar2Base (bar2Base + 0x400000) = false) :
    exec (.internalMasterAccess agDmaN k a n c d) s =
      if a + n > 2 ^ 40 then .next s else .next ((s.hostWakes k).issue agDmaN k a n c d) := by
  rw [exec_access_shown d hm hc (hno.imp_right And.left)]
  rcases hno with hk | ⟨-, h0, h2⟩
  · rw [if_neg (by omega), if_neg (by omega)]
  · rw [if_neg (by simp [h0]), if_neg (by simp [h2])]

end

end

/-! ## The copy DMA -/

/-- The copy a channel's registers ask for (R404). -/
def State.dmaAsked (s : State) (c : Nat) : DmaRun :=
  { src := s.get64 (.WLD_DMAc_SRC_LO_ADDR c) (.WLD_DMAc_SRC_HI_ADDR c),
    dst := s.get64 (.WLD_DMAc_DST_LO_ADDR c) (.WLD_DMAc_DST_HI_ADDR c), len := s.get (.WLD_DMAc_LEN_BYTES c) }

/-- What makes COPY_DMA_START ignored (R404, R520). -/
def State.dmaIgnored (s : State) (c : Nat) : Prop :=
  c > 3 ∨ s.bit (.WLD_DMAc_STATUS_BUSY c) = true ∨ (c ≥ 2 ∧ s.gateOn 4 = false) ∨ s.get (.WLD_DMAc_LEN_BYTES c) = 0

/-- A copy started: the channel is BUSY where every piece passes the checks, and else ends with ERR (R404). -/
def State.dmaStart (s : State) (c : Nat) (r : DmaRun) : State :=
  if (dmaPieces r.len).all (fun p => (s.checkAccess (dmaAgent c) akRead (r.src + p.1) p.2).1 &&
      (s.checkAccess (dmaAgent c) akWrite (r.dst + p.1) p.2).1)
  then ({ s with worlds := { s.worlds with dmaRuns := mset (fun _ => none) s.worlds.dmaRuns c (some r) } } : State).putBit
    (.WLD_DMAc_STATUS_BUSY c) true
  else (State.dmaCopy (dmaAgent c) r.src r.dst s (dmaPieces r.len)).2.dmaEnd c false

section
variable {s : State} {c : Nat}

theorem not_dmaIgnored (hc : c ≤ 3) (hb : s.bit (.WLD_DMAc_STATUS_BUSY c) = false) (hg : c < 2 ∨ s.gateOn 4 = true)
    (hl : s.get (.WLD_DMAc_LEN_BYTES c) ≠ 0) : ¬ s.dmaIgnored c := by
  rintro (h | h | ⟨h, hoff⟩ | h)
  · omega
  · exact Bool.false_ne_true (hb.symm.trans h)
  · exact hg.elim (fun h2 => by omega) (fun hon => Bool.false_ne_true (hoff.symm.trans hon))
  · exact hl h

theorem dmaIgnored_iff : (decide (c > 3) || s.bit (.WLD_DMAc_STATUS_BUSY c) || (decide (c ≥ 2) && !s.gateOn 4) ||
    decide ((s.dmaAsked c).len = 0)) = true ↔ s.dmaIgnored c := by
  simp only [Bool.or_eq_true, Bool.and_eq_true, decide_eq_true_eq, Bool.not_eq_true', or_assoc]
  rfl

theorem exec_copyDmaStart_ignored (h : s.dmaIgnored c) : exec (.copyDmaStart c) s = .next s := if_pos (dmaIgnored_iff.mpr h)

theorem exec_copyDmaStart_started (h : ¬ s.dmaIgnored c) : exec (.copyDmaStart c) s = .next (s.dmaStart c (s.dmaAsked c)) := by
  rw [State.dmaStart, apply_ite Host.Outcome.next]
  exact if_neg (mt dmaIgnored_iff.mp h)

theorem exec_copyDma_idle (h : mget (fun _ => none) s.worlds.dmaRuns c = none) :
    exec (.copyDmaComplete c) s = .next s ∧ exec (.copyDmaStop c) s = .next s := by
  constructor
  · show execCopyDmaComplete c s = _
    rw [execCopyDmaComplete, h]
  · show execCopyDmaStop c s = _
    rw [execCopyDmaStop, h]

theorem exec_copyDmaComplete_run {r : DmaRun} (h : mget (fun _ => none) s.worlds.dmaRuns c = some r) :
    exec (.copyDmaComplete c) s = .next (((State.dmaCopy (dmaAgent c) r.src r.dst s (dmaPieces r.len)).2.dmaOverlap r).dmaEnd c
      (State.dmaCopy (dmaAgent c) r.src r.dst s (dmaPieces r.len)).1) := by
  show execCopyDmaComplete c s = _
  rw [execCopyDmaComplete, h]

theorem exec_copyDmaStop_run {r : DmaRun} (h : mget (fun _ => none) s.worlds.dmaRuns c = some r) :
    exec (.copyDmaStop c) s = .next ((State.dmaCopy (dmaAgent c) r.src r.dst s.freshNat.2
      ((dmaPieces r.len).take (s.freshNat.1 % ((dmaPieces r.len).length + 1)))).2.dmaEnd c false) := by
  show execCopyDmaStop c s = _
  rw [execCopyDmaStop, h]

end

/-! ## The debug access port -/

/-- The port once it holds the address of an access. -/
def State.dapAddressed (s : State) (a : Nat) : State := { s with worlds := { s.worlds with tapIr := 9, dapAddr := a } }

/-- The port once DAP_DATA holds a status. -/
def State.dapStatused (s : State) (v : Nat) : State := { s with worlds := { s.worlds with dapStatus := v } }

/-- An access of the port that holds its address, by the agent the enables give it (R448, R449). -/
def State.dapIssue (s : State) (kind a n : Nat) (d : Bytes) : Option Nat → State
  | none => (s.dapStatused 2).alarm' [19]
  | some g =>
    if (s.checkAccess g kind a n).1 then
      ((s.checkAccess g kind a n).2.transact g kind a n d).dapStatused
        (if ((s.checkAccess g kind a n).2.transact g kind a n d).worlds.answer = 0 then 0 else 3)
    else ((s.checkAccess g kind a n).2.refusedAccess g 0).dapStatused 3

theorem State.dapIssue_permitted {s x : State} {g k a n : Nat} (d : Bytes) (h : s.checkAccess g k a n = (true, x)) :
    s.dapIssue k a n d (some g) = (x.transact g k a n d).dapStatused (if (x.transact g k a n d).worlds.answer = 0 then 0 else 3) := by
  rw [State.dapIssue, h]
  rfl

theorem State.dapIssue_refused {s : State} {g k a n : Nat} (d : Bytes) (h : (s.checkAccess g k a n).1 = false) :
    s.dapIssue k a n d (some g) = ((s.checkAccess g k a n).2.refusedAccess g 0).dapStatused 3 := by
  rw [State.dapIssue, h]
  rfl

section
variable {s : State} (w : Bool) {a n : Nat} (d : Bytes)

theorem dapAccess_scrap (h : (s.wakeNap 6).lifeCycle = lcScrap) :
    s.dapAccess w a n d = { s.wakeNap 6 with worlds := { (s.wakeNap 6).worlds with tapIr := 31 } } :=
  if_pos (beq_iff_eq.mpr h)

theorem dapAccess_malformed (hl : (s.wakeNap 6).lifeCycle ≠ lcScrap) (h : n ∉ dapSizes ∨ a ≥ 2 ^ 40) :
    s.dapAccess w a n d = s.wakeNap 6 :=
  (if_neg (mt beq_iff_eq.mp hl)).trans (if_pos (by simpa using h))

theorem dapAccess_issued (hl : (s.wakeNap 6).lifeCycle ≠ lcScrap) (hn : n ∈ dapSizes) (ha : a < 2 ^ 40) :
    s.dapAccess w a n d =
      ((s.wakeNap 6).dapAddressed a).dapIssue (if w then akWrite else akRead) a n d ((s.wakeNap 6).dapAgent w) := by
  have hsize : ¬ (!dapSizes.contains n || decide (a ≥ 2 ^ 40)) = true := by simpa using ⟨hn, ha⟩
  refine (if_neg (mt beq_iff_eq.mp hl)).trans ((if_neg hsize).trans ?_)
  show (match (s.wakeNap 6).dapAgent w with | none => _ | some g => _) = _
  cases (s.wakeNap 6).dapAgent w <;> rfl

end

/-! ## Every one of the commands answers -/

theorem exec_access_answers (g k a n c : Nat) (d : Bytes) (s : State) :
    ∃ t, exec (.internalMasterAccess g k a n c d) s = .next t := by
  by_cases hm : accessMade g k n c
  · rw [exec_access_made d hm]
    split_ifs <;> exact ⟨_, rfl⟩
  · exact ⟨_, exec_access_none d hm⟩

theorem exec_copyDmaStart_answers (c : Nat) (s : State) : ∃ t, exec (.copyDmaStart c) s = .next t := by
  by_cases h : s.dmaIgnored c
  · exact ⟨_, exec_copyDmaStart_ignored h⟩
  · exact ⟨_, exec_copyDmaStart_started h⟩

theorem exec_copyDmaStop_answers (c : Nat) (s : State) : ∃ t, exec (.copyDmaStop c) s = .next t := by
  cases h : mget (fun _ => none) s.worlds.dmaRuns c with
  | none => exact ⟨_, (exec_copyDma_idle h).2⟩
  | some r => exact ⟨_, exec_copyDmaStop_run h⟩

theorem exec_copyDmaComplete_answers (c : Nat) (s : State) : ∃ t, exec (.copyDmaComplete c) s = .next t := by
  cases h : mget (fun _ => none) s.worlds.dmaRuns c with
  | none => exact ⟨_, (exec_copyDma_idle h).1⟩
  | some r => exact ⟨_, exec_copyDmaComplete_run h⟩

/-- The pieces outside the mask of every piece but the queue: the queue. -/
theorem kept_pending {c : Instr} {s : State} (hx : ∃ t, exec c s = .next t) (hf : FrO 2147483647 s (exec c s)) :
    Answers c s (Kept [.pending] s) := Answers.kept_of_frame hx hf (by decide)

/-! ## The statement -/

/-- Settles O38: each clause is a case above, the closing ones the frame of each command. -/
theorem busAccesses : Obligations.BusAccesses := by
  refine ⟨?_, ?_, ?_, ?_, ?_, ?_, ?_, ?_, ?_, ?_, ?_, fun s a n d => ⟨rfl, rfl, rfl, rfl⟩, ?_, ?_, ?_, ?_, ?_, ?_⟩
  -- INTERNAL_MASTER_ACCESS
  · intro s g k a n c d hg hg7 hh hk hn hn' ha
    have hm : accessMade g k n c := ⟨hg7, hk, hn, hn', by omega⟩
    rw [exec_access_internal d hm hh ha, State.busAgent, if_neg (Nat.not_lt.mpr hg)]
    rfl
  · rintro s g k a n c d _ hg hc rfl hk hn hn' ha
    have hm : accessMade g k n c := ⟨by omega, hk, hn, hn', by omega⟩
    rw [exec_access_internal d hm (.inr hc) ha, State.busAgent, if_pos hg]
    rfl
  · intro s a n c d v hc hn hn' ha hok hw
    rw [exec_access_internal d (accessMade_dmaN c (by decide) hn hn') (.inr hc) ha]
    exact congrArg _ ((if_pos hok).trans (State.transact_write hw))
  · intro s k a n c d hc hk hn hn'
    have hm := accessMade_dmaN c hk hn hn'
    refine ⟨fun hk2 => exec_access_inert d hm hc hk2, fun hk2 hi => ⟨fun h0 => ?_, fun h0 h2 => ?_⟩, fun hno => ?_⟩
    · rw [exec_access_shown d hm hc (.inr hi), if_pos ⟨hk2, h0⟩]
    · rw [exec_access_shown d hm hc (.inr hi), if_neg (by simp [h0]), if_pos ⟨hk2, h2⟩]
    · have hx := exec_access_beside d hm hc (s := s) (a := a) hno
      refine ⟨fun ha => hx.trans (if_pos ha), ?_⟩
      rintro _ o v ha rfl hv
      rw [hx, if_neg (Nat.not_lt.mpr ha), State.issue_eq_of_check hv]
  · refine fun s g k a n c d => ⟨fun h => exec_access_none d (not_accessMade h), fun hh ha => ?_⟩
    by_cases hm : accessMade g k n c
    · exact exec_access_beyond d hm hh ha
    · exact exec_access_none d hm
  -- the copy DMA
  · rintro s c _ hc hb hg rfl hl
    exact exec_copyDmaStart_started (not_dmaIgnored hc hb hg hl)
  · exact fun s c => ⟨exec_copyDmaStart_ignored, exec_copyDma_idle⟩
  · intro s c r hr
    refine ⟨fun ok u hu => ?_, fun k u hu => ?_⟩
    · rw [exec_copyDmaComplete_run hr, hu]
    · rw [exec_copyDmaStop_run hr, hu]
  -- the debug access port
  · rintro s w a n d g _ _ rfl hl hn ha hg rfl hno _ rfl
    rw [dapAccess_issued w d hl hn ha, hg]
    exact State.dapIssue_refused d hno
  · rintro s w a n d _ rfl
    refine ⟨dapAccess_scrap w d, fun hl hn ha hg => ?_⟩
    rw [dapAccess_issued w d hl hn ha, hg]
    rfl
  · rintro s w a n d g _ _ x _ rfl hl
    refine ⟨dapAccess_malformed w d hl, ?_⟩
    rintro hn ha hg rfl hok rfl
    rw [dapAccess_issued w d hl hn ha, hg]
    exact State.dapIssue_permitted d hok
  -- the pieces of State
  · exact fun s g k a n c d => kept_pending (exec_access_answers g k a n c d s) (execInternalMasterAccess_frame (Fr.refl _ s) rfl)
  · intro s c i hi
    simp only [List.mem_cons, List.not_mem_nil, or_false] at hi
    rcases hi with rfl | rfl | rfl
    · exact kept_pending (exec_copyDmaStart_answers c s) (execCopyDmaStart_frame (Fr.refl _ s) rfl)
    · exact kept_pending (exec_copyDmaStop_answers c s) (execCopyDmaStop_frame (Fr.refl _ s) rfl)
    · exact kept_pending (exec_copyDmaComplete_answers c s) (execCopyDmaComplete_frame (Fr.refl _ s) rfl)
  · exact fun s a n => kept_pending ⟨_, rfl⟩ (execDapRead_frame (Fr.refl _ s) rfl)
  · exact fun s a n d => kept_pending ⟨_, rfl⟩ (execDapWrite_frame (Fr.refl _ s) rfl)
  · exact fun s => Answers.only_of_frame ⟨_, rfl⟩ (execIdcode_frame (Fr.refl 536870920 s) rfl) (fun p => by cases p <;> decide)
  · exact fun s => Answers.only_of_frame ⟨_, rfl⟩ (execBypass_frame (Fr.refl 536870912 s) rfl) (fun p => by cases p <;> decide)

end Sys2Proof.Machine
end

section
/-! What reading one register rests on, and what a wake from NAP leaves as it was (R7, R8, R516). -/

namespace Sys2Proof.Machine

/-- A field rests on its own register alone. -/
theorem State.get_of_reg {s t : State} {f : Fld} (h : t.reg f.addr = s.reg f.addr) : t.get f = s.get f := by
  rw [State.get, State.get, h]

theorem State.bit_of_reg {s t : State} {f : Fld} (h : t.reg f.addr = s.reg f.addr) : t.bit f = s.bit f := by
  rw [State.bit, State.bit, State.get_of_reg h]

section
variable (s : State) (c : Nat)

/-- A wake from NAP writes PWR_STATUS alone. -/
theorem State.reg_wakeNap {a : Nat} (h : a ≠ Fld.PWR_STATUS_STATE.addr) : (s.wakeNap c).reg a = s.reg a := by
  unfold State.wakeNap
  split
  · exact (State.reg_put_ne _ .PWR_STATUS_NAP_EXIT c a h).trans (State.reg_put_ne s _ 2 a h)
  · rfl

theorem State.wakeNap_frame_power : Fr 134217729 s (s.wakeNap c) := State.wakeNap_frame (Fr.refl _ s) rfl

@[simp] theorem State.wakeNap_host : (s.wakeNap c).host = s.host := (s.wakeNap_frame_power c).1 .host rfl
@[simp] theorem State.wakeNap_insts : (s.wakeNap c).insts = s.insts := (s.wakeNap_frame_power c).1 .insts rfl
@[simp] theorem State.wakeNap_agent : (s.wakeNap c).agent = s.agent := (s.wakeNap_frame_power c).1 .agent rfl

@[simp] theorem State.inst_wakeNap (n : Nat) : (s.wakeNap c).inst n = s.inst n := State.inst_congr (s.wakeNap_insts c) n

@[simp] theorem State.depth_wakeNap (n : Nat) : (s.wakeNap c).depth n = s.depth n := by
  simp only [State.depth, State.odNat, State.odStored, State.wakeNap_agent]

@[simp] theorem State.zeroised_wakeNap : (s.wakeNap c).zeroised = s.zeroised :=
  State.bit_of_reg (s.reg_wakeNap c (by decide))

end

end Sys2Proof.Machine
end

section
/-! Reading the tick counter, the powered hours and the archive of events (R40, R468, R470, R478). -/

namespace Sys2Proof.Machine

theorem State.subsec_lt (s : State) : s.subsec < 1000 := Nat.mod_lt _ (by decide)

theorem State.subsec_put (s : State) (f : Fld) (v : Nat) : (s.put f v).subsec = s.subsec := by
  rw [State.subsec, State.subsec, State.put_time]

theorem State.taiSecond_put (s : State) (f : Fld) (v : Nat) : (s.put f v).taiSecond = s.taiSecond := by
  rw [State.taiSecond, State.taiSecond, State.put_time]

/-- The four snapshots of TIM_TICK_LO_READ (R470). -/
def State.latchTime (s : State) : State :=
  (((s.put .TIM_TICK_HI_TICK (s.time.tick / 2 ^ 32)).put .TIM_TAI_LO_SEC s.taiSecond).put .TIM_TAI_HI_SEC
    (s.taiSecond / 2 ^ 32)).put .TIM_SUBSEC_TICK s.subsec

theorem execTimTickLoRead_eq (s : State) :
    execTimTickLoRead s = .next { s.latchTime with readValue := s.time.tick % 2 ^ 32 } := by
  simp only [execTimTickLoRead, State.latchTime, State.subsec_put, State.taiSecond_put, State.put_time]

theorem State.get_latchTime_tick (s : State) :
    s.latchTime.get .TIM_TICK_HI_TICK = s.time.tick / 2 ^ 32 % 2 ^ 32 := by
  rw [State.latchTime, State.get_put_reg _ _ _ _ (by decide), State.get_put_reg _ _ _ _ (by decide),
    State.get_put_reg _ _ _ _ (by decide)]
  exact State.get_put_same s _ _ (by decide)

theorem State.get_latchTime_second (s : State) : s.latchTime.get .TIM_TAI_LO_SEC = s.taiSecond % 2 ^ 32 := by
  rw [State.latchTime, State.get_put_reg _ _ _ _ (by decide), State.get_put_reg _ _ _ _ (by decide)]
  exact State.get_put_same _ _ _ (by decide)

theorem State.get_latchTime_subsec (s : State) : s.latchTime.get .TIM_SUBSEC_TICK = s.subsec :=
  (State.get_put_same _ .TIM_SUBSEC_TICK _ (by decide)).trans (Nat.mod_eq_of_lt (s.subsec_lt.trans (by decide)))

/-- The registers of the snapshot. -/
abbrev timeLatches : List Nat :=
  [Fld.TIM_TICK_HI_TICK.addr, Fld.TIM_TAI_LO_SEC.addr, Fld.TIM_TAI_HI_SEC.addr, Fld.TIM_SUBSEC_TICK.addr]

theorem State.latchTime_onlyRegs (s : State) : OnlyRegs timeLatches s s.latchTime :=
  ((((OnlyRegs.refl timeLatches s).put (by decide)).put (by decide)).put (by decide)).put (by decide)

/-- What a read answers is no register. -/
theorem OnlyRegs.readValue {l : List Nat} {s t : State} (h : OnlyRegs l s t) (v : Nat) :
    OnlyRegs l { s with readValue := v } { t with readValue := v } := by
  obtain ⟨ht, hr⟩ := h
  exact ⟨by rw [ht], hr⟩

theorem State.get_readValue (s : State) (v : Nat) (f : Fld) : ({ s with readValue := v } : State).get f = s.get f :=
  State.get_congr rfl f

theorem execTimTickLoRead_answers (s : State) : Answers .timTickLoRead s (fun t =>
    t.readValue = s.time.tick % 2 ^ 32 ∧ t.get .TIM_TICK_HI_TICK = s.time.tick / 2 ^ 32 % 2 ^ 32 ∧
    t.get .TIM_TAI_LO_SEC = s.taiSecond % 2 ^ 32 ∧ t.get .TIM_SUBSEC_TICK = s.subsec ∧
    OnlyRegs timeLatches { s with readValue := t.readValue } t) :=
  ⟨_, execTimTickLoRead_eq s, rfl, (State.get_readValue ..).trans s.get_latchTime_tick,
    (State.get_readValue ..).trans s.get_latchTime_second, (State.get_readValue ..).trans s.get_latchTime_subsec,
    s.latchTime_onlyRegs.readValue _⟩

theorem execPoweredHourElapsed_early {s : State}
    (h : s.mainRuns = false ∨ s.elapsed < (s.time.bootHours + 1) * 3600000000000) :
    execPoweredHourElapsed s = .next s := by
  rcases h with h | h
  · simp [execPoweredHourElapsed, h]
  · simp [execPoweredHourElapsed, h]

theorem execPoweredHourElapsed_due {s : State} (hr : s.mainRuns = true)
    (he : s.elapsed ≥ (s.time.bootHours + 1) * 3600000000000) : execPoweredHourElapsed s =
      .next { s with time := { s.time with bootHours := s.time.bootHours + 1, hours := s.time.hours + 1 } } := by
  simp [execPoweredHourElapsed, hr, he, State.modTime]

theorem execPoweredHourElapsed_answers (s : State) : ∃ t, exec .poweredHourElapsed s = .next t := by
  show ∃ t, execPoweredHourElapsed s = .next t
  unfold execPoweredHourElapsed
  split <;> exact ⟨_, rfl⟩

theorem State.archiveOne_idle {s : State} (h : s.archiving = false ∨ s.archWaits = [] ∨ s.archTake = none) :
    s.archiveOne = s := by
  cases ha : s.archiving with
  | false => simp [State.archiveOne, ha]
  | true =>
    rcases h with h | h | h
    · rw [ha] at h
      cases h
    · simp [State.archiveOne, h]
    · simp [State.archiveOne, h]

theorem State.archiveOne_record {s : State} {r : EventRec} {rest : List EventRec} {k : Nat} (ha : s.archiving = true)
    (hw : s.archWaits = r :: rest) (hk : s.archTake = some k) : s.archiveOne =
      (({ s.markArchived r.seq with evr := { (s.markArchived r.seq).evr with
          archive := mset (fun _ => none) (s.markArchived r.seq).evr.archive k (some r) } } : State).setBytes
        (0x4300000 + 512 * k) r.bytes).showArchive := by
  simp only [State.archiveOne, ha, hw, hk, Bool.not_true, Bool.false_eq_true, if_false]

/-- Settles O17: each clause is a case above, the closing ones the frame of each command. -/
theorem timeReads : Obligations.TimeReads := by
  refine ⟨fun _ => rfl, execTimTickLoRead_answers, fun _ => execPoweredHourElapsed_due,
    fun _ => execPoweredHourElapsed_early, fun s h => congrArg Host.Outcome.next (State.archiveOne_idle h),
    fun s r rest k ha hw hk => congrArg Host.Outcome.next (State.archiveOne_record ha hw hk), ?_, ?_, ?_⟩
  · exact fun s => Answers.only_of_frame (execPoweredHourElapsed_answers s) (execPoweredHourElapsed_frame (Fr.refl 4096 s) rfl)
      (fun p => by cases p <;> decide)
  · simp only [List.forall_mem_cons, List.not_mem_nil, false_imp_iff, implies_true, and_true]
    intro s
    exact ⟨Answers.only_of_frame ⟨_, rfl⟩ (execHstTickLoRead_frame (Fr.refl 9 s) rfl) (fun p => by cases p <;> decide),
      Answers.only_of_frame ⟨_, rfl⟩ (execTimTickLoRead_frame (Fr.refl 9 s) rfl) (fun p => by cases p <;> decide)⟩
  · exact fun s => Answers.only_of_frame ⟨_, rfl⟩ (execEventArchiveWrite_frame (Fr.refl 8195 s) rfl)
      (fun p => by cases p <;> decide)

end Sys2Proof.Machine
end

section
/-! The registers of the admin mailbox: starting it, its tail, and stopping it (R41, R42). -/

namespace Sys2Proof.Machine

section
variable {s : State}

theorem State.bit_wakeNap (c : Nat) {f : Fld} (h : f.addr ≠ Fld.PWR_STATUS_STATE.addr) :
    (s.wakeNap c).bit f = s.bit f := State.bit_of_reg (s.reg_wakeNap c h)

/-! ## ADMIN_MAILBOX_ENABLE -/

/-- The registers as the mailbox starts with rings of 2 ^ `d` entries (R41). -/
def State.startedMailbox (s : State) (d : Nat) : State :=
  (((((s.put .HST_AQ_CFG_DEPTH_LOG2 d).putBit .HST_AQ_CFG_ENABLE true).putBit .HST_AQ_STATUS_RUNNING true).putBit
    .HST_AQ_STATUS_FAULT false).put .HST_AQ_SQ_TAIL_TAIL 0).put .HST_AQ_CQ_HEAD_HEAD 0

theorem execAdminMailboxEnable_refused {d : Nat} (h : s.bit .HST_STATUS_ADMIN_READY = false ∨
    s.bit .HST_AQ_CFG_ENABLE = true ∨ s.bit .HST_AQ_STATUS_RUNNING = true ∨ d < 4 ∨ 12 < d) :
    execAdminMailboxEnable d s = .next (s.wakeNap 1) := by
  refine if_pos ?_
  simp only [State.bit_wakeNap 1 (f := .HST_STATUS_ADMIN_READY) (by decide),
    State.bit_wakeNap 1 (f := .HST_AQ_CFG_ENABLE) (by decide),
    State.bit_wakeNap 1 (f := .HST_AQ_STATUS_RUNNING) (by decide), Bool.or_eq_true, Bool.not_eq_true', decide_eq_true_eq,
    gt_iff_lt, or_assoc]
  exact h

theorem execAdminMailboxEnable_started {d : Nat} (hr : s.bit .HST_STATUS_ADMIN_READY = true)
    (he : s.bit .HST_AQ_CFG_ENABLE = false) (hn : s.bit .HST_AQ_STATUS_RUNNING = false) (h4 : 4 ≤ d) (h12 : d ≤ 12) :
    execAdminMailboxEnable d s =
      .next { (s.wakeNap 1).startedMailbox d with admin := { sqFetch := 0, cqWrite := 0, phase := true } } := by
  refine if_neg ?_
  simp only [State.bit_wakeNap 1 (f := .HST_STATUS_ADMIN_READY) (by decide),
    State.bit_wakeNap 1 (f := .HST_AQ_CFG_ENABLE) (by decide),
    State.bit_wakeNap 1 (f := .HST_AQ_STATUS_RUNNING) (by decide), hr, he, hn]
  simp only [Bool.not_true, Bool.or_self, Bool.false_or, Bool.or_eq_true, decide_eq_true_eq]
  omega

theorem execAdminMailboxEnable_answers (d : Nat) (s : State) : ∃ t, execAdminMailboxEnable d s = .next t := by
  unfold execAdminMailboxEnable
  dsimp only
  split <;> exact ⟨_, rfl⟩

theorem State.startedMailbox_bits (s : State) (d : Nat) : (s.startedMailbox d).bit .HST_AQ_CFG_ENABLE = true ∧
    (s.startedMailbox d).bit .HST_AQ_STATUS_RUNNING = true ∧ (s.startedMailbox d).bit .HST_AQ_STATUS_FAULT = false := by
  unfold State.startedMailbox
  refine ⟨?_, ?_, ?_⟩ <;>
    simp (disch := decide) only [State.bit_put_apart, State.bit_putBit_apart, State.bit_putBit_same]

theorem State.startedMailbox_gets (s : State) {d : Nat} (h : d < 16) : (s.startedMailbox d).get .HST_AQ_CFG_DEPTH_LOG2 = d ∧
    (s.startedMailbox d).get .HST_AQ_SQ_TAIL_TAIL = 0 ∧ (s.startedMailbox d).get .HST_AQ_CQ_HEAD_HEAD = 0 := by
  unfold State.startedMailbox
  refine ⟨?_, ?_, ?_⟩ <;>
    simp (disch := decide) only [State.get_put_apart, State.get_putBit_apart, State.get_put_same, Nat.zero_mod]
  exact Nat.mod_eq_of_lt h

/-- The registers that start, feed and stop the mailbox. -/
abbrev mailboxRegs : List Nat := [Fld.HST_AQ_CFG_ENABLE.addr, Fld.HST_AQ_STATUS_RUNNING.addr,
  Fld.HST_AQ_SQ_TAIL_TAIL.addr, Fld.HST_AQ_CQ_HEAD_HEAD.addr]

theorem State.startedMailbox_onlyRegs (s : State) (d : Nat) : OnlyRegs mailboxRegs s (s.startedMailbox d) :=
  ((((((OnlyRegs.refl mailboxRegs s).put (by decide)).putBit (by decide)).putBit (by decide)).putBit (by decide)).put
    (by decide)).put (by decide)

/-- The positions of the mailbox are no register. -/
theorem OnlyRegs.admin {l : List Nat} {s t : State} (h : OnlyRegs l s t) (a : Admin) :
    OnlyRegs l { s with admin := a } { t with admin := a } := by
  obtain ⟨ht, hr⟩ := h
  exact ⟨by rw [ht], hr⟩

theorem State.bit_admin (s : State) (a : Admin) (f : Fld) : ({ s with admin := a } : State).bit f = s.bit f :=
  State.bit_congr rfl f

theorem State.get_admin (s : State) (a : Admin) (f : Fld) : ({ s with admin := a } : State).get f = s.get f :=
  State.get_congr rfl f

/-! ## ADMIN_SQ_TAIL_WRITE -/

theorem execAdminSqTailWrite_inside {v : Nat} (h : v < 2 ^ (s.wakeNap 1).get .HST_AQ_CFG_DEPTH_LOG2) :
    execAdminSqTailWrite v s = .next ((s.wakeNap 1).put .HST_AQ_SQ_TAIL_TAIL v) := if_pos h

theorem execAdminSqTailWrite_outside {v : Nat} (h : 2 ^ (s.wakeNap 1).get .HST_AQ_CFG_DEPTH_LOG2 ≤ v) :
    execAdminSqTailWrite v s = .next (s.wakeNap 1) := if_neg (Nat.not_lt.mpr h)

theorem execAdminSqTailWrite_answers (v : Nat) (s : State) : ∃ t, execAdminSqTailWrite v s = .next t := by
  rcases Nat.lt_or_ge v (2 ^ (s.wakeNap 1).get .HST_AQ_CFG_DEPTH_LOG2) with h | h
  · exact ⟨_, execAdminSqTailWrite_inside h⟩
  · exact ⟨_, execAdminSqTailWrite_outside h⟩

/-! ## ADMIN_MAILBOX_DISABLE -/

/-- Whether an admin completion is outstanding (R41). -/
def State.adminPending (s : State) : Bool := s.agent.replies.any (fun r => r.req.src == .admin)

theorem State.adminPending_iff : s.adminPending = true ↔ ∃ r ∈ s.agent.replies, r.req.src = .admin := by
  simp [State.adminPending, List.any_eq_true]

theorem execAdminMailboxDisable_eq : execAdminMailboxDisable s = .next (if s.adminPending
    then (s.wakeNap 1).putBit .HST_AQ_CFG_ENABLE false
    else ((s.wakeNap 1).putBit .HST_AQ_CFG_ENABLE false).putBit .HST_AQ_STATUS_RUNNING false) := by
  unfold execAdminMailboxDisable State.adminPending
  simp only [State.putBit_agent, State.wakeNap_agent]
  split <;> rfl

theorem execAdminMailboxDisable_stops (s : State) : Answers .adminMailboxDisable s (fun t =>
    t.bit .HST_AQ_CFG_ENABLE = false ∧
    ((∀ r ∈ s.agent.replies, r.req.src ≠ .admin) → t.bit .HST_AQ_STATUS_RUNNING = false) ∧
    ((∃ r ∈ s.agent.replies, r.req.src = .admin) → t.bit .HST_AQ_STATUS_RUNNING = s.bit .HST_AQ_STATUS_RUNNING) ∧
    OnlyRegs [Fld.HST_AQ_CFG_ENABLE.addr, Fld.HST_AQ_STATUS_RUNNING.addr] (s.wakeNap 1) t) := by
  have hu : OnlyRegs [Fld.HST_AQ_CFG_ENABLE.addr, Fld.HST_AQ_STATUS_RUNNING.addr] (s.wakeNap 1)
      ((s.wakeNap 1).putBit .HST_AQ_CFG_ENABLE false) := (OnlyRegs.refl _ _).putBit (by decide)
  have hp := State.adminPending_iff (s := s)
  refine ⟨_, execAdminMailboxDisable_eq, ?_⟩
  by_cases h : s.adminPending = true
  · rw [if_pos h]
    refine ⟨State.bit_putBit_same _ _ _ rfl (by decide), fun hn => ?_, fun _ => ?_, hu⟩
    · obtain ⟨r, hr, ha⟩ := hp.mp h
      exact absurd ha (hn r hr)
    · rw [State.bit_putBit_apart _ _ _ _ (by decide) (by decide), State.bit_wakeNap 1 (by decide)]
  · rw [if_neg h]
    refine ⟨?_, fun _ => State.bit_putBit_same _ _ _ rfl (by decide), fun he => absurd (hp.mpr he) h, hu.putBit (by decide)⟩
    rw [State.bit_putBit_apart _ _ _ _ (by decide) (by decide), State.bit_putBit_same _ _ _ rfl (by decide)]

end

/-- Settles O2: each clause is a case above, the closing ones the frame of each command. -/
theorem adminMailboxRegisters : Obligations.AdminMailboxRegisters := by
  refine ⟨?_, fun s d => execAdminMailboxEnable_refused, ?_, fun s v => execAdminSqTailWrite_outside,
    execAdminMailboxDisable_stops, ?_, ?_, ?_⟩
  · intro s d hr he hn h4 h12
    obtain ⟨ben, brun, bfault⟩ := (s.wakeNap 1).startedMailbox_bits d
    obtain ⟨gd, gt, gh⟩ := (s.wakeNap 1).startedMailbox_gets (Nat.lt_of_le_of_lt h12 (by decide))
    refine ⟨_, execAdminMailboxEnable_started hr he hn h4 h12, ?_⟩
    simp only [State.bit_admin, State.get_admin]
    exact ⟨ben, brun, bfault, gd, gt, gh, trivial, ((s.wakeNap 1).startedMailbox_onlyRegs d).admin _⟩
  · intro s v h
    refine ⟨_, execAdminSqTailWrite_inside h, fun hv => ?_, (OnlyRegs.refl _ _).put (by decide)⟩
    exact (State.get_put_same _ .HST_AQ_SQ_TAIL_TAIL v (by decide)).trans (Nat.mod_eq_of_lt (hv.trans (by decide)))
  · exact fun s d => Answers.only_of_frame (execAdminMailboxEnable_answers d s)
      (execAdminMailboxEnable_frame (Fr.refl 134217985 s) rfl) (fun p => by cases p <;> decide)
  · exact fun s => Answers.only_of_frame ⟨_, execAdminMailboxDisable_eq⟩
      (execAdminMailboxDisable_frame (Fr.refl 134217729 s) rfl) (fun p => by cases p <;> decide)
  · exact fun s v => Answers.only_of_frame (execAdminSqTailWrite_answers v s)
      (execAdminSqTailWrite_frame (Fr.refl 134217729 s) rfl) (fun p => by cases p <;> decide)

end Sys2Proof.Machine
end

section
/-! Doorbells: a tail or head is taken, or discarded and counted (R47 to R49, R52). -/

namespace Sys2Proof.Machine

/-! ## What a write of a doorbell page does, by the state of its instance -/

section
variable {s : State} {n v : Nat}

/-- How far a head would move, and how far it may: the entries written (R52). -/
def State.freedBy (s : State) (n v : Nat) : Nat := (v + s.depth n - (s.inst n).cqHead) % s.depth n

theorem State.tailWrite_discarded (h : (s.inst n).st ≠ .enabled ∨ s.zeroised = true) :
    s.tailWrite n v = s.discardDoorbell n := if_pos (by simpa using h)

theorem State.headWrite_discarded (h : (s.inst n).st ≠ .enabled ∨ s.zeroised = true) :
    s.headWrite n v = s.discardDoorbell n := if_pos (by simpa using h)

section
variable (he : (s.inst n).st = .enabled) (hz : s.zeroised = false)
include he hz

theorem State.doorbell_open : ¬ ((s.inst n).st != .enabled || s.zeroised) = true := by simp [he, hz]

theorem State.tailWrite_taken (hv : v < s.depth n) : s.tailWrite n v = s.modInst n (fun i => { i with sqTail := v }) :=
  (if_neg (State.doorbell_open he hz)).trans (if_neg (Nat.not_le.mpr hv))

theorem State.tailWrite_outside (hv : s.depth n ≤ v) :
    s.tailWrite n v = (s.discardDoorbell n).modInst n (fun i => { i with sqError := true }) :=
  (if_neg (State.doorbell_open he hz)).trans (if_pos hv)

theorem State.headWrite_taken (hv : v < s.depth n) (hw : s.freedBy n v ≤ s.freedBy n (s.inst n).cqWrite) :
    s.headWrite n v = s.modInst n (fun i => { i with cqHead := v }) := by
  refine (if_neg (State.doorbell_open he hz)).trans (if_neg ?_)
  simpa [Nat.not_le.mpr hv, State.freedBy] using hw

theorem State.headWrite_outside (hv : s.depth n ≤ v ∨ s.freedBy n (s.inst n).cqWrite < s.freedBy n v) :
    s.headWrite n v = (s.discardDoorbell n).modInst n (fun i => { i with cqError := true }) := by
  refine (if_neg (State.doorbell_open he hz)).trans (if_pos ?_)
  simpa [State.freedBy] using hv

end

theorem execSqTailWrite_page (hn : n < 1024) : execSqTailWrite n v s = .next ((s.wakeNap 1).tailWrite n v) :=
  if_neg (Nat.not_le.mpr hn)

theorem execCqHeadWrite_page (hn : n < 1024) : execCqHeadWrite n v s = .next ((s.wakeNap 1).headWrite n v) :=
  if_neg (Nat.not_le.mpr hn)

theorem execSqTailWrite_noPage (hn : 1024 ≤ n) : execSqTailWrite n v s = .next (s.wakeNap 1) := if_pos hn

theorem execCqHeadWrite_noPage (hn : 1024 ≤ n) : execCqHeadWrite n v s = .next (s.wakeNap 1) := if_pos hn

end

theorem execSqTailWrite_answers (n v : Nat) (s : State) : ∃ t, execSqTailWrite n v s = .next t := by
  rcases Nat.lt_or_ge n 1024 with hn | hn
  · exact ⟨_, execSqTailWrite_page hn⟩
  · exact ⟨_, execSqTailWrite_noPage hn⟩

theorem execCqHeadWrite_answers (n v : Nat) (s : State) : ∃ t, execCqHeadWrite n v s = .next t := by
  rcases Nat.lt_or_ge n 1024 with hn | hn
  · exact ⟨_, execCqHeadWrite_page hn⟩
  · exact ⟨_, execCqHeadWrite_noPage hn⟩

/-! ## The instance after the write -/

theorem State.inst_discardDoorbell (s : State) (n : Nat) :
    (s.discardDoorbell n).inst n = { s.inst n with dbDiscarded := sat32 (s.inst n).dbDiscarded } :=
  State.inst_modInst ..

theorem OnlyInst.discardDoorbell (s : State) (n : Nat) : OnlyInst n s (s.discardDoorbell n) :=
  (OnlyInst.refl n s).modInst

/-- Settles O3: a doorbell wakes the unit, which changes nothing the cases above rest on; the closing clause is the
frame of each command. -/
theorem doorbells : Obligations.Doorbells := by
  refine ⟨?_, ?_, ?_, ?_, ?_, fun s n v hn => ⟨execSqTailWrite_noPage hn, execCqHeadWrite_noPage hn⟩, ?_⟩
  · intro s n v hn he hz hv
    rw [← s.inst_wakeNap 1, ← s.zeroised_wakeNap 1, ← s.depth_wakeNap 1] at *
    exact ⟨_, (execSqTailWrite_page hn).trans (congrArg _ (State.tailWrite_taken he hz hv)), State.inst_modInst ..,
      (OnlyInst.refl _ _).modInst⟩
  · intro s n v hn he hz hv hw
    rw [← s.inst_wakeNap 1, ← s.zeroised_wakeNap 1, ← s.depth_wakeNap 1] at *
    exact ⟨_, (execCqHeadWrite_page hn).trans (congrArg _ (State.headWrite_taken he hz hv hw)), State.inst_modInst ..,
      (OnlyInst.refl _ _).modInst⟩
  · intro s n v hn h
    rw [← s.inst_wakeNap 1, ← s.zeroised_wakeNap 1] at *
    exact ⟨⟨_, (execSqTailWrite_page hn).trans (congrArg _ (State.tailWrite_discarded h)), State.inst_discardDoorbell ..,
        OnlyInst.discardDoorbell ..⟩,
      ⟨_, (execCqHeadWrite_page hn).trans (congrArg _ (State.headWrite_discarded h)), State.inst_discardDoorbell ..,
        OnlyInst.discardDoorbell ..⟩⟩
  · intro s n v hn he hz hv
    rw [← s.inst_wakeNap 1, ← s.zeroised_wakeNap 1, ← s.depth_wakeNap 1] at *
    refine ⟨_, (execSqTailWrite_page hn).trans (congrArg _ (State.tailWrite_outside he hz hv)), ?_,
      (OnlyInst.discardDoorbell ..).modInst⟩
    rw [State.inst_modInst, State.inst_discardDoorbell]
  · intro s n v hn he hz hv
    rw [← s.inst_wakeNap 1, ← s.zeroised_wakeNap 1, ← s.depth_wakeNap 1] at *
    refine ⟨_, (execCqHeadWrite_page hn).trans (congrArg _ (State.headWrite_outside he hz hv)), ?_,
      (OnlyInst.discardDoorbell ..).modInst⟩
    rw [State.inst_modInst, State.inst_discardDoorbell]
  · intro s n v
    simp only [List.forall_mem_cons, List.not_mem_nil, false_imp_iff, implies_true, and_true]
    exact ⟨Answers.only_of_frame (execSqTailWrite_answers n v s) (execSqTailWrite_frame (Fr.refl 134217761 s) rfl)
        (fun p => by cases p <;> decide),
      Answers.only_of_frame (execCqHeadWrite_answers n v s) (execCqHeadWrite_frame (Fr.refl 134217761 s) rfl)
        (fun p => by cases p <;> decide)⟩

end Sys2Proof.Machine
end

section
/-! Reads made over the host link: the requests of a fetch, the reads of a job and of the admin mailbox, and how each
ends (R36, R38, R41, R48, R83, R107, R112). -/

namespace Sys2Proof.Machine

/-! ## The requests issued -/

section
variable {s : State}

/-- The state with writes added to those issued toward the host. -/
def State.sent (s : State) (l : List HostWrite) : State := { s with host := { s.host with out := s.host.out ++ l } }

theorem State.sent_sent (l l' : List HostWrite) : (s.sent l).sent l' = s.sent (l ++ l') := by
  simp [State.sent]

theorem State.sent_bme {l : List HostWrite} : (s.sent l).host.bme = s.host.bme := rfl

theorem State.pasid_sent (l : List HostWrite) (n : Nat) : (s.sent l).pasid n = s.pasid n := rfl

/-- Requests issued one after another while Bus Master Enable is set, each told by what no request changes. -/
theorem State.emit_foldl {α : Type} (g : State → α → HostWrite) (hg : ∀ s w a, g (State.emit s w) a = g s a) (l : List α)
    (hb : s.host.bme = true) : l.foldl (fun s p => s.emit (g s p)) s = s.sent (l.map (g s)) := by
  induction l generalizing s with
  | nil => simp [State.sent]
  | cons a l ih =>
    rw [List.foldl_cons, ih ((s.bme_emit _).trans hb), funext (hg s (g s a))]
    simp [State.emit, hb, State.sent]

theorem State.emitRead_eq (n a len : Nat) (hb : s.host.bme = true) : s.emitRead n a len =
    s.sent ((pieces s.host.maxRead len).map (fun p => .read n (s.pasid n) (a + p.1) p.2)) :=
  State.emit_foldl (fun s (p : Nat × Nat) => .read n (s.pasid n) (a + p.1) p.2) (fun s w p => by rw [State.pasid_emit]) _ hb

theorem State.emitAdminRead_eq (a len : Nat) (hb : s.host.bme = true) : s.emitAdminRead a len =
    s.sent ((pieces s.host.maxRead len).map (fun p => .adminRead (a + p.1) p.2)) :=
  s.emit_fold _ _ hb

/-! ## SUBMISSION_FETCH -/

/-- The job entries a fetch of instance `n` reserves (R83). -/
def State.fetchSlots (s : State) (n : Nat) : List Nat :=
  s.freeEntries.take (min 32 (min (s.specDepth n - (s.instJobs n).length) (s.eligible n)))

/-- The requests of a fetch of `k` entries: to the end of the ring, then from its base on (R48). -/
def State.fetchReads (s : State) (n k : Nat) : List HostWrite :=
  (pieces s.host.maxRead (128 * min k (s.depth n - (s.inst n).fetchPos))).map
    (fun p => .read n (s.pasid n) (s.sqBase n + 128 * (s.inst n).fetchPos + p.1) p.2) ++
  (pieces s.host.maxRead (128 * (k - min k (s.depth n - (s.inst n).fetchPos)))).map
    (fun p => .read n (s.pasid n) (s.sqBase n + p.1) p.2)

/-- The fetch issued: its entries are reserved, the turn is the instance's, and the port was active (R83, R514). -/
def State.fetchIssued (s : State) (n : Nat) (l : List Nat) : State :=
  { (s.sent (s.fetchReads n l.length)).modInst n (fun i => { i with fetchRead := l }) with
    host := { (s.sent (s.fetchReads n l.length)).host with fetchTurn := n }
    power := { s.power with lastActive := s.time.tick } }

theorem State.bme_of_fetching (h : s.fetching = true) : s.host.bme = true := by
  simp only [State.fetching, Bool.and_eq_true] at h
  obtain ⟨⟨⟨⟨hbme, _⟩, _⟩, _⟩, _⟩ := h
  exact hbme

theorem execSubmissionFetch_idle (h : s.fetching = false ∨
    nextAfter s.host.fetchTurn (mkeys s.insts (fun n _ => s.wantsFetch n)) = none) :
    execSubmissionFetch s = .next s := by
  unfold execSubmissionFetch
  split
  · rfl
  · next hf =>
    rw [h.resolve_left (by simpa using hf)]

/-- The two requests of a fetch, as it issues them. -/
theorem State.emitRead_fetch (n k : Nat) (hb : s.host.bme = true) :
    (s.emitRead n (s.sqBase n + 128 * (s.inst n).fetchPos) (128 * min k (s.depth n - (s.inst n).fetchPos))).emitRead n
      (s.sqBase n) (128 * (k - min k (s.depth n - (s.inst n).fetchPos))) = s.sent (s.fetchReads n k) := by
  rw [State.emitRead_eq _ _ _ hb, State.emitRead_eq _ _ _ (State.sent_bme.trans hb), State.pasid_sent, State.sent_sent]
  rfl

section
variable {n : Nat} (hf : s.fetching = true)
  (hn : nextAfter s.host.fetchTurn (mkeys s.insts (fun n _ => s.wantsFetch n)) = some n)
include hf hn

theorem execSubmissionFetch_full (hl : s.fetchSlots n = []) : execSubmissionFetch s = .next s := by
  simp only [execSubmissionFetch, hf, hn, Bool.not_true, Bool.false_eq_true, if_false]
  exact if_pos (List.isEmpty_iff.mpr hl)

theorem execSubmissionFetch_issued (hl : s.fetchSlots n ≠ []) :
    execSubmissionFetch s = .next (s.fetchIssued n (s.fetchSlots n)).notePeaks := by
  simp only [execSubmissionFetch, hf, hn, Bool.not_true, Bool.false_eq_true, if_false,
    State.emitRead_fetch _ _ (State.bme_of_fetching hf)]
  exact if_neg (List.isEmpty_iff.not.mpr hl)

end

theorem execSubmissionFetch_answers (s : State) : ∃ t, execSubmissionFetch s = .next t := by
  cases hf : s.fetching with
  | false => exact ⟨_, execSubmissionFetch_idle (.inl hf)⟩
  | true =>
    cases hn : nextAfter s.host.fetchTurn (mkeys s.insts (fun n _ => s.wantsFetch n)) with
    | none => exact ⟨_, execSubmissionFetch_idle (.inr hn)⟩
    | some n =>
      by_cases hl : s.fetchSlots n = []
      · exact ⟨_, execSubmissionFetch_full hf hn hl⟩
      · exact ⟨_, execSubmissionFetch_issued hf hn hl⟩

theorem State.inst_fetchIssued (s : State) (n : Nat) (l : List Nat) :
    (s.fetchIssued n l).inst n = { s.inst n with fetchRead := l } :=
  (State.inst_congr rfl n).trans (State.inst_modInst s n (fun i => { i with fetchRead := l }))

theorem State.inst_fetchIssued_ne (s : State) {n m : Nat} (l : List Nat) (h : m ≠ n) :
    (s.fetchIssued n l).inst m = s.inst m :=
  (State.inst_congr rfl m).trans (State.inst_modInst_ne s n m (fun i => { i with fetchRead := l }) h)

theorem State.fetchIssued_only (n : Nat) (l : List Nat) : Only [.insts, .host, .power] s (s.fetchIssued n l) := by
  intro p hp
  cases p <;> first | rfl | exact absurd hp (by decide)

/-! ## The read of a submission fetch ends -/

/-- The error of a failed read, as the host is told it (R38). -/
def DmaResult.aer : DmaResult → List AerError
  | .data _ => []
  | .urOrCa => [.unsupportedOrAbort]
  | .poisoned => [.poisoned]
  | .timeout => [.completionTimeout]

theorem State.reportAer_eq (s : State) (r : DmaResult) :
    s.reportAer r = { s with host := { s.host with aer := s.host.aer ++ r.aer } } := by
  cases r <;> simp [State.reportAer, DmaResult.aer]

theorem State.inst_reportAer (s : State) (r : DmaResult) (n : Nat) : (s.reportAer r).inst n = s.inst n := by
  rw [State.reportAer_eq]
  rfl

theorem State.inst_setInstState (s : State) (n : Nat) (st : InstState) :
    (s.setInstState n st).inst n = { s.inst n with st := st } :=
  (State.inst_congr (State.put_insts ..) n).trans (State.inst_modInst ..)

theorem State.inst_setInstState_ne (s : State) {n m : Nat} (st : InstState) (h : m ≠ n) :
    (s.setInstState n st).inst m = s.inst m :=
  (State.inst_congr (State.put_insts ..) m).trans (s.inst_modInst_ne n m _ h)

theorem State.setInstState_host (s : State) (n : Nat) (st : InstState) : (s.setInstState n st).host = s.host :=
  State.put_host ..

theorem State.aer_msix (s : State) (v : Nat) : (s.msix v).host.aer = s.host.aer := by
  unfold State.msix State.emit
  split
  · rfl
  · split
    · rfl
    · split <;> rfl

theorem State.aer_hostEvent (s : State) (f : Fld) : (s.hostEvent f).host.aer = s.host.aer := by
  unfold State.hostEvent
  split
  · rfl
  · rw [State.aer_msix, State.putBit_host]

theorem State.bit_hostEvent (s : State) {f : Fld} (hw : f.width = 1) (hl : f.lo < 32) : (s.hostEvent f).bit f = true := by
  unfold State.hostEvent
  split
  · assumption
  · exact (State.bit_congr ((State.msix_frame (Fr.refl 16 _) rfl).1 .regs rfl) f).trans (s.bit_putBit_same f true hw hl)

theorem State.inst_hostEvent (s : State) (f : Fld) (n : Nat) : (s.hostEvent f).inst n = s.inst n :=
  State.inst_congr ((State.hostEvent_frame (Fr.refl 17 s) rfl).1 .insts rfl) n

theorem State.inst_fetchFailed (s : State) (n c : Nat) :
    (s.fetchFailed n c).inst n = { s.inst n with fetchRead := [], faultCause := c, st := .faulted } := by
  rw [State.fetchFailed, State.inst_hostEvent, State.inst_setInstState, State.inst_modInst]

theorem State.inst_fetchFailed_ne (s : State) {n m : Nat} (c : Nat) (h : m ≠ n) : (s.fetchFailed n c).inst m = s.inst m := by
  rw [State.fetchFailed, State.inst_hostEvent, State.inst_setInstState_ne _ _ h, State.inst_modInst_ne _ _ _ _ h]

theorem State.aer_fetchFailed (s : State) (n c : Nat) : (s.fetchFailed n c).host.aer = s.host.aer := by
  rw [State.fetchFailed, State.aer_hostEvent, State.setInstState_host, State.modInst_host]

theorem execDmaReadComplete_fetch_none {n : Nat} (r : DmaResult) (h : (s.inst n).fetchRead = []) :
    execDmaReadComplete (.fetch n) r s = .next s := by
  simp [execDmaReadComplete, h]

theorem execDmaReadComplete_fetch_data {n : Nat} (b : Bytes) (h : (s.inst n).fetchRead ≠ []) :
    execDmaReadComplete (.fetch n) (.data b) s = .next (s.fetchDone n b).settle.notePeaks := by
  simp [execDmaReadComplete, h]

theorem execDmaReadComplete_fetch_failed {n : Nat} {r : DmaResult} (h : (s.inst n).fetchRead ≠ [])
    (hr : ∀ b, r ≠ .data b) : execDmaReadComplete (.fetch n) r s = .next ((s.reportAer r).fetchFailed n r.cause) := by
  cases r with
  | data b => exact absurd rfl (hr b)
  | urOrCa | poisoned | timeout => simp [execDmaReadComplete, h]

/-! ## A job's read ends -/

theorem State.jobRead_unawaited {id : Nat} (p : Bool) (r : DmaResult)
    (h : s.job id = none ∨ ∃ j, s.job id = some j ∧ j.reads = 0) : s.jobRead id p r = s := by
  rcases h with h | ⟨j, h, hr⟩
  · simp [State.jobRead, h]
  · simp [State.jobRead, h, hr]

section
variable {id : Nat} {j : Job} (h : s.job id = some j) (hr : j.reads ≠ 0)
include h hr

theorem State.jobRead_failed (p : Bool) {r : DmaResult} (hf : ∀ b, r ≠ .data b) : s.jobRead id p r =
    (s.reportAer r).endEarly id .bufferFault (if p then 0x1002 else 0x1001) := by
  cases r with
  | data b => exact absurd rfl (hf b)
  | urOrCa | poisoned | timeout => simp [State.jobRead, h, hr]

theorem State.jobRead_input (b : Bytes) (ho : j.op ≠ opOwnerApprove) : s.jobRead id false (.data b) =
    s.setJob id (some { j with input := some (padTo j.inputLen b), reads := j.reads - 1 }) := by
  simp [State.jobRead, h, hr, ho]

/-- The input of an OWNER_APPROVE is tested as it arrives (R149). -/
theorem State.jobRead_approval (b : Bytes) (ho : j.op = opOwnerApprove) (u : State)
    (hu : u = s.setJob id (some { j with input := some (padTo j.inputLen b), reads := j.reads - 1 })) :
    s.jobRead id false (.data b) =
      (u.approvalFault j (padTo j.inputLen b)).elim u (fun f => u.endEarly id f.1 f.2) := by
  subst hu
  simp only [State.jobRead, h, hr, ho, if_false, Bool.false_eq_true, beq_self_eq_true, if_true]
  cases State.approvalFault _ j _ <;> rfl

theorem State.jobRead_block (b : Bytes) (u : State)
    (hu : u = s.setJob id (some { j with param := some (padTo j.blockLen b), reads := j.reads - 1 })) :
    s.jobRead id true (.data b) =
      if j.blockOk (padTo j.blockLen b) then u else u.endEarly id .badCommand 0x0707 := by
  subst hu
  simp only [State.jobRead, h, hr, if_false, if_true]

end

theorem execDmaReadComplete_input {id : Nat} {r : DmaResult} {t : State} (h : s.jobRead id false r = t) :
    execDmaReadComplete (.input id) r s = .next t.settle := by
  rw [execDmaReadComplete, h]

theorem execDmaReadComplete_paramBlock {id : Nat} {r : DmaResult} {t : State} (h : s.jobRead id true r = t) :
    execDmaReadComplete (.paramBlock id) r s = .next t.settle := by
  rw [execDmaReadComplete, h]

/-! ## The reads of the admin mailbox end -/

/-- The detail of an entry of no admin opcode: that of its reserved fields, if they are not clear (R112). -/
def entryDetail (e : Bytes) : Nat := if 8 ≤ fieldLE e 2 1 ∨ fieldLE e 3 1 ≠ 0 then 0x0701 else 0x0702

theorem execDmaReadComplete_admin_none (r : DmaResult) (h : s.adminEligible = false) :
    execDmaReadComplete .adminFetch r s = .next s ∧ ∀ e, execDmaReadComplete (.adminInput e) r s = .next s := by
  simp [execDmaReadComplete, h]

section
variable (h : s.adminEligible = true)
include h

theorem execDmaReadComplete_admin_failed {r : DmaResult} (hr : ∀ b, r ≠ .data b) :
    execDmaReadComplete .adminFetch r s = .next
      (((s.fetchAdmin.reportAer r).putBit .HST_AQ_STATUS_FAULT true).hostEvent .HST_EVENT_AQ_FAULT).settleMailbox ∧
    ∀ e, execDmaReadComplete (.adminInput e) r s =
      .next (((s.adminAdvance.readAdminInput e).reportAer r).adminEnd e 0x1001) := by
  cases r with
  | data b => exact absurd rfl (hr b)
  | urOrCa | poisoned | timeout => simp [execDmaReadComplete, h]

theorem execDmaReadComplete_admin_data (b : Bytes) :
    execDmaReadComplete .adminFetch (.data b) s = .next
      (if fieldLE (padTo 128 b) 0 2 = 0x0F01 ∨ fieldLE (padTo 128 b) 0 2 = 0x0F02 then s
       else s.adminBad (padTo 128 b) (entryDetail (padTo 128 b))) ∧
    ∀ e, execDmaReadComplete (.adminInput e) (.data b) s = .next s := by
  simp only [execDmaReadComplete, h, Bool.not_true, Bool.false_eq_true, if_false, Bool.or_eq_true, decide_eq_true_eq,
    bne_iff_ne, implies_true, and_true, entryDetail]
  split <;> rfl

end

/-! ## The statements -/

/-- The ends of a read that bring no data (R38). -/
abbrev failedReads : List DmaResult := [.urOrCa, .poisoned, .timeout]

theorem DmaResult.not_data {r : DmaResult} (h : r ∈ failedReads) (b : Bytes) : r ≠ .data b := by
  rintro rfl
  simp at h

theorem DmaResult.data_or_failed (r : DmaResult) : (∃ b, r = .data b) ∨ ∀ b, r ≠ .data b := by
  by_cases h : ∃ b, r = .data b
  · exact .inl h
  · exact .inr (not_exists.mp h)

theorem execDmaReadComplete_answers (g : DmaTarget) (r : DmaResult) (s : State) :
    ∃ t, execDmaReadComplete g r s = .next t := by
  cases g with
  | fetch n =>
    by_cases h : (s.inst n).fetchRead = []
    · exact ⟨_, execDmaReadComplete_fetch_none r h⟩
    · rcases r.data_or_failed with ⟨b, rfl⟩ | hr
      · exact ⟨_, execDmaReadComplete_fetch_data b h⟩
      · exact ⟨_, execDmaReadComplete_fetch_failed h hr⟩
  | adminFetch =>
    cases h : s.adminEligible with
    | false => exact ⟨_, (execDmaReadComplete_admin_none r h).1⟩
    | true =>
      rcases r.data_or_failed with ⟨b, rfl⟩ | hr
      · exact ⟨_, (execDmaReadComplete_admin_data h b).1⟩
      · exact ⟨_, (execDmaReadComplete_admin_failed h hr).1⟩
  | adminInput e =>
    cases h : s.adminEligible with
    | false => exact ⟨_, (execDmaReadComplete_admin_none r h).2 e⟩
    | true =>
      rcases r.data_or_failed with ⟨b, rfl⟩ | hr
      · exact ⟨_, (execDmaReadComplete_admin_data h b).2 e⟩
      · exact ⟨_, (execDmaReadComplete_admin_failed h hr).2 e⟩
  | input id => exact ⟨_, rfl⟩
  | paramBlock id => exact ⟨_, rfl⟩
  | discarded n =>
    by_cases h : (s.inst n).readsOut = 0
    · exact ⟨_, if_pos h⟩
    · exact ⟨_, if_neg h⟩

end

/-- Settles O5: the fetch issued and its read ended by the cases above, the pieces of State by the frame of each
command. -/
theorem submissionFetch : Obligations.SubmissionFetch := by
  refine ⟨?_, fun s => execSubmissionFetch_idle, fun s n b h => ⟨_, execDmaReadComplete_fetch_data b h, rfl⟩, ?_,
    fun s n r => ⟨execDmaReadComplete_fetch_none r, fun h => if_pos h, fun h => if_neg h⟩, ?_, ?_⟩
  · rintro s n l hf hn rfl hl
    exact ⟨_, execSubmissionFetch_issued hf hn hl, rfl, fun _ => (List.append_assoc ..).symm, rfl,
      fun m => s.inst_fetchIssued_ne _, s.inst_fetchIssued n _, State.fetchIssued_only n _⟩
  · intro s n c r h hc
    have hr : r ∈ failedReads ∧ r.cause = c ∧
        r.aer = [if c = 1 then .unsupportedOrAbort else if c = 2 then .poisoned else .completionTimeout] := by
      simp only [List.mem_cons, Prod.mk.injEq, List.not_mem_nil, or_false] at hc
      rcases hc with ⟨rfl, rfl⟩ | ⟨rfl, rfl⟩ | ⟨rfl, rfl⟩ <;> exact ⟨by decide, rfl, rfl⟩
    obtain ⟨hf, rfl, ha⟩ := hr
    refine ⟨_, execDmaReadComplete_fetch_failed h (DmaResult.not_data hf), fun m hm => ?_, ?_,
      State.bit_hostEvent _ rfl (by decide), ?_⟩
    · rw [State.inst_fetchFailed_ne _ _ hm, State.inst_reportAer]
    · rw [State.inst_fetchFailed, State.inst_reportAer]
    · rw [State.aer_fetchFailed, State.reportAer_eq, ha]
  · exact fun s g r => Answers.kept_of_frame (execDmaReadComplete_answers g r s)
      (execDmaReadComplete_frame (Fr.refl 1228894003 s) rfl) (by decide)
  · exact fun s => Answers.only_of_frame (execSubmissionFetch_answers s)
      (execSubmissionFetch_frame (Fr.refl 134217777 s) rfl) (fun p => by cases p <;> decide)

/-- Settles O6: each clause is a case above. -/
theorem operandReads : Obligations.OperandReads := by
  refine ⟨?_, ?_, ?_, ?_, ?_, fun s b h => execDmaReadComplete_admin_data h b, ?_, ?_, ?_⟩
  · exact fun s id j b h hr ho => execDmaReadComplete_input (State.jobRead_input h hr b ho)
  · intro s id j b h hr ho
    refine execDmaReadComplete_input ((State.jobRead_approval h hr b ho _ rfl).trans ?_)
    dsimp only
    cases State.approvalFault _ j _ <;> rfl
  · intro s id j b h hr
    rw [← apply_ite State.settle]
    exact execDmaReadComplete_paramBlock (State.jobRead_block h hr b _ rfl)
  · exact fun s id j r h hr hf => ⟨execDmaReadComplete_input (State.jobRead_failed h hr false (DmaResult.not_data hf)),
      execDmaReadComplete_paramBlock (State.jobRead_failed h hr true (DmaResult.not_data hf))⟩
  · exact fun s r h hf => execDmaReadComplete_admin_failed h (DmaResult.not_data hf)
  · exact fun s r e h => ⟨(execDmaReadComplete_admin_none r h).1, (execDmaReadComplete_admin_none r h).2 e⟩
  · exact fun s id r h => ⟨execDmaReadComplete_input (State.jobRead_unawaited false r h),
      execDmaReadComplete_paramBlock (State.jobRead_unawaited true r h)⟩
  · exact fun s b => ⟨rfl, rfl, rfl, rfl⟩

end Sys2Proof.Machine
end

section
/-! The two commands of the admin mailbox, and the unmasking of a vector (R42, R44, R112, R417, R503, R504). -/

namespace Sys2Proof.Machine

/-! ## The reads an admin command makes -/

/-- A read no longer than a request is one request. -/
theorem pieces_single {n len : Nat} (hl : 0 < len) (h : len ≤ n) : pieces n len = [(0, len)] := by
  have hc : ceilDiv len n = 1 := by
    unfold ceilDiv
    rw [show len + n - 1 = len - 1 + n by omega, Nat.add_div_right _ (by omega), Nat.div_eq_of_lt (by omega)]
  simp [pieces, hc, h]

section
variable {s : State}

theorem State.fetchAdmin_eq (hb : s.host.bme = true) (hm : 128 ≤ s.host.maxRead) : s.fetchAdmin =
    s.sent [.adminRead (s.get64 .HST_AQ_SQ_BASE_LO_ADDR .HST_AQ_SQ_BASE_HI_ADDR + 128 * s.admin.sqFetch) 128] := by
  rw [State.fetchAdmin, State.emitAdminRead_eq _ _ hb, pieces_single (by decide) hm]
  rfl

/-! ## OD_READ and OD_WRITE -/

section
variable {e : Bytes}

theorem execOdRead_ignored (h : s.adminEligible = false ∨ fieldLE (padTo 128 e) 0 2 ≠ 0x0F01) :
    execOdRead e s = .next s := if_pos (by simpa using h)

theorem execOdWrite_ignored (v : Bytes) (l : List StrandItem)
    (h : s.adminEligible = false ∨ fieldLE (padTo 128 e) 0 2 ≠ 0x0F02) : execOdWrite e v l s = .next s :=
  if_pos (by simpa using h)

section
variable (hs : s.adminEligible = true)
include hs

theorem execOdRead_bad {d : Nat} (ho : fieldLE (padTo 128 e) 0 2 = 0x0F01) (hf : adminFault (padTo 128 e) true = some d) :
    execOdRead e s = .next (s.adminBad (padTo 128 e) d) := by
  simp [execOdRead, hs, ho, hf]

theorem execOdRead_read (ho : fieldLE (padTo 128 e) 0 2 = 0x0F01) (hf : adminFault (padTo 128 e) true = none) :
    execOdRead e s = .next (s.adminAdvance.odFetch (adminReq (padTo 128 e)) (fieldLE (padTo 128 e) 56 2)
      (fieldLE (padTo 128 e) 58 1) (fieldLE (padTo 128 e) 60 2) (fieldLE (padTo 128 e) 36 4 - 7)) := by
  simp [execOdRead, hs, ho, hf]

section
variable (v : Bytes) (l : List StrandItem) (ho : fieldLE (padTo 128 e) 0 2 = 0x0F02)
include ho

theorem execOdWrite_zeroised (hz : s.zeroised = true) :
    execOdWrite e v l s = .next (s.adminBad (padTo 128 e) (entryDetail (padTo 128 e))) := by
  simp [execOdWrite, hs, ho, hz, entryDetail]

variable (hz : s.zeroised = false)
include hz

theorem execOdWrite_bad {d : Nat} (hf : adminFault (padTo 128 e) false = some d) :
    execOdWrite e v l s = .next (s.adminBad (padTo 128 e) d) := by
  simp [execOdWrite, hs, ho, hz, hf]

theorem execOdWrite_write (hf : adminFault (padTo 128 e) false = none) : execOdWrite e v l s =
    .next ((s.adminAdvance.readAdminInput (padTo 128 e)).odWrite (adminReq (padTo 128 e)) (fieldLE (padTo 128 e) 56 2)
      (fieldLE (padTo 128 e) 58 1) (fieldLE (padTo 128 e) 59 1) (padTo (fieldLE (padTo 128 e) 32 4) v) l) := by
  simp [execOdWrite, hs, ho, hz, hf]

end

end

end

theorem execOdRead_answers (e : Bytes) (s : State) : ∃ t, execOdRead e s = .next t := by
  by_cases h : s.adminEligible = false ∨ fieldLE (padTo 128 e) 0 2 ≠ 0x0F01
  · exact ⟨_, execOdRead_ignored h⟩
  · obtain ⟨hs, ho⟩ : s.adminEligible = true ∧ fieldLE (padTo 128 e) 0 2 = 0x0F01 := by simpa using h
    cases hf : adminFault (padTo 128 e) true with
    | none => exact ⟨_, execOdRead_read hs ho hf⟩
    | some d => exact ⟨_, execOdRead_bad hs ho hf⟩

theorem execOdWrite_answers (e v : Bytes) (l : List StrandItem) (s : State) : ∃ t, execOdWrite e v l s = .next t := by
  by_cases h : s.adminEligible = false ∨ fieldLE (padTo 128 e) 0 2 ≠ 0x0F02
  · exact ⟨_, execOdWrite_ignored v l h⟩
  · obtain ⟨hs, ho⟩ : s.adminEligible = true ∧ fieldLE (padTo 128 e) 0 2 = 0x0F02 := by simpa using h
    cases hz : s.zeroised with
    | true => exact ⟨_, execOdWrite_zeroised hs v l ho hz⟩
    | false =>
      cases hf : adminFault (padTo 128 e) false with
      | none => exact ⟨_, execOdWrite_write hs v l ho hz hf⟩
      | some d => exact ⟨_, execOdWrite_bad hs v l ho hz hf⟩

/-! ## MSIX_VECTOR_UNMASK -/

theorem execMsixVectorUnmask_noVector {v : Nat} (h : 2048 ≤ v) : execMsixVectorUnmask v s = .next (s.wakeNap 1) :=
  if_pos h

theorem execMsixVectorUnmask_vector {v : Nat} (h : v < 2048) : execMsixVectorUnmask v s = .next (State.sendPending
    { s.wakeNap 1 with host := { s.host with
        msixTable := mset (fun i => if i % 4 = 3 then 1#32 else 0#32) s.host.msixTable (4 * v + 3) 0#32 } }) := by
  refine (if_neg (Nat.not_le.mpr h)).trans ?_
  rw [State.wakeNap_host]

theorem execMsixVectorUnmask_answers (v : Nat) (s : State) : ∃ t, execMsixVectorUnmask v s = .next t := by
  rcases Nat.lt_or_ge v 2048 with h | h
  · exact ⟨_, execMsixVectorUnmask_vector h⟩
  · exact ⟨_, execMsixVectorUnmask_noVector h⟩

end

/-- Settles O8: each clause is a case above, the closing ones the frame of each command. -/
theorem adminCommands : Obligations.AdminCommands := by
  refine ⟨fun s e => execOdRead_read, fun s e v l hs ho hz => execOdWrite_write hs v l ho hz,
    fun s e d v l hs => ⟨execOdRead_bad hs, fun ho hz => execOdWrite_bad hs v l ho hz⟩, ?_, ?_,
    fun s e v l hs => execOdWrite_zeroised hs v l,
    fun s e v l => ⟨fun h => ⟨execOdRead_ignored (.inl h), execOdWrite_ignored v l (.inl h)⟩,
      fun h => execOdRead_ignored (.inr h), fun h => execOdWrite_ignored v l (.inr h)⟩,
    fun s v => execMsixVectorUnmask_vector, fun s v => execMsixVectorUnmask_noVector, ?_, ?_, ?_⟩
  · intro s hb hm
    rw [State.adminAdvance, State.fetchAdmin_eq hb hm]
    rfl
  · intro s e hb
    rw [State.readAdminInput, State.emitAdminRead_eq _ _ hb]
    rfl
  · exact fun s e => Answers.only_of_frame (execOdRead_answers e s)
      (execOdRead_frame (Fr.refl 1210327319 s) rfl) (fun p => by cases p <;> decide)
  · exact fun s e v l => Answers.kept_of_frame (execOdWrite_answers e v l s)
      (execOdWrite_frame (Fr.refl 2147417975 s) rfl) (by decide)
  · exact fun s v => Answers.only_of_frame (execMsixVectorUnmask_answers v s)
      (execMsixVectorUnmask_frame (Fr.refl 134217745 s) rfl) (fun p => by cases p <;> decide)

end Sys2Proof.Machine
end

section
/-! Resets over the host link: the mailbox stopped, the meter records carried, and the messages held sent (R37, R44,
R173, R174). -/

namespace Sys2Proof.Machine

/-! ## The mailbox stopped -/

section
variable (s : State)

theorem State.bit_host (h : HostPort) (f : Fld) : ({ s with host := h } : State).bit f = s.bit f := State.bit_congr rfl f

theorem State.bit_agent (a : Agent) (f : Fld) : ({ s with agent := a } : State).bit f = s.bit f := State.bit_congr rfl f

theorem State.bit_alarm (a : Alarm) (f : Fld) : ({ s with alarm := a } : State).bit f = s.bit f := State.bit_congr rfl f

theorem State.bit_put_reg {f g : Fld} (v : Nat) (h : g.addr ≠ f.addr) : (s.put f v).bit g = s.bit g :=
  State.bit_of_reg (s.reg_put_ne f v _ h)

theorem State.bit_resetConfig (f : Fld) : s.resetConfig.bit f = s.bit f := s.bit_host _ f

theorem State.stopMailbox_enable : s.stopMailbox.bit .HST_AQ_CFG_ENABLE = false := by
  rw [State.stopMailbox, State.bit_agent, State.bit_putBit_apart _ _ _ _ (by decide) (by decide)]
  exact State.bit_putBit_same _ _ _ rfl (by decide)

theorem State.stopMailbox_running : s.stopMailbox.bit .HST_AQ_STATUS_RUNNING = false := by
  rw [State.stopMailbox, State.bit_agent]
  exact State.bit_putBit_same _ _ _ rfl (by decide)

theorem State.stopMailbox_replies : ∀ r ∈ s.stopMailbox.agent.replies, r.req.src ≠ .admin := by
  intro r hr
  simpa using (List.mem_filter.mp hr).2

/-- A monitor armed or disarmed writes registers of the alarm unit alone (R414). -/
theorem State.bit_armMonitor (c : Nat) (on : Bool) {f : Fld} (hs : f.addr ≠ Fld.ALM_CLK_STATUS_ARMED.addr)
    (hd : f.addr ≠ (Fld.ALM_CLK_DEVc_DEV c).addr) (hl : f.addr ≠ Fld.ALM_ASSERTED_LEVEL.addr) :
    (s.armMonitor c on).bit f = s.bit f := by
  rw [State.armMonitor, State.bit_alarm, State.assertLevel, State.bit_put_reg _ _ hl, State.bit_put_reg _ _ hd,
    State.bit_put_reg (f := .ALM_CLK_STATUS_OUT_OF_RANGE) _ _ hs, State.bit_put_reg _ _ hs]

theorem State.armMonitor_frame_alarm (c : Nat) (on : Bool) : Fr 67108865 s (s.armMonitor c on) :=
  State.armMonitor_frame (Fr.refl _ s) rfl

theorem State.armMonitor_host (c : Nat) (on : Bool) : (s.armMonitor c on).host = s.host :=
  (s.armMonitor_frame_alarm c on).1 .host rfl

theorem State.armMonitor_agent (c : Nat) (on : Bool) : (s.armMonitor c on).agent = s.agent :=
  (s.armMonitor_frame_alarm c on).1 .agent rfl

/-! ## What carrying a meter record leaves -/

/-- The closing records are as they were, and every register but TAIL of the ring and the count of carries. -/
def CarryKeeps (s t : State) : Prop := t.meters.closing = s.meters.closing ∧
  RegsBut [Fld.HST_MTR_TAIL_TAIL.addr, Fld.HST_MTR_CARRIES_COUNT.addr] s t

variable {s}

theorem CarryKeeps.of_eq {t : State} (hc : t.meters.closing = s.meters.closing) (hr : t.regs = s.regs) : CarryKeeps s t :=
  ⟨hc, fun a _ => State.reg_congr hr a⟩

theorem CarryKeeps.refl (s : State) : CarryKeeps s s := .of_eq rfl rfl

theorem CarryKeeps.trans {t u : State} (h : CarryKeeps s t) (k : CarryKeeps t u) : CarryKeeps s u :=
  ⟨k.1.trans h.1, fun a ha => (k.2 a ha).trans (h.2 a ha)⟩

section
variable (s : State)

theorem State.put_keeps {f : Fld} (v : Nat)
    (hf : f.addr ∈ [Fld.HST_MTR_TAIL_TAIL.addr, Fld.HST_MTR_CARRIES_COUNT.addr]) : CarryKeeps s (s.put f v) :=
  ⟨congrArg Meters.closing (State.put_meters s f v), fun a ha => s.reg_put_ne f v a (fun e => ha (e ▸ hf))⟩

theorem State.emit_keeps (w : HostWrite) : CarryKeeps s (s.emit w) :=
  .of_eq (congrArg Meters.closing (s.emit_meters w)) (s.emit_regs w)

theorem State.msix_keeps (v : Nat) : CarryKeeps s (s.msix v) :=
  .of_eq (congrArg Meters.closing ((State.msix_frame (Fr.refl 16 s) rfl).1 .meters rfl))
    ((State.msix_frame (Fr.refl 16 s) rfl).1 .regs rfl)

theorem State.openMeter_keeps (n start owner flags : Nat) : CarryKeeps s (s.openMeter n start owner flags) := by
  unfold State.openMeter
  cases s.meter n <;> exact .of_eq rfl rfl

theorem State.writeMeter_keeps (m : Meter) : CarryKeeps s (s.writeMeter m) := by
  unfold State.writeMeter
  extract_lets tail a b
  have h : CarryKeeps s b := (s.emit_keeps _).trans (State.put_keeps _ _ (by decide))
  exact h.trans (.of_eq rfl rfl)

theorem State.endBatch_keeps : CarryKeeps s s.endBatch := by
  unfold State.endBatch
  split
  · refine CarryKeeps.trans ?_ (State.msix_keeps _ 3)
    exact .of_eq rfl rfl
  · exact .refl s

theorem State.offerSplit_keeps (m : Meter) : CarryKeeps s (s.offerSplit m) := by
  unfold State.offerSplit
  split
  · exact (s.writeMeter_keeps m).trans (State.endBatch_keeps _)
  · exact .of_eq rfl rfl

theorem State.dropMeter_keeps (m : Meter) : CarryKeeps s (s.dropMeter m) := .of_eq rfl rfl

theorem State.splitMeter_keeps (n : Nat) : CarryKeeps s (s.splitMeter n) := by
  unfold State.splitMeter
  cases s.meter n with
  | none => exact .refl s
  | some m =>
    dsimp only
    split
    · exact (s.dropMeter_keeps m).trans ((State.openMeter_keeps ..).trans (State.offerSplit_keeps ..))
    · exact .refl s

theorem State.setMeter_keeps (n : Nat) (m : Option Meter) : CarryKeeps s (s.setMeter n m) := .of_eq rfl rfl

theorem State.takeRest_keeps (n : Nat) : CarryKeeps s (s.takeRest n).2 := .of_eq rfl rfl

theorem State.carryMeter_keeps (m : Meter) : CarryKeeps s (s.carryMeter m) := by
  unfold State.carryMeter
  cases s.meter m.inst with
  | none =>
    exact ((s.takeRest_keeps _).trans (State.setMeter_keeps ..)).trans
      ((State.splitMeter_keeps ..).trans (State.put_keeps _ _ (by decide)))
  | some o =>
    exact (s.setMeter_keeps ..).trans ((State.splitMeter_keeps ..).trans (State.put_keeps _ _ (by decide)))

end

theorem State.foldl_carryMeter_keeps (l : List Meter) : CarryKeeps s (l.foldl State.carryMeter s) := by
  induction l generalizing s with
  | nil => exact .refl s
  | cons m l ih => exact (s.carryMeter_keeps m).trans ih

theorem State.foldl_carryMeter_agent (l : List Meter) : (l.foldl State.carryMeter s).agent = s.agent :=
  (Fr.foldl State.carryMeter l (Fr.refl 2097 s) (fun _ _ h => State.carryMeter_frame h rfl)).1 .agent rfl

/-! ## The messages held -/

theorem State.sendPending_eq (hb : s.host.bme = true) : s.sendPending =
    State.sent { s with host := { s.host with msixPend := s.host.msixPend.filter s.vectorMasked } }
      ((s.host.msixPend.filter (fun v => !s.vectorMasked v)).map HostWrite.msix) := by
  rw [State.sendPending, if_neg (by simp [hb])]
  exact State.emit_fold _ _ _ hb

theorem State.sendPending_host (s : State) : s.sendPending = { s with host := s.sendPending.host } :=
  (State.sendPending_frame (Fr.refl 16 s) rfl).eq

/-! ## The resets -/

/-- The unit once every active instance is reset and the mailbox stopped (R37). -/
def State.linkStopped (s : State) : State := ((s.wakeNap 7).resetActive).stopMailbox

theorem execPerstNAssert_eq : execPerstNAssert s = .next { s.linkStopped.resetConfig.armMonitor 3 false with
    host := { s.linkStopped.resetConfig.host with perstN := false, linkRate := 0, linkWidth := 0, pciePll := false } } := by
  rw [execPerstNAssert, State.armMonitor_host, State.linkStopped]

/-- The unit with the closing records taken, each then carried (R173). -/
def State.carried (s : State) : State :=
  s.meters.closing.foldl State.carryMeter { s with meters := { s.meters with closing := [] } }

theorem execBusMasterEnableClear_eq : execBusMasterEnableClear s =
    .next { s.linkStopped.carried with host := { s.linkStopped.carried.host with bme := false } } := rfl

theorem State.carried_keeps : CarryKeeps { s with meters := { s.meters with closing := [] } } s.carried :=
  State.foldl_carryMeter_keeps _

theorem State.bit_carried {f : Fld} (hf : f.addr ∉ [Fld.HST_MTR_TAIL_TAIL.addr, Fld.HST_MTR_CARRIES_COUNT.addr]) :
    s.carried.bit f = s.bit f := State.bit_of_reg (State.carried_keeps.2 _ hf)

theorem State.carried_agent : s.carried.agent = s.agent := State.foldl_carryMeter_agent _

theorem execBusMasterEnableSet_answers (p : Bool) (c : HostConfig) (s : State) :
    ∃ t, execBusMasterEnableSet p c s = .next t := by
  unfold execBusMasterEnableSet
  split <;> exact ⟨_, rfl⟩

end

/-- Settles O1: the resets stop the mailbox, and what follows in each command leaves it stopped; the messages by the
fold over the vectors held; the pieces of State by the frame of each command. -/
theorem hostResetStops : Obligations.HostResetStops := by
  refine ⟨fun s => ⟨rfl, execPerstNAssert_eq⟩, fun s => rfl, ?_, ?_, ?_, fun s p c h => if_pos h,
    fun s p c h => if_neg (by simp [h]), ?_, ?_, ?_, ?_⟩
  · intro s
    refine ⟨_, execPerstNAssert_eq, ?_, ?_, ?_, rfl, rfl, rfl, rfl, rfl, rfl, rfl, rfl, rfl, rfl, rfl⟩
    · rw [State.bit_host, State.bit_armMonitor _ _ _ (by decide) (by decide) (by decide), State.bit_resetConfig]
      exact State.stopMailbox_enable _
    · rw [State.bit_host, State.bit_armMonitor _ _ _ (by decide) (by decide) (by decide), State.bit_resetConfig]
      exact State.stopMailbox_running _
    · dsimp only
      rw [State.armMonitor_agent]
      exact State.stopMailbox_replies _
  · intro s
    refine ⟨s.linkStopped.resetConfig, rfl, ?_, ?_, State.stopMailbox_replies _, rfl, rfl, rfl, rfl, rfl, rfl, rfl, rfl⟩
    · exact (State.bit_resetConfig ..).trans (State.stopMailbox_enable _)
    · exact (State.bit_resetConfig ..).trans (State.stopMailbox_running _)
  · intro s
    refine ⟨_, execBusMasterEnableClear_eq, ?_, ?_, ?_, rfl, State.carried_keeps.1⟩
    · rw [State.bit_host, State.bit_carried (by decide)]
      exact State.stopMailbox_enable _
    · rw [State.bit_host, State.bit_carried (by decide)]
      exact State.stopMailbox_running _
    · dsimp only
      rw [State.carried_agent]
      exact State.stopMailbox_replies _
  · refine fun s => ⟨fun hb v hv => ?_, fun hb => ?_, s.sendPending_host⟩
    · rw [State.sendPending_eq hb] at hv
      exact (List.mem_filter.mp hv).2
    · rw [State.sendPending_eq hb]
      rfl
  · exact fun s => Answers.only_of_frame ⟨_, rfl⟩ (execPerstNAssert_frame (Fr.refl 221146673 s) rfl)
      (fun p => by cases p <;> decide)
  · simp only [List.forall_mem_cons, List.not_mem_nil, false_imp_iff, implies_true, and_true]
    exact fun s => ⟨Answers.only_of_frame ⟨_, rfl⟩ (execFunctionLevelReset_frame (Fr.refl 154037809 s) rfl)
        (fun p => by cases p <;> decide),
      Answers.only_of_frame ⟨_, rfl⟩ (execBusMasterEnableClear_frame (Fr.refl 154037809 s) rfl)
        (fun p => by cases p <;> decide)⟩
  · exact fun s p c => Answers.only_of_frame (execBusMasterEnableSet_answers p c s)
      (execBusMasterEnableSet_frame (Fr.refl 16 s) rfl) (fun p => by cases p <;> decide)

end Sys2Proof.Machine
end

section
/-! The control of an instance: the binding of its owner, ENABLE, RESET and the end of its drain (R53 to R60, R505). -/

namespace Sys2Proof.Machine

/-! ## Responses answered -/

section
variable (s : State)

/-- The state with every response numbered in `l` answered (R57). -/
def State.answerAll (l : List Nat) (res : OdResult) : State :=
  { s with agent := { s.agent with replies := s.agent.replies.map (Reply.answered l res) } }

theorem Reply.answered_cons (a : Nat) (l : List Nat) (res : OdResult) (r : Reply) :
    Reply.answered l res (Reply.answered [a] res r) = Reply.answered (a :: l) res r := by
  by_cases ha : r.num = a <;> by_cases hl : r.num ∈ l <;> simp [Reply.answered, ha, hl]

theorem State.answer_eq (n : Nat) (res : OdResult) : s.answer n res 0 = s.answerAll [n] res := by
  simp [State.answer, State.answerAll, Reply.answered]

theorem State.foldl_answer (l : List Nat) (res : OdResult) :
    l.foldl (fun s r => s.answer r res 0) s = s.answerAll l res := by
  induction l generalizing s with
  | nil =>
    have h : Reply.answered [] res = id := funext fun r => by simp [Reply.answered]
    simp [State.answerAll, h]
  | cons a l ih =>
    have h : Reply.answered l res ∘ Reply.answered [a] res = Reply.answered (a :: l) res :=
      funext (Reply.answered_cons a l res)
    rw [List.foldl_cons, ih, State.answer_eq]
    simp only [State.answerAll, List.map_map, h]

theorem State.refuseEnables_eq (n : Nat) : s.refuseEnables n =
    (s.answerAll (s.inst n).enableReplies .wrongState).modInst n (fun i => { i with enableReplies := [] }) := by
  rw [State.refuseEnables, State.foldl_answer]

@[simp] theorem State.inst_answerAll (l : List Nat) (res : OdResult) (n : Nat) : (s.answerAll l res).inst n = s.inst n := rfl

/-! ## A write whose response is held -/

/-- The state with the response of a request taken, its result still to come (R42). -/
def State.awaiting (q : OdReq) : State := (s.addReply q none [] none).2

@[simp] theorem State.inst_awaiting (q : OdReq) (n : Nat) : (s.awaiting q).inst n = s.inst n := rfl

theorem State.awaiting_replies (q : OdReq) :
    (s.awaiting q).agent.replies = s.agent.replies ++ [q.reply s.agent.nextReply] := rfl

variable {s}

/-- The first conditions of R55 rest on the host's configuration, the strand and the values of the dictionary. -/
theorem State.enableOk_congr {t : State} (n : Nat) (hh : t.host = s.host) (hs : t.strand = s.strand)
    (ha : t.agent.values = s.agent.values) : t.enableOk n = s.enableOk n := by
  simp only [State.enableOk, State.odLatestNat, State.odLatest, State.odAfter, State.odStored, State.unsealedRecs,
    State.closedRecs, hh, hs, ha]

theorem State.configSealed_congr {t : State} (n : Nat) (hs : t.strand = s.strand) : t.configSealed n = s.configSealed n := by
  simp only [State.configSealed, State.unsealedRecs, State.closedRecs, hs]

/-- The rows of CONTROL and of OWNER (R53). -/
def controlRow : OdRow := ⟨0x2400, 0x02, 1024, 1, .u8, .wo, .volatile, 0, 1, 2, [.manager, .secure]⟩

@[inherit_doc controlRow]
def ownerRow : OdRow := ⟨0x2400, 0x03, 1024, 1, .u16, .rw, .persistent, 0, 0, 4095, [.manager, .secure]⟩

theorem odTable_instance : ∃ stateRow rows, stateRow.sub + stateRow.subCount = 2 ∧
    odTable = stateRow :: controlRow :: ownerRow :: rows := ⟨_, _, rfl, rfl⟩

theorem odRow_control {n : Nat} (hn : n < 1024) : odRow (0x2400 + n) 2 = some controlRow := by
  obtain ⟨stateRow, rows, hs, h⟩ := odTable_instance
  rw [odRow, h, List.find?_cons_of_neg (by simp [hs]),
    List.find?_cons_of_pos (by simp [controlRow, show 0x2400 + n < 0x2800 by omega])]

theorem odRow_owner {n : Nat} (hn : n < 1024) : odRow (0x2400 + n) 3 = some ownerRow := by
  obtain ⟨stateRow, rows, hs, h⟩ := odTable_instance
  rw [odRow, h, List.find?_cons_of_neg (by simp [hs]), List.find?_cons_of_neg (by simp [controlRow]),
    List.find?_cons_of_pos (by simp [ownerRow, show 0x2400 + n < 0x2800 by omega])]

theorem inSpan_instance {n : Nat} (hn : n < 1024) : inSpan (0x2400 + n) 0x2400 0x2800 = true := by
  simp only [inSpan, Bool.and_eq_true, decide_eq_true_eq]
  omega

/-- An accepted write of CONTROL: its response is held, then it executes (R55, R58). -/
theorem State.odSet_control {q : OdReq} {n : Nat} {v : Bytes} (hn : n < 1024) (hp : s.passes q (0x2400 + n) 2 v = true) :
    s.odSet q (0x2400 + n) 2 v [] = (if leNat v = 1 then (s.awaiting q).controlEnable n s.agent.nextReply
      else (s.awaiting q).controlReset n s.agent.nextReply).respond := by
  obtain ⟨row, hr, h⟩ := s.odSet_of_passes q _ 2 v [] hp
  obtain rfl : controlRow = row := Option.some.inj ((odRow_control hn).symm.trans hr)
  rw [h]
  simp only [State.executeWrite, State.needsSignet, controlRow, Bool.false_eq_true, if_false, inSpan_instance hn, if_true,
    Nat.add_sub_cancel_left]
  rfl

section
variable {q : OdReq} {n : Nat} {t : State} (hn : n < 1024)
include hn

theorem exec_instanceEnable (hp : s.passes q (0x2400 + n) 2 (le 1 1) = true)
    (h : (s.awaiting q).controlEnable n s.agent.nextReply = t) : exec (.instanceEnable q n) s = .next t.respond :=
  congrArg Host.Outcome.next ((State.odSet_control hn hp).trans (congrArg State.respond ((if_pos (by decide)).trans h)))

theorem exec_instanceReset (hp : s.passes q (0x2400 + n) 2 (le 1 2) = true)
    (h : (s.awaiting q).controlReset n s.agent.nextReply = t) : exec (.instanceReset q n) s = .next t.respond :=
  congrArg Host.Outcome.next ((State.odSet_control hn hp).trans (congrArg State.respond ((if_neg (by decide)).trans h)))

end

theorem State.enableOk_awaiting (s : State) (q : OdReq) (n : Nat) : (s.awaiting q).enableOk n = s.enableOk n :=
  State.enableOk_congr n rfl rfl rfl

theorem State.configSealed_awaiting (s : State) (q : OdReq) (n : Nat) : (s.awaiting q).configSealed n = s.configSealed n :=
  State.configSealed_congr n rfl

end

/-! ## ENABLE -/

section
variable (s : State) (n r : Nat)

theorem State.sched_congr {s t : State} (h : t.scheds = s.scheds) (n : Nat) : t.sched n = s.sched n := by
  rw [State.sched, State.sched, h]

theorem State.setInstState_scheds (s : State) (n : Nat) (st : InstState) : (s.setInstState n st).scheds = s.scheds :=
  State.put_scheds ..

/-- An instance as it becomes ENABLED (R55). -/
def Inst.enabled (i : Inst) : Inst :=
  { i with st := .enabled, sqTail := 0, cqHead := 0, fetchPos := 0, cqWrite := 0, phase := true, sqError := false,
           cqError := false }

theorem State.inst_enableInst : (s.enableInst n).inst n = (s.inst n).enabled := by
  rw [State.enableInst, State.inst_congr (State.modSched_insts ..), State.inst_setInstState, State.inst_modInst]
  rfl

theorem State.inst_enableInst_ne {m : Nat} (h : m ≠ n) : (s.enableInst n).inst m = s.inst m := by
  rw [State.enableInst, State.inst_congr (State.modSched_insts ..), State.inst_setInstState_ne _ _ h,
    State.inst_modInst_ne _ _ _ _ h]

theorem State.level_enableInst : ((s.enableInst n).sched n).level = (s.sched n).burst.map (· * 256) := by
  rw [State.enableInst, State.sched_modSched]
  exact congrArg (fun c : Sched => c.burst.map (· * 256)) (State.sched_congr (State.setInstState_scheds ..) n)

theorem State.enableInst_agent : (s.enableInst n).agent = s.agent := (State.enableInst_frame (Fr.refl 97 s) rfl).1 .agent rfl

theorem State.sched_answerAll (l : List Nat) (res : OdResult) (m : Nat) : (s.answerAll l res).sched m = s.sched m := rfl

/-- The instance ENABLED and every ENABLE that waited answered (R55). -/
def State.enableAll : State :=
  ((s.enableInst n).answerAll (s.inst n).enableReplies .ok).modInst n (fun i => { i with enableReplies := [] })

theorem State.inst_enableAll : (s.enableAll n).inst n = { (s.inst n).enabled with enableReplies := [] } := by
  rw [State.enableAll, State.inst_modInst, State.inst_answerAll, State.inst_enableInst]

theorem State.inst_enableAll_ne {m : Nat} (h : m ≠ n) : (s.enableAll n).inst m = s.inst m := by
  rw [State.enableAll, State.inst_modInst_ne _ _ _ _ h, State.inst_answerAll, State.inst_enableInst_ne _ _ h]

theorem State.level_enableAll : ((s.enableAll n).sched n).level = (s.sched n).burst.map (· * 256) := by
  rw [State.enableAll, State.sched_congr (State.modInst_scheds ..), State.sched_answerAll, State.level_enableInst]

theorem State.replies_enableAll :
    (s.enableAll n).agent.replies = s.agent.replies.map (Reply.answered (s.inst n).enableReplies .ok) :=
  congrArg (fun a : Agent => a.replies.map (Reply.answered (s.inst n).enableReplies .ok)) (s.enableInst_agent n)

variable {s n}

theorem State.tryEnables_waits (ho : s.enableOk n = true) (hc : s.configSealed n = false) : s.tryEnables n = s := by
  simp [State.tryEnables, ho, hc]

theorem State.tryEnables_done (ho : s.enableOk n = true) (hc : s.configSealed n = true) :
    s.tryEnables n = s.enableAll n := by
  simp [State.tryEnables, ho, hc, State.foldl_answer, State.enableAll]

theorem State.enableOk_holdEnable : (s.holdEnable n r).enableOk n = s.enableOk n := State.enableOk_congr n rfl rfl rfl

theorem State.configSealed_holdEnable : (s.holdEnable n r).configSealed n = s.configSealed n := State.configSealed_congr n rfl

theorem State.inst_holdEnable :
    (s.holdEnable n r).inst n = { s.inst n with enableReplies := (s.inst n).enableReplies ++ [r] } := State.inst_modInst ..

theorem State.inst_holdEnable_ne {m : Nat} (h : m ≠ n) : (s.holdEnable n r).inst m = s.inst m :=
  State.inst_modInst_ne _ _ _ _ h

section
variable (hb : (s.inst n).st = .bound)
include hb

theorem State.controlEnable_refused (ho : s.enableOk n = false) : s.controlEnable n r = s.answerAll [r] .wrongState := by
  simp [State.controlEnable, hb, ho, State.answer_eq]

theorem State.controlEnable_waits (ho : s.enableOk n = true) (hc : s.configSealed n = false) :
    s.controlEnable n r = s.holdEnable n r := by
  simp only [State.controlEnable, hb, ho, if_true]
  exact State.tryEnables_waits ((State.enableOk_holdEnable r).trans ho) ((State.configSealed_holdEnable r).trans hc)

theorem State.controlEnable_done (ho : s.enableOk n = true) (hc : s.configSealed n = true) :
    s.controlEnable n r = (s.holdEnable n r).enableAll n := by
  simp only [State.controlEnable, hb, ho, if_true]
  exact State.tryEnables_done ((State.enableOk_holdEnable r).trans ho) ((State.configSealed_holdEnable r).trans hc)

end

theorem State.controlEnable_draining (h : (s.inst n).st = .draining) :
    s.controlEnable n r = (s.holdEnable n r).setInstState n .enablePending := by
  simp only [State.controlEnable, h]

theorem State.controlEnable_other (hb : (s.inst n).st ≠ .bound) (hd : (s.inst n).st ≠ .draining) :
    s.controlEnable n r = s.answerAll [r] .ok := by
  rw [State.controlEnable, ← State.answer_eq]
  cases h : (s.inst n).st <;> simp_all

/-! ## RESET -/

theorem State.controlReset_bound (h : (s.inst n).st = .bound) : s.controlReset n r =
    ((s.refuseEnables n).modInst n (fun i => { i with gen := nextGen i.gen })).answerAll [r] .ok := by
  simp only [State.controlReset, h, State.answer_eq]

theorem State.controlReset_active (h : (s.inst n).st = .enabled ∨ (s.inst n).st = .faulted) : s.controlReset n r =
    (s.resetInstance n).sweepLanes.modInst n (fun i => { i with resetReplies := i.resetReplies ++ [r] }) := by
  rcases h with h | h <;> simp only [State.controlReset, h]

theorem State.controlReset_pending (h : (s.inst n).st = .enablePending) : s.controlReset n r =
    ((s.refuseEnables n).setInstState n .draining).modInst n
      (fun i => { i with resetReplies := i.resetReplies ++ [r] }) := by
  simp only [State.controlReset, h]

theorem State.controlReset_other (h : (s.inst n).st = .unbound ∨ (s.inst n).st = .draining) :
    s.controlReset n r = s.answerAll [r] .ok := by
  rcases h with h | h <;> simp only [State.controlReset, h, State.answer_eq]

theorem State.inst_refuseEnables (s : State) (n : Nat) :
    (s.refuseEnables n).inst n = { s.inst n with enableReplies := [] } := by
  rw [State.refuseEnables_eq, State.inst_modInst, State.inst_answerAll]

theorem State.inst_refuseEnables_ne (s : State) {n m : Nat} (h : m ≠ n) : (s.refuseEnables n).inst m = s.inst m := by
  rw [State.refuseEnables_eq, State.inst_modInst_ne _ _ _ _ h, State.inst_answerAll]

theorem State.replies_refuseEnables (s : State) (n : Nat) : (s.refuseEnables n).agent.replies =
    s.agent.replies.map (Reply.answered (s.inst n).enableReplies .wrongState) := by
  rw [State.refuseEnables_eq]
  rfl

theorem State.setInstState_agent (s : State) (n : Nat) (st : InstState) : (s.setInstState n st).agent = s.agent :=
  State.put_agent ..

/-! ## OWNER -/

/-- What a write of 0 in BOUND does: the waiting ENABLEs are refused, the instance is UNBOUND (R54, R56). -/
theorem State.ownerEffect_unbinds (h : (s.inst n).st = .bound) : s.ownerEffect n 0 =
    (((s.refuseEnables n).setInstState n .unbound).modSched n (fun _ => Sched.init)).unbindMeter n := by
  simp [State.ownerEffect, h]

theorem State.ownerEffect_none (h : (s.inst n).st ≠ .bound) : s.ownerEffect n 0 = s := by
  simp [State.ownerEffect, h]

theorem State.ownerEffect_binds {v : Nat} (h : v ≠ 0) :
    s.ownerEffect n v = (s.setInstState n .bound).bindMeter n v := if_neg h

theorem State.unbindMeter_insts (s : State) (n : Nat) : (s.unbindMeter n).insts = s.insts :=
  (State.unbindMeter_frame (Fr.refl 2048 s) rfl).1 .insts rfl

theorem State.unbindMeter_agent (s : State) (n : Nat) : (s.unbindMeter n).agent = s.agent :=
  (State.unbindMeter_frame (Fr.refl 2048 s) rfl).1 .agent rfl

theorem State.bindMeter_insts (s : State) (n o : Nat) : (s.bindMeter n o).insts = s.insts :=
  (State.bindMeter_frame (Fr.refl 2048 s) rfl).1 .insts rfl

theorem State.bindMeter_agent (s : State) (n o : Nat) : (s.bindMeter n o).agent = s.agent :=
  (State.bindMeter_frame (Fr.refl 2048 s) rfl).1 .agent rfl

theorem State.ownerEffect_strand (s : State) (n v : Nat) : (s.ownerEffect n v).strand = s.strand :=
  (State.ownerEffect_frame (Fr.refl 2099297 s) rfl).1 .strand rfl

theorem State.inst_ownerEffect_ne (s : State) {n m : Nat} (v : Nat) (h : m ≠ n) :
    (s.ownerEffect n v).inst m = s.inst m := by
  by_cases hv : v = 0
  · subst hv
    by_cases hb : (s.inst n).st = .bound
    · rw [State.ownerEffect_unbinds hb, State.inst_congr (State.unbindMeter_insts ..),
        State.inst_congr (State.modSched_insts ..), State.inst_setInstState_ne _ _ h, State.inst_refuseEnables_ne _ h]
    · rw [State.ownerEffect_none hb]
  · rw [State.ownerEffect_binds hv, State.inst_congr (State.bindMeter_insts ..), State.inst_setInstState_ne _ _ h]

/-- The state of the instance after an accepted write of OWNER (R54). -/
theorem State.st_ownerEffect {v : Nat} (hv : v = 0 → (s.inst n).st = .unbound ∨ (s.inst n).st = .bound) :
    ((s.ownerEffect n v).inst n).st = if v = 0 then .unbound else .bound := by
  by_cases h : v = 0
  · subst h
    rcases hv rfl with hu | hb
    · rw [State.ownerEffect_none (by simp [hu]), hu, if_pos rfl]
    · rw [State.ownerEffect_unbinds hb, State.inst_congr (State.unbindMeter_insts ..),
        State.inst_congr (State.modSched_insts ..), State.inst_setInstState, if_pos rfl]
  · rw [State.ownerEffect_binds h, State.inst_congr (State.bindMeter_insts ..), State.inst_setInstState, if_neg h]

theorem State.replies_ownerEffect (s : State) (n v : Nat) : (s.ownerEffect n v).agent.replies =
    if v = 0 ∧ (s.inst n).st = .bound then s.agent.replies.map (Reply.answered (s.inst n).enableReplies .wrongState)
    else s.agent.replies := by
  by_cases hv : v = 0
  · subst hv
    by_cases hb : (s.inst n).st = .bound
    · rw [State.ownerEffect_unbinds hb, State.unbindMeter_agent, State.modSched_agent, State.setInstState_agent,
        State.replies_refuseEnables, if_pos ⟨rfl, hb⟩]
    · rw [State.ownerEffect_none hb, if_neg (fun h => hb h.2)]
  · rw [State.ownerEffect_binds hv, State.bindMeter_agent, State.setInstState_agent, if_neg (fun h => hv h.1)]

/-- The record of a write of OWNER, and the state it has joined the open bead of (R502). -/
def State.ownerRec (s : State) (q : OdReq) (n : Nat) (v : Bytes) : Rec :=
  (s.awaiting q).writeRec q (0x2400 + n) 3 ownerRow.type.code v [] (some s.agent.nextReply)

@[inherit_doc State.ownerRec]
def State.ownerJoined (s : State) (q : OdReq) (n : Nat) (v : Bytes) : State :=
  ((s.awaiting q).joinRec (s.ownerRec q n v)).2

theorem State.inst_ownerJoined (s : State) (q : OdReq) (n : Nat) (v : Bytes) (m : Nat) :
    (s.ownerJoined q n v).inst m = s.inst m := by
  rw [State.ownerJoined, State.joinRec_strand]
  rfl

theorem State.replies_ownerJoined (s : State) (q : OdReq) (n : Nat) (v : Bytes) :
    (s.ownerJoined q n v).agent.replies = s.agent.replies ++ [q.reply s.agent.nextReply] := by
  rw [State.ownerJoined, State.joinRec_strand]
  rfl

theorem State.getLast_ownerJoined (s : State) (q : OdReq) (n : Nat) (v : Bytes) :
    (s.ownerJoined q n v).strand.openBead.recs.getLast? = some { s.ownerRec q n v with tick := s.time.tick } :=
  State.joinRec_getLast (s.awaiting q) _ (fun _ => rfl)

theorem exec_instanceOwnerWrite {q : OdReq} {v : Bytes} (hn : n < 1024) (hp : s.passes q (0x2400 + n) 3 v = true) :
    exec (.instanceOwnerWrite q n v) s = .next ((s.ownerJoined q n v).ownerEffect n (leNat v)).respond := by
  have hpaid : s.paid (0x2400 + n) 3 = ([], s) := by
    rw [State.paid, odRow_owner hn]
    rfl
  have h := s.odSet_persistent q _ 3 v [] hp (by rw [odRow_owner hn]; rfl) s (s.ownerJoined q n v) (by rw [hpaid])
    ownerRow (odRow_owner hn) (by rw [hpaid]; rfl)
  refine congrArg Host.Outcome.next (h.trans ?_)
  simp only [inSpan_instance hn, Bool.and_eq_true, decide_eq_true_eq, and_self, if_true, Nat.add_sub_cancel_left]

/-- An accepted write of 0 finds the instance UNBOUND or BOUND (R54). -/
theorem State.st_of_ownerPasses {q : OdReq} {v : Bytes} (hn : n < 1024) (hp : s.passes q (0x2400 + n) 3 v = true)
    (hv : leNat v = 0) : (s.inst n).st = .unbound ∨ (s.inst n).st = .bound := by
  obtain ⟨row, _, hf⟩ := s.odRow_of_passes q _ 3 v hp
  have hrule := (s.writeFault_none q row _ 3 _ v hf).1
  simp only [State.odRule, inSpan_instance hn, if_true, Nat.add_sub_cancel_left, orWrongState, State.ownerAccepted, hv] at hrule
  by_contra hc
  simp [not_or.mp hc] at hrule

/-! ## The end of a drain -/

/-- The instance drained: its RESETs are answered, its generation rises, it is BOUND (R57, R60). -/
def State.drainedInst (s : State) (n : Nat) : State :=
  ((s.answerAll (s.inst n).resetReplies .ok).modInst n
    (fun i => { i with gen := nextGen i.gen, resetReplies := [] })).setInstState n .bound

theorem execInstanceDrainComplete_none (h : s.drained n = false ∨
    ((s.inst n).st ≠ .draining ∧ (s.inst n).st ≠ .enablePending)) : execInstanceDrainComplete n s = .next s := by
  refine if_pos ?_
  rcases h with h | ⟨hd, he⟩
  · simp [h]
  · simp [hd, he]

theorem execInstanceDrainComplete_done (hd : s.drained n = true)
    (hs : (s.inst n).st = .draining ∨ (s.inst n).st = .enablePending) : execInstanceDrainComplete n s =
      .next (if (s.inst n).st = .enablePending then (s.drainedInst n).tryEnables n else s.drainedInst n).respond := by
  refine (if_neg (by simpa [hd] using hs.resolve_left)).trans ?_
  simp only [State.foldl_answer, beq_iff_eq]
  rfl

theorem execInstanceDrainComplete_answers (n : Nat) (s : State) : ∃ t, execInstanceDrainComplete n s = .next t := by
  unfold execInstanceDrainComplete
  dsimp only
  split <;> exact ⟨_, rfl⟩

end

theorem nextGen_of_lt {g : Nat} (h : g < 0xFFFFFFFF) : nextGen g = g + 1 := if_neg (Nat.not_le.mpr h)

/-- Settles O4: each command by its cases above, in the state with its response held; the pieces of State by the frame
of each command. -/
theorem instanceControl : Obligations.InstanceControl := by
  refine ⟨?_, ?_, ?_, ?_, ?_, ?_, ?_, ?_, ?_, ?_, ?_, fun n s => execInstanceDrainComplete_none,
    ⟨rfl, fun g => nextGen_of_lt⟩, ?_, ?_, ?_⟩
  -- OWNER
  · intro q n v s hn hp
    refine ⟨_, exec_instanceOwnerWrite hn hp, ?_, fun m hm => ?_,
      ⟨{ s.ownerRec q n v with tick := s.time.tick }, ?_, ⟨_, _, _, rfl⟩, rfl⟩, ?_⟩
    · exact State.st_ownerEffect (fun hv => by rw [State.inst_ownerJoined]; exact State.st_of_ownerPasses hn hp hv)
    · rw [State.inst_ownerEffect_ne _ _ hm, State.inst_ownerJoined]
    · rw [State.ownerEffect_strand, State.getLast_ownerJoined]
    · rw [State.replies_ownerEffect, State.replies_ownerJoined, State.inst_ownerJoined]
  -- ENABLE
  · intro q n s hn hp hb ho hc
    rw [← s.enableOk_awaiting q] at ho
    rw [← s.configSealed_awaiting q] at hc
    refine ⟨_, exec_instanceEnable hn hp (State.controlEnable_done _ hb ho hc), fun m hm => ?_, ?_, ?_, ?_⟩
    · rw [State.inst_enableAll_ne _ _ hm, State.inst_holdEnable_ne _ hm, State.inst_awaiting]
    · rw [State.inst_enableAll, State.inst_holdEnable, State.inst_awaiting]
      rfl
    · exact State.level_enableAll _ n
    · rw [State.replies_enableAll, State.inst_holdEnable]
      rfl
  · intro q n s hn hp hb ho hc
    rw [← s.enableOk_awaiting q] at ho
    rw [← s.configSealed_awaiting q] at hc
    refine ⟨_, exec_instanceEnable hn hp (State.controlEnable_waits _ hb ho hc), fun m hm => ?_, ?_, rfl⟩
    · rw [State.inst_holdEnable_ne _ hm, State.inst_awaiting]
    · rw [State.inst_holdEnable, State.inst_awaiting]
  · intro q n s hn hp hb ho
    rw [← s.enableOk_awaiting q] at ho
    exact ⟨_, exec_instanceEnable hn hp (State.controlEnable_refused _ hb ho), rfl, rfl⟩
  · intro q n s hn hp hd
    refine ⟨_, exec_instanceEnable hn hp (State.controlEnable_draining _ hd), fun m hm => ?_, ?_, ?_⟩
    · rw [State.inst_setInstState_ne _ _ hm, State.inst_holdEnable_ne _ hm, State.inst_awaiting]
    · rw [State.inst_setInstState, State.inst_holdEnable, State.inst_awaiting]
    · rw [State.setInstState_agent]
      rfl
  · intro q n s hn hp hb hd
    exact ⟨_, exec_instanceEnable hn hp (State.controlEnable_other _ hb hd), rfl, rfl⟩
  -- RESET
  · intro q n s hn hp hb
    refine ⟨_, exec_instanceReset hn hp (State.controlReset_bound _ hb), fun m hm => ?_, ?_, ?_⟩
    · rw [State.inst_answerAll, State.inst_modInst_ne _ _ _ _ hm, State.inst_refuseEnables_ne _ hm, State.inst_awaiting]
    · rw [State.inst_answerAll, State.inst_modInst, State.inst_refuseEnables, State.inst_awaiting]
    · rw [State.answerAll, State.modInst_agent, State.replies_refuseEnables]
      rfl
  · intro q n s hn hp ha
    refine ⟨_, exec_instanceReset hn hp (State.controlReset_active _ ha), rfl, ?_⟩
    rw [State.inst_modInst]
    exact List.mem_append_right _ (List.mem_singleton.mpr rfl)
  · intro q n s hn hp he
    refine ⟨_, exec_instanceReset hn hp (State.controlReset_pending _ he), fun m hm => ?_, ?_, ?_⟩
    · rw [State.inst_modInst_ne _ _ _ _ hm, State.inst_setInstState_ne _ _ hm, State.inst_refuseEnables_ne _ hm,
        State.inst_awaiting]
    · rw [State.inst_modInst, State.inst_setInstState, State.inst_refuseEnables, State.inst_awaiting]
    · rw [State.modInst_agent, State.setInstState_agent, State.replies_refuseEnables]
      rfl
  · intro q n s hn hp ho
    exact ⟨_, exec_instanceReset hn hp (State.controlReset_other _ ho), rfl, rfl⟩
  -- the drain
  · intro n s hd hs
    refine ⟨_, execInstanceDrainComplete_done hd hs, s.drainedInst n, fun m hm => ?_, ?_, ?_, rfl⟩
    · rw [State.drainedInst, State.inst_setInstState_ne _ _ hm, State.inst_modInst_ne _ _ _ _ hm, State.inst_answerAll]
    · rw [State.drainedInst, State.inst_setInstState, State.inst_modInst, State.inst_answerAll]
    · rw [State.drainedInst, State.setInstState_agent]
      rfl
  -- the pieces of State
  · exact fun s q n v => Answers.kept_of_frame ⟨_, rfl⟩ (execInstanceOwnerWrite_frame (Fr.refl 2147417975 s) rfl) (by decide)
  · simp only [List.forall_mem_cons, List.not_mem_nil, false_imp_iff, implies_true, and_true]
    exact fun s q n =>
      ⟨Answers.kept_of_frame ⟨_, rfl⟩ (execInstanceEnable_frame (Fr.refl 2147417975 s) rfl) (by decide),
        Answers.kept_of_frame ⟨_, rfl⟩ (execInstanceReset_frame (Fr.refl 2147417975 s) rfl) (by decide)⟩
  · exact fun s n => Answers.only_of_frame (execInstanceDrainComplete_answers n s)
      (execInstanceDrainComplete_frame (Fr.refl 1210327411 s) rfl) (fun p => by cases p <;> decide)

end Sys2Proof.Machine
end

section
/-! Admission to the Locket, lookup and unseal: the cases of LOCKET_ADMISSION, of DIRECTORY_LOOKUP_COMPLETE and of
OBJECT_UNSEAL_COMPLETE, what each answers and which pieces of State it may change (R75, R76, R84, R85, R93, R112,
R225). -/

namespace Sys2Proof.Machine

/-! ## The turn -/

theorem mem_insertBy {α : Type} (key : α → Nat × Nat) (x y : α) (l : List α) :
    y ∈ insertBy key x l ↔ y = x ∨ y ∈ l := by
  induction l with
  | nil => exact List.mem_cons
  | cons z l ih =>
    rw [insertBy]
    split
    · exact List.mem_cons
    · rw [List.mem_cons, ih, List.mem_cons]
      exact or_left_comm

theorem mem_sortBy {α : Type} (key : α → Nat × Nat) (y : α) (l : List α) : y ∈ sortBy key l ↔ y ∈ l := by
  suffices h : ∀ acc, y ∈ l.foldl (fun acc x => insertBy key x acc) acc ↔ y ∈ acc ∨ y ∈ l from
    (h []).trans (by simp)
  induction l with
  | nil => simp
  | cons z l ih =>
    intro acc
    rw [List.foldl_cons, ih, mem_insertBy, List.mem_cons, or_comm (a := y = z), or_assoc]

theorem mem_of_nextAfter {t n : Nat} {l : List Nat} (h : nextAfter t l = some n) : n ∈ l :=
  (mem_sortBy _ n l).mp (List.mem_of_mem_head? h)

theorem mem_distinct (n : Nat) (l : List Nat) : n ∈ distinct l ↔ n ∈ l := by
  suffices h : ∀ acc, n ∈ l.foldl (fun acc x => if acc.contains x then acc else acc ++ [x]) acc ↔ n ∈ acc ∨ n ∈ l from
    (h []).trans (by simp)
  induction l with
  | nil => simp
  | cons m l ih =>
    intro acc
    rw [List.foldl_cons, ih, List.mem_cons]
    by_cases hm : m ∈ acc
    · rw [if_pos (List.contains_iff_mem.mpr hm)]
      exact ⟨Or.imp_right .inr, Or.rec .inl (Or.rec (fun e => .inl (e ▸ hm)) .inr)⟩
    · rw [if_neg (mt List.contains_iff_mem.mp hm), List.mem_append, List.mem_singleton, or_assoc]

/-- The instances whose next admission waits for nothing but granules. -/
def State.admitting (s : State) : List Nat := (distinct (s.jobList.map (fun e => e.2.inst))).filter s.admits

section
variable {s : State} {h : Nat} (hh : s.locket.granHeld = some h) (hi : h ∈ s.jobList.map (fun e => e.2.inst))
  (ha : s.admits h = true)
include hh hi ha

/-- While freed granules are held for an instance, it has the turn where they cover its need, and one that takes none
has it where they do not (R85). -/
theorem State.admissionTurn_held : s.admissionTurn = if s.granulesFit h then some h else
    nextAfter s.locket.granTurn (s.admitting.filter (fun n => n != h && !s.takesGranules n)) := by
  have hm : s.admitting.contains h = true :=
    List.contains_iff_mem.mpr (List.mem_filter.mpr ⟨(mem_distinct h _).mpr hi, ha⟩)
  rw [State.admissionTurn, hh]
  exact if_pos hm

theorem State.admissionTurn_fits (hf : s.granulesFit h = true) : s.admissionTurn = some h := by
  rw [State.admissionTurn_held hh hi ha, if_pos hf]

theorem State.admissionTurn_lacks {n : Nat} (hf : s.granulesFit h = false) (hn : s.admissionTurn = some n) :
    n ≠ h ∧ s.takesGranules n = false := by
  rw [State.admissionTurn_held hh hi ha, hf] at hn
  simpa using (List.mem_filter.mp (mem_of_nextAfter hn)).2

end

/-! ## LOCKET_ADMISSION -/

section
variable {s : State} {n id : Nat} {j : Job}

theorem State.granulesFit_iff (hn : s.nextAdmission n = some (id, j)) (hc : (s.admitChecks j).1 = none) :
    s.granulesFit n = true ↔ s.granulesInUse + j.granules ≤ 16384 := by
  simp [State.granulesFit, hn, hc]

theorem State.holdGranules_first (hw : j.granWaited = false) : s.holdGranules n id j =
    (({ s with locket := { s.locket with granHeld := some n } } : State).setJob id
      (some { j with granWaited := true })).count .LKT_ADMIT_WAITS_COUNT := if_neg (by simp [hw])

theorem State.holdGranules_again (hw : j.granWaited = true) :
    s.holdGranules n id j = { s with locket := { s.locket with granHeld := some n } } := if_pos hw

/-- The job in PREPARING, with its granules. -/
def Job.preparing (j : Job) : Job := { j with stage := .preparing, gran := j.granules }

/-- The turn has passed to instance `n`, and no granules are held for it. -/
def State.turnPassed (s : State) (n : Nat) : State :=
  { s with locket := { s.locket with
      granTurn := n, granHeld := if s.locket.granHeld = some n then none else s.locket.granHeld } }

/-- The job entered PREPARING; the operands of one that names no object are known (R70). -/
def State.prepares (s : State) (n id : Nat) (j : Job) : State :=
  if j.preparing.namesObject then (s.turnPassed n).setJob id (some j.preparing)
  else ((s.turnPassed n).setJob id (some j.preparing)).operandsKnown id j.preparing none none

theorem State.admitJob_eq : s.admitJob n id j =
    if (j.creates && !s.roomFor j.newType j.newSize) = true then (s.prepares n id j).refuse id (.denied 0x0105)
    else s.prepares n id j := rfl

theorem State.admitJob_room (h : j.creates = false ∨ s.roomFor j.newType j.newSize = true) :
    s.admitJob n id j = s.prepares n id j := by
  rw [State.admitJob_eq, if_neg]
  rcases h with h | h
  · simp [h]
  · simp [h]

theorem State.admitJob_full (hc : j.creates = true) (hr : s.roomFor j.newType j.newSize = false) :
    s.admitJob n id j = (s.prepares n id j).refuse id (.denied 0x0105) := by
  rw [State.admitJob_eq, if_pos (by simp [hc, hr])]

theorem execLocketAdmission_idle
    (h : s.noteHolds.halted = true ∨ s.noteHolds.zeroised = true ∨ s.noteHolds.admissionTurn = none) :
    execLocketAdmission s = .next s.noteHolds := by
  unfold execLocketAdmission
  dsimp only
  split
  · rfl
  · next hr =>
    rw [Bool.or_eq_true, not_or] at hr
    rw [(h.resolve_left hr.1).resolve_left hr.2]

section
variable (hh : s.noteHolds.halted = false) (hz : s.noteHolds.zeroised = false)
  (ht : s.noteHolds.admissionTurn = some n)
include hh hz ht

theorem execLocketAdmission_noJob (hn : s.noteHolds.nextAdmission n = none) :
    execLocketAdmission s = .next s.noteHolds := by
  simp [execLocketAdmission, hh, hz, ht, hn]

variable (hn : s.noteHolds.nextAdmission n = some (id, j))
include hn

theorem execLocketAdmission_ends {st : Status} {d : Nat} (hc : (s.noteHolds.admitChecks j).1 = some (st, d)) :
    execLocketAdmission s = .next (s.noteHolds.endEarly id st d).settle := by
  rcases he : s.noteHolds.admitChecks j with ⟨e, j'⟩
  rw [he] at hc
  subst hc
  simp [execLocketAdmission, hh, hz, ht, hn, he]

variable {j' : Job} (hc : s.noteHolds.admitChecks j = (none, j'))
include hc

theorem execLocketAdmission_passes : execLocketAdmission s = .next (
    if s.noteHolds.granulesInUse + j.granules ≤ 16384 then (s.noteHolds.admitJob n id j').settle.notePeaks
    else s.noteHolds.holdGranules n id j) := by
  rw [apply_ite Host.Outcome.next, ← if_congr (State.granulesFit_iff hn (congrArg Prod.fst hc)) rfl rfl]
  simp [execLocketAdmission, hh, hz, ht, hn, hc]

theorem execLocketAdmission_admits (hg : s.noteHolds.granulesInUse + j.granules ≤ 16384) :
    execLocketAdmission s = .next (s.noteHolds.admitJob n id j').settle.notePeaks := by
  rw [execLocketAdmission_passes hh hz ht hn hc, if_pos hg]

theorem execLocketAdmission_holds (hg : s.noteHolds.granulesInUse + j.granules > 16384) :
    execLocketAdmission s = .next (s.noteHolds.holdGranules n id j) := by
  rw [execLocketAdmission_passes hh hz ht hn hc, if_neg (Nat.not_le.mpr hg)]

end

end

theorem execLocketAdmission_answers (s : State) : ∃ t, execLocketAdmission s = .next t := by
  cases hh : s.noteHolds.halted with
  | true => exact ⟨_, execLocketAdmission_idle (.inl hh)⟩
  | false =>
  cases hz : s.noteHolds.zeroised with
  | true => exact ⟨_, execLocketAdmission_idle (.inr (.inl hz))⟩
  | false =>
  cases ht : s.noteHolds.admissionTurn with
  | none => exact ⟨_, execLocketAdmission_idle (.inr (.inr ht))⟩
  | some n =>
  cases hn : s.noteHolds.nextAdmission n with
  | none => exact ⟨_, execLocketAdmission_noJob hh hz ht hn⟩
  | some e =>
  cases hc : (s.noteHolds.admitChecks e.2).1 with
  | none => exact ⟨_, execLocketAdmission_passes hh hz ht hn (Prod.ext hc rfl)⟩
  | some f => exact ⟨_, execLocketAdmission_ends hh hz ht hn hc⟩

/-! ## DIRECTORY_LOOKUP_COMPLETE -/

/-- Whether no lookup of the job's handles is due: it is not in PREPARING or not going on, names no object or had its
lookup, or a KEY_DESTROY is in its way (R78). -/
def Job.lookupBarred (j : Job) : Bool :=
  j.stage != .preparing || j.looked || !j.namesObject || j.stamp.isSome || j.squash || j.forced.isSome ||
    !j.destroyWait.isEmpty

theorem Job.lookupBarred_iff (j : Job) : j.lookupBarred = true ↔ j.stage ≠ .preparing ∨ j.looked = true ∨
    j.namesObject = false ∨ j.stamp.isSome = true ∨ j.squash = true ∨ j.forced.isSome = true ∨ j.destroyWait ≠ [] := by
  simp [Job.lookupBarred, or_assoc]

theorem Job.lookupBarred_eq_false {j : Job} (hp : j.stage = .preparing) (hl : j.looked = false)
    (ho : j.namesObject = true) (hs : j.stamp = none) (hq : j.squash = false) (hf : j.forced = none)
    (hd : j.destroyWait = []) : j.lookupBarred = false := by
  simp [Job.lookupBarred, hp, hl, ho, hs, hq, hf, hd]

/-- The handle the creation a job refers to was given, once its work has ended (R76). -/
def State.createdHandle (s : State) (j : Job) : Option Nat :=
  ((j.deps.head?.bind s.job).filter (fun x => x.ended && x.resultHandle != 0)).map (·.resultHandle)

/-- The handle PRIMARY stands for, as soon as it is known. -/
def State.knownPrimary (s : State) (j : Job) : Option Nat :=
  if isReference j.primary then s.createdHandle j else some j.primary

section
variable {s : State} {j : Job}

theorem State.knownPrimary_handle (hr : isReference j.primary = false) : s.knownPrimary j = some j.primary :=
  if_neg (by simp [hr])

theorem State.knownPrimary_created {d : Nat} {rest : List Nat} {x : Job} (hr : isReference j.primary = true)
    (hd : j.deps = d :: rest) (hx : s.job d = some x) (he : x.ended = true) (hh : x.resultHandle ≠ 0) :
    s.knownPrimary j = some x.resultHandle := by
  simp [State.knownPrimary, State.createdHandle, hr, hd, hx, he, hh]

theorem State.knownPrimary_awaited (hr : isReference j.primary = true)
    (h : ∀ d rest x, j.deps = d :: rest → s.job d = some x → x.ended = false ∨ x.resultHandle = 0) :
    s.knownPrimary j = none := by
  rw [State.knownPrimary, if_pos hr, State.createdHandle, Option.map_eq_none_iff, Option.filter_eq_none_iff]
  intro x hx
  obtain ⟨d, hd, hx⟩ := Option.bind_eq_some_iff.mp hx
  obtain ⟨rest, hd⟩ := List.head?_eq_some_iff.mp hd
  simpa [imp_iff_not_or] using h d rest x hd hx

theorem execDirectoryLookupComplete_none {id : Nat} (h : s.job id = none) :
    execDirectoryLookupComplete id s = .next s := by
  simp only [execDirectoryLookupComplete, h]

theorem execDirectoryLookupComplete_some {id : Nat} (h : s.job id = some j) : execDirectoryLookupComplete id s =
    .next (if j.lookupBarred then s
      else (s.knownPrimary j).elim s (fun p => (s.lookup id { j with primary := p }).settle)) := by
  rw [execDirectoryLookupComplete, h, apply_ite Host.Outcome.next]
  refine if_congr Iff.rfl rfl ?_
  rw [State.knownPrimary, State.createdHandle]
  split
  · rcases hd : j.deps with _ | ⟨d, rest⟩
    · rfl
    · cases hx : s.job d with
      | none => simp [hx]
      | some x => cases hp : (x.ended && x.resultHandle != 0) <;> simp [hx, hp, Option.filter]
  · rfl

end

theorem execDirectoryLookupComplete_answers (id : Nat) (s : State) :
    ∃ t, execDirectoryLookupComplete id s = .next t := by
  cases h : s.job id with
  | none => exact ⟨_, execDirectoryLookupComplete_none h⟩
  | some j => exact ⟨_, execDirectoryLookupComplete_some h⟩

/-! ## OBJECT_UNSEAL_COMPLETE -/

/-- The object a handle of a job was found to name. -/
def Job.objectOf (j : Job) (h : Nat) : Option Obj := if h == j.primary then j.target else j.second

/-- Whether an object unsealed fills no setting: its job is refused or squashed, or a setting holds it (R80, R81). -/
def State.unsealSpent (s : State) (j : Job) (h : Nat) : Bool :=
  !j.refused.isEmpty || j.squash || j.forced.isSome || (s.findRun h j.inst).isSome

/-- A setting is filled for an unsealed object, for which the job waits no more where there was one (R80). -/
def State.fillFor (s : State) (id : Nat) (j : Job) (h : Nat) (rest : List Nat) (x : Obj) : State :=
  if ((s.useSeal (ownerOf h) x.svn).fillRun (x.specRun j.inst id) (runLength x.type x.size)).2 then
    ((s.useSeal (ownerOf h) x.svn).fillRun (x.specRun j.inst id) (runLength x.type x.size)).1.setJob id
      (some { j with unsealing := rest })
  else ((s.useSeal (ownerOf h) x.svn).fillRun (x.specRun j.inst id) (runLength x.type x.size)).1

section
variable {s : State} {id : Nat}

theorem execObjectUnsealComplete_idle {ok : Bool} (h : ∀ j, s.job id = some j → j.unsealing = []) :
    execObjectUnsealComplete id ok s = .next s := by
  unfold execObjectUnsealComplete
  cases hj : s.job id with
  | none => rfl
  | some j => simp only [h j hj]

variable {j : Job} {h : Nat} {rest : List Nat} (hj : s.job id = some j) (hu : j.unsealing = h :: rest)
include hj hu

theorem execObjectUnsealComplete_bad : execObjectUnsealComplete id false s = .next ((s.damage h).setJob id
    (some { j with unsealing := rest, damaged := true, tagFails := j.tagFails ++ [h] })) := by
  simp [execObjectUnsealComplete, hj, hu]

theorem execObjectUnsealComplete_good : execObjectUnsealComplete id true s = .next ((j.objectOf h).elim
    (s.setJob id (some { j with unsealing := rest }))
    (fun x => if s.unsealSpent j h then s.setJob id (some { j with unsealing := rest })
      else s.fillFor id j h rest x)) := by
  cases ho : j.objectOf h with
  | none =>
    rw [Job.objectOf] at ho
    simp only [execObjectUnsealComplete, hj, hu, ho, if_true, Option.elim_none]
  | some x =>
    rw [Job.objectOf] at ho
    simp only [execObjectUnsealComplete, hj, hu, ho, if_true, Option.elim_some]
    split
    · next hr => exact congrArg _ (if_pos (Bool.or_eq_true_iff.mpr (.inl hr))).symm
    · next hr =>
      rw [← apply_ite Host.Outcome.next]
      exact congrArg _ (if_congr ((or_iff_right hr).symm.trans Bool.or_eq_true_iff.symm) rfl rfl)

theorem execObjectUnsealComplete_spent (hs : j.objectOf h = none ∨ s.unsealSpent j h = true) :
    execObjectUnsealComplete id true s = .next (s.setJob id (some { j with unsealing := rest })) := by
  rw [execObjectUnsealComplete_good hj hu]
  rcases hs with hs | hs
  · rw [hs, Option.elim_none]
  · cases j.objectOf h with
    | none => rfl
    | some x => rw [Option.elim_some, if_pos hs]

theorem execObjectUnsealComplete_fills {x : Obj} (ho : j.objectOf h = some x) (hs : s.unsealSpent j h = false) :
    execObjectUnsealComplete id true s = .next (s.fillFor id j h rest x) := by
  rw [execObjectUnsealComplete_good hj hu, ho, Option.elim_some, if_neg (by simp [hs])]

end

theorem execObjectUnsealComplete_answers (id : Nat) (ok : Bool) (s : State) :
    ∃ t, execObjectUnsealComplete id ok s = .next t := by
  by_cases h : ∀ j, s.job id = some j → j.unsealing = []
  · exact ⟨_, execObjectUnsealComplete_idle h⟩
  · push Not at h
    obtain ⟨j, hj, hu⟩ := h
    obtain ⟨h, rest, hu⟩ := List.exists_cons_of_ne_nil hu
    cases ok with
    | true => exact ⟨_, execObjectUnsealComplete_good hj hu⟩
    | false => exact ⟨_, execObjectUnsealComplete_bad hj hu⟩

/-- Settles O10: each clause is a case above, the closing ones the frame of each command. -/
theorem locketAdmission : Obligations.LocketAdmission := by
  refine ⟨?_, fun s => execLocketAdmission_idle, ?_, ?_, ?_, ?_,
    fun s id ok => execObjectUnsealComplete_idle, ?_, ?_, ?_⟩
  · intro s n id j j' hh hz ht hn
    refine ⟨fun st d hc => execLocketAdmission_ends hh hz ht hn (congrArg Prod.fst hc), fun hc hg hw => ?_,
      fun hc hg hw => ?_, fun hc hg u x hu hx => ?_⟩
    · exact (execLocketAdmission_holds hh hz ht hn hc hg).trans (congrArg _ (State.holdGranules_first hw))
    · exact (execLocketAdmission_holds hh hz ht hn hc hg).trans (congrArg _ (State.holdGranules_again hw))
    · subst hu
      obtain rfl : x = s.noteHolds.prepares n id j' := hx
      have ha := execLocketAdmission_admits hh hz ht hn hc hg
      exact ⟨fun hr => ha.trans (by rw [State.admitJob_room hr]),
        fun hc hr => ha.trans (by rw [State.admitJob_full hc hr])⟩
  · exact fun s h hh hi ha => ⟨State.admissionTurn_fits hh hi ha, fun hf n => State.admissionTurn_lacks hh hi ha hf⟩
  · intro s id j h hp hl ho hs hq hf hd
    have hx : exec (.directoryLookupComplete id) s =
        .next ((s.knownPrimary j).elim s (fun p => (s.lookup id { j with primary := p }).settle)) := by
      refine (execDirectoryLookupComplete_some h).trans ?_
      rw [Job.lookupBarred_eq_false hp hl ho hs hq hf hd]
      rfl
    exact ⟨fun hr => hx.trans (by rw [State.knownPrimary_handle hr]; rfl),
      fun d rest x hr hd hx' he hn => hx.trans (by rw [State.knownPrimary_created hr hd hx' he hn]; rfl),
      fun hr hw => hx.trans (by rw [State.knownPrimary_awaited hr hw]; rfl)⟩
  · intro s id h
    cases hj : s.job id with
    | none => exact execDirectoryLookupComplete_none hj
    | some j =>
      refine (execDirectoryLookupComplete_some hj).trans ?_
      rw [if_pos (j.lookupBarred_iff.mpr (h j hj))]
  · intro s id j h rest hj hu
    refine ⟨execObjectUnsealComplete_bad hj hu, fun hs => execObjectUnsealComplete_spent hj hu ?_, ?_⟩
    · simpa [State.unsealSpent, Job.objectOf, or_assoc] using hs
    · intro x t ok ho hr hq hf hn ht
      refine (execObjectUnsealComplete_fills hj hu ho (by simp [State.unsealSpent, hr, hq, hf, hn])).trans ?_
      rw [State.fillFor, ht]
  · exact fun s => Answers.only_of_frame (execLocketAdmission_answers s)
      (execLocketAdmission_frame (Fr.refl 20934193 s) rfl) (fun p => by cases p <;> decide)
  · exact fun s id => Answers.only_of_frame (execDirectoryLookupComplete_answers id s)
      (execDirectoryLookupComplete_frame (Fr.refl 18869813 s) rfl) (fun p => by cases p <;> decide)
  · exact fun s id ok => Answers.only_of_frame (execObjectUnsealComplete_answers id ok s)
      (execObjectUnsealComplete_frame (Fr.refl 786944 s) rfl) (fun p => by cases p <;> decide)

end Sys2Proof.Machine
end

section
/-! Engine work: the cases of ENGINE_START, of ENGINE_WORK_END and of LANE_DEADLINE_EXPIRY, the end of a step, and what
each command answers and may change (R70, R72, R87, R161, R162, R300, R304, R307, R347, R348). -/

namespace Sys2Proof.Machine

/-! ## ENGINE_START -/

/-- Job `id` goes to unit `n`, in the state `t` in which its turn is charged; a setting its key is read from that fails
its tag is treated instead (R347), and where its run is gone it has missed (R348). -/
def State.startOn (s t : State) (id : Nat) (j : Job) (cls : Engine) (n : Nat) (bad : Option Nat) : State :=
  (s.stepRun j cls).elim (if s.runLost j cls then s.missAgain id (s.stepHandle j cls) else t.occupy id j cls n)
    (fun r => (bad.filter (s.meetsBad r)).elim (t.occupy id j cls n) (s.settingFailed id r))

section
variable {s t : State} {id : Nat} {j : Job} {cls : Engine} {n : Nat} {bad : Option Nat}

theorem State.startOn_good {r : Run} (hr : s.stepRun j cls = some r) (hb : ∀ k, bad = some k → s.meetsBad r k = false) :
    s.startOn t id j cls n bad = t.occupy id j cls n := by
  have hn : bad.filter (s.meetsBad r) = none := Option.filter_eq_none_iff.mpr (fun k hk => by simp [hb k hk])
  rw [State.startOn, hr, Option.elim_some, hn, Option.elim_none]

theorem State.startOn_bad {r : Run} {k : Nat} (hr : s.stepRun j cls = some r) (hb : bad = some k)
    (hm : s.meetsBad r k = true) : s.startOn t id j cls n bad = s.settingFailed id r k := by
  rw [State.startOn, hr, Option.elim_some, hb, Option.filter_some_pos hm, Option.elim_some]

theorem State.startOn_noRun (hr : s.stepRun j cls = none) (hl : s.runLost j cls = false) :
    s.startOn t id j cls n bad = t.occupy id j cls n := by
  rw [State.startOn, hr, Option.elim_none, hl]
  rfl

theorem State.startOn_lost (hr : s.stepRun j cls = none) (hl : s.runLost j cls = true) :
    s.startOn t id j cls n bad = s.missAgain id (s.stepHandle j cls) := by
  rw [State.startOn, hr, Option.elim_none, hl, if_pos rfl]

theorem execEngineStart_turn {sh : List Nat} (hr : cls ≠ .rng) (hn : cls ≠ .none) (hp : s.pick cls = some (id, t))
    (hj : t.job id = some j) (hf : t.freeUnit cls j sh = some n) :
    execEngineStart cls bad sh s = .next (s.startOn t id j cls n bad) := by
  simp only [execEngineStart, hr, hn, hp, hj, hf, decide_false, Bool.or_self, Bool.false_eq_true, if_false]
  cases hs : s.stepRun j cls with
  | none => rw [State.startOn, hs, Option.elim_none]
  | some r =>
    cases bad with
    | none => rw [State.startOn_good hs (fun k hk => by cases hk)]
    | some k =>
      cases hm : s.meetsBad r k with
      | true =>
        rw [State.startOn_bad hs rfl hm]
        exact congrArg Host.Outcome.next (if_pos hm)
      | false =>
        rw [State.startOn_good hs (fun i hi => Option.some.inj hi ▸ hm)]
        exact congrArg Host.Outcome.next (if_neg (by simp [hm]))

theorem execEngineStart_idle {sh : List Nat} (h : cls = .rng ∨ cls = .none ∨ s.pick cls = none ∨
    (∀ id t, s.pick cls = some (id, t) → t.job id = none ∨ ∃ j, t.job id = some j ∧ t.freeUnit cls j sh = none)) :
    execEngineStart cls bad sh s = .next s := by
  unfold execEngineStart
  split
  · rfl
  · next hc =>
    rw [Bool.or_eq_true, decide_eq_true_eq, decide_eq_true_eq, not_or] at hc
    cases hp : s.pick cls with
    | none => rfl
    | some p =>
      rcases (((h.resolve_left hc.1).resolve_left hc.2).resolve_left (by simp [hp])) p.1 p.2 hp with hj | ⟨j, hj, hf⟩
      · simp only [hj]
      · simp only [hj, hf]

end

theorem execEngineStart_answers (cls : Engine) (bad : Option Nat) (sh : List Nat) (s : State) :
    ∃ t, execEngineStart cls bad sh s = .next t := by
  by_cases h : cls = .rng ∨ cls = .none ∨ s.pick cls = none ∨
      (∀ id t, s.pick cls = some (id, t) → t.job id = none ∨ ∃ j, t.job id = some j ∧ t.freeUnit cls j sh = none)
  · exact ⟨_, execEngineStart_idle h⟩
  · push Not at h
    obtain ⟨hr, hn, -, id, t, hp, hj, hf⟩ := h
    obtain ⟨j, hj⟩ := Option.ne_none_iff_exists'.mp hj
    obtain ⟨n, hf⟩ := Option.ne_none_iff_exists'.mp (hf j hj)
    exact ⟨_, execEngineStart_turn hr hn hp hj hf⟩

/-! ## The end of a step -/

/-- A job whose running step ended after `t` ns and a stall of `ns`, before `rest` (R87). -/
def Job.stepEnded (j : Job) (tick t ns : Nat) (rest : List (Engine × Nat)) : Job :=
  { j with unit := none, busyNs := j.busyNs + t + ns, steps := rest, ended := false,
           drawTick := j.drawTick + (tick - j.stepTick) }

/-- The iterations a lattice signature took, as they are counted. -/
def Job.iterationsOn (j : Job) (e : Engine) : Nat :=
  if j.op = opSign && j.tz.1 = 6 && e = .lat then min 1000 j.iterations else 0

/-- The step's end as the unit shows and counts it, the unit given up (R272, R279, R295). -/
def State.unitDone (s : State) (e : Engine) (n t ns iters : Nat) (reject mismatch : Bool) : State :=
  ((s.countWork e reject mismatch iters ns).showWork e n ((t + ns) % 2 ^ 32) reject).leaveUnit e n false

section
variable {s : State} {id : Nat} {j : Job}

theorem State.endStep_none (ns : Nat) (h : j.unit = none ∨ j.steps = []) : s.endStep id j ns = s := by
  unfold State.endStep
  split
  · next hu hs => simp [hu, hs] at h
  · rfl

variable {e k : Engine} {n t : Nat} (ns : Nat) (hu : j.unit = some (e, n))
include hu

theorem State.endStep_between {rest : List (Engine × Nat)} (hs : j.steps = (k, t) :: rest) (hr : rest ≠ [])
    (hq : j.squash = false) (hf : j.forced = none) (hd : j.stage ≠ .detached) : s.endStep id j ns =
      (s.setJob id (some (j.stepEnded s.time.tick t ns rest))).unitDone e n t ns (j.iterationsOn e) false false := by
  have hgone : (j.stage == .detached) = false := beq_eq_false_iff_ne.mpr hd
  have hlast : (rest.isEmpty || j.squash || j.forced.isSome) = false := by simp [hr, hq, hf]
  simp only [State.endStep, hu, hs, hgone, hlast, Bool.or_false, Bool.false_and, Bool.and_false,
    Bool.false_eq_true, if_false]
  rfl

theorem State.endStep_last {p : Plan} (hs : j.steps = [(k, t)]) (hg : j.stage = .running) (hp : j.plan = some p)
    (he : e ≠ .sym) : s.endStep id j ns =
      ((s.setJob id (some { j.stepEnded s.time.tick t ns [] with ended := true, stage := .held })).unitDone e n t ns
        (j.iterationsOn e) (p.status == .engineReject) (p.status == .tagMismatch)).workEnded id := by
  have hgone : (j.stage == .detached) = false := by rw [hg]; rfl
  have hheld : (j.stage == .running) = true := by rw [hg]; rfl
  have hsym : (e == .sym) = false := beq_eq_false_iff_ne.mpr he
  have hplan (f : Plan → Bool) : (j.plan.map f).getD false = f p := by rw [hp]; rfl
  simp only [State.endStep, hu, hs, hgone, hheld, hsym, hplan, List.isEmpty_nil, Bool.true_or, Bool.true_and,
    Bool.false_and, Bool.false_eq_true, if_false, if_true]
  rfl

end

/-! ## ENGINE_WORK_END and LANE_DEADLINE_EXPIRY -/

/-- Whether a job's engine work cannot end as such: it has ended, HALT stopped it, or it is a refused job's on a lane,
which the lane deadline ends (R88, R307). -/
def State.workEndBarred (s : State) (j : Job) : Bool := j.ended || s.halted || (j.onLane && j.stage == .denying)

/-- Whether a running job's output overflows the buffer of its lane (R304). -/
def Job.overflowsLane (j : Job) : Bool :=
  j.streams && j.onLane && j.stage == .running && !j.squash && j.forced.isNone && decide (j.dataLen > laneBuffer)

/-- The job and the state whose step ends: a streaming job's output is written first (R17, R304). -/
def State.workEnd (s : State) (id : Nat) (j : Job) (ns : Nat) : State :=
  if s.mayStream j then
    ((s.writeStream id j j.dataLen).endStep id { j with streamed := max j.streamed j.dataLen } ns).settle.notePeaks
  else if j.overflowsLane then s.stallLane j
  else ((s.searchStep j).2.endStep id (s.searchStep j).1 (if (s.searchStep j).1.onLane then ns else 0)).settle.notePeaks

section
variable {s : State} {id : Nat} {j : Job}

theorem Job.overflowsLane_iff : j.overflowsLane = true ↔ j.streams = true ∧ j.onLane = true ∧ j.stage = .running ∧
    j.squash = false ∧ j.forced = none ∧ laneBuffer < j.dataLen := by
  simp [Job.overflowsLane, and_assoc]

theorem State.workEnd_streams (ns : Nat) (hm : s.mayStream j = true) : s.workEnd id j ns =
    ((s.writeStream id j j.dataLen).endStep id { j with streamed := max j.streamed j.dataLen } ns).settle.notePeaks :=
  if_pos hm

theorem State.workEnd_stalls (ns : Nat) (hm : s.mayStream j = false) (ho : j.overflowsLane = true) :
    s.workEnd id j ns = s.stallLane j := by
  rw [State.workEnd, hm, ho]
  rfl

theorem State.workEnd_ends (ns : Nat) (hm : s.mayStream j = false) (ho : j.overflowsLane ≠ true) : s.workEnd id j ns =
    ((s.searchStep j).2.endStep id (s.searchStep j).1 (if (s.searchStep j).1.onLane then ns else 0)).settle.notePeaks := by
  rw [State.workEnd, hm, if_neg ho]
  rfl

theorem execEngineWorkEnd_none (ns : Nat) (h : s.job id = none) : execEngineWorkEnd id ns s = .next s := by
  simp only [execEngineWorkEnd, h]

theorem execEngineWorkEnd_some (ns : Nat) (h : s.job id = some j) :
    execEngineWorkEnd id ns s = .next (if s.workEndBarred j then s else s.workEnd id j ns) := by
  rw [execEngineWorkEnd, h, State.workEnd, apply_ite Host.Outcome.next, apply_ite Host.Outcome.next,
    apply_ite Host.Outcome.next]
  rfl

theorem execLaneDeadlineExpiry_none (ns : Nat) (h : s.job id = none) : execLaneDeadlineExpiry id ns s = .next s := by
  simp only [execLaneDeadlineExpiry, h]

theorem execLaneDeadlineExpiry_some (ns : Nat) (h : s.job id = some j) : execLaneDeadlineExpiry id ns s =
    .next (if j.ended || s.halted || !j.onLane || j.stage != .denying then s
      else (s.endStep id { j with deadline := true } ns).settle.notePeaks) := by
  rw [execLaneDeadlineExpiry, h, apply_ite Host.Outcome.next]

end

theorem execEngineWorkEnd_answers (id ns : Nat) (s : State) : ∃ t, execEngineWorkEnd id ns s = .next t := by
  cases h : s.job id with
  | none => exact ⟨_, execEngineWorkEnd_none ns h⟩
  | some j => exact ⟨_, execEngineWorkEnd_some ns h⟩

theorem execLaneDeadlineExpiry_answers (id ns : Nat) (s : State) : ∃ t, execLaneDeadlineExpiry id ns s = .next t := by
  cases h : s.job id with
  | none => exact ⟨_, execLaneDeadlineExpiry_none ns h⟩
  | some j => exact ⟨_, execLaneDeadlineExpiry_some ns h⟩

/-! ## LOCKET_PEAK_CLEAR -/

theorem execLocketPeakClear_clears (s : State) : Answers .locketPeakClear s (fun t => t.get .LKT_PEAK_JOBS = 0 ∧
    t.get .LKT_PEAK_GRANULES = 0 ∧ OnlyRegs [Fld.LKT_PEAK_JOBS.addr, Fld.LKT_PEAK_GRANULES.addr] s t) := by
  refine ⟨_, rfl, ?_, State.get_put_same _ .LKT_PEAK_GRANULES 0 (by decide),
    ((OnlyRegs.refl _ s).put (by decide)).put (by decide)⟩
  rw [State.get_put_apart _ _ _ _ (by decide) (by decide)]
  exact State.get_put_same s .LKT_PEAK_JOBS 0 (by decide)

/-- Settles O11: each clause is a case above, the closing ones the frame of each command. -/
theorem engineWork : Obligations.EngineWork := by
  refine ⟨?_, fun s cls bad sh => execEngineStart_idle, ?_, ?_, ?_, ?_, ?_, ?_, fun s id j ns => State.endStep_none ns,
    execLocketPeakClear_clears, ?_, ?_, ?_⟩
  · intro s cls bad sh id t j n hr hn hp hj hf
    have hx : exec (.engineStart cls bad sh) s = .next (s.startOn t id j cls n bad) :=
      execEngineStart_turn hr hn hp hj hf
    exact ⟨fun r hs hb => hx.trans (congrArg _ (State.startOn_good hs hb)),
      fun r k hs hb hm => hx.trans (congrArg _ (State.startOn_bad hs hb hm)),
      fun hs hl => hx.trans (congrArg _ (State.startOn_noRun hs hl)),
      fun hs hl => hx.trans (congrArg _ (State.startOn_lost hs hl))⟩
  · intro s id ns j h he hh hl
    have hx : exec (.engineWorkEnd id ns) s = .next (s.workEnd id j ns) :=
      (execEngineWorkEnd_some ns h).trans (congrArg _ (if_neg (by simp only [State.workEndBarred, he, hh, hl]; decide)))
    exact ⟨fun hm => hx.trans (congrArg _ (State.workEnd_streams ns hm)),
      fun hm ho => hx.trans (congrArg _ (State.workEnd_stalls ns hm (Job.overflowsLane_iff.mpr ho))),
      fun hm ho => hx.trans (congrArg _ (State.workEnd_ends ns hm (mt Job.overflowsLane_iff.mp ho)))⟩
  · intro s id ns hb
    cases h : s.job id with
    | none => exact execEngineWorkEnd_none ns h
    | some j =>
      refine (execEngineWorkEnd_some ns h).trans (congrArg _ (if_pos ?_))
      simpa [State.workEndBarred, or_assoc] using hb j h
  · intro s id ns j h he hh hl hd
    refine (execLaneDeadlineExpiry_some ns h).trans (congrArg _ (if_neg ?_))
    simp [he, hh, hl, hd]
  · intro s id ns hb
    cases h : s.job id with
    | none => exact execLaneDeadlineExpiry_none ns h
    | some j =>
      refine (execLaneDeadlineExpiry_some ns h).trans (congrArg _ (if_pos ?_))
      simpa [or_assoc] using hb j h
  · exact fun s id j e n k t rest ns hu hs hr hq hf hd => State.endStep_between ns hu hs hr hq hf hd
  · exact fun s id j e n k t ns p hu hs hg hp he => State.endStep_last ns hu hs hg hp he
  · exact fun s cls bad sh => Answers.kept_of_frame (execEngineStart_answers cls bad sh s)
      (execEngineStart_frame (Fr.refl 1832808181 s) rfl) (by decide)
  · simp only [List.forall_mem_cons, List.not_mem_nil, false_imp_iff, implies_true, and_true]
    exact fun s id ns =>
      ⟨Answers.only_of_frame (execEngineWorkEnd_answers id ns s) (execEngineWorkEnd_frame (Fr.refl 18837045 s) rfl)
        (fun p => by cases p <;> decide),
      Answers.only_of_frame (execLaneDeadlineExpiry_answers id ns s)
        (execLaneDeadlineExpiry_frame (Fr.refl 18837045 s) rfl) (fun p => by cases p <;> decide)⟩
  · exact fun s => Answers.only_of_frame ⟨_, rfl⟩ (execLocketPeakClear_frame (Fr.refl 1 s) rfl)
      (fun p => by cases p <;> decide)

end Sys2Proof.Machine
end

section
/-! The ends of PURGE and of ZEROISE, and HALT_CLEAR: their cases, what each answers and which pieces of State it may
change (R88, R417, R418). -/

namespace Sys2Proof.Machine

/-! ## PURGE_ERASURE_COMPLETE -/

/-- The engines erased, each job of the Locket aborted in its order (R88, R417). -/
def State.purgeJobs (s : State) : State :=
  s.eraseEngines.jobsInOrder.foldl (fun s e => s.purgeJob e.1 e.2) s.eraseEngines

/-- The firmware storage key request is gone, and the generators in use are to be reseeded. -/
def State.purgeRequests (s : State) : State :=
  (({ s with ladder := { s.ladder with fwRequest := none } } : State).putBit .KLD_FW_STATUS_BUSY false).setRng
    { s.rng with drbgs := s.rng.drbgs.map (fun d => { d with due := d.inst && !s.rng.stopped }) }

section
variable {s : State}

theorem execPurgeErasureComplete_ends (hp : s.bit .ALM_STATUS_PURGING = true) (hz : s.zeroised = false) :
    execPurgeErasureComplete s = .next
      (((s.purgeJobs.purgeRequests.sweepLanes.putBit .ALM_STATUS_PURGING false).showRoots.openSecure).showAlarmN) := by
  simp only [execPurgeErasureComplete, hp, hz, Bool.not_true, Bool.or_self, Bool.false_eq_true, if_false,
    State.purgeRequests, State.purgeJobs, State.putBit_rng]

theorem execPurgeErasureComplete_none (h : s.bit .ALM_STATUS_PURGING = false ∨ s.zeroised = true) :
    execPurgeErasureComplete s = .next s := if_pos (by simpa using h)

end

theorem execPurgeErasureComplete_answers (s : State) : ∃ t, execPurgeErasureComplete s = .next t := by
  cases hp : s.bit .ALM_STATUS_PURGING with
  | false => exact ⟨_, execPurgeErasureComplete_none (.inl hp)⟩
  | true =>
    cases hz : s.zeroised with
    | false => exact ⟨_, execPurgeErasureComplete_ends hp hz⟩
    | true => exact ⟨_, execPurgeErasureComplete_none (.inr hz)⟩

/-! ## ZEROISE_ERASURE_COMPLETE -/

/-- The stores of R417 erased, the lanes swept, and the heartbeat to the partner low. -/
def State.zeroiseErased (s : State) : State := s.zeroiseStores.sweepLanes.putBit .FLL_STATUS_HB false

section
variable {s : State}

theorem execZeroiseErasureComplete_ends (h : s.alarm.zeroising = true) : execZeroiseErasureComplete s = .next
    (({ s.zeroiseErased with alarm := { s.zeroiseErased.alarm with zeroising := false } } : State)
      |>.showRng.showRoots.refreshDeviceState.showAlarmN) :=
  if_neg (by simp [h])

theorem execZeroiseErasureComplete_none (h : s.alarm.zeroising = false) : execZeroiseErasureComplete s = .next s :=
  if_pos (by simp [h])

end

theorem execZeroiseErasureComplete_answers (s : State) : ∃ t, execZeroiseErasureComplete s = .next t := by
  cases h : s.alarm.zeroising with
  | true => exact ⟨_, execZeroiseErasureComplete_ends h⟩
  | false => exact ⟨_, execZeroiseErasureComplete_none h⟩

/-! ## HALT_CLEAR -/

/-- What bars the end of a HALT: a zeroise has run, a PURGE runs, or a level source still asks for it (R418). -/
def State.haltStays (s : State) : Bool := s.zeroised || s.bit .ALM_STATUS_PURGING || s.levelHolds

theorem execHaltClear_eq (s : State) : execHaltClear s = .next (
    if s.haltStays then s.putBit .ALM_STATUS_CLEAR_REFUSED true else if s.halted then s.clearHalt else s) := by
  rw [execHaltClear, apply_ite Host.Outcome.next, apply_ite Host.Outcome.next]
  refine if_congr Iff.rfl rfl ?_
  cases s.halted with
  | true => rfl
  | false => rfl

theorem execHaltClear_refused {s : State}
    (h : s.zeroised = true ∨ s.bit .ALM_STATUS_PURGING = true ∨ s.levelHolds = true) :
    execHaltClear s = .next (s.putBit .ALM_STATUS_CLEAR_REFUSED true) := by
  rw [execHaltClear_eq, if_pos (by simpa [State.haltStays, or_assoc] using h)]

theorem execHaltClear_clears {s : State} (hz : s.zeroised = false) (hp : s.bit .ALM_STATUS_PURGING = false)
    (hl : s.levelHolds = false) : execHaltClear s = .next (if s.halted then s.clearHalt else s) := by
  rw [execHaltClear_eq, if_neg (by simp [State.haltStays, hz, hp, hl])]

/-- Settles O40: each clause is a case above, the closing ones the frame of each command. -/
theorem erasuresAndHalt : Obligations.ErasuresAndHalt := by
  refine ⟨fun s hp hz => ⟨s.purgeJobs, s.purgeJobs.purgeRequests, execPurgeErasureComplete_ends hp hz, rfl, rfl⟩,
    fun s => execPurgeErasureComplete_none, fun s h => ⟨s.zeroiseErased, rfl, execZeroiseErasureComplete_ends h⟩,
    fun s => execZeroiseErasureComplete_none, fun s => ⟨execHaltClear_refused, execHaltClear_clears⟩, ?_, ?_, ?_⟩
  · exact fun s => Answers.kept_of_frame (execPurgeErasureComplete_answers s)
      (execPurgeErasureComplete_frame (Fr.refl 1270837107 s) rfl) (by decide)
  · exact fun s => Answers.only_of_frame (execZeroiseErasureComplete_answers s)
      (execZeroiseErasureComplete_frame (Fr.refl 265814545 s) rfl) (fun p => by cases p <;> decide)
  · exact fun s => Answers.only_of_frame ⟨_, execHaltClear_eq s⟩
      (execHaltClear_frame (Fr.refl 220163633 s) rfl) (fun p => by cases p <;> decide)

end Sys2Proof.Machine
end

section
/-! Policy decisions: the cases of POLICY_HW_DECISION, of POLICY_REQUEST_POST, of the decisions of secure firmware and
their timeout, and of the expiry of an approval wait (R98, R103, R111, R121, R122, R374). -/

namespace Sys2Proof.Machine

/-! ## POLICY_HW_DECISION -/

section
variable {s : State} {id : Nat} {j : Job}

theorem execPolicyHwDecision_none (h : s.job id = none) : execPolicyHwDecision id s = .next s := by
  simp only [execPolicyHwDecision, h]

theorem execPolicyHwDecision_closed (h : s.job id = some j) (ho : j.policyOpen = false) :
    execPolicyHwDecision id s = .next s := by
  simp only [execPolicyHwDecision, h, ho, Bool.not_false, if_true]

variable (h : s.job id = some j) (ho : j.policyOpen = true)
include h ho

theorem execPolicyHwDecision_refused {d : Nat} (hf : s.policyFault j = some d) :
    execPolicyHwDecision id s = .next (s.refuse id (.denied d)).settle.notePeaks := by
  simp only [execPolicyHwDecision, h, ho, hf, Bool.not_true, Bool.false_eq_true, if_false]

theorem execPolicyHwDecision_passed (hf : s.policyFault j = none) :
    execPolicyHwDecision id s = .next (if j.fwDecided then s else (s.permit id).settle.notePeaks) := by
  simp only [execPolicyHwDecision, h, ho, hf, Bool.not_true, Bool.false_eq_true, if_false]
  exact (apply_ite Host.Outcome.next _ _ _).symm

end

theorem execPolicyHwDecision_answers (id : Nat) (s : State) : ∃ t, execPolicyHwDecision id s = .next t := by
  cases h : s.job id with
  | none => exact ⟨_, execPolicyHwDecision_none h⟩
  | some j =>
    cases ho : j.policyOpen with
    | false => exact ⟨_, execPolicyHwDecision_closed h ho⟩
    | true =>
      cases hf : s.policyFault j with
      | some d => exact ⟨_, execPolicyHwDecision_refused h ho hf⟩
      | none => exact ⟨_, execPolicyHwDecision_passed h ho hf⟩

/-! ## POLICY_REQUEST_POST -/

/-- What keeps a job from a request: its policy is not open or not for the firmware, the request is in the ring, or
reads of its input are under way (R103, R122). -/
def Job.requestBarred (j : Job) : Bool := !j.policyOpen || !j.fwDecided || j.fwSent || j.reads != 0

/-- The refusal with which a request due finds its job instead: of the device's own checks, or of the time window. -/
def State.requestFault (s : State) (j : Job) : Option Refusal113 :=
  ((s.policyFault j).map Refusal113.denied).or
    ((s.stampTests j).find? (fun r => r == .denied 0x0102 || r == .timeUnknown))

/-- A job whose request was first due at `tick` at the latest. -/
def Job.requestDue (j : Job) (tick : Nat) : Job := { j with fwPosted := some (j.fwPosted.getD tick) }

/-- The record of job `id` stands in the ring at HEAD, which moves on by one (R121, R122; log entry 75). -/
def State.ringRecord (s : State) (id : Nat) (j : Job) : State :=
  let v := s.deviceWrite (s.get .LKT_POL_RING_BASE_ADDR + 256 * s.get .LKT_POL_HEAD_HEAD) (s.policyRecord id j)
  v.put .LKT_POL_HEAD_HEAD ((s.get .LKT_POL_HEAD_HEAD + 1) % v.polDepth)

/-- Job `id`, its request due, is kept, and its record written and marked where the ring takes it. -/
def State.postRequest (s : State) (id : Nat) (j : Job) : State :=
  if s.polRoom then (((s.setJob id (some j)).ringRecord id j).setJob id (some { j with fwSent := true })).polIrq
  else s.setJob id (some j)

theorem Job.requestBarred_iff (j : Job) : j.requestBarred = true ↔
    j.policyOpen = false ∨ j.fwDecided = false ∨ j.fwSent = true ∨ j.reads ≠ 0 := by
  simp [Job.requestBarred, or_assoc]

theorem State.get_setJob (s : State) (id : Nat) (x : Option Job) (f : Fld) : (s.setJob id x).get f = s.get f :=
  State.get_congr (s.setJob_regs id x) f

theorem State.polRoom_setJob (s : State) (id : Nat) (x : Option Job) : (s.setJob id x).polRoom = s.polRoom := by
  simp only [State.polRoom, State.polDepth, State.get_setJob, State.bit_congr (s.setJob_regs id x)]

section
variable {s : State} {id : Nat} {j : Job}

theorem State.requestFault_denied {d : Nat} (hf : s.policyFault j = some d) : s.requestFault j = some (.denied d) := by
  rw [State.requestFault, hf, Option.map_some, Option.some_or]

theorem State.requestFault_tested (hf : s.policyFault j = none) : s.requestFault j =
    (s.stampTests j).find? (fun r => r == .denied 0x0102 || r == .timeUnknown) := by
  rw [State.requestFault, hf, Option.map_none, Option.none_or]

theorem execPolicyRequestPost_none (h : s.job id = none) : execPolicyRequestPost id s = .next s := by
  simp only [execPolicyRequestPost, h]

theorem execPolicyRequestPost_barred (h : s.job id = some j) (hb : j.requestBarred = true) :
    execPolicyRequestPost id s = .next s := by
  rw [execPolicyRequestPost, h]
  exact if_pos hb

variable (h : s.job id = some j) (hb : j.requestBarred = false)
include h hb

theorem execPolicyRequestPost_refused {r : Refusal113} (hf : s.requestFault j = some r) :
    execPolicyRequestPost id s = .next (s.refuse id r).settle.notePeaks := by
  rw [execPolicyRequestPost, h]
  refine (if_neg (ne_true_of_eq_false hb)).trans ?_
  cases hp : s.policyFault j with
  | some d =>
    rw [State.requestFault_denied hp] at hf
    rw [← Option.some.inj hf]
  | none =>
    rw [State.requestFault_tested hp] at hf
    rw [hf]

theorem execPolicyRequestPost_passed (hf : s.requestFault j = none) :
    execPolicyRequestPost id s = .next (s.postRequest id (j.requestDue s.time.tick)) := by
  have hp : s.policyFault j = none := Option.map_eq_none_iff.mp (Option.or_eq_none_iff.mp hf).1
  rw [execPolicyRequestPost, h]
  refine (if_neg (ne_true_of_eq_false hb)).trans ?_
  rw [State.requestFault_tested hp] at hf
  rw [hp, hf, State.postRequest, apply_ite Host.Outcome.next]
  simp only [State.polRoom_setJob, Bool.not_eq_true', ite_not, ← Bool.not_eq_true]
  rfl

end

theorem execPolicyRequestPost_answers (id : Nat) (s : State) : ∃ t, execPolicyRequestPost id s = .next t := by
  cases h : s.job id with
  | none => exact ⟨_, execPolicyRequestPost_none h⟩
  | some j =>
    cases hb : j.requestBarred with
    | true => exact ⟨_, execPolicyRequestPost_barred h hb⟩
    | false =>
      cases hf : s.requestFault j with
      | some r => exact ⟨_, execPolicyRequestPost_refused h hb hf⟩
      | none => exact ⟨_, execPolicyRequestPost_passed h hb hf⟩

/-! ## POLICY_PERMIT and POLICY_DENY -/

/-- Whether a decision with sequence number `q` names job `id` while the job awaits one (R122). -/
def State.awaitsDecision (s : State) (id q : Nat) : Bool := ((s.job id).map (fun j => j.awaits q)).getD false

theorem execPolicyPermit_eq (id q : Nat) (s : State) : execPolicyPermit id q s =
    .next (if s.awaitsDecision id q then (s.permit id).settle.notePeaks else s.stalePolicy) :=
  (apply_ite Host.Outcome.next _ _ _).symm

theorem execPolicyDeny_eq (id q : Nat) (s : State) : execPolicyDeny id q s =
    .next (if s.awaitsDecision id q then (s.refuse id (.denied 0x0107)).settle.notePeaks else s.stalePolicy) :=
  (apply_ite Host.Outcome.next _ _ _).symm

/-! ## POLICY_DECISION_TIMEOUT -/

/-- Whether TIMEOUT ticks have passed since the request of a job whose policy is still open (R122). -/
def State.decisionLate (s : State) (j : Job) : Bool :=
  j.policyOpen && j.fwPosted.any (fun t => decide (s.time.tick ≥ t + s.get .LKT_POL_CFG_TIMEOUT))

section
variable {s : State} {id : Nat} {j : Job}

theorem State.decisionLate_iff : s.decisionLate j = true ↔
    j.policyOpen = true ∧ ∃ t, j.fwPosted = some t ∧ t + s.get .LKT_POL_CFG_TIMEOUT ≤ s.time.tick := by
  simp [State.decisionLate, Option.any_eq_true]

theorem execPolicyDecisionTimeout_none (h : s.job id = none) : execPolicyDecisionTimeout id s = .next s := by
  simp only [execPolicyDecisionTimeout, h]

theorem execPolicyDecisionTimeout_some (h : s.job id = some j) : execPolicyDecisionTimeout id s =
    .next (if s.decisionLate j then (s.refuse id (.denied 0x0108)).settle.notePeaks else s) := by
  rw [execPolicyDecisionTimeout, h, State.decisionLate]
  dsimp only
  cases j.fwPosted with
  | none => simp only [Option.any_none, Bool.and_false, Bool.false_eq_true, if_false]
  | some t => exact (apply_ite Host.Outcome.next _ _ _).symm

theorem execPolicyDecisionTimeout_early (h : ∀ j, s.job id = some j → s.decisionLate j = false) :
    execPolicyDecisionTimeout id s = .next s := by
  cases hj : s.job id with
  | none => exact execPolicyDecisionTimeout_none hj
  | some j => exact (execPolicyDecisionTimeout_some hj).trans (congrArg _ (if_neg (ne_true_of_eq_false (h j hj))))

end

theorem execPolicyDecisionTimeout_answers (id : Nat) (s : State) :
    ∃ t, execPolicyDecisionTimeout id s = .next t := by
  cases h : s.job id with
  | none => exact ⟨_, execPolicyDecisionTimeout_none h⟩
  | some j => exact ⟨_, execPolicyDecisionTimeout_some h⟩

/-! ## APPROVAL_WAIT_EXPIRY -/

/-- APPROVAL_WAIT of the owner that `inst` is bound to, in ticks; 0 where no wait is timed (R374). -/
def State.approvalWait (s : State) (inst : Nat) : Nat := s.odNat (0x4000 + s.boundOwner inst) 0x18 0

/-- Whether a job short of its quorum has waited for APPROVAL_WAIT ticks since its fetch (R374). -/
def State.approvalLate (s : State) (j : Job) : Bool :=
  j.looked && j.need.approval && !j.got.approval && j.stamp.isNone && s.approvalWait j.inst != 0 &&
    decide (s.time.tick ≥ j.fetchTick + s.approvalWait j.inst)

section
variable {s : State} {id : Nat} {j : Job}

theorem State.approvalLate_eq_false_iff : s.approvalLate j = false ↔ j.looked = false ∨ j.need.approval = false ∨
    j.got.approval = true ∨ j.stamp.isSome = true ∨ s.approvalWait j.inst = 0 ∨
      s.time.tick < j.fetchTick + s.approvalWait j.inst := by
  simp only [State.approvalLate, Bool.and_eq_false_iff, Bool.not_eq_false', Option.isNone_eq_false_iff,
    bne_eq_false_iff_eq, decide_eq_false_iff_not, ge_iff_le, not_le, or_assoc]

theorem execApprovalWaitExpiry_none (h : s.job id = none) : execApprovalWaitExpiry id s = .next s := by
  simp only [execApprovalWaitExpiry, h]

theorem execApprovalWaitExpiry_some (h : s.job id = some j) : execApprovalWaitExpiry id s =
    .next (if s.approvalLate j then (s.refuse id .approvalExpired).settle.notePeaks else s) := by
  rw [execApprovalWaitExpiry, h]
  exact (apply_ite Host.Outcome.next _ _ _).symm

end

theorem execApprovalWaitExpiry_answers (id : Nat) (s : State) : ∃ t, execApprovalWaitExpiry id s = .next t := by
  cases h : s.job id with
  | none => exact ⟨_, execApprovalWaitExpiry_none h⟩
  | some j => exact ⟨_, execApprovalWaitExpiry_some h⟩

/-! ## The pieces of State -/

/-- The pieces a refusal or a permission may change, with all that then goes on. -/
abbrev policyParts : List Part :=
  [.regs, .host, .insts, .jobs, .locket, .meters, .evr, .strand, .owners, .usage, .store, .ladder, .officers, .engines]

theorem Answers.only_policyParts {c : Instr} {s : State} (hx : ∃ t, exec c s = .next t)
    (hf : FrO 18837041 s (exec c s)) : Answers c s (Only policyParts s) :=
  Answers.only_of_frame hx hf (fun p => by cases p <;> decide)

/-- Settles O12: each clause is a case above, the closing ones the frame of each command. -/
theorem policyDecisions : Obligations.PolicyDecisions := by
  refine ⟨?_, ?_, ?_, ?_, ?_, ?_, ?_, ?_, ?_, ?_, ?_, ?_, ?_⟩
  · intro s id j h ho
    exact ⟨fun d => execPolicyHwDecision_refused h ho,
      fun hf hw => (execPolicyHwDecision_passed h ho hf).trans (by rw [hw]; rfl),
      fun hf hw => (execPolicyHwDecision_passed h ho hf).trans (by rw [hw]; rfl)⟩
  · intro s id hc
    cases h : s.job id with
    | none => exact ⟨execPolicyHwDecision_none h, execPolicyRequestPost_none h, execPolicyDecisionTimeout_none h⟩
    | some j =>
      have ho := hc j h
      refine ⟨execPolicyHwDecision_closed h ho,
        execPolicyRequestPost_barred h (j.requestBarred_iff.mpr (.inl ho)), ?_⟩
      refine (execPolicyDecisionTimeout_some h).trans (congrArg _ (if_neg ?_))
      simp [State.decisionLate_iff, ho]
  · intro s id j h ho
    refine ⟨fun hb => execPolicyRequestPost_barred h (j.requestBarred_iff.mpr (.inr hb)), fun hw hs hr => ?_⟩
    have hb : j.requestBarred = false := by simp [Job.requestBarred, ho, hw, hs, hr]
    exact ⟨fun d hf => execPolicyRequestPost_refused h hb (State.requestFault_denied hf),
      fun r hf ht => execPolicyRequestPost_refused h hb ((State.requestFault_tested hf).trans ht),
      fun hf ht hm => (execPolicyRequestPost_passed h hb ((State.requestFault_tested hf).trans ht)).trans
        (congrArg _ (if_neg (ne_true_of_eq_false hm)))⟩
  · rintro s id j _ _ h ho hw hs hr hf ht hm rfl rfl
    have hb : j.requestBarred = false := by simp [Job.requestBarred, ho, hw, hs, hr]
    refine (execPolicyRequestPost_passed h hb ((State.requestFault_tested hf).trans ht)).trans ?_
    rw [State.postRequest, if_pos hm]
    simp only [State.ringRecord, State.get_setJob, Job.requestDue]
  · exact fun s id q h => ⟨(execPolicyPermit_eq id q s).trans (congrArg _ (if_pos h)),
      (execPolicyDeny_eq id q s).trans (congrArg _ (if_pos h))⟩
  · intro s id q h
    have hn : ¬ s.awaitsDecision id q = true := ne_true_of_eq_false h
    exact ⟨(execPolicyPermit_eq id q s).trans (congrArg _ (if_neg hn)),
      (execPolicyDeny_eq id q s).trans (congrArg _ (if_neg hn))⟩
  · exact fun s id j t h hp ho ht => (execPolicyDecisionTimeout_some h).trans
      (congrArg _ (if_pos (State.decisionLate_iff.mpr ⟨ho, t, hp, ht⟩)))
  · intro s id he
    refine execPolicyDecisionTimeout_early (fun j h => Bool.eq_false_iff.mpr (fun hl => ?_))
    obtain ⟨-, t, hp, ht⟩ := State.decisionLate_iff.mp hl
    exact absurd (he j t h hp) (Nat.not_lt.mpr ht)
  · intro s id he
    cases h : s.job id with
    | none => exact execApprovalWaitExpiry_none h
    | some j =>
      have hl : s.approvalLate j = false := State.approvalLate_eq_false_iff.mpr (he j h)
      exact (execApprovalWaitExpiry_some h).trans (congrArg _ (if_neg (ne_true_of_eq_false hl)))
  · intro s id j h hk hn hg hs hw ht
    have hl : s.approvalLate j = true := by
      simp [State.approvalLate, State.approvalWait, hk, hn, hg, hs, hw, ht]
    exact (execApprovalWaitExpiry_some h).trans (congrArg _ (if_pos hl))
  · simp only [List.forall_mem_cons, List.not_mem_nil, false_imp_iff, implies_true, and_true]
    exact fun s id =>
      ⟨.only_policyParts (execPolicyHwDecision_answers id s) (execPolicyHwDecision_frame (Fr.refl _ s) rfl),
      .only_policyParts (execPolicyDecisionTimeout_answers id s) (execPolicyDecisionTimeout_frame (Fr.refl _ s) rfl),
      .only_policyParts (execApprovalWaitExpiry_answers id s) (execApprovalWaitExpiry_frame (Fr.refl _ s) rfl)⟩
  · exact fun s id => Answers.only_of_frame (execPolicyRequestPost_answers id s)
      (execPolicyRequestPost_frame (Fr.refl 153054771 s) rfl) (fun p => by cases p <;> decide)
  · simp only [List.forall_mem_cons, List.not_mem_nil, false_imp_iff, implies_true, and_true]
    exact fun s id q =>
      ⟨.only_policyParts ⟨_, execPolicyPermit_eq id q s⟩ (execPolicyPermit_frame (Fr.refl _ s) rfl),
      .only_policyParts ⟨_, execPolicyDeny_eq id q s⟩ (execPolicyDeny_frame (Fr.refl _ s) rfl)⟩

end Sys2Proof.Machine
end

section
/-! Key life: what working out a plan does to its job, and the cases of the seven key-life commands (R105, R114 to R120,
R578). -/

namespace Sys2Proof.Machine

/-! ## A plan worked out -/

/-- Whether job `id` is of opcode `op` and has all that its plan takes. -/
def State.plansNow (s : State) (id op : Nat) : Bool :=
  (s.job id).any (fun j => j.op == op && s.readyToPlan j)

section
variable {s : State} {id op : Nat} {j : Job}

theorem State.plansNow_some (h : s.job id = some j) : s.plansNow id op = (j.op == op && s.readyToPlan j) := by
  rw [State.plansNow, h, Option.any_some]

theorem State.plansNow_ready (h : s.job id = some j) (ho : j.op = op) (hr : s.readyToPlan j = true) :
    s.plansNow id op = true := by
  rw [State.plansNow_some h, ho, hr, beq_self_eq_true, Bool.and_true]

theorem State.plansNow_eq_false (h : ∀ j, s.job id = some j → j.op ≠ op ∨ s.readyToPlan j = false) :
    s.plansNow id op = false := by
  cases hj : s.job id with
  | none => rw [State.plansNow, hj, Option.any_none]
  | some j => simpa [State.plansNow_some hj, ← imp_iff_not_or] using h j hj

theorem State.job_setPlan (s : State) (id : Nat) (j : Job) (p : Plan) :
    ((s.setPlan id j p).job id).map (·.ended) = some p.steps.isEmpty :=
  congrArg (Option.map _) (State.job_setJob _ _ _)

theorem State.runPlan_ready {mk : State → Job → Plan} (h : s.job id = some j) (ho : j.op = op)
    (hr : s.readyToPlan j = true) : s.runPlan id op mk = s.planned id j (mk s j) := by
  simp only [State.runPlan, h, ho, hr, beq_self_eq_true, Bool.and_true, if_true, State.job_setPlan, Option.getD_some]
  rfl

theorem State.runPlan_idle {mk : State → Job → Plan} (h : s.plansNow id op = false) : s.runPlan id op mk = s := by
  unfold State.runPlan
  split
  · rfl
  · next j hj => exact if_neg (ne_true_of_eq_false ((State.plansNow_some hj).symm.trans h))

/-- A command that works out a plan and no more, its job ready. -/
theorem State.next_runPlan_ready {mk : State → Job → Plan} (h : s.job id = some j) (ho : j.op = op)
    (hr : s.readyToPlan j = true) :
    (.next (s.runPlan id op mk) : Host.Outcome State Fault Refusal) = .next (s.planned id j (mk s j)) :=
  congrArg _ (State.runPlan_ready h ho hr)

/-- A command that works out a plan and no more, its job of another opcode or not ready. -/
theorem State.next_runPlan_idle {mk : State → Job → Plan} (h : s.plansNow id op = false) :
    (.next (s.runPlan id op mk) : Host.Outcome State Fault Refusal) = .next s :=
  congrArg _ (State.runPlan_idle h)

end

/-! ## The commands that do more than plan -/

/-- The search for the primes of an RSA key begins with its first candidate (R275). -/
def Job.beginSearch (j : Job) : Job :=
  { j with search := some { found := none, cand := rsaCandidate j.newSize (j.rnd.getD []), round := 1 } }

section
variable {s : State} {id : Nat} {j : Job}

theorem execKeyGenerate_ready (h : s.job id = some j) (ho : j.op = opKeyGenerate) (hr : s.readyToPlan j = true) :
    execKeyGenerate id s = .next (if j.newType = 0x01
      then (s.planned id j (planKeyGenerate s j)).modJob id Job.beginSearch
      else s.planned id j (planKeyGenerate s j)) := by
  simp only [execKeyGenerate, State.runPlan_ready h ho hr, h, ho, hr, Option.map_some, Option.getD_some,
    beq_self_eq_true, Bool.true_and, Bool.and_true, beq_iff_eq]
  rfl

theorem execKeyGenerate_idle (h : s.plansNow id opKeyGenerate = false) : execKeyGenerate id s = .next s := by
  have hn : ((s.job id).map
      (fun j => j.op == opKeyGenerate && j.newType == 0x01 && s.readyToPlan j)).getD false = false := by
    cases hj : s.job id with
    | none => rfl
    | some j =>
      rw [State.plansNow_some hj] at h
      rw [Option.map_some, Option.getD_some, Bool.and_right_comm, h, Bool.false_and]
  simp only [execKeyGenerate, hn, State.runPlan_idle h, Bool.false_eq_true, if_false]

theorem execKeyDerive_ready (h : s.job id = some j) (ho : j.op = opKeyDerive) (hr : s.readyToPlan j = true) :
    execKeyDerive id s = .next ((s.planned id j (planKeyDerive s j)).cacheKey j.primary) := by
  simp only [execKeyDerive, State.runPlan_ready h ho hr, h, ho, hr, beq_self_eq_true, Bool.and_true, if_true]

theorem execKeyDerive_idle (h : s.plansNow id opKeyDerive = false) : execKeyDerive id s = .next s := by
  rw [execKeyDerive, State.runPlan_idle h]
  split
  · next j hj => exact if_neg (ne_true_of_eq_false ((State.plansNow_some hj).symm.trans h))
  · rfl

end

theorem execKeyDerive_answers (id : Nat) (s : State) : ∃ t, execKeyDerive id s = .next t := by
  cases hp : s.plansNow id opKeyDerive with
  | false => exact ⟨_, execKeyDerive_idle hp⟩
  | true =>
    obtain ⟨j, hj, hr⟩ := (Option.any_eq_true _ _).mp hp
    obtain ⟨ho, hr⟩ := Bool.and_eq_true_iff.mp hr
    exact ⟨_, execKeyDerive_ready hj (eq_of_beq ho) hr⟩

/-! ## The pieces of State -/

/-- The pieces a plan worked out may change, with all that then goes on. -/
abbrev planParts : List Part := [.regs, .free, .host, .insts, .jobs, .locket, .meters, .evr, .strand, .owners, .usage,
  .store, .ladder, .officers, .engines]

theorem Answers.only_planParts {c : Instr} {s : State} (hx : ∃ t, exec c s = .next t)
    (hf : FrO 18837045 s (exec c s)) : Answers c s (Only planParts s) :=
  Answers.only_of_frame hx hf (fun p => by cases p <;> decide)

/-- Settles O22: each command is its plan worked out, the closing clause the frame of each. -/
theorem keyLife : Obligations.KeyLife := by
  refine ⟨fun s id j => execKeyGenerate_ready, fun s id j => State.next_runPlan_ready,
    fun s id j => execKeyDerive_ready, fun s id j => State.next_runPlan_ready,
    fun s id j => State.next_runPlan_ready, fun s id j => State.next_runPlan_ready,
    fun s id j => State.next_runPlan_ready, fun s id j p => rfl, ?_, ?_⟩
  · simp only [List.forall_mem_cons, List.not_mem_nil, false_imp_iff, implies_true, and_true]
    exact fun s id =>
      ⟨fun h => execKeyGenerate_idle (State.plansNow_eq_false h),
      fun h => State.next_runPlan_idle (State.plansNow_eq_false h),
      fun h => execKeyDerive_idle (State.plansNow_eq_false h),
      fun h => State.next_runPlan_idle (State.plansNow_eq_false h),
      fun h => State.next_runPlan_idle (State.plansNow_eq_false h),
      fun h => State.next_runPlan_idle (State.plansNow_eq_false h),
      fun h => State.next_runPlan_idle (State.plansNow_eq_false h)⟩
  · simp only [List.forall_mem_cons, List.not_mem_nil, false_imp_iff, implies_true, and_true]
    exact fun s id =>
      ⟨.only_planParts ⟨_, rfl⟩ (execKeyGenerate_frame (Fr.refl _ s) rfl),
      .only_planParts ⟨_, rfl⟩ (execKeyImport_frame (Fr.refl _ s) rfl),
      .only_planParts (execKeyDerive_answers id s) (execKeyDerive_frame (Fr.refl _ s) rfl),
      .only_planParts ⟨_, rfl⟩ (execKeyDestroy_frame (Fr.refl _ s) rfl),
      .only_planParts ⟨_, rfl⟩ (execKeySetPolicy_frame (Fr.refl _ s) rfl),
      .only_planParts ⟨_, rfl⟩ (execKeyExportWrapped_frame (Fr.refl _ s) rfl),
      .only_planParts ⟨_, rfl⟩ (execKeyDescribe_frame (Fr.refl _ s) rfl)⟩

end Sys2Proof.Machine
end

section
/-! Operation commands: the commands whose one act is to work out the plan of a job, and the asymmetric, bulk and service
commands as such (R130 to R153, R578). -/

namespace Sys2Proof.Machine

/-! ## Commands that work out a plan and no more -/

/-- The command `c` works out the plan of job `id`, a job of opcode `op`, and does no more. -/
def RunsPlan (c : Instr) (id op : Nat) : Prop := ∃ mk, ∀ s, exec c s = .next (s.runPlan id op mk)

section
variable {c : Instr} {id op : Nat}

theorem RunsPlan.idle {s : State} (hc : RunsPlan c id op)
    (h : ∀ j, s.job id = some j → j.op ≠ op ∨ s.readyToPlan j = false) : exec c s = .next s := by
  obtain ⟨mk, hmk⟩ := hc
  exact (hmk s).trans (State.next_runPlan_idle (State.plansNow_eq_false h))

theorem RunsPlan.only (hc : RunsPlan c id op) (s : State) : Answers c s (Only planParts s) := by
  obtain ⟨mk, hmk⟩ := hc
  refine .only_planParts ⟨_, hmk s⟩ ?_
  rw [hmk s]
  exact FrO.next (State.runPlan_frame (Fr.refl _ s) rfl)

end

section
variable {l : List (Instr × Nat)} {id : Nat}

/-- The commands of a list that only plan leave a job that is not theirs, or not ready, as it is. -/
theorem RunsPlan.forall_idle (hl : ∀ p ∈ l, RunsPlan p.1 id p.2) (s : State) :
    ∀ p ∈ l, (∀ j, s.job id = some j → j.op ≠ p.2 ∨ s.readyToPlan j = false) → exec p.1 s = .next s :=
  fun p hp => (hl p hp).idle

/-- The commands of a list that only plan change no more than the pieces of a plan. -/
theorem RunsPlan.forall_only (hl : ∀ p ∈ l, RunsPlan p.1 id p.2) (s : State) :
    ∀ c ∈ l.map Prod.fst, Answers c s (Only planParts s) :=
  List.forall_mem_map.mpr (fun p hp => (hl p hp).only s)

end

/-! ## The asymmetric commands -/

/-- The asymmetric commands of job `id`, each with its opcode. -/
def asymmetricCommands (id : Nat) : List (Instr × Nat) :=
  [(.sign id, opSign), (.verify id, opVerify), (.asymDecrypt id, opAsymDecrypt), (.asymEncrypt id, opAsymEncrypt),
    (.agree id, opAgree), (.encaps id, opEncaps), (.decaps id, opDecaps)]

theorem asymmetricCommands_runPlan (id : Nat) : ∀ p ∈ asymmetricCommands id, RunsPlan p.1 id p.2 := by
  simp only [asymmetricCommands, List.forall_mem_cons, List.not_mem_nil, false_imp_iff, implies_true, and_true]
  exact ⟨⟨_, fun _ => rfl⟩, ⟨_, fun _ => rfl⟩, ⟨_, fun _ => rfl⟩, ⟨_, fun _ => rfl⟩, ⟨_, fun _ => rfl⟩,
    ⟨_, fun _ => rfl⟩, ⟨_, fun _ => rfl⟩⟩

/-- The signature in the input of a VERIFY, behind the key (R133). -/
def Job.signature (j : Job) : Bytes := slice j.inp j.keyLen (j.inl 64 2)

/-- Whether an RSA signature is below its modulus; one of another type has none to be below (R268). -/
def Job.signatureInRange (j : Job) : Prop := j.tz.1 = 1 → belowModulus j.tz.2 j.pubKey j.signature = true

section
variable {s : State} {j : Job}

theorem planVerify_status_badKey (hk : j.pubOk = false) : (planVerify s j).status = .engineReject := by
  simp only [planVerify, hk, Bool.not_false, if_true]
  rfl

theorem planVerify_status_outOfRange (hk : j.pubOk = true) (ht : j.tz.1 = 1)
    (hb : belowModulus j.tz.2 j.pubKey j.signature = false) : (planVerify s j).status = .engineReject := by
  rw [Job.signature] at hb
  simp [planVerify, hk, ht, hb, Plan.plain]

theorem planVerify_status_checked (hk : j.pubOk = true) (hr : j.signatureInRange) :
    (planVerify s j).status =
      if sigValid j.sigParams j.pubKey j.string (j.inp.drop (j.keyLen + j.inl 64 2)) j.signature
        then .done else .tagMismatch := by
  have hb : (j.tz.1 = 1 && !belowModulus j.tz.2 j.pubKey j.signature) = false := by
    simpa [Job.signatureInRange] using hr
  rw [Job.signature] at hb ⊢
  simp only [planVerify, hk, hb, Bool.not_true, Bool.false_eq_true, if_false]
  split <;> rfl

end

/-- Settles O23: each command is its plan worked out and no more, and VERIFY's checks are those of its plan. -/
theorem asymmetric : Obligations.Asymmetric :=
  ⟨fun _ _ _ => State.next_runPlan_ready, fun _ _ _ => State.next_runPlan_ready,
    fun _ _ _ => State.next_runPlan_ready, fun _ _ _ => State.next_runPlan_ready,
    fun _ _ _ => State.next_runPlan_ready, fun _ _ _ => State.next_runPlan_ready,
    fun _ _ _ => State.next_runPlan_ready,
    fun s id => RunsPlan.forall_idle (asymmetricCommands_runPlan id) s,
    fun _ _ => ⟨planVerify_status_badKey, planVerify_status_outOfRange, planVerify_status_checked⟩,
    fun s id => RunsPlan.forall_only (asymmetricCommands_runPlan id) s⟩

/-! ## The bulk commands -/

/-- The bulk commands of job `id`, each with its opcode. -/
def bulkCommands (id : Nat) : List (Instr × Nat) :=
  [(.aeadSeal id, opAeadSeal), (.aeadOpen id, opAeadOpen), (.cipher id, opCipher), (.mac id, opMac), (.wrap id, opWrap),
    (.unwrap id, opUnwrap)]

theorem bulkCommands_runPlan (id : Nat) : ∀ p ∈ bulkCommands id, RunsPlan p.1 id p.2 := by
  simp only [bulkCommands, List.forall_mem_cons, List.not_mem_nil, false_imp_iff, implies_true, and_true]
  exact ⟨⟨_, fun _ => rfl⟩, ⟨_, fun _ => rfl⟩, ⟨_, fun _ => rfl⟩, ⟨_, fun _ => rfl⟩, ⟨_, fun _ => rfl⟩,
    ⟨_, fun _ => rfl⟩⟩

/-- The one step of an UNWRAP, on a symmetric lane (R299). -/
def Job.unwrapSteps (j : Job) : List (Engine × Nat) :=
  [(.sym, laneNs (if j.inl 56 1 = 1 then 0x0A else 0x0B) 0 j.inputLen j.inputLen)]

/-- UNWRAP's plan once the octets `k` are unwrapped: to the host, or into a new object (R145). -/
def planUnwrapped (s : State) (j : Job) (k : Bytes) : Plan :=
  if j.unwrapCreates = false then Plan.out (k.take (j.inputLen - 8)) j.unwrapSteps
  else (storedOf j.newType j.newSize k).elim (Plan.plain .engineReject j.unwrapSteps)
    (fun e => s.createPlan j.newType j.newSize e 0 j.policy false j.unwrapSteps)

/-- UNWRAP's plan (R145). -/
def planUnwrap (s : State) (j : Job) : Plan :=
  (Config.unwrap (j.inl 56 1) j.enc j.inp).elim (Plan.plain .tagMismatch j.unwrapSteps) (planUnwrapped s j)

theorem execUnwrap_eq (id : Nat) (s : State) : execUnwrap id s = .next (s.runPlan id opUnwrap planUnwrap) := by
  unfold execUnwrap
  refine congrArg (fun mk => Host.Outcome.next (s.runPlan id opUnwrap mk)) (funext₂ fun s j => ?_)
  dsimp only [planUnwrap]
  cases Config.unwrap (j.inl 56 1) j.enc j.inp with
  | none => rfl
  | some k =>
    dsimp only [Option.elim_some, planUnwrapped]
    cases j.unwrapCreates with
    | false => rfl
    | true => cases storedOf j.newType j.newSize k <;> rfl

/-- Settles O24: each command is its plan worked out and no more. -/
theorem bulk : Obligations.Bulk := by
  refine ⟨fun _ _ _ => State.next_runPlan_ready, fun _ _ _ => State.next_runPlan_ready,
    fun _ _ _ => State.next_runPlan_ready, fun _ _ _ => State.next_runPlan_ready,
    fun _ _ _ => State.next_runPlan_ready, ?_,
    fun s id => RunsPlan.forall_idle (bulkCommands_runPlan id) s,
    fun s id => RunsPlan.forall_only (bulkCommands_runPlan id) s⟩
  rintro s id j h ho hr _ rfl
  exact (execUnwrap_eq id s).trans (State.next_runPlan_ready h ho hr)

/-! ## Random numbers, digests, approvals, counters and quotes -/

/-- The service commands of job `id`, each with its opcode. -/
def serviceCommandsOf (id : Nat) : List (Instr × Nat) :=
  [(.random id, opRandom), (.hash id, opHash), (.ownerApprove id, opOwnerApprove), (.counterRead id, opCounterRead),
    (.attestQuote id, opAttest)]

theorem serviceCommandsOf_runPlan (id : Nat) : ∀ p ∈ serviceCommandsOf id, RunsPlan p.1 id p.2 := by
  simp only [serviceCommandsOf, List.forall_mem_cons, List.not_mem_nil, false_imp_iff, implies_true, and_true]
  exact ⟨⟨_, fun _ => rfl⟩, ⟨_, fun _ => rfl⟩, ⟨_, fun _ => rfl⟩, ⟨_, fun _ => rfl⟩, ⟨_, fun _ => rfl⟩⟩

/-- Settles O25: each command is its plan worked out and no more. -/
theorem serviceCommands : Obligations.ServiceCommands :=
  ⟨fun _ _ _ => State.next_runPlan_ready, fun _ _ _ => State.next_runPlan_ready,
    fun _ _ _ => State.next_runPlan_ready, fun _ _ _ => State.next_runPlan_ready,
    fun _ _ _ => State.next_runPlan_ready,
    fun s id => RunsPlan.forall_idle (serviceCommandsOf_runPlan id) s,
    fun s id => RunsPlan.forall_only (serviceCommandsOf_runPlan id) s⟩

end Sys2Proof.Machine
end

section
/-! Rate buckets: the cases of RATE_BUCKET_ADMIT and of WAIT_LIMIT_EXPIRY, when a bucket holds and when it never can, and
which pieces of State the two commands may change (R156 to R159, R166). -/

namespace Sys2Proof.Machine

/-! ## RATE_BUCKET_ADMIT -/

/-- Whether a job passes its bucket now, admission not throttled (R158, R417). -/
def State.admitsRate (s : State) (j : Job) : Bool := j.waitsRate && !s.throttled && s.ratePasses j

/-- Job `id` marked as past its bucket, the ticks it waited charged (R158, R166). -/
def State.rateMarked (s : State) (id : Nat) (j : Job) : State :=
  (s.setJob id (some { j with rateAdmitted := true })).chargeWait j

/-- The bucket of a job's class debited by its cost (R158). -/
def State.debited (s : State) (j : Job) : State :=
  s.modSched j.inst (fun c => { c with level := c.level.set j.cls (c.level.getD j.cls 0 - j.cost * 256) })

section
variable {s : State} {id : Nat} {j : Job}

theorem State.unlimitedRate_congr {t : State} (h : t.scheds = s.scheds) : t.unlimitedRate j = s.unlimitedRate j := by
  rw [State.unlimitedRate, State.unlimitedRate, State.rateOf, State.rateOf, State.sched_congr h]

theorem State.chargeWait_scheds (s : State) (j : Job) : (s.chargeWait j).scheds = s.scheds :=
  (State.chargeWait_frame (Fr.refl 2097 s) rfl).1 .scheds rfl

/-- The mark and the charge leave every bucket as it was. -/
theorem State.rateMarked_scheds : (s.rateMarked id j).scheds = s.scheds :=
  (State.chargeWait_scheds _ j).trans (State.setJob_scheds ..)

theorem State.admitsRate_true (hw : j.waitsRate = true) (ht : s.throttled = false) (hp : s.ratePasses j = true) :
    s.admitsRate j = true := by
  simp [State.admitsRate, hw, ht, hp]

theorem State.admitsRate_eq_false_iff : s.admitsRate j = false ↔
    j.waitsRate = false ∨ s.throttled = true ∨ s.ratePasses j = false := by
  rw [State.admitsRate, Bool.and_eq_false_iff, Bool.and_eq_false_iff, Bool.not_eq_false', or_assoc]

theorem execRateBucketAdmit_none (h : s.job id = none) : execRateBucketAdmit id s = .next s := by
  simp only [execRateBucketAdmit, h]

theorem execRateBucketAdmit_some (h : s.job id = some j) : execRateBucketAdmit id s = .next (if s.admitsRate j
    then (if s.unlimitedRate j then s.rateMarked id j else (s.rateMarked id j).debited j) else s) := by
  rw [← State.unlimitedRate_congr (s.rateMarked_scheds (id := id)), apply_ite Host.Outcome.next,
    apply_ite Host.Outcome.next, execRateBucketAdmit, h]
  rfl

theorem execRateBucketAdmit_unlimited (h : s.job id = some j) (ha : s.admitsRate j = true)
    (hu : s.unlimitedRate j = true) : execRateBucketAdmit id s = .next (s.rateMarked id j) := by
  rw [execRateBucketAdmit_some h, if_pos ha, if_pos hu]

theorem execRateBucketAdmit_debits (h : s.job id = some j) (ha : s.admitsRate j = true)
    (hu : s.unlimitedRate j = false) : execRateBucketAdmit id s = .next ((s.rateMarked id j).debited j) := by
  rw [execRateBucketAdmit_some h, if_pos ha, if_neg (ne_true_of_eq_false hu)]

theorem execRateBucketAdmit_waits (h : ∀ j, s.job id = some j → s.admitsRate j = false) :
    execRateBucketAdmit id s = .next s := by
  cases hj : s.job id with
  | none => exact execRateBucketAdmit_none hj
  | some j => exact (execRateBucketAdmit_some hj).trans (congrArg _ (if_neg (ne_true_of_eq_false (h j hj))))

end

theorem execRateBucketAdmit_answers (id : Nat) (s : State) : ∃ t, execRateBucketAdmit id s = .next t := by
  cases h : s.job id with
  | none => exact ⟨_, execRateBucketAdmit_none h⟩
  | some j => exact ⟨_, execRateBucketAdmit_some h⟩

/-! ## WAIT_LIMIT_EXPIRY -/

/-- Whether a job's wait on its bucket is over without admission: the bucket can never hold its cost, or the counted
refills have reached the limit (R159). -/
def State.rateExpires (s : State) (j : Job) : Bool :=
  j.waitsRate && (s.rateNever j || (decide (j.refills ≥ j.waitLimit) && !s.bucketHolds j))

section
variable {s : State} {id : Nat} {j : Job}

theorem State.rateExpires_true (hw : j.waitsRate = true)
    (h : s.rateNever j = true ∨ (j.waitLimit ≤ j.refills ∧ s.bucketHolds j = false)) : s.rateExpires j = true := by
  simpa [State.rateExpires, hw] using h

theorem State.rateExpires_eq_false_iff : s.rateExpires j = false ↔ j.waitsRate = false ∨
    (s.rateNever j = false ∧ (j.refills < j.waitLimit ∨ s.bucketHolds j = true)) := by
  simp only [State.rateExpires, Bool.and_eq_false_iff, Bool.or_eq_false_iff, decide_eq_false_iff_not, Nat.not_le,
    ge_iff_le, Bool.not_eq_false']

theorem execWaitLimitExpiry_none (h : s.job id = none) : execWaitLimitExpiry id s = .next s := by
  simp only [execWaitLimitExpiry, h]

theorem execWaitLimitExpiry_some (h : s.job id = some j) : execWaitLimitExpiry id s = .next (
    if s.rateExpires j then ((s.chargeWait j).endEarly id .rateLimited noDetail).settle else s) := by
  rw [apply_ite Host.Outcome.next, execWaitLimitExpiry, h]
  rfl

theorem execWaitLimitExpiry_expires (h : s.job id = some j) (he : s.rateExpires j = true) :
    execWaitLimitExpiry id s = .next ((s.chargeWait j).endEarly id .rateLimited noDetail).settle :=
  (execWaitLimitExpiry_some h).trans (congrArg _ (if_pos he))

theorem execWaitLimitExpiry_waits (h : ∀ j, s.job id = some j → s.rateExpires j = false) :
    execWaitLimitExpiry id s = .next s := by
  cases hj : s.job id with
  | none => exact execWaitLimitExpiry_none hj
  | some j => exact (execWaitLimitExpiry_some hj).trans (congrArg _ (if_neg (ne_true_of_eq_false (h j hj))))

end

theorem execWaitLimitExpiry_answers (id : Nat) (s : State) : ∃ t, execWaitLimitExpiry id s = .next t := by
  cases h : s.job id with
  | none => exact ⟨_, execWaitLimitExpiry_none h⟩
  | some j => exact ⟨_, execWaitLimitExpiry_some h⟩

/-! ## The bucket -/

section
variable {s : State} {j : Job}

theorem State.rateNever_iff : s.rateNever j = true ↔
    s.unlimitedRate j = false ∧ ((s.sched j.inst).burst.getD j.cls 0 < j.cost ∨ s.rateOf j = 0) := by
  simp [State.rateNever]

theorem State.bucketHolds_iff : s.bucketHolds j = true ↔
    s.unlimitedRate j = true ∨ j.cost * 256 ≤ (s.sched j.inst).level.getD j.cls 0 := by
  simp [State.bucketHolds]

theorem State.ratePasses_iff : s.ratePasses j = true ↔
    s.rateNever j = false ∧ s.bucketHolds j = true ∧ s.behindInClass j = false := by
  simp [State.ratePasses, and_assoc]

end

/-- Settles O9: each clause is a case above, the closing ones the frame of each command. -/
theorem rateAdmission : Obligations.RateAdmission := by
  refine ⟨?_, ?_, ?_, ?_, ?_, ?_, ?_, ?_⟩
  · exact fun s id j h hw ht hp => execRateBucketAdmit_debits h (State.admitsRate_true hw ht hp)
  · exact fun s id j h hw ht hp => execRateBucketAdmit_unlimited h (State.admitsRate_true hw ht hp)
  · exact fun s id h => execRateBucketAdmit_waits (fun j hj => State.admitsRate_eq_false_iff.mpr (h j hj))
  · exact fun s id j h hw he => execWaitLimitExpiry_expires h (State.rateExpires_true hw he)
  · exact fun s id h => execWaitLimitExpiry_waits (fun j hj => State.rateExpires_eq_false_iff.mpr (h j hj))
  · exact fun s j => ⟨rfl, State.rateNever_iff, State.bucketHolds_iff, State.ratePasses_iff⟩
  · exact fun s id => Answers.only_of_frame (execRateBucketAdmit_answers id s)
      (execRateBucketAdmit_frame (Fr.refl 2673 s) rfl) (fun p => by cases p <;> decide)
  · exact fun s id => Answers.only_of_frame (execWaitLimitExpiry_answers id s)
      (execWaitLimitExpiry_frame (Fr.refl 18837041 s) rfl) (fun p => by cases p <;> decide)

end Sys2Proof.Machine
end

section
/-! The meter ring: the cases of its enable, its disable and its head, the delivery of a closing record, and which pieces
of State the four commands may change (R171 to R174). -/

namespace Sys2Proof.Machine

section
variable (s : State) (c : Nat)

theorem State.get_wakeNap {f : Fld} (h : f.addr ≠ Fld.PWR_STATUS_STATE.addr) : (s.wakeNap c).get f = s.get f :=
  State.get_of_reg (s.reg_wakeNap c h)

@[simp] theorem State.wakeNap_meters : (s.wakeNap c).meters = s.meters := (s.wakeNap_frame_power c).1 .meters rfl

@[simp] theorem State.meterDepth_wakeNap : (s.wakeNap c).meterDepth = s.meterDepth := by
  rw [State.meterDepth, State.get_wakeNap s c (by decide), State.meterDepth]

end

/-! ## METER_RING_ENABLE -/

/-- The registers as the ring starts with 2 ^ `d` records (R171). -/
def State.startedRing (s : State) (d : Nat) : State :=
  ((((s.put .HST_MTR_CFG_DEPTH_LOG2 d).putBit .HST_MTR_CFG_ENABLE true).putBit .HST_MTR_STATUS_RUNNING true).put
    .HST_MTR_HEAD_HEAD 0).put .HST_MTR_TAIL_TAIL 0

/-- The registers that start and move the ring. -/
abbrev meterRingRegs : List Nat := [Fld.HST_MTR_CFG_ENABLE.addr, Fld.HST_MTR_STATUS_RUNNING.addr,
  Fld.HST_MTR_HEAD_HEAD.addr, Fld.HST_MTR_TAIL_TAIL.addr]

section
variable (s : State) (d : Nat)

theorem State.startedRing_bits : (s.startedRing d).bit .HST_MTR_CFG_ENABLE = true ∧
    (s.startedRing d).bit .HST_MTR_STATUS_RUNNING = true := by
  unfold State.startedRing
  constructor <;> simp (disch := decide) only [State.bit_put_apart, State.bit_putBit_apart, State.bit_putBit_same]

theorem State.startedRing_ends : (s.startedRing d).get .HST_MTR_HEAD_HEAD = 0 ∧
    (s.startedRing d).get .HST_MTR_TAIL_TAIL = 0 := by
  unfold State.startedRing
  constructor <;> simp (disch := decide) only [State.get_put_apart, State.get_put_same, Nat.zero_mod]

theorem State.startedRing_depth (h : d < 16) : (s.startedRing d).get .HST_MTR_CFG_DEPTH_LOG2 = d := by
  unfold State.startedRing
  simp (disch := decide) only [State.get_put_apart, State.get_putBit_apart, State.get_put_same]
  exact Nat.mod_eq_of_lt h

theorem State.startedRing_onlyRegs : OnlyRegs meterRingRegs s (s.startedRing d) :=
  (((((OnlyRegs.refl meterRingRegs s).put (by decide)).putBit (by decide)).putBit (by decide)).put (by decide)).put
    (by decide)

variable {s d}

theorem execMeterRingEnable_started (he : s.bit .HST_MTR_CFG_ENABLE = false) (h4 : 4 ≤ d) (h15 : d ≤ 15) :
    execMeterRingEnable d s = .next ((s.wakeNap 1).startedRing d) := by
  refine if_neg ?_
  rw [State.bit_wakeNap 1 (by decide), he]
  simpa using ⟨h4, h15⟩

theorem execMeterRingEnable_refused (h : s.bit .HST_MTR_CFG_ENABLE = true ∨ d < 4 ∨ 15 < d) :
    execMeterRingEnable d s = .next (s.wakeNap 1) := by
  refine if_pos ?_
  rw [State.bit_wakeNap 1 (by decide)]
  simpa [or_assoc] using h

end

theorem execMeterRingEnable_answers (d : Nat) (s : State) : ∃ t, execMeterRingEnable d s = .next t := by
  unfold execMeterRingEnable
  dsimp only
  split <;> exact ⟨_, rfl⟩

/-! ## METER_RING_DISABLE -/

theorem execMeterRingDisable_eq (s : State) : execMeterRingDisable s = .next (s.meters.closing.foldl State.carryMeter
    { ((s.wakeNap 1).putBit .HST_MTR_CFG_ENABLE false).putBit .HST_MTR_STATUS_RUNNING false with
      meters := { s.meters with closing := [] } }).endBatch := by
  simp only [execMeterRingDisable, State.putBit_meters, State.wakeNap_meters]

/-! ## METER_HEAD_WRITE -/

/-- How many records a head, or the tail, at `v` lies past the head (R171). -/
def State.pastHead (s : State) (v : Nat) : Nat := (v + s.meterDepth - s.get .HST_MTR_HEAD_HEAD) % s.meterDepth

theorem State.pastHead_wakeNap (s : State) (c v : Nat) : (s.wakeNap c).pastHead v = s.pastHead v := by
  rw [State.pastHead, State.meterDepth_wakeNap, State.get_wakeNap s c (by decide), State.pastHead]

section
variable {s : State} {v : Nat}

theorem execMeterHeadWrite_eq : execMeterHeadWrite v s = .next (
    if s.meterDepth ≤ v ∨ s.pastHead (s.get .HST_MTR_TAIL_TAIL) < s.pastHead v then s.wakeNap 1
    else ((s.wakeNap 1).put .HST_MTR_HEAD_HEAD v).offerSplits.endBatch) := by
  rw [← s.meterDepth_wakeNap 1, ← s.get_wakeNap 1 (f := .HST_MTR_TAIL_TAIL) (by decide), ← s.pastHead_wakeNap 1,
    ← s.pastHead_wakeNap 1, apply_ite Host.Outcome.next]
  exact if_congr (by simp [State.pastHead]) rfl rfl

theorem execMeterHeadWrite_taken (hv : v < s.meterDepth) (hw : s.pastHead v ≤ s.pastHead (s.get .HST_MTR_TAIL_TAIL)) :
    execMeterHeadWrite v s = .next ((s.wakeNap 1).put .HST_MTR_HEAD_HEAD v).offerSplits.endBatch :=
  execMeterHeadWrite_eq.trans (congrArg _ (if_neg (not_or.mpr ⟨Nat.not_le.mpr hv, Nat.not_lt.mpr hw⟩)))

theorem execMeterHeadWrite_discarded
    (h : s.meterDepth ≤ v ∨ s.pastHead (s.get .HST_MTR_TAIL_TAIL) < s.pastHead v) :
    execMeterHeadWrite v s = .next (s.wakeNap 1) := execMeterHeadWrite_eq.trans (congrArg _ (if_pos h))

/-! ## METER_RECORD_WRITE -/

/-- The unit with the closing records `rest` left. -/
def State.closingTaken (s : State) (rest : List Meter) : State := { s with meters := { s.meters with closing := rest } }

theorem execMeterRecordWrite_noRecord (h : s.offerSplits.meters.closing = []) :
    execMeterRecordWrite s = .next s.offerSplits.endBatch := by
  simp only [execMeterRecordWrite, h]

theorem execMeterRecordWrite_record {m : Meter} {rest : List Meter} (h : s.offerSplits.meters.closing = m :: rest) :
    execMeterRecordWrite s = .next (if s.offerSplits.meterRoom
      then ((s.offerSplits.closingTaken rest).writeMeter m).endBatch
      else ((s.offerSplits.closingTaken rest).carryMeter m).endBatch) := by
  have hr : (s.offerSplits.closingTaken rest).meterRoom = s.offerSplits.meterRoom := rfl
  rw [← hr, ← apply_ite State.endBatch]
  simp only [execMeterRecordWrite, h]
  rfl

end

theorem execMeterRecordWrite_answers (s : State) : ∃ t, execMeterRecordWrite s = .next t := by
  cases h : s.offerSplits.meters.closing with
  | nil => exact ⟨_, execMeterRecordWrite_noRecord h⟩
  | cons m rest => exact ⟨_, execMeterRecordWrite_record h⟩

/-! ## The write of a record -/

section
variable {s : State} (m : Meter)

theorem State.writeMeter_out (hb : s.host.bme = true) : (s.writeMeter m).host.out =
    s.host.out ++ [.meter (s.meterBase + 256 * s.get .HST_MTR_TAIL_TAIL) (m.bytes s.meters.written)] := by
  simp only [State.writeMeter, State.put_host, State.out_emit _ hb]

theorem State.writeMeter_meters :
    (s.writeMeter m).meters = { s.meters with written := s.meters.written + 1, batch := s.meters.batch + 1 } := by
  simp only [State.writeMeter, State.put_meters, State.emit_meters]

end

/-- Settles O14: each clause is a case above, the closing ones the frame of each command. -/
theorem meterRing : Obligations.MeterRing := by
  refine ⟨?_, fun s d => execMeterRingEnable_refused, execMeterRingDisable_eq, fun s v => execMeterHeadWrite_taken,
    fun s v => execMeterHeadWrite_discarded,
    fun s => ⟨execMeterRecordWrite_noRecord, fun m rest => execMeterRecordWrite_record⟩,
    fun s m hb => ⟨State.writeMeter_out m hb, State.writeMeter_meters m⟩, ?_, ?_, ?_, ?_⟩
  · intro s d he h4 h15
    obtain ⟨ben, brun⟩ := (s.wakeNap 1).startedRing_bits d
    obtain ⟨gh, gt⟩ := (s.wakeNap 1).startedRing_ends d
    exact ⟨_, execMeterRingEnable_started he h4 h15, ben,
      State.startedRing_depth _ d (Nat.lt_of_le_of_lt h15 (by decide)), brun, gh, gt, State.startedRing_onlyRegs _ d⟩
  · exact fun s => Answers.only_of_frame (execMeterRecordWrite_answers s)
      (execMeterRecordWrite_frame (Fr.refl 2097 s) rfl) (fun p => by cases p <;> decide)
  · exact fun s d => Answers.only_of_frame (execMeterRingEnable_answers d s)
      (execMeterRingEnable_frame (Fr.refl 134217729 s) rfl) (fun p => by cases p <;> decide)
  · exact fun s => Answers.only_of_frame ⟨_, execMeterRingDisable_eq s⟩
      (execMeterRingDisable_frame (Fr.refl 134219825 s) rfl) (fun p => by cases p <;> decide)
  · exact fun s v => Answers.only_of_frame ⟨_, execMeterHeadWrite_eq⟩
      (execMeterHeadWrite_frame (Fr.refl 134219825 s) rfl) (fun p => by cases p <;> decide)

end Sys2Proof.Machine
end

section
/-! The seal of the oldest closed bead and the change overlay: what BEAD_SEAL and OVERLAY_RECORD_APPLY do, what staging
a bead leaves in the strand, and which pieces of State the two may change (R182 to R184, R192, R197, R224, R516). -/

namespace Sys2Proof.Machine

section
variable {s : State}

/-! ## BEAD_SEAL -/

/-- The oldest closed bead taken from the list, sealed and staged, the checkpoint it makes due noted (R184, R197). -/
def State.takeOldest (s : State) (b : Bead) (rest : List Bead) : State :=
  ((({ s with strand := { s.strand with closed := rest } } : State).useSeal 0 s.svn).stageBead b).noteDue b.num

/-- What its records commit, the writes it held answered, and the instances that waited for it enabled (R54, R184). -/
def State.commitBead (s : State) (b : Bead) : State :=
  (((b.recs.foldl (State.sealRec b.num) s).sealReplies b).resizeCheck).heldEnables

/-- The 64th bead in the on-chip buffer ends NAP (R516). -/
def State.endNapIfFull (s : State) : State := if s.strand.staged.length ≥ 64 then s.wakeNap 8 else s

theorem execBeadSeal_sealed {b : Bead} {rest : List Bead} (hc : s.strand.closed = b :: rest) (hh : s.holdsClasp = true)
    (hz : s.zeroised = false) : execBeadSeal s = .next
      (((s.takeOldest b rest).commitBead b).endNapIfFull.settle.flushReplies.settleMailbox.notePeaks
        ).showStrand.showRing := by
  simp only [execBeadSeal, hc, hh, hz, Bool.not_true, Bool.or_self, Bool.false_eq_true, if_false]
  rfl

theorem execBeadSeal_idle (h : s.strand.closed = [] ∨ s.holdsClasp = false ∨ s.zeroised = true) :
    execBeadSeal s = .next s := by
  cases hc : s.strand.closed with
  | nil => simp only [execBeadSeal, hc]
  | cons b rest =>
    have hb : (!s.holdsClasp || s.zeroised) = true := by simpa [hc] using h
    simp only [execBeadSeal, hc, hb, if_true]

theorem execBeadSeal_answers (s : State) : ∃ t, execBeadSeal s = .next t := by
  cases hc : s.strand.closed with
  | nil => exact ⟨_, execBeadSeal_idle (.inl hc)⟩
  | cons b rest =>
    cases hh : s.holdsClasp with
    | false => exact ⟨_, execBeadSeal_idle (.inr (.inl hh))⟩
    | true =>
      cases hz : s.zeroised with
      | true => exact ⟨_, execBeadSeal_idle (.inr (.inr hz))⟩
      | false => exact ⟨_, execBeadSeal_sealed hc hh hz⟩

theorem State.noteDue_between {n : Nat} (h : n % 65536 ≠ 0) : s.noteDue n = s := if_pos (by simpa using h)

theorem State.noteDue_multiple {n : Nat} (h : n % 65536 = 0) (hr : s.strand.ckptRunning = none) :
    s.noteDue n = { s with strand := { s.strand with ckptDue := true } } := by
  simp [State.noteDue, h, hr]

/-! ## OVERLAY_RECORD_APPLY -/

theorem execOverlayRecordApply_empty (h : s.store.overlay = []) : execOverlayRecordApply s = .next s := by
  simp only [execOverlayRecordApply, h]

/-- The state as the oldest record of the overlay is applied: its object restored, the record taken (R205, R224). -/
def State.takeOverlay (s : State) (h : Nat) (rest : List (Nat × Rec)) : State :=
  { s.restoreFor h with store := { (s.restoreFor h).store with overlay := rest } }

/-- A change put into its object: what it leaves is resealed, or the object and its entry are gone (R217, R224). -/
def State.applyChange (s : State) (b : RecBody) : State :=
  match b.applyTo (s.obj b.handle) with
  | some o => s.setObj b.handle (some (s.reseal o))
  | none => (s.setObj b.handle none).dirRemove b.handle

theorem execOverlayRecordApply_record {e : Nat × Rec} {rest : List (Nat × Rec)} (h : s.store.overlay = e :: rest) :
    execOverlayRecordApply s = .next ((s.takeOverlay e.2.body.handle rest).applyChange e.2.body) := by
  simp only [execOverlayRecordApply, h, ← State.takeOverlay.eq_def, State.applyChange]
  cases e.2.body.applyTo ((s.takeOverlay e.2.body.handle rest).obj e.2.body.handle) <;> rfl

theorem execOverlayRecordApply_answers (s : State) : ∃ t, execOverlayRecordApply s = .next t := by
  cases h : s.store.overlay with
  | nil => exact ⟨_, execOverlayRecordApply_empty h⟩
  | cons e rest => exact ⟨_, execOverlayRecordApply_record h⟩

end

/-- Settles O18: each clause is a case above, the closing ones the frame of each command. -/
theorem beadSeal : Obligations.BeadSeal := by
  refine ⟨?_, fun s => execBeadSeal_idle, fun s b => ⟨rfl, rfl⟩,
    fun s n => ⟨State.noteDue_between, State.noteDue_multiple⟩, fun s => execOverlayRecordApply_empty,
    fun s e rest => execOverlayRecordApply_record, ?_, ?_⟩
  · rintro s b rest _ _ _ hc hh hz rfl rfl rfl
    exact execBeadSeal_sealed hc hh hz
  · exact fun s => Answers.kept_of_frame (execBeadSeal_answers s) (execBeadSeal_frame (Fr.refl 1270837111 s) rfl)
      (fun p => by cases p <;> decide)
  · exact fun s => Answers.only_of_frame (execOverlayRecordApply_answers s)
      (execOverlayRecordApply_frame (Fr.refl 18869813 s) rfl) (fun p => by cases p <;> decide)

end Sys2Proof.Machine
end

section
/-! The journal ring: the cases of its enable, its disable, its items and its positions, the durable index and the
checkpoint commands, and which pieces of State the seven commands may change (R186 to R189, R197, R201). -/

namespace Sys2Proof.Machine

section
variable (s : State) (c : Nat)

@[simp] theorem State.wakeNap_strand : (s.wakeNap c).strand = s.strand := (s.wakeNap_frame_power c).1 .strand rfl
@[simp] theorem State.wakeNap_time : (s.wakeNap c).time = s.time := (s.wakeNap_frame_power c).1 .time rfl
@[simp] theorem State.wakeNap_restore : (s.wakeNap c).restore = s.restore := (s.wakeNap_frame_power c).1 .restore rfl
@[simp] theorem State.wakeNap_pair : (s.wakeNap c).pair = s.pair := (s.wakeNap_frame_power c).1 .pair rfl
@[simp] theorem State.wakeNap_bb : (s.wakeNap c).bb = s.bb := (s.wakeNap_frame_power c).1 .bb rfl

end

/-! ## JOURNAL_EXPORT_ENABLE and JOURNAL_EXPORT_DISABLE -/

/-- The registers as the writing of items starts into a ring of 2 ^ `d` octets (R188). -/
def State.startedExport (s : State) (d : Nat) : State :=
  ((s.put .HST_JNL_CFG_SIZE_LOG2 d).putBit .HST_JNL_CFG_ENABLE true).putBit .HST_JNL_STATUS_RUNNING true

/-- The registers as it stops (R188). -/
def State.stoppedExport (s : State) : State :=
  ((s.putBit .HST_JNL_CFG_ENABLE false).putBit .HST_JNL_STATUS_RUNNING false).putBit .HST_JNL_STATUS_RING_FULL false

/-- Both positions at zero (R188). -/
def Strand.ringEmpty (x : Strand) : Strand := { x with written := 0, consumed := 0 }

/-- The registers that start and stop it. -/
abbrev exportRegs : List Nat := [Fld.HST_JNL_CFG_ENABLE.addr, Fld.HST_JNL_STATUS_RUNNING.addr]

section
variable (s : State) (d : Nat)

theorem State.startedExport_bits : (s.startedExport d).bit .HST_JNL_CFG_ENABLE = true ∧
    (s.startedExport d).bit .HST_JNL_STATUS_RUNNING = true := by
  unfold State.startedExport
  constructor <;> simp (disch := decide) only [State.bit_putBit_apart, State.bit_putBit_same]

theorem State.startedExport_size (h : d < 32) : (s.startedExport d).get .HST_JNL_CFG_SIZE_LOG2 = d := by
  unfold State.startedExport
  simp (disch := decide) only [State.get_putBit_apart, State.get_put_same]
  exact Nat.mod_eq_of_lt h

theorem State.startedExport_onlyRegs : OnlyRegs exportRegs s (s.startedExport d) :=
  (((OnlyRegs.refl exportRegs s).put (by decide)).putBit (by decide)).putBit (by decide)

theorem State.startedExport_strand : (s.startedExport d).strand = s.strand := rfl

theorem State.stoppedExport_bits : s.stoppedExport.bit .HST_JNL_CFG_ENABLE = false ∧
    s.stoppedExport.bit .HST_JNL_STATUS_RUNNING = false ∧ s.stoppedExport.bit .HST_JNL_STATUS_RING_FULL = false := by
  unfold State.stoppedExport
  refine ⟨?_, ?_, ?_⟩ <;> simp (disch := decide) only [State.bit_putBit_apart, State.bit_putBit_same]

theorem State.stoppedExport_onlyRegs : OnlyRegs exportRegs s s.stoppedExport :=
  (((OnlyRegs.refl exportRegs s).putBit (by decide)).putBit (by decide)).putBit (by decide)

/-- The strand is no register. -/
theorem OnlyRegs.strand {l : List Nat} {s t : State} (h : OnlyRegs l s t) (x : Strand) :
    OnlyRegs l { s with strand := x } { t with strand := x } := by
  obtain ⟨ht, hr⟩ := h
  exact ⟨by rw [ht], hr⟩

variable {s d}

theorem execJournalExportEnable_started (he : s.bit .HST_JNL_CFG_ENABLE = false) (hl : 26 ≤ d) (hh : d ≤ 31) :
    execJournalExportEnable d s = .next
      ({ (s.wakeNap 1).startedExport d with strand := s.strand.ringEmpty } : State).showRing := by
  refine (if_neg ?_).trans ?_
  · rw [State.bit_wakeNap 1 (by decide), he]
    simpa using ⟨hl, hh⟩
  · rw [← State.startedExport.eq_def, State.startedExport_strand, State.wakeNap_strand]
    rfl

theorem execJournalExportEnable_refused (h : s.bit .HST_JNL_CFG_ENABLE = true ∨ d < 26 ∨ 31 < d) :
    execJournalExportEnable d s = .next (s.wakeNap 1) := by
  refine if_pos ?_
  rw [State.bit_wakeNap 1 (by decide)]
  simpa [or_assoc] using h

end

theorem execJournalExportEnable_answers (d : Nat) (s : State) : ∃ t, execJournalExportEnable d s = .next t := by
  unfold execJournalExportEnable
  dsimp only
  split <;> exact ⟨_, rfl⟩

/-! ## JOURNAL_ITEM_WRITE -/

section
variable {s : State} {i : NextItem}

/-- Export goes on only where the unit may master the bus (R37, R188). -/
theorem State.bme_of_exporting (h : s.exporting = true) : s.host.bme = true := by
  simp only [State.exporting, Bool.and_eq_true] at h
  exact h.1.1.2

/-- The state once the octets of an item are issued and counted in WRITTEN (R187). -/
def State.itemSent (s : State) (b : Bytes) : State :=
  { s.sent (s.journalWrites b) with strand := { s.strand with written := s.strand.written + b.length } }

theorem State.foldl_emit (l : List HostWrite) (hb : s.host.bme = true) : l.foldl (fun s w => s.emit w) s = s.sent l :=
  (State.emit_fold s l id hb).trans (by rw [List.map_id, State.sent])

theorem execJournalItemWrite_none (h : s.nextItem = none) : execJournalItemWrite s = .next s := by
  simp only [execJournalItemWrite, h]

theorem execJournalItemWrite_waits (h : s.nextItem = some i)
    (hw : s.exporting = false ∨ s.ringFree < (pad8 i.octets).length) : execJournalItemWrite s = .next s.showRing := by
  have hb : (!s.exporting || decide (s.ringFree < (pad8 i.octets).length)) = true := by simpa using hw
  simp only [execJournalItemWrite, h, hb, if_true]

theorem execJournalItemWrite_written (h : s.nextItem = some i) (he : s.exporting = true)
    (hr : (pad8 i.octets).length ≤ s.ringFree) : execJournalItemWrite s = .next
      (((if i.isBead then s.itemSent (pad8 i.octets)
        else (s.itemSent (pad8 i.octets)).useCheckpoint (s.itemSent (pad8 i.octets)).svn).itemWritten i
        ).showRing.showStrand) := by
  have hb : (!s.exporting || decide (s.ringFree < (pad8 i.octets).length)) = false := by simpa [he] using hr
  simp only [execJournalItemWrite, h, hb, Bool.false_eq_true, if_false,
    State.foldl_emit _ (State.bme_of_exporting he)]
  rfl

end

theorem execJournalItemWrite_answers (s : State) : ∃ t, execJournalItemWrite s = .next t := by
  unfold execJournalItemWrite
  split
  · exact ⟨_, rfl⟩
  · dsimp only
    split <;> exact ⟨_, rfl⟩

section
variable (s : State) (b : Bytes)

/-- Octets from the write position to the end of the ring (R187). -/
def State.ringToEnd (s : State) : Nat :=
  2 ^ s.get .HST_JNL_CFG_SIZE_LOG2 - s.strand.written % 2 ^ s.get .HST_JNL_CFG_SIZE_LOG2

/-- The writes of a run of octets from one address on, no longer than the max payload (R36). -/
def State.journalRun (s : State) (addr : Nat) (b : Bytes) : List HostWrite :=
  (pieces s.host.maxPayload b.length).map (fun p => .journal (addr + p.1) ((b.drop p.1).take p.2))

theorem drop_length_take (n : Nat) (b : Bytes) : b.drop (b.take n).length = b.drop n := by
  rw [List.length_take]
  rcases Nat.le_total n b.length with h | h
  · rw [Nat.min_eq_left h]
  · rw [Nat.min_eq_right h, List.drop_length, List.drop_of_length_le h]

theorem State.journalWrites_eq : s.journalWrites b =
    s.journalRun (s.get64 .HST_JNL_BASE_LO_ADDR .HST_JNL_BASE_HI_ADDR +
      s.strand.written % 2 ^ s.get .HST_JNL_CFG_SIZE_LOG2) (b.take s.ringToEnd) ++
    s.journalRun (s.get64 .HST_JNL_BASE_LO_ADDR .HST_JNL_BASE_HI_ADDR) (b.drop s.ringToEnd) := by
  rw [← drop_length_take]
  rfl

end

/-- The pieces of a string, one after another, are the string. -/
theorem flatMap_pieces {n : Nat} (b : Bytes) (h : 0 < n) :
    (pieces n b.length).flatMap (fun p => (b.drop p.1).take p.2) = b := by
  rw [List.flatMap_def]
  exact pieces_flatten n b h

/-! ## The positions of the ring -/

theorem execJournalConsumedWrite_eq (s : State) (v : Nat) : execJournalConsumedWrite v s =
    .next (if v < s.strand.consumed || v > s.strand.written
      then (s.wakeNap 1).put .HST_JNL_CONSUMED_HI_BYTES (v / 2 ^ 32)
      else { (s.wakeNap 1).put .HST_JNL_CONSUMED_HI_BYTES (v / 2 ^ 32) with
        strand := { s.strand with consumed := v } }.showRing) := by
  simp only [execJournalConsumedWrite, State.put_strand, State.wakeNap_strand]
  split <;> rfl

section
variable {s : State} {b : Nat}

/-- Whether the clasp is held rests on the strand and the tick. -/
theorem State.holdsClasp_congr {t : State} (hs : t.strand = s.strand) (ht : t.time = s.time) :
    t.holdsClasp = s.holdsClasp := by
  rw [State.holdsClasp, State.holdsClasp, hs, ht]

theorem State.beadLog_congr {t : State} (hs : t.strand = s.strand) (n : Nat) : t.beadLog n = s.beadLog n := by
  rw [State.beadLog, State.beadLog, hs]

theorem State.odNat_congr {t : State} (h : t.agent = s.agent) (i b d : Nat) : t.odNat i b d = s.odNat i b d := by
  rw [State.odNat, State.odNat, State.odStored, State.odStored, h]

/-- The state with the high word of a write of DURABLE staged (R189). -/
def State.durableStaged (s : State) (b : Nat) : State := (s.wakeNap 1).put .HST_JNL_DURABLE_HI_BEAD (b / 2 ^ 32)

theorem State.durableStaged_strand : (s.durableStaged b).strand = s.strand :=
  (State.put_strand ..).trans (s.wakeNap_strand 1)
theorem State.durableStaged_time : (s.durableStaged b).time = s.time :=
  (State.put_time ..).trans (s.wakeNap_time 1)
theorem State.durableStaged_bb : (s.durableStaged b).bb = s.bb :=
  (State.put_bb ..).trans (s.wakeNap_bb 1)
theorem State.durableStaged_agent : (s.durableStaged b).agent = s.agent :=
  (State.put_agent ..).trans (s.wakeNap_agent 1)

/-- The index taken up to bead `b`: the lease starts again while the clasp is held, and the bead becomes the BBRAM
head (R189). -/
def State.takeDurable (s : State) (b : Nat) : State :=
  { s with
    strand := { s.strand with durable := b, leaseTick := if s.holdsClasp then s.time.tick else s.strand.leaseTick }
    bb := { s.bb with headBead := b, headHash := (s.beadLog b).1.take 32, headClasp := (s.beadLog b).2 } }

theorem State.takeDurable_strand : ((s.durableStaged b).takeDurable b).strand =
    { s.strand with durable := b, leaseTick := if s.holdsClasp then s.time.tick else s.strand.leaseTick } := by
  simp only [State.takeDurable, State.holdsClasp_congr State.durableStaged_strand State.durableStaged_time,
    State.durableStaged_strand, State.durableStaged_time]

theorem State.takeDurable_bb : ((s.durableStaged b).takeDurable b).bb =
    { s.bb with headBead := b, headHash := (s.beadLog b).1.take 32, headClasp := (s.beadLog b).2 } := by
  simp only [State.takeDurable, State.beadLog_congr State.durableStaged_strand, State.durableStaged_bb]

theorem execJournalDurableWrite_taken (hd : s.strand.durable < b) (he : b ≤ s.strand.exported) :
    execJournalDurableWrite b s =
      .next ((((s.durableStaged b).takeDurable b).durableReached b
        ).durableReplies.settle.flushReplies.settleMailbox.notePeaks) := by
  refine if_neg ?_
  rw [← State.durableStaged.eq_def, State.durableStaged_strand]
  simpa using ⟨hd, he⟩

theorem execJournalDurableWrite_discarded (h : b ≤ s.strand.durable ∨ s.strand.exported < b) :
    execJournalDurableWrite b s =
      .next ((s.durableStaged b).odStore 0x5000 0xC (some (le 4 (sat32 (s.odNat 0x5000 0xC 0))))) := by
  refine (if_pos ?_).trans ?_
  · rw [← State.durableStaged.eq_def, State.durableStaged_strand]
    simpa using h
  · rw [← State.durableStaged.eq_def, State.odNat_congr State.durableStaged_agent]

end

theorem execJournalDurableWrite_answers (b : Nat) (s : State) : ∃ t, execJournalDurableWrite b s = .next t := by
  unfold execJournalDurableWrite
  dsimp only
  split <;> exact ⟨_, rfl⟩

/-! ## CHECKPOINT_COMPLETE -/

section
variable {s : State} {c : Checkpoint}

/-- What a checkpoint still lacks: a segment, its manifest, or a bead to take its record (R201). -/
def State.ckptLacks (s : State) (c : Checkpoint) : Bool := !c.segments.isEmpty || !c.manifestWritten || !s.strandOpen

theorem State.ckptLacks_eq_true : s.ckptLacks c = true ↔
    c.segments ≠ [] ∨ c.manifestWritten = false ∨ s.strandOpen = false := by
  simp [State.ckptLacks, or_assoc]

/-- The state once the CHECKPOINT record has joined the open bead (R201). -/
def State.ckptJoined (s : State) (c : Checkpoint) : State :=
  (s.joinRec (deviceRec (.checkpoint c.boundary (Config.sha512 (s.manifestItem c))))).2

theorem execCheckpointComplete_recorded (hc : s.strand.ckptRunning = some c) (hl : s.ckptLacks c = false) :
    execCheckpointComplete s = .next { s.ckptJoined c with strand := { (s.ckptJoined c).strand with
      ckptRunning := none
      segVersions := c.counts.foldl (fun m e => mset (fun _ => (0, 0)) m e.1 (c.boundary, e.2))
        (s.ckptJoined c).strand.segVersions } } := by
  rw [State.ckptLacks] at hl
  simp only [execCheckpointComplete, hc, hl, Bool.false_eq_true, if_false]
  rfl

theorem execCheckpointComplete_none (h : s.strand.ckptRunning = none) : execCheckpointComplete s = .next s := by
  simp only [execCheckpointComplete, h]

theorem execCheckpointComplete_lacks (hc : s.strand.ckptRunning = some c) (hl : s.ckptLacks c = true) :
    execCheckpointComplete s = .next s := by
  rw [State.ckptLacks] at hl
  simp only [execCheckpointComplete, hc, hl, if_true]

end

theorem execCheckpointComplete_answers (s : State) : ∃ t, execCheckpointComplete s = .next t := by
  cases hc : s.strand.ckptRunning with
  | none => exact ⟨_, execCheckpointComplete_none hc⟩
  | some c =>
    cases hl : s.ckptLacks c with
    | false => exact ⟨_, execCheckpointComplete_recorded hc hl⟩
    | true => exact ⟨_, execCheckpointComplete_lacks hc hl⟩

/-- Settles O19: each clause is a case above, the writes of an item by their pieces, the closing ones the frame of each
command. -/
theorem journalRing : Obligations.JournalRing := by
  refine ⟨?_, fun s d => execJournalExportEnable_refused, ?_, ?_, ?_, fun s => execJournalItemWrite_none,
    execJournalConsumedWrite_eq, ?_, ?_, fun _ => rfl, ?_, ?_, ?_, ?_, ?_, ?_, ?_⟩
  · intro s d he hl hh
    obtain ⟨ben, brun⟩ := (s.wakeNap 1).startedExport_bits d
    refine ⟨_, execJournalExportEnable_started he hl hh, ben, ?_, brun, rfl,
      ((s.wakeNap 1).startedExport_onlyRegs d).strand _⟩
    exact State.startedExport_size _ d (Nat.lt_succ_of_le hh)
  · intro s
    obtain ⟨ben, brun, bfull⟩ := (s.wakeNap 1).stoppedExport_bits
    exact ⟨_, rfl, ben, brun, bfull, State.stoppedExport_onlyRegs _⟩
  · exact fun s i h => ⟨fun he hr => ⟨_, execJournalItemWrite_written h he hr, rfl, rfl, rfl⟩,
      execJournalItemWrite_waits h⟩
  · intro s b
    refine ⟨s.journalWrites_eq b, fun hp => ?_⟩
    rw [State.journalWrites_eq, List.flatMap_append, State.journalRun, State.journalRun, List.flatMap_map,
      List.flatMap_map]
    exact (congrArg₂ (· ++ ·) (flatMap_pieces _ hp) (flatMap_pieces _ hp)).trans (List.take_append_drop ..)
  · exact fun s b hd he => ⟨_, execJournalDurableWrite_taken hd he, State.takeDurable_strand,
      State.takeDurable_bb⟩
  · exact fun s b h => ⟨_, execJournalDurableWrite_discarded h, rfl⟩
  · intro s c hc hs hm ho
    have hl : s.ckptLacks c = false := by simp [State.ckptLacks, hs, hm, ho]
    exact ⟨_, _, rfl, execCheckpointComplete_recorded hc hl⟩
  · intro s h
    cases hc : s.strand.ckptRunning with
    | none => exact execCheckpointComplete_none hc
    | some c => exact execCheckpointComplete_lacks hc (State.ckptLacks_eq_true.mpr (h c hc))
  · exact fun s => Answers.only_of_frame (execJournalItemWrite_answers s)
      (execJournalItemWrite_frame (Fr.refl 17317905 s) rfl) (fun p => by cases p <;> decide)
  · intro s a
    simp only [List.forall_mem_cons, List.not_mem_nil, false_imp_iff, implies_true, and_true]
    exact ⟨Answers.only_of_frame (execJournalExportEnable_answers a s)
        (execJournalExportEnable_frame (Fr.refl 151011345 s) rfl) (fun p => by cases p <;> decide),
      Answers.only_of_frame ⟨_, execJournalConsumedWrite_eq s a⟩
        (execJournalConsumedWrite_frame (Fr.refl 151011345 s) rfl) (fun p => by cases p <;> decide)⟩
  · exact fun s => Answers.only_of_frame ⟨_, rfl⟩ (execJournalExportDisable_frame (Fr.refl 134217729 s) rfl)
      (fun p => by cases p <;> decide)
  · exact fun s a => Answers.kept_of_frame (execJournalDurableWrite_answers a s)
      (execJournalDurableWrite_frame (Fr.refl 1233088307 s) rfl) (fun p => by cases p <;> decide)
  · intro s
    simp only [List.forall_mem_cons, List.not_mem_nil, false_imp_iff, implies_true, and_true]
    exact ⟨Answers.only_of_frame ⟨_, rfl⟩ (execCkptReq_frame (Fr.refl 16384 s) rfl) (fun p => by cases p <;> decide),
      Answers.only_of_frame (execCheckpointComplete_answers s) (execCheckpointComplete_frame (Fr.refl 16384 s) rfl)
        (fun p => by cases p <;> decide)⟩

end Sys2Proof.Machine
end

section
/-! The clasp and the restore of a presented strand: the cases of CLASP_WRITE, of CLASP_LAPSE and of
RESTORE_LOAD_COMPLETE, what a grant leaves in the strand, and which pieces of State the three commands may change
(R185, R202 to R204, R252, R253). -/

namespace Sys2Proof.Machine

/-! ## A grant and a lapse -/

section
variable (s : State)

theorem State.restoreBindings_strand : s.restoreBindings.strand = s.strand :=
  (State.restoreBindings_frame (Fr.refl 2081 s) rfl).1 .strand rfl

theorem State.placeUncovered_strand : s.placeUncovered.strand = s.strand :=
  (State.placeUncovered_frame (Fr.refl 262148 s) rfl).1 .strand rfl

/-- Whatever the strand names is in place once service begins: all of it, or what no chunk covers (R203). -/
def State.placedForService : State := if s.restore.eager then s else s.placeUncovered

theorem State.placedForService_strand : s.placedForService.strand = s.strand := by
  unfold State.placedForService
  split
  · rfl
  · exact s.placeUncovered_strand

/-- The settings and owners of the presented strand restored and in force (R92, R165, R202). -/
def State.settingsRestored : State := (s.restoreSettings.restoreOwners).takeSettings

/-- The clasp of a generation held, and the first bead of it open above the presented one (R182, R202, R252). -/
def State.claspOpened (gen : Nat) : State :=
  { s with strand := { s.strand with
      clasp := some gen, lastClasp := gen, role := .active, leaseTick := s.time.tick,
      openBead := { Bead.empty (s.restore.presented + 0x100001) with
        firstOfClasp := true
        recs := { deviceRec (.claspStart gen s.restore.presented) with tick := s.time.tick } ::
          s.strand.queued.map (fun r => { r with tick := s.time.tick }) }
      closed := [], queued := [], head := s.restore.presented, headHash := s.restore.presentedHash,
      serialGap := s.strand.serialGap + 2 ^ 32,
      usageBlock := s.odNat 0x5000 8 64, restoredBlock := s.odNat 0x5000 8 64,
      ckptChanged := if s.strand.ckptChanged.contains 4096 then s.strand.ckptChanged
        else s.strand.ckptChanged ++ [4096] } }

/-- Restore goes on in LAZY, and the standby's visits start anew (R203, R257). -/
def State.serviceBegun : State :=
  { s with restore := { s.restore with state := .lazy }
           pair := { s.pair with visitBase := s.time.tick, visitRetry := none } }

/-- Restore goes on where the settings could be read, and fails where they could not (R203). -/
def State.settingsChecked : State := if s.settingsGood then s.restoreDone else s.restoreFails

theorem State.grantClasp_eq (gen : Nat) : s.grantClasp gen =
    ((((s.settingsRestored.claspOpened gen).restoreBindings.serviceBegun.placedForService.settingsChecked).setActive
      true).refreshDeviceState).showStrand := by
  unfold State.grantClasp
  -- The states the grant passes through; the other values are parts of them.
  extract_lets u _ _ _ _ _ _ t w _ _ x y z
  have ht : t = u.claspOpened gen := rfl
  have hx : x = w.serviceBegun := rfl
  have hy : y = x.placedForService := rfl
  have hz : z = y.settingsChecked := rfl
  rw [hz, hy, hx, State.settingsRestored, ← ht]

theorem State.serviceBegun_strand : s.serviceBegun.strand = s.strand := rfl

theorem State.claspOpened_strand (gen : Nat) : (s.claspOpened gen).strand.clasp = some gen ∧
    (s.claspOpened gen).strand.role = .active ∧
    (s.claspOpened gen).strand.openBead.num = s.restore.presented + 0x100001 :=
  ⟨rfl, rfl, rfl⟩

end

/-! ## CLASP_WRITE -/

section
variable {s : State} {g : Nat}

/-- Whether the unit is a candidate that waits for its clasp (R253). -/
def State.awaitsClasp (s : State) : Bool := s.restore.state == .claspWait && s.strand.role == .candidate

theorem State.awaitsClasp_eq_false : s.awaitsClasp = false ↔
    s.restore.state ≠ .claspWait ∨ s.strand.role ≠ .candidate := by
  simp [State.awaitsClasp, Classical.or_iff_not_imp_left]

/-- The unit with the clasp of a generation granted in this tick (R252, R253). -/
def State.claspGranted (s : State) (g : Nat) : State :=
  let u := ((s.wakeNap 1).put .HST_JNL_CLASP_GEN g).grantClasp g
  { u with pair := { u.pair with grantTick := some u.time.tick } }

/-- The unit whose clasp lapses for a newer generation (R185, R253). -/
def State.claspSuperseded (s : State) (g : Nat) : State := ((s.wakeNap 1).put .HST_JNL_CLASP_GEN g).lapseClasp

/-- The unit awake, with one write of HST_JNL_CLASP discarded (R253). -/
def State.claspDiscarded (s : State) : State :=
  { s.wakeNap 1 with pair := { s.pair with discards := sat32 s.pair.discards } }

theorem State.discardClasp_wakeNap (s : State) : (s.wakeNap 1).discardClasp = s.claspDiscarded := by
  rw [State.discardClasp, State.wakeNap_pair]
  rfl

theorem State.presentedClasp_wakeNap (s : State) (c : Nat) : (s.wakeNap c).presentedClasp = s.presentedClasp := by
  rw [State.presentedClasp, State.wakeNap_restore, State.presentedClasp]

theorem execClaspWrite_waiting (h : s.awaitsClasp = true) : execClaspWrite g s =
    .next (if g > s.presentedClasp ∧ g > s.bb.headClasp then s.claspGranted g else s.claspDiscarded) := by
  rw [State.awaitsClasp] at h
  simp only [execClaspWrite, State.wakeNap_restore, State.wakeNap_strand, State.presentedClasp_wakeNap,
    State.wakeNap_bb, State.discardClasp_wakeNap, h, if_true, Bool.and_eq_true, decide_eq_true_eq]
  split <;> rfl

theorem execClaspWrite_unclasped (h : s.awaitsClasp = false) (hc : s.strand.clasp = none) :
    execClaspWrite g s = .next s.claspDiscarded := by
  rw [State.awaitsClasp] at h
  simp only [execClaspWrite, State.wakeNap_restore, State.wakeNap_strand, State.discardClasp_wakeNap, h, hc,
    Bool.false_eq_true, if_false]

theorem execClaspWrite_clasped {k : Nat} (h : s.awaitsClasp = false) (hc : s.strand.clasp = some k) :
    execClaspWrite g s = .next (if g > k then s.claspSuperseded g else s.claspDiscarded) := by
  rw [State.awaitsClasp] at h
  simp only [execClaspWrite, State.wakeNap_restore, State.wakeNap_strand, State.discardClasp_wakeNap, h, hc,
    Bool.false_eq_true, if_false]
  split <;> rfl

end

theorem execClaspWrite_answers (g : Nat) (s : State) : ∃ t, execClaspWrite g s = .next t := by
  cases h : s.awaitsClasp with
  | true => exact ⟨_, execClaspWrite_waiting h⟩
  | false =>
    cases hc : s.strand.clasp with
    | none => exact ⟨_, execClaspWrite_unclasped h hc⟩
    | some k => exact ⟨_, execClaspWrite_clasped h hc⟩

/-! ## CLASP_LAPSE -/

theorem execClaspLapse_eq (s : State) : execClaspLapse s = .next (if s.leaseOver then s.lapseClasp else s) :=
  (apply_ite Host.Outcome.next _ _ _).symm

theorem State.leaseOver_eq_true {s : State} : s.leaseOver = true ↔
    s.strand.clasp.isSome = true ∧ s.holdsClasp = false := by
  rw [State.leaseOver, Bool.and_eq_true, Bool.not_eq_true']

/-! ## RESTORE_LOAD_COMPLETE -/

section
variable {s : State} {items : List StrandItem}

/-- Whether a strand was read whole and passes its own checks (R202, R203). -/
def State.loadsGood (s : State) (items : List StrandItem) : Bool :=
  items.length == s.odNat 0x5010 3 0 && s.strandGood items

/-- What a good strand leaves once its head is checked: its restore waits for the clasp, is refused, or has failed
already (R203, R204). -/
def State.loadDecided (t : State) (items : List StrandItem) : State :=
  if t.restore.state = .failed then t
  else if t.meetsHead items t.restore.boundary t.restore.presented then t.setRestore .claspWait
  else (t.event 0x0401 sevCritical t.restore.presented []).setRestore .refused

theorem execRestoreLoadComplete_idle (h : s.restore.state ≠ .loading) : execRestoreLoadComplete items s = .next s :=
  if_pos (by simpa using h)

theorem execRestoreLoadComplete_loading (h : s.restore.state = .loading) : execRestoreLoadComplete items s =
    .next (if s.loadsGood items then (s.loadStrand items).loadDecided items
      else (s.event 0x0402 sevCritical 0 []).setRestore .failed) := by
  refine (if_neg (by simp [h])).trans ?_
  cases hg : s.loadsGood items with
  | false => exact if_pos (by simpa [State.loadsGood, Decidable.imp_iff_not_or] using hg)
  | true =>
    refine (if_neg (by simpa [State.loadsGood] using hg)).trans ?_
    simp only [State.loadDecided, beq_iff_eq, if_true]
    split
    · rfl
    · split <;> rfl

theorem execRestoreLoadComplete_good {t : State} (h : s.restore.state = .loading)
    (hl : items.length = s.odNat 0x5010 3 0) (hg : s.strandGood items = true)
    (ht : (s.loadStrand items).loadDecided items = t) : execRestoreLoadComplete items s = .next t := by
  rw [execRestoreLoadComplete_loading h, State.loadsGood, hl, hg, ← ht]
  simp

theorem execRestoreLoadComplete_bad (h : s.restore.state = .loading)
    (hb : items.length ≠ s.odNat 0x5010 3 0 ∨ s.strandGood items = false) :
    execRestoreLoadComplete items s = .next ((s.event 0x0402 sevCritical 0 []).setRestore .failed) := by
  have hg : s.loadsGood items = false := by simpa [State.loadsGood, Decidable.imp_iff_not_or] using hb
  rw [execRestoreLoadComplete_loading h, hg]
  rfl

variable {t : State}

theorem State.loadDecided_failed (h : t.restore.state = .failed) : t.loadDecided items = t := if_pos h

theorem State.loadDecided_met (h : t.restore.state ≠ .failed)
    (hm : t.meetsHead items t.restore.boundary t.restore.presented = true) :
    t.loadDecided items = t.setRestore .claspWait :=
  (if_neg h).trans (if_pos hm)

theorem State.loadDecided_short (h : t.restore.state ≠ .failed)
    (hm : t.meetsHead items t.restore.boundary t.restore.presented = false) :
    t.loadDecided items = (t.event 0x0401 sevCritical t.restore.presented []).setRestore .refused :=
  (if_neg h).trans (if_neg (by simp [hm]))

end

theorem execRestoreLoadComplete_answers (items : List StrandItem) (s : State) :
    ∃ t, execRestoreLoadComplete items s = .next t := by
  by_cases h : s.restore.state = .loading
  · exact ⟨_, execRestoreLoadComplete_loading h⟩
  · exact ⟨_, execRestoreLoadComplete_idle h⟩

/-- Settles O20: each clause is a case above, the closing ones the frame of each command. -/
theorem clasp : Obligations.Clasp := by
  refine ⟨?_, ?_, fun s g h hc => execClaspWrite_unclasped (State.awaitsClasp_eq_false.mpr h) hc, ?_, ?_,
    fun s => ⟨_, rfl, rfl⟩, fun s items => execRestoreLoadComplete_idle, ?_, ?_, ?_, ?_, ?_⟩
  · intro s g hr ho
    have h : s.awaitsClasp = true := by simp [State.awaitsClasp, hr, ho]
    refine ⟨fun hp hb => ⟨_, rfl, ?_⟩, fun ho => ?_⟩
    · exact (execClaspWrite_waiting h).trans (congrArg Host.Outcome.next (if_pos ⟨hp, hb⟩))
    · exact (execClaspWrite_waiting h).trans (congrArg Host.Outcome.next (if_neg (by omega)))
  · intro s u w x v gen hu hw hx hv
    replace hw : w = (u.claspOpened gen).restoreBindings := hw
    replace hx : x = w.serviceBegun := hx
    replace hv : v = x.placedForService := hv
    have hs : v.strand = (u.claspOpened gen).strand := by
      rw [hv, State.placedForService_strand, hx, State.serviceBegun_strand, hw, State.restoreBindings_strand]
    refine ⟨?_, hs ▸ u.claspOpened_strand gen⟩
    rw [State.grantClasp_eq, State.settingsRestored, ← hu, ← hw, ← hx, ← hv, State.settingsChecked]
  · intro s k g hr hc
    have h := execClaspWrite_clasped (g := g) (State.awaitsClasp_eq_false.mpr (.inl hr)) hc
    exact ⟨fun hg => h.trans (congrArg Host.Outcome.next (if_pos hg)),
      fun hg => h.trans (congrArg Host.Outcome.next (if_neg (Nat.not_lt.mpr hg)))⟩
  · intro s
    refine ⟨fun hc hh => ?_, fun h => ?_, rfl⟩
    · exact (execClaspLapse_eq s).trans (by rw [State.leaseOver_eq_true.mpr ⟨hc, hh⟩]; rfl)
    · refine (execClaspLapse_eq s).trans (congrArg Host.Outcome.next (if_neg (mt State.leaseOver_eq_true.mp ?_)))
      rcases h with h | h <;> simp [h]
  · exact fun s items h hl hg hf => execRestoreLoadComplete_good h hl hg (State.loadDecided_failed hf)
  · exact fun s items h => ⟨execRestoreLoadComplete_bad h,
      fun hl hg hf hm => execRestoreLoadComplete_good h hl hg (State.loadDecided_met hf hm),
      fun hl hg hf hm => execRestoreLoadComplete_good h hl hg (State.loadDecided_short hf hm)⟩
  · exact fun s g => Answers.kept_of_frame (execClaspWrite_answers g s)
      (execClaspWrite_frame (Fr.refl 1539305463 s) rfl) (fun p => by cases p <;> decide)
  · exact fun s => Answers.kept_of_frame ⟨_, execClaspLapse_eq s⟩ (execClaspLapse_frame (Fr.refl 1228894067 s) rfl)
      (fun p => by cases p <;> decide)
  · exact fun s items => Answers.only_of_frame (execRestoreLoadComplete_answers items s)
      (execRestoreLoadComplete_frame (Fr.refl 18869813 s) rfl) (fun p => by cases p <;> decide)

end Sys2Proof.Machine
end

section
/-! The upkeep of the object store: background restore, the growth of the directory, scrubbing, damaged lines and the
protected ranges, and which pieces of State the seven commands may change (R203, R212, R226, R227, R232, R239, R240). -/

namespace Sys2Proof.Machine

/-! ## LAZY_CHUNK_RESTORE -/

section
variable {s : State}

theorem execLazyChunkRestore_idle {ok : Bool} (h : s.restore.state ≠ .lazy) : execLazyChunkRestore ok s = .next s :=
  if_pos (by simpa using h)

section
variable (h : s.restore.state = .lazy)
include h

theorem execLazyChunkRestore_fails : execLazyChunkRestore false s = .next s.restoreFails := by
  simp [execLazyChunkRestore, h]

theorem execLazyChunkRestore_done (hc : s.chunksLeft = []) :
    execLazyChunkRestore true s = .next s.restoreDone.refreshDeviceState := by
  simp [execLazyChunkRestore, h, hc]

theorem execLazyChunkRestore_chunk {c : StrandItem} {rest : List StrandItem} (hc : s.chunksLeft = c :: rest) :
    execLazyChunkRestore true s = .next (s.restoreItem c) := by
  simp [execLazyChunkRestore, h, hc]

end

end

theorem execLazyChunkRestore_answers (ok : Bool) (s : State) : ∃ t, execLazyChunkRestore ok s = .next t := by
  by_cases h : s.restore.state = .lazy
  · cases ok with
    | false => exact ⟨_, execLazyChunkRestore_fails h⟩
    | true =>
      cases hc : s.chunksLeft with
      | nil => exact ⟨_, execLazyChunkRestore_done h hc⟩
      | cons c rest => exact ⟨_, execLazyChunkRestore_chunk h hc⟩
  · exact ⟨_, execLazyChunkRestore_idle h⟩

/-! ## RESIZE_CLEAR_COMPLETE and RESIZE_BUCKET_MIGRATE -/

section
variable {s : State}

theorem execResizeClearComplete_idle (h : s.store.phase ≠ .clearing ∨ s.zeroised = true) :
    execResizeClearComplete s = .next s := if_pos (by simpa using h)

theorem execResizeClearComplete_cleared (hp : s.store.phase = .clearing) (hz : s.zeroised = false) :
    execResizeClearComplete s =
      .next { s with store := { s.store with phase := .migrating, newTable := [], newLinks := [], cursor := 0 } } :=
  if_neg (by simp [hp, hz])

theorem execResizeBucketMigrate_idle (h : s.store.phase ≠ .migrating ∨ s.zeroised = true) :
    execResizeBucketMigrate s = .next s := if_pos (by simpa using h)

/-- The store with the two children of the bucket at the cursor in the new table (R227). -/
def Store.splitInto (x : Store) (a b : List DirEntry) : Store := (x.putNew (2 * x.cursor) a).putNew (2 * x.cursor + 1) b

/-- The store with the new table in the old one's place, one bit larger (R226). -/
def Store.grown (x : Store) (k : Nat) : Store :=
  { x with k := k + 1, table := x.newTable, links := x.newLinks, newTable := [], newLinks := [], phase := .idle,
           cursor := 0 }

section
variable {a b : List DirEntry} (hp : s.store.phase = .migrating) (hz : s.zeroised = false)
  (hb : splitBucket s.store.k (bucket s.store.table s.store.cursor) = (a, b))
include hp hz hb

theorem execResizeBucketMigrate_moved (hc : s.store.cursor + 1 < 2 ^ s.store.k) : execResizeBucketMigrate s =
    .next { s with store := { s.store.splitInto a b with cursor := s.store.cursor + 1 } } := by
  simp only [execResizeBucketMigrate, hp, hz, hb, bne_self_eq_false, Bool.or_self, Bool.false_eq_true, if_false, hc,
    if_true]
  rfl

theorem execResizeBucketMigrate_grown (hc : s.store.cursor + 1 ≥ 2 ^ s.store.k) : execResizeBucketMigrate s =
    .next (State.resizeCheck { s with store := (s.store.splitInto a b).grown s.store.k }) := by
  simp only [execResizeBucketMigrate, hp, hz, hb, bne_self_eq_false, Bool.or_self, Bool.false_eq_true, if_false,
    Nat.not_lt.mpr hc]
  rfl

end

end

theorem execResizeClearComplete_answers (s : State) : ∃ t, execResizeClearComplete s = .next t := by
  unfold execResizeClearComplete
  split <;> exact ⟨_, rfl⟩

theorem execResizeBucketMigrate_answers (s : State) : ∃ t, execResizeBucketMigrate s = .next t := by
  unfold execResizeBucketMigrate
  split
  · exact ⟨_, rfl⟩
  · dsimp only
    split <;> exact ⟨_, rfl⟩

/-! ## PATROL_SCRUB -/

section
variable {s : State}

theorem execPatrolScrub_off {c : Bool} (h : s.bit .MEM_SCRUB_ENABLE = false) : execPatrolScrub c s = .next s :=
  if_pos (by simp [h])

theorem execPatrolScrub_on {c : Bool} (h : s.bit .MEM_SCRUB_ENABLE = true) : execPatrolScrub c s =
    .next (if c then (({ s with store := { s.store with scrubLine := (s.store.scrubLine + 1) % (s.capacity / 64) } } :
        State).putBit .MEM_STATUS_CE_SEEN true).count .MEM_ECC_CE_COUNT
      else { s with store := { s.store with scrubLine := (s.store.scrubLine + 1) % (s.capacity / 64) } }) :=
  if_neg (by simp [h])

end

theorem execPatrolScrub_answers (c : Bool) (s : State) : ∃ t, execPatrolScrub c s = .next t := by
  cases h : s.bit .MEM_SCRUB_ENABLE with
  | false => exact ⟨_, execPatrolScrub_off h⟩
  | true => exact ⟨_, execPatrolScrub_on h⟩

/-! ## ECC_UNCORRECTABLE_ERROR -/

section
variable {s : State} {a : Nat}

/-- The state once the error of a line is counted, its address kept and the event recorded (R240). -/
def State.errorSeen (s : State) (line : Nat) : State :=
  let t := (s.putBit .MEM_STATUS_UE_SEEN true).count .MEM_ECC_UE_COUNT
  State.event { t with store := { t.store with errAddr := line } } 0x0501 sevCritical line []

theorem State.errorSeen_eq (s : State) (line : Nat) : s.errorSeen line =
    ({ (s.putBit .MEM_STATUS_UE_SEEN true).count .MEM_ECC_UE_COUNT with store := { s.store with errAddr := line } } :
      State).event 0x0501 sevCritical line [] := by
  simp only [State.errorSeen, State.count_store, State.putBit_store]

/-- The damage of an object line: that of its object, if it holds one (R240). -/
def State.damageObjectLine (s : State) (line : Nat) : State :=
  match s.lineEntry line with
  | some e => s.damage e.handle
  | none => s

theorem State.damageObjectLine_some {line : Nat} {e : DirEntry} (h : s.lineEntry line = some e) :
    s.damageObjectLine line = s.damage e.handle := by
  simp only [State.damageObjectLine, h]

theorem State.damageObjectLine_none {line : Nat} (h : s.lineEntry line = none) : s.damageObjectLine line = s := by
  simp only [State.damageObjectLine, h]

/-- What the error of a line damages, by the region it lies in (R213, R240). -/
def State.damageLine (s : State) (line : Nat) : State :=
  if line < dramBase + 0x80000000 then s.damageStaged (decide (dramBase + 0x40000000 ≤ line))
  else if line < dirBase then s
  else if line < s.objectBase then s.damageDirLine line
  else s.damageObjectLine line

theorem State.damageLine_staged {line : Nat} (h : line < dramBase + 0x80000000) :
    s.damageLine line = s.damageStaged (decide (dramBase + 0x40000000 ≤ line)) := if_pos h

theorem State.damageLine_between {line : Nat} (hl : dramBase + 0x80000000 ≤ line) (hd : line < dirBase) :
    s.damageLine line = s := (if_neg (Nat.not_lt.mpr hl)).trans (if_pos hd)

section
variable {line : Nat} (hd : dirBase ≤ line)
include hd

theorem State.damageLine_above : s.damageLine line =
    if line < s.objectBase then s.damageDirLine line else s.damageObjectLine line := by
  have hl : dramBase + 0x80000000 ≤ line := Nat.le_trans (by decide) hd
  exact (if_neg (Nat.not_lt.mpr hl)).trans (if_neg (Nat.not_lt.mpr hd))

theorem State.damageLine_directory (ho : line < s.objectBase) : s.damageLine line = s.damageDirLine line :=
  (State.damageLine_above hd).trans (if_pos ho)

theorem State.damageLine_object (ho : s.objectBase ≤ line) : s.damageLine line = s.damageObjectLine line :=
  (State.damageLine_above hd).trans (if_neg (Nat.not_lt.mpr ho))

end

/-- The answer once an error is seen: each region's own damage (R240). -/
def State.answerOfDamage (s : State) (line : Nat) : Host.Outcome State Fault Refusal :=
  if line < dramBase + 0x80000000 then .next (s.damageStaged (decide (dramBase + 0x40000000 ≤ line)))
  else if line < dirBase then .next s
  else if line < s.objectBase then .next (s.damageDirLine line)
  else
    match s.lineEntry line with
    | some e => .next (s.damage e.handle)
    | none => .next s

theorem State.answerOfDamage_eq (s : State) (line : Nat) : s.answerOfDamage line = .next (s.damageLine line) := by
  rw [State.damageLine, State.damageObjectLine, apply_ite Host.Outcome.next, apply_ite Host.Outcome.next,
    apply_ite Host.Outcome.next, State.answerOfDamage]
  cases s.lineEntry line <;> rfl

theorem execEccUncorrectableError_outside (h : a < dramBase ∨ dramBase + s.capacity ≤ a) :
    execEccUncorrectableError a s = .next s := if_pos (by simpa using h)

theorem execEccUncorrectableError_inside (hl : dramBase ≤ a) (hh : a < dramBase + s.capacity) :
    execEccUncorrectableError a s = .next ((s.errorSeen (a / 64 * 64)).damageLine (a / 64 * 64)) := by
  have hin : ¬ (decide (a < dramBase) || decide (a ≥ dramBase + s.capacity)) = true := by simpa using ⟨hl, hh⟩
  rw [execEccUncorrectableError, if_neg hin]
  exact State.answerOfDamage_eq (s.errorSeen (a / 64 * 64)) (a / 64 * 64)

end

theorem execEccUncorrectableError_answers (a : Nat) (s : State) : ∃ t, execEccUncorrectableError a s = .next t := by
  by_cases h : a < dramBase ∨ dramBase + s.capacity ≤ a
  · exact ⟨_, execEccUncorrectableError_outside h⟩
  · exact ⟨_, execEccUncorrectableError_inside (by omega) (by omega)⟩

/-! ## The protected ranges -/

section
variable (s : State)

/-- The store is no register. -/
theorem OnlyRegs.store {l : List Nat} {s t : State} (h : OnlyRegs l s t) (x : Store) :
    OnlyRegs l { s with store := x } { t with store := x } := by
  obtain ⟨ht, hr⟩ := h
  exact ⟨by rw [ht], hr⟩

theorem State.get_withStore (x : Store) (f : Fld) : ({ s with store := x } : State).get f = s.get f :=
  State.get_congr rfl f

/-- The committed generation raised by one (R239). -/
def State.rangeGenRaised : State := s.put .MEM_PR_GEN_COMMITTED (s.get .MEM_PR_GEN_COMMITTED + 1)

/-- The committed generation shown as the active one (R239). -/
def State.rangeGenShown : State := s.put .MEM_PR_GEN_ACTIVE (s.get .MEM_PR_GEN_COMMITTED)

theorem State.get_rangeGenRaised :
    s.rangeGenRaised.get .MEM_PR_GEN_COMMITTED = (s.get .MEM_PR_GEN_COMMITTED + 1) % 2 ^ 16 :=
  State.get_put_same s .MEM_PR_GEN_COMMITTED _ (by decide)

theorem State.get_rangeGenShown : s.rangeGenShown.get .MEM_PR_GEN_ACTIVE = s.get .MEM_PR_GEN_COMMITTED :=
  (State.get_put_same s .MEM_PR_GEN_ACTIVE _ (by decide)).trans (Nat.mod_eq_of_lt (s.get_lt .MEM_PR_GEN_COMMITTED))

theorem State.rangeGenRaised_store : s.rangeGenRaised.store = s.store := State.put_store ..

theorem State.rangeGenShown_store : s.rangeGenShown.store = s.store := State.put_store ..

theorem execProtectedRangeCommit_eq : execProtectedRangeCommit s = .next { s.rangeGenRaised with
    store := { s.store with ranges := (List.range 8).map s.rangeGenRaised.shadowRange } } := by
  rw [← s.rangeGenRaised_store]
  rfl

theorem execProtectedRangeGenActive_eq : execProtectedRangeGenActive s = .next { s.rangeGenShown with
    store := { s.store with rangesActive := s.store.ranges } } := by
  rw [← s.rangeGenShown_store]
  rfl

theorem execProtectedRangeCommit_commits : Answers .protectedRangeCommit s (fun t =>
    t.store = { s.store with ranges := t.store.ranges } ∧ t.store.ranges.length = 8 ∧
    t.get .MEM_PR_GEN_COMMITTED = (s.get .MEM_PR_GEN_COMMITTED + 1) % 2 ^ 16 ∧
    OnlyRegs [Fld.MEM_PR_GEN_COMMITTED.addr] { s with store := t.store } t) :=
  ⟨_, execProtectedRangeCommit_eq s, rfl, List.length_map .., (State.get_withStore ..).trans s.get_rangeGenRaised,
    ((OnlyRegs.refl _ s).put (List.mem_singleton.mpr rfl)).store _⟩

theorem execProtectedRangeGenActive_activates : Answers .protectedRangeGenActive s (fun t =>
    t.store = { s.store with rangesActive := s.store.ranges } ∧
    t.get .MEM_PR_GEN_ACTIVE = s.get .MEM_PR_GEN_COMMITTED ∧
    OnlyRegs [Fld.MEM_PR_GEN_ACTIVE.addr] { s with store := t.store } t) :=
  ⟨_, execProtectedRangeGenActive_eq s, rfl, (State.get_withStore ..).trans s.get_rangeGenShown,
    ((OnlyRegs.refl _ s).put (List.mem_singleton.mpr rfl)).store _⟩

end

/-- Settles O21: each clause is a case above, the closing ones the frame of each command. -/
theorem storeUpkeep : Obligations.StoreUpkeep := by
  refine ⟨fun s h => ⟨execLazyChunkRestore_fails h, fun c rest => execLazyChunkRestore_chunk h,
      execLazyChunkRestore_done h⟩,
    fun s => execResizeClearComplete_cleared, ?_, fun s c => ⟨execLazyChunkRestore_idle, execResizeClearComplete_idle,
      execResizeBucketMigrate_idle, execPatrolScrub_off, fun a => execEccUncorrectableError_outside⟩,
    fun s h => ⟨execPatrolScrub_on h, execPatrolScrub_on h⟩, ?_, execProtectedRangeCommit_commits,
    execProtectedRangeGenActive_activates, ?_, ?_, ?_, ?_, ?_⟩
  · rintro s a b _ hp hz hb rfl
    exact ⟨execResizeBucketMigrate_moved hp hz hb, execResizeBucketMigrate_grown hp hz hb⟩
  · intro s a hl hh u hu
    rw [← State.errorSeen_eq] at hu
    subst hu
    have hx : exec (.eccUncorrectableError a) s = _ := execEccUncorrectableError_inside hl hh
    refine ⟨fun h => hx.trans (congrArg _ (State.damageLine_staged h)),
      fun h hd => hx.trans (congrArg _ (State.damageLine_between h hd)), fun hd ho => ⟨fun e he => ?_, fun he => ?_⟩,
      fun hd ho => hx.trans (congrArg _ (State.damageLine_directory hd ho))⟩
    · exact hx.trans (congrArg _ ((State.damageLine_object hd ho).trans (State.damageObjectLine_some he)))
    · exact hx.trans (congrArg _ ((State.damageLine_object hd ho).trans (State.damageObjectLine_none he)))
  · exact fun s ok => Answers.only_of_frame (execLazyChunkRestore_answers ok s)
      (execLazyChunkRestore_frame (Fr.refl 18869813 s) rfl) (fun p => by cases p <;> decide)
  · intro s
    simp only [List.forall_mem_cons, List.not_mem_nil, false_imp_iff, implies_true, and_true]
    exact ⟨Answers.only_of_frame (execResizeClearComplete_answers s)
        (execResizeClearComplete_frame (Fr.refl 262144 s) rfl) (fun p => by cases p <;> decide),
      Answers.only_of_frame (execResizeBucketMigrate_answers s)
        (execResizeBucketMigrate_frame (Fr.refl 262144 s) rfl) (fun p => by cases p <;> decide)⟩
  · exact fun s c => Answers.only_of_frame (execPatrolScrub_answers c s) (execPatrolScrub_frame (Fr.refl 262145 s) rfl)
      (fun p => by cases p <;> decide)
  · exact fun s a => Answers.only_of_frame (execEccUncorrectableError_answers a s)
      (execEccUncorrectableError_frame (Fr.refl 286725 s) rfl) (fun p => by cases p <;> decide)
  · intro s
    simp only [List.forall_mem_cons, List.not_mem_nil, false_imp_iff, implies_true, and_true]
    exact ⟨Answers.only_of_frame ⟨_, rfl⟩ (execProtectedRangeCommit_frame (Fr.refl 262145 s) rfl)
        (fun p => by cases p <;> decide),
      Answers.only_of_frame ⟨_, rfl⟩ (execProtectedRangeGenActive_frame (Fr.refl 262145 s) rfl)
        (fun p => by cases p <;> decide)⟩

end Sys2Proof.Machine
end

section
/-! Commands that write one entry of the dictionary: the row of the entry, what an accepted write of each storage class
comes to once its row is known, and what a refused one does (R501 to R503, R505, R507). -/

namespace Sys2Proof.Machine

/-! ## The row of an entry -/

theorem find_of_imp {α : Type} {p q : α → Bool} {l : List α} {a : α} (himp : ∀ x, p x = true → q x = true)
    (h : l.find? q = some a) (ha : p a = true) : l.find? p = some a := by
  induction l with
  | nil => cases h
  | cons x l ih =>
    cases hq : q x with
    | true =>
      rw [List.find?_cons_of_pos hq, Option.some.injEq] at h
      rw [h, List.find?_cons_of_pos ha]
    | false =>
      rw [List.find?_cons_of_neg (by simp [hq])] at h
      rw [List.find?_cons_of_neg (fun hp => by simp [himp x hp] at hq), ih h]

/-- Whether a row has an entry of sub-index `b` at an index from `lo` to below `hi`. -/
def OdRow.meets (lo hi b : Nat) (r : OdRow) : Bool :=
  r.index < hi && lo < r.index + r.count && r.sub ≤ b && b < r.sub + r.subCount

/-- Whether a row holds the entries of sub-index `b` at every index from `lo` to below `hi`. -/
def OdRow.spans (lo hi b : Nat) (r : OdRow) : Bool :=
  r.index ≤ lo && hi ≤ r.index + r.count && r.sub ≤ b && b < r.sub + r.subCount

/-- Over a span of indices a row holds throughout, it is the row of each entry where no row before it meets the span. -/
theorem odRow_of_span {lo hi b i : Nat} {r : OdRow} (h : odTable.find? (OdRow.meets lo hi b) = some r)
    (hs : r.spans lo hi b = true) (hl : lo ≤ i) (hh : i < hi) : odRow i b = some r := by
  refine find_of_imp (fun x hx => ?_) h ?_
  · simp only [OdRow.meets, Bool.and_eq_true, decide_eq_true_eq] at hx ⊢
    omega
  · simp only [OdRow.spans, Bool.and_eq_true, decide_eq_true_eq] at hs ⊢
    omega

/-! ## What a write goes on with -/

section
variable {s : State} {i b : Nat} {row : OdRow}

/-- No signet is taken where the entry needs none. -/
theorem State.paid_free (hr : odRow i b = some row) (hn : s.needsSignet row i = false) : s.paid i b = ([], s) := by
  simp [State.paid, hr, hn]

end

/-- The answer OK to a request, and the responses that are due (R503, R505). -/
def State.answeredOk (s : State) (q : OdReq) : State := (s.addReply q (some .ok) [] none).2.respond

section
variable {s t u : State} {q : OdReq} {i b : Nat} {v g : Bytes} {x : List StrandItem}

/-! ## What an accepted write comes to -/

/-- Whether an entry is volatile and has no response of its own: neither CONTROL nor an entry that programs the
factory settings (R502, R505). -/
def volatileEntry (i b : Nat) : Bool :=
  odIs .volatile i b && !inSpan i 0x2400 0x2800 && !(decide (i = 0xF000) && (decide (b = 1) || decide (b = 2)))

theorem State.odSet_answered (hp : s.passes q i b v = true) (he : volatileEntry i b = true) (hs : s.paid i b = (g, u))
    (ht : u.volatileWrite q i b v g x = (none, t)) : s.odSet q i b v x = t.answeredOk q := by
  simp only [volatileEntry, odIs, Bool.and_eq_true, Bool.not_eq_true', Bool.and_eq_false_imp,
    Bool.or_eq_false_iff] at he
  obtain ⟨⟨hc, hi⟩, hf⟩ := he
  refine State.odSet_volatile s q i b v x hp ?_ hi ?_ ?_ t (by rw [hs]; exact ht)
  · cases hr : odRow i b with
    | none => simp [hr] at hc
    | some row => simpa [hr] using hc
  · exact Bool.and_eq_false_imp.mpr fun h => (hf h).1
  · exact Bool.and_eq_false_imp.mpr fun h => (hf h).2

theorem State.odSet_local {row : OdRow} {typ : OdType} (hp : s.passes q i b v = true) (hr : odRow i b = some row)
    (hc : row.cls = .unitLocal) (hy : row.type = typ) (hs : s.paid i b = (g, u)) (ht : u.localWrite i b v = t) :
    s.odSet q i b v x = (t.queueRec (u.writeRec q i b typ.code v g none)).answeredOk q := by
  obtain ⟨r, hr', h⟩ := s.odSet_unitLocal q i b v x hp (by rw [hr, Option.map_some, hc])
  obtain rfl : row = r := Option.some.inj (hr.symm.trans hr')
  rw [h, hs, ← ht, ← hy]
  rfl

/-- A persistent write with its record at the end of the open bead, its response held for the seal (R502). -/
def State.persistentWritten (s : State) (q : OdReq) (i b : Nat) (typ : OdType) (v : Bytes) : State :=
  ((s.awaiting q).joinRec ((s.awaiting q).writeRec q i b typ.code v [] (some s.agent.nextReply))).2

theorem State.odSet_joined {row : OdRow} {typ : OdType} (hp : s.passes q i b v = true) (hr : odRow i b = some row)
    (hc : row.cls = .persistent) (hy : row.type = typ) (hs : s.paid i b = ([], s))
    (hi : inSpan i 0x2400 0x2800 = false) :
    s.odSet q i b v x = (s.persistentWritten q i b typ v).respond := by
  subst hy
  have h := s.odSet_persistent q i b v x hp (by rw [hr, Option.map_some, hc]) s (s.persistentWritten q i b row.type v)
    (by rw [hs]) row hr (by rw [hs]; rfl)
  rw [h, hi, Bool.false_and, if_neg Bool.false_ne_true]

/-! ## What a refused write comes to -/

theorem State.passes_eq (s : State) (q : OdReq) (i b : Nat) (v : Bytes) :
    s.passes q i b v = (s.failsWith q i b v).isNone := by
  unfold State.passes State.failsWith
  cases odRow i b <;> rfl

/-- A write whose type code is given fails the first check that does (R503). -/
theorem State.odWrite_refused {r : OdRow} {typ : Nat} {e : OdResult} (hr : odRow i b = some r)
    (he : s.writeFault q r i b typ v = some e) : s.odWrite q i b typ v x = (s.refuseWrite q i b v e).respond := by
  simp only [State.odWrite, hr, he]

/-! ## A command that writes one entry -/

section
variable {c : Instr} (hx : exec c s = .next (s.odSet q i b v x))
include hx

theorem exec_refused {e : OdResult} (h : s.failsWith q i b v = some e) :
    exec c s = .next (s.refuseWrite q i b v e).respond := hx.trans (congrArg _ (State.odSet_refused h x))

theorem exec_answered (he : volatileEntry i b = true) (hp : s.passes q i b v = true) (hs : s.paid i b = (g, u))
    (ht : u.volatileWrite q i b v g x = (none, t)) : exec c s = .next (t.answeredOk q) :=
  hx.trans (congrArg _ (State.odSet_answered hp he hs ht))

theorem exec_local {row : OdRow} {typ : OdType} (hr : odRow i b = some row) (hc : row.cls = .unitLocal)
    (hy : row.type = typ) (hp : s.passes q i b v = true) (hs : s.paid i b = (g, u)) (ht : u.localWrite i b v = t) :
    exec c s = .next ((t.queueRec (u.writeRec q i b typ.code v g none)).answeredOk q) :=
  hx.trans (congrArg _ (State.odSet_local hp hr hc hy hs ht))

theorem exec_joined {row : OdRow} {typ : OdType} (hr : odRow i b = some row) (hc : row.cls = .persistent)
    (hy : row.type = typ) (hi : inSpan i 0x2400 0x2800 = false) (hp : s.passes q i b v = true)
    (hs : s.paid i b = ([], s)) : exec c s = .next (s.persistentWritten q i b typ v).respond :=
  hx.trans (congrArg _ (State.odSet_joined hp hr hc hy hs hi))

theorem answers_of_odSet : Answers c s (Kept [.readValue, .share, .owners, .pending] s) :=
  Answers.kept_of_frame ⟨_, hx⟩ (fun t ht => by
    obtain rfl : s.odSet q i b v x = t := Host.Outcome.next.inj (hx.symm.trans ht)
    exact State.odSet_frame (Fr.refl 2147417975 s) rfl) (fun p => by cases p <;> decide)

end

end

end Sys2Proof.Machine
end

section
/-! Writes of the strand's and the pair's entries: each accepted write is its entry's effect, answered OK (R197, R202,
R203, R245, R255, R256, R258, R259). -/

namespace Sys2Proof.Machine

/-- Settles O48: each accepted write is its entry's effect, answered; a refused one the first check that failed. -/
theorem strandSettings : Obligations.StrandSettings := by
  refine ⟨fun s q v h => exec_answered rfl rfl h rfl rfl, fun s q v h => exec_answered rfl rfl h rfl rfl,
    fun s q v i h => exec_answered rfl rfl h rfl rfl, fun s q v h => exec_answered rfl rfl h rfl rfl,
    fun s q v h => exec_answered rfl rfl h rfl rfl, fun s q v h => exec_answered rfl rfl h rfl rfl,
    fun s q v h => exec_answered rfl rfl h rfl rfl, fun s q v h => exec_answered rfl rfl h rfl rfl,
    fun s q i b t v x r e => State.odWrite_refused,
    fun s q v x e => ⟨exec_refused rfl, exec_refused rfl, exec_refused rfl, exec_refused rfl, exec_refused rfl,
      exec_refused rfl, exec_refused rfl, exec_refused rfl⟩, State.passes_eq, ?_, fun s q x v => answers_of_odSet rfl⟩
  intro s q v
  simp only [List.forall_mem_cons, List.not_mem_nil, false_imp_iff, implies_true, and_true]
  exact ⟨answers_of_odSet rfl, answers_of_odSet rfl, answers_of_odSet rfl, answers_of_odSet rfl, answers_of_odSet rfl,
    answers_of_odSet rfl, answers_of_odSet rfl⟩

end Sys2Proof.Machine
end

section
/-! Writes that need a signet, of unit-local entries and of persistent ones: the signet is consumed first, a unit-local
effect comes with its record, and a persistent write is its record alone (R203, R247, R343, R351, R368, R369, R413,
R427, R462, R478, R494, R502). -/

namespace Sys2Proof.Machine

/-! ## Rows of the dictionary (R351, R427, R494) -/

/-- OWNER_EPOCH. -/
def epochRow : OdRow := ⟨0x4000, 0x04, 4096, 1, .u32, .rw, .persistent, 0, 0, 4294967295, [.manager, .secure]⟩

/-- RAISE of an alarm source. -/
def raiseRow : OdRow := ⟨0x7010, 0x02, 24, 1, .u8, .rw, .unitLocal, 0, 0, 4, [.manager, .secure]⟩

/-- The generation of a management key. -/
def mgmtKeyRow : OdRow := ⟨0xA030, 0x01, 1, 1, .u8, .wo, .unitLocal, 0, 1, 1, [.manager, .secure]⟩

/-- The certificate of the management key. -/
def mgmtCertRow : OdRow := ⟨0xA030, 0x03, 1, 1, (.octet 2048), .rw, .unitLocal, 0, 0, 2048, [.manager, .secure]⟩

theorem odRow_mgmtKey : odRow 0xA030 1 = some mgmtKeyRow := by decide

theorem odRow_mgmtCert : odRow 0xA030 3 = some mgmtCertRow := by decide

theorem odRow_epoch {n : Nat} (h : n < 4096) : odRow (0x4000 + n) 4 = some epochRow :=
  odRow_of_span (lo := 0x4000) (hi := 0x5000) rfl rfl (by omega) (by omega)

theorem odRow_raise {n : Nat} (h : n < 24) : odRow (0x7010 + n) 2 = some raiseRow :=
  odRow_of_span (lo := 0x7010) (hi := 0x7028) rfl rfl (by omega) (by omega)

theorem State.paid_epoch (s : State) {n : Nat} (h : n < 4096) : s.paid (0x4000 + n) 4 = ([], s) :=
  State.paid_free (odRow_epoch h) rfl

theorem State.paid_raise (s : State) {n : Nat} (h : n < 24) : s.paid (0x7010 + n) 2 = ([], s) :=
  State.paid_free (odRow_raise h) rfl

/-! ## What a unit-local write does at once -/

section
variable (s : State) (v : Bytes)

theorem State.localWrite_loopsArm : s.localWrite 0x7000 3 v = s.loopsArm (leNat v) := rfl

theorem State.localWrite_loopsDisarm : s.localWrite 0x7000 4 v = s.loopsDisarm (leNat v) := rfl

theorem State.localWrite_raise {n : Nat} (h : n < 24) : s.localWrite (0x7010 + n) 2 v = s.setResponse n (leNat v) := by
  have hi : inSpan (0x7010 + n) 0x7010 0x7028 = true := by
    simp only [inSpan, Bool.and_eq_true, decide_eq_true_eq]
    omega
  unfold State.localWrite
  rw [if_neg (by omega), if_pos hi, Nat.add_sub_cancel_left]

theorem State.localWrite_mgmtKey : s.localWrite 0xA030 1 v = s.mgmtKeyMake := by
  unfold State.localWrite
  rw [if_neg (by decide), if_neg (by decide), if_pos (by decide)]

theorem State.localWrite_mgmtCert : s.localWrite 0xA030 3 v = s.odStore 0xA030 3 (some v) := by
  unfold State.localWrite
  rw [if_neg (by decide), if_neg (by decide), if_neg (by decide)]
  dsimp only
  rw [if_neg (by decide), if_neg (by decide), if_neg (by decide)]

end

theorem inSpan_epoch (n : Nat) : inSpan (0x4000 + n) 0x2400 0x2800 = false := by
  simp only [inSpan, Bool.and_eq_false_imp, decide_eq_true_eq, decide_eq_false_iff_not]
  omega

/-- Settles O50: each accepted write is its class's effect with the signet it took, answered at once or at the seal; a
refused one the first check that failed. -/
theorem signetSettings : Obligations.SignetSettings := by
  refine ⟨fun s q v g u h hg => exec_answered rfl rfl h hg rfl, fun s q v g u h hg => exec_answered rfl rfl h hg rfl,
    fun s q v g u h hg => exec_answered rfl rfl h hg rfl, fun s q v g u h hg => exec_answered rfl rfl h hg rfl,
    fun s q v g u h hg => exec_local rfl rfl rfl rfl h hg (u.localWrite_loopsDisarm v),
    fun s q v h => exec_local rfl rfl rfl rfl h rfl (s.localWrite_loopsArm v),
    fun s q n v hn h => exec_local rfl (odRow_raise hn) rfl rfl h (s.paid_raise hn) (s.localWrite_raise v hn),
    fun s q v => ⟨fun h => exec_local rfl odRow_mgmtKey rfl rfl h (State.paid_free odRow_mgmtKey rfl)
        (s.localWrite_mgmtKey v),
      fun h => exec_local rfl odRow_mgmtCert rfl rfl h (State.paid_free odRow_mgmtCert rfl) (s.localWrite_mgmtCert v)⟩,
    ?_, ?_,
    fun s q v k e => ⟨exec_refused rfl, exec_refused rfl, exec_refused rfl, exec_refused rfl, exec_refused rfl,
      exec_refused rfl, exec_refused rfl, exec_refused rfl, exec_refused rfl, exec_refused rfl, exec_refused rfl⟩,
    ?_, ?_⟩
  · rintro s q v _ rfl h
    exact exec_joined rfl rfl rfl rfl rfl h rfl
  · rintro s q n v _ _ hn rfl h
    exact exec_joined rfl (odRow_epoch hn) rfl rfl (inSpan_epoch n) h (s.paid_epoch hn)
  · intro s q v
    simp only [List.forall_mem_cons, List.not_mem_nil, false_imp_iff, implies_true, and_true]
    exact ⟨answers_of_odSet rfl, answers_of_odSet rfl, answers_of_odSet rfl, answers_of_odSet rfl, answers_of_odSet rfl,
      answers_of_odSet rfl, answers_of_odSet rfl, answers_of_odSet rfl, answers_of_odSet rfl⟩
  · intro s q n v
    simp only [List.forall_mem_cons, List.not_mem_nil, false_imp_iff, implies_true, and_true]
    exact ⟨answers_of_odSet rfl, answers_of_odSet rfl⟩

end Sys2Proof.Machine
end

section
/-! Sessions of the link: when a sealed frame is accepted, the cases of HELLO, of CONFIRM and of the timers, and what a
message does once its frame is accepted (R249 to R251, R259, R263, R264). -/

namespace Sys2Proof.Machine

/-! ## Receiving a sealed frame -/

/-- A frame accepted: its SEQ and its tick are the last ones, and it is counted (R251, R264). -/
def State.frameTaken (s : State) (f : FrameHead) : State :=
  ({ s with pair := { s.pair with rxSeq := f.seq, lastRx := s.time.tick } } : State).put .FLL_RX_FRAMES_COUNT
    (s.get .FLL_RX_FRAMES_COUNT + 1)

section
variable {s : State} {ty : Nat} {pl : Bytes} {f : FrameHead}

theorem State.tagOk_some {k : Bytes} (h : s.sessionKey = some k) : s.tagOk ty pl f =
    ((sealFrame k (frameNonce (1 - s.position) f.seq) ty (1 - s.position) f.seq pl).tag == f.tag) := by
  simp only [State.tagOk, h]

theorem State.tagOk_none (h : s.sessionKey = none) : s.tagOk ty pl f = false := by
  simp only [State.tagOk, h]

theorem State.noteTag_pair : s.noteTag.pair = s.pair := by
  rw [State.noteTag, State.count_pair, State.putBit_pair]

theorem State.seqFailed_eq : s.seqFailed =
    { s.putBit .FLL_ERR_SEQ_ERR true with pair := { s.pair with seqFails := s.pair.seqFails + 1 } } := by
  rw [State.seqFailed, State.modPair, State.putBit_pair]

theorem State.tagFailed_eq : s.tagFailed = if s.pair.tagFails + 1 ≥ 16 then s.noteTag.closeLink lkDown 100
    else { s.noteTag with pair := { s.noteTag.pair with tagFails := s.pair.tagFails + 1 } } := by
  simp only [State.tagFailed, State.modPair, State.noteTag_pair]

theorem State.frame_unsealed (h : s.linkOn = false ∨ s.agreed = false) : s.frame ty pl f = (false, s) :=
  if_pos (by simpa using h)

theorem State.upFrame_up (h : s.linkUp = true) : s.upFrame ty pl f = s.frame ty pl f := if_pos h

theorem State.upFrame_ignored (h : s.linkUp = false ∨ s.linkOn = false ∨ s.agreed = false) :
    s.upFrame ty pl f = (false, s) := by
  cases hu : s.linkUp with
  | false => exact if_neg (by simp [hu])
  | true => exact (State.upFrame_up hu).trans (State.frame_unsealed (h.resolve_left (by simp [hu])))

variable (ho : s.linkOn = true) (ha : s.agreed = true)
include ho ha

theorem State.frame_stale (hq : f.seq ≤ s.pair.rxSeq) : s.frame ty pl f = (false, s.seqFailed) := by
  simp [State.frame, ho, ha, hq]

theorem State.frame_badTag (hq : f.seq > s.pair.rxSeq) (ht : s.tagOk ty pl f = false) :
    s.frame ty pl f = (false, s.tagFailed) := by
  simp [State.frame, ho, ha, hq, ht]

theorem State.frame_accepted (hq : f.seq > s.pair.rxSeq) (ht : s.tagOk ty pl f = true) :
    s.frame ty pl f = (true, s.frameTaken f) := by
  simp only [State.frame, ho, ha, ht, Nat.not_le.mpr hq, Bool.not_true, Bool.or_self, Bool.false_eq_true, if_false]
  rfl

end

/-! ## Messages of a session that is UP -/

/-- What a sealed message leaves: `act` where its frame is accepted, and what the frame alone leaves where it is not. -/
def State.onFrame (s : State) (ty : Nat) (pl : Bytes) (f : FrameHead) (act : State → State) : State :=
  if (s.upFrame ty pl f).1 then act (s.upFrame ty pl f).2 else (s.upFrame ty pl f).2

section
variable {s u : State} {ty : Nat} {pl : Bytes} {f : FrameHead} (act : State → State)

theorem State.onFrame_accepted (h : s.upFrame ty pl f = (true, u)) : s.onFrame ty pl f act = act u := by
  rw [State.onFrame, h, if_pos rfl]

theorem State.onFrame_discarded (h : s.upFrame ty pl f = (false, u)) : s.onFrame ty pl f act = u := by
  rw [State.onFrame, h, if_neg Bool.false_ne_true]

end

/-- The visit out has ended: it counts as the last, and the next falls due from it (R259). -/
def State.visitEnded (s : State) : State :=
  { s with pair := { s.pair with missed := 0, lastVisit := s.time.tick, visitBase := s.time.tick, visitRetry := none,
                                 visitPulse := none } }

/-- The head the partner reports is noted, and a candidate adopts a higher one into BBRAM (R259). -/
def State.headNoted (s : State) (b : Nat) (k : Bytes) (g : Nat) : State :=
  let t := { s with pair := { s.pair with partnerHead := some (b, k, g) } }
  if b > t.bb.headBead && t.strand.role == .candidate then
    { t with bb := { t.bb with headBead := b, headHash := k, headClasp := g } }
  else t

theorem State.headNoted_eq (s : State) (b : Nat) (k : Bytes) (g : Nat) : s.headNoted b k g =
    { s with pair := { s.pair with partnerHead := some (b, k, g) },
             bb := if b > s.bb.headBead && s.strand.role == .candidate
               then { s.bb with headBead := b, headHash := k, headClasp := g } else s.bb } := by
  unfold State.headNoted
  split
  · next h => rw [if_pos h]
  · next h => rw [if_neg h]

/-- A standby on a visit, with no restore written and STAY_AWAKE not given, reports and goes back to SLEEP (R259). -/
def State.visitReported (s : State) (v : Bool) : State :=
  if v && !s.restoreWritten && !s.pair.stayAwake && s.strand.role == .candidate
  then (s.sendSealed 0x05 (visitDoneBody s.bb.headBead)).beginSleep else s

/-- A CLASP_PASS grants the generation after its own and is acknowledged, or is answered with the reason why not
(R256). -/
def State.passAnswered (s : State) (g b : Nat) (k : Bytes) : State :=
  if s.passReason g b k = 0 then (s.grantClasp (g + 1)).sendSealed 0x08 (claspAckBody (g + 1))
  else s.sendSealed 0x09 (claspNakBody (s.passReason g b k))

section
variable (s : State) (f : FrameHead)

theorem execKeepalive_eq (r : Nat) : execKeepalive f r s = .next (s.onFrame 0x0A (keepaliveBody r) f
    (fun u => { u with pair := { u.pair with partnerRole := r } })) :=
  (apply_ite Host.Outcome.next _ _ _).symm

theorem execReady_eq (b g : Nat) : execReady f b g s = .next (s.onFrame 0x06 (readyBody b g) f
    (fun u => { u with pair := { u.pair with partnerReady := some (b, g) } })) :=
  (apply_ite Host.Outcome.next _ _ _).symm

theorem execClaspAck_eq (g : Nat) : execClaspAck f g s = .next (s.onFrame 0x08 (claspAckBody g) f
    (fun u => { u with pair := { u.pair with pass := none } })) :=
  (apply_ite Host.Outcome.next _ _ _).symm

theorem execHeadReq_eq : execHeadReq f s = .next (s.onFrame 0x03 [] f
    (fun u => u.sendSealed 0x04 (headBody u.bb.headBead u.bb.headHash u.bb.headClasp u.visiting))) :=
  (apply_ite Host.Outcome.next _ _ _).symm

theorem execVisitDone_eq (b : Nat) : execVisitDone f b s = .next (s.onFrame 0x05 (visitDoneBody b) f
    (fun u => if u.pair.visitPulse.isSome then u.visitEnded else u)) := by
  simp only [execVisitDone, State.onFrame]
  cases s.upFrame 0x05 (visitDoneBody b) f with
  | mk ok u =>
    cases ok with
    | false => rfl
    | true => exact (apply_ite Host.Outcome.next _ _ _).symm

theorem execHead_eq (b : Nat) (k : Bytes) (g : Nat) (v : Bool) : execHead f b k g v s =
    .next (s.onFrame 0x04 (headBody b k g v) f (fun u => (u.headNoted b k g).visitReported v)) := by
  simp only [execHead, State.onFrame]
  cases s.upFrame 0x04 (headBody b k g v) f with
  | mk ok u =>
    cases ok with
    | false => rfl
    | true => exact (apply_ite Host.Outcome.next _ _ _).symm

theorem execClaspPass_eq (g b : Nat) (k : Bytes) : execClaspPass f g b k s =
    .next (s.onFrame 0x07 (claspPassBody g b k) f (fun u => u.passAnswered g b k)) := by
  simp only [execClaspPass, State.onFrame]
  cases s.upFrame 0x07 (claspPassBody g b k) f with
  | mk ok u =>
    cases ok with
    | false => rfl
    | true => exact (apply_ite Host.Outcome.next _ _ _).symm

end

/-! ## HELLO and CONFIRM -/

/-- HELLO of the partner is counted, its role and serial noted (R250, R263). -/
def State.helloNoted (s : State) (h : HelloData) : State :=
  { s.countRx with pair := { s.pair with partnerRole := h.role, partnerSerial := h.serial } }

section
variable {s : State} {h : HelloData}

theorem State.countRx_pair : s.countRx.pair = s.pair := State.put_pair ..

theorem State.linkUp_pair (p : PairUnit) : ({ s with pair := p } : State).linkUp = s.linkUp := rfl

theorem State.linkUp_countRx : s.countRx.linkUp = s.linkUp := by
  rw [State.linkUp, State.link, State.countRx, State.get_put_reg _ _ _ _ (by decide), State.linkUp, State.link]

theorem State.linkUp_helloNoted : (s.helloNoted h).linkUp = s.linkUp :=
  (State.linkUp_pair _).trans State.linkUp_countRx

theorem execHello_off (ho : s.linkOn = false) : execHello h s = .next s := if_pos (by simp [ho])

theorem execHello_on (ho : s.linkOn = true) : execHello h s = .next (if s.linkUp then s.helloNoted h
    else ({ s.helloNoted h with pair := { (s.helloNoted h).pair with got := some h } } : State).openLink) := by
  have hn : s.countRx.modPair (fun p => { p with partnerRole := h.role, partnerSerial := h.serial }) = s.helloNoted h := by
    rw [State.modPair, State.countRx_pair, State.helloNoted]
  simp only [execHello, ho, hn, State.linkUp_helloNoted, Bool.not_true, Bool.false_eq_true, if_false]
  exact (apply_ite Host.Outcome.next _ _ _).symm

theorem execHello_answers (h : HelloData) (s : State) : ∃ t, execHello h s = .next t := by
  cases ho : s.linkOn with
  | false => exact ⟨_, execHello_off ho⟩
  | true => exact ⟨_, execHello_on ho⟩

end

/-- A session that could not be confirmed: the failure is counted, the link shows MISMATCH, and the partner is recorded
(R251). -/
def State.mismatched (s : State) : State :=
  (s.noteTag.closeLink lkMismatch 1000).event 0x0404 sevWarning
    ((s.pair.got.map (fun (h : HelloData) => h.serial)).getD 0) []

/-- A session UP: its first KEEPALIVE is due in 10 ticks, and a candidate asks for the head (R251, R259). -/
def State.broughtUp (s : State) : State :=
  let t := ({ s with pair := { s.pair with keepaliveDue := s.time.tick + 10 } } : State).put .FLL_STATUS_LINK lkUp
  if t.strand.role == .candidate then t.sendSealed 0x03 [] else t

section
variable {s : State} {f : FrameHead} {nn : Bytes}

theorem execConfirm_ignored (h : s.linkUp = true ∨ s.linkOn = false ∨ s.agreed = false) :
    execConfirm f nn s = .next s := if_pos (by simpa [or_assoc] using h)

variable (hu : s.linkUp = false) (ho : s.linkOn = true) (ha : s.agreed = true)
include hu ho ha

theorem execConfirm_stale (hq : f.seq ≤ s.pair.rxSeq) : execConfirm f nn s = .next s.seqFailed := by
  simp [execConfirm, hu, ho, ha, hq]

variable (hq : f.seq > s.pair.rxSeq)
include hq

theorem execConfirm_mismatch (ht : s.tagOk 0x02 nn f = false ∨ nn ≠ s.sessionNonces) :
    execConfirm f nn s = .next s.mismatched := by
  have hc : (!s.tagOk 0x02 nn f || nn != s.sessionNonces) = true := by simpa using ht
  simp only [execConfirm, hu, ho, ha, hc, Nat.not_le.mpr hq, Bool.not_true, Bool.or_self, Bool.false_eq_true, if_false,
    if_true]
  rfl

theorem execConfirm_confirmed (ht : s.tagOk 0x02 nn f = true) (hn : nn = s.sessionNonces) :
    execConfirm f nn s = .next (s.frameTaken f).broughtUp := by
  have hc : (!s.tagOk 0x02 nn f || nn != s.sessionNonces) = false := by rw [← hn, ht, bne_self_eq_false]; rfl
  simp only [execConfirm, hu, ho, ha, hc, Nat.not_le.mpr hq, State.frame_accepted ho ha hq ht, Bool.not_true,
    Bool.or_self, Bool.false_eq_true, if_false]
  exact (apply_ite Host.Outcome.next _ _ _).symm

end

theorem execConfirm_answers (f : FrameHead) (nn : Bytes) (s : State) : ∃ t, execConfirm f nn s = .next t := by
  by_cases h : s.linkUp = true ∨ s.linkOn = false ∨ s.agreed = false
  · exact ⟨_, execConfirm_ignored h⟩
  simp only [not_or, Bool.not_eq_true, Bool.not_eq_false] at h
  obtain ⟨hu, ho, ha⟩ := h
  rcases Nat.lt_or_ge s.pair.rxSeq f.seq with hq | hq
  · by_cases ht : s.tagOk 0x02 nn f = false ∨ nn ≠ s.sessionNonces
    · exact ⟨_, execConfirm_mismatch hu ho ha hq ht⟩
    · simp only [not_or, Bool.not_eq_false, not_not] at ht
      exact ⟨_, execConfirm_confirmed hu ho ha hq ht.1 ht.2⟩
  · exact ⟨_, execConfirm_stale hu ho ha hq⟩

/-! ## The timers of a session, and the receiver -/

theorem execHelloRetry_eq (s : State) : execHelloRetry s =
    .next (if s.linkUp || s.time.tick < s.pair.helloDue then s else s.sendHello.openLink) :=
  (apply_ite Host.Outcome.next _ _ _).symm

theorem execKeepaliveSendTimer_eq (s : State) : execKeepaliveSendTimer s =
    .next (if s.linkUp && s.time.tick ≥ s.pair.keepaliveDue then
      ({ s with pair := { s.pair with keepaliveDue := s.time.tick + 10 } } : State).sendSealed 0x0A
        (keepaliveBody s.strand.role.code) else s) :=
  (apply_ite Host.Outcome.next _ _ _).symm

theorem execFlallaniSessionTimeout_eq (s : State) : execFlallaniSessionTimeout s =
    .next (if s.linkUp && s.time.tick ≥ s.pair.lastRx + 100 then s.closeLink lkDown 100 else s) :=
  (apply_ite Host.Outcome.next _ _ _).symm

theorem execFllRxSyncAcquired_shown (s : State) : Answers .fllRxSyncAcquired s (fun t =>
    t.bit .FLL_STATUS_RX_SYNC = true ∧ OnlyRegs [Fld.FLL_STATUS_RX_SYNC.addr] s t) :=
  ⟨_, rfl, State.bit_putBit_same s _ _ rfl (by decide), (OnlyRegs.refl _ s).putBit (by decide)⟩

theorem execFllLostSync_shown (s : State) : Answers .fllLostSync s (fun t =>
    t.bit .FLL_STATUS_RX_SYNC = false ∧ t.bit .FLL_ERR_LOST_SYNC = true ∧
    OnlyRegs [Fld.FLL_STATUS_RX_SYNC.addr, Fld.FLL_ERR_LOST_SYNC.addr] s t) := by
  refine ⟨_, rfl, ?_, State.bit_putBit_same _ .FLL_ERR_LOST_SYNC _ rfl (by decide),
    ((OnlyRegs.refl _ s).putBit (by decide)).putBit (by decide)⟩
  rw [State.bit_putBit_apart _ _ _ _ (by decide) (by decide)]
  exact State.bit_putBit_same s .FLL_STATUS_RX_SYNC false rfl (by decide)

/-! ## Which pieces of State a message may change -/

/-- A command that answers changes only the link, its keys and registers, where its frame lemma says so. -/
theorem Answers.only_sessionParts {c : Instr} {s : State} (hx : ∃ t, exec c s = .next t)
    (hf : FrO 268959745 s (exec c s)) : Answers c s (Only [.regs, .ladder, .pair] s) :=
  Answers.only_of_frame hx hf (fun p => by cases p <;> decide)

/-- Settles O28: each clause is a case above, the closing ones the frame of each command. -/
theorem linkSession : Obligations.LinkSession := by
  refine ⟨?_, ?_, ?_, ?_, ?_, ?_, ?_, ?_, ?_, ?_, fun s => ⟨execFllRxSyncAcquired_shown s, execFllLostSync_shown s⟩,
    ?_, ?_, ?_, ?_, ?_, ?_, ?_, ?_, ?_, ?_, ?_⟩
  · rintro s h ho _ rfl
    exact ⟨fun hu => (execHello_on ho).trans (congrArg _ (if_pos hu)),
      fun hu => (execHello_on ho).trans (congrArg _ (if_neg (by simp [hu])))⟩
  · exact fun s hu hd => (execHelloRetry_eq s).trans (congrArg _ (if_neg (by simpa [hu] using hd)))
  · intro s h
    refine ⟨execHello_off, fun hn => (execHelloRetry_eq s).trans (congrArg _ (if_pos (by simpa using hn))), fun hn => ?_,
      fun hn => ?_, fun f nn => execConfirm_ignored⟩
    · exact (execKeepaliveSendTimer_eq s).trans
        (congrArg _ (if_neg (by simpa [Decidable.imp_iff_not_or] using hn)))
    · exact (execFlallaniSessionTimeout_eq s).trans
        (congrArg _ (if_neg (by simpa [Decidable.imp_iff_not_or] using hn)))
  · intro s ty pl f hu ho ha
    rw [State.upFrame_up hu, ← State.seqFailed_eq]
    exact ⟨State.frame_accepted ho ha, State.frame_stale ho ha, State.frame_badTag ho ha⟩
  · exact fun s ty pl f => ⟨fun k => State.tagOk_some, State.tagOk_none, State.upFrame_ignored, State.tagFailed_eq⟩
  -- the frame accepted
  · intro s f u
    refine ⟨fun r h => ?_, fun b g h => ?_, fun g h => ?_, fun r h => ?_, fun h => ?_, fun b h hv => ?_, fun b h hv => ?_⟩
    · exact (execKeepalive_eq s f r).trans (congrArg _ (State.onFrame_accepted _ h))
    · exact (execReady_eq s f b g).trans (congrArg _ (State.onFrame_accepted _ h))
    · exact (execClaspAck_eq s f g).trans (congrArg _ (State.onFrame_accepted _ h))
    · exact congrArg (fun p => Host.Outcome.next p.2) h
    · exact (execHeadReq_eq s f).trans (congrArg _ (State.onFrame_accepted _ h))
    · exact (execVisitDone_eq s f b).trans (congrArg _ ((State.onFrame_accepted _ h).trans (if_pos hv)))
    · exact (execVisitDone_eq s f b).trans (congrArg _ ((State.onFrame_accepted _ h).trans (if_neg (by simp [hv]))))
  -- the frame discarded
  · intro s f u
    refine ⟨fun r h => ?_, fun b g h => ?_, fun g h => ?_, fun r h => ?_, fun h => ?_, fun b h => ?_,
      fun b k g v h => ?_, fun g b k h => ?_⟩
    · exact (execKeepalive_eq s f r).trans (congrArg _ (State.onFrame_discarded _ h))
    · exact (execReady_eq s f b g).trans (congrArg _ (State.onFrame_discarded _ h))
    · exact (execClaspAck_eq s f g).trans (congrArg _ (State.onFrame_discarded _ h))
    · exact congrArg (fun p => Host.Outcome.next p.2) h
    · exact (execHeadReq_eq s f).trans (congrArg _ (State.onFrame_discarded _ h))
    · exact (execVisitDone_eq s f b).trans (congrArg _ (State.onFrame_discarded _ h))
    · exact (execHead_eq s f b k g v).trans (congrArg _ (State.onFrame_discarded _ h))
    · exact (execClaspPass_eq s f g b k).trans (congrArg _ (State.onFrame_discarded _ h))
  · intro s f nn hu ho ha
    rw [← State.seqFailed_eq]
    refine ⟨execConfirm_stale hu ho ha, fun hq ht => ⟨_, rfl, execConfirm_mismatch hu ho ha hq ht⟩, ?_⟩
    intro u hq ht hn hf
    obtain rfl : s.frameTaken f = u := congrArg Prod.snd ((State.frame_accepted ho ha hq ht).symm.trans hf)
    exact ⟨_, rfl, execConfirm_confirmed hu ho ha hq ht hn⟩
  · exact fun s hu hd => (execKeepaliveSendTimer_eq s).trans (congrArg _ (if_pos (by simpa [hu] using hd)))
  · exact fun s hu hd => (execFlallaniSessionTimeout_eq s).trans (congrArg _ (if_pos (by simpa [hu] using hd)))
  -- the pieces of State
  · exact fun s h => Answers.only_sessionParts (execHello_answers h s) (execHello_frame (Fr.refl _ s) rfl)
  · exact fun s f nn => Answers.only_of_frame (execConfirm_answers f nn s) (execConfirm_frame (Fr.refl 268967937 s) rfl)
      (fun p => by cases p <;> decide)
  · exact fun s f => Answers.only_sessionParts ⟨_, execHeadReq_eq s f⟩ (execHeadReq_frame (Fr.refl _ s) rfl)
  · exact fun s f b k g v => Answers.only_of_frame ⟨_, execHead_eq s f b k g v⟩
      (execHead_frame (Fr.refl 1483218945 s) rfl) (fun p => by cases p <;> decide)
  · intro s f n
    simp only [List.forall_mem_cons, List.not_mem_nil, false_imp_iff, implies_true, and_true]
    exact ⟨Answers.only_sessionParts ⟨_, execVisitDone_eq s f n⟩ (execVisitDone_frame (Fr.refl _ s) rfl),
      Answers.only_sessionParts ⟨_, execClaspAck_eq s f n⟩ (execClaspAck_frame (Fr.refl _ s) rfl),
      Answers.only_sessionParts ⟨_, rfl⟩ (execClaspNak_frame (Fr.refl _ s) rfl),
      Answers.only_sessionParts ⟨_, execKeepalive_eq s f n⟩ (execKeepalive_frame (Fr.refl _ s) rfl)⟩
  · exact fun s f b g => Answers.only_sessionParts ⟨_, execReady_eq s f b g⟩ (execReady_frame (Fr.refl _ s) rfl)
  · exact fun s f g b k => Answers.kept_of_frame ⟨_, execClaspPass_eq s f g b k⟩
      (execClaspPass_frame (Fr.refl 331345653 s) rfl) (by decide)
  · exact fun s => Answers.only_of_frame ⟨_, execKeepaliveSendTimer_eq s⟩
      (execKeepaliveSendTimer_frame (Fr.refl 268435457 s) rfl) (fun p => by cases p <;> decide)
  · exact fun s => Answers.only_sessionParts ⟨_, execFlallaniSessionTimeout_eq s⟩
      (execFlallaniSessionTimeout_frame (Fr.refl _ s) rfl)
  · exact fun s => Answers.only_of_frame ⟨_, execHelloRetry_eq s⟩ (execHelloRetry_frame (Fr.refl 302514181 s) rfl)
      (fun p => by cases p <;> decide)
  · intro s
    simp only [List.forall_mem_cons, List.not_mem_nil, false_imp_iff, implies_true, and_true]
    exact ⟨Answers.only_of_frame ⟨_, rfl⟩ (execFllRxSyncAcquired_frame (Fr.refl 1 s) rfl) (fun p => by cases p <;> decide),
      Answers.only_of_frame ⟨_, rfl⟩ (execFllLostSync_frame (Fr.refl 1 s) rfl) (fun p => by cases p <;> decide)⟩

end Sys2Proof.Machine
end

section
/-! Heads, visits to the standby and the clasp handed over: what HEAD and CLASP_PASS leave, the cases of the visits and
of HANDOVER_COMPLETE, and which pieces of State each command may change (R252, R255, R256, R258, R259, R262). -/

namespace Sys2Proof.Machine

/-! ## Visits -/

/-- A visit of the partner begins: its pulse goes out in this tick (R258, R259). -/
def State.visitSent (s : State) : State :=
  { s with pair := { s.pair with visitPulse := some s.time.tick, out := s.pair.out ++ [.wakePulse] } }

/-- A visit was missed: it is counted and recorded, the third as CRITICAL, and retried (R259). -/
def State.visitMissed (s : State) : State :=
  ({ s with pair := { s.pair with missed := sat32 s.pair.missed, visitPulse := none,
                                  visitRetry := some (s.time.tick + 60000) } } : State).event 0x0405
    (if sat32 s.pair.missed = 3 then sevCritical else sevWarning) (sat32 s.pair.missed) []

/-- Whether a visit falls due: ACTIVE, with no session and no visit out (R259, R262). -/
def State.visitFallsDue (s : State) : Bool :=
  s.strand.role == .active && s.time.tick ≥ s.pair.visitDue && s.pair.visitPulse.isNone && !s.linkUp

theorem execResyncVisitDue_eq (s : State) : execResyncVisitDue s = .next (if s.visitFallsDue then s.visitSent else s) :=
  (apply_ite Host.Outcome.next _ _ _).symm

section
variable {s : State}

theorem State.visitFallsDue_eq_true : s.visitFallsDue = true ↔ s.strand.role = .active ∧ s.time.tick ≥ s.pair.visitDue ∧
    s.pair.visitPulse = none ∧ s.linkUp = false := by
  simp [State.visitFallsDue, and_assoc]

theorem State.visitFallsDue_eq_false : s.visitFallsDue = false ↔ s.strand.role ≠ .active ∨
    s.time.tick < s.pair.visitDue ∨ s.pair.visitPulse.isSome = true ∨ s.linkUp = true := by
  simp [State.visitFallsDue, Decidable.imp_iff_not_or, Option.isSome_iff_ne_none, or_assoc]

theorem execVisitTimeout_none (h : s.pair.visitPulse = none) : execVisitTimeout s = .next s := by
  simp only [execVisitTimeout, h]

theorem execVisitTimeout_some {t : Nat} (h : s.pair.visitPulse = some t) :
    execVisitTimeout s = .next (if s.time.tick < t + 2000 then s else s.visitMissed) := by
  rw [execVisitTimeout, h, apply_ite Host.Outcome.next]
  rfl

end

theorem execVisitTimeout_answers (s : State) : ∃ t, execVisitTimeout s = .next t := by
  cases h : s.pair.visitPulse with
  | none => exact ⟨_, execVisitTimeout_none h⟩
  | some t => exact ⟨_, execVisitTimeout_some h⟩

/-! ## The clasp given up and passed -/

/-- Whether the clasp may be passed on: handing over under a lease that stands, not zeroised, the Locket empty and the
final bead durable (R252, R255, R262). -/
def State.mayPass (s : State) (f : Nat) : Bool :=
  s.strand.role == .handingOver && !s.zeroised && s.holdsClasp && s.jobs.isEmpty && f ≤ s.strand.durable &&
    f ≤ s.strand.head

/-- The clasp given up: service ends, and the heartbeat goes low (R252). -/
def State.claspGivenUp (s : State) : State :=
  (({ s with strand := { s.strand with clasp := none, role := .notActive, closed := [], ckptRunning := none } } : State)
    |>.setActive false).putBit .FLL_STATUS_HB false

/-- The clasp of generation `g` given up at bead `f` and passed to the partner (R255). -/
def State.claspPassedOn (s : State) (g f : Nat) : State :=
  ({ s.claspGivenUp with pair := { s.claspGivenUp.pair with pass := some (g, f, padTo 64 (s.beadLog f).1) } } : State)
    |>.sendPass.refreshDeviceState.showStrand.showRing

section
variable {s : State}

theorem State.mayPass_eq_true {f : Nat} : s.mayPass f = true ↔ s.strand.role = .handingOver ∧ s.zeroised = false ∧
    s.holdsClasp = true ∧ s.jobs = [] ∧ f ≤ s.strand.durable ∧ f ≤ s.strand.head := by
  simp [State.mayPass, and_assoc]

theorem State.mayPass_eq_false {f : Nat} : s.mayPass f = false ↔ s.strand.role ≠ .handingOver ∨ s.jobs ≠ [] ∨
    s.holdsClasp = false ∨ s.zeroised = true ∨ s.strand.durable < f ∨ s.strand.head < f := by
  rw [← Bool.not_eq_true, State.mayPass_eq_true, ← Bool.not_eq_true s.holdsClasp, ← Bool.not_eq_false s.zeroised,
    ← Nat.not_le, ← Nat.not_le]
  tauto

theorem execHandoverComplete_some {f g : Nat} (hf : s.strand.finalBead = some f) (hg : s.strand.clasp = some g) :
    execHandoverComplete s = .next (if s.mayPass f then s.claspPassedOn g f else s) := by
  rw [execHandoverComplete, hf, hg, apply_ite Host.Outcome.next]
  rfl

theorem execHandoverComplete_none (h : s.strand.finalBead = none ∨ s.strand.clasp = none) :
    execHandoverComplete s = .next s := by
  rcases h with h | h
  · simp only [execHandoverComplete, h]
  · rw [execHandoverComplete, h]
    cases s.strand.finalBead with
    | none => rfl
    | some f => rfl

/-- The clasp stays where it is while no final bead may be passed (R255). -/
theorem execHandoverComplete_waits (h : ∀ f, s.strand.finalBead = some f → s.mayPass f = false) :
    execHandoverComplete s = .next s := by
  cases hf : s.strand.finalBead with
  | none => exact execHandoverComplete_none (.inl hf)
  | some f =>
    cases hg : s.strand.clasp with
    | none => exact execHandoverComplete_none (.inr hg)
    | some g => rw [execHandoverComplete_some hf hg, h f hf, if_neg Bool.false_ne_true]

theorem State.sendPass_some {p : Nat × Nat × Bytes} (h : s.pair.pass = some p) : s.sendPass =
    ({ s with pair := { s.pair with passDue := s.time.tick + 10 } } : State).sendSealed 0x07
      (claspPassBody p.1 p.2.1 p.2.2) := by
  obtain ⟨g, f, k⟩ := p
  rw [State.sendPass, h]
  rfl

end

theorem execClaspPassResend_eq (s : State) : execClaspPassResend s =
    .next (if s.pair.pass.isSome && s.time.tick ≥ s.pair.passDue then s.sendPass else s) :=
  (apply_ite Host.Outcome.next _ _ _).symm

theorem execHandoverComplete_answers (s : State) : ∃ t, execHandoverComplete s = .next t := by
  cases hf : s.strand.finalBead with
  | none => exact ⟨_, execHandoverComplete_none (.inl hf)⟩
  | some f =>
    cases hg : s.strand.clasp with
    | none => exact ⟨_, execHandoverComplete_none (.inr hg)⟩
    | some g => exact ⟨_, execHandoverComplete_some hf hg⟩

/-! ## Why a CLASP_PASS is refused -/

section
variable {s : State} {g b : Nat} {k : Bytes}

theorem State.passReason_granted (hr : s.strand.role = .active) (hg : s.pair.grantTick = some s.time.tick) :
    s.passReason g b k = 4 := if_pos (by simp [hr, hg])

theorem State.passReason_ungranted (h : ¬(s.strand.role = .active ∧ s.pair.grantTick = some s.time.tick)) :
    s.passReason g b k = if s.restore.state ≠ .claspWait ∨ s.strand.role ≠ .candidate then 1
      else if s.restore.presented ≠ b then 2
      else if padTo 64 s.restore.presentedHash ≠ padTo 64 k then 3
      else if s.presentedClasp ≠ g then 4 else 0 := by
  refine (if_neg (by simpa using h)).trans ?_
  simp only [Bool.or_eq_true, bne_iff_ne]

end

/-- Settles O29: each clause is a case above, the closing ones the frame of each command. -/
theorem headsAndTakeover : Obligations.HeadsAndTakeover := by
  refine ⟨?_, ?_, ?_, fun _ => rfl, ?_, ?_, ?_, fun s g b k => ⟨State.passReason_granted, State.passReason_ungranted⟩,
    ?_, ?_, ?_, ?_, ?_⟩
  · exact fun s f b k g v u h => ⟨u.headNoted b k g, u.headNoted_eq b k g,
      (execHead_eq s f b k g v).trans (congrArg _ (State.onFrame_accepted _ h))⟩
  · exact fun s hr hd hp hl => (execResyncVisitDue_eq s).trans
      (congrArg _ (if_pos (State.visitFallsDue_eq_true.mpr ⟨hr, hd, hp, hl⟩)))
  · exact fun s t h hd => (execVisitTimeout_some h).trans (congrArg _ (if_neg (Nat.not_lt.mpr hd)))
  · rintro s f g _ _ hf hg hr hz hh hj hd hb rfl rfl
    exact (execHandoverComplete_some hf hg).trans
      (congrArg _ (if_pos (State.mayPass_eq_true.mpr ⟨hr, hz, hh, hj, hd, hb⟩)))
  · intro s p hp hd
    exact (execClaspPassResend_eq s).trans
      (congrArg _ ((if_pos (by simpa [hp] using hd)).trans (State.sendPass_some hp)))
  · intro s f g b k u h
    have hx := (execClaspPass_eq s f g b k).trans (congrArg _ (State.onFrame_accepted _ h))
    exact ⟨fun hr => hx.trans (congrArg _ (if_pos hr)), fun hr => hx.trans (congrArg _ (if_neg hr))⟩
  · intro s
    refine ⟨fun h => ?_, fun h => ?_, fun h => ?_, fun f hf h => ?_, fun h => ?_⟩
    · exact (execResyncVisitDue_eq s).trans
        (congrArg _ (if_neg (by simp [State.visitFallsDue_eq_false.mpr h])))
    · cases hp : s.pair.visitPulse with
      | none => exact execVisitTimeout_none hp
      | some t => exact (execVisitTimeout_some hp).trans (congrArg _ (if_pos (h t hp)))
    · rcases h with h | h | h
      · exact execHandoverComplete_none (.inl h)
      · exact execHandoverComplete_none (.inr h)
      · exact execHandoverComplete_waits fun f _ => State.mayPass_eq_false.mpr (by tauto)
    · refine execHandoverComplete_waits fun f' hf' => ?_
      obtain rfl : f = f' := Option.some.inj (hf.symm.trans hf')
      exact State.mayPass_eq_false.mpr (.inr (.inr (.inr (.inr h))))
    · refine (execClaspPassResend_eq s).trans (congrArg _ (if_neg ?_))
      simpa [Decidable.imp_iff_not_or, Option.isSome_iff_ne_none] using h
  · exact fun s => Answers.only_of_frame (execHandoverComplete_answers s)
      (execHandoverComplete_frame (Fr.refl 285229073 s) rfl) (fun p => by cases p <;> decide)
  · exact fun s => Answers.only_of_frame ⟨_, execClaspPassResend_eq s⟩
      (execClaspPassResend_frame (Fr.refl 268435457 s) rfl) (fun p => by cases p <;> decide)
  · intro s
    simp only [List.forall_mem_cons, List.not_mem_nil, false_imp_iff, implies_true, and_true]
    exact ⟨Answers.only_of_frame ⟨_, rfl⟩ (execFllWake_frame (Fr.refl 268435456 s) rfl) (fun p => by cases p <;> decide),
      Answers.only_of_frame ⟨_, execResyncVisitDue_eq s⟩ (execResyncVisitDue_frame (Fr.refl 268435456 s) rfl)
        (fun p => by cases p <;> decide)⟩
  · exact fun s => Answers.only_of_frame (execVisitTimeout_answers s) (execVisitTimeout_frame (Fr.refl 268443649 s) rfl)
      (fun p => by cases p <;> decide)

end Sys2Proof.Machine
end

section
/-! The messages of a pairing ceremony: at the receiver PAIR_OFFER and PAIR_SECRET, at the sender PAIR_REPLY and
PAIR_DONE, and the end of DOMAIN_ACCEPT; the cases of each and which pieces of State it may change (R245 to R247,
R249). -/

namespace Sys2Proof.Machine

/-! ## PAIR_OFFER -/

/-- Whether the receiver takes an offer: armed, reachable, without a domain and programming nothing (R245, R247). -/
def State.takesOffer (s : State) : Bool :=
  s.pair.accept.isSome && s.reaches && s.bb.pairSecret.isNone && s.lcs.programming.isNone

/-- Whether an offer passes its checks: addressed to this unit, endorsed and signed (R247). -/
def State.offerGood (s : State) (m : PairMessage) : Bool :=
  m.receiver == Config.fuseSerial && s.peerEndorsed m.sender m.idKey && idVerify m.idKey m.offerBody m.sig

/-- The ceremony an offer begins at the receiver, its ephemeral key made of `r` (R247). -/
def PairMessage.ceremony (m : PairMessage) (r : Bytes) : Ceremony :=
  { sender := false, other := m.sender, domain := m.domain, kem := [], ec := genKey 2 384 r, offer := some m,
    transport := none, officers := m.officers, carded := false }

/-- An offer taken: its ceremony begins, and waits for a card (R247). -/
def State.offerTaken (s : State) (m : PairMessage) : State :=
  let p := s.drawBytes 64
  ({ p.2 with pair := { p.2.pair with ceremony := some (m.ceremony p.1) } } : State).idleToPinWait

section
variable {s : State} {m : PairMessage}

theorem State.takesOffer_eq_true : s.takesOffer = true ↔ s.pair.accept.isSome = true ∧ s.reaches = true ∧
    s.bb.pairSecret = none ∧ s.lcs.programming = none := by
  simp [State.takesOffer, and_assoc]

theorem State.takesOffer_eq_false : s.takesOffer = false ↔ s.pair.accept = none ∨ s.reaches = false ∨
    s.bb.pairSecret.isSome = true ∨ s.lcs.programming.isSome = true := by
  simp [State.takesOffer, Decidable.imp_iff_not_or, Option.isSome_iff_ne_none, or_assoc]

theorem State.offerGood_eq_true : s.offerGood m = true ↔ m.receiver = Config.fuseSerial ∧
    s.peerEndorsed m.sender m.idKey = true ∧ idVerify m.idKey m.offerBody m.sig = true := by
  simp [State.offerGood, and_assoc]

theorem State.offerGood_eq_false : s.offerGood m = false ↔ m.receiver ≠ Config.fuseSerial ∨
    s.peerEndorsed m.sender m.idKey = false ∨ idVerify m.idKey m.offerBody m.sig = false := by
  simp [State.offerGood, Decidable.imp_iff_not_or, or_assoc]

theorem execPairOffer_off (h : s.linkOn = false) : execPairOffer m s = .next s := if_pos (by simp [h])

variable (ho : s.linkOn = true)
include ho

theorem execPairOffer_passed (ht : s.countRx.takesOffer = false) : execPairOffer m s = .next s.countRx := by
  refine (if_neg (by simp [ho])).trans (if_pos ?_)
  simpa [or_assoc] using State.takesOffer_eq_false.mp ht

theorem execPairOffer_bad (ht : s.countRx.takesOffer = true) (hg : s.countRx.offerGood m = false) :
    execPairOffer m s = .next (s.countRx.pairFail 0x10) := by
  obtain ⟨ha, hr, hs, hp⟩ := State.takesOffer_eq_true.mp ht
  refine (if_neg (by simp [ho])).trans ((if_neg ?_).trans (if_pos ?_))
  · simp [Option.isSome_iff_ne_none.mp ha, hr, hs, hp]
  · simpa [or_assoc] using State.offerGood_eq_false.mp hg

theorem execPairOffer_good (ht : s.countRx.takesOffer = true) (hg : s.countRx.offerGood m = true) :
    execPairOffer m s = .next (s.countRx.offerTaken m) := by
  obtain ⟨ha, hr, hs, hp⟩ := State.takesOffer_eq_true.mp ht
  obtain ⟨hm, he, hv⟩ := State.offerGood_eq_true.mp hg
  refine (if_neg (by simp [ho])).trans ((if_neg ?_).trans (if_neg ?_))
  · simp [Option.isSome_iff_ne_none.mp ha, hr, hs, hp]
  · simp [hm, he, hv]

end

theorem execPairOffer_answers (m : PairMessage) (s : State) : ∃ t, execPairOffer m s = .next t := by
  cases ho : s.linkOn with
  | false => exact ⟨_, execPairOffer_off ho⟩
  | true =>
    cases ht : s.countRx.takesOffer with
    | false => exact ⟨_, execPairOffer_passed ho ht⟩
    | true =>
      cases hg : s.countRx.offerGood m with
      | false => exact ⟨_, execPairOffer_bad ho ht hg⟩
      | true => exact ⟨_, execPairOffer_good ho ht hg⟩

/-! ## PAIR_REPLY -/

/-- Whether a reply passes its checks at the sender (R247). -/
def State.replyGood (s : State) (c : Ceremony) (m : PairMessage) : Bool :=
  m.receiver == c.other && s.peerEndorsed m.receiver m.idKey && idVerify m.idKey m.replyBody m.sig

/-- The secret and the domain sent, sealed under the transport key with the next SEQ (R247, R249). -/
def State.secretSent (s : State) (c : Ceremony) (key secret : Bytes) : State :=
  ({ s with pair := { s.pair with txSeq := s.pair.txSeq + 1, ceremony := some { c with transport := some key } } } : State)
    |>.sendLink (sealFrame key (zeros 12) 0x12 s.position (s.pair.txSeq + 1) (padTo 32 secret ++ le 8 s.bb.domainId))

/-- A good reply's outcome: the secret sent under the key both ephemerals give, or a failure where there is no key or
no secret (R247). -/
def State.replyTaken (s : State) (c : Ceremony) (m : PairMessage) : State :=
  match sharedSecret 2 384 c.ec m.point, s.bb.pairSecret with
  | some x, some secret =>
    s.secretSent c (transportKey (Config.decaps 1024 c.kem (padTo 1568 m.kem)) x Config.fuseSerial c.other) secret
  | _, _ => s.pairFail 0x11

section
variable {s : State} {c : Ceremony} {m : PairMessage}

theorem State.replyGood_eq_true : s.replyGood c m = true ↔ m.receiver = c.other ∧
    s.peerEndorsed m.receiver m.idKey = true ∧ idVerify m.idKey m.replyBody m.sig = true := by
  simp [State.replyGood, and_assoc]

theorem State.replyGood_eq_false : s.replyGood c m = false ↔ m.receiver ≠ c.other ∨
    s.peerEndorsed m.receiver m.idKey = false ∨ idVerify m.idKey m.replyBody m.sig = false := by
  simp [State.replyGood, Decidable.imp_iff_not_or, or_assoc]

theorem State.replyTaken_fails (h : sharedSecret 2 384 c.ec m.point = none ∨ s.bb.pairSecret = none) :
    s.replyTaken c m = s.pairFail 0x11 := by
  rcases h with h | h
  · simp only [State.replyTaken, h]
  · rw [State.replyTaken, h]
    cases sharedSecret 2 384 c.ec m.point with
    | none => rfl
    | some x => rfl

theorem State.replyTaken_sends {x secret : Bytes} (hx : sharedSecret 2 384 c.ec m.point = some x)
    (hs : s.bb.pairSecret = some secret) : s.replyTaken c m = s.secretSent c
      (transportKey (Config.decaps 1024 c.kem (padTo 1568 m.kem)) x Config.fuseSerial c.other) secret := by
  simp only [State.replyTaken, hx, hs]

theorem execPairReply_off (h : s.linkOn = false) : execPairReply m s = .next s := if_pos (by simp [h])

variable (ho : s.linkOn = true)
include ho

theorem execPairReply_none (hc : s.countRx.pair.ceremony = none) : execPairReply m s = .next s.countRx := by
  simp [execPairReply, ho, hc]

variable (hc : s.countRx.pair.ceremony = some c)
include hc

theorem execPairReply_misplaced (h : c.sender = false ∨ c.transport.isSome = true) :
    execPairReply m s = .next s.countRx := by
  simp only [execPairReply, ho, hc, Bool.not_true, Bool.false_eq_true, if_false]
  exact if_pos (by simpa using h)

theorem execPairReply_awaited (hs : c.sender = true) (ht : c.transport = none) : execPairReply m s =
    .next (if s.countRx.replyGood c m then s.countRx.replyTaken c m else s.countRx.pairFail 0x11) := by
  simp only [execPairReply, ho, hc, hs, ht, Option.isSome_none, Bool.not_true, Bool.or_self, Bool.false_eq_true, if_false]
  cases hg : s.countRx.replyGood c m with
  | false =>
    rw [if_neg Bool.false_ne_true]
    exact if_pos (by simpa [or_assoc] using State.replyGood_eq_false.mp hg)
  | true =>
    obtain ⟨hm, he, hv⟩ := State.replyGood_eq_true.mp hg
    rw [if_pos rfl, if_neg (by rw [he, hv, hm, bne_self_eq_false]; decide)]
    cases hx : sharedSecret 2 384 c.ec m.point with
    | none => rw [State.replyTaken_fails (.inl hx)]
    | some x =>
      cases hb : s.countRx.bb.pairSecret with
      | none => rw [State.replyTaken_fails (.inr hb)]
      | some secret => simp only [State.replyTaken_sends hx hb, State.secretSent, State.modPair, hs]

end

theorem execPairReply_answers (m : PairMessage) (s : State) : ∃ t, execPairReply m s = .next t := by
  cases ho : s.linkOn with
  | false => exact ⟨_, execPairReply_off ho⟩
  | true =>
    cases hc : s.countRx.pair.ceremony with
    | none => exact ⟨_, execPairReply_none ho hc⟩
    | some c =>
      by_cases h : c.sender = false ∨ c.transport.isSome = true
      · exact ⟨_, execPairReply_misplaced ho hc h⟩
      · simp only [not_or, Bool.not_eq_false, Bool.not_eq_true, Option.isSome_eq_false_iff, Option.isNone_iff_eq_none] at h
        exact ⟨_, execPairReply_awaited ho hc h.1 h.2⟩

/-! ## PAIR_SECRET -/

/-- What a sealed secret opens to under the transport key (R247, R249). -/
def State.openedSecret (s : State) (key : Bytes) (n : Nat) (b : Bytes) : Option Bytes :=
  Config.aeadOpen 1 16 key (zeros 12) (frameHead 0x12 (1 - s.position) false 40 n) b

/-- A secret that opened is counted and gives the last SEQ (R249). -/
def State.secretCounted (s : State) (n : Nat) : State :=
  ({ s with pair := { s.pair with rxSeq := n } } : State).countRx

/-- Whether a domain cannot be installed here: no installation left, a domain or a programming under way, or another
domain than the offered one (R246, R247). -/
def State.installBarred (s : State) (c : Ceremony) (p : Bytes) : Bool :=
  s.installsLeft = 0 || s.bb.pairSecret.isSome || s.lcs.programming.isSome || fieldLE p 32 8 != c.domain

/-- The programming of an installation begins (R246, R247). -/
def State.installStarted (s : State) (domain : Nat) (p : Bytes) : State :=
  ({ s with lcs := { s.lcs with programming := some (.install (p.take 32) domain [], none) } } : State).showOtp

section
variable {s : State} {n : Nat} {b : Bytes} {c : Ceremony}

theorem State.installBarred_iff {p : Bytes} : s.installBarred c p = true ↔ s.installsLeft = 0 ∨
    s.bb.pairSecret.isSome = true ∨ s.lcs.programming.isSome = true ∨ fieldLE p 32 8 ≠ c.domain := by
  simp [State.installBarred, or_assoc]

theorem execPairSecret_off (h : s.linkOn = false) : execPairSecret n b s = .next s := if_pos (by simp [h])

theorem execPairSecret_none (hc : s.pair.ceremony = none) : execPairSecret n b s = .next s := by
  simp [execPairSecret, hc]

theorem execPairSecret_misplaced (hc : s.pair.ceremony = some c) (h : c.sender = true ∨ c.transport = none) :
    execPairSecret n b s = .next s := by
  unfold execPairSecret
  split
  · rfl
  · rcases h with h | h
    · simp only [hc, h]
    · cases hs : c.sender with
      | false => simp only [hc, hs, h]
      | true => simp only [hc, hs]

variable {key : Bytes} (ho : s.linkOn = true) (hc : s.pair.ceremony = some c) (hs : c.sender = false)
  (ht : c.transport = some key)
include ho hc hs ht

theorem execPairSecret_stale (hn : n ≤ s.pair.rxSeq) : execPairSecret n b s = .next s.seqFailed := by
  simp [execPairSecret, ho, hc, hs, ht, hn]

theorem execPairSecret_sealed (hn : n > s.pair.rxSeq) (hp : s.openedSecret key n b = none) :
    execPairSecret n b s = .next (s.noteTag.pairFail 0x12) := by
  rw [State.openedSecret] at hp
  simp only [execPairSecret, ho, hc, hs, ht, hp, Nat.not_le.mpr hn, Bool.not_true, Bool.false_eq_true, if_false]

theorem execPairSecret_opened {p : Bytes} (hn : n > s.pair.rxSeq) (hp : s.openedSecret key n b = some p) :
    execPairSecret n b s = .next (if (s.secretCounted n).installBarred c p then (s.secretCounted n).pairFail 0x12
      else (s.secretCounted n).installStarted (fieldLE p 32 8) p) := by
  rw [State.openedSecret] at hp
  simp only [execPairSecret, ho, hc, hs, ht, hp, Nat.not_le.mpr hn, Bool.not_true, Bool.false_eq_true, if_false]
  exact (apply_ite Host.Outcome.next _ _ _).symm

end

theorem execPairSecret_answers (n : Nat) (b : Bytes) (s : State) : ∃ t, execPairSecret n b s = .next t := by
  cases ho : s.linkOn with
  | false => exact ⟨_, execPairSecret_off ho⟩
  | true =>
    cases hc : s.pair.ceremony with
    | none => exact ⟨_, execPairSecret_none hc⟩
    | some c =>
      cases hs : c.sender with
      | true => exact ⟨_, execPairSecret_misplaced hc (.inl hs)⟩
      | false =>
        cases ht : c.transport with
        | none => exact ⟨_, execPairSecret_misplaced hc (.inr ht)⟩
        | some key =>
          rcases Nat.lt_or_ge s.pair.rxSeq n with hn | hn
          · cases hp : s.openedSecret key n b with
            | none => exact ⟨_, execPairSecret_sealed ho hc hs ht hn hp⟩
            | some p => exact ⟨_, execPairSecret_opened ho hc hs ht hn hp⟩
          · exact ⟨_, execPairSecret_stale ho hc hs ht hn⟩

/-! ## PAIR_DONE -/

/-- Whether the report of an installation passes its checks at the sender (R247). -/
def State.doneGood (s : State) (c : Ceremony) (m : PairMessage) : Bool :=
  m.receiver == c.other && m.domain == c.domain && idVerify (slice (s.odBytes 0x1010 4) 24 520) m.doneBody m.sig

/-- The ceremony over, the sender PAIRED (R245). -/
def State.pairingDone (s : State) : State :=
  { s with pair := { s.pair with ceremony := none }, bb := { s.bb with paired := true } }

theorem State.pairingDone_eq (s : State) : s.pairingDone =
    { s.modPair (fun p => { p with ceremony := none }) with bb := { s.bb with paired := true } } := rfl

section
variable {s : State} {c : Ceremony} {m : PairMessage}

theorem State.doneGood_eq_true : s.doneGood c m = true ↔ m.receiver = c.other ∧ m.domain = c.domain ∧
    idVerify (slice (s.odBytes 0x1010 4) 24 520) m.doneBody m.sig = true := by
  simp [State.doneGood, and_assoc]

theorem State.doneGood_eq_false : s.doneGood c m = false ↔ m.receiver ≠ c.other ∨ m.domain ≠ c.domain ∨
    idVerify (slice (s.odBytes 0x1010 4) 24 520) m.doneBody m.sig = false := by
  simp [State.doneGood, Decidable.imp_iff_not_or, or_assoc]

theorem execPairDone_off (h : s.linkOn = false) : execPairDone m s = .next s := if_pos (by simp [h])

variable (ho : s.linkOn = true)
include ho

theorem execPairDone_none (hc : s.countRx.pair.ceremony = none) : execPairDone m s = .next s.countRx := by
  simp [execPairDone, ho, hc]

variable (hc : s.countRx.pair.ceremony = some c)
include hc

theorem execPairDone_misplaced (h : c.sender = false ∨ c.transport = none) :
    execPairDone m s = .next s.countRx := by
  simp only [execPairDone, ho, hc, Bool.not_true, Bool.false_eq_true, if_false]
  exact if_pos (by simpa using h)

theorem execPairDone_awaited (hs : c.sender = true) (ht : c.transport.isSome = true) : execPairDone m s =
    .next (if s.countRx.doneGood c m then s.countRx.pairingDone else s.countRx.pairFail 0x13) := by
  have hn : c.transport.isNone = false := Option.isNone_eq_false_iff.mpr ht
  simp only [execPairDone, ho, hc, hs, hn, Bool.not_true, Bool.or_self, Bool.false_eq_true, if_false]
  cases hg : s.countRx.doneGood c m with
  | false =>
    rw [if_neg Bool.false_ne_true]
    exact if_pos (by simpa [or_assoc] using State.doneGood_eq_false.mp hg)
  | true =>
    obtain ⟨hm, hd, hv⟩ := State.doneGood_eq_true.mp hg
    rw [if_pos rfl, if_neg (by simp [hm, hd, hv]), State.pairingDone_eq]

end

theorem execPairDone_answers (m : PairMessage) (s : State) : ∃ t, execPairDone m s = .next t := by
  cases ho : s.linkOn with
  | false => exact ⟨_, execPairDone_off ho⟩
  | true =>
    cases hc : s.countRx.pair.ceremony with
    | none => exact ⟨_, execPairDone_none ho hc⟩
    | some c =>
      by_cases h : c.sender = false ∨ c.transport = none
      · exact ⟨_, execPairDone_misplaced ho hc h⟩
      · simp only [not_or, Bool.not_eq_false] at h
        exact ⟨_, execPairDone_awaited ho hc h.1 (Option.isSome_iff_ne_none.mpr h.2)⟩

/-! ## The end of DOMAIN_ACCEPT -/

/-- The receiver no longer armed: of its ceremony only one whose card has answered goes on (R245). -/
def State.acceptEnded (s : State) : State :=
  { s with pair := { s.pair with accept := none,
                                 ceremony := s.pair.ceremony.filter (fun (c : Ceremony) => c.sender || c.carded) } }

section
variable {s : State}

theorem execDomainAcceptExpiry_none (h : s.pair.accept = none) : execDomainAcceptExpiry s = .next s := by
  simp only [execDomainAcceptExpiry, h]

theorem execDomainAcceptExpiry_some {t : Nat} (h : s.pair.accept = some t) :
    execDomainAcceptExpiry s = .next (if s.time.tick < t + 300000 then s else s.acceptEnded) := by
  rw [execDomainAcceptExpiry, h, apply_ite Host.Outcome.next]
  rfl

end

theorem execDomainAcceptExpiry_answers (s : State) : ∃ t, execDomainAcceptExpiry s = .next t := by
  cases h : s.pair.accept with
  | none => exact ⟨_, execDomainAcceptExpiry_none h⟩
  | some t => exact ⟨_, execDomainAcceptExpiry_some h⟩

/-- Settles O30: each clause is a case above, the closing ones the frame of each command. -/
theorem pairingCeremony : Obligations.PairingCeremony := by
  refine ⟨?_, ?_, ?_, ?_, ?_, ?_, ?_, ?_, ?_, ?_, ?_⟩
  · rintro s m _ r w ho rfl ha hr hb hp hw
    have ht := State.takesOffer_eq_true.mpr ⟨ha, hr, hb, hp⟩
    refine ⟨fun hg => ?_, fun hg => execPairOffer_bad ho ht (State.offerGood_eq_false.mpr hg)⟩
    refine (execPairOffer_good ho ht (State.offerGood_eq_true.mpr hg)).trans ?_
    rw [State.offerTaken, hw]
    rfl
  · rintro s _ c m ho rfl hc hs ht
    have hx := execPairReply_awaited (m := m) ho hc hs ht
    refine ⟨fun hg => hx.trans (by rw [State.replyGood_eq_false.mpr hg]; rfl), fun hm he hv => ?_⟩
    rw [State.replyGood_eq_true.mpr ⟨hm, he, hv⟩, if_pos rfl] at hx
    refine ⟨fun hn => hx.trans (by rw [State.replyTaken_fails hn]), ?_⟩
    rintro x secret _ hk hb rfl
    exact hx.trans (by rw [State.replyTaken_sends hk hb]; rfl)
  · intro s c key n b ho hc hs ht
    rw [← State.seqFailed_eq]
    refine ⟨execPairSecret_stale ho hc hs ht, execPairSecret_sealed ho hc hs ht, ?_⟩
    rintro p _ hn hp rfl
    have hx := execPairSecret_opened ho hc hs ht hn hp
    refine ⟨fun hb => hx.trans (congrArg _ (if_pos (State.installBarred_iff.mpr hb))), fun hi hb hw hd => ?_⟩
    refine hx.trans (congrArg _ ((if_neg ?_).trans (by rw [hd]; rfl)))
    rw [State.installBarred_iff, not_or, not_or, not_or]
    exact ⟨hi, Option.not_isSome_iff_eq_none.mpr hb, Option.not_isSome_iff_eq_none.mpr hw, not_not.mpr hd⟩
  · rintro s _ c m ho rfl hc hs ht
    have hx := execPairDone_awaited (m := m) ho hc hs ht
    exact ⟨fun hg => hx.trans (by rw [State.doneGood_eq_true.mpr hg]; rfl),
      fun hg => hx.trans (by rw [State.doneGood_eq_false.mpr hg]; rfl)⟩
  · intro s m n b
    refine ⟨fun h => ⟨execPairOffer_off h, execPairReply_off h, execPairDone_off h, execPairSecret_off h⟩, ?_⟩
    rintro _ ho rfl
    exact ⟨fun h => execPairOffer_passed ho (State.takesOffer_eq_false.mpr h),
      fun hc => ⟨execPairReply_none ho hc, execPairDone_none ho hc⟩,
      fun c hc => ⟨execPairReply_misplaced ho hc, execPairDone_misplaced ho hc⟩,
      execPairSecret_none, fun c => execPairSecret_misplaced⟩
  · intro s t
    exact ⟨fun h hd => (execDomainAcceptExpiry_some h).trans (congrArg _ (if_neg (Nat.not_lt.mpr hd))),
      execDomainAcceptExpiry_none, fun h hd => (execDomainAcceptExpiry_some h).trans (congrArg _ (if_pos hd))⟩
  · exact fun s => Answers.only_of_frame (execDomainAcceptExpiry_answers s)
      (execDomainAcceptExpiry_frame (Fr.refl 268435456 s) rfl) (fun p => by cases p <;> decide)
  · exact fun s m => Answers.only_of_frame (execPairOffer_answers m s) (execPairOffer_frame (Fr.refl 303046661 s) rfl)
      (fun p => by cases p <;> decide)
  · exact fun s m => Answers.only_of_frame (execPairReply_answers m s) (execPairReply_frame (Fr.refl 268443649 s) rfl)
      (fun p => by cases p <;> decide)
  · exact fun s n b => Answers.only_of_frame (execPairSecret_answers n b s)
      (execPairSecret_frame (Fr.refl 276832257 s) rfl) (fun p => by cases p <;> decide)
  · exact fun s m => Answers.only_of_frame (execPairDone_answers m s) (execPairDone_frame (Fr.refl 272637953 s) rfl)
      (fun p => by cases p <;> decide)

end Sys2Proof.Machine
end

section
/-! The cores of the two clusters: promotion, hold and fence, the slot length, and the search for the attestation key;
the cases of each command and which pieces of State it may change (R265, R266, R277, R279, R280, R283). -/

namespace Sys2Proof.Machine

/-! ## Promotion -/

section
variable {s : State} {k : ClusterId} {n : Nat}

theorem State.promote_spare (hn : n < k.cores) (hs : s.coreState k n = csSpare) : s.promote k n =
    ((s.moveCore k n csActive).setCluster k { (s.moveCore k n csActive).cluster k with
      promoted := insertBy (fun x => (x, 0)) n ((s.moveCore k n csActive).cluster k).promoted }).updateCore k n :=
  if_pos (by simp [hn, hs])

theorem State.promote_ignored (h : k.cores ≤ n ∨ s.coreState k n ≠ csSpare) : s.promote k n = s :=
  if_neg (by simpa only [Bool.and_eq_true, decide_eq_true_eq, beq_iff_eq, not_and_or, Nat.not_lt] using h)

end

/-! ## Hold and fence -/

section
variable {n : Nat} (s : State) (on : Bool)

theorem State.setHold_big_low (h : n < 32) :
    s.setHold .big n on = s.put .BGN_HOLD_LO_HOLD (setNbit (s.get .BGN_HOLD_LO_HOLD) n on) := if_pos h

theorem State.setHold_big_high (h : 32 ≤ n) :
    s.setHold .big n on = s.put .BGN_HOLD_HI_HOLD (setNbit (s.get .BGN_HOLD_HI_HOLD) (n - 32) on) :=
  if_neg (Nat.not_lt.mpr h)

theorem State.setFence_big_low (h : n < 32) :
    s.setFence .big n = s.put .BGN_FENCE_LO_FENCE (setNbit (s.get .BGN_FENCE_LO_FENCE) n true) := if_pos h

theorem State.setFence_big_high (h : 32 ≤ n) :
    s.setFence .big n = s.put .BGN_FENCE_HI_FENCE (setNbit (s.get .BGN_FENCE_HI_FENCE) (n - 32) true) :=
  if_neg (Nat.not_lt.mpr h)

theorem execBgnHold_core (h : n < 34) : execBgnHold n on s = .next ((s.setHold .big n on).updateCore .big n) := if_pos h

theorem execBgnHold_ignored (h : 34 ≤ n) : execBgnHold n on s = .next s := if_neg (Nat.not_lt.mpr h)

theorem execLatHold_core (h : n < 9) : execLatHold n on s = .next ((s.setHold .lat n on).updateCore .lat n) := if_pos h

theorem execLatHold_ignored (h : 9 ≤ n) : execLatHold n on s = .next s := if_neg (Nat.not_lt.mpr h)

theorem execBgnFence_core (h : n < 34) : execBgnFence n s = .next ((s.setFence .big n).updateCore .big n) := if_pos h

theorem execBgnFence_ignored (h : 34 ≤ n) : execBgnFence n s = .next s := if_neg (Nat.not_lt.mpr h)

theorem execLatFence_core (h : n < 9) : execLatFence n s = .next ((s.setFence .lat n).updateCore .lat n) := if_pos h

theorem execLatFence_ignored (h : 9 ≤ n) : execLatFence n s = .next s := if_neg (Nat.not_lt.mpr h)

end

theorem execBgnHold_answers (n : Nat) (on : Bool) (s : State) : ∃ t, execBgnHold n on s = .next t :=
  (Nat.lt_or_ge n 34).elim (fun h => ⟨_, execBgnHold_core s on h⟩) (fun h => ⟨_, execBgnHold_ignored s on h⟩)

theorem execLatHold_answers (n : Nat) (on : Bool) (s : State) : ∃ t, execLatHold n on s = .next t :=
  (Nat.lt_or_ge n 9).elim (fun h => ⟨_, execLatHold_core s on h⟩) (fun h => ⟨_, execLatHold_ignored s on h⟩)

theorem execBgnFence_answers (n : Nat) (s : State) : ∃ t, execBgnFence n s = .next t :=
  (Nat.lt_or_ge n 34).elim (fun h => ⟨_, execBgnFence_core s h⟩) (fun h => ⟨_, execBgnFence_ignored s h⟩)

theorem execLatFence_answers (n : Nat) (s : State) : ∃ t, execLatFence n s = .next t :=
  (Nat.lt_or_ge n 9).elim (fun h => ⟨_, execLatFence_core s h⟩) (fun h => ⟨_, execLatFence_ignored s h⟩)

/-! ## The slot length -/

section
variable {s : State} {n u : Nat}

theorem execBgnCoreCfgWrite_ignored (h : 34 ≤ n ∨ u = 0 ∨ 32 < u) : execBgnCoreCfgWrite n u s = .next s :=
  if_pos (by simpa [or_assoc] using h)

theorem execBgnCoreCfgWrite_core (hn : n < 34) (hu : 1 ≤ u) (hu' : u ≤ 32) : execBgnCoreCfgWrite n u s =
    .next (if s.coreOpen .big n then (s.put (.BGN_Cn_CFG_SLOT_UNITS n) u).clearCore .big n else s.coreErr .big n) := by
  rw [apply_ite Host.Outcome.next]
  exact if_neg (by simp [hn, hu', Nat.pos_iff_ne_zero.mp hu])

end

theorem execBgnCoreCfgWrite_answers (n u : Nat) (s : State) : ∃ t, execBgnCoreCfgWrite n u s = .next t := by
  by_cases h : 34 ≤ n ∨ u = 0 ∨ 32 < u
  · exact ⟨_, execBgnCoreCfgWrite_ignored h⟩
  · exact ⟨_, execBgnCoreCfgWrite_core (by omega) (by omega) (by omega)⟩

/-! ## The search for the attestation key -/

/-- Whether a search may start: eight open cores named, none under way, the generator running (R277, R279). -/
def State.akeyReady (s : State) : Bool :=
  s.akeyCores.length == 8 && s.akeyCores.all (s.coreOpen .big) && s.engines.akey.isNone && s.rngState == 1

/-- A search begun on the cores named (R277, R279). -/
def State.akeyBegun (s : State) : State :=
  (({ s with engines := { s.engines with akey := some s.akeyCores } } : State).akeyBusy s.akeyCores true).putBit
    .BGN_AKEY_STATUS_BUSY true

section
variable {s : State}

theorem State.akeyReady_eq_true : s.akeyReady = true ↔ s.akeyCores.length = 8 ∧
    s.akeyCores.all (s.coreOpen .big) = true ∧ s.engines.akey = none ∧ s.rngState = 1 := by
  simp [State.akeyReady, and_assoc]

theorem State.akeyReady_eq_false : s.akeyReady = false ↔ s.akeyCores.length ≠ 8 ∨
    s.akeyCores.all (s.coreOpen .big) = false ∨ s.engines.akey.isSome = true ∨ s.rngState ≠ 1 := by
  simp only [State.akeyReady, Bool.and_eq_false_iff, beq_eq_false_iff_ne, Option.isNone_eq_false_iff, or_assoc, ne_eq]

theorem execAttestKeyGenStart_eq (s : State) : execAttestKeyGenStart s =
    .next (if s.akeyReady then s.akeyBegun else s.putBit .BGN_AKEY_STATUS_FAILED true) := by
  rw [apply_ite Host.Outcome.next]
  rfl

theorem execAttestKeyGenStop_none (h : s.engines.akey = none) : execAttestKeyGenStop s = .next s := by
  simp only [execAttestKeyGenStop, h]

theorem execAttestKeyGenStop_some {l : List Nat} (h : s.engines.akey = some l) : execAttestKeyGenStop s =
    .next (((({ s with engines := { s.engines with akey := none } } : State).akeyBusy l false).putBit
      .BGN_AKEY_STATUS_BUSY false).putBit .BGN_AKEY_STATUS_FAILED true) := by
  simp only [execAttestKeyGenStop, h]

end

theorem execAttestKeyGenStop_answers (s : State) : ∃ t, execAttestKeyGenStop s = .next t := by
  cases h : s.engines.akey with
  | none => exact ⟨_, execAttestKeyGenStop_none h⟩
  | some l => exact ⟨_, execAttestKeyGenStop_some h⟩

/-! ## The pieces of State -/

/-- What a command may change that changes the state of a core. -/
abbrev coreParts : List Part := [.regs, .ladder, .engines]

theorem Answers.only_coreParts {c : Instr} {s : State} (hx : ∃ t, exec c s = .next t)
    (hf : FrO 17301505 s (exec c s)) : Answers c s (Only coreParts s) :=
  .only_of_frame hx hf (fun p => by cases p <;> decide)

/-- What a write to a core's registers may change, its refusal included. -/
abbrev coreWriteParts : List Part := [.regs, .engines, .power]

theorem Answers.only_coreWriteParts {c : Instr} {s : State} (hx : ∃ t, exec c s = .next t)
    (hf : FrO 150994945 s (exec c s)) : Answers c s (Only coreWriteParts s) :=
  .only_of_frame hx hf (fun p => by cases p <;> decide)

/-- Settles O27: each clause is a case above, the closing ones the frame of each command. -/
theorem coreStates : Obligations.CoreStates := by
  refine ⟨fun s n => ⟨rfl, rfl⟩, ?_, ?_, ?_, ?_, ?_, ?_, fun s l => execAttestKeyGenStop_some, ?_, ?_, ?_, ?_⟩
  · intro s k n u
    exact ⟨fun hn hs hu => hu ▸ State.promote_spare hn hs, State.promote_ignored⟩
  · intro s n on u
    exact ⟨fun h => ⟨execBgnHold_ignored s on h, execBgnFence_ignored s h, execBgnCoreCfgWrite_ignored (.inl h)⟩,
      fun h => ⟨execLatHold_ignored s on h, execLatFence_ignored s h⟩,
      fun h => execBgnCoreCfgWrite_ignored (.inr h), execAttestKeyGenStop_none⟩
  · intro s n on
    refine ⟨fun h => ?_, fun h => ?_, execLatHold_core s on⟩
    · rw [← State.setHold_big_low s on h]
      exact execBgnHold_core s on (by omega)
    · rw [← State.setHold_big_high s on (by omega)]
      exact execBgnHold_core s on (by omega)
  · intro s n
    refine ⟨fun h => ?_, fun h => ?_, execLatFence_core s⟩
    · rw [← State.setFence_big_low s h]
      exact execBgnFence_core s (by omega)
    · rw [← State.setFence_big_high s (by omega)]
      exact execBgnFence_core s (by omega)
  · intro s n u hn hu hu'
    have hx : exec (.bgnCoreCfgWrite n u) s = _ := execBgnCoreCfgWrite_core hn hu hu'
    exact ⟨fun ho => hx.trans (by rw [ho]; rfl), fun ho => hx.trans (by rw [ho]; rfl)⟩
  · intro s
    have hx : exec .attestKeyGenStart s = _ := execAttestKeyGenStart_eq s
    refine ⟨fun hl ho ha hr => ?_, fun h => ?_⟩
    · rw [hx, State.akeyReady_eq_true.mpr ⟨hl, ho, ha, hr⟩]
      rfl
    · rw [hx, State.akeyReady_eq_false.mpr h]
      rfl
  · intro s n
    simp only [List.forall_mem_cons, List.not_mem_nil, false_imp_iff, implies_true, and_true]
    exact ⟨.only_coreParts ⟨_, rfl⟩ (execBgnPromote_frame (Fr.refl _ s) rfl),
      .only_coreParts (execBgnFence_answers n s) (execBgnFence_frame (Fr.refl _ s) rfl),
      .only_coreParts ⟨_, rfl⟩ (execLatPromote_frame (Fr.refl _ s) rfl),
      .only_coreParts (execLatFence_answers n s) (execLatFence_frame (Fr.refl _ s) rfl)⟩
  · intro s n on
    simp only [List.forall_mem_cons, List.not_mem_nil, false_imp_iff, implies_true, and_true]
    exact ⟨.only_coreParts (execBgnHold_answers n on s) (execBgnHold_frame (Fr.refl _ s) rfl),
      .only_coreParts (execLatHold_answers n on s) (execLatHold_frame (Fr.refl _ s) rfl)⟩
  · exact fun s n u => .only_coreWriteParts (execBgnCoreCfgWrite_answers n u s)
      (execBgnCoreCfgWrite_frame (Fr.refl _ s) rfl)
  · intro s
    simp only [List.forall_mem_cons, List.not_mem_nil, false_imp_iff, implies_true, and_true]
    exact ⟨.only_coreParts ⟨_, execAttestKeyGenStart_eq s⟩ (execAttestKeyGenStart_frame (Fr.refl _ s) rfl),
      .only_coreParts (execAttestKeyGenStop_answers s) (execAttestKeyGenStop_frame (Fr.refl _ s) rfl)⟩

end Sys2Proof.Machine
end

section
/-! Operations of firmware on held cores: what starts one, what refuses it, what it computes and what its end leaves;
the cases of each command and which pieces of State it may change (R268, R271, R272, R280, R284, R294, R296). -/

namespace Sys2Proof.Machine

/-! ## Starting a big-number operation -/

/-- The big-number commands on core `n` with PARAM `p`, each with its OP (R271). -/
def bignumStarts (n p : Nat) : List (Instr × Nat) :=
  [(.modadd n p, 0x01), (.modsub n p, 0x02), (.modmul n p, 0x03), (.modexp n p, 0x04), (.modexpPub n p, 0x05),
    (.modinv n p, 0x06), (.rsaCrt n p, 0x07), (.mrRound n p, 0x08), (.ecSmul n p, 0x10), (.ecDsmul n p, 0x11),
    (.ecAdd n p, 0x12), (.ecdsaSign n p, 0x13), (.ecdsaVerify n p, 0x14), (.edSmul n p, 0x18), (.xdh n p, 0x1C)]

theorem bignumStarts_exec (n p : Nat) : ∀ q ∈ bignumStarts n p, ∀ s, exec q.1 s = .next (s.bgnStart n q.2 p) := by
  simp only [bignumStarts, List.forall_mem_cons, List.not_mem_nil, false_imp_iff, implies_true, and_true]
  exact ⟨fun _ => rfl, fun _ => rfl, fun _ => rfl, fun _ => rfl, fun _ => rfl, fun _ => rfl, fun _ => rfl, fun _ => rfl,
    fun _ => rfl, fun _ => rfl, fun _ => rfl, fun _ => rfl, fun _ => rfl, fun _ => rfl, fun _ => rfl⟩

/-- Whether every slot an operation on core `n` reads is inside operand memory (R280). -/
def State.readSlotsOk (s : State) (n op : Nat) : Bool :=
  (bgnReads op (s.get (.BGN_Cn_ARG0_A n)) (s.get (.BGN_Cn_ARG0_B n)) (s.get (.BGN_Cn_ARG1_M n))
    (s.get (.BGN_Cn_ARG2_C n))).all (· < s.slotCount n)

/-- Whether a write of CMD starts a big-number operation on core `n` (R280). -/
def State.bgnAccepts (s : State) (n op : Nat) : Bool :=
  s.coreOpen .big n && s.readSlotsOk n op && s.resultSlotOk n (s.get (.BGN_Cn_ARG1_D n)) (bgnPair op) &&
    64 ≤ s.get (.BGN_Cn_LEN_BITS n) && s.get (.BGN_Cn_LEN_BITS n) ≤ s.slotBits n

/-- Core `n` of the big cluster runs an operation (R271, R280). -/
def State.bgnBegun (s : State) (n op p : Nat) : State :=
  (((s.put (.BGN_Cn_CMD_OP n) op).put (.BGN_Cn_CMD_PARAM n) p).putBit (.BGN_Cn_STATUS_BUSY n) true).setCluster .big
    { s.engines.big with running := mset (fun _ => none) s.engines.big.running n (some (op, p)) }

section
variable {s : State} {n op p : Nat}

theorem State.bgnAccepts_eq_true : s.bgnAccepts n op = true ↔ s.coreOpen .big n = true ∧ s.readSlotsOk n op = true ∧
    s.resultSlotOk n (s.get (.BGN_Cn_ARG1_D n)) (bgnPair op) = true ∧ 64 ≤ s.get (.BGN_Cn_LEN_BITS n) ∧
    s.get (.BGN_Cn_LEN_BITS n) ≤ s.slotBits n := by
  simp [State.bgnAccepts, and_assoc]

theorem State.bgnAccepts_eq_false : s.bgnAccepts n op = false ↔ s.coreOpen .big n = false ∨
    s.readSlotsOk n op = false ∨ s.resultSlotOk n (s.get (.BGN_Cn_ARG1_D n)) (bgnPair op) = false ∨
    s.get (.BGN_Cn_LEN_BITS n) < 64 ∨ s.slotBits n < s.get (.BGN_Cn_LEN_BITS n) := by
  simp only [State.bgnAccepts, Bool.and_eq_false_iff, decide_eq_false_iff_not, Nat.not_le, or_assoc]

theorem State.bgnStart_ignored (h : 34 ≤ n) : s.bgnStart n op p = s := if_pos h

theorem State.bgnStart_core (h : n < 34) :
    s.bgnStart n op p = if s.bgnAccepts n op then s.bgnBegun n op p else s.coreErr .big n :=
  if_neg (Nat.not_le.mpr h)

end

/-! ## What a big-number operation computes (R268, R271) -/

/-- A slot of core `n` as an operation reads it, cut to LEN bits. -/
def State.operand (s : State) (n i : Nat) : Nat := s.slot n i % 2 ^ s.get (.BGN_Cn_LEN_BITS n)

/-- The operand in slot A. -/
def State.operandA (s : State) (n : Nat) : Nat := s.operand n (s.get (.BGN_Cn_ARG0_A n))

/-- The operand in slot B. -/
def State.operandB (s : State) (n : Nat) : Nat := s.operand n (s.get (.BGN_Cn_ARG0_B n))

/-- The modulus, in slot M. -/
def State.operandM (s : State) (n : Nat) : Nat := s.operand n (s.get (.BGN_Cn_ARG1_M n))

/-- The key-fed slot `i` of core `n`. -/
def State.fedSlot (s : State) (n i : Nat) : Nat := s.slot n (s.slotCount n - 8 + i)

section
variable (s : State) (n p : Nat)

theorem State.bgnResult_modadd : s.bgnResult n 0x01 p =
    if s.operandA n < s.operandM n ∧ s.operandB n < s.operandM n
      then some [(s.operandA n + s.operandB n) % s.operandM n] else none :=
  if_congr (by simp only [Bool.and_eq_true, decide_eq_true_eq]; rfl) rfl rfl

theorem State.bgnResult_modsub : s.bgnResult n 0x02 p =
    if s.operandA n < s.operandM n ∧ s.operandB n < s.operandM n
      then some [(s.operandA n + s.operandM n - s.operandB n) % s.operandM n] else none :=
  if_congr (by simp only [Bool.and_eq_true, decide_eq_true_eq]; rfl) rfl rfl

theorem State.bgnResult_modmul : s.bgnResult n 0x03 p =
    if s.operandM n % 2 = 1 ∧ s.operandA n < s.operandM n ∧ s.operandB n < s.operandM n
      then some [s.operandA n * s.operandB n % s.operandM n] else none :=
  if_congr (by simp only [Bool.and_eq_true, decide_eq_true_eq, and_assoc]; rfl) rfl rfl

theorem State.bgnResult_modexp : s.bgnResult n 0x04 p =
    if s.operandM n % 2 = 1 ∧ s.operandA n < s.operandM n
      then some [powMod (s.operandA n) (s.operandB n) (s.operandM n)] else none :=
  if_congr (by simp only [Bool.and_eq_true, decide_eq_true_eq]; rfl) rfl rfl

theorem State.bgnResult_modexpPub : s.bgnResult n 0x05 p =
    if s.operandM n % 2 = 1 ∧ s.operandA n < s.operandM n ∧ s.operandB n % 2 ^ 64 % 2 = 1 ∧ 3 ≤ s.operandB n % 2 ^ 64
      then some [powMod (s.operandA n) (s.operandB n % 2 ^ 64) (s.operandM n)] else none :=
  if_congr (by simp only [Bool.and_eq_true, decide_eq_true_eq, and_assoc]; rfl) rfl rfl

theorem State.bgnResult_modinv : s.bgnResult n 0x06 p =
    if Nat.gcd (s.operandA n) (s.operandM n) = 1 then some [modInv (s.operandA n) (s.operandM n)] else none := rfl

theorem State.bgnResult_rsaCrt : s.bgnResult n 0x07 p =
    if s.operandA n < s.operandM n then
      some [if s.fedSlot n 0 * s.fedSlot n 1 = 0 then Config.freeNat s.free % 2 ^ s.get (.BGN_Cn_LEN_BITS n)
        else rsaCrt (s.operandA n) (s.fedSlot n 0) (s.fedSlot n 1) (s.fedSlot n 2) (s.fedSlot n 3) (s.fedSlot n 4)]
    else none := rfl

theorem State.bgnResult_mrRound : s.bgnResult n 0x08 p =
    if 2 ≤ s.operandB n ∧ s.operandB n + 2 ≤ s.operandA n then
      some [if s.operandA n % 2 = 1 then b2n (millerRabin (s.operandA n) (s.operandB n)) else Config.freeNat s.free % 2]
    else none :=
  if_congr (by simp only [Bool.and_eq_true, decide_eq_true_eq]; rfl) rfl rfl

end

/-! ## BGN_FW_OP_COMPLETE -/

/-- The result slots of core `n` written with a result, or with zero where the operation rejected (R271). -/
def State.bgnWritten (s : State) (n op : Nat) (res : Option (List Nat)) : State :=
  let d := s.get (.BGN_Cn_ARG1_D n)
  let u := ({ s with free := s.free + 1 } : State).setSlot n d ((res.getD []).getD 0 0)
  if bgnPair op then u.setSlot n (d + 1) ((res.getD []).getD 1 0) else u

/-- Core `n` of the big cluster has finished: counted, and shown with its cycles and whether it rejected (R272,
R279). -/
def State.bgnFinished (s : State) (n cycles : Nat) (reject : Bool) : State :=
  let u := s.setCluster .big { s.engines.big with running := mset (fun _ => none) s.engines.big.running n none,
                                                  ops := s.engines.big.ops + 1,
                                                  rejects := s.engines.big.rejects + b2n reject }
  ((((u.putBit (.BGN_Cn_STATUS_BUSY n) false).putBit (.BGN_Cn_STATUS_DONE n) true).putBit
    (.BGN_Cn_STATUS_REJECT n) reject).put (.BGN_Cn_CYCLES_CYCLES n) cycles).coreIrq .big |>.updateCore .big n

/-- The cycles of the operation on core `n` as CYCLES shows them (R272). -/
def State.bgnCyclesOf (s : State) (n op p : Nat) : Nat :=
  bgnCycles op p (s.get (.BGN_Cn_LEN_BITS n))
    (s.slot n (s.get (.BGN_Cn_ARG0_B n)) % 2 ^ min (s.get (.BGN_Cn_LEN_BITS n)) 64) % 2 ^ 32

section
variable {s : State} {n op p : Nat}

theorem execBgnFwOpComplete_idle (h : mget (fun _ => none) s.engines.big.running n = none) :
    execBgnFwOpComplete n s = .next s := by
  simp only [execBgnFwOpComplete, h]

theorem execBgnFwOpComplete_runs (h : mget (fun _ => none) s.engines.big.running n = some (op, p)) :
    execBgnFwOpComplete n s = .next (if op > 0xFF || s.engines.big.stopped.contains n then s else
      (s.bgnWritten n op (s.bgnResult n op p)).bgnFinished n (s.bgnCyclesOf n op p) (s.bgnResult n op p).isNone) := by
  rw [execBgnFwOpComplete, h, apply_ite Host.Outcome.next]
  rfl

theorem execBgnFwOpComplete_answers (n : Nat) (s : State) : ∃ t, execBgnFwOpComplete n s = .next t := by
  cases h : mget (fun _ => none) s.engines.big.running n with
  | none => exact ⟨_, execBgnFwOpComplete_idle h⟩
  | some r => exact ⟨_, execBgnFwOpComplete_runs h⟩

theorem execBgnFwOpComplete_stopped (hs : s.engines.big.stopped.contains n = true) :
    execBgnFwOpComplete n s = .next s := by
  cases h : mget (fun _ => none) s.engines.big.running n with
  | none => exact execBgnFwOpComplete_idle h
  | some r => exact (execBgnFwOpComplete_runs h).trans (congrArg _ (if_pos (by rw [hs, Bool.or_true])))

end

/-! ## Starting a lattice operation -/

/-- The lattice commands on core `n` with PARAM `p`, each with its OP (R294). -/
def latticeStarts (n p : Nat) : List (Instr × Nat) :=
  [(.mlkemEncaps n p, 0x02), (.mldsaVerify n p, 0x0A), (.ntt n p, 0x20), (.intt n p, 0x21), (.pmul n p, 0x22),
    (.keccak n p, 0x30)]

theorem latticeStarts_exec (n p : Nat) : ∀ q ∈ latticeStarts n p, ∀ s, exec q.1 s = .next (s.latStart n q.2 p) := by
  simp only [latticeStarts, List.forall_mem_cons, List.not_mem_nil, false_imp_iff, implies_true, and_true]
  exact ⟨fun _ => rfl, fun _ => rfl, fun _ => rfl, fun _ => rfl, fun _ => rfl, fun _ => rfl⟩

/-- Octets of source, auxiliary and destination of an operation on lattice core `n` (R294). -/
def State.latLengths (s : State) (n op p : Nat) : Nat × Nat × Nat :=
  latSizes op p (s.get (.LAT_Cn_SRC_LENGTH n)) (s.get (.LAT_Cn_DST_LENGTH n)) (s.get (.LAT_Cn_AUX_LENGTH n))

/-- Whether a write of CMD starts an operation of lengths `z` on lattice core `n` (R296). -/
def State.latAccepts (s : State) (n : Nat) (z : Nat × Nat × Nat) : Bool :=
  s.coreOpen .lat n && s.get (.LAT_Cn_SRC_OFFSET n) + z.1 ≤ latWork && s.get (.LAT_Cn_AUX_OFFSET n) + z.2.1 ≤ latWork &&
    s.get (.LAT_Cn_DST_OFFSET n) + z.2.2 ≤ latWork

/-- Lattice core `n` runs an operation (R294, R296). -/
def State.latBegun (s : State) (n op p : Nat) : State :=
  (((s.put (.LAT_Cn_CMD_OP n) op).put (.LAT_Cn_CMD_PARAM n) p).putBit (.LAT_Cn_STATUS_BUSY n) true).setCluster .lat
    { s.engines.lat with running := mset (fun _ => none) s.engines.lat.running n (some (op, p)) }

section
variable {s : State} {n op p : Nat} {z : Nat × Nat × Nat}

theorem State.latAccepts_eq_true : s.latAccepts n z = true ↔ s.coreOpen .lat n = true ∧
    s.get (.LAT_Cn_SRC_OFFSET n) + z.1 ≤ latWork ∧ s.get (.LAT_Cn_AUX_OFFSET n) + z.2.1 ≤ latWork ∧
    s.get (.LAT_Cn_DST_OFFSET n) + z.2.2 ≤ latWork := by
  simp [State.latAccepts, and_assoc]

theorem State.latAccepts_eq_false : s.latAccepts n z = false ↔ s.coreOpen .lat n = false ∨
    latWork < s.get (.LAT_Cn_SRC_OFFSET n) + z.1 ∨ latWork < s.get (.LAT_Cn_AUX_OFFSET n) + z.2.1 ∨
    latWork < s.get (.LAT_Cn_DST_OFFSET n) + z.2.2 := by
  simp only [State.latAccepts, Bool.and_eq_false_iff, decide_eq_false_iff_not, Nat.not_le, or_assoc]

theorem State.latStart_ignored (h : 9 ≤ n) : s.latStart n op p = s := if_pos h

theorem State.latStart_core (h : n < 9) : s.latStart n op p =
    if s.latAccepts n (s.latLengths n op p) then s.latBegun n op p else s.coreErr .lat n :=
  if_neg (Nat.not_le.mpr h)

end

/-! ## LAT_FW_OP_COMPLETE -/

/-- The result of an operation of lengths `z` on lattice core `n`: nothing where it rejects (R294). -/
def State.latResultOf (s : State) (n op p : Nat) (z : Nat × Nat × Nat) : Option Bytes :=
  latResult op p z.2.2 (s.latBytes n (s.get (.LAT_Cn_SRC_OFFSET n)) z.1)
    (s.latBytes n (s.get (.LAT_Cn_AUX_OFFSET n)) z.2.1)

/-- The destination of lattice core `n` written with a result, or with `len` zeros where the operation rejected
(R294). -/
def State.latWritten (s : State) (n len : Nat) (res : Option Bytes) : State :=
  s.setLatBytes n (s.get (.LAT_Cn_DST_OFFSET n)) (res.getD (zeros len))

/-- Lattice core `n` has finished: counted, and shown with whether it rejected (R294, R295). -/
def State.latShown (s : State) (n : Nat) (reject : Bool) : State :=
  let u := s.setCluster .lat { s.engines.lat with running := mset (fun _ => none) s.engines.lat.running n none,
                                                  ops := s.engines.lat.ops + 1,
                                                  rejects := s.engines.lat.rejects + b2n reject }
  ((u.putBit (.LAT_Cn_STATUS_BUSY n) false).putBit (.LAT_Cn_STATUS_DONE n) true).putBit (.LAT_Cn_STATUS_REJECT n) reject

/-- The state once the operation of lengths `z` on lattice core `n` has ended (R294, R295). -/
def State.latEnded (s : State) (n op p : Nat) (z : Nat × Nat × Nat) : State :=
  let res := s.latResultOf n op p z
  ((((s.latWritten n z.2.2 res).latShown n res.isNone).put (.LAT_Cn_CYCLES_CYCLES n)
    (latCycles op p z.1 z.2.2)).coreIrq .lat).updateCore .lat n

section
variable {s : State} {n op p : Nat}

theorem execLatFwOpComplete_idle (h : mget (fun _ => none) s.engines.lat.running n = none) :
    execLatFwOpComplete n s = .next s := by
  simp only [execLatFwOpComplete, h]

theorem execLatFwOpComplete_runs (h : mget (fun _ => none) s.engines.lat.running n = some (op, p)) :
    execLatFwOpComplete n s = .next (if s.engines.lat.stopped.contains n then s else
      s.latEnded n op p (s.latLengths n op p)) := by
  rw [execLatFwOpComplete, h, apply_ite Host.Outcome.next]
  rfl

theorem execLatFwOpComplete_answers (n : Nat) (s : State) : ∃ t, execLatFwOpComplete n s = .next t := by
  cases h : mget (fun _ => none) s.engines.lat.running n with
  | none => exact ⟨_, execLatFwOpComplete_idle h⟩
  | some r => exact ⟨_, execLatFwOpComplete_runs h⟩

theorem execLatFwOpComplete_stopped (hs : s.engines.lat.stopped.contains n = true) :
    execLatFwOpComplete n s = .next s := by
  cases h : mget (fun _ => none) s.engines.lat.running n with
  | none => exact execLatFwOpComplete_idle h
  | some r => exact (execLatFwOpComplete_runs h).trans (congrArg _ (if_pos hs))

end

/-! ## The pieces of State -/

/-- A command that starts an operation changes no more than a write to a core's registers does. -/
theorem engineStarts_only (s : State) (n p : Nat) :
    ∀ c ∈ (bignumStarts n p ++ latticeStarts n p).map Prod.fst, Answers c s (Only coreWriteParts s) := by
  refine List.forall_mem_map.mpr (fun q hq => ?_)
  rcases List.mem_append.mp hq with hb | hl
  · have hx := bignumStarts_exec n p q hb s
    exact .only_coreWriteParts ⟨_, hx⟩ (hx ▸ FrO.next (State.bgnStart_frame (Fr.refl _ s) rfl))
  · have hx := latticeStarts_exec n p q hl s
    exact .only_coreWriteParts ⟨_, hx⟩ (hx ▸ FrO.next (State.latStart_frame (Fr.refl _ s) rfl))

/-- Settles O26: each clause is a case above, the closing ones the frame of each command. -/
theorem engineCommands : Obligations.EngineCommands := by
  refine ⟨?_, ?_, ?_, ?_, ?_, ?_, ?_, ?_, ?_, ?_, engineStarts_only, ?_, ?_⟩
  · intro s n p c op hc hn ho hr hd hl hb
    rw [bignumStarts_exec n p _ hc s, State.bgnStart_core hn, State.bgnAccepts_eq_true.mpr ⟨ho, hr, hd, hl, hb⟩]
    rfl
  · intro s n p c op hc hn h
    rw [bignumStarts_exec n p _ hc s, State.bgnStart_core hn, State.bgnAccepts_eq_false.mpr h]
    rfl
  · intro s n p c op hc hn
    rw [bignumStarts_exec n p _ hc s, State.bgnStart_ignored hn]
  · exact fun s n => ⟨execBgnFwOpComplete_idle, execLatFwOpComplete_idle, execBgnFwOpComplete_stopped,
      execLatFwOpComplete_stopped⟩
  · rintro s n op p _ _ _ h hop hs rfl rfl rfl
    refine (execBgnFwOpComplete_runs h).trans (congrArg _ (if_neg ?_))
    rw [decide_eq_false (Nat.not_lt.mpr hop), hs]
    exact Bool.false_ne_true
  · rintro s n p _ _ _ x _ rfl rfl rfl hx rfl
    obtain rfl : x = s.fedSlot n := funext hx
    exact ⟨State.bgnResult_modadd s n p, State.bgnResult_modsub s n p, State.bgnResult_modmul s n p,
      State.bgnResult_modexp s n p, State.bgnResult_modexpPub s n p, State.bgnResult_modinv s n p,
      State.bgnResult_rsaCrt s n p, State.bgnResult_mrRound s n p⟩
  · intro s n p c op hc hn ho z hz hr ha hd
    obtain rfl : z = s.latLengths n op p := hz
    rw [latticeStarts_exec n p _ hc s, State.latStart_core hn, State.latAccepts_eq_true.mpr ⟨ho, hr, ha, hd⟩]
    rfl
  · intro s n p c op hc hn z hz h
    obtain rfl : z = s.latLengths n op p := hz
    rw [latticeStarts_exec n p _ hc s, State.latStart_core hn, State.latAccepts_eq_false.mpr h]
    rfl
  · intro s n p c op hc hn
    rw [latticeStarts_exec n p _ hc s, State.latStart_ignored hn]
  · rintro s n op p h hs _ rfl _ rfl
    exact ⟨_, (execLatFwOpComplete_runs h).trans (congrArg _ (if_neg (by rw [hs]; exact Bool.false_ne_true))), rfl⟩
  · exact fun s n => .only_of_frame (execBgnFwOpComplete_answers n s)
      (execBgnFwOpComplete_frame (Fr.refl 151519237 s) rfl)
      (fun p => by cases p <;> decide)
  · exact fun s n => .only_of_frame (execLatFwOpComplete_answers n s)
      (execLatFwOpComplete_frame (Fr.refl 151519233 s) rfl)
      (fun p => by cases p <;> decide)

end Sys2Proof.Machine
end

section
/-! Symmetric lanes in firmware's hands: the lock, the key and the jobs a world runs on a lane of its own; the cases of
each command and which pieces of State it may change (R301, R302, R303, R305, R306, R310). -/

namespace Sys2Proof.Machine

/-! ## The world of a write -/

section
variable {s : State} {n : Nat} {w : World}

theorem State.noteForeign_eq (s : State) (n : Nat) (w : World) : s.noteForeign n w =
    if fwHolder (s.holder n) ∧ s.holder n ≠ worldCode w then s.putBit .SYM_ERR_FOREIGN true else s :=
  if_congr (by simp only [Bool.and_eq_true, bne_iff_ne]) rfl rfl

theorem State.noteForeign_firmware (hw : s.holder n ≠ worldCode w) (hf : fwHolder (s.holder n) = true) :
    s.noteForeign n w = s.putBit .SYM_ERR_FOREIGN true :=
  (s.noteForeign_eq n w).trans (if_pos ⟨hf, hw⟩)

theorem State.noteForeign_free (hf : fwHolder (s.holder n) = false) : s.noteForeign n w = s :=
  (s.noteForeign_eq n w).trans (if_neg (by simp [hf]))

theorem State.laneWrite_own (h : s.holder n = worldCode w) : s.laneWrite n w = (true, s) := if_pos h

theorem State.laneWrite_other (h : s.holder n ≠ worldCode w) : s.laneWrite n w = (false, s.noteForeign n w) := if_neg h

end

/-! ## The lock -/

/-- Whether lane `n` is the pipeline's and no code waits behind it (R302). -/
def State.mayPend (s : State) (n : Nat) : Bool :=
  1 ≤ s.holder n && s.holder n ≤ 0x400 && s.get (.SYM_Ln_LOCK_PENDING n) = 0

/-- Lane `n` released by its holder, its job stopped (R302). -/
def State.laneReleased (s : State) (n : Nat) : State :=
  (((((if (s.lane n).running then (s.putBit (.SYM_Ln_STATUS_ABORT n) true).laneIrq n else s).putBit
    (.SYM_Ln_STATUS_BUSY n) false).putBit (.SYM_Ln_STATUS_KEY_LOADED n) false).wipeLane n).setHolder n hcFree)

section
variable {s : State} {n c : Nat} {w : World}

theorem State.mayPend_iff : s.mayPend n = true ↔
    1 ≤ s.holder n ∧ s.holder n ≤ 0x400 ∧ s.get (.SYM_Ln_LOCK_PENDING n) = 0 := by
  simp [State.mayPend, and_assoc]

/-- The holder codes of the pipeline begin at 1, above that of a free lane (R301). -/
theorem State.holder_ne_free_of_mayPend (h : s.mayPend n = true) : s.holder n ≠ hcFree :=
  Nat.ne_of_gt (State.mayPend_iff.mp h).1

theorem execLaneLockAcquire_noLane (h : n > 15) : execLaneLockAcquire n c w s = .next s := if_pos h

theorem execLaneLockAcquire_otherCode (hn : n ≤ 15) (hc : c ≠ worldCode w) :
    execLaneLockAcquire n c w s = .next (s.noteForeign n w).refuseLock :=
  (if_neg (Nat.not_lt.mpr hn)).trans (if_pos (bne_iff_ne.mpr hc))

theorem execLaneLockAcquire_ownCode (hn : n ≤ 15) : execLaneLockAcquire n (worldCode w) w s =
    .next (if s.holder n = hcFree then s.setHolder n (worldCode w)
      else if s.mayPend n then s.put (.SYM_Ln_LOCK_PENDING n) (worldCode w)
      else (s.noteForeign n w).refuseLock) := by
  rw [apply_ite Host.Outcome.next, apply_ite Host.Outcome.next]
  exact (if_neg (Nat.not_lt.mpr hn)).trans (if_neg (by simp))

theorem execLaneLockRelease_noLane (h : n > 15) : execLaneLockRelease n w s = .next s := if_pos h

theorem execLaneLockRelease_own (hn : n ≤ 15) (hw : s.holder n = worldCode w) :
    execLaneLockRelease n w s = .next (s.laneReleased n) :=
  (if_neg (Nat.not_lt.mpr hn)).trans (if_pos hw)

theorem execLaneLockRelease_other (hn : n ≤ 15) (hw : s.holder n ≠ worldCode w) : execLaneLockRelease n w s =
    .next (if s.get (.SYM_Ln_LOCK_PENDING n) = worldCode w then s.put (.SYM_Ln_LOCK_PENDING n) 0
      else s.noteForeign n w) := by
  rw [apply_ite Host.Outcome.next]
  exact (if_neg (Nat.not_lt.mpr hn)).trans (if_neg hw)

end

theorem execLaneLockAcquire_answers (n c : Nat) (w : World) (s : State) :
    ∃ t, execLaneLockAcquire n c w s = .next t := by
  rcases Nat.lt_or_ge 15 n with hn | hn
  · exact ⟨_, execLaneLockAcquire_noLane hn⟩
  · by_cases hc : c = worldCode w
    · exact hc ▸ ⟨_, execLaneLockAcquire_ownCode hn⟩
    · exact ⟨_, execLaneLockAcquire_otherCode hn hc⟩

theorem execLaneLockRelease_answers (n : Nat) (w : World) (s : State) : ∃ t, execLaneLockRelease n w s = .next t := by
  rcases Nat.lt_or_ge 15 n with hn | hn
  · exact ⟨_, execLaneLockRelease_noLane hn⟩
  · by_cases hw : s.holder n = worldCode w
    · exact ⟨_, execLaneLockRelease_own hn hw⟩
    · exact ⟨_, execLaneLockRelease_other hn hw⟩

/-! ## The key -/

section
variable {s : State} {n : Nat} {w : World}

theorem execLaneKeyClear_noLane (h : n > 15) : execLaneKeyClear n w s = .next s := if_pos h

theorem execLaneKeyClear_own (hn : n ≤ 15) (hw : s.holder n = worldCode w) : execLaneKeyClear n w s =
    .next ((s.setLane n { s.lane n with key := [], loaded := false }).putBit (.SYM_Ln_STATUS_KEY_LOADED n) false) := by
  rw [execLaneKeyClear, if_neg (Nat.not_lt.mpr hn), State.laneWrite_own hw]
  rfl

theorem execLaneKeyClear_other (hn : n ≤ 15) (hw : s.holder n ≠ worldCode w) :
    execLaneKeyClear n w s = .next (s.noteForeign n w) := by
  rw [execLaneKeyClear, if_neg (Nat.not_lt.mpr hn), State.laneWrite_other hw]
  rfl

end

theorem execLaneKeyClear_answers (n : Nat) (w : World) (s : State) : ∃ t, execLaneKeyClear n w s = .next t := by
  rcases Nat.lt_or_ge 15 n with hn | hn
  · exact ⟨_, execLaneKeyClear_noLane hn⟩
  · by_cases hw : s.holder n = worldCode w
    · exact ⟨_, execLaneKeyClear_own hn hw⟩
    · exact ⟨_, execLaneKeyClear_other hn hw⟩

/-! ## The start of a firmware job -/

/-- Whether a job may start on lane `n` when it is idle (R303, R306, R310). -/
def State.laneReady (s : State) (n : Nat) : Bool :=
  ((s.lane n).loaded || (s.laneParams n).mode == 0x0C) && s.laneLimits n && !s.halted && !s.zeroised &&
    s.gateOn (2 + n / 8)

/-- A job of firmware runs on lane `n` (R305). -/
def State.laneBegun (s : State) (n : Nat) : State :=
  (s.setLane n { s.lane n with running := true }).putBit (.SYM_Ln_STATUS_BUSY n) true

section
variable {s : State} {n : Nat} {w : World}

theorem State.laneReady_eq_true : s.laneReady n = true ↔ ((s.lane n).loaded = true ∨ (s.laneParams n).mode = 0x0C) ∧
    s.laneLimits n = true ∧ s.halted = false ∧ s.zeroised = false ∧ s.gateOn (2 + n / 8) = true := by
  simp [State.laneReady, and_assoc]

theorem State.laneReady_eq_false : s.laneReady n = false ↔
    ((s.lane n).loaded = false ∧ (s.laneParams n).mode ≠ 0x0C) ∨ s.laneLimits n = false ∨ s.halted = true ∨
      s.zeroised = true ∨ s.gateOn (2 + n / 8) = false := by
  simp only [State.laneReady, Bool.and_eq_false_iff, Bool.or_eq_false_iff, beq_eq_false_iff_ne, Bool.not_eq_false',
    or_assoc, ne_eq]

theorem execLaneFwJobStart_noLane (h : n > 15) : execLaneFwJobStart n w s = .next s := if_pos h

theorem execLaneFwJobStart_other (hn : n ≤ 15) (hw : s.holder n ≠ worldCode w) :
    execLaneFwJobStart n w s = .next (s.noteForeign n w) := by
  rw [execLaneFwJobStart, if_neg (Nat.not_lt.mpr hn), State.laneWrite_other hw]
  rfl

theorem execLaneFwJobStart_running (hn : n ≤ 15) (hw : s.holder n = worldCode w) (hr : (s.lane n).running = true) :
    execLaneFwJobStart n w s = .next ((s.putBit (.SYM_Ln_STATUS_ERR n) true).laneIrq n) := by
  rw [execLaneFwJobStart, if_neg (Nat.not_lt.mpr hn), State.laneWrite_own hw]
  exact if_pos hr

theorem execLaneFwJobStart_idle (hn : n ≤ 15) (hw : s.holder n = worldCode w) (hr : (s.lane n).running = false) :
    execLaneFwJobStart n w s = .next (if s.laneReady n then s.laneBegun n else s.laneErr n) := by
  rw [execLaneFwJobStart, if_neg (Nat.not_lt.mpr hn), State.laneWrite_own hw]
  simp only [hr, Bool.not_true, Bool.false_eq_true, if_false]
  cases h : s.laneReady n with
  | true => exact if_neg (by simpa [and_assoc, or_iff_not_imp_left] using State.laneReady_eq_true.mp h)
  | false => exact if_pos (by simpa [or_assoc] using State.laneReady_eq_false.mp h)

end

theorem execLaneFwJobStart_answers (n : Nat) (w : World) (s : State) : ∃ t, execLaneFwJobStart n w s = .next t := by
  rcases Nat.lt_or_ge 15 n with hn | hn
  · exact ⟨_, execLaneFwJobStart_noLane hn⟩
  · by_cases hw : s.holder n = worldCode w
    · cases hr : (s.lane n).running with
      | true => exact ⟨_, execLaneFwJobStart_running hn hw hr⟩
      | false => exact ⟨_, execLaneFwJobStart_idle hn hw hr⟩
    · exact ⟨_, execLaneFwJobStart_other hn hw⟩

/-! ## The end of a firmware job -/

/-- Whether a job of firmware goes on at lane `n` (R305). -/
def State.fwJobRuns (s : State) (n : Nat) : Bool :=
  decide (n ≤ 15) && (s.lane n).running && fwHolder (s.holder n) && !s.halted

/-- The master a firmware job of lane `n` accesses memory as: its holder's world (R305). -/
def State.laneAgent (s : State) (n : Nat) : Nat := if s.holder n = hcSecure then agDeviceS else agDeviceN

/-- Where a firmware job of lane `n` reads. -/
def State.laneSrc (s : State) (n : Nat) : Nat := s.get64 (.SYM_Ln_SRC_LO_ADDR n) (.SYM_Ln_SRC_HI_ADDR n)

/-- Where a firmware job of lane `n` writes. -/
def State.laneDst (s : State) (n : Nat) : Nat := s.get64 (.SYM_Ln_DST_LO_ADDR n) (.SYM_Ln_DST_HI_ADDR n)

/-- Octets a firmware job of lane `n` reads: its AAD and its data. -/
def State.laneInLen (s : State) (n : Nat) : Nat := s.get (.SYM_Ln_AAD_LEN_BYTES n) + s.get (.SYM_Ln_LEN_BYTES n)

/-- The check of the source's access; a job that reads no octet makes none. -/
def State.laneFetch (s : State) (n : Nat) : Bool × State :=
  if s.laneInLen n = 0 then (true, s) else s.checkAccess (s.laneAgent n) akRead (s.laneSrc n) (s.laneInLen n)

/-- What the job of lane `n` computes, in state `u` after the source's access (R305). -/
def State.laneResult (s u : State) (n : Nat) : Bytes × Bool :=
  fwLaneJob (s.laneParams n) ((s.lane n).key.take (u.get (.SYM_Ln_KEYLEN_BYTES n)))
    (u.windowBytes (.SYM_Ln_IV_WORD n) 4) ((u.windowBytes (.SYM_Ln_TAG_WORD n) 4).take (s.laneParams n).tagLen)
    ((u.load (s.laneSrc n) (s.laneInLen n)).take (s.get (.SYM_Ln_AAD_LEN_BYTES n)))
    ((u.load (s.laneSrc n) (s.laneInLen n)).drop (s.get (.SYM_Ln_AAD_LEN_BYTES n)))

/-- The octets a result puts out: none where its check failed (R305). -/
def shownOutput (r : Bytes × Bool) : Bytes := if r.2 then r.1 else []

/-- State `u` with the cycles of the job of lane `n`. -/
def State.laneTimed (s u : State) (n : Nat) : State :=
  u.put (.SYM_Ln_CYCLES_CYCLES n) (laneNs (s.laneParams n).mode (s.laneParams n).hash (s.laneInLen n)
    (wrappedLen (s.laneParams n).mode (s.laneParams n).dec (s.laneInLen n)))

/-- The check of the access that writes `out`, made in state `v`; an empty output makes none. -/
def State.laneDeliver (s v : State) (n : Nat) (out : Bytes) : Bool × State :=
  if out.isEmpty then (true, v) else v.checkAccess (s.laneAgent n) akWrite (s.laneDst n) out.length

/-- State `x` with the output written and the lane idle (R305). -/
def State.laneStored (s x : State) (n : Nat) (out : Bytes) : State :=
  ((x.store' (s.laneDst n) out).setLane n { s.lane n with running := false, buffer := [] }).putBit
    (.SYM_Ln_STATUS_BUSY n) false

/-- Lane `n` shows how its job ended (R305, R310). -/
def State.laneShown (s : State) (n : Nat) (good : Bool) : State :=
  (if good then s.putBit (.SYM_Ln_STATUS_DONE n) true
    else (s.putBit (.SYM_Ln_STATUS_TAG_FAIL n) true).putBit (.SYM_Ln_STATUS_DONE n) true).laneIrq n

/-- What a completion leaves that found its source readable, in state `u`, with result `r` (R305, R306). -/
def State.laneConcluded (s u : State) (n : Nat) (r : Bytes × Bool) : State :=
  let d := s.laneDeliver (s.laneTimed u n) n (shownOutput r)
  if !d.1 then d.2.laneErr n else (s.laneStored d.2 n (shownOutput r)).laneShown n r.2

section
variable {s : State} {n : Nat}

theorem State.fwJobRuns_eq_true : s.fwJobRuns n = true ↔
    n ≤ 15 ∧ (s.lane n).running = true ∧ fwHolder (s.holder n) = true ∧ s.halted = false := by
  simp [State.fwJobRuns, and_assoc]

theorem State.fwJobRuns_eq_false : s.fwJobRuns n = false ↔
    n > 15 ∨ (s.lane n).running = false ∨ fwHolder (s.holder n) = false ∨ s.halted = true := by
  simp only [State.fwJobRuns, Bool.and_eq_false_iff, decide_eq_false_iff_not, Nat.not_le, Bool.not_eq_false',
    or_assoc, gt_iff_lt]

theorem execLaneFwJobComplete_idle (h : s.fwJobRuns n = false) : execLaneFwJobComplete n s = .next s :=
  if_pos (by simpa [or_assoc] using State.fwJobRuns_eq_false.mp h)

theorem execLaneFwJobComplete_runs (h : s.fwJobRuns n = true) : execLaneFwJobComplete n s =
    .next (if !(s.laneFetch n).1 then (s.laneFetch n).2.laneErr n
      else s.laneConcluded (s.laneFetch n).2 n (s.laneResult (s.laneFetch n).2 n)) := by
  simp only [State.laneConcluded]
  rw [apply_ite Host.Outcome.next, apply_ite Host.Outcome.next]
  exact if_neg (by simpa [and_assoc] using State.fwJobRuns_eq_true.mp h)

variable {u x : State} {r : Bytes × Bool}

theorem execLaneFwJobComplete_unread (h : s.fwJobRuns n = true) (hu : s.laneFetch n = (false, u)) :
    execLaneFwJobComplete n s = .next (u.laneErr n) := by
  rw [execLaneFwJobComplete_runs h, hu]
  rfl

theorem execLaneFwJobComplete_read (h : s.fwJobRuns n = true) (hu : s.laneFetch n = (true, u)) :
    execLaneFwJobComplete n s = .next (s.laneConcluded u n (s.laneResult u n)) := by
  rw [execLaneFwJobComplete_runs h, hu]
  rfl

theorem State.laneConcluded_unwritten (h : s.laneDeliver (s.laneTimed u n) n (shownOutput r) = (false, x)) :
    s.laneConcluded u n r = x.laneErr n := by
  rw [State.laneConcluded, h]
  rfl

theorem State.laneConcluded_written (h : s.laneDeliver (s.laneTimed u n) n (shownOutput r) = (true, x)) :
    s.laneConcluded u n r = (s.laneStored x n (shownOutput r)).laneShown n r.2 := by
  rw [State.laneConcluded, h]
  rfl

end

theorem execLaneFwJobComplete_answers (n : Nat) (s : State) : ∃ t, execLaneFwJobComplete n s = .next t := by
  cases h : s.fwJobRuns n with
  | false => exact ⟨_, execLaneFwJobComplete_idle h⟩
  | true => exact ⟨_, execLaneFwJobComplete_runs h⟩

/-! ## The pieces of State -/

/-- Settles O31: each clause is a case above, the closing ones the frame of each command. -/
theorem laneWork : Obligations.LaneWork := by
  refine ⟨?_, ?_, ?_, ?_, ?_, ?_, ?_, ?_, ?_, ?_, ?_, ?_, ?_, ?_⟩
  · exact fun s n w hn hf => (execLaneLockAcquire_ownCode hn).trans (congrArg _ (if_pos hf))
  · intro s n w hn h1 h2 hp
    have hm := State.mayPend_iff.mpr ⟨h1, h2, hp⟩
    exact (execLaneLockAcquire_ownCode hn).trans
      (congrArg _ ((if_neg (State.holder_ne_free_of_mayPend hm)).trans (if_pos hm)))
  · intro s n w c hn h
    rw [← State.noteForeign_eq]
    by_cases hc : c = worldCode w
    · subst hc
      obtain ⟨hf, hp⟩ := h.resolve_left (fun hne => hne rfl)
      have hm : ¬ s.mayPend n = true := by
        rw [State.mayPend_iff]
        omega
      exact (execLaneLockAcquire_ownCode hn).trans (congrArg _ ((if_neg hf).trans (if_neg hm)))
    · exact execLaneLockAcquire_otherCode hn hc
  · exact fun s n w hn hw => execLaneLockRelease_own hn hw
  · intro s n w hn hw
    rw [← State.noteForeign_eq]
    exact ⟨fun hp => (execLaneLockRelease_other hn hw).trans (congrArg _ (if_pos hp)),
      fun hp => (execLaneLockRelease_other hn hw).trans (congrArg _ (if_neg hp))⟩
  · exact fun s n w hn => ⟨execLaneKeyClear_own hn,
      fun hw hf => (execLaneKeyClear_other hn hw).trans (congrArg _ (State.noteForeign_firmware hw hf)),
      fun hw hf => (execLaneKeyClear_other hn hw).trans (congrArg _ (State.noteForeign_free hf))⟩
  · exact fun s n c w hn => ⟨execLaneLockAcquire_noLane hn, execLaneLockRelease_noLane hn, execLaneKeyClear_noLane hn,
      execLaneFwJobStart_noLane hn, execLaneFwJobComplete_idle (State.fwJobRuns_eq_false.mpr (.inl hn))⟩
  · intro s n w hn hw
    refine ⟨execLaneFwJobStart_running hn hw, fun ⟨hr, h⟩ => ?_, fun hr hk hl hh hz hg => ?_⟩
    · exact (execLaneFwJobStart_idle hn hw hr).trans
        (congrArg _ (if_neg (Bool.eq_false_iff.mp (State.laneReady_eq_false.mpr h))))
    · exact (execLaneFwJobStart_idle hn hw hr).trans
        (congrArg _ (if_pos (State.laneReady_eq_true.mpr ⟨hk, hl, hh, hz, hg⟩)))
  · intro s n
    refine ⟨fun hn w hw => ?_, fun h => execLaneFwJobComplete_idle (State.fwJobRuns_eq_false.mpr (.inr h))⟩
    rw [← State.noteForeign_eq]
    exact execLaneFwJobStart_other hn hw
  · rintro s n _ _ _ _ o1 u hn hr hf hh rfl rfl rfl rfl hu
    have h := State.fwJobRuns_eq_true.mpr ⟨hn, hr, hf, hh⟩
    refine ⟨?_, ?_⟩
    · rintro rfl
      exact execLaneFwJobComplete_unread h hu
    · rintro o g _ o2 x rfl hres rfl hx
      have he : execLaneFwJobComplete n s = .next (s.laneConcluded u n (o, g)) :=
        (execLaneFwJobComplete_read h hu).trans (congrArg _ (congrArg _ hres))
      refine ⟨?_, ?_, ?_⟩
      · rintro rfl
        exact he.trans (congrArg _ (State.laneConcluded_unwritten hx))
      · rintro rfl rfl
        exact he.trans (congrArg _ (State.laneConcluded_written hx))
      · rintro rfl rfl
        exact he.trans (congrArg _ (State.laneConcluded_written hx))
  · exact fun s n c w => .only_of_frame (execLaneLockAcquire_answers n c w s)
      (execLaneLockAcquire_frame (Fr.refl 1 s) rfl) (fun p => by cases p <;> decide)
  · intro s n w
    simp only [List.forall_mem_cons, List.not_mem_nil, false_imp_iff, implies_true, and_true]
    exact ⟨.only_coreWriteParts (execLaneLockRelease_answers n w s) (execLaneLockRelease_frame (Fr.refl _ s) rfl),
      .only_coreWriteParts (execLaneFwJobStart_answers n w s) (execLaneFwJobStart_frame (Fr.refl _ s) rfl)⟩
  · exact fun s n w => .only_of_frame (execLaneKeyClear_answers n w s)
      (execLaneKeyClear_frame (Fr.refl 16777217 s) rfl) (fun p => by cases p <;> decide)
  · exact fun s n => .only_of_frame (execLaneFwJobComplete_answers n s)
      (execLaneFwJobComplete_frame (Fr.refl 151265283 s) rfl) (fun p => by cases p <;> decide)

end Sys2Proof.Machine
end
section
/-! Every command answers: each of the 302 commands goes on to a next state and leaves the queue and the form of memory
as they are, so a run never stops. The pieces a command may change follow from its frame lemma. -/

namespace Sys2Proof.Machine

/-! ## Going on to a next state -/

/-- An answer that is a next state. -/
def GoesOn (o : Host.Outcome State Fault Refusal) : Prop := ∃ t, o = .next t

theorem GoesOn.next {t : State} : GoesOn (.next t) := ⟨t, rfl⟩

theorem GoesOn.ite {c : Prop} [Decidable c] {a b : Host.Outcome State Fault Refusal} (ha : GoesOn a) (hb : GoesOn b) :
    GoesOn (if c then a else b) := by
  by_cases h : c
  · rwa [if_pos h]
  · rwa [if_neg h]

/-! ## The commands that look something up first -/

theorem execCmdTimeoutExpiry_answers (id : Nat) (s : State) : GoesOn (execCmdTimeoutExpiry id s) := by
  unfold execCmdTimeoutExpiry
  cases s.job id with
  | none => exact .next
  | some j => exact .ite .next .next

theorem execSlpWakeEdge_answers (b : BootInputs) (s : State) : GoesOn (execSlpWakeEdge b s) := by
  unfold execSlpWakeEdge
  cases s.power.mode with
  | held => exact .ite .next .next
  | active | nap | leavingNap | enteringSleep | sleep | off => exact .next

theorem execAttestKeyGenComplete_answers (s : State) : GoesOn (execAttestKeyGenComplete s) := by
  unfold execAttestKeyGenComplete
  cases s.engines.akey <;> exact .next

theorem execDrbgGenerate_answers (l : List Nat) (s : State) : GoesOn (execDrbgGenerate l s) := by
  unfold execDrbgGenerate
  rcases s.freeDrbg l with _ | d
  · exact .next
  rcases s.pick .rng with _ | ⟨id, u⟩
  · exact .next
  dsimp only
  cases u.job id with
  | none => exact .next
  | some j => exact .ite .next (.ite .next .next)

theorem execPortRefill_answers (sec : Bool) (l : List Nat) (s : State) : GoesOn (execPortRefill sec l s) := by
  unfold execPortRefill
  cases s.freeDrbg l with
  | none => exact .next
  | some d => exact .ite .next (.ite .next .next)

theorem execFwStorageKeyRequest_answers (l : Bool) (v x n : Nat) (s : State) : GoesOn (execFwStorageKeyRequest l v x n s) := by
  refine .ite .next (.ite .next ?_)
  split
  · exact .next
  · exact .next

theorem execFwStorageKeyDone_answers (s : State) : GoesOn (execFwStorageKeyDone s) := by
  unfold execFwStorageKeyDone
  rcases s.ladder.fwRequest with _ | ⟨n, k⟩
  · exact .next
  · exact .ite .next .next

theorem execCardSignatureVerified_answers (p : Nat) (s : State) : GoesOn (execCardSignatureVerified p s) := by
  unfold execCardSignatureVerified
  dsimp only
  cases (s.port p).sig with
  | none => exact .next
  | some g => exact .ite .next (.ite .next .next)

theorem execZeroiseArmExpiry_answers (s : State) : GoesOn (execZeroiseArmExpiry s) := by
  unfold execZeroiseArmExpiry
  cases s.officers.zeroiseArm with
  | none => exact .next
  | some t => exact .ite .next .next

theorem execL2WayFlushComplete_answers (s : State) : GoesOn (execL2WayFlushComplete s) := by
  unfold execL2WayFlushComplete
  cases s.worlds.l2Mask <;> exact .next

theorem execOtpProgramComplete_answers (s : State) : GoesOn (execOtpProgramComplete s) := by
  unfold execOtpProgramComplete
  rcases s.lcs.programming with _ | ⟨w, _ | n⟩ <;> exact .next

theorem execRecoveryGo_answers (r : Bool) (s : State) : GoesOn (execRecoveryGo r s) := by
  refine .ite .next ?_
  dsimp only
  split <;> exact .next

theorem execPorNAssert_answers (s : State) : GoesOn (execPorNAssert s) := .ite .next .next

theorem execSysRstNAssert_answers (s : State) : GoesOn (execSysRstNAssert s) := .ite .next .next

theorem execMgpFrameSent_answers (s : State) : GoesOn (execMgpFrameSent s) := by
  unfold execMgpFrameSent
  cases s.mgp.tx with
  | none => exact .next
  | some f => exact .ite .next .next

theorem execPwrLockWrite_answers (n : Nat) (s : State) : GoesOn (execPwrLockWrite n s) := by
  unfold execPwrLockWrite
  dsimp only
  rcases (s.put .PWR_LOCK_LOCK n).worlds.deferred with _ | ⟨b, a⟩
  · exact .next
  · exact .ite .next .next

theorem execPwrDeferCancel_answers (s : State) : GoesOn (execPwrDeferCancel s) := by
  unfold execPwrDeferCancel
  cases s.worlds.deferred <;> exact .next

theorem execGateTransitionComplete_answers (b : Nat) (s : State) : GoesOn (execGateTransitionComplete b s) := by
  unfold execGateTransitionComplete
  cases mget (fun _ => none) s.power.changing b <;> exact .next

theorem execPolishSlot_answers (l : Bool) (s : State) : GoesOn (execPolishSlot l s) := by
  refine .ite .next ?_
  cases s.polPick (clusterOf l) <;> exact .next

theorem execPolishSequenceEnd_answers (l : Bool) (f : Option Nat) (s : State) : GoesOn (execPolishSequenceEnd l f s) := by
  refine .ite .next ?_
  cases f <;> exact .next

theorem execClientHello_answers (p : Bytes) (s : State) : GoesOn (execClientHello p s) := by
  refine .ite .next ?_
  cases (List.range s.maxSessions).find? (fun n => (s.session n).st == 0) <;> exact .next

theorem execDtlsHandshakeComplete_answers (n : Nat) (c : Bytes) (s : State) : GoesOn (execDtlsHandshakeComplete n c s) := by
  refine .ite .next ?_
  cases s.sessionsOpen && s.datesOk c with
  | false => exact .next
  | true => cases s.issuers c <;> exact .next

theorem execWfi_answers (k : Nat) (s : State) : GoesOn (execWfi k s) := by
  refine .ite .next ?_
  cases mget (fun _ => none) s.power.orders (k + 7) with
  | none => exact .next
  | some g => exact .ite .next .next

/-! ## Every command -/

/-- All pieces of State but the queue. -/
def allButQueue : Nat := 2 ^ 31 - 1

/-- What every command does: it goes on to a next state, and touches neither the queue nor the form of memory. -/
theorem exec_goesOn_keeping : ∀ (c : Instr) (s : State), GoesOn (exec c s) ∧ FrO allButQueue s (exec c s)
  | .perstNAssert, _ => ⟨.next, execPerstNAssert_frame (Fr.refl _ _) rfl⟩
  | .functionLevelReset, _ => ⟨.next, execFunctionLevelReset_frame (Fr.refl _ _) rfl⟩
  | .busMasterEnableClear, _ => ⟨.next, execBusMasterEnableClear_frame (Fr.refl _ _) rfl⟩
  | .busMasterEnableSet pasidEn cfg, s =>
    ⟨execBusMasterEnableSet_answers pasidEn cfg s, execBusMasterEnableSet_frame (Fr.refl _ _) rfl⟩
  | .dmaReadComplete target r, s =>
    ⟨execDmaReadComplete_answers target r s, execDmaReadComplete_frame (Fr.refl _ _) rfl⟩
  | .adminMailboxEnable depthLog2, s =>
    ⟨execAdminMailboxEnable_answers depthLog2 s, execAdminMailboxEnable_frame (Fr.refl _ _) rfl⟩
  | .adminMailboxDisable, _ => ⟨.ite .next .next, execAdminMailboxDisable_frame (Fr.refl _ _) rfl⟩
  | .adminSqTailWrite tail, s => ⟨execAdminSqTailWrite_answers tail s, execAdminSqTailWrite_frame (Fr.refl _ _) rfl⟩
  | .odRead entry, s => ⟨execOdRead_answers entry s, execOdRead_frame (Fr.refl _ _) rfl⟩
  | .odWrite entry value items, s => ⟨execOdWrite_answers entry value items s, execOdWrite_frame (Fr.refl _ _) rfl⟩
  | .msixVectorUnmask vector, s => ⟨execMsixVectorUnmask_answers vector s, execMsixVectorUnmask_frame (Fr.refl _ _) rfl⟩
  | .sqTailWrite inst tail, s => ⟨execSqTailWrite_answers inst tail s, execSqTailWrite_frame (Fr.refl _ _) rfl⟩
  | .cqHeadWrite inst head, s => ⟨execCqHeadWrite_answers inst head s, execCqHeadWrite_frame (Fr.refl _ _) rfl⟩
  | .submissionFetch, s => ⟨execSubmissionFetch_answers s, execSubmissionFetch_frame (Fr.refl _ _) rfl⟩
  | .instanceOwnerWrite _ _ _, _ => ⟨.next, execInstanceOwnerWrite_frame (Fr.refl _ _) rfl⟩
  | .instanceEnable _ _, _ => ⟨.next, execInstanceEnable_frame (Fr.refl _ _) rfl⟩
  | .instanceReset _ _, _ => ⟨.next, execInstanceReset_frame (Fr.refl _ _) rfl⟩
  | .instanceDrainComplete inst, s =>
    ⟨execInstanceDrainComplete_answers inst s, execInstanceDrainComplete_frame (Fr.refl _ _) rfl⟩
  | .cmdTimeoutExpiry job, s => ⟨execCmdTimeoutExpiry_answers job s, execCmdTimeoutExpiry_frame (Fr.refl _ _) rfl⟩
  | .rateBucketAdmit job, s => ⟨execRateBucketAdmit_answers job s, execRateBucketAdmit_frame (Fr.refl _ _) rfl⟩
  | .waitLimitExpiry job, s => ⟨execWaitLimitExpiry_answers job s, execWaitLimitExpiry_frame (Fr.refl _ _) rfl⟩
  | .locketAdmission, s => ⟨execLocketAdmission_answers s, execLocketAdmission_frame (Fr.refl _ _) rfl⟩
  | .directoryLookupComplete job, s =>
    ⟨execDirectoryLookupComplete_answers job s, execDirectoryLookupComplete_frame (Fr.refl _ _) rfl⟩
  | .objectUnsealComplete job tagOk, s =>
    ⟨execObjectUnsealComplete_answers job tagOk s, execObjectUnsealComplete_frame (Fr.refl _ _) rfl⟩
  | .engineStart cls badSetting shareable, s =>
    ⟨execEngineStart_answers cls badSetting shareable s, execEngineStart_frame (Fr.refl _ _) rfl⟩
  | .engineWorkEnd job stallNs, s =>
    ⟨execEngineWorkEnd_answers job stallNs s, execEngineWorkEnd_frame (Fr.refl _ _) rfl⟩
  | .policyHwDecision job, s => ⟨execPolicyHwDecision_answers job s, execPolicyHwDecision_frame (Fr.refl _ _) rfl⟩
  | .policyRequestPost job, s => ⟨execPolicyRequestPost_answers job s, execPolicyRequestPost_frame (Fr.refl _ _) rfl⟩
  | .policyPermit _ _, _ => ⟨.ite .next .next, execPolicyPermit_frame (Fr.refl _ _) rfl⟩
  | .policyDeny _ _, _ => ⟨.ite .next .next, execPolicyDeny_frame (Fr.refl _ _) rfl⟩
  | .policyDecisionTimeout job, s =>
    ⟨execPolicyDecisionTimeout_answers job s, execPolicyDecisionTimeout_frame (Fr.refl _ _) rfl⟩
  | .usageBlockCreate handle, s => ⟨execUsageBlockCreate_answers handle s, execUsageBlockCreate_frame (Fr.refl _ _) rfl⟩
  | .approvalWaitExpiry job, s => ⟨execApprovalWaitExpiry_answers job s, execApprovalWaitExpiry_frame (Fr.refl _ _) rfl⟩
  | .laneDeadlineExpiry job stallNs, s =>
    ⟨execLaneDeadlineExpiry_answers job stallNs s, execLaneDeadlineExpiry_frame (Fr.refl _ _) rfl⟩
  | .resultRelease job, s => ⟨execResultRelease_answers job s, execResultRelease_frame (Fr.refl _ _) rfl⟩
  | .locketPeakClear, _ => ⟨.next, execLocketPeakClear_frame (Fr.refl _ _) rfl⟩
  | .keyGenerate _, _ => ⟨.next, execKeyGenerate_frame (Fr.refl _ _) rfl⟩
  | .keyImport _, _ => ⟨.next, execKeyImport_frame (Fr.refl _ _) rfl⟩
  | .keyDerive job, s => ⟨execKeyDerive_answers job s, execKeyDerive_frame (Fr.refl _ _) rfl⟩
  | .keyDestroy _, _ => ⟨.next, execKeyDestroy_frame (Fr.refl _ _) rfl⟩
  | .keySetPolicy _, _ => ⟨.next, execKeySetPolicy_frame (Fr.refl _ _) rfl⟩
  | .keyExportWrapped _, _ => ⟨.next, execKeyExportWrapped_frame (Fr.refl _ _) rfl⟩
  | .keyDescribe _, _ => ⟨.next, execKeyDescribe_frame (Fr.refl _ _) rfl⟩
  | .sign _, _ => ⟨.next, execSign_frame (Fr.refl _ _) rfl⟩
  | .verify _, _ => ⟨.next, execVerify_frame (Fr.refl _ _) rfl⟩
  | .asymDecrypt _, _ => ⟨.next, execAsymDecrypt_frame (Fr.refl _ _) rfl⟩
  | .asymEncrypt _, _ => ⟨.next, execAsymEncrypt_frame (Fr.refl _ _) rfl⟩
  | .agree _, _ => ⟨.next, execAgree_frame (Fr.refl _ _) rfl⟩
  | .encaps _, _ => ⟨.next, execEncaps_frame (Fr.refl _ _) rfl⟩
  | .decaps _, _ => ⟨.next, execDecaps_frame (Fr.refl _ _) rfl⟩
  | .aeadSeal _, _ => ⟨.next, execAeadSeal_frame (Fr.refl _ _) rfl⟩
  | .aeadOpen _, _ => ⟨.next, execAeadOpen_frame (Fr.refl _ _) rfl⟩
  | .cipher _, _ => ⟨.next, execCipher_frame (Fr.refl _ _) rfl⟩
  | .mac _, _ => ⟨.next, execMac_frame (Fr.refl _ _) rfl⟩
  | .wrap _, _ => ⟨.next, execWrap_frame (Fr.refl _ _) rfl⟩
  | .unwrap _, _ => ⟨.next, execUnwrap_frame (Fr.refl _ _) rfl⟩
  | .random _, _ => ⟨.next, execRandom_frame (Fr.refl _ _) rfl⟩
  | .hash _, _ => ⟨.next, execHash_frame (Fr.refl _ _) rfl⟩
  | .ownerApprove _, _ => ⟨.next, execOwnerApprove_frame (Fr.refl _ _) rfl⟩
  | .counterRead _, _ => ⟨.next, execCounterRead_frame (Fr.refl _ _) rfl⟩
  | .attestQuote _, _ => ⟨.next, execAttestQuote_frame (Fr.refl _ _) rfl⟩
  | .tickIncrement, _ => ⟨.ite .next (.ite .next .next), execTickIncrement_frame (Fr.refl _ _) rfl⟩
  | .beadSeal, s => ⟨execBeadSeal_answers s, execBeadSeal_frame (Fr.refl _ _) rfl⟩
  | .overlayRecordApply, s => ⟨execOverlayRecordApply_answers s, execOverlayRecordApply_frame (Fr.refl _ _) rfl⟩
  | .meterRecordWrite, s => ⟨execMeterRecordWrite_answers s, execMeterRecordWrite_frame (Fr.refl _ _) rfl⟩
  | .meterRingEnable depthLog2, s =>
    ⟨execMeterRingEnable_answers depthLog2 s, execMeterRingEnable_frame (Fr.refl _ _) rfl⟩
  | .meterRingDisable, _ => ⟨.next, execMeterRingDisable_frame (Fr.refl _ _) rfl⟩
  | .meterHeadWrite _, _ => ⟨.ite .next .next, execMeterHeadWrite_frame (Fr.refl _ _) rfl⟩
  | .journalItemWrite, s => ⟨execJournalItemWrite_answers s, execJournalItemWrite_frame (Fr.refl _ _) rfl⟩
  | .journalExportEnable sizeLog2, s =>
    ⟨execJournalExportEnable_answers sizeLog2 s, execJournalExportEnable_frame (Fr.refl _ _) rfl⟩
  | .journalExportDisable, _ => ⟨.next, execJournalExportDisable_frame (Fr.refl _ _) rfl⟩
  | .journalConsumedWrite _, _ => ⟨.ite .next .next, execJournalConsumedWrite_frame (Fr.refl _ _) rfl⟩
  | .journalDurableWrite bead, s =>
    ⟨execJournalDurableWrite_answers bead s, execJournalDurableWrite_frame (Fr.refl _ _) rfl⟩
  | .claspWrite gen, s => ⟨execClaspWrite_answers gen s, execClaspWrite_frame (Fr.refl _ _) rfl⟩
  | .claspLapse, _ => ⟨.ite .next .next, execClaspLapse_frame (Fr.refl _ _) rfl⟩
  | .checkpointRequest _ _, _ => ⟨.next, execCheckpointRequest_frame (Fr.refl _ _) rfl⟩
  | .ckptReq, _ => ⟨.next, execCkptReq_frame (Fr.refl _ _) rfl⟩
  | .checkpointComplete, s => ⟨execCheckpointComplete_answers s, execCheckpointComplete_frame (Fr.refl _ _) rfl⟩
  | .restoreStart _ _, _ => ⟨.next, execRestoreStart_frame (Fr.refl _ _) rfl⟩
  | .restoreLoadComplete items, s =>
    ⟨execRestoreLoadComplete_answers items s, execRestoreLoadComplete_frame (Fr.refl _ _) rfl⟩
  | .rollbackAccept _ _, _ => ⟨.next, execRollbackAccept_frame (Fr.refl _ _) rfl⟩
  | .lazyChunkRestore ok, s => ⟨execLazyChunkRestore_answers ok s, execLazyChunkRestore_frame (Fr.refl _ _) rfl⟩
  | .resizeClearComplete, s => ⟨execResizeClearComplete_answers s, execResizeClearComplete_frame (Fr.refl _ _) rfl⟩
  | .resizeBucketMigrate, s => ⟨execResizeBucketMigrate_answers s, execResizeBucketMigrate_frame (Fr.refl _ _) rfl⟩
  | .patrolScrub corrected, s => ⟨execPatrolScrub_answers corrected s, execPatrolScrub_frame (Fr.refl _ _) rfl⟩
  | .eccUncorrectableError line, s =>
    ⟨execEccUncorrectableError_answers line s, execEccUncorrectableError_frame (Fr.refl _ _) rfl⟩
  | .protectedRangeCommit, _ => ⟨.next, execProtectedRangeCommit_frame (Fr.refl _ _) rfl⟩
  | .protectedRangeGenActive, _ => ⟨.next, execProtectedRangeGenActive_frame (Fr.refl _ _) rfl⟩
  | .migrateFloor _ _, _ => ⟨.next, execMigrateFloor_frame (Fr.refl _ _) rfl⟩
  | .migrateWalkStep, _ => ⟨.ite .next (.ite .next .next), execMigrateWalkStep_frame (Fr.refl _ _) rfl⟩
  | .ownerEpoch _ _ _, _ => ⟨.next, execOwnerEpoch_frame (Fr.refl _ _) rfl⟩
  | .domainCreate _ _, _ => ⟨.next, execDomainCreate_frame (Fr.refl _ _) rfl⟩
  | .domainSend _ _, _ => ⟨.next, execDomainSend_frame (Fr.refl _ _) rfl⟩
  | .domainAccept _ _, _ => ⟨.next, execDomainAccept_frame (Fr.refl _ _) rfl⟩
  | .domainAcceptExpiry, s => ⟨execDomainAcceptExpiry_answers s, execDomainAcceptExpiry_frame (Fr.refl _ _) rfl⟩
  | .hello h, s => ⟨execHello_answers h s, execHello_frame (Fr.refl _ _) rfl⟩
  | .confirm f nonces, s => ⟨execConfirm_answers f nonces s, execConfirm_frame (Fr.refl _ _) rfl⟩
  | .headReq _, _ => ⟨.ite .next .next, execHeadReq_frame (Fr.refl _ _) rfl⟩
  | .head _ _ _ _ _, _ => ⟨.ite .next (.ite .next .next), execHead_frame (Fr.refl _ _) rfl⟩
  | .visitDone _ _, _ => ⟨.ite .next .next, execVisitDone_frame (Fr.refl _ _) rfl⟩
  | .ready _ _ _, _ => ⟨.ite .next .next, execReady_frame (Fr.refl _ _) rfl⟩
  | .claspPass _ _ _ _, _ => ⟨.ite .next (.ite .next .next), execClaspPass_frame (Fr.refl _ _) rfl⟩
  | .claspAck _ _, _ => ⟨.ite .next .next, execClaspAck_frame (Fr.refl _ _) rfl⟩
  | .claspNak _ _, _ => ⟨.next, execClaspNak_frame (Fr.refl _ _) rfl⟩
  | .keepalive _ _, _ => ⟨.ite .next .next, execKeepalive_frame (Fr.refl _ _) rfl⟩
  | .pairOffer m, s => ⟨execPairOffer_answers m s, execPairOffer_frame (Fr.refl _ _) rfl⟩
  | .pairReply m, s => ⟨execPairReply_answers m s, execPairReply_frame (Fr.refl _ _) rfl⟩
  | .pairSecret seq payload, s => ⟨execPairSecret_answers seq payload s, execPairSecret_frame (Fr.refl _ _) rfl⟩
  | .pairDone m, s => ⟨execPairDone_answers m s, execPairDone_frame (Fr.refl _ _) rfl⟩
  | .keepaliveSendTimer, _ => ⟨.ite .next .next, execKeepaliveSendTimer_frame (Fr.refl _ _) rfl⟩
  | .flallaniSessionTimeout, _ => ⟨.ite .next .next, execFlallaniSessionTimeout_frame (Fr.refl _ _) rfl⟩
  | .helloRetry, _ => ⟨.ite .next .next, execHelloRetry_frame (Fr.refl _ _) rfl⟩
  | .handover _ _, _ => ⟨.next, execHandover_frame (Fr.refl _ _) rfl⟩
  | .handoverComplete, s => ⟨execHandoverComplete_answers s, execHandoverComplete_frame (Fr.refl _ _) rfl⟩
  | .claspPassResend, _ => ⟨.ite .next .next, execClaspPassResend_frame (Fr.refl _ _) rfl⟩
  | .appendStart _ _ _, _ => ⟨.next, execAppendStart_frame (Fr.refl _ _) rfl⟩
  | .wakePartner _ _, _ => ⟨.next, execWakePartner_frame (Fr.refl _ _) rfl⟩
  | .fllWake, _ => ⟨.next, execFllWake_frame (Fr.refl _ _) rfl⟩
  | .stayAwake _ _, _ => ⟨.next, execStayAwake_frame (Fr.refl _ _) rfl⟩
  | .resyncVisitDue, _ => ⟨.ite .next .next, execResyncVisitDue_frame (Fr.refl _ _) rfl⟩
  | .visitTimeout, s => ⟨execVisitTimeout_answers s, execVisitTimeout_frame (Fr.refl _ _) rfl⟩
  | .slpWakeEdge b, s => ⟨execSlpWakeEdge_answers b s, execSlpWakeEdge_frame (Fr.refl _ _) rfl⟩
  | .bgnPromote _, _ => ⟨.next, execBgnPromote_frame (Fr.refl _ _) rfl⟩
  | .bgnHold core on, s => ⟨execBgnHold_answers core on s, execBgnHold_frame (Fr.refl _ _) rfl⟩
  | .bgnFence core, s => ⟨execBgnFence_answers core s, execBgnFence_frame (Fr.refl _ _) rfl⟩
  | .bgnCoreCfgWrite core units, s =>
    ⟨execBgnCoreCfgWrite_answers core units s, execBgnCoreCfgWrite_frame (Fr.refl _ _) rfl⟩
  | .modadd _ _, _ => ⟨.next, execModadd_frame (Fr.refl _ _) rfl⟩
  | .modsub _ _, _ => ⟨.next, execModsub_frame (Fr.refl _ _) rfl⟩
  | .modmul _ _, _ => ⟨.next, execModmul_frame (Fr.refl _ _) rfl⟩
  | .modexp _ _, _ => ⟨.next, execModexp_frame (Fr.refl _ _) rfl⟩
  | .modexpPub _ _, _ => ⟨.next, execModexpPub_frame (Fr.refl _ _) rfl⟩
  | .modinv _ _, _ => ⟨.next, execModinv_frame (Fr.refl _ _) rfl⟩
  | .rsaCrt _ _, _ => ⟨.next, execRsaCrt_frame (Fr.refl _ _) rfl⟩
  | .mrRound _ _, _ => ⟨.next, execMrRound_frame (Fr.refl _ _) rfl⟩
  | .ecSmul _ _, _ => ⟨.next, execEcSmul_frame (Fr.refl _ _) rfl⟩
  | .ecDsmul _ _, _ => ⟨.next, execEcDsmul_frame (Fr.refl _ _) rfl⟩
  | .ecAdd _ _, _ => ⟨.next, execEcAdd_frame (Fr.refl _ _) rfl⟩
  | .ecdsaSign _ _, _ => ⟨.next, execEcdsaSign_frame (Fr.refl _ _) rfl⟩
  | .ecdsaVerify _ _, _ => ⟨.next, execEcdsaVerify_frame (Fr.refl _ _) rfl⟩
  | .edSmul _ _, _ => ⟨.next, execEdSmul_frame (Fr.refl _ _) rfl⟩
  | .xdh _ _, _ => ⟨.next, execXdh_frame (Fr.refl _ _) rfl⟩
  | .bgnFwOpComplete core, s => ⟨execBgnFwOpComplete_answers core s, execBgnFwOpComplete_frame (Fr.refl _ _) rfl⟩
  | .attestKeyGenStart, _ => ⟨.ite .next .next, execAttestKeyGenStart_frame (Fr.refl _ _) rfl⟩
  | .attestKeyGenStop, s => ⟨execAttestKeyGenStop_answers s, execAttestKeyGenStop_frame (Fr.refl _ _) rfl⟩
  | .attestKeyGenComplete, s => ⟨execAttestKeyGenComplete_answers s, execAttestKeyGenComplete_frame (Fr.refl _ _) rfl⟩
  | .latPromote _, _ => ⟨.next, execLatPromote_frame (Fr.refl _ _) rfl⟩
  | .latHold core on, s => ⟨execLatHold_answers core on s, execLatHold_frame (Fr.refl _ _) rfl⟩
  | .latFence core, s => ⟨execLatFence_answers core s, execLatFence_frame (Fr.refl _ _) rfl⟩
  | .mlkemEncaps _ _, _ => ⟨.next, execMlkemEncaps_frame (Fr.refl _ _) rfl⟩
  | .mldsaVerify _ _, _ => ⟨.next, execMldsaVerify_frame (Fr.refl _ _) rfl⟩
  | .ntt _ _, _ => ⟨.next, execNtt_frame (Fr.refl _ _) rfl⟩
  | .intt _ _, _ => ⟨.next, execIntt_frame (Fr.refl _ _) rfl⟩
  | .pmul _ _, _ => ⟨.next, execPmul_frame (Fr.refl _ _) rfl⟩
  | .keccak _ _, _ => ⟨.next, execKeccak_frame (Fr.refl _ _) rfl⟩
  | .latFwOpComplete core, s => ⟨execLatFwOpComplete_answers core s, execLatFwOpComplete_frame (Fr.refl _ _) rfl⟩
  | .laneLockAcquire lane code w, s =>
    ⟨execLaneLockAcquire_answers lane code w s, execLaneLockAcquire_frame (Fr.refl _ _) rfl⟩
  | .laneLockRelease lane w, s => ⟨execLaneLockRelease_answers lane w s, execLaneLockRelease_frame (Fr.refl _ _) rfl⟩
  | .laneFwJobStart lane w, s => ⟨execLaneFwJobStart_answers lane w s, execLaneFwJobStart_frame (Fr.refl _ _) rfl⟩
  | .laneKeyClear lane w, s => ⟨execLaneKeyClear_answers lane w s, execLaneKeyClear_frame (Fr.refl _ _) rfl⟩
  | .laneFwJobComplete lane, s => ⟨execLaneFwJobComplete_answers lane s, execLaneFwJobComplete_frame (Fr.refl _ _) rfl⟩
  | .entropyWindowEnd _, _ => ⟨.ite .next .next, execEntropyWindowEnd_frame (Fr.refl _ _) rfl⟩
  | .healthTestFail _ _, _ => ⟨.ite .next (.ite .next (.ite .next .next)), execHealthTestFail_frame (Fr.refl _ _) rfl⟩
  | .startupTestPass _, _ => ⟨.ite .next .next, execStartupTestPass_frame (Fr.refl _ _) rfl⟩
  | .quarantineRetry _, _ => ⟨.ite .next .next, execQuarantineRetry_frame (Fr.refl _ _) rfl⟩
  | .drbgReseed _, _ => ⟨.ite .next .next, execDrbgReseed_frame (Fr.refl _ _) rfl⟩
  | .drbgGenerate busy, s => ⟨execDrbgGenerate_answers busy s, execDrbgGenerate_frame (Fr.refl _ _) rfl⟩
  | .drbgInstanceStall _, _ => ⟨.ite .next .next, execDrbgInstanceStall_frame (Fr.refl _ _) rfl⟩
  | .portRefill secure busy, s => ⟨execPortRefill_answers secure busy s, execPortRefill_frame (Fr.refl _ _) rfl⟩
  | .rngSDataRead, _ => ⟨.next, execRngSDataRead_frame (Fr.refl _ _) rfl⟩
  | .rngNsDataRead, _ => ⟨.next, execRngNsDataRead_frame (Fr.refl _ _) rfl⟩
  | .rngSPrRequest, _ => ⟨.next, execRngSPrRequest_frame (Fr.refl _ _) rfl⟩
  | .rngNsPrRequest, _ => ⟨.next, execRngNsPrRequest_frame (Fr.refl _ _) rfl⟩
  | .rngTestSelect _ _, _ => ⟨.ite .next .next, execRngTestSelect_frame (Fr.refl _ _) rfl⟩
  | .rngRawDataRead, _ => ⟨.ite .next .next, execRngRawDataRead_frame (Fr.refl _ _) rfl⟩
  | .hallmarkExtend _, _ => ⟨.ite .next .next, execHallmarkExtend_frame (Fr.refl _ _) rfl⟩
  | .fwStorageKeyRequest lineage svn index lane, s =>
    ⟨execFwStorageKeyRequest_answers lineage svn index lane s, execFwStorageKeyRequest_frame (Fr.refl _ _) rfl⟩
  | .fwStorageKeyDone, s => ⟨execFwStorageKeyDone_answers s, execFwStorageKeyDone_frame (Fr.refl _ _) rfl⟩
  | .cardInsert _, _ => ⟨.ite .next (.ite .next .next), execCardInsert_frame (Fr.refl _ _) rfl⟩
  | .cardRemove _, _ => ⟨.ite .next (.ite .next .next), execCardRemove_frame (Fr.refl _ _) rfl⟩
  | .atrTimeout _, _ => ⟨.ite .next .next, execAtrTimeout_frame (Fr.refl _ _) rfl⟩
  | .atrReceived _ _ _ _, _ => ⟨.ite (.ite .next .next) .next, execAtrReceived_frame (Fr.refl _ _) rfl⟩
  | .selectResponse _ _, _ => ⟨.ite (.ite .next .next) .next, execSelectResponse_frame (Fr.refl _ _) rfl⟩
  | .getInfoResponse _ _ _ _, _ => ⟨.ite (.ite .next .next) .next, execGetInfoResponse_frame (Fr.refl _ _) rfl⟩
  | .verifyPinResponse _ _, _ =>
    ⟨.ite (.ite .next (.ite .next (.ite .next .next))) .next, execVerifyPinResponse_frame (Fr.refl _ _) rfl⟩
  | .signStatementResponse _ _ _, _ =>
    ⟨.ite (.ite .next .next) .next, execSignStatementResponse_frame (Fr.refl _ _) rfl⟩
  | .cardSignatureVerified port, s =>
    ⟨execCardSignatureVerified_answers port s, execCardSignatureVerified_frame (Fr.refl _ _) rfl⟩
  | .pinWrite _ _ _, _ => ⟨.next, execPinWrite_frame (Fr.refl _ _) rfl⟩
  | .pinWaitTimeout _, _ => ⟨.ite .next .next, execPinWaitTimeout_frame (Fr.refl _ _) rfl⟩
  | .signingTimeout _, _ => ⟨.ite .next .next, execSigningTimeout_frame (Fr.refl _ _) rfl⟩
  | .cardDeactivate _, _ => ⟨.ite .next .next, execCardDeactivate_frame (Fr.refl _ _) rfl⟩
  | .signetOpen _ _, _ => ⟨.next, execSignetOpen_frame (Fr.refl _ _) rfl⟩
  | .signetCancel _ _, _ => ⟨.next, execSignetCancel_frame (Fr.refl _ _) rfl⟩
  | .signetWindowEnd, _ => ⟨.ite .next .next, execSignetWindowEnd_frame (Fr.refl _ _) rfl⟩
  | .zeroiseArm _ _, _ => ⟨.next, execZeroiseArm_frame (Fr.refl _ _) rfl⟩
  | .zeroiseArmExpiry, s => ⟨execZeroiseArmExpiry_answers s, execZeroiseArmExpiry_frame (Fr.refl _ _) rfl⟩
  | .wsw _ _, _ => ⟨.ite .next (.ite .next .next), execWsw_frame (Fr.refl _ _) rfl⟩
  | .wret _, _ => ⟨.ite .next (.ite .next .next), execWret_frame (Fr.refl _ _) rfl⟩
  | .secureInterruptTaken _ _, _ => ⟨.ite .next .next, execSecureInterruptTaken_frame (Fr.refl _ _) rfl⟩
  | .worldSliceExpiry _, _ => ⟨.ite .next .next, execWorldSliceExpiry_frame (Fr.refl _ _) rfl⟩
  | .internalMasterAccess agent kind addr len core data, s =>
    ⟨exec_access_answers agent kind addr len core data s, execInternalMasterAccess_frame (Fr.refl _ _) rfl⟩
  | .bezelCommit, _ => ⟨.ite .next .next, execBezelCommit_frame (Fr.refl _ _) rfl⟩
  | .bezelGenActive, _ => ⟨.next, execBezelGenActive_frame (Fr.refl _ _) rfl⟩
  | .bezelModeWrite _, _ => ⟨.next, execBezelModeWrite_frame (Fr.refl _ _) rfl⟩
  | .worldCommit, _ => ⟨.ite .next .next, execWorldCommit_frame (Fr.refl _ _) rfl⟩
  | .worldGenActive, _ => ⟨.next, execWorldGenActive_frame (Fr.refl _ _) rfl⟩
  | .l2WaysWrite _, _ => ⟨.ite .next (.ite .next .next), execL2WaysWrite_frame (Fr.refl _ _) rfl⟩
  | .l2WayFlushComplete, s => ⟨execL2WayFlushComplete_answers s, execL2WayFlushComplete_frame (Fr.refl _ _) rfl⟩
  | .copyDmaStart channel, s => ⟨exec_copyDmaStart_answers channel s, execCopyDmaStart_frame (Fr.refl _ _) rfl⟩
  | .copyDmaStop channel, s => ⟨exec_copyDmaStop_answers channel s, execCopyDmaStop_frame (Fr.refl _ _) rfl⟩
  | .copyDmaComplete channel, s => ⟨exec_copyDmaComplete_answers channel s, execCopyDmaComplete_frame (Fr.refl _ _) rfl⟩
  | .loopSample _, _ => ⟨.ite .next (.ite .next .next), execLoopSample_frame (Fr.refl _ _) rfl⟩
  | .clockMonitorWindow _ _, _ =>
    ⟨.ite .next (.ite .next (.ite .next .next)), execClockMonitorWindow_frame (Fr.refl _ _) rfl⟩
  | .clockShortCycle _, _ => ⟨.ite .next .next, execClockShortCycle_frame (Fr.refl _ _) rfl⟩
  | .xtalMonitorArm, _ => ⟨.ite .next .next, execXtalMonitorArm_frame (Fr.refl _ _) rfl⟩
  | .firmwareAlarmRaise _, _ => ⟨.ite .next .next, execFirmwareAlarmRaise_frame (Fr.refl _ _) rfl⟩
  | .purgeErasureComplete, s => ⟨execPurgeErasureComplete_answers s, execPurgeErasureComplete_frame (Fr.refl _ _) rfl⟩
  | .zeroiseErasureComplete, s =>
    ⟨execZeroiseErasureComplete_answers s, execZeroiseErasureComplete_frame (Fr.refl _ _) rfl⟩
  | .haltClear, _ => ⟨.ite .next (.ite .next .next), execHaltClear_frame (Fr.refl _ _) rfl⟩
  | .bbramPeriodicCheck _ _, _ => ⟨.ite .next (.ite .next .next), execBbramPeriodicCheck_frame (Fr.refl _ _) rfl⟩
  | .vbatMeasure _ _, _ => ⟨.ite .next .next, execVbatMeasure_frame (Fr.refl _ _) rfl⟩
  | .loopsArm _ _, _ => ⟨.next, execLoopsArm_frame (Fr.refl _ _) rfl⟩
  | .loopsDisarm _ _, _ => ⟨.next, execLoopsDisarm_frame (Fr.refl _ _) rfl⟩
  | .responseRaise _ _ _, _ => ⟨.next, execResponseRaise_frame (Fr.refl _ _) rfl⟩
  | .lifecycleNext _ _, _ => ⟨.next, execLifecycleNext_frame (Fr.refl _ _) rfl⟩
  | .signerHashes _ _ _, _ => ⟨.next, execSignerHashes_frame (Fr.refl _ _) rfl⟩
  | .signerRevoke _ _ _, _ => ⟨.next, execSignerRevoke_frame (Fr.refl _ _) rfl⟩
  | .svnFloor _ _, _ => ⟨.next, execSvnFloor_frame (Fr.refl _ _) rfl⟩
  | .cosigRequired _ _, _ => ⟨.next, execCosigRequired_frame (Fr.refl _ _) rfl⟩
  | .compatDisable _ _, _ => ⟨.next, execCompatDisable_frame (Fr.refl _ _) rfl⟩
  | .otpProgramComplete, s => ⟨execOtpProgramComplete_answers s, execOtpProgramComplete_frame (Fr.refl _ _) rfl⟩
  | .provisionRun _ _, _ => ⟨.next, execProvisionRun_frame (Fr.refl _ _) rfl⟩
  | .signer0 _ _, _ => ⟨.next, execSigner0_frame (Fr.refl _ _) rfl⟩
  | .identityCertWrite _ _, _ => ⟨.next, execIdentityCertWrite_frame (Fr.refl _ _) rfl⟩
  | .lcsInitWrap, _ => ⟨.ite .next .next, execLcsInitWrap_frame (Fr.refl _ _) rfl⟩
  | .recoveryGo readable, s => ⟨execRecoveryGo_answers readable s, execRecoveryGo_frame (Fr.refl _ _) rfl⟩
  | .dapRead _ _, _ => ⟨.next, execDapRead_frame (Fr.refl _ _) rfl⟩
  | .dapWrite _ _ _, _ => ⟨.next, execDapWrite_frame (Fr.refl _ _) rfl⟩
  | .idcode, _ => ⟨.next, execIdcode_frame (Fr.refl _ _) rfl⟩
  | .bypass, _ => ⟨.next, execBypass_frame (Fr.refl _ _) rfl⟩
  | .debugToken _ _, _ => ⟨.next, execDebugToken_frame (Fr.refl _ _) rfl⟩
  | .porNAssert, s => ⟨execPorNAssert_answers s, execPorNAssert_frame (Fr.refl _ _) rfl⟩
  | .porNRelease _, _ => ⟨.ite .next .next, execPorNRelease_frame (Fr.refl _ _) rfl⟩
  | .sysRstNAssert, s => ⟨execSysRstNAssert_answers s, execSysRstNAssert_frame (Fr.refl _ _) rfl⟩
  | .ppsEdge _ _, _ => ⟨.ite .next (.ite (.ite .next .next) (.ite .next .next)), execPpsEdge_frame (Fr.refl _ _) rfl⟩
  | .ppsWindowTimeout, _ => ⟨.ite .next .next, execPpsWindowTimeout_frame (Fr.refl _ _) rfl⟩
  | .holdoverEntry, _ => ⟨.ite .next (.ite .next .next), execHoldoverEntry_frame (Fr.refl _ _) rfl⟩
  | .holdoverLoss, _ => ⟨.ite .next .next, execHoldoverLoss_frame (Fr.refl _ _) rfl⟩
  | .nextPulseTai _ _, _ => ⟨.next, execNextPulseTai_frame (Fr.refl _ _) rfl⟩
  | .todReset _ _, _ => ⟨.next, execTodReset_frame (Fr.refl _ _) rfl⟩
  | .poweredHourElapsed, s => ⟨execPoweredHourElapsed_answers s, execPoweredHourElapsed_frame (Fr.refl _ _) rfl⟩
  | .hstTickLoRead, _ => ⟨.next, execHstTickLoRead_frame (Fr.refl _ _) rfl⟩
  | .timTickLoRead, _ => ⟨.next, execTimTickLoRead_frame (Fr.refl _ _) rfl⟩
  | .evrPostS _ _, _ => ⟨.ite .next .next, execEvrPostS_frame (Fr.refl _ _) rfl⟩
  | .evrPostN _ _, _ => ⟨.ite .next .next, execEvrPostN_frame (Fr.refl _ _) rfl⟩
  | .eventArchiveWrite, _ => ⟨.next, execEventArchiveWrite_frame (Fr.refl _ _) rfl⟩
  | .archiveRelease _ _, _ => ⟨.next, execArchiveRelease_frame (Fr.refl _ _) rfl⟩
  | .nextRecord _ _ _, _ => ⟨.next, execNextRecord_frame (Fr.refl _ _) rfl⟩
  | .mgpFrameReceived _ _, _ =>
    ⟨.ite .next (.ite .next (.ite .next (.ite .next .next))), execMgpFrameReceived_frame (Fr.refl _ _) rfl⟩
  | .mgpRxdTailWrite _, _ => ⟨.ite .next .next, execMgpRxdTailWrite_frame (Fr.refl _ _) rfl⟩
  | .mgpTxGo, _ => ⟨.ite .next (.ite .next .next), execMgpTxGo_frame (Fr.refl _ _) rfl⟩
  | .mgpFrameSent, s => ⟨execMgpFrameSent_answers s, execMgpFrameSent_frame (Fr.refl _ _) rfl⟩
  | .read _ _, _ => ⟨.ite .next .next, execRead_frame (Fr.refl _ _) rfl⟩
  | .write _ _ _, _ => ⟨.ite .next .next, execWrite_frame (Fr.refl _ _) rfl⟩
  | .close _ _, _ => ⟨.ite .next .next, execClose_frame (Fr.refl _ _) rfl⟩
  | .secureOdAccess _ _ _, _ =>
    ⟨.ite .next (.ite .next (.ite .next (.ite .next .next))), execSecureOdAccess_frame (Fr.refl _ _) rfl⟩
  | .pueshIdleTimeout _, _ => ⟨.ite .next .next, execPueshIdleTimeout_frame (Fr.refl _ _) rfl⟩
  | .sessionCloseWrite _ _ _, _ => ⟨.next, execSessionCloseWrite_frame (Fr.refl _ _) rfl⟩
  | .mgmtKeyGenerate _ _, _ => ⟨.next, execMgmtKeyGenerate_frame (Fr.refl _ _) rfl⟩
  | .mgmtCert _ _, _ => ⟨.next, execMgmtCert_frame (Fr.refl _ _) rfl⟩
  | .napRequest _ _, _ => ⟨.next, execNapRequest_frame (Fr.refl _ _) rfl⟩
  | .pwrReqNap, _ => ⟨.next, execPwrReqNap_frame (Fr.refl _ _) rfl⟩
  | .autoNapTimer, _ => ⟨.ite .next .next, execAutoNapTimer_frame (Fr.refl _ _) rfl⟩
  | .napMinutePrewake, _ => ⟨.ite .next .next, execNapMinutePrewake_frame (Fr.refl _ _) rfl⟩
  | .napExitComplete, _ => ⟨.ite .next .next, execNapExitComplete_frame (Fr.refl _ _) rfl⟩
  | .sleepRequest _ _, _ => ⟨.next, execSleepRequest_frame (Fr.refl _ _) rfl⟩
  | .pwrReqSleep, _ => ⟨.ite .next .next, execPwrReqSleep_frame (Fr.refl _ _) rfl⟩
  | .sleepPowerOff _ _ _, _ => ⟨.ite .next (.ite .next .next), execSleepPowerOff_frame (Fr.refl _ _) rfl⟩
  | .vddAonLoss _, _ => ⟨.ite .next .next, execVddAonLoss_frame (Fr.refl _ _) rfl⟩
  | .vddAonReturn _, _ => ⟨.ite .next .next, execVddAonReturn_frame (Fr.refl _ _) rfl⟩
  | .backupSupplyReturn, _ => ⟨.ite .next .next, execBackupSupplyReturn_frame (Fr.refl _ _) rfl⟩
  | .gpioRisingEdge _, _ => ⟨.ite .next .next, execGpioRisingEdge_frame (Fr.refl _ _) rfl⟩
  | .pwrLockWrite locks, s => ⟨execPwrLockWrite_answers locks s, execPwrLockWrite_frame (Fr.refl _ _) rfl⟩
  | .nsGateClkOn _, _ => ⟨.next, execNsGateClkOn_frame (Fr.refl _ _) rfl⟩
  | .nsGateClkOff _, _ => ⟨.next, execNsGateClkOff_frame (Fr.refl _ _) rfl⟩
  | .nsGatePwrOn _, _ => ⟨.next, execNsGatePwrOn_frame (Fr.refl _ _) rfl⟩
  | .nsGatePwrOff _, _ => ⟨.next, execNsGatePwrOff_frame (Fr.refl _ _) rfl⟩
  | .pwrDeferCancel, s => ⟨execPwrDeferCancel_answers s, execPwrDeferCancel_frame (Fr.refl _ _) rfl⟩
  | .pwrGateWrite _ _ _ _, _ => ⟨.ite .next (.ite .next .next), execPwrGateWrite_frame (Fr.refl _ _) rfl⟩
  | .gateTransitionComplete block, s =>
    ⟨execGateTransitionComplete_answers block s, execGateTransitionComplete_frame (Fr.refl _ _) rfl⟩
  | .polishSlot lattice, s => ⟨execPolishSlot_answers lattice s, execPolishSlot_frame (Fr.refl _ _) rfl⟩
  | .polishSequenceEnd lattice failed, s =>
    ⟨execPolishSequenceEnd_answers lattice failed s, execPolishSequenceEnd_frame (Fr.refl _ _) rfl⟩
  | .registerWrite _ _ _, _ => ⟨.ite .next (.ite .next .next), execRegisterWrite_frame (Fr.refl _ _) rfl⟩
  | .perstNRelease, _ => ⟨.ite .next (.ite .next .next), execPerstNRelease_frame (Fr.refl _ _) rfl⟩
  | .linkRateChange _ _, _ => ⟨.ite .next (.ite .next .next), execLinkRateChange_frame (Fr.refl _ _) rfl⟩
  | .sysRstNRelease _, _ => ⟨.ite .next .next, execSysRstNRelease_frame (Fr.refl _ _) rfl⟩
  | .fllRxSyncAcquired, _ => ⟨.next, execFllRxSyncAcquired_frame (Fr.refl _ _) rfl⟩
  | .fllLostSync, _ => ⟨.next, execFllLostSync_frame (Fr.refl _ _) rfl⟩
  | .plcaBeacon _, _ => ⟨.next, execPlcaBeacon_frame (Fr.refl _ _) rfl⟩
  | .clientHello peer, s => ⟨execClientHello_answers peer s, execClientHello_frame (Fr.refl _ _) rfl⟩
  | .dtlsHandshakeComplete slot cert, s =>
    ⟨execDtlsHandshakeComplete_answers slot cert s, execDtlsHandshakeComplete_frame (Fr.refl _ _) rfl⟩
  | .dtlsAlert _, _ => ⟨.next, execDtlsAlert_frame (Fr.refl _ _) rfl⟩
  | .wfi core, s => ⟨execWfi_answers core s, execWfi_frame (Fr.refl _ _) rfl⟩

/-- Every command answers a next state in every state. -/
theorem exec_answers (c : Instr) (s : State) : ∃ t, exec c s = .next t := (exec_goesOn_keeping c s).1

/-- A command leaves the queue and the form of memory as they are. -/
theorem exec_keeps {c : Instr} {s t : State} (h : exec c s = .next t) : t.pending = s.pending ∧ (s.Inv → t.Inv) := by
  obtain ⟨hp, hm⟩ := (exec_goesOn_keeping c s).2 t h
  exact ⟨hp .pending (by decide), hm⟩

/-- Settles O57: every command goes on, and its frame holds neither the queue nor the form of memory. -/
theorem commandsAnswer : Obligations.CommandsAnswer := by
  refine ⟨exec_answers, fun c s hs => ?_⟩
  obtain ⟨t, h⟩ := exec_answers c s
  obtain ⟨hp, hm⟩ := exec_keeps h
  exact ⟨t, h, hm hs, hp⟩

/-! ## Steps and runs -/

theorem step_idle {s : State} (h : s.pending = []) : step s = .next s := by
  simp only [step, h]

theorem step_front {s : State} {c : Instr} {rest : List Instr} (h : s.pending = c :: rest) :
    step s = exec c { s with pending := rest } := by
  simp only [step, h]

/-- Settles O58: the two cases of a step. -/
theorem stepRunsFront : Obligations.StepRunsFront := ⟨fun _ _ _ => step_front, fun _ => step_idle⟩

/-- Settles O59: the reset state lists no memory and no command. -/
theorem resetKeepsForm : Obligations.ResetKeepsForm := ⟨rfl, rfl, fun _ => rfl⟩

/-- A step takes the command at the front of the queue and keeps the form of memory. -/
theorem step_keeps {s t : State} (hs : s.Inv) (h : step s = .next t) : t.Inv ∧ t.pending = s.pending.tail := by
  cases hq : s.pending with
  | nil =>
    rw [step_idle hq] at h
    cases h
    exact ⟨hs, hq⟩
  | cons c rest =>
    rw [step_front hq] at h
    obtain ⟨hp, hm⟩ := exec_keeps h
    exact ⟨hm hs, hp⟩

theorem step_answers (s : State) : ∃ t, step s = .next t := by
  cases hq : s.pending with
  | nil => exact ⟨s, step_idle hq⟩
  | cons c rest => exact step_front hq ▸ exec_answers c _

/-- A run of any length goes on and keeps the form: one step keeps it, and every state has a step. -/
theorem safeFor_of_inv {s : State} (hs : s.Inv) (n : Nat) : SafeFor n s := by
  induction n generalizing s with
  | zero => exact hs
  | succ n ih =>
    obtain ⟨t, h⟩ := step_answers s
    exact ⟨hs, t, h, ih (step_keeps hs h).1⟩

/-- Settles O60: by induction on the length of the run, from what one step keeps. -/
theorem stepKeepsForm : Obligations.StepKeepsForm := ⟨fun _ _ => step_keeps, fun n _ hs => safeFor_of_inv hs n⟩

/-! ## The pieces a command may change -/

/-- The mask that holds the pieces listed. -/
def partsMask (l : List Part) : Nat := l.foldr (fun p m => p.weight ||| m) 0

theorem Part.weight_eq_pow (p : Part) : p.weight = 2 ^ p.ctorIdx := by
  cases p <;> rfl

/-- The weight of a piece is the mask of that piece alone. -/
theorem inMask_weight_ne {p q : Part} (h : p ≠ q) : inMask q.weight p.weight = false := by
  rw [p.weight_eq_pow, q.weight_eq_pow, inMask_testBit, Nat.testBit_two_pow, decide_eq_false_iff_not]
  exact fun e => h (by rw [← p.ofNat_ctorIdx, ← q.ofNat_ctorIdx, e])

/-- A mask made of a list holds no piece outside it. -/
theorem inMask_partsMask {l : List Part} {p : Part} (h : p ∉ l) : inMask (partsMask l) p.weight = false := by
  obtain ⟨k, hk⟩ := p.weight_pow
  rw [hk, inMask_testBit]
  induction l with
  | nil => exact Nat.zero_testBit k
  | cons q l ih =>
    obtain ⟨hq, hl⟩ := not_or.mp (mt List.mem_cons.mpr h)
    have hqk : q.weight.testBit k = false := by
      rw [← inMask_testBit, ← hk]
      exact inMask_weight_ne hq
    exact (Nat.testBit_or _ _ _).trans (by rw [hqk, Bool.false_or]; exact ih hl)

/-- Every piece of State. -/
def Part.all : List Part :=
  [.regs, .mem, .free, .readValue, .host, .insts, .scheds, .share, .admin, .jobs, .locket, .meters, .time, .evr, .strand,
   .restore, .owners, .usage, .store, .ladder, .officers, .agent, .bb, .lcs, .engines, .rng, .alarm, .power, .pair,
   .worlds, .mgp, .pending]

/-- The mask that holds all pieces but those listed. -/
def othersMask (l : List Part) : Nat := partsMask (Part.all.filter (fun p => p ∉ l))

/-- A command changes only the pieces its frame's mask is made of. -/
theorem Answers.only_parts {c : Instr} {s : State} {l : List Part} (hf : FrO (partsMask l) s (exec c s)) :
    Answers c s (Only l s) :=
  .only_of_frame (exec_answers c s) hf fun _ => inMask_partsMask

/-- A command keeps the pieces its frame's mask leaves out. -/
theorem Answers.kept_parts {c : Instr} {s : State} {l : List Part} (hf : FrO (othersMask l) s (exec c s)) :
    Answers c s (Kept l s) :=
  .kept_of_frame (exec_answers c s) hf fun p hp => inMask_partsMask (by simp [hp])

end Sys2Proof.Machine
end

section
/-! The noise sources, the generator and its ports: windows, failed and passed tests, the test pattern, reseeds and
generate calls, and what the test registers show where the life cycle closes them (R313 to R333). -/

namespace Sys2Proof.Machine

/-! ## The sources (R315 to R319, R324, R331) -/

section
variable {s : State} {n : Nat}

/-- One window: its samples, where the pool has room for all of them (R315). -/
theorem State.release_one (s : State) : s.release 1 = { s with rng := { s.rng with
    pool := if s.rng.pool + 1024 ≤ poolMax then s.rng.pool + 1024 else s.rng.pool } } := by
  simp only [State.release, List.range_one, List.foldl_cons, List.foldl_nil, State.setRng]

theorem execEntropyWindowEnd_healthy (hn : n < 4) (hx : (s.source n).st = .healthy) :
    execEntropyWindowEnd n s = .next (s.release 1).showRng := if_pos (by simp [hn, hx])

theorem execEntropyWindowEnd_idle (h : n ≥ 4 ∨ (s.source n).st ≠ .healthy) : execEntropyWindowEnd n s = .next s :=
  if_neg (by grind)

/-- Whether a source is under test, so that a failure moves it (R324). -/
def Source.tested (x : Source) : Prop := x.st = .startup ∨ x.st = .healthy ∨ x.st = .retesting

theorem Source.not_tested {x : Source} (h1 : x.st ≠ .startup) (h2 : x.st ≠ .healthy) (h3 : x.st ≠ .retesting) :
    ¬x.tested := by
  rintro (h | h | h)
  exacts [h1 h, h2 h, h3 h]

theorem execHealthTestFail_none (r : Bool) (hn : n ≥ 4) : execHealthTestFail n r s = .next s := if_pos hn

theorem execHealthTestFail_counted (r : Bool) (hn : n < 4) (hx : ¬(s.source n).tested) :
    execHealthTestFail n r s = .next (s.countFail r) :=
  (if_neg (Nat.not_le.mpr hn)).trans (if_pos (by grind [Source.tested]))

/-- The failures of a source once one more counts: those in retests alone (R324). -/
def Source.failsNow (x : Source) : Nat := if x.st = .retesting then x.fails + 1 else x.fails

/-- What a failed test says of itself in its event (R324, R481). -/
def testDetail (n : Nat) (r : Bool) : Bytes := [BitVec.ofNat 8 n, BitVec.ofNat 8 (if r then 0 else 1)]

theorem execHealthTestFail_tested (r : Bool) (hn : n < 4) (hx : (s.source n).tested) : execHealthTestFail n r s =
    if 8 ≤ (s.source n).failsNow then
      .next ((((s.countFail r).setSource n { st := .retired, fails := 8, since := s.time.tick }).event 0x0302 sevAlarm n
        (testDetail n r)).evalRng s.unhealthy false)
    else
      .next ((((s.countFail r).setSource n { st := .quarantined, fails := (s.source n).failsNow, since := s.time.tick }).event
        0x0301 sevNotice n (testDetail n r)).evalRng s.unhealthy false) := by
  refine (if_neg (Nat.not_le.mpr hn)).trans ((if_neg (by grind [Source.tested])).trans ?_)
  simp only [Source.failsNow, ← beq_iff_eq (a := (s.source n).st)]
  rfl

theorem execStartupTestPass_passed (hn : n < 4) (hx : (s.source n).st = .startup ∨ (s.source n).st = .retesting) :
    execStartupTestPass n s = .next (((s.setSource n { st := .healthy, fails := 0, since := (s.source n).since }).release
      4).evalRng s.unhealthy false) := if_neg (by grind)

theorem execStartupTestPass_idle (h : n ≥ 4 ∨ ((s.source n).st ≠ .startup ∧ (s.source n).st ≠ .retesting)) :
    execStartupTestPass n s = .next s := if_pos (by grind)

theorem execQuarantineRetry_due (hn : n < 4) (hx : (s.source n).st = .quarantined)
    (ht : s.time.tick ≥ (s.source n).since + 64) :
    execQuarantineRetry n s = .next (s.setSource n { s.source n with st := .retesting }).showRng :=
  if_pos (by simp [hn, hx, ht])

theorem execQuarantineRetry_idle
    (h : n ≥ 4 ∨ (s.source n).st ≠ .quarantined ∨ s.time.tick < (s.source n).since + 64) :
    execQuarantineRetry n s = .next s := if_neg (by grind)

end

/-! ## The test registers (R330 to R332) -/

section
variable {s : State}

theorem State.rngTestOpen_eq_false (h : s.lifeCycle = lcField ∨ s.lifeCycle = lcAnalysis ∨ s.lifeCycle = lcScrap) :
    s.rngTestOpen = false := by
  rcases h with h | h | h <;> simp only [State.rngTestOpen, h] <;> decide

theorem execRngTestSelect_idle {sel src : Nat} (h : s.rngTestOpen = false ∨ sel > 3 ∨ src > 15) :
    execRngTestSelect sel src s = .next s := if_pos (by grind)

theorem execRngRawDataRead_closed (h : s.rngTestOpen = false ∨ (s.source (s.get .RNG_RAW_SEL_SRC)).st ≠ .test) :
    execRngRawDataRead s = .next { s with readValue := 0 } := if_neg (by grind)

/-- What is read of a source in TEST, from place `v` of its sequence (R330, R333). -/
theorem State.rawWord_fst (s : State) : s.rawWord.1 =
    if s.get .RNG_TEST_SEL = 1 ∨ s.get .RNG_TEST_SEL = 2 then
      testWord (s.get .RNG_TEST_SEL) (s.get .RNG_TEST_PAT_LO_PAT + 2 ^ 32 * s.get .RNG_TEST_PAT_HI_PAT)
        (s.get .RNG_RAW_SEL_STAGE) (Config.freeNat s.free)
    else Config.freeNat s.free % 2 ^ 32 :=
  if_congr (by simp only [Bool.or_eq_true, decide_eq_true_eq]; rfl) rfl rfl

theorem execRngRawDataRead_open (ho : s.rngTestOpen = true) (hx : (s.source (s.get .RNG_RAW_SEL_SRC)).st = .test) :
    execRngRawDataRead s =
      .next { ({ s with free := s.free + 1 } : State).putBit .RNG_RAW_SEL_VALID false with readValue := s.rawWord.1 } :=
  if_pos (by simp [ho, hx])

theorem State.readReg_rngTest (w : World) (d : Bool) (h : s.rngTestOpen = false) :
    s.readReg w d 0x10500050 = (0, s) ∧ s.readReg w d 0x1050005C = (0, s) ∧ s.readReg w d 0x10500060 = (0, s) := by
  cases w <;> simp [State.readReg, inSpan, rngTestRegs, h]

theorem execRegisterWrite_rngTest (w : World) (v : Nat) (h : s.rngTestOpen = false) :
    execRegisterWrite w 0x10500050 v s = .next s ∧ execRegisterWrite w 0x1050005C v s = .next s := by
  cases w <;>
    simp [execRegisterWrite, State.writeReg, State.writeRng, inSpan, trigger, nextOf, execRngTestSelect_idle (.inl h), h]

end

/-- Settles O54: outside BLANK and PROVISION the test registers are closed to both worlds. -/
theorem rngTestRegisters : Obligations.RngTestRegisters := by
  refine ⟨fun s w d h => ?_, fun s w v h => execRegisterWrite_rngTest w v (State.rngTestOpen_eq_false h),
    fun s sel src h => ?_⟩
  · obtain ⟨h1, h2, h3⟩ := State.readReg_rngTest w d (State.rngTestOpen_eq_false h)
    simp only [List.forall_mem_cons, List.not_mem_nil, false_imp_iff, implies_true, and_true]
    exact ⟨h1, h2, h3⟩
  · exact ⟨execRngTestSelect_idle (.inl (State.rngTestOpen_eq_false h)),
      execRngRawDataRead_closed (.inl (State.rngTestOpen_eq_false h))⟩

/-- Settles O32: each clause is a case above, the closing ones the frame of each command. -/
theorem entropySources : Obligations.EntropySources := by
  refine ⟨fun s n hn hx => s.release_one ▸ execEntropyWindowEnd_healthy hn hx, ?_, fun s n hn hx => execStartupTestPass_passed hn hx,
    fun s n hn hx ht => execQuarantineRetry_due hn hx ht, ?_, ?_, ?_, ?_, ?_, ?_, ?_, ?_⟩
  · rintro s n r hn hx _ _ rfl rfl
    have h := execHealthTestFail_tested r hn hx
    exact ⟨fun hf => h.trans (if_pos hf), fun hf => h.trans (if_neg (Nat.not_le.mpr hf))⟩
  · exact fun s sel src ho hs hc => ⟨_, rfl, if_neg (by grind)⟩
  · intro s
    refine ⟨?_, execRngRawDataRead_closed⟩
    rintro ho hx _ rfl
    rw [← State.rawWord_fst]
    exact execRngRawDataRead_open ho hx
  · exact fun s n r => ⟨execEntropyWindowEnd_idle, execHealthTestFail_none r,
      fun hn h1 h2 h3 => execHealthTestFail_counted r hn (Source.not_tested h1 h2 h3), execStartupTestPass_idle,
      execQuarantineRetry_idle, fun _ _ => execRngTestSelect_idle⟩
  · intro s n
    simp only [List.forall_mem_cons, List.not_mem_nil, false_imp_iff, implies_true, and_true]
    exact ⟨.only_parts (execEntropyWindowEnd_frame (Fr.refl _ s) rfl),
      .only_parts (execQuarantineRetry_frame (Fr.refl _ s) rfl)⟩
  · exact fun s _ _ => .kept_parts (execHealthTestFail_frame (Fr.refl _ s) rfl)
  · exact fun s _ => .kept_parts (execStartupTestPass_frame (Fr.refl _ s) rfl)
  · exact fun s _ _ => .kept_parts (execRngTestSelect_frame (Fr.refl _ s) rfl)
  · exact fun s => .only_parts (execRngRawDataRead_frame (Fr.refl _ s) rfl)

/-! ## Reseeds and generate calls (R321 to R323, R328) -/

section
variable {s : State} {d : Nat}

theorem State.reseed_eq (s : State) (d : Nat) : s.reseed d = { s with rng := { s.rng with
    pool := s.rng.pool - 1024, reseeds := s.rng.reseeds + 1,
    drbgs := s.rng.drbgs.set d { s.drbg d with calls := 0, last := s.time.tick, stalled := false, due := false } } } := by
  simp only [State.reseed, State.setDrbg, State.setRng, reseedSamples]

theorem execDrbgReseed_due (hd : d < 4) (hi : (s.drbg d).inst = true) (hu : (s.drbg d).due = true)
    (hs : s.rng.stopped = false) (hp : s.rng.pool ≥ 1024) : execDrbgReseed d s =
      .next ({ s.reseed d with rng := { (s.reseed d).rng with lastTick := s.time.tick } } : State).showRng :=
  if_pos (by simp [hd, hi, hu, hs, hp, reseedSamples])

theorem execDrbgReseed_idle (h : d ≥ 4 ∨ (s.drbg d).inst = false ∨ (s.drbg d).due = false ∨ s.rng.stopped = true ∨
    s.rng.pool < 1024) : execDrbgReseed d s = .next s := if_neg (by grind [reseedSamples])

theorem execDrbgInstanceStall_due (hd : d < 4) (hi : (s.drbg d).inst = true) (hs : s.rng.stopped = true)
    (hx : (s.drbg d).stalled = false) (h : (s.drbg d).calls ≥ 2 ^ 20 ∨ s.time.tick ≥ (s.drbg d).last + 64) :
    execDrbgInstanceStall d s = .next (s.setDrbg d { s.drbg d with stalled := true, due := false }).showRng :=
  if_pos (by grind)

theorem execDrbgInstanceStall_idle (h : d ≥ 4 ∨ (s.drbg d).inst = false ∨ s.rng.stopped = false ∨
    (s.drbg d).stalled = true ∨ ((s.drbg d).calls < 2 ^ 20 ∧ s.time.tick < (s.drbg d).last + 64)) :
    execDrbgInstanceStall d s = .next s := if_neg (by grind)

end

/-! ## The ports and the draws (R323, R325) -/

section
variable {s : State} {l : List Nat}

theorem execPortRefill_ready {sec : Bool} {d : Nat} (hd : s.freeDrbg l = some d) (hr : s.portReady sec l = true) :
    ∃ u b, s.generate d 64 (s.bit (portPr sec)) = (b, u) ∧ execPortRefill sec l s = .next (if sec
      then ({ u.putBit (portPr sec) false with rng := { u.rng with sBuf := (u.rng.sBuf ++ b).take 64 } } : State).showRng
      else ({ u.putBit (portPr sec) false with rng := { u.rng with nsBuf := (u.rng.nsBuf ++ b).take 64 } } : State).showRng) := by
  refine ⟨_, _, rfl, ?_⟩
  rw [execPortRefill, hd]
  refine (if_neg (by simp [hr])).trans ?_
  cases sec <;> rfl

theorem execPortRefill_idle {sec : Bool} (h : s.freeDrbg l = none ∨ s.portReady sec l = false) :
    execPortRefill sec l s = .next s := by
  unfold execPortRefill
  cases hd : s.freeDrbg l with
  | none => rfl
  | some d => exact if_pos (by simp [h.resolve_left (by simp [hd])])

section
variable {d id : Nat} {u t : State} {j : Job} {b : Bytes}

/-- The first draw of a job: its random octets (R323). -/
theorem execDrbgGenerate_first (hd : s.freeDrbg l = some d) (hp : s.pick .rng = some (id, u)) (hj : u.job id = some j)
    (h1 : s.portReady true l = false) (h2 : s.portReady false l = false) (hn : j.plan = none)
    (hg : u.generate d j.drawLen j.predRes = (b, t)) : execDrbgGenerate l s =
      .next (t.setJob id (some { j with
        rnd := some b, drawTick := s.time.tick, started := j.drawnOnly,
        busyNs := if j.drawnOnly then drawNs j.drawLen j.predRes else 0 })).showRng := by
  simp only [execDrbgGenerate, hd, hp, hj, h1, h2, hn, hg, Bool.or_self, Bool.false_eq_true, if_false,
    Option.isNone_none, if_true, Bool.true_and]

/-- A later draw, of a search for primes: its next candidate (R276, R323). -/
theorem execDrbgGenerate_search (hd : s.freeDrbg l = some d) (hp : s.pick .rng = some (id, u)) (hj : u.job id = some j)
    (h1 : s.portReady true l = false) (h2 : s.portReady false l = false) (hn : j.plan.isSome = true)
    (hg : u.generate d (j.newSize / 16) false = (b, t)) : execDrbgGenerate l s =
      .next (t.setJob id (some { j with
        steps := j.steps.drop 1, drawTick := s.time.tick,
        search := j.search.map (fun x => { x with cand := rsaCandidate j.newSize b }) })).showRng := by
  simp only [execDrbgGenerate, hd, hp, hj, h1, h2, hg, Option.isNone_eq_false_iff.mpr hn, Bool.or_self,
    Bool.false_eq_true, if_false, Bool.false_and]

end

theorem execDrbgGenerate_idle (h : s.freeDrbg l = none ∨ s.pick .rng = none ∨ s.portReady true l = true ∨
    s.portReady false l = true) : execDrbgGenerate l s = .next s := by
  unfold execDrbgGenerate
  cases hd : s.freeDrbg l with
  | none => rfl
  | some d =>
    rcases hp : s.pick .rng with _ | ⟨id, u⟩
    · rfl
    dsimp only
    cases u.job id with
    | none => rfl
    | some j => exact if_pos (by simpa [hd, hp] using h)

theorem execRngSDataRead_held (h : 4 ≤ s.rng.sBuf.length) : execRngSDataRead s =
    .next ({ s with readValue := leNat (s.rng.sBuf.take 4), rng := { s.rng with sBuf := s.rng.sBuf.drop 4 } } : State).showRng :=
  congrArg Host.Outcome.next (if_neg (Nat.not_lt.mpr h))

theorem execRngSDataRead_short (h : s.rng.sBuf.length < 4) :
    execRngSDataRead s = .next { s.putBit .RNG_S_STATUS_UNDERRUN true with readValue := 0 } :=
  congrArg Host.Outcome.next (if_pos h)

theorem execRngNsDataRead_held (h : 4 ≤ s.rng.nsBuf.length) : execRngNsDataRead s =
    .next ({ s with readValue := leNat (s.rng.nsBuf.take 4), rng := { s.rng with nsBuf := s.rng.nsBuf.drop 4 } } : State).showRng :=
  congrArg Host.Outcome.next (if_neg (Nat.not_lt.mpr h))

theorem execRngNsDataRead_short (h : s.rng.nsBuf.length < 4) :
    execRngNsDataRead s = .next { s.putBit .RNG_NS_STATUS_UNDERRUN true with readValue := 0 } :=
  congrArg Host.Outcome.next (if_pos h)

end

/-- Settles O33: each clause is a case above, the closing ones the frame of each command. -/
theorem randomBits : Obligations.RandomBits := by
  refine ⟨?_, fun s d hd hi hs hx h => execDrbgInstanceStall_due hd hi hs hx h, fun s sec l d => execPortRefill_ready,
    fun s => ⟨execRngSDataRead_held, execRngSDataRead_short, execRngNsDataRead_held, execRngNsDataRead_short⟩,
    fun _ => ⟨rfl, rfl⟩, ?_, ?_, ?_, ?_, ?_, ?_, ?_⟩
  · exact fun s d hd hi hu hs hp => ⟨_, execDrbgReseed_due hd hi hu hs hp, by rw [State.reseed_eq], by rw [State.reseed_eq]⟩
  · exact fun s l d id u j hd hp hj h1 h2 => ⟨fun hn b t => execDrbgGenerate_first hd hp hj h1 h2 hn,
      fun hn b t => execDrbgGenerate_search hd hp hj h1 h2 hn⟩
  · exact fun s d l sec => ⟨execDrbgReseed_idle, execDrbgInstanceStall_idle, execPortRefill_idle, execDrbgGenerate_idle⟩
  · intro s d
    simp only [List.forall_mem_cons, List.not_mem_nil, false_imp_iff, implies_true, and_true]
    exact ⟨.only_parts (execDrbgReseed_frame (Fr.refl _ s) rfl),
      .only_parts (execDrbgInstanceStall_frame (Fr.refl _ s) rfl)⟩
  · exact fun s _ => .only_parts (execDrbgGenerate_frame (Fr.refl _ s) rfl)
  · exact fun s _ _ => .only_parts (execPortRefill_frame (Fr.refl _ s) rfl)
  · intro s
    simp only [List.forall_mem_cons, List.not_mem_nil, false_imp_iff, implies_true, and_true]
    exact ⟨.only_parts (execRngSDataRead_frame (Fr.refl _ s) rfl),
      .only_parts (execRngNsDataRead_frame (Fr.refl _ s) rfl)⟩
  · intro s
    simp only [List.forall_mem_cons, List.not_mem_nil, false_imp_iff, implies_true, and_true]
    exact ⟨.only_parts (execRngSPrRequest_frame (Fr.refl _ s) rfl),
      .only_parts (execRngNsPrRequest_frame (Fr.refl _ s) rfl)⟩

end Sys2Proof.Machine
end

section
/-! Keys and services the units give the firmware: hallmarks, firmware storage keys, draws that come too late, the wrap
secret, the attestation key and the migration walk (R62, R340 to R343, R349, R356, R440, R442). -/

namespace Sys2Proof.Machine

/-! ## Hallmarks (R340, R356) -/

section
variable {s : State} {x : Nat}

theorem execHallmarkExtend_open (hx : x < 8) (h : 6 ≤ x ∨ s.ladder.hmClosed = false) :
    execHallmarkExtend x s = .next (s.extendHm x s.hmData) := if_pos (by grind)

theorem execHallmarkExtend_closed (h : x ≥ 8 ∨ (x < 6 ∧ s.ladder.hmClosed = true)) :
    execHallmarkExtend x s = .next s := if_neg (by grind)

end

/-! ## Firmware storage keys (R349, R356) -/

section
variable {s : State} {n : Nat}

/-- A lane takes a firmware storage key while secure firmware holds it idle (R349). -/
theorem State.laneTakesKey_eq_true : s.laneTakesKey n = true ↔ s.holder n = hcSecure ∧ (s.lane n).running = false := by
  have hp : permits storageDest .sym = true := by decide
  simp [State.laneTakesKey, hp]

theorem State.laneTakesKey_eq_false :
    s.laneTakesKey n = false ↔ s.holder n ≠ hcSecure ∨ (s.lane n).running = true := by
  rw [← Bool.not_eq_true, State.laneTakesKey_eq_true, not_and_or, Bool.not_eq_false]

/-- The request as KLD_FW_CTRL shows it (R356). -/
def State.storageAsked (s : State) (l : Bool) (v x n : Nat) : State :=
  (((s.putBit .KLD_FW_CTRL_SRC l).put .KLD_FW_CTRL_SVN v).put .KLD_FW_CTRL_INDEX x).put .KLD_FW_CTRL_LANE n

theorem execFwStorageKeyRequest_busy (l : Bool) (v x : Nat) (h : s.bit .KLD_FW_STATUS_BUSY = true) :
    execFwStorageKeyRequest l v x n s = .next s := if_pos h

section
variable {l : Bool} {v x : Nat}

/-- What bars a request whatever the ladder gives: the lane, or a security version above the unit's (R356). -/
def State.storageBarred (s : State) (l : Bool) (v n : Nat) : Bool :=
  !s.laneTakesKey (n % 16) || (l && v % 256 > s.svn)

theorem State.storageBarred_eq_true : s.storageBarred l v n = true ↔
    s.holder (n % 16) ≠ hcSecure ∨ (s.lane (n % 16)).running = true ∨ (l = true ∧ s.svn < v % 256) := by
  rw [State.storageBarred, Bool.or_eq_true, Bool.not_eq_true', State.laneTakesKey_eq_false, or_assoc, Bool.and_eq_true,
    decide_eq_true_eq]

/-- A request refused (R356). -/
theorem execFwStorageKeyRequest_refused (hb : s.bit .KLD_FW_STATUS_BUSY = false)
    (h : (s.storageAsked l v x n).storageBarred l v n = true ∨
      (s.storageAsked l v x n).storageKey l (v % 256) (x % 256) = none) :
    execFwStorageKeyRequest l v x n s = .next (s.storageAsked l v x n).refuseKey := by
  refine (if_neg (by simp [hb])).trans ?_
  by_cases hc : (s.storageAsked l v x n).storageBarred l v n = true
  · exact if_pos hc
  · refine (if_neg hc).trans ?_
    split
    next => rfl
    next k hk => cases (h.resolve_left hc).symm.trans hk

/-- A request taken: the root it uses is noted, and the key waits for its lane (R349, R356). -/
theorem execFwStorageKeyRequest_taken {k : Bytes} (hb : s.bit .KLD_FW_STATUS_BUSY = false)
    (h : (s.storageAsked l v x n).storageBarred l v n = false)
    (hk : (s.storageAsked l v x n).storageKey l (v % 256) (x % 256) = some k) {w : State}
    (hw : w = if l then (s.storageAsked l v x n).useRoot 1 (v % 256) ((s.storageAsked l v x n).lineageRoot (v % 256))
      else (s.storageAsked l v x n).useRoot 2 0 (s.storageAsked l v x n).measuredRoot) :
    execFwStorageKeyRequest l v x n s = .next (({ w with ladder := { w.ladder with fwRequest := some (n % 16, k) } } :
      State).putBit .KLD_FW_STATUS_BUSY true) := by
  subst hw
  refine (if_neg (by simp [hb])).trans ((if_neg (Bool.eq_false_iff.mp h)).trans ?_)
  split
  next hk' => cases hk.symm.trans hk'
  next k' hk' =>
    cases hk.symm.trans hk'
    rfl

end

theorem execFwStorageKeyDone_none (h : s.ladder.fwRequest = none) : execFwStorageKeyDone s = .next s := by
  simp only [execFwStorageKeyDone, h]

theorem execFwStorageKeyDone_asked {k : Bytes} (h : s.ladder.fwRequest = some (n, k)) : execFwStorageKeyDone s =
    if !s.laneTakesKey n then .next s.refuseKey
    else .next (((({ s with ladder := { s.ladder with fwRequest := none } } : State).setLane n
      { s.lane n with key := k, loaded := true }).putBit .KLD_FW_STATUS_BUSY false).putBit .KLD_FW_STATUS_DONE true) := by
  simp only [execFwStorageKeyDone, h]
  rfl

/-- One more, up to the greatest value. -/
theorem sat32_eq_min (v : Nat) : sat32 v = min (v + 1) 0xFFFFFFFF := by
  unfold sat32
  split <;> omega

/-- A refusal counts one more (R356). -/
theorem State.get_refuseKey (s : State) : s.refuseKey.get .KLD_REFUSED_COUNT = sat32 (s.get .KLD_REFUSED_COUNT) := by
  have hs : ((s.putBit .KLD_FW_STATUS_BUSY false).putBit .KLD_FW_STATUS_REFUSED true).get .KLD_REFUSED_COUNT =
      s.get .KLD_REFUSED_COUNT := by
    rw [State.get_putBit_apart _ _ _ _ (by decide) (by decide), State.get_putBit_apart _ _ _ _ (by decide) (by decide)]
  rw [State.refuseKey, State.get_count _ _ rfl rfl, ← sat32_eq_min]
  exact congrArg sat32 ((State.get_congr rfl _).trans hs)

theorem State.refuseKey_fwRequest (s : State) : s.refuseKey.ladder.fwRequest = none := by
  simp only [State.refuseKey, State.count_ladder]

theorem State.refuseKey_engines (s : State) : s.refuseKey.engines = s.engines := by
  simp only [State.refuseKey, State.count_engines, State.putBit_engines]

end

/-! ## Draws past CMD_TIMEOUT (R62) -/

section
variable {s : State} {i : Nat} {j : Job}

theorem execCmdTimeoutExpiry_none (h : s.job i = none) : execCmdTimeoutExpiry i s = .next s := by
  simp only [execCmdTimeoutExpiry, h]

theorem execCmdTimeoutExpiry_due (h : s.job i = some j) (hw : s.waitsDraw j = true)
    (ht : j.drawTick + s.cmdTimeout j.inst ≤ s.time.tick) : execCmdTimeoutExpiry i s =
      .next (({ s with rng := { s.rng with stalledJobs := sat32 s.rng.stalledJobs } } : State).setJob i
        (some { j with forced := some (.rngStalled, noDetail), ended := true, steps := [] })).settle.notePeaks := by
  rw [execCmdTimeoutExpiry, h]
  exact if_pos (by simp [hw, ht])

theorem execCmdTimeoutExpiry_waits (h : s.job i = some j)
    (hw : s.waitsDraw j = false ∨ s.time.tick < j.drawTick + s.cmdTimeout j.inst) :
    execCmdTimeoutExpiry i s = .next s := by
  rw [execCmdTimeoutExpiry, h]
  exact if_neg (by grind)

end

/-! ## The wrap secret (R442) -/

section
variable {s : State}

/-- What bars a new wrap secret (R442). -/
def State.wrapBarred (s : State) : Bool :=
  s.bb.wrapSecret.isSome || !s.bit .HST_STATUS_RNG_READY || s.zeroised ||
    (s.lifeCycle != lcProvision && s.lifeCycle != lcField)

theorem execLcsInitWrap_barred (h : s.bb.wrapSecret.isSome = true ∨ s.bit .HST_STATUS_RNG_READY = false ∨
    s.zeroised = true ∨ (s.lifeCycle ≠ lcProvision ∧ s.lifeCycle ≠ lcField)) : execLcsInitWrap s = .next s :=
  if_pos (by grind)

theorem execLcsInitWrap_draws {b : Bytes} {u v : State} (h : s.wrapBarred = false) (hb : s.drawBytes 32 = (b, u))
    (hv : v = { u with bb := { u.bb with wrapSecret := some b } }) : execLcsInitWrap s =
      .next (({ v with ladder := { v.ladder with vd := v.deviceSeed.map (fun d => shaChain d (255 - v.svn)) } } :
        State).fillRoots.showRoots.loadScramble.loadIdentity.putBit .LCS_INIT_DONE true) := by
  subst hv
  unfold execLcsInitWrap
  rw [if_neg (by simpa [State.wrapBarred] using h), hb]

theorem State.wrapBarred_eq_false (h1 : s.bb.wrapSecret = none) (h2 : s.bit .HST_STATUS_RNG_READY = true)
    (h3 : s.zeroised = false) (h4 : s.lifeCycle = lcProvision ∨ s.lifeCycle = lcField) : s.wrapBarred = false := by
  rcases h4 with h4 | h4 <;> simp [State.wrapBarred, h1, h2, h3, h4]

end

/-! ## The attestation key (R277, R440) -/

section
variable {s : State}

theorem execAttestKeyGenComplete_none (h : s.engines.akey = none) : execAttestKeyGenComplete s = .next s := by
  simp only [execAttestKeyGenComplete, h]

/-- The search ends: the key is pinned, its public part written, its endorsement kept where it could be signed. -/
theorem execAttestKeyGenComplete_ends {l : List Nat} {r nonce pub key : Bytes} {sig : Option Bytes} {u v w x y : State}
    (hl : s.engines.akey = some l)
    (hr : (({ s with engines := { s.engines with akey := none } } : State).akeyBusy l false).freshBytes 64 = (r, u))
    (hk : key = genKey 1 4096 r) (hp : pub = publicEncOf 1 4096 key) (hv : v = u.pinRun attestLabel key)
    (hw : w = v.deviceWrite (v.get .BGN_AKEY_DST_ADDR) (pub.take 512)) (hn : w.drawBytes 16 = (nonce, x))
    (hx : x.idSign (x.endorsementBody pub nonce) = (sig, y)) : execAttestKeyGenComplete s =
      .next (((sig.elim y (fun g => { y with
        lcs := { y.lcs with endorsement := x.endorsementBody pub nonce ++ g },
        ladder := { y.ladder with attest := some key } })).putBit .BGN_AKEY_STATUS_BUSY false).putBit
          .BGN_AKEY_STATUS_DONE true) := by
  simp only [execAttestKeyGenComplete, hl, hr, ← hk, ← hp, ← hv, ← hw, hn, hx]
  cases sig <;> rfl

end

/-! ## The migration walk (R343) -/

section
variable {s : State}

theorem execMigrateWalkStep_idle
    (h : s.store.walking = false ∨ s.strandOpen = false ∨ s.time.tick < s.store.walkTick) :
    execMigrateWalkStep s = .next s := if_pos (by grind)

/-- A step of the walk: the records of this tick; the last step ends the walk (R343). -/
theorem execMigrateWalkStep_due (hw : s.store.walking = true) (ho : s.strandOpen = true)
    (ht : s.store.walkTick ≤ s.time.tick) {u : State}
    (hu : u = ((s.walkAhead.filter s.walkTakes).take (s.odNat 0xB040 9 4096)).foldl State.walkPlace s) :
    execMigrateWalkStep s = if (s.walkAhead.filter s.walkTakes).length ≤ s.odNat 0xB040 9 4096 then
        .next ({ u with store := { u.store with walkTick := u.time.tick + 1, walking := false } }.event 0x0406 sevInfo
          u.store.migrated [])
      else .next { u with store := { u.store with walkTick := u.time.tick + 1 } } := by
  subst hu
  exact if_neg (by grind)

end

/-- Settles O34: each clause is a case above, the closing ones the frame of each command. -/
theorem firmwareUnits : Obligations.FirmwareUnits := by
  refine ⟨fun s x hx h => execHallmarkExtend_open hx h, fun s x hx h => execHallmarkExtend_closed (.inr ⟨hx, h⟩), ?_,
    fun s l v x n h => execFwStorageKeyRequest_busy l v x h, ?_, ?_, fun s x h => execHallmarkExtend_closed (.inl h),
    fun s => execFwStorageKeyDone_none, fun s i j => execCmdTimeoutExpiry_due, fun s i => execCmdTimeoutExpiry_none,
    fun s i j => execCmdTimeoutExpiry_waits, ?_, fun s => execLcsInitWrap_barred, ?_, ?_,
    fun s => execMigrateWalkStep_idle, ?_, ?_, ?_, ?_, ?_, ?_, ?_, ?_⟩
  · intro s l v x n u hb hu
    obtain rfl : u = s.storageAsked l v x n := hu
    refine ⟨fun h => execFwStorageKeyRequest_refused hb ?_, fun k w hh hr hv hk hw =>
      execFwStorageKeyRequest_taken hb ?_ hk hw⟩
    · rw [State.storageBarred_eq_true, or_assoc, or_assoc]
      exact h
    · rw [Bool.eq_false_iff, Ne, State.storageBarred_eq_true]
      rintro (h | h | ⟨h1, h2⟩)
      exacts [h hh, Bool.noConfusion (h.symm.trans hr), Nat.not_lt.mpr (hv h1) h2]
  · intro s n k hr hh hl
    exact (execFwStorageKeyDone_asked hr).trans (if_neg (by simp [State.laneTakesKey_eq_true.mpr ⟨hh, hl⟩]))
  · intro s n k hr h
    exact ⟨s.refuseKey, (execFwStorageKeyDone_asked hr).trans (if_pos (by simp [State.laneTakesKey_eq_false.mpr h])),
      s.get_refuseKey, s.refuseKey_fwRequest, s.refuseKey_engines⟩
  · intro s b u v h1 h2 h3 h4 hb hv
    exact execLcsInitWrap_draws (State.wrapBarred_eq_false h1 h2 h3 h4) hb hv
  · exact fun s => execAttestKeyGenComplete_none
  · intro s l r key pub nonce sig u v w x y hl hr hk hp hv hw hn hx
    have he := execAttestKeyGenComplete_ends hl hr hk hp hv hw hn hx
    refine ⟨?_, ?_⟩
    · rintro rfl
      exact he
    · rintro g rfl
      exact he
  · rintro s _ hw ho ht rfl
    refine ⟨fun hl => ⟨_, rfl, (execMigrateWalkStep_due hw ho ht rfl).trans ?_⟩, fun hl => ⟨_, rfl, ?_⟩⟩
    · rw [if_pos hl, List.take_of_length_le hl]
    · exact (execMigrateWalkStep_due hw ho ht rfl).trans (if_neg (Nat.not_le.mpr hl))
  · exact fun s _ => .only_parts (execCmdTimeoutExpiry_frame (Fr.refl _ s) rfl)
  · exact fun s => .only_parts (execMigrateWalkStep_frame (Fr.refl _ s) rfl)
  · exact fun s => .only_parts (execAttestKeyGenComplete_frame (Fr.refl _ s) rfl)
  · exact fun s _ => .only_parts (execHallmarkExtend_frame (Fr.refl _ s) rfl)
  · exact fun s _ _ _ _ => .only_parts (execFwStorageKeyRequest_frame (Fr.refl _ s) rfl)
  · exact fun s => .only_parts (execFwStorageKeyDone_frame (Fr.refl _ s) rfl)
  · exact fun s => .only_parts (execLcsInitWrap_frame (Fr.refl _ s) rfl)

end Sys2Proof.Machine
end

section
/-! Card ports from insertion to signature, and the signets a card's signature completes (R358 to R370, R375, R376). -/

namespace Sys2Proof.Machine

/-! ## Insertion and removal (R359, R362) -/

section
variable {s : State} {p : Nat}

theorem execCardInsert_none (hp : p > 1) : execCardInsert p s = .next s := if_pos hp

theorem execCardInsert_powered (hp : p ≤ 1) {u : State} (hu : u = s.putBit (presFld p) true)
    (h1 : u.portState p = psEmpty) (h2 : u.portEnabled p = true) (h3 : u.zeroised = false)
    (h4 : u.get (.PWR_GATEb_STATE 5) = 0) : execCardInsert p s =
      .next (((u.setPort p { CardPort.init with powered := true }).put (.CRD_Pp_STATUS_ERROR p) 0).setPortState p
        psActivating) := by
  subst hu
  exact (if_neg (Nat.not_lt.mpr hp)).trans (if_neg (by simp [h1, h2, h3, h4]))

theorem execCardInsert_seen (hp : p ≤ 1) {u : State} (hu : u = s.putBit (presFld p) true)
    (h : u.portState p ≠ psEmpty ∨ u.portEnabled p = false ∨ u.zeroised = true ∨ u.get (.PWR_GATEb_STATE 5) ≠ 0) :
    execCardInsert p s = .next u := by
  subst hu
  exact (if_neg (Nat.not_lt.mpr hp)).trans (if_pos (by grind))

theorem execCardRemove_none (hp : p > 1) : execCardRemove p s = .next s := if_pos hp

theorem execCardRemove_empty (hp : p ≤ 1) (h : s.portState p = psEmpty) :
    execCardRemove p s = .next (s.putBit (presFld p) false) :=
  (if_neg (Nat.not_lt.mpr hp)).trans (if_pos h)

/-- A card removed: the port is EMPTY, with an error unless its session had ended (R362). -/
theorem execCardRemove_held (hp : p ≤ 1) (h : s.portState p ≠ psEmpty) : execCardRemove p s =
    .next ((if s.portState p = psDone || s.portState p = psError then (s.putBit (presFld p) false).deactivate p
      else (s.putBit (presFld p) false).cardError p 0x0A).setPortState p psEmpty) :=
  (if_neg (Nat.not_lt.mpr hp)).trans (if_neg h)

end

/-! ## What a response of the card meets (R358 to R362) -/

section
variable (s : State) (p : Nat)

/-- Whether a port waits for the answer to the commands it has sent in activation. -/
def State.activating (l : List Nat) : Bool := p < 2 && s.portState p = psActivating && (s.port p).sent == l

/-- Whether a port waits for the answer to VERIFY_PIN. -/
def State.verifies : Bool := p < 2 && s.portState p = psPinWait && (s.port p).verifying

/-- Whether a port waits for the signature of its card. -/
def State.awaitsSig : Bool := p < 2 && s.portState p = psSigning && (s.port p).sig.isNone

end

section
variable {s : State} {p : Nat}

theorem State.activating_eq_true {l : List Nat} : s.activating p l = true ↔
    p < 2 ∧ s.portState p = psActivating ∧ (s.port p).sent = l := by
  simp [State.activating, and_assoc]

theorem State.activating_eq_false {l : List Nat} : s.activating p l = false ↔
    p > 1 ∨ s.portState p ≠ psActivating ∨ (s.port p).sent ≠ l := by
  grind [State.activating]

theorem State.verifies_eq_true : s.verifies p = true ↔
    p < 2 ∧ s.portState p = psPinWait ∧ (s.port p).verifying = true := by
  simp [State.verifies, and_assoc]

theorem State.verifies_eq_false : s.verifies p = false ↔
    p > 1 ∨ s.portState p ≠ psPinWait ∨ (s.port p).verifying = false := by
  grind [State.verifies]

theorem State.awaitsSig_eq_true : s.awaitsSig p = true ↔
    p < 2 ∧ s.portState p = psSigning ∧ (s.port p).sig = none := by
  simp [State.awaitsSig, and_assoc]

theorem State.awaitsSig_eq_false : s.awaitsSig p = false ↔
    p > 1 ∨ s.portState p ≠ psSigning ∨ (s.port p).sig ≠ none := by
  grind [State.awaitsSig, Option.isNone_iff_eq_none]

theorem State.activating_nil : s.activating p [] = (p < 2 && s.portState p = psActivating && (s.port p).sent.isEmpty) := by
  unfold State.activating
  cases (s.port p).sent <;> rfl

theorem execAtrTimeout_eq : execAtrTimeout p s = .next (if s.activating p [] then s.cardError p 1 else s) := by
  rw [State.activating_nil]
  exact (apply_ite Host.Outcome.next _ _ _).symm

theorem execAtrReceived_due {a b : Bool} {c : Option Nat} (h : s.activating p [] = true) : execAtrReceived p a b c s =
    if a && b then .next (s.setPort p { s.port p with f := (chooseFd c).1, d := (chooseFd c).2, sent := [0xA4] })
    else .next (s.cardError p 2) := if_pos (State.activating_nil ▸ h)

theorem execAtrReceived_idle {a b : Bool} {c : Option Nat} (h : s.activating p [] = false) :
    execAtrReceived p a b c s = .next s := if_neg (by rw [← State.activating_nil, h]; exact Bool.false_ne_true)

theorem execSelectResponse_eq (w : Nat) : execSelectResponse p w s = .next (if s.activating p [0xA4] then
    (if w = 0x9000 then s.setPort p { s.port p with sent := [0xA4, 0xCA] } else s.cardError p 3) else s) := by
  rw [apply_ite Host.Outcome.next, apply_ite Host.Outcome.next]
  rfl

theorem execGetInfoResponse_due {w n : Nat} {k : Bytes} (h : s.activating p [0xA4, 0xCA] = true) :
    execGetInfoResponse p w n k s = if w = 0x9000 && k.length = 97 then
      .next (((s.put (.CRD_Pp_STATUS_PIN_TRIES p) n).setPort p { s.port p with key := k }).identify p k)
    else .next (s.cardError p 3) := if_pos h

theorem execGetInfoResponse_idle {w n : Nat} {k : Bytes} (h : s.activating p [0xA4, 0xCA] = false) :
    execGetInfoResponse p w n k s = .next s := if_neg (Bool.eq_false_iff.mp h)

/-! ## The limits of a port, and the end of a session (R359, R362) -/

theorem execPinWaitTimeout_due (hp : p < 2) (h1 : s.portState p = psPinWait)
    (h2 : (s.port p).waitTick + s.inForceNat 0x1100 9 60000 ≤ s.time.tick) :
    execPinWaitTimeout p s = .next (s.cardError p 9) := if_pos (by simp [hp, h1, h2])

theorem execPinWaitTimeout_idle
    (h : p > 1 ∨ s.portState p ≠ psPinWait ∨ s.time.tick < (s.port p).waitTick + s.inForceNat 0x1100 9 60000) :
    execPinWaitTimeout p s = .next s := if_neg (by grind)

theorem execSigningTimeout_due (hp : p < 2) (h1 : s.portState p = psSigning)
    (h2 : (s.port p).pinTick + 10000 ≤ s.time.tick) : execSigningTimeout p s = .next (s.cardError p 9) :=
  if_pos (by simp [hp, h1, h2])

theorem execSigningTimeout_idle (h : p > 1 ∨ s.portState p ≠ psSigning ∨ s.time.tick < (s.port p).pinTick + 10000) :
    execSigningTimeout p s = .next s := if_neg (by grind)

theorem execCardDeactivate_live (hp : p < 2) (h1 : s.portState p ≠ psEmpty) (h2 : s.portState p ≠ psError) :
    execCardDeactivate p s = .next (s.cardDone p) := if_neg (by grind)

theorem execCardDeactivate_idle (h : p > 1 ∨ s.portState p = psEmpty ∨ s.portState p = psError) :
    execCardDeactivate p s = .next s := if_pos (by grind)

/-! ## The PIN, the statement and its signature (R360, R362) -/

/-- The statement is drawn, shown to the card and kept at the port, which signs. -/
theorem execVerifyPinResponse_accepted (h : s.verifies p = true) {m : Bytes} {u : State}
    (hm : s.cardStatement (s.port p).action = (m, u)) : execVerifyPinResponse p 0x9000 s =
    .next ((u.setPort p { u.port p with verifying := false, stmt := m, sent := (u.port p).sent ++ [0x2A] }).setPortState
      p psSigning) := by
  refine (if_pos h).trans ((if_pos rfl).trans ?_)
  rw [hm]

theorem execVerifyPinResponse_refused (h : s.verifies p = true) {w : Nat} (hw : w / 16 = 0x63C) :
    execVerifyPinResponse p w s = .next ((s.put (.CRD_Pp_STATUS_PIN_TRIES p) (w % 16)).cardError p 4) :=
  (if_pos h).trans ((if_neg (by omega)).trans (if_pos hw))

theorem execVerifyPinResponse_blocked (h : s.verifies p = true) : execVerifyPinResponse p 0x6983 s =
    .next ((s.put (.CRD_Pp_STATUS_PIN_TRIES p) 0).cardError p 5) :=
  (if_pos h).trans ((if_neg (by omega)).trans ((if_neg (by omega)).trans (if_pos rfl)))

theorem execVerifyPinResponse_other (h : s.verifies p = true) {w : Nat} (h1 : w ≠ 0x9000) (h2 : w / 16 ≠ 0x63C)
    (h3 : w ≠ 0x6983) : execVerifyPinResponse p w s = .next (s.cardError p 4) :=
  (if_pos h).trans ((if_neg h1).trans ((if_neg h2).trans (if_neg h3)))

theorem execVerifyPinResponse_idle (h : s.verifies p = false) (w : Nat) : execVerifyPinResponse p w s = .next s :=
  if_neg (Bool.eq_false_iff.mp h)

theorem execSignStatementResponse_due (h : s.awaitsSig p = true) (w : Nat) (g : Bytes) :
    execSignStatementResponse p w g s = if w = 0x9000 && g.length = 96 then
      .next (s.setPort p { s.port p with sig := some g }) else .next (s.cardError p 7) := if_pos h

theorem execSignStatementResponse_idle (h : s.awaitsSig p = false) (w : Nat) (g : Bytes) :
    execSignStatementResponse p w g s = .next s := if_neg (Bool.eq_false_iff.mp h)

/-- Whether PAIR_REPLY follows: an acceptance whose card has signed and whose transport key is not yet drawn. -/
def Ceremony.repliesNext (c : Ceremony) : Bool := !c.sender && c.carded && c.transport.isNone

/-- A signature that is verified does what its port was asked for. -/
theorem execCardSignatureVerified_done (hp : p ≤ 1) (h1 : s.portState p = psSigning) {g : Bytes}
    (h2 : (s.port p).sig = some g) (h3 : Config.verify cardParams (s.port p).key [] (s.port p).stmt g = true) {u : State}
    (hu : u = (s.cardVerified p (s.port p) g).finishCreate) : execCardSignatureVerified p s =
    .next (if (u.pair.ceremony.map Ceremony.repliesNext).getD false then u.pairReply else u).consumeToken := by
  unfold execCardSignatureVerified
  simp only [h2]
  rw [if_neg (by simp [h1, hp]), if_neg (by simp [h3]), ← hu]
  cases h : u.pair.ceremony <;> rfl

theorem execCardSignatureVerified_failed (hp : p ≤ 1) (h1 : s.portState p = psSigning) {g : Bytes}
    (h2 : (s.port p).sig = some g) (h3 : Config.verify cardParams (s.port p).key [] (s.port p).stmt g = false) :
    execCardSignatureVerified p s = .next (s.cardError p 7) := by
  unfold execCardSignatureVerified
  simp only [h2]
  rw [if_neg (by simp [h1, hp]), if_pos (by simp [h3])]

theorem execCardSignatureVerified_idle (h : p > 1 ∨ s.portState p ≠ psSigning ∨ (s.port p).sig = none) :
    execCardSignatureVerified p s = .next s := by
  unfold execCardSignatureVerified
  cases hg : (s.port p).sig with
  | none => simp only [hg]
  | some g =>
    simp only [hg]
    exact if_pos (by grind)

/-! ## The ends of a signet and of an armed zeroise (R366, R370) -/

theorem execSignetWindowEnd_before (h : s.time.tick < s.officers.signet.endTick) :
    execSignetWindowEnd s = .next s := if_neg (Nat.not_le.mpr h)

theorem State.endSignet_not_live (h : s.officers.signet.live = false) (st : SignetState) (code severity : Nat) :
    s.endSignet st code severity = s := if_neg (by simp [h])

theorem execSignetWindowEnd_not_live (h : s.officers.signet.live = false) : execSignetWindowEnd s = .next s :=
  ite_eq_right_iff.mpr fun _ => congrArg Host.Outcome.next (State.endSignet_not_live h _ _ _)

theorem execSignetWindowEnd_due (h1 : s.officers.signet.endTick ≤ s.time.tick) (h2 : s.officers.signet.live = true) :
    execSignetWindowEnd s = .next (if s.officers.signet.action = 2 then
      ((s.setSignet { s.officers.signet with state := .expired }).signetEvent 0x0604 sevWarning).tokenRecorded 4
      else (s.setSignet { s.officers.signet with state := .expired }).signetEvent 0x0604 sevWarning) :=
  (if_pos h1).trans (congrArg Host.Outcome.next (if_pos h2))

theorem execZeroiseArmExpiry_none (h : s.officers.zeroiseArm = none) : execZeroiseArmExpiry s = .next s := by
  simp only [execZeroiseArmExpiry, h]

theorem execZeroiseArmExpiry_some {n : Nat} (h : s.officers.zeroiseArm = some n) : execZeroiseArmExpiry s =
    if n + 600 ≤ s.time.tick then .next { s with officers := { s.officers with zeroiseArm := none } } else .next s := by
  simp only [execZeroiseArmExpiry, h, ge_iff_le]

end

/-- Settles O35: each clause is a case above, the closing ones the frame of each command. -/
theorem cards : Obligations.Cards := by
  refine ⟨fun s p hp => execCardInsert_powered hp rfl, fun s p hp => execCardInsert_seen hp rfl, ?_, ?_, ?_, ?_,
    fun s p hp => ⟨execPinWaitTimeout_due hp, execSigningTimeout_due hp, execCardDeactivate_live hp⟩, ?_, ?_, ?_, ?_,
    ?_, ?_, ?_, ?_, ?_, ?_, ?_, ?_, ?_, ?_, ?_, ?_⟩
  · intro s p hp h
    refine ⟨fun hd => (execCardRemove_held hp h).trans ?_, fun h1 h2 => (execCardRemove_held hp h).trans ?_⟩
    · rw [if_pos (by simpa using hd)]
    · rw [if_neg (by simp [h1, h2])]
  · intro s p hp h1 h2
    have h := State.activating_eq_true.mpr ⟨hp, h1, h2⟩
    refine ⟨execAtrTimeout_eq.trans (congrArg _ (if_pos h)), fun t x => ⟨execAtrReceived_due h, ?_⟩⟩
    rintro rfl
    exact ⟨execAtrReceived_due h, execAtrReceived_due h⟩
  · intro s p w hp h1 h2
    have h := (execSelectResponse_eq w).trans (congrArg _ (if_pos (State.activating_eq_true.mpr ⟨hp, h1, h2⟩)))
    exact ⟨fun hw => h.trans (congrArg _ (if_pos hw)), fun hw => h.trans (congrArg _ (if_neg hw))⟩
  · intro s p w n k hp h1 h2
    have h := State.activating_eq_true.mpr ⟨hp, h1, h2⟩
    exact ⟨fun hw hk => (execGetInfoResponse_due h).trans (if_pos (by simp [hw, hk])),
      fun hw => (execGetInfoResponse_due h).trans (if_neg (by grind))⟩
  · intro s p w m u hp h1 h2 hm
    have h := State.verifies_eq_true.mpr ⟨hp, h1, h2⟩
    refine ⟨?_, execVerifyPinResponse_refused h, ?_, execVerifyPinResponse_other h⟩
    · rintro rfl
      exact execVerifyPinResponse_accepted h hm
    · rintro rfl
      exact execVerifyPinResponse_blocked h
  · intro s p w g hp h1 h2
    have h := execSignStatementResponse_due (State.awaitsSig_eq_true.mpr ⟨hp, h1, h2⟩) w g
    exact ⟨fun hw hg => h.trans (if_pos (by simp [hw, hg])), fun hw => h.trans (if_neg (by grind))⟩
  · intro s p g u hp h1 h2 hu
    refine ⟨execCardSignatureVerified_failed hp h1 h2, fun hv => ?_⟩
    have h := execCardSignatureVerified_done hp h1 h2 hv hu
    refine ⟨fun hc => h.trans ?_, fun c hc hn => h.trans ?_, fun c hc h3 h4 h5 => h.trans ?_⟩
    · rw [hc]
      rfl
    · rw [hc, if_neg (by grind [Ceremony.repliesNext, Option.isNone_iff_eq_none])]
    · rw [hc, if_pos (by simp [Ceremony.repliesNext, h3, h4, h5])]
  · exact fun s p w n k g a b c => ⟨fun h => ⟨execCardInsert_none h, execCardRemove_none h⟩, execCardRemove_empty,
      fun h => ⟨execAtrTimeout_eq.trans (congrArg _ (if_neg (Bool.eq_false_iff.mp (State.activating_eq_false.mpr h)))),
        execAtrReceived_idle (State.activating_eq_false.mpr h)⟩,
      fun h => (execSelectResponse_eq w).trans
        (congrArg _ (if_neg (Bool.eq_false_iff.mp (State.activating_eq_false.mpr h)))),
      fun h => execGetInfoResponse_idle (State.activating_eq_false.mpr h), execPinWaitTimeout_idle,
      execSigningTimeout_idle, execCardDeactivate_idle,
      fun h => execVerifyPinResponse_idle (State.verifies_eq_false.mpr h) w,
      fun h => execSignStatementResponse_idle (State.awaitsSig_eq_false.mpr h) w g, execCardSignatureVerified_idle,
      execSignetWindowEnd_before, execZeroiseArmExpiry_none⟩
  · exact fun s => ⟨fun h1 h2 h3 => (execSignetWindowEnd_due h1 h2).trans (congrArg _ (if_neg h3)),
      fun h1 h2 h3 => (execSignetWindowEnd_due h1 h2).trans (congrArg _ (if_pos h3)), execSignetWindowEnd_not_live⟩
  · exact fun s n h => ⟨fun hn => (execZeroiseArmExpiry_some h).trans (if_pos hn),
      fun hn => (execZeroiseArmExpiry_some h).trans (if_neg (Nat.not_le.mpr hn))⟩
  · intro s a
    simp only [List.forall_mem_cons, List.not_mem_nil, false_imp_iff, implies_true, and_true]
    exact ⟨.only_parts (execCardInsert_frame (Fr.refl _ s) rfl), .only_parts (execCardDeactivate_frame (Fr.refl _ s) rfl)⟩
  · intro s a
    simp only [List.forall_mem_cons, List.not_mem_nil, false_imp_iff, implies_true, and_true]
    exact ⟨.only_parts (execCardRemove_frame (Fr.refl _ s) rfl), .only_parts (execAtrTimeout_frame (Fr.refl _ s) rfl),
      .only_parts (execPinWaitTimeout_frame (Fr.refl _ s) rfl), .only_parts (execSigningTimeout_frame (Fr.refl _ s) rfl)⟩
  · exact fun s _ _ _ _ => .only_parts (execAtrReceived_frame (Fr.refl _ s) rfl)
  · exact fun s _ _ => .only_parts (execSelectResponse_frame (Fr.refl _ s) rfl)
  · exact fun s _ _ _ _ => .only_parts (execGetInfoResponse_frame (Fr.refl _ s) rfl)
  · exact fun s _ _ => .only_parts (execVerifyPinResponse_frame (Fr.refl _ s) rfl)
  · exact fun s _ _ _ => .only_parts (execSignStatementResponse_frame (Fr.refl _ s) rfl)
  · exact fun s _ => .kept_parts (execCardSignatureVerified_frame (Fr.refl _ s) rfl)
  · exact fun s => .only_parts (execSignetWindowEnd_frame (Fr.refl _ s) rfl)
  · exact fun s => .only_parts (execZeroiseArmExpiry_frame (Fr.refl _ s) rfl)

end Sys2Proof.Machine
end

section
/-! Writes of signet, card, factory, session, time and power entries, and of the entries that program OTP (R361, R365,
R366, R370, R431 to R441, R450, R461, R495, R502, R514, R517). -/

namespace Sys2Proof.Machine

/-! ## What an accepted write goes on with -/

section
variable {s t u : State} {q : OdReq} {i b : Nat} {v g : Bytes} {x : List StrandItem} {row : OdRow} {e : OdResult}

theorem State.paid_of_row (hr : odRow i b = some row) :
    s.paid i b = if s.needsSignet row i then s.consumeSignet else ([], s) := by
  rw [State.paid, hr, Option.any_some]

/-- An accepted write is executed, and the answers that are due are handed over (R503, R505). -/
theorem State.odSet_executed (hp : s.passes q i b v = true) (hr : odRow i b = some row) :
    s.odSet q i b v x = (s.executeWrite q row i b row.type.code v x).respond := by
  obtain ⟨r, hr', h⟩ := State.odSet_of_passes s q i b v x hp
  obtain rfl : row = r := Option.some.inj (hr.symm.trans hr')
  exact h

/-- A volatile write that its own effect refuses is answered with that result (R450, R514). -/
theorem State.odSet_notTaken (hp : s.passes q i b v = true) (he : volatileEntry i b = true) (hs : s.paid i b = (g, u))
    (ht : u.volatileWrite q i b v g x = (some e, t)) : s.odSet q i b v x = (t.refuseWrite q i b v e).respond := by
  obtain ⟨row, hr, h⟩ := State.odSet_of_passes s q i b v x hp
  rw [State.paid_of_row hr] at hs
  simp only [volatileEntry, odIs, hr, Option.map_some, Option.getD_some, Bool.and_eq_true, Bool.not_eq_true',
    beq_iff_eq] at he
  obtain ⟨⟨hc, hi⟩, hf⟩ := he
  rw [h]
  simp only [State.executeWrite, hs, hc, hi, Bool.false_eq_true, if_false, ht]
  rw [if_neg, if_neg]
  · exact fun hb => Bool.false_ne_true (hf.symm.trans (by grind))
  · exact fun hb => Bool.false_ne_true (hf.symm.trans (by grind))

/-- The write of a limited-write setting: its record, then the programming its value names (R436, R502). -/
theorem State.odSet_otp {typ : OdType} (hp : s.passes q i b v = true) (hr : odRow i b = some row)
    (hc : row.cls = .otp) (hy : row.type = typ) (hs : s.paid i b = (g, u)) : s.odSet q i b v x =
    (((u.awaiting q).queueRec (u.writeRec q i b typ.code v g none)).programs u.agent.nextReply i b v).respond := by
  subst hy
  rw [State.paid_of_row hr] at hs
  rw [State.odSet_executed hp hr]
  simp only [State.executeWrite, hs, hc, State.programs]
  rfl

variable {c : Instr} (hx : exec c s = .next (s.odSet q i b v x))
include hx

theorem exec_notTaken (he : volatileEntry i b = true) (hp : s.passes q i b v = true) (hs : s.paid i b = (g, u))
    (ht : u.volatileWrite q i b v g x = (some e, t)) : exec c s = .next (t.refuseWrite q i b v e).respond :=
  hx.trans (congrArg _ (State.odSet_notTaken hp he hs ht))

theorem exec_programs {typ : OdType} (hr : odRow i b = some row) (hc : row.cls = .otp) (hy : row.type = typ)
    (hp : s.passes q i b v = true) (hs : s.paid i b = (g, u)) : exec c s =
    .next (((u.awaiting q).queueRec (u.writeRec q i b typ.code v g none)).programs u.agent.nextReply i b v).respond :=
  hx.trans (congrArg _ (State.odSet_otp hp hr hc hy hs))

end

/-! ## Effects that turn on the state (R450, R461, R495, R514) -/

section
variable {s u : State} {q : OdReq} {v g : Bytes} {x : List StrandItem}

theorem State.volatileWrite_nextPulse (h : (s.writeDetail q 0).2 = u) : s.volatileWrite q 0x6010 1 v g x =
    (none, u.nextPulse (leNat v) (s.writeDetail q 0).1) := by
  unfold State.volatileWrite
  rw [if_neg (by decide), if_pos (by decide)]
  cases hw : s.writeDetail q 0 with
  | mk d w =>
    obtain rfl : w = u := by rw [← h, hw]
    simp only [State.timeWrite, hw, if_true]

theorem State.volatileWrite_nap (h : (s.requestNap false).power.mode = .nap) : s.volatileWrite q 0x8000 2 v g x =
    (none, s.requestNap false) := congrArg (·, s.requestNap false) (if_pos (beq_iff_eq.mpr h))

theorem State.volatileWrite_nap_barred (h : (s.requestNap false).power.mode ≠ .nap) :
    s.volatileWrite q 0x8000 2 v g x = (some .wrongState, s.requestNap false) :=
  congrArg (·, s.requestNap false) (if_neg (mt beq_iff_eq.mp h))

/-- CLOSE of a Puesh session (R495). -/
def closeRow : OdRow := ⟨0xA020, 0x08, 8, 1, .u8, .wo, .volatile, 0, 1, 1, [.manager, .secure]⟩

theorem odRow_close {n : Nat} (h : n ≤ 7) : odRow (0xA020 + n) 8 = some closeRow :=
  odRow_of_span (lo := 0xA020) (hi := 0xA028) (by decide) rfl (by omega) (by omega)

theorem volatileEntry_close {n : Nat} (h : n ≤ 7) : volatileEntry (0xA020 + n) 8 = true := by
  have hi : inSpan (0xA020 + n) 0x2400 0x2800 = false := by
    simp only [inSpan, Bool.and_eq_false_imp, decide_eq_true_eq, decide_eq_false_iff_not]
    omega
  rw [volatileEntry, odIs, odRow_close h, hi, decide_eq_false (p := 0xA020 + n = 0xF000) (by omega)]
  rfl

theorem State.volatileWrite_close {n : Nat} (h : n ≤ 7) : s.volatileWrite q (0xA020 + n) 8 v g x =
    (none, s.closeSession n) := by
  have hs : inSpan (0xA020 + n) 0xA020 0xA028 = true := by
    simp only [inSpan, Bool.and_eq_true, decide_eq_true_eq]
    omega
  have h1 : ¬inSpan (0xA020 + n) 0x5000 0x6000 = true := by
    simp only [inSpan, Bool.and_eq_true, decide_eq_true_eq]
    omega
  have h2 : ¬inSpan (0xA020 + n) 0x6000 0x7000 = true := by
    simp only [inSpan, Bool.and_eq_true, decide_eq_true_eq]
    omega
  unfold State.volatileWrite
  rw [if_neg h1, if_neg h2, if_neg (by omega), if_neg (by omega), if_neg (by omega), if_pos hs,
    Nat.add_sub_cancel_left]

end

/-- The response to a read, numbered `n`, with its result and output (R504). -/
def OdReq.fetched (q : OdReq) (n : Nat) (r : OdResult) (out : Bytes) : Reply :=
  { q.reply n with result := some r, output := out, kind := 0x81 }

/-- A read's response is due at once (R504). -/
def State.fetchAnswered (u : State) (q : OdReq) (r : OdResult) (out : Bytes) : State :=
  let l := u.agent.replies ++ [q.fetched u.agent.nextReply r out]
  ({ u with agent := { u.agent with replies := l, nextReply := u.agent.nextReply + 1 } } : State).respond

/-- NEXT_RECORD is answered with what the read of its entry gives (R479). -/
theorem execNextRecord_eq {s u : State} {q : OdReq} {o c : Nat} {r : OdResult} {out : Bytes}
    (h : s.odRead q 0x6030 2 o c = (r, out, u)) : execNextRecord q o c s = .next (u.fetchAnswered q r out) := by
  unfold execNextRecord State.odFetch
  rw [h]
  rfl

/-- Settles O49: each accepted write is its entry's effect, answered; a refused one the first check that failed. -/
theorem officerSettings : Obligations.OfficerSettings := by
  refine ⟨fun s q v h => exec_answered rfl rfl h rfl rfl, fun s q v h => exec_answered rfl rfl h rfl rfl,
    fun s q v h => exec_answered rfl rfl h rfl rfl, fun s q v h => exec_answered rfl rfl h rfl rfl,
    fun s q v h => exec_answered rfl rfl h rfl rfl, ?_,
    fun s q n v hn h => exec_answered rfl (volatileEntry_close hn) h (State.paid_free (odRow_close hn) rfl)
      (State.volatileWrite_close hn),
    fun s q v u h hu => exec_answered rfl rfl h rfl (State.volatileWrite_nextPulse hu),
    fun s q v h => ⟨fun hn => exec_answered rfl rfl h rfl (State.volatileWrite_nap hn),
      fun hn => exec_notTaken rfl rfl h rfl (State.volatileWrite_nap_barred hn)⟩,
    fun s q v u h => ⟨fun hd => exec_answered rfl rfl h rfl hd, fun e hd => exec_notTaken rfl rfl h rfl hd⟩,
    fun s q o c x b u => execNextRecord_eq,
    fun s q v k e => ⟨exec_refused rfl, exec_refused rfl, exec_refused rfl, exec_refused rfl, exec_refused rfl,
      exec_refused rfl, exec_refused rfl, exec_refused rfl, exec_refused rfl, exec_refused rfl⟩, ?_, ?_, ?_⟩
  · intro s q v p hp h
    obtain rfl | rfl : p = 0 ∨ p = 1 := by omega
    · exact exec_answered rfl rfl h rfl rfl
    · exact exec_answered rfl rfl h rfl rfl
  · intro s q n v
    simp only [List.forall_mem_cons, List.not_mem_nil, false_imp_iff, implies_true, and_true]
    exact ⟨answers_of_odSet rfl, answers_of_odSet rfl⟩
  · intro s q v
    simp only [List.forall_mem_cons, List.not_mem_nil, false_imp_iff, implies_true, and_true]
    exact ⟨answers_of_odSet rfl, answers_of_odSet rfl, answers_of_odSet rfl, answers_of_odSet rfl, answers_of_odSet rfl,
      answers_of_odSet rfl, answers_of_odSet rfl, answers_of_odSet rfl⟩
  · exact fun s q o c => .only_parts (execNextRecord_frame (Fr.refl _ s) rfl)

/-! ## Programming OTP (R246, R431, R434, R436, R441) -/

section
variable {s : State}

theorem execOtpProgramComplete_none (h : s.lcs.programming = none) : execOtpProgramComplete s = .next s := by
  simp only [execOtpProgramComplete, h]

/-- What a programming that has ended leaves, before its write is answered. -/
def State.programmed (s : State) (w : OtpWrite) : State :=
  ({ s with lcs := { s.lcs.complete w with programming := none } }.showOtp).afterOtp w

theorem execOtpProgramComplete_unasked {w : OtpWrite} (h : s.lcs.programming = some (w, none)) :
    execOtpProgramComplete s = .next (s.programmed w) := by
  simp only [execOtpProgramComplete, h, State.programmed]

theorem execOtpProgramComplete_asked {w : OtpWrite} {k : Nat} (h : s.lcs.programming = some (w, some k)) :
    execOtpProgramComplete s = .next (((s.programmed w).answer k .ok 0).flushReplies).settleMailbox := by
  simp only [execOtpProgramComplete, h, State.programmed]

theorem State.afterOtp_other {w : OtpWrite} (h : ∀ x d l, w ≠ .install x d l) : s.afterOtp w = s := by
  cases w with
  | install x d l => exact absurd rfl (h x d l)
  | lifeCycle | signer | revoke | svnFloor | cosig | compat | provision => rfl

theorem State.afterOtp_received (x : Bytes) (d : Nat) : s.afterOtp (.install x d []) = s.installReceived x d := by
  simp only [State.afterOtp, List.isEmpty_nil, if_true]

theorem State.afterOtp_created (x : Bytes) (d : Nat) (a : Bytes) (l : List Bytes) :
    s.afterOtp (.install x d (a :: l)) = s.installCreated x d (a :: l) := by
  simp only [State.afterOtp, List.isEmpty_cons, Bool.false_eq_true, if_false]

variable {v : Bytes}

theorem State.limitedWrite_lifeCycle (hp : s.lcs.programming = none) (h : s.lifecycleNextOk (leNat v) = true) :
    s.limitedWrite 0x9000 2 v = some (.lifeCycle (leNat v)) := by
  simp [State.limitedWrite, hp, h]

theorem State.limitedWrite_signer (hp : s.lcs.programming = none) {k : Nat} (h1 : 1 ≤ k) (h3 : k ≤ 3)
    (h : (s.lcs.slot k).state = 0) : s.limitedWrite (0x9010 + k) 1 v = some (.signer k (padTo 64 v)) := by
  unfold State.limitedWrite
  simp only [Nat.add_sub_cancel_left]
  rw [if_neg (by simp [hp]), if_neg (by simp), if_pos (by simp; omega), if_pos (by simp [h]; omega)]

theorem State.limitedWrite_svnFloor (hp : s.lcs.programming = none) (h1 : s.lcs.floor ≤ leNat v)
    (h2 : leNat v ≤ s.svn) : s.limitedWrite 0x9020 1 v = some (.svnFloor (leNat v)) := by
  simp [State.limitedWrite, hp, h1, h2]

theorem State.limitedWrite_compat (hp : s.lcs.programming = none) (h1 : leNat v = 1) (h2 : s.lcs.compat = false)
    (h3 : s.lcs.running = true) (h4 : s.bit .LCS_BOOT_COMPAT = false) :
    s.limitedWrite 0x9022 1 v = some .compat := by
  simp [State.limitedWrite, hp, h1, h2, h3, h4]

/-- HASHES of a boot signer (R436). -/
def hashesRow : OdRow := ⟨0x9010, 0x01, 4, 1, (.octet 64), .rwl, .otp, 0, 64, 64, [.manager, .officer, .secure]⟩

/-- REVOKE of a boot signer (R436). -/
def revokeRow : OdRow := ⟨0x9010, 0x02, 4, 1, .u8, .rwl, .otp, 0, 1, 1, [.manager, .officer, .secure]⟩

theorem odRow_hashes {k : Nat} (h : k ≤ 3) : odRow (0x9010 + k) 1 = some hashesRow :=
  odRow_of_span (lo := 0x9010) (hi := 0x9014) rfl rfl (by omega) (by omega)

theorem odRow_revoke {k : Nat} (h : k ≤ 3) : odRow (0x9010 + k) 2 = some revokeRow :=
  odRow_of_span (lo := 0x9010) (hi := 0x9014) rfl rfl (by omega) (by omega)

/-- LIFECYCLE_NEXT (R434). -/
def nextRow : OdRow := ⟨0x9000, 0x02, 1, 1, .u8, .rwl, .otp, 0, 1, 4, [.manager, .officer, .secure]⟩

/-- SVN_FLOOR (R436). -/
def floorRow : OdRow := ⟨0x9020, 0x01, 1, 1, .u8, .rwl, .otp, 0, 0, 255, [.manager, .officer, .secure]⟩

/-- COSIG_REQUIRED (R436). -/
def cosigRow : OdRow := ⟨0x9021, 0x01, 1, 1, .bool, .rwl, .otp, 0, 0, 1, [.manager, .officer, .secure]⟩

/-- COMPAT_DISABLE (R436). -/
def compatRow : OdRow := ⟨0x9022, 0x01, 1, 1, .bool, .rwl, .otp, 0, 0, 1, [.manager, .officer, .secure]⟩

theorem odRow_next : odRow 0x9000 2 = some nextRow := by decide

theorem odRow_floor : odRow 0x9020 1 = some floorRow := by decide

theorem odRow_cosig : odRow 0x9021 1 = some cosigRow := by decide

theorem odRow_compat : odRow 0x9022 1 = some compatRow := by decide

/-- PROVISION_RUN of the factory settings (R441). -/
def provisionRow : OdRow := ⟨0xF000, 0x01, 1, 1, .u8, .wo, .volatile, 0, 1, 1, [.manager, .secure]⟩

/-- SIGNER0 of the factory settings (R436, R441). -/
def signer0Row : OdRow := ⟨0xF000, 0x02, 1, 1, (.octet 64), .wo, .volatile, 0, 64, 64, [.manager, .secure]⟩

theorem odRow_provision : odRow 0xF000 1 = some provisionRow := by decide

theorem odRow_signer0 : odRow 0xF000 2 = some signer0Row := by decide

variable {q : OdReq}

theorem State.executeWrite_provision : s.executeWrite q provisionRow 0xF000 1 provisionRow.type.code v [] =
    (s.awaiting q).provisionRun s.agent.nextReply := by
  unfold State.executeWrite
  simp only [State.needsSignet, provisionRow, State.awaiting, Bool.false_eq_true, if_false]
  rw [if_neg (by decide), if_pos (by decide)]

theorem State.executeWrite_signer0 : s.executeWrite q signer0Row 0xF000 2 signer0Row.type.code v [] =
    (s.awaiting q).startOtp (.signer 0 (padTo 64 v)) (some s.agent.nextReply) := by
  unfold State.executeWrite
  simp only [State.needsSignet, signer0Row, State.awaiting, Bool.false_eq_true, if_false]
  rw [if_neg (by decide), if_neg (by decide), if_pos (by decide)]

theorem execProvisionRun_accepted (h : s.passes q 0xF000 1 v = true) :
    execProvisionRun q v s = .next ((s.awaiting q).provisionRun s.agent.nextReply).respond := by
  rw [execProvisionRun, State.odSet_executed h odRow_provision, State.executeWrite_provision]

theorem execSigner0_accepted (h : s.passes q 0xF000 2 v = true) : execSigner0 q v s =
    .next ((s.awaiting q).startOtp (.signer 0 (padTo 64 v)) (some s.agent.nextReply)).respond := by
  rw [execSigner0, State.odSet_executed h odRow_signer0, State.executeWrite_signer0]

end

/-- Settles O51: an accepted write starts its programming with its record queued, a refused one is the first check that
failed, and the programming's end is `State.programmed`. -/
theorem limitedWrites : Obligations.LimitedWrites := by
  refine ⟨?_, ?_, ?_, ?_, ?_, ?_, ?_, ?_, fun s => execOtpProgramComplete_none, ?_,
    fun s q v k e => ⟨exec_refused rfl, exec_refused rfl, exec_refused rfl, exec_refused rfl, exec_refused rfl,
      exec_refused rfl, exec_refused rfl, exec_refused rfl⟩, ?_, ?_,
    fun s => .only_parts (execOtpProgramComplete_frame (Fr.refl _ s) rfl)⟩
  · rintro s q v g u _ _ h hg rfl rfl
    exact exec_programs rfl odRow_next rfl rfl h hg
  · rintro s q k v g u _ _ hk h hg rfl rfl
    exact exec_programs rfl (odRow_hashes hk) rfl rfl h hg
  · rintro s q k v g u _ _ hk h hg rfl rfl
    exact exec_programs rfl (odRow_revoke hk) rfl rfl h hg
  · rintro s q v g u _ _ h hg rfl rfl
    exact exec_programs rfl odRow_floor rfl rfl h hg
  · rintro s q v g u _ _ h hg rfl rfl
    exact exec_programs rfl odRow_cosig rfl rfl h hg
  · rintro s q v g u _ _ h hg rfl rfl
    exact exec_programs rfl odRow_compat rfl rfl h hg
  · rintro s q v _ _ rfl rfl
    exact ⟨execProvisionRun_accepted, execSigner0_accepted⟩
  · intro s w n u v hw hu h1 h2 h3
    have hv : v = s.programmed w := by
      rw [State.programmed, ← hu]
      cases w with
      | install x d l =>
        cases l with
        | nil => rw [State.afterOtp_received, h2 x d rfl]
        | cons a l => rw [State.afterOtp_created, h3 x d a l rfl]
      | lifeCycle | signer | revoke | svnFloor | cosig | compat | provision =>
        exact (h1 (by simp)).trans (State.afterOtp_other (by simp)).symm
    subst hv
    refine ⟨?_, ?_⟩
    · rintro rfl
      exact execOtpProgramComplete_unasked hw
    · rintro k rfl
      exact execOtpProgramComplete_asked hw
  · rintro s v _ hp rfl
    exact ⟨State.limitedWrite_lifeCycle hp, fun k => State.limitedWrite_signer hp, State.limitedWrite_svnFloor hp,
      State.limitedWrite_compat hp⟩
  · intro s q v
    simp only [List.forall_mem_cons, List.not_mem_nil, false_imp_iff, implies_true, and_true]
    exact ⟨answers_of_odSet rfl, answers_of_odSet rfl, answers_of_odSet rfl, answers_of_odSet rfl, answers_of_odSet rfl,
      answers_of_odSet rfl⟩
  · intro s q k v
    simp only [List.forall_mem_cons, List.not_mem_nil, false_imp_iff, implies_true, and_true]
    exact ⟨answers_of_odSet rfl, answers_of_odSet rfl⟩

end Sys2Proof.Machine
end

section
/-! Commits of the Bezel and the world registers, the worlds of the cores, and the Bezel after main reset (R380 to R385,
R389 to R403). -/

namespace Sys2Proof.Machine

/-! ## Commits and the mode (R394, R397, R398, R402) -/

section
variable {s : State}

theorem execBezelCommit_refused (h : s.get .BZL_GEN_ACTIVE_GEN ≠ s.get .BZL_GEN_COMMITTED_GEN) :
    execBezelCommit s = .next (s.count .BZL_LOCK_REFUSED_COUNT) := if_pos (bne_iff_ne.mpr h)

theorem execBezelCommit_taken (h : s.get .BZL_GEN_ACTIVE_GEN = s.get .BZL_GEN_COMMITTED_GEN) {u : State}
    (hu : u = s.put .BZL_GEN_COMMITTED_GEN ((s.get .BZL_GEN_COMMITTED_GEN + 1) % 65536)) : execBezelCommit s =
    .next ({ u with worlds := { s.worlds with bzl := u.regSpan 0x10001000 0x10005000 } }.putBit
      .BZL_STATUS_DRAINING true) := by
  subst hu
  exact if_neg (by simp [h])

theorem execWorldCommit_refused (h : s.get .WLD_GEN_ACTIVE_GEN ≠ s.get .WLD_GEN_COMMITTED_GEN) :
    execWorldCommit s = .next (s.count .BZL_LOCK_REFUSED_COUNT) := if_pos (bne_iff_ne.mpr h)

theorem execWorldCommit_taken (h : s.get .WLD_GEN_ACTIVE_GEN = s.get .WLD_GEN_COMMITTED_GEN) {u : State}
    (hu : u = s.put .WLD_GEN_COMMITTED_GEN ((s.get .WLD_GEN_COMMITTED_GEN + 1) % 65536)) : execWorldCommit s =
    .next { u with worlds := { s.worlds with wld := u.regSpan 0x10100100 0x10100300 } } := by
  subst hu
  exact if_neg (by simp [h])

theorem State.modeOpen_eq_false (h : s.worlds.modeWritten = true ∨ s.lifeCycle = lcBlank ∨ s.lifeCycle = lcAnalysis ∨
    (s.bit .LCS_BOOT_RECOVERY = true ∧ s.deviceState = dsRecovery)) : s.modeOpen = false := by
  grind [State.modeOpen]

theorem State.writeMode_open (h : s.modeOpen = true) (b : Bool) : s.writeMode b =
    ({ s with worlds := { s.worlds with modeWritten := true } }.putBit .BZL_MODE_SERVICE b).putBit .BZL_STATUS_MODE b :=
  if_pos h

theorem State.writeMode_closed (h : s.modeOpen = false) (b : Bool) : s.writeMode b = s := if_neg (by simp [h])

/-! ## The check of an access and its fault record (R389, R390, R393, R403) -/

theorem State.bezelCheck_noRegion {g k a n : Nat} (h : s.regionOf a = none) : s.bezelCheck g k a n = some (3, 0, 0) := by
  simp only [State.bezelCheck, h]

theorem State.bezelCheck_region {g k a n r f : Nat} (h : s.regionOf a = some (r, f)) : s.bezelCheck g k a n =
    if s.service && s.regionOf (a + n - 1) != some (r, f) then some (2, r, f)
    else if facetPermits (s.facetWord r f) g k then none else some (1, r, f) := by
  simp only [State.bezelCheck, h]

/-- The event of a Bezel fault at `a`, and its interrupt where it is enabled (R403). -/
def State.bezelReport (s : State) (a : Nat) : State :=
  let t := s.event 0x0701 sevWarning a (s.faultDetail [0x10000020, 0x10000024, 0x10000028, 0x1000002C])
  if t.bit .BZL_CTRL_IRQ_EN then t.raiseIrq 2 else t

theorem State.bit_count_apart (f g : Fld) (hw : f.lo + f.width ≤ 32) (h : f.apart g) : (s.count f).bit g = s.bit g :=
  State.bit_put_apart s f g _ hw h

/-- The fields of a first fault, but the generation (R403). -/
def State.faultFields (s : State) (g k a n x r f : Nat) : State :=
  let u := (((s.put .BZL_FAULT_ADDR_LO_ADDR (a % 2 ^ 32)).put .BZL_FAULT_ADDR_HI_ADDR (a / 2 ^ 32)).putBit
    .BZL_FAULT_INFO_VALID true).put .BZL_FAULT_INFO_KIND x
  ((((((u.putBit .BZL_FAULT_INFO_WRITE (k == akWrite || k == akAtomic)).putBit .BZL_FAULT_INFO_EXEC (k == akExec)).put
    .BZL_FAULT_INFO_AGENT g).put .BZL_FAULT_INFO_FACET f).put .BZL_FAULT_INFO_REGION r).put .BZL_FAULT_INFO_LENGTH (n - 1))

/-- A Bezel fault is counted, kept where it is the first and noted where it is not, and reported (R403). -/
theorem State.bezelFault_eq {g k a n x r f : Nat} {u : State} (hu : u = s.count .BZL_FAULTS_COUNT) :
    s.bezelFault g k a n x r f = (if u.bit .BZL_FAULT_INFO_VALID then u.putBit .BZL_FAULT_INFO_OVERFLOW true
      else ((u.faultFields g k a n x r f).put .BZL_FAULT_GEN_GEN
        ((u.faultFields g k a n x r f).get .BZL_GEN_COMMITTED_GEN)).putBit .BZL_STATUS_FAULT true).bezelReport a := by
  subst hu
  rfl

theorem State.bezelFault_again {g k a n x r f : Nat} (h : s.bit .BZL_FAULT_INFO_VALID = true) :
    s.bezelFault g k a n x r f =
      ((s.count .BZL_FAULTS_COUNT).putBit .BZL_FAULT_INFO_OVERFLOW true).bezelReport a := by
  have hv : (s.count .BZL_FAULTS_COUNT).bit .BZL_FAULT_INFO_VALID = true :=
    (State.bit_count_apart _ _ (by decide) (by decide)).trans h
  rw [State.bezelFault_eq rfl, if_pos hv]

theorem State.bezelFault_first {g k a n x r f : Nat} {v : State} (h : s.bit .BZL_FAULT_INFO_VALID = false)
    (hv : v = (s.count .BZL_FAULTS_COUNT).faultFields g k a n x r f) : s.bezelFault g k a n x r f =
      ((v.put .BZL_FAULT_GEN_GEN (v.get .BZL_GEN_COMMITTED_GEN)).putBit .BZL_STATUS_FAULT true).bezelReport a := by
  have hb : ¬(s.count .BZL_FAULTS_COUNT).bit .BZL_FAULT_INFO_VALID = true := by
    rw [State.bit_count_apart _ _ (by decide) (by decide), h]
    exact Bool.false_ne_true
  rw [State.bezelFault_eq rfl, if_neg hb, ← hv]

end

/-- Settles O36: each clause is a case above, the closing ones the frame of each command. -/
theorem bezel : Obligations.Bezel := by
  refine ⟨fun s => execBezelCommit_refused, fun s u h hu => ⟨execBezelCommit_taken h hu, ?_⟩, fun s => ⟨rfl, rfl⟩,
    fun s b => ⟨fun h => congrArg Host.Outcome.next (State.writeMode_open h b),
      fun h => congrArg Host.Outcome.next (State.writeMode_closed (State.modeOpen_eq_false h) b)⟩,
    fun s u => ⟨execWorldCommit_refused, fun h hu => execWorldCommit_taken h hu⟩, fun s g k a n => ⟨State.bezelCheck_noRegion, ?_⟩, ?_, ?_,
    ?_, ?_, fun s _ => .only_parts (execBezelModeWrite_frame (Fr.refl _ s) rfl)⟩
  · rw [hu, State.get_put_same _ _ _ (by decide)]
    exact Nat.mod_mod _ _
  · intro r f h
    refine ⟨fun hs hn => (State.bezelCheck_region h).trans (if_pos (by simp [hs, hn])),
      fun hs => (State.bezelCheck_region h).trans (if_neg (by grind))⟩
  · rintro s g k a n x r f _ h rfl
    exact State.bezelFault_again h
  · rintro s g k a n x r f _ v _ h rfl hv rfl
    exact State.bezelFault_first h hv
  · intro s
    simp only [List.forall_mem_cons, List.not_mem_nil, false_imp_iff, implies_true, and_true]
    exact ⟨.only_parts (execBezelCommit_frame (Fr.refl _ s) rfl), .only_parts (execWorldCommit_frame (Fr.refl _ s) rfl)⟩
  · intro s
    simp only [List.forall_mem_cons, List.not_mem_nil, false_imp_iff, implies_true, and_true]
    exact ⟨.only_parts (execBezelGenActive_frame (Fr.refl _ s) rfl),
      .only_parts (execWorldGenActive_frame (Fr.refl _ s) rfl)⟩

/-! ## The worlds of the cores, slices and the cache ways (R380 to R385) -/

section
variable {s : State} {c p n m : Nat}

theorem execWsw_beyond (h : c > 3) : execWsw c p s = .next s := if_pos h

theorem execWsw_eq (h : c ≤ 3) : execWsw c p s =
    if s.coreSecure c then .next (s.coreException c .illegalInstruction) else .next (s.enterSecure c p) :=
  if_neg (Nat.not_lt.mpr h)

theorem execWret_beyond (h : c > 3) : execWret c s = .next s := if_pos h

theorem execWret_eq (h : c ≤ 3) : execWret c s =
    if s.coreSecure c then .next (s.leaveSecure c) else .next (s.coreException c .illegalInstruction) :=
  if_neg (Nat.not_lt.mpr h)

theorem execSecureInterruptTaken_due (h1 : n < 32) (h2 : nbit (s.get .WLD_IRQ_PEND_PEND) n = true)
    (h3 : s.irqSecure n = true) (h4 : s.coreSecure (s.irqCore n) = false) : execSecureInterruptTaken n p s =
    .next ((s.put .WLD_IRQ_PEND_PEND (setNbit (s.get .WLD_IRQ_PEND_PEND) n false)).enterSecure (s.irqCore n) p) :=
  if_pos (by simp [h1, h2, h3, h4])

theorem execSecureInterruptTaken_idle (h : n ≥ 32 ∨ nbit (s.get .WLD_IRQ_PEND_PEND) n = false ∨ s.irqSecure n = false ∨
    s.coreSecure (s.irqCore n) = true) : execSecureInterruptTaken n p s = .next s := if_neg (by grind)

theorem execWorldSliceExpiry_due (h1 : n < 32) (h2 : nbit (s.get .WLD_IRQ_PEND_PEND) n = true)
    (h3 : s.irqSecure n = false) (h4 : s.coreSecure (s.irqCore n) = true) (h5 : s.get .WLD_SLICE_US ≠ 0)
    (h6 : n ∉ s.worlds.sliced) : execWorldSliceExpiry n s =
    .next (({ s with worlds := { s.worlds with sliced := n :: s.worlds.sliced } } : State).raiseIrq 3) :=
  if_pos (by simp [h1, h2, h3, h4, h5, h6])

theorem execWorldSliceExpiry_raised (h : n ∈ s.worlds.sliced) : execWorldSliceExpiry n s = .next s :=
  if_neg (by simp [h])

theorem execWorldSliceExpiry_idle (h : n ≥ 32 ∨ nbit (s.get .WLD_IRQ_PEND_PEND) n = false ∨ s.irqSecure n = true ∨
    s.coreSecure (s.irqCore n) = false ∨ s.get .WLD_SLICE_US = 0) : execWorldSliceExpiry n s = .next s :=
  if_neg (by grind)

theorem execL2WaysWrite_taken (h0 : s.bit .WLD_L2_WAYS_BUSY = false) (h1 : 2 ≤ popCount 16 m) (h2 : popCount 16 m ≤ 14)
    (h3 : m < 65536) (h4 : m ≠ s.get .WLD_L2_WAYS_SECURE) : execL2WaysWrite m s =
    .next (({ s with worlds := { s.worlds with l2Mask := some m } } : State).putBit .WLD_L2_WAYS_BUSY true) :=
  (if_neg (by grind)).trans (if_neg h4)

theorem execL2WaysWrite_refused (h : popCount 16 m < 2 ∨ 14 < popCount 16 m ∨ m ≥ 65536 ∨
    s.bit .WLD_L2_WAYS_BUSY = true) : execL2WaysWrite m s = .next s := if_pos (by grind)

theorem execL2WaysWrite_same (h : m = s.get .WLD_L2_WAYS_SECURE) : execL2WaysWrite m s = .next s :=
  ite_eq_left_iff.mpr fun _ => if_pos h

theorem execL2WayFlushComplete_none (h : s.worlds.l2Mask = none) : execL2WayFlushComplete s = .next s := by
  simp only [execL2WayFlushComplete, h]

theorem execL2WayFlushComplete_some (h : s.worlds.l2Mask = some m) : execL2WayFlushComplete s =
    .next ((({ s with worlds := { s.worlds with l2Mask := none } } : State).put .WLD_L2_WAYS_SECURE m).putBit
      .WLD_L2_WAYS_BUSY false) := by
  simp only [execL2WayFlushComplete, h]

end

/-- Settles O37: each clause is a case above, the closing ones the frame of each command. -/
theorem worldSwitches : Obligations.WorldSwitches := by
  refine ⟨?_, fun s c p => rfl, fun s n p => execSecureInterruptTaken_due,
    fun s n h1 h2 h3 h4 h5 => ⟨execWorldSliceExpiry_due h1 h2 h3 h4 h5, execWorldSliceExpiry_raised⟩,
    fun s m h => ⟨execL2WaysWrite_taken h, fun h => execL2WaysWrite_refused (by omega)⟩,
    fun s m => execL2WayFlushComplete_some, ?_, ?_, fun s _ => .only_parts (execWret_frame (Fr.refl _ s) rfl),
    fun s _ => .only_parts (execWorldSliceExpiry_frame (Fr.refl _ s) rfl),
    fun s _ => .only_parts (execL2WaysWrite_frame (Fr.refl _ s) rfl),
    fun s => .only_parts (execL2WayFlushComplete_frame (Fr.refl _ s) rfl)⟩
  · exact fun s c p hc => ⟨fun h => (execWsw_eq hc).trans (if_neg (by simp [h])),
      fun h => (execWsw_eq hc).trans (if_pos h), fun h => (execWret_eq hc).trans (if_pos h),
      fun h => (execWret_eq hc).trans (if_neg (by simp [h]))⟩
  · refine fun s c p n m => ⟨fun h => ⟨execWsw_beyond h, execWret_beyond h⟩, execSecureInterruptTaken_idle,
      execWorldSliceExpiry_idle, ?_, execL2WayFlushComplete_none⟩
    rintro (h | h | h)
    · exact execL2WaysWrite_refused (.inr (.inr (.inl h)))
    · exact execL2WaysWrite_refused (.inr (.inr (.inr h)))
    · exact execL2WaysWrite_same h
  · intro s a b
    simp only [List.forall_mem_cons, List.not_mem_nil, false_imp_iff, implies_true, and_true]
    exact ⟨.only_parts (execWsw_frame (Fr.refl _ s) rfl), .only_parts (execSecureInterruptTaken_frame (Fr.refl _ s) rfl)⟩

/-! ## After main reset (R399) -/

/-- The distance of a row's registers. -/
def RegRow.step (r : RegRow) : Nat := if r.stride = 0 then 1 else r.stride

/-- Whether a row holds the register at `a`. -/
def RegRow.holds (a : Nat) (r : RegRow) : Bool :=
  r.base ≤ a && (a - r.base) / r.step < r.count && (a - r.base) % r.step == 0

theorem RegRow.step_pos (r : RegRow) : 0 < r.step := by
  unfold RegRow.step
  split <;> omega

theorem RegRow.holds_iff {r : RegRow} {a : Nat} : r.holds a = true ↔
    r.base ≤ a ∧ a - r.base < r.count * r.step ∧ (a - r.base) % r.step = 0 := by
  simp only [RegRow.holds, Bool.and_eq_true, decide_eq_true_eq, beq_iff_eq, Nat.div_lt_iff_lt_mul r.step_pos, and_assoc]

/-- Whether a row could hold a register at offset `k` of one of the Bezel's regions. -/
def RegRow.meetsRegion (k : Nat) (r : RegRow) : Bool :=
  r.base < 0x10005000 && 0x10001000 ≤ r.base + r.count * r.step && (r.step != 64 || r.base % 64 == k)

/-- CTRL of the Bezel's regions but the last (R399). -/
def regionCtrlRow : RegRow :=
  ⟨0x10001008, 255, 0x40, [⟨13, 8, .rws, 0xc, 12, 40, 1⟩, ⟨1, 1, .rws, 0x0, 0, 1, 1⟩, ⟨0, 0, .rws, 0x0, 0, 1, 1⟩]⟩

theorem RegRow.meetsRegion_of_holds {r : RegRow} {a : Nat} (h : r.holds a = true) (h1 : 0x10001000 ≤ a)
    (h2 : a < 0x10005000) : r.meetsRegion (a % 64) = true := by
  obtain ⟨hb, hc, hm⟩ := RegRow.holds_iff.mp h
  simp only [RegRow.meetsRegion, Bool.and_eq_true, decide_eq_true_eq, Bool.or_eq_true, bne_iff_ne, beq_iff_eq]
  refine ⟨⟨by omega, by omega⟩, or_iff_not_imp_left.mpr fun hs => ?_⟩
  rw [not_not.mp hs] at hm
  omega

theorem regRow_regionCtrl {n : Nat} (h : n < 255) : regRow (0x10001008 + 0x40 * n) = some regionCtrlRow := by
  have hk : (0x10001008 + 0x40 * n) % 64 = 8 := by omega
  refine find_of_imp (q := RegRow.meetsRegion 8) (fun x hx => ?_) (by decide) (RegRow.holds_iff.mpr ?_)
  · exact hk ▸ RegRow.meetsRegion_of_holds hx (by omega) (by omega)
  · rw [show regionCtrlRow.step = 64 from rfl, show regionCtrlRow.base = 0x10001008 from rfl,
      show regionCtrlRow.count = 255 from rfl]
    omega

theorem regReset_of_row {a : Nat} {r : RegRow} (h : regRow a = some r) :
    regReset a = r.fields.foldl (fun w f => setBits w f.lo (f.hi - f.lo + 1) f.reset) 0#32 := by
  simp only [regReset, h]

theorem get_reset_regionEnable {n : Nat} (h : n < 255) : State.reset.get (.BZL_RGNn_CTRL_ENABLE n) = 0 := by
  change getBits (regReset (0x10001008 + 0x40 * n)) 0 1 = 0
  rw [regReset_of_row (regRow_regionCtrl h)]
  decide

theorem OnlyRegs.worlds_eq {l : List Nat} {s t : State} (h : OnlyRegs l s t) : t.worlds = s.worlds :=
  (congrArg State.worlds h.1 :)

/-- The registers of the alarm unit and of the card ports that a main reset shows again. -/
def shownRegs : List Nat := [0x10A00000, 0x10300000, 0x10300014, 0x10300040, 0x10300044, 0x10300048, 0x10300050]

theorem State.showAlarm_onlyRegs (s : State) : OnlyRegs shownRegs s s.showAlarm :=
  .putBit (.put (.put (.put (.put (.put (.refl _ s) (by decide)) (by decide)) (by decide)) (by decide)) (by decide))
    (by decide)

/-- Of the worlds' piece a main reset keeps nothing. -/
theorem State.mainReset_worlds (s : State) : s.mainReset.worlds = State.reset.worlds := by
  unfold State.mainReset
  extract_lets +onlyGivenNames u pres t
  have hp : ∀ f v, (pres f v).worlds = v.worlds := fun f v => State.putBit_worlds v f _
  exact (State.showAlarm_onlyRegs _).worlds_eq.trans ((hp _ _).trans (hp _ _))

/-- Every register but those shown again is at its reset value. -/
theorem State.mainReset_reg_of_not_mem (s : State) {a : Nat} (h : a ∉ shownRegs) :
    s.mainReset.reg a = State.reset.reg a := by
  unfold State.mainReset
  extract_lets +onlyGivenNames u pres t
  have hp : ∀ f v, f.addr ∈ shownRegs → (pres f v).reg a = v.reg a := fun f v hf =>
    State.reg_putBit_ne v f _ a (fun e => h (e ▸ hf))
  rw [(State.showAlarm_onlyRegs _).2 a h]
  exact (hp _ _ (by decide)).trans (hp _ _ (by decide))

theorem State.mainReset_reg (s : State) {a : Nat} (h1 : 0x10000000 ≤ a) (h2 : a < 0x10200000) :
    s.mainReset.reg a = State.reset.reg a := by
  refine s.mainReset_reg_of_not_mem ?_
  simp only [shownRegs, List.mem_cons, List.not_mem_nil, or_false]
  omega

/-- Settles O55: the register map gives the Bezel's values after reset, and a main reset shows none of its registers
again. -/
theorem resetBezel : Obligations.ResetBezel :=
  ⟨⟨by decide, by decide, fun _ => rfl, by decide, by decide, by decide, by decide, by decide,
    fun _ => get_reset_regionEnable⟩, fun s => ⟨s.mainReset_worlds, fun _ => s.mainReset_reg⟩⟩

end Sys2Proof.Machine
end

section
/-! Events that firmware posts, the histogram of an event record, and the pulse (R456 to R467, R472 to R480). -/

namespace Sys2Proof.Machine

/-! ## Firmware's events (R480) -/

section
variable {s : State} {sev code : Nat}

theorem execEvrPostS_posts (h1 : 0xF000 ≤ code) (h2 : code ≤ 0xFEFF) (h3 : sev ≤ sevCritical) {u : State}
    (hu : u = s.put .EVR_POST_S_SEVERITY sev) : execEvrPostS sev code s =
    .next (u.event code sev (u.get64 .EVR_POST_S_LO_VALUE .EVR_POST_S_HI_VALUE) []) := by
  subst hu
  exact if_pos (by simp [h1, h2, h3])

theorem execEvrPostS_outside (h : code < 0xF000 ∨ 0xFEFF < code ∨ sevCritical < sev) :
    execEvrPostS sev code s = .next (s.put .EVR_POST_S_SEVERITY sev) := if_neg (by grind)

theorem execEvrPostN_posts (h1 : 0xFF00 ≤ code) (h2 : code ≤ 0xFFFF) (h3 : sev ≤ sevWarning) {u : State}
    (hu : u = s.put .EVR_POST_N_SEVERITY sev) : execEvrPostN sev code s =
    .next (u.event code sev (u.get64 .EVR_POST_N_LO_VALUE .EVR_POST_N_HI_VALUE) []) := by
  subst hu
  exact if_pos (by simp [h1, h2, h3])

theorem execEvrPostN_outside (h : code < 0xFF00 ∨ 0xFFFF < code ∨ sevWarning < sev) :
    execEvrPostN sev code s = .next (s.put .EVR_POST_N_SEVERITY sev) := if_neg (by grind)

end

/-- Settles O52: a post inside its world's limits is an event, and outside them the register's severity alone. -/
theorem eventPosts : Obligations.EventPosts := by
  refine ⟨fun s sev code h1 h2 h3 => execEvrPostS_posts h1 h2 h3 rfl, fun s sev code => execEvrPostS_outside,
    fun s sev code h1 h2 h3 => execEvrPostN_posts h1 h2 h3 rfl, fun s sev code => execEvrPostN_outside, fun s a b => ?_⟩
  simp only [List.forall_mem_cons, List.not_mem_nil, false_imp_iff, implies_true, and_true]
  exact ⟨.only_parts (execEvrPostS_frame (Fr.refl _ s) rfl), .only_parts (execEvrPostN_frame (Fr.refl _ s) rfl)⟩

/-! ## The histogram of a record (R472, R473) -/

/-- The bin of a value is the octet of its highest set bit. -/
theorem histBin_eq_iff {v b : Nat} : histBin v = b ↔
    (v = 0 ∧ b = 0) ∨ (v ≠ 0 ∧ 8 * b ≤ Nat.log2 v ∧ Nat.log2 v ≤ 8 * b + 7) := by
  unfold histBin
  split <;> omega

theorem getD_histAdd {h : List Nat} {b : Nat} (hb : b < h.length) (k : Nat) :
    (histAdd h k).getD b 0 = if k = b then sat32 (h.getD b 0) else h.getD b 0 := by
  unfold histAdd
  rw [List.getD_eq_getElem?_getD, List.getElem?_set]
  split
  · next hk => simp [hk, hb]
  · rw [List.getD_eq_getElem?_getD]

theorem histAdd_empty (k : Nat) : histAdd (List.replicate 8 0) k = (List.replicate 8 0).set k 1 := by
  unfold histAdd
  congr 1
  rw [List.getD_eq_getElem?_getD, List.getElem?_replicate]
  split <;> rfl

/-- A record newly made for an occurrence (R472, R473). -/
def State.firstRec (s : State) (code sev v : Nat) (d : Bytes) : EventRec :=
  { code := code, severity := sev, isOpen := true, unpowered := false, short := false, archived := false,
    timeState := timeCodeRec s.time.state, seq := s.evr.nextSeq, windowStart := s.time.window.start,
    minute := s.time.window.minute, count := 1, firstTick := s.time.tick, lastTick := s.time.tick, least := v, most := v,
    firstValue := v, lastValue := v, valueOr := v, hist := (List.replicate 8 0).set (histBin v) 1,
    surplusIn := mget (fun _ => 0) s.evr.folded code, detail := padTo 384 d }

/-- Taking a slot changes only the staging area (R474). -/
theorem State.evMake_eq (s : State) (k : Nat) :
    s.evMake k = { s with evr := { s.evr with staged := (s.evMake k).evr.staged } } := by
  unfold State.evMake
  split
  · split <;> rfl
  · rfl

theorem State.evSlot_event_first {s : State} {code sev v k : Nat} {d : Bytes}
    (hf : s.evList.find? (fun e => e.2.isOpen && e.2.code == code && e.2.severity == sev) = none)
    (hl : 4 ≤ sev ∨ s.evOpened code < 4) (hk : s.evTake sev = some k) :
    (s.event code sev v d).evSlot k = some (s.firstRec code sev v d) := by
  have hn : ¬(decide (sev < 4) && !false && decide (s.evOpened code ≥ 4)) = true := by grind
  unfold State.event State.eventAt
  simp only [hf, if_neg hn, hk, histAdd_empty]
  rw [State.evMake_eq]
  split <;> exact mget_mset_same (fun _ => none) s.evr.slots k (some (s.firstRec code sev v d))

/-- Settles O53: the bin that is raised is the one of the value's octet, in a record joined and in a record made. -/
theorem eventBins : Obligations.EventBins := by
  refine ⟨fun r v tick st b hr hb _ => ?_, fun s code sev v d hf k => State.evSlot_event_first hf⟩
  refine (getD_histAdd (hr ▸ hb) _).trans ?_
  simp only [histBin_eq_iff]

/-! ## The pulse (R456 to R467) -/

section
variable {s : State} {sp sub : Nat}

theorem execPpsEdge_off (h : s.mainRuns = false) : execPpsEdge sp sub s = .next s := if_pos (by simp [h])

/-- An edge of a grid without PPS_LOCK: a candidate more, the first one, or the one that locks it. -/
theorem execPpsEdge_unlocked (hm : s.mainRuns = true) (hl : s.time.ppsLock = false) {good : Bool} {n : Nat} {q : List Nat}
    (hg : good = (s.time.candidates ≥ 1 && 999900000 ≤ sp && sp ≤ 1000100000))
    (hn : n = if good then s.time.candidates + 1 else 1) (hq : q = if good then sp :: s.time.qual else []) :
    execPpsEdge sp sub s = if n ≥ 4 then .next (s.lock sub q)
      else .next ({ s with time := { s.time with candidates := n, qual := q } } : State).showTime := by
  subst hg hn hq
  exact (if_neg (by simp [hm])).trans (if_pos (by simp [hl]))

theorem execPpsEdge_qualifies (hm : s.mainRuns = true) (hl : s.time.ppsLock = false) (h0 : 1 ≤ s.time.candidates)
    (h1 : 999900000 ≤ sp) (h2 : sp ≤ 1000100000) : execPpsEdge sp sub s =
    if s.time.candidates + 1 ≥ 4 then .next (s.lock sub (sp :: s.time.qual))
    else .next { s with time := { s.time with candidates := s.time.candidates + 1, qual := sp :: s.time.qual } }.showTime :=
  execPpsEdge_unlocked hm hl (good := true) (by simp [h0, h1, h2]) rfl rfl

theorem execPpsEdge_starts (hm : s.mainRuns = true) (hl : s.time.ppsLock = false)
    (h : s.time.candidates = 0 ∨ sp < 999900000 ∨ 1000100000 < sp) : execPpsEdge sp sub s =
    .next { s with time := { s.time with candidates := 1, qual := [] } }.showTime :=
  (execPpsEdge_unlocked hm hl (good := false) (by grind) rfl rfl).trans (if_neg (by simp))

/-- How far an edge lies from the end of the second in progress (R457). -/
def State.edgePhase (s : State) (sub : Nat) : Int :=
  ((s.tickAt (s.time.tick - s.time.boundaryTick) + sub +
    (if s.time.late && decide (s.time.tick - s.time.boundaryTick = 0) then 100000 else 0) : Nat) : Int) - s.period

theorem execPpsEdge_accepted (hm : s.mainRuns = true) (hl : s.time.ppsLock = true)
    (hk : s.time.tick - s.time.boundaryTick ≥ 999) {ph : Int} (hp : ph = s.edgePhase sub) (ha : ph.natAbs ≤ 100000) :
    execPpsEdge sp sub s =
      .next ((((s.tickFirst sub).acceptEdge (s.time.rejectedNs + sp) ph).boundary false).applyTod).tickLast := by
  subst hp
  refine (if_neg (by simp [hm])).trans ((if_neg (by simp [hl])).trans (if_pos ?_))
  rw [Bool.and_eq_true, decide_eq_true_eq, decide_eq_true_eq]
  exact ⟨hk, ha⟩

theorem execPpsEdge_rejected (hm : s.mainRuns = true) (hl : s.time.ppsLock = true) {ph : Int} (hp : ph = s.edgePhase sub)
    (h : s.time.tick - s.time.boundaryTick < 999 ∨ ph.natAbs > 100000) : execPpsEdge sp sub s =
    .next (((s.modTime (fun t => { t with rejectedNs := t.rejectedNs + sp })).count .TIM_PPS_REJECTED_COUNT).event
      0x0106 sevInfo ph.natAbs []) := by
  subst hp
  refine (if_neg (by simp [hm])).trans ((if_neg (by simp [hl])).trans (if_neg ?_))
  rw [Bool.and_eq_true, decide_eq_true_eq, decide_eq_true_eq, not_and_or, not_le, not_le]
  exact h

theorem execHoldoverEntry_idle (h : s.time.ppsLock = false ∨ s.time.sinceEdge < 2000) :
    execHoldoverEntry s = .next s := if_pos (by grind)

theorem execHoldoverLoss_idle (h : s.time.state ≠ .holdover ∨ s.time.sinceEdge < 86400000) :
    execHoldoverLoss s = .next s := if_neg (by grind)

theorem execHoldoverLoss_due (h1 : s.time.state = .holdover) (h2 : s.time.sinceEdge ≥ 86400000) :
    execHoldoverLoss s = .next s.discardAnchor := if_pos (by simp [h1, h2])

theorem execHoldoverEntry_unanchored (h1 : s.time.ppsLock = true) (h2 : s.time.sinceEdge ≥ 2000)
    (h3 : s.time.state ≠ .anchored) : execHoldoverEntry s =
    .next { s with time := { s.time with ppsLock := false, candidates := 0, qual := [], pendingTod := none } }.showTime :=
  (if_neg (by simp [h1, h2])).trans (if_neg (by simp [State.modTime, h3]))

theorem execHoldoverEntry_anchored (h1 : s.time.ppsLock = true) (h2 : s.time.sinceEdge ≥ 2000)
    (h3 : s.time.state = .anchored) {w : MinuteWindow} (hw : w = { s.time.window with holdover := true }) {t : TimeUnit}
    (ht : t = { s.time with ppsLock := false, candidates := 0, qual := [], pendingTod := none, window := w }) :
    execHoldoverEntry s =
      .next (({ s with time := t }.setTimeState .holdover).event 0x0102 sevWarning s.time.sinceEdge []).showTime := by
  subst ht hw
  exact (if_neg (by simp [h1, h2])).trans (if_pos (by simp [State.modTime, h3]))

theorem State.raiseIrq_time (s : State) (n : Nat) : (s.raiseIrq n).time = s.time :=
  (State.raiseIrq_frame (Fr.refl 134217729 s) rfl).1 .time (by decide)

theorem State.hostEvent_time (s : State) (f : Fld) : (s.hostEvent f).time = s.time :=
  (State.hostEvent_frame (Fr.refl 17 s) rfl).1 .time (by decide)

/-- A change of the time state leaves the rest of the time unit (R464). -/
theorem State.setTimeState_time (s : State) (st : TimeState) : (s.setTimeState st).time = { s.time with state := st } := by
  unfold State.setTimeState
  split
  · next h => rw [← beq_iff_eq.mp h]
  · extract_lets t v w
    have hw : w.time = { s.time with state := st } := by
      simp only [w, v, t, State.putBit_time, State.hostEvent_time, State.put_time, State.modTime]
    split
    · exact (State.raiseIrq_time w 18).trans hw
    · exact hw

theorem State.discardAnchor_held (h1 : s.time.state ≠ .unanchored) (h2 : s.time.window.start < s.time.tick) :
    s.discardAnchor = ((({ s with time := { s.time with anchor := none, pendingTod := none } }.setTimeState
      .unanchored).closeMinute s.time.tick).event 0x0103 sevWarning s.time.sinceEdge []).showTime := by
  unfold State.discardAnchor
  rw [if_neg (by simp [h1])]
  simp only [State.setTimeState_time, State.modTime, if_pos h2]

theorem execPpsWindowTimeout_idle
    (h : s.mainRuns = false ∨ s.time.ppsLock = false ∨ s.time.tick < s.time.boundaryTick + 999) :
    execPpsWindowTimeout s = .next s := if_pos (by grind)

/-- A pending time of day is dropped where its pulse did not come (R461). -/
def State.dropTod (s : State) : State :=
  match s.time.pendingTod with
  | some v => (s.modTime (fun t => { t with pendingTod := none })).event 0x010A sevNotice v []
  | none => s

/-- The second ends late with its pulse missed, and the minute with it where it is due (R457, R11). -/
def State.pulseMissed (s : State) : State :=
  (((s.tickFirst (s.period - s.tickAt 999 + 100000)).boundary true).modTime (fun t => { t with missed := t.missed + 1 })).dueMinute

/-- A missed pulse is reported and counted (R457). -/
def State.missNoted (s : State) : State :=
  let u := s.event 0x0107 sevInfo s.time.tick []
  u.odStore 0x6002 6 (some (le 4 (sat32 (u.odNat 0x6002 6 0))))

theorem execPpsWindowTimeout_due (h1 : s.mainRuns = true) (h2 : s.time.ppsLock = true)
    (h3 : s.time.tick ≥ s.time.boundaryTick + 999) :
    execPpsWindowTimeout s = .next s.pulseMissed.missNoted.dropTod.tickLast := by
  unfold execPpsWindowTimeout
  rw [if_neg (by simp [h1, h2, h3])]
  extract_lets a b c d e
  have he : e = d.dropTod := by
    clear_value d
    rfl
  exact congrArg (fun u => Host.Outcome.next (State.tickLast u)) he

end

/-- Settles O16: each clause is a case above, the closing ones the frame of each command. -/
theorem pulse : Obligations.Pulse := by
  refine ⟨fun s sp sub hm hl => ⟨fun h0 h1 h2 => ?_, fun h0 h1 h2 => ?_, execPpsEdge_starts hm hl⟩,
    fun s sp sub hm hl ph hp => ⟨fun hk ha => execPpsEdge_accepted hm hl hk hp ha, execPpsEdge_rejected hm hl hp⟩,
    fun s sp sub => execPpsEdge_off, ?_, fun s => execPpsWindowTimeout_idle,
    fun s => ⟨execHoldoverEntry_idle, execHoldoverLoss_idle⟩,
    fun s h1 h2 => ⟨execHoldoverEntry_unanchored h1 h2, fun h3 => execHoldoverEntry_anchored h1 h2 h3 rfl rfl⟩,
    fun s => execHoldoverLoss_due, fun s => State.discardAnchor_held,
    fun s _ _ => .kept_parts (execPpsEdge_frame (Fr.refl _ s) rfl),
    fun s => .kept_parts (execPpsWindowTimeout_frame (Fr.refl _ s) rfl),
    fun s => .only_parts (execHoldoverEntry_frame (Fr.refl _ s) rfl),
    fun s => .only_parts (execHoldoverLoss_frame (Fr.refl _ s) rfl)⟩
  · exact (execPpsEdge_qualifies hm hl (by omega) h1 h2).trans (if_pos (by omega))
  · exact (execPpsEdge_qualifies hm hl (by omega) h1 h2).trans (if_neg (by omega))
  · intro s h1 h2 h3
    refine (execPpsWindowTimeout_due h1 h2 h3).trans ?_
    refine congrArg (fun u => Host.Outcome.next (State.tickLast u)) ?_
    conv_rhs => arg 1; change s.pulseMissed.missNoted
    generalize s.pulseMissed.missNoted = u
    rfl

end Sys2Proof.Machine
end

section
/-! Loop samples, the clock monitors, firmware's alarms, and the checks of BBRAM and the cells (R409 to R415, R421,
R424, R541). -/

namespace Sys2Proof.Machine

/-! ## The enclosure loops (R411, R412, R424) -/

section
variable (s : State) (r : List Nat)

/-- The armed loops a sample newly confirms as faulty (R412). -/
def State.newlyFaulty : List Nat :=
  (List.range 8).filter (fun n => nbit (s.alarm.judge r).faulty n && !nbit s.alarm.faulty n && nbit s.alarm.armed n)

/-- What a sample makes of the loops is held (R412). -/
def State.loopsJudged : State :=
  { s with alarm := { s.alarm with failing := (s.alarm.judge r).failing, faulty := (s.alarm.judge r).faulty } }

/-- The loops' states are shown, and those that failed once only are counted (R411, R428). -/
def State.loopsShown : State :=
  let v := (s.loopsJudged r).put .ALM_LOOP_STATUS_STATE ((List.range 8).foldr (fun n acc => loopState r n + 4 * acc) 0)
  v.put .ALM_LOOP_GLITCH_COUNT (min 0xFFFFFFFF (v.get .ALM_LOOP_GLITCH_COUNT + (s.alarm.judge r).glitches))

theorem State.loopsShown_onlyRegs : OnlyRegs [0x10300014, 0x10300018] (s.loopsJudged r) (s.loopsShown r) :=
  .put (.put (.refl _ _) (by decide)) (by decide)

end

section
variable {s : State} {r : List Nat}

theorem execLoopSample_powered (h1 : s.mainRuns = true) (h2 : s.lifeCycle < lcScrap) : execLoopSample r s =
    .next ((s.loopsShown r).assertLoops.alarm' (s.newlyFaulty r)) := if_pos (by simpa using ⟨h1, h2⟩)

theorem execLoopSample_unpowered (h : s.mainRuns = false ∨ s.lifeCycle ≥ lcScrap) : execLoopSample r s =
    .next (if (s.newlyFaulty r).isEmpty then s.loopsJudged r else (s.loopsJudged r).unpoweredAlarm (s.newlyFaulty r)) := by
  refine (if_neg ?_).trans (apply_ite Host.Outcome.next _ _ _).symm
  rw [Bool.and_eq_true, decide_eq_true_eq, not_and_or, not_lt, Bool.not_eq_true]
  exact h

/-! ## Clock monitors (R414, R415) -/

theorem execXtalMonitorArm_eq : execXtalMonitorArm s =
    if s.mainRuns && s.deviceState != dsInert then .next (s.armMonitor 0 true) else .next s := rfl

/-- The windows in a row outside and inside the range, after a window (R415). -/
def Alarm.windowCounted (a : Alarm) (c : Nat) (out : Bool) : Alarm :=
  { a with outside := if out then mmod (fun _ => 0) a.outside c (· + 1) else mset (fun _ => 0) a.outside c 0,
           inside := if !out then mmod (fun _ => 0) a.inside c (· + 1) else mset (fun _ => 0) a.inside c 0 }

/-- Whether a clock is out of range. -/
def State.clockOut (s : State) (c : Nat) : Bool := nbit (s.get .ALM_CLK_STATUS_OUT_OF_RANGE) c

/-- A clock is put out of range, or back in (R415). -/
def State.setClockOut (s : State) (c : Nat) (on : Bool) : State :=
  (s.put .ALM_CLK_STATUS_OUT_OF_RANGE (setNbit (s.get .ALM_CLK_STATUS_OUT_OF_RANGE) c on)).assertLevel (8 + c) on

/-- Two windows in a row inside bring a clock back (R415). -/
def State.clockBack (s : State) (c : Nat) : State :=
  if s.clockOut c = true ∧ 2 ≤ mget (fun _ => 0) s.alarm.inside c then s.setClockOut c false else s

/-- Two windows in a row outside raise the clock's source, two inside bring it back (R415). -/
def State.clockJudged (s : State) (c : Nat) : State :=
  if s.clockOut c = false ∧ 2 ≤ mget (fun _ => 0) s.alarm.outside c then (s.setClockOut c true).alarm' [8 + c]
  else s.clockBack c

theorem State.clockJudged_of_lt {c : Nat} (h : mget (fun _ => 0) s.alarm.outside c < 2) :
    s.clockJudged c = s.clockBack c := if_neg (by omega)

theorem execClockMonitorWindow_armed {c : Nat} {d : Int} (hc : c ≤ 3) (ha : s.monitorArmed c = true) {u v : State}
    (hu : u = s.put (.ALM_CLK_DEVc_DEV c) (d % 65536).toNat) {out : Bool} (ho : out = (d > 300 || d < -300))
    (hv : v = { u with alarm := u.alarm.windowCounted c out }) : execClockMonitorWindow c d s = .next (v.clockJudged c) := by
  subst hu ho hv
  refine (if_neg (by simp [hc, ha])).trans ?_
  rw [State.clockJudged, State.clockBack, apply_ite Host.Outcome.next, apply_ite Host.Outcome.next]
  refine if_congr ?_ rfl (if_congr ?_ rfl rfl)
  · simp only [Bool.and_eq_true, Bool.not_eq_true', decide_eq_true_eq]
    rfl
  · simp only [Bool.and_eq_true, decide_eq_true_eq]
    rfl

theorem execClockMonitorWindow_unarmed {c : Nat} (h : c > 3 ∨ s.monitorArmed c = false) (d : Int) :
    execClockMonitorWindow c d s = .next s := if_pos (by simpa using h)

theorem execClockShortCycle_unarmed {c : Nat} (h : c > 3 ∨ s.monitorArmed c = false) :
    execClockShortCycle c s = .next s := if_pos (by simpa using h)

theorem execClockShortCycle_armed {c : Nat} (hc : c ≤ 3) (ha : s.monitorArmed c = true) : execClockShortCycle c s =
    .next ((s.put .ALM_CLK_STATUS_SHORT_SEEN (setNbit (s.get .ALM_CLK_STATUS_SHORT_SEEN) c true)).alarm' [12 + c]) :=
  if_neg (by simp [hc, ha])

/-! ## Firmware's alarm, BBRAM and the cells (R409, R421, R541) -/

theorem execFirmwareAlarmRaise_eq (n : Nat) : execFirmwareAlarmRaise n s =
    if 2 ≤ n && n ≤ 4 then .next (s.alarms [(23, n)] false) else .next s := rfl

theorem execBbramPeriodicCheck_off (h : s.mainRuns = false) (a b : Bool) : execBbramPeriodicCheck a b s = .next s :=
  if_pos (by simp [h])

theorem execBbramPeriodicCheck_on (h : s.mainRuns = true) (a b : Bool) : execBbramPeriodicCheck a b s =
    if a || b || s.bb.lost then .next (s.bbramFails (b || s.bb.lost)) else .next s := if_neg (by simp [h])

theorem execVbatMeasure_on (h : s.mainRuns = true) (m n : Nat) : execVbatMeasure m n s =
    .next ((s.put .ALM_VBAT_A_MV m).put .ALM_VBAT_B_MV n) := if_pos h

theorem execVbatMeasure_off (h : s.mainRuns = false) (m n : Nat) : execVbatMeasure m n s = .next s :=
  if_neg (by simp [h])

end

/-- Settles O39: each clause is a case above, the closing ones the frame of each command. -/
theorem loopsAndClocks : Obligations.LoopsAndClocks := by
  refine ⟨?_, ?_, fun s => ⟨fun h1 h2 => execXtalMonitorArm_eq.trans (if_pos (by simp [h1, h2])),
      fun h => execXtalMonitorArm_eq.trans (if_neg (by grind))⟩, ?_, ?_,
    fun s c d h => ⟨execClockMonitorWindow_unarmed h d, execClockShortCycle_unarmed h⟩,
    fun s c => execClockShortCycle_armed,
    fun s r => ⟨fun h1 h2 => (execFirmwareAlarmRaise_eq r).trans (if_pos (by simp [h1, h2])),
      fun h => (execFirmwareAlarmRaise_eq r).trans (if_neg (by grind))⟩,
    fun s a b h => ⟨fun hb => (execBbramPeriodicCheck_on h a b).trans (if_pos (by grind)),
      fun hb => (execBbramPeriodicCheck_on h false false).trans (if_neg (by simp [hb])), execVbatMeasure_on h 2900 3000,
      execVbatMeasure_on h⟩,
    fun s a b m n h => ⟨execBbramPeriodicCheck_off h a b, execVbatMeasure_off h m n⟩,
    fun s _ => .kept_parts (execLoopSample_frame (Fr.refl _ s) rfl),
    fun s _ _ => .kept_parts (execClockMonitorWindow_frame (Fr.refl _ s) rfl), ?_,
    fun s => .only_parts (execXtalMonitorArm_frame (Fr.refl _ s) rfl),
    fun s _ _ => .kept_parts (execBbramPeriodicCheck_frame (Fr.refl _ s) rfl),
    fun s _ _ => .only_parts (execVbatMeasure_frame (Fr.refl _ s) rfl)⟩
  · rintro s r _ _ _ rfl rfl rfl
    exact ⟨fun h1 h2 => ⟨s.loopsShown r, execLoopSample_powered h1 h2, s.loopsShown_onlyRegs r⟩,
      fun h => execLoopSample_unpowered (.inl h)⟩
  · rintro s r _ _ _ v w rfl rfl rfl
    refine ⟨?_, fun h => execLoopSample_unpowered (.inr h)⟩
    rintro h1 h2 rfl rfl
    exact execLoopSample_powered h1 h2
  · rintro s c d u v hc ha hu hd hv
    exact execClockMonitorWindow_armed hc ha hu (out := true) (by grind) hv
  · rintro s c d u v hc ha hu h1 h2 hv hl
    refine (execClockMonitorWindow_armed hc ha hu (out := false) (by grind) hv).trans ?_
    exact congrArg Host.Outcome.next (State.clockJudged_of_lt hl)
  · intro s a
    simp only [List.forall_mem_cons, List.not_mem_nil, false_imp_iff, implies_true, and_true]
    exact ⟨.kept_parts (execClockShortCycle_frame (Fr.refl _ s) rfl),
      .kept_parts (execFirmwareAlarmRaise_frame (Fr.refl _ s) rfl)⟩

end Sys2Proof.Machine
end

section
/-! The polishing of the cores, and the gating of the blocks (R520 to R522, R532 to R534, R539). -/

namespace Sys2Proof.Machine

/-! ## Polishing (R532 to R534) -/

section
variable {s : State} {l : Bool} {k : ClusterId} {n : Nat}

theorem execPolishSlot_shut (hk : k = clusterOf l) (h : s.bit k.polEnableFld = false ∨
    s.time.tick < (s.cluster k).polSlot + s.get k.polIntervalFld ∨ s.power.mode ≠ .active ∨ s.bit k.polBusyFld = true ∨
    s.halted = true) : execPolishSlot l s = .next s := by
  subst hk
  exact if_pos (by grind)

theorem execPolishSlot_open (hk : k = clusterOf l) (h1 : s.bit k.polEnableFld = true)
    (h2 : (s.cluster k).polSlot + s.get k.polIntervalFld ≤ s.time.tick) (h3 : s.power.mode = .active)
    (h4 : s.bit k.polBusyFld = false) (h5 : s.halted = false) {u : State}
    (hu : u = s.setCluster k { s.cluster k with polSlot := s.time.tick, promoted := [] }) : execPolishSlot l s =
    .next ((s.polPick k).elim u (fun n => ((u.put k.polCoreFld n).putBit k.polBusyFld true).updateCore k n)) := by
  subst hk hu
  refine (if_neg (by grind)).trans ?_
  cases s.polPick (clusterOf l) <;> rfl

theorem execPolishSequenceEnd_idle (hk : k = clusterOf l)
    (h : s.coreState k (s.get k.polCoreFld) ≠ csPolishing ∨ s.halted = true) (f : Option Nat) :
    execPolishSequenceEnd l f s = .next s := by
  subst hk
  exact if_pos (by grind)

theorem execPolishSequenceEnd_passed (hk : k = clusterOf l) (hn : n = s.get k.polCoreFld)
    (h1 : s.coreState k n = csPolishing) (h2 : s.halted = false) {u : State}
    (hu : u = (s.passTests k n 0 k.tests.length).putBit k.polBusyFld false) : execPolishSequenceEnd l none s =
    .next (((u.moveCore k n csActive).count k.polPassesFld).updateCore k n) := by
  subst hk hn hu
  exact if_neg (by simp [h1, h2])

theorem execPolishSequenceEnd_failed (hk : k = clusterOf l) (hn : n = s.get k.polCoreFld)
    (h1 : s.coreState k n = csPolishing) (h2 : s.halted = false) {i : Nat} {v w x : State}
    (hv : v = s.passTests k n 0 (min i (k.tests.length - 1)))
    (hw : w = (v.put (k.cyclesFld n) (Config.freeNat v.free % 2 ^ 32)).putBit (k.rejectFld n) (Config.freeNat (v.free + 1) % 2 == 1))
    (hx : x = ({ w with free := v.free + 2 } : State).quitTest k n) : execPolishSequenceEnd l (some i) s =
    .next ((x.putBit k.polBusyFld false).polishFail k n) := by
  subst hk hn hx hw hv
  exact if_neg (by simp [h1, h2])

theorem State.passTests_zero (s : State) (k : ClusterId) (n i : Nat) : s.passTests k n i 0 = s := rfl

theorem State.passTests_succ (s : State) (k : ClusterId) (n i m : Nat) : s.passTests k n i (m + 1) =
    (s.nextTest k n i (((k.tests[i]?).map (·.ns)).getD 0)).passTests k n (i + 1) m := rfl

theorem State.quitTest_none (h : (s.cluster k).test = none) : s.quitTest k n = s := if_pos (by simp [h])

theorem State.quitTest_some (h : (s.cluster k).test.isSome = true) : s.quitTest k n =
    (((s.eraseRuns (fun r => r.handle == 0 && r.label == testLabel k.isLat)).clearCore k n).setTest k none).putBit
      (k.busyFld n) false := if_neg (by rw [Option.isNone_iff_eq_none]; exact Option.isSome_iff_ne_none.mp h)

theorem State.polishFail_eq {u : State} (hu : u = ((((s.moveCore k n csFenced).put k.polLastFailFld n).count
    k.polFailsFld).putBit k.polFailFld true).raiseIrq k.irqSource) : s.polishFail k n =
    if u.bit k.polAutoFld then (u.lowestSpare k).elim u (fun m => u.promote k m) else u := by
  simp only [State.polishFail, ← hu]
  cases u.bit k.polAutoFld with
  | false => rfl
  | true => cases u.lowestSpare k <;> rfl

end

/-- Settles O41: each clause is a case above, the closing ones the frame of each command. -/
theorem polishing : Obligations.Polishing := by
  refine ⟨fun s l k hk h1 h2 h3 h4 h5 u => execPolishSlot_open hk h1 h2 h3 h4 h5, fun s l k => execPolishSlot_shut,
    fun s l k n u v w hk hn h1 h2 => ⟨execPolishSequenceEnd_passed hk hn h1 h2,
      fun i hv hw => execPolishSequenceEnd_failed hk hn h1 h2 hv rfl hw⟩,
    fun s l k f hk h => execPolishSequenceEnd_idle hk h f, ?_,
    fun s k n => ⟨State.quitTest_none, State.quitTest_some⟩, fun s k n u => State.polishFail_eq,
    fun s _ => .only_parts (execPolishSlot_frame (Fr.refl _ s) rfl),
    fun s _ _ => .only_parts (execPolishSequenceEnd_frame (Fr.refl _ s) rfl)⟩
  rintro s k n i m _ rfl
  exact ⟨s.passTests_succ k n i m, s.passTests_zero k n i⟩

/-! ## Gates and their locks (R520, R521) -/

section
variable {s : State} {w : World} {b k n : Nat} {c p : Bool}

theorem execPwrGateWrite_beyond (h : b > 11) : execPwrGateWrite w b c p s = .next s := if_pos h

theorem execPwrGateWrite_ordered (hb : b ≤ 11) (h : w = .secure ∨ s.gateLocked b = false) :
    execPwrGateWrite w b c p s = .next (s.gateWrite b c p) := by
  refine (if_neg (Nat.not_lt.mpr hb)).trans (if_neg ?_)
  rcases h with rfl | h
  · exact Bool.false_ne_true
  · simp [h]

theorem execPwrGateWrite_denied (hb : b ≤ 11) (hw : w = .normal) (hl : s.gateLocked b = true) :
    execPwrGateWrite w b c p s = .next (s.gateDenied b) := by
  subst hw
  exact (if_neg (Nat.not_lt.mpr hb)).trans (if_pos hl)

theorem execGateTransitionComplete_some {g : Nat} (h : mget (fun _ => none) s.power.changing b = some g)
    {m : SMap (Option Nat)} (hm : m = mset (fun _ => none) s.power.changing b none) : execGateTransitionComplete b s =
    .next (({ s with power := { s.power with changing := m } } : State).put (.PWR_GATEb_STATE b) g) := by
  subst hm
  simp only [execGateTransitionComplete, h]

theorem execGateTransitionComplete_none (h : mget (fun _ => none) s.power.changing b = none) :
    execGateTransitionComplete b s = .next s.gateSweep := by
  simp only [execGateTransitionComplete, h]

/-! ## Requests of the normal world (R522) -/

/-- A normal-world request as its registers show it. -/
def State.nsShown (s : State) (b a : Nat) : State :=
  ((s.put .PWR_NS_REQ_BLOCK b).put .PWR_NS_REQ_ACTION a).put .PWR_NS_STATUS_BLOCK b

/-- A gating request executed and answered. -/
def State.gateExecuted (s : State) (b a : Nat) : State := ((s.gateAction b a).put .PWR_NS_STATUS_STATE 2).raiseIrq 10

variable {a : Nat} {u : State}

theorem State.nsGate_beyond (h : b > 11) : s.nsGate b a = s := if_pos h

theorem State.nsGate_eq (hb : b ≤ 11) (hu : u = s.nsShown b a) : s.nsGate b a =
    if u.worlds.deferred.isSome then u.put .PWR_NS_STATUS_STATE 3
    else if u.gateLocked b then
      (({ u with worlds := { u.worlds with deferred := some (b, a) } } : State).put .PWR_NS_STATUS_STATE 1).raiseIrq 9
    else u.gateExecuted b a := by
  subst hu
  exact if_neg (Nat.not_lt.mpr hb)

theorem State.nsShown_worlds : (s.nsShown b a).worlds = s.worlds := by
  simp only [State.nsShown, State.put_worlds]

theorem execPwrLockWrite_none (h : s.worlds.deferred = none) : execPwrLockWrite n s = .next (s.put .PWR_LOCK_LOCK n) := by
  simp only [execPwrLockWrite, State.put_worlds, h]

theorem execPwrLockWrite_some (h : s.worlds.deferred = some (b, a)) (hu : u = s.put .PWR_LOCK_LOCK n) :
    execPwrLockWrite n s = .next (if u.gateLocked b then u
      else ({ u with worlds := { u.worlds with deferred := none } } : State).gateExecuted b a) := by
  have hd : u.worlds.deferred = some (b, a) := by rw [hu, State.put_worlds, h]
  simp only [execPwrLockWrite, ← hu, hd, State.gateExecuted, apply_ite Host.Outcome.next]

theorem execPwrDeferCancel_none (h : s.worlds.deferred = none) : execPwrDeferCancel s = .next s := by
  simp only [execPwrDeferCancel, h]

theorem execPwrDeferCancel_some (h : s.worlds.deferred.isSome = true) : execPwrDeferCancel s =
    .next ((({ s with worlds := { s.worlds with deferred := none } } : State).put .PWR_NS_STATUS_STATE 4).raiseIrq 10) := by
  obtain ⟨r, hr⟩ := Option.isSome_iff_exists.mp h
  simp only [execPwrDeferCancel, hr]

theorem execWfi_idle (h : k > 3 ∨ k = 0 ∨ mget (fun _ => none) s.power.orders (k + 7) = none) :
    execWfi k s = .next s := by
  unfold execWfi
  split
  · rfl
  · next hk => rw [h.resolve_left (by grind) |>.resolve_left (by grind)]

theorem execWfi_ordered (h1 : 1 ≤ k) (h2 : k ≤ 3) {g : Nat} (hg : mget (fun _ => none) s.power.orders (k + 7) = some g) :
    execWfi k s = if s.coreSecure k then .next s else .next (s.gateBegin (k + 7) g) := by
  unfold execWfi
  rw [if_neg (by grind), hg]
  rfl

end

/-- Settles O43: each clause is a case above, the closing ones the frame of each command. -/
theorem gates : Obligations.Gates := by
  refine ⟨fun s w b c p hb => ⟨execPwrGateWrite_ordered hb, execPwrGateWrite_denied hb⟩,
    fun s b g h => execGateTransitionComplete_some h rfl, fun s b => execGateTransitionComplete_none,
    fun s b => ⟨rfl, rfl, rfl, rfl⟩, ?_,
    fun s w b c p a k => ⟨fun h => ⟨execPwrGateWrite_beyond h, State.nsGate_beyond h⟩, execWfi_idle⟩,
    fun s n b a u => execPwrLockWrite_some, fun s n h => ⟨execPwrLockWrite_none h, execPwrDeferCancel_none h⟩,
    fun s => execPwrDeferCancel_some, fun s c g h1 h2 hg => ⟨fun h => (execWfi_ordered h1 h2 hg).trans (if_neg (by simp [h])),
      fun h => (execWfi_ordered h1 h2 hg).trans (if_pos h)⟩, ?_,
    fun s => .only_parts (execPwrDeferCancel_frame (Fr.refl _ s) rfl),
    fun s _ _ _ _ => .only_parts (execPwrGateWrite_frame (Fr.refl _ s) rfl), ?_⟩
  · intro s b a u hb hu
    have hw : u.worlds = s.worlds := hu ▸ State.nsShown_worlds
    refine ⟨fun hd => (State.nsGate_eq hb hu).trans (if_pos (hw ▸ hd)), fun hd hl => ?_, fun hd hl => ?_⟩
    · exact (State.nsGate_eq hb hu).trans ((if_neg (by simp [hw, hd])).trans (if_pos hl))
    · exact (State.nsGate_eq hb hu).trans ((if_neg (by simp [hw, hd])).trans (if_neg (by simp [hl])))
  · intro s b
    simp only [List.forall_mem_cons, List.not_mem_nil, false_imp_iff, implies_true, and_true]
    exact ⟨.only_parts (execPwrLockWrite_frame (Fr.refl _ s) rfl), .only_parts (execNsGateClkOn_frame (Fr.refl _ s) rfl),
      .only_parts (execNsGateClkOff_frame (Fr.refl _ s) rfl), .only_parts (execNsGatePwrOn_frame (Fr.refl _ s) rfl),
      .only_parts (execNsGatePwrOff_frame (Fr.refl _ s) rfl)⟩
  · intro s b
    simp only [List.forall_mem_cons, List.not_mem_nil, false_imp_iff, implies_true, and_true]
    exact ⟨.only_parts (execGateTransitionComplete_frame (Fr.refl _ s) rfl), .only_parts (execWfi_frame (Fr.refl _ s) rfl)⟩

end Sys2Proof.Machine
end

section
/-! Reset pins, supplies, wakes, the host link, and the recovery boot (R414, R446, R447, R517 to R519, R542, R553 to R557,
R570, R571). -/

namespace Sys2Proof.Machine

/-! ## Reset pins (R446, R553, R570) -/

section
variable {s u : State} {b : BootInputs}

/-- What a reset pin gives as the wake's cause: none where the unit is held already. -/
theorem holdCause_eq (m : PowerMode) :
    (if (m == PowerMode.held) = true then (none : Option Nat) else some 1) = if m = .held then none else some 1 :=
  if_congr beq_iff_eq rfl rfl

theorem execPorNAssert_up (h : s.power.mode ≠ .off) : execPorNAssert s =
    .next (({ s with power := { s.power with porN := false } } : State).hold
      (if s.power.mode = .held then none else some 1)) := by
  rw [← holdCause_eq]
  exact if_pos (bne_iff_ne.mpr h)

theorem execPorNAssert_off (h : s.power.mode = .off) :
    execPorNAssert s = .next { s with power := { s.power with porN := false } } := if_neg (by simp [h])

theorem execSysRstNAssert_up (h1 : s.power.mode ≠ .off) (h2 : s.power.mode ≠ .sleep) : execSysRstNAssert s =
    .next (({ s with power := { s.power with sysRstN := false } } : State).hold
      (if s.power.mode = .held then none else some 1)) := by
  rw [← holdCause_eq]
  exact if_pos (by simp [h1, h2])

theorem execSysRstNAssert_down (h : s.power.mode = .off ∨ s.power.mode = .sleep) :
    execSysRstNAssert s = .next { s with power := { s.power with sysRstN := false } } := if_neg (by grind)

theorem execPorNRelease_low (h : s.power.porN = false) {e : Bool}
    (he : e = (s.power.mainEn || s.power.mode == PowerMode.held)) : execPorNRelease b s =
    .next (({ s with power := { s.power with porN := true, mainEn := e } } : State).tryBoot b) := by
  subst he
  exact if_neg (by simp [h])

theorem execPorNRelease_high (h : s.power.porN = true) : execPorNRelease b s = .next s := if_pos h

theorem execSysRstNRelease_low (h : s.power.sysRstN = false) : execSysRstNRelease b s =
    .next (({ s with power := { s.power with sysRstN := true } } : State).tryBoot b) := if_neg (by simp [h])

theorem execSysRstNRelease_high (h : s.power.sysRstN = true) : execSysRstNRelease b s = .next s := if_pos h

theorem State.tryBoot_eq : s.tryBoot b = if s.power.mode = .held ∧ s.power.porN = true ∧ s.power.sysRstN = true ∧
    s.power.vddAon = true ∧ s.power.mainEn = true then s.boot b else s :=
  if_congr (by simp [and_assoc]) rfl rfl

/-! ## Wakes and supplies (R518, R519, R542, R554, R557) -/

theorem execSlpWakeEdge_sleep (h : s.power.mode = .sleep) : execSlpWakeEdge b s = .next (s.wake b) := by
  simp only [execSlpWakeEdge, h]

theorem execSlpWakeEdge_entering (h : s.power.mode = .enteringSleep) :
    execSlpWakeEdge b s = .next { s with power := { s.power with wakeLatched := true } } := by
  simp only [execSlpWakeEdge, h]

theorem execSlpWakeEdge_held (h : s.power.mode = .held) :
    execSlpWakeEdge b s = if s.power.mainEn then .next s else .next (s.wake b) := by
  simp only [execSlpWakeEdge, h]

theorem execSlpWakeEdge_other (h : s.power.mode = .active ∨ s.power.mode = .nap ∨ s.power.mode = .leavingNap ∨
    s.power.mode = .off) : execSlpWakeEdge b s = .next s := by
  rcases h with h | h | h | h <;> simp only [execSlpWakeEdge, h]

/-- The unit without VDD_AON, its cells in use, before what main reset takes (R542, R554). -/
def State.cellsOnly (s : State) : State :=
  let p := { Power.init with porN := s.power.porN, sysRstN := s.power.sysRstN }
  { s with power := { p with mode := .off, vddAon := false, cells := true, mainEn := false } }

theorem execVddAonLoss_eq (n : Nat) (hu : u = s.cellsOnly.mainReset) : execVddAonLoss n s =
    .next (if 2000 ≤ n then u else { u with bb := { Backup.init with lost := true } }) := by
  subst hu
  exact (apply_ite Host.Outcome.next _ _ _).symm

theorem execVddAonReturn_lost (h : s.power.vddAon = false) : execVddAonReturn b s =
    .next (({ s with power := { s.power with vddAon := true, mainEn := true, mode := .held, wake := 0 } } : State).tryBoot b) :=
  if_neg (by simp [h])

theorem execVddAonReturn_there (h : s.power.vddAon = true) : execVddAonReturn b s = .next s := if_pos h

theorem execBackupSupplyReturn_on (h : s.power.vddAon = true) :
    execBackupSupplyReturn s = .next { s with power := { s.power with cells := false } } := if_pos h

theorem execBackupSupplyReturn_off (h : s.power.vddAon = false) : execBackupSupplyReturn s = .next s :=
  if_neg (by simp [h])

/-! ## The other pins and the link (R36, R414, R571) -/

theorem execGpioRisingEdge_irq {n : Nat} (h1 : 1 ≤ n) (h7 : n ≤ 7) (hm : s.mainRuns = true) :
    execGpioRisingEdge n s = .next (s.raiseIrq (24 + n)) := if_pos (by simp [h1, h7, hm])

theorem execGpioRisingEdge_other {n : Nat} (h : n = 0 ∨ 7 < n ∨ s.mainRuns = false) :
    execGpioRisingEdge n s = .next s := if_neg (by grind)

theorem execPerstNRelease_high (h : s.host.perstN = true) : execPerstNRelease s = .next s := if_pos h

theorem execPerstNRelease_trains (h : s.host.perstN = false) (hm : s.mainRuns = true) : execPerstNRelease s =
    .next (({ s with host := { s.host with perstN := true, pciePll := true } } : State).armMonitor 3 true) :=
  (if_neg (by simp [h])).trans (if_pos hm)

theorem execPerstNRelease_held (h : s.host.perstN = false) (hm : s.mainRuns = false) :
    execPerstNRelease s = .next { s with host := { s.host with perstN := true } } :=
  (if_neg (by simp [h])).trans (if_neg (Bool.eq_false_iff.mp hm))

variable {r w : Nat}

theorem execLinkRateChange_barred (h : s.host.perstN = false ∨ s.mainRuns = false ∨ r ∉ endpoint.linkRates ∨
    w ∉ endpoint.linkWidths) : execLinkRateChange r w s = .next s :=
  if_pos (by simpa [List.contains_iff_mem, or_assoc] using h)

theorem execLinkRateChange_trains (h1 : s.host.perstN = true) (h2 : s.mainRuns = true) (h3 : r ∈ endpoint.linkRates)
    (h4 : w ∈ endpoint.linkWidths)
    (hu : u = ({ s.wakeNap 7 with host := { (s.wakeNap 7).host with linkRate := r, linkWidth := w } } : State)) :
    execLinkRateChange r w s = .next (if u.host.pciePll then u.armMonitor 3 true else u) := by
  subst hu
  exact (if_neg (by simp [h1, h2, h3, h4])).trans (apply_ite Host.Outcome.next _ _ _).symm

/-! ## Recovery (R447) -/

/-- A container checked: refused with the code of the check that failed, or started (R447). -/
def State.recovered (u : State) (m : BootImage) : State :=
  (u.imageFault m true).elim (((u.noteCosig m none).put .HST_RCV_STATUS_STATE 4).handOver m true false)
    (fun c => ((u.noteCosig m (some c)).put .HST_RCV_STATUS_REASON c).put .HST_RCV_STATUS_STATE 3)

/-- The container in shared SRAM (R447). -/
def State.container (u : State) (y : Bool) : BootImage :=
  let n := u.get .HST_RCV_LEN_BYTES
  let h := padTo 16384 (u.bytes 0x2000000 (min n 16384))
  let c := u.bytes (0x2000000 + hdr h 16 4) (min (hdr h 20 4) (n - hdr h 16 4))
  { header := h, secure := c, normal := [], readable := y }

theorem execRecoveryGo_checks {y : Bool} (h : s.deviceState = dsRecovery) :
    execRecoveryGo y s = .next ((s.wakeNap 1).recovered ((s.wakeNap 1).container y)) := by
  unfold execRecoveryGo
  rw [if_neg (by simp [h])]
  extract_lets u n x off c m
  have hu : s.wakeNap 1 = u := rfl
  have hm : u.container y = m := rfl
  rw [hu, State.recovered, hm]
  clear_value m u
  cases u.imageFault m true with
  | none => rw [Option.elim_none]
  | some c => rw [Option.elim_some]

theorem State.container_eq {n : Nat} {x : Bytes} {m : BootImage} {y : Bool} (hn : n = u.get .HST_RCV_LEN_BYTES)
    (hx : x = padTo 16384 (u.bytes 0x2000000 (min n 16384))) {c : Bytes}
    (hc : c = u.bytes (0x2000000 + hdr x 16 4) (min (hdr x 20 4) (n - hdr x 16 4)))
    (hm : m = { header := x, secure := c, normal := [], readable := y }) : u.container y = m := by
  subst hm hc hx hn
  rfl

theorem execRecoveryGo_other (h : s.deviceState ≠ dsRecovery) (y : Bool) : execRecoveryGo y s = .next s :=
  if_pos (bne_iff_ne.mpr h)

end

/-- Settles O44: each clause is a case above, the closing ones the frame of each command. -/
theorem resetAndSupplies : Obligations.ResetAndSupplies := by
  refine ⟨fun s => ⟨execPorNAssert_up, execPorNAssert_off⟩, fun s => ⟨execSysRstNAssert_up, execSysRstNAssert_down⟩, ?_,
    fun s b => ⟨execSlpWakeEdge_sleep, execSlpWakeEdge_entering, execSlpWakeEdge_other⟩,
    fun s n u => execVddAonLoss_eq n,
    fun s b => ⟨execVddAonReturn_lost, execBackupSupplyReturn_on, execBackupSupplyReturn_off⟩,
    fun s n => ⟨execGpioRisingEdge_irq, fun h => execGpioRisingEdge_other (by omega)⟩,
    fun s => execPerstNRelease_trains, fun s r w u => execLinkRateChange_trains, fun s r w => execLinkRateChange_barred,
    fun s b n => ⟨execPorNRelease_high, execSysRstNRelease_high,
      fun h hm => (execSlpWakeEdge_held h).trans (if_pos hm),
      fun h hm => (execSlpWakeEdge_held h).trans (if_neg (by simp [hm])), execVddAonReturn_there,
      fun h => execGpioRisingEdge_other (.inr (.inr h)), execPerstNRelease_high, execPerstNRelease_held⟩,
    ?_,
    fun s r h => execRecoveryGo_other h r, ?_, fun s _ => .only_parts (execRecoveryGo_frame (Fr.refl _ s) rfl), ?_,
    fun s _ => .kept_parts (execVddAonLoss_frame (Fr.refl _ s) rfl),
    fun s => .only_parts (execBackupSupplyReturn_frame (Fr.refl _ s) rfl),
    fun s _ => .only_parts (execGpioRisingEdge_frame (Fr.refl _ s) rfl),
    fun s => .only_parts (execPerstNRelease_frame (Fr.refl _ s) rfl),
    fun s _ _ => .only_parts (execLinkRateChange_frame (Fr.refl _ s) rfl)⟩
  · intro s b u
    refine ⟨?_, ?_, State.tryBoot_eq⟩
    · rintro rfl h
      exact execPorNRelease_low h rfl
    · rintro rfl h
      exact execSysRstNRelease_low h
  · rintro s r _ h n m hs rfl hn hx hm
    rw [← State.container_eq hn hx rfl hm]
    exact execRecoveryGo_checks hs
  · intro s b
    simp only [List.forall_mem_cons, List.not_mem_nil, false_imp_iff, implies_true, and_true]
    exact ⟨.kept_parts (execSlpWakeEdge_frame (Fr.refl _ s) rfl), .kept_parts (execPorNRelease_frame (Fr.refl _ s) rfl),
      .kept_parts (execVddAonReturn_frame (Fr.refl _ s) rfl), .kept_parts (execSysRstNRelease_frame (Fr.refl _ s) rfl)⟩
  · intro s
    simp only [List.forall_mem_cons, List.not_mem_nil, false_imp_iff, implies_true, and_true]
    exact ⟨.kept_parts (execPorNAssert_frame (Fr.refl _ s) rfl), .kept_parts (execSysRstNAssert_frame (Fr.refl _ s) rfl)⟩

end Sys2Proof.Machine
end

section
/-! Frames and sessions of the management port (R484 to R499, R506, R509, R510). -/

namespace Sys2Proof.Machine

/-! ## Frames received (R484, R487 to R490) -/

section
variable {s : State} {f : Bytes}

theorem execMgpFrameReceived_off (h : s.mgpOn = false) (e : Bool) : execMgpFrameReceived f e s = .next s :=
  if_pos (by simp [h])

theorem execMgpFrameReceived_dropped (h : s.mgpOn = true) (hd : macDrops f = true) (e : Bool) :
    execMgpFrameReceived f e s = .next (s.count .MGP_RX_DROPPED_COUNT) := (if_neg (by simp [h])).trans (if_pos hd)

theorem execMgpFrameReceived_full (h : s.mgpOn = true) (hd : macDrops f = false) (hr : s.rxdHeld = 128) (e : Bool) :
    execMgpFrameReceived f e s = .next ((s.count .MGP_RX_DROPPED_COUNT).putBit .MGP_STATUS_OVERRUN true) :=
  (if_neg (by simp [h])).trans ((if_neg (by simp [hd])).trans (if_pos hr))

/-- The descriptor of a frame of which `n` bytes are stored (R488). -/
def State.frameDescriptor (s : State) (f : Bytes) (fcsOk : Bool) (n : Nat) : BitVec 64 :=
  descriptor s.time.tick (((f.head?.map (fun b => b.toNat % 2)).getD 0) == 1) (!fcsOk)
    (decide (n < min f.length 1514) || decide (f.length > 1514)) n s.mgp.next

theorem State.frameDescriptor_whole {n : Nat} (hn : n = min f.length 1514) : s.frameDescriptor f true n =
    descriptor s.time.tick (((f.head?.map (fun b => b.toNat % 2)).getD 0) == 1) false (decide (1514 < f.length)) n
      s.mgp.next := by
  rw [State.frameDescriptor, decide_eq_false (p := n < min f.length 1514) (by omega)]
  rfl

/-- A frame stored as far as `n` of its bytes, with descriptor `d` at the ring's head (R487, R488). -/
def State.frameStored (s : State) (f : Bytes) (n : Nat) (d : BitVec 64) : State :=
  let ring := mset (fun _ => 0#64) s.mgp.descs (s.get .MGP_RXD_HEAD_HEAD % 128) d
  { s with mgp := { s.mgp.store f n with descs := ring } }

/-- The interrupt of a frame received (R489). -/
def State.frameIrq (s : State) : State := if s.bit .MGP_IRQ_FRAME_EN then s.raiseIrq 17 else s

theorem execMgpFrameReceived_taken (h : s.mgpOn = true) (hd : macDrops f = false) (hr : s.rxdHeld ≠ 128) {e : Bool}
    {n : Nat} (hn : n = min (min f.length 1514) (8 * (8192 - s.mgp.used))) {v w x y : State}
    (hv : v = s.frameStored f n (s.frameDescriptor f e n))
    (hw : w = if n < min f.length 1514 then (v.count .MGP_RX_TRUNC_COUNT).putBit .MGP_STATUS_OVERRUN true else v)
    (hx : x = if e then w else w.count .MGP_RX_FCS_COUNT)
    (hy : y = ((x.put .MGP_RXD_HEAD_HEAD (s.get .MGP_RXD_HEAD_HEAD + 1)).put .MGP_RX_FRAMES_COUNT
      (x.get .MGP_RX_FRAMES_COUNT + 1)).showRxd) : execMgpFrameReceived f e s = .next y.frameIrq := by
  subst hy hx hw hv hn
  refine (if_neg (by simp [h])).trans ((if_neg (by simp [hd])).trans ((if_neg hr).trans ?_))
  rw [State.frameIrq, apply_ite Host.Outcome.next]
  rfl

theorem execMgpRxdTailWrite_released {n k : Nat} (hk : k = (n + 256 - s.get .MGP_RXD_TAIL_TAIL) % 256) (h1 : n ≤ 255)
    (h2 : k ≤ s.rxdHeld) {m : Nat} (hm : m = s.mgp.used - s.mgp.freed (s.get .MGP_RXD_TAIL_TAIL) k) :
    execMgpRxdTailWrite n s = .next ((({ s with mgp := { s.mgp with used := m } } : State).put .MGP_RXD_TAIL_TAIL n).showRxd) := by
  subst hm hk
  refine if_neg ?_
  rw [Bool.or_eq_true, decide_eq_true_eq, decide_eq_true_eq]
  omega

theorem execMgpRxdTailWrite_discarded {n k : Nat} (hk : k = (n + 256 - s.get .MGP_RXD_TAIL_TAIL) % 256)
    (h : 255 < n ∨ s.rxdHeld < k) : execMgpRxdTailWrite n s = .next s := by
  subst hk
  refine if_pos ?_
  rw [Bool.or_eq_true, decide_eq_true_eq, decide_eq_true_eq]
  exact h

/-! ## Frames sent (R485, R491) -/

theorem execMgpTxGo_ignored (h : s.bit .MGP_TX_STATUS_BUSY = true ∨ s.mgpOn = false ∨ s.get .MGP_TX_LEN_BYTES < 14) :
    execMgpTxGo s = .next s := if_pos (by simpa [or_assoc] using h)

theorem execMgpTxGo_reads (h1 : s.bit .MGP_TX_STATUS_BUSY = false) (h2 : s.mgpOn = true) {n : Nat}
    (hn : n = s.get .MGP_TX_LEN_BYTES) (h3 : 14 ≤ n) {ok : Bool} {u : State}
    (hc : s.checkAccess agDeviceS akRead (s.get .MGP_TX_ADDR_ADDR) n = (ok, u)) {x : Bytes}
    (hx : x = u.bytes (s.get .MGP_TX_ADDR_ADDR) n) : execMgpTxGo s = .next (if ok then
      (({ u with mgp := { u.mgp with tx := some (x ++ zeros (60 - x.length)) } } : State).putBit
        .MGP_TX_STATUS_BUSY true).putBit .MGP_STATUS_TX_BUSY true
      else u.putBit .MGP_TX_STATUS_ERR true) := by
  simp only [execMgpTxGo, ← hn, hc, ← hx]
  rw [if_neg (by simp [h1, h2, h3])]
  cases ok <;> rfl

theorem execMgpFrameSent_none (h : s.mgp.tx = none) : execMgpFrameSent s = .next s := by
  simp only [execMgpFrameSent, h]

theorem execMgpFrameSent_some (h : s.mgp.tx = some f) {l : List Bytes} (hl : l = s.mgp.sent ++ [f ++ fcs f]) :
    execMgpFrameSent s = if s.mgpLink then
      .next ((((({ s with mgp := { s.mgp with tx := none, sent := l } } : State).putBit .MGP_TX_STATUS_BUSY false).putBit
        .MGP_STATUS_TX_BUSY false).putBit .MGP_TX_STATUS_DONE true).gateSweep)
    else .next s := by
  subst hl
  unfold execMgpFrameSent
  rw [h]
  cases s.mgpLink <;> rfl

end

/-- Settles O45: each clause is a case above, the closing ones the frame of each command. -/
theorem managementFrames : Obligations.ManagementFrames := by
  refine ⟨fun s f e h => ⟨fun hd => execMgpFrameReceived_dropped h hd e, fun hd hr => execMgpFrameReceived_full h hd hr e⟩,
    ?_, ?_, fun s f e => ⟨fun h => execMgpFrameReceived_off h e, execMgpTxGo_ignored, execMgpFrameSent_none⟩,
    fun s n k hk => ⟨fun h1 h2 => execMgpRxdTailWrite_released hk h1 h2 rfl, execMgpRxdTailWrite_discarded hk⟩, ?_,
    fun s f h => ⟨fun hl => (execMgpFrameSent_some h rfl).trans (if_pos hl),
      fun hl => (execMgpFrameSent_some h rfl).trans (if_neg (by simp [hl]))⟩, fun s b => rfl,
    fun s _ _ => .only_parts (execMgpFrameReceived_frame (Fr.refl _ s) rfl),
    fun s _ => .only_parts (execMgpRxdTailWrite_frame (Fr.refl _ s) rfl),
    fun s => .only_parts (execMgpTxGo_frame (Fr.refl _ s) rfl), fun s => .only_parts (execMgpFrameSent_frame (Fr.refl _ s) rfl),
    fun s _ => .only_parts (execPlcaBeacon_frame (Fr.refl _ s) rfl)⟩
  · rintro s f n _ hm hd hr hn hl rfl u rfl v rfl
    rw [← State.frameDescriptor_whole hl]
    exact execMgpFrameReceived_taken hm hd hr hn rfl (if_neg (by omega)).symm rfl rfl
  · rintro s f e n _ v w x y hm hd hr hn rfl hv hw hx hy
    exact execMgpFrameReceived_taken hm hd hr hn hv hw hx hy
  · rintro s n _ h1 h2 hn h3 rfl ok u hc
    refine ⟨?_, ?_⟩
    · rintro rfl
      exact execMgpTxGo_reads h1 h2 hn h3 hc rfl
    · rintro rfl
      exact execMgpTxGo_reads h1 h2 hn h3 hc rfl

/-! ## Sessions open and close (R493 to R495, R510) -/

section
variable {s u : State} {n : Nat} {c m : Bytes} {i : List StrandItem}

theorem execClientHello_shut (h : s.sessionsOpen = false) (p : Bytes) : execClientHello p s = .next s :=
  if_pos (by simp [h])

theorem execClientHello_open (h : s.sessionsOpen = true) (p : Bytes) : execClientHello p s =
    .next (((List.range s.maxSessions).find? (fun n => (s.session n).st == 0)).elim
      { s with mgp := { s.mgp with hellosRefused := sat32 s.mgp.hellosRefused } }
      (fun n => s.setSession n
        { Session.init with st := 1, peer := padTo 16 p, number := (s.session n).number, lastTick := s.time.tick })) := by
  refine (if_neg (by simp [h])).trans ?_
  cases (List.range s.maxSessions).find? (fun n => (s.session n).st == 0) with
  | none => rw [Option.elim_none]
  | some n => rw [Option.elim_some]

theorem execDtlsHandshakeComplete_idle (h : n > 7 ∨ (s.session n).st ≠ 1) : execDtlsHandshakeComplete n c s = .next s :=
  if_pos (by grind)

/-- The session a handshake opens under anchor `a` (R494, R495). -/
def State.openedSession (s : State) (n : Nat) (c : Bytes) (a : Nat) : Session :=
  let x := { s.session n with st := 2, role := s.odNat (0xA040 + a) 2 2, certHash := (Config.sha512 c).take 32 }
  { x with number := s.mgp.opened + 1, opened := s.time64, flags := b2n (s.time.state == .unanchored), anchor := a,
           credits := 4, lastTick := s.time.tick }

theorem execDtlsHandshakeComplete_ends (hn : n ≤ 7) (h : (s.session n).st = 1) : execDtlsHandshakeComplete n c s =
    .next (if s.sessionsOpen && s.datesOk c then (s.issuers c).head?.elim (s.closeSession n) (fun a =>
        ({ s with mgp := { s.mgp with opened := s.mgp.opened + 1 } } : State).setSession n (s.openedSession n c a))
      else s.closeSession n) := by
  unfold execDtlsHandshakeComplete
  rw [if_neg (by simp [h, hn])]
  cases s.sessionsOpen && s.datesOk c with
  | false => rfl
  | true =>
    cases s.issuers c with
    | nil => rfl
    | cons a l =>
      rw [if_pos rfl, List.head?_cons, Option.elim_some, State.openedSession]
      rfl

theorem execPueshIdleTimeout_eq : execPueshIdleTimeout n s = if (s.session n).st != 0 &&
    s.time.tick ≥ (s.session n).lastTick + s.odNat 0xA010 3 300000 then .next (s.closeSession n) else .next s := rfl

/-! ## Messages (R496 to R499) -/

theorem execRead_request (h2 : msgType m ≠ 2) (h3 : msgType m ≠ 3) : execRead n m s = .next (s.message n m []) :=
  if_neg (by simp [h2, h3])

theorem execRead_other (h : msgType m = 2 ∨ msgType m = 3) : execRead n m s = .next s := if_pos (by simpa using h)

theorem State.message_dead (h : s.sessionLive n = false) : s.message n m i = s := if_pos (by simp [h])

theorem State.message_live (h : s.sessionLive n = true)
    (hu : u = s.setSession n { s.session n with lastTick := s.time.tick }) : s.message n m i =
    if msgType m = 1 || msgType m = 2 then u.creditedRequest n m i else u.plainMessage n m := by
  subst hu
  exact if_neg (by simp [h])

theorem State.message_plain (h : s.sessionLive n = true)
    (hu : u = s.setSession n { s.session n with lastTick := s.time.tick }) (h1 : msgType m ≠ 1) (h2 : msgType m ≠ 2) :
    s.message n m i = u.plainMessage n m := (State.message_live h hu).trans (if_neg (by simp [h1, h2]))

theorem State.creditedRequest_violates (h : (s.session n).credits = 0) {v : State}
    (hv : v = s.setSession n { s.session n with violations := (s.session n).violations + 1 }) :
    s.creditedRequest n m i = if 16 ≤ (s.session n).violations + 1 then v.closeSession n else v := by
  subst hv
  exact if_pos h

theorem State.creditedRequest_new (h : (s.session n).credits ≠ 0)
    (hu : u = s.setSession n { s.session n with credits := (s.session n).credits - 1 })
    (hc : (s.session n).cache.find? (fun e => e.1 == (u.sessionReq n m).tag) = none) :
    s.creditedRequest n m i = u.runMessage (u.sessionReq n m) m i := by
  refine (if_neg h).trans ?_
  simp only [← hu, hc]

theorem State.creditedRequest_cached (h : (s.session n).credits ≠ 0)
    (hu : u = s.setSession n { s.session n with credits := (s.session n).credits - 1 }) {q : OdReq}
    (hq : q = u.sessionReq n m) {e : Nat × Bytes} (hc : (s.session n).cache.find? (fun e => e.1 == q.tag) = some e) :
    s.creditedRequest n m i = (u.queueReply q (msgType m + 0x80) 0 1 .ok (some e.2)).respond := by
  refine (if_neg h).trans ?_
  simp only [← hu, ← hq, hc]

/-! ## Secure firmware's accesses (R506) -/

variable {x r a : Nat}

theorem execSecureOdAccess_none (h : r > 3 ∨ (x > 7 ∧ x ≠ 0xFF)) : execSecureOdAccess x r i s = .next s :=
  if_pos (by grind)

/-- A request that is submitted shows its session and role before it is checked. -/
theorem execSecureOdAccess_submitted (hr : r ≤ 3) (hx : x ≤ 7 ∨ x = 0xFF) (ha : a = s.get .MGP_OD_REQ_ADDR)
    (hu : u = (s.put .MGP_OD_CTRL_SESSION x).put .MGP_OD_CTRL_ROLE r) {m : Bytes}
    (hm : m = u.bytes a (16 + min 1414 (fieldLE (u.bytes a 16) 8 4))) {o : Bool} {v : State}
    (hc : u.checkAccess agDeviceS akRead a m.length = (o, v)) : execSecureOdAccess x r i s =
    if a < 0x1000000 || a + 1430 > 0x1400000 then .next u
    else if r != 3 && x != 0xFF && (u.session x).st != 2 then .next u
    else .next (if o then (v.putBit .MGP_OD_STATUS_BUSY true).runMessage (v.firmwareReq x r m a) m i else v) := by
  simp only [execSecureOdAccess, ← ha, ← hu, ← hm, hc]
  rw [if_neg (by grind)]
  cases o <;> rfl

end

/-- Settles O46: each clause is a case above, the closing ones the frame of each command. -/
theorem managementSessions : Obligations.ManagementSessions := by
  refine ⟨fun s p h => execClientHello_open h p, fun s p h => execClientHello_shut h p,
    fun s n c hn h => (execDtlsHandshakeComplete_ends hn h).trans (congrArg _ (if_congr Bool.and_eq_true_iff rfl rfl)),
    fun s n => ⟨rfl, fun h ht => execPueshIdleTimeout_eq.trans (if_pos (by simp [h, ht])),
      fun ht => execPueshIdleTimeout_eq.trans (if_neg (by grind))⟩,
    fun s n m i => ⟨execRead_request, fun h => if_pos h, fun h => if_pos h⟩, ?_,
    fun s n m i => ⟨fun h => State.creditedRequest_violates h rfl, fun u h hu hc => State.creditedRequest_new h hu hc⟩, ?_,
    fun s x r i => execSecureOdAccess_none, ?_,
    fun s n m i u q => ⟨fun e h hu hq hc => State.creditedRequest_cached h hu hq hc,
      fun hl hu h1 h2 hm => (State.message_plain hl hu h1 h2).trans (if_neg (by simp [hm]))⟩, ?_,
    fun s _ _ _ => .kept_parts (execWrite_frame (Fr.refl _ s) rfl),
    fun s _ _ _ => .kept_parts (execSecureOdAccess_frame (Fr.refl _ s) rfl), ?_,
    fun s _ => .only_parts (execClientHello_frame (Fr.refl _ s) rfl),
    fun s _ _ => .only_parts (execDtlsHandshakeComplete_frame (Fr.refl _ s) rfl)⟩
  · exact fun s n m i u hl hu => ⟨fun h => (State.message_live hl hu).trans (if_pos (by simpa using h)),
      fun h3 hm => (State.message_plain hl hu (by omega) (by omega)).trans (if_pos hm)⟩
  · intro s x r i u v a m o hr hx ha hu
    have hall {m' : Bytes} (hm : m' = u.bytes a (16 + min 1414 (fieldLE (u.bytes a 16) 8 4))) {o' : Bool} {v' : State} :=
      execSecureOdAccess_submitted (i := i) (o := o') (v := v') hr hx ha hu hm
    refine ⟨fun h => (hall rfl rfl).trans (if_pos (by simpa using h)), fun h1 h2 => ⟨fun h3 h4 h5 => ?_, ?_⟩⟩
    · exact (hall rfl rfl).trans ((if_neg (by grind)).trans (if_pos (by simp [h3, h4, h5])))
    · intro h hm hc
      refine ⟨?_, ?_⟩
      · rintro rfl
        exact (hall hm hc).trans ((if_neg (by grind)).trans (if_neg (by grind)))
      · rintro rfl
        exact (hall hm hc).trans ((if_neg (by grind)).trans (if_neg (by grind)))
  · exact fun s n c m i => ⟨execDtlsHandshakeComplete_idle, fun h => execPueshIdleTimeout_eq.trans (if_neg (by simp [h])),
      execRead_other, fun h => if_neg h, fun h => if_neg h, State.message_dead⟩
  · intro s n m
    simp only [List.forall_mem_cons, List.not_mem_nil, false_imp_iff, implies_true, and_true]
    exact ⟨.kept_parts (execRead_frame (Fr.refl _ s) rfl), .kept_parts (execClose_frame (Fr.refl _ s) rfl)⟩
  · intro s n
    simp only [List.forall_mem_cons, List.not_mem_nil, false_imp_iff, implies_true, and_true]
    exact ⟨.only_parts (execPueshIdleTimeout_frame (Fr.refl _ s) rfl), .only_parts (execDtlsAlert_frame (Fr.refl _ s) rfl)⟩

end Sys2Proof.Machine
end
